-- ==== Sys2Proof/Word.lean ====
section
/-! DEFINITION. The machine words: 32-bit registers and memory words (R5), bytes, and the plainest names for them. -/

namespace Sys2Proof

/-- A register or memory word (R5: registers are 32-bit and little-endian). -/
abbrev Word := BitVec 32

/-- A byte of memory. -/
abbrev Byte := BitVec 8

end Sys2Proof
end

