-- ==== Sys2Proof/Syntax.lean ====
section
/-! DEFINITION. The commands the block takes: one constructor of `Instr` per row of spec/opcode_table.json, in the
table's order, and the operand types they need. The table gives no row any bits, so every operand is a value. -/

namespace Sys2Proof

/-- A core: 0 to 63 the scan cores (cluster × 8 + core), 64 the steward core SA, 65 the steward core SB (R20, DBG_CORE_SEL). -/
abbrev CoreId := Fin 66

/-- A point index (R8). -/
abbrev PointIdx := BitVec 14

/-- Who makes a host-path access: one of the eight sessions, or steward firmware's own access (R308). -/
inductive Master where
  | sess (n : Fin 8)
  | steward
deriving DecidableEq, Repr

/-- An immediate of format I: the instruction's own 18 bits, or the 32 bits of a prefix pair (R42, R43). -/
inductive Imm where
  | short (v : BitVec 18)
  | prefixed (v : Word)
deriving DecidableEq, Repr

/-- A point operand of format P: immediate flag 1 with 18 bits, or flag 0 with a g register (R59). -/
inductive PtOp where
  | imm (v : BitVec 18)
  | reg (ga : BitVec 4)
deriving DecidableEq, Repr

/-- What a producer other than a lesson supplies in one commit (R9, R31): the value, the producer's bits of QUAL, and the
auxiliary words it writes; an auxiliary word not supplied keeps its content. -/
structure PtUpdate where
  value : Word := 0
  valueHi : Word := 0
  level : BitVec 2 := 0
  overrange : Bool := false
  detail : Byte := 0
  aux0 : Option Word := none
  aux1 : Option Word := none
  aux2 : Option Word := none
  aux3 : Option Word := none
deriving DecidableEq, Repr

/-- The tiers of R81, in the order of R91. -/
inductive Tier where
  | safety
  | lift
  | a
  | b
  | c
  | best
deriving DecidableEq, Repr

/-- The kinds of a region entry (R35). -/
inductive RegionKind where
  | code
  | state
  | scratch
  | const
deriving DecidableEq, Repr

/-- One entry of a region table (R35); `warm` marks a cluster SCRATCH region declared warm (R111). -/
structure Region where
  base : Nat
  size : Nat
  owner : BitVec 12
  kind : RegionKind
  warm : Bool := false
deriving DecidableEq, Repr

/-- One lesson as an image declares it (R81, R100): the deadline in 1 µs steps, the budget in 0.1 µs steps. -/
structure LessonDecl where
  num : Nat
  cls : Fin 8
  core : Fin 64
  tenant : BitVec 12
  tier : Tier
  deadline : Nat
  budget : Nat
  order : Byte
  entry : Word
  handler : Option Word
  header : Word
  stackTop : Word
deriving DecidableEq, Repr

/-- One point as an image declares it (R100). -/
structure PointDecl where
  idx : PointIdx
  pid : Word
  desc : Word
  limitLo : Word
  limitHi : Word
  alarm : Word
  value : Word
  valueHi : Word
  lesson : Nat
deriving DecidableEq, Repr

/-- The kinds of a variable of the layout map (R100). -/
inductive VarKind where
  | state
  | point
  | retentive
deriving DecidableEq, Repr

/-- One variable of the layout map (R100): `off` is a byte offset in data SRAM, a point index, or a Locket offset. -/
structure VarDecl where
  vid : Word
  tenant : BitVec 12
  kind : VarKind
  core : Fin 64
  off : Nat
  size : Nat
  typ : BitVec 4
deriving DecidableEq, Repr

/-- A device group or sub-group with its device timeout in µs (R96, R100), and whether the image marks it as the time base (R280). -/
structure GroupDecl where
  num : BitVec 16
  points : List PointIdx
  timeoutUs : Nat
  timeBase : Bool := false
deriving DecidableEq, Repr

/-- The image header (R100): the format version, the total length in bytes. `units`: bit 0 loop engine, 1 fast stages, 2 dispatch assist unit,
3 access engine, 4 metering. `key`: the slot that verifies the signature, where one is present. -/
structure ImageHeader where
  version : BitVec 8
  length : Nat
  imageId : BitVec 64
  tenantKind : Bool
  tenant : BitVec 12
  units : BitVec 5
  digest : BitVec 256
  key : Option (BitVec 5)
  sig : BitVec 512
deriving DecidableEq, Repr

/-- The resources whose owner an image declares (R123). -/
inductive OwnedRes where
  | loop (slot : BitVec 11)
  | stage (stage : Fin 48)
  | door (door : BitVec 7)
deriving DecidableEq, Repr

/-- One item of a program image (R100). The manual gives an image no byte layout, so an image is its items. -/
inductive ImageItem where
  | header (h : ImageHeader)
  | lesson (l : LessonDecl)
  | coreRegion (core : Fin 64) (r : Region)
  | clusterRegion (cluster : Fin 8) (r : Region)
  | code (core : Fin 64) (addr : Nat) (bytes : List Byte)
  | initState (core : Fin 64) (addr : Nat) (bytes : List Byte)
  | initCluster (cluster : Fin 8) (addr : Nat) (bytes : List Byte)
  | point (p : PointDecl)
  | group (g : GroupDecl)
  | reservation (tenant : BitVec 12) (bytes : Nat)
  | var (v : VarDecl)
  | owns (res : OwnedRes) (tenant : BitVec 12)
deriving DecidableEq, Repr

/-- The areas of NAND whose erases the journal records (R367): a firmware slot, the settings, the main or the retained area of the event flash
ring, a checkpoint area, an area of the meter store. -/
inductive NandArea where
  | slot (n : Fin 2)
  | settings
  | ring (retained : Bool)
  | checkpoint (k : Fin 3)
  | meter (k : Fin 2)
deriving DecidableEq, Repr

/-- Where an uncorrectable error falls (R13, R14). Addresses are word addresses in bytes. `lpddr`: a read of LPDDR5 by the operation of a pool entry;
`nand`: a page of an area, in the ring counted in pages of 128 records from its oldest. -/
inductive ErrTarget where
  | imem (core : CoreId) (addr : Word)
  | dmem (core : CoreId) (addr : Word)
  | committed (core : CoreId) (addr : Word)
  | cluster (cluster : Fin 8) (addr : Word)
  | point (idx : PointIdx) (word : BitVec 4)
  | lpddr (entry : Fin 8192)
  | nand (area : NandArea) (page : Nat)
deriving DecidableEq, Repr

/-- The unit whose following-error alarm fires (R146): a loop slot or a fast stage. -/
inductive FeTarget where
  | slot (slot : BitVec 11)
  | stage (stage : Fin 48)
deriving DecidableEq, Repr

/-- What one safety channel reads of one car (R192): the de-energised taps, the door-zone input, the governor's pulse rate in 10^-3 per second and pulse
count, and the readbacks of RUN and DOOR. -/
structure SafeIn where
  dead : BitVec 24
  dz : Bool
  rate : Nat
  gov : Word
  runRb : Bool
  doorRb : Bool
deriving DecidableEq, Repr

/-- The safety parameters of one car (R199): speeds in mm/s, distances in mm, GOV_SCALE in µm per pulse, the relay switching time in ms, the
role of each tap. -/
structure SafetyCar where
  enabled : Bool
  overspeed : Nat
  vCorr : Nat
  vLevel : Nat
  vDoor : Nat
  ucmDist : Nat
  levelDist : Nat
  govScale : Nat
  relayMs : Nat
  roles : Vector (BitVec 4) 24
deriving DecidableEq, Repr

/-- A signed safety parameter set (R199): its identifier, the cars, and the ECDSA P-384 public key and signature it carries. -/
structure SafetySet where
  id : Word
  cars : Vector SafetyCar 8
  key : List Byte
  sig : List Byte
deriving DecidableEq, Repr

/-- What a supply's line cycle is computed from (R202 to R204): the tracked frequency in mHz, and the samples of its three voltage channels
as the converters give them, in counts. -/
structure SupplyMeas where
  freq : Nat
  volts : Vector (List Int) 3
deriving DecidableEq, Repr

/-- A circuit's line cycle (R204): the samples of its three current channels as the converters give them, in counts. -/
structure CktCycle where
  amps : Vector (List Int) 3
deriving DecidableEq, Repr

/-- The supervised conditions of a circuit (R211). -/
inductive MeterCond where
  | reverse
  | phaseRev (p : Fin 3)
  | noV
  | clip
deriving DecidableEq, Repr

inductive RetryTarget where
  | channel (d : Fin 64)
  | group (g : Fin 8)
deriving DecidableEq, Repr

/-- A received frame (R245): its bytes from the destination address through the FCS, whether the FCS is correct, and whether the receive FIFO
and the ring have space for it. -/
structure Frame where
  bytes : List Byte
  fcsOk : Bool
  space : Bool
deriving DecidableEq, Repr

/-- Where a presentation comes from (R270): the message at the front of the access engine's queue, or an OSDP card read at a door's reader, with
the PD's secure channel set up or not (R266). -/
inductive PresentSrc where
  | msg
  | card (door : Fin 128) (id : BitVec 64) (secure : Bool)
deriving DecidableEq, Repr

/-- Where an access-door command comes from: the message at the front of the access engine's queue, or a write of
ACC_DOOR_CMD by a master (R273, R275). -/
inductive DoorSrc where
  | msg
  | reg (m : Master) (door : Fin 128)
deriving DecidableEq, Repr

/-- What only steward firmware knows when the module chooses a sleep state (R341, R342): the next time it has set, and a NAND operation in
progress. -/
structure SleepWant where
  stewardDue : Option (BitVec 64)
  nandBusy : Bool
deriving DecidableEq, Repr

/-- The bytes a PUSH finds in FWU_BUF (R361). -/
structure FwuPiece where
  data : List Byte
deriving DecidableEq, Repr

/-- A manifest of a firmware image: its 4,096 bytes in order (R358). -/
structure Manifest where
  bytes : List Byte
deriving DecidableEq, Repr

/-- A cross-die link (R13). -/
inductive DieLink where
  | field
  | pwm (gate : Fin 96)
  | metering
  | safety (ch : Fin 2)
  | lpddr
  | nand
  | charm
deriving DecidableEq, Repr

/-- What system software does to the PCIe function (R309, R314, R315): D3hot and L1 entered and left, PME_En, PME_Status cleared, the LTR
mechanism with the Max No-Snoop Latency in µs. -/
inductive PcieEvent where
  | d3hot (b : Bool)
  | l1 (b : Bool)
  | pmeEn (b : Bool)
  | pmeClear
  | ltr (us : Option Nat)
deriving DecidableEq, Repr

/-- The commands of the block: one constructor per row of spec/opcode_table.json. -/
inductive Instr where
  /-- ADD (R48): Adds two g registers into gd. -/
  | add (c : CoreId) (gd : BitVec 4) (ga : BitVec 4) (gb : BitVec 4)
  /-- SUB (R48): Subtracts gb from ga into gd. -/
  | sub (c : CoreId) (gd : BitVec 4) (ga : BitVec 4) (gb : BitVec 4)
  /-- AND (R48): Bitwise AND of two g registers into gd. -/
  | and (c : CoreId) (gd : BitVec 4) (ga : BitVec 4) (gb : BitVec 4)
  /-- OR (R48): Bitwise OR of two g registers into gd. -/
  | or (c : CoreId) (gd : BitVec 4) (ga : BitVec 4) (gb : BitVec 4)
  /-- XOR (R48): Bitwise XOR of two g registers into gd. -/
  | xor (c : CoreId) (gd : BitVec 4) (ga : BitVec 4) (gb : BitVec 4)
  /-- NOR (R48): Bitwise NOR of two g registers into gd. -/
  | nor (c : CoreId) (gd : BitVec 4) (ga : BitVec 4) (gb : BitVec 4)
  /-- ANDN (R48): ga AND NOT gb into gd. -/
  | andn (c : CoreId) (gd : BitVec 4) (ga : BitVec 4) (gb : BitVec 4)
  /-- SLT (R48): Signed less-than comparison into gd. -/
  | slt (c : CoreId) (gd : BitVec 4) (ga : BitVec 4) (gb : BitVec 4)
  /-- SLTU (R48): Unsigned less-than comparison into gd. -/
  | sltu (c : CoreId) (gd : BitVec 4) (ga : BitVec 4) (gb : BitVec 4)
  /-- SEQ (R48): Equality comparison into gd. -/
  | seq (c : CoreId) (gd : BitVec 4) (ga : BitVec 4) (gb : BitVec 4)
  /-- SLL (R48): Logical left shift by gb[4:0]. -/
  | sll (c : CoreId) (gd : BitVec 4) (ga : BitVec 4) (gb : BitVec 4)
  /-- SRL (R48): Logical right shift by gb[4:0]. -/
  | srl (c : CoreId) (gd : BitVec 4) (ga : BitVec 4) (gb : BitVec 4)
  /-- SRA (R48): Arithmetic right shift by gb[4:0]. -/
  | sra (c : CoreId) (gd : BitVec 4) (ga : BitVec 4) (gb : BitVec 4)
  /-- ROR (R48): Rotate right by gb[4:0]. -/
  | ror (c : CoreId) (gd : BitVec 4) (ga : BitVec 4) (gb : BitVec 4)
  /-- MIN (R48): Signed minimum into gd. -/
  | min (c : CoreId) (gd : BitVec 4) (ga : BitVec 4) (gb : BitVec 4)
  /-- MAX (R48): Signed maximum into gd. -/
  | max (c : CoreId) (gd : BitVec 4) (ga : BitVec 4) (gb : BitVec 4)
  /-- MINU (R48): Unsigned minimum into gd. -/
  | minu (c : CoreId) (gd : BitVec 4) (ga : BitVec 4) (gb : BitVec 4)
  /-- MAXU (R48): Unsigned maximum into gd. -/
  | maxu (c : CoreId) (gd : BitVec 4) (ga : BitVec 4) (gb : BitVec 4)
  /-- ADDV (R48): Add that raises OVERFLOW on signed overflow. -/
  | addv (c : CoreId) (gd : BitVec 4) (ga : BitVec 4) (gb : BitVec 4)
  /-- SUBV (R48): Subtract that raises OVERFLOW on signed overflow. -/
  | subv (c : CoreId) (gd : BitVec 4) (ga : BitVec 4) (gb : BitVec 4)
  /-- ADDS (R48): Signed saturating add. -/
  | adds (c : CoreId) (gd : BitVec 4) (ga : BitVec 4) (gb : BitVec 4)
  /-- SUBS (R48): Signed saturating subtract. -/
  | subs (c : CoreId) (gd : BitVec 4) (ga : BitVec 4) (gb : BitVec 4)
  /-- SEL (R48): Copies ga into gd when gb is non-zero. -/
  | sel (c : CoreId) (gd : BitVec 4) (ga : BitVec 4) (gb : BitVec 4)
  /-- ABS (R48): Saturating absolute value of ga. -/
  | abs (c : CoreId) (gd : BitVec 4) (ga : BitVec 4)
  /-- MUL (R49): Low 32 bits of the product. -/
  | mul (c : CoreId) (gd : BitVec 4) (ga : BitVec 4) (gb : BitVec 4)
  /-- MULH (R49): High 32 bits of the signed product. -/
  | mulh (c : CoreId) (gd : BitVec 4) (ga : BitVec 4) (gb : BitVec 4)
  /-- MULHU (R49): High 32 bits of the unsigned product. -/
  | mulhu (c : CoreId) (gd : BitVec 4) (ga : BitVec 4) (gb : BitVec 4)
  /-- MULV (R49): Signed multiply that raises OVERFLOW. -/
  | mulv (c : CoreId) (gd : BitVec 4) (ga : BitVec 4) (gb : BitVec 4)
  /-- DIV (R49): Signed 34-cycle divide; DIV_ZERO on zero divisor. -/
  | div (c : CoreId) (gd : BitVec 4) (ga : BitVec 4) (gb : BitVec 4)
  /-- DIVU (R49): Unsigned divide; DIV_ZERO on zero divisor. -/
  | divu (c : CoreId) (gd : BitVec 4) (ga : BitVec 4) (gb : BitVec 4)
  /-- REM (R49): Signed remainder; DIV_ZERO on zero divisor. -/
  | rem (c : CoreId) (gd : BitVec 4) (ga : BitVec 4) (gb : BitVec 4)
  /-- REMU (R49): Unsigned remainder; DIV_ZERO on zero divisor. -/
  | remu (c : CoreId) (gd : BitVec 4) (ga : BitVec 4) (gb : BitVec 4)
  /-- MULQ (R49): Rounded Q31 fractional product. -/
  | mulq (c : CoreId) (gd : BitVec 4) (ga : BitVec 4) (gb : BitVec 4)
  /-- ADDI (R50): Adds a sign-extended or prefixed immediate. -/
  | addi (c : CoreId) (gd : BitVec 4) (ga : BitVec 4) (imm : Imm)
  /-- ANDI (R50): AND with a zero-extended immediate. -/
  | andi (c : CoreId) (gd : BitVec 4) (ga : BitVec 4) (imm : Imm)
  /-- ORI (R50): OR with a zero-extended immediate. -/
  | ori (c : CoreId) (gd : BitVec 4) (ga : BitVec 4) (imm : Imm)
  /-- XORI (R50): XOR with a zero-extended immediate. -/
  | xori (c : CoreId) (gd : BitVec 4) (ga : BitVec 4) (imm : Imm)
  /-- SLTI (R50): Signed compare with an immediate. -/
  | slti (c : CoreId) (gd : BitVec 4) (ga : BitVec 4) (imm : Imm)
  /-- SLTIU (R50): Unsigned compare with a sign-extended immediate. -/
  | sltiu (c : CoreId) (gd : BitVec 4) (ga : BitVec 4) (imm : Imm)
  /-- SHI (R50): Shift or rotate by an immediate of the selected kind. -/
  | shi (c : CoreId) (gd : BitVec 4) (ga : BitVec 4) (kind : BitVec 2) (n : BitVec 5)
  /-- LI (R50): Loads an immediate into gd. -/
  | li (c : CoreId) (gd : BitVec 4) (imm : Imm)
  /-- LUI (R50): Loads an 18-bit immediate shifted left by 14. -/
  | lui (c : CoreId) (gd : BitVec 4) (imm18 : BitVec 18)
  /-- EXTU (R51): Zero-extended bit-field extract. -/
  | extu (c : CoreId) (gd : BitVec 4) (ga : BitVec 4) (l : BitVec 5) (w : BitVec 5)
  /-- EXTS (R51): Sign-extended bit-field extract. -/
  | exts (c : CoreId) (gd : BitVec 4) (ga : BitVec 4) (l : BitVec 5) (w : BitVec 5)
  /-- INS (R51): Inserts a bit field into gd. -/
  | ins (c : CoreId) (gd : BitVec 4) (ga : BitVec 4) (l : BitVec 5) (w : BitVec 5)
  /-- CLZ (R51): Counts leading zero bits. -/
  | clz (c : CoreId) (gd : BitVec 4) (ga : BitVec 4)
  /-- CTZ (R51): Counts trailing zero bits. -/
  | ctz (c : CoreId) (gd : BitVec 4) (ga : BitVec 4)
  /-- POPC (R51): Counts set bits. -/
  | popc (c : CoreId) (gd : BitVec 4) (ga : BitVec 4)
  /-- BSWAP (R51): Reverses the four bytes. -/
  | bswap (c : CoreId) (gd : BitVec 4) (ga : BitVec 4)
  /-- LW (R52): Loads a word after region and alignment checks. -/
  | lw (c : CoreId) (gd : BitVec 4) (ga : BitVec 4) (imm : Imm)
  /-- LH (R52): Loads a sign-extended halfword. -/
  | lh (c : CoreId) (gd : BitVec 4) (ga : BitVec 4) (imm : Imm)
  /-- LHU (R52): Loads a zero-extended halfword. -/
  | lhu (c : CoreId) (gd : BitVec 4) (ga : BitVec 4) (imm : Imm)
  /-- LB (R52): Loads a sign-extended byte. -/
  | lb (c : CoreId) (gd : BitVec 4) (ga : BitVec 4) (imm : Imm)
  /-- LBU (R52): Loads a zero-extended byte. -/
  | lbu (c : CoreId) (gd : BitVec 4) (ga : BitVec 4) (imm : Imm)
  /-- SW (R52): Stores a word, to the working copy for STATE regions. -/
  | sw (c : CoreId) (gd : BitVec 4) (ga : BitVec 4) (imm : Imm)
  /-- SH (R52): Stores a halfword. -/
  | sh (c : CoreId) (gd : BitVec 4) (ga : BitVec 4) (imm : Imm)
  /-- SB (R52): Stores a byte. -/
  | sb (c : CoreId) (gd : BitVec 4) (ga : BitVec 4) (imm : Imm)
  /-- BEQ (R54): Branches if equal. -/
  | beq (c : CoreId) (ga : BitVec 4) (gb : BitVec 4) (off18 : BitVec 18)
  /-- BNE (R54): Branches if not equal. -/
  | bne (c : CoreId) (ga : BitVec 4) (gb : BitVec 4) (off18 : BitVec 18)
  /-- BLT (R54): Branches if signed less. -/
  | blt (c : CoreId) (ga : BitVec 4) (gb : BitVec 4) (off18 : BitVec 18)
  /-- BGE (R54): Branches if signed greater or equal. -/
  | bge (c : CoreId) (ga : BitVec 4) (gb : BitVec 4) (off18 : BitVec 18)
  /-- BLTU (R54): Branches if unsigned less. -/
  | bltu (c : CoreId) (ga : BitVec 4) (gb : BitVec 4) (off18 : BitVec 18)
  /-- BGEU (R54): Branches if unsigned greater or equal. -/
  | bgeu (c : CoreId) (ga : BitVec 4) (gb : BitVec 4) (off18 : BitVec 18)
  /-- JAL (R55): PC-relative jump writing the link register. -/
  | jal (c : CoreId) (gd : BitVec 4) (off18 : BitVec 18)
  /-- JR (R55): Register jump; to the lesson exit it ends the lesson. -/
  | jr (c : CoreId) (ga : BitVec 4) (off17 : BitVec 17)
  /-- JALR (R55): Register jump with link. -/
  | jalr (c : CoreId) (gd : BitVec 4) (ga : BitVec 4) (off17 : BitVec 17)
  /-- NOP (R56): Does nothing. -/
  | nop (c : CoreId)
  /-- FENCE (R56): Waits until earlier cluster-memory stores are visible. -/
  | fence (c : CoreId)
  /-- BRK (R56): Debug halt if permitted, else raises BREAK. -/
  | brk (c : CoreId) (code : BitVec 12)
  /-- TRAP (R56): Raises TRAP with a code. -/
  | trap (c : CoreId) (code : BitVec 12)
  /-- ERET (R56): Returns from the handler to EX_PC. -/
  | eret (c : CoreId)
  /-- RDSR (R57): Reads a special register. -/
  | rdsr (c : CoreId) (gd : BitVec 4) (sr : BitVec 12)
  /-- WRSR (R57): Writes a special register as privilege allows. -/
  | wrsr (c : CoreId) (ga : BitVec 4) (sr : BitVec 12)
  /-- WAIT (R56): Steward core idles until an enabled interrupt is pending. -/
  | wait (c : CoreId)
  /-- IEN (R56): Enables steward interrupt lines. -/
  | ien (c : CoreId) (mask12 : BitVec 12)
  /-- IDIS (R56): Disables steward interrupt lines. -/
  | idis (c : CoreId) (mask12 : BitVec 12)
  /-- ILLEGAL_ENCODING (R45): An instruction word with a reserved or malformed encoding raises ILLEGAL. -/
  | illegalEncoding (c : CoreId) (word : Word) (second : Word)
  /-- STEWARD_INTERRUPT (R58): An enabled interrupt line interrupts the steward core. -/
  | stewardInterrupt (core : Fin 2) (line : Fin 12)
  /-- PGET (R61): Issues a one-word point get binding gd. -/
  | pget (c : CoreId) (gd : BitVec 4) (t : BitVec 3) (pt : PtOp)
  /-- PGET2 (R61): Issues a two-word point get. -/
  | pget2 (c : CoreId) (gd : BitVec 4) (t : BitVec 3) (pt : PtOp)
  /-- PGET4 (R61): Issues a four-word point get. -/
  | pget4 (c : CoreId) (gd : BitVec 4) (t : BitVec 3) (pt : PtOp)
  /-- PGETVQ (R61): Issues a get of VALUE and QUAL from one commit. -/
  | pgetvq (c : CoreId) (gd : BitVec 4) (t : BitVec 3) (pt : PtOp)
  /-- PPUT (R61): Issues a one-word put to a produced point. -/
  | pput (c : CoreId) (gd : BitVec 4) (t : BitVec 3) (pt : PtOp)
  /-- PPUT2 (R61): Issues a two-word put. -/
  | pput2 (c : CoreId) (gd : BitVec 4) (t : BitVec 3) (pt : PtOp)
  /-- PPUT4 (R61): Issues a four-word put. -/
  | pput4 (c : CoreId) (gd : BitVec 4) (t : BitVec 3) (pt : PtOp)
  /-- PSYNC (R63): Issues a wait for a new commit of a point. -/
  | psync (c : CoreId) (gd : BitVec 4) (t : BitVec 3) (pt : PtOp)
  /-- TWAIT (R64): Waits until a tag group is done and observes it. -/
  | twait (c : CoreId) (gd : BitVec 4) (t : BitVec 3)
  /-- TTEST (R64): Observes a tag group only if it is complete. -/
  | ttest (c : CoreId) (gd : BitVec 4) (t : BitVec 3)
  /-- TMOV (R64): Copies a tag register into gd. -/
  | tmov (c : CoreId) (gd : BitVec 4) (t : BitVec 3)
  /-- TWAITM (R64): Waits until any masked tag group is complete. -/
  | twaitm (c : CoreId) (gd : BitVec 4) (mask8 : BitVec 8)
  /-- EMSG (R66): Issues an engine message to a unit. -/
  | emsg (c : CoreId) (gd : BitVec 4) (t : BitVec 3) (unit : BitVec 2) (typ : BitVec 10) (ga : BitVec 4) (len : BitVec 2) (reply : Bool)
  /-- POOL_ENTRY_GRANT (R95): A stalled issue is granted a shared pool entry as one returns. -/
  | poolEntryGrant
  /-- TAG_WAIT_END (R27): A waiting tag wait or group-full wait resumes once OUT reaches 0. -/
  | tagWaitEnd (c : CoreId)
  /-- BOUND_WAIT_END (R27): An instruction stalled on a bound register resumes when its get completes. -/
  | boundWaitEnd (c : CoreId)
  /-- OPERATION_COMPLETE (R27): An operation in flight completes against its tag, or is discarded if released. -/
  | operationComplete (entry : Fin 8192)
  /-- PSYNC_COMPLETE (R63): A PSYNC completes when the point's SEQ changes. -/
  | psyncComplete (entry : Fin 8192)
  /-- OPERATION_TIMEOUT (R60): An operation's timeout expires and it completes with TIMEOUT. -/
  | operationTimeout (entry : Fin 8192)
  /-- VADD (R70): Block-float lane add. -/
  | vadd (c : CoreId) (bd : BitVec 3) (ba : BitVec 3) (bb : BitVec 3) (tt : Bool)
  /-- VSUB (R70): Block-float lane subtract. -/
  | vsub (c : CoreId) (bd : BitVec 3) (ba : BitVec 3) (bb : BitVec 3) (tt : Bool)
  /-- VMUL (R70): Block-float lane multiply. -/
  | vmul (c : CoreId) (bd : BitVec 3) (ba : BitVec 3) (bb : BitVec 3) (tt : Bool)
  /-- VMAC (R70): Block-float multiply-accumulate. -/
  | vmac (c : CoreId) (bd : BitVec 3) (ba : BitVec 3) (bb : BitVec 3) (tt : Bool)
  /-- VMIN (R70): Lane minimum. -/
  | vmin (c : CoreId) (bd : BitVec 3) (ba : BitVec 3) (bb : BitVec 3) (tt : Bool)
  /-- VMAX (R70): Lane maximum. -/
  | vmax (c : CoreId) (bd : BitVec 3) (ba : BitVec 3) (bb : BitVec 3) (tt : Bool)
  /-- VNEG (R70): Lane negation. -/
  | vneg (c : CoreId) (bd : BitVec 3) (ba : BitVec 3) (tt : Bool)
  /-- VABS (R70): Lane absolute value. -/
  | vabs (c : CoreId) (bd : BitVec 3) (ba : BitVec 3) (tt : Bool)
  /-- VCLAMP (R70): Lane clamp between two registers. -/
  | vclamp (c : CoreId) (bd : BitVec 3) (ba : BitVec 3) (bb : BitVec 3) (tt : Bool)
  /-- VDOT (R70): Dot product into lane 0. -/
  | vdot (c : CoreId) (bd : BitVec 3) (ba : BitVec 3) (bb : BitVec 3) (tt : Bool)
  /-- VSUM (R70): Lane sum into lane 0. -/
  | vsum (c : CoreId) (bd : BitVec 3) (ba : BitVec 3) (tt : Bool)
  /-- VBCAST (R70): VADD, VSUB, VMUL or VMAC with one broadcast lane. -/
  | vbcast (c : CoreId) (op : BitVec 5) (lane : BitVec 3) (bd : BitVec 3) (ba : BitVec 3) (bb : BitVec 3) (tt : Bool)
  /-- VLD (R71): Loads eight words into a block-float register. -/
  | vld (c : CoreId) (bd : BitVec 3) (ga : BitVec 4) (off12 : BitVec 12)
  /-- VST (R71): Stores eight lanes as words. -/
  | vst (c : CoreId) (bd : BitVec 3) (ga : BitVec 4) (off12 : BitVec 12)
  /-- VEXT (R71): Extracts one lane as a BF24 word. -/
  | vext (c : CoreId) (ga : BitVec 4) (bd : BitVec 3) (lane : BitVec 3)
  /-- VINS (R71): Inserts a BF24 word into a lane. -/
  | vins (c : CoreId) (bd : BitVec 3) (ga : BitVec 4) (lane : BitVec 3)
  /-- VGEXP (R71): Reads the register exponent. -/
  | vgexp (c : CoreId) (ga : BitVec 4) (bd : BitVec 3)
  /-- VSETE (R71): Sets the register exponent. -/
  | vsete (c : CoreId) (bd : BitVec 3) (ga : BitVec 4)
  /-- VCVT (R71): Converts a lane to S32. -/
  | vcvt (c : CoreId) (ga : BitVec 4) (bd : BitVec 3) (lane : BitVec 3) (scale : BitVec 6) (tt : Bool)
  /-- VCVTF (R71): Converts S32 into a lane. -/
  | vcvtf (c : CoreId) (bd : BitVec 3) (ga : BitVec 4) (lane : BitVec 3) (scale : BitVec 6)
  /-- VCMP (R71): Compares lanes into a bit mask. -/
  | vcmp (c : CoreId) (ga : BitVec 4) (bd : BitVec 3) (bb : BitVec 3) (cond : BitVec 3)
  /-- VSPLAT (R71): Sets all lanes to one BF24 word. -/
  | vsplat (c : CoreId) (bd : BitVec 3) (ga : BitVec 4)
  /-- VZERO (R71): Zeroes all lanes. -/
  | vzero (c : CoreId) (bd : BitVec 3)
  /-- LEND (R73): Ends the lesson, waits for tags and commits. -/
  | lend (c : CoreId)
  /-- LSLACK (R72): Reads the time left to the deadline. -/
  | lslack (c : CoreId) (gd : BitVec 4)
  /-- LSLEEP (R74): Idles the core for a time. -/
  | lsleep (c : CoreId) (ga : BitVec 4)
  /-- LSLEEP_EXPIRY (R74): The idle time of LSLEEP ends and the core resumes. -/
  | lsleepExpiry (c : CoreId)
  /-- LBELL (R72): Reads the bell count of a class. -/
  | lbell (c : CoreId) (gd : BitVec 4) (cls : BitVec 3)
  /-- CLASP (R75): Waits for a clasp slot and enters a clasp. -/
  | clasp (c : CoreId)
  /-- UNCLASP (R75): Issues held puts, applies buffered stores and releases the clasp. -/
  | unclasp (c : CoreId)
  /-- CLASP_SLOT_GRANT (R75): A waiting CLASP is granted a module-wide slot. -/
  | claspSlotGrant
  /-- CLASP_LOCK_GRANT (R76): A waiting clasp access is granted the cluster clasp lock. -/
  | claspLockGrant (cluster : Fin 8)
  /-- BELL (R80): The counter reaches a bell of a class, readying its lessons and units. -/
  | bell (cls : Fin 8)
  /-- LESSON_START (R38): A ready lesson starts on its core from its defined state. -/
  | lessonStart (core : Fin 64)
  /-- DEADLINE_EXPIRY (R89): A lesson's deadline passes and it is abandoned with DEADLINE. -/
  | deadlineExpiry (lesson : BitVec 12)
  /-- BUDGET_EXHAUSTED (R90): A lesson's charged time reaches its budget and it may be demoted. -/
  | budgetExhausted (lesson : BitVec 12)
  /-- SCAN_RUN_START (R80): RUN set to 1 latches T0 and starts the bells. -/
  | scanRunStart (m : Master)
  /-- SCAN_RUN_STOP (R80): RUN set to 0 stops further bells. -/
  | scanRunStop (m : Master)
  /-- UNCORRECTABLE_ERROR (R14): An uncorrectable error poisons a word. -/
  | uncorrectableError (target : ErrTarget)
  /-- FLOOR_WRITE (R94): A write of a slot's pool floor is taken or refused. -/
  | floorWrite (m : Master) (slot : Fin 16) (v : Word)
  /-- FORCE_SET (R98): Sets or replaces a force on a point as a commit. -/
  | forceSet (m : Master)
  /-- FORCE_CLEAR (R98): Clears the force on one point. -/
  | forceClear (m : Master)
  /-- FORCE_CLEAR_ALL (R98): Clears every force. -/
  | forceClearAll (m : Master)
  /-- LESSON_CLR_ONE (R24): Requests clearing of one lesson's lateness fields at its next period. -/
  | lessonClrOne (m : Master) (lesson : BitVec 12)
  /-- LESSON_CLR_ALL (R24): Requests clearing of every lesson's lateness fields. -/
  | lessonClrAll (m : Master)
  /-- PRODUCER_COMMIT (R9): A non-lesson producer commits a point as one 64-byte write. -/
  | producerCommit (idx : PointIdx) (producer : BitVec 3) (upd : PtUpdate)
  /-- DEVICE_ANSWER (R97): A device answer is committed to its group's points. -/
  | deviceAnswer (group : BitVec 16) (values : List (BitVec 14 × PtUpdate))
  /-- DEVICE_REQUEST_TIMEOUT (R97): A device request times out and its group takes REMOTE_TIMEOUT. -/
  | deviceRequestTimeout (group : BitVec 16)
  /-- DEVICE_POLL (R97): The polling interval of a device group falls due. -/
  | devicePoll (group : BitVec 16)
  /-- PROG_BEGIN (R103): Begins a program image load. -/
  | progBegin (m : Master) (tenantImg : Bool) (tenant : BitVec 12)
  /-- PROG_PUSH (R103): Stages one piece of the image. -/
  | progPush (m : Master) (items : List ImageItem)
  /-- PROG_CHECK (R103): Starts checking the staged image. -/
  | progCheck (m : Master)
  /-- PROG_CHECK_DONE (R104): Checking ends with READY or REFUSED. -/
  | progCheckDone
  /-- PROG_LOAD (R105): Loads the image with the bells stopped. -/
  | progLoad (m : Master)
  /-- PROG_ARM (R108): Tests and stages the image for a live switch. -/
  | progArm (m : Master)
  /-- STAGING_DONE (R108): Staging completes and the switch becomes ARMED. -/
  | stagingDone
  /-- PROG_ABORT (R103): Discards the staged image. -/
  | progAbort (m : Master)
  /-- WARM_RESTART (R113): Takes a checkpoint and restarts the scan fabric. -/
  | warmRestart (m : Master)
  /-- COLD_RESTART (R113): Restarts the scan fabric cold. -/
  | coldRestart (m : Master)
  /-- SWITCH_CORE_RELEASE (R108): An affected core's old period ends, state is carried over and the core released. -/
  | switchCoreRelease (core : Fin 64)
  /-- PERIODIC_CHECKPOINT (R112): The checkpoint interval expires and a checkpoint is taken. -/
  | periodicCheckpoint
  /-- HOMEROOM_RELOAD_DONE (R121): A tenant's reload completes and the slot becomes resident. -/
  | homeroomReloadDone (slot : Fin 16)
  /-- ROSTER_COMMIT (R127): Starts a roster commit from a copy of the staging. -/
  | rosterCommit (m : Master)
  /-- ROSTER_REVERT (R127): Sets staged entries and contexts equal to the committed ones. -/
  | rosterRevert (m : Master)
  /-- ROSTER_TC (R129): New maps replace old ones, the epoch increments and old operations are settled. -/
  | rosterTc
  /-- ROSTER_DRAINED (R130): No old-epoch operation remains incomplete and DRAINED sets. -/
  | rosterDrained
  /-- DRAIN_BOUND_EXPIRY (R130): The drain bound passes and remaining operations complete RULE_CHANGED. -/
  | drainBoundExpiry
  /-- FE_ALARM (R146): The following-error timer reaches FE_TIME and the action is taken. -/
  | feAlarm (target : FeTarget)
  /-- CURRENT_PERIOD (R148): A 32 kHz fast period runs each operator's stages. `lines` holds the levels of A and B of encoder inputs in the samples
  since the last latch (R163). -/
  | currentPeriod (lines : List (Fin 32 × List (Bool × Bool))) (currents : Vector (BitVec 14) 32)
  /-- LOOP_BIND (R155): BIND message binds a loop slot. -/
  | loopBind
  /-- LOOP_UNBIND (R155): UNBIND message unbinds a slot. -/
  | loopUnbind
  /-- LOOP_PARAM (R155): PARAM message stages and optionally applies a parameter. -/
  | loopParam
  /-- LOOP_MODE (R155): MODE message requests a slot mode. -/
  | loopMode
  /-- OP_BIND (R155): Binds a door operator's output. -/
  | opBind
  /-- OP_PARAM (R155): Stages a fast-stage parameter. -/
  | opParam
  /-- OP_MODE (R155): Requests an operator mode. -/
  | opMode
  /-- OP_MOVE (R155): Sets an operator's position target. -/
  | opMove
  /-- ZONE (R155): Enables a horizon zone or sets a bound. -/
  | zone
  /-- LOOP_TRIGGER_MSG (R155): TRIGGER message triggers the trace. -/
  | loopTriggerMsg
  /-- SLOT_PARAM_APPLY (R144): Applies a slot's staged parameter set. -/
  | slotParamApply (m : Master)
  /-- STAGE_PARAM_APPLY (R153): Applies a stage's staged parameter set. -/
  | stageParamApply (m : Master) (stage : Fin 48)
  /-- SLOT_WINDOW_LATCH (R156): A write of LOOP_SLOT_SEL latches the slot window. -/
  | slotWindowLatch (m : Master) (slot11 : BitVec 11)
  /-- HZ_DEADLINE (R159): The horizon deadline passes and the zone ends with DEADLINE. -/
  | hzDeadline (zone : BitVec 6)
  /-- MODEL_COMMIT (R157): Commits a zone model from the window. -/
  | modelCommit (m : Master)
  /-- TRACE_ARM (R161): Starts trace capture. -/
  | traceArm (m : Master)
  /-- TRACE_TRIGGER (R161): Triggers the trace by command. -/
  | traceTrigger (m : Master)
  /-- TRACE_STOP (R161): Stops the trace to IDLE. -/
  | traceStop (m : Master)
  /-- POSITION_PERIOD (R165): Each car position unit computes and commits position. `lines` as for CURRENT_PERIOD. -/
  | positionPeriod (lines : List (Fin 32 × List (Bool × Bool)))
  /-- ENCODER_QERR (R164): Both encoder lines change in one sample. -/
  | encoderQerr (enc : Fin 32)
  /-- DOOR_ZONE_EDGE (R167): A door-zone capture edge may re-reference the car. -/
  | doorZoneEdge (car : Fin 8) (rising : Bool) (km : Word) (kg : Word)
  /-- TERMINAL_EDGE (R168): A terminal reference edge references the car. -/
  | terminalEdge (car : Fin 8) (active : Bool) (km : Word) (kg : Word)
  /-- CAR_CLEAR (R166): CLEAR takes a car from FAULT to UNREFERENCED. -/
  | carClear (m : Master) (car : Fin 8)
  /-- CAPTURE_FLUSH (R170): FLUSH empties the capture FIFO. -/
  | captureFlush (m : Master) (car : Fin 8)
  /-- DZCAP_POP (R170): A read of LIFT_CAR_DZCAP_INFO pops the oldest capture. -/
  | dzcapPop (m : Master) (car : Fin 8)
  /-- DOOR_POSITION_PERIOD (R172): Each door sequencer runs and writes its operator. -/
  | doorPositionPeriod
  /-- DOOR_COMMAND (R173): A commit of CMD_PT is taken as a door command. -/
  | doorCommand (door : Fin 16)
  /-- DOOR_CLOSED_REACHED (R175): Closed is held for 50 ms. -/
  | doorClosedReached (door : Fin 16)
  /-- DOOR_OPEN_REACHED (R175): Open is held for 50 ms. -/
  | doorOpenReached (door : Fin 16)
  /-- DOOR_STALL (R175): A stall persists for 100 ms. -/
  | doorStall (door : Fin 16)
  /-- HOMING_TIMEOUT (R174): Homing runs 60 s without a stall. -/
  | homingTimeout (door : Fin 16)
  /-- LEARN_TIMEOUT (R179): A learning run does not end within 60 s. -/
  | learnTimeout (door : Fin 16)
  /-- CALL_ADD (R183): Adds or merges a call. -/
  | callAdd
  /-- CALL_CANCEL (R183): Cancels a call. -/
  | callCancel
  /-- STOP_DONE (R183): Reports a car stood at a landing with doors open. -/
  | stopDone
  /-- DISPATCH_COMMIT (R184): The cycle commits plan and answer points. -/
  | dispatchCommit
  /-- DISPATCH_DROP (R184): A cycle not committed within 45 ms is dropped. -/
  | dispatchDrop
  /-- DISPATCH_CALL_LATCH (R183): A write of DISP_CALL_SEL latches a call slot. -/
  | dispatchCallLatch (m : Master) (slot8 : BitVec 8)
  /-- SAFETY_REQUEST (R193): The control die sends each car's request to both channels. -/
  | safetyRequest
  /-- SAFETY_EVALUATION (R192): Each safety channel evaluates its rules and drives relays. -/
  | safetyEvaluation (ch : Fin 2) (ins : Vector SafeIn 8)
  /-- GRANT_DISAGREE (R197): Channel grants differ for 5 ms and DISAGREE latches. -/
  | grantDisagree (car : Fin 8)
  /-- RELAY_READBACK_FAIL (R16): Readback disagrees beyond switching time and the car goes safe. -/
  | relayReadbackFail (ch : Fin 2) (relay : Fin 16)
  /-- LATCH_CLEAR (R197): The RESET contact is operated and latches clear. -/
  | latchClear (car : Fin 8)
  /-- SAFETY_PARAM_REQUEST (R199): A signed safety parameter set is forwarded. -/
  | safetyParamRequest (set : SafetySet)
  /-- SAFETY_PARAM_APPLY (R199): The set is applied once every RESET has been operated. -/
  | safetyParamApply
  /-- SAFETY_DIE_START (R17): The safety die starts and holds every car safe. -/
  | safetyDieStart
  /-- SAFE_MIRROR_UPDATE (R18): A safety status update reaches the SAFE mirror. -/
  | safeMirrorUpdate
  /-- LINE_CYCLE (R204): A supply line cycle ends and energy is registered. -/
  | lineCycle (supply : Fin 2) (sup : SupplyMeas) (ckts : List (Fin 16 × CktCycle))
  /-- METER_SNAP (R207): SNAP copies all energy registers into the SNAP bank. -/
  | meterSnap (m : Master)
  /-- METER_CLR_ALL (R217): Zeroes every register and the meter store in DEVELOP. -/
  | meterClrAll (m : Master)
  /-- CAL_APPLY (R210): Applies staged calibration at the next line-cycle boundary. -/
  | calApply (m : Master)
  /-- METER_SUPERVISION (R211): A supervised condition persists and is indicated. -/
  | meterSupervision (ckt : Fin 16) (cond : MeterCond)
  /-- METER_SAVE (R213): A save record of every register is written. -/
  | meterSave
  /-- SAVE_CONFIRMED (R213): A save is confirmed and becomes the baseline. -/
  | saveConfirmed
  /-- SAVE_LATE (R213): A save is not confirmed within INTERVAL + 10 s. -/
  | saveLate
  /-- QMAP_WRITE (R212): A quantity map entry is set valid or refused. -/
  | qmapWrite (m : Master) (entry10 : BitVec 10) (v : Word)
  /-- BAT_CLR (R214): Zeroes a circuit's battery record. -/
  | batClr (m : Master) (ckt : Fin 16)
  /-- BATTERY_MEASURE (R216): Each second in BATTERY the currents are measured. -/
  | batteryMeasure (rms : List (Fin 48 × Nat))
  /-- BATTERY_RECORD_WRITE (R216): Battery words are written to the Locket each minute. -/
  | batteryRecordWrite
  /-- METER_MERGE (R217): Steward firmware merges Locket fields into saved registers at start. -/
  | meterMerge
  /-- PULSE_EMIT (R218): A pulse output emits one pending pulse. -/
  | pulseEmit (out : Fin 8)
  /-- DI_SAMPLE (R223): A DI is sampled and its filter may accept a change. -/
  | diSample (di : Fin 96) (raw : Bool)
  /-- DO_READBACK_FAULT (R228): Readback mismatch persists and a fault is raised. -/
  | doReadbackFault (dch : Fin 64) (rb : Bool)
  /-- DO_OVERLOAD (R229): A channel in limit for 2 ms switches off. -/
  | doOverload (dch : Fin 64)
  /-- DO_GROUP_OVERLOAD (R229): A group above 4.4 A for 10 ms switches off. -/
  | doGroupOverload (grp : Fin 8) (current : BitVec 13)
  /-- DO_RETRY (R229): A faulted channel or group retries. -/
  | doRetry (target : RetryTarget) (ok : Bool)
  /-- DO_CLEAR (R229): Clears a latched channel fault. -/
  | doClear (m : Master) (dch : Fin 64)
  /-- DO_GROUP_CLEAR (R229): Clears a latched group fault. -/
  | doGroupClear (m : Master) (grp : Fin 8)
  /-- VFLD_LOW (R230): A bank's VFLD falls below 18 V. -/
  | vfldLow (bank : Fin 8)
  /-- VFLD_RESTORE (R230): Readback checking resumes 5 ms after VFLD returns. -/
  | vfldRestore (bank : Fin 8)
  /-- AI_CONVERSION (R231): An AI converts, filters and commits at its rate. -/
  | aiConversion (ai : Fin 32) (code16 : BitVec 16) (micro : Int)
  /-- AI_SHUNT_RETRY (R231): A disconnected shunt is retried after 1 s. -/
  | aiShuntRetry (ai : Fin 32)
  /-- CS_MEAN_COMMIT (R233): A general-mode current-sense mean is committed each 1 ms. -/
  | csMeanCommit (cs : Fin 32) (mean : BitVec 14)
  /-- CHANNEL_BIND (R221): A channel or map binding write is taken or refused. -/
  | channelBind (m : Master) (addr : BitVec 24) (v : Word)
  /-- FIELD_OUT_ENABLE (R222): OUT_EN lets outputs and DALI lines leave their off states. -/
  | fieldOutEnable (m : Master) (v : Word)
  /-- DALI_BUS_FAIL (R235): A line below threshold for 40 ms enters BUS_FAIL. -/
  | daliBusFail (line : Fin 16)
  /-- DALI_BUS_RETURN (R235): Bus power returns and the line goes to RUN or ADDRESSING. -/
  | daliBusReturn (line : Fin 16)
  /-- DALI_ADDRESS (R237): ADDRESS puts a line into ADDRESSING. -/
  | daliAddress (m : Master) (line : Fin 16)
  /-- ADDRESSING_END (R237): Addressing ends and the line enters RUN with a refresh. -/
  | addressingEnd (line : Fin 16) (gear : BitVec 64) (dev : BitVec 64) (dup : Bool) (excess : Bool)
  /-- DALI_REFRESH (R238): Sends every mapped output's value. -/
  | daliRefresh (m : Master) (line : Fin 16)
  /-- DALI_OUTPUT_SEND (R238): A pending output command is sent on its line. -/
  | daliOutputSend (line : Fin 16) (resends : Fin 5)
  /-- DALI_EVENT (R240): A decoded event frame is committed or held by GAP. -/
  | daliEvent (line : Fin 16) (sa : BitVec 6) (inst : BitVec 5) (info : BitVec 10) (ityp : BitVec 8)
  /-- DALI_GAP_EXPIRY (R240): An entry's GAP passes and its pending event commits. -/
  | daliGapExpiry (entry10 : BitVec 10)
  /-- DALI_POLL (R239): Gear status and level are polled. -/
  | daliPoll (entry10 : BitVec 10) (answer : Option (BitVec 8))
  /-- DALI_RAW_GO (R241): Sends a raw DALI command. -/
  | daliRawGo (m : Master)
  /-- DALI_RAW_DONE (R241): A raw command completes with its RESULT. -/
  | daliRawDone (result : BitVec 3) (ans8 : BitVec 8)
  /-- FRAME_RECEIVE (R245): A MAC checks, timestamps and delivers a received frame. -/
  | frameReceive (mac : Fin 8) (frame : Frame)
  /-- PAUSE_EXPIRY (R250): A pause ends. -/
  | pauseExpiry (mac : Fin 8)
  /-- FRAME_TRANSMIT (R248): A queued frame is sent, duplicated on the PRP pair. -/
  | frameTransmit (mac : Fin 8) (pair : Bool) (q : BitVec 2) (len14 : BitVec 14) (coll : BitVec 4)
  /-- TX_UNDERRUN (R249): The transmit FIFO runs empty mid-frame. -/
  | txUnderrun (mac : Fin 8)
  /-- GATE_ENTRY (R251): A gate control list interval ends and the next entry applies. -/
  | gateEntry (mac : Fin 8)
  /-- GATE_CHANGE (R251): Puts the admin gate bank in operation at the base time. -/
  | gateChange (m : Master) (mac : Fin 8)
  /-- LPI_ENTRY (R254): LPI_IDLE expires and the MAC asserts low-power idle. -/
  | lpiEntry (mac : Fin 8)
  /-- LPI_WAKE (R255): The LPI sleep ends and a queued frame wakes the link. -/
  | lpiWake (mac : Fin 8)
  /-- PHY_LINK_CHANGE (R242): A PHY link goes up or down. -/
  | phyLinkChange (mac : Fin 8) (up : Bool) (eee : Bool) (low : Bool) (sqi : BitVec 3)
  /-- PRP_SUPERVISION (R256): A supervision frame is sent on both LANs. -/
  | prpSupervision
  /-- NODE_FORGET (R256): A node not heard for NODE_FORGET is removed. -/
  | nodeForget (node : BitVec 48)
  /-- LAN_LOSS (R258): A LAN is declared lost. -/
  | lanLoss (lan : Fin 2)
  /-- HELLO_SEND (R260): A riser port sends HELLO every 10 ms. -/
  | helloSend (port : Fin 2)
  /-- RISER_PORT_DOWN (R261): No HELLO for 50 ms and the riser port goes DOWN. -/
  | riserPortDown (port : Fin 2)
  /-- PLCA_BEACON_LOSS (R263): A follower sees no beacon and falls back to CSMA/CD. -/
  | plcaBeaconLoss (t1s : Fin 4)
  /-- CAN_BUS_OFF (R267): A CAN channel enters bus-off. -/
  | canBusOff (can : Fin 4)
  /-- CAN_BUS_OFF_RECOVERY (R267): Bus-off recovery after 128 × 11 recessive bits. -/
  | canBusOffRecovery (can : Fin 4)
  /-- CRED_WRITE (R269): Writes or replaces a credential record. -/
  | credWrite (m : Master)
  /-- CRED_DELETE (R271): Deletes a credential record. -/
  | credDelete (m : Master)
  /-- PRESENT (R270): A credential presentation is decided. -/
  | present (psrc : PresentSrc)
  /-- CACHE_SWEEP (R270): At each change of T the cache drops expired entries. -/
  | cacheSweep
  /-- DOOR_LOCK (R273): LOCK command. -/
  | doorLock (dsrc : DoorSrc)
  /-- DOOR_PULSE (R273): PULSE releases the lock for STRIKE_TIME. -/
  | doorPulse (dsrc : DoorSrc)
  /-- DOOR_HOLD_UNLOCKED (R273): HOLD_UNLOCKED command. -/
  | doorHoldUnlocked (dsrc : DoorSrc)
  /-- DOOR_LOCKDOWN (R273): LOCKDOWN command. -/
  | doorLockdown (dsrc : DoorSrc)
  /-- DOOR_RELEASE_LOCKDOWN (R273): RELEASE_LOCKDOWN command. -/
  | doorReleaseLockdown (dsrc : DoorSrc)
  /-- DOOR_CONTACT_CHANGE (R273): A door contact opens or closes. -/
  | doorContactChange (adoor : Fin 128)
  /-- DOOR_REX (R273): Request-to-exit releases the lock. -/
  | doorRex (adoor : Fin 128)
  /-- DOOR_FIRE (R273): FIRE_PT enters or leaves fire release. -/
  | doorFire (adoor : Fin 128)
  /-- STRIKE_TIME_EXPIRY (R273): STRIKE_TIME passes and the door relocks. -/
  | strikeTimeExpiry (adoor : Fin 128)
  /-- HELD_TIME_EXPIRY (R273): The door stays open for HELD_TIME. -/
  | heldTimeExpiry (adoor : Fin 128)
  /-- RATE_WRITE (R277): A TIME_RATE write is taken or refused. -/
  | rateWrite (m : Master) (v : Word)
  /-- OFFSET_SET (R279): Replaces the time offset. -/
  | offsetSet (m : Master)
  /-- OFFSET_ADD (R279): Adds a signed delta to the offset. -/
  | offsetAdd (m : Master)
  /-- TIME_FRAME_SEND (R282): An UP riser port sends a TIME frame. -/
  | timeFrameSend (port : Fin 2)
  /-- TRIGGER_ENABLE (R286): EN arms a trigger or is refused. -/
  | triggerEnable (m : Master) (trig : Fin 8) (v : Word)
  /-- TRIGGER_EDGE (R286): A trigger output goes active at its edge. -/
  | triggerEdge (trig : Fin 8)
  /-- TRIGGER_PULSE_END (R286): A trigger pulse ends after WIDTH. -/
  | triggerPulseEnd (trig : Fin 8)
  /-- CAPTURE_EDGE (R288): A capture input latches the counter. -/
  | captureEdge (cap : Fin 8) (rise : Bool)
  /-- CAPTURE_POP (R288): A read of TIME_CAP_INFO pops the oldest capture. -/
  | capturePop (m : Master) (cap : Fin 8)
  /-- TRANSITION (R292): Changes the life-cycle state. -/
  | transition (m : Master) (target : BitVec 3)
  /-- KEY_LOAD (R304): Loads a key slot. -/
  | keyLoad (m : Master) (slot5 : BitVec 5)
  /-- KEY_ERASE (R304): Erases a key slot. -/
  | keyErase (m : Master) (slot5 : BitVec 5)
  /-- OWNER_RESTORE (R299): Restores slots 0 and 1 after a loss. -/
  | ownerRestore (m : Master)
  /-- GET_NONCE (R306): Writes a fresh nonce into the buffer. -/
  | getNonce (m : Master)
  /-- KEY_SHA256 (R307): Computes SHA-256. -/
  | keySha256 (m : Master)
  /-- KEY_SHA384 (R307): Computes SHA-384. -/
  | keySha384 (m : Master)
  /-- KEY_HMAC (R307): Computes an HMAC with a slot. -/
  | keyHmac (m : Master) (slot5 : BitVec 5)
  /-- KEY_GCM_ENC (R307): AES-256-GCM encryption. -/
  | keyGcmEnc (m : Master) (slot5 : BitVec 5)
  /-- KEY_GCM_DEC (R307): AES-256-GCM decryption. -/
  | keyGcmDec (m : Master) (slot5 : BitVec 5)
  /-- KEY_SIGN (R307): Signs a message with a slot. -/
  | keySign (m : Master) (slot5 : BitVec 5)
  /-- KEY_VERIFY (R307): Verifies a signature against a slot. -/
  | keyVerify (m : Master) (slot5 : BitVec 5)
  /-- DERIVE (R300): Derives a key from the root secret into a slot. -/
  | derive (m : Master) (slot5 : BitVec 5)
  /-- GENERATE (R304): Generates a key into a slot. -/
  | generate (m : Master) (slot5 : BitVec 5)
  /-- IDENTITY (R300): Writes the identity public key to the buffer. -/
  | identity (m : Master)
  /-- FUSE_SAFETY_KEY (R307): Fuses the safety parameter key digest. -/
  | fuseSafetyKey (m : Master)
  /-- KEY_COMMAND_DONE (R307): A key engine command completes with its RESULT. -/
  | keyCommandDone (healthy : Bool)
  /-- TAMPER (R298): An armed tamper sensor fires and zeroes the Locket. -/
  | tamper (sensor : Fin 5) (active : Bool)
  /-- CLAIM (R311): Claims the hall pass. -/
  | claim (m : Master) (prio : BitVec 8) (nonce : BitVec 16)
  /-- RENEW (R312): Renews the lease. -/
  | renew (m : Master) (nonce : BitVec 16)
  /-- RELEASE (R312): Releases the pass. -/
  | release (m : Master)
  /-- WITHDRAW (R311): Withdraws a pending claim. -/
  | withdraw (m : Master)
  /-- HANDOVER (R312): Hands the pass to another session. -/
  | handover (m : Master) (target : BitVec 3)
  /-- ACCEPT (R312): Accepts a pending handover. -/
  | accept (m : Master) (prio : BitVec 8) (nonce : BitVec 16)
  /-- ELECTION_CLOSE (R311): The election window closes and a winner takes the pass. -/
  | electionClose
  /-- LEASE_LAPSE (R312): The lease lapses and an election starts. -/
  | leaseLapse
  /-- HANDOVER_LAPSE (R312): No ACCEPT within 100 ms and the handover fails. -/
  | handoverLapse
  /-- SESSION_APPEAR (R308): A session comes into existence. -/
  | sessionAppear (sess : Fin 8)
  /-- SESSION_END (R308): A session ceases to exist. -/
  | sessionEnd (sess : Fin 8)
  /-- LAST_ERR_READ (R313): A read of HOST_LAST_ERR clears the reader's own code. -/
  | lastErrRead (m : Master)
  /-- QSPI_READ (R310): QSPI READ of one register. -/
  | qspiRead (addr : BitVec 24)
  /-- QSPI_WRITE (R310): QSPI WRITE posted into the queue. -/
  | qspiWrite (addr : BitVec 24) (v : Word)
  /-- QSPI_STATUS (R310): QSPI STATUS returns the status byte. -/
  | qspiStatus
  /-- CHARM_READ (R317): Host reads one Charm sector. -/
  | charmRead (m : Master)
  /-- CHARM_WRITE (R317): Host writes one Charm sector. -/
  | charmWrite (m : Master)
  /-- CHARM_XFER_TIMEOUT (R317): A waiting host transfer completes BUSY_RF after 5 ms. -/
  | charmXferTimeout
  /-- HOST_LOCK_REQUEST (R317): The host requests or releases sector locks. -/
  | hostLockRequest (m : Master) (n1 : Fin 2) (v : Word)
  /-- HOST_LOCK_TIMEOUT (R317): A host lock lapses 1 s after the last transfer. -/
  | hostLockTimeout (sector : BitVec 6)
  /-- RF_UPDATE_BINARY (R318): An RF write collects in a sector shadow. -/
  | rfUpdateBinary (file : BitVec 16) (off16 : BitVec 16) (bytes : List Byte)
  /-- RF_READ_BINARY (R317): An RF read of the Charm. -/
  | rfReadBinary (file : BitVec 16) (off16 : BitVec 16) (len8 : BitVec 8)
  /-- RF_LOCK_RELEASE (R318): The RF side releases a sector and its shadow commits. -/
  | rfLockRelease (sector : BitVec 6) (deselect : Bool)
  /-- RF_FIELD_LOSS (R318): The field fails and shadows commit from stored charge. -/
  | rfFieldLoss (torn : List (BitVec 6))
  /-- REGISTER_WRITE (R320): A host write to a register with no row of its own. -/
  | registerWrite (m : Master) (addr : BitVec 24) (v : Word) (be : BitVec 4)
  /-- READ_CLEAR (R321): A Prefect read of an RC register returns and clears it. -/
  | readClear (m : Master) (addr : BitVec 24)
  /-- BUS_WATCHDOG (R331): The bridge watchdog ends a stalled access. -/
  | busWatchdog (m : Master) (addr : BitVec 24) (write : Bool)
  /-- MBOX_LATCH (R324): MBOX_SEL starts a latch of a wide object. -/
  | mboxLatch (m : Master) (v : Word)
  /-- MBOX_RELEASE (R324): MBOX_SEL with SPACE 0 releases the latch. -/
  | mboxRelease (m : Master)
  /-- MBOX_LATCH_DONE (R326): The latch completes with VALID and ERR. -/
  | mboxLatchDone
  /-- POINT_STAGE_WRITE (R333): A host write stages words of a host-produced point. -/
  | pointStageWrite (m : Master) (idx : PointIdx) (word4 : BitVec 4) (v : Word)
  /-- POINT_VALUE_WRITE (R333): A host write of VALUE commits the point. -/
  | pointValueWrite (m : Master) (idx : PointIdx) (v : Word)
  /-- ENTER_TEST (R328): Enters the TEST phase. -/
  | enterTest (m : Master)
  /-- LEAVE_TEST (R328): Leaves the TEST phase. -/
  | leaveTest (m : Master)
  /-- FEED_ABSENT (R335): A feed rail falls below limits and the feed is ABSENT. -/
  | feedAbsent (feed : Fin 2) (low : BitVec 4)
  /-- FEED_FAULTED (R335): Feeds disagree and one is FAULTED. -/
  | feedFaulted (which : Option (Fin 2)) (dev : BitVec 4)
  /-- TRANSFER (R336): Commanded feed transfer. -/
  | transfer (m : Master)
  /-- TRANSFER_PATH_TIMEOUT (R336): The new path does not carry the load in 3 µs. -/
  | transferPathTimeout
  /-- RESTORE (R337): Commanded restore of a feed to STANDBY. -/
  | restore (m : Master) (feed : Fin 2)
  /-- FEED_AUTO_RESTORE (R337): A feed within limits for RESTORE_TIME becomes STANDBY. -/
  | feedAutoRestore (feed : Fin 2)
  /-- TEST_DUE (R338): A feed path test count reaches TEST_INTERVAL. -/
  | testDue (feed : Fin 2)
  /-- SLEEP_ENTRY (R342): The module chooses and enters a sleep state. -/
  | sleepEntry (want : SleepWant)
  /-- WAKE_REQUEST (R344): A wake request aborts entry or starts exit. -/
  | wakeRequest (src : Fin 8)
  /-- SCHEDULED_EXIT (R342): The exit before due begins. -/
  | scheduledExit
  /-- RECESS_ASK (R345): Sends RECESS REQUEST after conditions hold for 10 s. -/
  | recessAsk (number : BitVec 16)
  /-- RECESS_REQUEST_RX (R346): A neighbour's REQUEST is granted or refused. -/
  | recessRequestRx (port : Fin 2) (number : BitVec 16) (carries : Bool)
  /-- RECESS_GRANT_RX (R345): A GRANT is received. -/
  | recessGrantRx (port : Fin 2) (number : BitVec 16)
  /-- RECESS_REFUSE_RX (R345): A REFUSE is received. -/
  | recessRefuseRx (port : Fin 2) (number : BitVec 16) (reason : BitVec 8)
  /-- RECESS_COMMIT_RX (R345): A neighbour's COMMIT is received. -/
  | recessCommitRx (port : Fin 2) (number : BitVec 16)
  /-- RECESS_WITHDRAW_RX (R345): A neighbour's WITHDRAW is received. -/
  | recessWithdrawRx (port : Fin 2) (number : BitVec 16)
  /-- RECESS_ANSWER_TIMEOUT (R345): No answer in 10 ms counts as REFUSE. -/
  | recessAnswerTimeout (port : Fin 2)
  /-- RECESS_GRANT_LAPSE (R345): A grant lapses without COMMIT in 100 ms. -/
  | recessGrantLapse (port : Fin 2)
  /-- WAKE_FRAME (R346): A riser WAKE frame wakes and may propagate. -/
  | wakeFrame (port : Fin 2) (propagate : Bool)
  /-- WAKE_FRAME_RESEND (R346): WAKE is resent every 1 ms until HELLO. -/
  | wakeFrameResend (port : Fin 2)
  /-- POWER_FAIL_DETECT (R348): No feed can supply and the power-fail order runs. -/
  | powerFailDetect (cut : List (Fin 2 × SupplyMeas × List (Fin 16 × CktCycle))) (last : Option (Fin 8))
  /-- POWER_ON_RESET (R352): A feed within limits for 100 ms resets all dies. -/
  | powerOnReset
  /-- RESET_N_ASSERT (R352): RESET_N held active resets the control die. -/
  | resetNAssert
  /-- SYS_RESET_GO (R352): SYS_RESET_CMD with the right KEY resets the control die. -/
  | sysResetGo (m : Master) (key : BitVec 8)
  /-- THERMAL_RESET (R352): A junction above 125 °C for 1 ms resets. -/
  | thermalReset
  /-- CLOCK_RESET (R352): Reference clock monitor fails for 100 µs. -/
  | clockReset
  /-- THERMAL_ALARM (R392): A junction sensor exceeds 105 °C or 115 °C. -/
  | thermalAlarm (celsius : Int)
  /-- ROLL_CALL (R354): Roll call runs after release from reset. -/
  | rollCall
  /-- ROLL_STEP_LATE (R354): A roll-call step passes its bound. -/
  | rollStepLate (rstep : Fin 6)
  /-- ROLL_HEAD (R356): Riser Down stays DOWN 250 ms and the module becomes head. -/
  | rollHead
  /-- ROLL_FRAME (R356): A ROLL frame delivers position or chain length. -/
  | rollFrame (port : Fin 2) (value8 : BitVec 8)
  /-- ROLL_TOP (R356): Riser Up stays DOWN and the module declares itself top. -/
  | rollTop
  /-- FWU_BEGIN (R361): Begins a host firmware delivery. -/
  | fwuBegin (m : Master)
  /-- FWU_PUSH (R361): Stages a firmware piece. -/
  | fwuPush (m : Master) (piece : FwuPiece)
  /-- FWU_START (R362): Starts installation. -/
  | fwuStart (m : Master)
  /-- FWU_ABORT (R361): Aborts the transfer. -/
  | fwuAbort (m : Master)
  /-- CONFIRM (R364): Confirms the new image for the report card. -/
  | confirm (m : Master)
  /-- FWU_MANIFEST (R361): A MANIFEST frame is checked and answered. -/
  | fwuManifest (manifest : Manifest)
  /-- FWU_DATA (R358): A DATA frame carries block data. -/
  | fwuData (image32 : Word) (block : BitVec 16) (offset : Word) (data : List Byte)
  /-- FWU_ACK (R361): An ACK frame is received. -/
  | fwuAck (block : BitVec 16) (err : BitVec 8)
  /-- FWU_NAK (R361): A NAK frame triggers a resend. -/
  | fwuNak (block : BitVec 16)
  /-- FWU_FRAME_ABORT (R361): An ABORT frame ends the transfer. -/
  | fwuFrameAbort (fromUp : Bool)
  /-- FWU_ACK_TIMEOUT (R361): No ACK within 200 ms counts as NAK. -/
  | fwuAckTimeout
  /-- RECEIVING_DISCARD (R361): A slot without a block for 10 min is discarded. -/
  | receivingDiscard
  /-- FWU_INSTALL (R362): Installation starts once forwarding has ended. -/
  | fwuInstall
  /-- PREPARATION_DONE (R363): Preparation ends and the handover awaits a B3 bell. -/
  | preparationDone (migrated : BitVec 16)
  /-- PREPARATION_TIMEOUT (R363): Preparation passes 120 s. -/
  | preparationTimeout
  /-- REPORT_CARD (R364): The new image gives its report card. -/
  | reportCard
  /-- REPORT_DEADLINE (R365): The report card deadline passes and the module falls back. -/
  | reportDeadline
  /-- STEWARD_WATCHDOG (R365): A steward watchdog expires. -/
  | stewardWatchdog (core : Fin 2)
  /-- CROSS_DIE_CRC_ERROR (R13): A cross-die frame fails its CRC. -/
  | crossDieCrcError (link : DieLink)
  /-- LINK_LOSS (R13): A cross-die link's watchdog declares loss. -/
  | linkLoss (link : DieLink)
  /-- LINK_RETURN (R13): A lost cross-die link returns. -/
  | linkReturn (link : DieLink)
  /-- EVENT_WINDOW_END (R395): A rate window ends and a repeats record is created. -/
  | eventWindowEnd (rule : Nat) (key : Nat)
  /-- EVT_FLUSH (R374): Flush now. -/
  | evtFlush (m : Master)
  /-- FLUSH_TIMER (R374): The oldest unflushed record is 1 s old and a page is written. -/
  | flushTimer
  /-- EVT_EXACT (R378): Latches the record with a given SEQ. -/
  | evtExact (m : Master) (retained : Bool)
  /-- EVT_NEXT (R378): Latches the next visible record. -/
  | evtNext (m : Master) (retained : Bool)
  /-- EVT_READ_DONE (R378): A record latch completes. -/
  | evtReadDone
  /-- DEBUG_ATTACH (R379): A debugger attaches or detaches. -/
  | debugAttach (attach : Bool)
  /-- DEBUG_AUTH_CHECK (R379): Checks a debug authorisation token. -/
  | debugAuthCheck (token : List Byte)
  /-- DEBUG_AUTH_EXPIRY (R379): A debug authorisation's duration expires. -/
  | debugAuthExpiry
  /-- HALT (R381): Requests a halt of a core. -/
  | halt (c : CoreId)
  /-- FORCE (R382): Halts at once, breaking a clasp. -/
  | force (c : CoreId)
  /-- STEP (R381): Executes one instruction and halts. -/
  | step (c : CoreId)
  /-- RESUME (R381): Resumes a halted core. -/
  | resume (c : CoreId)
  /-- CORE_REGISTER_WRITE (R380): Writes a halted core's register with WRITE scope. -/
  | coreRegisterWrite (c : CoreId) (rsel : BitVec 6) (v : Word)
  /-- PEEK (R380): A debug peek read with no side effect. -/
  | peek (addr : BitVec 24)
  /-- STUCK_ON_CLEAR (R229): A DO with a STUCK_ON fault clears it when its readback returns to off. -/
  | stuckOnClear (dch : Fin 64)
  /-- DO_OVER_TEMPERATURE (R229): An over-temperature switches a DO channel off with THERMAL. -/
  | doOverTemperature (dch : Fin 64)
  /-- PLCA_BEACON (R263): A PLCA beacon is received, returning a follower to PLCA or counting a foreign beacon at a coordinator. -/
  | plcaBeacon (t1s : Fin 4)
  /-- SERIAL_FRAME_ERROR (R266): An RS-485 frame with a framing, parity or checksum error is discarded and counted. -/
  | serialFrameError (sch : Fin 8)
  /-- PCIE_POWER_STATE (R314): System software moves the PCIe function into or out of D3hot or L1, or writes the LTR Max No-Snoop Latency. -/
  | pciePowerState (ev : PcieEvent)
  /-- VBAT_LOSS (R298): VBAT is lost, so the Locket, tamper monitor, slow count and battery metering lose their supply. -/
  | vbatLoss
deriving DecidableEq, Repr

end Sys2Proof
end

