-- ==== Sys2Proof/Config.lean ====
section
/-! DEFINITION. What the spec leaves open and the model leaves open with it: constants without a body, so that no proof can
see a value of them. Every one of them is named in a log entry. -/

namespace Sys2Proof.Config

/-- The n-th free value a run takes (log entry 2). -/
opaque freeValue : Nat → BitVec 32

/-- The address at which a steward core takes exceptions, fixed by steward firmware (R39; log entry 9). -/
opaque stewardVector : Nat → BitVec 32

/-- The CRC word of an event record (R370; log entry 12: the polynomial is not stated). -/
opaque recordCrc : List (BitVec 32) → BitVec 32

/-- What a steward core's data address beyond its data SRAM reaches (R41, R52): an LPDDR5 byte, a register of the host map, or
nothing. -/
inductive StewardTarget where
  | lpddr (a : Nat)
  | register (a : BitVec 24)
  | nothing
deriving DecidableEq, Repr, Inhabited

/-- The steward cores' data map beyond their data SRAM, fixed by steward firmware (R41, R52; log entry 17). -/
opaque stewardMap : BitVec 32 → StewardTarget

/-- The byte lanes that a steward store of less than a word leaves to a 32-bit register (R5, R52; log entry 50). -/
opaque narrowLanes : BitVec 24 → BitVec 32

/-- The code an AO drives for a value n / d in volts or amperes in a mode (R232; log entry 21). -/
opaque aoCode : Nat → Int → Nat → BitVec 16

/-- The load of an AO at a count (R232; log entry 21): its current loop is open, or it draws more than the voltage stage's limit. -/
opaque aoLoad : Nat → Nat → Bool

/-- One step of an AI's first-order filter (R231; log entry 21): the time constant's code, the filter's value, the new conversion, in
millionths of a unit. -/
opaque aiFilter : Nat → Int → Int → Int

/-- The partner of LAN A (0) or B (1) is in low-power idle at a count (R254; log entry 36). -/
opaque partnerIdle : Nat → Nat → Bool

/-- An RS-485 channel holds its MS/TP ring's token at a count, and is its sole master (R265; log entry 37). -/
opaque ringToken : Nat → Nat → Bool
opaque ringSole : Nat → Nat → Bool

/-- The transmit and receive error counts of a CAN channel at a count, TEC low (R267; log entry 37). -/
opaque canErrors : Nat → Nat → BitVec 16

/-- The fraction n / 2^14 of full scale that a current-sense code stands for (R233; log entry 22). -/
opaque csFraction : BitVec 14 → Int

/-! ### The algorithms of the key engine (R300, R307; log entry 24): the spec names the standards and gives no more of them -/

/-- SHA-256 and SHA-384. -/
opaque sha256 : List (BitVec 8) → BitVec 256
opaque sha384 : List (BitVec 8) → BitVec 384

/-- HMAC with SHA-256 (false) or SHA-384 (true), the tag left-aligned in 384 bits. -/
opaque hmac : Bool → BitVec 256 → List (BitVec 8) → BitVec 384

/-- The i-th byte of the AES-256-GCM key stream of a key and an IV, and the tag of AAD and ciphertext. -/
opaque gcmStream : BitVec 256 → List (BitVec 8) → Nat → BitVec 8
opaque gcmTag : BitVec 256 → List (BitVec 8) → List (BitVec 8) → List (BitVec 8) → BitVec 128

/-- A signature of an algorithm (0 P-256, 2 Ed25519) with a private key over a message, with a per-signature random value. -/
opaque sign : Nat → BitVec 256 → List (BitVec 8) → BitVec 32 → BitVec 512

/-- The check of a signature of an algorithm (0 P-256, 1 P-384, 2 Ed25519): public key, signature, message. -/
opaque verify : Nat → List (BitVec 8) → List (BitVec 8) → List (BitVec 8) → Bool

/-- The i-th byte of the public key of a private key. -/
opaque publicByte : Nat → BitVec 256 → Nat → BitVec 8

/-- HKDF-SHA-384 of the root secret: root, serial number, label, label data (R300). -/
opaque hkdf : BitVec 256 → BitVec 64 → BitVec 8 → List (BitVec 8) → BitVec 256

/-- The digest of the return authority key and the firmware signing key, fused at manufacture (R290). -/
opaque returnKey : BitVec 256
opaque firmwareKey : List (BitVec 8)

/-! ### The loop engine (ch. 8) -/

/-- Phase x's duty where the bus voltage is 0 (R149; log entry 28). -/
opaque dutyNoBus : Nat → BitVec 32

/-- The share of J_MAX, in 2^−16 beyond the first, with which the profile raises its acceleration (R151; log entry 29): operator and count. -/
opaque profileJerk : Nat → Nat → Nat

/-- The time of forming a zone's problem, at most 40, and of its n-th iteration, at most 8, in units of 10 µs (R159; log entry 30): zone, bell
count, n from 1, and 0 for forming. -/
opaque hzTime : Nat → BitVec 32 → Nat → Nat

/-! ### Group dispatch (ch. 10; log entry 33) -/

/-- The integer that stands for a modelled time n / d in the unit asked for (R189, R190): the rounding is not stated. -/
opaque roundTime : Int → Nat → Nat

/-- The modelled time of a run, in ms, where V_RATED, A or J is 0 (R187): distance, V_RATED, A, J. -/
opaque runTimeOpen : Nat → Nat → Nat → Nat → Nat

/-! ### Metering (ch. 11; log entry 35) -/

/-- A channel's samples after the fractional delay of a phase correction in 2^−16 µrad at a frequency in mHz (R202): the interpolation is not
stated. -/
opaque delay : List Int → Int → Nat → List Int

/-- The place in 2^−32 of a current between a breakpoint at 0 and the next one: log2(0) has no value (R209). -/
opaque zeroFraction : Nat → Nat → Int

/-- A cycle's samples resampled to 128 points (R204): the interpolation is not stated. -/
opaque resample : List Int → List Int

/-- The high-pass filter with its corner at 0.5 Hz (R202): from the filter's memory and a cycle's converter results to the new memory and the
filtered samples. Its order is not stated. -/
opaque highPass : List Int → List Int → List Int × List Int

/-- The save records that an area of the meter store holds (R213): the size of a record is not stated. -/
opaque meterSaves : Nat

/-- Steward firmware has enabled a time profile on LAN A or LAN B (R281; log entry 36): no register shows it. -/
opaque timeProfile : Nat → Bool

/-- The PTP port of LAN A (0) or B (1) is locked at a count, and LAN A has the better data set of two that are (R281, R283; log entry 38). -/
opaque timeLocked : Nat → Nat → Bool
opaque timeBetter : Nat → Bool

/-- The slow-to-fast ratio measured before an entry to RECESS, in 2^−32 (R284; log entry 38). -/
opaque slowRatio : Nat → Nat

/-- The RS-485 channel of a device group's devices (R266; log entry 37): steward firmware's configuration, in no register. -/
opaque groupChannel : Nat → Option (Fin 8)

/-! ### Program images (ch. 6; log entry 42): the byte layout of an image is not given -/

/-- The SHA-256 over all bytes of an image after its header. -/
opaque imageDigest : List ImageItem → BitVec 256

/-- The format versions of an image header that the module takes (R100). -/
opaque imageFormat : BitVec 8 → Bool

/-- The region tables and descriptors of a core as a switch stages them, from the new image (R107). -/
opaque stagedTables : List ImageItem → Nat → List (BitVec 8)

/-- The records of 16 bytes that a block of the erase journal holds (R367): the manual gives NAND no block size. -/
opaque journalRecords : Nat

/-- The pages of 16 KiB in a block of the event flash ring, by which its pointers count (R377). -/
opaque blockPages : Nat

/-- The first 128 bytes of an image's header. -/
opaque headerBytes : ImageHeader → List (BitVec 8)

/-- Whether a clock domain has work now, and its frequency in kHz in a power state: the manual gives neither (CLK_DOM_STAT, R339). -/
opaque domainBusy : Nat → Nat → Bool
opaque domainKHz : Nat → Nat → Nat

/-- The longest stall of an access since the last read of SYS_STALL_MAX, in µs (R330): the manual bounds it. -/
opaque stallMax : Nat → Nat

/-- What a monitor sees of its clock at a count: the main reference (0) and the time base clock (1), OK in bit 0 and the deviation above it; the
slow clock (2), 0 when it fails (CLK_MON, CLK_AON_STAT). -/
opaque clockState : Nat → Nat → Nat

/-- The reserved bits of a register that are live test controls in BOOT, TEST and RECOVER (R329; log entry 54): the manual does not say which. -/
opaque liveControls : Nat → BitVec 32
/-- The voltages a feed monitor measures: the feed, the register (0 or 1), and the count (PWR_FEED_V0, PWR_FEED_V1). -/
opaque railWord : Nat → Nat → Nat → BitVec 32

/-- The items of an image piece from the bytes in SCAN_PROG_BUF: the manual gives an image's content and no byte layout (R100, R103). -/
opaque pieceItems : List (BitVec 8) → List ImageItem

end Sys2Proof.Config
end

