-- ==== Sys2Proof/Machine/Bits.lean ====
section
/-! DEFINITION. Bit fields of words, saturating and modular counts, signed readings: the notation of R4 and R47. -/

namespace Sys2Proof.Machine

/-- Bits [hi:lo] of a word as a number (R4). -/
def bits (w : Word) (hi lo : Nat) : Nat := w.toNat / 2 ^ lo % 2 ^ (hi + 1 - lo)

/-- The word with bits [hi:lo] set to `v`, taken modulo the field's width. -/
def putBits (w : Word) (hi lo : Nat) (v : Nat) : Word :=
  BitVec.ofNat 32 (w.toNat % 2 ^ lo + (v % 2 ^ (hi + 1 - lo)) * 2 ^ lo + w.toNat / 2 ^ (hi + 1) * 2 ^ (hi + 1))

/-- Bit i of a word. -/
def bitOf (w : Word) (i : Nat) : Bool := w.getLsbD i

/-- The word with bit i set to `b`. -/
def setBitOf (w : Word) (i : Nat) (b : Bool) : Word := putBits w i i b.toNat

/-- A number as a word. -/
def wd (n : Nat) : Word := BitVec.ofNat 32 n

/-- An integer as a word, modulo 2^32. -/
def wi (n : Int) : Word := BitVec.ofInt 32 n

/-- An entry put before the first of a sorted list whose key is not lower. -/
def insertOn {α : Type} (key : α → Nat) (x : α) : List α → List α
  | [] => [x]
  | y :: ys => if key x ≤ key y then x :: y :: ys else y :: insertOn key x ys

/-- A list sorted by a key, lowest first; entries of one key keep their order. -/
def sortOn {α : Type} (key : α → Nat) : List α → List α
  | [] => []
  | x :: xs => insertOn key x (sortOn key xs)

/-- Saturating increment of a count of the given width. -/
def satInc (bits n : Nat) : Nat := if n + 1 < 2 ^ bits then n + 1 else 2 ^ bits - 1

/-- An integer limited to a range. -/
def clampInt (lo hi x : Int) : Int := if x < lo then lo else if hi < x then hi else x

/-- The signed range of n bits, saturating (R48, R69). -/
def satInt (bits : Nat) (x : Int) : Int := clampInt (-(2 ^ (bits - 1))) (2 ^ (bits - 1) - 1) x

/-- A number of `bits` bits taken as signed. -/
def signedN (bits n : Nat) : Int :=
  if n % 2 ^ bits < 2 ^ (bits - 1) then (n % 2 ^ bits : Nat) else ((n % 2 ^ bits : Nat) : Int) - 2 ^ bits

/-- Signed division with rounding to nearest, ties to even (R68 rule 4). -/
def divRne (n : Int) (d : Nat) : Int :=
  let q := n / (d : Int)
  let r := n % (d : Int)
  if 2 * r < d then q else if (d : Int) < 2 * r then q + 1 else if q % 2 = 0 then q else q + 1

/-- Unsigned division rounded up. -/
def ceilDiv (n d : Nat) : Nat := (n + d - 1) / d

/-- The bytes of a word, least significant first (R5). -/
def wordBytes (w : Word) : List Byte :=
  [w.extractLsb' 0 8, w.extractLsb' 8 8, w.extractLsb' 16 8, w.extractLsb' 24 8]

/-- The word whose bytes, least significant first, are the first four of a list; missing bytes are 0. -/
def bytesWord (l : List Byte) : Word :=
  wd ((l.getD 0 0).toNat + 256 * (l.getD 1 0).toNat + 65536 * (l.getD 2 0).toNat + 16777216 * (l.getD 3 0).toNat)

/-- Time-base counts in a microsecond, a millisecond and a second at the nominal 250 MHz (R79). -/
abbrev usCounts : Nat := 250
abbrev msCounts : Nat := 250000
abbrev secCounts : Nat := 250000000

/-- The period of a bell class in counts (R79). -/
def classPeriod : Nat → Nat
  | 0 => 250000
  | 1 => 1250000
  | 2 => 2500000
  | 3 => 12500000
  | 4 => 25000000
  | 5 => 250000000
  | 6 => 2500000000
  | _ => 15000000000

end Sys2Proof.Machine
end

