-- ==== Sys2Proof/Machine/RegTable.lean ====
section
/-! DEFINITION. The host-visible registers as the register tables of spec/05 to spec/22 give them: the byte address of each
register by its name in the manual (an array takes its indices), and for each its reset value and the bits of each access
type of R5. Where a table gives no reset value the entry is zero here and the value is the model's own (log entry 4). -/

namespace Sys2Proof.Machine.Reg

/-! ### Addresses -/

/-! #### spec/18_register_interface.md -/

abbrev SYS_ID : Nat := 0x000000
abbrev SYS_SERIAL_LO : Nat := 0x000004
abbrev SYS_SERIAL_HI : Nat := 0x000008
abbrev SYS_PHASE : Nat := 0x00000C
abbrev SYS_PHASE_CMD : Nat := 0x000010
abbrev SYS_BUS_ERR : Nat := 0x000014
abbrev SYS_BUS_LAST : Nat := 0x000018
abbrev SYS_STALL_MAX : Nat := 0x00001C
abbrev SYS_PT_DROP : Nat := 0x000020
abbrev SYS_PT_STAGE : Nat := 0x000024
abbrev SYS_PT_DISCARD : Nat := 0x000028
abbrev SYS_SCRATCH : Nat := 0x000030
/-! #### spec/20_startup_and_roll_call.md -/

abbrev SYS_RESET_CAUSE : Nat := 0x000100
abbrev SYS_RESET_CMD : Nat := 0x000104
abbrev SYS_ROLL_STAT : Nat := 0x000108
abbrev SYS_ROLL_TIME : Nat := 0x00010C
/-! #### spec/17_hosts_ownership_charm.md -/

abbrev HOST_PASS_CMD : Nat := 0x010000
abbrev HOST_PASS_STAT : Nat := 0x010004
abbrev HOST_PASS_PEND : Nat := 0x010008
abbrev HOST_LAST_ERR : Nat := 0x01000C
abbrev HOST_NOT_OWNER_CNT : Nat := 0x010010
abbrev HOST_CFG : Nat := 0x010014
abbrev HOST_LAT_TOL (i : Nat) : Nat := 0x010020 + 0x4 * i
abbrev HOST_LAT_EFF : Nat := 0x010040
abbrev HOST_IRQ_STAT (i : Nat) : Nat := 0x010080 + 0x4 * i
abbrev HOST_IRQ_EN (i : Nat) : Nat := 0x010088 + 0x4 * i
/-! #### spec/19_power_feeds_clocks_sleep.md -/

abbrev PWR_STAT : Nat := 0x020000
abbrev PWR_CFG : Nat := 0x020004
abbrev PWR_LIMIT : Nat := 0x020008
abbrev PWR_WAKE_SRC : Nat := 0x02000C
abbrev PWR_ENTRY_CNT (i : Nat) : Nat := 0x020010 + 0x4 * i
abbrev PWR_RACE_CNT : Nat := 0x02001C
abbrev PWR_RECESS_STAT : Nat := 0x020020
abbrev PWR_PF_STAT : Nat := 0x020024
abbrev PWR_FEED_CFG : Nat := 0x020040
abbrev PWR_FEED_CMD : Nat := 0x020044
abbrev PWR_FEED_TEST : Nat := 0x020048
abbrev PWR_FEED_CNT : Nat := 0x02004C
abbrev PWR_FEED_STAT (i : Nat) : Nat := 0x020080 + 0x10 * i
abbrev PWR_FEED_V0 (i : Nat) : Nat := 0x020084 + 0x10 * i
abbrev PWR_FEED_V1 (i : Nat) : Nat := 0x020088 + 0x10 * i
/-! #### spec/18_register_interface.md -/

abbrev CLK_AON_STAT : Nat := 0x030000
abbrev CLK_MON (i : Nat) : Nat := 0x030010 + 0x4 * i
abbrev CLK_DOM_STAT (i : Nat) : Nat := 0x030100 + 0x4 * i
/-! #### spec/05_bells_and_lessons.md -/

abbrev SCAN_CTRL : Nat := 0x040000
abbrev SCAN_STAT : Nat := 0x040004
abbrev SCAN_LESSON_LATE : Nat := 0x040008
abbrev SCAN_ABANDON_EXC : Nat := 0x04000C
abbrev SCAN_BROKEN_CNT : Nat := 0x040010
abbrev SCAN_OVERRUN_CNT : Nat := 0x040014
abbrev SCAN_LESSON_CLR : Nat := 0x040018
abbrev SCAN_POOL_STAT : Nat := 0x040020
abbrev SCAN_POOL_STALLS : Nat := 0x040024
abbrev SCAN_BELL_CFG (i : Nat) : Nat := 0x040100 + 0x4 * i
abbrev SCAN_BELL_CNT (i : Nat) : Nat := 0x040120 + 0x4 * i
abbrev SCAN_HR_FLOOR (i : Nat) : Nat := 0x040200 + 0x4 * i
abbrev SCAN_HR_LATE (i : Nat) : Nat := 0x040240 + 0x4 * i
abbrev SCAN_FORCE_IDX : Nat := 0x040300
abbrev SCAN_FORCE_VAL_LO : Nat := 0x040304
abbrev SCAN_FORCE_VAL_HI : Nat := 0x040308
abbrev SCAN_FORCE_CMD : Nat := 0x04030C
abbrev SCAN_FORCE_STAT : Nat := 0x040310
abbrev SCAN_CORE_STAT (i : Nat) : Nat := 0x040400 + 0x4 * i
/-! #### spec/06_program_loading_and_restart.md -/

abbrev SCAN_PROG_CTRL : Nat := 0x040800
abbrev SCAN_PROG_OFFSET : Nat := 0x040804
abbrev SCAN_PROG_LEN : Nat := 0x040808
abbrev SCAN_PROG_STAT : Nat := 0x04080C
abbrev SCAN_PROG_DETAIL : Nat := 0x040810
abbrev SCAN_PROG_SWITCH : Nat := 0x040814
abbrev SCAN_PROG_SWITCH_BELL : Nat := 0x040818
abbrev SCAN_PROG_ID_LO : Nat := 0x040820
abbrev SCAN_PROG_ID_HI : Nat := 0x040824
abbrev SCAN_PROG_VARS0 : Nat := 0x040828
abbrev SCAN_PROG_VARS1 : Nat := 0x04082C
abbrev SCAN_RESTART_CFG : Nat := 0x040830
abbrev SCAN_RESTART_STAT : Nat := 0x040834
abbrev SCAN_CKPT_CFG : Nat := 0x040838
abbrev SCAN_PROG_BUF (i : Nat) : Nat := 0x048000 + 0x4 * i
/-! #### spec/07_tenants_and_roster.md -/

abbrev ROSTER_CTRL : Nat := 0x050000
abbrev ROSTER_STAT : Nat := 0x050004
abbrev ROSTER_EPOCH : Nat := 0x050008
abbrev ROSTER_DRAIN_BOUND : Nat := 0x05000C
abbrev ROSTER_ABORTED : Nat := 0x050010
abbrev ROSTER_EVICT_CNT : Nat := 0x050014
abbrev ROSTER_RELOAD_WAITS : Nat := 0x050018
abbrev ROSTER_VIEW : Nat := 0x05001C
abbrev ROSTER_VIEW_DENY : Nat := 0x050020
abbrev ROSTER_TEN_SEL : Nat := 0x050024
abbrev ROSTER_TEN_CFG : Nat := 0x050028
abbrev ROSTER_TEN_ACT : Nat := 0x05002C
abbrev ROSTER_ERR_DETAIL : Nat := 0x050030
abbrev ROSTER_TEN_SHARE0 : Nat := 0x050034
abbrev ROSTER_TEN_SHARE1 : Nat := 0x050038
abbrev ROSTER_TEN_SHARE_ACT0 : Nat := 0x05003C
abbrev ROSTER_TEN_SHARE_ACT1 : Nat := 0x050040
abbrev ROSTER_HR_CTX (i : Nat) : Nat := 0x050100 + 0x4 * i
abbrev ROSTER_HR_DENY (i : Nat) : Nat := 0x050140 + 0x4 * i
abbrev ROSTER_RULE (i j : Nat) : Nat := 0x058000 + 0x10 * i + 0x4 * j
/-! #### spec/08_loop_engine.md -/

abbrev LOOP_CTRL : Nat := 0x060000
abbrev LOOP_STAT : Nat := 0x060004
abbrev LOOP_BF_SAT_CNT : Nat := 0x060008
abbrev LOOP_FE_CNT : Nat := 0x06000C
abbrev LOOP_HZ_DROP_CNT : Nat := 0x060010
abbrev LOOP_TRIP_CNT : Nat := 0x060014
abbrev LOOP_MSG_REJ_CNT : Nat := 0x060018
abbrev LOOP_SLOT_SEL : Nat := 0x060100
abbrev LOOP_SLOT_CFG : Nat := 0x060104
abbrev LOOP_SLOT_BIND0 : Nat := 0x060108
abbrev LOOP_SLOT_BIND1 : Nat := 0x06010C
abbrev LOOP_SLOT_BIND2 : Nat := 0x060110
abbrev LOOP_SLOT_MODE : Nat := 0x060114
abbrev LOOP_SLOT_FE : Nat := 0x060118
abbrev LOOP_SLOT_CMD : Nat := 0x06011C
abbrev LOOP_SLOT_PARAM (i : Nat) : Nat := 0x060140 + 0x4 * i
abbrev LOOP_SLOT_ACT (i : Nat) : Nat := 0x060180 + 0x4 * i
abbrev LOOP_SLOT_STATE (i : Nat) : Nat := 0x0601C0 + 0x4 * i
abbrev LOOP_SLOT_STEXP : Nat := 0x0601E0
abbrev LOOP_STG_MODE (i : Nat) : Nat := 0x061000 + 0x40 * i
abbrev LOOP_STG_STAT (i : Nat) : Nat := 0x061004 + 0x40 * i
abbrev LOOP_STG_FE (i : Nat) : Nat := 0x061008 + 0x40 * i
abbrev LOOP_STG_MOTOR (i : Nat) : Nat := 0x06100C + 0x40 * i
abbrev LOOP_STG_TARGET (i : Nat) : Nat := 0x06100C + 0x40 * i
abbrev LOOP_STG_CPR (i : Nat) : Nat := 0x061010 + 0x40 * i
abbrev LOOP_STG_ANGLE (i : Nat) : Nat := 0x061014 + 0x40 * i
abbrev LOOP_STG_CMD (i : Nat) : Nat := 0x061018 + 0x40 * i
abbrev LOOP_STG_PARAM (i j : Nat) : Nat := 0x061020 + 0x40 * i + 0x4 * j
abbrev LOOP_HZ_CFG : Nat := 0x062000
abbrev LOOP_HZ_STAT : Nat := 0x062004
abbrev LOOP_HZ_BELL : Nat := 0x062008
abbrev LOOP_HZ_SEL : Nat := 0x06200C
abbrev LOOP_HZ_CMD : Nat := 0x062010
abbrev LOOP_HZ_ZCFG (i : Nat) : Nat := 0x062100 + 0x20 * i
abbrev LOOP_HZ_ZSTAT (i : Nat) : Nat := 0x062104 + 0x20 * i
abbrev LOOP_HZ_ZDROP (i : Nat) : Nat := 0x062108 + 0x20 * i
abbrev LOOP_HZ_ZCOST (i : Nat) : Nat := 0x06210C + 0x20 * i
abbrev LOOP_TR_CTRL : Nat := 0x063000
abbrev LOOP_TR_STAT : Nat := 0x063004
abbrev LOOP_TR_TRIG : Nat := 0x063008
abbrev LOOP_TR_LEVEL : Nat := 0x06300C
abbrev LOOP_TR_TIME_LO : Nat := 0x063010
abbrev LOOP_TR_TIME_HI : Nat := 0x063014
abbrev LOOP_TR_SEL : Nat := 0x063018
abbrev LOOP_TR_CH (i : Nat) : Nat := 0x063040 + 0x4 * i
abbrev LOOP_HZ_WIN (i : Nat) : Nat := 0x064000 + 0x4 * i
abbrev LOOP_TR_WIN (i : Nat) : Nat := 0x06C000 + 0x4 * i
/-! #### spec/09_lift_cars_and_doors.md -/

abbrev LIFT_CTRL : Nat := 0x070000
abbrev LIFT_STAT : Nat := 0x070004
abbrev LIFT_XCHK_CNT : Nat := 0x070008
abbrev LIFT_REV_CNT : Nat := 0x07000C
abbrev LIFT_CAR_CFG (i : Nat) : Nat := 0x070100 + 0x100 * i
abbrev LIFT_CAR_MSCALE (i : Nat) : Nat := 0x070104 + 0x100 * i
abbrev LIFT_CAR_GSCALE (i : Nat) : Nat := 0x070108 + 0x100 * i
abbrev LIFT_CAR_TERM_POS (i : Nat) : Nat := 0x07010C + 0x100 * i
abbrev LIFT_CAR_XCHK (i : Nat) : Nat := 0x070110 + 0x100 * i
abbrev LIFT_CAR_CMD (i : Nat) : Nat := 0x070114 + 0x100 * i
abbrev LIFT_CAR_STAT (i : Nat) : Nat := 0x070118 + 0x100 * i
abbrev LIFT_CAR_POS (i : Nat) : Nat := 0x07011C + 0x100 * i
abbrev LIFT_CAR_GPOS (i : Nat) : Nat := 0x070120 + 0x100 * i
abbrev LIFT_CAR_DIFF (i : Nat) : Nat := 0x070124 + 0x100 * i
abbrev LIFT_CAR_CORR (i : Nat) : Nat := 0x070128 + 0x100 * i
abbrev LIFT_CAR_REF_CNT (i : Nat) : Nat := 0x07012C + 0x100 * i
abbrev LIFT_CAR_DZCAP_INFO (i : Nat) : Nat := 0x070130 + 0x100 * i
abbrev LIFT_CAR_DZCAP_POS (i : Nat) : Nat := 0x070134 + 0x100 * i
abbrev LIFT_LAND (i j k : Nat) : Nat := 0x071000 + 0x400 * i + 0x8 * j + 0x4 * k
abbrev LIFT_DOOR_CFG (i : Nat) : Nat := 0x074000 + 0x100 * i
abbrev LIFT_DOOR_PTS (i : Nat) : Nat := 0x074004 + 0x100 * i
abbrev LIFT_DOOR_STAT (i : Nat) : Nat := 0x074008 + 0x100 * i
abbrev LIFT_DOOR_OPEN_POS (i : Nat) : Nat := 0x07400C + 0x100 * i
abbrev LIFT_DOOR_ZONE (i : Nat) : Nat := 0x074010 + 0x100 * i
abbrev LIFT_DOOR_REF (i : Nat) : Nat := 0x074014 + 0x100 * i
abbrev LIFT_DOOR_PARAM (i j : Nat) : Nat := 0x074020 + 0x100 * i + 0x4 * j
abbrev LIFT_DOOR_LEARN (i j : Nat) : Nat := 0x074048 + 0x100 * i + 0x4 * j
abbrev LIFT_DOOR_DERIVED (i j : Nat) : Nat := 0x074058 + 0x100 * i + 0x4 * j
abbrev LIFT_ENC_CFG (i : Nat) : Nat := 0x076000 + 0x10 * i
abbrev LIFT_ENC_COUNT (i : Nat) : Nat := 0x076004 + 0x10 * i
abbrev LIFT_ENC_QERR (i : Nat) : Nat := 0x076008 + 0x10 * i
/-! #### spec/10_dispatch_and_interlocks.md -/

abbrev DISP_CTRL : Nat := 0x080000
abbrev DISP_STAT : Nat := 0x080004
abbrev DISP_CYCLE_CNT : Nat := 0x080008
abbrev DISP_DROP_CNT : Nat := 0x08000C
abbrev DISP_DEFER_CNT : Nat := 0x080010
abbrev DISP_FULL_CNT : Nat := 0x080014
abbrev DISP_CAND : Nat := 0x080018
abbrev DISP_CFG : Nat := 0x08001C
abbrev DISP_WEIGHT (i : Nat) : Nat := 0x080020 + 0x4 * i
abbrev DISP_CAR_PTS0 (i : Nat) : Nat := 0x080100 + 0x40 * i
abbrev DISP_CAR_PTS1 (i : Nat) : Nat := 0x080104 + 0x40 * i
abbrev DISP_CAR_KIN0 (i : Nat) : Nat := 0x080108 + 0x40 * i
abbrev DISP_CAR_KIN1 (i : Nat) : Nat := 0x08010C + 0x40 * i
abbrev DISP_CAR_STAT (i : Nat) : Nat := 0x080110 + 0x40 * i
abbrev DISP_CAR_REQ (i : Nat) : Nat := 0x080114 + 0x40 * i
abbrev DISP_CALL_SEL : Nat := 0x080800
abbrev DISP_CALL_INFO : Nat := 0x080804
abbrev DISP_CALL_AGE : Nat := 0x080808
abbrev SAFE_STAT : Nat := 0x090000
abbrev SAFE_SEQ : Nat := 0x090004
abbrev SAFE_AGE : Nat := 0x090008
abbrev SAFE_PARAM_ID : Nat := 0x09000C
abbrev SAFE_CAR_GRANT (i : Nat) : Nat := 0x090100 + 0x40 * i
abbrev SAFE_CAR_CHAIN (i : Nat) : Nat := 0x090104 + 0x40 * i
abbrev SAFE_CAR_IO (i : Nat) : Nat := 0x090108 + 0x40 * i
abbrev SAFE_CAR_LATCH (i : Nat) : Nat := 0x09010C + 0x40 * i
/-! #### spec/11_metering.md -/

abbrev METER_CTRL : Nat := 0x0A0000
abbrev METER_STAT : Nat := 0x0A0004
abbrev METER_SAVE_CFG : Nat := 0x0A0008
abbrev METER_SAVE_CNT : Nat := 0x0A000C
abbrev METER_CAL_GEN : Nat := 0x0A0010
abbrev METER_SNAP_TIME_LO : Nat := 0x0A0014
abbrev METER_SNAP_TIME_HI : Nat := 0x0A0018
abbrev METER_CAL_CMD : Nat := 0x0A001C
abbrev METER_SUP_CFG (i : Nat) : Nat := 0x0A0100 + 0x10 * i
abbrev METER_SUP_STAT (i : Nat) : Nat := 0x0A0104 + 0x10 * i
abbrev METER_VCH_FS (i : Nat) : Nat := 0x0A0200 + 0x10 * i
abbrev METER_VCH_COR (i : Nat) : Nat := 0x0A0204 + 0x10 * i
abbrev METER_PULSE_CFG (i : Nat) : Nat := 0x0A0400 + 0x10 * i
abbrev METER_PULSE_K (i : Nat) : Nat := 0x0A0404 + 0x10 * i
abbrev METER_PULSE_STAT (i : Nat) : Nat := 0x0A0408 + 0x10 * i
abbrev METER_CKT_CFG (i : Nat) : Nat := 0x0A1000 + 0x80 * i
abbrev METER_CKT_CREEP (i : Nat) : Nat := 0x0A1004 + 0x80 * i
abbrev METER_CKT_REV (i : Nat) : Nat := 0x0A1008 + 0x80 * i
abbrev METER_CKT_BATCFG (i : Nat) : Nat := 0x0A100C + 0x80 * i
abbrev METER_CKT_STAT (i : Nat) : Nat := 0x0A1010 + 0x80 * i
abbrev METER_CKT_EXTRAP (i : Nat) : Nat := 0x0A1014 + 0x80 * i
abbrev METER_CKT_BAT (i : Nat) : Nat := 0x0A1018 + 0x80 * i
abbrev METER_CKT_CMD (i : Nat) : Nat := 0x0A101C + 0x80 * i
abbrev METER_CAL_FS (i : Nat) : Nat := 0x0A2000 + 0x40 * i
abbrev METER_CAL_CFG (i : Nat) : Nat := 0x0A2004 + 0x40 * i
abbrev METER_CAL_BP (i j : Nat) : Nat := 0x0A2008 + 0x40 * i + 0x8 * j
abbrev METER_CAL_COR (i j : Nat) : Nat := 0x0A200C + 0x40 * i + 0x8 * j
abbrev METER_QMAP (i : Nat) : Nat := 0x0A4000 + 0x4 * i
/-! #### spec/12_field_io_and_dali.md -/

abbrev FIELD_CTRL : Nat := 0x0B0000
abbrev FIELD_STAT : Nat := 0x0B0004
abbrev FIELD_COS (i : Nat) : Nat := 0x0B0010 + 0x4 * i
abbrev FIELD_COS_EN (i : Nat) : Nat := 0x0B0020 + 0x4 * i
abbrev FIELD_DI_CFG (i : Nat) : Nat := 0x0B0100 + 0x10 * i
abbrev FIELD_DI_STAT (i : Nat) : Nat := 0x0B0104 + 0x10 * i
abbrev FIELD_DI_EDGES (i : Nat) : Nat := 0x0B0108 + 0x10 * i
abbrev FIELD_DO_SRC (i : Nat) : Nat := 0x0B1000 + 0x10 * i
abbrev FIELD_DO_CFG (i : Nat) : Nat := 0x0B1004 + 0x10 * i
abbrev FIELD_DO_STAT (i : Nat) : Nat := 0x0B1008 + 0x10 * i
abbrev FIELD_DO_FCNT (i : Nat) : Nat := 0x0B100C + 0x10 * i
abbrev FIELD_DO_GRP (i : Nat) : Nat := 0x0B1400 + 0x4 * i
abbrev FIELD_AI_CFG (i : Nat) : Nat := 0x0B2000 + 0x10 * i
abbrev FIELD_AI_RAW (i : Nat) : Nat := 0x0B2004 + 0x10 * i
abbrev FIELD_AO_CFG (i : Nat) : Nat := 0x0B2400 + 0x10 * i
abbrev FIELD_AO_STAT (i : Nat) : Nat := 0x0B2404 + 0x10 * i
abbrev FIELD_CS_SCALE (i : Nat) : Nat := 0x0B2800 + 0x4 * i
abbrev FIELD_GEN_CFG (i : Nat) : Nat := 0x0B3000 + 0x20 * i
abbrev FIELD_GEN_DUTY (i j : Nat) : Nat := 0x0B3004 + 0x20 * i + 0x4 * j
abbrev FIELD_GEN_CS (i j : Nat) : Nat := 0x0B3010 + 0x20 * i + 0x4 * j
abbrev DALI_CTRL : Nat := 0x0C0000
abbrev DALI_STAT : Nat := 0x0C0004
abbrev DALI_COALESCED : Nat := 0x0C0008
abbrev DALI_OUT_MERGED : Nat := 0x0C000C
abbrev DALI_ERR : Nat := 0x0C0010
abbrev DALI_RAW_CTRL : Nat := 0x0C0020
abbrev DALI_RAW_DATA : Nat := 0x0C0024
abbrev DALI_RAW_STAT : Nat := 0x0C0028
abbrev DALI_LINE_CFG (i : Nat) : Nat := 0x0C0100 + 0x40 * i
abbrev DALI_LINE_CMD (i : Nat) : Nat := 0x0C0104 + 0x40 * i
abbrev DALI_LINE_STAT (i : Nat) : Nat := 0x0C0108 + 0x40 * i
abbrev DALI_LINE_ERR (i : Nat) : Nat := 0x0C010C + 0x40 * i
abbrev DALI_LINE_GEAR_LO (i : Nat) : Nat := 0x0C0110 + 0x40 * i
abbrev DALI_LINE_GEAR_HI (i : Nat) : Nat := 0x0C0114 + 0x40 * i
abbrev DALI_LINE_DEV_LO (i : Nat) : Nat := 0x0C0118 + 0x40 * i
abbrev DALI_LINE_DEV_HI (i : Nat) : Nat := 0x0C011C + 0x40 * i
abbrev DALI_OUT (i : Nat) : Nat := 0x0C1000 + 0x4 * i
abbrev DALI_EVT (i : Nat) : Nat := 0x0C2000 + 0x4 * i
/-! #### spec/14_serial_buses_and_access.md -/

abbrev SER_CH_CFG (i : Nat) : Nat := 0x0D0100 + 0x40 * i
abbrev SER_CH_STAT (i : Nat) : Nat := 0x0D0104 + 0x40 * i
abbrev SER_CH_ERR (i : Nat) : Nat := 0x0D0108 + 0x40 * i
abbrev SER_CAN_CFG (i : Nat) : Nat := 0x0D1000 + 0x40 * i
abbrev SER_CAN_STAT (i : Nat) : Nat := 0x0D1004 + 0x40 * i
abbrev SER_CAN_CNT (i : Nat) : Nat := 0x0D1008 + 0x40 * i
abbrev ACC_CTRL : Nat := 0x0E0000
abbrev ACC_STATE : Nat := 0x0E0004
abbrev ACC_STAT : Nat := 0x0E0008
abbrev ACC_MISSES : Nat := 0x0E000C
abbrev ACC_CRED_W (i : Nat) : Nat := 0x0E0020 + 0x4 * i
abbrev ACC_CRED_CMD : Nat := 0x0E0040
abbrev ACC_CRED_STAT : Nat := 0x0E0044
abbrev ACC_DOORSET (i j : Nat) : Nat := 0x0E1000 + 0x10 * i + 0x4 * j
abbrev ACC_DOOR_PTS0 (i : Nat) : Nat := 0x0E2000 + 0x20 * i
abbrev ACC_DOOR_PTS1 (i : Nat) : Nat := 0x0E2004 + 0x20 * i
abbrev ACC_DOOR_PTS2 (i : Nat) : Nat := 0x0E2008 + 0x20 * i
abbrev ACC_DOOR_CFG (i : Nat) : Nat := 0x0E200C + 0x20 * i
abbrev ACC_DOOR_STAT (i : Nat) : Nat := 0x0E2010 + 0x20 * i
abbrev ACC_DOOR_CMD (i : Nat) : Nat := 0x0E2014 + 0x20 * i
abbrev ACC_DOOR_RDR (i : Nat) : Nat := 0x0E2018 + 0x20 * i
/-! #### spec/13_frame_networks.md -/

abbrev NET_CTRL (i : Nat) : Nat := 0x100000 + 0x10000 * i
abbrev NET_STAT (i : Nat) : Nat := 0x100004 + 0x10000 * i
abbrev NET_MAXLEN (i : Nat) : Nat := 0x100008 + 0x10000 * i
abbrev NET_TX_THRESH (i : Nat) : Nat := 0x10000C + 0x10000 * i
abbrev NET_PAUSE (i : Nat) : Nat := 0x100010 + 0x10000 * i
abbrev NET_EEE_CFG (i : Nat) : Nat := 0x100014 + 0x10000 * i
abbrev NET_EEE_STAT (i : Nat) : Nat := 0x100018 + 0x10000 * i
abbrev NET_RX_FRAMES (i : Nat) : Nat := 0x100040 + 0x10000 * i
abbrev NET_RX_FCS_ERR (i : Nat) : Nat := 0x100044 + 0x10000 * i
abbrev NET_RX_FILTERED (i : Nat) : Nat := 0x100048 + 0x10000 * i
abbrev NET_RX_OVERSIZE (i : Nat) : Nat := 0x10004C + 0x10000 * i
abbrev NET_RX_OVF (i : Nat) : Nat := 0x100050 + 0x10000 * i
abbrev NET_RX_PAUSE (i : Nat) : Nat := 0x100054 + 0x10000 * i
abbrev NET_PAUSE_CAPPED (i : Nat) : Nat := 0x100058 + 0x10000 * i
abbrev NET_TX_FRAMES (i : Nat) : Nat := 0x10005C + 0x10000 * i
abbrev NET_TX_UNDERRUN (i : Nat) : Nat := 0x100060 + 0x10000 * i
abbrev NET_GATE_MISSED (i : Nat) : Nat := 0x100064 + 0x10000 * i
abbrev NET_GATE_OVERSIZE (i : Nat) : Nat := 0x100068 + 0x10000 * i
abbrev NET_LPI_ABORTS (i : Nat) : Nat := 0x10006C + 0x10000 * i
abbrev NET_LPI_LATE (i : Nat) : Nat := 0x100070 + 0x10000 * i
abbrev NET_TX_COLL (i : Nat) : Nat := 0x100074 + 0x10000 * i
abbrev NET_RISER_BADTYPE (i : Nat) : Nat := 0x100078 + 0x10000 * i
abbrev NET_FILT_LO (i j : Nat) : Nat := 0x100100 + 0x10000 * i + 0x8 * j
abbrev NET_FILT_HI (i j : Nat) : Nat := 0x100104 + 0x10000 * i + 0x8 * j
abbrev NET_GATE_CTRL (i : Nat) : Nat := 0x100200 + 0x10000 * i
abbrev NET_GATE_CYCLE (i : Nat) : Nat := 0x100204 + 0x10000 * i
abbrev NET_GATE_BASE_LO (i : Nat) : Nat := 0x100208 + 0x10000 * i
abbrev NET_GATE_BASE_HI (i : Nat) : Nat := 0x10020C + 0x10000 * i
abbrev NET_GATE_STAT (i : Nat) : Nat := 0x100210 + 0x10000 * i
abbrev NET_GATE_LIST (i j k : Nat) : Nat := 0x100400 + 0x10000 * i + 0x100 * j + 0x4 * k
abbrev NET_PLCA_CFG (i : Nat) : Nat := 0x100800 + 0x10000 * i
abbrev NET_PLCA_BURST (i : Nat) : Nat := 0x100804 + 0x10000 * i
abbrev NET_PLCA_STAT (i : Nat) : Nat := 0x100808 + 0x10000 * i
abbrev NET_PLCA_LOSS (i : Nat) : Nat := 0x10080C + 0x10000 * i
abbrev NET_T1L_CFG (i : Nat) : Nat := 0x100900 + 0x10000 * i
abbrev NET_T1L_STAT (i : Nat) : Nat := 0x100904 + 0x10000 * i
abbrev NET_RISER_DOWN_CNT (i : Nat) : Nat := 0x100908 + 0x10000 * i
abbrev PRP_CTRL : Nat := 0x180000
abbrev PRP_CFG : Nat := 0x180004
abbrev PRP_FORGET : Nat := 0x180008
abbrev PRP_STAT : Nat := 0x18000C
abbrev PRP_TX_A : Nat := 0x180010
abbrev PRP_TX_B : Nat := 0x180014
abbrev PRP_RX_A : Nat := 0x180018
abbrev PRP_RX_B : Nat := 0x18001C
abbrev PRP_ERR_WRONG_LAN_A : Nat := 0x180020
abbrev PRP_ERR_WRONG_LAN_B : Nat := 0x180024
abbrev PRP_DUP : Nat := 0x180028
abbrev PRP_UNIQUE_A : Nat := 0x18002C
abbrev PRP_UNIQUE_B : Nat := 0x180030
abbrev PRP_EVICT : Nat := 0x180034
abbrev PRP_TX_NO_RCT : Nat := 0x180038
/-! #### spec/15_time_base.md -/

abbrev TIME_CTRL : Nat := 0x190000
abbrev TIME_STAT : Nat := 0x190004
abbrev TIME_CNT_LO : Nat := 0x190008
abbrev TIME_CNT_HI : Nat := 0x19000C
abbrev TIME_RATE : Nat := 0x190010
abbrev TIME_OFS_SEC_LO : Nat := 0x190014
abbrev TIME_OFS_SEC_HI : Nat := 0x190018
abbrev TIME_OFS_NS : Nat := 0x19001C
abbrev TIME_STEP_CNT : Nat := 0x190020
abbrev TIME_TRIG_CFG (i : Nat) : Nat := 0x190100 + 0x20 * i
abbrev TIME_TRIG_START_LO (i : Nat) : Nat := 0x190104 + 0x20 * i
abbrev TIME_TRIG_START_HI (i : Nat) : Nat := 0x190108 + 0x20 * i
abbrev TIME_TRIG_PERIOD (i : Nat) : Nat := 0x19010C + 0x20 * i
abbrev TIME_TRIG_STAT (i : Nat) : Nat := 0x190110 + 0x20 * i
abbrev TIME_CAP_CFG (i : Nat) : Nat := 0x190200 + 0x10 * i
abbrev TIME_CAP_INFO (i : Nat) : Nat := 0x190204 + 0x10 * i
abbrev TIME_CAP_LO (i : Nat) : Nat := 0x190208 + 0x10 * i
abbrev TIME_CAP_HI (i : Nat) : Nat := 0x19020C + 0x10 * i
/-! #### spec/16_keys_lifecycle_locket.md -/

abbrev KEY_LCS : Nat := 0x1A0000
abbrev KEY_CMD : Nat := 0x1A0004
abbrev KEY_STAT : Nat := 0x1A0008
abbrev KEY_OP : Nat := 0x1A000C
abbrev KEY_OP_AAD : Nat := 0x1A0010
abbrev KEY_DENY_CNT : Nat := 0x1A0014
abbrev KEY_SLOT_ATTR (i : Nat) : Nat := 0x1A0100 + 0x8 * i
abbrev KEY_SLOT_BIND (i : Nat) : Nat := 0x1A0104 + 0x8 * i
abbrev KEY_TAMPER_CFG : Nat := 0x1A0200
abbrev KEY_TAMPER_STAT : Nat := 0x1A0204
abbrev KEY_BUF (i : Nat) : Nat := 0x1A8000 + 0x4 * i
/-! #### spec/22_event_recorder_and_debug.md -/

abbrev EVT_CTRL : Nat := 0x1B0000
abbrev EVT_STAT : Nat := 0x1B0004
abbrev EVT_HEAD : Nat := 0x1B0008
abbrev EVT_TAIL_SRAM : Nat := 0x1B000C
abbrev EVT_TAIL_FLASH : Nat := 0x1B0010
abbrev EVT_BOOT : Nat := 0x1B0014
abbrev EVT_PF : Nat := 0x1B0018
abbrev EVT_LOST (i : Nat) : Nat := 0x1B0020 + 0x4 * i
abbrev EVT_RD_SEL : Nat := 0x1B0040
abbrev EVT_RD_CMD : Nat := 0x1B0044
abbrev EVT_RD_STAT : Nat := 0x1B0048
abbrev EVT_RD_DATA (i : Nat) : Nat := 0x1B0080 + 0x4 * i
abbrev EVT_TRIG_CFG (i : Nat) : Nat := 0x1B1000 + 0x80 * i
abbrev EVT_TRIG_CODE (i : Nat) : Nat := 0x1B1004 + 0x80 * i
abbrev EVT_TRIG_ADDR (i j : Nat) : Nat := 0x1B1040 + 0x80 * i + 0x4 * j
/-! #### spec/21_firmware_update.md -/

abbrev FWU_CTRL : Nat := 0x1C0000
abbrev FWU_CFG : Nat := 0x1C0004
abbrev FWU_STAT : Nat := 0x1C0008
abbrev FWU_OFFSET : Nat := 0x1C000C
abbrev FWU_LEN : Nat := 0x1C0010
abbrev FWU_REPORT_DEADLINE : Nat := 0x1C0014
abbrev FWU_TRIAL : Nat := 0x1C0018
abbrev FWU_FWD : Nat := 0x1C001C
abbrev FWU_MIGRATE_CNT : Nat := 0x1C0020
abbrev FWU_JOURNAL : Nat := 0x1C0024
abbrev FWU_SLOT_STAT (i : Nat) : Nat := 0x1C0100 + 0x10 * i
abbrev FWU_SLOT_VER (i : Nat) : Nat := 0x1C0104 + 0x10 * i
abbrev FWU_SLOT_ID_LO (i : Nat) : Nat := 0x1C0108 + 0x10 * i
abbrev FWU_SLOT_ID_HI (i : Nat) : Nat := 0x1C010C + 0x10 * i
abbrev FWU_BUF (i : Nat) : Nat := 0x1C8000 + 0x4 * i
/-! #### spec/17_hosts_ownership_charm.md -/

abbrev CHARM_STAT : Nat := 0x1D0000
abbrev CHARM_XFER : Nat := 0x1D0004
abbrev CHARM_XFER_STAT : Nat := 0x1D0008
abbrev CHARM_CFG : Nat := 0x1D000C
abbrev CHARM_LOCK (i : Nat) : Nat := 0x1D0010 + 0x4 * i
abbrev CHARM_HELD (i : Nat) : Nat := 0x1D0018 + 0x4 * i
abbrev CHARM_RFLOCK (i : Nat) : Nat := 0x1D0020 + 0x4 * i
abbrev CHARM_CNT : Nat := 0x1D0028
abbrev CHARM_BUF (i : Nat) : Nat := 0x1D0100 + 0x4 * i
/-! #### spec/18_register_interface.md -/

abbrev MBOX_SEL : Nat := 0x1E0000
abbrev MBOX_STAT : Nat := 0x1E0004
abbrev MBOX_PAGE : Nat := 0x1E0008
abbrev MBOX_DATA (i : Nat) : Nat := 0x1E0010 + 0x4 * i
/-! #### spec/22_event_recorder_and_debug.md -/

abbrev DBG_STAT : Nat := 0x1F0000
abbrev DBG_AUTH_CMD : Nat := 0x1F0004
abbrev DBG_AUTH_STAT : Nat := 0x1F0008
abbrev DBG_NONCE (i : Nat) : Nat := 0x1F0010 + 0x4 * i
abbrev DBG_CORE_SEL : Nat := 0x1F0040
abbrev DBG_CORE_CMD : Nat := 0x1F0044
abbrev DBG_CORE_STAT : Nat := 0x1F0048
abbrev DBG_CORE_RSEL : Nat := 0x1F004C
abbrev DBG_CORE_RDATA : Nat := 0x1F0050
abbrev DBG_PEEK_ADDR : Nat := 0x1F0060
abbrev DBG_PEEK_DATA : Nat := 0x1F0064
abbrev DBG_HALT_ABANDON : Nat := 0x1F0068
abbrev DBG_AUTH_BUF (i : Nat) : Nat := 0x1F1000 + 0x4 * i

end Sys2Proof.Machine.Reg

namespace Sys2Proof.Machine

/-- One row of the register tables: an array of registers at `base` with the given counts and strides, its reset value, and
its bits of type RW, W1C, RC and RSV (R5). Every other bit is RO or WO and keeps its value under a write. -/
structure RegSpec where
  base : Nat
  dims : List (Nat × Nat)
  reset : Word
  rw : Word
  w1c : Word
  rc : Word
  rsv : Word
deriving DecidableEq, Repr

/-- The registers of the block at 0x00_0000, part 1. -/
def regRows00_0 : List RegSpec := [
  ⟨0x000000, [], 0x48000000, 0, 0, 0, 0xE0⟩,
  ⟨0x000004, [], 0, 0, 0, 0, 0⟩,
  ⟨0x000008, [], 0, 0, 0, 0, 0⟩,
  ⟨0x00000C, [], 0, 0, 0x300, 0, 0xFFFFFCFC⟩,
  ⟨0x000010, [], 0, 0, 0, 0, 0xFFFFFFFC⟩,
  ⟨0x000014, [], 0, 0, 0, 0xFFFFFFFF, 0⟩,
  ⟨0x000018, [], 0, 0, 0, 0, 0xC0000000⟩,
  ⟨0x00001C, [], 0, 0, 0, 0xFFFF, 0xFFFF0000⟩,
  ⟨0x000020, [], 0, 0, 0, 0xFFFFFFFF, 0⟩,
  ⟨0x000024, [], 0, 0, 0, 0, 0x8000⟩,
  ⟨0x000028, [], 0, 0, 0, 0xFFFFFFFF, 0⟩,
  ⟨0x000030, [], 0, 0xFFFFFFFF, 0, 0, 0⟩,
  ⟨0x000100, [], 0, 0, 0, 0, 0xFFFE00F8⟩,
  ⟨0x000104, [], 0, 0, 0, 0, 0xFFFFFE⟩,
  ⟨0x000108, [], 0xFF00, 0, 0x40, 0, 0xFC000080⟩,
  ⟨0x00010C, [], 0, 0, 0, 0, 0⟩]

/-- The registers of the block at 0x01_0000, part 1. -/
def regRows01_0 : List RegSpec := [
  ⟨0x010000, [], 0, 0, 0, 0, 0x8000000⟩,
  ⟨0x010004, [], 0, 0, 0x40, 0, 0xFC000080⟩,
  ⟨0x010008, [], 0, 0, 0, 0, 0xFFFF0000⟩,
  ⟨0x01000C, [], 0, 0, 0, 0x7, 0xFFFFFFF8⟩,
  ⟨0x010010, [], 0, 0, 0, 0xFFFFFFFF, 0⟩,
  ⟨0x010014, [], 0x1, 0x1, 0, 0, 0xFFFFFFFE⟩,
  ⟨0x010020, [(8, 4)], 0x2, 0xFFFFFF, 0, 0, 0xFF000000⟩,
  ⟨0x010040, [], 0x2, 0, 0, 0, 0xFF000000⟩,
  ⟨0x010080, [(2, 4)], 0, 0, 0xFFF, 0, 0xFFFFF000⟩,
  ⟨0x010088, [(2, 4)], 0, 0xFFF, 0, 0, 0xFFFFF000⟩]

/-- The registers of the block at 0x02_0000, part 1. -/
def regRows02_0 : List RegSpec := [
  ⟨0x020000, [], 0, 0, 0x40, 0, 0xFFFFFF80⟩,
  ⟨0x020004, [], 0x2, 0x7, 0, 0, 0xFFFFFFF8⟩,
  ⟨0x020008, [], 0, 0, 0, 0, 0xFFFFFFE0⟩,
  ⟨0x02000C, [], 0, 0, 0xFF, 0, 0xFFFFFF00⟩,
  ⟨0x020010, [(3, 4)], 0, 0, 0, 0xFFFFFFFF, 0⟩,
  ⟨0x02001C, [], 0, 0, 0, 0xFFFFFFFF, 0⟩,
  ⟨0x020020, [], 0, 0, 0, 0, 0xFF80⟩,
  ⟨0x020024, [], 0xF, 0, 0, 0, 0xFFFFFFC0⟩,
  ⟨0x020040, [], 0x5A0A02, 0xFFFFFF03, 0, 0, 0xFC⟩,
  ⟨0x020044, [], 0, 0, 0, 0, 0xFFFFFFF8⟩,
  ⟨0x020048, [], 0xFFFFFFFF, 0, 0, 0, 0⟩,
  ⟨0x02004C, [], 0, 0, 0, 0xFFFFFFFF, 0⟩,
  ⟨0x020080, [(2, 16)], 0, 0, 0, 0, 0xFFFFE008⟩,
  ⟨0x020084, [(2, 16)], 0, 0, 0, 0, 0⟩,
  ⟨0x020088, [(2, 16)], 0, 0, 0, 0, 0⟩]

/-- The registers of the block at 0x03_0000, part 1. -/
def regRows03_0 : List RegSpec := [
  ⟨0x030000, [], 1, 0, 0, 0, 0xFFFE⟩,
  ⟨0x030010, [(2, 4)], 1, 0, 0, 0xFFFF0000, 0xFE⟩,
  ⟨0x030100, [(100, 4)], 0, 0, 0, 0, 0xE00000F0⟩]

/-- The registers of the block at 0x04_0000, part 1. -/
def regRows04_0 : List RegSpec := [
  ⟨0x040000, [], 0, 0x1, 0, 0, 0xFFFFFFFE⟩,
  ⟨0x040004, [], 0, 0, 0x18, 0, 0xFFF80FE0⟩,
  ⟨0x040008, [], 0, 0, 0, 0xFFFFFFFF, 0⟩,
  ⟨0x04000C, [], 0, 0, 0, 0xFFFFFFFF, 0⟩,
  ⟨0x040010, [], 0, 0, 0, 0xFFFFFFFF, 0⟩,
  ⟨0x040014, [], 0, 0, 0, 0xFFFFFFFF, 0⟩,
  ⟨0x040018, [], 0, 0, 0, 0, 0x7FFFF000⟩,
  ⟨0x040020, [], 0x18000000, 0, 0, 0, 0xC000C000⟩,
  ⟨0x040024, [], 0, 0, 0, 0xFFFFFFFF, 0⟩,
  ⟨0x040100, [(8, 4)], 0, 0xFFFF, 0, 0, 0xFFFF0000⟩,
  ⟨0x040120, [(8, 4)], 0, 0, 0, 0, 0⟩,
  ⟨0x040200, [(16, 4)], 0x80, 0x7FF, 0, 0, 0xC000F800⟩,
  ⟨0x040240, [(16, 4)], 0, 0, 0, 0xFFFFFFFF, 0⟩,
  ⟨0x040300, [], 0, 0x3FFF, 0, 0, 0xFFFFC000⟩,
  ⟨0x040304, [], 0, 0xFFFFFFFF, 0, 0, 0⟩,
  ⟨0x040308, [], 0, 0xFFFFFFFF, 0, 0, 0⟩,
  ⟨0x04030C, [], 0, 0, 0, 0, 0xFFFFFFFC⟩,
  ⟨0x040310, [], 0, 0, 0x10000, 0, 0xFFFEFE00⟩,
  ⟨0x040400, [(64, 4)], 0x1, 0, 0, 0, 0xF00080FE⟩,
  ⟨0x040800, [], 0, 0, 0, 0, 0xF000FFE0⟩,
  ⟨0x040804, [], 0, 0x1FFFFFF, 0, 0, 0xFE000000⟩,
  ⟨0x040808, [], 0, 0x1FFF, 0, 0, 0xFFFFE000⟩,
  ⟨0x04080C, [], 0, 0, 0, 0, 0xFFF8E0E0⟩,
  ⟨0x040810, [], 0, 0, 0, 0, 0xFFF80000⟩]

/-- The registers of the block at 0x04_0000, part 2. -/
def regRows04_1 : List RegSpec := [
  ⟨0x040814, [], 0x7, 0x7, 0, 0, 0xFFFFFFF8⟩,
  ⟨0x040818, [], 0xFFFFFFFF, 0xFFFFFFFF, 0, 0, 0⟩,
  ⟨0x040820, [], 0, 0, 0, 0, 0⟩,
  ⟨0x040824, [], 0, 0, 0, 0, 0⟩,
  ⟨0x040828, [], 0, 0, 0, 0, 0⟩,
  ⟨0x04082C, [], 0, 0, 0, 0, 0⟩,
  ⟨0x040830, [], 0x1, 0x1, 0, 0, 0xFFFFFFFE⟩,
  ⟨0x040834, [], 0x90, 0, 0, 0, 0xE⟩,
  ⟨0x040838, [], 0, 0xFFF, 0, 0, 0xFFFFF000⟩,
  ⟨0x048000, [(1024, 4)], 0, 0, 0, 0, 0⟩]

/-- The registers of the block at 0x05_0000, part 1. -/
def regRows05_0 : List RegSpec := [
  ⟨0x050000, [], 0, 0, 0, 0, 0xFFFFFFFC⟩,
  ⟨0x050004, [], 0x1010001, 0, 0, 0, 0xE0F0F0FC⟩,
  ⟨0x050008, [], 0, 0, 0, 0, 0⟩,
  ⟨0x05000C, [], 0, 0, 0, 0, 0⟩,
  ⟨0x050010, [], 0, 0, 0, 0xFFFFFFFF, 0⟩,
  ⟨0x050014, [], 0, 0, 0, 0xFFFFFFFF, 0⟩,
  ⟨0x050018, [], 0, 0, 0, 0xFFFFFFFF, 0⟩,
  ⟨0x05001C, [], 0, 0x80000FFF, 0, 0, 0x7FFFF000⟩,
  ⟨0x050020, [], 0, 0, 0, 0xFFFFFFFF, 0⟩,
  ⟨0x050024, [], 0, 0xFFF, 0, 0, 0xFFFFF000⟩,
  ⟨0x050028, [], 0xFF00, 0xFF1F, 0, 0, 0xFFFF00E0⟩,
  ⟨0x05002C, [], 0, 0, 0, 0, 0⟩,
  ⟨0x050030, [], 0, 0, 0, 0, 0xFFFFE000⟩,
  ⟨0x050034, [], 0, 0xFFFFFFFF, 0, 0, 0⟩,
  ⟨0x050038, [], 0, 0xFFFFFFFF, 0, 0, 0⟩,
  ⟨0x05003C, [], 0, 0, 0, 0, 0⟩,
  ⟨0x050040, [], 0, 0, 0, 0, 0⟩,
  ⟨0x050100, [(16, 4)], 0, 0, 0, 0, 0xFFFE0000⟩,
  ⟨0x050140, [(16, 4)], 0, 0, 0, 0xFFFFFFFF, 0⟩,
  ⟨0x058000, [(2048, 16), (4, 4)], 0, 0xFFFFFFFF, 0, 0, 0⟩]

/-- The registers of the block at 0x06_0000, part 1. -/
def regRows06_0 : List RegSpec := [
  ⟨0x060000, [], 0x1, 0x7, 0, 0, 0xFFFFFFF8⟩,
  ⟨0x060004, [], 0, 0, 0, 0, 0xFF80F000⟩,
  ⟨0x060008, [], 0, 0, 0, 0xFFFFFFFF, 0⟩,
  ⟨0x06000C, [], 0, 0, 0, 0xFFFFFFFF, 0⟩,
  ⟨0x060010, [], 0, 0, 0, 0xFFFFFFFF, 0⟩,
  ⟨0x060014, [], 0, 0, 0, 0xFFFFFFFF, 0⟩,
  ⟨0x060018, [], 0, 0, 0, 0xFFFFFFFF, 0⟩,
  ⟨0x060100, [], 0, 0x7FF, 0, 0, 0xFFFFF800⟩,
  ⟨0x060104, [], 0, 0x3FC00, 0, 0, 0xC0000⟩,
  ⟨0x060108, [], 0, 0, 0, 0, 0xC000C000⟩,
  ⟨0x06010C, [], 0, 0, 0, 0, 0xC000C000⟩,
  ⟨0x060110, [], 0, 0, 0, 0, 0xFFFFC000⟩,
  ⟨0x060114, [], 0, 0x7, 0, 0, 0xFF00C088⟩,
  ⟨0x060118, [], 0, 0xFFFF, 0, 0, 0⟩,
  ⟨0x06011C, [], 0, 0, 0, 0, 0xFFFFFFFE⟩,
  ⟨0x060140, [(16, 4)], 0, 0x3FFFFFFF, 0, 0, 0xC0000000⟩,
  ⟨0x060180, [(16, 4)], 0, 0, 0, 0, 0xC0000000⟩,
  ⟨0x0601C0, [(8, 4)], 0, 0, 0, 0, 0xFF000000⟩,
  ⟨0x0601E0, [], 0, 0, 0, 0, 0xFFFFFFC0⟩,
  ⟨0x061000, [(48, 64)], 0, 0x7, 0, 0, 0xFFFFFF88⟩,
  ⟨0x061004, [(48, 64)], 0, 0, 0, 0, 0xFFF0⟩,
  ⟨0x061008, [(48, 64)], 0, 0x7FFFF, 0, 0, 0xFFF80000⟩,
  ⟨0x06100C, [(48, 64)], 0x1001, 0xFF0F, 0, 0, 0⟩,
  ⟨0x06100C, [(48, 64)], 0, 0xFFFFFFFF, 0, 0, 0⟩]

/-- The registers of the block at 0x06_0000, part 2. -/
def regRows06_1 : List RegSpec := [
  ⟨0x061010, [(48, 64)], 0x1000, 0xFFFFFF, 0, 0, 0xFF000000⟩,
  ⟨0x061014, [(48, 64)], 0, 0xFFFFFF, 0, 0, 0xFF000000⟩,
  ⟨0x061018, [(48, 64)], 0, 0, 0, 0, 0xFFFFFFFE⟩,
  ⟨0x061020, [(48, 64), (8, 4)], 0, 0x3FFFFFFF, 0, 0, 0xC0000000⟩,
  ⟨0x062000, [], 0x3E8, 0xFFFF, 0, 0, 0xFFFF0000⟩,
  ⟨0x062004, [], 0, 0, 0x80, 0, 0xFFFF8000⟩,
  ⟨0x062008, [], 0, 0, 0, 0, 0⟩,
  ⟨0x06200C, [], 0, 0x3F, 0, 0, 0xFFFFFFC0⟩,
  ⟨0x062010, [], 0, 0, 0, 0, 0xFFFFFFFE⟩,
  ⟨0x062100, [(64, 32)], 0, 0x1, 0, 0, 0xFFFC0000⟩,
  ⟨0x062104, [(64, 32)], 0, 0, 0, 0, 0⟩,
  ⟨0x062108, [(64, 32)], 0, 0, 0, 0xFFFFFFFF, 0⟩,
  ⟨0x06210C, [(64, 32)], 0, 0, 0, 0, 0xC0000000⟩,
  ⟨0x063000, [], 0, 0, 0, 0, 0xFFFFFFFC⟩,
  ⟨0x063004, [], 0, 0, 0, 0, 0xFFFFFFFC⟩,
  ⟨0x063008, [], 0, 0xFFF7F, 0, 0, 0xFFF00080⟩,
  ⟨0x06300C, [], 0, 0xFFFFFFFF, 0, 0, 0⟩,
  ⟨0x063010, [], 0, 0, 0, 0, 0⟩,
  ⟨0x063014, [], 0, 0, 0, 0, 0⟩,
  ⟨0x063018, [], 0, 0xF, 0, 0, 0xFFFFFFF0⟩,
  ⟨0x063040, [(16, 4)], 0, 0x7FFFFFFF, 0, 0, 0x80000000⟩,
  ⟨0x064000, [(512, 4)], 0, 0xFFFFFFFF, 0, 0, 0⟩,
  ⟨0x06C000, [(4096, 4)], 0, 0, 0, 0, 0⟩]

/-- The registers of the block at 0x07_0000, part 1. -/
def regRows07_0 : List RegSpec := [
  ⟨0x070000, [], 0, 0x1, 0, 0, 0xFFFFFFFE⟩,
  ⟨0x070004, [], 0, 0, 0, 0, 0xFF000000⟩,
  ⟨0x070008, [], 0, 0, 0, 0xFFFFFFFF, 0⟩,
  ⟨0x07000C, [], 0, 0, 0, 0xFFFFFFFF, 0⟩,
  ⟨0x070100, [(8, 256)], 0, 0x1FF7FFF, 0x8000, 0, 0xFE000000⟩,
  ⟨0x070104, [(8, 256)], 0, 0xFFFFFFFF, 0, 0, 0⟩,
  ⟨0x070108, [(8, 256)], 0, 0xFFFFFFFF, 0, 0, 0⟩,
  ⟨0x07010C, [(8, 256)], 0, 0xFFFFFFFF, 0, 0, 0⟩,
  ⟨0x070110, [(8, 256)], 0xC800640, 0xFFFFFFFF, 0, 0, 0⟩,
  ⟨0x070114, [(8, 256)], 0, 0, 0, 0, 0xFFFFFFFC⟩,
  ⟨0x070118, [(8, 256)], 0x3FC, 0, 0, 0, 0xFFF0F000⟩,
  ⟨0x07011C, [(8, 256)], 0, 0, 0, 0, 0⟩,
  ⟨0x070120, [(8, 256)], 0, 0, 0, 0, 0⟩,
  ⟨0x070124, [(8, 256)], 0, 0, 0, 0, 0⟩,
  ⟨0x070128, [(8, 256)], 0, 0, 0, 0, 0⟩,
  ⟨0x07012C, [(8, 256)], 0, 0, 0, 0xFFFFFFFF, 0⟩,
  ⟨0x070130, [(8, 256)], 0xFF00, 0, 0, 0x1FFFF, 0xFFFE0000⟩,
  ⟨0x070134, [(8, 256)], 0, 0, 0, 0, 0⟩,
  ⟨0x071000, [(8, 1024), (128, 8), (2, 4)], 0, 0xFFFFFFFF, 0, 0, 0⟩,
  ⟨0x074000, [(16, 256)], 0, 0x7F, 0, 0, 0xFFFFFF80⟩,
  ⟨0x074004, [(16, 256)], 0, 0x3FFF3FFF, 0, 0, 0xC000C000⟩,
  ⟨0x074008, [(16, 256)], 0x80000, 0, 0x30, 0, 0xFFF00000⟩,
  ⟨0x07400C, [(16, 256)], 0, 0xFFFFFFFF, 0, 0, 0⟩,
  ⟨0x074010, [(16, 256)], 0x1400040, 0xFFFFFFFF, 0, 0, 0⟩]

/-- The registers of the block at 0x07_0000, part 2. -/
def regRows07_1 : List RegSpec := [
  ⟨0x074014, [(16, 256)], 0, 0, 0, 0, 0⟩,
  ⟨0x074020, [(16, 256), (10, 4)], 0, 0x3FFFFFFF, 0, 0, 0xC0000000⟩,
  ⟨0x074048, [(16, 256), (3, 4)], 0, 0, 0, 0, 0xC0000000⟩,
  ⟨0x074058, [(16, 256), (3, 4)], 0, 0, 0, 0, 0xC0000000⟩,
  ⟨0x076000, [(32, 16)], 0x3, 0x7, 0, 0, 0xFFFFFFF8⟩,
  ⟨0x076004, [(32, 16)], 0, 0, 0, 0, 0⟩,
  ⟨0x076008, [(32, 16)], 0, 0, 0, 0xFFFF, 0xFFFF0000⟩]

/-- The registers of the block at 0x08_0000, part 1. -/
def regRows08_0 : List RegSpec := [
  ⟨0x080000, [], 0, 0x1, 0, 0, 0xFFFFFFFE⟩,
  ⟨0x080004, [], 0, 0, 0, 0, 0xF800⟩,
  ⟨0x080008, [], 0, 0, 0, 0, 0⟩,
  ⟨0x08000C, [], 0, 0, 0, 0xFFFFFFFF, 0⟩,
  ⟨0x080010, [], 0, 0, 0, 0xFFFFFFFF, 0⟩,
  ⟨0x080014, [], 0, 0, 0, 0xFFFFFFFF, 0⟩,
  ⟨0x080018, [], 0, 0, 0, 0, 0xFFFFE000⟩,
  ⟨0x08001C, [], 0x150, 0x1FF, 0, 0, 0xFFFFFE00⟩,
  ⟨0x080020, [(5, 4)], 0x100, 0xFFFF, 0, 0, 0xFFFF0000⟩,
  ⟨0x080100, [(8, 64)], 0, 0x3FFF3FFF, 0, 0, 0xC000C000⟩,
  ⟨0x080104, [(8, 64)], 0, 0x13FFF, 0x20000, 0, 0xFFFCC000⟩,
  ⟨0x080108, [(8, 64)], 0, 0xFFFFFFFF, 0, 0, 0⟩,
  ⟨0x08010C, [(8, 64)], 0, 0xFFFFFFFF, 0, 0, 0⟩,
  ⟨0x080110, [(8, 64)], 0, 0, 0, 0, 0xFFFFC000⟩,
  ⟨0x080114, [(8, 64)], 0, 0x3FFF, 0, 0, 0xFFFFC000⟩,
  ⟨0x080800, [], 0, 0xFF, 0, 0, 0xFFFFFF00⟩,
  ⟨0x080804, [], 0, 0, 0, 0, 0xF8000000⟩,
  ⟨0x080808, [], 0, 0, 0, 0, 0xC0000000⟩]

/-- The registers of the block at 0x09_0000, part 1. -/
def regRows09_0 : List RegSpec := [
  ⟨0x090000, [], 0xFF0000, 0, 0, 0, 0xFF0000F0⟩,
  ⟨0x090004, [], 0, 0, 0, 0, 0⟩,
  ⟨0x090008, [], 0xFFFF, 0, 0, 0, 0xFFFF0000⟩,
  ⟨0x09000C, [], 0, 0, 0, 0, 0⟩,
  ⟨0x090100, [(8, 64)], 0, 0, 0, 0, 0xFFF0E0C0⟩,
  ⟨0x090104, [(8, 64)], 0xFFFFFF, 0, 0, 0, 0xE0000000⟩,
  ⟨0x090108, [(8, 64)], 0, 0, 0, 0, 0xFFE0⟩,
  ⟨0x09010C, [(8, 64)], 0, 0, 0, 0, 0xFFC0⟩]

/-- The registers of the block at 0x0A_0000, part 1. -/
def regRows0A_0 : List RegSpec := [
  ⟨0x0A0000, [], 0x3, 0x3, 0, 0, 0xFFFFFFF0⟩,
  ⟨0x0A0004, [], 0, 0, 0xFC, 0, 0xFFFFFC00⟩,
  ⟨0x0A0008, [], 0x3C, 0xFFF, 0, 0, 0xFFFFF000⟩,
  ⟨0x0A000C, [], 0, 0, 0, 0, 0⟩,
  ⟨0x0A0010, [], 0, 0, 0, 0, 0⟩,
  ⟨0x0A0014, [], 0, 0, 0, 0, 0⟩,
  ⟨0x0A0018, [], 0, 0, 0, 0, 0⟩,
  ⟨0x0A001C, [], 0, 0, 0, 0, 0xFFFFFFFE⟩,
  ⟨0x0A0100, [(2, 16)], 0x8FC, 0x1FFFF, 0, 0, 0xFFFE0000⟩,
  ⟨0x0A0104, [(2, 16)], 0x1C, 0, 0, 0, 0xFFE0⟩,
  ⟨0x0A0200, [(6, 16)], 0, 0xFFFFFFFF, 0, 0, 0⟩,
  ⟨0x0A0204, [(6, 16)], 0, 0xFFFFFFFF, 0, 0, 0⟩,
  ⟨0x0A0400, [(8, 16)], 0x64000, 0x3FFFFF, 0, 0, 0xFFC00000⟩,
  ⟨0x0A0404, [(8, 16)], 0x3E8, 0xFFFFFFFF, 0, 0, 0⟩,
  ⟨0x0A0408, [(8, 16)], 0, 0, 0x10000, 0, 0xFFFE0000⟩,
  ⟨0x0A1000, [(16, 128)], 0x38, 0x7F, 0, 0, 0xFFFFFF80⟩,
  ⟨0x0A1004, [(16, 128)], 0, 0xFFFFFFFF, 0, 0, 0⟩,
  ⟨0x0A1008, [(16, 128)], 0xA000000, 0xFFFFFFFF, 0, 0, 0⟩,
  ⟨0x0A100C, [(16, 128)], 0, 0xFFFFFFFF, 0, 0, 0⟩,
  ⟨0x0A1010, [(16, 128)], 0, 0, 0, 0, 0xFFFFFF00⟩,
  ⟨0x0A1014, [(16, 128)], 0, 0, 0, 0xFFFFFFFF, 0⟩,
  ⟨0x0A1018, [(16, 128)], 0, 0, 0, 0, 0⟩,
  ⟨0x0A101C, [(16, 128)], 0, 0, 0, 0, 0xFFFFFFFE⟩,
  ⟨0x0A2000, [(48, 64)], 0, 0xFFFFFFFF, 0, 0, 0⟩]

/-- The registers of the block at 0x0A_0000, part 2. -/
def regRows0A_1 : List RegSpec := [
  ⟨0x0A2004, [(48, 64)], 0x1, 0x7, 0, 0, 0xFFFFFFF8⟩,
  ⟨0x0A2008, [(48, 64), (4, 8)], 0, 0xFFFFFFFF, 0, 0, 0⟩,
  ⟨0x0A200C, [(48, 64), (4, 8)], 0, 0xFFFFFFFF, 0, 0, 0⟩,
  ⟨0x0A4000, [(1024, 4)], 0, 0x81FFFFFF, 0, 0, 0x7E000000⟩]

/-- The registers of the block at 0x0B_0000, part 1. -/
def regRows0B_0 : List RegSpec := [
  ⟨0x0B0000, [], 0, 0x1, 0, 0, 0xFFFFFFFE⟩,
  ⟨0x0B0004, [], 0xFF, 0, 0x200, 0, 0xFFFFFC00⟩,
  ⟨0x0B0010, [(3, 4)], 0, 0, 0xFFFFFFFF, 0, 0⟩,
  ⟨0x0B0020, [(3, 4)], 0, 0xFFFFFFFF, 0, 0, 0⟩,
  ⟨0x0B0100, [(96, 16)], 0x3010000, 0xFF1FFFFF, 0, 0, 0xE00000⟩,
  ⟨0x0B0104, [(96, 16)], 0, 0, 0, 0, 0xFFFFFC00⟩,
  ⟨0x0B0108, [(96, 16)], 0, 0, 0, 0, 0⟩,
  ⟨0x0B1000, [(64, 16)], 0, 0xFFFF3FFF, 0, 0, 0xC000⟩,
  ⟨0x0B1004, [(64, 16)], 0x14, 0x3F, 0, 0, 0xFFFFFF80⟩,
  ⟨0x0B1008, [(64, 16)], 0, 0, 0, 0, 0xFFFFF0C0⟩,
  ⟨0x0B100C, [(64, 16)], 0, 0, 0, 0xFFFF, 0xFFFF0000⟩,
  ⟨0x0B1400, [(8, 4)], 0x8000, 0, 0, 0, 0xFFFE0000⟩,
  ⟨0x0B2000, [(32, 16)], 0x200000, 0x7F7FFF, 0, 0, 0xFF808000⟩,
  ⟨0x0B2004, [(32, 16)], 0, 0, 0, 0, 0xFFF80000⟩,
  ⟨0x0B2400, [(16, 16)], 0, 0x3FFFF, 0, 0, 0xFFFC0000⟩,
  ⟨0x0B2404, [(16, 16)], 0, 0, 0, 0, 0xFFF80000⟩,
  ⟨0x0B2800, [(32, 4)], 0, 0x3FFFFFFF, 0, 0, 0xC0000000⟩,
  ⟨0x0B3000, [(16, 32)], 0x9C40000, 0xFFFF0001, 0x2, 0, 0xFFFC⟩,
  ⟨0x0B3004, [(16, 32), (3, 4)], 0, 0x3FFF, 0, 0, 0xFFFFC000⟩,
  ⟨0x0B3010, [(16, 32), (2, 4)], 0, 0x7FFF, 0, 0, 0xFFFF8000⟩]

/-- The registers of the block at 0x0C_0000, part 1. -/
def regRows0C_0 : List RegSpec := [
  ⟨0x0C0000, [], 0, 0xFFFFFFFF, 0, 0, 0⟩,
  ⟨0x0C0004, [], 0, 0, 0, 0, 0⟩,
  ⟨0x0C0008, [], 0, 0, 0, 0xFFFFFFFF, 0⟩,
  ⟨0x0C000C, [], 0, 0, 0, 0xFFFFFFFF, 0⟩,
  ⟨0x0C0010, [], 0, 0, 0x1, 0, 0xFFFFFFFE⟩,
  ⟨0x0C0020, [], 0, 0x7F, 0, 0, 0xFFFFFF00⟩,
  ⟨0x0C0024, [], 0, 0xFFFFFF, 0, 0, 0xFF000000⟩,
  ⟨0x0C0028, [], 0, 0, 0, 0, 0xFFFF00F0⟩,
  ⟨0x0C0100, [(16, 64)], 0x28F0, 0xFFFFF, 0, 0, 0xFFF00000⟩,
  ⟨0x0C0104, [(16, 64)], 0, 0, 0, 0, 0xFFFFFFFC⟩,
  ⟨0x0C0108, [(16, 64)], 0, 0, 0, 0, 0xFFFC0000⟩,
  ⟨0x0C010C, [(16, 64)], 0, 0, 0, 0xFFFFFFFF, 0⟩,
  ⟨0x0C0110, [(16, 64)], 0, 0, 0, 0, 0⟩,
  ⟨0x0C0114, [(16, 64)], 0, 0, 0, 0, 0⟩,
  ⟨0x0C0118, [(16, 64)], 0, 0, 0, 0, 0⟩,
  ⟨0x0C011C, [(16, 64)], 0, 0, 0, 0, 0⟩,
  ⟨0x0C1000, [(512, 4)], 0, 0x87FFFFFF, 0, 0, 0x78000000⟩,
  ⟨0x0C2000, [(1024, 4)], 0, 0xFFFFFFFF, 0, 0, 0⟩]

/-- The registers of the block at 0x0D_0000, part 1. -/
def regRows0D_0 : List RegSpec := [
  ⟨0x0D0100, [(8, 64)], 0x7FFF00, 0x3FFFFFFF, 0, 0, 0xC0000000⟩,
  ⟨0x0D0104, [(8, 64)], 0, 0, 0, 0, 0xFFFFFFF8⟩,
  ⟨0x0D0108, [(8, 64)], 0, 0, 0, 0xFFFFFFFF, 0⟩,
  ⟨0x0D1000, [(4, 64)], 0x28, 0x1FF, 0, 0, 0xFFFFFE00⟩,
  ⟨0x0D1004, [(4, 64)], 0x3, 0, 0, 0, 0xFF0000FC⟩,
  ⟨0x0D1008, [(4, 64)], 0, 0, 0, 0xFFFFFFFF, 0⟩]

/-- The registers of the block at 0x0E_0000, part 1. -/
def regRows0E_0 : List RegSpec := [
  ⟨0x0E0000, [], 0, 0x1, 0, 0, 0xFFFFFFFE⟩,
  ⟨0x0E0004, [], 0, 0, 0, 0, 0xC0000000⟩,
  ⟨0x0E0008, [], 0, 0, 0, 0xFFFFFFFF, 0⟩,
  ⟨0x0E000C, [], 0, 0, 0, 0xFFFFFFFF, 0⟩,
  ⟨0x0E0020, [(8, 4)], 0, 0xFFFFFFFF, 0, 0, 0⟩,
  ⟨0x0E0040, [], 0, 0, 0, 0, 0xFFFFFFFC⟩,
  ⟨0x0E0044, [], 0, 0, 0, 0, 0xFFF0⟩,
  ⟨0x0E1000, [(256, 16), (4, 4)], 0, 0xFFFFFFFF, 0, 0, 0⟩,
  ⟨0x0E2000, [(128, 32)], 0, 0x3FFF3FFF, 0, 0, 0xC000C000⟩,
  ⟨0x0E2004, [(128, 32)], 0, 0x3FFF3FFF, 0, 0, 0xC000C000⟩,
  ⟨0x0E2008, [(128, 32)], 0, 0x1FFFF, 0, 0, 0xFFFE0000⟩,
  ⟨0x0E200C, [(128, 32)], 0x1E3204, 0xFFFFFF07, 0, 0, 0xF8⟩,
  ⟨0x0E2010, [(128, 32)], 0, 0, 0x10, 0, 0xFFFFFFE0⟩,
  ⟨0x0E2014, [(128, 32)], 0, 0, 0, 0, 0xFFFFFFF8⟩,
  ⟨0x0E2018, [(128, 32)], 0, 0x7FF, 0, 0, 0xFFFFF800⟩]

/-- The registers of the block at 0x10_0000, part 1. -/
def regRows10_0 : List RegSpec := [
  ⟨0x100000, [(8, 65536)], 0xC, 0x3F, 0, 0, 0xFFFFFFC0⟩,
  ⟨0x100004, [(8, 65536)], 0, 0, 0, 0, 0xFFFFFFC0⟩,
  ⟨0x100008, [(8, 65536)], 0x5F8, 0x3FFF, 0, 0, 0xFFFFC000⟩,
  ⟨0x10000C, [(8, 65536)], 0x100, 0x3FFF, 0, 0, 0xFFFF8000⟩,
  ⟨0x100010, [(8, 65536)], 0x2710, 0xFFFF, 0, 0, 0⟩,
  ⟨0x100014, [(8, 65536)], 0x3E80011, 0xFFFFFFFF, 0, 0, 0⟩,
  ⟨0x100018, [(8, 65536)], 0, 0, 0, 0, 0⟩,
  ⟨0x100040, [(8, 65536)], 0, 0, 0, 0xFFFFFFFF, 0⟩,
  ⟨0x100044, [(8, 65536)], 0, 0, 0, 0xFFFFFFFF, 0⟩,
  ⟨0x100048, [(8, 65536)], 0, 0, 0, 0xFFFFFFFF, 0⟩,
  ⟨0x10004C, [(8, 65536)], 0, 0, 0, 0xFFFFFFFF, 0⟩,
  ⟨0x100050, [(8, 65536)], 0, 0, 0, 0xFFFFFFFF, 0⟩,
  ⟨0x100054, [(8, 65536)], 0, 0, 0, 0xFFFFFFFF, 0⟩,
  ⟨0x100058, [(8, 65536)], 0, 0, 0, 0xFFFFFFFF, 0⟩,
  ⟨0x10005C, [(8, 65536)], 0, 0, 0, 0xFFFFFFFF, 0⟩,
  ⟨0x100060, [(8, 65536)], 0, 0, 0, 0xFFFFFFFF, 0⟩,
  ⟨0x100064, [(8, 65536)], 0, 0, 0, 0xFFFFFFFF, 0⟩,
  ⟨0x100068, [(8, 65536)], 0, 0, 0, 0xFFFFFFFF, 0⟩,
  ⟨0x10006C, [(8, 65536)], 0, 0, 0, 0xFFFFFFFF, 0⟩,
  ⟨0x100070, [(8, 65536)], 0, 0, 0, 0xFFFFFFFF, 0⟩,
  ⟨0x100074, [(8, 65536)], 0, 0, 0, 0xFFFFFFFF, 0⟩,
  ⟨0x100078, [(8, 65536)], 0, 0, 0, 0xFFFFFFFF, 0⟩,
  ⟨0x100100, [(8, 65536), (32, 8)], 0, 0xFFFFFFFF, 0, 0, 0⟩,
  ⟨0x100104, [(8, 65536), (32, 8)], 0, 0x8000FFFF, 0, 0, 0x7FFF0000⟩]

/-- The registers of the block at 0x10_0000, part 2. -/
def regRows10_1 : List RegSpec := [
  ⟨0x100200, [(8, 65536)], 0x2, 0x2, 0, 0, 0xFFFFFFFC⟩,
  ⟨0x100204, [(8, 65536)], 0xF4240, 0xFFFFFFFF, 0, 0, 0⟩,
  ⟨0x100208, [(8, 65536)], 0, 0xFFFFFFFF, 0, 0, 0⟩,
  ⟨0x10020C, [(8, 65536)], 0, 0xFFFFFFFF, 0, 0, 0⟩,
  ⟨0x100210, [(8, 65536)], 0, 0, 0, 0, 0xFFFFFFFC⟩,
  ⟨0x100400, [(8, 65536), (2, 256), (64, 4)], 0xF, 0xFFFFFFFF, 0, 0, 0⟩,
  ⟨0x100800, [(8, 65536)], 0x200008FF, 0xFF01FFFF, 0, 0, 0xFE0000⟩,
  ⟨0x100804, [(8, 65536)], 0x8000, 0xFFFF, 0, 0, 0xFFFF0000⟩,
  ⟨0x100808, [(8, 65536)], 0, 0, 0, 0, 0xFFFFFFFE⟩,
  ⟨0x10080C, [(8, 65536)], 0, 0, 0, 0xFFFFFFFF, 0⟩,
  ⟨0x100900, [(8, 65536)], 0, 0x3, 0, 0, 0xFFFFFFFC⟩,
  ⟨0x100904, [(8, 65536)], 0, 0, 0, 0, 0xFFFFFFE0⟩,
  ⟨0x100908, [(8, 65536)], 0, 0, 0, 0xFFFFFFFF, 0⟩]

/-- The registers of the block at 0x18_0000, part 1. -/
def regRows18_0 : List RegSpec := [
  ⟨0x180000, [], 0x6, 0x7, 0, 0, 0xFFFFFFF8⟩,
  ⟨0x180004, [], 0x3C07D0, 0xFFFFFFFF, 0, 0, 0⟩,
  ⟨0x180008, [], 0x190, 0xFFFF, 0, 0, 0xFFFF0000⟩,
  ⟨0x18000C, [], 0, 0, 0, 0, 0xFFFE00FC⟩,
  ⟨0x180010, [], 0, 0, 0, 0xFFFFFFFF, 0⟩,
  ⟨0x180014, [], 0, 0, 0, 0xFFFFFFFF, 0⟩,
  ⟨0x180018, [], 0, 0, 0, 0xFFFFFFFF, 0⟩,
  ⟨0x18001C, [], 0, 0, 0, 0xFFFFFFFF, 0⟩,
  ⟨0x180020, [], 0, 0, 0, 0xFFFFFFFF, 0⟩,
  ⟨0x180024, [], 0, 0, 0, 0xFFFFFFFF, 0⟩,
  ⟨0x180028, [], 0, 0, 0, 0xFFFFFFFF, 0⟩,
  ⟨0x18002C, [], 0, 0, 0, 0xFFFFFFFF, 0⟩,
  ⟨0x180030, [], 0, 0, 0, 0xFFFFFFFF, 0⟩,
  ⟨0x180034, [], 0, 0, 0, 0xFFFFFFFF, 0⟩,
  ⟨0x180038, [], 0, 0, 0, 0xFFFFFFFF, 0⟩]

/-- The registers of the block at 0x19_0000, part 1. -/
def regRows19_0 : List RegSpec := [
  ⟨0x190000, [], 0, 0, 0, 0, 0xFFFFFFFC⟩,
  ⟨0x190004, [], 0xFF00, 0, 0xE, 0, 0xFFFF0080⟩,
  ⟨0x190008, [], 0, 0, 0, 0, 0⟩,
  ⟨0x19000C, [], 0, 0, 0, 0, 0⟩,
  ⟨0x190010, [], 0, 0xFFFFFFFF, 0, 0, 0⟩,
  ⟨0x190014, [], 0, 0xFFFFFFFF, 0, 0, 0⟩,
  ⟨0x190018, [], 0, 0x8000FFFF, 0, 0, 0x7FFF0000⟩,
  ⟨0x19001C, [], 0, 0x3FFFFFFF, 0, 0, 0xC0000000⟩,
  ⟨0x190020, [], 0, 0, 0, 0xFFFFFFFF, 0⟩,
  ⟨0x190100, [(8, 32)], 0, 0xFFFFFF1F, 0, 0, 0xE0⟩,
  ⟨0x190104, [(8, 32)], 0, 0xFFFFFFFF, 0, 0, 0⟩,
  ⟨0x190108, [(8, 32)], 0, 0xFFFFFFFF, 0, 0, 0⟩,
  ⟨0x19010C, [(8, 32)], 0, 0xFFFFFFFF, 0, 0, 0⟩,
  ⟨0x190110, [(8, 32)], 0, 0, 0x6, 0xFFFF0000, 0xFFF8⟩,
  ⟨0x190200, [(8, 16)], 0, 0x7, 0, 0, 0xFFFFFFF8⟩,
  ⟨0x190204, [(8, 16)], 0, 0, 0, 0x7F, 0xFFFFFF80⟩,
  ⟨0x190208, [(8, 16)], 0, 0, 0, 0, 0⟩,
  ⟨0x19020C, [(8, 16)], 0, 0, 0, 0, 0⟩]

/-- The registers of the block at 0x1A_0000, part 1. -/
def regRows1A_0 : List RegSpec := [
  ⟨0x1A0000, [], 0, 0, 0, 0, 0xFEE0F8⟩,
  ⟨0x1A0004, [], 0, 0, 0, 0, 0xFFFFE080⟩,
  ⟨0x1A0008, [], 0, 0, 0, 0, 0xFFE0⟩,
  ⟨0x1A000C, [], 0, 0xFFF0007, 0, 0, 0xF000FFF8⟩,
  ⟨0x1A0010, [], 0, 0x7FF, 0, 0, 0xFFFFF800⟩,
  ⟨0x1A0014, [], 0, 0, 0, 0xFFFFFFFF, 0⟩,
  ⟨0x1A0100, [(32, 8)], 0, 0x3FFEFFF, 0, 0, 0xFC000000⟩,
  ⟨0x1A0104, [(32, 8)], 0, 0x8FFF, 0, 0, 0xFFFF7000⟩,
  ⟨0x1A0200, [], 0x7, 0x1F, 0, 0, 0xFFFFFFE0⟩,
  ⟨0x1A0204, [], 0, 0, 0x1F, 0, 0xFC1E00E0⟩,
  ⟨0x1A8000, [(1024, 4)], 0, 0xFFFFFFFF, 0, 0, 0⟩]

/-- The registers of the block at 0x1B_0000, part 1. -/
def regRows1B_0 : List RegSpec := [
  ⟨0x1B0000, [], 0xD60, 0xF73, 0, 0, 0xFFFFF00C⟩,
  ⟨0x1B0004, [], 0, 0, 0x8000, 0, 0xFFFF0000⟩,
  ⟨0x1B0008, [], 0, 0, 0, 0, 0⟩,
  ⟨0x1B000C, [], 0, 0, 0, 0, 0⟩,
  ⟨0x1B0010, [], 0, 0, 0, 0, 0⟩,
  ⟨0x1B0014, [], 0, 0, 0, 0, 0xFFFF0000⟩,
  ⟨0x1B0018, [], 0, 0, 0, 0, 0⟩,
  ⟨0x1B0020, [(8, 4)], 0, 0, 0, 0xFFFFFFFF, 0⟩,
  ⟨0x1B0040, [], 0, 0xFFFFFFFF, 0, 0, 0⟩,
  ⟨0x1B0044, [], 0, 0, 0, 0, 0xFFFFFFF8⟩,
  ⟨0x1B0048, [], 0, 0, 0, 0, 0xFFFFFFE0⟩,
  ⟨0x1B0080, [(32, 4)], 0, 0, 0, 0, 0⟩,
  ⟨0x1B1000, [(32, 128)], 0, 0xFF01FF, 0, 0, 0xFF00FE00⟩,
  ⟨0x1B1004, [(32, 128)], 0, 0xFFFF, 0, 0, 0xFFFF0000⟩,
  ⟨0x1B1040, [(32, 128), (16, 4)], 0, 0x80FFFFFF, 0, 0, 0x7F000000⟩]

/-- The registers of the block at 0x1C_0000, part 1. -/
def regRows1C_0 : List RegSpec := [
  ⟨0x1C0000, [], 0, 0, 0, 0, 0xFFFFFFF8⟩,
  ⟨0x1C0004, [], 0xA, 0xF, 0, 0, 0xFFFFFFF0⟩,
  ⟨0x1C0008, [], 0, 0, 0x200, 0, 0xFC00F800⟩,
  ⟨0x1C000C, [], 0, 0x3FFFFFF, 0, 0, 0xFC000000⟩,
  ⟨0x1C0010, [], 0, 0x1FFF, 0, 0, 0xFFFFE000⟩,
  ⟨0x1C0014, [], 0x258, 0xFFF, 0, 0, 0xFFFFF000⟩,
  ⟨0x1C0018, [], 0, 0, 0, 0, 0xFFFFF000⟩,
  ⟨0x1C001C, [], 0, 0, 0, 0, 0xFFFFF800⟩,
  ⟨0x1C0020, [], 0, 0, 0, 0, 0xFFFF0000⟩,
  ⟨0x1C0024, [], 0, 0, 0, 0, 0⟩,
  ⟨0x1C0100, [(2, 16)], 0, 0, 0, 0, 0xFFFFFF00⟩,
  ⟨0x1C0104, [(2, 16)], 0, 0, 0, 0, 0⟩,
  ⟨0x1C0108, [(2, 16)], 0, 0, 0, 0, 0⟩,
  ⟨0x1C010C, [(2, 16)], 0, 0, 0, 0, 0⟩,
  ⟨0x1C8000, [(1024, 4)], 0, 0, 0, 0, 0⟩]

/-- The registers of the block at 0x1D_0000, part 1. -/
def regRows1D_0 : List RegSpec := [
  ⟨0x1D0000, [], 0, 0, 0, 0, 0xFFFFFFF8⟩,
  ⟨0x1D0004, [], 0, 0x13F, 0, 0, 0x7FFFFEC0⟩,
  ⟨0x1D0008, [], 0, 0, 0, 0, 0xFFFFFFF8⟩,
  ⟨0x1D000C, [], 0, 0x1, 0, 0, 0xFFFFFFFE⟩,
  ⟨0x1D0010, [(2, 4)], 0, 0xFFFFFFFF, 0, 0, 0⟩,
  ⟨0x1D0018, [(2, 4)], 0, 0, 0, 0, 0⟩,
  ⟨0x1D0020, [(2, 4)], 0, 0, 0, 0, 0⟩,
  ⟨0x1D0028, [], 0, 0, 0, 0xFFFFFFFF, 0⟩,
  ⟨0x1D0100, [(64, 4)], 0, 0xFFFFFFFF, 0, 0, 0⟩]

/-- The registers of the block at 0x1E_0000, part 1. -/
def regRows1E_0 : List RegSpec := [
  ⟨0x1E0000, [], 0, 0xF00FFFFF, 0, 0, 0xFF00000⟩,
  ⟨0x1E0004, [], 0, 0, 0, 0, 0xFFFFFFE0⟩,
  ⟨0x1E0008, [], 0, 0x1, 0, 0, 0xFFFFFFFE⟩,
  ⟨0x1E0010, [(4, 4)], 0, 0, 0, 0, 0⟩]

/-- The registers of the block at 0x1F_0000, part 1. -/
def regRows1F_0 : List RegSpec := [
  ⟨0x1F0000, [], 0, 0, 0x4, 0, 0xFF80⟩,
  ⟨0x1F0004, [], 0, 0, 0, 0, 0xFFFFFFFE⟩,
  ⟨0x1F0008, [], 0, 0, 0, 0, 0xFFFFFFF0⟩,
  ⟨0x1F0010, [(4, 4)], 0, 0, 0, 0, 0⟩,
  ⟨0x1F0040, [], 0, 0x7F, 0, 0, 0xFFFFFF80⟩,
  ⟨0x1F0044, [], 0, 0, 0, 0, 0xFFFFFFF8⟩,
  ⟨0x1F0048, [], 0, 0, 0, 0, 0xFFFFFFE0⟩,
  ⟨0x1F004C, [], 0, 0x3F, 0, 0, 0xFFFFFFC0⟩,
  ⟨0x1F0050, [], 0, 0xFFFFFFFF, 0, 0, 0⟩,
  ⟨0x1F0060, [], 0, 0xFFFFFF, 0, 0, 0xFF000000⟩,
  ⟨0x1F0064, [], 0, 0, 0, 0, 0⟩,
  ⟨0x1F0068, [], 0, 0, 0, 0xFFFFFFFF, 0⟩,
  ⟨0x1F1000, [(64, 4)], 0, 0xFFFFFFFF, 0, 0, 0⟩]

/-- The register rows of the block that bits [23:16] of an address select (R319); the eight MACs share one set of rows (R242). -/
def regRows (block : Nat) : List RegSpec :=
  match block with
  | 0x00 => regRows00_0
  | 0x01 => regRows01_0
  | 0x02 => regRows02_0
  | 0x03 => regRows03_0
  | 0x04 => regRows04_0 ++ regRows04_1
  | 0x05 => regRows05_0
  | 0x06 => regRows06_0 ++ regRows06_1
  | 0x07 => regRows07_0 ++ regRows07_1
  | 0x08 => regRows08_0
  | 0x09 => regRows09_0
  | 0x0A => regRows0A_0 ++ regRows0A_1
  | 0x0B => regRows0B_0
  | 0x0C => regRows0C_0
  | 0x0D => regRows0D_0
  | 0x0E => regRows0E_0
  | 0x10 | 0x11 | 0x12 | 0x13 | 0x14 | 0x15 | 0x16 | 0x17 => regRows10_0 ++ regRows10_1
  | 0x18 => regRows18_0
  | 0x19 => regRows19_0
  | 0x1A => regRows1A_0
  | 0x1B => regRows1B_0
  | 0x1C => regRows1C_0
  | 0x1D => regRows1D_0
  | 0x1E => regRows1E_0
  | 0x1F => regRows1F_0
  | _ => []

end Sys2Proof.Machine
end

