-- ==== Sys2Proof/Machine/State.lean ====
section
/-! DEFINITION. The state of the module as plain data, the reasons a command can stop, and the state after reset.
Registers of the host map live in `regs` and nowhere else; the structures below hold what no register shows. -/

namespace Sys2Proof.Machine

/-- A sparse table in canonical form (Machine/Tab.lean): keys strictly rising, no entry equal to its key's default. -/
abbrev Tab (α : Type) := List (Nat × α)

/-- Byte memory: the core SRAMs and cluster memories in one address map (Machine/Ops.lean), in canonical form. -/
abbrev Memory := List Host.Cell

/-! ### Cores (R20 to R27, R34 to R41) -/

/-- A block-floating register: eight 24-bit mantissas and one 6-bit signed exponent (R21). -/
structure BReg where
  m : Vector (BitVec 24) 8
  e : BitVec 6
deriving DecidableEq, Repr

/-- A tag register (R26): OUT, DONE and FAILED count 0 to 32. -/
structure TagReg where
  out : Nat := 0
  done : Nat := 0
  failed : Nat := 0
  cause : BitVec 5 := 0
deriving DecidableEq, Repr

/-- The registers of a core that a preemption saves and restores (R20, R84), with the operation each g register is bound to (R27 rule 5); `sleepDue` is the end of an LSLEEP a preempted lesson was in (R74). -/
structure Ctx where
  g : Vector Word 16
  b : Vector BReg 8
  t : Vector TagReg 8
  pc : Word
  ls : Word
  hm : Word
  bell : Word
  bound : Vector (Option Nat) 16
  sleepDue : Option Nat
deriving DecidableEq, Repr

/-- What an operation in flight does at its target (R61, R63, R66). -/
inductive OpKind where
  | get (idx : PointIdx) (word : Nat) (n : Nat) (gd : BitVec 4)
  | getVq (idx : PointIdx) (gd : BitVec 4)
  | put (idx : PointIdx) (word : Nat) (data : List Word)
  | psync (idx : PointIdx) (gd : BitVec 4) (seq : Word)
  | msg (unit : BitVec 2) (typ : BitVec 10) (payload : List Word) (reply : Option (BitVec 4))
deriving DecidableEq, Repr

/-- An entry of the tag pool (R11). `order` counts issues module-wide; `remote` marks the Remote class (R60); `held` marks a put a clasp holds (R76); `trans` is the device
group whose transaction a remote get waits on, with that transaction's request time (R97); `outcome` is the cause decided at the
write point (R128), `result` the words a get has read by then, and `completed` says the core has seen the completion. -/
structure Entry where
  core : CoreId
  lesson : Option Nat
  tag : BitVec 3
  slot : BitVec 4
  tenant : BitVec 12
  privT : Bool
  epoch : Word
  op : OpKind
  order : Nat
  issued : Nat
  timeout : Option Nat
  remote : Bool
  held : Bool
  trans : Option (Nat × Nat)
  outcome : Option (BitVec 5)
  result : List Word
  completed : Bool
deriving DecidableEq, Repr

/-- An issue that waits for a pool entry (R95): everything the entry will hold but its number and time. -/
structure Issue where
  tag : BitVec 3
  op : OpKind
  inClasp : Bool
  pcNext : Word
deriving DecidableEq, Repr

/-- Why a core is not executing (R27, R65, R73 to R76, R56, R121). -/
inductive Waiting where
  | none
  | bound (entry : Nat)
  | tag (t : BitVec 3)
  | tagMask (mask : BitVec 8)
  | coreLimit
  | pool (i : Issue)
  | lend
  | sleep (due : Nat)
  | claspSlot
  | claspLock
  | reload
  | interrupt
deriving DecidableEq, Repr

/-- A store a clasp has buffered (R76): the global address in `Memory` and its bytes, with the lines of STATE it touches. -/
structure BufStore where
  addr : Nat
  bytes : List Byte
  cluster : Bool
deriving DecidableEq, Repr

/-- An open clasp (R75 to R77): instructions after CLASP, point operations, buffered stores in program order, the lock,
and the issue count when it opened (an operation with a lower order was issued before it). -/
structure Clasp where
  count : Nat
  points : Nat
  stores : List BufStore
  lock : Bool
  firstOrder : Nat
deriving DecidableEq, Repr

/-- A core as the debug port sees it (DBG_CORE_STAT). -/
inductive HaltState where
  | running
  | haltPending
  | halted
deriving DecidableEq, Repr

/-- A core: its registers, the TIME_HI its last RDSR of TIME_LO latched (R57), the lesson it runs, the preempted lessons newest first (R84), and
what it waits for. `ien` and
`irq` are the steward interrupt lines enabled and pending (R56, R58), `frame` the return addresses a steward core keeps
(R56, log entry 9); `step` is a STEP in progress (R381). -/
structure Core where
  ctx : Ctx
  timeHi : Word
  lesson : Option Nat
  stack : List (Nat × Ctx)
  waiting : Waiting
  clasp : Option Clasp
  ien : BitVec 12
  irq : BitVec 12
  frame : List Word
  halt : HaltState
  haltCause : BitVec 3
  step : Bool
deriving DecidableEq, Repr

/-! ### Lessons and the schedule (R81 to R93) -/

/-- Where a lesson stands in its period. -/
inductive LessonPhase where
  | idle
  | ready
  | running
  | preempted
deriving DecidableEq, Repr

/-- A loaded lesson: its declaration (R81), the core it runs on (R93), its saved LS fields (R24), and the period in progress. -/
structure Lesson where
  decl : LessonDecl
  runsOn : Fin 64
  phase : LessonPhase
  late : BitVec 8
  lastAbandon : BitVec 5
  sticky : Bool
  start : BitVec 2
  bell : Word
  bellTime : Nat
  deadlineAt : Nat
  demoted : Option Nat
  exhausted : Bool
  clrPending : Bool
  abandonBell : Word
  shed : Bool
  notBefore : Nat
  dirty : List Nat
deriving DecidableEq, Repr

/-! ### Points (R28 to R33) -/

/-- A point: its sixteen committed words, the poisoned words (R14), the words its producing lesson has put this period
(R32), the LEVEL its producer last gave (R30), the least LEVEL the module holds it at until its producer's next commit (R93, R113), and its
declaration in the image (R100). -/
structure Point where
  words : Vector Word 16
  poison : BitVec 16
  plevel : BitVec 2
  floor : BitVec 2
  work : Vector (Option Word) 16
  decl : Option PointDecl
deriving DecidableEq, Repr

/-- A device group (R96, R97): its device timeout, its points, the requests of its transactions in flight, oldest first, its latest
request, and the request of the latest transaction that was answered. -/
structure GroupSt where
  timeoutUs : Nat
  points : List PointIdx
  flights : List Nat
  lastReq : Option Nat
  lastDone : Option Nat
deriving DecidableEq, Repr

/-- A message in an engine's input queue (R66, R67), with the context it was checked under and the count of its acceptance. -/
structure EngMsg where
  typ : BitVec 10
  payload : List Word
  lesson : Option Nat
  tenant : BitVec 12
  privT : Bool
  came : Nat
deriving DecidableEq, Repr

/-- A checkpoint (R112): the area it stands in, the image it was begun for, the applied second it was begun in, whether another image has become
current since, the lessons whose STATE and outputs a periodic one still has to copy as they commit, whether its trailer is written and its
digest matches, and the warm data it holds (R111). -/
structure Checkpoint where
  area : Fin 3
  waits : List Nat
  imageId : BitVec 64
  begunAt : Nat
  stale : Bool
  complete : Bool
  digestOk : Bool
  mem : Memory
  points : List (Nat × Word × Word × Word)
  forces : List (Nat × Word × Word)
deriving DecidableEq, Repr

/-- A live switch that has been armed (R106 to R108). -/
structure Switch where
  image : List ImageItem
  cls : Fin 8
  bell : Option Word
  armedAt : Nat
  affected : List Nat
  begun : Bool
  beganAt : Nat
  carried : Nat
  initialised : Nat
  discarded : Nat
  oldMem : Memory
deriving DecidableEq, Repr

/-- The scan fabric (spec/02 to spec/06); `rung` counts the bells of each class since the bells last started (R25); `layout` is the layout in which
the Locket's retentive values are written (R116). -/
structure Scan where
  t0 : BitVec 64
  rung : Vector Nat 8
  cores : Tab Core
  lessons : Tab (Option Lesson)
  pool : Tab (Option Entry)
  poolFifo : List CoreId
  issueCount : Nat
  claspFifo : List CoreId
  lockOwner : Vector (Option CoreId) 8
  lockFifo : Vector (List CoreId) 8
  coreRegions : Tab (List Region)
  clusterRegions : Tab (List Region)
  mem : Memory
  poison : Tab Bool
  tileErr : Tab (Option Nat)
  tilesOut : BitVec 8
  demoteCount : Nat
  groups : Tab (Option GroupSt)
  loopQ : List EngMsg
  dispQ : List EngMsg
  accQ : List EngMsg
  staged : Tab (Nat × List ImageItem)
  stagedTenant : Option (BitVec 12)
  current : List ImageItem
  layout : List VarDecl
  owns : List (OwnedRes × BitVec 12)
  switch : Option Switch
  checkpoints : List Checkpoint
  firstStart : Bool
  retentiveLost : Option (BitVec 4)
deriving DecidableEq, Repr

/-! ### NAND (R367, R368) -/

/-- A record of the erase journal (R367) before its CRC-32: INTENT, or DONE. -/
structure JournalRec where
  seq : Word
  area : NandArea
  block : Nat
  done : Bool
deriving DecidableEq, Repr

/-- NAND beside what its areas hold: the two journal blocks, the one in use, the next sequence number, the block being erased, the erases that
follow it, and the bad-block table. -/
structure NandSt where
  journal : Vector (List JournalRec) 2
  cur : Fin 2
  next : Word
  erasing : Option (NandArea × Nat)
  queue : List (NandArea × Nat)
  bad : List (NandArea × Nat)
deriving DecidableEq, Repr

/-! ### The roster (R117 to R132) -/

/-- A tenant context in the layouts of ROSTER_TEN_CFG, ROSTER_TEN_SHARE0 and ROSTER_TEN_SHARE1 (R118). -/
structure TenantCtx where
  cfg : Word
  share0 : Word
  share1 : Word
deriving DecidableEq, Repr

/-- The roster: committed and staged contexts, committed entries (word 4e + j of entry e), the copy a commit works on
(R127), when each slot's tenant was last active (R120), the slot requests that wait (R121), the operations the commit
in progress has completed with RULE_CHANGED (R127), and the count at its Tc. -/
structure Roster where
  ctx : Tab TenantCtx
  staged : Tab TenantCtx
  rules : Tab Word
  copyCtx : Option (Tab TenantCtx)
  copyRules : Tab Word
  lastActive : Tab Nat
  requests : List (BitVec 12)
  aborted : Nat
  tc : Nat
deriving DecidableEq, Repr

/-! ### The event recorder (R370 to R378, R395) -/

/-- An event record (R370) before its CRC; `flushed` says it is also in flash. -/
structure EvRec where
  seq : Word
  sev : BitVec 3
  level : BitVec 4
  source : Byte
  stamp : BitVec 64
  code : BitVec 16
  repeats : BitVec 16
  tenant : Option (BitVec 12)
  slot : Option (BitVec 4)
  session : Option (BitVec 3)
  args : List Word
  snaps : List (Option Word)
  trigger : Byte
  seconds : Word
  boot : BitVec 16
  flushed : Bool
deriving DecidableEq, Repr

/-- The items of an event, before the recorder numbers it. -/
structure EvItem where
  sev : BitVec 3
  level : BitVec 4 := 0
  source : Byte
  code : BitVec 16
  tenant : Option (BitVec 12) := none
  slot : Option (BitVec 4) := none
  session : Option (BitVec 3) := none
  args : List Word := []
deriving DecidableEq, Repr

/-- An open rate window (R395): the rule and key it belongs to, its length and end in counts, the occurrences counted in it and
the latest of them. -/
structure EvWindow where
  code : Nat
  key : Nat
  len : Nat
  due : Nat
  count : Nat
  last : Option EvItem
deriving DecidableEq, Repr

/-- The event recorder: the SRAM ring and the two flash areas, oldest first, the next SEQ, the rate windows, the reading
latch and its command in progress with the tenant of the view it was given under (R132), and the newest SEQ flushed to each area. -/
structure Evt where
  sram : List EvRec
  main : List EvRec
  retained : List EvRec
  next : Word
  windows : List EvWindow
  latch : Option EvRec
  pendingRead : Option (Bool × Bool × Word × Option (BitVec 12))
deriving DecidableEq, Repr

/-! ### The time base (R276 to R288) -/

/-- A trigger output: the count of its next edge while armed, and the count at which the pulse in progress ends. -/
structure Trig where
  next : Option Nat
  pulse : Option Nat
deriving DecidableEq, Repr

/-- One capture (R288): the count, the edge, and COARSE. -/
structure Capture where
  cnt : BitVec 64
  rise : Bool
  coarse : Bool
deriving DecidableEq, Repr

/-- A capture input: its FIFO of at most four captures, oldest first, and OVF. -/
structure CapSt where
  fifo : List Capture
  ovf : Bool
deriving DecidableEq, Repr

/-- The time base beside its registers: the offset in force in seconds and nanoseconds (R278), the count Cs of its last change
(R279), whether a host has set it (R283), the triggers, the captures, and the slow tick count kept on VBAT (R285). -/
structure TimeSt where
  ofsSec : BitVec 48
  ofsNs : Nat
  cs : BitVec 64
  byHost : Bool
  trigs : Tab Trig
  caps : Tab CapSt
  ticks : BitVec 64
deriving DecidableEq, Repr

/-! ### Hosts (R308 to R318) -/

/-- A pending claim of the hall pass (R311). -/
structure ClaimSt where
  sess : Fin 8
  prio : BitVec 8
  nonce : BitVec 16
deriving DecidableEq, Repr

/-- The host ports beside their registers: each session's HOST_LAST_ERR code, the pending claims, the holder's nonce, when
the lease was last renewed, when the open election closes, whether the first election after reset has run, the pending
handover, the posted QSPI writes, and the PCIe function's power state, link state and LTR value (R309 to R315). -/
structure HostSt where
  lastErr : Vector (BitVec 3) 8
  claims : List ClaimSt
  nonce : BitVec 16
  renewedAt : Nat
  electionClose : Option Nat
  firstDone : Bool
  handover : Option (Fin 8 × Nat)
  qspi : List (BitVec 24 × Word)
  d3hot : Bool
  l1 : Bool
  pmeEn : Bool
  pmeStatus : Bool
  ltr : Option Nat
deriving DecidableEq, Repr

/-! ### The bridge (R324, R333) -/

/-- The bridge: the object the mailbox has latched, the pending latch with its space, its index and the tenant whose view filters it (R324), the
error and words of a SNAP latch taken when it began (R326), the staged words of one host-produced point (R333; the staged point and mask
are SYS_PT_STAGE), and the write-only buffers SCAN_PROG_BUF and FWU_BUF (R103, R361). -/
structure BusSt where
  latch : List Word
  latching : Option (Nat × Nat × Option (BitVec 12))
  early : Option (Nat × List Word)
  stage : Vector Word 16
  progBuf : Memory
  fwuBuf : Memory
deriving DecidableEq, Repr

/-! ### Field I/O and DALI (R220 to R241) -/

/-- A DALI line beside its registers: an addressing has completed since it was enabled (R235), and its pending output commands, each an
entry and the value to send, in the order of their first pending commit (R238). -/
structure DaliLine where
  addressed : Bool
  pend : List (Nat × Nat)
deriving DecidableEq, Repr

/-- An event map entry (R239, R240): when it last committed, the event held for its gap with its decoding time, the events merged into
that one, the events that never had a commit of their own, and the last answer of a polled gear. -/
structure DaliEv where
  last : Option Nat
  held : Option (BitVec 10 × BitVec 8 × Nat)
  merged : Nat
  missed : Word
  answer : Option (Option (BitVec 8))
deriving DecidableEq, Repr

/-- The field die and the DALI engines beside their registers: DI changes accepted while the link is lost or the module is in RECESS
(R225, R234: their time), the code of a latched DO channel while it shows another fault, the failed retries of each DO group (R229),
when each bank's VFLD returned (R230), the PWM gate outputs whose updates are lost (R13), each AI's filter state and conversions since its last
commit (R231), the DALI lines, the value last sent for each output entry, and the event entries. -/
structure FieldSt where
  diPend : Tab (Option Nat)
  doHeld : Tab Nat
  grpRetry : Vector Nat 8
  vfldBack : Vector (Option Nat) 8
  pwmLost : Tab Bool
  aiVal : Tab Int
  aiTick : Tab Nat
  lines : Vector DaliLine 16
  sent : Tab (Option Nat)
  ev : Tab DaliEv
deriving DecidableEq, Repr

/-! ### Power (R334 to R351) -/

/-- A sleep entry in force: the state entered (1 DOZE, 2 NAP, 3 RECESS), its commit point and the end of its entry on the counter
(R340), whether the effects of the commit point have happened, and when the exit before due begins (R342). -/
structure SleepSt where
  target : Nat
  commitAt : Nat
  endAt : Nat
  committed : Bool
  exitAt : Option Nat
deriving DecidableEq, Repr

/-- The recess agreement (R345, R346), the two riser ports in the order Up, Down: when the ask was sent, the ports whose answer is
awaited, when every answer was a GRANT, the earliest next ask, the agreements granted to each neighbour with their times, the
ports whose neighbour has committed, until when WAKE is sent on each port, and since when every other condition of RECESS holds. -/
structure RecessSt where
  askedAt : Nat
  awaits : Vector Bool 2
  agreedAt : Option Nat
  nextAsk : Nat
  given : Vector (Option (BitVec 16 × Nat)) 2
  gone : Vector Bool 2
  waking : Vector (Option Nat) 2
  quietSince : Option Nat
deriving DecidableEq, Repr

/-- A feed transfer in progress (R336): the feed that carried the load, whether it was commanded, when the new path closed, and what
PWR_FEED_CNT and PWR_FEED_TEST held before it. -/
structure XferSt where
  old : Fin 2
  commanded : Bool
  closedAt : Nat
  cnt : Word
  test : Word
deriving DecidableEq, Repr

/-- Power beside its registers; `off` says that the power-fail order has ended (R349), `carried` when each feed's days in PWR_FEED_TEST were
right (R338), and `mirrorOld` that the SAFE mirror has not been updated since an exit from RECESS (R347). -/
structure PwrSt where
  sleep : Option SleepSt
  recess : RecessSt
  xfer : Option XferSt
  off : Bool
  carried : Vector Nat 2
  mirrorOld : Bool
deriving DecidableEq, Repr

/-! ### Keys (R289 to R307) -/

/-- A transition row of the fuses: the state and the owner digest (R290). -/
structure FuseRow where
  lcs : BitVec 3
  owner : BitVec 256
deriving DecidableEq, Repr

/-- What a key engine command does. -/
inductive KeyOp where
  | transition (target : BitVec 3)
  | load
  | erase
  | ownerRestore
  | getNonce
  | sha256
  | sha384
  | hmac
  | gcmEnc
  | gcmDec
  | sign
  | verify
  | derive
  | generate
  | identity
  | fuseSafetyKey
deriving DecidableEq, Repr

/-- A key engine command in progress (R303, R307): the operation, the slot, and the session and tenant the request is made for. -/
structure KeyJob where
  op : KeyOp
  slot : BitVec 5
  sess : Nat
  tenant : BitVec 12
deriving DecidableEq, Repr

/-- The fuses and the key engine beside their registers and the Locket: the rows after row 0 (oldest first), the SCRAPPED fuse, the fused
safety parameter key digest, the occupancy of the slots (R295), the code that authenticates the attribute record in settings (R302), the nonce
(R306), the command in progress, and a Locket that has lost its content since the last start (R296). -/
structure KeySt where
  rows : List FuseRow
  scrapped : Bool
  safetyKey : Option (BitVec 256)
  occ : BitVec 32
  attrMac : BitVec 384
  nonce : BitVec 128
  job : Option KeyJob
  lost : Bool
deriving DecidableEq, Repr

/-! ### The loop engine (R133 to R161) -/

/-- What BIND gives a slot (R155). -/
structure SlotBind where
  cls : BitVec 3
  law : BitVec 3
  spPt : Bool
  ffEn : Bool
  trackEn : Bool
  fb : PointIdx
  out : PointIdx
  sp : PointIdx
  ff : PointIdx
  track : PointIdx
deriving DecidableEq, Repr

/-- What a commit by a producer writes: VALUE and VALUE_HI, the producer's level, OVERRANGE and DETAIL where it gives them, the
flags of QUAL that its unit sets (bits 8, 9 and 11), and AUX0 to AUX3. -/
structure CommitSet where
  value : Option Word := none
  valueHi : Option Word := none
  level : Option (BitVec 2) := none
  overrange : Option Bool := none
  detail : Option Byte := none
  flags : Word := 0
  aux : List (Option Word) := []
deriving DecidableEq, Repr

/-- A loop slot: its binding, the staged and active parameters with the coefficients of the last APPLY (R138, R144), its configuration,
the modes asked for and in force (R140), its status and DETAIL (R145), the state block with lanes i, dst, y_prev, u_prev, w1, w2
(R138, R139), the TWO_POS dwell, the last good values of its inputs (R141), the planned move and what the horizon unit left
(R160), the following error, and the set-point, feedback and output of the last evaluation, as BF24 words. -/
structure SlotSt where
  bind : Option SlotBind
  staged : Vector Word 16
  act : Vector Word 16
  aCo : Word
  kdCo : Word
  notchEn : Bool
  feAction : BitVec 2
  dwellCfg : BitVec 5
  feTime : BitVec 16
  feTimer : BitVec 16
  req : BitVec 3
  active : BitVec 3
  satHi : Bool
  satLo : Bool
  feAlarm : Bool
  bfSat : Bool
  forcedTrack : Bool
  paramErr : Bool
  rosterHold : Bool
  fallback : Bool
  detail : Byte
  st : BReg
  dwell : Nat
  lastSp : Word
  lastFf : Word
  lastTrack : Word
  plan : Option Word
  fe : Word
  spUsed : Word
  fbUsed : Word
  outUsed : Word
deriving DecidableEq, Repr

/-- A door operator (R147 to R154): its output point and its VBUS point, the active parameters and the state blocks of its current,
velocity and position stages, the set-points between them, the profile's fraction of a count, velocity and acceleration in 2^−32 (R151), the encoder
counts of the last four current periods, the last measured velocity, the bus voltage, the duties of phases U, V and W in counts of 12.5 ns as they
stand in the shadow registers and as they are in effect (R148), a STOP in force (R146), each stage's
following error, a saturation since the last commit (R134), and the A_MAX the lesson last applied (R174). Registers hold what LOOP_STG_* show. -/
structure OperSt where
  bind : Option (PointIdx × Option PointIdx)
  act : Vector (Vector Word 8) 3
  st : Vector BReg 3
  iqRef : Word
  velRef : Word
  posRef : Word
  prof : Vector Int 3
  counts : Vector Word 4
  rawVel : Word
  vbus : Word
  duty : Vector Nat 3
  inEffect : Vector Nat 3
  stop : Bool
  fe : Vector Word 3
  sat : Bool
  amax : Word
deriving DecidableEq, Repr

/-- A climate zone (R157 to R160): the staged and the committed model, one committed since the last B7 bell, the state estimate, the plan of
the last SOLVED and the B7 bells since it. -/
structure ZoneSt where
  staged : Tab Word
  model : Option (Tab Word)
  next : Option (Tab Word)
  xh : BReg
  plan : List Word
  since : Nat
deriving DecidableEq, Repr

/-- A trace channel (R161): its samples, oldest first, the evaluations since its last sample, and the samples still to take after the
trigger. -/
structure TrCh where
  samples : List Word
  dec : Nat
  post : Nat
deriving DecidableEq, Repr

/-- The loop engine beside its registers: the slots, the latched slot window, the operators and the fast period's number, the zones and
those still to be worked through after the last B7 bell, the trace, the count of accepted messages (R155), and the outputs evaluated at the last bell
that are still to be committed (R137). -/
structure LoopSt where
  slots : Tab SlotSt
  win : SlotSt
  ops : Vector OperSt 16
  period : Nat
  zones : Tab ZoneSt
  busy : List Nat
  tr : Vector TrCh 16
  accepted : Nat
  late : List (PointIdx × CommitSet)
deriving DecidableEq, Repr

/-! ### Lift cars and doors (R162 to R181) -/

/-- An entry of a car's capture FIFO (R170). -/
structure DzCap where
  falling : Bool
  terminal : Bool
  landing : Byte
  pos : Word
deriving DecidableEq, Repr

/-- A car position unit beside its registers (R165 to R170): the reference, the positions of the last two periods, the velocity, the last
period's cross-check, the capture FIFO, oldest first, OVF, and when a door-zone edge was last accepted. -/
structure CarSt where
  refPos : Word
  refKm : Word
  refKg : Word
  prev1 : Word
  prev2 : Word
  vel : Word
  beyond : Bool
  fifo : List DzCap
  ovf : Bool
  edgeAt : Option Nat
deriving DecidableEq, Repr

/-- A door sequencer beside its registers (R172 to R181): the applied parameters, the SEQ of the last command taken, flags of STATE_PT,
LAST_OBS, the light curtain and the following-error alarm at the last period, the curtain's events while NUDGING, when HOMING or LEARNING began,
since when closed, open and a stall have held (R175), the operator's items as the sequencer writes them at every period (IQ_CMD, V_CMD, V_MAX and
TARGET; R172), and the learning run: its phase, the position periods of the phase, the sum of abs(iq) and its samples, the velocity at the start of
phase 4, the stroke and mass so far, and since when the grant is gone. -/
structure DoorSt where
  applied : Vector Word 10
  seq : Word
  obstructed : Bool
  lastObs : BitVec 4
  lcPrev : Bool
  lcCount : Word
  fePrev : Bool
  closedAt : Option Nat
  openAt : Option Nat
  stallAt : Option Nat
  iqCmd : Word
  vCmd : Word
  vMax : Word
  target : Word
  since : Nat
  phase : Nat
  periods : Nat
  iqSum : Word
  iqMean : Word
  vel0 : Word
  stroke : Word
  friction : Word
  mass : Word
  lost : Option Nat
deriving DecidableEq, Repr

/-- The decoder of an encoder input on the field die (R163): the accepted levels of A and B, the consecutive samples in which each line stood at the
other level, and the count. -/
structure EncSt where
  a : Bool
  b : Bool
  na : Nat
  nb : Nat
  count : Word
deriving DecidableEq, Repr

/-- The car position units, the door sequencers and the encoder inputs. -/
structure LiftSt where
  cars : Vector CarSt 8
  doors : Vector DoorSt 16
  enc : Vector EncSt 32
deriving DecidableEq, Repr

/-! ### Group dispatch (R182 to R191) -/

/-- A call (R182): its state, kind, car, side, landings, persons, answer point, when it was accepted, whether it has returned to
PENDING (R185), whether it has been placed before, and its modelled wait. -/
structure CallSt where
  state : BitVec 3
  kind : BitVec 2
  car : Fin 8
  rear : Bool
  orig : BitVec 7
  dest : BitVec 7
  group : BitVec 4
  answer : Option PointIdx
  born : Nat
  reassigned : Bool
  placed : Bool
  wait : Nat
deriving DecidableEq, Repr

/-- A stop of a car's list: the landing, whether it is committed, and for which sides it was (R188). -/
structure Stop where
  landing : BitVec 7
  committed : Bool
  front : Bool
  rear : Bool
deriving DecidableEq, Repr

/-- What a cycle has worked out and will commit (R184): the bell's time and count, the calls and lists, the plan points and the answer
points with VALUE, VALUE_HI and AUX0 to AUX3, the candidates scored, and whether it reached 4,096. -/
structure DispWork where
  bellAt : Nat
  calls : Tab CallSt
  lists : Vector (List Stop) 8
  plans : List (PointIdx × List Word)
  answers : List (PointIdx × List Word)
  eligible : BitVec 8
  cands : Nat
  deferred : Bool
deriving DecidableEq, Repr

/-- The dispatch assist unit beside its registers: the call table, the stop lists, the answers of calls that have ended (R190), the cycle in
progress, and the latched call window. -/
structure DispSt where
  calls : Tab CallSt
  lists : Vector (List Stop) 8
  ended : List (PointIdx × List Word)
  work : Option DispWork
  win : CallSt
  winAt : Nat
deriving DecidableEq, Repr

/-! ### The safety die (R15 to R18, R192 to R199) -/

/-- A car's request as the safety die holds it (R193): MODE, RELEASE, the door requests, the position state, a cross-check failure, when it came,
whether the channel has judged it, and whether its refusal has been counted. -/
structure SafeReq where
  mode : BitVec 3
  release : Bool
  doorF : Bool
  doorR : Bool
  posState : BitVec 2
  xchk : Bool
  recvAt : Nat
  judged : Bool
  counted : Bool
deriving DecidableEq, Repr

/-- What a channel holds of a car: its inputs, its grants and reason (R194, R195), its consent to the release (R197), the governor count at
which a door contact opened (R196), and since when the RESET contact is open (R197). -/
structure ChanCar where
  ins : SafeIn
  mode : BitVec 3
  doorF : Bool
  doorR : Bool
  reason : BitVec 4
  release : Bool
  openedAt : Option Word
  resetOpen : Option Nat
deriving DecidableEq, Repr

/-- A safety channel: running, its link up, its last requests by car, and its cars. -/
structure ChanSt where
  running : Bool
  link : Bool
  reqs : Vector (Option SafeReq) 8
  cars : Vector ChanCar 8
deriving DecidableEq, Repr

/-- What the safety die holds of a car: the release, the latches in the order of SAFE_CAR_LATCH, the refusals, and when the RESET contact was
last operated, whether operating it has opened the latches, and whether it was operated within 600 s of the set asked for (R197, R199). -/
structure SafeCar where
  released : Bool
  latch : BitVec 6
  refusals : BitVec 16
  operated : Option Nat
  clearable : Bool
  inTime : Bool
deriving DecidableEq, Repr

/-- The safety die: its channels and cars, the parameter set in force, the set asked for and when, its sequence count, and what its own time is ahead of
the control die's, which a reset of the control die begins anew. -/
structure SafeSt where
  chans : Vector ChanSt 2
  cars : Vector SafeCar 8
  params : Option SafetySet
  asked : Option (SafetySet × Nat)
  seq : Word
  ahead : Nat
deriving DecidableEq, Repr

/-! ### Metering (R201 to R219) -/

/-- A channel's active calibration (R208): full scale, NBP, and the breakpoints' current, GAIN_ADJ and PHASE. -/
structure CalCh where
  fs : Nat
  nbp : Nat
  bps : List (Nat × Int × Int)
deriving DecidableEq, Repr

/-- A phase's results of one line cycle in units of 2^−32 (log entry 35): mean square voltage and current, total active power, fundamental
active and reactive power, mean square fundamental voltage and current. -/
structure PhaseRes where
  v2 : Int
  i2 : Int
  p : Int
  pf : Int
  qf : Int
  vf2 : Int
  if2 : Int
deriving DecidableEq, Repr

/-- A circuit's results of one line cycle (R204): its phases, the mean square of the phase currents' sum, the supply's frequency in mHz and mean
square positive- and negative-sequence voltages, and its flags. -/
structure CycleRes where
  phases : Vector (Option PhaseRes) 3
  n2 : Int
  freq : Nat
  pos2 : Int
  neg2 : Int
  extrap : Bool
  clip : Bool
  noV : Bool
  locked : Bool
deriving DecidableEq, Repr

/-- A circuit beside its registers: the cycles of the interval, oldest first, and of each supervised condition (REVERSE, PHASE_REV of each
phase, NO_V, CLIP): since when it holds, whether it held in this interval, whether its episode is recorded (R211). -/
structure MeterCkt where
  cycles : List CycleRes
  since : Vector (Option Nat) 6
  held : Vector Bool 6
  episode : Vector Bool 6
deriving DecidableEq, Repr

/-- A pulse output beside its registers (R218): what has accrued toward the next pulse, in 2^−32 of its unit, and when it may pulse next. -/
structure PulseSt where
  acc : Nat
  free : Nat
deriving DecidableEq, Repr

/-- The battery sequencer (R216): the measurements made, and per circuit the charge in mA s, SEEN, the intervals counted and whether the current
one is. -/
structure BatSt where
  secs : Nat
  charge : Vector Nat 16
  seen : Vector (BitVec 3) 16
  time : Vector Nat 16
  marked : Vector Bool 16
deriving DecidableEq, Repr

/-- A save record of the meter store (R213), with the copy of Locket lines 40 to 47 a merge save carries (R217). -/
structure SaveRec where
  regs : Tab Nat
  copy : Option (List Byte)
deriving DecidableEq, Repr

/-- The metering die beside its registers: the energy registers 8k + n, their baselines, the SNAP bank and the one being taken with the supplies
still to copy (R207), each supply's active calibration and the one waiting for its boundary (R210), the memory of each channel's high-pass filter
(current channels 0 to 47, voltage channels from 48), the previous cycle's uncorrected IRMS of each current channel in µA, the circuits, the latest
save in each of the two areas of the meter store, the area in use and the records in it (R213), the save in progress and when it began, when the
last one began, whether the merge is done, the link, the battery sequencer while it runs, and the pulse outputs. -/
structure MeterSt where
  regs : Tab Nat
  base : Tab Nat
  snap : Tab Nat
  snapNext : Tab Nat
  snapWait : Vector Bool 2
  cal : Vector (Tab CalCh) 2
  calNext : Vector (Option (Tab CalCh)) 2
  highPass : Tab (List Int)
  raw : Tab Nat
  ckts : Vector MeterCkt 16
  areas : Vector (Option SaveRec) 2
  area : Fin 2
  used : Nat
  saving : Option (Tab Nat × Nat)
  lastSave : Nat
  merged : Bool
  link : Bool
  battery : Option BatSt
  pulses : Vector PulseSt 8
deriving DecidableEq, Repr

/-! ### Networks (R242 to R263) -/

/-- A frame waiting in a transmit queue: the queue, its length with the FCS, whether it is one of a pair (R256), the collisions its sending meets
(R263), the words a riser frame carries (R260), whether it is sent again after an underrun (R249), and the end of the last window it missed
(R252). -/
structure TxFrame where
  q : BitVec 2
  len : Nat
  pair : Bool
  coll : BitVec 4 := 0
  riser : Option (List Word) := none
  again : Bool := false
  missed : Option Nat := none
deriving DecidableEq, Repr

/-- A MAC beside its registers: the waiting frames, oldest first, the end of the frame being sent and that frame, the end of a pause, the base time and cycle of
the gate bank in operation and the bank, base time and cycle of a pending change (R251), and the commit point of low-power idle with the length
of its sleep (R255). -/
structure NetMac where
  queue : List TxFrame
  busy : Nat
  sending : Option TxFrame
  pauseEnd : Option Nat
  oper : Option (Nat × Nat)
  change : Option (Nat × Nat × Nat)
  lpiAt : Option (Nat × Nat)
deriving DecidableEq, Repr

/-- An entry of the duplicate table (R257). -/
structure PrpEntry where
  src : BitVec 48
  seq : BitVec 16
  lan : Fin 2
  time : Nat
deriving DecidableEq, Repr

/-- A node of the node table (R256): its address and when a supervision frame of it last arrived on each LAN. -/
structure PrpNode where
  addr : BitVec 48
  heard : Vector (Option Nat) 2
deriving DecidableEq, Repr

/-- The networks beside their registers: the MACs; the PRP sequence count, duplicate table, oldest first, node table and when the next supervision
frame is due; the riser ports' SEQ, last HELLO received, next HELLO and TIME due, the last TIME frame received with its time, and the link delay and the
offset from the neighbour in nanoseconds (R282); the last PLCA beacon of each T1S MAC; the end of step 1 of roll call, when the position was taken, and a
position received before the end of step 1 (R356). -/
structure NetSt where
  macs : Vector NetMac 8
  prpSeq : BitVec 16
  dups : List PrpEntry
  nodes : List PrpNode
  lifeAt : Nat
  riserSeq : Vector (BitVec 16) 2
  helloRx : Vector (Option Nat) 2
  helloAt : Vector Nat 2
  timeAt : Vector Nat 2
  timeRx : Vector (Option (List Byte × Nat)) 2
  timeEx : Vector (Option (Int × Int)) 2
  beaconAt : Vector (Option Nat) 4
  step1At : Nat
  posAt : Nat
  rollHeld : Option (BitVec 8)
deriving DecidableEq, Repr

/-! ### Access control (R269 to R275) -/

/-- A door beside its registers: until when its lock is released, when it opened, the contact and REX levels last seen, and the level last
committed to STRIKE_PT. -/
structure AccDoor where
  release : Option Nat
  openAt : Option Nat
  contact : Bool
  rex : Bool
  strike : Option Bool
deriving DecidableEq, Repr

/-- The access engine beside its registers: the credential store by index, the cache, oldest first, the presentation count, and the doors. -/
structure AccSt where
  store : Tab (Option (Vector Word 8))
  cache : List (BitVec 64 × Vector Word 8)
  count : Word
  doors : Tab AccDoor
deriving DecidableEq, Repr

/-! ### The Charm (R316 to R318) -/

/-- The Charm beside its registers: its 16 KiB, the RF side's shadows by sector, when the RF side last touched each locked sector, when the host
was granted or last used each lock, and the host transfer that waits with its start. -/
structure CharmSt where
  mem : Memory
  shadows : List (Nat × List Byte)
  rfLast : Nat
  hostAt : Tab Nat
  waiting : Option Nat
deriving DecidableEq, Repr

/-! ### Firmware update (R358 to R369) -/

/-- A firmware slot beside its registers: the manifest and the verified blocks, in order. -/
structure FwuSlot where
  manifest : List Byte
  blocks : List (List Byte)
deriving DecidableEq, Repr

/-- Forwarding up the riser (R361): the slot it reads, whether the manifest is the thing sent, the block the neighbour needs, the time of the
last sending while its answer is awaited, and the answers NAK in a row. -/
structure FwdSt where
  slot : Fin 2
  manifest : Bool
  next : Nat
  sentAt : Option Nat
  fails : Nat
deriving DecidableEq, Repr

/-- Firmware update beside its registers: the slots, a host delivery without a manifest yet, the IMAGE_ID of the transfer in progress, the bytes
that have arrived by image offset, the failures of the block that is needed, when a block last came, forwarding, when preparation began and
whether it has ended, the handovers cancelled, when the report card clock started, CONFIRM, the active steward core, and the cores that have failed. -/
structure FwuSt where
  slots : Vector FwuSlot 2
  began : Bool
  xfer : Option (BitVec 64)
  stage : Tab (Option Byte)
  fails : Nat
  lastAt : Nat
  fwd : Option FwdSt
  prepAt : Nat
  ready : Bool
  cancelled : Nat
  trialAt : Option Nat
  confirmed : Bool
  active : Fin 2
  failed : Vector Bool 2
deriving DecidableEq, Repr


/-- The reasons a command stops with a fault. -/
inductive Fault where
  /-- A write of a value other than 0 to a reserved bit that is a live test control, in BOOT, TEST or RECOVER (R329): the manual states neither which
  bits they are nor what they do, and no figure of it holds from then on. Raised by REGISTER_WRITE, by a posted QSPI write carried out and by the stores of a steward core; safe. -/
  | liveTestControl
deriving DecidableEq, Repr

/-- The reasons a command is refused by the model. -/
inductive Refusal where
  /-- The command has no meaning in the model yet; safe. -/
  | notModelled (mnemonic : String)
deriving DecidableEq, Repr

/-- The state of the module. `pending` is the queue of commands, first in first out; `free` counts the free values taken
(log entry 2); `reply` is what the last reading command returned on its port (log entry 6); `mirrorAt` is the count of the
last SAFE mirror update (R18, SAFE_AGE); `settings` holds the settings records of steward firmware in NAND (R366): the registers it restores at
step 1 of roll call (R354); `debugEnds` is the count at which a debug authorisation ends (R379);
`linkErrs` counts the CRC errors of the cross-die links, which no register shows (R13). -/
structure State where
  regs : Tab Word
  free : Nat
  cnt : BitVec 64
  cntFrac : Word
  reply : List Word
  scan : Scan
  points : Tab Point
  roster : Roster
  evt : Evt
  time : TimeSt
  host : HostSt
  bus : BusSt
  locket : Memory
  lpddr : Memory
  field : FieldSt
  pwr : PwrSt
  key : KeySt
  loop : LoopSt
  mirrorAt : Option Nat
  lift : LiftSt
  disp : DispSt
  safe : SafeSt
  meter : MeterSt
  net : NetSt
  acc : AccSt
  charm : CharmSt
  fwu : FwuSt
  nand : NandSt
  settings : Tab Word
  debugEnds : Option Nat
  linkErrs : Tab Nat
  pending : List Instr
deriving DecidableEq, Repr

/-- The outcome of a command or a step. -/
abbrev Out := Host.Outcome State Fault Refusal

/-! ### Reset -/

/-- A block-floating register with zero mantissas and exponent 0 (R38). -/
def BReg.zero : BReg := ⟨Vector.replicate 8 0, 0⟩

/-- The registers of a core before any lesson has started on it (log entry 4; the fields R38 sets at each start). -/
def Ctx.zero : Ctx :=
  { g := Vector.replicate 16 0, b := Vector.replicate 8 BReg.zero, t := Vector.replicate 8 {}, pc := 0, ls := 0x400,
    hm := 0, bell := 0, bound := Vector.replicate 16 none, sleepDue := none }

/-- A core after reset. -/
def Core.zero : Core :=
  { ctx := Ctx.zero, timeHi := 0, lesson := none, stack := [], waiting := .none, clasp := none, ien := 0, irq := 0, frame := [],
    halt := .running, haltCause := 0, step := false }

/-- An undeclared point: zeros, owned by tenant 0 (log entry 4). -/
def Point.zero : Point :=
  { words := Vector.replicate 16 0, poison := 0, plevel := 0, floor := 0, work := Vector.replicate 16 none, decl := none }

/-- The scan fabric after reset: nothing loaded, nothing in flight. -/
def Scan.reset : Scan :=
  { t0 := 0, rung := Vector.replicate 8 0, cores := [], lessons := [], pool := [], poolFifo := [], issueCount := 0, claspFifo := [],
    lockOwner := Vector.replicate 8 none, lockFifo := Vector.replicate 8 [], coreRegions := [], clusterRegions := [],
    mem := [], poison := [], tileErr := [], tilesOut := 0, demoteCount := 0, groups := [], loopQ := [], dispQ := [], accQ := [], staged := [], stagedTenant := none,
    current := [], layout := [], owns := [], switch := none, checkpoints := [], firstStart := false,
    retentiveLost := none }

/-- The roster after reset: the context of tenant 0 only (R117). -/
def Roster.reset : Roster :=
  { ctx := [], staged := [], rules := [], copyCtx := none, copyRules := [], lastActive := [], requests := [],
    aborted := 0, tc := 0 }

/-- The event recorder before its first record (R370). -/
def Evt.reset : Evt :=
  { sram := [], main := [], retained := [], next := 0, windows := [], latch := none, pendingRead := none }

/-- The time base after reset (R276, R278). -/
def TimeSt.reset : TimeSt := { ofsSec := 0, ofsNs := 0, cs := 0, byHost := false, trigs := [], caps := [], ticks := 0 }

/-- The host ports after reset: nobody holds the pass. -/
def HostSt.reset : HostSt :=
  { lastErr := Vector.replicate 8 0, claims := [], nonce := 0, renewedAt := 0, electionClose := none, firstDone := false,
    handover := none, qspi := [], d3hot := false, l1 := false, pmeEn := false, pmeStatus := false, ltr := none }

/-- The bridge after reset. -/
def BusSt.reset : BusSt := { latch := [], latching := none, early := none, stage := Vector.replicate 16 0, progBuf := [], fwuBuf := [] }

/-- An event map entry before its first event. -/
def DaliEv.zero : DaliEv := { last := none, held := none, merged := 0, missed := 0, answer := none }

/-- The field die after reset (R222). -/
def FieldSt.reset : FieldSt :=
  { diPend := [], doHeld := [], grpRetry := Vector.replicate 8 0, vfldBack := Vector.replicate 8 none, pwmLost := [], aiVal := [], aiTick := [],
    lines := Vector.replicate 16 { addressed := false, pend := [] }, sent := [], ev := [] }

/-- Power after reset: no sleep, no agreement, no transfer. -/
def PwrSt.reset : PwrSt :=
  { sleep := none,
    recess := { askedAt := 0, awaits := Vector.replicate 2 false, agreedAt := none, nextAsk := 0, given := Vector.replicate 2 none, gone := Vector.replicate 2 false, waking := Vector.replicate 2 none, quietSince := none },
    xfer := none, off := false, carried := Vector.replicate 2 0, mirrorOld := false }

/-- The key engine of a module as shipped: BLANK, no slot occupied (R289, R290). -/
def KeySt.reset : KeySt :=
  { rows := [], scrapped := false, safetyKey := none, occ := 0, attrMac := 0, nonce := 0, job := none, lost := false }

/-- A slot before any binding: zero parameters, OFF (LOOP_SLOT_*). -/
def SlotSt.zero : SlotSt :=
  { bind := none, staged := Vector.replicate 16 0, act := Vector.replicate 16 0, aCo := 0, kdCo := 0, notchEn := false, feAction := 0,
    dwellCfg := 0, feTime := 0, feTimer := 0, req := 0, active := 0, satHi := false, satLo := false, feAlarm := false, bfSat := false,
    forcedTrack := false, paramErr := false, rosterHold := false, fallback := false, detail := 0, st := BReg.zero, dwell := 0,
    lastSp := 0, lastFf := 0, lastTrack := 0, plan := none, fe := 0, spUsed := 0, fbUsed := 0, outUsed := 0 }

/-- An operator before any binding: DISABLED. -/
def OperSt.zero : OperSt :=
  { bind := none, act := Vector.replicate 3 (Vector.replicate 8 0), st := Vector.replicate 3 BReg.zero, iqRef := 0, velRef := 0,
    posRef := 0, prof := Vector.replicate 3 0, counts := Vector.replicate 4 0, rawVel := 0, vbus := 0, duty := Vector.replicate 3 0, inEffect := Vector.replicate 3 0, stop := false,
    fe := Vector.replicate 3 0, sat := false, amax := 0 }

/-- A zone before any model. -/
def ZoneSt.zero : ZoneSt := { staged := [], model := none, next := none, xh := BReg.zero, plan := [], since := 0 }

/-- A trace channel before ARM. -/
def TrCh.zero : TrCh := { samples := [], dec := 0, post := 0 }

/-- The loop engine after reset. -/
def LoopSt.reset : LoopSt :=
  { slots := [], win := SlotSt.zero, ops := Vector.replicate 16 OperSt.zero, period := 0, zones := [], busy := [],
    tr := Vector.replicate 16 TrCh.zero, accepted := 0, late := [] }

/-- A car position unit after reset: references 0 (R166). -/
def CarSt.zero : CarSt :=
  { refPos := 0, refKm := 0, refKg := 0, prev1 := 0, prev2 := 0, vel := 0, beyond := false, fifo := [], ovf := false, edgeAt := none }

/-- A door sequencer after reset: IDLE. -/
def DoorSt.zero : DoorSt :=
  { applied := Vector.replicate 10 0, seq := 0, obstructed := false, lastObs := 0, lcPrev := false, lcCount := 0, fePrev := false, closedAt := none, openAt := none, stallAt := none, iqCmd := 0, vCmd := 0, vMax := 0, target := 0, since := 0, phase := 0,
    periods := 0, iqSum := 0, iqMean := 0, vel0 := 0, stroke := 0, friction := 0, mass := 0, lost := none }

/-- An encoder input after reset, both lines low (log entry 68). -/
def EncSt.zero : EncSt := { a := false, b := false, na := 0, nb := 0, count := 0 }

/-- A FREE call. -/
def CallSt.zero : CallSt :=
  { state := 0, kind := 0, car := 0, rear := false, orig := 0, dest := 0, group := 0, answer := none, born := 0, reassigned := false, placed := false, wait := 0 }

/-- The dispatch assist unit after reset. -/
def DispSt.reset : DispSt :=
  { calls := [], lists := Vector.replicate 8 [], ended := [], work := none, win := CallSt.zero, winAt := 0 }

/-- A channel's inputs before its first evaluation: everything de-energised (R17). -/
def SafeIn.zero : SafeIn := { dead := 0xFFFFFF, dz := false, rate := 0, gov := 0, runRb := false, doorRb := false }

/-- A channel's view of a car before its first evaluation. -/
def ChanCar.zero : ChanCar :=
  { ins := SafeIn.zero, mode := 0, doorF := false, doorR := false, reason := 0, release := false, openedAt := none, resetOpen := none }

/-- A safety channel as it starts. -/
def ChanSt.zero : ChanSt := { running := false, link := true, reqs := Vector.replicate 8 none, cars := Vector.replicate 8 ChanCar.zero }

/-- The safety die as it starts: every car held safe (R17). -/
def SafeSt.reset : SafeSt :=
  { chans := Vector.replicate 2 ChanSt.zero,
    cars := Vector.replicate 8 { released := false, latch := 0, refusals := 0, operated := none, clearable := false, inTime := false },
    params := none, asked := none, seq := 0, ahead := 0 }

/-- A circuit before its first cycle. -/
def MeterCkt.zero : MeterCkt :=
  { cycles := [], since := Vector.replicate 6 none, held := Vector.replicate 6 false, episode := Vector.replicate 6 false }

/-- The battery sequencer as it starts. -/
def BatSt.zero : BatSt :=
  { secs := 0, charge := Vector.replicate 16 0, seen := Vector.replicate 16 0, time := Vector.replicate 16 0, marked := Vector.replicate 16 false }

/-- The metering die after its reset: zeroed registers, nothing saved, not merged (R217). -/
def MeterSt.reset : MeterSt :=
  { regs := [], base := [], snap := [], snapNext := [], snapWait := Vector.replicate 2 false, cal := Vector.replicate 2 [],
    calNext := Vector.replicate 2 none, highPass := [], raw := [], ckts := Vector.replicate 16 MeterCkt.zero, areas := Vector.replicate 2 none, area := 0, used := 0, saving := none, lastSave := 0,
    merged := false, link := true, battery := none, pulses := Vector.replicate 8 { acc := 0, free := 0 } }

/-- A MAC with nothing queued. -/
def NetMac.zero : NetMac := { queue := [], busy := 0, sending := none, pauseEnd := none, oper := none, change := none, lpiAt := none }

/-- The networks after reset. -/
def NetSt.reset : NetSt :=
  { macs := Vector.replicate 8 NetMac.zero, prpSeq := 0, dups := [], nodes := [], lifeAt := 0, riserSeq := Vector.replicate 2 0,
    helloRx := Vector.replicate 2 none, helloAt := Vector.replicate 2 0, timeAt := Vector.replicate 2 0, timeRx := Vector.replicate 2 none, timeEx := Vector.replicate 2 none,
    beaconAt := Vector.replicate 4 none, step1At := 0, posAt := 0, rollHeld := none }

/-- A door before its first event. -/
def AccDoor.zero : AccDoor := { release := none, openAt := none, contact := false, rex := false, strike := none }

/-- Firmware update after reset: nothing in transfer, steward core 0 active. -/
def FwuSt.reset : FwuSt :=
  { slots := Vector.replicate 2 { manifest := [], blocks := [] }, began := false, xfer := none, stage := [], fails := 0, lastAt := 0, fwd := none,
    prepAt := 0, ready := false, cancelled := 0, trialAt := none, confirmed := false, active := 0, failed := Vector.replicate 2 false }


/-- NAND of a module as shipped: an empty journal, nothing being erased (log entry 66). -/
def NandSt.reset : NandSt :=
  { journal := Vector.replicate 2 [], cur := 0, next := 0, erasing := none, queue := [], bad := [] }

/-- The module right after reset: every register at the reset value of its table, nothing listed in any memory, an empty
queue; the values the spec does not give are those of log entry 4. -/
def State.reset : State :=
  { regs := [], free := 0, cnt := 0, cntFrac := 0, reply := [], scan := Scan.reset, points := [],
    roster := Roster.reset, evt := Evt.reset,
    time := TimeSt.reset, host := HostSt.reset, bus := BusSt.reset,
    locket := [], lpddr := [],
    field := FieldSt.reset,
    pwr := PwrSt.reset,
    key := KeySt.reset,
    loop := LoopSt.reset,
    mirrorAt := none,
    lift := { cars := Vector.replicate 8 CarSt.zero, doors := Vector.replicate 16 DoorSt.zero, enc := Vector.replicate 32 EncSt.zero },
    disp := DispSt.reset,
    safe := SafeSt.reset,
    meter := MeterSt.reset,
    net := NetSt.reset,
    acc := { store := [], cache := [], count := 0, doors := [] },
    charm := { mem := [], shadows := [], rfLast := 0, hostAt := [], waiting := none },
    fwu := FwuSt.reset,
    nand := NandSt.reset,
    settings := [],
    debugEnds := none,
    linkErrs := [],
    pending := [] }

end Sys2Proof.Machine
end

