-- ==== Sys2Proof/Machine/Tab.lean ====
section
/-! DEFINITION. Sparse tables: a list of key and value pairs in one canonical form (keys strictly rising, no entry equal to
what an unlisted key reads as). Registers, memories, points, lessons and the other large arrays of the state are such tables. -/

namespace Sys2Proof.Machine

/-- What key `k` reads as: its entry, or the default of an unlisted key. -/
def Tab.get {α : Type} (d : Nat → α) : Tab α → Nat → α
  | [], k => d k
  | (p, x) :: t, k => if p = k then x else Tab.get d t k

/-- The table without any entry for `k`. -/
def Tab.drop {α : Type} : Tab α → Nat → Tab α
  | [], _ => []
  | (p, x) :: t, k => if p = k then Tab.drop t k else (p, x) :: Tab.drop t k

/-- The entry put in key order. -/
def Tab.place {α : Type} (k : Nat) (v : α) : Tab α → Tab α
  | [] => [(k, v)]
  | (p, x) :: t => if k < p then (k, v) :: (p, x) :: t else (p, x) :: Tab.place k v t

/-- Key `k` set to `v`; a value equal to the default removes the entry. -/
def Tab.set {α : Type} [DecidableEq α] (d : Nat → α) (m : Tab α) (k : Nat) (v : α) : Tab α :=
  if v = d k then Tab.drop m k else Tab.place k v (Tab.drop m k)

/-- Every key of the list is above `k`. -/
def Tab.above {α : Type} (k : Nat) : Tab α → Bool
  | [] => true
  | (p, _) :: t => decide (k < p) && Tab.above k t

/-- The canonical form. -/
def Tab.wf {α : Type} [DecidableEq α] (d : Nat → α) : Tab α → Bool
  | [] => true
  | (p, x) :: t => Tab.above p t && decide (x ≠ d p) && Tab.wf d t

/-- The canonical form of a memory, whose unlisted bytes read as zero (log entry 3). -/
def Memory.wf (m : Memory) : Bool := Tab.wf (fun _ => (0 : Byte)) m

/-- The byte at an address. -/
def Memory.read (m : Memory) (a : Nat) : Byte := Tab.get (fun _ => (0 : Byte)) m a

/-- The memory with one byte written. -/
def Memory.write (m : Memory) (a : Nat) (v : Byte) : Memory := Tab.set (fun _ => (0 : Byte)) m a v

/-- Consecutive bytes from an address. -/
def Memory.readN (m : Memory) (a : Nat) : Nat → List Byte
  | 0 => []
  | n + 1 => Memory.read m a :: Memory.readN m (a + 1) n

/-- Consecutive bytes written from an address. -/
def Memory.writeN (m : Memory) (a : Nat) : List Byte → Memory
  | [] => m
  | b :: bs => Memory.writeN (Memory.write m a b) (a + 1) bs

end Sys2Proof.Machine
end

