-- ==== Sys2Proof/Machine/Ops.lean ====
section
/-! DEFINITION. The named operations over the state: registers of the host map and their fields, counters, time, free
values, memory, points, cores and lessons. -/

namespace Sys2Proof.Machine

/-! ### Registers -/

/-- The rows `dims` place a register at offset `off` from their base. -/
def dimsCover : List (Nat × Nat) → Nat → Bool
  | [], off => off == 0
  | (n, st) :: ds, off => decide (off / st < n) && dimsCover ds (off % st)

/-- The row of the register tables that covers an address. -/
def regSpec? (a : Nat) : Option RegSpec :=
  (regRows (a / 0x10000)).find? (fun r => decide (r.base ≤ a) && dimsCover r.dims (a - r.base))

/-- The reset value of the register at an address (R5): the tables' value, with the values they give by instance. -/
def regDefault (a : Nat) : Word :=
  match regSpec? a with
  | none => 0
  | some r =>
    if a = Reg.NET_CTRL 0 ∨ a = Reg.NET_CTRL 1 then 0xC
    else if a = Reg.DISP_WEIGHT 4 then 20
    else if a = Reg.HOST_LAT_TOL 0 ∨ a = Reg.HOST_LAT_TOL 1 then 2
    else if Reg.HOST_LAT_TOL 2 ≤ a ∧ a ≤ Reg.HOST_LAT_TOL 7 then 0xFFFFFF
    else if a / 0x10000 % 256 ≥ 0x12 ∧ a / 0x10000 % 256 ≤ 0x17 ∧ a % 0x10000 = 0 then 4
    else if a = Reg.ROSTER_HR_CTX 0 then 0x6000
    else if Reg.LOOP_STG_MOTOR 0 ≤ a ∧ a < 0x061C00 ∧ (a - 0x061000) / 0x40 % 3 ≠ 0 ∧ (a % 0x40 = 0xC ∨ a % 0x40 = 0x10) then 0
    else if a = Reg.PWR_FEED_STAT 0 then 0x1001
    else if (Reg.SCAN_CORE_STAT 0 ≤ a ∧ a ≤ Reg.SCAN_CORE_STAT 63) then 1
    else r.reset

/-- What a register of the host map holds. -/
def State.rd (s : State) (a : Nat) : Word := Tab.get regDefault s.regs a

/-- A register of the host map set. -/
def State.wr (s : State) (a : Nat) (v : Word) : State := { s with regs := Tab.set regDefault s.regs a v }

/-- Bits [hi:lo] of a register. -/
def State.fld (s : State) (a hi lo : Nat) : Nat := bits (s.rd a) hi lo

/-- Bits [hi:lo] of a register set. -/
def State.setFld (s : State) (a hi lo v : Nat) : State := s.wr a (putBits (s.rd a) hi lo v)

/-- Bit i of a register. -/
def State.bit (s : State) (a i : Nat) : Bool := bitOf (s.rd a) i

/-- Bit i of a register set to `b`. -/
def State.setBit (s : State) (a i : Nat) (b : Bool) : State := s.wr a (setBitOf (s.rd a) i b)

/-- A count in bits [hi:lo] incremented, saturating. -/
def State.incSat (s : State) (a hi lo : Nat) : State := s.setFld a hi lo (satInc (hi + 1 - lo) (s.fld a hi lo))

/-- A 32-bit count whose table does not say that it saturates, incremented modulo 2^32. -/
def State.inc (s : State) (a : Nat) : State := s.wr a (s.rd a + 1)

/-- A 32-bit saturating count increased by n. -/
def State.addSat (s : State) (a n : Nat) : State := s.wr a (wd (min ((s.rd a).toNat + n) 0xFFFFFFFF))

/-! ### Time -/

/-- The time-base counter (R276). -/
def State.now (s : State) : Nat := s.cnt.toNat

/-- The time of an event that is due at a stated count: the counter moves forward to it and never back. -/
def State.advanceTo (s : State) (t : Nat) : State :=
  if s.cnt.toNat < t then { s with cnt := BitVec.ofNat 64 t } else s

/-! ### Free values (log entry 2) -/

/-- The next free value, of 32 bits. -/
def State.freeWord (s : State) : Word := Config.freeValue s.free

/-- The count of free values moved on. -/
def State.nextFree (s : State) : State := { s with free := s.free + 1 }

/-! ### Interrupts -/

/-- Source bit n set in HOST_IRQ_STAT0 and HOST_IRQ_STAT1 (R309); in D3hot with PME_En, a source enabled in HOST_IRQ_EN0 sends a PME message and
sets PME_Status (R315). -/
def State.irq (s : State) (n : Nat) : State :=
  let s := (s.setBit (Reg.HOST_IRQ_STAT 0) n true).setBit (Reg.HOST_IRQ_STAT 1) n true
  if s.host.d3hot && s.host.pmeEn && s.bit (Reg.HOST_IRQ_EN 0) n then { s with host := { s.host with pmeStatus := true } } else s

/-! ### The one map of core memories -/

/-- The memories a core's code reaches (R34, R36, R41): instruction SRAM, data SRAM (working copies), the committed copies
of STATE regions, and cluster memory. -/
inductive Space where
  | imem (core : CoreId)
  | dmem (core : CoreId)
  | committed (core : CoreId)
  | cluster (cl : Fin 8)
deriving DecidableEq, Repr

/-- The first address of a memory in `Memory`; each core memory has 2^18 addresses and each cluster memory 2^21. -/
def Space.base : Space → Nat
  | .imem c => 0x40000 * c.val
  | .dmem c => 0x1080000 + 0x40000 * c.val
  | .committed c => 0x2100000 + 0x40000 * c.val
  | .cluster cl => 0x4000000 + 0x200000 * cl.val

/-- A byte of core memory. -/
def State.byteAt (s : State) (a : Nat) : Byte := Memory.read s.scan.mem a

/-- The little-endian word at an address of core memory. -/
def State.wordAt (s : State) (a : Nat) : Word := bytesWord (Memory.readN s.scan.mem a 4)

/-- Bytes stored from an address of core memory; each written word loses its poison when the store covers it (R14). -/
def State.storeAt (s : State) (a : Nat) (bytes : List Byte) : State :=
  let p := if bytes.length % 4 = 0 ∧ a % 4 = 0 then
      (List.range (bytes.length / 4)).foldl (fun p i => Tab.set (fun _ => false) p (a + 4 * i) false) s.scan.poison
    else s.scan.poison
  { s with scan := { s.scan with mem := Memory.writeN s.scan.mem a bytes, poison := p } }

/-- A word of core memory carries an uncorrectable error (R14). -/
def State.isPoisoned (s : State) (a : Nat) : Bool := Tab.get (fun _ => false) s.scan.poison (a / 4 * 4)

/-! ### Points -/

/-- Word w of a point's record. -/
def Point.word (p : Point) (w : Nat) : Word := p.words.toList.getD w 0

/-- A point with word w set. -/
def Point.setWord (p : Point) (w : Nat) (v : Word) : Point := { p with words := p.words.setIfInBounds w v }

/-- DESC.PRODUCER (R29). -/
def Point.producer (p : Point) : Nat := bits (p.word 3) 12 10

/-- The record of a point. -/
def State.point (s : State) (i : PointIdx) : Point := Tab.get (fun _ => Point.zero) s.points i.toNat

/-- A point's record replaced. -/
def State.setPoint (s : State) (i : PointIdx) (p : Point) : State :=
  { s with points := Tab.set (fun _ => Point.zero) s.points i.toNat p }

/-! ### Cores and lessons -/

/-- A core. -/
def State.core (s : State) (c : CoreId) : Core := Tab.get (fun _ => Core.zero) s.scan.cores c.val

/-- A core replaced. -/
def State.setCore (s : State) (c : CoreId) (k : Core) : State :=
  { s with scan := { s.scan with cores := Tab.set (fun _ => Core.zero) s.scan.cores c.val k } }

/-- A loaded lesson. -/
def State.lesson? (s : State) (n : Nat) : Option Lesson := Tab.get (fun _ => none) s.scan.lessons n

/-- A lesson replaced. -/
def State.setLesson (s : State) (n : Nat) (l : Lesson) : State :=
  { s with scan := { s.scan with lessons := Tab.set (fun _ => none) s.scan.lessons n (some l) } }

/-- A lesson changed, where it is loaded. -/
def State.updLesson (s : State) (n : Nat) (f : Lesson → Lesson) : State :=
  match s.lesson? n with
  | some l => s.setLesson n (f l)
  | none => s

/-- An entry of the tag pool. -/
def State.entry? (s : State) (e : Nat) : Option Entry := Tab.get (fun _ => none) s.scan.pool e

/-- An entry of the tag pool set, or released with `none`. -/
def State.setEntry (s : State) (e : Nat) (x : Option Entry) : State :=
  { s with scan := { s.scan with pool := Tab.set (fun _ => none) s.scan.pool e x } }

/-- The scan core of a core number, where it is one. -/
def scanCore? (c : CoreId) : Option (Fin 64) := if h : c.val < 64 then some ⟨c.val, h⟩ else none

/-- The core is a scan core. -/
def isScan (c : CoreId) : Bool := decide (c.val < 64)

/-- The cluster of a scan core (cluster × 8 + core). -/
def clusterOf (c : CoreId) : Fin 8 := ⟨c.val / 8 % 8, Nat.mod_lt _ (by decide)⟩

/-- The core number of a scan core. -/
def coreId (c : Fin 64) : CoreId := ⟨c.val, by omega⟩

/-! ### Tenant contexts -/

/-- The default context: tenant 0 valid, B, pinned, every cluster, 100 % of each (R117, R118); others not valid. -/
def tenantDefault (t : Nat) : TenantCtx :=
  if t = 0 then ⟨0xFF11, 0x64646464, 0x64646464⟩ else ⟨0xFF00, 0, 0⟩

/-- The committed context of a tenant (R118). -/
def State.tenant (s : State) (t : BitVec 12) : TenantCtx := Tab.get tenantDefault s.roster.ctx t.toNat

/-- A context's VALID, PRIV (true at T), PIN (ROSTER_TEN_CFG). -/
def TenantCtx.valid (c : TenantCtx) : Bool := bitOf c.cfg 0
def TenantCtx.privT (c : TenantCtx) : Bool := bitOf c.cfg 1
def TenantCtx.pin (c : TenantCtx) : Bool := bitOf c.cfg 4
/-- A context's contract class: 0 A, 1 B, 2 C. -/
def TenantCtx.cls (c : TenantCtx) : Nat := bits c.cfg 3 2
/-- The cluster is allowed to the tenant's lessons. -/
def TenantCtx.allows (c : TenantCtx) (cl : Nat) : Bool := bitOf c.cfg (8 + cl)
/-- The share of a cluster, in percent. -/
def TenantCtx.share (c : TenantCtx) (cl : Nat) : Nat :=
  if cl < 4 then bits c.share0 (8 * cl + 7) (8 * cl) else bits c.share1 (8 * (cl - 4) + 7) (8 * (cl - 4))

/-- The module's variant: 0 X, 1 L, 2 M (R2). -/
def State.variant (s : State) : Nat := s.fld Reg.SYS_ID 3 0

end Sys2Proof.Machine
end

