-- ==== Sys2Proof/Machine/NandOps.lean ====
section
/-! DEFINITION. The erase journal (R367): every erase of a NAND block runs between an INTENT and a DONE record. Erases run one after another; an
area other than the event flash ring is erased as one block, number 0 (log entry 66). -/

namespace Sys2Proof.Machine

/-- A record written: in the block in use, or where that is full in the other one, the full one then being erased. -/
def NandSt.log (n : NandSt) (area : NandArea) (block : Nat) (done : Bool) : NandSt :=
  let r : JournalRec := { seq := n.next, area := area, block := block, done := done }
  let n := { n with next := n.next + 1 }
  if n.journal[n.cur].length < Config.journalRecords then { n with journal := n.journal.set n.cur (n.journal[n.cur] ++ [r]) }
  else { n with journal := (n.journal.set n.cur []).set (1 - n.cur) [r], cur := 1 - n.cur }

/-- The next erase begun with its INTENT, where none runs. -/
def NandSt.start (n : NandSt) : NandSt :=
  match n.erasing, n.queue with
  | none, p :: t => { n.log p.1 p.2 false with erasing := some p, queue := t }
  | _, _ => n

/-- The erase that runs has ended: its DONE, and the next erase begun. -/
def NandSt.finish (n : NandSt) : NandSt :=
  match n.erasing with
  | some p => NandSt.start { n.log p.1 p.2 true with erasing := none }
  | none => n

/-- A block to be erased; a retired block is not. -/
def NandSt.request (n : NandSt) (area : NandArea) (block : Nat) : NandSt :=
  if n.bad.contains (area, block) then n else NandSt.start { n with queue := n.queue ++ [(area, block)] }

/-- Every erase asked for has ended: what a write to an erased area waits for. -/
def NandSt.settled (n : NandSt) : NandSt := (List.range (n.queue.length + 1)).foldl (fun n _ => n.finish) n

/-- The half-erased blocks (R368): an INTENT with no later DONE of its block. -/
def NandSt.half (n : NandSt) : List (NandArea × Nat) :=
  let l := n.journal[1 - n.cur] ++ n.journal[n.cur]
  let later := fun (a b : Word) => decide (0 < (b - a).toNat) && decide ((b - a).toNat < 2 ^ 31)
  ((l.filter (fun r => !r.done && !l.any (fun d => d.done && d.area == r.area && d.block == r.block && later r.seq d.seq))).map
    (fun r => (r.area, r.block))).eraseDups

/-- An area erased through the journal. -/
def State.erase (s : State) (area : NandArea) (block : Nat) : State := { s with nand := s.nand.request area block }

/-- The erases asked for have ended. -/
def State.erased (s : State) : State := { s with nand := s.nand.settled }

/-- The number that stands for an area in an event record (the journal's area codes are not given; log entry 66). -/
def areaCode : NandArea → Nat
  | .slot n => n.val
  | .settings => 2
  | .ring retained => if retained then 4 else 3
  | .checkpoint k => 5 + k.val
  | .meter k => 8 + k.val

end Sys2Proof.Machine
end

