-- ==== Sys2Proof/Machine/Encode.lean ====
section
/-! DEFINITION. The instruction words of Queler: the encoder of every instruction and the decoder of a word, from the encoding
tables of R42 to R45, R48 to R52, R54 to R57, R59, R61, R64, R66, R70 to R72 and R75. Words are numbers below 2^32, so that fields
are read by division. The decoder is total and answers `none` exactly for the words that raise ILLEGAL (R45). -/

namespace Sys2Proof.Machine

/-- Format A (R42). -/
def fmtA (op : Nat) (gd ga gb : BitVec 4) (fn : Nat) : Nat :=
  op * 2 ^ 26 + gd.toNat * 2 ^ 22 + ga.toNat * 2 ^ 18 + gb.toNat * 2 ^ 14 + fn
/-- Formats I and B (R42): two register fields and 18 bits. -/
def fmtI (op : Nat) (gd ga : BitVec 4) (imm : Nat) : Nat := op * 2 ^ 26 + gd.toNat * 2 ^ 22 + ga.toNat * 2 ^ 18 + imm
/-- Format P (R42): data register, tag register, immediate flag, operand. -/
def fmtP (op : Nat) (gd : BitVec 4) (t : BitVec 3) (low : Nat) : Nat :=
  op * 2 ^ 26 + gd.toNat * 2 ^ 22 + t.toNat * 2 ^ 19 + low
/-- Format V (R42). -/
def fmtV (op : Nat) (bd ba bb : BitVec 3) (fn : Nat) : Nat :=
  op * 2 ^ 26 + bd.toNat * 2 ^ 23 + ba.toNat * 2 ^ 20 + bb.toNat * 2 ^ 17 + fn
/-- Format S (R42). -/
def fmtS (gd ga : BitVec 4) (sub operand : Nat) : Nat :=
  0x3E * 2 ^ 26 + gd.toNat * 2 ^ 22 + ga.toNat * 2 ^ 18 + sub * 2 ^ 12 + operand

end Sys2Proof.Machine

namespace Sys2Proof

/-- The point operand and immediate flag, bits [18:0] (R59). -/
def PtOp.bits : PtOp → Nat
  | .imm v => 2 ^ 18 + v.toNat
  | .reg ga => ga.toNat

/-- The 18 bits of an immediate that stand in the instruction word (R42, R43). -/
def Imm.low : Imm → Nat
  | .short v => v.toNat
  | .prefixed v => v.toNat % 2 ^ 18

/-- The prefix word before an instruction, if it has one (R43). -/
def Imm.pre : Imm → Option Nat
  | .short _ => none
  | .prefixed v => some (0x3F * 2 ^ 26 + v.toNat / 2 ^ 18)


end Sys2Proof

namespace Sys2Proof.Machine

/-- The instruction word, the second word of a prefix pair; 0 for a command that is no instruction. -/
def encode (i : Instr) : Nat :=
  match i with
  | .add _ gd ga gb => fmtA 0x00 gd ga gb 0x00
  | .sub _ gd ga gb => fmtA 0x00 gd ga gb 0x01
  | .and _ gd ga gb => fmtA 0x00 gd ga gb 0x02
  | .or _ gd ga gb => fmtA 0x00 gd ga gb 0x03
  | .xor _ gd ga gb => fmtA 0x00 gd ga gb 0x04
  | .nor _ gd ga gb => fmtA 0x00 gd ga gb 0x05
  | .andn _ gd ga gb => fmtA 0x00 gd ga gb 0x06
  | .slt _ gd ga gb => fmtA 0x00 gd ga gb 0x07
  | .sltu _ gd ga gb => fmtA 0x00 gd ga gb 0x08
  | .seq _ gd ga gb => fmtA 0x00 gd ga gb 0x09
  | .sll _ gd ga gb => fmtA 0x00 gd ga gb 0x0A
  | .srl _ gd ga gb => fmtA 0x00 gd ga gb 0x0B
  | .sra _ gd ga gb => fmtA 0x00 gd ga gb 0x0C
  | .ror _ gd ga gb => fmtA 0x00 gd ga gb 0x0D
  | .min _ gd ga gb => fmtA 0x00 gd ga gb 0x0E
  | .max _ gd ga gb => fmtA 0x00 gd ga gb 0x0F
  | .minu _ gd ga gb => fmtA 0x00 gd ga gb 0x10
  | .maxu _ gd ga gb => fmtA 0x00 gd ga gb 0x11
  | .addv _ gd ga gb => fmtA 0x00 gd ga gb 0x12
  | .subv _ gd ga gb => fmtA 0x00 gd ga gb 0x13
  | .adds _ gd ga gb => fmtA 0x00 gd ga gb 0x14
  | .subs _ gd ga gb => fmtA 0x00 gd ga gb 0x15
  | .sel _ gd ga gb => fmtA 0x00 gd ga gb 0x16
  | .abs _ gd ga => fmtA 0x00 gd ga 0 0x17
  | .mul _ gd ga gb => fmtA 0x01 gd ga gb 0x00
  | .mulh _ gd ga gb => fmtA 0x01 gd ga gb 0x01
  | .mulhu _ gd ga gb => fmtA 0x01 gd ga gb 0x02
  | .mulv _ gd ga gb => fmtA 0x01 gd ga gb 0x03
  | .div _ gd ga gb => fmtA 0x01 gd ga gb 0x04
  | .divu _ gd ga gb => fmtA 0x01 gd ga gb 0x05
  | .rem _ gd ga gb => fmtA 0x01 gd ga gb 0x06
  | .remu _ gd ga gb => fmtA 0x01 gd ga gb 0x07
  | .mulq _ gd ga gb => fmtA 0x01 gd ga gb 0x08
  | .addi _ gd ga imm => fmtI 0x02 gd ga imm.low
  | .andi _ gd ga imm => fmtI 0x03 gd ga imm.low
  | .ori _ gd ga imm => fmtI 0x04 gd ga imm.low
  | .xori _ gd ga imm => fmtI 0x05 gd ga imm.low
  | .slti _ gd ga imm => fmtI 0x06 gd ga imm.low
  | .sltiu _ gd ga imm => fmtI 0x07 gd ga imm.low
  | .shi _ gd ga kind n => fmtI 0x08 gd ga (kind.toNat * 2 ^ 5 + n.toNat)
  | .li _ gd imm => fmtI 0x09 gd 0 imm.low
  | .lui _ gd imm18 => fmtI 0x0A gd 0 imm18.toNat
  | .extu _ gd ga l w => fmtA 0x0B gd ga 0 (w.toNat * 2 ^ 5 + l.toNat)
  | .exts _ gd ga l w => fmtA 0x0B gd ga 0 (1 * 2 ^ 10 + w.toNat * 2 ^ 5 + l.toNat)
  | .ins _ gd ga l w => fmtA 0x0B gd ga 0 (2 * 2 ^ 10 + w.toNat * 2 ^ 5 + l.toNat)
  | .clz _ gd ga => fmtA 0x0B gd ga 0 (3 * 2 ^ 10)
  | .ctz _ gd ga => fmtA 0x0B gd ga 0 (4 * 2 ^ 10)
  | .popc _ gd ga => fmtA 0x0B gd ga 0 (5 * 2 ^ 10)
  | .bswap _ gd ga => fmtA 0x0B gd ga 0 (6 * 2 ^ 10)
  | .lw _ gd ga imm => fmtI 0x10 gd ga imm.low
  | .lh _ gd ga imm => fmtI 0x11 gd ga imm.low
  | .lhu _ gd ga imm => fmtI 0x12 gd ga imm.low
  | .lb _ gd ga imm => fmtI 0x13 gd ga imm.low
  | .lbu _ gd ga imm => fmtI 0x14 gd ga imm.low
  | .sw _ gd ga imm => fmtI 0x15 gd ga imm.low
  | .sh _ gd ga imm => fmtI 0x16 gd ga imm.low
  | .sb _ gd ga imm => fmtI 0x17 gd ga imm.low
  | .beq _ ga gb off => fmtI 0x18 ga gb off.toNat
  | .bne _ ga gb off => fmtI 0x19 ga gb off.toNat
  | .blt _ ga gb off => fmtI 0x1A ga gb off.toNat
  | .bge _ ga gb off => fmtI 0x1B ga gb off.toNat
  | .bltu _ ga gb off => fmtI 0x1C ga gb off.toNat
  | .bgeu _ ga gb off => fmtI 0x1D ga gb off.toNat
  | .jal _ gd off => fmtI 0x1E gd 0 off.toNat
  | .jr _ ga off => fmtI 0x1F 0 ga off.toNat
  | .jalr _ gd ga off => fmtI 0x1F gd ga (2 ^ 17 + off.toNat)
  | .nop _ => fmtS 0 0 0x00 0
  | .fence _ => fmtS 0 0 0x01 0
  | .brk _ code => fmtS 0 0 0x02 code.toNat
  | .trap _ code => fmtS 0 0 0x03 code.toNat
  | .eret _ => fmtS 0 0 0x04 0
  | .rdsr _ gd sr => fmtS gd 0 0x05 sr.toNat
  | .wrsr _ ga sr => fmtS 0 ga 0x06 sr.toNat
  | .wait _ => fmtS 0 0 0x20 0
  | .ien _ mask => fmtS 0 0 0x21 mask.toNat
  | .idis _ mask => fmtS 0 0 0x22 mask.toNat
  | .illegalEncoding _ word _ => word.toNat
  | .pget _ gd t pt => fmtP 0x20 gd t pt.bits
  | .pget2 _ gd t pt => fmtP 0x21 gd t pt.bits
  | .pget4 _ gd t pt => fmtP 0x22 gd t pt.bits
  | .pgetvq _ gd t pt => fmtP 0x23 gd t pt.bits
  | .pput _ gd t pt => fmtP 0x24 gd t pt.bits
  | .pput2 _ gd t pt => fmtP 0x25 gd t pt.bits
  | .pput4 _ gd t pt => fmtP 0x26 gd t pt.bits
  | .psync _ gd t pt => fmtP 0x27 gd t pt.bits
  | .twait _ gd t => fmtP 0x28 gd t 0
  | .ttest _ gd t => fmtP 0x29 gd t 0
  | .tmov _ gd t => fmtP 0x2A gd t 0
  | .twaitm _ gd mask => fmtP 0x2B gd 0 mask.toNat
  | .vadd _ bd ba bb tt => fmtV 0x30 bd ba bb (tt.toNat * 2 ^ 16)
  | .vsub _ bd ba bb tt => fmtV 0x30 bd ba bb (tt.toNat * 2 ^ 16 + 1)
  | .vmul _ bd ba bb tt => fmtV 0x30 bd ba bb (tt.toNat * 2 ^ 16 + 2)
  | .vmac _ bd ba bb tt => fmtV 0x30 bd ba bb (tt.toNat * 2 ^ 16 + 3)
  | .vmin _ bd ba bb tt => fmtV 0x30 bd ba bb (tt.toNat * 2 ^ 16 + 4)
  | .vmax _ bd ba bb tt => fmtV 0x30 bd ba bb (tt.toNat * 2 ^ 16 + 5)
  | .vneg _ bd ba tt => fmtV 0x30 bd ba 0 (tt.toNat * 2 ^ 16 + 6)
  | .vabs _ bd ba tt => fmtV 0x30 bd ba 0 (tt.toNat * 2 ^ 16 + 7)
  | .vclamp _ bd ba bb tt => fmtV 0x30 bd ba bb (tt.toNat * 2 ^ 16 + 8)
  | .vdot _ bd ba bb tt => fmtV 0x30 bd ba bb (tt.toNat * 2 ^ 16 + 9)
  | .vsum _ bd ba tt => fmtV 0x30 bd ba 0 (tt.toNat * 2 ^ 16 + 10)
  | .vbcast _ op lane bd ba bb tt => fmtV 0x31 bd ba bb (tt.toNat * 2 ^ 16 + op.toNat * 2 ^ 3 + lane.toNat)
  | .vld _ bd ga off => fmtV 0x32 bd 0 0 (ga.toNat * 2 ^ 13 + off.toNat)
  | .vst _ bd ga off => fmtV 0x32 bd 0 0 (ga.toNat * 2 ^ 13 + 2 ^ 12 + off.toNat)
  | .vext _ ga bd lane => fmtV 0x33 bd 0 0 (ga.toNat * 2 ^ 13 + lane.toNat * 2 ^ 10)
  | .vins _ bd ga lane => fmtV 0x33 bd 0 0 (ga.toNat * 2 ^ 13 + lane.toNat * 2 ^ 10 + 1 * 2 ^ 8)
  | .vgexp _ ga bd => fmtV 0x33 bd 0 0 (ga.toNat * 2 ^ 13 + 2 * 2 ^ 8)
  | .vsete _ bd ga => fmtV 0x33 bd 0 0 (ga.toNat * 2 ^ 13 + 3 * 2 ^ 8)
  | .vcvt _ ga bd lane scale tt =>
    fmtV 0x34 bd 0 0 (ga.toNat * 2 ^ 13 + lane.toNat * 2 ^ 10 + scale.toNat * 2 ^ 3 + tt.toNat * 2 ^ 2)
  | .vcvtf _ bd ga lane scale => fmtV 0x34 bd 0 0 (ga.toNat * 2 ^ 13 + lane.toNat * 2 ^ 10 + 2 ^ 9 + scale.toNat * 2 ^ 3)
  | .vcmp _ ga bd bb cond => fmtV 0x35 bd 0 bb (ga.toNat * 2 ^ 13 + cond.toNat)
  | .vsplat _ bd ga => fmtV 0x36 bd 0 0 (ga.toNat * 2 ^ 13)
  | .vzero _ bd => fmtV 0x36 bd 0 0 1
  | .lend _ => fmtA 0x38 0 0 0 0
  | .lslack _ gd => fmtA 0x39 gd 0 0 0
  | .lsleep _ ga => fmtA 0x3A 0 ga 0 0
  | .lbell _ gd cls => fmtA 0x3B gd 0 0 cls.toNat
  | .clasp _ => fmtA 0x3C 0 0 0 0
  | .unclasp _ => fmtA 0x3C 0 0 0 1
  | .emsg _ gd t unit typ ga len reply =>
    0x3D * 2 ^ 26 + gd.toNat * 2 ^ 22 + t.toNat * 2 ^ 19 + unit.toNat * 2 ^ 17 + ga.toNat * 2 ^ 13 + len.toNat * 2 ^ 11 +
      reply.toNat * 2 ^ 10 + typ.toNat
  | _ => 0

/-- The prefix word of the instruction, where it is a prefix pair (R43). -/
def prefixWord (i : Instr) : Option Nat :=
  match i with
  | .addi _ _ _ imm => imm.pre
  | .andi _ _ _ imm => imm.pre
  | .ori _ _ _ imm => imm.pre
  | .xori _ _ _ imm => imm.pre
  | .slti _ _ _ imm => imm.pre
  | .sltiu _ _ _ imm => imm.pre
  | .li _ _ imm => imm.pre
  | .lw _ _ _ imm => imm.pre
  | .lh _ _ _ imm => imm.pre
  | .lhu _ _ _ imm => imm.pre
  | .lb _ _ _ imm => imm.pre
  | .lbu _ _ _ imm => imm.pre
  | .sw _ _ _ imm => imm.pre
  | .sh _ _ _ imm => imm.pre
  | .sb _ _ _ imm => imm.pre
  | _ => none

end Sys2Proof.Machine

namespace Sys2Proof

/-- A multi-word point operand in the immediate form keeps its word number a multiple of the count (R59). -/
def PtOp.aligned (n : Nat) : PtOp → Bool
  | .imm v => decide (v.toNat / 2 ^ 14 % n = 0)
  | .reg _ => true

/-- A point operand that takes no word number has a word field of 0 (R59). -/
def PtOp.noWord : PtOp → Bool
  | .imm v => decide (v.toNat / 2 ^ 14 = 0)
  | .reg _ => true

end Sys2Proof

namespace Sys2Proof.Machine

/-- The operand rules whose breach raises ILLEGAL though the fields have room for it: R51, R59, R61, R66, R70 and R71. -/
def operandsLegal (i : Instr) : Bool :=
  match i with
  | .extu _ _ _ l w => decide (l.toNat + w.toNat ≤ 31)
  | .exts _ _ _ l w => decide (l.toNat + w.toNat ≤ 31)
  | .ins _ _ _ l w => decide (l.toNat + w.toNat ≤ 31)
  | .pget2 _ gd _ pt => decide (gd.toNat % 2 = 0) && pt.aligned 2
  | .pget4 _ gd _ pt => decide (gd.toNat % 4 = 0) && pt.aligned 4
  | .pgetvq _ gd _ pt => decide (gd.toNat ≤ 14) && pt.noWord
  | .pput2 _ gd _ pt => decide (gd.toNat % 2 = 0) && pt.aligned 2
  | .pput4 _ gd _ pt => decide (gd.toNat % 4 = 0) && pt.aligned 4
  | .psync _ _ _ pt => pt.noWord
  | .emsg _ gd _ unit _ ga len reply =>
    decide (unit.toNat < 3) && decide (len.toNat < 3) && decide (ga.toNat % 2 ^ len.toNat = 0) &&
      (reply || decide (gd = 0))
  | .vbcast _ op _ _ _ _ _ => decide (op.toNat < 4)
  | .vcmp _ _ _ _ cond => decide (cond.toNat < 3)
  | _ => true

/-- Where a register field's bits lie. -/
def rGd (w : Nat) : BitVec 4 := BitVec.ofNat 4 (w / 2 ^ 22)
def rGa (w : Nat) : BitVec 4 := BitVec.ofNat 4 (w / 2 ^ 18)
def rGb (w : Nat) : BitVec 4 := BitVec.ofNat 4 (w / 2 ^ 14)
def rG13 (w : Nat) : BitVec 4 := BitVec.ofNat 4 (w / 2 ^ 13)
def rT (w : Nat) : BitVec 3 := BitVec.ofNat 3 (w / 2 ^ 19)
def rBd (w : Nat) : BitVec 3 := BitVec.ofNat 3 (w / 2 ^ 23)
def rBa (w : Nat) : BitVec 3 := BitVec.ofNat 3 (w / 2 ^ 20)
def rBb (w : Nat) : BitVec 3 := BitVec.ofNat 3 (w / 2 ^ 17)
def rLane (w : Nat) : BitVec 3 := BitVec.ofNat 3 (w / 2 ^ 10)

/-- The point operand of format P (R59): the register form needs bits [17:4] zero. -/
def decPt (w : Nat) : Option PtOp :=
  if w / 2 ^ 18 % 2 = 1 then some (.imm (BitVec.ofNat 18 w))
  else if w / 2 ^ 4 % 2 ^ 14 = 0 then some (.reg (BitVec.ofNat 4 w)) else none

/-- Keep an instruction only where its operand rules hold. -/
def checkOps (i : Instr) : Option Instr := if operandsLegal i then some i else none

/-- Major opcode 0x00 (R48). -/
def decAlu (c : CoreId) (w : Nat) : Option Instr :=
  if w / 2 ^ 6 % 2 ^ 8 ≠ 0 then none
  else
    let d := rGd w
    let a := rGa w
    let b := rGb w
    match w % 2 ^ 6 with
    | 0x00 => some (.add c d a b)
    | 0x01 => some (.sub c d a b)
    | 0x02 => some (.and c d a b)
    | 0x03 => some (.or c d a b)
    | 0x04 => some (.xor c d a b)
    | 0x05 => some (.nor c d a b)
    | 0x06 => some (.andn c d a b)
    | 0x07 => some (.slt c d a b)
    | 0x08 => some (.sltu c d a b)
    | 0x09 => some (.seq c d a b)
    | 0x0A => some (.sll c d a b)
    | 0x0B => some (.srl c d a b)
    | 0x0C => some (.sra c d a b)
    | 0x0D => some (.ror c d a b)
    | 0x0E => some (.min c d a b)
    | 0x0F => some (.max c d a b)
    | 0x10 => some (.minu c d a b)
    | 0x11 => some (.maxu c d a b)
    | 0x12 => some (.addv c d a b)
    | 0x13 => some (.subv c d a b)
    | 0x14 => some (.adds c d a b)
    | 0x15 => some (.subs c d a b)
    | 0x16 => some (.sel c d a b)
    | 0x17 => if b = 0 then some (.abs c d a) else none
    | _ => none

/-- Major opcode 0x01 (R49). -/
def decMul (c : CoreId) (w : Nat) : Option Instr :=
  if w / 2 ^ 6 % 2 ^ 8 ≠ 0 then none
  else
    let d := rGd w
    let a := rGa w
    let b := rGb w
    match w % 2 ^ 6 with
    | 0x00 => some (.mul c d a b)
    | 0x01 => some (.mulh c d a b)
    | 0x02 => some (.mulhu c d a b)
    | 0x03 => some (.mulv c d a b)
    | 0x04 => some (.div c d a b)
    | 0x05 => some (.divu c d a b)
    | 0x06 => some (.rem c d a b)
    | 0x07 => some (.remu c d a b)
    | 0x08 => some (.mulq c d a b)
    | _ => none

/-- Major opcode 0x0B (R51). -/
def decBit (c : CoreId) (w : Nat) : Option Instr :=
  if rGb w ≠ 0 then none
  else
    let d := rGd w
    let a := rGa w
    let l := BitVec.ofNat 5 w
    let n := BitVec.ofNat 5 (w / 2 ^ 5)
    let plain := w % 2 ^ 10 = 0
    match w / 2 ^ 10 % 2 ^ 4 with
    | 0 => checkOps (.extu c d a l n)
    | 1 => checkOps (.exts c d a l n)
    | 2 => checkOps (.ins c d a l n)
    | 3 => if plain then some (.clz c d a) else none
    | 4 => if plain then some (.ctz c d a) else none
    | 5 => if plain then some (.popc c d a) else none
    | 6 => if plain then some (.bswap c d a) else none
    | _ => none

/-- Major opcode 0x3E (R56, R57): unused fields must be 0. A number that names no special register is caught by the meaning. -/
def decSys (c : CoreId) (w : Nat) : Option Instr :=
  let d := rGd w
  let a := rGa w
  let x := BitVec.ofNat 12 w
  match w / 2 ^ 12 % 2 ^ 6 with
  | 0x00 => if d = 0 ∧ a = 0 ∧ x = 0 then some (.nop c) else none
  | 0x01 => if d = 0 ∧ a = 0 ∧ x = 0 then some (.fence c) else none
  | 0x02 => if d = 0 ∧ a = 0 then some (.brk c x) else none
  | 0x03 => if d = 0 ∧ a = 0 then some (.trap c x) else none
  | 0x04 => if d = 0 ∧ a = 0 ∧ x = 0 then some (.eret c) else none
  | 0x05 => if a = 0 then some (.rdsr c d x) else none
  | 0x06 => if d = 0 then some (.wrsr c a x) else none
  | 0x20 => if d = 0 ∧ a = 0 ∧ x = 0 then some (.wait c) else none
  | 0x21 => if d = 0 ∧ a = 0 then some (.ien c x) else none
  | 0x22 => if d = 0 ∧ a = 0 then some (.idis c x) else none
  | _ => none

/-- Major opcodes 0x20 to 0x27 (R61). -/
def decPoint (c : CoreId) (op w : Nat) : Option Instr :=
  match decPt w with
  | none => none
  | some pt =>
    let d := rGd w
    let t := rT w
    match op with
    | 0x20 => some (.pget c d t pt)
    | 0x21 => checkOps (.pget2 c d t pt)
    | 0x22 => checkOps (.pget4 c d t pt)
    | 0x23 => checkOps (.pgetvq c d t pt)
    | 0x24 => some (.pput c d t pt)
    | 0x25 => checkOps (.pput2 c d t pt)
    | 0x26 => checkOps (.pput4 c d t pt)
    | _ => checkOps (.psync c d t pt)

/-- Major opcodes 0x30 to 0x36 (R70, R71). -/
def decVec (c : CoreId) (op w : Nat) : Option Instr :=
  let d := rBd w
  let a := rBa w
  let b := rBb w
  let g := rG13 w
  let lane := rLane w
  let tt := w / 2 ^ 16 % 2 = 1
  match op with
  | 0x30 =>
    if w / 2 ^ 5 % 2 ^ 11 ≠ 0 then none
    else match w % 2 ^ 5 with
      | 0 => some (.vadd c d a b tt)
      | 1 => some (.vsub c d a b tt)
      | 2 => some (.vmul c d a b tt)
      | 3 => some (.vmac c d a b tt)
      | 4 => some (.vmin c d a b tt)
      | 5 => some (.vmax c d a b tt)
      | 6 => if b = 0 then some (.vneg c d a tt) else none
      | 7 => if b = 0 then some (.vabs c d a tt) else none
      | 8 => some (.vclamp c d a b tt)
      | 9 => some (.vdot c d a b tt)
      | 10 => if b = 0 then some (.vsum c d a tt) else none
      | _ => none
  | 0x31 =>
    if w / 2 ^ 8 % 2 ^ 8 ≠ 0 then none
    else checkOps (.vbcast c (BitVec.ofNat 5 (w / 2 ^ 3)) (BitVec.ofNat 3 w) d a b tt)
  | 0x32 =>
    if a ≠ 0 ∨ b ≠ 0 then none
    else if w / 2 ^ 12 % 2 = 0 then some (.vld c d g (BitVec.ofNat 12 w)) else some (.vst c d g (BitVec.ofNat 12 w))
  | 0x33 =>
    if a ≠ 0 ∨ b ≠ 0 ∨ w % 2 ^ 8 ≠ 0 then none
    else match w / 2 ^ 8 % 4 with
      | 0 => some (.vext c g d lane)
      | 1 => some (.vins c d g lane)
      | 2 => if lane = 0 then some (.vgexp c g d) else none
      | _ => if lane = 0 then some (.vsete c d g) else none
  | 0x34 =>
    if a ≠ 0 ∨ b ≠ 0 ∨ w % 4 ≠ 0 then none
    else if w / 2 ^ 9 % 2 = 0 then some (.vcvt c g d lane (BitVec.ofNat 6 (w / 2 ^ 3)) (w / 2 ^ 2 % 2 = 1))
    else if w / 2 ^ 2 % 2 = 0 then some (.vcvtf c d g lane (BitVec.ofNat 6 (w / 2 ^ 3))) else none
  | 0x35 =>
    if a ≠ 0 ∨ w / 2 ^ 3 % 2 ^ 10 ≠ 0 then none else checkOps (.vcmp c g d b (BitVec.ofNat 3 w))
  | 0x36 =>
    if a ≠ 0 ∨ b ≠ 0 ∨ w / 2 % 2 ^ 12 ≠ 0 then none
    else if w % 2 = 0 then some (.vsplat c d g) else if g = 0 then some (.vzero c d) else none
  | _ => none

/-- Major opcode 0x3D (R66). -/
def decMsg (c : CoreId) (w : Nat) : Option Instr :=
  checkOps (.emsg c (rGd w) (rT w) (BitVec.ofNat 2 (w / 2 ^ 17)) (BitVec.ofNat 10 w) (rG13 w)
    (BitVec.ofNat 2 (w / 2 ^ 11)) (w / 2 ^ 10 % 2 = 1))

/-- The immediate of a prefixable instruction: its own 18 bits, or IMM_HI × 2^18 with them (R43). -/
def decImm (hi : Option Nat) (w : Nat) : Imm :=
  match hi with
  | none => .short (BitVec.ofNat 18 w)
  | some h => .prefixed (BitVec.ofNat 32 (h * 2 ^ 18 + w % 2 ^ 18))

/-- The instructions a prefix may stand before (R43), and the same words without one. -/
def decPrefixable (c : CoreId) (hi : Option Nat) (w : Nat) : Option Instr :=
  let d := rGd w
  let a := rGa w
  let i := decImm hi w
  match w / 2 ^ 26 with
  | 0x02 => some (.addi c d a i)
  | 0x03 => some (.andi c d a i)
  | 0x04 => some (.ori c d a i)
  | 0x05 => some (.xori c d a i)
  | 0x06 => some (.slti c d a i)
  | 0x07 => some (.sltiu c d a i)
  | 0x09 => if a = 0 then some (.li c d i) else none
  | 0x10 => some (.lw c d a i)
  | 0x11 => some (.lh c d a i)
  | 0x12 => some (.lhu c d a i)
  | 0x13 => some (.lb c d a i)
  | 0x14 => some (.lbu c d a i)
  | 0x15 => some (.sw c d a i)
  | 0x16 => some (.sh c d a i)
  | 0x17 => some (.sb c d a i)
  | _ => none

/-- The words that stand alone and take no prefix. -/
def decPlain (c : CoreId) (w : Nat) : Option Instr :=
  let d := rGd w
  let a := rGa w
  let b := rGb w
  let off := BitVec.ofNat 18 w
  match w / 2 ^ 26 with
  | 0x00 => decAlu c w
  | 0x01 => decMul c w
  | 0x08 => if w / 2 ^ 7 % 2 ^ 11 = 0 then some (.shi c d a (BitVec.ofNat 2 (w / 2 ^ 5)) (BitVec.ofNat 5 w)) else none
  | 0x0A => if a = 0 then some (.lui c d off) else none
  | 0x0B => decBit c w
  | 0x18 => some (.beq c d a off)
  | 0x19 => some (.bne c d a off)
  | 0x1A => some (.blt c d a off)
  | 0x1B => some (.bge c d a off)
  | 0x1C => some (.bltu c d a off)
  | 0x1D => some (.bgeu c d a off)
  | 0x1E => if a = 0 then some (.jal c d off) else none
  | 0x1F =>
    if w / 2 ^ 17 % 2 = 1 then some (.jalr c d a (BitVec.ofNat 17 w))
    else if d = 0 then some (.jr c a (BitVec.ofNat 17 w)) else none
  | 0x20 | 0x21 | 0x22 | 0x23 | 0x24 | 0x25 | 0x26 | 0x27 => decPoint c (w / 2 ^ 26) w
  | 0x28 => if w % 2 ^ 19 = 0 then some (.twait c d (rT w)) else none
  | 0x29 => if w % 2 ^ 19 = 0 then some (.ttest c d (rT w)) else none
  | 0x2A => if w % 2 ^ 19 = 0 then some (.tmov c d (rT w)) else none
  | 0x2B => if w / 2 ^ 8 % 2 ^ 14 = 0 then some (.twaitm c d (BitVec.ofNat 8 w)) else none
  | 0x30 | 0x31 | 0x32 | 0x33 | 0x34 | 0x35 | 0x36 => decVec c (w / 2 ^ 26) w
  | 0x38 => if w % 2 ^ 26 = 0 then some (.lend c) else none
  | 0x39 => if w % 2 ^ 22 = 0 then some (.lslack c d) else none
  | 0x3A => if d = 0 ∧ w % 2 ^ 18 = 0 then some (.lsleep c a) else none
  | 0x3B => if a = 0 ∧ b = 0 ∧ w / 2 ^ 3 % 2 ^ 11 = 0 then some (.lbell c d (BitVec.ofNat 3 w)) else none
  | 0x3C => if w % 2 ^ 26 = 0 then some (.clasp c) else if w % 2 ^ 26 = 1 then some (.unclasp c) else none
  | 0x3D => decMsg c w
  | 0x3E => decSys c w
  | _ => none

/-- The instruction a word stands for on core c, with the word that follows it: none raises ILLEGAL (R45). A prefix must have
bits [25:14] zero and stand before an instruction of R43. -/
def decodeWords (c : CoreId) (w second : Nat) : Option Instr :=
  if w / 2 ^ 26 = 0x3F then
    if w / 2 ^ 14 % 2 ^ 12 = 0 then decPrefixable c (some (w % 2 ^ 14)) second else none
  else match decPrefixable c none w with
    | some i => some i
    | none => decPlain c w

/-- The core an instruction of Queler runs on; none for a command that is no instruction, and for a word that stands for none. -/
def wordCore (i : Instr) : Option CoreId :=
  match i with
  | .add c _ _ _ => some c
  | .sub c _ _ _ => some c
  | .and c _ _ _ => some c
  | .or c _ _ _ => some c
  | .xor c _ _ _ => some c
  | .nor c _ _ _ => some c
  | .andn c _ _ _ => some c
  | .slt c _ _ _ => some c
  | .sltu c _ _ _ => some c
  | .seq c _ _ _ => some c
  | .sll c _ _ _ => some c
  | .srl c _ _ _ => some c
  | .sra c _ _ _ => some c
  | .ror c _ _ _ => some c
  | .min c _ _ _ => some c
  | .max c _ _ _ => some c
  | .minu c _ _ _ => some c
  | .maxu c _ _ _ => some c
  | .addv c _ _ _ => some c
  | .subv c _ _ _ => some c
  | .adds c _ _ _ => some c
  | .subs c _ _ _ => some c
  | .sel c _ _ _ => some c
  | .abs c _ _ => some c
  | .mul c _ _ _ => some c
  | .mulh c _ _ _ => some c
  | .mulhu c _ _ _ => some c
  | .mulv c _ _ _ => some c
  | .div c _ _ _ => some c
  | .divu c _ _ _ => some c
  | .rem c _ _ _ => some c
  | .remu c _ _ _ => some c
  | .mulq c _ _ _ => some c
  | .addi c _ _ _ => some c
  | .andi c _ _ _ => some c
  | .ori c _ _ _ => some c
  | .xori c _ _ _ => some c
  | .slti c _ _ _ => some c
  | .sltiu c _ _ _ => some c
  | .shi c _ _ _ _ => some c
  | .li c _ _ => some c
  | .lui c _ _ => some c
  | .extu c _ _ _ _ => some c
  | .exts c _ _ _ _ => some c
  | .ins c _ _ _ _ => some c
  | .clz c _ _ => some c
  | .ctz c _ _ => some c
  | .popc c _ _ => some c
  | .bswap c _ _ => some c
  | .lw c _ _ _ => some c
  | .lh c _ _ _ => some c
  | .lhu c _ _ _ => some c
  | .lb c _ _ _ => some c
  | .lbu c _ _ _ => some c
  | .sw c _ _ _ => some c
  | .sh c _ _ _ => some c
  | .sb c _ _ _ => some c
  | .beq c _ _ _ => some c
  | .bne c _ _ _ => some c
  | .blt c _ _ _ => some c
  | .bge c _ _ _ => some c
  | .bltu c _ _ _ => some c
  | .bgeu c _ _ _ => some c
  | .jal c _ _ => some c
  | .jr c _ _ => some c
  | .jalr c _ _ _ => some c
  | .nop c => some c
  | .fence c => some c
  | .brk c _ => some c
  | .trap c _ => some c
  | .eret c => some c
  | .rdsr c _ _ => some c
  | .wrsr c _ _ => some c
  | .wait c => some c
  | .ien c _ => some c
  | .idis c _ => some c
  | .pget c _ _ _ => some c
  | .pget2 c _ _ _ => some c
  | .pget4 c _ _ _ => some c
  | .pgetvq c _ _ _ => some c
  | .pput c _ _ _ => some c
  | .pput2 c _ _ _ => some c
  | .pput4 c _ _ _ => some c
  | .psync c _ _ _ => some c
  | .twait c _ _ => some c
  | .ttest c _ _ => some c
  | .tmov c _ _ => some c
  | .twaitm c _ _ => some c
  | .vadd c _ _ _ _ => some c
  | .vsub c _ _ _ _ => some c
  | .vmul c _ _ _ _ => some c
  | .vmac c _ _ _ _ => some c
  | .vmin c _ _ _ _ => some c
  | .vmax c _ _ _ _ => some c
  | .vneg c _ _ _ => some c
  | .vabs c _ _ _ => some c
  | .vclamp c _ _ _ _ => some c
  | .vdot c _ _ _ _ => some c
  | .vsum c _ _ _ => some c
  | .vbcast c _ _ _ _ _ _ => some c
  | .vld c _ _ _ => some c
  | .vst c _ _ _ => some c
  | .vext c _ _ _ => some c
  | .vins c _ _ _ => some c
  | .vgexp c _ _ => some c
  | .vsete c _ _ => some c
  | .vcvt c _ _ _ _ _ => some c
  | .vcvtf c _ _ _ _ => some c
  | .vcmp c _ _ _ _ => some c
  | .vsplat c _ _ => some c
  | .vzero c _ => some c
  | .lend c => some c
  | .lslack c _ => some c
  | .lsleep c _ => some c
  | .lbell c _ _ => some c
  | .clasp c => some c
  | .unclasp c => some c
  | .emsg c _ _ _ _ _ _ _ => some c
  | _ => none

/-- The words of an instruction in memory order: one, or the prefix and its second word (R43). -/
def encodeWords (i : Instr) : Nat × Nat :=
  match prefixWord i with
  | some p => (p, encode i)
  | none => (encode i, 0)

end Sys2Proof.Machine
end

