-- ==== Sys2Proof/Machine/Operands.lean ====
section
/-! DEFINITION. Every operand form: immediates (R42, R43, R50), bit fields (R51), point operands (R59), branch offsets (R54, R55),
block-float lanes and words (R21, R71). -/

namespace Sys2Proof

/-- The immediate of an instruction that sign-extends its own 18 bits; a prefix gives 32 bits (R42, R43). -/
def Imm.sext : Imm → Word
  | .short v => v.signExtend 32
  | .prefixed v => v

/-- The immediate of an instruction that zero-extends its own 18 bits (R50: ANDI, ORI, XORI). -/
def Imm.zext : Imm → Word
  | .short v => v.setWidth 32
  | .prefixed v => v

/-- The instruction takes two words (R43). -/
def Imm.isPrefixed : Imm → Bool
  | .short _ => false
  | .prefixed _ => true

/-- The g registers a point operand reads. -/
def PtOp.regs : PtOp → List (BitVec 4)
  | .imm _ => []
  | .reg ga => [ga]

end Sys2Proof

namespace Sys2Proof.Machine

/-- A branch offset in words (R54). -/
def wordOff (off : BitVec 18) : Word := off.signExtend 32 * 4

/-- A jump offset in bytes (R55). -/
def byteOff (off : BitVec 17) : Word := off.signExtend 32

/-- Bits [L+W:L] of a word, zero-extended (R51). -/
def extractU (x : Word) (l w : BitVec 5) : Word := wd (bits x (l.toNat + w.toNat) l.toNat)

/-- Bits [L+W:L] of a word, sign-extended (R51). -/
def extractS (x : Word) (l w : BitVec 5) : Word := wi (signedN (w.toNat + 1) (bits x (l.toNat + w.toNat) l.toNat))

/-- gd with ga[W:0] put at bits [L+W:L] (R51). -/
def insertBits (d x : Word) (l w : BitVec 5) : Word := putBits d (l.toNat + w.toNat) l.toNat (bits x w.toNat 0)

/-- The number of leading zero bits (R51). -/
def leadingZeros (x : Word) : Nat := ((List.range 32).find? (fun i => x.getLsbD (31 - i))).getD 32

/-- The number of trailing zero bits (R51). -/
def trailingZeros (x : Word) : Nat := ((List.range 32).find? (fun i => x.getLsbD i)).getD 32

/-- The number of set bits (R51). -/
def popCount (x : Word) : Nat := ((List.range 32).filter (fun i => x.getLsbD i)).length

/-- The four bytes reversed (R51). -/
def byteSwap (x : Word) : Word := bytesWord (wordBytes x).reverse

/-- The point index and word number of a point operand; a count of 2 or 4 clears the low word bits of the register form, and
`noWord` uses word 0 (R59). -/
def pointOperand (g : Vector Word 16) (pt : PtOp) (n : Nat) (noWord : Bool) : PointIdx × Nat :=
  let v := match pt with
    | .imm v => v.toNat
    | .reg ga => (g[ga.toNat]'(by omega)).toNat % 2 ^ 18
  (BitVec.ofNat 14 v, if noWord then 0 else v / 2 ^ 14 / n * n)

/-! ### Block-float operands (R21, R71) -/

/-- The exponent of a b register, −32 to +31. -/
def BReg.exp (b : BReg) : Int := b.e.toInt

/-- Lane i as a signed mantissa. -/
def BReg.mant (b : BReg) (i : Nat) : Int := (b.m.toList.getD i 0).toInt

/-- The signed mantissas of the eight lanes. -/
def BReg.mants (b : BReg) : List Int := b.m.toList.map (·.toInt)

/-- The mantissa and exponent of a BF24 word (R29); bits [31:30] are ignored. -/
def bf24Mant (w : Word) : Int := (w.extractLsb' 0 24).toInt
def bf24Exp (w : Word) : Int := (w.extractLsb' 24 6).toInt

/-- A BF24 word with bits [31:30] 0 (R71). -/
def bf24Word (m e : Int) : Word :=
  wd ((BitVec.ofInt 24 m).toNat + (BitVec.ofInt 6 e).toNat * 2 ^ 24)

/-- Lane i as a BF24 word. -/
def BReg.laneWord (b : BReg) (i : Nat) : Word := bf24Word (b.mant i) b.exp

/-- A b register from eight mantissas and an exponent. -/
def BReg.ofInts (l : List Int) (e : Int) : BReg :=
  ⟨Vector.ofFn (fun i => BitVec.ofInt 24 (l.getD i.val 0)), BitVec.ofInt 6 e⟩

end Sys2Proof.Machine
end

