-- ==== Sys2Proof/Machine/Flags.lean ====
section
/-! DEFINITION. Every range, rounding and flag computation: signed overflow (R48, R49), block-float results (R68, R69), the level
a quality word implies (R30), and the limit flags (R394). -/

namespace Sys2Proof.Machine

/-- A signed result outside −2^31 to 2^31 − 1 (R48, R49). -/
def outOfS32 (x : Int) : Bool := decide (x < -2147483648) || decide (2147483647 < x)

/-- The Q31 product, rounded to nearest, −1 × −1 saturated (R49). -/
def q31 (a b : Word) : Word :=
  let q := (a.toInt * b.toInt + 1073741824) / 2147483648
  wi (if 2147483647 < q then 2147483647 else q)

/-! ### Block-float results (R68, R69) -/

/-- n × 2^x as a mantissa at exponent e (value m × 2^(e − 23)), right shifts rounded to nearest with ties to even (R68). -/
def bfRound (n x e : Int) : Int :=
  let k := x - (e - 23)
  if 0 ≤ k then n * 2 ^ k.toNat else divRne n (2 ^ (-k).toNat)

/-- A mantissa fits 24 bits. -/
def fits24 (m : Int) : Bool := decide (-8388608 ≤ m) && decide (m ≤ 8388607)

/-- The smallest exponent from −32 to +31, at least `lo`, at which every lane fits once rounded; none where it would be above
+31 (R68 rules 3 to 7, R69). -/
def bfExp (lo : Int) (lanes : List Int) (x : Int) : Option Int :=
  ((List.range 64).map (fun i : Nat => (i : Int) - 32)).find? (fun e => decide (lo ≤ e) && lanes.all (fun n => fits24 (bfRound n x e)))

/-- Renormalisation (R68 rule 5): while every lane lies in −2^22 to 2^22 − 1 the lanes shift left, down to exponent −32. -/
def bfRenorm : Nat → List Int → Int → List Int × Int
  | 0, m, e => (m, e)
  | fuel + 1, m, e =>
    if decide (-32 < e) && m.all (fun n => decide (-4194304 ≤ n) && decide (n ≤ 4194303)) then bfRenorm fuel (m.map (· * 2)) (e - 1) else (m, e)

/-- The mantissas and exponent of the exact lanes n × 2^x under R68; none where the exponent would be above +31 (R69). Rounding at +32 is tried
because renormalisation may bring a lane of −2^22 back. -/
def bfNormal (lanes : List Int) (x : Int) : Option (List Int × Int) :=
  let e := (bfExp (-32) lanes x).getD 32
  let r := bfRenorm 64 (lanes.map (fun n => bfRound n x e)) e
  if r.2 ≤ 31 then some r else none

/-- The register of the exact lanes n × 2^x (R68), and whether it had to be saturated at exponent +31 (R69). -/
def bfResult (lanes : List Int) (x : Int) : BReg × Bool :=
  match bfNormal lanes x with
  | some r => (BReg.ofInts r.1 r.2, false)
  | none => (BReg.ofInts (lanes.map (fun n => satInt 24 (bfRound n x 31))) 31, true)

/-- The lanes of two registers as integers at the smaller of their exponents, and that exponent less 23 (R68 rule 1). -/
def bfAlign (a b : BReg) : List Int × List Int × Int :=
  let e := min a.exp b.exp
  (a.mants.map (fun m => m * 2 ^ (a.exp - e).toNat), b.mants.map (fun m => m * 2 ^ (b.exp - e).toNat), e - 23)

/-- A lane-by-lane combination of two registers after alignment (R70). -/
def bfCombine (f : Int → Int → Int) (a b : BReg) : BReg × Bool :=
  let (x, y, e) := bfAlign a b
  bfResult (List.zipWith f x y) e

/-- The exact lane products, at exponent e (value n × 2^e). -/
def bfProducts (a b : BReg) : List Int × Int := (List.zipWith (· * ·) a.mants b.mants, a.exp + b.exp - 46)

/-- A register with every lane equal to one lane of another (R70, opcode 0x31). -/
def BReg.broadcast (b : BReg) (lane : Nat) : BReg := ⟨Vector.replicate 8 (BitVec.ofInt 24 (b.mant lane)), b.e⟩

/-- The single value n × 2^x as the nearest BF24 mantissa and exponent, saturated at +31 (the engines: R134). -/
def bf1 (n x : Int) : (Int × Int) × Bool :=
  match bfNormal [n] x with
  | some r => ((r.1.headD 0, r.2), false)
  | none => ((satInt 24 (bfRound n x 31), 31), true)

/-- Whether m1 × 2^e1 < m2 × 2^e2. -/
def bfLt (m1 e1 m2 e2 : Int) : Bool :=
  let e := min e1 e2
  decide (m1 * 2 ^ (e1 - e).toNat < m2 * 2 ^ (e2 - e).toNat)

/-- Whether m1 × 2^e1 = m2 × 2^e2. -/
def bfEq (m1 e1 m2 e2 : Int) : Bool :=
  let e := min e1 e2
  decide (m1 * 2 ^ (e1 - e).toNat = m2 * 2 ^ (e2 - e).toNat)

/-! ### Quality (R30) -/

/-- The LEVEL that bits [13:4] of a quality word imply: POISONED BAD, OVERRANGE UNCERTAIN, INIT, REMOTE_TIMEOUT and SUSPENDED
STALE, LINK_LOST BAD for a field point and STALE for a metering point (PRODUCER 4). -/
def impliedLevel (qual : Word) (producer : Nat) : Nat :=
  let lost := if bitOf qual 9 then (if producer = 4 then 1 else 3) else 0
  let stale := if bitOf qual 4 || bitOf qual 7 || bitOf qual 13 then 1 else 0
  max (max lost stale) (max (if bitOf qual 12 then 2 else 0) (if bitOf qual 10 then 3 else 0))

/-! ### Limits (R394) -/

/-- The types in which limits are compared. -/
inductive LimitNum where
  | int (lo hi : Int) (v lowLimit highLimit : Int)
  | bf (v lowLimit highLimit : Word)
deriving DecidableEq, Repr

/-- VALUE and the limits in the type that DESC.TYPE gives, with the range H saturates at. -/
def limitNum (typ : Nat) (value valueHi lo hi : Word) : LimitNum :=
  match typ with
  | 0 => .int 0 1 (value.toNat % 2) (lo.toNat % 2) (hi.toNat % 2)
  | 1 => .int (-2147483648) 2147483647 value.toInt lo.toInt hi.toInt
  | 2 => .int 0 4294967295 value.toNat lo.toNat hi.toNat
  | 3 => .int (-9223372036854775808) 9223372036854775807 (signedN 64 (valueHi.toNat * 2 ^ 32 + value.toNat)) lo.toInt hi.toInt
  | 4 => .int 0 18446744073709551615 ((valueHi.toNat * 2 ^ 32 + value.toNat : Nat) : Int) lo.toNat hi.toNat
  | 5 => .int (-2147483648) 2147483647 value.toInt lo.toInt hi.toInt
  | 7 => .int 0 65535 (value.toNat % 65536) (lo.toNat % 65536) (hi.toNat % 65536)
  | _ => .bf value lo hi

/-- A BF24 limit moved by H units of its least significant bit, saturated at the range of BF24 numbers (R394, R21). -/
def bfShift (w : Word) (h : Int) : Int × Int :=
  (if bf24Exp w = 31 then satInt 24 (bf24Mant w + h) else bf24Mant w + h, bf24Exp w)

/-- BELOW_LO after a check: sets below the limit, clears from limit + H on, keeps between; reads 0 where not enabled. -/
def belowLo (n : LimitNum) (h : Nat) (en cur : Bool) : Bool :=
  en && match n with
    | .int lo hi v l _ => if v < l then true else if clampInt lo hi (l + h) ≤ v then false else cur
    | .bf v l _ =>
      let (m, e) := bfShift l h
      if bfLt (bf24Mant v) (bf24Exp v) (bf24Mant l) (bf24Exp l) then true
      else if !bfLt (bf24Mant v) (bf24Exp v) m e then false else cur

/-- ABOVE_HI after a check, as `belowLo`. -/
def aboveHi (n : LimitNum) (h : Nat) (en cur : Bool) : Bool :=
  en && match n with
    | .int lo hi v _ l => if l < v then true else if v ≤ clampInt lo hi (l - h) then false else cur
    | .bf v _ l =>
      let (m, e) := bfShift l (-(h : Int))
      if bfLt (bf24Mant l) (bf24Exp l) (bf24Mant v) (bf24Exp v) then true
      else if !bfLt m e (bf24Mant v) (bf24Exp v) then false else cur

/-- QUAL with BELOW_LO and ABOVE_HI as the checks against VALUE leave them (R394). -/
def limitFlags (desc alarm value valueHi lo hi qual : Word) : Word :=
  let n := limitNum (bits desc 3 0) value valueHi lo hi
  let h := bits alarm 7 0
  setBitOf (setBitOf qual 5 (belowLo n h (bitOf alarm 8) (bitOf qual 5))) 6 (aboveHi n h (bitOf alarm 9) (bitOf qual 6))

end Sys2Proof.Machine
end

