-- ==== Sys2Proof/Machine/Num.lean ====
section
/-! DEFINITION. Exact numbers between two roundings: the value a typed word stands for (R29, R21), and the word a value is written as (R135). -/

namespace Sys2Proof.Machine

/-- A rational number n / d, d > 0. -/
structure Num where
  n : Int
  d : Nat
deriving DecidableEq, Repr

/-- An integer. -/
def Num.int (n : Int) : Num := ⟨n, 1⟩
def Num.zero : Num := ⟨0, 1⟩
/-- n × 2^x. -/
def Num.scale (n x : Int) : Num := if 0 ≤ x then ⟨n * 2 ^ x.toNat, 1⟩ else ⟨n, 2 ^ (-x).toNat⟩
def Num.neg (a : Num) : Num := ⟨-a.n, a.d⟩
def Num.add (a b : Num) : Num := if a.d = b.d then ⟨a.n + b.n, a.d⟩ else ⟨a.n * b.d + b.n * a.d, a.d * b.d⟩
def Num.sub (a b : Num) : Num := a.add b.neg
def Num.mul (a b : Num) : Num := ⟨a.n * b.n, a.d * b.d⟩
def Num.abs (a : Num) : Num := ⟨a.n.natAbs, a.d⟩
/-- The quotient; 0 where the divisor is 0. -/
def Num.div (a b : Num) : Num :=
  if b.n = 0 then Num.zero else if 0 < b.n then ⟨a.n * b.d, a.d * b.n.toNat⟩ else ⟨-(a.n * b.d), a.d * (-b.n).toNat⟩
def Num.lt (a b : Num) : Bool := decide (a.n * b.d < b.n * a.d)
def Num.le (a b : Num) : Bool := !b.lt a
def Num.max (a b : Num) : Num := if a.lt b then b else a
def Num.min (a b : Num) : Num := if a.lt b then a else b
def Num.clamp (x lo hi : Num) : Num := if x.lt lo then lo else if hi.lt x then hi else x
def Num.sum (l : List Num) : Num := l.foldl Num.add Num.zero
/-- The same value in lowest terms. -/
def Num.norm (a : Num) : Num := let g := Nat.gcd a.n.natAbs a.d; if g ≤ 1 then a else ⟨a.n / g, a.d / g⟩

/-- The square root, rounded down. -/
def isqrt (n : Nat) : Nat :=
  (List.range (n.log2 / 2 + 1)).reverse.foldl (fun r i => if (r + 2 ^ i) * (r + 2 ^ i) ≤ n then r + 2 ^ i else r) 0

/-- A square root with 60 fraction bits and a sticky bit below them, which the rounding of a line never mistakes; 0 for a negative number. -/
def Num.sqrt (q : Num) : Num :=
  if q.n ≤ 0 then Num.zero
  else
    let m := q.n.toNat * 2 ^ 120 / q.d
    let f := isqrt m
    ⟨if f * f * q.d = q.n.toNat * 2 ^ 120 then 2 * f else 2 * f + 1, 2 ^ 61⟩

/-! ### Angles -/

/-- π in units of 2^−80. -/
def piFix : Int := 3797952473636338580787993

/-- Cosine and sine of an angle in units of 2^−80, by 32 terms of their series; an error of a few units (log entry 28). -/
def cosSin (x : Int) : Int × Int :=
  let u : Int := 2 ^ 80
  let r := (List.range 32).foldl (fun (p : Int × Int × Int) (i : Nat) =>
    let c := -(p.1 * x / u * x / u) / ((2 * i + 1) * (2 * i + 2) : Int)
    (c, p.2.1 + c, p.2.2 + c * x / u / (2 * i + 3 : Int))) (u, u, x)
  (r.2.1, r.2.2)

/-- Cosine and sine of k parts of a turn of c parts. -/
def turnFix (k c : Nat) : Int × Int := if c = 0 then (2 ^ 80, 0) else cosSin (2 * piFix * (k % c : Nat) / (c : Int))
def turnCos (k c : Nat) : Num := ⟨(turnFix k c).1, 2 ^ 80⟩
def turnSin (k c : Nat) : Num := ⟨(turnFix k c).2, 2 ^ 80⟩

/-- The integer nearest to x × 2^(−k), ties to even. -/
def Num.round (a : Num) (k : Int) : Int := if 0 ≤ k then divRne a.n (a.d * 2 ^ k.toNat) else divRne (a.n * 2 ^ (-k).toNat) a.d

/-- The value of a BF24 word (R21, R29). -/
def Num.ofBf (w : Word) : Num := Num.scale (bf24Mant w) (bf24Exp w - 23)

/-- The mantissas and the exponent of several values under one exponent, and whether they saturate at +31 (R68, R69 with T = 0). -/
def Num.block (l : List Num) : BReg × Bool :=
  match ((List.range 64).map (fun i : Nat => (i : Int) - 32)).find? (fun e => l.all (fun q => fits24 (q.round (e - 23)))) with
  | some e => (BReg.ofInts (l.map (fun q => q.round (e - 23))) e, false)
  | none => (BReg.ofInts (l.map (fun q => satInt 24 (q.round 8))) 31, true)

/-- One value as a BF24 word, and whether it saturates (R68, R69). -/
def Num.toBf (q : Num) : Word × Bool :=
  let (b, sat) := Num.block [q]
  (b.laneWord 0, sat)

/-- A value rounded to BF24 (R68): the result of one arithmetic line of the engines (log entry 20). -/
def Num.bf (q : Num) : Num := Num.ofBf q.toBf.1

/-- Lane i of a block as a value. -/
def BReg.lane (b : BReg) (i : Nat) : Num := Num.scale (b.mant i) (b.exp - 23)

/-- Lane i holds a value, as the block's exponent lets it be held (R134). -/
def BReg.holds (b : BReg) (i : Nat) (q : Num) : Bool := b.mant i == satInt 24 (q.round (b.exp - 23))

/-- The value that VALUE and VALUE_HI stand for under a descriptor (R29). -/
def Num.ofTyped (desc value valueHi : Word) : Num :=
  match bits desc 3 0 with
  | 0 => Num.int (value.toNat % 2)
  | 1 => Num.int value.toInt
  | 2 => Num.int value.toNat
  | 3 => Num.int (signedN 64 (valueHi.toNat * 2 ^ 32 + value.toNat))
  | 4 => Num.int ((valueHi.toNat * 2 ^ 32 + value.toNat : Nat) : Int)
  | 5 => Num.scale value.toInt (signedN 6 (bits desc 9 4))
  | 6 => Num.ofBf value
  | _ => Num.int (value.toNat % 65536)

/-- VALUE as a unit writes a number into a point of the descriptor's type (R135): BF24 rounded under R68; FIX, S32, U32 and ENUM rounded
to nearest and saturated; the flag says that it saturated. -/
def Num.toTyped (desc : Word) (q : Num) : Word × Bool :=
  let sat (lo hi : Int) (k : Int) : Word × Bool :=
    let x := q.round k
    (wi (clampInt lo hi x), decide (x < lo) || decide (hi < x))
  match bits desc 3 0 with
  | 0 => (flagWord' (q.n != 0), false)
  | 1 => sat (-2147483648) 2147483647 0
  | 2 => sat 0 4294967295 0
  | 5 => sat (-2147483648) 2147483647 (signedN 6 (bits desc 9 4))
  | 6 => q.toBf
  | _ => sat 0 65535 0
where
  flagWord' (b : Bool) : Word := if b then 1 else 0

end Sys2Proof.Machine
end

