-- ==== Sys2Proof/Machine/Views.lean ====
section
/-! DEFINITION. What the windows of the host map show of the state kept outside the register file, without side effect. -/

namespace Sys2Proof.Machine

/-! ### The loop engine (R133 to R161) -/

/-- A loop slot. -/
def State.slot (s : State) (n : Nat) : SlotSt := Tab.get (fun _ => SlotSt.zero) s.loop.slots n

/-- The bound slots with their bindings, lowest first. -/
def State.boundSlots (s : State) : List (Nat × SlotBind) := s.loop.slots.filterMap (fun p => p.2.bind.map (fun b => (p.1, b)))

/-- The owning tenant of a slot (R136). -/
def State.slotOwner (s : State) (n : Nat) : BitVec 12 :=
  ((s.scan.owns.find? (fun o => o.1 == .loop (BitVec.ofNat 11 n))).map (·.2)).getD 0

/-- AUX3 of a slot's output (R145). -/
def SlotSt.status (x : SlotSt) : Word :=
  wd (x.active.toNat + 8 * x.satHi.toNat + 16 * x.satLo.toNat + 32 * x.feAlarm.toNat + 64 * x.bfSat.toNat + 128 * x.forcedTrack.toNat +
    256 * x.paramErr.toNat)

/-- A trace channel's record. -/
def State.trCh (s : State) (c : Nat) : TrCh := s.loop.tr.toList.getD c TrCh.zero

/-- The mode in force of an operator (R152). -/
def State.opMode (s : State) (d : Nat) : Nat := s.fld (Reg.LOOP_STG_MODE (3 * d)) 6 4

/-- A zone. -/
def State.zone (s : State) (z : Nat) : ZoneSt := Tab.get (fun _ => ZoneSt.zero) s.loop.zones z

/-- A word of a model. -/
def modelWord (m : Tab Word) (i : Nat) : Word := Tab.get (fun _ => 0) m i

/-- What the slot window shows (LOOP_SLOT_*). -/
def State.slotView (s : State) (a : Nat) : Word :=
  let x := s.loop.win
  let b := x.bind
  let g := fun (f : SlotBind → Nat) => (b.map f).getD 0
  if a = Reg.LOOP_SLOT_CFG then
    wd (b.isSome.toNat + g (fun b => b.cls.toNat * 2 + b.law.toNat * 16 + b.spPt.toNat * 128 + b.ffEn.toNat * 256 + b.trackEn.toNat * 512) +
      x.notchEn.toNat * 1024 + x.feAction.toNat * 2048 + x.dwellCfg.toNat * 8192 + (s.slotOwner (s.fld Reg.LOOP_SLOT_SEL 10 0)).toNat * 2 ^ 20)
  else if a = Reg.LOOP_SLOT_BIND0 then wd (g (fun b => b.fb.toNat + b.out.toNat * 65536))
  else if a = Reg.LOOP_SLOT_BIND1 then wd (g (fun b => b.sp.toNat + b.ff.toNat * 65536))
  else if a = Reg.LOOP_SLOT_BIND2 then wd (g (fun b => b.track.toNat))
  else if a = Reg.LOOP_SLOT_MODE then wd (x.req.toNat + x.active.toNat * 16 + bits x.status 8 3 * 256 + x.detail.toNat * 65536)
  else if a = Reg.LOOP_SLOT_FE then wd (x.feTime.toNat + x.feTimer.toNat * 65536)
  else if a = Reg.LOOP_SLOT_STEXP then wd x.st.e.toNat
  else if Reg.LOOP_SLOT_STATE 0 ≤ a then wd ((x.st.m.toList.getD ((a - Reg.LOOP_SLOT_STATE 0) / 4) 0).toNat)
  else if Reg.LOOP_SLOT_ACT 0 ≤ a then x.act.toList.getD ((a - Reg.LOOP_SLOT_ACT 0) / 4) 0
  else if Reg.LOOP_SLOT_PARAM 0 ≤ a then x.staged.toList.getD ((a - Reg.LOOP_SLOT_PARAM 0) / 4) 0
  else 0

/-- Reads of the LOOP block that registers do not hold; none for the others. -/
def State.loopView (s : State) (a : Nat) : Option Word :=
  if Reg.LOOP_SLOT_CFG ≤ a ∧ a < 0x060200 then some (s.slotView a)
  else if a = Reg.LOOP_STAT then
    some (wd (s.boundSlots.length + (if s.loop.late.isEmpty then 0 else 2 ^ 16) + (if s.loop.busy.isEmpty then 0 else 2 ^ 17) + ((List.range 16).filter (fun d => s.opMode d != 0)).length * 2 ^ 18))
  else if Reg.LOOP_HZ_WIN 0 ≤ a ∧ a ≤ Reg.LOOP_HZ_WIN 511 then
    some (modelWord (s.zone (s.fld Reg.LOOP_HZ_SEL 5 0)).staged ((a - Reg.LOOP_HZ_WIN 0) / 4))
  else if Reg.LOOP_TR_WIN 0 ≤ a ∧ a ≤ Reg.LOOP_TR_WIN 4095 then
    some (if s.fld Reg.LOOP_TR_STAT 1 0 = 3 then (s.trCh (s.fld Reg.LOOP_TR_SEL 3 0)).samples.getD ((a - Reg.LOOP_TR_WIN 0) / 4) 0 else 0)
  else if s.variant = 1 ∧ 0x061000 ≤ a ∧ a < 0x061C00 then some 0
  else none

/-! ### The SAFE mirror (R18) -/

/-- The SAFE mirror is at most 10 ms old (R18, SAFE_STAT.FRESH), and updated since the last exit from RECESS (R347). -/
def State.mirrorFresh (s : State) : Bool :=
  match s.mirrorAt with
  | some t => decide (s.now ≤ t + 10 * msCounts) && !s.pwr.mirrorOld
  | none => false

/-- SAFE_AGE: milliseconds since the last update, saturating; 0xFFFF before the first. -/
def State.safeAge (s : State) : Nat :=
  match s.mirrorAt with
  | some t => min ((s.now - t) / msCounts) 0xFFFF
  | none => 0xFFFF

/-- Reads of the SAFE block that registers do not hold: FRESH and SAFE_AGE. -/
def State.safeView (s : State) (a : Nat) : Option Word :=
  if a = Reg.SAFE_AGE then some (wd s.safeAge)
  else if a = Reg.SAFE_STAT then some (setBitOf (s.rd a) 3 s.mirrorFresh)
  else none

/-! ### Lift cars (R166, R170) -/

/-- A car position unit. -/
def State.car (s : State) (c : Nat) : CarSt := s.lift.cars.toList.getD c CarSt.zero

/-- The position state of a car (R166): 0 UNREFERENCED, 1 VALID, 2 UNCERTAIN, 3 FAULT. -/
def State.carState (s : State) (c : Nat) : Nat := s.fld (Reg.LIFT_CAR_STAT c) 1 0

/-- The state of a car's door-zone input, filtered and with the input's polarity (R220; bit 1 of FIELD_DI_STAT). -/
def State.inDz (s : State) (c : Nat) : Bool := s.bit (Reg.FIELD_DI_STAT (12 * c + s.fld (Reg.LIFT_CAR_CFG c) 19 16)) 1

/-- What LIFT_CAR_DZCAP_INFO shows: the oldest entry and the entries left after it (R170). -/
def State.capInfo (s : State) (c : Nat) : Word :=
  let x := s.car c
  match x.fifo with
  | e :: rest =>
    wd (rest.length + 32 + 64 * e.falling.toNat + 128 * e.terminal.toNat + 256 * e.landing.toNat + 65536 * x.ovf.toNat)
  | [] => wd (0xFF00 + 65536 * x.ovf.toNat)

/-- An operator. -/
def State.oper (s : State) (d : Nat) : OperSt := s.loop.ops.toList.getD d OperSt.zero

/-- A point an engine may commit: of a type, produced by a unit. -/
def State.pointIs (s : State) (i : PointIdx) (typ producer : Nat) : Bool :=
  decide (bits ((s.point i).word 3) 3 0 = typ) && decide ((s.point i).producer = producer)

/-! ### Doors (R172 to R176) -/

/-- A door sequencer. -/
def State.door (s : State) (d : Nat) : DoorSt := s.lift.doors.toList.getD d DoorSt.zero

/-- The state of a sequencer (R174): 0 IDLE, 1 CLOSED, 2 OPENING, 3 OPEN, 4 CLOSING, 5 REVERSING, 6 NUDGING, 7 STOPPED, 8 LEARNING, 9 HOMING,
10 FAULT. -/
def State.doorState (s : State) (d : Nat) : Nat := s.fld (Reg.LIFT_DOOR_STAT d) 3 0

/-- An applied parameter of a door. -/
def DoorSt.par (x : DoorSt) (i : Nat) : Num := Num.ofBf (x.applied.toList.getD i 0)

/-- IQ_CLOSE, V_CLOSE and A_LIM of a set and MASS_L (R176). -/
def derived (v : Nat → Num) (massL : Num) : Num × Num × Num :=
  let m := (v 2).max massL
  ((v 0).div (v 3), ((((Num.int 2).mul (v 1)).div m).sqrt).mul (v 4), (((Num.mk 3 4).mul (v 0)).div m).mul (v 4))

/-- MASS_L (0 until a learning run succeeds). -/
def State.massL (s : State) (d : Nat) : Num := Num.ofBf (s.rd (Reg.LIFT_DOOR_LEARN d 0))

/-- The checks of R181. -/
def doorSetOk (p : List Word) (massL : Num) : Bool :=
  let v := fun i => Num.ofBf (p.getD i 0)
  let (iqc, vc, _) := derived v massL
  (List.range 10).all (fun i => i == 7 || decide (0 < (v i).n)) && decide (0 ≤ (v 7).n) && (v 7).le iqc && ((Num.int 2).mul (v 8)).le vc

/-- CMD_PT and STATE_PT are valid (R173): no other unit in charge binds STATE_PT. -/
def State.doorPoints (s : State) (d : Nat) : Bool :=
  let w := s.rd (Reg.LIFT_DOOR_PTS d)
  let cmd : PointIdx := BitVec.ofNat 14 (bits w 13 0)
  let st : PointIdx := BitVec.ofNat 14 (bits w 29 16)
  (s.pointIs cmd 7 0 || s.pointIs cmd 7 7) && s.pointIs st 7 1 && !s.boundSlots.any (fun p => p.2.out == st) &&
    !s.loop.ops.toList.any (fun o => o.bind.any (fun p => p.1 == st)) &&
    !(List.range 16).any (fun k => k != d && s.doorState k != 0 && s.fld (Reg.LIFT_DOOR_PTS k) 29 16 == st.toNat)

/-- The conditions of R172 beside SEQ_EN. -/
def State.doorReady (s : State) (d : Nat) : Bool :=
  (s.oper d).bind.isSome && s.bit Reg.LOOP_CTRL 1 && s.fld (Reg.LOOP_STG_FE (3 * d + 1)) 17 16 == 0 && s.fld (Reg.LOOP_STG_FE (3 * d + 2)) 17 16 == 0 &&
    s.doorPoints d && doorSetOk (s.door d).applied.toList (s.massL d)

/-- Reads of the LIFT block that registers do not hold. -/
def State.liftView (s : State) (a : Nat) : Option Word :=
  if s.variant = 1 then some 0
  else if a = Reg.LIFT_STAT then
    let mask (st : Nat) : Nat := (List.range 8).foldl (fun n c => if s.carState c = st then n + 2 ^ c else n) 0
    some (wd (mask 1 + 256 * mask 2 + 65536 * mask 3))
  else if Reg.LIFT_CAR_CFG 0 ≤ a ∧ a < 0x070900 then
    let c := (a - 0x070100) / 0x100
    if a = Reg.LIFT_CAR_DZCAP_INFO c then some (s.capInfo c)
    else if a = Reg.LIFT_CAR_STAT c then some (setBitOf (s.rd a) 10 (s.inDz c))
    else none
  else if Reg.LIFT_DOOR_CFG 0 ≤ a ∧ a < 0x075000 ∧ a % 0x100 = 0 then
    some (setBitOf (s.rd a) 0 (s.bit a 0 && s.doorReady ((a - 0x074000) / 0x100)))
  else none

/-! ### Group dispatch (R182) -/

/-- A call slot. -/
def State.call (s : State) (k : Nat) : CallSt := Tab.get (fun _ => CallSt.zero) s.disp.calls k

/-- Reads of the DISP block that registers do not hold. -/
def State.dispView (s : State) (a : Nat) : Option Word :=
  if s.variant = 1 then some 0
  else if a = Reg.DISP_STAT then
    some (wd ((s.disp.calls.filter (fun p => p.2.state != 0)).length + 512 * s.disp.work.isSome.toNat) ||| (s.rd a &&& 0xFFFF0400))
  else if a = Reg.DISP_CALL_INFO then
    let x := s.disp.win
    some (wd (x.state.toNat + 8 * x.kind.toNat + 32 * x.car.val + 256 * x.rear.toNat + 512 * x.orig.toNat + 65536 * x.dest.toNat + 2 ^ 23 * x.group.toNat))
  else if a = Reg.DISP_CALL_AGE then
    let x := s.disp.win
    some (wd ((if x.state = 0 then 0 else min ((s.disp.winAt - x.born) / 25000000) 0xFFFF) + 65536 * ((x.answer.map (·.toNat)).getD 0)))
  else none

/-! ### Debug (R379) -/

/-- Reads of the DBG block that registers do not hold: the minutes left, and the state of the selected core. In SCRAPPED every one reads 0. -/
def State.debugView (s : State) (a : Nat) : Option Word :=
  if s.fld Reg.KEY_LCS 2 0 = 5 then some 0
  else if a = Reg.DBG_STAT then
    some (putBits (s.rd a) 31 16 (match s.debugEnds with | some t => min ((t - s.now) / (60 * secCounts)) 0xFFFF | none => 0))
  else if a = Reg.DBG_CORE_STAT then
    let k := s.core ⟨s.fld Reg.DBG_CORE_SEL 6 0 % 66, Nat.mod_lt _ (by decide)⟩
    some (wd ((match k.halt with | .running => 0 | .haltPending => 1 | .halted => 2) + 4 * k.haltCause.toNat))
  else none

/-! ### The scan fabric and the roster (R81, R94, R98, R119) -/

end Sys2Proof.Machine

namespace Sys2Proof

open Sys2Proof.Machine

/-- BUDGET, DEADLINE and PERIOD in nanoseconds (R81, R85). -/
def LessonDecl.budgetNs (d : LessonDecl) : Nat := d.budget * 100
def LessonDecl.deadlineNs (d : LessonDecl) : Nat := d.deadline * 1000
def LessonDecl.periodNs (d : LessonDecl) : Nat := classPeriod d.cls.val * 4

end Sys2Proof

namespace Sys2Proof.Machine

/-- The listed entries of the pool. -/
def State.entries (s : State) : List (Nat × Entry) := s.scan.pool.filterMap (fun p => p.2.map (fun e => (p.1, e)))

/-- Entries a homeroom slot holds now (SCAN_HR_FLOORn.HELD), and the entries a core holds (R11). -/
def State.heldBy (s : State) (slot : BitVec 4) : Nat := (s.entries.filter (fun p => p.2.slot == slot)).length
def State.coreHeld (s : State) (c : CoreId) : Nat := (s.entries.filter (fun p => p.2.core == c)).length

/-- A slot's floor (R94). -/
def State.floorOf (s : State) (slot : Nat) : Nat := s.fld (Reg.SCAN_HR_FLOOR slot) 10 0

/-- Free entries of the shared part: 8,192 less the floors less what slots hold above their floors (R94). -/
def State.sharedFree (s : State) : Nat :=
  8192 - (List.range 16).foldl (fun n k => n + max (s.floorOf k) (s.heldBy (BitVec.ofNat 4 k))) 0

/-- HM.TENANT of a core (R23). -/
def State.hmTenant (s : State) (c : CoreId) : BitVec 12 := BitVec.ofNat 12 (bits (s.core c).ctx.hm 27 16)
/-- The listed lessons. -/
def State.lessons (s : State) : List (Nat × Lesson) := s.scan.lessons.filterMap (fun p => p.2.map (fun l => (p.1, l)))

/-- The steward core that runs the firmware (R19). -/
def State.stewardCore (s : State) : CoreId := if s.fwu.active = 0 then ⟨64, by decide⟩ else ⟨65, by decide⟩

/-- The tenant whose access steward firmware carries: HM.TENANT of the core that runs it (R22). -/
def State.stewardTenant (s : State) : BitVec 12 := s.hmTenant s.stewardCore

/-- The tenant is active (R119): a lesson in its period, an entry held, steward firmware serving it, or the view. -/
def State.tenantActive (s : State) (t : BitVec 12) : Bool :=
  s.lessons.any (fun p => p.2.decl.tenant == t && p.2.phase != .idle) ||
    s.entries.any (fun p => p.2.tenant == t) ||
    (s.bit Reg.ROSTER_VIEW 31 && decide (s.fld Reg.ROSTER_VIEW 11 0 = t.toNat)) ||
    s.stewardTenant == t

/-- The lessons that run on a core. -/
def State.boundTo (s : State) (c : Fin 64) : List (Nat × Lesson) := s.lessons.filter (fun p => p.2.runsOn == c && !p.2.shed)

/-- The load of a core, Σ BUDGET / PERIOD (SCAN_CORE_STATn.LOAD). -/
def loadOf (l : List LessonDecl) : Num := Num.sum (l.map (fun d => ⟨d.budgetNs, d.periodNs⟩))

/-- The points with a force (R98): QUAL.FORCED set. -/
def State.forcedPoints (s : State) : List Nat := (s.points.filter (fun e => bitOf (e.2.words.toList.getD 2 0) 2)).map (·.1)

/-- The FORCE_ACTIVE ball is driven to its active level (R99); without power, and until a restart has brought a force back, it is released (R389). -/
def State.forceActive (s : State) : Bool := !s.pwr.off && !s.forcedPoints.isEmpty

/-- Session 1 has an enabled interrupt (STATUS bit IRQ, R310), which drives the HOST_IRQ_N ball (R315). -/
def State.qspiIrq (s : State) : Bool := (s.rd (Reg.HOST_IRQ_STAT 1) &&& s.rd (Reg.HOST_IRQ_EN 1)) != 0

/-- Reads of the SCAN block that registers do not hold. -/
def State.scanView (s : State) (a : Nat) : Option Word :=
  if a = Reg.SCAN_STAT then some (setBitOf (setBitOf (s.rd a) 1 (!s.forcedPoints.isEmpty)) 2 (!s.scan.poolFifo.isEmpty))
  else if a = Reg.SCAN_POOL_STAT then some (wd (s.entries.length + 65536 * s.sharedFree))
  else if a = Reg.SCAN_FORCE_STAT then some (putBits (s.rd a) 8 0 s.forcedPoints.length)
  else if Reg.SCAN_HR_FLOOR 0 ≤ a ∧ a ≤ Reg.SCAN_HR_FLOOR 15 then
    some (putBits (s.rd a) 29 16 (s.heldBy (BitVec.ofNat 4 ((a - Reg.SCAN_HR_FLOOR 0) / 4))))
  else if h : Reg.SCAN_CORE_STAT 0 ≤ a ∧ a ≤ Reg.SCAN_CORE_STAT 63 then
    let l := s.boundTo ⟨(a - Reg.SCAN_CORE_STAT 0) / 4, by have := h.2; simp only [Reg.SCAN_CORE_STAT] at *; omega⟩
    let q := loadOf (l.map (·.2.decl))
    some (putBits (putBits (s.rd a) 14 8 (min (ceilDiv (100 * q.n.toNat) q.d) 100)) 27 16 l.length)
  else none

/-- Reads of the ROSTER block that registers do not hold. -/
def State.rosterView (s : State) (a : Nat) : Option Word :=
  if a = Reg.ROSTER_STAT then
    let pinned := ((0 :: (s.roster.ctx.map (·.1)).filter (· != 0)).filter (fun t => (s.tenant (BitVec.ofNat 12 t)).valid && (s.tenant (BitVec.ofNat 12 t)).pin)).length
    let res := ((List.range 16).filter (fun k => s.fld (Reg.ROSTER_HR_CTX k) 13 12 == 2)).length
    some (putBits (putBits (s.rd a) 19 16 pinned) 28 24 res)
  else if Reg.ROSTER_HR_CTX 0 ≤ a ∧ a ≤ Reg.ROSTER_HR_CTX 15 then
    some (setBitOf (s.rd a) 16 (s.fld a 13 12 != 0 && s.tenantActive (BitVec.ofNat 12 (s.fld a 11 0))))
  else none

/-! ### Hosts, power and clocks (R314, R339, R340) -/

/-- HOST_LAT_EFF in µs (R314): the minimum over the sessions that state a tolerance. -/
def State.latEff (s : State) : Nat :=
  let one := fun (n : Nat) =>
    let tol := s.fld (Reg.HOST_LAT_TOL n) 23 0
    let v := if n = 0 then min tol (s.host.ltr.getD 0xFFFFFF) else tol
    let there := if n = 1 then s.bit Reg.HOST_CFG 0 else s.bit Reg.HOST_PASS_PEND (8 + n)
    if !there || (n == 0 && s.host.d3hot) || v == 0xFFFFFF then 0xFFFFFF else v
  (List.range 8).foldl (fun m n => min m (one n)) 0xFFFFFF

/-- The power state in force: the state entered from its commit point on, else RUN (R340). -/
def State.pwrState (s : State) : Nat :=
  match s.pwr.sleep with
  | some x => if x.commitAt ≤ s.now then x.target else 0
  | none => 0

/-- What a clock domain does in a sleep state (R339). -/
inductive ClockMode where
  | runs
  | work
  | stop
deriving DecidableEq, Repr

/-- The table of R339: the mode of a domain in RUN (0), DOZE (1), NAP (2) and RECESS (3). A domain on the reference clock runs; a domain whose busy work
holds the state off is stopped in it. -/
def clockMode (d st : Nat) : ClockMode :=
  let pick := fun (a b c : ClockMode) => match st with | 1 => a | 2 => b | _ => c
  let always := d = 0 ∨ (27 ≤ d ∧ d ≤ 31) ∨ (91 ≤ d ∧ d ≤ 94) ∨ d = 96
  if always then .runs
  else if st = 0 then .work
  else if d = 1 then .runs
  else if d ≤ 9 then pick .work .stop .stop
  else if d ≤ 21 then pick .runs .runs .stop
  else if d = 22 then pick .runs .stop .stop
  else if d ≤ 25 then pick .work .stop .stop
  else if d = 26 then pick .runs .runs .stop
  else if d ≤ 37 then pick .runs .runs (if d = 36 then .stop else .work)
  else if d ≤ 41 then pick .runs .stop .stop
  else if d ≤ 53 then pick .runs .runs .stop
  else if d ≤ 55 then pick .runs .work .stop
  else if d ≤ 57 then pick .runs .runs .stop
  else if d ≤ 59 then pick .runs .stop .stop
  else if d = 60 then .work
  else if d ≤ 74 then pick .runs .runs .stop
  else if d ≤ 76 then pick .work .stop .stop
  else if d = 77 then pick .work .work .stop
  else if d ≤ 80 then pick .runs .work .work
  else if d = 81 then pick .work .stop .stop
  else if d = 82 then .work
  else if d = 83 then pick .work .stop .stop
  else if d ≤ 85 then pick .work .stop .stop
  else if d = 86 then pick .runs .runs .stop
  else if d ≤ 88 then pick .work .stop .stop
  else if d = 89 then pick .runs .runs .stop
  else if d = 90 then pick .runs .stop .stop
  else if d = 95 then pick .runs .runs .stop
  else if d = 97 then pick .runs .runs .stop
  else pick .runs .runs .stop

/-- A clock domain has work now (R133): the fast unit while an operator is not DISABLED, the slow and the horizon unit between a bell and the end of
what it began; of the other domains the manual does not say. -/
def State.domainWork (s : State) (d : Nat) : Bool :=
  if d = 22 then (List.range 16).any (fun k => s.opMode k != 0)
  else if d = 23 then !s.loop.late.isEmpty
  else if d = 25 then !s.loop.busy.isEmpty
  else Config.domainBusy d s.now

/-- A domain's clock runs (R339): as its mode in the power state has it. -/
def State.clkOn (s : State) (d : Nat) : ClockMode → Bool
  | .runs => true
  | .stop => false
  | .work => s.domainWork d

/-- SYS_STALL_MAX: the longest stall since the last read is a time, which the manual bounds and does not give (R330, log entry 65). -/
def State.sysView (s : State) (a : Nat) : Option Word := if a = Reg.SYS_STALL_MAX then some (wd (Config.stallMax s.now % 65536)) else none

/-- CLK_DOM_STAT of a domain: ON, GATED, FREQ beside the register's WAKE and FAULT; OK and DEV of the clock monitors and SLOW_OK, of clocks that stand
outside the model (log entry 65). -/
def State.clkView (s : State) (a : Nat) : Option Word :=
  if Reg.CLK_DOM_STAT 0 ≤ a ∧ a ≤ Reg.CLK_DOM_STAT 99 then
    let d := (a - Reg.CLK_DOM_STAT 0) / 4
    let st := s.pwrState
    let on := s.clkOn d (clockMode d st)
    some (putBits (setBitOf (setBitOf (s.rd a) 0 on) 1 (!on && st != 0)) 28 8 (if on then Config.domainKHz d st else 0))
  else if a = Reg.CLK_AON_STAT then some (setBitOf (s.rd a) 0 (Config.clockState 2 s.now != 0))
  else if a = Reg.CLK_MON 0 ∨ a = Reg.CLK_MON 1 then
    let v := Config.clockState (if a = Reg.CLK_MON 0 then 0 else 1) s.now
    some (putBits (setBitOf (s.rd a) 0 (v % 2 == 1)) 15 8 (v / 2 % 256))
  else none

/-- Reads of the HOST and PWR blocks that registers do not hold, without the reader's own bits. -/
def State.hostView (s : State) (a : Nat) : Option Word :=
  if a = Reg.HOST_LAT_EFF then some (wd s.latEff)
  else if a = Reg.HOST_PASS_STAT then
    let left := if s.bit a 3 then (s.host.renewedAt + 500 * msCounts - s.now) / msCounts else 0
    some (putBits (s.rd a) 25 16 left)
  else none

/-- PWR_FEED_TEST of a feed (R338): the register's days and those gone since, of the feed that does not carry the load now. -/
def State.feedDays (s : State) (f : Fin 2) : Nat :=
  let d := s.fld Reg.PWR_FEED_TEST (16 * f.val + 15) (16 * f.val)
  if d = 0xFFFF ∨ s.bit Reg.PWR_STAT 3 = decide (f = 1) then d else min (d + (s.now - s.pwr.carried[f]) / (86400 * secCounts)) 0xFFFE

/-- Both feeds' days in the register's layout. -/
def State.feedTest (s : State) : Word := wd (s.feedDays 0 + 65536 * s.feedDays 1)
def State.pwrView (s : State) (a : Nat) : Option Word :=
  if a = Reg.PWR_STAT then some (putBits (s.rd a) 2 0 s.pwrState)
  else if a = Reg.PWR_FEED_TEST then some s.feedTest
  else match (List.range 2).find? (fun f => a == Reg.PWR_FEED_V0 f || a == Reg.PWR_FEED_V1 f) with
    | some f => some (Config.railWord f (if a = Reg.PWR_FEED_V0 f then 0 else 1) s.now)
    | none => none

/-! ### Other blocks -/

/-- BUS_FAIL and ADDRESSING of every line (DALI_STAT). -/
def State.daliView (s : State) (a : Nat) : Option Word :=
  if a = Reg.DALI_STAT then
    let mask (st : Nat) : Nat := (List.range 16).foldl (fun n l => if s.fld (Reg.DALI_LINE_STAT l) 1 0 = st then n + 2 ^ l else n) 0
    some (wd (mask 1 + 65536 * mask 2))
  else none

/-- ACC_STATE. -/
def State.accView (s : State) (a : Nat) : Option Word :=
  if a = Reg.ACC_STATE then some (wd ((s.acc.store.filter (fun p => p.2.isSome)).length + 2 ^ 17 * s.acc.cache.length)) else none

/-- Reads of the SER block that registers do not hold: the MS/TP ring's TOKEN and SOLE (R265), and the error counts of a CAN channel that is on,
error passive from 128 up (R267). The ring and the bus stand outside the module (log entry 37). -/
def State.serView (s : State) (a : Nat) : Option Word :=
  if Reg.SER_CH_STAT 0 ≤ a ∧ a ≤ Reg.SER_CH_STAT 7 ∧ a % 0x40 = 4 then
    let n := (a - Reg.SER_CH_STAT 0) / 0x40
    let ring := s.bit a 2 && s.fld (Reg.SER_CH_CFG n) 1 0 == 1 && s.pwrState != 3
    some (setBitOf (setBitOf (s.rd a) 0 (ring && Config.ringToken n s.now)) 1 (ring && Config.ringSole n s.now))
  else if Reg.SER_CAN_STAT 0 ≤ a ∧ a ≤ Reg.SER_CAN_STAT 3 ∧ a % 0x40 = 4 then
    let n := (a - Reg.SER_CAN_STAT 0) / 0x40
    if s.fld a 1 0 = 0 then
      let tec := (Config.canErrors n s.now).toNat % 256
      let rcv := (Config.canErrors n s.now).toNat / 256
      some (wd ((if 128 ≤ tec ∨ 128 ≤ rcv then 1 else 0) + 256 * tec + 65536 * rcv))
    else none
  else none

/-- The port-specific registers a MAC has (the tables' "LAN", "riser" and "T1S"). -/
def netHas (n off : Nat) : Bool :=
  if off = 0x14 ∨ off = 0x18 ∨ off = 0x6C ∨ off = 0x70 then decide (n < 2)
  else if off = 0x74 ∨ (0x800 ≤ off ∧ off < 0x810) then decide (4 ≤ n)
  else if off = 0x78 ∨ (0x900 ≤ off ∧ off < 0x90C) then decide (n = 2 ∨ n = 3)
  else true

/-- The partner of LAN A or B is in low-power idle (R254): its own choice while EEE is agreed. -/
def State.rxLpi (s : State) (n : Nat) : Bool := s.bit (Reg.NET_STAT n) 5 && Config.partnerIdle n s.now

/-- Reads of the NET blocks that registers do not hold: REMAIN, RX_LPI while EEE is agreed (R254), and 0 for a register the port lacks. -/
def State.netView (s : State) (a : Nat) : Option Word :=
  let n := a / 0x10000 - 0x10
  if !netHas n (a % 0x10000) then some 0
  else if a = Reg.NET_PAUSE n then
    let left := match ((s.net.macs.toList.getD n NetMac.zero).pauseEnd) with | some t => min (ceilDiv (t - s.now) usCounts) 0xFFFF | none => 0
    some (putBits (s.rd a) 31 16 left)
  else if a = Reg.NET_STAT n ∧ n < 2 then some (setBitOf (s.rd a) 2 (s.rxLpi n))
  else none

/-- What TIME_CAP_INFO shows: the oldest capture and the entries left after it (R288). -/
def State.timeView (s : State) (a : Nat) : Option Word :=
  match (List.range 8).find? (fun c => a == Reg.TIME_CAP_INFO c) with
  | some c =>
    let x := Tab.get (fun _ => { fifo := [], ovf := false }) s.time.caps c
    some (match x.fifo with
      | e :: rest => wd (rest.length + 8 + 16 * e.rise.toNat + 32 * e.coarse.toNat + 64 * x.ovf.toNat)
      | [] => wd (64 * x.ovf.toNat))
  | none => none

/-- FWU_TRIAL.REMAIN: seconds left to the report card. -/
def State.trialRemain (s : State) : Nat :=
  match s.fwu.trialAt with
  | some t => ceilDiv (t + s.fld Reg.FWU_REPORT_DEADLINE 11 0 * secCounts - s.now) secCounts
  | none => 0

/-- FWU_TRIAL. -/
def State.fwuView (s : State) (a : Nat) : Option Word := if a = Reg.FWU_TRIAL then some (wd s.trialRemain) else none

/-- Bits 0 to 3 of KEY_TAMPER_CFG.ARM read 1 in COMMISSION and FIELD (R297). -/
def State.keyView (s : State) (a : Nat) : Option Word :=
  if a = Reg.KEY_TAMPER_CFG then
    let lcs := s.fld Reg.KEY_LCS 2 0
    some (if lcs = 2 ∨ lcs = 3 then s.rd a ||| 0xF else s.rd a)
  else none

/-- OPEN and LIMIT of an AO (R232): what its load does while it is driven, an open loop in the current modes and an overload of the voltage
stage. The load stands outside the module (log entry 21). -/
def State.fieldView (s : State) (a : Nat) : Option Word :=
  let n := (a - Reg.FIELD_AO_STAT 0) / 16
  if Reg.FIELD_AO_STAT 0 ≤ a ∧ a ≤ Reg.FIELD_AO_STAT 15 ∧ a % 16 = 4 then
    let cfg := s.rd (Reg.FIELD_AO_CFG n)
    let mode := bits cfg 17 16
    let bad := s.bit Reg.FIELD_CTRL 0 && s.bit Reg.FIELD_STAT 8 && bitOf cfg 14 && mode != 0 && Config.aoLoad n s.now
    some (setBitOf (setBitOf (s.rd a) 16 (bad && mode != 1)) 17 (bad && mode == 1))
  else none

/-- The views by block (R5). -/
def State.views (s : State) (a : Nat) : Option Word :=
  match a / 0x10000 with
  | 0x00 => s.sysView a
  | 0x01 => s.hostView a
  | 0x02 => s.pwrView a
  | 0x03 => s.clkView a
  | 0x04 => s.scanView a
  | 0x05 => s.rosterView a
  | 0x06 => s.loopView a
  | 0x07 => s.liftView a
  | 0x08 => s.dispView a
  | 0x09 => s.safeView a
  | 0x0A => if s.variant = 2 then some 0 else none
  | 0x0B => s.fieldView a
  | 0x0C => s.daliView a
  | 0x0D => s.serView a
  | 0x0E => s.accView a
  | 0x19 => s.timeView a
  | 0x1A => s.keyView a
  | 0x1C => s.fwuView a
  | 0x1F => s.debugView a
  | b => if 0x10 ≤ b ∧ b ≤ 0x17 then s.netView a else none

end Sys2Proof.Machine
end

