-- ==== Sys2Proof/Machine/RegRead.lean ====
section
/-! DEFINITION. What a read of the host map shows: the register file, and the windows that show state kept elsewhere. A read by
this function has no side effect; the side effects of R321 are in Machine/RegIf.lean. -/

namespace Sys2Proof.Machine

/-- The applied time in nanoseconds: offset + TIME_CNT × 4 ns (R278). -/
def State.appliedNs (s : State) : Nat := s.time.ofsSec.toNat * 1000000000 + s.time.ofsNs + s.cnt.toNat * 4

/-- The seconds of the applied time, 48 bits (R278). -/
def State.appliedSec (s : State) : Nat := s.appliedNs / 1000000000 % 2 ^ 48

/-- The context selected by ROSTER_TEN_SEL, staged and committed. -/
def State.selTenant (s : State) : Nat := s.fld Reg.ROSTER_TEN_SEL 11 0

/-- A record's words as the latch shows them (R370); the CRC word is `Config.recordCrc` of the others. -/
def EvRec.words (r : EvRec) : List Word :=
  let opt (o : Option Nat) (k : Nat) : Nat := match o with | some v => v * 2 ^ k | none => 0
  let w1 := r.sev.toNat + r.level.toNat * 8 + r.source.toNat * 256 + r.snaps.length * 65536
  let w5 := opt (r.tenant.map (·.toNat)) 0 + opt (r.slot.map (·.toNat)) 12 + opt (r.session.map (·.toNat)) 16 +
    (if r.tenant.isSome then 2 ^ 19 else 0) + (if r.session.isSome then 2 ^ 20 else 0) + (if r.slot.isSome then 2 ^ 21 else 0)
  let valid := (List.range r.snaps.length).foldl (fun n i => if (r.snaps.getD i none).isSome then n + 2 ^ i else n) 0
  let body := [r.seq, wd w1, r.stamp.extractLsb' 0 32, r.stamp.extractLsb' 32 32,
      wd (r.code.toNat + r.repeats.toNat * 65536), wd w5] ++
    (List.range 6).map (fun i => r.args.getD i 0) ++ (List.range 16).map (fun i => (r.snaps.getD i none).getD 0) ++
    [wd (r.trigger.toNat + valid * 256), r.seconds, wd r.boot.toNat]
  body ++ [Config.recordCrc body]

/-- Word w of a point as readers see it; a point of a tile out of service reads LEVEL BAD with POISONED (R332). -/
def State.pointWord (s : State) (i : PointIdx) (w : Nat) : Word :=
  if s.scan.tilesOut.getLsbD (i.toNat / 2048) then (if w = 2 then 0x403 else 0)
  else (s.point i).words.toList.getD w 0

/-- The word a read of the host map shows to nobody in particular: what a debug peek reads (R380). WO words read 0 because
nothing is stored in them. -/
def State.peekWord (s : State) (a : Nat) : Word :=
  if 0x800000 ≤ a ∧ a < 0x900000 then s.pointWord (BitVec.ofNat 14 ((a - 0x800000) / 64)) (a % 64 / 4)
  else if a = Reg.TIME_CNT_LO then s.cnt.extractLsb' 0 32
  else if a = Reg.TIME_CNT_HI then s.cnt.extractLsb' 32 32
  else if a = Reg.ROSTER_TEN_CFG then (Tab.get tenantDefault s.roster.staged s.selTenant).cfg
  else if a = Reg.ROSTER_TEN_SHARE0 then (Tab.get tenantDefault s.roster.staged s.selTenant).share0
  else if a = Reg.ROSTER_TEN_SHARE1 then (Tab.get tenantDefault s.roster.staged s.selTenant).share1
  else if a = Reg.ROSTER_TEN_ACT then (Tab.get tenantDefault s.roster.ctx s.selTenant).cfg
  else if a = Reg.ROSTER_TEN_SHARE_ACT0 then (Tab.get tenantDefault s.roster.ctx s.selTenant).share0
  else if a = Reg.ROSTER_TEN_SHARE_ACT1 then (Tab.get tenantDefault s.roster.ctx s.selTenant).share1
  else if Reg.EVT_RD_DATA 0 ≤ a ∧ a ≤ Reg.EVT_RD_DATA 31 then
    match s.evt.latch with
    | some r => r.words.getD ((a - Reg.EVT_RD_DATA 0) / 4) 0
    | none => 0
  else if Reg.MBOX_DATA 0 ≤ a ∧ a ≤ Reg.MBOX_DATA 3 then
    if s.bit Reg.MBOX_STAT 0 then s.bus.latch.getD ((a - Reg.MBOX_DATA 0) / 4 + 4 * s.fld Reg.MBOX_PAGE 0 0) 0 else 0
  else (s.views a).getD (s.rd a)

end Sys2Proof.Machine
end

