-- ==== Sys2Proof/Machine/Events.lean ====
section
/-! DEFINITION. The event recorder's one entry point (R370 to R375, R395): every rule that "records an event" calls `record` or
`recordWindow`. -/

namespace Sys2Proof.Machine

/-- EVT_CTRL.MIN_SEV, 3 taken as 2 (R371). -/
def State.minSev (s : State) : Nat := min (s.fld Reg.EVT_CTRL 1 0) 2

/-- Trigger t matches a record (R372). -/
def State.trigMatches (s : State) (it : EvItem) (t : Nat) : Bool :=
  let cfg := s.rd (Reg.EVT_TRIG_CFG t)
  bitOf cfg 0 && (bitOf cfg 4 || decide (bits cfg 23 16 = it.source.toNat)) &&
    (bitOf cfg 5 || decide (s.fld (Reg.EVT_TRIG_CODE t) 15 0 = it.code.toNat)) && decide (bits cfg 3 1 ≤ it.sev.toNat)

/-- The triggers a record matches, lowest first. -/
def State.matching (s : State) (it : EvItem) : List Nat := (List.range 32).filter (s.trigMatches it)

/-- A block the variant lacks (R1): LIFT, DISP and SAFE on L, METER on M. -/
def State.absentBlock (s : State) (a : Nat) : Bool :=
  let b := a / 0x10000
  (s.variant == 1 && (b == 7 || b == 8 || b == 9 || (decide (0x61000 ≤ a) && decide (a < 0x61C00)))) ||
    (s.variant == 2 && b == 0xA)

/-- One snapshot word (R372), a peek read (R380): none where the entry is not valid, the block is absent or behind a lost link, or it is KEY_BUF; of the
KEY block in COMMISSION and FIELD only KEY_LCS and KEY_STAT. -/
def State.snapWord (s : State) (t i : Nat) : Option Word :=
  let e := s.rd (Reg.EVT_TRIG_ADDR t i)
  let a := bits e 23 0 / 4 * 4
  if bitOf e 31 && !s.absentBlock a && !(decide (Reg.KEY_BUF 0 ≤ a) && decide (a ≤ Reg.KEY_BUF 1023)) &&
      !(a / 0x10000 == 0xB && !s.bit Reg.FIELD_STAT 8) && !(a / 0x10000 == 0xA && !s.meter.link)
  then some (if a / 0x10000 = 0x1A ∧ (s.fld Reg.KEY_LCS 2 0 = 2 ∨ s.fld Reg.KEY_LCS 2 0 = 3) ∧ a ≠ Reg.KEY_LCS ∧ a ≠ Reg.KEY_STAT then 0 else s.peekWord a) else none

/-- The SEQ after a SEQ: 0xFFFF_FFFF is never given (R370). -/
def nextSeq (w : Word) : Word := if w + 1 = 0xFFFFFFFF then 0 else w + 1

/-- The lowest severity among unflushed records, and with it the record a full ring loses (R375). -/
def ringVictim (l : List EvRec) : Option EvRec :=
  l.foldl (fun v r => match v with
    | none => some r
    | some x => if r.sev.toNat < x.sev.toNat then some r else some x) none

/-- The unflushed records of the ring, oldest first. -/
def Evt.unflushed (e : Evt) : List EvRec := e.sram.filter (fun r => !r.flushed)

/-- A register that shows the SEQ of a record, where there is one. -/
def State.showSeq (s : State) (a : Nat) (r : Option EvRec) : State :=
  match r with
  | some r => s.wr a r.seq
  | none => s

/-- The erased blocks of an area of the flash ring have run out (R373, R375): erases of all four blocks kept ahead are outstanding. -/
def State.ringStall (s : State) : Bool :=
  [false, true].any (fun b => decide (4 ≤ ((s.nand.erasing.toList ++ s.nand.queue).filter (fun p => p.1 == .ring b)).length))

/-- The ring's own registers brought up to date: UNFLUSHED, FLASH_STALL, EVT_HEAD, EVT_TAIL_SRAM and EVT_TAIL_FLASH. -/
def State.evtRegs (s : State) : State :=
  ((((s.setFld Reg.EVT_STAT 13 0 s.evt.unflushed.length).setBit Reg.EVT_STAT 14 s.ringStall).showSeq Reg.EVT_HEAD s.evt.sram.getLast?).showSeq Reg.EVT_TAIL_SRAM s.evt.sram.head?).showSeq
    Reg.EVT_TAIL_FLASH s.evt.main.head?

/-- Records that fit the main area of 240 MiB and the retained area of 16 MiB (R373). -/
abbrev mainRecords : Nat := 1966080
abbrev retainedRecords : Nat := 131072

/-- The recorder with every unflushed record written to NAND, the ones of severity 6 and 7 also to the retained area (R373). -/
def Evt.written (e : Evt) : Evt :=
  let u := e.unflushed.map (fun r => { r with flushed := true })
  let mn := e.main ++ u
  let rt := e.retained ++ u.filter (fun r => decide (6 ≤ r.sev.toNat))
  { e with
    sram := e.sram.map (fun r => { r with flushed := true }),
    main := mn.drop (mn.length - mainRecords),
    retained := rt.drop (rt.length - retainedRecords) }

/-- The pages of 128 records, numbered by their place in the ring, that the oldest records beyond a ring's capacity leave. -/
def ringPages (cap : Nat) (l : List EvRec) : List Nat :=
  ((l.take (l.length - cap)).filter (fun r => r.seq.toNat % 128 == 127)).map (fun r => r.seq.toNat / 128 % (cap / 128))

/-- The blocks erased, through the journal (R367, R373), to make room in the flash ring for records. -/
def State.ringErase (s : State) (put : List EvRec) : State :=
  let erase := fun (retained : Bool) (s : State) (l : List Nat) => l.foldl (fun s b => s.erase (.ring retained) b) s
  erase true (erase false s (ringPages mainRecords (s.evt.main ++ put)))
    (ringPages retainedRecords (s.evt.retained ++ put.filter (fun r => decide (6 ≤ r.sev.toNat))))

/-- Every unflushed record written to NAND (R374), the blocks it needs erased first. While FLASH_STALL is set nothing can be written (R375). -/
def State.flush (s : State) : State :=
  if s.bit Reg.EVT_STAT 14 then s else State.evtRegs { s.ringErase s.evt.unflushed with evt := s.evt.written }

/-- The ring with a record put into it, and the severity of the record lost to that (R373, R375): a flushed record makes room, oldest first; a ring
full of unflushed records loses its oldest of the lowest severity, unless that is above the new record's, which is then dropped. -/
def Evt.put (e : Evt) (r : EvRec) : Evt × Option Nat :=
  if e.sram.length < 8192 then ({ e with sram := e.sram ++ [r] }, none)
  else
    match e.sram.find? (fun x => x.flushed) with
    | some x => ({ e with sram := e.sram.erase x ++ [r] }, none)
    | none =>
      match ringVictim e.sram with
      | some v => if v.sev.toNat ≤ r.sev.toNat then ({ e with sram := e.sram.erase v ++ [r] }, some v.sev.toNat) else (e, some r.sev.toNat)
      | none => (e, none)

/-- A count of records lost, by severity. -/
def State.countLost (s : State) (sev : Option Nat) : State :=
  match sev with
  | some v => s.incSat (Reg.EVT_LOST v) 31 0
  | none => s

/-- A record put into the SRAM ring (R373, R375). -/
def State.ringPut (s : State) (r : EvRec) : State := State.countLost { s with evt := (s.evt.put r).1 } (s.evt.put r).2

/-- A trace channel is enabled (LOOP_TR_CH.KIND). -/
def State.traceOn (s : State) (c : Nat) : Bool := s.fld (Reg.LOOP_TR_CH c) 1 0 != 0

/-- The trace of the loop engine triggered while ARMED (R161, R372): ignored until every enabled channel holds PRE samples; then the count
is latched, each channel keeps PRE samples and has 4,096 − PRE still to take. -/
def State.traceTrigger (s : State) : State :=
  let pre := s.fld Reg.LOOP_TR_TRIG 19 8
  let on := (List.range 16).filter s.traceOn
  if s.fld Reg.LOOP_TR_STAT 1 0 = 1 ∧ on.all (fun c => decide (pre ≤ (s.trCh c).samples.length)) then
    let tr := s.loop.tr.map (fun x => { x with samples := x.samples.drop (x.samples.length - pre), post := 4096 - pre })
    let s := { s with loop := { s.loop with tr := tr } }
    ((s.setFld Reg.LOOP_TR_STAT 1 0 (if on.isEmpty then 3 else 2)).wr Reg.LOOP_TR_TIME_LO (s.cnt.extractLsb' 0 32)).wr Reg.LOOP_TR_TIME_HI
      (s.cnt.extractLsb' 32 32)
  else s

/-- The record of an event with a REPEATS count, and the triggers it matches (R370, R372). -/
def State.makeRec (s : State) (it : EvItem) (repeats : Nat) (ms : List Nat) : EvRec :=
  { seq := s.evt.next, sev := it.sev, level := it.level, source := it.source, stamp := s.cnt,
    code := it.code, repeats := BitVec.ofNat 16 (min repeats 0xFFFF), tenant := it.tenant, slot := it.slot,
    session := it.session, args := it.args,
    snaps := match ms.head? with
      | some t => (List.range 16).map (s.snapWord t)
      | none => [],
    trigger := (ms.head?.map (BitVec.ofNat 8)).getD 0xFF,
    seconds := if s.bit Reg.TIME_STAT 0 then wd s.appliedSec else 0,
    boot := BitVec.ofNat 16 (s.fld Reg.EVT_BOOT 15 0), flushed := false }

/-- The next SEQ is taken. -/
def State.nextEvent (s : State) : State := { s with evt := { s.evt with next := nextSeq s.evt.next } }

/-- The interrupts of a record, by severity (EVT_CTRL) and by trigger, and the loop trace it triggers. -/
def State.recordSignals (s : State) (it : EvItem) (ms : List Nat) : State :=
  let s := if s.bit Reg.EVT_CTRL 11 && decide (s.fld Reg.EVT_CTRL 10 8 ≤ it.sev.toNat) then s.irq 3 else s
  let s := if ms.any (fun t => s.bit (Reg.EVT_TRIG_CFG t) 6) then s.irq 3 else s
  if ms.any (fun t => s.bit (Reg.EVT_TRIG_CFG t) 8) then s.traceTrigger else s

/-- The flush a record begins, by severity, by trigger, and with 128 records unflushed (R374). -/
def State.recordFlush (s : State) (it : EvItem) (ms : List Nat) : State :=
  if decide (s.fld Reg.EVT_CTRL 6 4 ≤ it.sev.toNat) || ms.any (fun t => s.bit (Reg.EVT_TRIG_CFG t) 7) ||
      decide (128 ≤ (Evt.unflushed s.evt).length)
  then s.flush else s

/-- A record created with a REPEATS count (R370 to R375). -/
def State.recordRep (s : State) (it : EvItem) (repeats : Nat) : State :=
  if it.sev.toNat < s.minSev then s.incSat (Reg.EVT_LOST it.sev.toNat) 31 0
  else (((s.nextEvent.ringPut (s.makeRec it repeats (s.matching it))).evtRegs).recordSignals it (s.matching it)).recordFlush it (s.matching it)

/-- An event recorded. -/
def State.record (s : State) (it : EvItem) : State := s.recordRep it 0

/-- An event recorded at most once in a window of `len` counts for each key (R395): inside an open window it is counted. -/
def State.recordWindow (s : State) (key len : Nat) (it : EvItem) : State :=
  match s.evt.windows.find? (fun w => w.code == it.code.toNat && w.key == key) with
  | some _ =>
    let ws := s.evt.windows.map (fun w =>
      if w.code == it.code.toNat && w.key == key then { w with count := w.count + 1, last := some it } else w)
    { s with evt := { s.evt with windows := ws } }
  | none =>
    let s := s.record it
    let w : EvWindow := { code := it.code.toNat, key := key, len := len, due := s.now + len, count := 0, last := none }
    { s with evt := { s.evt with windows := s.evt.windows ++ [w] } }

end Sys2Proof.Machine
end

