-- ==== Sys2Proof/Machine/HostPath.lean ====
section
/-! DEFINITION. Who may change what over the host path: ownership (R308, R313) and tenant views (R132). -/

namespace Sys2Proof

/-- The session number an event record of an access carries; none for steward firmware's own path (R370). -/
def Master.session : Master → Option (BitVec 3)
  | .steward => none
  | .sess n => some (BitVec.ofNat 3 n.val)

end Sys2Proof

namespace Sys2Proof.Machine

/-- The Prefect, where a session holds the pass (HOST_PASS_STAT). -/
def State.prefect (s : State) : Option (Fin 8) :=
  if s.bit Reg.HOST_PASS_STAT 3 then some ⟨s.fld Reg.HOST_PASS_STAT 2 0 % 8, Nat.mod_lt _ (by decide)⟩ else none

/-- The access may change state: it is the Prefect's, or steward firmware's own, which is not subject to ownership (R308). -/
def State.owns (s : State) : Master → Bool
  | .steward => true
  | .sess n => s.prefect == some n

/-- A session's HOST_LAST_ERR code (R313). -/
def State.setLastErr (s : State) (n : Fin 8) (code : BitVec 3) : State :=
  { s with host := { s.host with lastErr := s.host.lastErr.set n code } }

/-- A write by a session that is not the Prefect: dropped, counted, and recorded at most once per session in 1 s (R313). -/
def State.dropNotOwner (s : State) (n : Fin 8) : State :=
  ((s.setLastErr n 1).incSat Reg.HOST_NOT_OWNER_CNT 31 0).recordWindow n.val secCounts
    { sev := 2, source := 0x01, code := 313, session := some (BitVec.ofNat 3 n.val) }

/-- SYS_PHASE.PHASE: 0 BOOT, 1 NORMAL, 2 TEST, 3 RECOVER (R328). -/
def State.phase (s : State) : Nat := s.fld Reg.SYS_PHASE 1 0

/-- A change of phase, with CHANGED and its event (R328). -/
def State.setPhase (s : State) (new : Nat) (session : Option (BitVec 3)) : State :=
  let old := s.phase
  if old = new then s
  else ((s.setFld Reg.SYS_PHASE 1 0 new).setBit Reg.SYS_PHASE 8 true).record
    { sev := 4, source := 0x00, code := 328, session := session, args := [wd old, wd new] }

/-- An event of the debug port (R379): 1 attach, 2 grant, 3 refusal, 4 end (log entry 45). -/
def State.debugEvent (s : State) (kind : Nat) : State := s.record { sev := 5, source := 0x1F, code := 379, args := [wd kind] }

/-- The end of a debug authorisation (R379): its scopes are gone. -/
def State.debugEnd (s : State) : State :=
  if s.bit Reg.DBG_STAT 1 then (s.wr Reg.DBG_STAT (s.rd Reg.DBG_STAT &&& 0x5)).debugEvent 4 else s

/-- The tenant whose rights filter an access (R125, R132): the one ROSTER_VIEW names, for the Prefect's session while EN is set; for steward firmware,
the one in HM, where it is not the building. -/
def State.viewOf (s : State) (m : Master) : Option (BitVec 12) :=
  match m with
  | .steward => if s.stewardTenant = 0 then none else some s.stewardTenant
  | .sess n => if s.owns (.sess n) && s.bit Reg.ROSTER_VIEW 31 then some (BitVec.ofNat 12 (s.fld Reg.ROSTER_VIEW 11 0)) else none

/-- The access is the Prefect session's and a tenant view is set (R132): what such a view drops, steward firmware's own accesses still do. -/
def State.viewed (s : State) (m : Master) : Bool :=
  match m with
  | .steward => false
  | .sess _ => s.bit Reg.ROSTER_VIEW 31

end Sys2Proof.Machine
end

