-- ==== Sys2Proof/Machine/PointBase.lean ====
section
/-! DEFINITION. The record of a point and one commit of it (R9, R14, R28 to R33, R88, R98, R394), and the Locket copy of retentive points (R114, R115). -/

namespace Sys2Proof.Machine

/-- A force is active (QUAL.FORCED). -/
def Point.forced (p : Point) : Bool := bitOf (p.word 2) 2

/-- DESC.OWNER (R29). -/
def Point.owner (p : Point) : BitVec 12 := BitVec.ofNat 12 (bits (p.word 3) 27 16)

/-- VALUE_HI of a point: the upper 32 bits for the 64-bit types, 0 otherwise (R28). -/
def Point.hi (p : Point) (h : Word) : Word := if bits (p.word 3) 3 0 = 3 ∨ bits (p.word 3) 3 0 = 4 then h else 0

/-- The DESC word of a declaration (R29): the reserved bits read 0, and SCALE is 0 for every type but FIX. -/
def descWord (d : Word) : Word :=
  let d := d &&& 0x7FFF1FFF
  if bits d 3 0 = 5 then d else putBits d 9 4 0

/-- The ALARM_CFG word of a declaration (R28): the reserved bits read 0. -/
def alarmWord (d : Word) : Word := d &&& 0x3FF

/-- DESC.RETAIN and DESC.WARM (R29). -/
def Point.retain (p : Point) : Bool := bitOf (p.word 3) 28
def Point.warm (p : Point) : Bool := bitOf (p.word 3) 29

/-- The point is an output of lesson n (R9, R100). -/
def Point.outputOf (p : Point) (n : Nat) : Bool :=
  match p.decl with
  | some d => p.producer == 0 && d.lesson == n
  | none => false

/-- QUAL with LEVEL the highest of the producer's level, the level its other bits imply (R30), and the level the module holds it at (R93, R113). -/
def Point.settleLevel (p : Point) : Point :=
  p.setWord 2 (putBits (p.word 2) 1 0 (max (max p.plevel.toNat p.floor.toNat) (impliedLevel (p.word 2) p.producer)))

/-- The limit flags checked against the VALUE readers see (R394). -/
def Point.checkLimits (p : Point) : Point :=
  p.setWord 2 (limitFlags (p.word 3) (p.word 11) (p.word 0) (p.word 1) (p.word 9) (p.word 10) (p.word 2))

/-- STAMP and SEQ of a commit at a count (R28). -/
def Point.stamp (p : Point) (now : Nat) : Point :=
  ((p.setWord 4 (wd (now % 2 ^ 32))).setWord 5 (wd (now / 2 ^ 32 % 2 ^ 32))).setWord 6 (p.word 6 + 1)

/-- The poisoned words a commit leaves to itself: DESC and the limit words from the image, any other word 0 (R14);
a poisoned QUAL loses its producer's level and keeps the force. -/
def Point.heal (p : Point) : Point :=
  let fixWord (q : Point) (w : Nat) : Point :=
    if p.poison.getLsbD w then
      match p.decl, w with
      | some d, 3 => q.setWord 3 (descWord d.desc)
      | some d, 9 => q.setWord 9 d.limitLo
      | some d, 10 => q.setWord 10 d.limitHi
      | some d, 11 => q.setWord 11 (alarmWord d.alarm)
      | _, 2 => { q.setWord 2 (q.word 2 &&& 0x4) with plevel := 0, floor := 0 }
      | _, _ => q.setWord w 0
    else q
  { (List.range 16).foldl fixWord p with poison := 0 }

/-- One commit of a point's producer (R9, R28, R88): a forced point takes the value in RAW (R32), others in VALUE and RAW; INIT,
HELD, REMOTE_TIMEOUT, LINK_LOST, POISONED, SUSPENDED and the unit flags clear unless the commit sets them; STAMP, SEQ. -/
def Point.commit (p : Point) (c : CommitSet) (now : Nat) : Point :=
  let p := p.heal
  let v := c.value.getD (p.word 7)
  let h := p.hi (c.valueHi.getD (p.word 8))
  let p := if p.forced then (p.setWord 7 v).setWord 8 h
    else (((p.setWord 0 v).setWord 1 h).setWord 7 v).setWord 8 h
  let q := p.word 2 &&& 0x00FF1064
  let q := q ||| (c.flags &&& 0xB00)
  let q := match c.overrange with | some b => setBitOf q 12 b | none => q
  let q := match c.detail with | some d => putBits q 23 16 d.toNat | none => q
  let p := { p.setWord 2 q with plevel := c.level.getD p.plevel, floor := 0 }
  let p := (List.range 4).foldl (fun p i => match c.aux.getD i none with
    | some w => p.setWord (12 + i) w
    | none => p) p
  ((p.stamp now).checkLimits).settleLevel

/-- The items of the image that points follow: of a switch that has begun first, whose points take their place one core after another (R108), then
of the current image. -/
def State.imageItems (s : State) : List ImageItem :=
  (match s.scan.switch with | some w => if w.begun then w.image else [] | none => []) ++ s.scan.current

/-- A 64-bit type (R29): S64 and U64. -/
def wideType (desc : Word) : Bool := bits desc 3 0 == 3 || bits desc 3 0 == 4

/-- The byte offset in the Locket of a retentive point (R114). -/
def State.retentiveAt (s : State) (pid : Word) : Option Nat :=
  s.imageItems.findSome? (fun it => match it with
    | .var v => if v.kind = .retentive ∧ v.vid = pid then some v.off else none
    | _ => none)

/-- The Locket is locked against writes until the next start (R298). -/
def State.locketLocked (s : State) : Bool := s.bit Reg.KEY_TAMPER_STAT 16

/-- Bytes written into the Locket, unless it is locked (R298). -/
def State.locketWrite (s : State) (a : Nat) (b : List Byte) : State :=
  if s.locketLocked then s else { s with locket := Memory.writeN s.locket a b }

/-- A retentive point's VALUE, and for a 64-bit type VALUE_HI, as the commit leaves them, copied to the Locket in the commit step (R114, R115). -/
def State.retainPoint (s : State) (i : PointIdx) : State :=
  let p := s.point i
  match p.decl with
  | some d =>
    if p.retain then
      match s.retentiveAt d.pid with
      | some off => s.locketWrite (56 * 32 + off) (wordBytes (p.word 0) ++ (if wideType (p.word 3) then wordBytes (p.word 1) else []))
      | none => s
    else s
  | none => s

end Sys2Proof.Machine
end

