-- ==== Sys2Proof/Machine/FieldOps.lean ====
section
/-! DEFINITION. The outputs that follow committed points: DO (R227), AO (R232) and DALI output entries (R238). -/

namespace Sys2Proof.Machine

/-- A duty from 0 to 1 in the counts of a period (R148, R233). -/
def dutyCounts (period : Nat) (x : Num) : Nat := (((x.clamp Num.zero (Num.int 1)).mul (Num.int period)).round 0).toNat

/-- The counts of 12.5 ns for which a phase's high-side and low-side gates are on in a period (R147 to R149, R233): the low side is the
complement, dead time delays each turn-on, and a side that never switches loses none. -/
def gateCounts (period duty dead : Nat) : Nat × Nat :=
  (if period ≤ duty then period else duty - dead, if duty = 0 then period else period - duty - dead)

/-- The field die drives its outputs: OUT_EN is set and its link is up (R13, R222). -/
def State.fieldOut (s : State) : Bool := s.bit Reg.FIELD_CTRL 0 && s.bit Reg.FIELD_STAT 8

/-- The module is in RECESS (PWR_STAT.STATE = 3): DO and AO hold (R234). -/
def State.inRecess (s : State) : Bool := s.pwrState == 3

/-- A point as an output reads it: it counts as bad while LEVEL is BAD or INIT is set (R227, R232, R238). -/
def State.badSource (s : State) (i : PointIdx) : Bool :=
  let q := s.pointWord i 2
  bits q 1 0 == 3 || bitOf q 4

/-- The number a point's VALUE stands for. -/
def State.pointNum (s : State) (i : PointIdx) : Num := Num.ofTyped (s.pointWord i 3) (s.pointWord i 0) (s.pointWord i 1)

/-- DO d brought to its command (R227): off where outputs are not enabled or the link is down; held
in RECESS (R234); else VALUE bit 0 of its source, or the QBAD action. -/
def State.doUpdate (s : State) (d : Nat) : State :=
  let src := s.rd (Reg.FIELD_DO_SRC d)
  let i : PointIdx := BitVec.ofNat 14 (bits src 13 0)
  if !s.fieldOut then s.setBit (Reg.FIELD_DO_STAT d) 0 false
  else if s.inRecess then s
  else if !bitOf src 31 then s.setBit (Reg.FIELD_DO_STAT d) 0 false
  else if s.badSource i then
    match s.fld (Reg.FIELD_DO_CFG d) 1 0 with
    | 1 => s.setBit (Reg.FIELD_DO_STAT d) 0 true
    | 2 => s
    | _ => s.setBit (Reg.FIELD_DO_STAT d) 0 false
  else s.setBit (Reg.FIELD_DO_STAT d) 0 (bitOf (s.pointWord i 0) 0)

/-- DO d's switch is closed: commanded on and not switched off by a protection (R229). -/
def State.doDriven (s : State) (d : Nat) : Bool :=
  let st := s.rd (Reg.FIELD_DO_STAT d)
  bitOf st 0 && !bitOf st 5 && !(decide (3 ≤ bits st 4 2) && decide (bits st 4 2 ≤ 5))

/-- The range of an AO mode in volts or amperes (R232). -/
def aoRange (mode : Nat) : Num × Num :=
  match mode with
  | 1 => (Num.zero, Num.int 10)
  | 2 => (Num.zero, ⟨20, 1000⟩)
  | _ => (⟨4, 1000⟩, ⟨20, 1000⟩)

/-- AO a at zero. -/
def State.aoZero (s : State) (a : Nat) : State := (s.setFld (Reg.FIELD_AO_STAT a) 15 0 0).setBit (Reg.FIELD_AO_STAT a) 18 false

/-- AO a driven from its source (R232): clamped to its range with CLAMPED; zero or hold on a bad source. The code that stands for a
value is not stated: Config.aoCode (log entry 21). -/
def State.aoUpdate (s : State) (a : Nat) : State :=
  let cfg := s.rd (Reg.FIELD_AO_CFG a)
  let i : PointIdx := BitVec.ofNat 14 (bits cfg 13 0)
  let mode := bits cfg 17 16
  if !s.fieldOut then s.aoZero a
  else if s.inRecess then s
  else if !bitOf cfg 14 || mode == 0 then s.aoZero a
  else if s.badSource i then (if bitOf cfg 15 then s else s.aoZero a)
  else
    let v := s.pointNum i
    let (lo, hi) := aoRange mode
    let c := v.clamp lo hi
    (s.setFld (Reg.FIELD_AO_STAT a) 15 0 (Config.aoCode mode c.n c.d).toNat).setBit (Reg.FIELD_AO_STAT a) 18 (v.lt lo || hi.lt v)

/-- The instances of a register array that stand in the register file, by their address range and stride. -/
def State.listed (s : State) (base n stride : Nat) : List Nat :=
  (s.regs.filter (fun p => decide (base ≤ p.1) && decide (p.1 < base + n * stride) && decide ((p.1 - base) % stride = 0))).map
    (fun p => (p.1 - base) / stride)

/-- The state of a DALI line (R235): 0 OFF, 1 BUS_FAIL, 2 ADDRESSING, 3 RUN. -/
def State.daliState (s : State) (l : Nat) : Nat := s.fld (Reg.DALI_LINE_STAT l) 1 0

/-- A DALI line's own data. -/
def State.daliLine (s : State) (l : Nat) : DaliLine := s.field.lines.toList.getD l { addressed := false, pend := [] }

/-- A DALI line's own data replaced. -/
def State.setDaliLine (s : State) (l : Nat) (x : DaliLine) : State :=
  { s with field := { s.field with lines := s.field.lines.setIfInBounds l x } }

/-- What an output entry would send now (R238): none for a bad source and for an ARC level of 255. -/
def State.daliValue (s : State) (e : Nat) : Option Nat :=
  let w := s.rd (Reg.DALI_OUT e)
  let i : PointIdx := BitVec.ofNat 14 (bits w 13 0)
  if s.badSource i then none
  else if bitOf w 26 then some (bits (s.pointWord i 0) 15 0)
  else if bits (s.pointWord i 0) 7 0 = 255 then none else some (bits (s.pointWord i 0) 7 0)

/-- A command of an entry pending on a line (R238): one that waits is replaced in its place. -/
def State.daliQueue (s : State) (l e v : Nat) : State :=
  let x := s.daliLine l
  s.setDaliLine l { x with pend := if x.pend.any (fun p => p.1 == e) then x.pend.map (fun p => if p.1 = e then (e, v) else p) else x.pend ++ [(e, v)] }

/-- An output entry after a commit of its source (R237, R238): queued where its value differs from the value last sent and its line is
in ADDRESSING or RUN. A commit replaces the entry's waiting command, which is counted as merged; where the source now sends nothing, the
waiting command goes too (log entry 68). -/
def State.daliFollow (s : State) (e : Nat) : State :=
  let w := s.rd (Reg.DALI_OUT e)
  let l := bits w 17 14
  let x := s.daliLine l
  let waits := x.pend.any (fun p => p.1 == e)
  let s := if waits then s.incSat Reg.DALI_OUT_MERGED 31 0 else s
  match s.daliValue e with
  | some v =>
    if (s.daliState l = 2 ∨ s.daliState l = 3) ∧ (waits ∨ Tab.get (fun _ => none) s.field.sent e ≠ some v) then s.daliQueue l e v
    else s
  | none => if waits then s.setDaliLine l { x with pend := x.pend.filter (fun p => p.1 != e) } else s

/-- The valid output entries whose source is a point. -/
def State.daliEntries (s : State) (f : Word → Bool) : List Nat :=
  (s.listed (Reg.DALI_OUT 0) 512 4).filter (fun e => bitOf (s.rd (Reg.DALI_OUT e)) 31 && f (s.rd (Reg.DALI_OUT e)))

/-- Every mapped output of a line queued with its current value (R235, R238: a refresh). -/
def State.daliRefreshLine (s : State) (l : Nat) : State :=
  (s.daliEntries (fun w => bits w 17 14 == l)).foldl (fun s e => match s.daliValue e with
    | some v => s.daliQueue l e v
    | none => s) s

/-- Every output that follows a point, after the point's record has changed. -/
def State.follow (s : State) (i : PointIdx) : State :=
  let s := ((s.listed (Reg.FIELD_DO_SRC 0) 64 16).filter (fun d =>
    bitOf (s.rd (Reg.FIELD_DO_SRC d)) 31 && s.fld (Reg.FIELD_DO_SRC d) 13 0 == i.toNat)).foldl State.doUpdate s
  let s := ((s.listed (Reg.FIELD_AO_CFG 0) 16 16).filter (fun a =>
    bitOf (s.rd (Reg.FIELD_AO_CFG a)) 14 && s.fld (Reg.FIELD_AO_CFG a) 13 0 == i.toNat)).foldl State.aoUpdate s
  (s.daliEntries (fun w => bits w 13 0 == i.toNat)).foldl State.daliFollow s

/-- Every DO and AO brought to its command. -/
def State.outputsUpdate (s : State) : State :=
  (List.range 16).foldl State.aoUpdate ((List.range 64).foldl State.doUpdate s)

/-- A DALI line brought to where EN, OUT_EN and the link put it (R13, R222, R235): OFF releases it; leaving OFF it goes to RUN with a
refresh where an addressing has completed since it was enabled, else to ADDRESSING. -/
def State.daliSettle (s : State) (l : Nat) : State :=
  let enabled := s.bit Reg.DALI_CTRL l && s.bit Reg.FIELD_CTRL 0
  let x := s.daliLine l
  if !enabled then (s.setDaliLine l { addressed := false, pend := [] }).setFld (Reg.DALI_LINE_STAT l) 1 0 0
  else if !s.bit Reg.FIELD_STAT 8 then (s.setDaliLine l { x with pend := [] }).setFld (Reg.DALI_LINE_STAT l) 1 0 0
  else if s.daliState l ≠ 0 then s
  else if x.addressed then (s.setFld (Reg.DALI_LINE_STAT l) 1 0 3).daliRefreshLine l
  else s.setFld (Reg.DALI_LINE_STAT l) 1 0 2

/-- Every DALI line settled. -/
def State.daliSettleAll (s : State) : State := (List.range 16).foldl State.daliSettle s

end Sys2Proof.Machine
end

