-- ==== Sys2Proof/Machine/PointOps.lean ====
section
/-! DEFINITION. Commits of points and the quality bits the module sets, with the outputs that follow them (R9, R30, R227, R232, R238). -/

namespace Sys2Proof.Machine

/-- A point committed by its producer at the present count, with the Locket copy of a retentive point and the outputs that follow it. -/
def State.commitPoint (s : State) (i : PointIdx) (c : CommitSet) : State :=
  ((s.setPoint i ((s.point i).commit c s.now)).retainPoint i).follow i

/-- What a producer's update commits. -/
def updateSet (u : PtUpdate) : CommitSet :=
  { value := some u.value, valueHi := some u.valueHi, level := some u.level, overrange := some u.overrange,
    detail := some u.detail, aux := [u.aux0, u.aux1, u.aux2, u.aux3] }

/-- A QUAL bit the module sets or clears outside a commit, with the level it implies (R30). -/
def State.setQual (s : State) (i : PointIdx) (bit : Nat) (b : Bool) : State :=
  let p := s.point i
  (s.setPoint i (p.setWord 2 (setBitOf (p.word 2) bit b)).settleLevel).follow i

/-- The declared points of the module, in index order. -/
def State.declared (s : State) : List (PointIdx × Point) :=
  (s.points.filter (fun e => e.2.decl.isSome)).map (fun e => (BitVec.ofNat 14 e.1, e.2))

/-- Every declared point changed by a function of it. -/
def State.mapPoints (s : State) (f : Point → Point) : State :=
  s.declared.foldl (fun s e => s.setPoint e.1 (f (s.point e.1))) s

/-- The force table: the points whose QUAL.FORCED is set (R98). -/
def State.forces (s : State) : List PointIdx := (s.declared.filter (fun e => e.2.forced)).map (·.1) ++
  ((s.points.filter (fun e => e.2.decl.isNone && e.2.forced)).map (fun e => BitVec.ofNat 14 e.1))

end Sys2Proof.Machine
end

