-- ==== Sys2Proof/Machine/TxOps.lean ====
section
/-! DEFINITION. The transmit side of the Ethernet MACs (R248 to R252): what a command sends, the gates, the queues, and the frames of the riser
link engine (R260). -/

namespace Sys2Proof.Machine

/-- What the module sends on its ports in a command: the words on `reply` (log entry 6). -/
def State.emit (s : State) (l : List Word) : State := { s with reply := l }

/-- More words sent in the same command. -/
def State.emitMore (s : State) (l : List Word) : State := { s with reply := s.reply ++ l }

/-! ### MACs -/

/-- A MAC beside its registers. -/
def State.mac (s : State) (n : Nat) : NetMac := s.net.macs.toList.getD n NetMac.zero

/-- A MAC replaced. -/
def State.setMac (s : State) (n : Nat) (x : NetMac) : State := { s with net := { s.net with macs := s.net.macs.setIfInBounds n x } }

/-- The MAC is enabled, its link up and its PHY powered. -/
def State.macUp (s : State) (n : Nat) : Bool := s.bit (Reg.NET_CTRL n) 0 && s.bit (Reg.NET_STAT n) 0 && s.bit (Reg.NET_STAT n) 4

/-- The counts one byte takes on the line: 1,000 Mb/s on LAN A and B, else 10 Mb/s. -/
def byteCounts (n : Nat) : Nat := if n < 2 then 2 else 200

/-- A pause quantum of 512 bit times, in counts (R250). -/
def quantumCounts (n : Nat) : Nat := 64 * byteCounts n

/-- The line time of a frame with its preamble and the inter-frame gap. -/
def frameCounts (n len : Nat) : Nat := (len + 20) * byteCounts n

/-! ### Gates (R251, R252) -/

/-- The runs of a gate bank in one cycle of `cycle` counts: gate states and lengths, the list cut off or its last states held at the cycle's
end; an empty list leaves every gate open. -/
def gateRuns (entries : List Word) (cycle : Nat) : List (Nat × Nat) :=
  let es := entries.takeWhile (fun w => bits w 31 4 != 0)
  let r := es.foldl (fun (r : List (Nat × Nat) × Nat) w =>
    let n := min (bits w 31 4) (cycle - r.2)
    if n = 0 then r else (r.1 ++ [(bits w 3 0, n)], r.2 + n)) ([], 0)
  if r.2 < cycle then
    match r.1.getLast? with
    | some l => r.1.dropLast ++ [(l.1, l.2 + (cycle - r.2))]
    | none => [(0xF, cycle)]
  else r.1

/-- The runs of the bank in operation; none while no bank has taken over or gates are off. -/
def State.operRuns (s : State) (n : Nat) : Option (Nat × Nat × List (Nat × Nat)) :=
  match (s.mac n).oper with
  | some (base, cycle) =>
    if s.bit (Reg.NET_CTRL n) 5 ∧ 0 < cycle then
      some (base, cycle, gateRuns ((List.range 64).map (fun k => s.rd (Reg.NET_GATE_LIST n (s.fld (Reg.NET_GATE_STAT n) 0 0) k))) cycle)
    else none
  | none => none

/-- For a queue at an offset into the cycle: how long its gate stays open from there, none for always; 0 where it is closed. -/
def openFor (runs : List (Nat × Nat)) (q off : Nat) : Option Nat :=
  let on := fun (r : Nat × Nat) => decide (r.1 / 2 ^ q % 2 = 1)
  if runs.all on then none
  else
    let r := (runs ++ runs).foldl (fun (r : Nat × Nat × Bool) x =>
      -- r: start of this run, open time from the offset so far, whether the gate has closed
      let stop := r.1 + x.2
      if stop ≤ off || r.2.2 then (stop, r.2.1, r.2.2)
      else if on x then (stop, r.2.1 + (stop - max r.1 off), false) else (stop, r.2.1, true)) (0, 0, false)
    some r.2.1

/-- The longest window of a queue in a cycle; none for always open. -/
def longestWindow (runs : List (Nat × Nat)) (q : Nat) : Option Nat :=
  let starts := runs.foldl (fun (r : List Nat × Nat) x => (r.1 ++ [r.2], r.2 + x.2)) ([], 0)
  starts.1.foldl (fun b o => match b, openFor runs q o with | some x, some y => some (max x y) | _, _ => none) (some 0)

/-- What becomes of a frame at a time: 0 sent, 1 its gate is closed, 2 it does not fit in the time left, 3 it is longer than every window
(R252). -/
def State.gateTest (s : State) (n : Nat) (f : TxFrame) (t : Nat) : Nat :=
  match s.operRuns n with
  | none => 0
  | some (base, cycle, runs) =>
    let len := frameCounts n f.len
    let off := (t + cycle - base % cycle) % cycle
    match longestWindow runs f.q.toNat, openFor runs f.q.toNat off with
    | some w, o =>
      if w < len then 3 else match o with
        | some o => if o = 0 then 1 else if o < len then 2 else 0
        | none => 0
    | none, _ => 0

/-- When the window a frame's gate is open in now closes. -/
def State.gateClose (s : State) (n : Nat) (f : TxFrame) : Nat :=
  match s.operRuns n with
  | none => s.now
  | some (base, cycle, runs) => s.now + (openFor runs f.q.toNat ((s.now + cycle - base % cycle) % cycle)).getD 0

/-! ### Transmission (R248, R252, R255, R256) -/

/-- The applied time at a count, as words: nanoseconds, seconds [31:0] and [47:32]. -/
def State.timeWords (s : State) (count : Nat) : List Word :=
  let ns := s.time.ofsSec.toNat * 1000000000 + s.time.ofsNs + 4 * count
  [wd (ns % 1000000000), wd (ns / 1000000000), wd (ns / 1000000000 / 2 ^ 32 % 65536)]

/-- What shows that a frame leaves now: the MAC with the frame's queue and length, or the words of a riser frame; a TIME frame takes the applied
time at its SFD (R282). -/
def State.frameShown (s : State) (n : Nat) (f : TxFrame) : List Word :=
  wd n :: (match f.riser with
    | some (h :: l) => if bits h 7 0 = 2 then h :: (s.timeWords (s.now + 8 * byteCounts n) ++ l.drop 3) else h :: l
    | some [] => []
    | none => [wd f.q.toNat, wd f.len])

/-- A frame starts to leave the MAC: counted once, by PRP too where it is one of a pair, with its collisions where the MAC uses CSMA/CD
(R263). -/
def State.frameOut (s : State) (n : Nat) (f : TxFrame) : State :=
  let s := if f.again then s else
    let s := s.incSat (Reg.NET_TX_FRAMES n) 31 0
    if f.pair then s.incSat (if n = 0 then Reg.PRP_TX_A else Reg.PRP_TX_B) 31 0 else s
  let s := if f.coll ≠ 0 ∧ 4 ≤ n ∧ !s.bit (Reg.NET_PLCA_STAT n) 0 then s.addSat (Reg.NET_TX_COLL n) f.coll.toNat else s
  (s.setMac n { s.mac n with busy := s.now + frameCounts n f.len, sending := some f }).emit (s.reply ++ s.frameShown n f)

/-- The waiting frames from the highest queue down, oldest first within a queue. -/
def txOrder (l : List TxFrame) : List TxFrame := [3, 2, 1, 0].flatMap (fun q => l.filter (fun f => f.q == BitVec.ofNat 2 q))

/-- A frame that does not fit in the time left in its window waits for the next one, and the window is counted once as missed (R252). -/
def State.missWindow (s : State) (n : Nat) (f : TxFrame) : State :=
  let close := s.gateClose n f
  if f.missed = some close then s
  else
    let k := s.mac n
    (s.setMac n { k with queue := k.queue.map (fun g => if g == f then { f with missed := some close } else g) }).incSat (Reg.NET_GATE_MISSED n) 31 0

/-- One waiting frame tried: it starts, is discarded with GATE_OVERSIZE, or waits. While the line is taken nothing starts, and behind a frame
that waits no other of its queue does; the queues that wait stand beside the state. -/
def State.tryFrame (n : Nat) (r : State × List (BitVec 2)) (f : TxFrame) : State × List (BitVec 2) :=
  let s := r.1
  let k := s.mac n
  if s.now < k.busy ∨ r.2.contains f.q then r
  else match s.gateTest n f s.now with
  | 0 => ((s.setMac n { k with queue := k.queue.erase f }).frameOut n f, r.2)
  | 3 => (((s.setMac n { k with queue := k.queue.erase f }).incSat (Reg.NET_GATE_OVERSIZE n) 31 0).emit (s.reply ++ [wd n, 0xFFFF]), r.2)
  | 2 => (s.missWindow n f, f.q :: r.2)
  | _ => (s, f.q :: r.2)

/-- The waiting frame of a MAC that may leave now (R248, R252): not while another is being sent, nor while the MAC is paused, in low-power idle
or down. -/
def State.drainTx (s : State) (n : Nat) : State :=
  if !s.macUp n || s.bit (Reg.NET_STAT n) 3 || s.bit (Reg.NET_STAT n) 1 then s
  else ((txOrder (s.mac n).queue).foldl (State.tryFrame n) (s, [])).1

/-- A frame queued on a MAC: behind the commit point of low-power idle it counts as late (R255). -/
def State.queueTx (s : State) (n : Nat) (f : TxFrame) : State :=
  let k := s.mac n
  let s := s.setMac n { k with queue := k.queue ++ [f] }
  let s := if s.bit (Reg.NET_STAT n) 1 then s.incSat (Reg.NET_LPI_LATE n) 31 0 else s
  s.drainTx n

/-- The waiting frames whose line has become free start (R252): part of every count of the time base. -/
def State.netTick (s : State) : State :=
  if s.net.macs.toList.all (fun k => k.queue.isEmpty) then s else (List.range 8).foldl State.drainTx (s.emit [])

/-! ### Riser frames (R260) -/

/-- The transmit queue of a riser frame's TYPE. -/
def riserQueue (typ : Nat) : BitVec 2 :=
  match typ with
  | 0 => 3
  | 1 => 2
  | 2 => 3
  | 3 => 0
  | 4 => 2
  | 5 => 3
  | _ => 1

/-- A riser frame queued (R260) beside what the command has already sent: a riser port (0 Up, 1 Down), TYPE and payload words; what shows that it
leaves is the MAC, the header with VERSION 1 and the port's SEQ, and the payload. -/
def State.riserAdd (s : State) (f : Nat × Nat × List Word) : State :=
  let seq := s.net.riserSeq.toList.getD f.1 0
  let words := wd (f.2.1 + 256 + 65536 * seq.toNat) :: f.2.2
  let x : TxFrame := { q := riserQueue f.2.1, len := max 64 (22 + 4 * f.2.2.length), pair := false, riser := some words }
  State.queueTx { s with net := { s.net with riserSeq := s.net.riserSeq.setIfInBounds f.1 (seq + 1) } } (f.1 + 2) x

/-- Riser frames queued. -/
def State.riserSend (s : State) (fs : List (Nat × Nat × List Word)) : State :=
  fs.foldl State.riserAdd (s.emit [])

end Sys2Proof.Machine
end

