-- ==== Sys2Proof/Machine/PowerOps.lean ====
section
/-! DEFINITION. Wake from sleep (R343, R344), the recess agreement's end (R345), and the DI changes that wait for an exit (R225, R234). -/

namespace Sys2Proof.Machine

/-- A RECESS frame (R346): OP, REASON, agreement number. -/
def recessFrame (port op reason : Nat) (number : BitVec 16) : Nat × Nat × List Word :=
  (port, 4, [wd (op + reason * 256 + number.toNat * 65536)])

/-- A riser port (0 Up, 1 Down) is UP (R261). -/
def State.riserUp (s : State) (p : Fin 2) : Bool := s.bit (Reg.NET_T1L_STAT (p.val + 2)) 4

/-- HOPS of the last TIME frame received on a riser port that is UP; 255 for none (R282). -/
def State.hopsOf (s : State) (p : Fin 2) : Nat :=
  if s.riserUp p then (match s.net.timeRx[p] with | some (b, _) => (b.getD 12 255).toNat | none => 255) else 255

/-- LAN A (0) or B (1) is locked to a source (R281): its link is up, a profile is enabled, and its port says so. -/
def State.lanLocked (s : State) (n : Nat) : Bool := s.bit (Reg.NET_STAT n) 0 && Config.timeProfile n && Config.timeLocked n s.now

/-- SOURCE and HOPS as steward firmware selects them (R283): a locked LAN, the better of two; the riser neighbour with the lowest HOPS, Riser Down
winning ties; the host. -/
def State.timeSource (s : State) : Nat × Nat :=
  let a := s.lanLocked 0
  let b := s.lanLocked 1
  let up := s.hopsOf 0
  let down := s.hopsOf 1
  if a && b then (if Config.timeBetter s.now then 1 else 2, 0)
  else if a then (1, 0)
  else if b then (2, 0)
  else if down ≤ up ∧ down < 255 then (4, down + 1)
  else if up < 255 then (3, up + 1)
  else (if s.time.byHost then 5 else 0, 255)

/-- TIME_STAT brought to the source selected. -/
def State.settleSource (s : State) : State :=
  (s.setFld Reg.TIME_STAT 6 4 s.timeSource.1).setFld Reg.TIME_STAT 15 8 s.timeSource.2

/-- The exit latency, the entry time before and after the commit point, and MINRES of a state, in counts (R340, R342). -/
def exitCounts : Nat → Nat
  | 1 => 500
  | 2 => 20000
  | 3 => 1250000
  | _ => 0
def entryBefore : Nat → Nat
  | 1 => 25
  | 2 => 5000
  | 3 => 500000
  | _ => 0
def entryAfter : Nat → Nat
  | 2 => 2500
  | 3 => 12500
  | _ => 0
def minResidence : Nat → Nat
  | 2 => 50000
  | 3 => 25000000
  | _ => 0

/-- The pending change of a DI committed (R225): the state, or the edge count of a U32 count point, with the accepting sample's time and the
raw level at the commit. -/
def State.diCommit (s : State) (d : Nat) : State :=
  match Tab.get (fun _ => none) s.field.diPend d with
  | none => s
  | some t =>
    let cfg := s.rd (Reg.FIELD_DI_CFG d)
    let s := { s with field := { s.field with diPend := Tab.set (fun _ => none) s.field.diPend d none } }
    let i : PointIdx := BitVec.ofNat 14 (bits cfg 13 0)
    if bitOf cfg 14 then
      let edges := s.rd (Reg.FIELD_DI_EDGES d)
      let v := if bitOf cfg 19 && bits ((s.point i).word 3) 3 0 == 2 then edges else wd (s.fld (Reg.FIELD_DI_STAT d) 1 1)
      let aux := [some (wd (t % 2 ^ 32)), some (wd (t / 2 ^ 32)), some edges, some (wd (s.fld (Reg.FIELD_DI_STAT d) 0 0))]
      s.commitPoint i { value := some v, valueHi := some 0, level := some 0, overrange := some false, detail := some 0, aux := aux }
    else s

/-- Every pending DI change committed. -/
def State.diCommitAll (s : State) : State := (s.field.diPend.map (·.1)).foldl State.diCommit s

/-- The time point of the image (R280): the only point of the group marked as the time base. -/
def State.timePoint (s : State) : Option PointIdx :=
  s.scan.current.findSome? (fun it => match it with
    | .group g => if g.timeBase then (match g.points with | [i] => some i | _ => none) else none
    | _ => none)

/-- The time point committed (R280): offset, VALID, COARSE and Cs. -/
def State.commitTime (s : State) : State :=
  match s.timePoint with
  | none => s
  | some i => s.commitPoint i { value := some (s.time.ofsSec.setWidth 32), valueHi := some (wd (s.time.ofsSec.toNat / 2 ^ 32)), level := some 0, overrange := some false, detail := some 0, aux := [some (wd s.time.ofsNs), some (wd (s.fld Reg.TIME_STAT 1 0)), some (s.time.cs.setWidth 32), some (wd (s.time.cs.toNat / 2 ^ 32))] }

/-- TIME_STAT.COARSE set or cleared; a change commits the time point (R280, R284). -/
def State.setCoarse (s : State) (b : Bool) : State :=
  if s.bit Reg.TIME_STAT 1 == b then s else (s.setBit Reg.TIME_STAT 1 b).commitTime

/-- A riser port of this module goes DOWN with its PHY (R261, R345): cause RECESS. -/
def State.riserPhyOff (s : State) (p : Fin 2) : State :=
  let n := p.val + 2
  let up := s.riserUp p
  let s := (((s.setBit (Reg.NET_STAT n) 4 false).setBit (Reg.NET_STAT n) 0 false).setBit (Reg.NET_T1L_STAT n) 4 false).setFld (Reg.NET_T1L_STAT n) 3 1 0
  if up then (s.incSat (Reg.NET_RISER_DOWN_CNT n) 31 0).record { sev := 4, source := BitVec.ofNat 8 (0x10 + n), code := 261, args := [wd p.val, 1] } else s

/-- What the commit point of a sleep entry does (R345, R340, R284): the entry is counted; RECESS sends COMMIT on each riser port,
powers the riser PHYs down and sets COARSE. -/
def State.sleepCommit (s : State) : State :=
  match s.pwr.sleep with
  | some x =>
    if x.commitAt ≤ s.now ∧ !x.committed then
      let s := { s with pwr := { s.pwr with sleep := some { x with committed := true } } }
      let s := s.incSat (Reg.PWR_ENTRY_CNT (x.target - 1)) 31 0
      if x.target = 3 then
        let num := BitVec.ofNat 16 (s.fld Reg.PWR_RECESS_STAT 31 16)
        let frames := (if s.riserUp 0 then [recessFrame 0 4 0 num] else []) ++ (if s.riserUp 1 then [recessFrame 1 4 0 num] else [])
        let s := if frames.isEmpty then s else s.riserSend frames
        let s := { s with pwr := { s.pwr with recess := { s.pwr.recess with agreedAt := none } } }
        (((s.riserPhyOff 0).riserPhyOff 1).settleSource).setCoarse true
      else s
    else s
  | none => s

/-- The agreement ends (R344, R345): WITHDRAW on the riser ports, whose PHYs are powered again. -/
def State.endAgreement (s : State) : State :=
  let num := BitVec.ofNat 16 (s.fld Reg.PWR_RECESS_STAT 31 16)
  let s := s.setFld Reg.PWR_RECESS_STAT 1 0 0
  let s := { s with pwr := { s.pwr with recess := { s.pwr.recess with agreedAt := none, quietSince := none, awaits := Vector.replicate 2 false } } }
  let s := (s.setBit (Reg.NET_STAT 2) 4 true).setBit (Reg.NET_STAT 3) 4 true
  s.riserSend [recessFrame 0 5 0 num, recessFrame 1 5 0 num]

/-- The exit from a sleep state has ended: RUN. After RECESS the points of DI changes are committed, the outputs follow their points again
(R234), FRESH reads 0 (R347), and any wake but DUE ends the agreement (R345). -/
def State.sleepExit (s : State) (src : Nat) : State :=
  match s.pwr.sleep with
  | some x =>
    let s := { s with pwr := { s.pwr with sleep := none } }
    if x.target = 3 then
      let s := State.outputsUpdate (State.diCommitAll { s with pwr := { s.pwr with mirrorOld := true } })
      if src = 1 then s else s.endAgreement
    else s
  | none => s

/-- The registers of the AON domain, which no sleep state gates (R330). -/
def aonRegister (a : Nat) : Bool :=
  [Reg.KEY_TAMPER_CFG, Reg.KEY_TAMPER_STAT, Reg.CLK_AON_STAT, Reg.PWR_STAT, Reg.PWR_WAKE_SRC, Reg.PWR_FEED_STAT 0, Reg.PWR_FEED_STAT 1].contains a

/-- A wake request of source bit `src` (R343, R344). Before the commit point it aborts the entry; after it the entry finishes and the exit
follows at once, with LATE counted while the entry was still in progress. In RUN with no entry in progress it does nothing. -/
def State.wakeRequest (s : State) (src : Nat) : State :=
  let s := s.sleepCommit
  match s.pwr.sleep with
  | none => s
  | some x =>
    let s := s.setBit Reg.PWR_WAKE_SRC src true
    if s.now < x.commitAt then
      let s := { (s.incSat Reg.PWR_RACE_CNT 15 0) with pwr := { s.pwr with sleep := none } }
      if x.target = 3 then s.endAgreement else s
    else
      let s := if s.now < x.endAt then s.incSat Reg.PWR_RACE_CNT 31 16 else s
      ((s.advanceTo (max s.now x.endAt)).advanceTo (max s.now x.endAt + exitCounts x.target)).sleepExit src

end Sys2Proof.Machine
end

