-- ==== Sys2Proof/Machine/HostGate.lean ====
section
/-! DEFINITION. The gate of every write by a host: it wakes the module (R343) and only the Prefect may change state (R313, R132). -/

namespace Sys2Proof.Machine

/-- A write that only the Prefect may make: carried out for it and for steward firmware; dropped through a view (R132, log
entry 8) and for every other session (R313). A host access that finds the module asleep wakes it (R330, R343). Nothing answers
while the module is off. -/
def State.hostWrite (s : State) (m : Master) (f : State → State) : State :=
  let s := match m with
    | .sess _ => s.wakeRequest 0
    | .steward => s
  if s.pwr.off then s
  else if s.owns m then
    if s.viewed m then s.incSat Reg.ROSTER_VIEW_DENY 31 0 else f s
  else match m with
    | .sess n => s.dropNotOwner n
    | .steward => s

/-- A write of a block that does not answer while the module is DEAD (R369). -/
def State.asPrefect (s : State) (m : Master) (f : State → State) : State := s.hostWrite m (fun s => if s.phase = 3 then s else f s)

/-- A write that a tenant view does not drop: what selects what is read (R132, R378; log entry 8). -/
def State.throughView (s : State) (m : Master) (f : State → State) : State :=
  let s := match m with
    | .sess _ => s.wakeRequest 0
    | .steward => s
  if s.pwr.off ∨ s.phase = 3 then s
  else if s.owns m then f s
  else match m with
    | .sess n => s.dropNotOwner n
    | .steward => s

/-- A read over the host path (R321, R313): it wakes the module, shows the word, and has its side effect only for the Prefect and for
steward firmware. -/
def State.hostRead (s : State) (m : Master) (v : State → Word) (eff : State → State) : State :=
  let s := match m with
    | .sess _ => s.wakeRequest 0
    | .steward => s
  if s.pwr.off then s else (if s.owns m then eff s else s).emit [v s]

/-- An access the bridge counts (SYS_BUS_ERR, SYS_BUS_LAST): kind 0 UNMAPPED, 1 PARTIAL, 2 TIMEOUT, 3 LINK. -/
def State.busCount (s : State) (m : Master) (a kind : Nat) : State :=
  let s := s.incSat Reg.SYS_BUS_ERR (8 * kind + 7) (8 * kind)
  let who := match m with
    | .sess n => n.val * 2 ^ 24
    | .steward => 2 ^ 29
  s.wr Reg.SYS_BUS_LAST (wd (a % 2 ^ 24 + kind * 2 ^ 27 + who))

/-- A write of a register on the field or metering die: dropped and counted while its link is lost (R13, R330). -/
def State.overLink (s : State) (m : Master) (a : Nat) (up : Bool) (f : State → State) : State := if up then f s else s.busCount m a 3

end Sys2Proof.Machine
end

