-- ==== Sys2Proof/Machine/CkptOps.lean ====
section
/-! DEFINITION. The items of a program image (R100), warm data (R111) and the checkpoints in their three areas of NAND (R112). -/

namespace Sys2Proof.Machine

/-! ### Items of an image -/

/-- The lessons, the points and the header of an image. -/
def imageLessons (l : List ImageItem) : List LessonDecl := l.filterMap (fun it => match it with
  | .lesson d => some d
  | _ => none)
def imagePoints (l : List ImageItem) : List PointDecl := l.filterMap (fun it => match it with
  | .point d => some d
  | _ => none)
def imageHeader? (l : List ImageItem) : Option ImageHeader := l.findSome? (fun it => match it with
  | .header h => some h
  | _ => none)

/-- DESC.OWNER of a declared point. -/
def ownerOf (d : PointDecl) : BitVec 12 := BitVec.ofNat 12 (bits d.desc 27 16)

/-! ### Warm data (R111) -/

/-- The warm memory of the current image: the committed copies of STATE, and the cluster SCRATCH regions declared warm. -/
def State.warmRanges (s : State) : List (Nat × Nat) :=
  s.scan.current.filterMap (fun it => match it with
    | .coreRegion c r => if r.kind = .state then some ((Space.committed (coreId c)).base + r.base, r.size) else none
    | .clusterRegion c r => if r.kind = .scratch ∧ r.warm then some ((Space.cluster c).base + r.base, r.size) else none
    | _ => none)

/-- An address lies in one of the ranges. -/
def inRanges (l : List (Nat × Nat)) (a : Nat) : Bool := l.any (fun r => decide (r.1 ≤ a) && decide (a < r.1 + r.2))

/-- What a checkpoint keeps of a point: its index, VALUE, VALUE_HI and QUAL. -/
def warmWords (e : PointIdx × Point) : Nat × Word × Word × Word := (e.1.toNat, e.2.word 0, e.2.word 1, e.2.word 2)

/-- The IMAGE_ID of the current image. -/
def State.currentId (s : State) : BitVec 64 := ((imageHeader? s.scan.current).map (·.imageId)).getD 0

/-! ### Checkpoints (R112), newest begun first -/

/-- An erased area: no checkpoint lies in it and no erase of it is outstanding. -/
def State.freeArea (s : State) : Fin 3 :=
  let busy := fun (k : Fin 3) => s.scan.checkpoints.any (·.area == k) || (s.nand.erasing.toList ++ s.nand.queue).any (fun p => p.1 == .checkpoint k)
  ([0, 1, 2].find? (fun k => !busy k)).getD 0

/-- The checkpoints that a test keeps; the areas of the others are erased. -/
def State.keepCheckpoints (s : State) (keep : Checkpoint → Bool) : State :=
  let gone := s.scan.checkpoints.filter (fun k => !keep k)
  gone.foldl (fun s k => s.erase (.checkpoint k.area) 0) { s with scan := { s.scan with checkpoints := s.scan.checkpoints.filter keep } }

/-- Only the newest complete checkpoint kept. -/
def State.newestOnly (s : State) : State :=
  let best := (s.scan.checkpoints.find? (·.complete)).map (·.area)
  s.keepCheckpoints (fun k => best == some k.area)

/-- The checkpoint begun last and the newest complete one kept, so that an area is erased for the power-fail checkpoint. -/
def State.trimCheckpoints (s : State) : State :=
  let best := (s.scan.checkpoints.find? (·.complete)).map (·.area)
  let last := (s.scan.checkpoints.head?).map (·.area)
  s.keepCheckpoints (fun k => best == some k.area || last == some k.area)

/-- A checkpoint begun with the warm data as it stands; it is complete unless it waits for lessons to commit. -/
def State.beginCheckpoint (s : State) (waits : List Nat) : State :=
  let ranges := s.warmRanges
  let warm := s.declared.filter (fun e => e.2.warm)
  let k : Checkpoint :=
    { area := s.freeArea, waits := waits, imageId := s.currentId, begunAt := s.appliedSec, stale := false, complete := waits.isEmpty, digestOk := true,
      mem := s.scan.mem.filter (fun p => inRanges ranges p.1), points := warm.map warmWords,
      forces := s.forces.map (fun i => (i.toNat, (s.point i).word 0, (s.point i).word 1)) }
  { s with scan := { s.scan with checkpoints := k :: s.scan.checkpoints } }

/-- The whole module saved at once: at power fail and at WARM_RESTART (R112). -/
def State.checkpoint (s : State) : State := s.beginCheckpoint []

/-- The periodic checkpoint begun, in an area whose erase has ended: it waits for a commit of every lesson that runs; with the bells stopped it is
complete at once (log entry 42). -/
def State.periodicCheckpoint (s : State) : State :=
  let s := (s.newestOnly).erased
  let runs := (s.lessons.filter (fun p => !p.2.shed)).map (·.1)
  let s := s.beginCheckpoint (if s.bit Reg.SCAN_STAT 0 then runs else [])
  if (s.scan.checkpoints.head?.map (·.complete)).getD false then s.newestOnly else s

/-- A lesson's STATE and outputs copied into the checkpoint that waits for them, as they stand once its period has ended (R112); the last one completes
it. -/
def State.saveLesson (s : State) (n : Nat) (l : Lesson) : State :=
  match s.scan.checkpoints with
  | [] => s
  | k :: rest =>
    if !k.waits.contains n then s
    else
      let ranges := s.scan.current.filterMap (fun it => match it with
        | .coreRegion c r => if c = l.decl.core ∧ r.kind = .state ∧ r.owner = l.decl.tenant then some ((Space.committed (coreId c)).base + r.base, r.size) else none
        | _ => none)
      let outs := (s.declared.filter (fun e => e.2.warm && e.2.outputOf n)).map warmWords
      let waits := k.waits.filter (· != n)
      let k := { k with
        waits := waits, complete := waits.isEmpty,
        mem := ranges.foldl (fun m r => Memory.writeN m r.1 (Memory.readN s.scan.mem r.1 r.2)) k.mem,
        points := k.points.map (fun p => (outs.find? (fun q => q.1 == p.1)).getD p) }
      let s := { s with scan := { s.scan with checkpoints := k :: rest } }
      if k.complete then s.newestOnly else s

end Sys2Proof.Machine
end

