-- ==== Sys2Proof/Machine/RightsOps.lean ====
section
/-! DEFINITION. The rights of a tenant (R123), on points and on the resources of engines. -/

namespace Sys2Proof.Machine

/-- A committed roster entry in force names a tenant and a kind and meets a condition on its words. -/
def State.granted (s : State) (t : BitVec 12) (kind right : Nat) (p : Word → Word → Bool) : Bool :=
  s.roster.rules.any (fun r =>
    r.1 % 4 == 0 && bitOf r.2 31 && decide (bits r.2 11 0 = t.toNat) && decide (bits r.2 15 12 = kind) && bitOf r.2 (16 + right) &&
      p (Tab.get (fun _ => 0) s.roster.rules (r.1 + 1)) (Tab.get (fun _ => 0) s.roster.rules (r.1 + 2)))

/-- A resource number lies in FIRST to LAST of an entry's word 1. -/
def inRange (n : Nat) (w1 : Word) : Bool := decide (bits w1 15 0 ≤ n) && decide (n ≤ bits w1 31 16)

/-- READ (right 0) or WRITE (right 1) on a point by ownership or by an entry of kind POINTS or OWNED. -/
def State.pointRight (s : State) (t : BitVec 12) (right : Nat) (i : PointIdx) : Bool :=
  (s.point i).owner == t || s.granted t 1 right (fun w1 _ => inRange i.toNat w1) ||
    s.granted t 2 right (fun _ w2 => decide (bits w2 11 0 = (s.point i).owner.toNat))

/-- READ on a point; a context at B holds it on every point. -/
def State.mayRead (s : State) (t : BitVec 12) (i : PointIdx) : Bool :=
  ((s.tenant t).valid && !(s.tenant t).privT) || s.pointRight t 0 i

/-- WRITE on a point. -/
def State.mayWrite (s : State) (t : BitVec 12) (i : PointIdx) : Bool := s.pointRight t 1 i

/-- WRITE on a point that an image declares with an owner and an index: by that ownership or by an entry in force (R110, R123). -/
def State.mayWriteAs (s : State) (t owner : BitVec 12) (i : PointIdx) : Bool :=
  owner == t || s.granted t 1 1 (fun w1 _ => inRange i.toNat w1) || s.granted t 2 1 (fun _ w2 => decide (bits w2 11 0 = owner.toNat))

/-- The resource an engine message names (R125): a roster kind (3 LOOP, 4 STAGES, 5 DOORS, 6 DISPATCH) and a number. -/
def OwnedRes.kindNum : OwnedRes → Nat × Nat
  | .loop k => (3, k.toNat)
  | .stage k => (4, k.val)
  | .door k => (5, k.toNat)

/-- MSG on a resource. -/
def State.mayMsg (s : State) (t : BitVec 12) (kind n : Nat) : Bool :=
  t == 0 || s.granted t kind 2 (fun w1 _ => inRange n w1) ||
    s.scan.owns.any (fun o => o.2 == t && OwnedRes.kindNum o.1 == (kind, n))

end Sys2Proof.Machine
end

