-- ==== Sys2Proof/Machine/CoreOps.lean ====
section
/-! DEFINITION. What the instructions of a core share: region checks (R34, R35), tag entries and their observation (R27, R65), the
end and the abandonment of a lesson (R40, R73, R88), clasps broken (R78), taking an exception (R39), homeroom slots (R119 to
R122), and the frame in which every instruction runs (R46). -/

namespace Sys2Proof.Machine

/-! ### Registers of a core -/

/-- The registers of a core changed. -/
def State.updCtx (s : State) (c : CoreId) (f : Ctx → Ctx) : State :=
  s.setCore c { s.core c with ctx := f (s.core c).ctx }

/-- A g register of a core. -/
def State.g (s : State) (c : CoreId) (r : BitVec 4) : Word := (s.core c).ctx.g[r.toNat]

/-- A g register of a core written. -/
def State.setG (s : State) (c : CoreId) (r : BitVec 4) (v : Word) : State :=
  s.updCtx c (fun x => { x with g := x.g.set r.toNat v })

/-- A b register of a core. -/
def State.b (s : State) (c : CoreId) (r : BitVec 3) : BReg := (s.core c).ctx.b[r.toNat]

/-- A b register of a core written. -/
def State.setB (s : State) (c : CoreId) (r : BitVec 3) (v : BReg) : State :=
  s.updCtx c (fun x => { x with b := x.b.set r.toNat v })

/-- A tag register of a core. -/
def State.tag (s : State) (c : CoreId) (t : BitVec 3) : TagReg := (s.core c).ctx.t[t.toNat]

/-- A core's PC. -/
def State.pc (s : State) (c : CoreId) : Word := (s.core c).ctx.pc

/-- A core's PC set. -/
def State.setPc (s : State) (c : CoreId) (v : Word) : State := s.updCtx c (fun x => { x with pc := v })

/-- A core's LS (R24). -/
def State.ls (s : State) (c : CoreId) : Word := (s.core c).ctx.ls

/-- A core's LS set. -/
def State.setLs (s : State) (c : CoreId) (v : Word) : State := s.updCtx c (fun x => { x with ls := v })

/-- HM.SLOT and HM.PRIV of a core (R23); HM.TENANT stands in Machine/Views.lean. -/
def State.hmSlot (s : State) (c : CoreId) : BitVec 4 := BitVec.ofNat 4 (bits (s.core c).ctx.hm 3 0)
def State.privT (s : State) (c : CoreId) : Bool := isScan c && bitOf (s.core c).ctx.hm 8

/-- The word of a tag register (R26). -/
def TagReg.word (t : TagReg) : Word := wd (t.out + t.done * 64 + t.failed * 4096 + t.cause.toNat * 262144)

/-- A core's waiting state set. -/
def State.setWaiting (s : State) (c : CoreId) (w : Waiting) : State := s.setCore c { s.core c with waiting := w }

/-- The core whose memories a core's code reaches: its own, or for a lesson moved under R93 the copy of the memories of the core it was
bound to (log entry 23). -/
def State.memCore (s : State) (c : CoreId) : CoreId :=
  match (s.core c).lesson with
  | some n => match s.lesson? n with
    | some l => coreId l.decl.core
    | none => c
  | none => c

/-- The core a lesson runs on (R81, R93). -/
def Lesson.coreOf (l : Lesson) : CoreId := coreId l.runsOn

/-! ### Regions (R34, R35) -/

/-- A region holds the whole access and its kind and owner allow it. -/
def regionAllows (r : Region) (tenant : BitVec 12) (privT : Bool) (kinds : List RegionKind) (a n : Nat) : Bool :=
  decide (r.base ≤ a) && decide (a + n ≤ r.base + r.size) && kinds.contains r.kind &&
    (r.owner == tenant || (!privT && r.kind == .const && r.owner == 0xFFF))

/-- A word address in a CODE region of the running tenant, and not in the data space (R34, R35). -/
def State.inCode (s : State) (c : CoreId) (a : Word) : Bool :=
  decide (a.toNat % 4 = 0) &&
    if isScan c then
      decide (a.toNat + 4 ≤ 0x10000) &&
        (Tab.get (fun _ => []) s.scan.coreRegions (s.memCore c).val).any (fun r => regionAllows r (s.hmTenant c) (s.privT c) [.code] a.toNat 4)
    else decide (a.toNat + 4 ≤ 0x20000)

/-- The word at a PC can be fetched (R14, R34, R35). -/
def State.fetchOk (s : State) (c : CoreId) (a : Word) : Bool :=
  s.inCode c a && !s.isPoisoned ((Space.imem (s.memCore c)).base + a.toNat)

/-- What a data access comes to: an address of core memory, MEMORY, or on a steward core an address of LPDDR5 or of the register
blocks (R41, R52). -/
inductive DataAddr where
  | at (a : Nat) (cluster : Bool)
  | lpddr (a : Nat)
  | reg (a : BitVec 24)
  | memory
deriving DecidableEq, Repr

/-- The check of a load or store of n bytes at an effective address (R34, R35, R41, R52). -/
def State.dataAddr (s : State) (c : CoreId) (ea : Word) (n : Nat) (write : Bool) : DataAddr :=
  let a := ea.toNat
  if a % n ≠ 0 then .memory
  else if isScan c then
    let kinds : List RegionKind := if write then [.state, .scratch] else [.state, .scratch, .const]
    if a < 0x20000 then
      if (Tab.get (fun _ => []) s.scan.coreRegions (s.memCore c).val).any (fun r => regionAllows r (s.hmTenant c) (s.privT c) kinds a n)
      then .at ((Space.dmem (s.memCore c)).base + a) false else .memory
    else if 0x100000 ≤ a ∧ a < 0x2C0000 then
      if (Tab.get (fun _ => []) s.scan.clusterRegions (clusterOf c).val).any
          (fun r => regionAllows r (s.hmTenant c) (s.privT c) kinds (a - 0x100000) n)
      then .at ((Space.cluster (clusterOf c)).base + (a - 0x100000)) true else .memory
    else .memory
  else if a + n ≤ 0x40000 then .at ((Space.dmem (s.memCore c)).base + a) false
  else match Config.stewardMap ea with
    | .lpddr x => .lpddr x
    | .register x => .reg x
    | .nothing => .memory

/-- Any word of the n bytes at a core memory address is poisoned. -/
def State.anyPoison (s : State) (a n : Nat) : Bool := (List.range (n / 4 + 1)).any (fun i => decide (4 * i < max n 1) && s.isPoisoned (a + 4 * i))

/-- The bytes a load reads: a clasp's own buffered stores over memory (R76). -/
def State.loadBytes (s : State) (c : CoreId) (a n : Nat) : List Byte :=
  let m := match (s.core c).clasp with
    | some k => k.stores.foldl (fun m st => Memory.writeN m st.addr st.bytes) s.scan.mem
    | none => s.scan.mem
  Memory.readN m a n

/-- A core data address lies in a STATE region of its core. -/
def State.stateLine (s : State) (c : CoreId) (a : Nat) : Option Nat :=
  let off := a - (Space.dmem (s.memCore c)).base
  if isScan c && decide ((Space.dmem (s.memCore c)).base ≤ a) && decide (off < 0x20000) &&
      (Tab.get (fun _ => []) s.scan.coreRegions (s.memCore c).val).any
        (fun r => r.kind == .state && decide (r.base ≤ off) && decide (off < r.base + r.size))
  then some (off / 64) else none

/-- A store of bytes by a core: a STATE line is remembered as changed by the running lesson (R36). -/
def State.storeBytes (s : State) (c : CoreId) (a : Nat) (b : List Byte) : State :=
  let s1 := s.storeAt a b
  match s.stateLine c a, (s.core c).lesson with
  | some ln, some n => s1.updLesson n (fun l => if l.dirty.contains ln then l else { l with dirty := ln :: l.dirty })
  | _, _ => s1

/-! ### Homeroom slots (R119 to R122) -/

/-- The slot that holds a tenant, loading or resident (ROSTER_HR_CTXn). -/
def State.slotOf (s : State) (t : BitVec 12) : Option Nat :=
  (List.range 16).find? (fun k => decide (s.fld (Reg.ROSTER_HR_CTX k) 13 12 ≠ 0) && decide (s.fld (Reg.ROSTER_HR_CTX k) 11 0 = t.toNat))

/-- The tenant's slot is resident. -/
def State.resident (s : State) (t : BitVec 12) : Bool :=
  match s.slotOf t with
  | some k => s.fld (Reg.ROSTER_HR_CTX k) 13 12 == 2
  | none => false

/-- A tenant's slot is kept for it: its context is pinned, or a commit in progress pins it (R122). -/
def State.pinned (s : State) (t : BitVec 12) : Bool :=
  (s.tenant t).pin || match s.roster.copyCtx with
    | some ctx => (Tab.get tenantDefault ctx t.toNat).valid && (Tab.get tenantDefault ctx t.toNat).pin
    | none => false

/-- A slot can be evicted: it holds a tenant that is neither pinned nor active (R120). -/
def State.evictable (s : State) (k : Nat) : Bool :=
  decide (s.fld (Reg.ROSTER_HR_CTX k) 13 12 ≠ 0) && !s.bit (Reg.ROSTER_HR_CTX k) 14 &&
    !s.tenantActive (BitVec.ofNat 12 (s.fld (Reg.ROSTER_HR_CTX k) 11 0))

/-- A slot given to a tenant, its reload begun (R120, R121). A tenant that a commit is about to pin keeps the slot it waited for (R122). -/
def State.loadSlot (s : State) (k : Nat) (t : BitVec 12) : State :=
  let c := s.tenant t
  s.wr (Reg.ROSTER_HR_CTX k) (wd (t.toNat + 1 * 4096 + (s.pinned t).toNat * 16384 + c.privT.toNat * 32768))

/-- The slot a tenant can take now: the lowest free one, else the evictable one whose tenant stopped being active longest ago
(R120; ties to the lowest slot, log entry 11). -/
def State.slotFor (s : State) : Option (Nat × Bool) :=
  match (List.range 16).find? (fun k => decide (s.fld (Reg.ROSTER_HR_CTX k) 13 12 = 0)) with
  | some k => some (k, false)
  | none =>
    let last := fun k => Tab.get (fun _ => 0) s.roster.lastActive k
    ((List.range 16).filter s.evictable).foldl (fun best k => match best with
      | none => some (k, true)
      | some (b, e) => if last k < last b then some (k, true) else some (b, e)) none

/-- A tenant's need of a slot (R120, R121): a slot it holds serves it; else a free or evictable slot starts to load; else the
request waits in order of arrival. -/
def State.needSlot (s : State) (t : BitVec 12) : State :=
  if (s.slotOf t).isSome ∨ s.roster.requests.contains t then s
  else match s.slotFor with
    | some (k, ev) => (if ev then s.inc Reg.ROSTER_EVICT_CNT else s).loadSlot k t
    | none => { (s.inc Reg.ROSTER_RELOAD_WAITS) with roster := { s.roster with requests := s.roster.requests ++ [t] } }

/-- Tenants that have just stopped being active have their slot's time noted (R120), and waiting requests are served while a
slot is free or evictable (R121). -/
def State.settleSlots (s : State) (was : List (BitVec 12)) : State :=
  let s := was.foldl (fun s t => match s.slotOf t with
    | some k => if s.tenantActive t then s
        else { s with roster := { s.roster with lastActive := Tab.set (fun _ => 0) s.roster.lastActive k s.now } }
    | none => s) s
  s.roster.requests.foldl (fun s t => match s.slotFor with
    | some (k, ev) =>
      let s := { s with roster := { s.roster with requests := s.roster.requests.erase t } }
      (if ev then s.inc Reg.ROSTER_EVICT_CNT else s).loadSlot k t
    | none => s) s

/-! ### Tag groups and pool entries (R11, R26, R27) -/

/-- The registers of the lesson an entry belongs to changed, on its core or among the preempted ones. -/
def State.updEntryCtx (s : State) (c : CoreId) (lesson : Option Nat) (f : Ctx → Ctx) : State :=
  let k := s.core c
  if k.lesson = lesson then s.setCore c { k with ctx := f k.ctx }
  else s.setCore c { k with stack := k.stack.map (fun p => if some p.1 = lesson then (p.1, f p.2) else p) }

/-- One tag register of a register set changed. -/
def Ctx.updTag (x : Ctx) (t : BitVec 3) (f : TagReg → TagReg) : Ctx :=
  { x with t := x.t.set t.toNat (f x.t[t.toNat]) }

/-- A group after one of its completed operations is observed: DONE down, FAILED and the first CAUSE (R26, R27). -/
def TagReg.observe (t : TagReg) (cause : BitVec 5) : TagReg :=
  let t := { t with done := t.done - 1 }
  if cause = 0 then t
  else { t with failed := min (t.failed + 1) 32, cause := if t.failed = 0 then cause else t.cause }

/-- The g registers bound to an entry freed. -/
def Ctx.unbind (x : Ctx) (e : Nat) : Ctx := { x with bound := x.bound.map (fun b => if b = some e then none else b) }

/-- A completed operation observed: its group counts it, its entry is released, its registers are free (R27). With the last entry of a steward core's
access its tenant may stop being active (R119, R120); a lesson's tenant stays active through its period. -/
def State.observe (s : State) (e : Nat) : State :=
  match s.entry? e with
  | some x =>
    let s := s.updEntryCtx x.core x.lesson (fun k => (k.unbind e).updTag x.tag (fun t => t.observe (x.outcome.getD 0)))
    let s := s.setEntry e none
    if x.lesson.isNone then s.settleSlots [x.tenant] else s
  | none => s

/-- The completed operations of a core's running group, in issue order. -/
def State.groupDone (s : State) (c : CoreId) (t : BitVec 3) : List Nat :=
  (sortOn (fun p => p.2.order)
    (s.entries.filter (fun p => p.2.core == c && p.2.lesson == (s.core c).lesson && p.2.tag == t && p.2.completed))).map (·.1)

/-- Every completed operation of a group observed (R27 rules 3 and 4). -/
def State.observeGroup (s : State) (c : CoreId) (t : BitVec 3) : State := (s.groupDone c t).foldl State.observe s

/-- The bank of a core's cluster: 2,048 entries, clusters 2k and 2k + 1 share bank k (R11). The spec gives a steward core no bank: bank 0 (DESIGN
CHOICE, log entry 65). -/
def bankOf (c : CoreId) : Nat := if isScan c then c.val / 16 else 0

/-- The lowest number not in use among n numbers from e. -/
def firstFree (used : List Nat) : Nat → Nat → Option Nat
  | _, 0 => none
  | e, n + 1 => if used.contains e then firstFree used (e + 1) n else some e

/-- The entry an issue takes: the lowest free one of its own bank, else of the other banks in turn (R11, log entry 10). -/
def State.freeEntry (s : State) (c : CoreId) : Option Nat :=
  let used := s.scan.pool.map (·.1)
  [0, 1, 2, 3].findSome? (fun k => firstFree used ((bankOf c + k) % 4 * 2048) 2048)

/-- A pool entry is available to a slot of a core at once (R95). A floor raised over entries that others hold already finds no entry until they return. -/
def State.poolAvailable (s : State) (c : CoreId) (slot : BitVec 4) : Bool :=
  (s.freeEntry c).isSome &&
    (decide (s.heldBy slot < s.floorOf slot.toNat) || (decide (0 < s.sharedFree) && s.scan.poolFifo.isEmpty))

/-- Every entry of a lesson on a core released, and its registers unbound (R11, R40). -/
def State.releaseLesson (s : State) (c : CoreId) (n : Nat) : State :=
  (s.entries.filter (fun p => p.2.core == c && p.2.lesson == some n)).foldl (fun s p => s.setEntry p.1 none) s

/-! ### Clasps (R75 to R78) -/

/-- A cluster clasp lock freed. -/
def State.freeLock (s : State) (c : CoreId) : State :=
  let cl := (clusterOf c).val
  { s with scan := { s.scan with
      lockOwner := if s.scan.lockOwner.toList.getD cl none = some c then s.scan.lockOwner.setIfInBounds cl none else s.scan.lockOwner,
      lockFifo := s.scan.lockFifo.setIfInBounds cl ((s.scan.lockFifo.toList.getD cl []).filter (· != c)) } }

/-- The clasps open now; 32 slots are shared module-wide (R75). -/
def State.openClasps (s : State) : Nat := (s.scan.cores.filter (fun p => p.2.clasp.isSome)).length

/-- A core halts with a cause (R381). -/
def State.haltCore (s : State) (c : CoreId) (cause : BitVec 3) : State :=
  s.setCore c { s.core c with halt := .halted, haltCause := cause }

/-- A halt that a clasp deferred takes effect once the clasp is over (R382). -/
def State.haltDeferred (s : State) (c : CoreId) : State :=
  if (s.core c).halt = .haltPending then s.haltCore c (s.core c).haltCause else s

/-- A clasp broken (R78): stores and held puts discarded, their entries released with no completion, lock and slot freed,
IN_CLASP clear, and a halt it deferred in force. A held put's group no longer counts it as outstanding. -/
def State.breakClasp (s : State) (c : CoreId) : State :=
  match (s.core c).clasp with
  | none => s
  | some _ =>
    let held := s.entries.filter (fun p => p.2.core == c && p.2.held && !p.2.completed)
    let s := held.foldl (fun s p => (s.updEntryCtx c p.2.lesson
      (fun x => x.updTag p.2.tag (fun t => { t with out := t.out - 1 }))).setEntry p.1 none) s
    let s := s.freeLock c
    let s := s.setCore c { s.core c with clasp := none }
    (s.setLs c (setBitOf (s.ls c) 8 false)).haltDeferred c

/-! ### The end of a period (R36, R40, R73, R88, R89) -/

/-- A line of core memory copied, the poison of its words with it: a copy of a poisoned word is no good word (R36). -/
def State.copyLine (s : State) (src dst : Nat) : State :=
  let s := s.storeAt dst (Memory.readN s.scan.mem src 64)
  (List.range 16).foldl (fun s i => if s.isPoisoned (src + 4 * i)
    then { s with scan := { s.scan with poison := Tab.set (fun _ => false) s.scan.poison (dst + 4 * i) true } } else s) s

/-- The STATE lines a lesson changed: the working copy restored from the committed one with its poison (R36). -/
def State.restoreState (s : State) (c : CoreId) (lines : List Nat) : State :=
  lines.foldl (fun s ln => s.copyLine ((Space.committed c).base + 64 * ln) ((Space.dmem c).base + 64 * ln)) s

/-- The STATE lines a lesson changed: the working copy becomes the committed one (R36, R88). The spec does not say what a poisoned word of the working
copy leaves there: its poison passes on, as it does the other way (DEDUCED from R36, log entry 65). -/
def State.commitState (s : State) (c : CoreId) (lines : List Nat) : State :=
  lines.foldl (fun s ln => s.copyLine ((Space.dmem c).base + 64 * ln) ((Space.committed c).base + 64 * ln)) s

/-- The output points of a lesson. -/
def State.outputs (s : State) (n : Nat) : List PointIdx :=
  (s.declared.filter (fun e => e.2.outputOf n)).map (·.1)

/-- A lesson's saved LS fields: BF_STICKY of the running code (R24). -/
def Lesson.save (l : Lesson) (ls : Word) : Lesson := { l with sticky := bitOf ls 12 }

/-- A core without its lesson: idle, waiting for nothing, out of every queue. -/
def State.vacate (s : State) (c : CoreId) : State :=
  let s := s.setCore c { s.core c with lesson := none, waiting := .none, step := false }
  { s with scan := { s.scan with
      poolFifo := s.scan.poolFifo.filter (· != c), claspFifo := s.scan.claspFifo.filter (· != c) } }

/-- The order of a tier (R83, R91): SAFETY first. -/
def tierRank : Tier → Nat
  | .safety => 0
  | .lift => 1
  | .a => 2
  | .b => 3
  | .c => 4
  | .best => 5

/-- A lesson's place in the priority order, lower first (R83): tier, class, Order, then its number (log entry 13); demoted lessons after
all others, in the order of their demotion. -/
def Lesson.key (n : Nat) (l : Lesson) : Nat :=
  match l.demoted with
  | some d => 2 ^ 40 + d
  | none => (((tierRank l.decl.tier * 8 + l.decl.cls.val) * 256 + l.decl.order.toNat) * 65536) + n

/-- The best of the lessons of a core that are in their period and wait for it (ready or preempted). -/
def State.bestLesson (s : State) (c : CoreId) : Option (Nat × Lesson) :=
  (s.lessons.filter (fun p => p.2.coreOf == c && decide (p.2.notBefore ≤ p.2.bellTime) && (p.2.phase == .ready || p.2.phase == .preempted))).foldl
    (fun b p => match b with
      | none => some p
      | some q => if Lesson.key p.1 p.2 < Lesson.key q.1 q.2 then some p else some q) none

/-- A preempted lesson resumed on its core (R84): its registers restored. -/
def State.resumeLesson (s : State) (c : CoreId) (n : Nat) : State :=
  let k := s.core c
  match k.stack.find? (fun p => p.1 == n) with
  | some p =>
    (s.setCore c { k with ctx := p.2, lesson := some n, stack := k.stack.filter (fun q => q.1 != n), waiting := (p.2.sleepDue.map Waiting.sleep).getD .none }).updLesson n
      (fun l => { l with phase := .running })
  | none => s

/-- After a lesson has left its core: the best waiting lesson resumes at once where it is a preempted one; a ready one starts by
LESSON_START. A halted core resumes nothing (R381). -/
def State.resumeBest (s : State) (c : CoreId) : State :=
  if (s.core c).lesson.isSome ∨ (s.core c).halt = .halted then s
  else match s.bestLesson c with
    | some (n, l) => if l.phase = .preempted then s.resumeLesson c n else s
    | none => s

/-- The count of late (from bit 0) or broken (from bit 16) periods of a slot, where the tenant held one (R89, R92). -/
def State.countSlot (s : State) (slot : Option Nat) (lo : Nat) : State :=
  match slot with
  | some k => s.incSat (Reg.SCAN_HR_LATE k) (lo + 15) lo
  | none => s

/-- The severity of a broken guarantee by tier (R92). -/
def tierBreakSev : Tier → BitVec 3
  | .safety => 7
  | .lift => 6
  | .a => 5
  | .b => 4
  | _ => 3

/-- A guarantee broken (R92): counted against the slot that held the tenant, indicated and recorded. `resource` is 1 CORE_TIME or 2 CORE_LOSS,
which lies at the level of a tile (R7). The spec gives the tiers no numbers: the event holds 0 SAFETY, 1 LIFT, 2 A, 3 B, 4 C, 5 BEST (DESIGN
CHOICE, log entry 65). -/
def State.breakGuarantee (s : State) (n : Nat) (l : Lesson) (slot : Option Nat) (resource : Nat) : State :=
  let s := ((s.inc Reg.SCAN_BROKEN_CNT).setBit Reg.SCAN_STAT 4 true).countSlot slot 16
  s.record { sev := tierBreakSev l.decl.tier, level := if resource = 2 then 4 else 0, source := 0x04, code := 92, tenant := some l.decl.tenant,
             slot := slot.map (BitVec.ofNat 4), args := [wd n, wd (tierRank l.decl.tier), wd l.decl.cls.val, l.bell, wd resource] }

/-- A DEADLINE abandonment counted (R40, R89): LS.LATE, SCAN_LESSON_LATE, and LATE of the slot that held the tenant. -/
def State.countLate (s : State) (n : Nat) (slot : Option Nat) : State :=
  ((s.updLesson n (fun l => { l with late := BitVec.ofNat 8 (satInc 8 l.late.toNat) })).incSat Reg.SCAN_LESSON_LATE 31 0).countSlot slot 0

/-- A lesson's period abandoned (R40), wherever it stands: working values and STATE changes discarded, entries released, HELD on
every output point, LAST_ABANDON and ABANDON_BELL. The counts and records of the cause follow in `abandon`. -/
def State.dropPeriod (s : State) (n : Nat) (cause : BitVec 5) : State :=
  match s.lesson? n with
  | none => s
  | some l =>
    let c := l.coreOf
    let s := if (s.core c).lesson = some n then s.breakClasp c else s
    let ls := if (s.core c).lesson = some n then s.ls c
      else match (s.core c).stack.find? (fun p => p.1 == n) with | some p => p.2.ls | none => setBitOf 0 12 l.sticky
    let s := s.releaseLesson c n
    let s := (s.outputs n).foldl (fun s i =>
      (s.setPoint i { s.point i with work := Vector.replicate 16 none }).setQual i 3 true) s
    let s := s.restoreState (coreId l.decl.core) l.dirty
    let s := if (s.core c).lesson = some n then s.vacate c
      else s.setCore c { s.core c with stack := (s.core c).stack.filter (fun p => p.1 != n) }
    let s := (s.setLesson n { (l.save ls) with phase := .idle, lastAbandon := cause, abandonBell := l.bell, demoted := none,
                                               exhausted := false, dirty := [] }).saveLesson n l
    (s.settleSlots [l.decl.tenant]).resumeBest c

/-- A period abandoned with a cause (R40, R89, R92, R381): DEADLINE counts as late, and as broken where the budget was not used up
and the tier carries a guarantee; an exception cause counts in SCAN_ABANDON_EXC and is recorded; DEBUG_HALT counts alone. -/
def State.abandon (s : State) (n : Nat) (cause : BitVec 5) : State :=
  match s.lesson? n with
  | none => s
  | some l =>
    let held := s.slotOf l.decl.tenant
    let slot := held.map (BitVec.ofNat 4)
    let s := s.dropPeriod n cause
    if cause = 11 then
      let s := s.countLate n held
      let moved := decide (l.bellTime < l.notBefore)
      if (l.exhausted ∧ !moved) ∨ l.decl.tier = .best then s else s.breakGuarantee n l held (if moved then 2 else 1)
    else if cause = 18 then
      (s.incSat Reg.DBG_HALT_ABANDON 31 0).record
        { sev := 4, source := 0x1F, code := 381, tenant := some l.decl.tenant, slot := slot, args := [wd n, l.bell] }
    else
      (s.inc Reg.SCAN_ABANDON_EXC).record
        { sev := 3, source := 0x04, code := 89, tenant := some l.decl.tenant, slot := slot, args := [wd n, wd cause.toNat, l.bell] }

/-- A working value put this period replaces the committed one. -/
def Point.workSet (p : Point) : CommitSet :=
  let w := fun i => (p.work.toList.getD i none)
  { value := w 0, valueHi := w 1, level := (w 2).map (fun q => BitVec.ofNat 2 (bits q 1 0)),
    overrange := (w 2).map (fun q => bitOf q 12), detail := (w 2).map (fun q => BitVec.ofNat 8 (bits q 23 16)),
    aux := [w 12, w 13, w 14, w 15] }

/-- The lesson put some word of the point this period. -/
def Point.wasPut (p : Point) : Bool := p.work.toList.any (fun w => w.isSome)

/-- A period ends and commits in one step (R73, R88): outputs that were put take their working values, the others lose HELD, STATE
is committed, every entry of the lesson is released. -/
def State.endLesson (s : State) (c : CoreId) (n : Nat) : State :=
  match s.lesson? n with
  | none => s
  | some l =>
    let s := s.releaseLesson c n
    let s := (s.outputs n).foldl (fun s i =>
      let p := s.point i
      let s := if p.wasPut then s.commitPoint i p.workSet else s.setQual i 3 false
      s.setPoint i { s.point i with work := Vector.replicate 16 none }) s
    let s := s.commitState (coreId l.decl.core) l.dirty
    let ls := s.ls c
    let s := s.vacate c
    let s := (s.setLesson n { (l.save ls) with phase := .idle, demoted := none, exhausted := false, dirty := [] }).saveLesson n l
    (s.settleSlots [l.decl.tenant]).resumeBest c

/-! ### Preemption (R84) -/

/-- The end of an LSLEEP a core waits for. -/
def Waiting.sleepDue : Waiting → Option Nat
  | .sleep d => some d
  | _ => Option.none

/-- The running lesson gives way to a ready one of higher priority (R84): it is saved on the core's stack. A clasp defers it, and
a halted core keeps its frozen lesson. -/
def State.preempt (s : State) (c : CoreId) : State :=
  let k := s.core c
  match k.lesson, s.bestLesson c with
  | some n, some (m, b) =>
    match s.lesson? n with
    | some l =>
      if Lesson.key m b < Lesson.key n l ∧ k.clasp = none ∧ k.halt ≠ .halted then
        let s := { s with scan := { s.scan with
          poolFifo := s.scan.poolFifo.filter (· != c), claspFifo := s.scan.claspFifo.filter (· != c) } }
        (s.setCore c { k with lesson := none, waiting := .none, stack := (n, { k.ctx with sleepDue := k.waiting.sleepDue }) :: k.stack }).updLesson n
          (fun l => { l with phase := .preempted })
      else s
    | none => s
  | _, _ => s

/-! ### Exceptions (R39) -/

/-- The address in core memory of a byte of the running lesson's header (R37). -/
def State.headerAt (l : Lesson) (off : Nat) : Nat := (Space.dmem (coreId l.decl.core)).base + (l.decl.header.toNat + off) % 0x20000

/-- The cause with which a deadline ends a lesson's period (R40): DEADLINE, or DEBUG_HALT on a halted core (R381). -/
def State.deadlineCause (s : State) (l : Lesson) : BitVec 5 := if (s.core l.coreOf).halt = .halted then 18 else 11

/-- Taking an exception (R39). On a scan core a deadline that has come at the same count wins; else the clasp is broken first; with a handler and
IN_HANDLER = 0 the header takes EX_PC, EX_INFO and EX_ADDR and the core continues at the handler, where a preemption that the clasp deferred is
taken (R84); else the lesson is abandoned with the cause. A steward core keeps its return address and continues at the vector its firmware fixes. -/
def State.takeException (s : State) (c : CoreId) (cause : BitVec 5) (exAddr : Word) : State :=
  let broke := (s.core c).clasp.isSome
  let halted := s.deadlineCause
  let s := s.breakClasp c
  let pc := s.pc c
  if isScan c then
    match (s.core c).lesson with
    | none => s
    | some n =>
      match s.lesson? n with
      | none => s
      | some l =>
        if l.deadlineAt ≤ s.now then s.abandon n (halted l)
        else match l.decl.handler with
        | none => s.abandon n cause
        | some h =>
          if bitOf (s.ls c) 9 then s.abandon n cause
          else
            let s := s.storeAt (State.headerAt l 0x10) (wordBytes pc)
            let s := s.storeAt (State.headerAt l 0x14) (wordBytes (wd (cause.toNat + broke.toNat * 32)))
            let s := s.storeAt (State.headerAt l 0x18) (wordBytes exAddr)
            let s := s.setLs c (setBitOf (putBits (s.ls c) 4 0 cause.toNat) 9 true)
            (s.setPc c h).preempt c
  else
    let s := s.setCore c { s.core c with frame := pc :: (s.core c).frame }
    let s := s.setLs c (setBitOf (putBits (s.ls c) 4 0 cause.toNat) 9 true)
    s.setPc c (Config.stewardVector (c.val - 64))

/-! ### The frame of an instruction (R46) -/

/-- What the body of an instruction comes to. -/
inductive Res where
  /-- It completes; the PC goes to the next instruction. -/
  | done (s : State)
  /-- It completes and the PC goes to a target. -/
  | jump (s : State) (target : Word)
  /-- Its state is whole: the lesson has ended, or the core waits with its PC settled. -/
  | whole (s : State)
  /-- It raises an exception with EX_ADDR. -/
  | exc (cause : BitVec 5) (addr : Word)
  /-- It cannot execute yet: the core waits, and the instruction is given again once the wait has ended. -/
  | wait (w : Waiting)
  /-- Its store reaches a register write that stops. -/
  | stop (o : Out)

/-- A steward core runs: it is the active one, or an image is being started on it while a transfer prepares (R19, R363); none runs while the module is
DEAD (R369). -/
def State.stewardRuns (s : State) (c : CoreId) : Bool :=
  let st := s.fld Reg.FWU_STAT 3 0
  st != 6 && (c.val == 64 + s.fwu.active.val || st == 4)

/-- A core that executes instructions now: the module is powered, a lesson runs on it (a steward core: its firmware), it waits for nothing, and it is not
halted, or is halted with a STEP in progress. -/
def State.executing (s : State) (c : CoreId) : Bool :=
  let k := s.core c
  !s.pwr.off && (if isScan c then k.lesson.isSome else s.stewardRuns c) && k.waiting == .none && (k.halt != .halted || k.step)

/-- A STEP has executed its instruction: the core halts again (R381). An instruction that still waits has not been executed yet. -/
def State.afterStep (s : State) (c : CoreId) : State :=
  let k := s.core c
  if k.step && (k.waiting == .none || k.waiting == .interrupt) then s.setCore c { k with step := false, halt := .halted, haltCause := 3 } else s

/-- An instruction inside a clasp counts toward the bound of R77. -/
def State.countClasp (s : State) (c : CoreId) : State :=
  let k := s.core c
  match k.clasp with
  | some x => s.setCore c { k with clasp := some { x with count := x.count + 1 } }
  | none => s

/-- The first register of a list that is bound to an operation in flight. -/
def State.firstBound (s : State) (c : CoreId) (rs : List (BitVec 4)) : Option Nat :=
  rs.findSome? (fun r => (s.core c).ctx.bound[r.toNat])

/-- The bound registers of a list whose operations have completed, observed one by one (R27 rule 5). -/
def State.observeBound (s : State) (c : CoreId) (rs : List (BitVec 4)) : State :=
  rs.foldl (fun s r => match (s.core c).ctx.bound[r.toNat] with
    | some e => match s.entry? e with
      | some x => if x.completed then s.observe e else s
      | none => s.updCtx c (fun k => k.unbind e)
    | none => s) s

/-- An access that steward firmware carries for a tenant waits until the tenant's homeroom is resident (R121). -/
def State.awaitsReload (s : State) (c : CoreId) : Bool := !isScan c && !s.resident (s.hmTenant c)

/-- The outcome of an instruction's body: the exception taken, the wait entered, the PC and the counts moved on. -/
def State.finish (s : State) (c : CoreId) (next : Word) : Res → Out
  | .done t => .next (((t.countClasp c).setPc c next).afterStep c)
  | .jump t a => .next (((t.countClasp c).setPc c a).afterStep c)
  | .whole t => .next (t.afterStep c)
  | .exc cause addr => .next ((s.takeException c cause addr).afterStep c)
  | .wait w => .next (s.setWaiting c w)
  | .stop o => o

/-- The outcome of the body that has run on `t`, the state after the observation of the bound registers: an exception changes no register and no tag
register, so it is taken on the state before that observation (R46). -/
def State.settle (s : State) (c : CoreId) (next : Word) (t : State) : Res → Out
  | .exc cause addr => s.finish c next (.exc cause addr)
  | r => t.finish c next r

/-- An instruction executed by a core (R46): the fetch of its words, ILLEGAL, PRIVILEGE, the bound of a clasp (R77, log entry 14), the wait
for the g registers it reads or writes (R27), then its body. A core that is not executing leaves the state as it is (log entry 5). -/
def State.runInstr (s : State) (c : CoreId) (i : Instr) (legal privileged : Bool) (uses : List (BitVec 4))
    (body : State → Res) : Out :=
  if !s.executing c then .next s
  else
    let pc := s.pc c
    let pre := (prefixWord i).isSome
    let next := if pre then pc + 8 else pc + 4
    let word := wd (encodeWords i).1
    if !s.fetchOk c pc then s.finish c next (.exc 3 pc)
    else if pre && !s.fetchOk c (pc + 4) then s.finish c next (.exc 3 (pc + 4))
    else if !legal || !operandsLegal i then s.finish c next (.exc 1 word)
    else if privileged && isScan c then s.finish c next (.exc 2 word)
    else if ((s.core c).clasp.map (fun k => decide (32 ≤ k.count))).getD false then s.finish c next (.exc 9 word)
    else
      let t := s.observeBound c uses
      match t.firstBound c uses with
      | some e =>
        if (((t.core c).clasp).bind (fun k => (t.entry? e).map (fun x => decide (x.order < k.firstOrder)))).getD false
        then s.finish c next (.exc 9 word) else t.finish c next (.wait (.bound e))
      | none => s.settle c next t (body t)

/-- The first word of an instruction, which EX_ADDR holds for the causes of R58 that name it. -/
def exWord (i : Instr) : Word := wd (encodeWords i).1

/-- An instruction that writes one g register from g registers and raises nothing (R48 to R51). -/
def State.compute (s : State) (c : CoreId) (i : Instr) (gd : BitVec 4) (srcs : List (BitVec 4)) (f : State → Word) : Out :=
  s.runInstr c i true false (gd :: srcs) (fun t => .done (t.setG c gd (f t)))

/-- An instruction that writes one g register, or raises a cause where it has no result (R48, R49). -/
def State.computeOr (s : State) (c : CoreId) (i : Instr) (gd : BitVec 4) (srcs : List (BitVec 4)) (cause : BitVec 5)
    (f : State → Option Word) : Out :=
  s.runInstr c i true false (gd :: srcs) (fun t => match f t with
    | some v => .done (t.setG c gd v)
    | none => .exc cause (exWord i))

/-- A two-operand instruction on g registers. -/
def State.alu (s : State) (c : CoreId) (i : Instr) (gd ga gb : BitVec 4) (f : Word → Word → Word) : Out :=
  s.compute c i gd [ga, gb] (fun t => f (t.g c ga) (t.g c gb))

/-- A signed result that must lie in −2^31 to 2^31 − 1 (R48, R49). -/
def State.aluV (s : State) (c : CoreId) (i : Instr) (gd ga gb : BitVec 4) (f : Int → Int → Int) : Out :=
  s.computeOr c i gd [ga, gb] 6 (fun t =>
    let x := f (t.g c ga).toInt (t.g c gb).toInt
    if outOfS32 x then none else some (wi x))

/-- A division: DIV_ZERO for a zero divisor (R49). -/
def State.divide (s : State) (c : CoreId) (i : Instr) (gd ga gb : BitVec 4) (f : Word → Word → Word) : Out :=
  s.computeOr c i gd [ga, gb] 7 (fun t => if t.g c gb = 0 then none else some (f (t.g c ga) (t.g c gb)))

/-- 1 where a condition holds, else 0. -/
def flagWord (b : Bool) : Word := if b then 1 else 0

/-- A halt request (R381, R382): deferred while the core is inside a clasp. -/
def State.requestHalt (s : State) (c : CoreId) (cause : BitVec 3) : State :=
  if (s.core c).halt = .halted then s
  else if (s.core c).clasp.isSome then s.setCore c { s.core c with halt := .haltPending, haltCause := cause }
  else s.haltCore c cause

/-- The debugger may halt a core now: attached, debug permitted, with the scope for that kind of core (R379). -/
def State.mayHalt (s : State) (c : CoreId) : Bool :=
  s.bit Reg.DBG_STAT 0 && s.bit Reg.DBG_STAT 1 && (if isScan c then s.bit Reg.DBG_STAT 4 else s.bit Reg.DBG_STAT 5)

/-- An interrupt taken by a steward core that runs (R58, log entry 18): the lowest line that is enabled and pending, outside a handler and
outside a clasp. WAIT ends as soon as one is pending, whether it can be taken or not (R56). -/
def State.serveIrq (s : State) (c : CoreId) : State :=
  let k := s.core c
  let live := k.irq &&& k.ien
  if isScan c || live = 0 || !s.stewardRuns c then s
  else if bitOf k.ctx.ls 9 || k.clasp.isSome || k.halt == .halted then
    if k.waiting = .interrupt then s.setCore c { k with waiting := .none, ctx := { k.ctx with pc := k.ctx.pc + 4 } } else s
  else
    let line := ((List.range 12).find? (fun i => live.getLsbD i)).getD 0
    let back := if k.waiting = .interrupt then k.ctx.pc + 4 else k.ctx.pc
    let s := s.setCore c { k with waiting := .none, frame := back :: k.frame, irq := k.irq &&& ~~~(BitVec.ofNat 12 (2 ^ line)) }
    let s := s.setLs c (setBitOf (putBits (s.ls c) 4 0 19) 9 true)
    s.setPc c (Config.stewardVector (c.val - 64))

end Sys2Proof.Machine
end

