-- ==== Sys2Proof/Machine/LessonCtl.lean ====
section
/-! DEFINITION. Bell and lesson control (R72 to R74) and clasps (R75 to R78). -/

namespace Sys2Proof.Machine

/-! ### The end of a lesson -/

/-- The entries of the running lesson of a core. -/
def State.ownEntries (s : State) (c : CoreId) : List (Nat × Entry) :=
  s.entries.filter (fun p => p.2.core == c && p.2.lesson == (s.core c).lesson)

/-- The operation is a PSYNC. -/
def Entry.isPsync (e : Entry) : Bool := match e.op with | .psync _ _ _ => true | _ => false

/-- The outstanding PSYNC entries of the running lesson released without waiting (R63, R73 step 1): their registers are unbound
and their groups no longer count them. -/
def State.releasePsyncs (s : State) (c : CoreId) : State :=
  ((s.ownEntries c).filter (fun p => p.2.isPsync && !p.2.completed)).foldl (fun s p =>
    (s.updCtx c (fun k => (k.unbind p.1).updTag p.2.tag (fun t => { t with out := t.out - 1 }))).setEntry p.1 none) s

/-- OUT = 0 on all eight tag registers (R73 step 2). -/
def State.tagsQuiet (s : State) (c : CoreId) : Bool := (s.core c).ctx.t.toList.all (fun t => t.out == 0)

/-- LEND (R73): the PSYNCs released, the wait for the tags, then the end of the lesson. Inside a clasp it breaks the bound (R77). -/
def State.lendNow (s : State) (c : CoreId) (i : Instr) : Res :=
  match (s.core c).lesson with
  | none => .whole s
  | some n =>
    if (s.core c).clasp.isSome then .exc 9 (exWord i)
    else
      let s := s.releasePsyncs c
      if s.tagsQuiet c then .whole (s.endLesson c n) else .whole (s.setWaiting c .lend)

/-- LEND (R73); ILLEGAL on a steward core (R72). -/
def execLend (c : CoreId) (s : State) : Out :=
  s.runInstr c (.lend c) (isScan c) false [] (fun t => t.lendNow c (.lend c))

/-- LSLACK (R72): the deadline less the count, saturated to 2^32 − 1; ILLEGAL on a steward core. -/
def execLslack (c : CoreId) (gd : BitVec 4) (s : State) : Out :=
  s.runInstr c (.lslack c gd) (isScan c) false [gd] (fun t =>
    let due := match (t.core c).lesson with
      | some n => ((t.lesson? n).map (·.deadlineAt)).getD 0
      | none => 0
    .done (t.setG c gd (wd (min (due - t.now) 0xFFFFFFFF))))

/-- LSLEEP (R74): the core idles for u(ga) × 4 ns; inside a clasp it breaks the bound (R77); ILLEGAL on a steward core. -/
def execLsleep (c : CoreId) (ga : BitVec 4) (s : State) : Out :=
  s.runInstr c (.lsleep c ga) (isScan c) false [ga] (fun t =>
    if (t.core c).clasp.isSome then .exc 9 (exWord (.lsleep c ga))
    else .whole (t.setWaiting c (.sleep (t.now + (t.g c ga).toNat))))

/-- The end of the idle time of LSLEEP (R74). A sleep that reaches the deadline does not end: the lesson is abandoned. -/
def execLsleepExpiry (c : CoreId) (s : State) : Out :=
  match (s.core c).waiting, (s.core c).lesson with
  | .sleep due, some n =>
    if due < ((s.lesson? n).map (·.deadlineAt)).getD 0 then
      let s := (s.advanceTo due).setWaiting c .none
      .next ((s.setPc c (s.pc c + 4)).afterStep c)
    else .next s
  | _, _ => .next s

/-- LBELL (R72): the bell count of a class, on scan and steward cores. -/
def execLbell (c : CoreId) (gd : BitVec 4) (cls : BitVec 3) (s : State) : Out :=
  s.compute c (.lbell c gd cls) gd [] (fun t => t.rd (Reg.SCAN_BELL_CNT cls.toNat))

/-! ### Clasps -/

/-- A clasp opened, and the CLASP behind it (R75). -/
def State.openClasp (s : State) (c : CoreId) : State :=
  let s := s.setCore c { s.core c with
    clasp := some { count := 0, points := 0, stores := [], lock := false, firstOrder := s.scan.issueCount }, waiting := .none }
  (s.setLs c (setBitOf (s.ls c) 8 true)).setPc c (s.pc c + 4)

/-- CLASP (R75): one of the 32 slots at once, or the wait for one, first come, first served. -/
def execClasp (c : CoreId) (s : State) : Out :=
  s.runInstr c (.clasp c) true false [] (fun t =>
    if (t.core c).clasp.isSome then .exc 9 (exWord (.clasp c))
    else if t.openClasps < 32 ∧ t.scan.claspFifo = [] then .whole (t.openClasp c)
    else .whole ({ t with scan := { t.scan with claspFifo := t.scan.claspFifo ++ [c] } }.setWaiting c .claspSlot))

/-- The held puts of a core's clasp, in issue order (R76). -/
def State.heldPuts (s : State) (c : CoreId) : List Nat :=
  (sortOn (fun p => p.2.order) ((s.ownEntries c).filter (fun p => p.2.held && !p.2.completed))).map (·.1)

/-- A held put issued (R75 step 1): its timeout counts from now. -/
def State.issueHeld (s : State) (e : Nat) : State :=
  match s.entry? e with
  | some x => s.setEntry e (some { x with held := false, issued := s.now })
  | none => s

/-- The five steps of UNCLASP (R75): held puts issued, buffered stores applied in program order, lock and slot released, IN_CLASP
clear; then the halt (R382), the preemption (R84) and the interrupt it had deferred. -/
def State.closeClasp (s : State) (c : CoreId) (k : Clasp) : State :=
  let s := (s.heldPuts c).foldl State.issueHeld s
  let s := k.stores.foldl (fun s st => s.storeBytes c st.addr st.bytes) s
  let s := s.freeLock c
  let s := s.setCore c { s.core c with clasp := none }
  let s := (s.setLs c (setBitOf (s.ls c) 8 false)).setPc c (s.pc c + 4)
  ((s.haltDeferred c).preempt c).serveIrq c

/-- UNCLASP (R75); outside a clasp it does nothing. -/
def execUnclasp (c : CoreId) (s : State) : Out :=
  s.runInstr c (.unclasp c) true false [] (fun t => match (t.core c).clasp with
    | some k => .whole (t.closeClasp c k)
    | none => .done t)

/-- A waiting CLASP granted a slot (R75). -/
def execClaspSlotGrant (s : State) : Out :=
  match s.scan.claspFifo with
  | c :: rest =>
    if s.openClasps < 32 then
      let s := { s with scan := { s.scan with claspFifo := rest } }
      .next ((s.openClasp c).afterStep c)
    else .next s
  | [] => .next s

/-- The cluster clasp lock taken by a core inside a clasp (R76). -/
def State.takeLock (s : State) (c : CoreId) : State :=
  let cl := (clusterOf c).val
  let s := { s with scan := { s.scan with lockOwner := s.scan.lockOwner.setIfInBounds cl (some c) } }
  match (s.core c).clasp with
  | some k => s.setCore c { s.core c with clasp := some { k with lock := true } }
  | none => s

/-- A waiting clasp access granted the cluster clasp lock (R76): the access is then made again. -/
def execClaspLockGrant (cluster : Fin 8) (s : State) : Out :=
  match s.scan.lockFifo[cluster], s.scan.lockOwner[cluster] with
  | c :: rest, none =>
    let s := { s with scan := { s.scan with lockFifo := s.scan.lockFifo.set cluster rest } }
    .next ((s.takeLock c).setWaiting c .none)
  | _, _ => .next s

end Sys2Proof.Machine
end

