-- ==== Sys2Proof/Machine/PointTag.lean ====
section
/-! DEFINITION. Issue of point operations and engine messages (R59 to R66, R27), and the tag instructions (R64). -/

namespace Sys2Proof.Machine

/-! ### Device transactions (R62 rule 5, R97) -/

/-- A device group. -/
def State.group (s : State) (n : Nat) : Option GroupSt := Tab.get (fun _ => none) s.scan.groups n

/-- A device group replaced. -/
def State.setGroup (s : State) (n : Nat) (x : GroupSt) : State :=
  { s with scan := { s.scan with groups := Tab.set (fun _ => none) s.scan.groups n (some x) } }

/-- The device group of a point. -/
def State.groupOf (s : State) (i : PointIdx) : Option (Nat × GroupSt) :=
  s.scan.groups.findSome? (fun p => match p.2 with
    | some x => if x.points.contains i then some (p.1, x) else none
    | none => none)

/-- A request sent to a device group now (R97). -/
def GroupSt.request (x : GroupSt) (now : Nat) : GroupSt := { x with flights := x.flights ++ [now], lastReq := some now }

/-- What a get of a remote point at a bell time waits on (R97): a transaction in flight or answered whose request left at or after
the bell serves it; else it starts one. -/
def State.joinTransaction (s : State) (n : Nat) (x : GroupSt) (bell : Nat) : State × Option (Nat × Nat) :=
  match x.lastDone with
  | some d => if bell ≤ d then (s, none) else start
  | none => start
where
  start : State × Option (Nat × Nat) :=
    match x.flights.find? (fun r => decide (bell ≤ r)) with
    | some r => (s, some (n, r))
    | none => (s.setGroup n (x.request s.now), some (n, s.now))

/-! ### Issue (R27, R60, R65) -/

/-- The point a get reads. -/
def OpKind.getIdx : OpKind → Option PointIdx
  | .get i _ _ _ => some i
  | .getVq i _ => some i
  | _ => none

/-- The operation is a put. -/
def OpKind.isPut : OpKind → Bool
  | .put _ _ _ => true
  | _ => false

/-- The point an operation acts on, and the registers it binds (R61, R63, R66). -/
def OpKind.point : OpKind → Option PointIdx
  | .get i _ _ _ => some i
  | .getVq i _ => some i
  | .put i _ _ => some i
  | .psync i _ _ => some i
  | .msg _ _ _ _ => none

/-- The registers an operation binds. -/
def OpKind.binds : OpKind → List (BitVec 4)
  | .get _ _ n gd => (List.range n).map (fun i => gd + BitVec.ofNat 4 i)
  | .getVq _ gd => [gd, gd + 1]
  | .put _ _ _ => []
  | .psync _ gd _ => [gd]
  | .msg _ _ _ r => r.toList

/-- A get of the Remote class (R60): of a remote device's point, outside a clasp. -/
def State.remoteGet (s : State) (op : OpKind) (inClasp : Bool) : Bool :=
  !inClasp && op.getIdx.any (fun i => (s.point i).producer == 6)

/-- The class timeout of an operation in counts (R60): 100 µs for tile operations and engine messages, the device timeout of a
remote get outside a clasp, none for a PSYNC. -/
def State.timeoutOf (s : State) (op : OpKind) (inClasp : Bool) : Option Nat :=
  match op with
  | .psync _ _ _ => none
  | _ => match op.getIdx with
    | some i => if (s.point i).producer = 6 ∧ !inClasp then
        match s.groupOf i with
        | some (_, x) => some (x.timeoutUs * usCounts)
        | none => some (100 * usCounts)
      else some (100 * usCounts)
    | none => some (100 * usCounts)

/-- A group that takes an issue (R27 rule 2): a group with nothing in it loses FAILED and CAUSE first. -/
def TagReg.issue (t : TagReg) : TagReg :=
  if t.out = 0 ∧ t.done = 0 then { out := 1, done := 0, failed := 0, cause := 0 } else { t with out := t.out + 1 }

/-- An operation issued (R65): the entry, the registers bound, the group, the clasp's count of point operations, and the device
transaction of a remote get, which a get that the roster refuses does not start (R125). An issue is made only where an entry is free (`poolAvailable`, `nextGrant`). -/
def State.issueNow (s : State) (c : CoreId) (x : Issue) : State :=
  match s.freeEntry c with
  | none => s
  | some e =>
    let k := s.core c
    let bell := (k.lesson.bind s.lesson?).map (·.bellTime)
    let (s, tr) := match x.op.getIdx with
      | some i =>
        if (s.point i).producer = 6 ∧ !x.inClasp ∧ s.mayRead (s.hmTenant c) i then
          match s.groupOf i with
          | some (n, y) => s.joinTransaction n y (bell.getD s.now)
          | none => (s, none)
        else (s, none)
      | none => (s, none)
    let entry : Entry :=
      { core := c, lesson := k.lesson, tag := x.tag, slot := s.hmSlot c, tenant := s.hmTenant c, privT := s.privT c,
        epoch := s.rd Reg.ROSTER_EPOCH, op := x.op, order := s.scan.issueCount, issued := s.now,
        timeout := s.timeoutOf x.op x.inClasp, remote := s.remoteGet x.op x.inClasp, held := x.inClasp && x.op.isPut, trans := tr, outcome := none, result := [],
        completed := false }
    let s := s.setEntry e (some entry)
    let s := { s with scan := { s.scan with issueCount := s.scan.issueCount + 1 } }
    let s := s.updCtx c (fun k =>
      let k := k.updTag x.tag TagReg.issue
      x.op.binds.foldl (fun k r => { k with bound := k.bound.set r.toNat (some e) }) k)
    match (s.core c).clasp with
    | some k => s.setCore c { s.core c with clasp := some { k with points := k.points + 1 } }
    | none => s

/-- An instruction of a clasp would wait on an operation issued before the clasp opened, or on a put it holds (R77). -/
def State.claspWaits (s : State) (c : CoreId) (t : BitVec 3) (puts : Bool) : Bool :=
  match (s.core c).clasp with
  | some k => (s.ownEntries c).any (fun p => p.2.tag == t && !p.2.completed &&
      (decide (p.2.order < k.firstOrder) || (puts && p.2.held)))
  | none => false

/-- The conditions of an issue in the order of R65, after the bound registers: the group, the core's 256 entries, the pool; before them, on a steward
core, the homeroom of the tenant it serves (R121). -/
def State.issue (s : State) (c : CoreId) (i : Instr) (tag : BitVec 3) (op : OpKind) : Res :=
  let tr := s.tag c tag
  let inClasp := (s.core c).clasp.isSome
  if decide (4 ≤ ((s.core c).clasp.map (·.points)).getD 0) then .exc 9 (exWord i)
  else if s.awaitsReload c then .wait .reload
  else if tr.out + tr.done = 32 ∧ tr.out ≠ 0 then
    if s.claspWaits c tag true then .exc 9 (exWord i) else .wait (.tag tag)
  else
    let s := if tr.out + tr.done = 32 then s.observeGroup c tag else s
    let x : Issue := { tag := tag, op := op, inClasp := inClasp, pcNext := s.pc c + 4 }
    if 256 ≤ s.coreHeld c then .whole (s.setWaiting c .coreLimit)
    else if s.poolAvailable c (s.hmSlot c) then .done (s.issueNow c x)
    else
      let s := s.inc Reg.SCAN_POOL_STALLS
      .whole ({ s with scan := { s.scan with poolFifo := s.scan.poolFifo ++ [c] } }.setWaiting c (.pool x))

/-- A point instruction (R61): its registers and its operand's, then the issue. -/
def State.pointOp (s : State) (c : CoreId) (i : Instr) (t : BitVec 3) (pt : PtOp) (uses : List (BitVec 4)) (n : Nat)
    (noWord : Bool) (op : State → PointIdx → Nat → OpKind) : Out :=
  s.runInstr c i true false (uses ++ pt.regs) (fun s =>
    let (idx, w) := pointOperand (s.core c).ctx.g pt n noWord
    s.issue c i t (op s idx w))

/-- PGET (R61): one word, bound to gd. -/
def execPget (c : CoreId) (gd : BitVec 4) (t : BitVec 3) (pt : PtOp) (s : State) : Out :=
  s.pointOp c (.pget c gd t pt) t pt [gd] 1 false (fun _ idx w => .get idx w 1 gd)

/-- PGET2 (R61): two words, bound to gd and gd + 1. -/
def execPget2 (c : CoreId) (gd : BitVec 4) (t : BitVec 3) (pt : PtOp) (s : State) : Out :=
  s.pointOp c (.pget2 c gd t pt) t pt [gd, gd + 1] 2 false (fun _ idx w => .get idx w 2 gd)

/-- PGET4 (R61): four words, bound to gd to gd + 3. -/
def execPget4 (c : CoreId) (gd : BitVec 4) (t : BitVec 3) (pt : PtOp) (s : State) : Out :=
  s.pointOp c (.pget4 c gd t pt) t pt [gd, gd + 1, gd + 2, gd + 3] 4 false (fun _ idx w => .get idx w 4 gd)

/-- PGETVQ (R61): VALUE and QUAL, bound to gd and gd + 1. -/
def execPgetvq (c : CoreId) (gd : BitVec 4) (t : BitVec 3) (pt : PtOp) (s : State) : Out :=
  s.pointOp c (.pgetvq c gd t pt) t pt [gd, gd + 1] 1 true (fun _ idx _ => .getVq idx gd)

/-- PPUT (R61): the data is read at issue (R62 rule 1). -/
def execPput (c : CoreId) (gd : BitVec 4) (t : BitVec 3) (pt : PtOp) (s : State) : Out :=
  s.pointOp c (.pput c gd t pt) t pt [gd] 1 false (fun s idx w => .put idx w [s.g c gd])

/-- PPUT2 (R61). -/
def execPput2 (c : CoreId) (gd : BitVec 4) (t : BitVec 3) (pt : PtOp) (s : State) : Out :=
  s.pointOp c (.pput2 c gd t pt) t pt [gd, gd + 1] 2 false (fun s idx w => .put idx w [s.g c gd, s.g c (gd + 1)])

/-- PPUT4 (R61). -/
def execPput4 (c : CoreId) (gd : BitVec 4) (t : BitVec 3) (pt : PtOp) (s : State) : Out :=
  s.pointOp c (.pput4 c gd t pt) t pt [gd, gd + 1, gd + 2, gd + 3] 4 false (fun s idx w => .put idx w [s.g c gd, s.g c (gd + 1), s.g c (gd + 2), s.g c (gd + 3)])

/-- PSYNC (R63): gd holds the SEQ to wait past; inside a clasp it breaks the bound (R77). -/
def execPsync (c : CoreId) (gd : BitVec 4) (t : BitVec 3) (pt : PtOp) (s : State) : Out :=
  s.runInstr c (.psync c gd t pt) true false (gd :: pt.regs) (fun s =>
    if (s.core c).clasp.isSome then .exc 9 (exWord (.psync c gd t pt))
    else
      let (idx, _) := pointOperand (s.core c).ctx.g pt 1 true
      s.issue c (.psync c gd t pt) t (.psync idx gd (s.g c gd)))

/-- The payload registers of an engine message (R66). -/
def payloadRegs (ga : BitVec 4) (len : BitVec 2) : List (BitVec 4) := (List.range (2 ^ len.toNat)).map (fun i => ga + BitVec.ofNat 4 i)

/-- EMSG (R66): the payload is read at issue; inside a clasp it breaks the bound (R77). -/
def execEmsg (c : CoreId) (gd : BitVec 4) (t : BitVec 3) (unit : BitVec 2) (typ : BitVec 10) (ga : BitVec 4) (len : BitVec 2)
    (reply : Bool) (s : State) : Out :=
  let i : Instr := .emsg c gd t unit typ ga len reply
  s.runInstr c i true false ((if reply then [gd] else []) ++ payloadRegs ga len) (fun s =>
    if (s.core c).clasp.isSome then .exc 9 (exWord i)
    else s.issue c i t (.msg unit typ ((payloadRegs ga len).map (s.g c)) (if reply then some gd else none)))

/-! ### Tag instructions (R64) -/

/-- TWAIT (R64): the wait of R27 rule 3, then gd := t as it stands after it. -/
def execTwait (c : CoreId) (gd : BitVec 4) (t : BitVec 3) (s : State) : Out :=
  s.runInstr c (.twait c gd t) true false [gd] (fun s =>
    if (s.tag c t).out ≠ 0 then
      if s.claspWaits c t true then .exc 9 (exWord (.twait c gd t)) else .wait (.tag t)
    else
      let s := s.observeGroup c t
      .done (s.setG c gd (s.tag c t).word))

/-- TTEST (R64): the group observed only where OUT = 0, then gd := t. -/
def execTtest (c : CoreId) (gd : BitVec 4) (t : BitVec 3) (s : State) : Out :=
  s.runInstr c (.ttest c gd t) true false [gd] (fun s =>
    if s.claspWaits c t false then .exc 9 (exWord (.ttest c gd t))
    else
      let s := if (s.tag c t).out = 0 then s.observeGroup c t else s
      .done (s.setG c gd (s.tag c t).word))

/-- TMOV (R64): observes nothing. -/
def execTmov (c : CoreId) (gd : BitVec 4) (t : BitVec 3) (s : State) : Out :=
  s.compute c (.tmov c gd t) gd [] (fun s => (s.tag c t).word)

/-- The masked tag registers with OUT = 0 (R64). -/
def State.quietMask (s : State) (c : CoreId) (mask : BitVec 8) : Nat :=
  (List.range 8).foldl (fun n i => if mask.getLsbD i && (s.tag c (BitVec.ofNat 3 i)).out == 0 then n + 2 ^ i else n) 0

/-- TWAITM (R64): waits until a masked register has OUT = 0; a mask of 0 returns at once; inside a clasp it breaks the bound (R77). -/
def execTwaitm (c : CoreId) (gd : BitVec 4) (mask8 : BitVec 8) (s : State) : Out :=
  s.runInstr c (.twaitm c gd mask8) true false [gd] (fun s =>
    if (s.core c).clasp.isSome then .exc 9 (exWord (.twaitm c gd mask8))
    else if mask8 = 0 ∨ s.quietMask c mask8 ≠ 0 then .done (s.setG c gd (wd (s.quietMask c mask8)))
    else .wait (.tagMask mask8))

/-! ### The ends of waits (R27, R64, R65, R95) -/

/-- A tag wait ends once OUT has reached 0 (R27 rules 1 and 3, R64): the core goes on with its instruction, and a lesson that waits
in LEND ends (R73). The stall at 256 entries ends by the same command once the core holds fewer (R65; log entry 65). -/
def execTagWaitEnd (c : CoreId) (s : State) : Out :=
  match (s.core c).waiting with
  | .tag t => .next (if (s.tag c t).out = 0 then s.setWaiting c .none else s)
  | .tagMask m => .next (if s.quietMask c m = 0 then s else s.setWaiting c .none)
  | .coreLimit => .next (if s.coreHeld c < 256 then s.setWaiting c .none else s)
  | .lend => match (s.core c).lesson with
    | some n => .next (if s.tagsQuiet c then (s.endLesson c n).afterStep c else s)
    | none => .next s
  | _ => .next s

/-- An instruction that waits for a bound register goes on once that operation has completed (R27 rule 5). -/
def execBoundWaitEnd (c : CoreId) (s : State) : Out :=
  match (s.core c).waiting with
  | .bound e => .next (if ((s.entry? e).map (·.completed)).getD true then s.setWaiting c .none else s)
  | _ => .next s

/-- The stalled core that is granted an entry next (R95): one whose slot is below its floor, else with a free shared entry the one
that began to stall first. -/
def State.nextGrant (s : State) : Option CoreId :=
  let fifo := s.scan.poolFifo.filter (fun c => (s.freeEntry c).isSome)
  match fifo.find? (fun c => decide (s.heldBy (s.hmSlot c) < s.floorOf (s.hmSlot c).toNat)) with
  | some c => some c
  | none => if 0 < s.sharedFree then fifo.head? else none

/-- A stalled issue granted its pool entry (R95): the operation issues. -/
def execPoolEntryGrant (s : State) : Out :=
  match s.nextGrant with
  | some c => match (s.core c).waiting with
    | .pool x =>
      let s := { s with scan := { s.scan with poolFifo := s.scan.poolFifo.filter (· != c) } }
      .next (((((s.setWaiting c .none).issueNow c x).countClasp c).setPc c x.pcNext).afterStep c)
    | _ => .next s
  | none => .next s

end Sys2Proof.Machine
end

