-- ==== Sys2Proof/Machine/ScanOps.lean ====
section
/-! DEFINITION. The schedule of the scan fabric (R79 to R95): admission, the bell of a class, starts, abandonments, moves of lessons. -/

namespace Sys2Proof.Machine

/-! ### Admission (R83, R85) -/

end Sys2Proof.Machine

namespace Sys2Proof

open Sys2Proof.Machine

/-- The place of a declaration in the priority order, lower first (R83). -/
def LessonDecl.rank (d : LessonDecl) : Nat := (tierRank d.tier * 8 + d.cls.val) * 256 + d.order.toNat

end Sys2Proof

namespace Sys2Proof.Machine

/-- The inner loop of R85 for one lesson and the lessons above it; `fuel` bounds its rounds. -/
def responseLoop (i : LessonDecl) (above : List LessonDecl) : Nat → Nat → Bool
  | 0, _ => false
  | fuel + 1, r =>
    let n := above.foldl (fun n j => n + ceilDiv r j.periodNs * (j.budgetNs + 160)) (i.budgetNs + 40000)
    if i.deadlineNs < n then false else if n = r then true else responseLoop i above fuel n

/-- A lesson passes the test of R85 among the lessons of its core. Each round adds at least one period of some lesson above it, so the
rounds are bounded by the periods that fit its deadline. -/
def responseOk (core : List LessonDecl) (i : LessonDecl) : Bool :=
  let above := core.filter (fun j => decide (j.rank < i.rank))
  responseLoop i above (above.foldl (fun n j => n + i.deadlineNs / j.periodNs + 2) 2) (i.budgetNs + 40000)

/-- Every lesson of a core passes (R85). -/
def coreOk (core : List LessonDecl) : Bool := core.all (responseOk core)

/-! ### The bell of a class (R80, R83, R84) -/

/-- The count at which the next bell of a class rings (R80). -/
def State.nextBell (s : State) (cls : Nat) : Nat :=
  let phase := if cls = 0 then 0 else s.fld (Reg.SCAN_BELL_CFG cls) 15 0 * msCounts % classPeriod cls
  s.scan.t0.toNat + phase + s.scan.rung.toList.getD cls 0 * classPeriod cls

/-- A lesson's period begins at a bell: it is ready, with the clear that was requested (SCAN_LESSON_CLR), and needs its homeroom. -/
def State.readyLesson (s : State) (n : Nat) (l : Lesson) (count : Word) (t : Nat) : State :=
  let l := if l.clrPending then { l with late := 0, lastAbandon := 0, abandonBell := 0xFFFFFFFF, clrPending := false } else l
  let due := t + l.decl.deadline * usCounts
  let s := s.setLesson n { l with phase := .ready, bell := count, bellTime := t, deadlineAt := due, demoted := none, exhausted := false, dirty := [] }
  s.needSlot l.decl.tenant

/-- A core is held by a switch: its bells start nothing (R108 steps 2 to 4). -/
def State.held (s : State) (c : Nat) : Bool :=
  match s.scan.switch with
  | some w => w.begun && w.affected.contains c
  | none => false

/-- The effects of a bell of a class on the lessons: a period that reaches its deadline at the bell is abandoned first (R89), then the
class's lessons are ready, and a lesson that runs gives way to one of higher priority (R84). -/
def State.bellLessons (s : State) (cls : Nat) (count : Word) (t : Nat) : State :=
  let old := s.lessons.filter (fun p => p.2.decl.cls.val == cls && p.2.phase != .idle)
  let s := old.foldl (fun s p =>
    s.abandon p.1 (s.deadlineCause p.2)) s
  let mine := s.lessons.filter (fun p => p.2.decl.cls.val == cls && !p.2.shed && p.2.phase == .idle && !s.held p.2.runsOn.val)
  let s := mine.foldl (fun s p => s.readyLesson p.1 p.2 count t) s
  mine.foldl (fun s p => (s.preempt p.2.coreOf).resumeBest p.2.coreOf) s

/-! ### Starts (R37, R38) -/

/-- A lesson's header as a start writes it (R37). -/
def State.writeHeader (s : State) (l : Lesson) : State :=
  let put := fun (s : State) (off : Nat) (v : Word) => s.storeAt (State.headerAt l off) (wordBytes v)
  let s := put (put s 0 (wd (l.bellTime % 2 ^ 32))) 4 (wd (l.bellTime / 2 ^ 32))
  let s := put (put s 8 (wd (l.deadlineAt % 2 ^ 32))) 12 (wd (l.deadlineAt / 2 ^ 32))
  put s 0x1C l.abandonBell

/-- The registers of a core as a lesson starts (R38), with LS restored and START updated (R24). -/
def Lesson.startCtx (l : Lesson) (n slot : Nat) (privT : Bool) : Ctx :=
  let g := Ctx.zero.g
  let g := (((g.set 1 l.decl.header).set 2 (wd n)).set 14 l.decl.stackTop).set 15 0xFFFFFFFC
  let ls := wd (l.decl.cls.val * 32 + l.start.toNat * 1024 + l.sticky.toNat * 4096 + l.late.toNat * 65536 + l.lastAbandon.toNat * 16777216)
  let hm := wd (slot + privT.toNat * 256 + l.decl.tenant.toNat * 65536)
  { Ctx.zero with g := g, pc := l.decl.entry, ls := ls, hm := hm, bell := l.bell }

/-- The best ready lesson of an idle core starts, once its homeroom is resident (R38, R83). START goes back to 0b00 with the start: a first period that
is abandoned before its lesson ever starts leaves the next one the first (DESIGN CHOICE, log entry 65). -/
def State.startLesson (s : State) (core : Fin 64) : State :=
  let c := coreId core
  let k := s.core c
  if k.lesson.isSome ∨ k.halt = .halted ∨ !s.bit (Reg.SCAN_CORE_STAT core.val) 0 then s
  else match s.bestLesson c with
    | some (n, l) =>
      match l.phase, s.slotOf l.decl.tenant with
      | .ready, some slot =>
        if s.resident l.decl.tenant then
          let s := s.writeHeader l
          let ctx := l.startCtx n slot (s.tenant l.decl.tenant).privT
          (s.setCore c { k with ctx := ctx, lesson := some n, waiting := .none, clasp := none }).setLesson n { l with phase := .running, start := 0 }
        else s
      | _, _ => s
    | none => s

/-! ### A core or a tile out of service (R14, R93) -/

/-- An image's initial STATE of a core placed in both copies of its regions: zeros, then the image's bytes (R100, R111). -/
def State.initState (s : State) (core : Fin 64) : State :=
  let c := coreId core
  let regions := (Tab.get (fun _ => []) s.scan.coreRegions core.val).filter (fun r => r.kind == .state)
  let put := fun (s : State) (a : Nat) (b : List Byte) =>
    (s.storeAt ((Space.dmem c).base + a) b).storeAt ((Space.committed c).base + a) b
  let s := regions.foldl (fun s r => put s r.base (List.replicate r.size 0)) s
  s.scan.current.foldl (fun s it => match it with
    | .initState k a b => if k = core ∧ regions.any (fun r => decide (r.base ≤ a) && decide (a < r.base + r.size)) then put s a b else s
    | _ => s) s

/-- The poison of a core's memories taken away. -/
def State.healCore (s : State) (core : Fin 64) : State :=
  let c := coreId core
  let inside (a : Nat) : Bool := [Space.imem c, Space.dmem c, Space.committed c].any (fun sp => decide (sp.base ≤ a) && decide (a < sp.base + 0x40000))
  { s with scan := { s.scan with poison := s.scan.poison.filter (fun p => !inside p.1) } }

/-- A moved lesson on the in-service core of its cluster with the lowest load on which the test of R85 still passes, of several the one with the lowest
number (DESIGN CHOICE, log entry 65); shed where none does (R93 steps 2, 3 and 5). -/
def State.placeLesson (s : State) (n : Nat) (l : Lesson) (start : BitVec 2) : State :=
  let home := clusterOf l.coreOf
  let fits := ((List.range 8).filterMap (fun k => scanCore? ⟨(home.val * 8 + k) % 66, Nat.mod_lt _ (by decide)⟩)).filter (fun c =>
    s.bit (Reg.SCAN_CORE_STAT c.val) 0 && coreOk (l.decl :: (s.boundTo c).map (·.2.decl)))
  let best := fits.foldl (fun b c => match b with
    | none => some c
    | some q => if (loadOf ((s.boundTo c).map (·.2.decl))).lt (loadOf ((s.boundTo q).map (·.2.decl))) then some c else some q) (none : Option (Fin 64))
  match best with
  | some c => s.setLesson n { l with runsOn := c, notBefore := s.now + 2 * msCounts, start := start, shed := false }
  | none =>
    let s := s.setLesson n { l with shed := true }
    (s.outputs n).foldl (fun s i =>
      (s.setPoint i { s.point i with floor := 1 }).setQual i 3 true) s

/-- A period in progress on a core that leaves service: abandoned with DEADLINE, and late (R93 step 3). -/
def State.losePeriod (s : State) (n : Nat) (slot : Option Nat) : State := (s.dropPeriod n 11).countLate n slot

/-- A scan core taken out of service (R93). Its committed STATE goes with its lessons where every line reads clean; else STATE is
initialised from the image. A lesson whose period is lost, or that is shed, breaks its guarantee once. Lessons of one tier and class are placed by
Order and then by number (DESIGN CHOICE, log entry 65). -/
def State.coreOut (s : State) (core : Fin 64) : State :=
  let s := s.setBit (Reg.SCAN_CORE_STAT core.val) 0 false
  let s := s.setFld Reg.SCAN_STAT 18 12 (s.fld Reg.SCAN_STAT 18 12 + 1)
  let bound := sortOn (fun p => Lesson.key p.1 { p.2 with demoted := none }) (s.boundTo core)
  let slots := bound.map (fun p => s.slotOf p.2.decl.tenant)
  let s := (bound.zip slots).foldl (fun s p => if p.1.2.phase = .idle then s else s.losePeriod p.1.1 p.2) s
  let homes := (bound.map (fun p => p.2.decl.core)).eraseDups
  let dirty (h : Fin 64) : Bool := s.scan.poison.any (fun p =>
    decide ((Space.committed (coreId h)).base ≤ p.1) && decide (p.1 < (Space.committed (coreId h)).base + 0x40000))
  let bad := homes.filter dirty
  let s := homes.foldl (fun s h => let s := s.healCore h; if bad.contains h then s.initState h else s) s
  let s := bound.foldl (fun s p => match s.lesson? p.1 with
    | some l => (s.setLesson p.1 { l with shed := true }).placeLesson p.1 { l with shed := false } (if bad.contains l.decl.core then 1 else 0)
    | none => s) s
  (bound.zip slots).foldl (fun s p =>
    let shed := ((s.lesson? p.1.1).map (·.shed)).getD false
    if p.1.2.decl.tier != Tier.best && (shed || p.1.2.phase != LessonPhase.idle) then s.breakGuarantee p.1.1 p.1.2 p.2 2 else s) s

/-- An error in a tile, reported at level 4 (R7; the severity is the model's, log entry 55): the second within 1 s takes it out of service (R14). Scan
cores are numbered 0 to 63, point tiles, with the cluster memory they hold, from 64. -/
def State.tileError (s : State) (tile : Nat) : State :=
  let again := match Tab.get (fun _ => none) s.scan.tileErr tile with
    | some t => decide (s.now < t + secCounts)
    | none => false
  let s := { s with scan := { s.scan with tileErr := Tab.set (fun _ => none) s.scan.tileErr tile (some s.now) } }
  let s := s.record { sev := 3, level := 4, source := 0x04, code := 14, args := [wd tile] }
  if !again then s
  else if h : tile < 64 then (if s.bit (Reg.SCAN_CORE_STAT tile) 0 then s.coreOut ⟨tile, h⟩ else s)
  else State.outputsUpdate { s with scan := { s.scan with tilesOut := s.scan.tilesOut ||| BitVec.ofNat 8 (2 ^ (tile - 64)) } }

/-- A word of core memory poisoned (R14). -/
def State.poisonAt (s : State) (a : Nat) : State :=
  { s with scan := { s.scan with poison := Tab.set (fun _ => false) s.scan.poison (a / 4 * 4) true } }

/-- An uncorrectable error in a tile (R14). Those of LPDDR5 and of NAND (R13, R368) are in Machine/Program.lean. -/
def State.uncorrectable (s : State) (target : ErrTarget) : State :=
  let core (s : State) (c : CoreId) : State := if isScan c then s.tileError c.val else s
  match target with
  | .imem c a => core (s.poisonAt ((Space.imem c).base + a.toNat % 0x40000)) c
  | .dmem c a => core (s.poisonAt ((Space.dmem c).base + a.toNat % 0x40000)) c
  | .committed c a => core (s.poisonAt ((Space.committed c).base + a.toNat % 0x40000)) c
  | .cluster cl a => (s.poisonAt ((Space.cluster cl).base + a.toNat % 0x200000)).tileError (64 + cl.val)
  | .point i w =>
    let s := s.setPoint i { s.point i with poison := (s.point i).poison ||| BitVec.ofNat 16 (2 ^ w.toNat) }
    (s.setQual i 10 true).tileError (64 + i.toNat / 2048)
  | .lpddr _ => s
  | .nand _ _ => s

/-! ### Forces (R98, R99) -/

/-- What a set or a clear of a force records: the point, and the session of the access. -/
def State.forceEvent (s : State) (m : Master) (kind : Nat) (i : PointIdx) : State :=
  s.record { sev := 4, source := 0x04, code := 98, session := m.session, args := [wd kind, wd i.toNat] }

/-- The commit of a set or clear of a force: the value readers see, FORCED, STAMP, SEQ, the limits (R98, R394); a commit that increments SEQ clears the
record's poison (R14). -/
def Point.forceTo (p : Point) (v h : Word) (on : Bool) (now : Nat) : Point :=
  let p := p.heal
  let p := (p.setWord 0 v).setWord 1 (p.hi h)
  let q := setBitOf (p.word 2) 10 false
  (((p.setWord 2 (setBitOf q 2 on)).stamp now).checkLimits).settleLevel

/-- A force set or replaced on the point of SCAN_FORCE_IDX; refused with FULL beyond 256 (R98). -/
def State.forceSet (s : State) (m : Master) : State :=
  let i : PointIdx := BitVec.ofNat 14 (s.fld Reg.SCAN_FORCE_IDX 13 0)
  if !(s.point i).forced && decide (256 ≤ s.forces.length) then s.setBit Reg.SCAN_FORCE_STAT 16 true
  else
    let p := (s.point i).forceTo (s.rd Reg.SCAN_FORCE_VAL_LO) (s.rd Reg.SCAN_FORCE_VAL_HI) true s.now
    (((s.setPoint i p).retainPoint i).follow i).forceEvent m 1 i

/-- The force of one point cleared (R98). -/
def State.forceClear (s : State) (m : Master) (i : PointIdx) : State :=
  let p := s.point i
  if p.forced then (((s.setPoint i (p.forceTo (p.heal.word 7) (p.heal.word 8) false s.now)).retainPoint i).follow i).forceEvent m 2 i else s

/-! ### Floors (R94) -/

/-- A write of a slot's floor (R94). -/
def State.floorWrite (s : State) (slot : Nat) (v : Word) : State :=
  let f := bits v 10 0
  let others := ((List.range 16).filter (fun k => k != slot)).foldl (fun n k => n + s.floorOf k) 0
  if 1024 < f ∨ 4096 < others + f then s.setBit Reg.SCAN_STAT 3 true else s.setFld (Reg.SCAN_HR_FLOOR slot) 10 0 f

/-! ### RUN (R25, R80) -/

/-- No further bells; lessons that are ready run on. -/
def State.runStop (s : State) : State := (s.setBit Reg.SCAN_CTRL 0 false).setBit Reg.SCAN_STAT 0 false

end Sys2Proof.Machine
end

