-- ==== Sys2Proof/Machine/RosterOps.lean ====
section
/-! DEFINITION. The completion of an operation in flight (R26, R27), the checks of a roster commit (R131), and its steps (R127 to R130). -/

namespace Sys2Proof.Machine

/-! ### Operations in flight complete (R26, R27) -/

/-- An operation completes with a cause: its group counts it; words read land in its registers; a get that failed is unbound. -/
def State.completeOp (s : State) (e : Nat) (cause : BitVec 5) (words : List Word) : State :=
  match s.entry? e with
  | none => s
  | some x =>
    if x.completed then s
    else
      let s := s.setEntry e (some { x with outcome := some cause, completed := true, held := false })
      s.updEntryCtx x.core x.lesson (fun k =>
        let k := k.updTag x.tag (fun t => { t with out := t.out - 1, done := t.done + 1 })
        if cause = 0 then
          { k with g := (x.op.binds.zip words).foldl (fun g p => g.set p.1.toNat p.2) k.g }
        else k.unbind e)

/-- How an operation ends at its target: the entry, the cause and the words it returns. -/
abbrev Finish := State → Nat → BitVec 5 → List Word → State

/-- An operation past its write point whose completion is still on its way (R128, R129): its outcome and its words are fixed. One that fails completes
at once (R125). -/
def State.latchOp : Finish := fun s e cause words =>
  if cause = 0 then
    match s.entry? e with
    | some x => s.setEntry e (some { x with outcome := some cause, result := words })
    | none => s
  else s.completeOp e cause words

/-- The operations of an earlier epoch that are incomplete (R130). -/
def State.oldOps (s : State) : List (Nat × Entry) :=
  s.entries.filter (fun p => !p.2.completed && decide (p.2.epoch ≠ s.rd Reg.ROSTER_EPOCH))

/-! ### The checks of a commit (R124, R131) -/

/-- The rule that breaks an entry of the table of R124, under given contexts. -/
def entryBad (ctx : Tab TenantCtx) (w0 w1 w2 w3 : Word) : Bool :=
  let kind := bits w0 15 12
  let c := fun t => Tab.get tenantDefault ctx t
  let lim := match kind with
    | 1 => 16383
    | 3 => 2047
    | 4 => 47
    | 5 => 127
    | 7 => 15
    | _ => 0
  let rights := match kind with
    | 1 => 3
    | 2 => 3
    | 7 => 1
    | 8 => 1
    | _ => 4
  let subject := bits w2 11 0
  kind == 0 || decide (9 ≤ kind) || decide (bits w0 18 16 &&& (7 - rights) ≠ 0) || decide (bits w1 31 16 < bits w1 15 0) ||
    decide (lim < bits w1 31 16) || decide (bits w0 30 19 ≠ 0) || decide (bits w2 31 12 ≠ 0) || w3 != 0 ||
    !(c (bits w0 11 0)).valid ||
    (if kind = 2 ∨ kind = 8 then !(c subject).valid else decide (subject ≠ 0)) ||
    ((kind == 4 || kind == 6) && (c (bits w0 11 0)).privT)

/-- The tenants of a table of contexts that are valid, tenant 0 among them, lowest first. -/
def validTenants (ctx : Tab TenantCtx) : List Nat :=
  0 :: ((ctx.map (·.1)).filter (fun t => t != 0 && (Tab.get tenantDefault ctx t).valid))

/-- A staged context is malformed (R131 ENTRY). -/
def ctxBad (t : Nat) (c : TenantCtx) : Bool :=
  (t == 0xFFF && c.valid) || c.cls == 3 || (List.range 8).any (fun k => decide (100 < c.share k))

/-- A lesson's tier is allowed by its tenant's context (R82). -/
def tierAllowed (c : TenantCtx) (d : LessonDecl) : Bool :=
  match d.tier with
  | .safety => !c.privT
  | .lift => !c.privT
  | .a => d.tenant == 0 || c.cls == 0
  | .b => d.tenant == 0 || decide (c.cls ≤ 1)
  | .c => true
  | .best => true

/-- A tenant's use of a cluster exceeds its share (R86): Σ BUDGET / PERIOD over its lessons there, divided by 8. -/
def overShare (c : TenantCtx) (t : BitVec 12) (cl : Nat) (lessons : List LessonDecl) : Bool :=
  let load := loadOf (lessons.filter (fun d => d.tenant == t && d.core.val / 8 == cl))
  (Num.int (8 * c.share cl)).lt (Num.mul (Num.int 100) load)

/-- The current image would break R82, R86 or R110 for a tenant under a context. -/
def contextBreaks (c : TenantCtx) (t : BitVec 12) (lessons : List LessonDecl) : Bool :=
  lessons.any (fun d => d.tenant == t && (!tierAllowed c d || !c.allows (d.core.val / 8))) || (List.range 8).any (fun k => overShare c t k lessons)

/-- The tenants of the staged image while it is between CHECK and the end of its switch or load (R131 IMAGE_BUSY). -/
def State.busyTenants (s : State) : List (BitVec 12) :=
  let st := s.fld Reg.SCAN_PROG_STAT 3 0
  if 2 ≤ st ∧ st ≤ 7 then
    let items := s.scan.staged.flatMap (·.2.2)
    match s.scan.stagedTenant with
    | some t => [t]
    | none => (imageLessons items).map (·.tenant) ++ (imagePoints items).map ownerOf
  else []

/-- The refusal of a staged set of contexts and entries (R131): the code, the item and its kind (false an entry). -/
def State.commitRefusal (s : State) (ctx : Tab TenantCtx) (rules : Tab Word) : Option (Nat × Nat × Bool) :=
  let w := fun e j => Tab.get (fun _ => (0 : Word)) rules (4 * e + j)
  let entries := (rules.filter (fun r => r.1 % 4 == 0 && bitOf r.2 31)).map (fun r => r.1 / 4)
  let keys := (ctx.map (·.1)) ++ (s.roster.ctx.map (·.1))
  let new := fun t => Tab.get tenantDefault ctx t
  let old := fun t => Tab.get tenantDefault s.roster.ctx t
  let narrower := fun t => decide (bits (old t).cfg 3 2 ≠ bits (new t).cfg 3 2) || decide (bits (old t).cfg 15 8 ≠ bits (new t).cfg 15 8) ||
    (old t).share0 != (new t).share0 || (old t).share1 != (new t).share1
  let valid := validTenants ctx
  let pinned := valid.filter (fun t => (new t).pin)
  let lessons := imageLessons s.scan.current
  let points := imagePoints s.scan.current
  match entries.find? (fun e => entryBad ctx (w e 0) (w e 1) (w e 2) (w e 3)) with
  | some e => some (3, e, false)
  | none => match keys.find? (fun t => ctxBad t (new t)) with
    | some t => some (3, t, true)
    | none => match pinned[12]? with
      | some t => some (4, t, true)
      | none => match valid[256]? with
        | some t => some (5, t, true)
        | none => match keys.find? (fun t => (old t).valid && !(new t).valid &&
            (lessons.any (fun d => d.tenant.toNat == t) || points.any (fun p => (ownerOf p).toNat == t))) with
          | some t => some (6, t, true)
          | none => match keys.find? (fun t => narrower t && (new t).valid && contextBreaks (new t) (BitVec.ofNat 12 t) lessons) with
            | some t => some (7, t, true)
            | none =>
              let busy := s.busyTenants
              (keys.find? (fun t => busy.contains (BitVec.ofNat 12 t) && ((old t).valid != (new t).valid || narrower t))).map (fun t => (8, t, true))

/-- The staged entries as the rule window holds them. -/
def State.stagedRules (s : State) : Tab Word :=
  (s.regs.filter (fun r => decide (Reg.ROSTER_RULE 0 0 ≤ r.1) && decide (r.1 ≤ Reg.ROSTER_RULE 2047 3))).map
    (fun r => ((r.1 - Reg.ROSTER_RULE 0 0) / 4, r.2))

/-- ROSTER_STAT.ERR and ROSTER_ERR_DETAIL. -/
def State.rosterErr (s : State) (code item : Nat) (tenant : Bool) : State :=
  (s.setFld Reg.ROSTER_STAT 11 8 code).wr Reg.ROSTER_ERR_DETAIL (wd (item + tenant.toNat * 4096))

/-- COMMIT (R127 steps 1 and 2, R131): a copy of the staging is taken and checked; a tenant newly pinned is given a slot (R122). -/
def State.rosterCommit (s : State) : State :=
  if s.bit Reg.ROSTER_STAT 1 then s.rosterErr 1 0 false
  else if !s.bit Reg.ROSTER_STAT 0 then s.rosterErr 2 0 false
  else
    let rules := s.stagedRules
    match s.commitRefusal s.roster.staged rules with
    | some (code, item, tenant) => s.rosterErr code item tenant
    | none =>
      let s := (s.rosterErr 0 0 false).setBit Reg.ROSTER_STAT 1 true
      let s := { s with roster := { s.roster with copyCtx := some s.roster.staged, copyRules := rules, aborted := 0 } }
      (validTenants s.roster.staged).foldl (fun s t =>
        if (Tab.get tenantDefault s.roster.staged t).pin && !((s.tenant (BitVec.ofNat 12 t)).valid && (s.tenant (BitVec.ofNat 12 t)).pin) then
          let s := s.needSlot (BitVec.ofNat 12 t)
          match s.slotOf (BitVec.ofNat 12 t) with
          | some k => s.setBit (Reg.ROSTER_HR_CTX k) 14 true
          | none => s
        else s) s

/-- REVERT (R127): the staging set equal to what is committed. -/
def State.rosterRevert (s : State) : State :=
  let window := fun (a : Nat) => decide (Reg.ROSTER_RULE 0 0 ≤ a) && decide (a ≤ Reg.ROSTER_RULE 2047 3)
  let s := { s with regs := s.regs.filter (fun r => !window r.1) }
  let s := s.roster.rules.foldl (fun s r => s.wr (Reg.ROSTER_RULE 0 0 + 4 * r.1) r.2) s
  { s with roster := { s.roster with staged := s.roster.ctx } }

/-- DRAINED sets and the commit ends (R127 step 5). -/
def State.rosterDrain (s : State) : State :=
  let epoch := s.rd Reg.ROSTER_EPOCH
  let s := (s.setBit Reg.ROSTER_STAT 0 true).setBit Reg.ROSTER_STAT 1 false
  let s := { s with roster := { s.roster with copyCtx := none, copyRules := [] } }
  s.record { sev := 4, source := 0x05, code := 127, args := [epoch - 1, epoch, wd s.roster.aborted] }

/-- Operations completed with RULE_CHANGED, counted (R129). -/
def State.ruleChanged (s : State) (l : List (Nat × Entry)) : State :=
  let s := l.foldl (fun s p => s.completeOp p.1 13 []) s
  { (s.addSat Reg.ROSTER_ABORTED l.length) with roster := { s.roster with aborted := s.roster.aborted + l.length } }

/-- The drain bound in µs: twice the longest timeout outstanding (R130). -/
def drainBound (l : List (Nat × Entry)) : Nat :=
  2 * l.foldl (fun n p => max n (p.2.timeout.getD 0)) 0 / usCounts

end Sys2Proof.Machine
end

