-- ==== Sys2Proof/Machine/LoopOps.lean ====
section
/-! DEFINITION. The slow unit of the loop engine: numbers (R134, R135), the trace (R161), the laws (R138, R139), modes (R140 to R143), parameters (R144) and one evaluation of a slot (R137 to R146). -/

namespace Sys2Proof.Machine

/-! ### Numbers (R134, R135) -/

/-- One arithmetic line of the engine: rounded once, and whether it saturated (log entry 20). -/
def Num.line (q : Num) : Num × Bool := let (w, f) := q.toBf; (Num.ofBf w, f)

/-- A value as a BF24 word. -/
def Num.bfWord (q : Num) : Word := q.toBf.1

/-- The state lanes of a block, at most eight, and whether they saturate. -/
def laneBlock (l : List Num) : BReg × Bool := Num.block (l ++ List.replicate (8 - l.length) Num.zero)

/-- An input point's value as a lane (R135), and whether it saturates there (R134). -/
def State.laneIn (s : State) (i : PointIdx) : Num × Bool := (s.pointNum i).line

/-- A point's LEVEL as readers see it. -/
def State.levelOf (s : State) (i : PointIdx) : Nat := bits (s.pointWord i 2) 1 0

/-- Ts of a bell class in seconds (R137). -/
def classTs (cls : Nat) : Num := ⟨classPeriod cls, secCounts⟩

/-! ### Access -/

/-- A loop slot replaced. -/
def State.setSlot (s : State) (n : Nat) (x : SlotSt) : State :=
  { s with loop := { s.loop with slots := Tab.set (fun _ => SlotSt.zero) s.loop.slots n x } }

/-- An active parameter of a slot. -/
def SlotSt.par (x : SlotSt) (i : Nat) : Num := Num.ofBf (x.act.toList.getD i 0)

/-- An operator replaced. -/
def State.setOper (s : State) (d : Nat) (x : OperSt) : State :=
  { s with loop := { s.loop with ops := s.loop.ops.setIfInBounds d x } }

/-- The input points a binding reads. -/
def SlotBind.inputs (b : SlotBind) : List PointIdx :=
  [b.fb] ++ (if b.spPt then [b.sp] else []) ++ (if b.ffEn then [b.ff] else []) ++ (if b.trackEn then [b.track] else [])

/-! ### The trace (R161) -/

/-- A trace channel replaced. -/
def State.setTrCh (s : State) (c : Nat) (x : TrCh) : State := { s with loop := { s.loop with tr := s.loop.tr.setIfInBounds c x } }

/-- A sample of the trigger channel as a number, in the channel's format (LOOP_TR_LEVEL): BF24 for slots and stages; a point word in
its type where it holds a value, else unsigned. -/
def State.traceNum (s : State) (c : Nat) (w : Word) : Num :=
  let cfg := s.rd (Reg.LOOP_TR_CH c)
  if bits cfg 1 0 = 3 then
    let i : PointIdx := BitVec.ofNat 14 (bits cfg 15 2)
    if [0, 7, 9, 10].contains (bits cfg 19 16) then Num.ofTyped (s.pointWord i 3) w 0 else Num.int w.toNat
  else Num.ofBf w

/-- The trigger condition holds between two samples of the trigger channel. -/
def State.traceHit (s : State) (c : Nat) (last new : Word) : Bool :=
  let lv := s.traceNum c (s.rd Reg.LOOP_TR_LEVEL)
  let a := s.traceNum c last
  let b := s.traceNum c new
  let up := a.le lv && lv.lt b
  let down := lv.le a && b.lt lv
  match s.fld Reg.LOOP_TR_TRIG 6 4 with
  | 1 => up
  | 2 => down
  | 3 => up || down
  | _ => false

/-- One sample taken by a channel. -/
def State.traceTake (s : State) (c : Nat) (v : Word) : State :=
  let x := s.trCh c
  let s := match x.samples.getLast? with
    | some last => if s.fld Reg.LOOP_TR_TRIG 3 0 = c ∧ s.traceHit c last v then s.traceTrigger else s
    | none => s
  let x := s.trCh c
  match s.fld Reg.LOOP_TR_STAT 1 0 with
  | 1 => s.setTrCh c { x with samples := (x.samples ++ [v]).drop (x.samples.length + 1 - 4096) }
  | 2 =>
    if x.post = 0 then s
    else
      let s := s.setTrCh c { x with samples := x.samples ++ [v], post := x.post - 1 }
      if ((List.range 16).filter s.traceOn).all (fun k => (s.trCh k).post == 0) then s.setFld Reg.LOOP_TR_STAT 1 0 3 else s
  | _ => s

/-- The enabled channels that meet a condition have had their source evaluated: each takes every DEC-th one. -/
def State.traceWhere (s : State) (on : Nat → Bool) (sig : State → Nat → Word) : State :=
  if s.fld Reg.LOOP_TR_STAT 1 0 = 1 ∨ s.fld Reg.LOOP_TR_STAT 1 0 = 2 then
    ((List.range 16).filter on).foldl (fun s c =>
      let x := s.trCh c
      if x.dec = 0 then (s.setTrCh c { x with dec := s.fld (Reg.LOOP_TR_CH c) 27 20 }).traceTake c (sig s c)
      else s.setTrCh c { x with dec := x.dec - 1 }) s
  else s

/-- A slot (kind 1) or a fast stage (kind 2) has been evaluated; `sig` gives its signals by SIG. -/
def State.traceSource (s : State) (kind index : Nat) (sig : Nat → Word) : State :=
  s.traceWhere (fun c => s.fld (Reg.LOOP_TR_CH c) 1 0 == kind && s.fld (Reg.LOOP_TR_CH c) 15 2 == index)
    (fun s c => sig (s.fld (Reg.LOOP_TR_CH c) 19 16))

/-- The point channels of a class sampled at its bell. -/
def State.tracePoints (s : State) (cls : Nat) : State :=
  s.traceWhere (fun c => s.fld (Reg.LOOP_TR_CH c) 1 0 == 3 && s.fld (Reg.LOOP_TR_CH c) 30 28 == cls)
    (fun s c => s.pointWord (BitVec.ofNat 14 (s.fld (Reg.LOOP_TR_CH c) 15 2)) (s.fld (Reg.LOOP_TR_CH c) 19 16))

/-- ARM (R161): capture starts into empty rings. -/
def State.traceArm (s : State) : State :=
  { (s.setFld Reg.LOOP_TR_STAT 1 0 1) with loop := { s.loop with tr := Vector.replicate 16 TrCh.zero } }

/-- STOP (R161): IDLE. -/
def State.traceStop (s : State) : State := s.setFld Reg.LOOP_TR_STAT 1 0 0

/-! ### Saturation and following error (R134, R146) -/

/-- What a saturation counts and records, `key` telling slots (0 to 2047) and stages (2048 + stage) apart (R134). -/
def State.bfSaturated (s : State) (key : Nat) : State :=
  (s.inc Reg.LOOP_BF_SAT_CNT).recordWindow key (60 * secCounts) { sev := 3, source := 0x06, code := 134, args := [wd key] }

/-- The following-error timer at an evaluation (R146), and whether it was reset. -/
def feStep (fe limit : Num) (time timer : Nat) : Nat × Bool :=
  if time = 0 then (timer, false)
  else if limit.lt fe.abs then (min time (timer + 1), false)
  else if fe.abs.le (limit.mul ⟨7, 8⟩) then (0, true)
  else (timer, false)

/-! ### Notch and laws (R138, R139) -/

/-- One step of the biquad of R139: the output and the new w1 and w2. -/
def notchStep (nb0 na1 na2 w1 w2 v : Num) : (Num × Num × Num) × Bool :=
  let (w, f1) := ((v.sub (na1.mul w1)).sub (na2.mul w2)).line
  let (o, f2) := (((nb0.mul w).add (na1.mul w1)).add ((((Num.int 1).add na2).sub nb0).mul w2)).line
  ((o, w, w1), f1 || f2)

/-- A slot at an evaluation: the set-point, feedback and feed-forward it uses, and the limits its inner slots have reached. -/
structure SlotIn where
  r : Num
  y : Num
  ff : Num
  innerHi : Bool
  innerLo : Bool
  integrate : Bool

/-- What a law leaves: its lanes i, dst, y_prev, u_prev, w1, w2, its output u and what it commits. -/
structure LawOut where
  lanes : List Num
  u : Num
  out : Num
  sat : Bool

/-- KP × (BETA × r − y) (R138). -/
def SlotSt.up (x : SlotSt) (k : SlotIn) : Num × Bool := ((x.par 0).mul (((x.par 4).mul k.r).sub k.y)).line

/-- The rate limit DUMAX × Ts around the last output, after UMIN and UMAX (R138). -/
def SlotSt.limit (x : SlotSt) (ts v : Num) : Num × Bool :=
  let step := (x.par 7).mul ts
  (((v.clamp (x.par 5) (x.par 6))).clamp ((x.st.lane 3).sub step) ((x.st.lane 3).add step)).line

/-- One PID evaluation (R138); PID_INC commits the change. -/
def SlotSt.pid (x : SlotSt) (ts : Num) (k : SlotIn) (inc : Bool) : LawOut :=
  let (e, f1) := (k.r.sub k.y).line
  let (up, f2) := x.up k
  let (dst, f3) := (((Num.ofBf x.aCo).mul (x.st.lane 1)).add ((Num.ofBf x.kdCo).mul ((x.st.lane 2).sub k.y))).line
  let (v, f4) := (((up.add (x.st.lane 0)).add dst).add ((x.par 9).mul k.ff)).line
  let ((v, w1, w2), f5) := if x.notchEn then notchStep (x.par 13) (x.par 14) (x.par 15) (x.st.lane 4) (x.st.lane 5) v
    else ((v, x.st.lane 4, x.st.lane 5), false)
  let (u, f6) := x.limit ts v
  let hi := (x.par 6).le u || k.innerHi
  let lo := u.le (x.par 5) || k.innerLo
  let (i, f7) := if k.integrate && !(hi && decide (0 < e.n)) && !(lo && decide (e.n < 0))
    then ((x.st.lane 0).add (((x.par 1).mul ts).mul e)).line else (x.st.lane 0, false)
  let (d, f8) := if inc then (u.sub (x.st.lane 3)).line else (u, false)
  { lanes := [i, dst, k.y, u, w1, w2], u := u, out := d, sat := f1 || f2 || f3 || f4 || f5 || f6 || f7 || f8 }

/-- One TWO_POS evaluation (R138): the output is the u_prev lane, which equals a limit where it holds it under the block's exponent; the new dwell. -/
def SlotSt.twoPos (x : SlotSt) (k : SlotIn) : Num × Nat :=
  let u := x.st.lane 3
  let is := fun i => x.st.holds 3 (x.par i)
  let half := (x.par 10).mul ⟨1, 2⟩
  let dwell := min 32 (x.dwell + 1)
  let ready := decide (x.dwellCfg.toNat ≤ dwell)
  if k.y.lt (k.r.sub half) && is 5 && ready then (x.par 6, 0)
  else if (k.r.add half).lt k.y && is 6 && ready then (x.par 5, 0)
  else (u, dwell)

/-! ### The evaluation of a slot (R137, R140 to R145) -/

/-- The committed output of a slot as a lane: RAW, which is VALUE while no force is active; UMAX or UMIN for a BIT point (R135). -/
def State.committedOut (s : State) (x : SlotSt) (i : PointIdx) : Num :=
  let p := s.point i
  if bits (p.word 3) 3 0 = 0 then (if bitOf (p.word 7) 0 then x.par 6 else x.par 5)
  else (Num.ofTyped (p.word 3) (p.word 7) (p.word 8)).bf

/-- A value read as a slot's optional input (R141): a BAD one is replaced by its last good value; the value, the last good value to
keep, whether it was BAD, and whether it saturated (R134). -/
def State.goodInput (s : State) (en : Bool) (i : PointIdx) (last : Word) (dflt : Num) : Num × Word × Bool × Bool :=
  if !en then (dflt, last, false, false)
  else if s.levelOf i = 3 then (Num.ofBf last, last, true, false)
  else let (v, f) := s.laneIn i; (v, v.bfWord, false, f)

/-- The mode in force at an evaluation (R140, R143, R136, R146). MANUAL and TRACK are left by REQ alone (the table of R140), so a BAD feedback holds a
slot that computes its own output. -/
def SlotSt.modeAt (x : SlotSt) (forced : Bool) (fbLevel : Nat) : BitVec 3 :=
  if forced then 3
  else if x.req = 0 then 0
  else if x.rosterHold then 5
  else if x.req = 1 then 1
  else if x.req = 3 then 3
  else if x.feAlarm && decide (x.feAction = 2) then 0
  else if fbLevel = 3 ∨ (x.feAlarm && decide (x.feAction = 1)) then 5
  else if x.plan.isSome then 4 else 2

/-- LEVEL and DETAIL of a slot's output (R141, R145; log entry 26): the feedback's LEVEL gives them in every mode but OFF, which computes nothing; a
BAD set-point, feed-forward or track input makes LEVEL at least UNCERTAIN. -/
def SlotSt.quality (x : SlotSt) (mode : BitVec 3) (fbLevel : Nat) (badIn : Bool) : Nat × Nat :=
  let own := if mode = 4 then 5 else if mode = 2 ∧ x.fallback then 6 else 0
  let fb : Nat × Nat := match fbLevel with
    | 0 => (0, own)
    | 1 => (1, 1)
    | 2 => (2, 0)
    | _ => (1, 2)
  let q : Nat × Nat :=
    if mode = 0 then (if x.feAlarm && decide (x.feAction = 2) && decide (x.req = 2) then (2, 4) else (0, 0))
    else if mode = 5 ∧ x.rosterHold then (max 1 fb.1, 3)
    else if mode = 5 ∧ fbLevel ≠ 3 then (2, 4)
    else fb
  (if badIn && mode != 0 then max 2 q.1 else q.1, q.2)

/-- The inner slots of a slot (R142): those whose SP point is its output. -/
def State.innerSlots (s : State) (out : PointIdx) : List SlotSt :=
  (s.loop.slots.filter (fun p => match p.2.bind with
    | some b => b.spPt && b.sp == out
    | none => false)).map (·.2)

/-- The track value of a forced output (R143): the forced value, and for a BIT output the limit it stands for (R135). -/
def State.forcedTrack (s : State) (x : SlotSt) (i : PointIdx) : Num :=
  if bits ((s.point i).word 3) 3 0 = 0 then (if bitOf ((s.point i).word 0) 0 then x.par 6 else x.par 5) else (s.laneIn i).1

/-- The outputs evaluated at the last bell committed, each in one write (R137). -/
def State.loopLate (s : State) : State :=
  s.loop.late.foldl (fun s o => s.commitPoint o.1 o.2) { s with loop := { s.loop with late := [] } }

/-- One evaluation of a bound slot (R137). Its output is committed after the bell's step, so that a lesson of that bell reads the previous one; a
forced output commits the forced value itself (R143). -/
def State.evalSlot (s : State) (n : Nat) (b : SlotBind) : State :=
  let x := s.slot n
  let desc := s.pointWord b.out 3
  let forced := (s.point b.out).forced
  let fbLevel := s.levelOf b.fb
  let mode := x.modeAt forced fbLevel
  if mode = 0 ∧ x.active = 0 then s
  else
    let ts := classTs b.cls.toNat
    let (y, g0) := s.laneIn b.fb
    let (r, spL, spBad, g1) := s.goodInput b.spPt b.sp x.lastSp (x.par 8)
    let (ff, ffL, ffBad, g2) := s.goodInput b.ffEn b.ff x.lastFf Num.zero
    let (tr, trL, trBad, g3) := s.goodInput b.trackEn b.track x.lastTrack Num.zero
    let x := if mode = 5 then x else { x with lastSp := spL, lastFf := ffL, lastTrack := trL, spUsed := r.bfWord, fbUsed := y.bfWord }
    let inner := s.innerSlots b.out
    let k : SlotIn := { r := r, y := y, ff := ff, innerHi := inner.any (·.satHi), innerLo := inner.any (·.satLo),
                        integrate := decide (fbLevel = 0) || decide (fbLevel = 2) }
    -- bumpless entry into AUTO
    let com := s.committedOut x b.out
    let (x, g4) := if mode = 2 ∧ x.active ≠ 2 then
        let (up, h1) := x.up k
        let (i, h2) := (com.sub up).line
        let start := if b.law = 3 then com.clamp (x.par 5) (x.par 6) else com
        let (st, h3) := laneBlock [i, Num.zero, y, start, x.st.lane 4, x.st.lane 5]
        ({ x with st := st }, h1 || h2 || h3)
      else (x, false)
    let back (u : Num) : LawOut :=
      let (up, f1) := x.up k
      let (i, f2) := (u.sub up).line
      { lanes := [i, Num.zero, y, u, x.st.lane 4, x.st.lane 5], u := u, out := u, sat := f1 || f2 }
    let keep (u : Num) (sat : Bool) : LawOut :=
      { lanes := [x.st.lane 0, x.st.lane 1, x.st.lane 2, u, x.st.lane 4, x.st.lane 5], u := u, out := u, sat := sat }
    let tp := x.twoPos k
    let law : LawOut := match mode with
      | 0 => { lanes := [], u := x.par 5, out := x.par 5, sat := false }
      | 1 => keep ((x.par 12).clamp (x.par 5) (x.par 6)) false
      | 3 =>
        let o := back (if forced then s.forcedTrack x b.out else tr)
        if forced ∧ b.law = 2 then { o with out := Num.zero } else o
      | 4 =>
        let (u, f) := x.limit ts (Num.ofBf (x.plan.getD 0))
        let o := back u
        { o with sat := o.sat || f }
      | 5 => keep (x.st.lane 3) false
      | _ => if b.law = 3 then keep tp.1 false else x.pid ts k (b.law == 2)
    let (st, satL) := laneBlock law.lanes
    let sat := law.sat || satL || g0 || g1 || g2 || g3 || g4
    let (fe, _) := (r.sub y).line
    let (timer, reset) := if mode = 2 then feStep fe (x.par 11) x.feTime.toNat x.feTimer.toNat else (x.feTimer.toNat, false)
    let flagOnly := x.feAction = 0 ∨ x.feAction = 3
    let top := if mode = 0 then law.u.le (x.par 6) && (x.par 6).le law.u else st.holds 3 (x.par 6)
    let hi := (x.par 6).le law.u || top
    let lo := law.u.le (x.par 5) || (mode != 0 && st.holds 3 (x.par 5))
    let (level, detail) := x.quality mode fbLevel (spBad || ffBad || trBad)
    let x := { x with st := st, active := mode, satHi := hi, satLo := lo, bfSat := x.bfSat || sat, forcedTrack := forced,
                      feTimer := BitVec.ofNat 16 timer, feAlarm := x.feAlarm && !(reset && decide flagOnly), detail := BitVec.ofNat 8 detail,
                      dwell := if mode = 2 then tp.2 else x.dwell, fe := if mode = 2 then fe.bfWord else x.fe,
                      plan := if mode = 2 ∨ mode = 4 then x.plan else none, outUsed := law.out.bfWord }
    let s := s.setSlot n x
    let (v, satV) := if forced && b.law != 2 then ((s.point b.out).word 0, false)
      else if bits desc 3 0 = 0 then (flagWord top, false) else Num.toTyped desc law.out
    let value := if mode = 5 then none else some v
    let aux := [some x.spUsed, some x.fbUsed, some (x.st.laneWord 0), some x.status]
    let out : CommitSet :=
      { value := value, valueHi := if mode = 5 then none else some 0, level := some (BitVec.ofNat 2 level),
        overrange := some (sat || satV), detail := some x.detail, aux := aux }
    let s := { s with loop := { s.loop with late := s.loop.late ++ [(b.out, out)] } }
    let s := if sat then s.bfSaturated n else s
    s.traceSource 1 n (fun g => if g < 8 then x.st.laneWord g else if g = 8 then x.spUsed else if g = 9 then x.fbUsed else law.out.bfWord)

/-- The cascade level of a slot among the bound slots (R137), 4 or more for a chain that is too deep or circular. -/
def cascadeLevel (l : List (Nat × SlotBind)) : Nat → SlotBind → Nat
  | 0, _ => 0
  | fuel + 1, b =>
    if b.spPt then
      match l.find? (fun p => p.2.out == b.sp) with
      | some p => 1 + cascadeLevel l fuel p.2
      | none => 0
    else 0

/-- The slots of a class in the order of R137. -/
def State.slotOrder (s : State) (cls : Nat) : List (Nat × SlotBind) :=
  let all := s.boundSlots
  let mine := all.filter (fun p => p.2.cls.toNat == cls)
  [3, 2, 1, 0].flatMap (fun lv => mine.filter (fun p => min 3 (cascadeLevel all 4 p.2) == lv))

/-- The slow unit at a bell of a class. -/
def State.loopBell (s : State) (cls : Nat) : State :=
  if s.bit Reg.LOOP_CTRL 0 then (s.slotOrder cls).foldl (fun s p => s.evalSlot p.1 p.2) s else s

/-! ### Modes, parameters, bindings -/

/-- A request for a mode (R140): only 0 to 3, and TRACK only with a TRACK point; FE_ALARM ends where its action held the slot (R146). -/
def State.slotReq (s : State) (n : Nat) (mode : Nat) : State :=
  let x := s.slot n
  let track := match x.bind with | some b => b.trackEn | none => false
  if 3 < mode ∨ (mode = 3 ∧ !track) then s
  else
    let held := x.feAction = 1 ∨ x.feAction = 2
    s.setSlot n { x with req := BitVec.ofNat 3 mode, feAlarm := x.feAlarm && !decide held }

/-- The checks of R144 on a parameter set. -/
def slotSetOk (p : List Word) : Bool :=
  let v := fun i => Num.ofBf (p.getD i 0)
  decide (0 ≤ (v 2).n) && decide (0 ≤ (v 3).n) && decide (0 ≤ (v 4).n) && (v 4).le (Num.int 1) && (v 5).le (v 6) && decide (0 < (v 7).n) &&
    decide (0 ≤ (v 10).n) && decide (0 ≤ (v 11).n) && (v 15).abs.lt (Num.int 1) && (v 14).abs.lt ((Num.int 1).add (v 15))

/-- APPLY of a slot's staged set (R144, R138): all of it, or none with PARAM_ERR. -/
def State.slotApply (s : State) (n : Nat) : State :=
  let x := s.slot n
  if slotSetOk x.staged.toList then
    let ts := match x.bind with | some b => classTs b.cls.toNat | none => classTs 0
    let v := fun i => Num.ofBf (x.staged.toList.getD i 0)
    let d := (v 3).add ts
    s.setSlot n { x with act := x.staged, aCo := ((v 3).div d).bfWord, kdCo := ((v 2).div d).bfWord, paramErr := false }
  else (s.setSlot n { x with staged := x.act, paramErr := true }).inc Reg.LOOP_MSG_REJ_CNT

/-- A staged parameter of a slot. -/
def State.slotStage (s : State) (n i : Nat) (v : Word) : State :=
  let x := s.slot n
  s.setSlot n { x with staged := x.staged.setIfInBounds i (v &&& 0x3FFFFFFF) }

/-- A binding taken (R136, R140): MANUAL, with MAN_OUT the committed value of the output; the inputs' last good values start at what the
points hold (log entry 27). -/
def State.slotBind (s : State) (n : Nat) (b : SlotBind) : State :=
  let x := s.slot n
  let com := s.committedOut x b.out
  let w := com.bfWord
  s.setSlot n { x with
    bind := some b, req := 1, active := 1, staged := x.staged.setIfInBounds 12 w, act := x.act.setIfInBounds 12 w,
    satHi := false, satLo := false, feAlarm := false, feTimer := 0, bfSat := false, forcedTrack := false, rosterHold := false,
    fallback := false, detail := 0, dwell := 0, plan := none, st := (laneBlock [Num.zero, Num.zero, Num.zero, com]).1,
    lastSp := (s.laneIn b.sp).1.bfWord, lastFf := (s.laneIn b.ff).1.bfWord, lastTrack := (s.laneIn b.track).1.bfWord, outUsed := w }

/-- A slot unbound (R155): the output keeps its record with LEVEL STALE. -/
def State.slotUnbind (s : State) (n : Nat) : State :=
  let x := s.slot n
  match x.bind with
  | some b =>
    let p := s.point b.out
    let s := s.setSlot n { x with bind := none, plan := none, active := 0, req := 0 }
    let s := { s with loop := { s.loop with late := s.loop.late.filter (fun o => o.1 != b.out) } }
    (s.setPoint b.out ({ p with plevel := 1 } : Point).settleLevel).follow b.out
  | none => s

/-- The roster check of every bound slot at Tc (R136). -/
def State.loopRoster (s : State) : State :=
  s.boundSlots.foldl (fun s p =>
    let x := s.slot p.1
    s.setSlot p.1 { x with rosterHold := !p.2.inputs.all (fun i => s.mayRead (s.slotOwner p.1) i) }) s

end Sys2Proof.Machine
end

