-- ==== Sys2Proof/Machine/Profile.lean ====
section
/-! DEFINITION. The jerk-limited profile of the position stage (R151) and its stop (R146), one position period at a time. The spec gives the limits
and the target; the planner is the model's (log entry 29). Positions, velocities and accelerations are integers in units of 2^-32 count. -/

namespace Sys2Proof.Machine

/-- A number in units of 2^-32, rounded down. -/
def Num.fix32 (q : Num) : Int := q.n * 2 ^ 32 / q.d

/-- V_MAX, A_MAX and J_MAX (R151), and the share of J_MAX, in 2^-16, that a rising acceleration uses. -/
structure ProfLimits where
  v : Int
  a : Int
  j : Int
  free : Nat

/-- A profile: position, velocity, acceleration. -/
structure Prof where
  p : Int
  v : Int
  a : Int
deriving DecidableEq, Repr

/-- The position periods in a second (R148). -/
def profRate : Int := 2000

/-- The distance from a velocity and an acceleration to rest under A_MAX and J_MAX: the jerk down, the constant deceleration, the jerk up. -/
def stopDistance (c : ProfLimits) (v a : Int) : Int :=
  let u : Int := 2 ^ 32
  if v ≤ 0 then 0
  else
    let peak := (isqrt (c.j * v + a * a / 2).toNat : Int) + 1
    let (ap, t1) := if peak ≤ c.a then (peak, max 0 ((a + peak) * u / c.j)) else (c.a, max 0 ((a + c.a) * u / c.j))
    let tc := if peak ≤ c.a then 0 else max 0 ((v + (a * a - c.a * c.a) / (2 * c.j) - c.a * c.a / (2 * c.j)) * u / c.a)
    let t2 := ap * u / c.j
    let d1 := v * t1 / u + a * t1 / u * t1 / (2 * u) - c.j * t1 / u * t1 / u * t1 / (6 * u)
    let v1 := v + a * t1 / u - c.j * t1 / u * t1 / (2 * u)
    let d2 := v1 * tc / u - ap * tc / u * tc / (2 * u)
    let v2 := v1 - ap * tc / u
    d1 + d2 + (v2 * t2 / u - ap * t2 / u * t2 / (2 * u) + c.j * t2 / u * t2 / u * t2 / (6 * u))

/-- The acceleration of the next period for a profile that moves in the positive direction with `rest` still to go: the greatest of a rise and the
present one that leaves room to come to rest; else the brake, released where what is in hand already ends at rest. -/
def Prof.accel (c : ProfLimits) (stop : Bool) (rest v a : Int) : Int :=
  let dj := c.j / profRate
  let q := dj / profRate
  let ok (b : Int) : Bool :=
    let w := v + b / profRate
    !stop && decide (b.natAbs ≤ c.a) && decide (w + (if 0 < b then b * b / (2 * c.j) else 0) ≤ c.v) &&
      decide (w / profRate + stopDistance c w b ≤ rest)
  let up := min c.a (a + dj * c.free / 65536)
  let fine (b : Int) : Bool := !(decide (b < 0) && decide (2 * c.j * max 0 (v + b / profRate) < b * b))
  let brake := max (-c.a) (a - dj)
  if ok up && (decide (a < up) || decide (0 < v + up / profRate)) then up
  else if ok a && decide (0 < v + a / profRate) then a
  else if (v.natAbs : Int) ≤ 2 * q ∧ (a.natAbs : Int) ≤ dj then max (a - dj) (min (a + dj) (-v * profRate))
  else if c.a < a then a - dj
  else if fine brake then brake
  else if fine a then a
  else min 0 (a + dj)

/-- One position period of a profile toward a target in counts, or to rest (R151, R146). -/
def Prof.period (c : ProfLimits) (stop : Bool) (target : Int) (x : Prof) : Prof :=
  let rem := target * 2 ^ 32 - x.p
  if c.v ≤ 0 ∨ c.a ≤ 0 ∨ c.j ≤ 0 then { x with v := 0, a := 0 }
  else if x.v = 0 ∧ x.a = 0 ∧ (stop ∨ (rem.natAbs : Int) * 2 ≤ 2 ^ 32) then { x with p := if stop then x.p else target * 2 ^ 32 }
  else
    let back := if stop then decide (x.v < 0) || (decide (x.v = 0) && decide (x.a < 0)) else decide (rem < 0)
    let sg : Int := if back then -1 else 1
    let a := Prof.accel c stop (sg * rem) (sg * x.v) (sg * x.a)
    let v := sg * x.v + a / profRate
    { p := x.p + sg * (v / profRate), v := sg * v, a := sg * a }

end Sys2Proof.Machine
end

