-- ==== Sys2Proof/Machine/FastOps.lean ====
section
/-! DEFINITION. The fast unit of the loop engine: the door operators and their current, velocity and position stages (R146 to R154). -/

namespace Sys2Proof.Machine

/-! ### Operators -/

/-- The door-motion grant for an operator's car and side (R152, SAFE_CAR_GRANT). -/
def State.doorGrant (s : State) (d : Nat) : Bool := s.mirrorFresh && s.bit (Reg.SAFE_CAR_GRANT (d / 2)) (3 + d % 2)

/-- The encoder of an operator: input 4c + 2 + (d mod 2) (R147). -/
def encOf (d : Nat) : Nat := 4 * (d / 2) + 2 + d % 2

/-- An operator's position: its encoder's count. -/
def State.opPos (s : State) (d : Nat) : Word := s.rd (Reg.LIFT_ENC_COUNT (encOf d))

/-- An active parameter of a stage (0 current, 1 velocity, 2 position). -/
def OperSt.par (x : OperSt) (st i : Nat) : Num := Num.ofBf ((x.act.toList.getD st (Vector.replicate 8 0)).toList.getD i 0)

/-- A stage's state block. -/
def OperSt.block (x : OperSt) (st : Nat) : BReg := x.st.toList.getD st BReg.zero

/-- Stage states 0 (R152). -/
def OperSt.clear (x : OperSt) : OperSt :=
  { x with st := Vector.replicate 3 BReg.zero, iqRef := 0, velRef := 0, posRef := 0, prof := Vector.replicate 3 0, rawVel := 0, duty := Vector.replicate 3 0,
           inEffect := Vector.replicate 3 0 }

/-- An operator put into a mode; in the modes whose gates are off its stage states are 0. -/
def State.setOpMode (s : State) (d mode : Nat) : State :=
  let s := s.setFld (Reg.LOOP_STG_MODE (3 * d)) 6 4 mode
  if mode = 0 ∨ mode = 4 ∨ mode = 5 then s.setOper d (s.oper d).clear else s

/-- An operator goes to FAULT (R152): a trip, FE action DISABLE, link loss or power-fail detection. -/
def State.opFault (s : State) (d : Nat) : State := if s.opMode d = 0 then s else s.setOpMode d 5

/-- A requested mode (R152): 0 to 3; in FAULT only 0, which gives DISABLED. FE_ALARM with an action that held the stage ends (R146). -/
def State.opReq (s : State) (d mode : Nat) : State :=
  if 3 < mode ∨ (s.opMode d = 5 ∧ mode ≠ 0) then s
  else
    let s := s.setFld (Reg.LOOP_STG_MODE (3 * d)) 2 0 mode
    let s := if mode = 0 then s.setOpMode d 0 else s
    let s := [3 * d, 3 * d + 1, 3 * d + 2].foldl (fun s st =>
      let a := s.fld (Reg.LOOP_STG_FE st) 17 16
      if a = 1 ∨ a = 2 then s.setBit (Reg.LOOP_STG_STAT st) 0 false else s) s
    s.setOper d { s.oper d with stop := false }

/-- The mode an operator is in at a period (R152); a profile starts at rest at the position (log entry 29). -/
def State.opSettle (s : State) (d : Nat) : State :=
  let req := s.fld (Reg.LOOP_STG_MODE (3 * d)) 2 0
  let act := s.opMode d
  let new := if act = 5 then 5 else if req = 0 then 0 else if act = 0 ∧ !s.bit Reg.LOOP_CTRL 1 then 0
    else if s.doorGrant d then req else 4
  let s := if new = act then s else s.setOpMode d new
  if new = 4 ∨ (new = 3 ∧ act ≠ 3) then s.setOper d { s.oper d with posRef := s.opPos d, prof := Vector.replicate 3 0 } else s

/-! ### Parameters (R153) -/

/-- The checks of R153 on a stage's set. -/
def stageSetOk (kind : Nat) (p : List Word) : Bool :=
  let v := fun i => Num.ofBf (p.getD i 0)
  let pos := fun i => decide (0 < (v i).n)
  let unit := fun i => decide (0 ≤ (v i).n) && (v i).le (Num.int 1)
  match kind with
  | 0 => pos 0 && unit 2 && pos 4
  | 1 => pos 0 && pos 2
  | _ => pos 0 && unit 1 && pos 2 && pos 3 && pos 4

/-- APPLY of a stage's staged set (R153, R144). -/
def State.stageApply (s : State) (st : Nat) : State :=
  let d := st / 3
  let x := s.oper d
  let p := (List.range 8).map (fun i => s.rd (Reg.LOOP_STG_PARAM st i))
  if stageSetOk (st % 3) p then
    (s.setBit (Reg.LOOP_STG_STAT st) 3 false).setOper d { x with act := x.act.setIfInBounds (st % 3) (Vector.ofFn (fun i : Fin 8 => p.getD i.val 0)), amax := if st % 3 = 2 then p.getD 3 0 else x.amax }
  else
    let old := x.act.toList.getD (st % 3) (Vector.replicate 8 0)
    let s := (List.range 8).foldl (fun s i => s.wr (Reg.LOOP_STG_PARAM st i) (old.toList.getD i 0)) s
    (s.setBit (Reg.LOOP_STG_STAT st) 3 true).inc Reg.LOOP_MSG_REJ_CNT

/-! ### One period (R148 to R151) -/

/-- What a stage's evaluation leaves in its status register: the timer and FE_ALARM (R146), SAT, BF_SAT (R134); its FE and its block. -/
def State.stageDone (s : State) (d k : Nat) (lanes : List Num) (fe limit : Num) (sat bf : Bool) : State :=
  let st := 3 * d + k
  let (b, f) := laneBlock lanes
  let x := s.oper d
  let s := s.setOper d { x with st := x.st.setIfInBounds k b, fe := x.fe.setIfInBounds k fe.bfWord, sat := x.sat || bf || f }
  let (timer, reset) := feStep fe limit (s.fld (Reg.LOOP_STG_FE st) 15 0) (s.fld (Reg.LOOP_STG_STAT st) 31 16)
  let act := s.fld (Reg.LOOP_STG_FE st) 17 16
  let s := s.setFld (Reg.LOOP_STG_STAT st) 31 16 timer
  let s := if reset ∧ (act = 0 ∨ act = 3) then s.setBit (Reg.LOOP_STG_STAT st) 0 false else s
  let s := s.setBit (Reg.LOOP_STG_STAT st) 1 sat
  if bf || f then (s.setBit (Reg.LOOP_STG_STAT st) 2 true).bfSaturated (2048 + st) else s

/-- The trace of a stage: its lanes, set-point, feedback and output. -/
def State.stageTrace (s : State) (d k : Nat) (sp fb out : Num) : State :=
  let b := (s.oper d).block k
  s.traceSource 2 (3 * d + k) (fun g => if g < 8 then b.laneWord g else if g = 8 then sp.bfWord else if g = 9 then fb.bfWord else out.bfWord)

/-- A phase current in amperes (R233: FIELD_CS_SCALE). -/
def State.phaseAmps (s : State) (cs : Nat) (code : BitVec 14) : Num :=
  (Num.mul ⟨Config.csFraction code, 2 ^ 14⟩ (Num.ofBf (s.rd (Reg.FIELD_CS_SCALE cs)))).bf

/-- The current stage of an operator (R149): a trip, or new duties in the shadow registers (R148). -/
def State.currentStage (s : State) (d : Nat) (ia ib : Num) : State :=
  let x := s.oper d
  let (ic, f0) := (ia.add ib).neg.line
  if (x.par 0 4).lt ((ia.abs.max ib.abs).max ic.abs) then
    ((s.opFault d).inc Reg.LOOP_TRIP_CNT).record { sev := 5, source := 0x06, code := 149, args := [wd d] }
  else
    let cpr := (s.rd (Reg.LOOP_STG_CPR (3 * d))).toNat
    let turn := ((s.opPos d).toInt - (s.fld (Reg.LOOP_STG_ANGLE (3 * d)) 23 0 : Nat)) % (cpr : Int)
    let k := turn.toNat * s.fld (Reg.LOOP_STG_MOTOR (3 * d)) 3 0
    let sn := (turnSin k cpr).bf
    let cs := (turnCos k cpr).bf
    let root3 := (Num.int 3).sqrt
    let ts : Num := ⟨1, 32000⟩
    let b := x.block 0
    let (be, f1) := ((ia.add ((Num.int 2).mul ib)).div root3).line
    let (id, f2) := ((ia.mul cs).add (be.mul sn)).line
    let (iq, f3) := ((be.mul cs).sub (ia.mul sn)).line
    let ref := if s.opMode d = 1 then x.par 0 7 else Num.ofBf x.iqRef
    let (ed, f4) := ((x.par 0 3).sub id).line
    let (eq, f5) := (ref.sub iq).line
    let (vd, f6) := (((x.par 0 0).mul ed).add (b.lane 0)).line
    let (vq, f7) := (((x.par 0 0).mul eq).add (b.lane 1)).line
    let vbus := Num.ofBf x.vbus
    let (vm, f8) := (((x.par 0 2).mul vbus).div root3).line
    let vdc := vd.clamp vm.neg vm
    let (ql, f9) := (((vm.mul vm).sub (vdc.mul vdc)).sqrt).line
    let vqc := vq.clamp ql.neg ql
    let free (a c : Num) : Bool := a.le c && c.le a
    let (xd, f10) := if free vd vdc then ((b.lane 0).add (((x.par 0 1).mul ts).mul ed)).line else (b.lane 0, false)
    let (xq, f11) := if free vq vqc then ((b.lane 1).add (((x.par 0 1).mul ts).mul eq)).line else (b.lane 1, false)
    let (va, f12) := ((vdc.mul cs).sub (vqc.mul sn)).line
    let (vbeta, f13) := ((vdc.mul sn).add (vqc.mul cs)).line
    let half := va.mul ⟨-1, 2⟩
    let side := (root3.mul vbeta).mul ⟨1, 2⟩
    let (vb, f14) := (half.add side).line
    let (vc, f15) := (half.sub side).line
    let (mid, f16) := ((((va.max vb).max vc).add ((va.min vb).min vc)).mul ⟨1, 2⟩).line
    let duty (i : Nat) (v : Num) : Nat :=
      if vbus.n = 0 then min 2500 (Config.dutyNoBus i).toNat
      else dutyCounts 2500 ((Num.mk 1 2).add ((v.sub mid).div vbus))
    let s := s.setOper d { x with duty := ((x.duty.set 0 (duty 0 va)).set 1 (duty 1 vb)).set 2 (duty 2 vc) }
    let bf := f0 || f1 || f2 || f3 || f4 || f5 || f6 || f7 || f8 || f9 || f10 || f11 || f12 || f13 || f14 || f15 || f16
    (s.stageDone d 0 [xd, xq, id, iq, vdc, vqc] eq (x.par 0 5) (!(free vd vdc && free vq vqc)) bf).stageTrace d 0 ref iq vqc

/-- A command brought toward 0 by a step (R146: STOP in VELOCITY mode). -/
def rampDown (v step : Num) : Num := if v.abs.le step then Num.zero else if 0 < v.n then v.sub step else v.add step

/-- The velocity of an operator (R150): the counts of the last four periods in 125 µs, averaged with the previous value; the difference and the
velocity. -/
def State.opMeasure (s : State) (d : Nat) : Num × Num × Bool :=
  let x := s.oper d
  let raw := Num.int (((s.opPos d - x.counts.toList.getD 3 0).toInt) * 8000)
  let (vel, f) := ((raw.add (Num.ofBf x.rawVel)).mul ⟨1, 2⟩).line
  (raw, vel, f)

/-- The velocity measured every fourth period in CURRENT mode, whose AUX0 holds it too (R145, R150): the stage's law does not run. -/
def State.velocityOnly (s : State) (d : Nat) : State :=
  let x := s.oper d
  let (raw, vel, f) := s.opMeasure d
  let b := x.block 1
  let (st, g) := laneBlock [b.lane 0, vel, b.lane 2, b.lane 3]
  let s := s.setOper d { x with rawVel := raw.bfWord, st := x.st.setIfInBounds 1 st, sat := x.sat || f || g }
  if f || g then (s.setBit (Reg.LOOP_STG_STAT (3 * d + 1)) 2 true).bfSaturated (2048 + 3 * d + 1) else s

/-- The velocity stage (R150), every fourth period: the measured velocity, PI with conditional integration, notch, ±IQ_MAX. -/
def State.velocityStage (s : State) (d : Nat) : State :=
  let x := s.oper d
  let (raw, vel, f1) := s.opMeasure d
  let ts : Num := ⟨1, 8000⟩
  let (cmd, f2) := if s.opMode d = 3 then (Num.ofBf x.velRef, false)
    else if x.stop then (rampDown (Num.ofBf x.velRef) ((x.par 2 3).mul ts)).line else (x.par 1 3, false)
  let b := x.block 1
  let (e, f3) := (cmd.sub vel).line
  let (v, f4) := (((x.par 1 0).mul e).add (b.lane 0)).line
  let ((v, w1, w2), f5) := if s.bit (Reg.LOOP_STG_FE (3 * d + 1)) 18
    then notchStep (x.par 1 5) (x.par 1 6) (x.par 1 7) (b.lane 2) (b.lane 3) v else ((v, b.lane 2, b.lane 3), false)
  let lim := x.par 1 2
  let u := v.clamp lim.neg lim
  let hi := lim.le u
  let lo := u.le lim.neg
  let (i, f6) := if !(hi && decide (0 < e.n)) && !(lo && decide (e.n < 0)) then ((b.lane 0).add (((x.par 1 1).mul ts).mul e)).line
    else (b.lane 0, false)
  let s := s.setOper d { x with rawVel := raw.bfWord, velRef := cmd.bfWord, iqRef := u.bfWord }
  (s.stageDone d 1 [i, vel, w1, w2] e (x.par 1 4) (hi || lo) (f1 || f2 || f3 || f4 || f5 || f6)).stageTrace d 1 cmd vel u

/-- The position stage (R151), every sixteenth period: one period of the jerk-limited profile, brought to rest by STOP (R146), and the command to
the velocity stage. -/
def State.positionStage (s : State) (d : Nat) : State :=
  let x := s.oper d
  let free := 65536 - Config.profileJerk d s.now % 65536
  let c : ProfLimits := { v := (x.par 2 2).fix32, a := (x.par 2 3).fix32, j := (x.par 2 4).fix32, free := free }
  let p := Prof.period c x.stop ((s.rd (Reg.LOOP_STG_TARGET (3 * d + 2))).toInt) { p := x.posRef.toInt * 2 ^ 32 + x.prof[0], v := x.prof[1], a := x.prof[2] }
  let posRef := wi (p.p / 2 ^ 32)
  let (vr, f0) := (Num.mk p.v (2 ^ 32)).line
  let pos := Num.int (s.opPos d).toInt
  let (fe, f1) := ((Num.int posRef.toInt).sub pos).line
  let vmax := x.par 2 2
  let (c, f2) := (((x.par 2 1).mul vr).add ((x.par 2 0).mul fe)).line
  let cmd := c.clamp vmax.neg vmax
  let s := s.setOper d { x with posRef := posRef, prof := ((x.prof.set 0 (p.p % 2 ^ 32)).set 1 p.v).set 2 p.a, velRef := cmd.bfWord }
  let sat := vmax.le cmd || cmd.le vmax.neg
  (s.stageDone d 2 [vr, Num.mk p.a (2 ^ 32)] fe (x.par 2 5) sat (f0 || f1 || f2)).stageTrace d 2 (Num.int posRef.toInt) pos cmd

/-- AUX3 of an operator's output (R145); SAT is the velocity stage's limit. -/
def State.opStatus (s : State) (d : Nat) : Nat :=
  let x := s.oper d
  let any (b : Nat) : Bool := [0, 1, 2].any (fun k => s.bit (Reg.LOOP_STG_STAT (3 * d + k)) b)
  let lim := x.par 1 2
  let iq := Num.ofBf x.iqRef
  let sat := s.bit (Reg.LOOP_STG_STAT (3 * d + 1)) 1
  s.opMode d + 8 * (sat && lim.le iq).toNat + 16 * (sat && iq.le lim.neg).toNat + 32 * (any 0).toNat + 64 * (any 2).toNat + 256 * (any 3).toNat

/-- LEVEL and DETAIL of an operator's output (R145, R152). -/
def State.opQuality (s : State) (d : Nat) : Nat × Nat :=
  if s.opMode d = 5 then (3, 8) else if s.opMode d = 4 then (0, 7) else if (s.oper d).stop then (2, 4) else (0, 0)

/-- AUX0 to AUX2 of an operator's output: velocity, iq and the position set-point (R145). -/
def State.opAux (s : State) (d : Nat) : List (Option Word) :=
  let x := s.oper d
  [some ((x.block 1).laneWord 1), some ((x.block 0).laneWord 3), some x.posRef]

/-- The output point of an operator committed (R154, R145). -/
def State.opCommit (s : State) (d : Nat) : State :=
  let x := s.oper d
  match x.bind with
  | none => s
  | some (out, _) =>
    let q := s.opQuality d
    let aux := s.opAux d ++ [some (wd (s.opStatus d))]
    let s := s.setOper d { x with sat := false }
    s.commitPoint out { value := some (s.opPos d), valueHi := some 0, level := some (BitVec.ofNat 2 q.1), overrange := some x.sat, detail := some (BitVec.ofNat 8 q.2), aux := aux }

/-- The bus voltage read once per position period (R149). -/
def State.readVbus (s : State) (d : Nat) : State :=
  let x := s.oper d
  match x.bind with
  | some (_, some i) =>
    if s.levelOf i = 3 then s.setOper d { x with vbus := (x.par 0 6).bfWord }
    else
      let (v, f) := s.laneIn i
      let s := s.setOper d { x with vbus := v.bfWord, sat := x.sat || f }
      if f then (s.setBit (Reg.LOOP_STG_STAT (3 * d)) 2 true).bfSaturated (2048 + 3 * d) else s
  | _ => s.setOper d { x with vbus := (x.par 0 6).bfWord }

/-- One fast period of one operator (R148): the duties of the period before have taken effect at the boundary. -/
def State.opPeriod (s : State) (d : Nat) (ia ib : Num) : State :=
  let s := s.setOper d { s.oper d with inEffect := (s.oper d).duty }
  let s := s.opSettle d
  let pos := s.loop.period % 16 = 0
  let s := if pos then s.readVbus d else s
  let m0 := s.opMode d
  let s := if m0 = 1 ∨ m0 = 2 ∨ m0 = 3 then s.currentStage d ia ib else s
  let m := s.opMode d
  let s := if s.loop.period % 4 = 0 ∧ (m = 2 ∨ m = 3) then s.velocityStage d
    else if s.loop.period % 4 = 0 ∧ m = 1 then s.velocityOnly d else s
  let s := if pos ∧ m = 3 then s.positionStage d
    else if pos ∧ m = 2 then s.setOper d { s.oper d with posRef := s.opPos d } else s
  let x := s.oper d
  let s := s.setOper d { x with counts := ((((x.counts.set 3 x.counts[2]).set 2 x.counts[1]).set 1 x.counts[0]).set 0 (s.opPos d)) }
  if pos then s.opCommit d else s

/-- A following-error alarm of a stage (R146). -/
def State.stageAlarm (s : State) (st : Nat) : State :=
  let time := s.fld (Reg.LOOP_STG_FE st) 15 0
  let d := st / 3
  if time = 0 ∨ s.fld (Reg.LOOP_STG_STAT st) 31 16 < time ∨ s.bit (Reg.LOOP_STG_STAT st) 0 then s
  else
    let x := s.oper d
    let s := (s.setBit (Reg.LOOP_STG_STAT st) 0 true).inc Reg.LOOP_FE_CNT
    let s := s.record { sev := 4, source := 0x06, code := 146, args := [wd st, x.fe.toList.getD (st % 3) 0, s.rd (Reg.SCAN_BELL_CNT 0)] }
    match s.fld (Reg.LOOP_STG_FE st) 17 16 with
    | 1 => if st % 3 = 0 then s.opFault d else s.setOper d { s.oper d with stop := true }
    | 2 => s.opFault d
    | _ => s

end Sys2Proof.Machine
end

