-- ==== Sys2Proof/Machine/CarOps.lean ====
section
/-! DEFINITION. The car position units (R162 to R171). -/

namespace Sys2Proof.Machine

/-- The module has the lift units (R1). -/
def State.hasLift (s : State) : Bool := s.variant != 1

/-- A car position unit replaced. -/
def State.setCar (s : State) (c : Nat) (x : CarSt) : State := { s with lift := { s.lift with cars := s.lift.cars.setIfInBounds c x } }

/-- A car's position state and CAUSE set. -/
def State.setCarState (s : State) (c st cause : Nat) : State :=
  (s.setFld (Reg.LIFT_CAR_STAT c) 1 0 st).setFld (Reg.LIFT_CAR_STAT c) 19 16 cause

/-- A car unit runs: LIFT_CTRL.EN and the car's EN. -/
def State.carOn (s : State) (c : Nat) : Bool := s.hasLift && s.bit Reg.LIFT_CTRL 0 && s.bit (Reg.LIFT_CAR_CFG c) 14

/-- REF_POS + round(d × SCALE / 2^16), 32 bits (R165; ties to even, log entry 32). -/
def scaledPos (ref : Word) (d : Word) (scale : Word) : Word := ref + wi (divRne (d.toInt * scale.toNat) 65536)

/-- The position computed from a motor count, and from a governor count (R165). -/
def State.posOf (s : State) (c : Nat) (km : Word) : Word := scaledPos (s.car c).refPos (km - (s.car c).refKm) (s.rd (Reg.LIFT_CAR_MSCALE c))
def State.gposOf (s : State) (c : Nat) (kg : Word) : Word := scaledPos (s.car c).refPos (kg - (s.car c).refKg) (s.rd (Reg.LIFT_CAR_GSCALE c))

/-- LEVEL and DETAIL of a car's position point (R166). -/
def carQuality (st cause : Nat) : Nat × Nat :=
  match st with
  | 0 => (3, 9)
  | 1 => (0, 0)
  | 2 => (2, if cause = 4 then 11 else 10)
  | _ => (3, 8)

/-- The position point of a car committed (R165). -/
def State.carCommit (s : State) (c : Nat) : State :=
  let i : PointIdx := BitVec.ofNat 14 (s.fld (Reg.LIFT_CAR_CFG c) 13 0)
  if s.pointIs i 1 1 then
    let stat := s.rd (Reg.LIFT_CAR_STAT c)
    let q := carQuality (bits stat 1 0) (bits stat 19 16)
    let aux := [some (s.car c).vel, some (s.rd (Reg.LIFT_CAR_GPOS c)), some (wd (bits stat 9 2 + 256 * (s.inDz c).toNat)), some (wd (bits stat 1 0 + 16 * bits stat 19 16))]
    s.commitPoint i { value := some (s.rd (Reg.LIFT_CAR_POS c)), valueHi := some 0, level := some (BitVec.ofNat 2 q.1), overrange := some false, detail := some (BitVec.ofNat 8 q.2), aux := aux }
  else s

/-- The safety die takes a latch on a car: its safe state, and its release cleared (R197). -/
def State.safeLatch (s : State) (c bit : Nat) : State :=
  let upd := fun (x : SafeCar) => { x with latch := x.latch ||| BitVec.ofNat 6 (2 ^ bit), released := false, clearable := false }
  let cars := s.safe.cars.setIfInBounds c (upd (s.safe.cars.toList.getD c { released := false, latch := 0, refusals := 0, operated := none, clearable := false, inTime := false }))
  let drop := fun (k : ChanSt) => { k with cars := k.cars.setIfInBounds c { (k.cars.toList.getD c ChanCar.zero) with mode := 0, doorF := false, doorR := false, release := false, reason := 5 } }
  { s with safe := { s.safe with cars := cars, chans := s.safe.chans.map drop } }

/-- A cross-check failure sent to both channels (R169, R197): the safety die latches it where a running channel has its link; the control die acts on it
no further (R15). -/
def State.xchkSend (s : State) (c : Nat) : State :=
  if s.safe.chans.toList.any (fun k => k.running && k.link) then s.safeLatch c 2 else s

/-- The comparison of both positions (R169): two periods beyond the window are a FAULT, and the failure goes to the safety die. -/
def State.crossCheck (s : State) (c : Nat) : State :=
  let diff := (s.rd (Reg.LIFT_CAR_DIFF c)).toInt.natAbs
  let beyond := decide (s.fld (Reg.LIFT_CAR_XCHK c) 15 0 < diff)
  let was := (s.car c).beyond
  let s := s.setCar c { s.car c with beyond := beyond }
  if beyond && was then
    let s := ((s.setCarState c 3 3).setBit (Reg.LIFT_CAR_STAT c) 11 true).inc Reg.LIFT_XCHK_CNT
    let s := s.xchkSend c
    s.record { sev := 6, source := 0x07, code := 169, args := [wd c, s.rd (Reg.LIFT_CAR_POS c), s.rd (Reg.LIFT_CAR_GPOS c), wd (s.fld (Reg.LIFT_CAR_STAT c) 9 2)] }
  else s

/-- One position period of a car (R165, R169). While the field link is lost the counts stand still and the comparison pauses. -/
def State.carPeriod (s : State) (c : Nat) : State :=
  if s.carOn c then
    let km := s.rd (Reg.LIFT_ENC_COUNT (4 * c))
    let kg := s.rd (Reg.LIFT_ENC_COUNT (4 * c + 1))
    let pos := s.posOf c km
    let gpos := s.gposOf c kg
    let x := s.car c
    let vel := wi ((pos - x.prev2).toInt * 1000)
    let s := ((s.wr (Reg.LIFT_CAR_POS c) pos).wr (Reg.LIFT_CAR_GPOS c) gpos).wr (Reg.LIFT_CAR_DIFF c) (pos - gpos)
    let s := s.setCar c { x with vel := vel, prev2 := x.prev1, prev1 := pos }
    let s := if s.carState c ≠ 3 ∧ s.bit Reg.FIELD_STAT 8 then s.crossCheck c else s
    s.carCommit c
  else s

/-! ### References and captures (R167, R168, R170) -/

/-- A captured edge entered in the FIFO; when it is full the oldest is overwritten. -/
def State.capturePush (s : State) (c : Nat) (e : DzCap) : State :=
  let x := s.car c
  if x.fifo.length < 16 then s.setCar c { x with fifo := x.fifo ++ [e] }
  else s.setCar c { x with fifo := x.fifo.drop 1 ++ [e], ovf := true }

/-- A reference taken: REF_POS and both counts. -/
def State.carReference (s : State) (c : Nat) (pos km kg : Word) (landing : Nat) : State :=
  let s := s.setCar c { s.car c with refPos := pos, refKm := km, refKg := kg, beyond := false }
  let s := (s.setCarState c 1 0).setFld (Reg.LIFT_CAR_STAT c) 9 2 landing
  (s.setFld (Reg.LIFT_CAR_REF_CNT c) 15 0 (s.fld (Reg.LIFT_CAR_REF_CNT c) 15 0 + 1)).wr (Reg.LIFT_CAR_DIFF c) 0

/-- DZ_LO and DZ_HI of a landing; the landing exists when DZ_HI > DZ_LO (R167). -/
def State.dzLo (s : State) (c l : Nat) : Int := (s.rd (Reg.LIFT_LAND c l 0)).toInt
def State.dzHi (s : State) (c l : Nat) : Int := (s.rd (Reg.LIFT_LAND c l 1)).toInt
def State.landing (s : State) (c l : Nat) : Bool := decide (s.dzLo c l < s.dzHi c l)

/-- An edge of the door-zone input (R167). -/
def State.dzEdge (s : State) (c : Nat) (rising : Bool) (km kg : Word) : State :=
  let x := s.car c
  let early := match x.edgeAt with | some t => decide (s.now < t + msCounts) | none => false
  if !s.carOn c || !s.bit Reg.FIELD_STAT 8 || early then s
  else
    let s := s.setCar c { x with edgeAt := some s.now }
    let p := (s.posOf c km).toInt
    let vel := x.vel.toInt
    let note (s : State) (l : Nat) : State := s.capturePush c { falling := !rising, terminal := false, landing := BitVec.ofNat 8 l, pos := wi p }
    if vel.natAbs < 16 then note s 0xFF
    else
      let up := decide (0 < vel)
      let lo := rising == up
      let edge (l : Nat) : Int := if lo then s.dzLo c l else s.dzHi c l
      let win := s.fld (Reg.LIFT_CAR_XCHK c) 31 16
      let cand := (List.range 128).filter (fun l => s.landing c l && decide ((p - edge l).natAbs ≤ win))
      let st := s.carState c
      match cand, decide (st = 1 ∨ st = 2) with
      | [l], true =>
        let corr := edge l - p
        let s := (s.carReference c (wi (edge l)) km kg l).wr (Reg.LIFT_CAR_CORR c) (wi corr)
        let s := note s l
        if st = 1 ∧ win < 2 * corr.natAbs then s.record { sev := 3, source := 0x07, code := 167, args := [wd c, wi corr, wd l] } else s
      | _, true =>
        note (s.setFld (Reg.LIFT_CAR_REF_CNT c) 31 16 (s.fld (Reg.LIFT_CAR_REF_CNT c) 31 16 + 1)) 0xFF
      | _, false => note s 0xFF

/-- An edge of the terminal reference input (R168): as it becomes active on the way down it sets the reference, in FAULT too, and makes the state VALID
from UNREFERENCED or UNCERTAIN. -/
def State.termEdge (s : State) (c : Nat) (active : Bool) (km kg : Word) : State :=
  if !s.carOn c || !s.bit Reg.FIELD_STAT 8 || !s.bit (Reg.LIFT_CAR_CFG c) 24 then s
  else
    let p := s.posOf c km
    let st := s.carState c
    let cause := s.fld (Reg.LIFT_CAR_STAT c) 19 16
    let s := if active ∧ (s.car c).vel.toInt < 0 then
        let s := s.carReference c (s.rd (Reg.LIFT_CAR_TERM_POS c)) km kg 0xFF
        if st = 3 then s.setCarState c 3 cause else s
      else s
    s.capturePush c { falling := !active, terminal := true, landing := 0xFF, pos := p }

/-- CLEAR (R166): FAULT to UNREFERENCED, with both positions counted from the counts at reset again (R169; log entry 32). -/
def State.carClear (s : State) (c : Nat) : State :=
  if s.hasLift ∧ s.carState c = 3 then
    let s := (s.setCarState c 0 0).setBit (Reg.LIFT_CAR_STAT c) 11 false
    s.setCar c { s.car c with refPos := 0, refKm := 0, refKg := 0, beyond := false }
  else s

/-- FLUSH (R170). -/
def State.carFlush (s : State) (c : Nat) : State := s.setCar c { s.car c with fifo := [] }

/-- The oldest capture popped, its position latched (R170). -/
def State.capPop (s : State) (c : Nat) : State :=
  let x := s.car c
  match x.fifo with
  | e :: rest => (s.wr (Reg.LIFT_CAR_DZCAP_POS c) e.pos).setCar c { x with fifo := rest, ovf := false }
  | [] => s.setCar c { x with ovf := false }

/-- The field link is lost (R13, R166). -/
def State.carLinkLost (s : State) : State :=
  (List.range 8).foldl (fun s c => if s.carState c = 1 then s.setCarState c 2 4 else s) s

end Sys2Proof.Machine
end

