-- ==== Sys2Proof/Machine/HzSolve.lean ====
section
/-! DEFINITION. The solver of the horizon unit (R157 to R159): a zone's condensed problem and the active-set iteration over it. The arithmetic is
exact between what the engine holds as blocks; a value that no block can hold is the OVERFLOW of R159 (log entry 30). -/

namespace Sys2Proof.Machine

/-! ### The model of a zone -/

/-- The dimensions N, n, m, p, q of a model (word 244). -/
structure HzDims where
  hor : Nat
  n : Nat
  m : Nat
  p : Nat
  q : Nat

/-- Word 244 read in the layout of LOOP_HZ_ZCFG bits [17:1]. -/
def hzDims (w : Word) : HzDims :=
  { hor := bits w 4 1, n := bits w 8 5, m := bits w 11 9, p := bits w 14 12, q := bits w 17 15 }

/-- A row of a matrix times a vector. -/
def rowMul (t : Tab Word) (base : Nat) (v : List Num) : Num :=
  Num.sum ((List.range v.length).map (fun j => (Num.ofBf (modelWord t (base + j))).mul (v.getD j Num.zero)))

/-! ### Affine expressions in the variables -/

/-- A constant and one coefficient for each variable: the N × m inputs, step by step, then the p slacks (R158). -/
abbrev Aff := List Num

def Aff.add (a b : Aff) : Aff := (a.zip b).map (fun e => (e.1.add e.2).norm)
def Aff.scale (k : Num) (a : Aff) : Aff := a.map (fun x => (k.mul x).norm)
def Aff.neg (a : Aff) : Aff := a.map Num.neg

/-- A constant, and variable i, among nv variables. -/
def Aff.const (nv : Nat) (c : Num) : Aff := c :: List.replicate nv Num.zero
def Aff.var (nv i : Nat) : Aff := (Aff.const nv Num.zero).set (i + 1) (Num.int 1)

/-- The sum of weighted expressions. -/
def Aff.sum (nv : Nat) (l : List (Num × Aff)) : Aff := l.foldl (fun a e => if e.1.n = 0 then a else Aff.add a (Aff.scale e.1 e.2)) (Aff.const nv Num.zero)

/-- The product of two vectors. -/
def dotNum (a b : List Num) : Num := ((a.zip b).foldl (fun (s : Num) e => if e.1.n = 0 then s else (s.add (e.1.mul e.2)).norm) Num.zero)

/-- The value of an expression at a point. -/
def Aff.eval (a : Aff) (z : List Num) : Num := ((a.headD Num.zero).add (dotNum (a.drop 1) z)).norm

/-! ### The condensed problem -/

/-- What a zone's problem is formed from: the model, the estimate, the committed inputs, the disturbances, the targets, and which inputs are held at
their committed value (R158). -/
structure HzIn where
  t : Tab Word
  d : HzDims
  x : List Num
  u : List Num
  dist : List Num
  r : List Num
  held : List Bool

/-- An item of the model's vectors (words 192 to 227). -/
def HzIn.item (k : HzIn) (base j : Nat) : Num := Num.ofBf (modelWord k.t (base + j))

/-- The number of variables. -/
def HzIn.vars (k : HzIn) : Nat := k.d.hor * k.d.m + k.d.p

/-- The bounds of input j: both its committed value where its slot runs in no mode that takes a plan (R158). -/
def HzIn.umin (k : HzIn) (j : Nat) : Num := if k.held.getD j false then k.u.getD j Num.zero else k.item 208 j
def HzIn.umax (k : HzIn) (j : Nat) : Num := if k.held.getD j false then k.u.getD j Num.zero else k.item 212 j

/-- u_j[i], its move, and s_j as expressions. -/
def HzIn.uAff (k : HzIn) (i j : Nat) : Aff := Aff.var k.vars (i * k.d.m + j)
def HzIn.duAff (k : HzIn) (i j : Nat) : Aff :=
  Aff.add (k.uAff i j) (Aff.neg (if i = 0 then Aff.const k.vars (k.u.getD j Num.zero) else k.uAff (i - 1) j))
def HzIn.sAff (k : HzIn) (j : Nat) : Aff := Aff.var k.vars (k.d.hor * k.d.m + j)

/-- x[i+1] from x[i] (R157). -/
def HzIn.next (k : HzIn) (i : Nat) (x : List Aff) : List Aff :=
  (List.range k.d.n).map (fun row => Aff.sum k.vars
    ((List.range k.d.n).map (fun c => (Num.ofBf (modelWord k.t (8 * row + c)), x.getD c [])) ++
     (List.range k.d.m).map (fun c => (Num.ofBf (modelWord k.t (64 + 4 * row + c)), k.uAff i c)) ++
     (List.range k.d.q).map (fun c => (Num.ofBf (modelWord k.t (96 + 4 * row + c)), Aff.const k.vars (k.dist.getD c Num.zero)))))

/-- y[1] to y[N] (R157). -/
def HzIn.outputs (k : HzIn) : List (List Aff) :=
  ((List.range k.d.hor).foldl (fun (a : List Aff × List (List Aff)) i =>
    let x := k.next i a.1
    (x, a.2 ++ [(List.range k.d.p).map (fun j => Aff.sum k.vars ((List.range k.d.n).map (fun c => (Num.ofBf (modelWord k.t (128 + 8 * j + c)), x.getD c []))))]))
    (k.x.map (Aff.const k.vars), [])).2

/-- A problem: the squares of J with their weights, its linear terms, and the constraints, each an expression that is at most 0 (R158). -/
structure HzProblem where
  squares : List (Num × Aff)
  linear : List (Num × Aff)
  cons : List Aff

/-- The pairs of a step and an input. -/
def HzIn.moves (k : HzIn) : List (Nat × Nat) := (List.range k.d.hor).flatMap (fun i => (List.range k.d.m).map (fun j => (i, j)))

/-- The problem of R158. -/
def HzIn.problem (k : HzIn) : HzProblem :=
  let c := Aff.const k.vars
  let ys := k.outputs.flatMap (fun l => (List.range k.d.p).map (fun j => (j, l.getD j [])))
  { squares :=
      ys.map (fun y => (k.item 192 y.1, Aff.add y.2 (c (k.r.getD y.1 Num.zero).neg))) ++ k.moves.map (fun e => (k.item 196 e.2, k.duAff e.1 e.2)) ++
        (List.range k.d.p).map (fun j => (k.item 204 j, k.sAff j))
    linear := k.moves.map (fun e => (k.item 200 e.2, k.uAff e.1 e.2))
    cons :=
      k.moves.flatMap (fun e =>
        let u := k.uAff e.1 e.2
        let du := k.duAff e.1 e.2
        let step := c (k.item 216 e.2).neg
        [Aff.add u (c (k.umax e.2).neg), Aff.add (Aff.neg u) (c (k.umin e.2)), Aff.add du step, Aff.add (Aff.neg du) step]) ++
      ys.flatMap (fun y =>
        let s := Aff.neg (k.sAff y.1)
        [Aff.add (Aff.add y.2 s) (c (k.item 224 y.1).neg), Aff.add (Aff.add (Aff.neg y.2) s) (c (k.item 220 y.1))]) ++
      (List.range k.d.p).map (fun j => Aff.neg (k.sAff j)) }

/-- J at a point (R158). -/
def HzProblem.cost (q : HzProblem) (z : List Num) : Num :=
  Num.sum ((q.squares.map (fun e => let v := e.2.eval z; (e.1.mul (v.mul v)).norm)) ++ (q.linear.map (fun e => (e.1.mul (e.2.eval z)).norm)))

/-- The gradient of J as expressions, one for each variable. -/
def HzProblem.gradient (q : HzProblem) (nv : Nat) : List Aff :=
  (List.range nv).map (fun i =>
    Aff.add (Aff.sum nv (q.squares.map (fun e => (((Num.int 2).mul (e.1.mul (e.2.getD (i + 1) Num.zero))).norm, e.2))))
      (Aff.const nv (dotNum (q.linear.map (·.1)) (q.linear.map (fun e => e.2.getD (i + 1) Num.zero)))))

/-- The rows of the condensed problem fit their blocks (R158, R159). -/
def HzProblem.fits (q : HzProblem) (nv : Nat) : Bool :=
  !((q.gradient nv).any (fun a => (Num.block (a.drop 1)).2) || (Num.block ((q.gradient nv).map (fun a => a.headD Num.zero))).2 ||
    q.cons.any (fun a => (Num.block (a.drop 1)).2) || (Num.block (q.cons.map (fun a => a.headD Num.zero))).2)

/-! ### Linear equations -/

/-- The solution of n equations in n unknowns, each row its coefficients and its right side; none where they have no single one. -/
def solveRows : Nat → List (List Num) → Option (List Num)
  | 0, _ => some []
  | n + 1, rows =>
    match rows.findIdx? (fun r => (r.headD Num.zero).n != 0) with
    | none => none
    | some k =>
      let piv := rows.getD k []
      let h := piv.headD Num.zero
      let rest := (rows.eraseIdx k).map (fun r =>
        let f := ((r.headD Num.zero).div h).norm
        if f.n = 0 then r.drop 1 else ((r.drop 1).zip (piv.drop 1)).map (fun e => (e.1.sub (f.mul e.2)).norm))
      match solveRows n rest with
      | none => none
      | some xs => some ((((piv.getLastD Num.zero).sub (dotNum ((piv.drop 1).take n) xs)).div h).norm :: xs)

/-- The equality problem on a working set (R159): the step to its minimum, and the multipliers of the constraints in the set. -/
def HzProblem.equality (q : HzProblem) (nv : Nat) (z : List Num) (work : List Nat) : Option (List Num × List Num) :=
  let grad := q.gradient nv
  let rows := work.map (fun c => (q.cons.getD c []).drop 1)
  let top := (List.range nv).map (fun i =>
    let g := grad.getD i []
    g.drop 1 ++ rows.map (fun a => a.getD i Num.zero) ++ [(g.eval z).neg])
  let bottom := rows.map (fun a => a ++ List.replicate (work.length + 1) Num.zero)
  (solveRows (nv + work.length) (top ++ bottom)).map (fun x => (x.take nv, x.drop nv))

/-- The first constraint outside the working set that blocks a step, with the share of the step it allows. -/
def HzProblem.blocking (q : HzProblem) (z p : List Num) (work : List Nat) : Option (Nat × Num) :=
  (List.range q.cons.length).foldl (fun (best : Option (Nat × Num)) c =>
    if work.contains c then best
    else
      let a := q.cons.getD c []
      let slope := dotNum (a.drop 1) p
      if slope.n ≤ 0 then best
      else
        let share := (((a.eval z).neg.div slope).max Num.zero).norm
        let limit := match best with | some b => b.2 | none => Num.int 1
        if share.lt limit then some (c, share) else best) none

/-- How a zone ends: the outcome's code, the iterations used, the point, and the time in 10 µs. -/
structure HzEnd where
  code : Nat
  iter : Nat
  z : List Num
  time : Nat

/-- The index of the least multiplier, where it is negative. -/
def dropIndex (l : List Num) : Option Nat :=
  ((List.range l.length).foldl (fun (b : Option (Nat × Num)) i =>
    let v := l.getD i Num.zero
    let low := match b with | some e => e.2 | none => Num.zero
    if v.lt low then some (i, v) else b) none).map (·.1)

/-- The iterations of R159, `fuel` of them left, the time after the n-th being `clock n`. -/
def HzProblem.iterate (q : HzProblem) (nv : Nat) (clock : Nat → Nat) (limit : Nat) : Nat → List Nat → List Num → HzEnd
  | 0, _, z => { code := 2, iter := 24, z := z, time := clock 24 }
  | fuel + 1, work, z =>
    let n := 24 - fuel
    let stop (code : Nat) (z : List Num) : HzEnd := { code := code, iter := n, z := z, time := clock n }
    match q.equality nv z work with
    | none => stop 5 z
    | some (p, mult) =>
      let step := q.blocking z p work
      let share := match step with | some b => b.2 | none => Num.int 1
      let z := (z.zip p).map (fun e => (e.1.add (share.mul e.2)).norm)
      let more (work : List Nat) : HzEnd := if limit ≤ clock n then stop 3 z else q.iterate nv clock limit fuel work z
      if (Num.block z).2 || (Num.block mult).2 then stop 5 z
      else
        match step with
        | some b => more (work ++ [b.1])
        | none =>
          match dropIndex mult with
          | none => stop 1 z
          | some i => more (work.eraseIdx i)

/-! ### The start -/

/-- The last plan, shifted, its last step repeated, each move clipped to its rate and then to its bounds; the committed inputs where there is no plan
(R159). -/
def HzIn.startInputs (k : HzIn) (plan : List Word) : List Num :=
  (k.moves.foldl (fun (a : List Num) e =>
    let idx := min (e.1 * k.d.m + e.2) (plan.length - k.d.m + e.2)
    let want := match plan[idx]? with | some w => Num.ofBf w | none => k.u.getD e.2 Num.zero
    let before := if e.1 = 0 then k.u.getD e.2 Num.zero else a.getD ((e.1 - 1) * k.d.m + e.2) Num.zero
    let step := k.item 216 e.2
    a ++ [((want.clamp (before.sub step) (before.add step)).clamp (k.umin e.2) (k.umax e.2)).norm]) [])

/-- The start point: the inputs, and each slack the largest violation of its output's bounds. -/
def HzIn.start (k : HzIn) (plan : List Word) : List Num :=
  let us := k.startInputs plan
  let z0 := us ++ List.replicate k.d.p Num.zero
  us ++ (List.range k.d.p).map (fun j => k.outputs.foldl (fun (m : Num) l =>
    let y := (l.getD j []).eval z0
    ((m.max (y.sub (k.item 224 j))).max ((k.item 220 j).sub y)).norm) Num.zero)

/-- The first working set: the bound each input of the start lies at. -/
def HzIn.startSet (k : HzIn) (z : List Num) : List Nat :=
  (List.range (k.d.hor * k.d.m)).filterMap (fun i =>
    let v := z.getD i Num.zero
    if (k.umax (i % k.d.m)).le v then some (4 * i) else if v.le (k.umin (i % k.d.m)) then some (4 * i + 1) else none)

/-- A zone's problem formed and solved (R158, R159). -/
def HzIn.solve (k : HzIn) (plan : List Word) (clock : Nat → Nat) (limit : Nat) : HzEnd :=
  let q := k.problem
  let z := k.start plan
  if !q.fits k.vars || (Num.block z).2 then { code := 5, iter := 0, z := z, time := clock 0 }
  else q.iterate k.vars clock limit 24 (k.startSet z) z

/-- The inputs of a point as the plan holds them: one block for each step (R158). -/
def HzIn.planWords (k : HzIn) (z : List Num) : List Word :=
  (List.range k.d.hor).flatMap (fun i =>
    let b := (laneBlock ((z.drop (i * k.d.m)).take k.d.m)).1
    (List.range k.d.m).map b.laneWord)

end Sys2Proof.Machine
end

