-- ==== Sys2Proof/Machine/Horizon.lean ====
section
/-! DEFINITION. The horizon unit of the loop engine (R157 to R160). -/

namespace Sys2Proof.Machine

/-- A zone replaced. -/
def State.setZone (s : State) (z : Nat) (x : ZoneSt) : State :=
  { s with loop := { s.loop with zones := Tab.set (fun _ => ZoneSt.zero) s.loop.zones z x } }

/-- The checks of a commit (R157). -/
def modelOk (t : Tab Word) : Bool :=
  let d := hzDims (modelWord t 244)
  let v := fun i => Num.ofBf (modelWord t i)
  let dim := fun lo hi x => decide (lo ≤ x) && decide (x ≤ hi)
  dim 1 8 d.hor && dim 1 8 d.n && dim 1 4 d.m && dim 1 4 d.p && dim 0 4 d.q &&
    (List.range d.m).all (fun j => decide (0 < (v (196 + j)).n) && (v (208 + j)).le (v (212 + j)) && decide (0 < (v (216 + j)).n)) &&
    (List.range d.p).all (fun j => decide (0 < (v (204 + j)).n)) && t.all (fun e => decide (e.1 < 245))

/-- COMMIT of the window's model (R157): in effect from the next B7 bell. -/
def State.modelCommit (s : State) : State :=
  let z := s.fld Reg.LOOP_HZ_SEL 5 0
  let x := s.zone z
  if modelOk x.staged then
    (s.setZone z { x with next := some x.staged }).setFld (Reg.LOOP_HZ_ZCFG z) 17 1 (bits (modelWord x.staged 244) 17 1)
  else s.setBit Reg.LOOP_HZ_STAT 7 true

/-- The model a zone has committed, in effect or waiting for the next B7 bell. -/
def ZoneSt.committed (x : ZoneSt) : Option (Tab Word) := x.next.or x.model

/-- The slots, measured outputs, disturbances and targets of a model. -/
def modelSlots (t : Tab Word) : List Nat := (List.range (hzDims (modelWord t 244)).m).map (fun j => bits (modelWord t (228 + j)) 10 0)
def modelPoints (t : Tab Word) (base n : Nat) : List PointIdx := (List.range n).map (fun j => BitVec.ofNat 14 (bits (modelWord t (base + j)) 13 0))

/-- Every slot of a zone without a planned move; those in PLAN fall back to their own law (R160). -/
def State.dropPlan (s : State) (t : Tab Word) : State :=
  (modelSlots t).foldl (fun s n =>
    let x := s.slot n
    s.setSlot n { x with plan := none, fallback := x.fallback || decide (x.active = 4) }) s

/-- A zone's outcome (R160): 1 SOLVED, 2 ITER_LIMIT, 3 DEADLINE, 4 INPUT, 5 OVERFLOW, at a time after the bell in 10 µs. -/
def State.hzOutcome (s : State) (z : Nat) (t : Tab Word) (code iter at10 : Nat) (plan : List Word) (cost : Word) : State :=
  let s := s.wr (Reg.LOOP_HZ_ZSTAT z) (wd (code + iter * 8 + (at10 % 2 ^ 24) * 256))
  if code = 1 then
    let x := s.zone z
    let s := (s.setZone z { x with plan := plan, since := 0 }).wr (Reg.LOOP_HZ_ZCOST z) (cost &&& 0x3FFFFFFF)
    let s := s.setFld Reg.LOOP_HZ_STAT 6 0 (s.fld Reg.LOOP_HZ_STAT 6 0 + 1)
    ((modelSlots t).zip plan).foldl (fun s p =>
      let y := s.slot p.1
      if y.req = 2 ∧ (y.active = 2 ∨ y.active = 4) then s.setSlot p.1 { y with plan := some p.2, fallback := false }
      else s.setSlot p.1 { y with fallback := false }) s
  else
    let s := (s.dropPlan t).setFld Reg.LOOP_HZ_STAT 14 8 (s.fld Reg.LOOP_HZ_STAT 14 8 + 1)
    ((s.inc Reg.LOOP_HZ_DROP_CNT).inc (Reg.LOOP_HZ_ZDROP z)).record
      { sev := 3, source := 0x06, code := 160, args := [wd z, wd code, s.rd Reg.LOOP_HZ_BELL] }

/-- One zone at a B7 bell (R159), `at10` being the time it begins and `limit` the deadline; the answer is the state and the time it ends. -/
def State.hzZone (s : State) (z : Nat) (t : Tab Word) (at10 limit : Nat) : State × Nat :=
  let bell := s.rd Reg.LOOP_HZ_BELL
  let clock := fun (n : Nat) => at10 + min 40 (Config.hzTime z bell 0) + ((List.range n).map (fun i => min 8 (Config.hzTime z bell (i + 1)))).sum
  let fin := clock 0
  let d := hzDims (modelWord t 244)
  let slots := modelSlots t
  let ys := modelPoints t 232 d.p
  let ds := modelPoints t 236 d.q
  let rs := modelPoints t 240 d.p
  let outs := slots.filterMap (fun n => (s.slot n).bind.map (fun b => (n, b.out)))
  let bad := fun l => l.any (fun i => s.levelOf i == 3)
  if outs.length < slots.length ∨ bad (outs.map (·.2)) ∨ bad ds then (s.hzOutcome z t 4 0 fin [] 0, fin)
  else
    let x := s.zone z
    let u := outs.map (fun p => s.committedOut (s.slot p.1) p.2)
    let dv := ds.map s.laneIn
    let dn := dv.map (fun e => e.1)
    let xh := (List.range d.n).map (fun i => x.xh.lane i)
    let pred := (List.range d.n).map (fun i =>
      ((rowMul t (8 * i) xh).add (rowMul t (64 + 4 * i) u)).add (rowMul t (96 + 4 * i) dn))
    let (b, f) := laneBlock pred
    if f || dv.any (fun e => e.2) then (s.hzOutcome z t 5 0 fin [] 0, fin)
    else
      let s := s.setZone z { x with xh := b }
      if bad ys ∨ bad rs then (s.hzOutcome z t 4 0 fin [] 0, fin)
      else
        let yv := ys.map s.laneIn
        let rv := rs.map s.laneIn
        let xp := (List.range d.n).map (fun i => b.lane i)
        let err := (List.range d.p).map (fun j => ((yv.getD j (Num.zero, false)).1).sub (rowMul t (128 + 8 * j) xp))
        let (b2, f2) := laneBlock ((List.range d.n).map (fun i => (xp.getD i Num.zero).add (rowMul t (160 + 4 * i) err)))
        if f2 || (yv ++ rv).any (fun e => e.2) then (s.hzOutcome z t 5 0 fin [] 0, fin)
        else
          let s := s.setZone z { s.zone z with xh := b2 }
          let k : HzIn :=
            { t := t, d := d, x := (List.range d.n).map b2.lane, u := u, dist := dn, r := rv.map (fun e => e.1),
              held := slots.map (fun n => (s.slot n).active != 2 && (s.slot n).active != 4) }
          let e := k.solve ((s.zone z).plan.drop ((s.zone z).since * d.m)) clock limit
          let (cost, tooBig) := (k.problem.cost e.z).toBf
          let code := if e.code = 1 && tooBig then 5 else e.code
          (s.hzOutcome z t code e.iter e.time (k.planWords e.z) cost, e.time)

/-- The horizon unit at a B7 bell (R157, R159): models committed since the last bell take effect; zones with EN = 1 in ascending order;
those not begun before DEADLINE wait for HZ_DEADLINE. -/
def State.horizonBell (s : State) : State :=
  let zs := s.loop.zones.map (·.1)
  let s := zs.foldl (fun s z =>
    let x := s.zone z
    match x.next with
    | some m => s.setZone z { x with model := some m, next := none, xh := BReg.zero, plan := [], since := 0 }
    | none => s.setZone z { x with since := if x.plan.isEmpty then 0 else x.since + 1 }) s
  if !s.bit Reg.LOOP_CTRL 2 then s
  else
    let s := (s.wr Reg.LOOP_HZ_BELL (s.rd (Reg.SCAN_BELL_CNT 7)))
    let s := (s.setFld Reg.LOOP_HZ_STAT 6 0 0).setFld Reg.LOOP_HZ_STAT 14 8 0
    let s := { s with loop := { s.loop with busy := [] } }
    let limit := s.fld Reg.LOOP_HZ_CFG 15 0 * 100
    (zs.foldl (fun (a : State × Nat) z =>
      let (s, t) := a
      match (s.zone z).model with
      | none => (s, t)
      | some m =>
        if !s.bit (Reg.LOOP_HZ_ZCFG z) 0 then
          (if s.fld (Reg.LOOP_HZ_ZSTAT z) 2 0 = 0 then s else (s.dropPlan m).wr (Reg.LOOP_HZ_ZSTAT z) 0, t)
        else if limit ≤ t then ({ s with loop := { s.loop with busy := s.loop.busy ++ [z] } }, t)
        else s.hzZone z m t limit) (s, 0)).1

/-- The deadline passes for a zone still to be worked through (R159). -/
def State.hzDeadline (s : State) (z : Nat) : State :=
  if s.loop.busy.contains z then
    let s := { s with loop := { s.loop with busy := s.loop.busy.filter (· != z) } }
    match (s.zone z).model with
    | some m => s.hzOutcome z m 3 0 (s.fld Reg.LOOP_HZ_CFG 15 0 * 100) [] 0
    | none => s
  else s

end Sys2Proof.Machine
end

