-- ==== Sys2Proof/Machine/LoopMsg.lean ====
section
/-! DEFINITION. Messages to the loop engine (R155, R156) and host writes of its registers. -/

namespace Sys2Proof.Machine

/-- A point usable as an input of the engine (R135). -/
def State.inputType (s : State) (i : PointIdx) : Bool := [1, 2, 5, 6].contains (bits ((s.point i).word 3) 3 0)

/-- The binding a BIND message asks for (R155). -/
def bindOf (p : List Word) : Nat × SlotBind :=
  let w := fun i => p.getD i 0
  (bits (w 0) 10 0,
   { cls := BitVec.ofNat 3 (bits (w 0) 13 11), law := BitVec.ofNat 3 (bits (w 0) 16 14), spPt := bitOf (w 0) 17, ffEn := bitOf (w 0) 18,
     trackEn := bitOf (w 0) 19, fb := BitVec.ofNat 14 (bits (w 1) 13 0), out := BitVec.ofNat 14 (bits (w 1) 29 16),
     sp := BitVec.ofNat 14 (bits (w 2) 13 0), ff := BitVec.ofNat 14 (bits (w 2) 29 16), track := BitVec.ofNat 14 (bits (w 3) 13 0) })

/-- The cascade chains with a new binding in place stay within R142: the inner slot at the outer's class or a faster one, at most four
slots, no circle. -/
def cascadesOk (l : List (Nat × SlotBind)) : Bool :=
  l.all (fun p => decide (cascadeLevel l 5 p.2 < 4) && l.all (fun q => !(p.2.spPt && p.2.sp == q.2.out) || decide (p.2.cls.toNat ≤ q.2.cls.toNat)))

/-- A binding is allowed (R135, R136, R142). -/
def State.bindAllowed (s : State) (n : Nat) (b : SlotBind) : Bool :=
  let d := (s.point b.out).word 3
  let typ := bits d 3 0
  let others := s.boundSlots
  decide (1 ≤ b.law.toNat) && decide (b.law.toNat ≤ 3) && decide ((s.point b.out).producer = 1) &&
    ([1, 5, 6].contains typ || (typ == 0 && b.law == 3)) && b.inputs.all s.inputType &&
    !others.any (fun p => p.2.out == b.out) && !s.loop.ops.toList.any (fun o => o.bind.any (fun p => p.1 == b.out)) &&
    b.inputs.all (fun i => s.mayRead (s.slotOwner n) i) && cascadesOk ((n, b) :: others)

/-- The words of a message have no reserved bit set. -/
def cleanWords (p : List Word) (masks : List Word) : Bool :=
  decide (p.length = masks.length) && (p.zip masks).all (fun x => x.1 &&& ~~~x.2 == 0)

/-- The zone, an item and its place in the model for a ZONE message (R155). -/
def zoneItem (item : Nat) : Option (Nat × Bool × Nat) :=
  if item = 0 ∨ 16 < item then none
  else some (208 + (item - 1) % 4 + (if 13 ≤ item then 16 else if 9 ≤ item then 12 else if 5 ≤ item then 4 else 0), decide (9 ≤ item), (item - 1) % 4)

/-- Whether the engine, as it stands with its queue applied, accepts a message; otherwise it completes with REJECTED (R155). -/
def State.loopAccepts (s : State) (m : EngMsg) : Bool :=
  let p := m.payload
  let w := fun i => p.getD i 0
  let slot := bits (w 0) 10 0
  let bound := (s.slot slot).bind.isSome
  let fast := s.variant != 1
  match m.typ.toNat with
  | 0x001 =>
    let (n, b) := bindOf p
    cleanWords p [0xFFFFF, 0x3FFF3FFF, 0x3FFF3FFF, 0x3FFF] &&
      (match (s.slot n).bind with
       | some old => old == b
       | none => s.bindAllowed n b)
  | 0x002 => cleanWords p [0x7FF] && bound
  | 0x003 => cleanWords p [0x800F07FF, 0x3FFFFFFF] && bound
  | 0x004 =>
    let track := match (s.slot slot).bind with | some b => b.trackEn | none => false
    cleanWords p [0x707FF, 0x3FFFFFFF] && decide (bits (w 0) 18 16 ≤ 3) && (decide (bits (w 0) 18 16 ≠ 3) || track)
  | 0x010 =>
    let d := bits (w 0) 3 0
    let out : PointIdx := BitVec.ofNat 14 (bits (w 1) 13 0)
    let vb : PointIdx := BitVec.ofNat 14 (bits (w 1) 29 16)
    let new := (out, if bitOf (w 0) 4 then some vb else none)
    fast && cleanWords p [0x1F, 0x3FFF3FFF] &&
      ((s.oper d).bind == some new ||
        (s.opMode d == 0 && !s.bit (Reg.FIELD_GEN_CFG d) 0 && decide (bits ((s.point out).word 3) 3 0 = 1) && decide ((s.point out).producer = 1) && (!bitOf (w 0) 4 || s.inputType vb)))
  | 0x011 => fast && cleanWords p [0x8007003F, 0x3FFFFFFF] && decide (bits (w 0) 5 0 < 48) && (s.oper (bits (w 0) 5 0 / 3)).bind.isSome
  | 0x012 => fast && cleanWords p [0x7000F] && decide (bits (w 0) 18 16 ≤ 3) && (s.opMode (bits (w 0) 3 0) != 5 || bits (w 0) 18 16 == 0)
  | 0x013 => fast && cleanWords p [0xF, 0xFFFFFFFF] && (s.oper (bits (w 0) 3 0)).bind.isSome
  | 0x020 =>
    cleanWords p [0x1FFF, 0x3FFFFFFF] &&
      (match (s.zone (bits (w 0) 5 0)).committed with
       | none => false
       | some t =>
         let d := hzDims (modelWord t 244)
         bits (w 0) 12 8 == 0 ||
           (match zoneItem (bits (w 0) 12 8) with
            | some (_, isOut, j) => decide (j < if isOut then d.p else d.m)
            | none => false))
  | 0x030 => cleanWords p [0] && decide (s.fld Reg.LOOP_TR_STAT 1 0 = 1)
  | _ => false

/-- The effect of an accepted message (R155). -/
def State.loopApply (s : State) (m : EngMsg) : State :=
  let p := m.payload
  let w := fun i => p.getD i 0
  let slot := bits (w 0) 10 0
  match m.typ.toNat with
  | 0x001 => let (n, b) := bindOf p; if (s.slot n).bind = some b then s else s.slotBind n b
  | 0x002 => s.slotUnbind slot
  | 0x003 => let s := s.slotStage slot (bits (w 0) 19 16) (w 1); if bitOf (w 0) 31 then s.slotApply slot else s
  | 0x004 =>
    let mode := bits (w 0) 18 16
    let x := s.slot slot
    let s := if mode = 1 then s.setSlot slot { x with staged := x.staged.setIfInBounds 12 (w 1), act := x.act.setIfInBounds 12 (w 1) } else s
    s.slotReq slot mode
  | 0x010 =>
    let d := bits (w 0) 3 0
    let new := (BitVec.ofNat 14 (bits (w 1) 13 0), if bitOf (w 0) 4 then some (BitVec.ofNat 14 (bits (w 1) 29 16)) else none)
    if (s.oper d).bind = some new then s
    else ((s.setFld (Reg.LOOP_STG_MODE (3 * d)) 2 0 0).setOpMode d 0).setOper d { (s.oper d).clear with bind := some new }
  | 0x011 =>
    let st := bits (w 0) 5 0
    let s := s.wr (Reg.LOOP_STG_PARAM st (bits (w 0) 18 16)) (w 1)
    if bitOf (w 0) 31 then s.stageApply st else s
  | 0x012 => s.opReq (bits (w 0) 3 0) (bits (w 0) 18 16)
  | 0x013 => s.wr (Reg.LOOP_STG_TARGET (3 * bits (w 0) 3 0 + 2)) (w 1)
  | 0x020 =>
    let z := bits (w 0) 5 0
    let s := if bitOf (w 0) 6 then s.setBit (Reg.LOOP_HZ_ZCFG z) 0 (bitOf (w 0) 7) else s
    match zoneItem (bits (w 0) 12 8) with
    | some (i, _, _) =>
      let x := s.zone z
      let put := fun t => Tab.set (fun _ => (0 : Word)) t i (w 1)
      s.setZone z { x with staged := put x.staged, model := x.model.map put, next := x.next.map put }
    | none => s
  | 0x030 => s.traceTrigger
  | _ => s

/-- Every accepted message applied, in order (R156). -/
def State.loopSettle (s : State) : State := s.scan.loopQ.foldl State.loopApply { s with scan := { s.scan with loopQ := [] } }

/-- The message at the front of the queue applied, where it is of a type. -/
def State.loopFront (s : State) (typ : Nat) : State :=
  match s.scan.loopQ with
  | m :: rest => if m.typ.toNat = typ then ({ s with scan := { s.scan with loopQ := rest } } : State).loopApply m else s
  | [] => s

/-- The resources whose MSG right a message needs (R155): roster kind and number; none where it needs the rights of tenant 0. -/
def State.loopRights (s : State) (m : EngMsg) : Option (List (Nat × Nat)) :=
  let w := m.payload.getD 0 0
  let three := fun d => [(4, 3 * d), (4, 3 * d + 1), (4, 3 * d + 2)]
  match m.typ.toNat with
  | 0x010 => some (three (bits w 3 0))
  | 0x011 => some [(4, bits w 5 0)]
  | 0x012 => some (three (bits w 3 0))
  | 0x013 => some [(4, 3 * bits w 3 0 + 2)]
  | 0x020 => some (match (s.zone (bits w 5 0)).committed with
      | some t => (modelSlots t).map (fun n => (3, n))
      | none => [])
  | 0x030 => none
  | _ => some [(3, bits w 10 0)]

/-- The slot window latched (R156, LOOP_SLOT_SEL). -/
def State.slotLatch (s : State) (n : Nat) : State :=
  let s := s.wr Reg.LOOP_SLOT_SEL (wd (n % 2048))
  { s with loop := { s.loop with win := s.slot (n % 2048) } }

/-- Trace commands (LOOP_TR_CTRL). -/
def State.traceCmd (s : State) (cmd : Nat) : State :=
  match cmd with
  | 1 => s.traceArm
  | 2 => s.traceTrigger
  | 3 => s.traceStop
  | _ => s

/-- A host write in the LOOP block that is not a plain register write; none for the others. -/
def State.loopWrite (s : State) (a : Nat) (v : Word) : Option State :=
  let n := s.fld Reg.LOOP_SLOT_SEL 10 0
  let x := s.slot n
  if a = Reg.LOOP_CTRL then some (s.wr a (if s.variant = 1 then v &&& 5 else v &&& 7))
  else if a = Reg.LOOP_SLOT_SEL then some (s.slotLatch (bits v 10 0))
  else if a = Reg.LOOP_SLOT_CFG then
    some (s.setSlot n { x with notchEn := bitOf v 10, feAction := BitVec.ofNat 2 (bits v 12 11), dwellCfg := BitVec.ofNat 5 (bits v 17 13) })
  else if a = Reg.LOOP_SLOT_MODE then some (s.slotReq n (bits v 2 0))
  else if a = Reg.LOOP_SLOT_FE then some (s.setSlot n { x with feTime := BitVec.ofNat 16 (bits v 15 0) })
  else if a = Reg.LOOP_SLOT_CMD then some (if bitOf v 0 then s.slotApply n else s)
  else if Reg.LOOP_SLOT_PARAM 0 ≤ a ∧ a ≤ Reg.LOOP_SLOT_PARAM 15 then some (s.slotStage n ((a - Reg.LOOP_SLOT_PARAM 0) / 4) v)
  else if 0x061000 ≤ a ∧ a < 0x061C00 then
    let st := (a - 0x061000) / 0x40
    let k := st % 3
    if s.variant = 1 then some s
    else match a % 0x40 with
      | 0x00 => some (if k = 0 then s.opReq (st / 3) (bits v 2 0) else s)
      | 0x08 => some (s.wr a (if k = 1 then v &&& 0x7FFFF else v &&& 0x3FFFF))
      | 0x0C =>
        if k = 2 then some (s.wr a v)
        else if k = 1 then some s
        else
          let s := if bits v 3 0 = 0 then s else s.setFld a 3 0 (bits v 3 0)
          some (if bits v 15 8 < 8 ∨ 160 < bits v 15 8 then s else s.setFld a 15 8 (bits v 15 8))
      | 0x10 => some (if k = 0 then s.wr a (v &&& 0xFFFFFF) else s)
      | 0x14 => some (if k = 0 then s.wr a (v &&& 0xFFFFFF) else s)
      | 0x18 => some (if bitOf v 0 then s.stageApply st else s)
      | _ => none
  else if a = Reg.LOOP_HZ_CFG then some (if bits v 15 0 < 100 ∨ 50000 < bits v 15 0 then s else s.wr a (v &&& 0xFFFF))
  else if a = Reg.LOOP_HZ_CMD then some (if bitOf v 0 then s.modelCommit else s)
  else if Reg.LOOP_HZ_WIN 0 ≤ a ∧ a ≤ Reg.LOOP_HZ_WIN 511 then
    let z := s.fld Reg.LOOP_HZ_SEL 5 0
    let y := s.zone z
    some (s.setZone z { y with staged := Tab.set (fun _ => 0) y.staged ((a - Reg.LOOP_HZ_WIN 0) / 4) v })
  else if a = Reg.LOOP_TR_CTRL then some (s.traceCmd (bits v 1 0))
  else none

/-- Engine configuration cleared at a start of the scan fabric and at LOAD (R136): bindings, modes and parameters of slots and operators. -/
def State.loopClear (s : State) : State :=
  let s := (List.range 16).foldl (fun s d => (s.setFld (Reg.LOOP_STG_MODE (3 * d)) 2 0 0).setOpMode d 0) s
  let s := (List.range 48).foldl (fun s st =>
    (List.range 8).foldl (fun s i => s.wr (Reg.LOOP_STG_PARAM st i) 0) ((s.wr (Reg.LOOP_STG_STAT st) 0).wr (Reg.LOOP_STG_FE st) 0)) s
  { s with loop := { s.loop with slots := [], ops := Vector.replicate 16 OperSt.zero, late := [] }, scan := { s.scan with loopQ := [] } }

end Sys2Proof.Machine
end

