-- ==== Sys2Proof/Machine/DispOps.lean ====
section
/-! DEFINITION. The dispatch assist unit (R182 to R191). -/

namespace Sys2Proof.Machine

/-! ### Calls (R182, R183) -/

/-- A call slot of a table. -/
def callAt (t : Tab CallSt) (k : Nat) : CallSt := Tab.get (fun _ => CallSt.zero) t k

/-- A call slot of a table set. -/
def putCall (t : Tab CallSt) (k : Nat) (x : CallSt) : Tab CallSt := Tab.set (fun _ => CallSt.zero) t k x

/-- A car is dispatched (DISP_CAR_PTS1.EN). -/
def State.carDispatched (s : State) (c : Nat) : Bool := s.bit (Reg.DISP_CAR_PTS1 c) 16

/-- The call a CALL_ADD payload describes, accepted at a count. -/
def callOf (p : List Word) (born : Nat) : CallSt :=
  let w := p.getD 0 0
  let w1 := p.getD 1 0
  let kind := BitVec.ofNat 2 (bits w 15 14)
  { state := if kind = 3 then 4 else 1, kind := kind, car := ⟨bits w 18 16 % 8, Nat.mod_lt _ (by decide)⟩, rear := bitOf w 19,
    orig := BitVec.ofNat 7 (bits w 6 0), dest := BitVec.ofNat 7 (bits w 13 7), group := if bits w 23 20 = 0 then 1 else BitVec.ofNat 4 (bits w 23 20),
    answer := if bitOf w1 15 then some (BitVec.ofNat 14 (bits w1 13 0)) else none, born := born, reassigned := false, placed := kind == 3, wait := 0 }

/-- The landings of a call are all served by one enabled car (R182). -/
def State.callServed (s : State) (x : CallSt) : Bool :=
  let serves := fun c => s.carDispatched c && (x.kind == 3 || s.landing c x.orig.toNat) && (x.kind == 1 || x.kind == 2 || s.landing c x.dest.toNat)
  if x.kind = 3 then serves x.car.val else (List.range 8).any serves

/-- A live call a new one is merged into (R183). -/
def mergeInto (t : Tab CallSt) (x : CallSt) : Option Nat :=
  (t.find? (fun p =>
    let y := p.2
    y.kind == x.kind && y.orig == x.orig && y.rear == x.rear &&
      (if x.kind = 0 then y.dest == x.dest && [1, 2, 3].contains y.state.toNat else (x.kind == 1 || x.kind == 2) && y.state != 0))).map (·.1)

/-- The lowest FREE slot. -/
def freeCall (t : Tab CallSt) : Option Nat := (List.range 256).find? (fun k => (callAt t k).state == 0)

/-- Where a call goes (R183): the slot it is merged into, or a FREE one. -/
def placeCall (t : Tab CallSt) (x : CallSt) : Option (Nat × Bool) :=
  match mergeInto t x with
  | some k => some (k, true)
  | none => (freeCall t).map (fun k => (k, false))

/-- A call added at a slot, or its persons added to the call there. -/
def addCall (t : Tab CallSt) (x : CallSt) (k : Nat) (merged : Bool) : Tab CallSt :=
  if merged then
    let y := callAt t k
    if y.state = 0 then t else putCall t k { y with group := BitVec.ofNat 4 (min 15 (y.group.toNat + x.group.toNat)) }
  else putCall t k x

/-- The calls with every queued CALL_ADD in place: what an acceptance is checked against. -/
def State.callsAhead (s : State) : Tab CallSt :=
  s.scan.dispQ.foldl (fun t m =>
    if m.typ.toNat = 1 then
      let r := m.payload.getD 2 0
      addCall t (callOf m.payload m.came) (bits r 7 0) (bitOf r 8)
    else t) s.disp.calls

/-- Whether a message is accepted (R183). -/
def State.dispAccepts (s : State) (m : EngMsg) : Bool :=
  let p := m.payload
  let w := p.getD 0 0
  let t := s.callsAhead
  match m.typ.toNat with
  | 1 =>
    let x := callOf p 0
    cleanWords p [0xFFFFFF, 0xBFFF] && (placeCall t x).isSome && s.callServed x && (x.kind != 3 || x.orig == 0) &&
      (!(x.kind == 1 || x.kind == 2) || x.dest == 0) && (x.kind != 0 || x.orig != x.dest) &&
      (match x.answer with
       | some i => s.pointIs i 4 2 && !t.any (fun q => q.2.state != 0 && q.2.answer == some i)
       | none => true)
  | 2 => cleanWords p [0xFF] && (callAt t (bits w 7 0)).state != 0
  | 3 => cleanWords p [0x7FF] && s.carDispatched (bits w 2 0)
  | _ => false

/-- A CALL_ADD refused because the table is full (DISP_FULL_CNT). -/
def State.dispFull (s : State) (m : EngMsg) : Bool := m.typ.toNat == 1 && (placeCall s.callsAhead (callOf m.payload 0)).isNone

/-- The receipt word of a CALL_ADD (R183): the slot and MERGED. -/
def State.callReceipt (s : State) (m : EngMsg) : Word :=
  match placeCall s.callsAhead (callOf m.payload 0) with
  | some (k, merged) => wd (k + 256 * merged.toNat)
  | none => 0

/-- VALUE and VALUE_HI of an answer point (R190). -/
def answerWords (x : CallSt) (k : Nat) (cancelled served : Bool) : List Word :=
  let on := x.state == 2 || x.state == 3
  [wd ((if x.placed then x.car.val else 15) + 16 * on.toNat + 32 * (x.state == 3).toNat + 64 * (x.reassigned && on).toNat + 128 * cancelled.toNat +
    256 * served.toNat + 512 * k), wd (min x.wait 0xFFFFFFFF)]

/-- A call becomes FREE; its last answer is committed with the next cycle. -/
def State.freeTheCall (s : State) (k : Nat) (cancelled : Bool) : State :=
  let x := s.call k
  let ended := match x.answer with
    | some i => s.disp.ended ++ [(i, answerWords { x with state := 0 } k cancelled (!cancelled))]
    | none => s.disp.ended
  { s with disp := { s.disp with calls := putCall s.disp.calls k CallSt.zero, ended := ended } }

/-- The landings a call needs of its car's list: its pickup while it waits, its dropoff where it has one. -/
def CallSt.needs (x : CallSt) : List Nat :=
  let drop := if x.kind = 0 ∨ x.kind = 3 then [x.dest.toNat] else []
  if x.state = 4 then [x.dest.toNat] else x.orig.toNat :: drop

/-- A call rides on a car. -/
def CallSt.onCar (x : CallSt) (c : Nat) : Bool := [2, 3, 4].contains x.state.toNat && x.car.val == c

/-- The calls of a car. -/
def carCalls (t : Tab CallSt) (c : Nat) : List (Nat × CallSt) := t.filter (fun p => p.2.onCar c)

/-- The car stood at a landing with doors open on a side (R183): a stop that none of its calls needs any more leaves its list. -/
def State.stopDone (s : State) (c l : Nat) (rear : Bool) : State :=
  let mine := s.disp.calls.filter (fun p => p.2.car.val == c && p.2.rear == rear)
  let s := mine.foldl (fun s p =>
    let x := p.2
    if (x.state = 2 ∨ x.state = 3) ∧ x.orig.toNat = l then
      if x.kind = 0 then { s with disp := { s.disp with calls := putCall s.disp.calls p.1 { x with state := 4 } } } else s.freeTheCall p.1 false
    else if x.state = 4 ∧ x.dest.toNat = l then s.freeTheCall p.1 false else s) s
  let list := (s.disp.lists.toList.getD c []).filterMap (fun q =>
    if q.landing.toNat = l then
      (if (carCalls s.disp.calls c).any (fun p => p.2.needs.contains l) then some { q with committed := false, front := false, rear := false } else none)
    else some q)
  { s with disp := { s.disp with lists := s.disp.lists.setIfInBounds c list } }

/-- The effect of an accepted message (R183). -/
def State.dispApply (s : State) (m : EngMsg) : State :=
  let w := m.payload.getD 0 0
  match m.typ.toNat with
  | 1 =>
    let r := m.payload.getD 2 0
    { s with disp := { s.disp with calls := addCall s.disp.calls (callOf m.payload m.came) (bits r 7 0) (bitOf r 8) } }
  | 2 => if (s.call (bits w 7 0)).state = 0 then s else s.freeTheCall (bits w 7 0) true
  | 3 => s.stopDone (bits w 2 0) (bits w 9 3) (bitOf w 10)
  | _ => s

/-- The message at the front of the queue applied, where it is of a type. -/
def State.dispFront (s : State) (typ : Nat) : State :=
  match s.scan.dispQ with
  | m :: rest => if m.typ.toNat = typ then ({ s with scan := { s.scan with dispQ := rest } } : State).dispApply m else s
  | [] => s

/-- Every accepted message applied, in order (R184 step 1). -/
def State.dispSettle (s : State) : State := s.scan.dispQ.foldl State.dispApply { s with scan := { s.scan with dispQ := [] } }

/-! ### The cycle (R184 to R188) -/

/-- A car at the snapshot: its position and speed in 1/16 mm, its position state, its load, and its motion limits. -/
structure CarSnap where
  pos : Int
  vel : Int
  state : Nat
  eligible : Bool
  full : Bool
  v : Nat
  a : Nat
  j : Nat
  stopT : Num
  lands : List (Nat × Int)

/-- A time brought to 2^−32 s (log entry 33). -/
def Num.quant (q : Num) : Num := ⟨divRne (q.n * 2 ^ 32) q.d, 2 ^ 32⟩

/-- The snapshot of a car (R184, R185). -/
def State.carSnap (s : State) (c : Nat) : CarSnap :=
  let i : PointIdx := BitVec.ofNat 14 (s.fld (Reg.LIFT_CAR_CFG c) 13 0)
  let mode : PointIdx := BitVec.ofNat 14 (s.fld (Reg.DISP_CAR_PTS0 c) 29 16)
  let load : PointIdx := BitVec.ofNat 14 (s.fld (Reg.DISP_CAR_PTS1 c) 13 0)
  let st := bits (s.pointWord i 15) 1 0
  { pos := (s.pointWord i 0).toInt, vel := (s.pointWord i 12).toInt, state := st,
    eligible := s.carDispatched c && st == 1 && bits (s.pointWord mode 0) 15 0 == 0 && s.levelOf mode != 3 && s.levelOf load != 3 && s.bit (Reg.SAFE_CAR_GRANT c) 5,
    full := decide (s.fld Reg.DISP_CFG 7 0 ≤ (s.pointWord load 0).toNat),
    v := s.fld (Reg.DISP_CAR_KIN0 c) 15 0, a := s.fld (Reg.DISP_CAR_KIN0 c) 31 16, j := s.fld (Reg.DISP_CAR_KIN1 c) 15 0,
    stopT := ⟨s.fld (Reg.DISP_CAR_KIN1 c) 31 16, 100⟩,
    lands := ((List.range 128).filter (s.landing c)).map (fun l => (l, (s.dzLo c l + s.dzHi c l) / 2)) }

/-- The position of a landing: the middle of its zone (log entry 33). -/
def CarSnap.at (x : CarSnap) (l : Nat) : Int := ((x.lands.find? (fun p => p.1 == l)).map (·.2)).getD 0

/-- The time of a run over a distance in 1/16 mm (R187), in seconds. -/
def CarSnap.run (x : CarSnap) (dist : Nat) : Num :=
  if x.v = 0 ∨ x.a = 0 ∨ x.j = 0 then ⟨Config.runTimeOpen dist x.v x.a x.j, 1000⟩
  else
    let sm : Num := ⟨dist, 16⟩
    let aj : Num := ⟨x.a, x.j⟩
    let vr := Num.int x.v
    let full := ((vr.mul vr).mul ⟨1, x.a⟩).add (vr.mul aj)
    let v := if full.le sm then vr
      else ((((aj.mul aj).add ((Num.int 4).mul (sm.mul ⟨1, x.a⟩))).sqrt.sub aj).mul ⟨x.a, 2⟩)
    ((((sm.div v).add (v.mul ⟨1, x.a⟩)).add aj)).quant

/-- The arrival times at the stops of a list, from the snapshot (R187). -/
def CarSnap.arrivals (x : CarSnap) (l : List Nat) : List Num :=
  (l.foldl (fun (acc : List Num × Num × Int) b =>
    let t := acc.2.1.add (x.run (x.at b - acc.2.2).natAbs)
    (acc.1 ++ [t], t.add x.stopT, x.at b)) ([], Num.zero, x.pos)).1

/-- A list with the stops nobody needs taken out; committed stops stay (R188). -/
def pruneList (t : Tab CallSt) (c : Nat) (l : List Stop) : List Stop :=
  let need := (carCalls t c).flatMap (fun p => p.2.needs)
  l.filter (fun q => q.committed || need.contains q.landing.toNat)

/-- A landing lies on the way from a to b, b included. -/
def onWay (a b x : Int) : Bool := (decide (a ≤ x) && decide (x ≤ b)) || (decide (b ≤ x) && decide (x ≤ a))

/-- A landing put into a list at a place, or found there already. -/
def insertStop (l : List Nat) (p : Nat) (x : Nat) : List Nat × Nat :=
  if l[p]? = some x then (l, p)
  else if 0 < p ∧ l[p - 1]? = some x then (l, p - 1)
  else (l.take p ++ [x] ++ l.drop p, p)

/-- The index of the last committed stop of a list, plus one (R188). -/
def committedTo (list : List Stop) : Nat := (((List.range list.length).filter (fun p => (list.getD p ⟨0, false, false, false⟩).committed)).getLast?).elim 0 (· + 1)

/-- The first place from `from'` at which a landing keeps the order of R187. -/
def CarSnap.firstPlace (x : CarSnap) (l : List Nat) (from' : Nat) (land : Nat) : Nat :=
  ((List.range (l.length + 1)).find? (fun p => decide (from' ≤ p) && (p == l.length ||
    onWay (if p = 0 then x.pos else x.at (l.getD (p - 1) 0)) (x.at (l.getD p 0)) (x.at land)))).getD l.length

/-- The direction of a call: up for HALL_UP, down for HALL_DOWN, from its landings for DEST. -/
def CarSnap.callUp (x : CarSnap) (k : CallSt) : Bool :=
  if k.kind = 1 then true else if k.kind = 2 then false else decide (x.at k.orig.toNat < x.at k.dest.toNat)

/-- A placed candidate (R186): the list, the places of pickup and dropoff, and whether it adds a stop. -/
structure Cand where
  list : List Nat
  pick : Nat
  drop : Nat
  added : Bool

/-- The candidates of a call on a car, in list order (R185, R186). A stop is added where the pickup or the dropoff landing is no stop yet (R187); no place
lies before a committed stop (R188). -/
def CarSnap.candidates (x : CarSnap) (t : Tab CallSt) (c : Nat) (list : List Stop) (k : CallSt) : List Cand :=
  let l := list.map (·.landing.toNat)
  let up := x.callUp k
  let done := committedTo list
  let drops := (carCalls t c).filterMap (fun p => if p.2.state = 4 then some p.2.dest.toNat else none)
  let added := !l.contains k.orig.toNat || (k.kind == 0 && !l.contains k.dest.toNat)
  let firstDrop := l.findIdx? (fun b => drops.contains b)
  let place := (List.range (l.length + 1)).filter (fun p =>
    let a := if p = 0 then x.pos else x.at (l.getD (p - 1) 0)
    let b := x.at (l.getD p 0)
    let o := x.at k.orig.toNat
    (p == l.length || (decide (a < b) == up && a != b && onWay a b o)) &&
      (decide (done ≤ p) || l[p]? == some k.orig.toNat) &&
      (if x.full then (match firstDrop with | some q => decide (q < p) | none => false) else true))
  (place.map (fun p =>
    let (l1, pick) := insertStop l p k.orig.toNat
    if k.kind = 0 then
      let later := done + (l1.length - l.length)
      let merged := (List.range l1.length).find? (fun p => decide (pick < p) && decide (p < later) && l1[p]? == some k.dest.toNat)
      let (l2, drop) := match merged with
        | some p => (l1, p)
        | none => insertStop l1 (x.firstPlace l1 (max (pick + 1) done) k.dest.toNat) k.dest.toNat
      { list := l2, pick := pick, drop := drop, added := added }
    else { list := l1, pick := pick, drop := pick, added := added })).filter (fun q => decide (q.list.length ≤ 16))

/-- The place a call on a car has in its list now, as a candidate over the list without it (R186). -/
def presentCand (list base : List Stop) (k : CallSt) : Cand :=
  let l := list.map (·.landing.toNat)
  let b := base.map (·.landing.toNat)
  let pick := l.idxOf k.orig.toNat
  let drop := if k.kind = 0 then pick + 1 + (l.drop (pick + 1)).idxOf k.dest.toNat else pick
  { list := l, pick := pick, drop := drop, added := !b.contains k.orig.toNat || (k.kind == 0 && !b.contains k.dest.toNat) }

/-- The stop at which a call on a car becomes FREE. -/
def CallSt.last (x : CallSt) : Nat := if x.kind = 1 ∨ x.kind = 2 then x.orig.toNat else x.dest.toNat

/-- The time at which the list reaches a landing. -/
def reach (l : List Nat) (ts : List Num) (b : Nat) : Num := ((l.zip ts).find? (fun p => p.1 == b)).elim Num.zero (·.2)

/-- The cost of a candidate (R187) and its wait in seconds; costs in units of 0.1 s, saturating at 2^32 − 1. -/
def CarSnap.score (x : CarSnap) (t : Tab CallSt) (c slot : Nat) (old : List Stop) (w : Nat → Num) (q : Cand) : Num × Num :=
  let ol := old.map (·.landing.toNat)
  let ot := x.arrivals ol
  let nt := x.arrivals q.list
  let wait := nt.getD q.pick Num.zero
  let ride := if q.drop = q.pick then Num.zero else (nt.getD q.drop Num.zero).sub wait
  let others := (carCalls t c).filter (fun p => p.1 != slot)
  let added := Num.sum (others.map (fun p => ((reach q.list nt p.2.last).sub (reach ol ot p.2.last)).max Num.zero))
  let ten := Num.int 10
  let cost := Num.sum [(w 0).mul (wait.mul ten), (w 1).mul (ride.mul ten), (w 2).mul (added.mul ten), if q.added then w 3 else Num.zero]
  (cost.min (Num.int 4294967295), wait)

/-- The best placement so far: the car, the candidate, its cost and wait. -/
structure Best where
  car : Nat
  cand : Cand
  cost : Num
  wait : Num

/-- The greedy search in progress (R186). -/
structure Search where
  calls : Tab CallSt
  lists : List (List Stop)
  n : Nat
  deferred : Bool

/-- A car's list replaced by a candidate's: a committed stop stays what it was, the first of its landing. -/
def relist (old : List Stop) (l : List Nat) : List Stop :=
  (l.foldl (fun (a : List Stop × List Stop) b =>
    match a.2.find? (fun q => q.landing.toNat == b && q.committed) with
    | some q => (a.1 ++ [q], a.2.erase q)
    | none => (a.1 ++ [{ landing := BitVec.ofNat 7 b, committed := false, front := false, rear := false }], a.2)) ([], old)).1

/-- One call of the greedy search (R186). -/
def searchCall (cars : List CarSnap) (w : Nat → Num) (hyst : Num) (destFixed : Bool) (z : Search) (k : Nat) : Search :=
  if z.deferred then z
  else
    let x := callAt z.calls k
    let cur := if x.state = 2 then some x.car.val else none
    let bare := putCall z.calls k { x with state := 1 }
    let base := (List.range 8).map (fun c => if cur = some c then pruneList bare c (z.lists.getD c []) else z.lists.getD c [])
    let all := ((List.range 8).filter (fun c => (cars[c]?).any (·.eligible))).flatMap (fun c =>
      match cars[c]? with
      | some y =>
        let l := y.candidates bare c (base.getD c []) x
        let here := presentCand (z.lists.getD c []) (base.getD c []) x
        ((if cur == some c && !l.any (fun q => q.list == here.list) then l ++ [here] else l)).map (fun q => (c, y, q))
      | none => [])
    let room := 4096 - z.n
    let scored := (all.take room).map (fun p =>
      let (cost, wait) := p.2.1.score bare p.1 k (base.getD p.1 []) w p.2.2
      ({ car := p.1, cand := p.2.2, cost := cost, wait := wait } : Best))
    let z := { z with n := z.n + scored.length }
    if room < all.length then { z with deferred := true }
    else
      let best := scored.foldl (fun b q => match b with
        | none => some q
        | some o => if q.cost.lt o.cost then some q else some o) (none : Option Best)
      let now := cur.bind (fun c => scored.find? (fun q => q.car == c && q.cand.list == (z.lists.getD c []).map (·.landing.toNat)))
      match best with
      | none => z
      | some b =>
        let keep := match now with
          | some o => o.cost.le (b.cost.add hyst)
          | none => false
        if keep then z
        else
          let st : BitVec 3 := if x.kind = 0 ∧ destFixed ∧ !x.placed then 3 else 2
          let y := { x with state := st, car := ⟨b.car % 8, Nat.mod_lt _ (by decide)⟩, wait := Config.roundTime (b.wait.n * 10) b.wait.d,
                            reassigned := x.reassigned && x.placed, placed := true }
          { z with calls := putCall z.calls k y, lists := base.set b.car (relist (base.getD b.car []) b.cand.list) }

/-- The calls of a table that meet a condition, by age: oldest first, then by slot. -/
def byAge (t : Tab CallSt) (f : CallSt → Bool) : List Nat :=
  (sortOn (fun p => p.2.born) (t.filter (fun p => f p.2))).map (·.1)

/-- The plan point of a car (R189): VALUE, VALUE_HI, AUX0 to AUX3. -/
def CarSnap.plan (x : CarSnap) (t : Tab CallSt) (c : Nat) (l : List Stop) : List Word :=
  let ls := l.map (·.landing.toNat)
  let next := ls.getD 0 0
  let here := (carCalls t c).filter (fun p => p.2.needs.contains next)
  let valid := !l.isEmpty
  let v := next + 128 * valid.toNat + 256 * (valid && decide (x.pos < x.at next)).toNat + 512 * (valid && here.any (fun p => !p.2.rear)).toNat +
    1024 * (valid && here.any (fun p => p.2.rear)).toNat + 2048 * (x.state == 2).toNat + 4096 * (l.getD 0 ⟨0, false, false, false⟩).committed.toNat + 8192 * l.length
  let arr := (x.arrivals ls).getD 0 Num.zero
  let hi := if valid then min (Config.roundTime (arr.n * 1000) arr.d) 0xFFFFFFFF else 0
  [wd v, wd hi] ++ (List.range 4).map (fun k => bytesWord ((List.range 4).map (fun i => BitVec.ofNat 8 (ls.getD (4 * k + i) 0xFF))))

/-- The stops that become committed (R188): those within the braking distance along the car's way, the first of them ahead of a car that moves; for the
sides that its calls need. -/
def CarSnap.commitStops (y : CarSnap) (mine : List CallSt) (l : List Stop) : List Stop :=
  let v : Num := ⟨y.vel.natAbs, 16⟩
  let brake := ((v.mul v).div (Num.int (2 * y.a))).add (((v.mul (Num.int y.a)).div (Num.int (2 * y.j))).add (v.mul ⟨1, 10⟩))
  let first := y.at ((l.getD 0 ⟨0, false, false, false⟩).landing.toNat) - y.pos
  let ahead := decide (0 ≤ first * y.vel)
  (l.foldl (fun (a : List Stop × Nat × Int) q =>
    let way := a.2.1 + (y.at q.landing.toNat - a.2.2).natAbs
    let now := ahead && (Num.mk way 16).le brake && !q.committed
    let need := fun (r : Bool) => mine.any (fun x => x.rear == r && x.needs.contains q.landing.toNat)
    (a.1 ++ [if now then { q with committed := true, front := need false, rear := need true } else q], way, y.at q.landing.toNat)) ([], 0, y.pos)).1

/-- A cycle dropped whole (R184). -/
def State.dispDrop (s : State) : State :=
  match s.disp.work with
  | none => s
  | some k =>
    let s := s.advanceTo (k.bellAt + 45 * msCounts)
    let s := { s with disp := { s.disp with work := none } }
    ((s.inc Reg.DISP_DROP_CNT).setBit Reg.DISP_STAT 10 true).record { sev := 5, source := 0x08, code := 184 }

/-- The snapshot of a cycle and what follows from it (R184 steps 1 to 3): held until DISPATCH_COMMIT. A cycle still open at the next bell is dropped. -/
def State.dispBell (s : State) : State :=
  if !s.hasLift || !s.bit Reg.DISP_CTRL 0 then s
  else
    let s := s.dispDrop.dispSettle
    let cars := (List.range 8).map s.carSnap
    -- eligibility (R185, R191)
    let calls := s.disp.calls.foldl (fun t p =>
      let x := p.2
      let y := cars[x.car.val]?
      let bad := (x.state == 2 || x.state == 3) && !(y.any (·.eligible))
      let stays := x.state == 3 && y.any (fun y => y.state == 2 && s.carDispatched x.car.val)
      if bad && !stays then putCall t p.1 { x with state := 1, reassigned := true } else t) s.disp.calls
    -- lists: pruned, CAR calls entered, stops committed (R188)
    let lists := (List.range 8).map (fun c =>
      match cars[c]? with
      | none => []
      | some y =>
        let was := s.disp.lists.toList.getD c []
        let l := if y.state = 2 ∧ s.carDispatched c then was else pruneList calls c was
        let l := (carCalls calls c).foldl (fun l p =>
          if p.2.state = 4 ∧ !(l.any (fun q => q.landing == p.2.dest)) ∧ l.length < 16 then
            let ls := l.map (·.landing.toNat)
            relist l (insertStop ls (y.firstPlace ls (committedTo l) p.2.dest.toNat) p.2.dest.toNat).1
          else l) l
        y.commitStops ((carCalls calls c).map (·.2)) l)
    let held (x : CallSt) : Bool := (lists.getD x.car.val []).any (fun q => q.committed && q.landing == x.orig && (if x.rear then q.rear else q.front))
    let order := byAge calls (fun x => x.state == 1 && x.kind == 0) ++ byAge calls (fun x => x.state == 1 && (x.kind == 1 || x.kind == 2)) ++
      byAge calls (fun x => x.state == 2 && !held x)
    let w := fun i => (⟨s.fld (Reg.DISP_WEIGHT i) 15 0, 256⟩ : Num)
    let hyst := Num.int (s.fld (Reg.DISP_WEIGHT 4) 15 0)
    let z := order.foldl (searchCall cars w hyst (s.bit Reg.DISP_CFG 8)) { calls := calls, lists := lists, n := 0, deferred := false }
    let plans := (List.range 8).filterMap (fun c =>
      if s.carDispatched c then (cars[c]?).map (fun y => ((BitVec.ofNat 14 (s.fld (Reg.DISP_CAR_PTS0 c) 13 0) : PointIdx), y.plan z.calls c (z.lists.getD c []))) else none)
    let answers := z.calls.filterMap (fun p => p.2.answer.map (fun i => (i, answerWords p.2 p.1 false false)))
    let elig := (List.range 8).foldl (fun n c => if (cars[c]?).any (·.eligible) then n + 2 ^ c else n) 0
    let work : DispWork :=
      { bellAt := s.now, calls := z.calls, lists := Vector.ofFn (fun c : Fin 8 => z.lists.getD c.val []), plans := plans, answers := answers,
        eligible := BitVec.ofNat 8 elig, cands := z.n, deferred := z.deferred }
    { s with disp := { s.disp with work := some work } }

/-- A commit of a point of the unit (R189, R190): VALUE, VALUE_HI and, for a plan, AUX0 to AUX3. -/
def State.dispPoint (s : State) (p : PointIdx × List Word) : State :=
  if s.pointIs p.1 4 2 then
    s.commitPoint p.1 { value := some (p.2.getD 0 0), valueHi := some (p.2.getD 1 0), level := some 0, overrange := some false, detail := some 0,
                        aux := (p.2.drop 2).map some }
  else s

/-- The commit of a cycle (R184 step 4), which comes too late 45 ms after its bell. Calls added since the snapshot keep their place in the table; persons added by a merge stay. -/
def State.dispCommit (s : State) : State :=
  match s.disp.work with
  | none => s
  | some k =>
    if k.bellAt + 45 * msCounts < s.now then s.dispDrop
    else
    let calls := k.calls.foldl (fun t p => putCall t p.1 { p.2 with group := (callAt t p.1).group }) s.disp.calls
    let ended := s.disp.ended
    let s := { s with disp := { s.disp with work := none, calls := calls, lists := k.lists, ended := [] } }
    let s := k.plans.foldl State.dispPoint s
    let s := ended.foldl State.dispPoint s
    let s := k.answers.foldl (fun s p =>
      if p.2 = [(s.point p.1).word 7, (s.point p.1).word 8] then s else s.dispPoint p) s
    let s := (List.range 8).foldl (fun s c =>
      let l := k.lists.toList.getD c []
      let w := (l.getD 0 ⟨0, false, false, false⟩).landing.toNat + 128 * (!l.isEmpty).toNat + 256 * l.length + 8192 * (k.eligible.getLsbD c).toNat
      s.wr (Reg.DISP_CAR_STAT c) (wd (if l.isEmpty then 8192 * (k.eligible.getLsbD c).toNat else w))) s
    let s := if k.deferred then s.inc Reg.DISP_DEFER_CNT else s
    let s := (s.wr Reg.DISP_CAND (wd k.cands)).inc Reg.DISP_CYCLE_CNT
    (s.setBit Reg.DISP_STAT 10 false).setFld Reg.DISP_STAT 31 16 (min ((s.now - k.bellAt) / 2500) 0xFFFF)

/-- The call window latched (R183, DISP_CALL_SEL). -/
def State.callLatch (s : State) (k : Nat) : State :=
  { (s.wr Reg.DISP_CALL_SEL (wd (k % 256))) with disp := { s.disp with win := s.call (k % 256), winAt := s.now } }

/-- A host write in the DISP block that is not a plain register write. -/
def State.dispWrite (s : State) (a : Nat) (v : Word) : Option State :=
  if s.variant = 1 then some s
  else if Reg.DISP_CAR_PTS0 0 ≤ a ∧ a < 0x080300 then
    let c := (a - 0x080100) / 0x40
    if a = Reg.DISP_CAR_PTS0 c then
      let ok := s.pointIs (BitVec.ofNat 14 (bits v 13 0)) 4 2 && s.pointIs (BitVec.ofNat 14 (bits v 29 16)) 7 0
      some (if ok then s.wr a (v &&& 0x3FFF3FFF) else s.setBit (Reg.DISP_CAR_PTS1 c) 17 true)
    else if a = Reg.DISP_CAR_PTS1 c then
      let s := if bitOf v 17 then s.setBit a 17 false else s
      let i : PointIdx := BitVec.ofNat 14 (bits v 13 0)
      let ok := bits ((s.point i).word 3) 3 0 == 2
      some (if ok then (s.setFld a 13 0 (bits v 13 0)).setFld a 16 16 (bits v 16 16) else s.setBit a 17 true)
    else none
  else if a = Reg.DISP_CALL_SEL then some (s.callLatch (bits v 7 0))
  else none

end Sys2Proof.Machine
end

