-- ==== Sys2Proof/Machine/AccOps.lean ====
section
/-! DEFINITION. The access engine: credentials, presentations and doors (R269 to R275). -/

namespace Sys2Proof.Machine

/-! ### Credentials (R269 to R271) -/

/-- The ID of a record. -/
def credId (r : Vector Word 8) : BitVec 64 := r[1] ++ r[0]

/-- The stored records with their indices. -/
def State.creds (s : State) : List (Nat × Vector Word 8) := s.acc.store.filterMap (fun p => p.2.map (fun r => (p.1, r)))

/-- The record of an ID. -/
def State.cred? (s : State) (id : BitVec 64) : Option (Nat × Vector Word 8) := s.creds.find? (fun p => credId p.2 == id)

/-- The reserved bits of a record are 0. -/
def credClean (r : Vector Word 8) : Bool := bits r[2] 31 21 == 0 && r[5] == 0 && r[6] == 0 && r[7] == 0

/-- RESULT and INDEX of a credential command. -/
def State.credResult (s : State) (res idx : Nat) : State := s.wr Reg.ACC_CRED_STAT (wd (2 * res + 65536 * idx))

/-- WRITE (R269, R271): the record of its ID replaced, or stored at the lowest free index; the cache follows in the same step. -/
def State.credWrite (s : State) : State :=
  let r : Vector Word 8 := Vector.ofFn (fun (i : Fin 8) => s.rd (Reg.ACC_CRED_W i.val))
  if !credClean r then s.credResult 3 0
  else
    let put := fun k =>
      let cache := s.acc.cache.map (fun e => if e.1 = credId r then (e.1, r) else e)
      ({ s with acc := { s.acc with store := Tab.set (fun _ => none) s.acc.store k (some r), cache := cache } }).credResult 0 k
    match s.cred? (credId r) with
    | some (k, _) => put k
    | none =>
      match (List.range 65536).find? (fun k => (Tab.get (fun _ => none) s.acc.store k).isNone) with
      | some k => put k
      | none => s.credResult 1 0

/-- DELETE by the ID in W0 and W1 (R269, R271). -/
def State.credDelete (s : State) : State :=
  let id := s.rd (Reg.ACC_CRED_W 1) ++ s.rd (Reg.ACC_CRED_W 0)
  match s.cred? id with
  | some (k, _) =>
    ({ s with acc := { s.acc with store := Tab.set (fun _ => none) s.acc.store k none, cache := s.acc.cache.filter (fun e => e.1 != id) } }).credResult 0 k
  | none => s.credResult 2 0

/-- T: the seconds of the applied time, 32 bits (R269). -/
def State.accT (s : State) : Nat := s.appliedSec % 2 ^ 32

/-- Expired at T. -/
def expired (r : Vector Word 8) (t : Nat) : Bool := r[4] != 0 && decide (r[4].toNat ≤ t)

/-- The sweep at a change of T (R270). -/
def State.cacheSweep (s : State) : State := { s with acc := { s.acc with cache := s.acc.cache.filter (fun e => !expired e.2 s.accT) } }

/-- A record put into the cache of 4,096 (log entry 37: the oldest entry makes room). -/
def State.cachePut (s : State) (id : BitVec 64) (r : Vector Word 8) : State :=
  let l := s.acc.cache ++ [(id, r)]
  { s with acc := { s.acc with cache := l.drop (l.length - 4096) } }

/-! ### Doors (R272 to R274) -/

/-- A door beside its registers. -/
def State.adoor (s : State) (d : Nat) : AccDoor := Tab.get (fun _ => AccDoor.zero) s.acc.doors d

/-- A door replaced. -/
def State.setAdoor (s : State) (d : Nat) (x : AccDoor) : State :=
  { s with acc := { s.acc with doors := Tab.set (fun _ => AccDoor.zero) s.acc.doors d x } }

/-- A door's state (R273): 0 LOCKED, 1 RELEASED, 2 OPEN, 3 HELD, 4 FORCED, 5 HOLD_UNLOCKED, 6 LOCKDOWN, 7 FIRE. -/
def State.adoorState (s : State) (d : Nat) : Nat := s.fld (Reg.ACC_DOOR_STAT d) 3 0

/-- A door in service. -/
def State.adoorOn (s : State) (d : Nat) : Bool := s.bit (Reg.ACC_DOOR_CFG d) 0

/-- The lock is released: HOLD_UNLOCKED, FIRE, or within STRIKE_TIME. -/
def State.unlocked (s : State) (d : Nat) : Bool := s.adoorState d == 5 || s.adoorState d == 7 || (s.adoor d).release.isSome

/-- STRIKE_PT brought to the lock's level (R272): committed when it changes. -/
def State.strike (s : State) (d : Nat) : State :=
  let level := if s.bit (Reg.ACC_DOOR_CFG d) 1 then !s.unlocked d else s.unlocked d
  if (s.adoor d).strike = some level then s
  else
    let s := s.setAdoor d { s.adoor d with strike := some level }
    let i : PointIdx := BitVec.ofNat 14 (s.fld (Reg.ACC_DOOR_PTS0 d) 13 0)
    if s.pointIs i 0 5 then s.commitPoint i { value := some (if level then 1 else 0), valueHi := some 0, level := some 0, overrange := some false, detail := some 0 } else s

/-- EVT_PT committed once with an event, its reason, the credential and T (R274). -/
def State.doorEvent (s : State) (d event reason : Nat) (id : BitVec 64) (tenant : BitVec 12) (t : Nat) : State :=
  let i : PointIdx := BitVec.ofNat 14 (s.fld (Reg.ACC_DOOR_PTS0 d) 29 16)
  if s.pointIs i 7 5 then
    s.commitPoint i { value := some (wd (event + 256 * reason)), valueHi := some 0, level := some 0, overrange := some false, detail := some 0, aux := [some (id.extractLsb' 0 32), some (id.extractLsb' 32 32), some (wd tenant.toNat), some (wd t)] }
  else s

/-- A door event's record (R274). -/
def State.doorRecord (s : State) (sev : BitVec 3) (rule d event reason : Nat) (id : BitVec 64) (tenant : Option (BitVec 12)) (t : Nat) : State :=
  s.record { sev := sev, source := 0x0E, code := BitVec.ofNat 16 rule, tenant := tenant,
             args := [wd d, wd (event + 256 * reason), id.extractLsb' 0 32, id.extractLsb' 32 32, wd t] }

/-- A change of state with an event of R274's list. -/
def State.doorTo (s : State) (d st event : Nat) : State := ((s.setFld (Reg.ACC_DOOR_STAT d) 3 0 st).strike d).doorEvent d event 0 0 0 s.accT

/-- A change of state for which R274's list has no event: the event field is a free value (log entries 2 and 37). -/
def State.doorToOpen (s : State) (d st : Nat) : State :=
  ((s.setFld (Reg.ACC_DOOR_STAT d) 3 0 st).strike d).nextFree.doorEvent d (s.freeWord.toNat % 256) 0 0 0 s.accT

/-- The lock released for STRIKE_TIME from now. -/
def State.releaseLock (s : State) (d : Nat) : State :=
  (s.setAdoor d { s.adoor d with release := some (s.now + s.fld (Reg.ACC_DOOR_CFG d) 15 8 * 25000000) }).strike d

/-- The lock's release ended. -/
def State.relock (s : State) (d : Nat) : State := (s.setAdoor d { s.adoor d with release := none }).strike d

/-- A point input of a door: its BIT, or BAD counted as 1 where the rule says so (R273). -/
def State.doorInput (s : State) (i : Nat) (badIsOne : Bool) : Bool :=
  let p := BitVec.ofNat 14 i
  bitOf (s.pointWord p 0) 0 || (badIsOne && bits (s.pointWord p 2) 1 0 == 3)

/-- The contact's level. -/
def State.doorContact (s : State) (d : Nat) : Bool :=
  s.bit (Reg.ACC_DOOR_PTS2 d) 15 && s.doorInput (s.fld (Reg.ACC_DOOR_PTS1 d) 13 0) true

/-- The contact opens or closes (R273). -/
def State.contactChange (s : State) (d : Nat) : State :=
  let c := s.doorContact d
  let x := s.adoor d
  if !s.adoorOn d || c == x.contact then s
  else
    let s := s.setAdoor d { x with contact := c, openAt := if c then some s.now else none }
    let st := s.adoorState d
    if c then
      if st = 0 ∧ (s.adoor d).release.isNone then
        (s.doorTo d 4 6).doorRecord 5 273 d 6 0 0 none s.accT
      else if st = 0 ∨ st = 1 then
        let s := s.doorTo d 2 3
        if s.bit (Reg.ACC_DOOR_CFG d) 2 then s.relock d else s
      else s
    else if 2 ≤ st ∧ st ≤ 4 then (s.relock d).doorTo d 0 4
    else s

/-- Grant, REX or PULSE (R273): the lock is released for STRIKE_TIME, and a LOCKED door is RELEASED. `event` is the list's event, none where
there is none. -/
def State.doorRelease (s : State) (d : Nat) (event : Option Nat) : State :=
  let st := s.adoorState d
  if st = 5 ∨ st = 7 then s
  else
    let s := s.releaseLock d
    if st = 0 then
      match event with
      | some e => s.doorTo d 1 e
      | none => s.doorToOpen d 1
    else s

/-- REX_PT goes active (R273): the lock is released even in LOCKDOWN. -/
def State.doorRex (s : State) (d : Nat) : State :=
  let active := s.bit (Reg.ACC_DOOR_PTS2 d) 16 && s.doorInput (s.fld (Reg.ACC_DOOR_PTS1 d) 29 16) false
  let was := (s.adoor d).rex
  let s := s.setAdoor d { s.adoor d with rex := active }
  if s.adoorOn d && active && !was then s.doorRelease d (some 7) else s

/-- FIRE_PT enters or leaves fire release (R273). -/
def State.doorFire (s : State) (d : Nat) : State :=
  let fire := s.bit (Reg.ACC_DOOR_PTS2 d) 14 && s.doorInput (s.fld (Reg.ACC_DOOR_PTS2 d) 13 0) true
  if !s.adoorOn d then s
  else if fire ∧ s.adoorState d ≠ 7 then s.doorTo d 7 8
  else if !fire ∧ s.adoorState d = 7 then (s.relock d).doorToOpen d 0
  else s

/-- STRIKE_TIME passes (R273); its time is known. -/
def State.strikeExpiry (s : State) (d : Nat) : State :=
  match (s.adoor d).release with
  | none => s
  | some t =>
    let s := (s.advanceTo t).relock d
    if s.adoorState d = 1 ∧ !(s.adoor d).contact then s.doorToOpen d 0 else s

/-- HELD_TIME passes while OPEN (R273); its time is known. -/
def State.heldExpiry (s : State) (d : Nat) : State :=
  match (s.adoor d).openAt with
  | some t =>
    if s.adoorState d = 2 then
      let s := s.advanceTo (t + s.fld (Reg.ACC_DOOR_CFG d) 31 16 * secCounts)
      (s.doorTo d 3 5).doorRecord 4 273 d 5 0 0 none s.accT
    else s
  | none => s

/-- A door command (R273, R275): 0 LOCK, 1 PULSE, 2 HOLD_UNLOCKED, 3 LOCKDOWN, 4 RELEASE_LOCKDOWN. In FIRE none has an effect. -/
def State.doorCmd (s : State) (d cmd : Nat) : State :=
  let st := s.adoorState d
  if !s.adoorOn d ∨ st = 7 then s
  else
    match cmd with
    | 0 => if st = 5 then (s.relock d).doorToOpen d 0 else s
    | 1 => if st = 6 then s else s.doorRelease d none
    | 2 => if st = 5 then s else s.doorToOpen d 5
    | 3 => if st = 6 then s else (s.relock d).doorTo d 6 9
    | 4 => if st = 6 then (s.relock d).doorToOpen d 0 else s
    | _ => s

/-! ### Presentations (R270) -/

/-- Door d is in a door set. -/
def State.inDoorSet (s : State) (set d : Nat) : Bool := s.bit (Reg.ACC_DOORSET set (d / 32)) (d % 32)

/-- A presentation decided (R270, R274). -/
def State.present (s : State) (d : Nat) (id : BitVec 64) : State :=
  let t := s.accT
  let on := s.bit Reg.ACC_CTRL 0
  let s := { s with acc := { s.acc with count := s.acc.count + 1 } }
  let hit := s.acc.cache.find? (fun e => e.1 == id)
  let fetched := if hit.isSome || !on then none else (s.cred? id).map (·.2)
  let s := if hit.isSome || !on then s else s.incSat Reg.ACC_MISSES 31 0
  let s := match fetched with | some r => s.cachePut id r | none => s
  let r := if !on then none else match hit with | some e => some e.2 | none => fetched
  let deny := fun (s : State) (reason : Nat) (tenant : BitVec 12) =>
    let s := s.incSat Reg.ACC_STAT 31 16
    (s.doorEvent d 2 reason id tenant t).doorRecord 2 270 d 2 reason id (some tenant) t
  match r with
  | none => deny s 1 0
  | some r =>
    let tenant : BitVec 12 := BitVec.ofNat 12 (bits r[2] 11 0)
    if !bitOf r[2] 20 then deny s 2 tenant
    else if expired r t then deny (if hit.isSome then s.incSat Reg.ACC_STAT 15 0 else s) 3 tenant
    else if t < r[3].toNat then deny s 4 tenant
    else if !s.inDoorSet (bits r[2] 19 12) d then deny s 5 tenant
    else if s.adoorState d = 6 then deny s 6 tenant
    else
      let st := s.adoorState d
      let s := if st = 5 ∨ st = 7 then s else s.releaseLock d
      let s := if st = 0 then (s.setFld (Reg.ACC_DOOR_STAT d) 3 0 1).strike d else s
      (s.doorEvent d 1 0 id tenant t).doorRecord 1 270 d 1 0 id (some tenant) t

/-! ### Messages (R275) -/

/-- Whether a message is accepted (R275). -/
def State.accAccepts (s : State) (m : EngMsg) : Bool :=
  let p := m.payload
  let w := p.getD 0 0
  let d := bits w 6 0
  match m.typ.toNat with
  | 1 => cleanWords p [0x7F, 0xFFFFFFFF, 0xFFFFFFFF, 0] && s.adoorOn d
  | 2 => cleanWords p [0x77F] && decide (bits w 10 8 ≤ 4) && s.adoorState d != 7
  | _ => false

/-- The front message of the queue taken, where it is of a type and passes a test. -/
def State.accTake (s : State) (typ : Nat) (ok : EngMsg → Bool) (f : State → EngMsg → State) : State :=
  match s.scan.accQ with
  | m :: rest =>
    if m.typ.toNat = typ ∧ ok m then f { s with scan := { s.scan with accQ := rest } } m else s
  | [] => s

/-! ### Host writes -/

/-- One binding of a door written: taken where it meets its row of R272, else ignored with CFG_ERR. -/
def bindField (s : State) (d a hi lo : Nat) (v : Word) (ok : Bool) : State :=
  if ok then s.setFld a hi lo (bits v hi lo) else s.setBit (Reg.ACC_DOOR_STAT d) 4 true

/-- A host write of an ACC register that is not a plain one. A binding of a contact, REX or FIRE point is in force while its enable bit is set, and is
checked then (R272; log entry 37). -/
def State.accWrite (s : State) (a : Nat) (v : Word) : Option State :=
  if a = Reg.ACC_CRED_CMD then some (match bits v 1 0 with | 1 => s.credWrite | 2 => s.credDelete | _ => s)
  else if Reg.ACC_DOOR_PTS0 0 ≤ a ∧ a < Reg.ACC_DOOR_PTS0 128 then
    let d := (a - Reg.ACC_DOOR_PTS0 0) / 0x20
    let bit := fun (i : Nat) => bits ((s.point (BitVec.ofNat 14 i)).word 3) 3 0 == 0
    match a % 0x20 with
    | 0x00 =>
      let strikeOk := s.pointIs (BitVec.ofNat 14 (bits v 13 0)) 0 5
      let evtOk := s.pointIs (BitVec.ofNat 14 (bits v 29 16)) 7 5
      let t := bindField (bindField s d a 13 0 v strikeOk) d a 29 16 v evtOk
      some (if strikeOk then (t.setAdoor d { t.adoor d with strike := none }).strike d else t)
    | 0x04 =>
      let used := fun (e : Nat) => s.bit (Reg.ACC_DOOR_PTS2 d) e
      some (bindField (bindField s d a 13 0 v (!used 15 || bit (bits v 13 0))) d a 29 16 v (!used 16 || bit (bits v 29 16)))
    | 0x08 =>
      let t := bindField s d a 14 0 v (!bitOf v 14 || bit (bits v 13 0))
      let t := bindField t d a 15 15 v (!bitOf v 15 || bit (s.fld (Reg.ACC_DOOR_PTS1 d) 13 0))
      some (bindField t d a 16 16 v (!bitOf v 16 || bit (s.fld (Reg.ACC_DOOR_PTS1 d) 29 16)))
    | 0x0C =>
      let v := if bits v 15 8 = 0 then putBits v 15 8 (s.fld a 15 8) else v
      let v := if bits v 31 16 = 0 then putBits v 31 16 (s.fld a 31 16) else v
      let s := s.wr a (v &&& 0xFFFFFF07)
      some (if bitOf v 0 then s.strike d else s)
    | 0x14 => some (s.doorCmd d (bits v 2 0))
    | _ => none
  else none

end Sys2Proof.Machine
end

