-- ==== Sys2Proof/Machine/Access.lean ====
section
/-! DEFINITION. The commands of the access engine (R269 to R275). -/

namespace Sys2Proof.Machine

def execCredWrite (m : Master) (s : State) : Out := .next (s.asPrefect m State.credWrite)

def execCredDelete (m : Master) (s : State) : Out := .next (s.asPrefect m State.credDelete)

/-- A presentation decided: the front message, or a card read at a door in service whose reader is in use; a card read outside a secure channel is
ignored (R266). -/
def execPresent (psrc : PresentSrc) (s : State) : Out :=
  match psrc with
  | .msg => .next (s.accTake 1 (fun _ => true) (fun s m => s.present (bits (m.payload.getD 0 0) 6 0) (m.payload.getD 2 0 ++ m.payload.getD 1 0)))
  | .card door id secure =>
    .next (if s.adoorOn door.val && s.bit (Reg.ACC_DOOR_RDR door.val) 3 && secure then s.present door.val id else s)

def execCacheSweep (s : State) : Out := .next s.cacheSweep

/-- A door command from either source (R273, R275). -/
def State.accDoorCommand (s : State) (dsrc : DoorSrc) (cmd : Nat) : State :=
  match dsrc with
  | .msg => s.accTake 2 (fun m => bits (m.payload.getD 0 0) 10 8 == cmd) (fun s m => s.doorCmd (bits (m.payload.getD 0 0) 6 0) cmd)
  | .reg m door => s.asPrefect m (fun s => s.doorCmd door.val cmd)

def execDoorLock (dsrc : DoorSrc) (s : State) : Out := .next (s.accDoorCommand dsrc 0)

def execDoorPulse (dsrc : DoorSrc) (s : State) : Out := .next (s.accDoorCommand dsrc 1)

def execDoorHoldUnlocked (dsrc : DoorSrc) (s : State) : Out := .next (s.accDoorCommand dsrc 2)

def execDoorLockdown (dsrc : DoorSrc) (s : State) : Out := .next (s.accDoorCommand dsrc 3)

def execDoorReleaseLockdown (dsrc : DoorSrc) (s : State) : Out := .next (s.accDoorCommand dsrc 4)

def execDoorContactChange (adoor : Fin 128) (s : State) : Out := .next (s.contactChange adoor.val)

def execDoorRex (adoor : Fin 128) (s : State) : Out := .next (s.doorRex adoor.val)

def execDoorFire (adoor : Fin 128) (s : State) : Out := .next (s.doorFire adoor.val)

def execStrikeTimeExpiry (adoor : Fin 128) (s : State) : Out := .next (s.strikeExpiry adoor.val)

def execHeldTimeExpiry (adoor : Fin 128) (s : State) : Out := .next (s.heldExpiry adoor.val)

end Sys2Proof.Machine
end

