-- ==== Sys2Proof/Machine/Alu.lean ====
section
/-! DEFINITION. Integer and logic instructions on registers (R48). -/

namespace Sys2Proof.Machine

/-- ADD (R48): gd := ga + gb, modulo 2^32. -/
def execAdd (c : CoreId) (gd ga gb : BitVec 4) (s : State) : Out := s.alu c (.add c gd ga gb) gd ga gb (fun x y => x + y)

/-- SUB (R48): gd := ga − gb, modulo 2^32. -/
def execSub (c : CoreId) (gd ga gb : BitVec 4) (s : State) : Out := s.alu c (.sub c gd ga gb) gd ga gb (fun x y => x - y)

/-- AND (R48). -/
def execAnd (c : CoreId) (gd ga gb : BitVec 4) (s : State) : Out := s.alu c (.and c gd ga gb) gd ga gb (fun x y => x &&& y)

/-- OR (R48). -/
def execOr (c : CoreId) (gd ga gb : BitVec 4) (s : State) : Out := s.alu c (.or c gd ga gb) gd ga gb (fun x y => x ||| y)

/-- XOR (R48). -/
def execXor (c : CoreId) (gd ga gb : BitVec 4) (s : State) : Out := s.alu c (.xor c gd ga gb) gd ga gb (fun x y => x ^^^ y)

/-- NOR (R48): gd := not (ga or gb). -/
def execNor (c : CoreId) (gd ga gb : BitVec 4) (s : State) : Out := s.alu c (.nor c gd ga gb) gd ga gb (fun x y => ~~~(x ||| y))

/-- ANDN (R48): gd := ga and not gb. -/
def execAndn (c : CoreId) (gd ga gb : BitVec 4) (s : State) : Out := s.alu c (.andn c gd ga gb) gd ga gb (fun x y => x &&& ~~~y)

/-- SLT (R48): signed comparison. -/
def execSlt (c : CoreId) (gd ga gb : BitVec 4) (s : State) : Out := s.alu c (.slt c gd ga gb) gd ga gb (fun x y => flagWord (x.slt y))

/-- SLTU (R48): unsigned comparison. -/
def execSltu (c : CoreId) (gd ga gb : BitVec 4) (s : State) : Out := s.alu c (.sltu c gd ga gb) gd ga gb (fun x y => flagWord (x.ult y))

/-- SEQ (R48). -/
def execSeq (c : CoreId) (gd ga gb : BitVec 4) (s : State) : Out := s.alu c (.seq c gd ga gb) gd ga gb (fun x y => flagWord (x == y))

/-- SLL (R48): the shift count is gb[4:0]. -/
def execSll (c : CoreId) (gd ga gb : BitVec 4) (s : State) : Out := s.alu c (.sll c gd ga gb) gd ga gb (fun x y => x <<< (y.toNat % 32))

/-- SRL (R48). -/
def execSrl (c : CoreId) (gd ga gb : BitVec 4) (s : State) : Out := s.alu c (.srl c gd ga gb) gd ga gb (fun x y => x >>> (y.toNat % 32))

/-- SRA (R48). -/
def execSra (c : CoreId) (gd ga gb : BitVec 4) (s : State) : Out := s.alu c (.sra c gd ga gb) gd ga gb (fun x y => x.sshiftRight (y.toNat % 32))

/-- ROR (R48). -/
def execRor (c : CoreId) (gd ga gb : BitVec 4) (s : State) : Out := s.alu c (.ror c gd ga gb) gd ga gb (fun x y => x.rotateRight (y.toNat % 32))

/-- MIN (R48): signed minimum. -/
def execMin (c : CoreId) (gd ga gb : BitVec 4) (s : State) : Out := s.alu c (.min c gd ga gb) gd ga gb (fun x y => if x.slt y then x else y)

/-- MAX (R48): signed maximum. -/
def execMax (c : CoreId) (gd ga gb : BitVec 4) (s : State) : Out := s.alu c (.max c gd ga gb) gd ga gb (fun x y => if x.slt y then y else x)

/-- MINU (R48): unsigned minimum. -/
def execMinu (c : CoreId) (gd ga gb : BitVec 4) (s : State) : Out := s.alu c (.minu c gd ga gb) gd ga gb (fun x y => if x.ult y then x else y)

/-- MAXU (R48): unsigned maximum. -/
def execMaxu (c : CoreId) (gd ga gb : BitVec 4) (s : State) : Out := s.alu c (.maxu c gd ga gb) gd ga gb (fun x y => if x.ult y then y else x)

/-- ADDV (R48): OVERFLOW where the signed sum is outside −2^31 to 2^31 − 1. -/
def execAddv (c : CoreId) (gd ga gb : BitVec 4) (s : State) : Out := s.aluV c (.addv c gd ga gb) gd ga gb (fun x y => x + y)

/-- SUBV (R48). -/
def execSubv (c : CoreId) (gd ga gb : BitVec 4) (s : State) : Out := s.aluV c (.subv c gd ga gb) gd ga gb (fun x y => x - y)

/-- ADDS (R48): signed and saturating. -/
def execAdds (c : CoreId) (gd ga gb : BitVec 4) (s : State) : Out := s.alu c (.adds c gd ga gb) gd ga gb (fun x y => wi (satInt 32 (x.toInt + y.toInt)))

/-- SUBS (R48): signed and saturating. -/
def execSubs (c : CoreId) (gd ga gb : BitVec 4) (s : State) : Out := s.alu c (.subs c gd ga gb) gd ga gb (fun x y => wi (satInt 32 (x.toInt - y.toInt)))

/-- SEL (R48): gd takes ga where gb is not 0, and is read. -/
def execSel (c : CoreId) (gd ga gb : BitVec 4) (s : State) : Out :=
  s.compute c (.sel c gd ga gb) gd [ga, gb] (fun t => if t.g c gb = 0 then t.g c gd else t.g c ga)

/-- ABS (R48): −2^31 gives 2^31 − 1. -/
def execAbs (c : CoreId) (gd ga : BitVec 4) (s : State) : Out :=
  s.compute c (.abs c gd ga) gd [ga] (fun t => wi (satInt 32 (t.g c ga).toInt.natAbs))

end Sys2Proof.Machine
end

