-- ==== Sys2Proof/Machine/DoorOps.lean ====
section
/-! DEFINITION. The door sequencers (R172 to R181). -/

namespace Sys2Proof.Machine

/-- A door sequencer replaced. -/
def State.setDoor (s : State) (d : Nat) (x : DoorSt) : State := { s with lift := { s.lift with doors := s.lift.doors.setIfInBounds d x } }

/-- REF_LOST (R178) and LEARNED (R179). -/
def State.refLost (s : State) (d : Nat) : Bool := s.bit (Reg.LIFT_DOOR_STAT d) 19
def State.learned (s : State) (d : Nat) : Bool := s.bit (Reg.LIFT_DOOR_STAT d) 6

/-- The door position (R173). -/
def State.doorPos (s : State) (d : Nat) : Int := (s.opPos d - s.rd (Reg.LIFT_DOOR_REF d)).toInt

/-! ### Parameters (R176, R180, R181) -/

/-- The derived limits computed again (R176). -/
def State.doorDerive (s : State) (d : Nat) : State :=
  let (a, b, c) := derived (s.door d).par (s.massL d)
  ((s.wr (Reg.LIFT_DOOR_DERIVED d 0) a.bfWord).wr (Reg.LIFT_DOOR_DERIVED d 1) b.bfWord).wr (Reg.LIFT_DOOR_DERIVED d 2) c.bfWord

/-- The staged parameters of a door. -/
def State.doorStaged (s : State) (d : Nat) : List Word := (List.range 10).map (fun i => s.rd (Reg.LIFT_DOOR_PARAM d i))

/-- The staged set applied, or refused with CFG_ERR (R180, R181). -/
def State.doorApply (s : State) (d : Nat) : State :=
  if s.bit (Reg.LIFT_DOOR_STAT d) 7 then
    let p := s.doorStaged d
    if doorSetOk p (s.massL d) then
      ((s.setDoor d { s.door d with applied := Vector.ofFn (fun i : Fin 10 => p.getD i.val 0) }).setBit (Reg.LIFT_DOOR_STAT d) 7 false).doorDerive d
    else s.setBit (Reg.LIFT_DOOR_STAT d) 4 true
  else s

/-- The parameters that settings have restored are a staged set, applied at once in IDLE (R171, R180); the limits follow the learned values. -/
def State.doorRestore (s : State) (d : Nat) : State :=
  if s.doorStaged d = (s.door d).applied.toList then s.doorDerive d
  else
    let s := s.setBit (Reg.LIFT_DOOR_STAT d) 7 true
    (if s.doorState d = 0 then s.doorApply d else s).doorDerive d

/-! ### Taking charge (R172) -/

/-- The light curtain reads active (R177). -/
def State.curtain (s : State) (d : Nat) : Bool :=
  let cfg := s.rd (Reg.LIFT_DOOR_CFG d)
  bitOf cfg 1 && (s.bit (Reg.FIELD_DI_STAT (12 * (d / 2) + bits cfg 5 2)) 1 != bitOf cfg 6)

/-- STATE_PT committed (R173, R178); nothing is while LIFT_CTRL.EN = 0. -/
def State.doorCommit (s : State) (d : Nat) : State :=
  let i : PointIdx := BitVec.ofNat 14 (s.fld (Reg.LIFT_DOOR_PTS d) 29 16)
  if s.bit Reg.LIFT_CTRL 0 && s.pointIs i 7 1 then
    let x := s.door d
    let q := s.opQuality d
    let q := if s.refLost d ∧ q.1 < 3 then (2, 12) else q
    let aux3 := s.opStatus d + 512 * (s.refLost d).toNat + 1024 * x.obstructed.toNat + 2048 * (s.learned d).toNat + 4096 * x.lastObs.toNat
    let aux := s.opAux d ++ [some (wd aux3)]
    s.commitPoint i { value := some (wd (s.doorState d)), valueHi := some 0, level := some (BitVec.ofNat 2 q.1), overrange := some false, detail := some (BitVec.ofNat 8 q.2), aux := aux }
  else s

/-- A change outside a position period: STATE_PT is committed on a change of state (R173). -/
def State.doorNoted (s t : State) (d : Nat) : State := if t.doorState d = s.doorState d then t else t.doorCommit d

/-- A sequencer enters a state (R174, R180). -/
def State.doorEnter (s : State) (d st : Nat) : State :=
  let s := s.setFld (Reg.LIFT_DOOR_STAT d) 3 0 st
  let s := s.setDoor d { s.door d with since := s.now, phase := if st = 8 then 1 else 0, periods := 0, iqSum := 0, lost := none, closedAt := none, openAt := none, stallAt := none }
  if st = 1 then ((s.setFld (Reg.LIFT_DOOR_STAT d) 15 8 0).setDoor d { s.door d with obstructed := false }).doorApply d
  else if st = 7 then s.doorApply d
  else s

/-- IDLE (R174): the operator is left in REQ = 0, a staged set is applied (R180), and STATE_PT shows the change. -/
def State.doorIdle (s : State) (d : Nat) : State :=
  if s.doorState d = 0 then s else (((s.setFld (Reg.LIFT_DOOR_STAT d) 3 0 0).opReq d 0).doorApply d).doorCommit d

/-- SEQ_EN written (R172, R174): the bit stands, and reads 0 with CFG_ERR while a condition fails. -/
def State.seqEn (s : State) (d : Nat) (on : Bool) : State :=
  if !on then (s.setBit (Reg.LIFT_DOOR_CFG d) 0 false).doorIdle d
  else if s.doorReady d then s.setBit (Reg.LIFT_DOOR_CFG d) 0 true
  else (s.setBit (Reg.LIFT_DOOR_CFG d) 0 true).setBit (Reg.LIFT_DOOR_STAT d) 4 true

/-! ### Events of a sequencer (R174 to R179) -/

/-- A learning run ends (R179): 1 OK, 2 TIMEOUT, 3 SHORT_STROKE, 4 MASS_RANGE, 5 INTERRUPTED, 6 FAULT. -/
def State.learnEnd (s : State) (d result : Nat) : State :=
  let s := s.setFld (Reg.LIFT_DOOR_STAT d) 18 16 result
  s.record { sev := 4, source := 0x07, code := 179, args := [wd d, wd result] }

/-- A run that does not succeed: the learned values stay, the door goes to STOPPED. -/
def State.learnFail (s : State) (d result : Nat) : State := (s.learnEnd d result).doorEnter d 7

/-- An obstruction (R177): 1 following error, 2 light curtain. -/
def State.doorReverse (s : State) (d kind : Nat) : State :=
  let n := s.fld (Reg.LIFT_DOOR_STAT d) 15 8
  let s := (s.setFld (Reg.LIFT_DOOR_STAT d) 15 8 (satInc 8 n)).inc Reg.LIFT_REV_CNT
  (s.setDoor d { s.door d with obstructed := true, lastObs := BitVec.ofNat 4 kind }).doorEnter d 5

/-- A following-error alarm of the velocity or position stage. -/
def State.doorFe (s : State) (d : Nat) : Bool := s.bit (Reg.LOOP_STG_STAT (3 * d + 1)) 0 || s.bit (Reg.LOOP_STG_STAT (3 * d + 2)) 0

/-- A moving state (R174). -/
def movingState (st : Nat) : Bool := [2, 4, 5, 6, 8, 9].contains st

/-- The state after an accepted command (R174): 1 OPEN, 2 CLOSE, 3 NUDGE, 4 STOP, 5 LEARN, 6 HOME; none where it is ignored. -/
def doorNext (cmd st : Nat) (refLost learned : Bool) : Option Nat :=
  match cmd with
  | 1 => if !refLost && learned && [1, 4, 6, 7].contains st then some 2 else none
  | 2 => if !refLost && [2, 3, 5, 7].contains st then some 4 else none
  | 3 => if !refLost && [2, 3, 5, 7].contains st then some 6 else none
  | 4 => if movingState st then some 7 else none
  | 5 => if [7, 3, 1].contains st then some 8 else none
  | 6 => if [7, 3, 1, 10].contains st then some 9 else none
  | _ => none

/-- A command taken (R173, R174): each new SEQ of CMD_PT, once. -/
def State.doorCommand (s : State) (d : Nat) : State :=
  let i : PointIdx := BitVec.ofNat 14 (s.fld (Reg.LIFT_DOOR_PTS d) 13 0)
  let x := s.door d
  let seq := s.pointWord i 6
  let st := s.doorState d
  if st = 0 ∨ seq = x.seq then s
  else
    let s := s.setDoor d { x with seq := seq }
    let cmd := bits (s.pointWord i 0) 3 0
    if cmd = 0 then s
    else match doorNext cmd st (s.refLost d) (s.learned d) with
      | some nx =>
        if st = 8 then s.learnFail d 5
        else if st = 10 then (s.opReq d 0).doorEnter d nx
        else s.doorEnter d nx
      | none => s.setBit (Reg.LIFT_DOOR_STAT d) 5 true

/-- The velocity of an operator, and its magnitude against a fraction of a limit. -/
def State.opVel (s : State) (d : Nat) : Num := ((s.oper d).block 1).lane 1

/-- The panel rests at a position within CLOSED_WIN (R175). -/
def State.doorAt (s : State) (d : Nat) (target : Int) : Bool :=
  decide ((s.doorPos d - target).natAbs ≤ s.fld (Reg.LIFT_DOOR_ZONE d) 15 0) &&
    (s.opVel d).abs.lt ((Num.ofBf (s.rd (Reg.LIFT_DOOR_DERIVED d 1))).mul ⟨1, 100⟩)

/-- OPEN_POS. -/
def State.openPos (s : State) (d : Nat) : Int := (s.rd (Reg.LIFT_DOOR_OPEN_POS d)).toInt

/-- The operator moves under a grant: neither INHIBITED nor off (R174). -/
def State.doorLive (s : State) (d : Nat) : Bool := [1, 2, 3].contains (s.opMode d)

/-- The conditions of closed, and of open, while the sequencer looks for them (R174, R175). -/
def State.closedNow (s : State) (d : Nat) : Bool := (s.doorState d == 4 || s.doorState d == 6) && s.doorLive d && s.doorAt d 0
def State.openNow (s : State) (d : Nat) : Bool := (s.doorState d == 2 || s.doorState d == 5) && s.doorLive d && s.doorAt d (s.openPos d)

/-- Closed is reached (R175): the condition has held at every position period for 50 ms. -/
def State.closedReached (s : State) (d : Nat) : State :=
  match (s.door d).closedAt, s.closedNow d with
  | some t, true => s.doorNoted ((s.advanceTo (t + 50 * msCounts)).doorEnter d 1) d
  | _, _ => s

/-- Open is reached (R175). -/
def State.openReached (s : State) (d : Nat) : State :=
  match (s.door d).openAt, s.openNow d with
  | some t, true => s.doorNoted ((s.advanceTo (t + 50 * msCounts)).doorEnter d 3) d
  | _, _ => s

/-- The next phase of a learning run. -/
def State.learnPhase (s : State) (d : Nat) (f : DoorSt → DoorSt) : State :=
  let x := f (s.door d)
  s.setDoor d { x with phase := x.phase + 1, periods := 0, stallAt := none }

/-- The reference set at the closed stop (R173, R174). -/
def State.doorRef (s : State) (d : Nat) : State := (s.wr (Reg.LIFT_DOOR_REF d) (s.opPos d)).setBit (Reg.LIFT_DOOR_STAT d) 19 false

/-- A learning run succeeds (R179). -/
def State.learnOk (s : State) (d : Nat) : State :=
  let x := s.door d
  let s := (s.wr (Reg.LIFT_DOOR_LEARN d 0) x.mass).wr (Reg.LIFT_DOOR_LEARN d 1) x.friction
  let s := (s.wr (Reg.LIFT_DOOR_LEARN d 2) (Num.int x.stroke.toInt).bfWord).wr (Reg.LIFT_DOOR_OPEN_POS d) (wi (divRne (x.stroke.toInt * 98) 100))
  let s := (s.setBit (Reg.LIFT_DOOR_STAT d) 6 true).setBit (Reg.LIFT_DOOR_STAT d) 19 false
  ((s.doorDerive d).learnEnd d 1).doorEnter d 1

/-- A stall is present (R175): the velocity stage at IQ_MAX and the panel nearly at rest. -/
def State.stalled (s : State) (d : Nat) : Bool :=
  s.bit (Reg.LOOP_STG_STAT (3 * d + 1)) 1 && (s.opVel d).abs.lt (((s.door d).par 8).mul ⟨1, 20⟩) && s.opMode d == 2

/-- The effect of a stall on HOMING and on a learning run (R174, R179). -/
def State.stallEffect (s : State) (d : Nat) : State :=
  if s.doorState d = 9 then (s.doorRef d).doorEnter d 1
  else if s.doorState d = 8 then
    match (s.door d).phase with
    | 1 => (s.doorRef d).learnPhase d id
    | 2 =>
      let stroke := s.doorPos d
      if (Num.int stroke).lt ((((s.door d).par 4)).mul ⟨1, 10⟩) then s.learnFail d 3
      else s.learnPhase d (fun x => { x with stroke := wi stroke, iqSum := 0 })
    | 5 => s.learnOk d
    | _ => s
  else s

/-- A stall present at every position period for 100 ms (R175). -/
def State.doorStall (s : State) (d : Nat) : State :=
  match (s.door d).stallAt, s.stalled d with
  | some t, true => s.doorNoted ((s.advanceTo (t + 100 * msCounts)).stallEffect d) d
  | _, _ => s

/-- The holds of R175 followed at a position period: since when each condition stands; a lost grant ends them (R174). -/
def State.doorHolds (s : State) (d : Nat) : State :=
  let x := s.door d
  let hold := fun (on : Bool) (o : Option Nat) => if on then some (o.getD s.now) else none
  s.setDoor d { x with closedAt := hold (s.closedNow d) x.closedAt, openAt := hold (s.openNow d) x.openAt, stallAt := hold (s.stalled d) x.stallAt }

/-- The friction and mass phases of a learning run at a position period (R179). -/
def State.learnPeriod (s : State) (d : Nat) : State :=
  let x := s.door d
  let iq := ((s.oper d).block 0).lane 3
  if x.phase = 3 then
    let at4 := 4 * s.doorPos d
    if at4 ≤ 2 * x.stroke.toInt then
      let mean := if x.periods = 0 then Num.zero else (Num.ofBf x.iqSum).div (Num.int x.periods)
      s.learnPhase d (fun x => { x with iqMean := mean.bfWord, friction := ((x.par 3).mul mean).bfWord, vel0 := (s.opVel d).bfWord })
    else if at4 ≤ 3 * x.stroke.toInt then s.setDoor d { x with iqSum := ((Num.ofBf x.iqSum).add iq.abs).bfWord, periods := x.periods + 1 }
    else s
  else if x.phase = 4 then
    if x.periods + 1 < 100 then s.setDoor d { x with periods := x.periods + 1 }
    else
      let half := ((x.par 9).min (Num.ofBf (s.rd (Reg.LIFT_DOOR_DERIVED d 0)))).mul ⟨1, 2⟩
      let dv := ((s.opVel d).sub (Num.ofBf x.vel0)).abs.div (x.par 4)
      let mass := (((x.par 3).mul half).mul ⟨1, 20⟩).div dv
      if dv.n = 0 ∨ mass.lt (Num.int 5) ∨ (Num.int 1000).lt mass then s.learnFail d 4
      else s.learnPhase d (fun x => { x with mass := mass.bfWord })
  else s

/-- The events a sequencer sees at a position period, other than commands (R174, R177, R179). A following-error alarm is an event as it arises; to
CLOSING and NUDGING its standing is an obstruction. -/
def State.doorEvents (s : State) (d : Nat) : State :=
  let st := s.doorState d
  let lc := s.curtain d
  let x := s.door d
  let edge := lc && !x.lcPrev
  let s := s.setDoor d { x with lcPrev := lc, lcCount := if edge ∧ st = 6 then x.lcCount + 1 else x.lcCount }
  if s.opMode d = 5 then
    if st = 10 then s else if st = 8 then (s.learnEnd d 6).doorEnter d 10 else s.doorEnter d 10
  else if !s.doorLive d then
    if st = 8 then
      match (s.door d).lost with
      | none => s.setDoor d { s.door d with lost := some s.now }
      | some t => if t + secCounts < s.now then s.learnFail d 5 else s
    else s
  else
    let alarm := s.doorFe d && !(s.door d).fePrev
    let s := s.setDoor d { s.door d with lost := none, fePrev := s.doorFe d }
    let inLock := decide (s.doorPos d ≤ s.fld (Reg.LIFT_DOOR_ZONE d) 31 16)
    match st with
    | 2 => if alarm then s.doorEnter d 7 else s
    | 5 => if alarm then s.doorEnter d 7 else s
    | 4 => if s.doorFe d && !inLock then s.doorReverse d 1 else if lc then s.doorReverse d 2 else s
    | 6 => if s.doorFe d && !inLock then s.doorReverse d 1 else s
    | 8 => if alarm || lc then s.learnFail d 5 else s.learnPeriod d
    | _ => s

/-! ### What the sequencer writes (R172, R174, R176) -/

/-- A request written by the sequencer (R172); it leaves alarms and a FAULT as they are. -/
def State.seqReq (s : State) (d mode : Nat) : State := s.setFld (Reg.LOOP_STG_MODE (3 * d)) 2 0 mode

/-- Active items of the operator written by the sequencer: stage, parameter, value. -/
def State.seqPar (s : State) (d k i : Nat) (v : Num) : State :=
  let x := s.oper d
  let set := (x.act.toList.getD k (Vector.replicate 8 0)).setIfInBounds i v.bfWord
  s.setOper d { x with act := x.act.setIfInBounds k set }

/-- The mode a state asks of the operator (R174); none in FAULT, which the sequencer leaves to HOME. -/
def doorMode (st phase : Nat) : Option Nat :=
  match st with
  | 1 => some 1
  | 8 => some (if phase = 4 then 1 else 2)
  | 9 => some 2
  | 10 => none
  | _ => some 3

/-- The items that a state sets: IQ_CMD, V_CMD, TARGET and V_MAX (R174, R179); the others stay as the sequencer last wrote them (log entry 68). -/
def State.doorItems (s : State) (d : Nat) : DoorSt :=
  let x := s.door d
  let dv := fun i => Num.ofBf (s.rd (Reg.LIFT_DOOR_DERIVED d i))
  let go := fun (target : Int) (v : Num) => { x with target := s.rd (Reg.LIFT_DOOR_REF d) + wi target, vMax := v.bfWord }
  let run := fun (v : Num) => { x with vCmd := v.bfWord }
  match s.doorState d with
  | 1 => { x with iqCmd := (x.par 7).neg.bfWord }
  | 2 => go (s.openPos d) (x.par 5)
  | 3 => go (s.openPos d) (x.par 5)
  | 4 => go 0 (dv 1)
  | 5 => go (s.openPos d) (x.par 5)
  | 6 => go 0 ((x.par 6).min (dv 1))
  | 9 => run (x.par 8).neg
  | 8 =>
    match x.phase with
    | 2 => run (x.par 8)
    | 4 => { x with iqCmd := ((Num.ofBf x.iqMean).add (((x.par 9).min (dv 0)).mul ⟨1, 2⟩)).neg.bfWord }
    | _ => run (x.par 8).neg
  | _ => x

/-- The operator's items written (R172): REQ, IQ_CMD, TARGET, V_MAX, A_MAX, IQ_MAX and V_CMD, at every position period; STOPPED brings the operator to
rest (R174). -/
def State.doorDrive (s : State) (d : Nat) : State :=
  let x := s.doorItems d
  let st := s.doorState d
  let s := s.setDoor d x
  let dv := fun i => Num.ofBf (s.rd (Reg.LIFT_DOOR_DERIVED d i))
  let s := match doorMode st x.phase with | some m => s.seqReq d m | none => s
  let s := ((s.seqPar d 0 7 (Num.ofBf x.iqCmd)).seqPar d 1 3 (Num.ofBf x.vCmd)).seqPar d 2 2 (Num.ofBf x.vMax)
  let s := s.seqPar d 1 2 (if st = 8 then (x.par 9).min (dv 0) else dv 0)
  let s := s.seqPar d 2 3 ((Num.ofBf (s.oper d).amax).min (dv 2))
  (s.wr (Reg.LOOP_STG_TARGET (3 * d + 2)) x.target).setOper d { s.oper d with stop := decide (st = 7) }

/-- Charge taken (R172, R174): STOPPED with REF_LOST, the items as the operator has them. -/
def State.doorTake (s : State) (d : Nat) : State :=
  let i : PointIdx := BitVec.ofNat 14 (s.fld (Reg.LIFT_DOOR_PTS d) 13 0)
  let o := s.oper d
  let x := { s.door d with seq := s.pointWord i 6, fePrev := s.doorFe d, iqCmd := (o.par 0 7).bfWord, vCmd := (o.par 1 3).bfWord, vMax := (o.par 2 2).bfWord, target := s.rd (Reg.LOOP_STG_TARGET (3 * d + 2)) }
  ((s.setDoor d x).setBit (Reg.LIFT_DOOR_STAT d) 19 true).doorEnter d 7

/-- One position period of a sequencer (R172). -/
def State.doorPeriod (s : State) (d : Nat) : State :=
  if !s.hasLift || !s.bit (Reg.LIFT_DOOR_CFG d) 0 then s
  else if !s.bit Reg.LIFT_CTRL 0 then s.doorIdle d
  else if !s.doorReady d then (s.setBit (Reg.LIFT_DOOR_STAT d) 4 true).doorIdle d
  else
    let s := if s.doorState d = 0 then s.doorTake d else ((s.doorCommand d).doorEvents d).doorHolds d
    (s.doorDrive d).doorCommit d

/-- An illegal transition of a door encoder (R178). -/
def State.doorQerr (s : State) (d : Nat) : State :=
  let u := s.setBit (Reg.LIFT_DOOR_STAT d) 19 true
  if [2, 4, 5, 6].contains (s.doorState d) then s.doorNoted (u.doorEnter d 7) d else u

/-- Both lines of an encoder input change in one sample (R164). -/
def State.encQerr (s : State) (e : Nat) : State :=
  if !s.hasLift || !s.bit Reg.FIELD_STAT 8 then s
  else
    let s := s.incSat (Reg.LIFT_ENC_QERR e) 15 0
    let s := s.recordWindow e secCounts { sev := 5, source := 0x07, code := 164, args := [wd e, s.rd (Reg.LIFT_ENC_COUNT e)] }
    let c := e / 4
    if e % 4 < 2 then (if s.carState c = 1 then s.setCarState c 2 (1 + e % 4) else s)
    else s.doorQerr (2 * c + e % 4 - 2)

/-- A host write in the LIFT block that is not a plain register write. -/
def State.liftWrite (s : State) (a : Nat) (v : Word) : Option State :=
  if s.variant = 1 then some s
  else if Reg.LIFT_CAR_CFG 0 ≤ a ∧ a < 0x070900 then
    let c := (a - 0x070100) / 0x100
    match a % 0x100 with
    | 0x00 =>
      let i : PointIdx := BitVec.ofNat 14 (bits v 13 0)
      let taken := s.boundSlots.any (fun p => p.2.out == i) || s.loop.ops.toList.any (fun o => o.bind.any (fun p => p.1 == i))
      let ptOk := s.pointIs i 1 1 && !taken
      let ok := ptOk && decide (bits v 19 16 < 12) && decide (bits v 23 20 < 12)
      let s := if bitOf v 15 then s.setBit a 15 false else s
      let w := s.rd a
      let w := putBits w 14 14 (bits v 14 14)
      let w := putBits w 24 24 (bits v 24 24)
      let w := if ptOk then putBits w 13 0 (bits v 13 0) else w
      let w := if bits v 19 16 < 12 then putBits w 19 16 (bits v 19 16) else w
      let w := if bits v 23 20 < 12 then putBits w 23 20 (bits v 23 20) else w
      some (if ok then s.wr a w else s.wr a (setBitOf w 15 true))
    | 0x10 => some (if bits v 15 0 = 0 then (s.setFld a 31 16 (bits v 31 16)).setBit (Reg.LIFT_CAR_CFG c) 15 true else s.wr a v)
    | 0x14 =>
      let s := if bitOf v 0 then s.carClear c else s
      some (if bitOf v 1 then s.carFlush c else s)
    | _ => none
  else if Reg.LIFT_DOOR_CFG 0 ≤ a ∧ a < 0x075000 then
    let d := (a - 0x074000) / 0x100
    if a = Reg.LIFT_DOOR_CFG d then
      let s := s.setFld a 1 1 (bits v 1 1)
      let s := s.setFld a 6 6 (bits v 6 6)
      let s := if bits v 5 2 < 12 then s.setFld a 5 2 (bits v 5 2) else s.setBit (Reg.LIFT_DOOR_STAT d) 4 true
      some (if bitOf v 0 || s.bit a 0 then s.seqEn d (bitOf v 0) else s)
    else if a = Reg.LIFT_DOOR_OPEN_POS d then
      let s := s.wr a v
      some (if 0 < v.toInt then s.setBit (Reg.LIFT_DOOR_STAT d) 6 true else s)
    else if Reg.LIFT_DOOR_PARAM d 0 ≤ a ∧ a ≤ Reg.LIFT_DOOR_PARAM d 9 then
      let s := (s.wr a (v &&& 0x3FFFFFFF)).setBit (Reg.LIFT_DOOR_STAT d) 7 true
      some (if s.doorState d = 0 then s.doorApply d else s)
    else none
  else none

end Sys2Proof.Machine
end

