-- ==== Sys2Proof/Machine/RiserOps.lean ====
section
/-! DEFINITION. What the riser ports carry beside HELLO and TIME: firmware blocks sent up the chain (R361), and the chain position (R356). -/

namespace Sys2Proof.Machine

/-! ### Firmware frames (R361) -/

/-- The bytes of a list as words, the last one filled with zeros. -/
def wordsOf (b : List Byte) : List Word := (List.range ((b.length + 3) / 4)).map (fun i => bytesWord (b.drop (4 * i)))

/-- A firmware slot. -/
def State.fwSlot (s : State) (n : Fin 2) : FwuSlot := s.fwu.slots[n]

/-- A little-endian number in a manifest (R358). -/
def FwuSlot.field (x : FwuSlot) (a n : Nat) : Nat := (List.range n).foldl (fun v i => v + (x.manifest.getD (a + i) 0).toNat * 256 ^ i) 0

/-- NBLOCKS and IMAGE_ID. -/
def FwuSlot.count (x : FwuSlot) : Nat := x.field 6 2
def FwuSlot.imageId (x : FwuSlot) : BitVec 64 := BitVec.ofNat 64 (x.field 8 8)

/-- An FWU frame on a port (TYPE 3): OP, ERR, block, offset within the manifest or block (log entry 43), IMAGE_ID, data. -/
def fwuFrame (port op err block off : Nat) (id : BitVec 64) (data : List Byte) : Nat × Nat × List Word :=
  (port, 3, [wd (op + err * 256 + block * 65536), wd off, id.extractLsb' 0 32] ++ wordsOf data)

/-- Data sent up in pieces of 1,484 bytes. -/
def State.fwuData (s : State) (op block : Nat) (id : BitVec 64) (data : List Byte) : State :=
  (List.range (ceilDiv data.length 1484)).foldl (fun s i => s.riserAdd (fwuFrame 0 op 0 block (1484 * i) id ((data.drop (1484 * i)).take 1484))) s

/-- Forwarding replaced. -/
def State.setFwd (s : State) (f : Option FwdSt) : State := { s with fwu := { s.fwu with fwd := f } }

/-- Blocks go up through Riser Up now (R346). -/
def State.relaying (s : State) : Bool := s.fwu.fwd.isSome && s.riserUp 0

/-- FWU_STAT.STATE; a module without an image stays DEAD until START (R369). -/
def State.fwuState (s : State) : Nat := s.fld Reg.FWU_STAT 3 0
def State.setFwuState (s : State) (st : Nat) : State := if s.fwuState = 6 then s else s.setFld Reg.FWU_STAT 3 0 st

/-- Forwarding has ended (R362): a slot that runs already was forwarded after its report card. -/
def State.endForward (s : State) : State :=
  match s.fwu.fwd with
  | some f =>
    let s := s.setFwd none
    if s.fwuState = 3 then s.setFwuState (if s.fld (Reg.FWU_SLOT_STAT f.slot.val) 2 0 = 2 then 2 else 0) else s
  | none => s

/-- The thing the neighbour needs sent: the manifest, or the next block where the slot holds it. -/
def State.forward (s : State) : State :=
  match s.fwu.fwd with
  | some f =>
    let x := s.fwSlot f.slot
    if !s.riserUp 0 ∨ f.sentAt.isSome then s
    else if f.manifest then (s.fwuData 1 0 x.imageId x.manifest).setFwd (some { f with sentAt := some s.now })
    else match x.blocks[f.next]? with
      | some b => (s.fwuData 2 f.next x.imageId b).setFwd (some { f with sentAt := some s.now })
      | none => s
  | none => s

/-- A slot's image offered to the neighbour above, manifest first. -/
def State.offer (s : State) (slot : Fin 2) : State :=
  let s := (s.setFld Reg.FWU_FWD 9 0 0).setBit Reg.FWU_FWD 10 false
  (s.setFwd (some { slot := slot, manifest := true, next := 0, sentAt := none, fails := 0 })).forward

/-- An ACK from above (R361). -/
def State.fwuAcked (s : State) (block err : Nat) : State :=
  match s.fwu.fwd with
  | some f =>
    let n := (s.fwSlot f.slot).count
    if f.sentAt.isNone then s
    else if f.manifest then
      if block = 0xFFFF then (s.setBit Reg.FWU_FWD 10 true).endForward
      else if err ≠ 0 then s
      else
        let s := s.setFld Reg.FWU_FWD 9 0 (min block n)
        if n ≤ block then s.endForward
        else (s.setFwd (some { f with manifest := false, next := block, sentAt := none, fails := 0 })).forward
    else if block = f.next then
      let s := s.setFld Reg.FWU_FWD 9 0 (block + 1)
      if n ≤ block + 1 then s.endForward else (s.setFwd (some { f with next := block + 1, sentAt := none, fails := 0 })).forward
    else s
  | none => s

/-- A NAK from above, or no ACK within 200 ms: sent again, and ABORT after the third (R361). -/
def State.fwuRefused (s : State) : State :=
  match s.fwu.fwd with
  | some f =>
    if f.sentAt.isNone then s
    else if 2 ≤ f.fails then (s.riserAdd (fwuFrame 0 5 0 f.next 0 (s.fwSlot f.slot).imageId [])).endForward
    else (s.setFwd (some { f with sentAt := none, fails := f.fails + 1 })).forward
  | none => s

/-! ### Riser Up comes and goes (R356, R361) -/

/-- A ROLL frame (TYPE 1): a chain position or length, and the sender's serial number. -/
def State.rollFrame (s : State) (port value : Nat) : Nat × Nat × List Word := (port, 1, [wd value, s.rd Reg.SYS_SERIAL_LO, s.rd Reg.SYS_SERIAL_HI])

/-- Riser Up has come UP: a known position goes up, TOP clears, and the manifest is offered again. -/
def State.riserCameUp (s : State) : State :=
  let pos := s.fld Reg.SYS_ROLL_STAT 15 8
  let s := if pos = 0xFF then s else (s.setBit Reg.SYS_ROLL_STAT 25 false).riserAdd (s.rollFrame 0 pos)
  match s.fwu.fwd with
  | some f => ((if s.fwuState = 2 then s.setFwuState 3 else s).setFwd (some { f with manifest := true, sentAt := none, fails := 0 })).forward
  | none => s

/-- Riser Up has gone DOWN: forwarding pauses, and an installation need not wait for it (R362). -/
def State.riserWentDown (s : State) : State :=
  match s.fwu.fwd with
  | some f => (if s.fwuState = 3 ∧ s.fld (Reg.FWU_SLOT_STAT f.slot.val) 2 0 = 2 then s.setFwuState 2 else s).setFwd (some { f with sentAt := none })
  | none => s

end Sys2Proof.Machine
end

