-- ==== Sys2Proof/Machine/FwuOps.lean ====
section
/-! DEFINITION. Firmware images and slots (R358 to R360), delivery (R361), the trial of a new image (R362 to R365), and the settings records of
steward firmware (R354, R366). -/

namespace Sys2Proof.Machine

/-! ### Settings (R354, R366; log entry 44) -/

/-- The bits of a register that steward firmware keeps in settings; 0 for the others: RW bits, and the learned values of a door with LEARNED (R171). -/
def settingMask (a : Nat) : Word :=
  let b := a / 0x10000
  let door := if Reg.LIFT_DOOR_CFG 0 ≤ a ∧ a < 0x075000 then a % 0x100 else 0
  if door = 0x48 ∨ door = 0x4C ∨ door = 0x50 then 0x3FFFFFFF
  else if door = 0x08 then 0x40
  else if (b = 0x07 ∨ b = 0x0A ∨ b = 0x0B ∨ b = 0x0C ∨ b = 0x0E ∨ a = Reg.SCAN_RESTART_CFG) ∧ a ≠ Reg.FIELD_CTRL then
    match regSpec? a with
    | some r => r.rw
    | none => 0
  else 0

/-- A setting at its reset value. -/
def settingDefault (a : Nat) : Word := regDefault a &&& settingMask a

/-- The settings as the registers stand. -/
def State.liveSettings (s : State) : Tab Word :=
  (s.regs.map (fun p => (p.1, p.2 &&& settingMask p.1))).filter (fun p => decide (p.2 ≠ settingDefault p.1))

/-- The settings put back into the registers, and the doors' sets with them. -/
def State.restoreSettings (s : State) : State :=
  let put := fun (s : State) (a : Nat) => s.wr a ((s.rd a &&& ~~~(settingMask a)) ||| Tab.get settingDefault s.settings a)
  (List.range 16).foldl State.doorRestore ((((s.regs.map (·.1)) ++ s.settings.map (·.1)).filter (fun a => settingMask a != 0)).foldl put s)

/-! ### Slots (R360) -/

/-- A slot's state: 0 EMPTY, 1 RECEIVING, 2 VERIFIED, 3 TRIAL, 4 CURRENT, 5 OLD, 6 FAILED. -/
def State.slotState (s : State) (n : Fin 2) : Nat := s.fld (Reg.FWU_SLOT_STAT n.val) 2 0
def State.setSlotState (s : State) (n : Fin 2) (st : Nat) : State := s.setFld (Reg.FWU_SLOT_STAT n.val) 2 0 st

/-- RUNNING. -/
def State.slotRuns (s : State) (n : Fin 2) : Bool := s.bit (Reg.FWU_SLOT_STAT n.val) 3

/-- The slot that runs takes over: RUNNING of both. -/
def State.setRunning (s : State) (n : Fin 2) : State :=
  (s.setBit (Reg.FWU_SLOT_STAT n.val) 3 true).setBit (Reg.FWU_SLOT_STAT (1 - n).val) 3 false

/-- A slot's contents replaced, VERSION and IMAGE_ID with them. -/
def State.setFwSlot (s : State) (n : Fin 2) (x : FwuSlot) : State :=
  let s := { s with fwu := { s.fwu with slots := s.fwu.slots.set n.val x } }
  ((s.wr (Reg.FWU_SLOT_VER n.val) (wd (x.field 16 4))).wr (Reg.FWU_SLOT_ID_LO n.val) (x.imageId.extractLsb' 0 32)).wr
    (Reg.FWU_SLOT_ID_HI n.val) (x.imageId.extractLsb' 32 32)

/-- The slot a transfer writes into: neither CURRENT nor running. -/
def State.freeSlot (s : State) : Option (Fin 2) := [0, 1].find? (fun n => s.slotState n != 4 && !s.slotRuns n)

/-- The slot that runs, and a slot in a state. -/
def State.runningSlot (s : State) : Option (Fin 2) := [0, 1].find? s.slotRuns
def State.slotIn (s : State) (st : Nat) : Option (Fin 2) := [0, 1].find? (fun n => s.slotState n == st)

/-! ### Refusals (R359) -/

/-- FWU_STAT.ERR with its event. -/
def State.fwuErr (s : State) (code : Nat) : State :=
  (s.setFld Reg.FWU_STAT 8 5 code).record { sev := 4, source := 0x1C, code := 359, args := [wd code] }

/-- A command that is not valid in the current state. -/
def State.fwuSequence (s : State) : State := s.fwuErr 8

/-- The first reason to refuse a manifest; 0 accepts it. -/
def State.manifestErr (s : State) (m : List Byte) : Nat :=
  let x : FwuSlot := { manifest := m, blocks := [] }
  let run : FwuSlot := match s.runningSlot with
    | some n => s.fwSlot n
    | none => { manifest := [], blocks := [] }
  let zero := fun (a n : Nat) => ((m.drop a).take n).all (· == 0)
  if (m.take 4 ≠ [0x45, 0x53, 0x46, 0x57] ∨ x.field 4 2 ≠ 1 ∨ x.count = 0 ∨ 767 < x.count) ∨ !(zero 25 1 && zero 30 2 && zero 80 3920) then 1
  else if !Config.verify 1 Config.firmwareKey ((m.drop 4000).take 96) (m.take 4000) then 2
  else if !(m.getD 24 0).getLsbD s.variant then 3
  else if x.field 16 4 < run.field 20 4 then 4
  else if run.field 26 2 < x.field 28 2 then 5
  else if (match s.fwu.xfer with | some id => id != x.imageId | none => s.fwuState == 3 && (s.freeSlot.map (fun n => (s.fwSlot n).imageId)) != some x.imageId) then 7
  else if s.fwuState = 4 ∨ s.fwuState = 5 then 8
  else if (match s.freeSlot with | some n => s.nand.bad.contains (.slot n, 0) | none => true) then 9
  else if s.fld Reg.KEY_LCS 2 0 = 5 then 10
  else 0

/-! ### Receiving (R360, R361) -/

/-- The bytes that have arrived from an image offset on, where all of them have. -/
def State.arrived (s : State) (off n : Nat) : Option (List Byte) :=
  let l := (List.range n).filterMap (fun i => Tab.get (fun _ => none) s.fwu.stage (off + i))
  if l.length = n then some l else none

/-- Bytes staged in LPDDR5 until they can be verified (R358). -/
def State.stageBytes (s : State) (off : Nat) (b : List Byte) : State :=
  let t := ((List.range b.length).zip b).foldl (fun t p => Tab.set (fun _ => none) t (off + p.1) (some p.2)) s.fwu.stage
  { s with fwu := { s.fwu with stage := t } }

/-- Staged bytes dropped. -/
def State.unstage (s : State) (off n : Nat) : State :=
  { s with fwu := { s.fwu with stage := s.fwu.stage.filter (fun p => decide (p.1 < off) || decide (off + n ≤ p.1)) } }

/-- An accepted manifest: its slot RECEIVING, or as far as a slot of the same IMAGE_ID already is; offered to the neighbour above (R361). -/
def State.acceptManifest (s : State) (m : List Byte) (riser : Bool) : State :=
  match s.freeSlot with
  | none => s
  | some n =>
    let new : FwuSlot := { manifest := m, blocks := [] }
    let old := s.fwSlot n
    let same : Bool := old.imageId == new.imageId && (s.slotState n == 1 || s.slotState n == 2)
    let s := (if same then s else s.erase (.slot n) 0).setFwSlot n (if same then { old with manifest := m } else new)
    let full : Bool := (s.fwSlot n).blocks.length == new.count
    let s := (s.setSlotState n (if full then 2 else 1)).setFld (Reg.FWU_SLOT_STAT n.val) 7 4 0
    let s := (((s.setFwuState (if full then 2 else 1)).setFld Reg.FWU_STAT 8 5 0).setBit Reg.FWU_STAT 10 riser).setFld Reg.FWU_STAT 25 16 (s.fwSlot n).blocks.length
    let s := { s with fwu := { s.fwu with began := false, xfer := if full then none else some new.imageId, fails := 0, lastAt := s.now } }
    let s := if same && s.fwu.fwd.isSome then s
      else if s.bit Reg.FWU_CFG 3 && !s.bit Reg.FWU_CFG 0 then s.offer n else s.setFwd none
    if full && s.relaying then s.setFwuState 3 else s

/-- The transfer is over; what is verified stays (R361). -/
def State.endTransfer (s : State) : State :=
  State.setFwuState { s with fwu := { s.fwu with began := false, xfer := none, stage := [], fails := 0 } } 0

/-- A block fails its link (R361): NAK to a sender below, and the end of the transfer at the third failure. -/
def State.blockFailed (s : State) (n : Fin 2) (riser : Bool) : State :=
  let x := s.fwSlot n
  let i := x.blocks.length
  let s := s.unstage (4096 + 65536 * i) 65536
  if 2 ≤ s.fwu.fails then
    let s := if riser then s.riserAdd (fwuFrame 1 5 0 i 0 x.imageId []) else s
    (s.fwuErr 6).endTransfer
  else
    let s := { s with fwu := { s.fwu with fails := s.fwu.fails + 1 } }
    if riser then s.riserAdd (fwuFrame 1 4 0 i 0 x.imageId []) else s

/-- A block verified (R358, R361): written once its slot is erased, acknowledged, forwarded; the last one makes the image VERIFIED. -/
def State.blockVerified (s : State) (n : Fin 2) (riser : Bool) (b : List Byte) : State :=
  let x := s.fwSlot n
  let i := x.blocks.length
  let s := ((s.unstage (4096 + 65536 * i) 65536).erased).setFwSlot n { x with blocks := x.blocks ++ [b] }
  let s := s.setFld Reg.FWU_STAT 25 16 (i + 1)
  let s := { s with fwu := { s.fwu with fails := 0, lastAt := s.now } }
  let s := if riser then s.riserAdd (fwuFrame 1 3 0 i 0 x.imageId []) else s
  let s := s.forward
  if i + 1 = x.count then
    let s := { (s.setSlotState n 2) with fwu := { s.fwu with xfer := none, stage := [] } }
    s.setFwuState (if s.relaying then 3 else 2)
  else s

/-- What block i must hash to: HEAD, or the link of the block before it (R358). -/
def FwuSlot.link (x : FwuSlot) (i : Nat) : List Byte :=
  if i = 0 then (x.manifest.drop 32).take 48 else ((x.blocks.getD (i - 1) []).drop 65488).take 48

/-- A digest as bytes, first byte first. -/
def digestBytes (d : BitVec 384) : List Byte := ((List.range 48).map (fun i => d.extractLsb' (8 * i) 8)).reverse

/-- The blocks that have arrived and come next verified, as long as there are any; `fuel` is the number of blocks an image can have. -/
def State.verifyBlocks (s : State) (riser : Bool) : Nat → State
  | 0 => s
  | fuel + 1 =>
    match s.slotIn 1 with
    | none => s
    | some n =>
      let x := s.fwSlot n
      let i := x.blocks.length
      if s.fwu.xfer ≠ some x.imageId then s
      else match s.arrived (4096 + 65536 * i) 65536 with
        | none => s
        | some b =>
          if digestBytes (Config.sha384 b) = x.link i then (s.blockVerified n riser b).verifyBlocks riser fuel
          else s.blockFailed n riser

/-- BEGIN by the host (R361). -/
def State.fwuBegin (s : State) : State :=
  if [0, 1, 2, 6].contains s.fwuState then
    let mine := !s.bit Reg.FWU_STAT 10
    let s := { s with fwu := { s.fwu with began := true, stage := [], xfer := if mine then none else s.fwu.xfer } }
    (s.setFld Reg.FWU_STAT 8 5 0).setFwuState 1
  else s.fwuSequence

/-- The manifest of a host delivery checked once all of it has arrived. -/
def State.hostManifest (s : State) : State :=
  if !s.fwu.began then s
  else match s.arrived 0 4096 with
    | none => s
    | some m =>
      match s.manifestErr m with
      | 0 => (s.unstage 0 4096).acceptManifest m false
      | e =>
        let s := s.fwuErr e
        if s.fwu.xfer.isSome then { s with fwu := { s.fwu with began := false, stage := [] } } else s.endTransfer

/-- PUSH by the host (R361): a piece of 4 to 4,096 whole words, LEN bytes of FWU_BUF staged at OFFSET, and everything verified that they complete. -/
def State.fwuPush (s : State) (data : List Byte) : State :=
  let off := s.fld Reg.FWU_OFFSET 25 0
  let n := s.fld Reg.FWU_LEN 12 0
  if !(s.fwu.began || (s.fwu.xfer.isSome && !s.bit Reg.FWU_STAT 10)) then s.fwuSequence
  else if 4096 + 65536 * 767 < off + n ∨ n = 0 ∨ 4096 < n ∨ n % 4 ≠ 0 ∨ off % 4 ≠ 0 then s.fwuErr 1
  else ((s.stageBytes off (data.take n)).hostManifest).verifyBlocks false 767

/-- ABORT by the host, or an ABORT frame (R361). -/
def State.fwuAbort (s : State) : State :=
  if s.fwuState = 4 ∨ s.fwuState = 5 then s.fwuSequence
  else
    let s := match s.fwu.fwd with
      | some f => (if s.relaying then s.riserAdd (fwuFrame 0 5 0 f.next 0 (s.fwSlot f.slot).imageId []) else s).setFwd none
      | none => s
    s.endTransfer

/-- A MANIFEST frame from below (R361): checked, and answered with the first block the module needs. -/
def State.fwuManifest (s : State) (m : List Byte) : State :=
  let id := FwuSlot.imageId { manifest := m, blocks := [] }
  let runs := match s.runningSlot with | some n => (s.fwSlot n).imageId == id && (s.fwSlot n).manifest == m | none => false
  if runs then s.riserAdd (fwuFrame 1 3 0 0xFFFF 0 id [])
  else match s.manifestErr m with
    | 0 =>
      let s := s.acceptManifest m true
      let need := match s.freeSlot with | some n => (s.fwSlot n).blocks.length | none => 0
      s.riserAdd (fwuFrame 1 3 0 need 0 id [])
    | e => (s.fwuErr e).riserAdd (fwuFrame 1 3 e 0xFFFF 0 id [])

/-- A DATA frame from below (R358, R361); a block held already is acknowledged again. -/
def State.fwuDataRx (s : State) (image : Word) (block off : Nat) (data : List Byte) : State :=
  match s.fwu.xfer with
  | some id =>
    let held := s.fld Reg.FWU_STAT 25 16
    if id.extractLsb' 0 32 ≠ image ∨ !s.bit Reg.FWU_STAT 10 ∨ 767 ≤ block ∨ 65536 < off + data.length then s
    else if block < held then s.riserAdd (fwuFrame 1 3 0 block 0 id [])
    else (s.stageBytes (4096 + 65536 * block + off) data).verifyBlocks true 767
  | none => s

/-- A RECEIVING slot without a block for 10 min (R361). -/
def State.fwuDiscard (s : State) : State :=
  match s.slotIn 1 with
  | some n =>
    let s := s.advanceTo (s.fwu.lastAt + 600 * secCounts)
    (((((s.erase (.slot n) 0).setFwSlot n { manifest := [], blocks := [] }).setSlotState n 0).setFwd none).setFld Reg.FWU_STAT 25 16 0).endTransfer
  | none => s

/-! ### The trial (R362 to R366) -/

/-- Forwarding has ended for an installation (R362). -/
def State.forwardEnded (s : State) : Bool := s.bit Reg.FWU_CFG 0 || !s.bit Reg.FWU_CFG 3 || !s.relaying

/-- Every block of a slot agrees with its chain (R363). -/
def FwuSlot.chainOk (x : FwuSlot) : Bool :=
  x.blocks.length == x.count && (List.range x.blocks.length).all (fun i => digestBytes (Config.sha384 (x.blocks.getD i [])) == x.link i)

/-- Installation (R363 step 1): the slot becomes TRIAL, the running one holds the fallback image. A slot whose blocks do not agree with their chain is
FAILED. -/
def State.install (s : State) : State :=
  match s.slotIn 2, s.runningSlot with
  | some n, some r =>
    if !(s.fwSlot n).chainOk then (((s.setSlotState n 6).setFld (Reg.FWU_SLOT_STAT n.val) 7 4 6).fwuErr 6).setFwuState 0 else
    let s := ((s.setSlotState r 5).setSlotState n 3).setFwuState 4
    let s := (s.wr Reg.FWU_MIGRATE_CNT 0).setFwd none
    { s with fwu := { s.fwu with prepAt := s.now, ready := false, cancelled := 0, confirmed := false, trialAt := none } }
  | _, _ => s

/-- The trial ends with the slot FAILED; the other image is CURRENT (R363, R365). -/
def State.failTrial (s : State) (err : Nat) : State :=
  match s.slotIn 3, s.slotIn 5 with
  | some n, some o =>
    let s := (((s.setSlotState n 6).setFld (Reg.FWU_SLOT_STAT n.val) 7 4 err).setSlotState o 4).setFwuState 0
    { s with fwu := { s.fwu with ready := false, trialAt := none } }
  | _, _ => s

/-- Steward service pauses: points of remote devices are SUSPENDED (R363 step 3). -/
def State.suspendRemote (s : State) : State :=
  (s.points.filter (fun p => p.2.producer == 6 && p.2.decl.isSome)).foldl (fun s p => s.setQual (BitVec.ofNat 14 p.1) 13 true) s

/-- The other steward core takes over: the accesses it carries are those of its own HM (R119, R121). -/
def State.switchSteward (s : State) : State :=
  let was := s.stewardTenant
  let s := { s with fwu := { s.fwu with active := 1 - s.fwu.active } }
  (s.needSlot s.stewardTenant).settleSlots [was]

/-- A cancelled attempt (R363 step 4): service resumes on the old core, and after 8 of them the trial ends with HANDOVER. -/
def State.handoverCancelled (s : State) : State :=
  if 8 ≤ s.fwu.cancelled + 1 then (s.failTrial 11).fwuErr 11 else { s with fwu := { s.fwu with cancelled := s.fwu.cancelled + 1 } }

/-- The handover at a B3 bell (R363 steps 3 to 5; log entry 43); a free value says whether the old core cannot pass on what it holds. -/
def State.stewardHandover (s : State) : State :=
  match s.slotIn 3 with
  | some n =>
    if !s.fwu.ready then s
    else if s.freeWord.getLsbD 0 then (s.suspendRemote.nextFree).handoverCancelled
    else
      let s := { ((s.suspendRemote.nextFree).setRunning n) with settings := s.liveSettings }
      let s := s.setFwuState 5
      ({ s with fwu := { s.fwu with ready := false, trialAt := some s.now } }).switchSteward
  | none => s

/-- The report card (R364); the old settings records are erased then (R366). -/
def State.reportCard (s : State) : State :=
  match s.slotIn 3, s.slotIn 5, s.fwu.trialAt with
  | some n, some o, some t =>
    if (s.bit Reg.FWU_CFG 2 ∧ !s.fwu.confirmed) ∨ t + s.fld Reg.FWU_REPORT_DEADLINE 11 0 * secCounts < s.now then s
    else
      let s := ((s.setSlotState n 4).setFwuState 0).erase .settings 0
      let s := { s with fwu := { s.fwu with trialAt := none, confirmed := false } }
      let old := (s.fwSlot o).imageId
      let new := (s.fwSlot n).imageId
      let s := s.record { sev := 4, source := 0x1C, code := 364, args := [old.extractLsb' 0 32, old.extractLsb' 32 32, new.extractLsb' 0 32, new.extractLsb' 32 32] }
      if s.bit Reg.FWU_CFG 0 ∧ s.bit Reg.FWU_CFG 3 then (s.setFwuState 3).offer n else s
  | _, _, _ => s

/-- The module falls back to the old image (R365, R366): settings written during the trial are lost; the kinds the event lists are a free
value (log entry 44). -/
def State.fallBack (s : State) : State :=
  match s.slotIn 5 with
  | some o =>
    let served := s.fwu.trialAt.isSome
    let s := (s.failTrial 0).setBit Reg.FWU_STAT 9 true
    let s := if served then
        let s := (s.suspendRemote.setRunning o).switchSteward
        State.outputsUpdate s.restoreSettings
      else s
    (s.record { sev := 6, source := 0x1C, code := 365, args := [s.freeWord] }).nextFree
  | none => s

end Sys2Proof.Machine
end

