-- ==== Sys2Proof/Machine/FieldIO.lean ====
section
/-! DEFINITION. Field I/O and DALI commands (R220 to R241). -/

namespace Sys2Proof.Machine

/-! ### Bindings (R221) -/

/-- What a binding write binds: an input point with the PRODUCER it needs, or a source, with the types allowed. -/
structure Binding where
  idx : PointIdx
  producer : Option Nat
  types : List Nat
deriving DecidableEq, Repr

/-- A point meets a binding's row of the table of R221. -/
def State.bindOk (s : State) (b : Binding) : Bool :=
  let desc := (s.point b.idx).word 3
  b.types.contains (bits desc 3 0) && (match b.producer with | some p => bits desc 12 10 == p | none => true)

/-- The register of an array that an address is, by its base, count and stride. -/
def regIndex (a base n stride : Nat) : Option Nat :=
  if base ≤ a ∧ a < base + n * stride ∧ (a - base) % stride = 0 then some ((a - base) / stride) else none

/-- The bindings a value would put in force at a binding register; none where the address is not one. -/
def bindingsOf (a : Nat) (v : Word) : Option (List Binding) :=
  let pt (lo : Nat) : PointIdx := BitVec.ofNat 14 (bits v (lo + 13) lo)
  let num := [6, 5, 1]
  if (regIndex a (Reg.FIELD_DI_CFG 0) 96 16).isSome then some (if bitOf v 14 then [⟨pt 0, some 3, [0, 2]⟩] else [])
  else if (regIndex a (Reg.FIELD_DO_SRC 0) 64 16).isSome then
    some ((if bitOf v 31 then [⟨pt 0, none, [0]⟩] else []) ++ (if bitOf v 30 then [⟨pt 16, some 3, [0]⟩] else []))
  else if (regIndex a (Reg.FIELD_AI_CFG 0) 32 16).isSome then some (if bitOf v 14 then [⟨pt 0, some 3, num⟩] else [])
  else if (regIndex a (Reg.FIELD_AO_CFG 0) 16 16).isSome then some (if bitOf v 14 then [⟨pt 0, none, num⟩] else [])
  else if Reg.FIELD_GEN_CFG 0 ≤ a ∧ a < Reg.FIELD_GEN_CFG 16 ∧ 4 ≤ a % 32 ∧ a % 32 ≤ 12 then some [⟨pt 0, none, [6, 5]⟩]
  else if Reg.FIELD_GEN_CFG 0 ≤ a ∧ a < Reg.FIELD_GEN_CFG 16 ∧ (a % 32 = 16 ∨ a % 32 = 20) then
    some (if bitOf v 14 then [⟨pt 0, some 3, num⟩] else [])
  else if (regIndex a (Reg.DALI_OUT 0) 512 4).isSome then some (if bitOf v 31 then [⟨pt 0, none, [7, 2]⟩] else [])
  else if (regIndex a (Reg.DALI_EVT 0) 1024 4).isSome then some (if bitOf v 31 then [⟨pt 0, some 5, [7]⟩] else [])
  else none

/-- The input points bound by registers other than one address (R221). -/
def State.boundInputs (s : State) (except : Nat) : List PointIdx :=
  s.regs.flatMap (fun r => if r.1 = except then [] else
    ((bindingsOf r.1 r.2).getD []).filterMap (fun b => if b.producer.isSome then some b.idx else none))

/-- A DALI map value the register table refuses: an ADDR outside the listed values, or KIND 3. -/
def daliRefused (a : Nat) (v : Word) : Bool :=
  ((regIndex a (Reg.DALI_OUT 0) 512 4).isSome && decide (80 < bits v 25 18)) ||
    ((regIndex a (Reg.DALI_EVT 0) 1024 4).isSome && bits v 30 29 == 3)

/-- The value a binding register takes: reserved bits out, and PULSED 0 where SAMPLE is 10 µs (R224). -/
def bindingValue (a : Nat) (v : Word) : Word :=
  let v := v &&& ((regSpec? a).map (·.rw)).getD 0
  if (regIndex a (Reg.FIELD_DI_CFG 0) 96 16).isSome && bits v 17 16 == 0 then setBitOf v 18 false else v

/-- A write of a binding register (R221): taken, or ignored with CFG_ERR; a refused map entry is left not valid. -/
def State.bindWrite (s : State) (a : Nat) (v : Word) : State :=
  match bindingsOf a v with
  | none => s
  | some bs =>
    let inputs := (bs.filter (fun b => b.producer.isSome)).map (·.idx)
    let taken := s.boundInputs a
    let valid := bs.all s.bindOk && !daliRefused a v && inputs.all (fun i => !taken.contains i)
    let dali := decide (0xC0000 ≤ a)
    if valid then
      let s := s.wr a (bindingValue a v)
      match regIndex a (Reg.FIELD_DO_SRC 0) 64 16, regIndex a (Reg.FIELD_AO_CFG 0) 16 16 with
      | some d, _ => s.doUpdate d
      | _, some n => s.aoUpdate n
      | _, _ => s
    else if dali then (s.setBit a 31 false).setBit Reg.DALI_ERR 0 true
    else s.setBit Reg.FIELD_STAT 9 true

/-- A binding register without its bindings of a point. -/
def clearBinding (a : Nat) (v : Word) (i : PointIdx) : Word :=
  if (regIndex a (Reg.FIELD_DO_SRC 0) 64 16).isSome then
    let v := if BitVec.ofNat 14 (bits v 13 0) = i then setBitOf v 31 false else v
    if BitVec.ofNat 14 (bits v 29 16) = i then setBitOf v 30 false else v
  else if 0xC0000 ≤ a then setBitOf v 31 false
  else if Reg.FIELD_GEN_CFG 0 ≤ a ∧ 4 ≤ a % 32 ∧ a % 32 ≤ 12 ∧ a < Reg.FIELD_GEN_CFG 16 then 0
  else setBitOf v 14 false

/-- Every binding of a point that a switch removes is cleared, with an event (R221). -/
def State.unbindPoint (s : State) (i : PointIdx) : State :=
  let mine := s.regs.filter (fun r => ((bindingsOf r.1 r.2).getD []).any (fun b => b.idx == i))
  if mine.isEmpty then s
  else State.outputsUpdate (mine.foldl (fun s r =>
    (s.wr r.1 (clearBinding r.1 r.2 i)).record { sev := 4, source := BitVec.ofNat 8 (r.1 / 65536), code := 221, args := [wd r.1, wd i.toNat] }) s)

/-- The control-to-field link is up (R13). -/
def State.fieldLink (s : State) : Bool := s.bit Reg.FIELD_STAT 8

/-- A binding write by address: FIELD registers are on the field die. -/
def execChannelBind (m : Master) (addr : BitVec 24) (v : Word) (s : State) : Out :=
  .next (s.asPrefect m (fun s => if addr.toNat / 65536 = 0xB then s.overLink m addr.toNat s.fieldLink (fun s => s.bindWrite addr.toNat v) else s.bindWrite addr.toNat v))

/-- FIELD_CTRL.OUT_EN written (R222). -/
def State.outEnable (s : State) (v : Word) : State := ((s.wr Reg.FIELD_CTRL (v &&& 1)).outputsUpdate).daliSettleAll

def execFieldOutEnable (m : Master) (v : Word) (s : State) : Out := .next (s.asPrefect m (fun s => s.overLink m Reg.FIELD_CTRL s.fieldLink (fun s => s.outEnable v)))

/-! ### Digital inputs (R223 to R226, R234) -/

/-- A change accepted on DI d (R223, R225, R226). -/
def State.diAccept (s : State) (d : Nat) (st : Bool) : State :=
  let s := s.setBit (Reg.FIELD_DI_STAT d) 1 st
  let s := if st then s.inc (Reg.FIELD_DI_EDGES d) else s
  let s := s.setBit (Reg.FIELD_COS (d / 32)) (d % 32) true
  let s := if s.bit (Reg.FIELD_COS_EN (d / 32)) (d % 32) then s.irq 1 else s
  let s := { s with field := { s.field with diPend := Tab.set (fun _ => none) s.field.diPend d (some s.now) } }
  if s.inRecess then s.wakeRequest 2 else if s.fieldLink then s.diCommit d else s

/-- One sample of a DI; in RECESS only a DI with WAKE_EN samples (R223, R234). -/
def execDiSample (di : Fin 96) (raw : Bool) (s : State) : Out :=
  let cfg := s.rd (Reg.FIELD_DI_CFG di.val)
  if s.inRecess && !bitOf cfg 20 then .next s
  else
    let limit := max 1 (bits cfg 31 24)
    let c := s.fld (Reg.FIELD_DI_STAT di.val) 9 2
    let c := if raw != bitOf cfg 15 then min (c + 1) limit else c - 1
    let old := s.bit (Reg.FIELD_DI_STAT di.val) 1
    let st := if c = 0 then false else if c = limit then true else old
    let s := (s.setBit (Reg.FIELD_DI_STAT di.val) 0 raw).setFld (Reg.FIELD_DI_STAT di.val) 9 2 c
    .next (if st = old then s else s.diAccept di.val st)

/-! ### Digital outputs (R227 to R230) -/

/-- The fault code a DO's feedback point shows (R228, R230). -/
def State.doCode (s : State) (d : Nat) : Nat :=
  if s.bit Reg.FIELD_STAT (d / 8) then 6 else s.fld (Reg.FIELD_DO_STAT d) 4 2

/-- The feedback point of a DO committed: the readback, BAD with the code as DETAIL while faulted (R228). -/
def State.fbCommit (s : State) (d : Nat) : State :=
  let src := s.rd (Reg.FIELD_DO_SRC d)
  if bitOf src 30 && s.fieldLink then
    let code := s.doCode d
    s.commitPoint (BitVec.ofNat 14 (bits src 29 16)) { value := some (wd (s.fld (Reg.FIELD_DO_STAT d) 1 1)), valueHi := some 0, level := some (if code = 0 then 0 else 3), detail := some (BitVec.ofNat 8 code) }
  else s

/-- The level of a DO fault (R7): the bank whose group is off, else one channel's driver (log entry 64). -/
def doLevel (code : Nat) : Nat := if code = 5 then 5 else 3

/-- The code a latched channel keeps while its FAULT shows GROUP or STUCK_ON (R229). -/
def State.setDoHeld (s : State) (d code : Nat) : State :=
  { s with field := { s.field with doHeld := Tab.set (fun _ => 0) s.field.doHeld d code } }

/-- A fault on a DO (R228, R229): counted and recorded at its first occurrence; with RETRY = 0 a fault that could be retried latches. A
channel that has latched keeps its latch and its code. -/
def State.doFault (s : State) (d code : Nat) : State :=
  let old := s.fld (Reg.FIELD_DO_STAT d) 4 2
  if old = code then s
  else
    let latched := s.bit (Reg.FIELD_DO_STAT d) 5
    let s := s.setFld (Reg.FIELD_DO_STAT d) 4 2 code
    let s := if !latched then s.setFld (Reg.FIELD_DO_STAT d) 11 8 0
      else if old = 2 ∨ old = 5 then s else s.setDoHeld d old
    let s := s.incSat (Reg.FIELD_DO_FCNT d) 15 0
    let s := if s.fld (Reg.FIELD_DO_CFG d) 5 2 = 0 ∧ code ≠ 2 ∧ code ≠ 5 then s.setBit (Reg.FIELD_DO_STAT d) 5 true else s
    (s.record { sev := 4, level := BitVec.ofNat 4 (doLevel code), source := 0x0B, code := 228, args := [wd d, wd code] }).fbCommit d

/-- A DO's fault cleared. -/
def State.doUnfault (s : State) (d : Nat) : State :=
  (s.wr (Reg.FIELD_DO_STAT d) (s.rd (Reg.FIELD_DO_STAT d) &&& 0x3)).fbCommit d

/-- A GROUP or STUCK_ON fault has ended: a channel that had latched before it shows its own code again and stays off (R229). -/
def State.doShownEnd (s : State) (d : Nat) : State :=
  if s.bit (Reg.FIELD_DO_STAT d) 5 then
    ((s.setFld (Reg.FIELD_DO_STAT d) 4 2 (Tab.get (fun _ => 0) s.field.doHeld d)).setDoHeld d 0).fbCommit d
  else s.doUnfault d

/-- A bank's readback is checked (R230): not while its VFLD is low, nor for 5 ms after it has returned. -/
def State.readbackChecked (s : State) (bank : Nat) : Bool :=
  !s.bit Reg.FIELD_STAT bank && (match s.field.vfldBack.toList.getD bank none with
    | some t => decide (t + 5 * msCounts ≤ s.now)
    | none => true)

/-- The readback of a DO changed and committed; a mismatch that lasts is NO_ON or STUCK_ON, where the bank's readback is checked (R228, R230). -/
def execDoReadbackFault (dch : Fin 64) (rb : Bool) (s : State) : Out :=
  let d := dch.val
  let changed := s.bit (Reg.FIELD_DO_STAT d) 1 != rb
  let s := s.setBit (Reg.FIELD_DO_STAT d) 1 rb
  let s := if changed then s.fbCommit d else s
  let f := s.fld (Reg.FIELD_DO_STAT d) 4 2
  .next (if s.doDriven d == rb || !s.readbackChecked (d / 8) || decide (3 ≤ f) then s
    else s.doFault d (if rb then 2 else 1))

def execDoOverload (dch : Fin 64) (s : State) : Out := .next (if s.doDriven dch.val then s.doFault dch.val 3 else s)

def execDoOverTemperature (dch : Fin 64) (s : State) : Out := .next (if s.doDriven dch.val then s.doFault dch.val 4 else s)

/-- The failed retries of a DO group. -/
def State.setGrpRetry (s : State) (g n : Nat) : State :=
  { s with field := { s.field with grpRetry := s.field.grpRetry.setIfInBounds g n } }

/-- The channels of a DO group. -/
def grpChannels (g : Nat) : List Nat := (List.range 8).map (fun i => 8 * g + i)

/-- A group above 4.4 A for 10 ms (R229). -/
def execDoGroupOverload (grp : Fin 8) (current : BitVec 13) (s : State) : Out :=
  let s := s.setFld (Reg.FIELD_DO_GRP grp.val) 12 0 current.toNat
  .next (if current.toNat ≤ 4400 || s.bit (Reg.FIELD_DO_GRP grp.val) 13 then s
    else (grpChannels grp.val).foldl (fun s d => s.doFault d 5)
      ((s.setBit (Reg.FIELD_DO_GRP grp.val) 13 true).setGrpRetry grp.val 0))

/-- A group off under R229 switched on again. -/
def State.grpOn (s : State) (g : Nat) : State :=
  let s := ((s.setBit (Reg.FIELD_DO_GRP g) 13 false).setBit (Reg.FIELD_DO_GRP g) 14 false).setGrpRetry g 0
  (grpChannels g).foldl (fun s d => if s.fld (Reg.FIELD_DO_STAT d) 4 2 = 5 then s.doShownEnd d else s) s

/-- A retry of a faulted channel or group that has not latched; the eighth consecutive failure latches (R229). -/
def State.doRetry (s : State) (target : RetryTarget) (ok : Bool) : State :=
  match target with
  | .channel dch =>
    let d := dch.val
    let f := s.fld (Reg.FIELD_DO_STAT d) 4 2
    if (f = 1 ∨ f = 3 ∨ f = 4) ∧ !s.bit (Reg.FIELD_DO_STAT d) 5 then
      if ok then s.doUnfault d
      else
        let n := min 8 (s.fld (Reg.FIELD_DO_STAT d) 11 8 + 1)
        let s := s.setFld (Reg.FIELD_DO_STAT d) 11 8 n
        if n = 8 then s.setBit (Reg.FIELD_DO_STAT d) 5 true else s
    else s
  | .group grp =>
    let g := grp.val
    if s.bit (Reg.FIELD_DO_GRP g) 13 && !s.bit (Reg.FIELD_DO_GRP g) 14 then
      if ok then s.grpOn g
      else
        let n := min 8 (s.field.grpRetry.toList.getD g 0 + 1)
        let s := s.setGrpRetry g n
        if n = 8 then s.setBit (Reg.FIELD_DO_GRP g) 14 true else s
    else s

def execDoRetry (target : RetryTarget) (ok : Bool) (s : State) : Out := .next (s.doRetry target ok)

/-- CLEAR of a latched channel fault (R229): a GROUP or STUCK_ON shown over it stays. -/
def State.doClear (s : State) (d : Nat) : State :=
  let f := s.fld (Reg.FIELD_DO_STAT d) 4 2
  if !s.bit (Reg.FIELD_DO_STAT d) 5 then s
  else if f = 2 ∨ f = 5 then ((s.setBit (Reg.FIELD_DO_STAT d) 5 false).setFld (Reg.FIELD_DO_STAT d) 11 8 0).setDoHeld d 0
  else s.doUnfault d

def execDoClear (m : Master) (dch : Fin 64) (s : State) : Out := .next (s.asPrefect m (fun s => s.overLink m (Reg.FIELD_DO_CFG dch.val) s.fieldLink (fun s => s.doClear dch.val)))

/-- CLEAR of a latched group fault. -/
def State.doGroupClear (s : State) (g : Nat) : State := if s.bit (Reg.FIELD_DO_GRP g) 14 then s.grpOn g else s

def execDoGroupClear (m : Master) (grp : Fin 8) (s : State) : Out := .next (s.asPrefect m (fun s => s.overLink m (Reg.FIELD_DO_GRP grp.val) s.fieldLink (fun s => s.doGroupClear grp.val)))

/-- A STUCK_ON fault clears when the readback returns to off (R229). -/
def execStuckOnClear (dch : Fin 64) (s : State) : Out :=
  .next (if s.fld (Reg.FIELD_DO_STAT dch.val) 4 2 = 2 then (s.setBit (Reg.FIELD_DO_STAT dch.val) 1 false).doShownEnd dch.val else s)

/-- A bank's VFLD falls below 18 V (R230). -/
def execVfldLow (bank : Fin 8) (s : State) : Out :=
  let s := (s.setBit Reg.FIELD_STAT bank.val true).setBit (Reg.FIELD_DO_GRP bank.val) 15 true
  .next ((grpChannels bank.val).foldl (fun s d =>
    let s := if s.fld (Reg.FIELD_DO_STAT d) 4 2 < 3 ∧ !s.bit (Reg.FIELD_DO_STAT d) 5 then s.setFld (Reg.FIELD_DO_STAT d) 4 2 6 else s
    s.fbCommit d) s)

/-- VFLD of a bank returns (R230): VFLD_LOW ends at once, and readback checking resumes 5 ms later. -/
def execVfldRestore (bank : Fin 8) (s : State) : Out :=
  let s := (s.setBit Reg.FIELD_STAT bank.val false).setBit (Reg.FIELD_DO_GRP bank.val) 15 false
  let s := { s with field := { s.field with vfldBack := s.field.vfldBack.setIfInBounds bank.val (some s.now) } }
  .next ((grpChannels bank.val).foldl (fun s d =>
    let s := if s.fld (Reg.FIELD_DO_STAT d) 4 2 = 6 then s.setFld (Reg.FIELD_DO_STAT d) 4 2 0 else s
    s.fbCommit d) s)

/-! ### Analog (R231, R233) -/

/-- DIAG and OVERRANGE of a conversion in millionths of a volt, ampere or ohm (R231). -/
def aiDiag (mode : Nat) (x : Int) : Nat × Bool :=
  match mode with
  | 1 => (if 10500000 < x then 3 else 0, decide (10500000 < x))
  | 2 => (if 25000 < x then 4 else if 21000 < x then 3 else 0, decide (21000 < x))
  | 3 => (if 25000 < x then 4 else if 21000 < x then 3 else if x < 3600 then 1 else 0, decide (21000 < x))
  | 4 => (if 4200000000 < x then 1 else if x < 10000000 then 2 else 0, false)
  | _ => (if 210000000000 < x then 1 else if x < 10000000 then 2 else 0, false)

/-- Conversions between commits (R231: RATE). -/
def aiRate (code : Nat) : Nat :=
  match code with
  | 0 => 1
  | 1 => 10
  | 2 => 100
  | _ => 1000

/-- An AI's filtered value committed with its diagnosis (R231, R135). -/
def State.aiCommit (s : State) (n : Nat) (x : Int) (diag : Nat) (beyond : Bool) : State :=
  let i : PointIdx := BitVec.ofNat 14 (s.fld (Reg.FIELD_AI_CFG n) 13 0)
  let (w, sat) := Num.toTyped ((s.point i).word 3) ⟨x, 1000000⟩
  let bad := diag == 1 || diag == 2 || diag == 4
  s.commitPoint i { value := some w, valueHi := some 0, level := some (if bad then 3 else 0), overrange := some (beyond || sat), detail := some (BitVec.ofNat 8 (if bad then diag else 0)) }

/-- One conversion of an AI (R231). A shunt disconnected by an overcurrent stays so, and the channel BAD, until its retry. -/
def execAiConversion (ai : Fin 32) (code16 : BitVec 16) (micro : Int) (s : State) : Out :=
  let n := ai.val
  let cfg := s.rd (Reg.FIELD_AI_CFG n)
  let mode := bits cfg 18 16
  if s.inRecess || mode == 0 || decide (6 ≤ mode) then .next s
  else
    let open_ := s.fld (Reg.FIELD_AI_RAW n) 18 16 == 4
    let (diag, beyond) := if open_ then (4, true) else aiDiag mode micro
    let old := Tab.get (fun _ => (0 : Int)) s.field.aiVal n
    let x := if open_ then old else if bits cfg 20 19 = 0 then micro else Config.aiFilter (bits cfg 20 19) old micro
    let tick := Tab.get (fun _ => 0) s.field.aiTick n + 1
    let due := decide (aiRate (bits cfg 22 21) ≤ tick)
    let s := (s.setFld (Reg.FIELD_AI_RAW n) 15 0 code16.toNat).setFld (Reg.FIELD_AI_RAW n) 18 16 diag
    let vals := Tab.set (fun _ => (0 : Int)) s.field.aiVal n x
    let s := { s with field := { s.field with aiVal := vals, aiTick := Tab.set (fun _ => 0) s.field.aiTick n (if due then 0 else tick) } }
    .next (if due && bitOf cfg 14 && s.fieldLink then s.aiCommit n x diag beyond else s)

/-- A disconnected shunt is connected again (R231). -/
def execAiShuntRetry (ai : Fin 32) (s : State) : Out :=
  .next (if s.fld (Reg.FIELD_AI_RAW ai.val) 18 16 = 4 then s.setFld (Reg.FIELD_AI_RAW ai.val) 18 16 0 else s)

/-- An operator is in general mode (R233). -/
def State.genMode (s : State) (op : Nat) : Bool := s.bit (Reg.FIELD_GEN_CFG op) 0

/-- The high-side duty of a phase in general mode (R233, R234): VALUE of its duty point limited to 0 to 1; 0 for a bad point; none while the
gates are off, as in RECESS. -/
def State.genDuty (s : State) (op phase : Nat) : Option Num :=
  let i : PointIdx := BitVec.ofNat 14 (s.fld (Reg.FIELD_GEN_DUTY op phase) 13 0)
  if !(s.genMode op && s.fieldOut) || s.inRecess then none
  else if s.badSource i then some Num.zero
  else some ((s.pointNum i).clamp Num.zero (Num.int 1))

/-- The counts of 12.5 ns for which PWM gate output g is on in a period of its operator (R147 to R149, R233): gates 6d to 6d + 5 are the high
and low sides of phases U, V and W. In the modes that run the current stage the duty in effect, in general mode the duty point's, with
DEADTIME; 0 in every other mode, without the link (R13), and for a gate whose updates are lost. -/
def State.gateOn (s : State) (g : Nat) : Nat :=
  let d := g / 6
  let phase := g % 6 / 2
  let dead := s.fld (Reg.LOOP_STG_MOTOR (3 * d)) 15 8
  let pair : Nat × Nat :=
    if s.genMode d then
      let period := s.fld (Reg.FIELD_GEN_CFG d) 31 16
      match s.genDuty d phase with
      | some x => gateCounts period (dutyCounts period x) dead
      | none => (0, 0)
    else if s.fieldOut && [1, 2, 3].contains (s.opMode d) then gateCounts 2500 ((s.oper d).inEffect.toList.getD phase 0) dead
    else (0, 0)
  if Tab.get (fun _ => false) s.field.pwmLost g then 0 else if g % 2 = 0 then pair.1 else pair.2

/-- The mean of a current-sense input over 1 ms committed in general mode (R233). -/
def execCsMeanCommit (cs : Fin 32) (mean : BitVec 14) (s : State) : Out :=
  let op := cs.val / 2
  let cfg := s.rd (Reg.FIELD_GEN_CS op (cs.val % 2))
  if s.genMode op && bitOf cfg 14 && s.fieldLink && !s.inRecess then
    let i : PointIdx := BitVec.ofNat 14 (bits cfg 13 0)
    let amps := Num.mul ⟨Config.csFraction mean, 2 ^ 14⟩ (Num.ofBf (s.rd (Reg.FIELD_CS_SCALE cs.val)))
    let (w, sat) := Num.toTyped ((s.point i).word 3) amps
    .next (s.commitPoint i { value := some w, valueHi := some 0, level := some 0, overrange := some sat, detail := some 0 })
  else .next s

end Sys2Proof.Machine
end

