-- ==== Sys2Proof/Machine/KeyOps.lean ====
section
/-! DEFINITION. The life-cycle, the key slots and the Locket (R289 to R307). -/

namespace Sys2Proof.Machine

/-! ### Buffers and slots -/

/-- Bytes of KEY_BUF. -/
def State.keyBytes (s : State) (off n : Nat) : List Byte :=
  (List.range n).map (fun i => (wordBytes (s.rd (Reg.KEY_BUF ((off + i) / 4)))).getD ((off + i) % 4) 0)

/-- One byte of KEY_BUF written. -/
def State.setKeyByte (s : State) (off : Nat) (b : Byte) : State :=
  if off < 4096 then s.setFld (Reg.KEY_BUF (off / 4)) (8 * (off % 4) + 7) (8 * (off % 4)) b.toNat else s

/-- Bytes of KEY_BUF written. -/
def State.setKeyBytes (s : State) (off : Nat) (l : List Byte) : State :=
  (l.foldl (fun p b => (p.1.setKeyByte p.2 b, p.2 + 1)) (s, off)).1

/-- KEY_BUF zeroed. -/
def State.zeroKeyBuf (s : State) : State :=
  { s with regs := s.regs.filter (fun r => !(decide (Reg.KEY_BUF 0 ≤ r.1) && decide (r.1 ≤ Reg.KEY_BUF 1023))) }

/-- The bytes of a bit vector, most significant first, as digests, keys and signatures stand in the buffer. -/
def bigBytes {w : Nat} (x : BitVec w) : List Byte := ((List.range (w / 8)).map (fun i => x.extractLsb' (8 * i) 8)).reverse

/-- The bit vector of bytes, most significant first. -/
def bigVec (w : Nat) (l : List Byte) : BitVec w := BitVec.ofNat w (l.foldl (fun n b => n * 256 + b.toNat) 0)

/-- The life-cycle state (R289), its numbers: 0 BLANK to 5 SCRAPPED. -/
def State.lcs (s : State) : Nat := s.fld Reg.KEY_LCS 2 0

/-- COMMISSION or FIELD. -/
def State.ownedLcs (s : State) : Bool := s.lcs == 2 || s.lcs == 3

/-- A slot is occupied. -/
def State.slotFull (s : State) (k : Nat) : Bool := s.key.occ.getLsbD k

/-- The 32 bytes of key material of a slot (R294). -/
def State.slotKey (s : State) (k : Nat) : BitVec 256 := bigVec 256 (Memory.readN s.locket (32 * (2 + k)) 32)

/-- The root secret (R294). -/
def State.rootSecret (s : State) : BitVec 256 := bigVec 256 (Memory.readN s.locket 0 32)

/-- Bytes of the Locket written by the key engine; not while it is locked (R298). -/
def State.locketPut (s : State) (a : Nat) (b : List Byte) : State := s.locketWrite a b

/-- Line 1 of the Locket rewritten (R295). -/
def State.sealLine1 (s : State) : State :=
  let occ := (List.range 4).map (fun i => s.key.occ.extractLsb' (8 * i) 8)
  let head := [BitVec.ofNat 8 s.lcs, BitVec.ofNat 8 (s.fld Reg.KEY_LCS 12 8), BitVec.ofNat 8 (s.fld Reg.KEY_LCS 31 24), 0] ++ occ ++ List.replicate 8 0
  let check := (bigBytes (Config.sha256 (Memory.readN s.locket 0 32 ++ head))).take 16
  s.locketPut 32 (head ++ check)

/-- The serial number as HKDF takes it (R300). -/
def State.keySalt (s : State) : BitVec 64 := s.rd Reg.SYS_SERIAL_HI ++ s.rd Reg.SYS_SERIAL_LO

/-- The code of the attribute record under the key of label A (R300, R302): over the attributes and bindings of the 32 slots. -/
def State.attrCode (s : State) : BitVec 384 :=
  Config.hmac true (Config.hkdf s.rootSecret s.keySalt 0x41 [])
    ((List.range 32).flatMap (fun k => wordBytes (s.rd (Reg.KEY_SLOT_ATTR k)) ++ wordBytes (s.rd (Reg.KEY_SLOT_BIND k))))

/-- The attribute record of the occupied slots written to settings (R302). -/
def State.sealAttrs (s : State) : State := { s with key := { s.key with attrMac := s.attrCode } }

/-- A slot filled: its material, attributes and occupancy. -/
def State.fillSlot (s : State) (k : Nat) (attr bind : Word) (key : BitVec 256) : State :=
  let s := (s.locketPut (32 * (2 + k)) (bigBytes key)).wr (Reg.KEY_SLOT_ATTR k) attr
  let s := s.wr (Reg.KEY_SLOT_BIND k) bind
  (State.sealLine1 { s with key := { s.key with occ := s.key.occ ||| BitVec.ofNat 32 (2 ^ k) } }).sealAttrs

/-- A slot made EMPTY, its line zeroed (R304). -/
def State.emptySlot (s : State) (k : Nat) : State :=
  let s := ((s.locketPut (32 * (2 + k)) (List.replicate 32 0)).wr (Reg.KEY_SLOT_ATTR k) 0).wr (Reg.KEY_SLOT_BIND k) 0
  State.sealAttrs { s with key := { s.key with occ := s.key.occ &&& ~~~(BitVec.ofNat 32 (2 ^ k)) } }

/-- Every slot marked EMPTY. -/
def State.emptySlots (s : State) : State :=
  let s := (List.range 32).foldl (fun s k => (s.wr (Reg.KEY_SLOT_ATTR k) 0).wr (Reg.KEY_SLOT_BIND k) 0) s
  { s with key := { s.key with occ := 0 } }

/-- 256 bits of the random source: eight free values (R300, log entry 2). -/
def State.random256 (s : State) : State × BitVec 256 :=
  (List.range 8).foldl (fun p _ => (p.1.nextFree, p.2 <<< 32 ||| (p.1.freeWord.setWidth 256))) (s, 0)

/-- A fresh nonce (R306). -/
def State.newNonce (s : State) : State :=
  let (s, r) := s.random256
  { s with key := { s.key with nonce := r.setWidth 128 } }

/-- The encoded length of a public key by algorithm (R301), and of its signature (R305, R307). -/
def pubLen (alg : Nat) : Nat := if alg = 0 then 65 else if alg = 1 then 97 else 32
def sigLen (alg : Nat) : Nat := if alg = 1 then 96 else 64

/-- The public key of a private key. -/
def publicKey (alg : Nat) (key : BitVec 256) : List Byte := (List.range (pubLen alg)).map (Config.publicByte alg key)

/-- The data XOR the GCM key stream. -/
def gcmXor (key : BitVec 256) (iv data : List Byte) : List Byte :=
  (data.zip (List.range data.length)).map (fun p => p.1 ^^^ Config.gcmStream key iv p.2)

/-! ### Uses of a slot (R303) -/

/-- A use passes TYPE, USE, LCS, MASTERS and tenant. -/
def State.slotAllows (s : State) (j : KeyJob) (typ use : Nat) : Bool :=
  let attr := s.rd (Reg.KEY_SLOT_ATTR j.slot.toNat)
  let bind := s.rd (Reg.KEY_SLOT_BIND j.slot.toNat)
  s.slotFull j.slot.toNat && bits attr 2 0 == typ && bitOf attr (5 + use) && bitOf attr (21 + s.lcs) && bitOf attr (13 + j.sess) &&
    (!bitOf bind 15 || decide (bits bind 11 0 = j.tenant.toNat))

/-- A refused use (R303). -/
def State.denyUse (s : State) : State × Nat := (s.incSat Reg.KEY_DENY_CNT 31 0, 1)

/-! ### Signed records (R305) -/

/-- The signer key of the record in the buffer, by its ALG. -/
def State.recSigner (s : State) : List Byte := s.keyBytes 160 (pubLen ((s.keyBytes 24 1).getD 0 0).toNat)

/-- The signature of a record from its field (R305): r and s, each in half the field and zero-padded at its end (log entry 24), or the 64 bytes of
Ed25519. -/
def recordSig (alg : Nat) (field : List Byte) : List Byte :=
  if alg = 2 then field.take 64 else (field.take (sigLen alg / 2)) ++ ((field.drop 64).take (sigLen alg / 2))

/-- The fields of a record are well formed (R305): its TYPE, its slot or target, the signer's ALG, bytes 25 to 31 zero, the signer key and the
signature zero-padded, and the key field zero where nothing stands in it. -/
def recordFormed (types : List Nat) (item : Nat) (b : List Byte) : Bool :=
  let at_ := fun i => (b.getD i 0).toNat
  let zero := fun (lo hi : Nat) => ((b.drop lo).take (hi - lo)).all (fun x => x == 0)
  let alg := at_ 24
  let half := sigLen alg / 2
  types.contains (at_ 0) && (at_ 0 == 3 || at_ 1 == item) && decide (alg ≤ 2) && zero 25 32 && zero (160 + pubLen alg) 288 &&
    (if alg = 2 then zero 352 416 else zero (288 + half) 352 && zero (352 + half) 416) && (!(List.contains [4, 5, 7] (at_ 0)) || zero 32 160)

/-- The record's checks in their order (R305): FORMAT 5, NONCE 3, DIGEST 11, SIGNATURE 2; 0 where all pass. -/
def State.recordCheck (s : State) (types : List Nat) (item : Nat) (anchor : Nat → Option (BitVec 256)) : Nat :=
  let b := s.keyBytes 0 416
  let at_ := fun i => (b.getD i 0).toNat
  let alg := at_ 24
  if !recordFormed types item b then 5
  else if bigVec 128 ((b.drop 8).take 16) ≠ s.key.nonce then 3
  else if anchor (at_ 0) ≠ some (Config.sha256 s.recSigner) then 11
  else if !Config.verify alg s.recSigner (recordSig alg ((b.drop 288).take 128)) (b.take 288) then 2 else 0

/-- The anchors: slot 0 for owner records, the fused digest for OWNER_RESTORE, the fused return key for TYPE 7 (R305). -/
def State.recAnchor (s : State) (typ : Nat) : Option (BitVec 256) :=
  if typ = 7 then some Config.returnKey
  else if typ = 3 then s.key.rows.getLast?.map (·.owner)
  else if s.slotFull 0 then some (s.slotKey 0) else none

/-- The secret of the key field unwrapped under slot 1; none where the tag fails (AUTH_TAG). -/
def State.unwrapField (s : State) : Option (BitVec 256) :=
  let f := s.keyBytes 32 60
  let (iv, ct, tag) := (f.take 12, (f.drop 12).take 32, (f.drop 44).take 16)
  if s.slotFull 1 && decide (Config.gcmTag (s.slotKey 1) iv [] ct = bigVec 128 tag) then some (bigVec 256 (gcmXor (s.slotKey 1) iv ct)) else none

/-! ### Changes of state (R291 to R293) -/

/-- What a listed change needs: an owner record, an owner or Delruzia record, a Delruzia record, or none. -/
def changeAuth (old new : Nat) : Option (List Nat) :=
  match old, new with
  | 0, 1 => some []
  | 0, 2 => some []
  | 1, 2 => some []
  | 2, 3 => some [2]
  | 3, 2 => some [2]
  | 2, 4 => some [2, 7]
  | 3, 4 => some [2, 7]
  | 4, 1 => some [7]
  | 2, 5 => some [2, 7]
  | 3, 5 => some [2, 7]
  | 0, 5 => some []
  | 1, 5 => some []
  | 4, 5 => some []
  | _, _ => none

/-- The attributes the module gives slots 0 (OWNER) and 1 (WRAP) when a change installs them (R291; log entry 25). -/
def ownerAttr (alg : Nat) : Word := wd (4 + alg * 8 + 32 + 0xFF * 8192 + 0xC * 2097152)
def wrapAttr : Word := wd (1 + 64 + 0xFF * 8192 + 0xC * 2097152)

/-- The owner key and the wrap key installed. -/
def State.installOwner (s : State) (alg : Nat) (pub : List Byte) (wrap : BitVec 256) : State :=
  (s.fillSlot 0 (ownerAttr alg) 0 (Config.sha256 pub)).fillSlot 1 wrapAttr 0 wrap

/-- The effects of a change beside slots (R293): retentive lines, cold start, debug, PRP and PROMISC; it leaves TEST (R328), and SCRAPPED erases
settings and the meter store through the erase journal. -/
def State.changeEffects (s : State) (new : Nat) : State :=
  let s := { s with scan := { s.scan with retentiveLost := some 10 } }
  let session := match s.key.job with | some j => some (BitVec.ofNat 3 j.sess) | none => none
  let s := s.debugEnd
  let s := if s.phase = 2 then s.setPhase 1 session else s
  let s := if new = 5 then
      let s := ({ s with settings := [], meter := { s.meter with areas := Vector.replicate 2 none, area := 0, used := 0, saving := none, regs := [], base := [] } }.erase .settings 0)
      (s.erase (.meter 0) 0).erase (.meter 1) 0
    else s
  if new = 2 ∨ new = 3 then
    (List.range 8).foldl (fun s k => s.setBit (Reg.NET_CTRL k) 1 false) (s.setBit Reg.PRP_CTRL 1 true)
  else s

/-- The owner key that a change installs: from the record's signer into FIELD, from the buffer into COMMISSION, none otherwise (R291). Its ALG and
its encoding. -/
def State.changeOwner (s : State) (old new : Nat) : Option (Nat × List Byte) :=
  let alg := ((s.keyBytes 511 1).getD 0 0).toNat
  if old = 2 ∧ new = 3 then some (((s.keyBytes 24 1).getD 0 0).toNat, s.recSigner)
  else if new = 2 then some (alg, s.keyBytes 512 (pubLen alg)) else none

/-- Step 3 of a change (R290, R292): the next row burned with the state and the owner digest, or the SCRAPPED fuse. -/
def State.burnRow (s : State) (old new : Nat) : State :=
  let owner := match s.changeOwner old new with | some o => Config.sha256 o.2 | none => 0
  if new = 5 then { s with key := { s.key with scrapped := true } }
  else { s with key := { s.key with rows := s.key.rows ++ [{ lcs := BitVec.ofNat 3 new, owner := owner }] } }

/-- The state the fuses hold (R290). -/
def State.fuseLcs (s : State) : Nat :=
  if s.key.scrapped then 5 else match s.key.rows.getLast? with | some r => r.lcs.toNat | none => 0

/-- Step 4 of a change (R291, R292): the slots' lines and the retentive lines zeroed, line 0 kept, regenerated or zeroed, line 1 rewritten, and
KEY_LCS. -/
def State.changeLocket (s : State) (old new : Nat) : State :=
  let s := ((s.locketPut 64 (List.replicate 1024 0)).locketPut 1792 (List.replicate 2304 0)).emptySlots
  let s := if old = 2 ∧ new = 3 then s
    else if new = 5 then ((s.locketPut 0 (List.replicate 4096 0)).setBit Reg.KEY_LCS 16 false)
    else
      let (s, r) := s.random256
      ((s.locketPut 0 (bigBytes r)).setBit Reg.KEY_LCS 16 true).setFld Reg.KEY_LCS 31 24 (s.fld Reg.KEY_LCS 31 24 + 1)
  let s := (s.setFld Reg.KEY_LCS 2 0 new).setFld Reg.KEY_LCS 12 8 s.key.rows.length
  if new = 5 then s.keepCheckpoints (fun _ => false) else s.sealLine1

/-- The event of a change: the old state, the new one, and the number of the row. -/
def State.changeEvent (s : State) (old new : Nat) : State :=
  s.record { sev := 5, source := 0x1A, code := 292, args := [wd old, wd new, wd s.key.rows.length] }

/-- An accepted change (R291 to R293): the row or the fuse burned, the Locket's lines zeroed or regenerated, the slots installed, KEY_LCS,
the event. -/
def State.changeLcs (s : State) (old new : Nat) : State :=
  let owner := s.changeOwner old new
  let wrap := if old = 2 then s.unwrapField.getD 0 else bigVec 256 (s.keyBytes 640 32)
  let s := (s.burnRow old new).changeLocket old new
  let s := match owner with | some o => s.installOwner o.1 o.2 wrap | none => s
  ((s.changeEffects new).zeroKeyBuf).changeEvent old new

/-- The checks of a change requested (R291, R292): 0 where it is accepted. -/
def State.changeCode (s : State) (target : Nat) : Nat :=
  let old := s.lcs
  match changeAuth old target with
  | none => 4
  | some types =>
    if 23 ≤ s.key.rows.length ∧ target ≠ 5 then 7
    else
      let code := if types = [] then 0 else s.recordCheck types target s.recAnchor
      if code ≠ 0 then code
      else if old = 2 ∧ target = 3 ∧ s.unwrapField = none then 10
      else if (s.changeOwner old target).any (fun o => decide (2 < o.1)) then 5
      else 0

/-- A change requested (R291, R292): its result code. A nonce is replaced after a record is checked (R306). -/
def State.doTransition (s : State) (target : Nat) : State × Nat :=
  let old := s.lcs
  let code := s.changeCode target
  let checked := (changeAuth old target).any (fun l => !l.isEmpty) && code != 4 && code != 7
  let s := if checked then s.newNonce else s
  if code = 0 then (s.changeLcs old target, 0) else (s, code)

/-- A change that loses its power or its clock before it ends (R292): a free value says whether the row was burned already, where its checks
pass. -/
def State.changeCut (s : State) : State :=
  match s.key.job with
  | some j =>
    match j.op with
    | .transition t =>
      if s.changeCode t.toNat = 0 ∧ s.freeWord.getLsbD 0 then (s.burnRow s.lcs t.toNat).nextFree else s.nextFree
    | _ => s
  | none => s

/-! ### Slot commands (R299, R304) -/

/-- The attributes and the material a load brings: plain from the buffer or from an owner record; a code where it is refused. -/
def State.loadMaterial (s : State) (k : Nat) : Nat × Word × Word × BitVec 256 :=
  if s.ownedLcs then
    let b := s.keyBytes 0 8
    let attr := bytesWord (b.drop 4)
    let bind := bytesWord ((b.drop 2).take 2)
    let alg := bits attr 4 3
    match s.recordCheck [1] k s.recAnchor with
    | 0 =>
      if bits attr 2 0 = 4 then (0, attr, bind, Config.sha256 (s.keyBytes 32 (pubLen alg)))
      else match s.unwrapField with
        | some x => (0, attr, bind, x)
        | none => (10, 0, 0, 0)
    | c => (c, 0, 0, 0)
  else
    let attr := s.rd (Reg.KEY_SLOT_ATTR k)
    let x := if bits attr 2 0 = 4 then Config.sha256 (s.keyBytes 0 (pubLen (bits attr 4 3))) else bigVec 256 (s.keyBytes 0 32)
    (0, attr, s.rd (Reg.KEY_SLOT_BIND k), x)

/-- A nonce is replaced after each record is checked (R306); records are used in COMMISSION and FIELD. -/
def State.afterRecord (s : State) : State := if s.ownedLcs then s.newNonce else s

/-- A slot filled by LOAD, GENERATE or DERIVE, where its attributes admit it (R301, R303). -/
def State.tryFill (s : State) (k : Nat) (attr bind : Word) (key : BitVec 256) : State × Nat :=
  let typ := bits attr 2 0
  let alg := bits attr 4 3
  let algs := if typ = 2 then [0, 1] else if typ = 3 then [0, 2] else if typ = 4 then [0, 1, 2] else [0, 1, 2, 3]
  if typ = 0 ∨ 4 < typ ∨ !algs.contains alg then (s, 5)
  else if !bitOf attr (21 + s.lcs) then s.denyUse
  else (s.fillSlot k (attr &&& 0x03FFFFFF) (bind &&& 0x8FFF) key, 0)

/-- LOAD (R304). -/
def State.doLoad (s : State) (k : Nat) : State × Nat :=
  if s.slotFull k then (s, 6)
  else
    let (c, attr, bind, x) := s.loadMaterial k
    let s := s.afterRecord
    if c ≠ 0 then (s, c) else s.tryFill k (setBitOf attr 12 false) bind x

/-- The attributes of a GENERATE or DERIVE: the slot's registers, or an owner record of the matching TYPE (R304). -/
def State.fillAttr (s : State) (k typ : Nat) : Nat × Word × Word :=
  if s.ownedLcs then
    let b := s.keyBytes 0 8
    (s.recordCheck [typ] k s.recAnchor, bytesWord (b.drop 4), bytesWord ((b.drop 2).take 2))
  else (0, s.rd (Reg.KEY_SLOT_ATTR k), s.rd (Reg.KEY_SLOT_BIND k))

/-- GENERATE (R304): a random key; the public key of an EC_PRIV goes to offset 2,048. -/
def State.doGenerate (s : State) (k : Nat) : State × Nat :=
  if s.slotFull k then (s, 6)
  else
    let (c, attr, bind) := s.fillAttr k 5
    let s := s.afterRecord
    if c ≠ 0 then (s, c)
    else if bits attr 2 0 = 4 then (s, 5)
    else
      let (s, key) := s.random256
      let (s, c) := s.tryFill k (setBitOf attr 12 false) bind key
      if c = 0 ∧ bits attr 2 0 = 3 then
        let p := publicKey (bits attr 4 3) key
        ((s.setKeyBytes 2048 p).setFld Reg.KEY_STAT 31 16 p.length, c)
      else (s, c)

/-- DERIVE (R300, R304): the root secret under label U with up to 64 bytes of data. -/
def State.doDerive (s : State) (k : Nat) : State × Nat :=
  if !s.bit Reg.KEY_LCS 16 then (s, 4)
  else if s.slotFull k then (s, 6)
  else
    let (c, attr, bind) := s.fillAttr k 6
    let data := if s.ownedLcs then s.keyBytes 32 64 else s.keyBytes 0 (min 64 (s.fld Reg.KEY_OP 27 16))
    let s := s.afterRecord
    if c ≠ 0 then (s, c)
    else
      s.tryFill k (setBitOf attr 12 true) bind (Config.hkdf s.rootSecret s.keySalt 0x55 data)

/-- ERASE (R304). -/
def State.doErase (s : State) (k : Nat) : State × Nat :=
  if s.ownedLcs then
    let c := s.recordCheck [4] k s.recAnchor
    let s := s.newNonce
    if c = 0 then ((s.emptySlot k).sealLine1, 0) else (s, c)
  else ((s.emptySlot k).sealLine1, 0)

/-- OWNER_RESTORE (R299). -/
def State.doRestore (s : State) : State × Nat :=
  if !s.ownedLcs then (s, 4)
  else if s.slotFull 0 then (s, 6)
  else
    let c := s.recordCheck [3] 0 s.recAnchor
    let s := s.newNonce
    if c ≠ 0 then (s, c)
    else (s.installOwner ((s.keyBytes 24 1).getD 0 0).toNat s.recSigner (bigVec 256 (s.keyBytes 32 32)), 0)

/-! ### Operations (R307) -/

/-- Bytes put at buffer offset 2,048 with OUT_LEN. -/
def State.keyOut (s : State) (l : List Byte) : State := (s.setKeyBytes 2048 l).setFld Reg.KEY_STAT 31 16 l.length

/-- The IN_LEN bytes of data from an offset. -/
def State.keyIn (s : State) (off : Nat) : List Byte := s.keyBytes off (s.fld Reg.KEY_OP 27 16)

/-- AES-256-GCM: IV at 0, AAD at 16, the data at the next 16-byte boundary, the tag behind the data on decryption (log entry 24). -/
def State.doGcm (s : State) (j : KeyJob) (enc : Bool) : State × Nat :=
  let a := s.fld Reg.KEY_OP_AAD 10 0
  let n := s.fld Reg.KEY_OP 27 16
  if 2016 < a + n then (s, 5)
  else if !s.slotAllows j 1 6 then s.denyUse
  else
    let key := s.slotKey j.slot.toNat
    let iv := s.keyBytes 0 12
    let aad := s.keyBytes 16 a
    let off := 16 + ceilDiv a 16 * 16
    let data := s.keyIn off
    let out := gcmXor key iv data
    if enc then (s.keyOut (out ++ bigBytes (Config.gcmTag key iv aad out)), 0)
    else if Config.gcmTag key iv aad data = bigVec 128 (s.keyBytes (off + n) 16) then (s.keyOut out, 0) else (s, 10)

/-- The order of the P-256 group (FIPS 186, PRESUMED: log entry 24). -/
def p256Order : Nat := 0xFFFFFFFF00000000FFFFFFFFFFFFFFFFBCE6FAADA7179E84F3B9CAC2FC632551

/-- The identity key (R300): label I with a counter byte, from 0, until the value lies in 1 to n - 1. -/
def State.identityKey (s : State) : BitVec 256 :=
  let key := fun (c : Nat) => Config.hkdf s.rootSecret s.keySalt 0x49 [BitVec.ofNat 8 c]
  key (((List.range 256).find? (fun c => decide (0 < (key c).toNat) && decide ((key c).toNat < p256Order))).getD 0)

/-- A command that draws the material of a key or a root secret from the random source (R300). -/
def State.drawsRandom (s : State) (j : KeyJob) : Bool :=
  match j.op with
  | .generate => true
  | .transition t => t.toNat != 5 && !(s.lcs == 2 && t.toNat == 3)
  | _ => false

/-- What a command does when it completes, and its RESULT (R292, R299 to R307). -/
def State.keyResult (s : State) (j : KeyJob) : State × Nat :=
  let k := j.slot.toNat
  let attr := s.rd (Reg.KEY_SLOT_ATTR k)
  let alg := bits attr 4 3
  match j.op with
  | .transition t => s.doTransition t.toNat
  | .load => s.doLoad k
  | .erase => s.doErase k
  | .ownerRestore => s.doRestore
  | .getNonce => (s.setKeyBytes 0 (bigBytes s.key.nonce), 0)
  | .sha256 => if 2016 < s.fld Reg.KEY_OP 27 16 then (s, 5) else (s.keyOut (bigBytes (Config.sha256 (s.keyIn 0))), 0)
  | .sha384 => if 2016 < s.fld Reg.KEY_OP 27 16 then (s, 5) else (s.keyOut (bigBytes (Config.sha384 (s.keyIn 0))), 0)
  | .hmac =>
    if 2016 < s.fld Reg.KEY_OP 27 16 then (s, 5)
    else if s.slotAllows j 2 6 then
      let t := bigBytes (Config.hmac (alg == 1) (s.slotKey k) (s.keyIn 0))
      (s.keyOut (if alg = 1 then t else t.take 32), 0)
    else s.denyUse
  | .gcmEnc => s.doGcm j true
  | .gcmDec => s.doGcm j false
  | .sign =>
    if 2016 < s.fld Reg.KEY_OP 27 16 then (s, 5)
    else if s.slotAllows j 3 6 then ((s.keyOut (bigBytes (Config.sign alg (s.slotKey k) (s.keyIn 0) s.freeWord))).nextFree, 0) else s.denyUse
  | .verify =>
    if 2016 < s.fld Reg.KEY_OP 27 16 then (s, 5)
    else if s.slotAllows j 4 6 then
      let pub := s.keyBytes 0 (pubLen alg)
      if Config.sha256 pub ≠ s.slotKey k then (s, 11)
      else if Config.verify alg pub (s.keyBytes 128 (sigLen alg)) (s.keyIn 256) then (s, 0) else (s, 2)
    else s.denyUse
  | .derive => s.doDerive k
  | .generate => s.doGenerate k
  | .identity =>
    if s.bit Reg.KEY_LCS 16 then (s.keyOut (publicKey 0 s.identityKey), 0) else (s, 4)
  | .fuseSafetyKey =>
    if s.lcs = 2 ∧ s.key.safetyKey = none then ({ s with key := { s.key with safetyKey := some (bigVec 256 (s.keyBytes 0 32)) } }, 0)
    else (s, 4)

/-- The command needs no key: hashing, which SCRAPPED and a locked Locket still allow (R293, R298). -/
def KeyOp.hashing : KeyOp → Bool
  | .sha256 => true
  | .sha384 => true
  | _ => false

/-- A command of the key engine ends with a RESULT (KEY_STAT), and raises KEY. -/
def State.keyEnd (s : State) (code : Nat) : State :=
  let s := { s with key := { s.key with job := none } }
  ((s.setBit Reg.KEY_STAT 0 false).setFld Reg.KEY_STAT 4 1 code).irq 5

/-- The tenant and the session a key command is made for (R303): the Prefect's session and the view tenant; for steward firmware the
session it states, which the command does not carry (a free value), and HM.TENANT. -/
def State.keyFor (s : State) (m : Master) : Nat × BitVec 12 :=
  match m with
  | .sess n => (n.val, if s.bit Reg.ROSTER_VIEW 31 then BitVec.ofNat 12 (s.fld Reg.ROSTER_VIEW 11 0) else 0)
  | .steward => (s.freeWord.toNat % 8, s.stewardTenant)

/-- A command written to KEY_CMD by the Prefect or by steward firmware. While one is in progress it is not taken; TRANSITION is then
refused with CONDITIONS (R292). -/
def State.keyStart (s : State) (m : Master) (op : KeyOp) (slot : BitVec 5) : State :=
  let isChange := match op with | .transition _ => true | _ => false
  let idle := s.fld Reg.SCAN_PROG_STAT 3 0 == 0 || s.fld Reg.SCAN_PROG_STAT 3 0 == 8
  if s.key.job.isSome then (if isChange then s.setFld Reg.KEY_STAT 4 1 9 else s)
  else if s.locketLocked && !op.hashing then s.keyEnd 8
  else if s.lcs == 5 && !op.hashing then s.keyEnd 4
  else if isChange && (s.bit Reg.SCAN_CTRL 0 || !idle) then s.keyEnd 9
  else
    let (sess, tenant) := s.keyFor m
    let s := match m with | .steward => s.nextFree | _ => s
    let s := (s.setBit Reg.KEY_STAT 0 true).setFld Reg.KEY_STAT 31 16 0
    { s with key := { s.key with job := some { op := op, slot := slot, sess := sess, tenant := tenant } } }

/-- A sensor enters or leaves its firing condition (R297, KEY_TAMPER_STAT.ACTIVE); where it enters it and is armed, the Locket is zeroed, with
everything R298 does with it. -/
def State.tamper (s : State) (sensor : Nat) (active : Bool) : State :=
  let armed := (s.ownedLcs && decide (sensor < 4)) || s.bit Reg.KEY_TAMPER_CFG sensor
  let s := s.setBit Reg.KEY_TAMPER_STAT (21 + sensor) active
  if !armed || !active then s
  else
    let s := { s with locket := [], key := { s.key with lost := true }, scan := { s.scan with retentiveLost := some 7 } }
    let s := ((s.setBit Reg.KEY_TAMPER_STAT sensor true).incSat Reg.KEY_TAMPER_STAT 15 8).setBit Reg.KEY_TAMPER_STAT 16 true
    if s.pwr.off then s
    else
      let s := if s.key.job.isSome then s.keyEnd 8 else s
      let s := (((s.emptySlots).setBit Reg.KEY_LCS 16 false).zeroKeyBuf).debugEnd
      s.record { sev := 7, source := 0x1A, code := 298, args := [wd sensor] }

/-- A slot may verify an image's signature (R102, R303): its type, algorithm, use and life-cycle state, the session that delivers the image, and the
tenant: a tenant image's own; else with HR_EN the tenant of the roster view, 0 without one. -/
def State.imageSlotOk (s : State) (h : ImageHeader) (k : Nat) : Bool :=
  let attr := s.rd (Reg.KEY_SLOT_ATTR k)
  let bind := s.rd (Reg.KEY_SLOT_BIND k)
  let asker := if s.bit Reg.ROSTER_VIEW 31 then s.fld Reg.ROSTER_VIEW 11 0 else 0
  s.slotFull k && bits attr 2 0 == 4 && bits attr 4 3 == 0 && bitOf attr (21 + s.lcs) && bitOf attr (13 + s.fld Reg.SCAN_PROG_STAT 18 16) &&
    (if h.tenantKind then bitOf attr 8 && bitOf bind 15 && decide (bits bind 11 0 = h.tenant.toNat)
     else bitOf attr 7 && (!bitOf bind 15 || decide (bits bind 11 0 = asker)))

/-- A building or tenant image's signature is good (R102). The slot holds only the digest of the signer's public key and the image carries no key:
the check is handed that digest (DESIGN CHOICE, log entry 65). -/
def State.imageKeyOk (s : State) (h : ImageHeader) (message : List Byte) : Bool :=
  match h.key with
  | some k => s.imageSlotOk h k.toNat && Config.verify 0 (bigBytes (s.slotKey k.toNat)) (bigBytes h.sig) message
  | none => false

/-- The use of a slot that an image's check makes is refused (R303): it counts in KEY_DENY_CNT. -/
def State.imageKeyUse (s : State) (h : ImageHeader) : State :=
  match h.key with
  | some k => if s.lcs ≤ 4 ∧ !s.imageSlotOk h k.toNat then s.incSat Reg.KEY_DENY_CNT 31 0 else s
  | none => s

end Sys2Proof.Machine
end

