-- ==== Sys2Proof/Machine/PassOps.lean ====
section
/-! DEFINITION. The hall pass (R308, R311 to R313) and the PCIe function (R314, R315). -/

namespace Sys2Proof.Machine

/-- A program load between BEGIN and ARMED aborted (R103): what was delivered is gone and STATE is IDLE, as by ABORT; ERR and SESSION stay. An image
that has been refused stays staged (DEDUCED, log entry 65: the rule keeps it until BEGIN or ABORT, whatever its ERR). -/
def State.dropLoad (s : State) : State :=
  let st := s.fld Reg.SCAN_PROG_STAT 3 0
  if 1 ≤ st ∧ st ≤ 4 then
    { ((s.setFld Reg.SCAN_PROG_STAT 3 0 0).setBit Reg.SCAN_PROG_STAT 4 false) with scan := { s.scan with staged := [], stagedTenant := none, switch := none } }
  else s

/-- PEND brought up to date. -/
def State.passPend (s : State) : State :=
  s.setFld Reg.HOST_PASS_PEND 7 0 ((List.range 8).foldl (fun n i => if s.host.claims.any (fun c => c.sess.val == i) then n + 2 ^ i else n) 0)

/-- The pending claims replaced. -/
def State.setClaims (s : State) (l : List ClaimSt) : State := ({ s with host := { s.host with claims := l } }).passPend

/-- A session's pending claim. -/
def State.claimOf (s : State) (n : Fin 8) : Option ClaimSt := s.host.claims.find? (fun c => c.sess == n)

/-- A session's claim gone. -/
def State.dropClaim (s : State) (n : Fin 8) : State := s.setClaims (s.host.claims.filter (fun c => c.sess != n))

/-- A change of Prefect (R312): causes 1 ELECTION, 2 LAPSE, 3 RELEASE, 4 LOSS, 5 HANDOVER; interrupt, event, and its other effects. -/
def State.passTo (s : State) (new : Option ClaimSt) (cause : Nat) : State :=
  let code := fun (o : Option (Fin 8)) => match o with | some n => wd n.val | none => 8
  let old := s.prefect
  let s := match new with
    | some c =>
      let s := s.wr Reg.HOST_PASS_STAT (wd (c.sess.val + 8 + 256 * c.prio.toNat + 64 * s.fld Reg.HOST_PASS_STAT 6 6))
      { (s.dropClaim c.sess) with host := { s.host with claims := s.host.claims.filter (fun x => x.sess != c.sess), nonce := c.nonce, renewedAt := s.now, handover := none } }
    | none =>
      let s := s.wr Reg.HOST_PASS_STAT (wd (64 * s.fld Reg.HOST_PASS_STAT 6 6))
      { s with host := { s.host with handover := none } }
  let s := (s.irq 0).record { sev := 4, source := 0x01, code := 312, args := [code old, code (new.map (·.sess)), wd cause] }
  let viewed : List (BitVec 12) := if s.bit Reg.ROSTER_VIEW 31 then [BitVec.ofNat 12 (s.fld Reg.ROSTER_VIEW 11 0)] else []
  ((s.wr Reg.ROSTER_VIEW 0).settleSlots viewed).dropLoad

/-- An election opens (R311): 1,000 ms for the first after a reset of the control die, else 20 ms. -/
def State.openElection (s : State) : State :=
  let t := s.now + (if s.host.firstDone then 20 else 1000) * msCounts
  { (s.setBit Reg.HOST_PASS_STAT 4 true) with host := { s.host with electionClose := some t } }

/-- After the pass is lost: an election among the pending claims at once (R312). -/
def State.electPending (s : State) : State := if s.host.claims.isEmpty then s else s.openElection

/-- CLAIM by a session (R311). -/
def State.claim (s : State) (n : Fin 8) (prio : BitVec 8) (nonce : BitVec 16) : State :=
  if s.prefect = some n then s
  else
    let s := s.setClaims (s.host.claims.filter (fun c => c.sess != n) ++ [{ sess := n, prio := prio, nonce := nonce }])
    if s.prefect.isNone ∧ s.host.electionClose.isNone then s.openElection else s

/-- RENEW (R312). -/
def State.renew (s : State) (n : Fin 8) (nonce : BitVec 16) : State :=
  if s.prefect = some n then
    if nonce = s.host.nonce then { s with host := { s.host with renewedAt := s.now } } else s.setLastErr n 2
  else s.setLastErr n 1

/-- RELEASE (R312). -/
def State.releasePass (s : State) (n : Fin 8) : State :=
  if s.prefect = some n then (s.passTo none 3).electPending else s.setLastErr n 1

/-- HANDOVER (R312): to a pending claim at once, else to be accepted within 100 ms. -/
def State.handOver (s : State) (n : Fin 8) (target : BitVec 3) : State :=
  let t : Fin 8 := ⟨target.toNat, target.isLt⟩
  if s.prefect ≠ some n then s.setLastErr n 1
  else if t = n then s
  else match s.claimOf t with
    | some c => s.passTo (some c) 5
    | none => { s with host := { s.host with handover := some (t, s.now) } }

/-- ACCEPT (R312). -/
def State.acceptPass (s : State) (n : Fin 8) (prio : BitVec 8) (nonce : BitVec 16) : State :=
  match s.host.handover with
  | some (t, at0) => if t = n ∧ s.now ≤ at0 + 100 * msCounts then s.passTo (some { sess := n, prio := prio, nonce := nonce }) 5 else s
  | none => s

/-- The winning claim (R311): the highest PRIO, ties to the lowest session. -/
def bestClaim (l : List ClaimSt) : Option ClaimSt :=
  l.foldl (fun b c => match b with
    | none => some c
    | some x => if x.prio.toNat < c.prio.toNat ∨ (x.prio = c.prio ∧ c.sess.val < x.sess.val) then some c else some x) none

/-- The election closes (R311); its time is known. -/
def State.closeElection (s : State) : State :=
  match s.host.electionClose with
  | none => s
  | some t =>
    let s := (s.advanceTo t).setBit Reg.HOST_PASS_STAT 4 false
    let s := { s with host := { s.host with electionClose := none, firstDone := true } }
    match bestClaim s.host.claims with
    | some c => s.passTo (some c) 1
    | none => s

/-- The lease under 100 ms (HOST_IRQ_STAT LEASE) between two counts. -/
def State.leaseIrq (s : State) (before : Nat) : State :=
  let t := s.host.renewedAt + 400 * msCounts
  if s.prefect.isSome ∧ before ≤ t ∧ t < s.now then s.irq 11 else s

/-- The lease lapses 500 ms after its last renewal (R312). -/
def State.lapseLease (s : State) : State :=
  if s.prefect.isNone then s
  else
    let before := s.now
    (((s.advanceTo (s.host.renewedAt + 500 * msCounts)).leaseIrq before).passTo none 2).electPending

/-- A handover not accepted within 100 ms lapses (R312). -/
def State.lapseHandover (s : State) : State :=
  match s.host.handover with
  | some (_, t) => { ((s.advanceTo (t + 100 * msCounts)).setBit Reg.HOST_PASS_STAT 6 true) with host := { s.host with handover := none } }
  | none => s

/-- A session ceases to exist (R308, R311, R312). -/
def State.endSession (s : State) (n : Fin 8) : State :=
  let s := (s.setBit Reg.HOST_PASS_PEND (8 + n.val) false).dropClaim n
  if s.prefect = some n then (s.passTo none 4).electPending else s

/-- A session comes into existence (R308): session 1 only with QSPI_EN. -/
def State.appearSession (s : State) (n : Fin 8) : State :=
  if n = 1 ∧ !s.bit Reg.HOST_CFG 0 then s else s.setBit Reg.HOST_PASS_PEND (8 + n.val) true

/-- A write of HOST_PASS_CMD: by a session its command, by steward firmware nothing (R308). -/
def State.passCmd (s : State) (m : Master) (f : State → Fin 8 → State) : State :=
  match m with
  | .sess n => if s.pwr.off then s else f (s.wakeRequest 0) n
  | .steward => s

/-- What system software does to the PCIe function (R309, R314, R315); leaving D3hot or L1 is a wake request of the host (R343). -/
def State.pcieEvent (s : State) (ev : PcieEvent) : State :=
  match ev with
  | .d3hot b =>
    let s := { s with host := { s.host with d3hot := b } }
    if b then s else s.wakeRequest 0
  | .l1 b =>
    let s := { s with host := { s.host with l1 := b } }
    if b then s else s.wakeRequest 0
  | .pmeEn b => { s with host := { s.host with pmeEn := b } }
  | .pmeClear => { s with host := { s.host with pmeStatus := false } }
  | .ltr us => { s with host := { s.host with ltr := us } }

end Sys2Proof.Machine
end

