-- ==== Sys2Proof/Machine/Images.lean ====
section
/-! DEFINITION. Program images: the rules an image must keep (R9, R100 to R107, R110), and what differs between two images (R106). -/

namespace Sys2Proof.Machine

/-! ### The parts of an image -/

/-- The region tables, variables, device groups and reservations of an image. -/
def coreTable (l : List ImageItem) (core : Nat) : List Region := l.filterMap (fun it => match it with
  | .coreRegion c r => if c.val = core then some r else none
  | _ => none)
def clusterTable (l : List ImageItem) (cl : Nat) : List Region := l.filterMap (fun it => match it with
  | .clusterRegion c r => if c.val = cl then some r else none
  | _ => none)
def imageVars (l : List ImageItem) : List VarDecl := l.filterMap (fun it => match it with
  | .var v => some v
  | _ => none)
def imageGroups (l : List ImageItem) : List GroupDecl := l.filterMap (fun it => match it with
  | .group g => some g
  | _ => none)
def imageOwns (l : List ImageItem) : List (OwnedRes × BitVec 12) := l.filterMap (fun it => match it with
  | .owns r t => some (r, t)
  | _ => none)
def reserved (l : List ImageItem) (t : BitVec 12) : Nat := l.foldl (fun n it => match it with
  | .reservation u b => if u = t then n + b else n
  | _ => n) 0

/-- The code pieces of a core, and the initial bytes of its STATE regions and of a cluster's memory. -/
def codeOf (l : List ImageItem) (core : Nat) : List (Nat × List Byte) := l.filterMap (fun it => match it with
  | .code c a b => if c.val = core then some (a, b) else none
  | _ => none)
def initOf (l : List ImageItem) (core : Nat) : List (Nat × List Byte) := l.filterMap (fun it => match it with
  | .initState c a b => if c.val = core then some (a, b) else none
  | _ => none)
def initClusterOf (l : List ImageItem) (cl : Nat) : List (Nat × List Byte) := l.filterMap (fun it => match it with
  | .initCluster c a b => if c.val = cl then some (a, b) else none
  | _ => none)

/-- A byte address lies in a region. -/
def regionHas (r : Region) (a : Nat) : Bool := decide (r.base ≤ a) && decide (a < r.base + r.size)

/-- The section an item stands in (R100). -/
def itemSection? : ImageItem → Option Nat
  | .header _ => some 0
  | .lesson _ => some 1
  | .coreRegion _ _ => some 2
  | .clusterRegion _ _ => some 2
  | .code _ _ _ => some 3
  | .initState _ _ _ => some 4
  | .initCluster _ _ _ => some 4
  | .point _ => some 5
  | .group _ => some 6
  | .reservation _ _ => some 7
  | .var _ => some 8
  | .owns _ _ => Option.none

/-- Numbers that never fall. -/
def rising : List Nat → Bool
  | a :: b :: t => decide (a ≤ b) && rising (b :: t)
  | _ => true

/-- The least of a list of numbers. -/
def least (l : List Nat) : Option Nat := l.foldl (fun b n => match b with
  | some m => some (min m n)
  | none => some n) none

/-- An image holds items of a tenant: its lessons, regions and what they cover, points, groups and variables (R110). -/
def ofTenant (l : List ImageItem) (t : BitVec 12) (it : ImageItem) : Bool :=
  let covers := fun (rs : List Region) (kinds : List RegionKind) (a : Nat) => rs.any (fun r => r.owner == t && kinds.contains r.kind && regionHas r a)
  match it with
  | .lesson d => d.tenant == t
  | .coreRegion _ r => r.owner == t
  | .clusterRegion _ r => r.owner == t
  | .code c a _ => covers (coreTable l c.val) [.code] a
  | .initState c a _ => covers (coreTable l c.val) [.state] a
  | .initCluster c a _ => covers (clusterTable l c.val) [.scratch, .const] a
  | .point p => ownerOf p == t
  | .group g => g.points.all (fun i => (imagePoints l).any (fun p => p.idx == i && ownerOf p == t))
  | .var v => v.tenant == t
  | .owns _ u => u == t
  | .header _ => false
  | .reservation _ _ => false

/-- The staged image's items, in the order of their pieces. -/
def State.stagedItems (s : State) : List ImageItem := s.scan.staged.flatMap (·.2.2)

/-- The image that runs after a switch (R110): a building image replaces all; a tenant image replaces what the tenant has in the
current image and gives it its IMAGE_ID (log entry 42). -/
def State.newImage (s : State) : List ImageItem :=
  let items := s.stagedItems
  match s.scan.stagedTenant with
  | none => items
  | some t =>
    let id := (imageHeader? items).map (·.imageId)
    let kept := s.scan.current.filter (fun it => !ofTenant s.scan.current t it)
    kept.map (fun it => match it, id with
      | .header h, some i => .header { h with imageId := i }
      | x, _ => x) ++ items.filter (fun it => match it with
        | .header _ => false
        | .reservation _ _ => false
        | _ => true)

/-! ### The rules of R104 -/

/-- The bytes a retentive point takes (R114). -/
def retainSize (p : PointDecl) : Nat := if wideType p.desc then 8 else 4

/-- The first offset that the staged pieces, in order, do not cover. -/
def coveredTo (l : List (Nat × Nat × List ImageItem)) : Nat := l.foldl (fun n p => if p.1 ≤ n then max n (p.1 + p.2.1) else n) 0

/-- FORMAT (R100, R104): one header of a known version and of the kind asked for; the pieces make up exactly its total length, at most 24 MiB;
reservations in building images only; sections in order; the digest. The answer is the DETAIL: the offset of the fault in units of 4 KiB, none
where the fault lies at no offset. -/
def State.formatError (s : State) : Option (Option Nat) :=
  let items := s.stagedItems
  let body := items.filter (fun it => match it with | .header _ => false | _ => true)
  let covered := coveredTo s.scan.staged
  match items.filterMap (fun it => match it with | .header h => some h | _ => none) with
  | [h] =>
    if !Config.imageFormat h.version || h.tenantKind != s.scan.stagedTenant.isSome || (match s.scan.stagedTenant with | some t => h.tenant != t | none => false)
    then some (some 0)
    else if covered ≠ h.length ∨ 25165824 < h.length ∨ s.scan.staged.any (fun p => decide (h.length < p.1 + p.2.1)) then
      some (some (min covered h.length / 4096))
    else if h.tenantKind && items.any (fun it => match it with | .reservation _ _ => true | _ => false) then some none
    else if !rising (items.filterMap itemSection?) || decide (h.digest ≠ Config.imageDigest body) then some none
    else none
  | _ => some (some 0)

/-- SIGNATURE (R102). -/
def State.signatureBad (s : State) (h : ImageHeader) : Bool :=
  let ok := s.imageKeyOk h (bigBytes h.digest ++ Config.headerBytes h)
  match s.lcs with
  | 0 => h.key.isSome && !ok
  | 1 => h.key.isSome && !ok
  | 2 => !ok
  | 3 => !ok
  | 4 => h.tenantKind || (h.key.isSome && !ok)
  | _ => true

/-- VARIANT (R2): the fast stages and the dispatch assist unit on L, metering on M. -/
def State.variantBad (s : State) (h : ImageHeader) : Bool :=
  (s.variant == 1 && (h.units.getLsbD 1 || h.units.getLsbD 2)) || (s.variant == 2 && h.units.getLsbD 4)

/-- A producer that cannot write the point (R9). -/
def producerBad (units : BitVec 5) (l : List ImageItem) (p : PointDecl) : Bool :=
  match bits p.desc 12 10 with
  | 0 => !(imageLessons l).any (fun d => d.num == p.lesson)
  | 1 => !units.getLsbD 0
  | 2 => !units.getLsbD 2
  | 4 => !units.getLsbD 4
  | 6 => !(imageGroups l).any (fun g => g.points.contains p.idx)
  | _ => false

/-- Two regions of a table overlap in one space. -/
def overlapping (a b : Region) : Bool :=
  (a.kind == .code) == (b.kind == .code) && decide (a.base < b.base + b.size) && decide (b.base < a.base + a.size)

/-- Some pair of a list has a property. -/
def anyPair {α : Type} (f : α → α → Bool) : List α → Bool
  | [] => false
  | x :: t => t.any (f x) || anyPair f t

/-- A region table breaks R35 (REGION): entries, granule, space and overlaps. -/
def tableBad (granule fetch data : Nat) (l : List Region) : Bool :=
  decide (16 < l.length) || anyPair overlapping l ||
    l.any (fun r => decide (r.base % granule ≠ 0) || decide (r.size % granule ≠ 0) || r.size == 0 ||
      decide ((if r.kind = .code then fetch else data) < r.base + r.size))

/-- A lesson outside R81 (LESSONS). -/
def lessonBad (d : LessonDecl) : Bool :=
  decide (4095 < d.num) || decide (d.deadline < 10) || decide (d.periodNs < d.deadlineNs) || decide (d.budget < 10) || decide (d.deadlineNs < d.budgetNs)

/-- The first retentive point beyond the Locket's 2,304 bytes, its tenant's reservation, or for tenant 0 what the reservations leave (R114). -/
def retainFull (l : List ImageItem) : Option Nat :=
  let pts := sortOn (fun p => p.idx.toNat) ((imagePoints l).filter (fun p => bitOf p.desc 28))
  let all := l.foldl (fun n it => match it with | .reservation u b => if u = 0 then n else n + b | _ => n) 0
  let limit := fun (t : BitVec 12) => if t = 0 then 2304 - all else min (reserved l t) 2304
  let used := fun (p : PointDecl) => (pts.filter (fun q => ownerOf q == ownerOf p && decide (q.idx.toNat ≤ p.idx.toNat))).foldl (fun n q => n + retainSize q) 0
  let off := fun (p : PointDecl) => (imageVars l).any (fun v => v.kind == .retentive && v.vid == p.pid &&
    (decide (2304 < v.off + v.size) || decide (v.off % v.size ≠ 0)))
  (pts.find? (fun p => decide (limit (ownerOf p) < used p) || off p)).map (fun p => p.idx.toNat)

/-- The bytes of warm data (R111): STATE, three words for each warm point, warm cluster regions, the force table of 256 entries of three words, the
IMAGE_ID (log entry 42). -/
def warmBytes (l : List ImageItem) : Nat :=
  l.foldl (fun n it => match it with
    | .coreRegion _ r => if r.kind = .state then n + r.size else n
    | .clusterRegion _ r => if r.kind = .scratch ∧ r.warm then n + r.size else n
    | .point p => if bitOf p.desc 29 then n + 12 else n
    | _ => n) (8 + 256 * 12)

/-- The distinct priorities of a core's lessons (R84). -/
def priorities (l : List LessonDecl) : Nat := ((l.map LessonDecl.rank).eraseDups).length

/-- The lessons a core would run. -/
def onCore (l : List LessonDecl) (c : Nat) : List LessonDecl := l.filter (fun d => d.core.val == c)

/-- The lowest lesson that fails R85, its core in service. -/
def State.admissionBad (s : State) (l : List LessonDecl) : Option Nat :=
  least ((List.range 64).flatMap (fun c =>
    ((onCore l c).filter (fun d => !responseOk (onCore l c) d || !s.bit (Reg.SCAN_CORE_STAT c) 0)).map (·.num)))

/-- The lowest tenant beyond its share of a cluster (R86). A tenant with no valid context has no share to be judged by (R82). -/
def State.shareBad (s : State) (l : List LessonDecl) : Option Nat :=
  least ((l.filter (fun d => (s.tenant d.tenant).valid && (List.range 8).any (fun k => overShare (s.tenant d.tenant) d.tenant k l))).map (fun d => d.tenant.toNat))

/-- A piece of bytes lies wholly in a region of a tenant and a kind. -/
def inRegion (rs : List Region) (t : BitVec 12) (kinds : List RegionKind) (a : Nat) (b : List Byte) : Bool :=
  rs.any (fun r => r.owner == t && kinds.contains r.kind && decide (r.base ≤ a) && decide (a + b.length ≤ r.base + r.size))

/-- An item of a tenant image that is no lesson and no point lies outside the tenant's scope (R110): another's region, variable or resource; code or
initial contents outside its own regions; a device group with a point that is not its own, or with the number of another's group. -/
def itemOutside (own kept : List ImageItem) (t : BitVec 12) : ImageItem → Bool
  | .coreRegion _ r => r.owner != t
  | .clusterRegion _ r => r.owner != t
  | .code c a b => !inRegion (coreTable own c.val) t [.code] a b
  | .initState c a b => !inRegion (coreTable own c.val) t [.state] a b
  | .initCluster c a b => !inRegion (clusterTable own c.val) t [.scratch, .const] a b
  | .group g => !g.points.all (fun i => (imagePoints own).any (fun p => p.idx == i && ownerOf p == t)) || (imageGroups kept).any (fun x => x.num == g.num)
  | .var v => v.tenant != t
  | .owns _ u => u != t
  | _ => false

/-- An item out of its tenant's scope (R82, R110), lessons before points. A tenant image may produce a point only where the roster lets its tenant
write it. -/
def State.scopeBad (s : State) (own : List ImageItem) : Option (Nat × Nat) :=
  let outside := fun (t : BitVec 12) => match s.scan.stagedTenant with | some u => t != u | none => false
  let noCtx := fun (t : BitVec 12) => !(s.tenant t).valid
  let badLesson := fun (d : LessonDecl) => noCtx d.tenant || outside d.tenant ||
    (s.scan.stagedTenant.isSome && !(s.tenant d.tenant).allows (d.core.val / 8))
  let badPoint := fun (p : PointDecl) => noCtx (ownerOf p) || outside (ownerOf p) ||
    (match s.scan.stagedTenant with | some t => !s.mayWriteAs t (ownerOf p) p.idx | none => false)
  match least (((imageLessons own).filter badLesson).map (·.num)) with
  | some n => some (n, 1)
  | none => match least (((imagePoints own).filter badPoint).map (fun p => p.idx.toNat)) with
    | some i => some (i, 2)
    | none => match s.scan.stagedTenant with
      | some t => if own.any (itemOutside own (s.scan.current.filter (fun it => !ofTenant s.scan.current t it)) t) then some (0, 0) else none
      | none => none

/-! ### What a switch changes (R106, R107, R109) -/

/-- The code of a tenant on a core. -/
def tenantCode (l : List ImageItem) (core : Nat) (t : BitVec 12) : List (Nat × List Byte) :=
  (codeOf l core).filter (fun p => (coreTable l core).any (fun r => r.kind == .code && r.owner == t && regionHas r p.1))

/-- What a lesson keeps from one image to the next besides its declaration: its tenant's code and regions on its core, its tenant's cluster
regions, and its STATE layout (R106; log entry 42). -/
def lessonParts (l : List ImageItem) (d : LessonDecl) : List (Nat × List Byte) × List Region × List Region × List VarDecl :=
  (tenantCode l d.core.val d.tenant, (coreTable l d.core.val).filter (fun r => r.owner == d.tenant),
    (clusterTable l (d.core.val / 8)).filter (fun r => r.owner == d.tenant),
    (imageVars l).filter (fun v => v.kind == .state && v.tenant == d.tenant && v.core == d.core))

/-- A lesson number is affected by a switch (R106). -/
def lessonAffected (old new : List ImageItem) (n : Nat) : Bool :=
  match (imageLessons old).find? (fun d => d.num == n), (imageLessons new).find? (fun d => d.num == n) with
  | some a, some b => decide (a ≠ b) || decide (lessonParts old a ≠ lessonParts new b)
  | none, none => false
  | _, _ => true

/-- The affected lessons of both images. -/
def affectedLessons (old new : List ImageItem) : List LessonDecl :=
  (imageLessons old ++ imageLessons new).filter (fun d => lessonAffected old new d.num)

/-- The affected cores, in order (R106), with the cores that moved lessons run on. -/
def State.affectedCores (s : State) (old new : List ImageItem) : List Nat :=
  let l := affectedLessons old new
  (List.range 64).filter (fun c => l.any (fun d => d.core.val == c || (match s.lesson? d.num with | some x => x.runsOn.val == c | none => false)))

/-- A memory built of pieces. -/
def piecesMem (l : List (Nat × List Byte)) : Memory := l.foldl (fun m p => Memory.writeN m p.1 p.2) []

/-- The 256-byte granules, of a number of them, in which two memories differ. -/
def granules (a b : Memory) (n : Nat) : List Nat :=
  (List.range n).filter (fun g => decide (Memory.readN a (256 * g) 256 ≠ Memory.readN b (256 * g) 256))

/-- The staged contents of a core (R107): its changed granules of code and STATE, with its region tables and descriptors. -/
def stagedContents (old new : List ImageItem) (core : Nat) : List Byte :=
  let code := piecesMem (codeOf new core)
  let init := piecesMem (initOf new core)
  (granules (piecesMem (codeOf old core)) code 256).flatMap (fun g => Memory.readN code (256 * g) 256) ++
    (granules (piecesMem (initOf old core)) init 512).flatMap (fun g => Memory.readN init (256 * g) 256) ++ Config.stagedTables new core

/-- The staged contents of the affected cores of a cluster, in core order. -/
def clusterStaged (old new : List ImageItem) (cores : List Nat) (cl : Nat) : List Byte :=
  (cores.filter (fun c => c / 8 == cl)).flatMap (stagedContents old new)

/-- An image whose cluster regions reach the staging range of a cluster (R107). -/
def reachesStaging (l : List ImageItem) (cl : Nat) : Bool := (clusterTable l cl).any (fun r => decide (0x180000 < r.base + r.size))

/-- STAGING (R107): the first core of a cluster that breaks it. -/
def stagingBad (old new : List ImageItem) (cores : List Nat) : Option Nat :=
  ((List.range 8).find? (fun cl => reachesStaging old cl || reachesStaging new cl ||
    decide (0x40000 < (clusterStaged old new cores cl).length))).map (fun cl => 8 * cl)

/-- A retentive point's Locket offset in an image. -/
def retainOff (l : List ImageItem) (p : PointDecl) : Option Nat :=
  ((imageVars l).find? (fun v => v.kind == .retentive && v.vid == p.pid)).map (·.off)

/-- MOVED (R107): the lowest kept point whose index or Locket offset changes. -/
def movedBad (old new : List ImageItem) : Option Nat :=
  least (((imagePoints new).filter (fun p => (imagePoints old).any (fun q => q.pid == p.pid &&
    (q.idx != p.idx || (bitOf q.desc 28 && bitOf p.desc 28 && decide (retainOff old q ≠ retainOff new p)))))).map (fun p => p.idx.toNat))

/-- The lowest code of R104 among the rules the staged image breaks, with its item and the item's kind; `live` adds the rules of a live switch. -/
def State.imageRefusal (s : State) (live : Bool) : Option (Nat × Nat × Nat) :=
  let own := s.stagedItems
  let new := s.newImage
  let lessons := imageLessons new
  let points := imagePoints own
  let cores := List.range 64
  let nums := lessons.map (·.num)
  let idxs := (imagePoints new).map (fun p => p.idx.toNat)
  let pick := fun (code kind : Nat) (l : List Nat) => (least l).map (fun n => (code, n, kind))
  match s.formatError, imageHeader? own with
  | some d, _ => some (1, d.getD (s.freeWord.toNat % 65536), 5)
  | none, none => some (1, 0, 5)
  | none, some h =>
    if s.signatureBad h then some (2, 0, 0)
    else if s.variantBad h then some (3, 0, 0)
    else
      [pick 4 2 (idxs.filter (fun i => decide (1 < (idxs.filter (· == i)).length))),
       pick 5 2 ((points.filter (producerBad h.units own)).map (fun p => p.idx.toNat)),
       pick 6 2 ((points.filter (fun p => decide (8 ≤ bits p.desc 3 0))).map (fun p => p.idx.toNat)),
       pick 7 1 (((imageLessons own).filter (fun d => (s.tenant d.tenant).valid && !tierAllowed (s.tenant d.tenant) d)).map (·.num)),
       (s.admissionBad lessons).map (fun n => (8, n, 1)),
       (s.shareBad lessons).map (fun n => (9, n, 4)),
       pick 10 3 (cores.filter (fun c => decide (17 < priorities (onCore lessons c)))),
       pick 11 3 (cores.filter (fun c => decide (0x8000 < ((coreTable new c).filter (fun r => r.kind == .state)).foldl (fun n r => n + r.size) 0))),
       (match least (cores.filter (fun c => tableBad 256 0x10000 0x20000 (coreTable new c))) with
        | some c => some (12, c, 3)
        | none => pick 12 6 ((List.range 8).filter (fun k => tableBad 4096 0x1C0000 0x1C0000 (clusterTable new k) ||
            (clusterTable new k).any (fun r => r.kind == .code || r.kind == .state)))),
       pick 13 1 ((lessons.filter (fun d => lessonBad d || decide (1 < (nums.filter (· == d.num)).length))).map (·.num)),
       (retainFull new).map (fun i => (14, i, 2)),
       (if 4194304 < warmBytes new then some (15, 0, 0) else none),
       (s.scopeBad own).map (fun p => (16, p.1, p.2)),
       (if live then (stagingBad s.scan.current new (s.affectedCores s.scan.current new)).map (fun c => (17, c, 3)) else none),
       (if live then (movedBad s.scan.current new).map (fun i => (18, i, 2)) else none)].findSome? id

end Sys2Proof.Machine
end

