-- ==== Sys2Proof/Machine/MeterMath.lean ====
section
/-! DEFINITION. The arithmetic of metering: calibration curve, one line cycle of a circuit, and the quantities of R205. -/

namespace Sys2Proof.Machine

/-- The square root of a number to 2^−48 (log entry 35). -/
def Num.root (a : Num) : Num := ⟨isqrt (a.n.toNat * 2 ^ 96 / a.d), 2 ^ 48⟩

/-- log2 of a positive number in units of 2^−32, by repeated squaring (log entry 35). -/
def logFix (n : Nat) : Int :=
  let k := n.log2
  let r := (List.range 32).foldl (fun (p : Nat × Nat) _ =>
    let y := p.1 * p.1 / 2 ^ 62
    if 2 ^ 63 ≤ y then (y / 2, 2 * p.2 + 1) else (y, 2 * p.2)) (n * 2 ^ 62 / 2 ^ k, 0)
  ((k * 2 ^ 32 + r.2 : Nat) : Int)

/-! ### Calibration (R208, R209) -/

/-- Breakpoint j of a channel: current in µA, gain in 2^−32, phase in 2^−16 µrad. -/
def CalCh.bp (c : CalCh) (j : Nat) : Nat × Int × Int :=
  let b := c.bps.getD j (0, 0, 0)
  (b.1 * 1000, b.2.1 * 2 ^ 16, b.2.2 * 2 ^ 16)

/-- Gain, phase and CAL_EXTRAPOLATED of a current channel at the previous cycle's uncorrected IRMS in µA (R209). -/
def CalCh.place (c : CalCh) (raw : Nat) : Int × Int × Bool :=
  let top := c.bp (c.nbp - 1)
  let low := c.bp 0
  if raw < low.1 then (low.2.1, low.2.2, true)
  else if top.1 < raw then (top.2.1, top.2.2, decide (4 * top.1 < raw))
  else
    let j := ((List.range (c.nbp - 1)).filter (fun j => decide ((c.bp j).1 ≤ raw))).getLast?.getD 0
    let a := c.bp j
    let b := c.bp (min (j + 1) (c.nbp - 1))
    let f : Int :=
      if raw = a.1 ∨ a.1 = b.1 then 0
      else if a.1 = 0 then Config.zeroFraction raw b.1
      else (logFix raw - logFix a.1) * 2 ^ 32 / (logFix b.1 - logFix a.1)
    (a.2.1 + (b.2.1 - a.2.1) * f / 2 ^ 32, a.2.2 + (b.2.2 - a.2.2) * f / 2 ^ 32, false)

/-! ### One line cycle (R203, R204) -/

/-- A channel's samples as integers: counts × FS × gain, gain in 2^−32. -/
def scaleSamples (x : List Int) (fs : Nat) (gain : Int) : List Int := x.map (fun v => v * fs * (2 ^ 32 + gain))

/-- The denominator of a scaled sample in V or A, but for √2: a full-scale sine has the RMS value FS (R208). -/
abbrev sampleUnit : Nat := 2 ^ 23 * 2 ^ 32 * 1000

/-- n / d in units of 2^−32, rounded down; 0 where d is 0. -/
def fix32 (n : Int) (d : Nat) : Int := if d = 0 then 0 else n * 2 ^ 32 / d

/-- The sum of products of two lists of samples. -/
def dot (x y : List Int) : Int := (x.zip y).foldl (fun a p => a + p.1 * p.2) 0

/-- The mean product of two channels in 2^−32 of its unit. -/
def meanProduct (x y : List Int) : Int := fix32 (2 * dot x y) (x.length * (sampleUnit * sampleUnit))

/-- The fundamental phasor of a cycle's samples, its peak in their unit: one bin of the discrete Fourier transform of 128 points (R204). -/
def fundamental (x : List Int) : Int × Int :=
  let y := Config.resample x
  let r := (List.range 128).foldl (fun (p : Int × Int) (k : Nat) =>
    let w := turnFix k 128
    (p.1 + y.getD k 0 * w.1, p.2 - y.getD k 0 * w.2)) (0, 0)
  (r.1 / (64 * 2 ^ 80), r.2 / (64 * 2 ^ 80))

/-- A phase's results from its corrected voltage and current samples. -/
def phaseRes (v i : List Int) : PhaseRes :=
  let fv := fundamental v
  let fi := fundamental i
  let d := sampleUnit * sampleUnit
  { v2 := meanProduct v v, i2 := meanProduct i i, p := meanProduct v i,
    pf := fix32 (fv.1 * fi.1 + fv.2 * fi.2) d, qf := fix32 (fv.2 * fi.1 - fv.1 * fi.2) d,
    vf2 := fix32 (fv.1 * fv.1 + fv.2 * fv.2) d, if2 := fix32 (fi.1 * fi.1 + fi.2 * fi.2) d }

/-- √3 in units of 2^−32. -/
def root3 : Int := 7439101573

/-- The mean square positive-sequence voltage of three phasors (V1 = (A + aB + a²C) / 3), in 2^−32 V²; with B and C exchanged, the
negative-sequence one. -/
def sequence2 (a b c : Int × Int) : Int :=
  let r : Int := 2 ^ 32
  let re := 2 * r * a.1 - r * b.1 - root3 * b.2 - r * c.1 + root3 * c.2
  let im := 2 * r * a.2 - r * b.2 + root3 * b.1 - r * c.2 - root3 * c.1
  fix32 (re * re + im * im) ((6 * 2 ^ 32) * (6 * 2 ^ 32) * (sampleUnit * sampleUnit))

/-! ### Quantities (R205) -/

/-- A result in units of 2^−32 as a number. -/
def fixNum (x : Int) : Num := ⟨x, 2 ^ 32⟩

/-- The mean over cycles of a field of a phase. -/
def meanPhase (l : List CycleRes) (p : Nat) (f : PhaseRes → Int) : Num :=
  let xs := l.filterMap (fun c => ((c.phases.toList[p]?).join).map f)
  if xs.isEmpty then Num.zero else ⟨xs.foldl (· + ·) 0, 2 ^ 32 * xs.length⟩

/-- The mean over cycles of a field of the circuit. -/
def meanCycle (l : List CycleRes) (f : CycleRes → Int) : Num :=
  if l.isEmpty then Num.zero else ⟨(l.map f).foldl (· + ·) 0, 2 ^ 32 * l.length⟩

/-- The full-scale values of a phase's voltage and current. -/
structure FullScale where
  v : Num
  i : Num
deriving DecidableEq, Repr

/-- A quotient, 0 and flagged where its divisor is below 0.1 % of its full-scale value (R205). -/
def quotient (a b full : Num) : Num × Bool := if b.lt (full.mul ⟨1, 1000⟩) || b.n == 0 then (Num.zero, true) else (a.div b, false)

/-- A quantity per phase over cycles, and whether its divisor was too small (R205; kinds 1 to 13). -/
def phaseKind (l : List CycleRes) (fs : Nat → FullScale) (p kind : Nat) : Num × Bool :=
  let m := meanPhase l p
  let vr := (m (·.v2)).root
  let ir := (m (·.i2)).root
  let vf := (m (·.vf2)).root
  let cf := (m (·.if2)).root
  let thd := fun (r f full : Num) =>
    let q := quotient ((((r.mul r).sub (f.mul f)).max Num.zero).root.mul (Num.int 100)) f full
    q
  match kind with
  | 1 => (vr, false)
  | 2 => (ir, false)
  | 3 => (m (·.p), false)
  | 4 => (m (·.pf), false)
  | 5 => (m (·.qf), false)
  | 6 => (vr.mul ir, false)
  | 7 => (vf.mul cf, false)
  | 8 => quotient (m (·.p)) (vr.mul ir) ((fs p).v.mul (fs p).i)
  | 9 => quotient (m (·.pf)) (vf.mul cf) ((fs p).v.mul (fs p).i)
  | 10 => thd vr vf (fs p).v
  | 11 => thd ir cf (fs p).i
  | 12 => (vf, false)
  | 13 => (cf, false)
  | _ => (Num.zero, false)

/-- A quantity of kinds 1 to 15 over cycles, for a phase or, at code 3, for the circuit's phases `ps` (R205). -/
def kindValue (l : List CycleRes) (fs : Nat → FullScale) (ps : List Nat) (code kind : Nat) : Num × Bool :=
  if kind = 14 then (if l.isEmpty then Num.zero else ⟨(l.map (fun c => (c.freq : Int))).foldl (· + ·) 0, 1000 * l.length⟩, false)
  else if kind = 15 then
    quotient ((meanCycle l (·.neg2)).root.mul (Num.int 100)) (meanCycle l (·.pos2)).root (fs 0).v
  else if code ≠ 3 then phaseKind l fs code kind
  else
    let vals := fun k => ps.map (fun p => (phaseKind l fs p k).1)
    let full := Num.sum (ps.map (fun p => (fs p).v.mul (fs p).i))
    match kind with
    | 1 | 12 | 13 => (if ps.isEmpty then Num.zero else (Num.sum (vals kind)).div (Num.int ps.length), false)
    | 2 => ((meanCycle l (·.n2)).root, false)
    | 8 => quotient (Num.sum (vals 3)) (Num.sum (vals 6)) full
    | 9 => quotient (Num.sum (vals 4)) (Num.sum (vals 7)) full
    | 10 | 11 => ((vals kind).foldl Num.max Num.zero, (ps.map (fun p => (phaseKind l fs p kind).2)).any id)
    | _ => (Num.sum (vals kind), false)

/-- The kinds that are defined for a phase code and a wiring (R205, R212): 15 to 21 for the circuit only, the neutral current in 3P4W only,
and phase L2 is not metered in 3P3W. -/
def kindDefined (kind code : Nat) (threeWire : Bool) : Bool :=
  decide (1 ≤ kind) && decide (kind ≤ 21) && (code == 3 || decide (kind ≤ 14)) && !(threeWire && code == 1) && !(threeWire && kind == 2 && code == 3)

end Sys2Proof.Machine
end

