-- ==== Sys2Proof/Machine/MeterOps.lean ====
section
/-! DEFINITION. The metering die (R201 to R219): line cycles, energy registers, supervision, quantity points, saves, battery and merge. -/

namespace Sys2Proof.Machine

/-- The module has the metering die (R1). -/
def State.hasMeter (s : State) : Bool := s.variant != 2

/-- An energy register, 8k + n (R207). -/
def State.energy (s : State) (r : Nat) : Nat := Tab.get (fun _ => 0) s.meter.regs r

/-- The 96 energy registers. -/
def meterRegs : List Nat := (List.range 16).flatMap (fun k => (List.range 6).map (fun n => 8 * k + n))

/-- The baseline of a register (R213). -/
def State.meterBase (s : State) (r : Nat) : Nat := Tab.get (fun _ => 0) s.meter.base r

/-- A circuit beside its registers. -/
def State.mckt (s : State) (k : Nat) : MeterCkt := s.meter.ckts.toList.getD k MeterCkt.zero

/-- A circuit replaced. -/
def State.setMckt (s : State) (k : Nat) (x : MeterCkt) : State :=
  { s with meter := { s.meter with ckts := s.meter.ckts.setIfInBounds k x } }

/-- A circuit's supply, wiring, and enabled phases (R201). -/
def State.cktSupply (s : State) (k : Nat) : Nat := s.fld (Reg.METER_CKT_CFG k) 1 1
def State.threeWire (s : State) (k : Nat) : Bool := s.bit (Reg.METER_CKT_CFG k) 2
def State.cktPhases (s : State) (k : Nat) : List Nat :=
  (List.range 3).filter (fun p => s.bit (Reg.METER_CKT_CFG k) (3 + p) && !(s.threeWire k && p == 1))

/-- A channel's calibration in force for a supply: current channels 0 to 47, voltage channels at 48 + v. -/
def State.calOf (s : State) (sup ch : Nat) : CalCh := Tab.get (fun _ => ⟨0, 1, []⟩) (s.meter.cal.toList.getD sup []) ch

/-- The full-scale values of a circuit's phase. -/
def State.fullScale (s : State) (k p : Nat) : FullScale :=
  let sup := s.cktSupply k
  ⟨⟨(s.calOf sup (48 + 3 * sup + p)).fs, 1000⟩, ⟨(s.calOf sup (3 * k + p)).fs, 1000⟩⟩

/-! ### Line cycles (R203 to R206, R209) -/

/-- A supply's three corrected phase-to-neutral voltages of a cycle. -/
def State.voltSamples (s : State) (sup : Nat) (m : SupplyMeas) : List (List Int) :=
  (List.range 3).map (fun p =>
    let c := s.calOf sup (48 + 3 * sup + p)
    let b := c.bp 0
    scaleSamples (Config.delay (m.volts.toList.getD p []) b.2.2 m.freq) c.fs b.2.1)

/-- The tracker's results of a cycle (R203): LOCK, SEQ_ERR, V_ABSENT and FREQ. -/
def State.track (s : State) (sup : Nat) (m : SupplyMeas) : State :=
  let v := s.voltSamples sup m
  let ph := v.map fundamental
  let pos := sequence2 (ph.getD 0 (0, 0)) (ph.getD 1 (0, 0)) (ph.getD 2 (0, 0))
  let neg := sequence2 (ph.getD 0 (0, 0)) (ph.getD 2 (0, 0)) (ph.getD 1 (0, 0))
  let vnom : Int := (s.fld (Reg.METER_SUP_CFG sup) 15 0 : Nat)
  let lock := decide (vnom * vnom * 2 ^ 32 < pos * 2500) && decide (45000 ≤ m.freq) && decide (m.freq ≤ 65000)
  let absent : Nat := (List.range 3).foldl (fun n p => if meanProduct (v.getD p []) (v.getD p []) * 10000 < vnom * vnom * 2 ^ 32 then n + 2 ^ p else n) 0
  let s := s.wr (Reg.METER_SUP_STAT sup) (wd (lock.toNat + 2 * (decide (pos < neg)).toNat + 4 * absent + 65536 * m.freq))
  s.setBit Reg.METER_STAT (8 + sup) lock

/-- A circuit's results of a cycle, from the converters' samples `y` and the filtered ones `x` (R202), and its channels' uncorrected IRMS in µA for the next one (R204, R209). -/
def State.cycleRes (s : State) (sup : Nat) (m : SupplyMeas) (k : Nat) (y x : CktCycle) : CycleRes × List (Nat × Nat) :=
  let vs := s.voltSamples sup m
  let ps := s.cktPhases k
  let curve := fun p => (s.calOf sup (3 * k + p)).place (Tab.get (fun _ => 0) s.meter.raw (3 * k + p))
  let raw := fun p => x.amps.toList.getD p []
  let clips := fun p => (y.amps.toList.getD p []).any (fun v => decide (8388607 ≤ v) || decide (v ≤ -8388608))
  let amp := fun p => scaleSamples (Config.delay (raw p) (curve p).2.1 m.freq) (s.calOf sup (3 * k + p)).fs (curve p).1
  let volt := fun p => if s.threeWire k then List.zipWith (· - ·) (vs.getD p []) (vs.getD 1 []) else vs.getD p []
  let res := fun p => if ps.contains p then some (phaseRes (volt p) (amp p)) else none
  let sumI := ps.foldl (fun (t : List Int) p => if t.isEmpty then amp p else List.zipWith (· + ·) t (amp p)) []
  let ph := vs.map fundamental
  let irms := fun p => isqrt (meanProduct (scaleSamples (raw p) (s.calOf sup (3 * k + p)).fs 0) (scaleSamples (raw p) (s.calOf sup (3 * k + p)).fs 0) * 1000000000000 / 2 ^ 32).toNat
  let creep : Int := (s.rd (Reg.METER_CKT_CREEP k)).toNat
  let above := fun p => match res p with | some r => decide (creep * creep * 2 ^ 32 < r.i2 * 1000000) | none => false
  ({ phases := #v[res 0, res 1, res 2], n2 := meanProduct sumI sumI, freq := m.freq,
     pos2 := sequence2 (ph.getD 0 (0, 0)) (ph.getD 1 (0, 0)) (ph.getD 2 (0, 0)), neg2 := sequence2 (ph.getD 0 (0, 0)) (ph.getD 2 (0, 0)) (ph.getD 1 (0, 0)),
     extrap := ps.any (fun p => (curve p).2.2), clip := ps.any clips,
     noV := ps.any (fun p => s.bit (Reg.METER_SUP_STAT sup) (2 + p) && above p), locked := s.bit (Reg.METER_SUP_STAT sup) 0 },
   (List.range 3).map (fun p => (3 * k + p, irms p)))

/-- A cycle's energy in 2^−32 Wh from a mean power in 2^−32 W over n samples at 16 kHz (R202, R206). -/
def cycleEnergy (p : Int) (n : Nat) : Nat := p.natAbs * n / 57600000

/-- Every enabled phase is below CREEP_I (R206). -/
def State.creeping (s : State) (k : Nat) (c : CycleRes) : Bool :=
  let creep : Int := (s.rd (Reg.METER_CKT_CREEP k)).toNat
  c.phases.toList.all (fun r => match r with | some r => decide (r.i2 * 1000000 < creep * creep * 2 ^ 32) | none => true)

/-- The six increments of a cycle's energy registers (R206). -/
def energySteps (c : CycleRes) (n : Nat) : List Nat :=
  let sum := fun (f : PhaseRes → Int) => c.phases.toList.foldl (fun a r => a + (match r with | some r => f r | none => 0)) 0
  let pair := fun (x : Int) => if 0 ≤ x then [cycleEnergy x n, 0] else [0, cycleEnergy x n]
  pair (sum (·.p)) ++ pair (sum (·.pf)) ++ pair (sum (·.qf))

/-- A circuit's energy registered at the end of a cycle (R206). -/
def State.registerEnergy (s : State) (k : Nat) (c : CycleRes) (n : Nat) : State :=
  let quiet := s.creeping k c
  let s := s.setBit (Reg.METER_CKT_STAT k) 7 quiet
  if quiet then s
  else
    let regs := (List.range 6).foldl (fun t i => Tab.set (fun _ => 0) t (8 * k + i) (Tab.get (fun _ => 0) t (8 * k + i) + (energySteps c n).getD i 0)) s.meter.regs
    { s with meter := { s.meter with regs := regs } }

/-! ### Pulse outputs (R218) -/

/-- What an output accrues in a cycle of circuit k, in 2^−32 of its unit. -/
def State.pulseGain (s : State) (o k : Nat) (c : CycleRes) (n : Nat) : Nat :=
  let cfg := s.rd (Reg.METER_PULSE_CFG o)
  let sel := bits cfg 12 8
  if !bitOf cfg 0 || bits cfg 5 2 != k || (s.rd (Reg.METER_PULSE_K o)).toNat == 0 then 0
  else if bitOf cfg 1 then
    if 2 ≤ sel ∧ sel ≤ 7 then
      let v := (kindValue [c] (s.fullScale k) (s.cktPhases k) (bits cfg 7 6) sel).1
      (v.abs.n * 2 ^ 32 / (v.d : Int)).toNat * n * 1000 / 57600000
    else 0
  else if sel ≤ 5 ∧ !s.creeping k c then (energySteps c n).getD sel 0 * 1000
  else 0

/-- Pulses accrued by an output: PENDING up to 65,535, then OVF with an event. -/
def State.pulseAccrue (s : State) (o gain : Nat) : State :=
  if gain = 0 then s
  else
    let x := s.meter.pulses.toList.getD o { acc := 0, free := 0 }
    let k := (s.rd (Reg.METER_PULSE_K o)).toNat * 2 ^ 32
    let total := x.acc + gain
    let n := s.fld (Reg.METER_PULSE_STAT o) 15 0 + total / k
    let s := { s with meter := { s.meter with pulses := s.meter.pulses.setIfInBounds o { x with acc := total % k } } }
    let s := s.setFld (Reg.METER_PULSE_STAT o) 15 0 (min n 65535)
    if 65535 < n ∧ !s.bit (Reg.METER_PULSE_STAT o) 16 then
      (s.setBit (Reg.METER_PULSE_STAT o) 16 true).record { sev := 4, source := 0x0A, code := 218, args := [wd o] }
    else s

/-! ### Supervision (R211) -/

/-- The conditions of R211 in a cycle, in the order REVERSE, PHASE_REV of each phase, NO_V, CLIP. -/
def State.conditions (s : State) (k : Nat) (c : CycleRes) : List Bool :=
  let th : Int := (s.fld (Reg.METER_CKT_REV k) 23 0 : Nat)
  let sum := c.phases.toList.foldl (fun a r => a + (match r with | some r => r.pf | none => 0)) (0 : Int)
  [decide (sum < -(th * 2 ^ 32))] ++
    c.phases.toList.map (fun r => match r with | some r => decide (r.pf * 3 < -(th * 2 ^ 32)) && decide (0 < sum) | none => false) ++
    [c.noV, c.clip]

/-- The bit of METER_CKT_STAT of a condition. -/
def condBit (i : Nat) : Nat := i + 1

/-- The place of a condition in that order. -/
def condIndex : MeterCond → Nat
  | .reverse => 0
  | .phaseRev p => 1 + p.val
  | .noV => 4
  | .clip => 5

/-- A cycle's conditions noted: since when each holds; CLIP shows at once (R202). -/
def State.supervise (s : State) (k : Nat) (c : CycleRes) : State :=
  let cs := s.conditions k c
  let x := s.mckt k
  let x := (List.range 6).foldl (fun x i =>
    let b := cs.getD i false
    { x with since := x.since.setIfInBounds i (if b then some ((x.since.toList.getD i none).getD s.now) else none),
             held := x.held.setIfInBounds i (x.held.toList.getD i false || b) }) x
  let s := s.setMckt k x
  if c.clip then s.setBit (Reg.METER_CKT_STAT k) 6 true else s

/-- A condition that has persisted is indicated and recorded once in its episode (R211); its time is known. -/
def State.superviseNow (s : State) (k : Nat) (cond : MeterCond) : State :=
  let i := condIndex cond
  let x := s.mckt k
  match x.since.toList.getD i none with
  | none => s
  | some t =>
    if x.episode.toList.getD i false then s
    else
      let wait := if i ≤ 3 then s.fld (Reg.METER_CKT_REV k) 31 24 * secCounts else 0
      let s := s.advanceTo (t + wait)
      let s := (s.setMckt k { x with episode := x.episode.setIfInBounds i true }).setBit (Reg.METER_CKT_STAT k) (condBit i) true
      let sev : BitVec 3 := match cond with
        | .reverse => if s.bit (Reg.METER_CKT_CFG k) 6 then 4 else 5
        | .phaseRev _ => 4
        | .noV => 5
        | .clip => 3
      let kind : Nat := match cond with | .reverse => 0 | .phaseRev _ => 1 | .noV => 2 | .clip => 3
      s.record { sev := sev, source := 0x0A, code := 211, args := [wd k, wd kind, wd (if 1 ≤ i ∧ i ≤ 3 then i - 1 else 0)] }

/-- The end of an interval: an episode whose condition was absent throughout it ends. -/
def State.endEpisodes (s : State) (k : Nat) : State :=
  let x := s.mckt k
  let s := (List.range 6).foldl (fun s i => if x.held.toList.getD i false then s else s.setBit (Reg.METER_CKT_STAT k) (condBit i) false) s
  s.setMckt k { x with held := Vector.replicate 6 false, episode := Vector.ofFn (fun (i : Fin 6) => x.episode[i] && x.held[i]) }

/-! ### Quantity points (R205, R207, R212) -/

/-- The kinds computed from the fundamental phasors or from the tracked frequency (R203; log entry 35), and the power kinds (R211). -/
def fundamentalKind (kind : Nat) : Bool := [4, 5, 7, 9, 10, 11, 12, 13, 14, 15].contains kind
def powerKind (kind : Nat) : Bool := decide (3 ≤ kind) && decide (kind ≤ 7)

/-- A number in the type of a descriptor. -/
def typedWord (desc : Word) (q : Num) : Word := (Num.toTyped desc q).1

/-- The energy of a register in mWh or mvarh (R207). -/
def State.milliEnergy (s : State) (r : Nat) : Nat := s.energy r * 1000 / 2 ^ 32 % 2 ^ 64

/-- A map entry's point committed at the end of an interval (R212). Energy points wait for the merge and show RESTORED until then. -/
def State.commitQuantity (s : State) (e : Word) : State :=
  let i : PointIdx := BitVec.ofNat 14 (bits e 13 0)
  let k := bits e 17 14
  let code := bits e 19 18
  let kind := bits e 24 20
  let x := s.mckt k
  let desc := (s.point i).word 3
  let extrap := x.cycles.any (·.extrap)
  let clip := x.cycles.any (·.clip)
  let noV := x.cycles.any (·.noV)
  let unlocked := x.cycles.any (fun c => !c.locked)
  let stat := s.rd (Reg.METER_CKT_STAT k)
  let flags : Word := if extrap then 0x100 else 0
  let tail := [some (wd x.cycles.length), some (stat &&& 0xFF)]
  if 16 ≤ kind then
    if s.meter.merged then
      let v := s.milliEnergy (8 * k + (kind - 16))
      s.commitPoint i { value := some (wd v), valueHi := some (wd (v / 2 ^ 32)), level := some 0, overrange := some clip, detail := some 0, flags := flags, aux := [some 0, some 0] ++ tail }
    else
      let p := s.point i
      s.setPoint i (p.setWord 2 (putBits (p.word 2) 23 16 4))
  else
    let ps := s.cktPhases k
    let q := kindValue x.cycles (s.fullScale k) ps code kind
    let each := x.cycles.map (fun c => (kindValue [c] (s.fullScale k) ps code kind).1)
    let lo := match each with | [] => Num.zero | a :: l => l.foldl Num.min a
    let hi := match each with | [] => Num.zero | a :: l => l.foldl Num.max a
    let t := Num.toTyped desc q.1
    let power := noV && powerKind kind
    let nolock := unlocked && fundamentalKind kind
    let detail : Byte := if power then 1 else if nolock then 2 else if bitOf stat 1 && (kind == 3 || kind == 4) then 3 else 0
    let aux := if kind ≤ 13 then [some (typedWord desc lo), some (typedWord desc hi)] else [some 0, some 0]
    let level : BitVec 2 := if q.2 || power || nolock then 2 else 0
    s.commitPoint i { value := some t.1, valueHi := some 0, level := some level, overrange := some (clip || t.2), detail := some detail, flags := flags, aux := aux ++ tail }

/-- The valid entries of the quantity map. -/
def State.qmap (s : State) : List (Nat × Word) :=
  s.regs.filterMap (fun r => if Reg.METER_QMAP 0 ≤ r.1 ∧ r.1 ≤ Reg.METER_QMAP 1023 ∧ bitOf r.2 31 then some ((r.1 - Reg.METER_QMAP 0) / 4, r.2) else none)

/-- The points of a supply's circuits committed; not over a lost link (R13), nor once the power-fail order has stopped the scan (R215). -/
def State.commitQuantities (s : State) (ks : List Nat) : State :=
  if !s.meter.link || s.pwr.off then s
  else s.qmap.foldl (fun s e => if ks.contains (bits e.2 17 14) then s.commitQuantity e.2 else s) s

/-! ### A supply's line cycle -/

/-- Line cycles in an aggregation interval (R204). -/
def State.intervalCycles (s : State) (sup : Nat) : Nat := if s.bit (Reg.METER_SUP_CFG sup) 16 then 12 else 10

/-- The metered circuits of a supply. -/
def State.cktsOf (s : State) (sup : Nat) : List Nat := (List.range 16).filter (fun k => s.bit (Reg.METER_CKT_CFG k) 0 && s.cktSupply k == sup)

/-- Three channels' samples through their high-pass filters (R202), from channel `ch` on. -/
def State.highPassed (s : State) (ch : Nat) (x : Vector (List Int) 3) : State × Vector (List Int) 3 :=
  let get := fun (p : Nat) => Config.highPass (Tab.get (fun _ => []) s.meter.highPass (ch + p)) (x.toList.getD p [])
  let mem := (List.range 3).foldl (fun t p => Tab.set (fun _ => []) t (ch + p) (get p).1) s.meter.highPass
  ({ s with meter := { s.meter with highPass := mem } }, #v[(get 0).2, (get 1).2, (get 2).2])

/-- One circuit's cycle: results, energy, supervision, pulses. -/
def State.cktCycle (s : State) (sup : Nat) (m : SupplyMeas) (k : Nat) (y : CktCycle) : State :=
  let (s, x) := s.highPassed (3 * k) y.amps
  let (c, raws) := s.cycleRes sup m k y { amps := x }
  let n := (y.amps.toList.map List.length).foldl max 0
  let s := { s with meter := { s.meter with raw := raws.foldl (fun t (r : Nat × Nat) => Tab.set (fun _ => 0) t r.1 r.2) s.meter.raw } }
  let s := if c.extrap then s.incSat (Reg.METER_CKT_EXTRAP k) 31 0 else s
  let s := (s.registerEnergy k c n).supervise k c
  let s := (List.range 8).foldl (fun s o => s.pulseAccrue o (s.pulseGain o k c n)) s
  s.setMckt k { s.mckt k with cycles := (s.mckt k).cycles ++ [c] }

/-- The circuits of a supply given a cycle. -/
def State.supplyCycle (s : State) (sup : Nat) (m : SupplyMeas) (cs : List (Fin 16 × CktCycle)) : State :=
  let (s, v) := s.highPassed (48 + 3 * sup) m.volts
  let m := { m with volts := v }
  let s := s.track sup m
  cs.foldl (fun s p => if (s.cktsOf sup).contains p.1.val then s.cktCycle sup m p.1.val p.2 else s) s

/-- The end of a supply's aggregation interval (R204, R209, R211, R212). -/
def State.endInterval (s : State) (sup : Nat) : State :=
  let ks := s.cktsOf sup
  let s := ks.foldl (fun s k => s.setBit (Reg.METER_CKT_STAT k) 0 ((s.mckt k).cycles.any (·.extrap))) s
  let s := s.commitQuantities ks
  ks.foldl (fun s k => (s.endEpisodes k).setMckt k { (s.endEpisodes k).mckt k with cycles := [] }) s

/-- The SNAP bank's part of a supply copied at its boundary (R207). -/
def State.snapSupply (s : State) (sup : Nat) : State :=
  if s.meter.snapWait.toList.getD sup false then
    let next := (meterRegs.filter (fun r => s.cktSupply (r / 8) == sup)).foldl (fun t r => Tab.set (fun _ => 0) t r (s.energy r)) s.meter.snapNext
    let s := { s with meter := { s.meter with snapNext := next, snapWait := s.meter.snapWait.setIfInBounds sup false } }
    let s := if sup = 0 then (s.wr Reg.METER_SNAP_TIME_LO (s.cnt.extractLsb' 0 32)).wr Reg.METER_SNAP_TIME_HI (s.cnt.extractLsb' 32 32) else s
    if s.meter.snapWait.toList.any id then s
    else { (s.setBit Reg.METER_STAT 1 true) with meter := { s.meter with snap := s.meter.snapNext } }
  else s

/-- A calibration that waits for a supply's boundary takes effect (R210). -/
def State.calSwitch (s : State) (sup : Nat) : State :=
  match s.meter.calNext.toList.getD sup none with
  | some c => { s with meter := { s.meter with cal := s.meter.cal.setIfInBounds sup c, calNext := s.meter.calNext.setIfInBounds sup none } }
  | none => s

/-- The metering die is powered; in BATTERY its battery sequencer alone runs (R215, R216). -/
def State.meterOn (s : State) : Bool := s.hasMeter && s.meter.battery.isNone && !s.pwr.off

/-- The metering die runs: powered and enabled. -/
def State.metering (s : State) : Bool := s.meterOn && s.bit Reg.METER_CTRL 0

/-- A supply's line cycle ends (R203 to R212). -/
def State.lineCycle (s : State) (sup : Nat) (m : SupplyMeas) (cs : List (Fin 16 × CktCycle)) : State :=
  if !s.metering then s
  else
    let s := s.setBit Reg.METER_STAT 0 true
    let s := s.supplyCycle sup m cs
    let full := (s.cktsOf sup).any (fun k => decide (s.intervalCycles sup ≤ (s.mckt k).cycles.length))
    let s := if full then s.endInterval sup else s
    (s.snapSupply sup).calSwitch sup

/-! ### Calibration (R210) -/

/-- A channel's staged calibration: current channels 0 to 47, voltage channels at 48 + v. -/
def State.stagedCal (s : State) (ch : Nat) : CalCh :=
  let pair := fun (w : Word) => (signedN 16 (bits w 15 0), signedN 16 (bits w 31 16))
  if ch < 48 then
    ⟨(s.rd (Reg.METER_CAL_FS ch)).toNat, s.fld (Reg.METER_CAL_CFG ch) 2 0, (List.range 4).map (fun j => ((s.rd (Reg.METER_CAL_BP ch j)).toNat, pair (s.rd (Reg.METER_CAL_COR ch j))))⟩
  else ⟨(s.rd (Reg.METER_VCH_FS (ch - 48))).toNat, 1, [(0, pair (s.rd (Reg.METER_VCH_COR (ch - 48))))]⟩

/-- A staged set that APPLY takes: NBP 1 to 4, currents strictly increasing, no FS 0. -/
def CalCh.ok (c : CalCh) : Bool :=
  decide (1 ≤ c.nbp) && decide (c.nbp ≤ 4) && c.fs != 0 &&
    (List.range (c.nbp - 1)).all (fun j => decide ((c.bps.getD j (0, 0, 0)).1 < (c.bps.getD (j + 1) (0, 0, 0)).1))

/-- METER_CAL_CMD.APPLY (R210). -/
def State.calApply (s : State) : State :=
  if (List.range 54).all (fun ch => (s.stagedCal ch).ok) then
    let next : Tab CalCh := (List.range 54).foldl (fun t ch => Tab.set (fun _ => ⟨0, 1, []⟩) t ch (s.stagedCal ch)) []
    let latest := fun ch => match s.meter.calNext.toList.getD 0 none with | some t => Tab.get (fun _ => ⟨0, 1, []⟩) t ch | none => s.calOf 0 ch
    let mask := (List.range 54).foldl (fun n ch => if s.stagedCal ch = latest ch then n else n + 2 ^ ch) 0
    let s := { s with meter := { s.meter with calNext := Vector.replicate 2 (some next) } }
    let s := s.inc Reg.METER_CAL_GEN
    s.record { sev := 5, source := 0x0A, code := 210, args := [s.rd Reg.METER_CAL_GEN, wd mask, wd (mask / 2 ^ 32)] }
  else s.setBit Reg.METER_STAT 6 true

/-! ### The quantity map (R212) -/

/-- A write of a map entry: refused with QMAP_ERR, or taken. -/
def State.qmapWrite (s : State) (e : Nat) (v : Word) : State :=
  let a := Reg.METER_QMAP e
  let v := v &&& 0x81FFFFFF
  if !bitOf v 31 then s.wr a v
  else
    let i : PointIdx := BitVec.ofNat 14 (bits v 13 0)
    let kind := bits v 24 20
    let typ := bits ((s.point i).word 3) 3 0
    let taken := s.qmap.any (fun q => q.1 != e && bits q.2 13 0 == bits v 13 0)
    let typeOk := if 16 ≤ kind then typ == 4 else typ == 6 || typ == 5 || typ == 1
    if (s.point i).producer = 4 ∧ !taken ∧ kindDefined kind (bits v 19 18) (s.threeWire (bits v 17 14)) ∧ typeOk then s.wr a v
    else (s.wr a (setBitOf v 31 false)).setBit Reg.METER_STAT 7 true

/-- A point removed by a live switch: its map entry becomes invalid, with an event (R212). -/
def State.qmapDrop (s : State) (i : PointIdx) : State :=
  (s.qmap.filter (fun q => bits q.2 13 0 == i.toNat)).foldl (fun s q =>
    (s.setBit (Reg.METER_QMAP q.1) 31 false).record { sev := 4, source := 0x0A, code := 212, args := [wd q.1, wd i.toNat] }) s

/-! ### Snapshot and clear (R207, R217) -/

/-- METER_CTRL.SNAP: a new snapshot is taken at the supplies' next boundaries. -/
def State.snapStart (s : State) : State :=
  { (s.setBit Reg.METER_STAT 1 false) with meter := { s.meter with snapNext := [], snapWait := Vector.replicate 2 true } }

/-- The meter store erased, through the erase journal (R213, R367). -/
def State.clearStore (s : State) : State :=
  { ((s.erase (.meter 0) 0).erase (.meter 1) 0) with meter := { s.meter with areas := Vector.replicate 2 none, area := 0, used := 0, saving := none } }

/-- METER_CTRL.CLR_ALL, in DEVELOP only (R217). -/
def State.meterClear (s : State) : State :=
  if s.fld Reg.KEY_LCS 2 0 = 1 then { s.clearStore with meter := { s.clearStore.meter with regs := [], base := [] } } else s

/-! ### Saves (R213) -/

/-- The latest save: in the area in use, else in the other one. -/
def State.latestSave (s : State) : Option SaveRec :=
  match s.meter.areas[s.meter.area] with
  | some r => some r
  | none => s.meter.areas[1 - s.meter.area]

/-- A save record written to the meter store (R213): in the area in use, or where that is full in the other one, erased through the journal. -/
def State.putSave (s : State) (r : SaveRec) : State :=
  if s.meter.used < Config.meterSaves then
    { s with meter := { s.meter with areas := s.meter.areas.set s.meter.area (some r), used := s.meter.used + 1 } }
  else
    let k := 1 - s.meter.area
    { (s.erase (.meter k) 0).erased with meter := { s.meter with areas := s.meter.areas.set k (some r), area := k, used := 1 } }

/-- A register's unsaved amount. -/
def State.unsaved (s : State) (r : Nat) : Nat := s.energy r - s.meterBase r

/-- A save record is written: INTERVAL after the last one, or, once a register's unsaved amount reaches 4,096 Wh, 1 s after it. -/
def State.meterSave (s : State) : State :=
  if !s.meterOn || !s.meter.link || !s.meter.merged then s
  else
    let early := meterRegs.any (fun r => decide (4096 * 2 ^ 32 ≤ s.unsaved r))
    let due := s.meter.lastSave + (if early then 1 else s.fld Reg.METER_SAVE_CFG 11 0) * secCounts
    let s := s.advanceTo due
    { s with meter := { s.meter with saving := some (s.meter.regs, s.now), lastSave := s.now } }

/-- A save confirmed as written becomes the baseline. -/
def State.saveConfirmed (s : State) : State :=
  match s.meter.saving with
  | some x =>
    let s := (s.inc Reg.METER_SAVE_CNT).putSave { regs := x.1, copy := none }
    { s with meter := { s.meter with base := x.1, saving := none } }
  | none => s

/-- A save not confirmed within INTERVAL + 10 s. -/
def State.saveLate (s : State) : State :=
  match s.meter.saving with
  | some x =>
    let s := s.advanceTo (x.2 + (s.fld Reg.METER_SAVE_CFG 11 0 + 10) * secCounts)
    (s.setBit Reg.METER_STAT 2 true).record { sev := 4, source := 0x0A, code := 213 }
  | none => s

/-! ### Power failure and battery (R214 to R216) -/

/-- The Locket's address of a circuit's 16 bytes. -/
def energyLine (k : Nat) : Nat := 40 * 32 + 16 * k

/-- The halfword n of a circuit's unsaved fields in the Locket. -/
def State.unsavedField (s : State) (k n : Nat) : Nat :=
  (Memory.read s.locket (energyLine k + 2 * n)).toNat + 256 * (Memory.read s.locket (energyLine k + 2 * n + 1)).toNat

/-- Locket lines 40 to 47, and whether the latest save is a merge save that counts them already (R217 step 2). -/
def State.energyLines (s : State) : List Byte := Memory.readN s.locket (40 * 32) 256
def State.linesCounted (s : State) : Bool := match s.latestSave with
  | some r => r.copy == some s.energyLines
  | none => false

/-- The energy step of the power-fail order (R215): the partial line cycles are registered, and words 0 to 2 of every circuit go to the
Locket over the metering die's own path. Before the merge they add to what the Locket still holds, so that the state stays the unmerged one (R217). -/
def State.energyStep (s : State) (cut : List (Fin 2 × SupplyMeas × List (Fin 16 × CktCycle))) : State :=
  let s := if s.metering then cut.foldl (fun s c => s.supplyCycle c.1.val c.2.1 c.2.2) s else s
  let old := fun (k n : Nat) => if s.meter.merged || s.linesCounted then 0 else s.unsavedField k n
  let field := fun (k n : Nat) => min (old k n + s.unsaved (8 * k + n) / 2 ^ 29) 0xFFFF
  (List.range 16).foldl (fun t k =>
    t.locketWrite (energyLine k) ((List.range 3).flatMap (fun j => wordBytes (wd (field k (2 * j) + 65536 * field k (2 * j + 1)))))) s

/-- The battery sequencer as it starts: from the record in the Locket that no merge has taken yet. -/
def State.batteryStart (s : State) : BatSt :=
  let w := fun (k : Nat) => if s.meter.merged || s.linesCounted then (0 : Word) else bytesWord (Memory.readN s.locket (energyLine k + 12) 4)
  { BatSt.zero with charge := Vector.ofFn (fun k => bits (w k.val) 15 0 * 360000), seen := Vector.ofFn (fun k => BitVec.ofNat 3 (bits (w k.val) 18 16)),
                    time := Vector.ofFn (fun k => bits (w k.val) 31 20) }

/-- BATTERY entered, with BAT_EN and VBAT (R215). -/
def State.enterBattery (s : State) (vbat : Bool) : State :=
  let s := s.setBit Reg.METER_STAT 0 false
  if s.hasMeter && s.bit Reg.METER_CTRL 1 && vbat then { s with meter := { s.meter with battery := some s.batteryStart } } else s

/-- One second's measurement in BATTERY (R216): RMS of channels as converter counts. -/
def State.batteryMeasure (s : State) (rms : List (Fin 48 × Nat)) : State :=
  match s.meter.battery with
  | none => s
  | some b =>
    let b := if b.secs % 600 = 0 then { b with marked := Vector.replicate 16 false } else b
    let one := fun (b : BatSt) (p : Fin 48 × Nat) =>
      let k := p.1.val / 3
      let ph := p.1.val % 3
      if s.bit (Reg.METER_CKT_CFG k) 0 && (s.cktPhases k).contains ph then
        let c := s.calOf (s.cktSupply k) p.1.val
        let g := 2 ^ 32 + (c.bp 0).2.1
        let ma := isqrt (2 * (p.2 * c.fs * g.toNat) * (p.2 * c.fs * g.toNat) / ((2 ^ 23 * 2 ^ 32) * (2 ^ 23 * 2 ^ 32)))
        let b := { b with charge := b.charge.setIfInBounds k (b.charge.toList.getD k 0 + ma) }
        if (s.rd (Reg.METER_CKT_BATCFG k)).toNat < ma then
          let fresh := !b.marked.toList.getD k false
          { b with seen := b.seen.setIfInBounds k (b.seen.toList.getD k 0 ||| BitVec.ofNat 3 (2 ^ ph)), marked := b.marked.setIfInBounds k true,
                   time := b.time.setIfInBounds k (b.time.toList.getD k 0 + fresh.toNat) }
        else b
      else b
    let b := rms.foldl one b
    { s with meter := { s.meter with battery := some { b with secs := b.secs + 1 } } }

/-- Words 3 written to the Locket (R214, R216). -/
def State.batteryRecord (s : State) : State :=
  match s.meter.battery with
  | none => s
  | some b => (List.range 16).foldl (fun s k =>
      let w := wd (min (b.charge.toList.getD k 0 / 360000) 0xFFFF + 65536 * (b.seen.toList.getD k 0).toNat + 2 ^ 20 * min (b.time.toList.getD k 0) 0xFFF)
      s.locketWrite (energyLine k + 12) (wordBytes w)) s

/-- BATTERY left: its record written a last time (R216). -/
def State.leaveBattery (s : State) : State :=
  let s := s.batteryRecord
  { s with meter := { s.meter with battery := none } }

/-- The start of the metering die (R217): zeroed registers, nothing merged. -/
def State.meterStart (s : State) : State :=
  let s := s.leaveBattery
  { s with meter := { s.meter with
      regs := [], base := [], snap := [], snapNext := [], snapWait := Vector.replicate 2 false, highPass := [], raw := [], saving := none, lastSave := s.now,
      ckts := Vector.replicate 16 MeterCkt.zero, merged := false, pulses := Vector.replicate 8 { acc := 0, free := 0 } } }

/-! ### The merge (R217) -/

/-- METER_CKT_BAT with a battery record added: sums saturate, SEEN is ORed; a record with SEEN is an event (R217). -/
def State.mergeBattery (s : State) (k : Nat) : State :=
  let w := bytesWord (Memory.readN s.locket (energyLine k + 12) 4)
  let old := s.rd (Reg.METER_CKT_BAT k)
  let s := s.wr (Reg.METER_CKT_BAT k)
    (wd (min (bits old 15 0 + bits w 15 0) 0xFFFF + 65536 * bits (old ||| w) 18 16 + 2 ^ 20 * min (bits old 31 20 + bits w 31 20) 0xFFF))
  if bits w 18 16 = 0 then s else s.record { sev := 5, source := 0x0A, code := 217, args := [wd k, w] }

/-- The merge of steward firmware at start (R217), with its save confirmed. A lost Locket leaves the registers at the last save. -/
def State.meterMerge (s : State) : State :=
  if !s.hasMeter || s.meter.merged || !s.meter.link then s
  else
    let lines := s.energyLines
    let counted := s.linesCounted
    let saved := fun r => match s.latestSave with | some x => Tab.get (fun _ => 0) x.regs r | none => 0
    let add := fun r => if counted then 0 else s.unsavedField (r / 8) (r % 8) * 2 ^ 29
    let sat := !counted && meterRegs.any (fun r => s.unsavedField (r / 8) (r % 8) == 0xFFFF)
    let regs := meterRegs.foldl (fun t r => Tab.set (fun _ => 0) t r (saved r + add r + s.energy r)) []
    let s := if sat then s.setBit Reg.METER_STAT 3 true else s
    let s := if counted then s else (List.range 16).foldl State.mergeBattery s
    let s := ((s.inc Reg.METER_SAVE_CNT).putSave { regs := regs, copy := some lines }).locketWrite (40 * 32) (List.replicate 256 0)
    let s := { s with meter := { s.meter with regs := regs, base := regs, merged := true, lastSave := s.now } }
    if s.meter.link && !s.pwr.off then s.qmap.foldl (fun s e => if 16 ≤ bits e.2 24 20 then s.commitQuantity e.2 else s) s else s

/-! ### The link (R13) -/

/-- The control-to-metering link is lost: metering points take LINK_LOST and STALE. -/
def State.meterLinkLost (s : State) : State :=
  let s := { s with meter := { s.meter with link := false } }
  s.qmap.foldl (fun s e => s.setQual (BitVec.ofNat 14 (bits e.2 13 0)) 9 true) s

/-- The link returns. -/
def State.meterLinkBack (s : State) : State := { s with meter := { s.meter with link := true } }

/-! ### Pulses (R218) -/

/-- An output emits one pending pulse, once its last pulse and an off time as long have passed; not over a lost link, nor in BATTERY or OFF. -/
def State.pulseEmit (s : State) (o : Nat) : State :=
  let cfg := s.rd (Reg.METER_PULSE_CFG o)
  let n := s.fld (Reg.METER_PULSE_STAT o) 15 0
  let x := s.meter.pulses.toList.getD o { acc := 0, free := 0 }
  if !s.meterOn || !s.meter.link || n = 0 || !bitOf cfg 0 then s
  else
    let s := s.advanceTo x.free
    let w := bits cfg 20 13
    let s := { s with meter := { s.meter with pulses := s.meter.pulses.setIfInBounds o { x with free := s.now + 2 * w * msCounts } } }
    (s.setFld (Reg.METER_PULSE_STAT o) 15 0 (n - 1)).emit [wd o, wd w, wd (bits cfg 21 21)]

/-! ### Host writes -/

/-- A host write in the METER block that is not a plain register write. -/
def State.meterWrite (s : State) (a : Nat) (v : Word) : Option State :=
  if a = Reg.METER_CTRL then
    let s := s.wr a (v &&& 3)
    let s := if bitOf v 0 then s else s.setBit Reg.METER_STAT 0 false
    let s := if bitOf v 2 then s.snapStart else s
    some (if bitOf v 3 then s.meterClear else s)
  else if a = Reg.METER_SAVE_CFG then
    some (if 10 ≤ bits v 11 0 ∧ bits v 11 0 ≤ 3600 then s.wr a (v &&& 0xFFF) else s)
  else if a = Reg.METER_CAL_CMD then some (if bitOf v 0 then s.calApply else s)
  else if Reg.METER_QMAP 0 ≤ a ∧ a ≤ Reg.METER_QMAP 1023 then some (s.qmapWrite ((a - Reg.METER_QMAP 0) / 4) v)
  else if Reg.METER_CKT_CFG 0 ≤ a ∧ a < Reg.METER_CKT_CFG 16 ∧ a % 0x80 = 0x1C then some (if bitOf v 0 then s.wr (a - 4) 0 else s)
  else none

end Sys2Proof.Machine
end

