-- ==== Sys2Proof/Machine/ProgOps.lean ====
section
/-! DEFINITION. How an image is delivered, loaded, switched to and restarted (R103 to R116). -/

namespace Sys2Proof.Machine

/-! ### Delivering (R103) -/

/-- SCAN_PROG_STAT.STATE. -/
def State.progState (s : State) : Nat := s.fld Reg.SCAN_PROG_STAT 3 0

/-- STATE set, the last command carried out. -/
def State.setProg (s : State) (st : Nat) : State := (s.setFld Reg.SCAN_PROG_STAT 3 0 st).setBit Reg.SCAN_PROG_STAT 4 false

/-- SCAN_PROG_STAT.ERR set. -/
def State.progErr (s : State) (code : Nat) : State := s.setFld Reg.SCAN_PROG_STAT 12 8 code

/-- A command that is not valid in the current state (R103). -/
def State.outOfSequence (s : State) : State := s.progErr 20

/-- A refusal (R104): REFUSED, the code and the item, an event of severity 3. -/
def State.refuseImage (s : State) (code item kind : Nat) : State :=
  let s := ((s.setProg 8).progErr code).wr Reg.SCAN_PROG_DETAIL (wd (item % 65536 + kind * 65536))
  s.record { sev := 3, source := 0x04, code := 104, args := [wd code, wd item] }

/-- BEGIN (R103). Steward firmware, which delivers for a network session, leaves SESSION at 0 (DESIGN CHOICE, log entry 65). -/
def State.progBegin (s : State) (m : Master) (tenantImg : Bool) (tenant : BitVec 12) : State :=
  if [0, 1, 3, 8].contains s.progState then
    let sess := match m with | .sess n => n.val | .steward => 0
    let s := { s with scan := { s.scan with staged := [], stagedTenant := if tenantImg then some tenant else none } }
    ((s.setProg 1).progErr 0).setFld Reg.SCAN_PROG_STAT 18 16 sess
  else s.outOfSequence

/-- PUSH (R103): the piece at OFFSET staged. -/
def State.progPush (s : State) (items : List ImageItem) : State :=
  if [1, 3, 8].contains s.progState then
    let off := s.fld Reg.SCAN_PROG_OFFSET 24 0
    if 25165824 < off + s.fld Reg.SCAN_PROG_LEN 12 0 then s.progErr 1
    else State.setProg { s with scan := { s.scan with staged := Tab.set (fun _ => (0, [])) s.scan.staged off (s.fld Reg.SCAN_PROG_LEN 12 0, items) } } 1
  else s.outOfSequence

/-- CHECK begun (R103). -/
def State.progCheck (s : State) : State :=
  if [1, 3, 8].contains s.progState then (((s.setProg 2).progErr 0).wr Reg.SCAN_PROG_DETAIL 0).setBit Reg.SCAN_PROG_STAT 4 true
  else s.outOfSequence

/-- CHECK done (R104): a tenant image is always for a live switch (R110); a building image meets those rules at ARM (log entry 42). -/
def State.progChecked (s : State) : State :=
  if s.progState = 2 then
    let refusal := s.imageRefusal s.scan.stagedTenant.isSome
    let s := match imageHeader? s.stagedItems with
      | some h => if (match refusal with | some (1, _, _) => true | _ => false) then s else s.imageKeyUse h
      | none => s
    match refusal with
    | some (code, item, kind) => (if code = 1 ∧ s.formatError = some none then s.nextFree else s).refuseImage code item kind
    | none => s.setProg 3
  else s

/-- ABORT (R103). -/
def State.progAbort (s : State) : State :=
  if [6, 7].contains s.progState then s.outOfSequence
  else State.setProg { s with scan := { s.scan with staged := [], stagedTenant := none, switch := none } } 0

/-! ### Points of an image (R100, R113 to R116) -/

/-- The record of a point as an image declares it: its initial value, INIT (R100, R105). -/
def freshPoint (d : PointDecl) : Point :=
  let p := (Point.zero.setWord 3 (descWord d.desc)).setWord 2 0x10
  let p := (p.setWord 0 d.value).setWord 1 (p.hi d.valueHi)
  let p := (p.setWord 7 d.value).setWord 8 (p.hi d.valueHi)
  let p := ((p.setWord 9 d.limitLo).setWord 10 d.limitHi).setWord 11 (alarmWord d.alarm)
  ({ p with decl := some d } : Point).settleLevel

/-- A point with a value that is not initial: INIT clear, and a level at least as given until its producer's first commit (R113, R116). -/
def Point.restored (p : Point) (v h : Word) (level : BitVec 2) : Point :=
  let p := ((((p.setWord 0 v).setWord 1 (p.hi h)).setWord 7 v).setWord 8 (p.hi h))
  ({ p.setWord 2 (setBitOf (p.word 2) 4 false) with floor := level } : Point).settleLevel

/-- The retentive points of an image's layout map. -/
def retentiveLayout (l : List ImageItem) : List VarDecl := (imageVars l).filter (fun v => v.kind == .retentive)

/-- The Locket value of a retentive point whose ID, type, size and offset match the layout of the image that wrote it (R116). -/
def State.retained (s : State) (d : PointDecl) : Option (Word × Word) :=
  let var := fun (l : List VarDecl) => l.find? (fun v => v.vid == d.pid)
  match var s.scan.layout, var (retentiveLayout s.scan.current) with
  | some a, some b =>
    if bitOf d.desc 28 ∧ a.typ = b.typ ∧ a.size = b.size ∧ a.off = b.off ∧ s.scan.retentiveLost = none then
      some (bytesWord (Memory.readN s.locket (56 * 32 + b.off) 4), if b.size = 8 then bytesWord (Memory.readN s.locket (56 * 32 + b.off + 4) 4) else d.valueHi)
    else none
  | _, _ => none

/-- A declared point at a start (R113, R116): a retentive one from the Locket, else its initial value, which the Locket then holds (log
entry 42). -/
def State.startPoint (s : State) (d : PointDecl) : State :=
  match s.retained d with
  | some (v, h) => s.setPoint d.idx ((freshPoint d).restored v h 0)
  | none => (s.setPoint d.idx (freshPoint d)).retainPoint d.idx

/-- Every point of the current image at its start, and no other point; the Locket is then in the layout of that image. -/
def State.startPoints (s : State) : State :=
  let s := (imagePoints s.scan.current).foldl State.startPoint { s with points := [] }
  { s with scan := { s.scan with layout := retentiveLayout s.scan.current } }

/-! ### Memories of an image -/

/-- Pieces stored from a base address. -/
def State.storePieces (s : State) (base : Nat) (l : List (Nat × List Byte)) : State :=
  l.foldl (fun s p => s.storeAt (base + p.1) p.2) s

/-- The memory without the addresses of a space, and without their poison. -/
def State.clearSpace (s : State) (base len : Nat) : State :=
  let out := fun (a : Nat) => decide (a < base) || decide (base + len ≤ a)
  { s with scan := { s.scan with mem := s.scan.mem.filter (fun p => out p.1), poison := s.scan.poison.filter (fun p => out p.1) } }

/-- A core's instruction SRAM and region table from an image. -/
def State.placeCode (s : State) (l : List ImageItem) (c : Fin 64) : State :=
  let base := (Space.imem (coreId c)).base
  let s := (s.clearSpace base 0x10000).storePieces base (codeOf l c.val)
  { s with scan := { s.scan with coreRegions := Tab.set (fun _ => []) s.scan.coreRegions c.val (coreTable l c.val) } }

/-- A cluster's region table from an image, and the initial contents of the regions that a test picks. -/
def State.placeCluster (s : State) (l : List ImageItem) (cl : Fin 8) (pick : Region → Bool) : State :=
  let s := { s with scan := { s.scan with clusterRegions := Tab.set (fun _ => []) s.scan.clusterRegions cl.val (clusterTable l cl.val) } }
  s.storePieces (Space.cluster cl).base ((initClusterOf l cl.val).filter (fun p => (clusterTable l cl.val).any (fun r => pick r && regionHas r p.1)))

/-- The scan cores and the clusters. -/
def scanCores : List (Fin 64) := List.finRange 64
def clusters : List (Fin 8) := List.finRange 8

/-- Code, tables, STATE and cluster memory of the current image (R105, R113). -/
def State.placeImage (s : State) : State :=
  let s := scanCores.foldl (fun s c => (s.placeCode s.scan.current c).initState c) s
  clusters.foldl (fun s cl => s.placeCluster s.scan.current cl (fun _ => true)) s

/-- A lesson as a load creates it (R24, R105). -/
def Lesson.fresh (d : LessonDecl) (start : BitVec 2) : Lesson :=
  { decl := d, runsOn := d.core, phase := .idle, late := 0, lastAbandon := 0, sticky := false, start := start, bell := 0, bellTime := 0,
    deadlineAt := 0, demoted := none, exhausted := false, clrPending := false, abandonBell := 0xFFFFFFFF, shed := false, notBefore := 0, dirty := [] }

/-- A device group as an image declares it. -/
def GroupSt.fresh (g : GroupDecl) : GroupSt := { timeoutUs := g.timeoutUs, points := g.points, flights := [], lastReq := none, lastDone := none }

/-- The device groups of an image; a group that stays keeps its transactions. -/
def State.placeGroups (s : State) (l : List ImageItem) : State :=
  let groups := (imageGroups l).foldl (fun t g =>
    let x := match s.group g.num.toNat with
      | some o => { o with timeoutUs := g.timeoutUs, points := g.points }
      | none => GroupSt.fresh g
    Tab.set (fun _ => none) t g.num.toNat (some x)) ([] : Tab (Option GroupSt))
  { s with scan := { s.scan with groups := groups, owns := imageOwns l } }

/-- SCAN_PROG_ID of the current image. -/
def State.showId (s : State) : State :=
  match imageHeader? s.scan.current with
  | some h => (s.wr Reg.SCAN_PROG_ID_LO (h.imageId.extractLsb' 0 32)).wr Reg.SCAN_PROG_ID_HI (h.imageId.extractLsb' 32 32)
  | none => (s.wr Reg.SCAN_PROG_ID_LO 0).wr Reg.SCAN_PROG_ID_HI 0

/-! ### The scan stops (R112, R348) -/

/-- Every period in progress dropped without counting as late: STATE, working values and entries gone, the scan cores idle. -/
def State.dropPeriods (s : State) : State :=
  let was := (s.lessons.filter (fun p => p.2.phase != .idle)).map (·.2.decl.tenant)
  let s := (s.lessons.filter (fun p => p.2.phase != .idle)).foldl (fun s p =>
    (s.restoreState (coreId p.2.decl.core) p.2.dirty).setLesson p.1 { p.2 with phase := .idle, demoted := none, exhausted := false, dirty := [] }) s
  let cores := s.scan.cores.map (fun p => if p.1 < 64 then (p.1, { p.2 with lesson := none, stack := [], waiting := .none, clasp := none, step := false }) else p)
  let scanEntry := fun (e : Option Entry) => match e with | some x => isScan x.core | none => false
  let points := s.points.map (fun p => (p.1, { p.2 with work := Vector.replicate 16 none }))
  let keep := fun (l : List CoreId) => l.filter (fun c => !isScan c)
  let s : State := { s with
    points := points.filter (fun p => decide (p.2 ≠ Point.zero)),
    scan := { s.scan with
      cores := cores.filter (fun p => decide (p.2 ≠ Core.zero)), pool := s.scan.pool.filter (fun p => !scanEntry p.2), poolFifo := keep s.scan.poolFifo,
      claspFifo := keep s.scan.claspFifo, lockOwner := Vector.replicate 8 none, lockFifo := Vector.replicate 8 [] } }
  s.settleSlots was

/-- The bells stop and the scan with them. -/
def State.scanStop (s : State) : State := (s.dropPeriods).runStop

/-- The bells start (R25, R80). -/
def State.bellsStart (s : State) : State :=
  let s := { s with scan := { s.scan with t0 := s.cnt, rung := Vector.replicate 8 0 } }
  let s := (List.range 8).foldl (fun s k => s.wr (Reg.SCAN_BELL_CNT k) 0) s
  (s.setBit Reg.SCAN_CTRL 0 true).setBit Reg.SCAN_STAT 0 true

/-- The restart event (R113): severity 5 for a degraded start. -/
def State.restartEvent (s : State) : State :=
  let w := s.rd Reg.SCAN_RESTART_STAT
  let degraded := bits w 0 0 = 0 ∧ 3 ≤ bits w 7 4 ∧ bits w 7 4 ≤ 8
  s.record { sev := if degraded then 5 else 4, source := 0x04, code := 113, args := [wd (bits w 0 0), wd (bits w 7 4), wd (bits w 31 8)] }

/-- RUN written 1 by the Prefect (R105, R113): the start that follows a LOAD is a cold start with its event; a start after a plain stop restores
nothing, and its lessons begin with START 0b00. -/
def State.prefectRun (s : State) : State :=
  if s.bit Reg.SCAN_CTRL 0 then s
  else if s.scan.firstStart then (State.outputsUpdate (State.restartEvent { s with scan := { s.scan with firstStart := false, tilesOut := 0 } })).bellsStart
  else (s.lessons.foldl (fun s p => s.setLesson p.1 { p.2 with start := 0 }) s).bellsStart

/-! ### LOAD (R105) -/

/-- LOAD carried out. -/
def State.loadImage (s : State) : State :=
  let old := s.scan.current
  let new := s.newImage
  let removed := (imagePoints old).filter (fun d => !(imagePoints new).any (fun e => e.idx == d.idx && bits e.desc 12 10 == 4))
  let s := { s with scan := { s.scan with current := new, staged := [], stagedTenant := none, lessons := [], groups := [], firstStart := true } }
  let s := (((s.keepCheckpoints (fun _ => false)).placeImage).placeGroups new).startPoints
  let s := (imageLessons new).foldl (fun s d => s.setLesson d.num (Lesson.fresh d 1)) s
  let s := (removed.filter (fun d => bits d.desc 12 10 == 4)).foldl (fun s d => s.qmapDrop d.idx) s
  let s := { s with scan := { s.scan with retentiveLost := none } }
  State.outputsUpdate (((s.loopClear).wr Reg.SCAN_RESTART_STAT 0x90).showId.setProg 0)

/-- LOAD (R105): with the bells stopped and no lesson in its period; a tenant image is never loaded so. -/
def State.progLoad (s : State) : State :=
  if s.progState = 3 ∧ !s.bit Reg.SCAN_CTRL 0 ∧ s.lessons.all (fun p => p.2.phase == .idle) ∧ s.scan.stagedTenant = none then s.loadImage
  else s.outOfSequence

/-! ### The restart rule (R113) -/

/-- The restart as the rule decides it: the checkpoint of a warm one, and the REASON. A loss of Locket content is the reason, whatever else
holds (R116; log entry 42). -/
def State.restartRule (s : State) (cold : Bool) : Option Checkpoint × Nat :=
  let id := s.currentId
  let lost := fun (r : Nat) => match s.scan.retentiveLost with | some x => x.toNat | none => r
  if cold then (none, lost 1)
  else if s.scan.retentiveLost = some 10 then (none, 10)
  else if !s.bit Reg.SCAN_RESTART_CFG 0 then (none, lost 2)
  else match s.scan.checkpoints with
    | [] => (none, lost 3)
    | k :: _ =>
      if !k.complete then (none, lost 4)
      else if !k.digestOk then (none, lost 5)
      else if k.imageId ≠ id ∨ k.stale then (none, lost 6)
      else (some k, lost 0)

/-- The warm data of a checkpoint put back (R113): STATE in both copies, warm points at least STALE, forces. A retentive point keeps what the Locket
gave it, or its initial value (R116). -/
def State.restoreWarm (s : State) (k : Checkpoint) : State :=
  let ranges := s.warmRanges
  let s := ranges.foldl (fun s r => s.storeAt r.1 (Memory.readN k.mem r.1 r.2)) s
  let s := scanCores.foldl (fun s c => ((Tab.get (fun _ => []) s.scan.coreRegions c.val).filter (fun r => r.kind == .state)).foldl (fun s r =>
    s.storeAt ((Space.dmem (coreId c)).base + r.base) (Memory.readN s.scan.mem ((Space.committed (coreId c)).base + r.base) r.size)) s) s
  let s := k.points.foldl (fun s p =>
    let i : PointIdx := BitVec.ofNat 14 p.1
    let x := s.point i
    if x.decl.isSome && x.warm then
      let q := p.2.2.2 &&& 0x00FF3FEB
      let level := bits q 1 0
      let y := { x.setWord 2 q with plevel := if impliedLevel q x.producer < level then BitVec.ofNat 2 level else 0 }
      if x.retain then (if bitOf (x.word 2) 4 then s else s.setPoint i (y.restored (x.word 0) (x.word 1) 1))
      else s.setPoint i (y.restored p.2.1 p.2.2.1 1)
    else s) s
  k.forces.foldl (fun s f =>
    let i : PointIdx := BitVec.ofNat 14 f.1
    let x := s.point i
    s.setPoint i (((x.setWord 0 f.2.1).setWord 1 f.2.2).setWord 2 (setBitOf (x.word 2) 2 true)).settleLevel) s

/-- The scan fabric restarts (R113) from the current image, with its event; `cold` is COLD_RESTART. The bells start where `run` says so. -/
def State.restartScan (s : State) (cold run : Bool) : State :=
  let (k, reason) := s.restartRule cold
  let s := (((s.scanStop.trimCheckpoints).placeImage).startPoints).loopClear
  let s := match k with
    | some c => s.restoreWarm c
    | none => { s with scan := { s.scan with tilesOut := 0 } }
  let age := match k with
    | some c => min (s.appliedSec - c.begunAt) 0xFFFFFF
    | none => 0
  let s := s.wr Reg.SCAN_RESTART_STAT (wd ((if k.isSome then 1 else 0) + reason * 16 + age * 256))
  let s := s.lessons.foldl (fun s p => s.setLesson p.1 { p.2 with start := if k.isSome then 2 else 1, notBefore := 0 }) s
  let s := { s with scan := { s.scan with retentiveLost := none, firstStart := false } }
  let s := State.outputsUpdate s.restartEvent
  if run then s.bellsStart else s

/-- A restart command of the Prefect (R113): not between CHECK and the end of a switch. -/
def State.restartCmd (s : State) (cold : Bool) : State :=
  if 2 ≤ s.progState ∧ s.progState ≤ 7 then s.outOfSequence
  else if cold then s.restartScan true true
  else ((s.scanStop).checkpoint).restartScan false true

/-- The interval of periodic checkpoints in seconds (SCAN_CKPT_CFG): 1 to 9 taken as 10, at most 3,600. -/
def State.ckptInterval (s : State) : Nat :=
  let n := s.fld Reg.SCAN_CKPT_CFG 11 0
  if n = 0 then 0 else min (max n 10) 3600

/-! ### The live switch (R106 to R110) -/

/-- The slowest class of the affected lessons. -/
def slowestClass (l : List LessonDecl) : Nat := l.foldl (fun n d => max n d.cls.val) 0

/-- The first test of ARM that fails (R107, R108): admission and shares of the new image, then the rules of a live switch. -/
def State.armRefusal (s : State) (new : List ImageItem) : Option (Nat × Nat × Nat) :=
  let old := s.scan.current
  match s.admissionBad (imageLessons new), s.shareBad (imageLessons new), stagingBad old new (s.affectedCores old new), movedBad old new with
  | some n, _, _, _ => some (8, n, 1)
  | none, some t, _, _ => some (9, t, 4)
  | none, none, some c, _ => some (17, c, 3)
  | none, none, none, some i => some (18, i, 2)
  | _, _, _, _ => none

/-- ARM (R106, R108): the tests, then staging. -/
def State.progArm (s : State) : State :=
  let new := s.newImage
  let cls := s.fld Reg.SCAN_PROG_SWITCH 2 0
  if s.progState ≠ 3 ∨ cls < slowestClass (affectedLessons s.scan.current new) then s.outOfSequence
  else match s.armRefusal new with
    | some (code, item, kind) => s.refuseImage code item kind
    | none =>
      let bell := s.rd Reg.SCAN_PROG_SWITCH_BELL
      let sw : Switch :=
        { image := new, cls := ⟨cls % 8, Nat.mod_lt _ (by decide)⟩, bell := if bell = 0xFFFFFFFF then none else some bell, armedAt := 0,
          affected := s.affectedCores s.scan.current new, begun := false, beganAt := 0, carried := 0, initialised := 0, discarded := 0, oldMem := [] }
      (State.setProg { s with scan := { s.scan with switch := some sw } } 4).setBit Reg.SCAN_PROG_STAT 4 true

/-- The named switch bell has rung while the bells run. -/
def State.switchMissed (s : State) (w : Switch) : Bool :=
  match w.bell with
  | some n => decide (n.toNat < s.scan.rung.toList.getD w.cls.val 0)
  | none => false

/-- The staged contents copied to the staging range of each cluster, 0x0028_0000 on (R107, R108). -/
def State.copyStaged (s : State) (w : Switch) : State :=
  clusters.foldl (fun s cl =>
    s.storeAt ((Space.cluster cl).base + 0x180000) ((clusterStaged s.scan.current w.image (s.affectedCores s.scan.current w.image) cl.val).take 0x40000)) s

/-- Staging done (R108): ARMED, or the image refused with SWITCH_MISSED. -/
def State.stagingDone (s : State) : State :=
  match s.scan.switch with
  | some w =>
    if s.progState ≠ 4 then s
    else if s.switchMissed w then State.refuseImage { s with scan := { s.scan with switch := none } } 19 0 0
    else ({ s with scan := { s.scan with switch := some { w with armedAt := s.now } } }.copyStaged w).setProg 5
  | none => s

/-- A scan core has left service while a switch is armed: the tests of ARM again (the table after R109). -/
def State.rearm (s : State) : State :=
  match s.scan.switch with
  | some w =>
    if s.progState ≠ 5 then s
    else match s.armRefusal w.image with
      | some _ =>
        let n := (s.admissionBad (imageLessons w.image)).getD 0
        State.refuseImage { s with scan := { s.scan with switch := none } } 8 n 1
      | none => s
  | none => s

/-- The switch instant Ts falls on the bells that ring at a count (R106). -/
def State.switchDue (s : State) (t : Nat) : Bool :=
  match s.scan.switch with
  | some w =>
    s.progState == 5 && s.nextBell w.cls.val == t &&
      (match w.bell with
       | some n => n.toNat == s.scan.rung.toList.getD w.cls.val 0
       | none => decide (w.armedAt + msCounts ≤ t))
  | none => false

/-- What becomes of an ID of both layouts (R109): 0 copied, 1 widened, 2 initialised. -/
def carryKind (oldTyp newTyp : Nat) (oldSize newSize : Nat) : Nat :=
  if oldTyp = newTyp ∧ oldSize = newSize then 0
  else if (oldTyp = 1 ∨ oldTyp = 2) ∧ (newTyp = 3 ∨ newTyp = 4) then 1
  else 2

/-- The old variable a STATE variable takes its value from (R109): the same ID in the same cluster, with a kind that carries. -/
def carriedVar (old : List ImageItem) (v : VarDecl) : Option (VarDecl × Bool) :=
  match (imageVars old).find? (fun o => o.kind == .state && o.vid == v.vid) with
  | some o =>
    if o.core.val / 8 ≠ v.core.val / 8 then none
    else match carryKind o.typ.toNat v.typ.toNat o.size v.size with
      | 0 => some (o, false)
      | 1 => some (o, true)
      | _ => none
  | none => none

/-- The sign or zero extension of four bytes of a type. -/
def widenBytes (typ : Nat) (b : List Byte) : List Byte :=
  let w := bytesWord b
  b ++ wordBytes (if typ = 1 ∧ bitOf w 31 then 0xFFFFFFFF else 0)

/-- A point kept by ID, where its value carries over; its old declaration. -/
def keptPoint (old : List ImageItem) (d : PointDecl) : Option (PointDecl × Nat) :=
  ((imagePoints old).find? (fun q => q.pid == d.pid)).map (fun q => (q, carryKind (bits q.desc 3 0) (bits d.desc 3 0) (retainSize q) (retainSize d)))

/-- CARRIED, INITIALISED and DISCARDED of a switch (R109). -/
def switchCounts (old new : List ImageItem) : Nat × Nat × Nat :=
  let nv := (imageVars new).filter (fun v => v.kind == .state)
  let ov := (imageVars old).filter (fun v => v.kind == .state)
  let carriedP := (imagePoints new).filter (fun d => match keptPoint old d with | some (_, k) => decide (k < 2) | none => false)
  let carriedV := nv.filter (fun v => (carriedVar old v).isSome)
  (carriedV.length + carriedP.length, nv.length - carriedV.length + ((imagePoints new).length - carriedP.length),
    (ov.filter (fun o => !nv.any (fun v => v.vid == o.vid))).length +
      ((imagePoints old).filter (fun q => !(imagePoints new).any (fun d => d.pid == q.pid))).length)

/-- A kept record with the DESC, limits and ALARM_CFG of another declaration (R109), which the image's words take the poison from; the flags of
checks that are no longer enabled read 0 (R394). -/
def Point.relaid (p : Point) (d : PointDecl) : Point :=
  let p := (((p.setWord 3 (descWord d.desc)).setWord 9 d.limitLo).setWord 10 d.limitHi).setWord 11 (alarmWord d.alarm)
  let q := setBitOf (setBitOf (p.word 2) 5 (bitOf (p.word 2) 5 && bitOf d.alarm 8)) 6 (bitOf (p.word 2) 6 && bitOf d.alarm 9)
  ({ p.setWord 2 q with decl := some d, poison := p.poison &&& ~~~(0x0E08 : BitVec 16) } : Point).settleLevel

/-- A point of the new image takes its place (R109): a kept record with the new image's DESC and limits, or a new one. A force stays on a kept ID
whatever its type becomes (R99): readers then see the forced words, in the new type. -/
def State.switchPoint (s : State) (old : List ImageItem) (d : PointDecl) : State :=
  match keptPoint old d with
  | some (q, k) =>
    let p := s.point q.idx
    let ext := fun (w : Word) => if bits q.desc 3 0 = 1 ∧ bitOf w 31 then (0xFFFFFFFF : Word) else 0
    if k = 0 then s.setPoint d.idx (p.relaid d)
    else if k = 1 then (s.setPoint d.idx (((p.setWord 1 (ext (p.word 0))).setWord 8 (ext (p.word 7))).relaid d)).retainPoint d.idx
    else
      let n := freshPoint d
      let n := if p.forced then (((n.setWord 0 (p.word 0)).setWord 1 (n.hi (p.word 1))).setWord 2 (setBitOf (n.word 2) 2 true)).settleLevel else n
      (s.setPoint d.idx n).retainPoint d.idx
  | none => (s.setPoint d.idx (freshPoint d)).retainPoint d.idx

/-- A loop slot or operator whose output is a point that goes or changes owner is unbound (R136). -/
def State.unbindOutput (s : State) (i : PointIdx) : State :=
  let slots := (s.boundSlots.filter (fun p => p.2.out == i)).map (·.1)
  let s := slots.foldl (fun s n => (s.slotUnbind n).record { sev := 4, source := 0x06, code := 136, args := [wd n, wd i.toNat] }) s
  (List.range 16).foldl (fun s d =>
    match (s.oper d).bind with
    | some (o, _) =>
      if o = i then
        ((s.setOper d OperSt.zero).setOpMode d 0).record { sev := 4, source := 0x06, code := 136, args := [wd (2048 + d), wd i.toNat] }
      else s
    | none => s) s

/-- A loop slot or operator whose owner a switch has changed is unbound (R136). -/
def State.unbindMoved (s : State) (old : State) : State :=
  let owner := fun (s : State) (st : Nat) => ((s.scan.owns.find? (fun o => match o.1 with | .stage k => k.val == st | _ => false)).map (·.2)).getD 0
  let s := (s.boundSlots.filter (fun p => s.slotOwner p.1 != old.slotOwner p.1)).foldl (fun s p => s.unbindOutput p.2.out) s
  (List.range 16).foldl (fun s d => match (s.oper d).bind with
    | some (o, _) => if [3 * d, 3 * d + 1, 3 * d + 2].any (fun st => owner s st != owner old st) then s.unbindOutput o else s
    | none => s) s

/-- A point the new image does not declare is removed (R99, R108, R212, R221). -/
def State.removePoint (s : State) (i : PointIdx) : State :=
  let forced := (s.point i).forced
  let s := ((s.unbindOutput i).qmapDrop i).unbindPoint i
  let s := if forced then s.record { sev := 4, source := 0x04, code := 99, args := [wd i.toNat] } else s
  (s.setPoint i Point.zero).follow i

/-- The points of a switch whose producing lesson a test picks (R108, R109): those the new image does not declare go, also where another point takes
their index; the new image's take their place. `sel` sees the lesson of a lesson output and none for any other producer. -/
def State.switchPoints (s : State) (old new : List ImageItem) (sel : Option Nat → Bool) : State :=
  let producer := fun (d : PointDecl) => if bits d.desc 12 10 = 0 then some d.lesson else none
  let gone := fun (s : State) (i : PointIdx) (pid : Word) => match (s.point i).decl with
    | some q => if q.pid = pid then s.removePoint i else s
    | none => s
  let s := ((imagePoints old).filter (fun q => sel (producer q) && !(imagePoints new).any (fun d => d.pid == q.pid))).foldl (fun s q => gone s q.idx q.pid) s
  ((imagePoints new).filter (fun d => sel (producer d))).foldl (fun s d =>
    let s := match (s.point d.idx).decl with
      | some q => if q.pid = d.pid then s else s.removePoint d.idx
      | none => s
    let changed := (imagePoints old).any (fun q => q.idx == d.idx && q.pid == d.pid && ownerOf q != ownerOf d)
    (if changed then s.unbindOutput d.idx else s).switchPoint old d) s

/-- The core a lesson's outputs switch with: its core in the new image, else in the old one, where that core is affected. -/
def switchCore (old new : List ImageItem) (cores : List Nat) : Option Nat → Option Nat
  | none => none
  | some n =>
    let at' := fun (l : List ImageItem) => (imageLessons l).find? (fun d => d.num == n)
    match at' new, at' old with
    | some d, _ => if cores.contains d.core.val then some d.core.val else none
    | none, some d => if cores.contains d.core.val then some d.core.val else none
    | none, none => none

/-- The cores of the old lessons and variables that the new contents of a core wait for. -/
def switchSources (old new : List ImageItem) (c : Nat) : List Nat :=
  c :: ((imageVars new).filterMap (fun v => if v.kind = .state ∧ v.core.val = c then (carriedVar old v).map (fun o => o.1.core.val) else none)) ++
    ((imageLessons new).filter (fun d => d.core.val == c)).filterMap (fun d => ((imageLessons old).find? (fun o => o.num == d.num)).map (fun o => o.core.val))

/-- Step 5 (R108): the new image is current, its ID and the counts shown, the event recorded. -/
def State.switchEnd (s : State) (w : Switch) : State :=
  let oldId := s.currentId
  let newId := ((imageHeader? w.image).map (·.imageId)).getD 0
  let s := { s with scan := { s.scan with current := w.image, layout := retentiveLayout w.image, checkpoints := s.scan.checkpoints.map (fun (k : Checkpoint) => { k with stale := true }), staged := [], stagedTenant := none, switch := none } }
  let v0 : Word := wd (min w.carried 0xFFFF + min w.initialised 0xFFFF * 65536)
  let v1 : Word := wd (min w.discarded 0xFFFF + min ((s.now - w.beganAt) / usCounts) 0xFFFF * 65536)
  let s := (((s.wr Reg.SCAN_PROG_VARS0 v0).wr Reg.SCAN_PROG_VARS1 v1).showId).setProg 0
  s.record { sev := 4, source := 0x04, code := 108,
             args := [oldId.extractLsb' 0 32, oldId.extractLsb' 32 32, newId.extractLsb' 0 32, newId.extractLsb' 32 32, v0, v1] }

/-- Ts (R108 steps 1 and 2): the affected cores are held; what no affected core waits for takes its place at once; an unchanged lesson starts with
START 0b00. -/
def State.switchBegin (s : State) : State :=
  match s.scan.switch with
  | none => s
  | some w =>
    let old := s.scan.current
    let cores := s.affectedCores old w.image
    let (a, b, c) := switchCounts old w.image
    let w := { w with affected := cores, begun := true, beganAt := s.now, carried := a, initialised := b, discarded := c, oldMem := [] }
    let s := State.setProg { s with scan := { s.scan with switch := some w } } 6
    let s := s.lessons.foldl (fun s p => if lessonAffected old w.image p.1 then s else s.setLesson p.1 { p.2 with start := 0 }) s
    let s := ((s.placeGroups w.image).unbindMoved s).switchPoints old w.image (fun p => (switchCore old w.image cores p).isNone)
    if cores.isEmpty then s.switchEnd w else s

/-- The new contents of a core (R108 step 3, R109): code, tables, STATE with the values carried over, the lessons, their outputs. -/
def State.switchCoreNow (s : State) (w : Switch) (c : Fin 64) : State :=
  let old := s.scan.current
  let new := w.image
  let before := s.scan.mem
  let done := fun (o : Nat) => o != c.val && (s.affectedCores old new).contains o && !w.affected.contains o
  let read := fun (o : VarDecl) =>
    let a := (Space.committed (coreId o.core)).base + o.off
    if done o.core.val then Memory.readN w.oldMem a o.size else Memory.readN before a o.size
  let here := (Space.committed (coreId c)).base
  let w := { w with oldMem := before.foldl (fun (m : Memory) (p : Host.Cell) => if here ≤ p.1 ∧ p.1 < here + 0x40000 then Memory.write m p.1 p.2 else m) w.oldMem }
  let s := s.placeCode new c
  let cur := s.scan.current
  let s := State.initState { s with scan := { s.scan with current := new } } c
  let s := { s with scan := { s.scan with current := cur } }
  let s := ((imageVars new).filter (fun v => v.kind == .state && v.core == c)).foldl (fun s v => match carriedVar old v with
    | some (o, wide) =>
      let b := if wide then widenBytes o.typ.toNat (read o) else read o
      (s.storeAt ((Space.dmem (coreId c)).base + v.off) b).storeAt (here + v.off) b
    | none => s) s
  let cl := clusterOf (coreId c)
  let s := s.placeCluster new cl (fun r => !(clusterTable old cl.val).contains r && !(Tab.get (fun _ => []) s.scan.clusterRegions cl.val).contains r)
  let gone := s.lessons.filter (fun p => p.2.runsOn == c && !(imageLessons new).any (fun d => d.num == p.1))
  let s := { s with scan := { s.scan with lessons := gone.foldl (fun (t : Tab (Option Lesson)) (p : Nat × Lesson) => Tab.set (fun _ => none) t p.1 none) s.scan.lessons } }
  let s := ((imageLessons new).filter (fun d => d.core == c)).foldl (fun s d =>
    match s.lesson? d.num with
    | some l =>
      if lessonAffected old new d.num then s.setLesson d.num { Lesson.fresh d 3 with late := l.late, lastAbandon := l.lastAbandon, sticky := l.sticky, abandonBell := l.abandonBell }
      else s
    | none => s.setLesson d.num (Lesson.fresh d 1)) s
  let cores := s.affectedCores old new
  let s := s.switchPoints old new (fun p => switchCore old new cores p == some c.val)
  { s with scan := { s.scan with switch := some { w with affected := w.affected.filter (· != c.val) } } }

/-- The bells that rang while a core was held start its lessons (R108 step 4). -/
def State.lateBells (s : State) (w : Switch) (c : Fin 64) : State :=
  let mine := s.lessons.filter (fun p => p.2.runsOn == c && !p.2.shed && p.2.phase == .idle)
  mine.foldl (fun s p =>
    let k := s.scan.rung.toList.getD p.2.decl.cls.val 0
    let t := s.nextBell p.2.decl.cls.val - classPeriod p.2.decl.cls.val
    if 0 < k ∧ w.beganAt ≤ t then s.readyLesson p.1 p.2 (wd (k - 1)) t else s) s

/-- An affected core whose old periods have ended is given its new contents and released (R108 steps 3 and 4); the last one ends the switch. -/
def State.switchRelease (s : State) (c : Fin 64) : State :=
  match s.scan.switch with
  | none => s
  | some w =>
    let srcs := switchSources s.scan.current w.image c.val
    if !(w.begun ∧ w.affected.contains c.val) ∨ s.lessons.any (fun p => srcs.contains p.2.runsOn.val && w.affected.contains p.2.runsOn.val && p.2.phase != .idle)
    then s
    else
      let s := (s.switchCoreNow w c).lateBells w c
      let s := match s.scan.switch with
        | some w => if w.affected.isEmpty then s.switchEnd w else s
        | none => s
      s.resumeBest (coreId c)

end Sys2Proof.Machine
end

