-- ==== Sys2Proof/Machine/Bell.lean ====
section
/-! DEFINITION. A bell (R80): its count, the switch it names (R106, R108), its lessons (R81, R84), and the units that begin a cycle at it. -/

namespace Sys2Proof.Machine

/-- The count of a class moves on (R25): the first bell has count 0. -/
def State.ring (s : State) (cls : Nat) : State :=
  let k := s.scan.rung.toList.getD cls 0
  { (s.wr (Reg.SCAN_BELL_CNT cls) (wd k)) with scan := { s.scan with rung := s.scan.rung.setIfInBounds cls (k + 1) } }

/-- The named switch bell passes while staging is unfinished: SWITCH_MISSED (the table after R109). -/
def State.bellMissed (s : State) : State :=
  match s.scan.switch with
  | some w => if s.progState == 4 && s.switchMissed w then State.refuseImage { s with scan := { s.scan with switch := none } } 19 0 0 else s
  | none => s

/-- What the units of the block do at a bell of a class: slots, the point channels of the trace, at B3 the dispatch snapshot and the steward
handover, at B7 the horizon. -/
def State.unitBell (s : State) (cls : Nat) : State :=
  let s := (s.loopSettle.loopBell cls).tracePoints cls
  let s := if cls = 3 then s.dispBell.stewardHandover else s
  if cls = 7 then s.horizonBell else s

/-- One class rings at a time t (R80): the outputs of an earlier bell stand by then (R137). -/
def State.ringAt (s : State) (cls t : Nat) : State :=
  let s := (if s.now < t then s.loopLate else s).advanceTo t
  let s := if s.switchDue t then s.switchBegin else s
  let k := s.scan.rung.toList.getD cls 0
  (((s.ring cls).bellMissed).bellLessons cls (wd k) t).unitBell cls

/-- BELL (R80): the counter reaches the next bell of a class; faster classes whose bells coincide with it come first (R137). The bells are silent while
SCAN_STAT.RUNNING is 0 and without power. -/
def execBell (cls : Fin 8) (s : State) : Out :=
  if s.pwr.off || !s.bit Reg.SCAN_STAT 0 then .next s
  else
    let t := s.nextBell cls.val
    .next ((((List.range cls.val).filter (fun k => s.nextBell k == t)) ++ [cls.val]).foldl (fun s k => s.ringAt k t) s)

end Sys2Proof.Machine
end

