-- ==== Sys2Proof/Machine/BlockFloat.lean ====
section
/-! DEFINITION. Block-float instructions that touch no memory (R68 to R71). -/

namespace Sys2Proof.Machine

/-- A block-float result written (R68, R69): at T = 1 a saturated result raises BF_OVERFLOW and writes nothing; at T = 0 it sets
LS.BF_STICKY. -/
def State.bfWrite (s : State) (c : CoreId) (i : Instr) (bd : BitVec 3) (tt : Bool) (r : BReg × Bool) : Res :=
  if r.2 && tt then .exc 8 (exWord i)
  else
    let s := s.setB c bd r.1
    .done (if r.2 then s.setLs c (setBitOf (s.ls c) 12 true) else s)

/-- A block-float instruction whose result is a function of bd, ba and bb as they stand before it (R70). -/
def State.bf (s : State) (c : CoreId) (i : Instr) (bd ba bb : BitVec 3) (tt : Bool) (f : BReg → BReg → BReg → BReg × Bool) : Out :=
  s.runInstr c i true false [] (fun t => t.bfWrite c i bd tt (f (t.b c bd) (t.b c ba) (t.b c bb)))

/-- Lane products of ba and bb, formed into a register (R70: VMUL). -/
def bfMul (a b : BReg) : BReg × Bool := let (n, e) := bfProducts a b; bfResult n e

/-- bd + ba × bb, rounded once (R70: VMAC). -/
def bfMac (d a b : BReg) : BReg × Bool :=
  let (n, e) := bfProducts a b
  let x := min (d.exp - 23) e
  bfResult (List.zipWith (fun m p => m * 2 ^ (d.exp - 23 - x).toNat + p * 2 ^ (e - x).toNat) d.mants n) x

/-- One sum in lane 0, the other lanes 0 (R70: VDOT, VSUM). -/
def bfSum (n : List Int) (e : Int) : BReg × Bool := bfResult (n.foldl (· + ·) 0 :: List.replicate 7 0) e

/-- min (max d a) b lane by lane, as values (R70: VCLAMP). -/
def bfClamp (d a b : BReg) : BReg × Bool :=
  let e := min d.exp (min a.exp b.exp)
  let up := fun (r : BReg) => r.mants.map (fun m => m * 2 ^ (r.exp - e).toNat)
  bfResult (List.zipWith min (List.zipWith max (up d) (up a)) (up b)) (e - 23)

/-- The four operations that VBCAST applies (R70): 0 VADD, 1 VSUB, 2 VMUL, 3 VMAC. -/
def bfOp (op : Nat) (d a b : BReg) : BReg × Bool :=
  match op with
  | 0 => bfCombine (· + ·) a b
  | 1 => bfCombine (· - ·) a b
  | 2 => bfMul a b
  | _ => bfMac d a b

/-- VADD (R70). -/
def execVadd (c : CoreId) (bd ba bb : BitVec 3) (tt : Bool) (s : State) : Out :=
  s.bf c (.vadd c bd ba bb tt) bd ba bb tt (fun d x y => bfOp 0 d x y)

/-- VSUB (R70). -/
def execVsub (c : CoreId) (bd ba bb : BitVec 3) (tt : Bool) (s : State) : Out :=
  s.bf c (.vsub c bd ba bb tt) bd ba bb tt (fun d x y => bfOp 1 d x y)

/-- VMUL (R70). -/
def execVmul (c : CoreId) (bd ba bb : BitVec 3) (tt : Bool) (s : State) : Out :=
  s.bf c (.vmul c bd ba bb tt) bd ba bb tt (fun d x y => bfOp 2 d x y)

/-- VMAC (R70): rounded once. -/
def execVmac (c : CoreId) (bd ba bb : BitVec 3) (tt : Bool) (s : State) : Out :=
  s.bf c (.vmac c bd ba bb tt) bd ba bb tt (fun d x y => bfOp 3 d x y)

/-- VMIN (R70): values, not mantissas, are compared. -/
def execVmin (c : CoreId) (bd ba bb : BitVec 3) (tt : Bool) (s : State) : Out :=
  s.bf c (.vmin c bd ba bb tt) bd ba bb tt (fun _ x y => bfCombine min x y)

/-- VMAX (R70). -/
def execVmax (c : CoreId) (bd ba bb : BitVec 3) (tt : Bool) (s : State) : Out :=
  s.bf c (.vmax c bd ba bb tt) bd ba bb tt (fun _ x y => bfCombine max x y)

/-- VNEG (R70): −2^23 at exponent +31 saturates. -/
def execVneg (c : CoreId) (bd ba : BitVec 3) (tt : Bool) (s : State) : Out :=
  s.bf c (.vneg c bd ba tt) bd ba ba tt (fun _ x _ => bfResult (x.mants.map (fun m => -m)) (x.exp - 23))

/-- VABS (R70). -/
def execVabs (c : CoreId) (bd ba : BitVec 3) (tt : Bool) (s : State) : Out :=
  s.bf c (.vabs c bd ba tt) bd ba ba tt (fun _ x _ => bfResult (x.mants.map (fun m => (m.natAbs : Int))) (x.exp - 23))

/-- VCLAMP (R70): min (max bd ba) bb. -/
def execVclamp (c : CoreId) (bd ba bb : BitVec 3) (tt : Bool) (s : State) : Out :=
  s.bf c (.vclamp c bd ba bb tt) bd ba bb tt (fun d x y => bfClamp d x y)

/-- VDOT (R70): the sum of the products, rounded once. -/
def execVdot (c : CoreId) (bd ba bb : BitVec 3) (tt : Bool) (s : State) : Out :=
  s.bf c (.vdot c bd ba bb tt) bd ba bb tt (fun _ x y => let (n, e) := bfProducts x y; bfSum n e)

/-- VSUM (R70). -/
def execVsum (c : CoreId) (bd ba : BitVec 3) (tt : Bool) (s : State) : Out :=
  s.bf c (.vsum c bd ba tt) bd ba ba tt (fun _ x _ => bfSum x.mants (x.exp - 23))

/-- VBCAST (R70, opcode 0x31): an operation with one lane of bb in all eight lanes. -/
def execVbcast (c : CoreId) (op : BitVec 5) (lane : BitVec 3) (bd ba bb : BitVec 3) (tt : Bool) (s : State) : Out :=
  s.bf c (.vbcast c op lane bd ba bb tt) bd ba bb tt (fun d x y => bfOp op.toNat d x (y.broadcast lane.toNat))

/-- VEXT (R71): a lane as a BF24 word. -/
def execVext (c : CoreId) (ga : BitVec 4) (bd lane : BitVec 3) (s : State) : Out :=
  s.compute c (.vext c ga bd lane) ga [] (fun t => (t.b c bd).laneWord lane.toNat)

/-- A lane of value m × 2^x put into a register, and the register re-aligned under R68 (R71: VINS, VCVTF). -/
def BReg.insert (b : BReg) (lane : Nat) (m x : Int) : BReg × Bool :=
  let e := min (b.exp - 23) x
  bfResult ((b.mants.map (fun k => k * 2 ^ (b.exp - 23 - e).toNat)).set lane (m * 2 ^ (x - e).toNat)) e

/-- VINS (R71). -/
def execVins (c : CoreId) (bd : BitVec 3) (ga : BitVec 4) (lane : BitVec 3) (s : State) : Out :=
  s.runInstr c (.vins c bd ga lane) true false [ga] (fun t =>
    t.bfWrite c (.vins c bd ga lane) bd false ((t.b c bd).insert lane.toNat (bf24Mant (t.g c ga)) (bf24Exp (t.g c ga) - 23)))

/-- VGEXP (R71): the exponent, sign-extended. -/
def execVgexp (c : CoreId) (ga : BitVec 4) (bd : BitVec 3) (s : State) : Out :=
  s.compute c (.vgexp c ga bd) ga [] (fun t => wi (t.b c bd).exp)

/-- The register at a target exponent, or at the smallest above it at which every lane fits (R71: VSETE). -/
def BReg.setExp (b : BReg) (e : Int) : BReg × Bool :=
  match bfExp e b.mants (b.exp - 23) with
  | some k => (BReg.ofInts (b.mants.map (fun n => bfRound n (b.exp - 23) k)) k, false)
  | none => (BReg.ofInts (b.mants.map (fun n => satInt 24 (bfRound n (b.exp - 23) 31))) 31, true)

/-- VSETE (R71). -/
def execVsete (c : CoreId) (bd : BitVec 3) (ga : BitVec 4) (s : State) : Out :=
  s.runInstr c (.vsete c bd ga) true false [ga] (fun t =>
    t.bfWrite c (.vsete c bd ga) bd false ((t.b c bd).setExp (signedN 6 (t.g c ga).toNat)))

/-- A lane's value over 2^SCALE, rounded to nearest with ties to even (R71: VCVT); SCALE is signed, as DESC.SCALE (R29). -/
def bfToInt (m e scale : Int) : Int :=
  let x := e - 23 - scale
  if 0 ≤ x then m * 2 ^ x.toNat else divRne m (2 ^ (-x).toNat)

/-- VCVT (R71): saturation to S32 sets BF_STICKY, or raises BF_OVERFLOW at T = 1. -/
def execVcvt (c : CoreId) (ga : BitVec 4) (bd lane : BitVec 3) (scale : BitVec 6) (tt : Bool) (s : State) : Out :=
  s.runInstr c (.vcvt c ga bd lane scale tt) true false [ga] (fun t =>
    let x := bfToInt ((t.b c bd).mant lane.toNat) (t.b c bd).exp scale.toInt
    if outOfS32 x then
      if tt then .exc 8 (exWord (.vcvt c ga bd lane scale tt))
      else .done ((t.setG c ga (wi (satInt 32 x))).setLs c (setBitOf (t.ls c) 12 true))
    else .done (t.setG c ga (wi x)))

/-- VCVTF (R71): lane := s(ga) × 2^SCALE, the register re-aligned. It has no T bit: a result above exponent +31 saturates with BF_STICKY, as at
T = 0 (DESIGN CHOICE, log entry 65). -/
def execVcvtf (c : CoreId) (bd : BitVec 3) (ga : BitVec 4) (lane : BitVec 3) (scale : BitVec 6) (s : State) : Out :=
  s.runInstr c (.vcvtf c bd ga lane scale) true false [ga] (fun t =>
    t.bfWrite c (.vcvtf c bd ga lane scale) bd false ((t.b c bd).insert lane.toNat (t.g c ga).toInt scale.toInt))

/-- The comparison of one lane as values (R71: VCMP): 0 EQ, 1 LT, 2 LE. -/
def bfCond (cond : Nat) (m1 e1 m2 e2 : Int) : Bool :=
  match cond with
  | 0 => bfEq m1 e1 m2 e2
  | 1 => bfLt m1 e1 m2 e2
  | _ => bfLt m1 e1 m2 e2 || bfEq m1 e1 m2 e2

/-- VCMP (R71): bit i of ga for lane i. -/
def execVcmp (c : CoreId) (ga : BitVec 4) (bd bb cond : BitVec 3) (s : State) : Out :=
  s.compute c (.vcmp c ga bd bb cond) ga [] (fun t =>
    let x := t.b c bd
    let y := t.b c bb
    wd ((List.range 8).foldl (fun n i => if bfCond cond.toNat (x.mant i) x.exp (y.mant i) y.exp then n + 2 ^ i else n) 0))

/-- VSPLAT (R71): every lane the BF24 word in ga. -/
def execVsplat (c : CoreId) (bd : BitVec 3) (ga : BitVec 4) (s : State) : Out :=
  s.runInstr c (.vsplat c bd ga) true false [ga] (fun t =>
    t.bfWrite c (.vsplat c bd ga) bd false (bfResult (List.replicate 8 (bf24Mant (t.g c ga))) (bf24Exp (t.g c ga) - 23)))

/-- VZERO (R71): zero lanes, exponent −32. -/
def execVzero (c : CoreId) (bd : BitVec 3) (s : State) : Out :=
  s.runInstr c (.vzero c bd) true false [] (fun t => .done (t.setB c bd ⟨Vector.replicate 8 0, 32⟩))

end Sys2Proof.Machine
end

