-- ==== Sys2Proof/Machine/Branch.lean ====
section
/-! DEFINITION. Branches and jumps (R54, R55). -/

namespace Sys2Proof.Machine

/-- A branch (R54): a taken branch checks that its target is in a CODE region; one that is not taken checks nothing. -/
def State.branch (s : State) (c : CoreId) (i : Instr) (ga gb : BitVec 4) (off18 : BitVec 18) (cond : Word → Word → Bool) : Out :=
  s.runInstr c i true false [ga, gb] (fun t =>
    let target := t.pc c + wordOff off18
    if cond (t.g c ga) (t.g c gb) then
      if t.inCode c target then .jump t target else .exc 3 target
    else .done t)

/-- BEQ (R54). -/
def execBeq (c : CoreId) (ga gb : BitVec 4) (off18 : BitVec 18) (s : State) : Out :=
  s.branch c (.beq c ga gb off18) ga gb off18 (fun x y => x == y)

/-- BNE (R54). -/
def execBne (c : CoreId) (ga gb : BitVec 4) (off18 : BitVec 18) (s : State) : Out :=
  s.branch c (.bne c ga gb off18) ga gb off18 (fun x y => x != y)

/-- BLT (R54): signed. -/
def execBlt (c : CoreId) (ga gb : BitVec 4) (off18 : BitVec 18) (s : State) : Out :=
  s.branch c (.blt c ga gb off18) ga gb off18 (fun x y => x.slt y)

/-- BGE (R54): signed. -/
def execBge (c : CoreId) (ga gb : BitVec 4) (off18 : BitVec 18) (s : State) : Out :=
  s.branch c (.bge c ga gb off18) ga gb off18 (fun x y => !x.slt y)

/-- BLTU (R54): unsigned. -/
def execBltu (c : CoreId) (ga gb : BitVec 4) (off18 : BitVec 18) (s : State) : Out :=
  s.branch c (.bltu c ga gb off18) ga gb off18 (fun x y => x.ult y)

/-- BGEU (R54): unsigned. -/
def execBgeu (c : CoreId) (ga gb : BitVec 4) (off18 : BitVec 18) (s : State) : Out :=
  s.branch c (.bgeu c ga gb off18) ga gb off18 (fun x y => !x.ult y)

/-- A jump (R55): to the lesson exit of a scan core it ends the lesson after writing its link register; any other target must be a
word address in a CODE region. -/
def State.jumpTo (s : State) (c : CoreId) (i : Instr) (target : Word) (link : Option (BitVec 4)) : Res :=
  let linked := match link with
    | some gd => s.setG c gd (s.pc c + 4)
    | none => s
  if isScan c && target == 0xFFFFFFFC then linked.lendNow c i
  else if s.inCode c target then .jump linked target else .exc 3 target

/-- JAL (R55). -/
def execJal (c : CoreId) (gd : BitVec 4) (off18 : BitVec 18) (s : State) : Out :=
  s.runInstr c (.jal c gd off18) true false [gd] (fun t => t.jumpTo c (.jal c gd off18) (t.pc c + wordOff off18) (some gd))

/-- JR (R55). -/
def execJr (c : CoreId) (ga : BitVec 4) (off17 : BitVec 17) (s : State) : Out :=
  s.runInstr c (.jr c ga off17) true false [ga] (fun t => t.jumpTo c (.jr c ga off17) (t.g c ga + byteOff off17) none)

/-- JALR (R55): ga is read before gd is written. -/
def execJalr (c : CoreId) (gd ga : BitVec 4) (off17 : BitVec 17) (s : State) : Out :=
  s.runInstr c (.jalr c gd ga off17) true false [gd, ga] (fun t =>
    t.jumpTo c (.jalr c gd ga off17) (t.g c ga + byteOff off17) (some gd))

end Sys2Proof.Machine
end

