-- ==== Sys2Proof/Machine/CharmOps.lean ====
section
/-! DEFINITION. The Charm (R316 to R318). -/

namespace Sys2Proof.Machine

/-- The committed bytes of a sector. -/
def State.sector (s : State) (n : Nat) : List Byte := Memory.readN s.charm.mem (256 * n) 256

/-- A sector replaced whole. -/
def State.setSector (s : State) (n : Nat) (b : List Byte) : State := { s with charm := { s.charm with mem := Memory.writeN s.charm.mem (256 * n) (b.take 256) } }

/-- Locks of a sector: held by the RF side, by the host, asked for by the host. -/
def State.rfLocked (s : State) (n : Nat) : Bool := s.bit (Reg.CHARM_RFLOCK (n / 32)) (n % 32)
def State.hostLocked (s : State) (n : Nat) : Bool := s.bit (Reg.CHARM_HELD (n / 32)) (n % 32)
def State.lockAsked (s : State) (n : Nat) : Bool := s.bit (Reg.CHARM_LOCK (n / 32)) (n % 32)

/-- The host is granted a lock that is free (R317). -/
def State.grantLock (s : State) (n : Nat) : State :=
  if s.lockAsked n && !s.rfLocked n && !s.hostLocked n then
    { (s.setBit (Reg.CHARM_HELD (n / 32)) (n % 32) true) with charm := { s.charm with hostAt := Tab.set (fun _ => 0) s.charm.hostAt n s.now } }
  else s

/-- A host transfer carried out (R317): a read into the buffer, or a write of the whole sector. -/
def State.charmRun (s : State) (n : Nat) : State :=
  let s := if s.bit Reg.CHARM_XFER 8 then
      s.setSector n ((List.range 64).flatMap (fun i => wordBytes (s.rd (Reg.CHARM_BUF i))))
    else
      let b := s.sector n
      (List.range 64).foldl (fun s i => s.wr (Reg.CHARM_BUF i) (bytesWord (b.drop (4 * i)))) s
  { (s.wr Reg.CHARM_XFER_STAT 0) with charm := { s.charm with hostAt := Tab.set (fun _ => 0) s.charm.hostAt n s.now, waiting := none } }

/-- GO (R316, R317): DENIED, BUSY_RF while the link is lost, waiting on an RF lock, or carried out. While a transfer is in progress a GO has no
effect. -/
def State.charmGo (s : State) (m : Master) : State :=
  let n := s.fld Reg.CHARM_XFER 5 0
  let status := n = 0 ∨ 56 ≤ n
  if s.bit Reg.CHARM_XFER_STAT 0 then s
  else if s.bit Reg.CHARM_XFER 8 ∧ status ∧ ¬ (m = .steward ∧ 56 ≤ n) then s.wr Reg.CHARM_XFER_STAT 4
  else if !s.bit Reg.CHARM_STAT 2 then s.wr Reg.CHARM_XFER_STAT 2
  else if s.rfLocked n then
    { ((s.wr Reg.CHARM_XFER_STAT 1).incSat Reg.CHARM_CNT 31 16) with charm := { s.charm with waiting := some s.now } }
  else s.charmRun n

/-- A transfer that has waited 5 ms completes with BUSY_RF (R317); its time is known. -/
def State.charmTimeout (s : State) : State :=
  match s.charm.waiting with
  | some t => { ((s.advanceTo (t + 5 * msCounts)).wr Reg.CHARM_XFER_STAT 2) with charm := { s.charm with waiting := none } }
  | none => s

/-- CHARM_LOCKn written (R317): locks asked for are granted once free, the others given up. -/
def State.charmLock (s : State) (k : Nat) (v : Word) : State :=
  let s := (s.wr (Reg.CHARM_LOCK k) v).wr (Reg.CHARM_HELD k) (s.rd (Reg.CHARM_HELD k) &&& v)
  (List.range 32).foldl (fun s i => s.grantLock (32 * k + i)) s

/-- A host lock lapses 1 s after the host's last transfer to its sector (R317); its time is known. -/
def State.lockTimeout (s : State) (n : Nat) : State :=
  if s.hostLocked n then
    let s := s.advanceTo (Tab.get (fun _ => 0) s.charm.hostAt n + secCounts)
    (s.setBit (Reg.CHARM_HELD (n / 32)) (n % 32) false).setBit (Reg.CHARM_LOCK (n / 32)) (n % 32) false
  else s

/-! ### The RF side -/

/-- The file's first byte in the memory and its size (R316). -/
def charmFile (file : BitVec 16) : Option (Nat × Nat) :=
  if file = 0xE103 then some (0, 256) else if file = 0xE104 then some (256, 14080) else if file = 0xE105 then some (56 * 256, 2048) else none

/-- The sectors of a range of bytes. -/
def sectorsOf (a n : Nat) : List Nat := (List.range 64).filter (fun k => decide (256 * k < a + n) && decide (a < 256 * (k + 1)))

/-- The RF side takes the locks of the sectors a command touches, but not one the host holds. -/
def State.rfLock (s : State) (l : List Nat) : State :=
  l.foldl (fun s n => if s.hostLocked n then s else
    s.setBit (Reg.CHARM_RFLOCK (n / 32)) (n % 32) true) s

/-- What the RF side sees of a sector: its own shadow, else the committed contents. -/
def State.rfSector (s : State) (n : Nat) : List Byte :=
  match s.charm.shadows.find? (fun p => p.1 == n) with
  | some p => p.2
  | none => s.sector n

/-- An RF command opens the field and the session in CHARM_STAT; the RF side's locks run on from it. -/
def State.rfOpen (s : State) : State := { (s.setFld Reg.CHARM_STAT 1 0 3) with charm := { s.charm with rfLast := s.now } }

/-- RF writes to the NDEF file are allowed (R316). -/
def State.rfMayWrite (s : State) (file : BitVec 16) : Bool :=
  let lcs := s.fld Reg.KEY_LCS 2 0
  file == 0xE104 && (decide (lcs ≤ 2) || lcs == 4 || (lcs == 3 && s.bit Reg.CHARM_CFG 0))

/-- UPDATE BINARY (R316 to R318); `emit` shows the status word. An answer to a range outside its file is a free value (log entry 40). -/
def State.rfUpdate (s : State) (file off : BitVec 16) (b : List Byte) : State :=
  let s := s.rfOpen
  match charmFile file with
  | none => s.nextFree.emit [s.freeWord &&& 0xFFFF]
  | some (base, size) =>
    if !s.rfMayWrite file then s.emit [0x6982]
    else if size < off.toNat + b.length then s.nextFree.emit [s.freeWord &&& 0xFFFF]
    else
      let a := base + off.toNat
      let ks := sectorsOf a b.length
      if ks.any s.hostLocked then (s.incSat Reg.CHARM_CNT 15 0).emit [0x6985]
      else
        let s := s.rfLock ks
        let shadows := ks.foldl (fun l k =>
          let old := s.rfSector k
          let new := (List.range 256).map (fun i => if a ≤ 256 * k + i ∧ 256 * k + i < a + b.length then b.getD (256 * k + i - a) 0 else old.getD i 0)
          (l.filter (fun p => p.1 != k)) ++ [(k, new)]) s.charm.shadows
        ({ s with charm := { s.charm with shadows := shadows } }).emit [0x9000]

/-- READ BINARY: the bytes, and the status word. -/
def State.rfRead (s : State) (file off : BitVec 16) (n : Nat) : State :=
  let s := s.rfOpen
  match charmFile file with
  | none => s.nextFree.emit [s.freeWord &&& 0xFFFF]
  | some (base, size) =>
    if size < off.toNat + n then s.nextFree.emit [s.freeWord &&& 0xFFFF]
    else
      let a := base + off.toNat
      let s := s.rfLock (sectorsOf a n)
      s.emit (0x9000 :: (List.range n).map (fun i => wd ((if s.hostLocked ((a + i) / 256) then s.sector ((a + i) / 256) else s.rfSector ((a + i) / 256)).getD ((a + i) % 256) 0).toNat))

/-- NLEN, the first two bytes of the NDEF file. -/
def State.nlen (s : State) : Nat := (Memory.read s.charm.mem 256).toNat * 256 + (Memory.read s.charm.mem 257).toNat

/-- A sector's shadow committed whole (R318); a commit that leaves NLEN non-zero raises the CHARM interrupt. -/
def State.commitShadow (s : State) (n : Nat) (torn : Bool) : State :=
  match s.charm.shadows.find? (fun p => p.1 == n) with
  | some p =>
    let s := { s with charm := { s.charm with shadows := s.charm.shadows.filter (fun p => p.1 != n) } }
    if torn then s
    else
      let s := s.setSector n p.2
      if s.nlen = 0 then s else s.irq 8
  | none => s

/-- The RF side releases a sector: its shadow commits, a waiting host transfer runs, and a host lock is granted (R317, R318). -/
def State.rfRelease (s : State) (torn : Bool) (n : Nat) : State :=
  if !s.rfLocked n then s
  else
    let s := (s.commitShadow n torn).setBit (Reg.CHARM_RFLOCK (n / 32)) (n % 32) false
    let s := if s.charm.waiting.isSome ∧ s.fld Reg.CHARM_XFER 5 0 = n then s.charmRun n else s
    s.grantLock n

/-- The RF side lets go of a sector (R317): with DESELECT, which ends the session, or 5 ms after its last command. -/
def State.rfLetGo (s : State) (n : Nat) (deselect : Bool) : State :=
  if !s.rfLocked n then s
  else if deselect then (s.setBit Reg.CHARM_STAT 1 false).rfRelease false n
  else (s.advanceTo (s.charm.rfLast + 5 * msCounts)).rfRelease false n

/-- The field fails (R318): every shadow commits from the stored charge, but for those whose commit does not complete. -/
def State.fieldLoss (s : State) (torn : List (BitVec 6)) : State :=
  let s := s.setFld Reg.CHARM_STAT 1 0 0
  (List.range 64).foldl (fun s n => s.rfRelease (torn.contains (BitVec.ofNat 6 n)) n) s

/-- A host write of a CHARM register that is not a plain one. -/
def State.charmWrite (s : State) (m : Master) (a : Nat) (v : Word) : Option State :=
  if a = Reg.CHARM_XFER then
    let s := if s.bit Reg.CHARM_XFER_STAT 0 then s else s.wr a (v &&& 0x13F)
    some (if bitOf v 31 then s.charmGo m else s)
  else if a = Reg.CHARM_LOCK 0 then some (s.charmLock 0 v)
  else if a = Reg.CHARM_LOCK 1 then some (s.charmLock 1 v)
  else none

end Sys2Proof.Machine
end

