-- ==== Sys2Proof/Machine/Charm.lean ====
section
/-! DEFINITION. The commands of the Charm (R316 to R318). -/

namespace Sys2Proof.Machine

/-- A read of the sector in CHARM_XFER started by GO with DIR 0. -/
def execCharmRead (m : Master) (s : State) : Out := .next (s.asPrefect m (fun s => if s.bit Reg.CHARM_XFER_STAT 0 then s else (s.setBit Reg.CHARM_XFER 8 false).charmGo m))

/-- A write of the sector in CHARM_XFER started by GO with DIR 1. -/
def execCharmWrite (m : Master) (s : State) : Out := .next (s.asPrefect m (fun s => if s.bit Reg.CHARM_XFER_STAT 0 then s else (s.setBit Reg.CHARM_XFER 8 true).charmGo m))

def execCharmXferTimeout (s : State) : Out := .next s.charmTimeout

def execHostLockRequest (m : Master) (n1 : Fin 2) (v : Word) (s : State) : Out := .next (s.asPrefect m (fun s => s.charmLock n1.val v))

def execHostLockTimeout (sector : BitVec 6) (s : State) : Out := .next (s.lockTimeout sector.toNat)

def execRfUpdateBinary (file off16 : BitVec 16) (bytes : List Byte) (s : State) : Out := .next (s.rfUpdate file off16 bytes)

def execRfReadBinary (file off16 : BitVec 16) (len8 : BitVec 8) (s : State) : Out := .next (s.rfRead file off16 len8.toNat)

def execRfLockRelease (sector : BitVec 6) (deselect : Bool) (s : State) : Out := .next (s.rfLetGo sector.toNat deselect)

def execRfFieldLoss (torn : List (BitVec 6)) (s : State) : Out := .next (s.fieldLoss torn)

end Sys2Proof.Machine
end

