-- ==== Sys2Proof/Machine/Dali.lean ====
section
/-! DEFINITION. DALI lines (R235 to R241). -/

namespace Sys2Proof.Machine

/-- The valid event map entries that meet a condition on their word. -/
def State.daliEvts (s : State) (f : Word → Bool) : List Nat :=
  (s.listed (Reg.DALI_EVT 0) 1024 4).filter (fun e => bitOf (s.rd (Reg.DALI_EVT e)) 31 && f (s.rd (Reg.DALI_EVT e)))

/-- The point of an event map entry. -/
def State.daliEvtPoint (s : State) (e : Nat) : PointIdx := BitVec.ofNat 14 (s.fld (Reg.DALI_EVT e) 13 0)

/-- An event map entry's own data. -/
def State.daliEv (s : State) (e : Nat) : DaliEv := Tab.get (fun _ => DaliEv.zero) s.field.ev e

/-- An event map entry's own data replaced. -/
def State.setDaliEv (s : State) (e : Nat) (x : DaliEv) : State :=
  { s with field := { s.field with ev := Tab.set (fun _ => DaliEv.zero) s.field.ev e x } }

/-- A line in ADDRESSING or RUN loses bus power (R235); the next answer of each polled gear is a change from NO_BUS (R239). -/
def execDaliBusFail (line : Fin 16) (s : State) : Out :=
  let l := line.val
  if s.daliState l < 2 then .next s
  else
    let s := s.setFld (Reg.DALI_LINE_STAT l) 1 0 1
    let s := (s.daliEvts (fun w => bits w 17 14 == l)).foldl (fun s e =>
      (s.setDaliEv e { s.daliEv e with answer := none }).commitPoint (s.daliEvtPoint e) { level := some 3, detail := some 1 }) s
    .next (s.record { sev := 4, source := 0x0C, code := 235, args := [wd l] })

/-- Bus power returns (R235). -/
def execDaliBusReturn (line : Fin 16) (s : State) : Out :=
  let l := line.val
  if s.daliState l ≠ 1 then .next s
  else if (s.daliLine l).addressed then .next ((s.setFld (Reg.DALI_LINE_STAT l) 1 0 3).daliRefreshLine l)
  else .next (s.setFld (Reg.DALI_LINE_STAT l) 1 0 2)

/-- CMD.ADDRESS (R235, R237): a line in RUN enters ADDRESSING; a line that is OFF or has no bus power stays as it is. -/
def State.daliAddress (s : State) (l : Nat) : State := if s.daliState l = 3 then s.setFld (Reg.DALI_LINE_STAT l) 1 0 2 else s

def execDaliAddress (m : Master) (line : Fin 16) (s : State) : Out := .next (s.asPrefect m (fun s => s.daliAddress line.val))

/-- The set bits of a presence mask. -/
def popCount64 (x : BitVec 64) : Nat := ((List.range 64).filter (fun i => x.getLsbD i)).length

/-- Addressing of a line ends: counts and masks, DUP and EXCESS, then RUN with a refresh (R235, R237). -/
def execAddressingEnd (line : Fin 16) (gear dev : BitVec 64) (dup excess : Bool) (s : State) : Out :=
  let l := line.val
  if s.daliState l ≠ 2 then .next s
  else
    let s := (s.setFld (Reg.DALI_LINE_STAT l) 8 2 (popCount64 gear)).setFld (Reg.DALI_LINE_STAT l) 15 9 (popCount64 dev)
    let s := (s.setBit (Reg.DALI_LINE_STAT l) 16 dup).setBit (Reg.DALI_LINE_STAT l) 17 excess
    let s := (s.wr (Reg.DALI_LINE_GEAR_LO l) (gear.extractLsb' 0 32)).wr (Reg.DALI_LINE_GEAR_HI l) (gear.extractLsb' 32 32)
    let s := (s.wr (Reg.DALI_LINE_DEV_LO l) (dev.extractLsb' 0 32)).wr (Reg.DALI_LINE_DEV_HI l) (dev.extractLsb' 32 32)
    let s := if dup then s.record { sev := 4, source := 0x0C, code := 237, args := [wd l] } else s
    let s := s.setDaliLine l { s.daliLine l with addressed := true }
    .next ((s.setFld (Reg.DALI_LINE_STAT l) 1 0 3).daliRefreshLine l)

/-- CMD.REFRESH (R238). -/
def State.daliRefresh (s : State) (l : Nat) : State := if 2 ≤ s.daliState l then s.daliRefreshLine l else s

def execDaliRefresh (m : Master) (line : Fin 16) (s : State) : Out := .next (s.asPrefect m (fun s => s.daliRefresh line.val))

/-- A raw command of a line in progress (R238, R241). -/
def State.daliRawBusy (s : State) (l : Nat) : Bool := s.bit Reg.DALI_RAW_STAT 0 && s.fld Reg.DALI_RAW_CTRL 3 0 == l

/-- The oldest pending output command of a line in RUN goes out; a raw command of the line goes first (R238). Each of `resends`
collisions is counted, and a frame that fails after three resends counts in FRAME_ERR (R236). What is sent: line, entry, value. -/
def execDaliOutputSend (line : Fin 16) (resends : Fin 5) (s : State) : Out :=
  let l := line.val
  let x := s.daliLine l
  match x.pend with
  | [] => .next s
  | (e, v) :: rest =>
    if s.daliState l ≠ 3 ∨ s.daliRawBusy l then .next s
    else
      let s := s.setDaliLine l { x with pend := rest }
      let s := s.setFld (Reg.DALI_LINE_ERR l) 15 0 (min 0xFFFF (s.fld (Reg.DALI_LINE_ERR l) 15 0 + resends.val))
      if resends.val = 4 then .next (s.setFld (Reg.DALI_LINE_ERR l) 31 16 (s.fld (Reg.DALI_LINE_ERR l) 31 16 + 1))
      else .next (({ s with field := { s.field with sent := Tab.set (fun _ => none) s.field.sent e (some v) } }).emit [wd l, wd e, wd v])

/-- The gap of an entry's line in counts (R240). -/
def State.daliGap (s : State) (e : Nat) : Nat :=
  max 1 (s.fld (Reg.DALI_LINE_CFG (s.fld (Reg.DALI_EVT e) 17 14)) 19 10) * 10 * msCounts

/-- An event committed to its entry's point: the information, type, events merged, events without a commit of their own, and the
latest event's decoding time (R240). -/
def State.daliEvCommit (s : State) (e : Nat) (info : BitVec 10) (ityp : BitVec 8) (merged decoded : Nat) : State :=
  let x := s.daliEv e
  let s := s.setDaliEv e { x with last := some s.now, held := none, merged := 0 }
  let s := if 1 < merged then s.addSat Reg.DALI_COALESCED (merged - 1) else s
  let aux := [some (wd ityp.toNat), some (wd merged), some x.missed, some (wd (decoded % 2 ^ 32))]
  s.commitPoint (s.daliEvtPoint e) { value := some (wd info.toNat), valueHi := some 0, level := some 0, detail := some 0, flags := if 1 < merged then 0x800 else 0, aux := aux }

/-- An event of one entry: committed at once where no commit fell within the last GAP, else held as the latest (R240). -/
def State.daliEvent (s : State) (e : Nat) (info : BitVec 10) (ityp : BitVec 8) : State :=
  let x := s.daliEv e
  let quiet := match x.last with | some t => decide (t + s.daliGap e ≤ s.now) | none => true
  if quiet && x.held.isNone then s.daliEvCommit e info ityp 1 s.now
  else s.setDaliEv e { x with held := some (info, ityp, s.now), merged := x.merged + 1, missed := if x.held.isSome then x.missed + 1 else x.missed }

/-- A decoded event frame (R239, R240); in RECESS it is received only on a line with WAKE_EN, and wakes the module first (R234). -/
def execDaliEvent (line : Fin 16) (sa : BitVec 6) (inst : BitVec 5) (info : BitVec 10) (ityp : BitVec 8) (s : State) : Out :=
  let l := line.val
  if s.daliState l < 2 ∨ (s.inRecess && !s.bit Reg.DALI_CTRL (16 + l)) then .next s
  else
    let s := if s.inRecess then s.wakeRequest 3 else s
    let es := s.daliEvts (fun w => bits w 17 14 == l && bits w 23 18 == sa.toNat && bits w 28 24 == inst.toNat && bits w 30 29 == 0)
    .next (es.foldl (fun s e => s.daliEvent e info ityp) s)

/-- An entry's GAP has passed since its last commit: the held event is committed (R240). -/
def execDaliGapExpiry (entry10 : BitVec 10) (s : State) : Out :=
  let e := entry10.toNat
  let x := s.daliEv e
  match x.held, x.last with
  | some (info, ityp, t), some last => .next ((s.advanceTo (last + s.daliGap e)).daliEvCommit e info ityp x.merged t)
  | _, _ => .next s

/-- A poll of a mapped gear: committed only when the answer changes; no answer is BAD with NO_ANSWER (R239). A poll waits for the line's raw
and output commands (R238). -/
def execDaliPoll (entry10 : BitVec 10) (answer : Option (BitVec 8)) (s : State) : Out :=
  let e := entry10.toNat
  let w := s.rd (Reg.DALI_EVT e)
  let l := bits w 17 14
  let x := s.daliEv e
  if bitOf w 31 && (bits w 30 29 == 1 || bits w 30 29 == 2) && s.daliState l == 3 && s.fld (Reg.DALI_LINE_CFG l) 9 2 != 0 &&
      (s.daliLine l).pend.isEmpty && !s.daliRawBusy l && x.answer != some answer then
    let s := s.setDaliEv e { x with answer := some answer }
    match answer with
    | some a => .next (s.commitPoint (s.daliEvtPoint e) { value := some (wd a.toNat), valueHi := some 0, level := some 0, detail := some 0 })
    | none => .next (s.commitPoint (s.daliEvtPoint e) { level := some 3, detail := some 2 })
  else .next s

/-- GO (R241): ignored while a raw command is in progress; a line that cannot send answers at once. What is sent: line, frame. -/
def State.daliRawGo (s : State) : State :=
  let l := s.fld Reg.DALI_RAW_CTRL 3 0
  if s.bit Reg.DALI_RAW_STAT 0 then s
  else
    match s.daliState l with
    | 1 => s.setFld Reg.DALI_RAW_STAT 3 1 3
    | 3 => (s.setBit Reg.DALI_RAW_STAT 0 true).emit [wd l, s.rd Reg.DALI_RAW_DATA]
    | _ => s.setFld Reg.DALI_RAW_STAT 3 1 4

def execDaliRawGo (m : Master) (s : State) : Out := .next (s.asPrefect m State.daliRawGo)

/-- A raw command completes (R241): RESULT, and the backward frame where one was expected and came. -/
def execDaliRawDone (result : BitVec 3) (ans8 : BitVec 8) (s : State) : Out :=
  if s.bit Reg.DALI_RAW_STAT 0 then
    let s := (s.setBit Reg.DALI_RAW_STAT 0 false).setFld Reg.DALI_RAW_STAT 3 1 result.toNat
    .next (if result = 0 ∧ s.bit Reg.DALI_RAW_CTRL 6 then s.setFld Reg.DALI_RAW_STAT 15 8 ans8.toNat else s)
  else .next s

end Sys2Proof.Machine
end

