-- ==== Sys2Proof/Machine/EvtDbg.lean ====
section
/-! DEFINITION. Windows, flushing and reading of the event recorder (R374, R378, R395), and the debug port (R379 to R382). -/

namespace Sys2Proof.Machine

/-! ### Windows and flushing -/

/-- A rate window ends (R395): its repeats recorded with the items of the latest occurrence, and a new window; or it closes. -/
def State.windowEnd (s : State) (rule key : Nat) : State :=
  match s.evt.windows.find? (fun w => w.code == rule && w.key == key) with
  | some w =>
    let s := s.advanceTo w.due
    let others := s.evt.windows.filter (fun x => !(x.code == rule && x.key == key))
    match w.last with
    | some it =>
      let s := s.recordRep it w.count
      let again : EvWindow := { w with due := s.now + w.len, count := 0, last := none }
      { s with evt := { s.evt with windows := (s.evt.windows.filter (fun x => !(x.code == rule && x.key == key))) ++ [again] } }
    | none => { s with evt := { s.evt with windows := others } }
  | none => s

/-- The oldest unflushed record is 1 s old (R374). -/
def State.flushTimer (s : State) : State :=
  match s.evt.unflushed.head? with
  | some r => (s.advanceTo (r.stamp.toNat + secCounts)).flush
  | none => s

/-! ### The reading latch (R378) -/

/-- A record may be shown under a view (R132). -/
def State.showsRecord (s : State) (view : Option (BitVec 12)) (r : EvRec) : Bool :=
  match view with
  | none => true
  | some t => match r.tenant with
    | some x => x == t || s.granted t 8 0 (fun _ w2 => decide (bits w2 11 0 = x.toNat))
    | none => false

/-- EVT_RD_CMD taken: the latch is empty until the command completes, under the view it was given under. -/
def State.evtRead (s : State) (m : Master) (exact retained : Bool) : State :=
  let s := s.wr Reg.EVT_RD_STAT 2
  { s with evt := { s.evt with latch := none, pendingRead := some (exact, retained, s.rd Reg.EVT_RD_SEL, s.viewOf m) } }

/-- The command completes: the record, or GONE. A record in SRAM is copied from there. -/
def State.evtReadDone (s : State) : State :=
  match s.evt.pendingRead with
  | none => s
  | some (exact, retained, sel, view) =>
    let lacks := fun (l : List EvRec) (r : EvRec) => !l.any (fun x => x.seq == r.seq)
    let held := if retained then s.evt.retained
      else s.evt.retained.filter (fun r => lacks s.evt.main r && lacks s.evt.sram r) ++ s.evt.main ++ s.evt.sram.filter (lacks s.evt.main)
    let shown := held.filter (s.showsRecord view)
    let found := if exact then shown.find? (fun r => r.seq == sel)
      else match held.head? with
        | some o => shown.find? (fun r => decide ((sel - o.seq).toNat ≤ (r.seq - o.seq).toNat))
        | none => none
    let s := { s with evt := { s.evt with latch := found, pendingRead := none } }
    match found with
    | some r => s.wr Reg.EVT_RD_STAT (if s.evt.sram.any (fun x => x.seq == r.seq) then 1 else 5)
    | none => s.wr Reg.EVT_RD_STAT 8

/-! ### The debug port (R379) -/

/-- Debug is not closed (R379), and is permitted with a scope bit: 0 PEEK, 1 HALT, 2 STEWARD, 3 WRITE. -/
def State.debugOpen (s : State) : Bool := s.lcs != 5 && !s.pwr.off
def State.scope (s : State) (b : Nat) : Bool := s.debugOpen && s.bit Reg.DBG_STAT 0 && s.bit Reg.DBG_STAT 1 && s.bit Reg.DBG_STAT (3 + b)

/-- A debugger attaches or detaches. -/
def State.debugAttach (s : State) (attach : Bool) : State :=
  if !s.debugOpen ∨ s.bit Reg.DBG_STAT 0 = attach then s
  else if attach then
    let s := (s.setBit Reg.DBG_STAT 0 true).debugEvent 1
    if s.ownedLcs then s else (s.setBit Reg.DBG_STAT 1 true).setFld Reg.DBG_STAT 6 3 0xF
  else
    let s := s.debugEnd.setBit Reg.DBG_STAT 0 false
    { s with debugEnds := none }

/-- The codes of a token's check, in the order of R305 (log entry 45). -/
def State.tokenCheck (s : State) (b : List Byte) : Nat :=
  let at_ := fun i => (b.getD i 0).toNat
  let scope := bytesWord (b.drop 16)
  let dur := (bytesWord (b.drop 20)).toNat
  let alg := at_ 24
  let slot := at_ 25
  let attr := s.rd (Reg.KEY_SLOT_ATTR slot)
  let pub := (b.drop 32).take (pubLen alg)
  if s.locketLocked then 8
  else if b.length ≠ 256 ∨ bits scope 31 4 ≠ 0 ∨ dur = 0 ∨ 28800 < dur ∨ 2 < alg ∨ 31 < slot ∨ ((b.drop 26).take 6).any (· != 0) then 5
  else if (List.range 4).any (fun i => bytesWord (b.drop (4 * i)) != s.rd (Reg.DBG_NONCE i)) then 3
  else if bitOf scope 2 ∨ !(s.slotFull slot && bits attr 2 0 == 4 && bits attr 4 3 == alg && bitOf attr 10 && bitOf attr (21 + s.lcs)) then 1
  else if Config.sha256 pub ≠ s.slotKey slot then 11
  else if !Config.verify alg pub ((b.drop 160).take (sigLen alg)) (b.take 160) then 2 else 0

/-- A new nonce for tokens. -/
def State.debugNonce (s : State) : State :=
  (List.range 4).foldl (fun s i => (s.wr (Reg.DBG_NONCE i) s.freeWord).nextFree) s

/-- A token checked in COMMISSION or FIELD: its scope in force for its duration, or a refusal. -/
def State.debugCheck (s : State) (b : List Byte) : State :=
  if !s.debugOpen ∨ !s.bit Reg.DBG_STAT 0 ∨ !s.ownedLcs then s
  else
    let s := (List.range 64).foldl (fun s i => s.wr (Reg.DBG_AUTH_BUF i) (bytesWord ((b.drop (4 * i)).take 4))) s
    let code := s.tokenCheck b
    let s := (s.wr Reg.DBG_AUTH_STAT (wd code)).debugNonce
    if code = 0 then
      let s := ((s.setBit Reg.DBG_STAT 1 true).setFld Reg.DBG_STAT 6 3 (bits (bytesWord (b.drop 16)) 3 0)).debugEvent 2
      { s with debugEnds := some (s.now + (bytesWord (b.drop 20)).toNat * secCounts) }
    else s.debugEvent 3

/-- The duration of an authorisation ends. -/
def State.debugExpiry (s : State) : State :=
  match s.debugEnds with
  | some t => { (s.advanceTo t).debugEnd with debugEnds := none }
  | none => s

/-- The core a debug command names, selected. -/
def State.selectCore (s : State) (c : CoreId) : State := if s.debugOpen ∧ s.bit Reg.DBG_STAT 0 then s.wr Reg.DBG_CORE_SEL (wd c.val) else s

/-- FORCE (R382): a clasp is broken and its period abandoned; the core halts at once. -/
def State.forceHalt (s : State) (c : CoreId) : State :=
  let k := s.core c
  if k.halt = .halted then s
  else match k.clasp, k.lesson with
    | some _, some n => ((s.breakClasp c).haltCore c 4).abandon n 10
    | some _, none => (s.breakClasp c).haltCore c 4
    | none, _ => s.haltCore c 4

/-- RESUME (R381): the frozen lesson, or the next ready one. -/
def State.resumeCore (s : State) (c : CoreId) : State :=
  let k := s.core c
  if k.halt = .halted then ((s.setCore c { k with halt := .running, haltCause := 0, step := false }).preempt c).resumeBest c else s

/-- A register of a halted core written (R380): HM never. -/
def State.coreWrite (s : State) (c : CoreId) (r : Nat) (v : Word) : State :=
  if r < 16 then s.setG c (BitVec.ofNat 4 r) v
  else if r = 16 then s.setPc c v
  else if r = 17 then s.setLs c v
  else if r = 19 then s.updCtx c (fun x => { x with bell := v })
  else if 20 ≤ r ∧ r ≤ 27 then
    s.updCtx c (fun x => x.updTag (BitVec.ofNat 3 (r - 20)) (fun _ =>
      { out := bits v 5 0, done := bits v 11 6, failed := bits v 17 12, cause := BitVec.ofNat 5 (bits v 22 18) }))
  else if 28 ≤ r ∧ r ≤ 35 then
    let b : BitVec 3 := BitVec.ofNat 3 (r - 28)
    s.setB c b { s.b c b with e := BitVec.ofNat 6 (bits v 5 0) }
  else s

/-- The word a peek shows (R380): nothing of the KEY block in COMMISSION and FIELD but KEY_LCS and KEY_STAT; none over a lost link. -/
def State.debugWord (s : State) (a : Nat) : Word :=
  let b := a / 0x10000
  if (s.ownedLcs && b == 0x1A && a != Reg.KEY_LCS && a != Reg.KEY_STAT) || s.absentBlock a || a == Reg.HOST_LAST_ERR ||
      (b == 0xB && !s.bit Reg.FIELD_STAT 8) || (b == 0xA && !s.meter.link) then 0
  else s.peekWord a

/-- A peek read (R380): it wakes the module, clears nothing, and sets PEEKED over an RC field. -/
def State.peek (s : State) (a : Nat) : State :=
  if !s.scope 0 then s
  else
    let a := a / 4 * 4
    let s := if aonRegister a then s else s.wakeRequest 0
    let v := s.debugWord a
    let s := if (regSpec? a).any (fun r => r.rc != 0) then s.setBit Reg.DBG_STAT 2 true else s
    ((s.wr Reg.DBG_PEEK_ADDR (wd a)).wr Reg.DBG_PEEK_DATA v).emit [v]

end Sys2Proof.Machine
end

