-- ==== Sys2Proof/Machine/Debug.lean ====
section
/-! DEFINITION. The commands of the debug port (R379 to R382). -/

namespace Sys2Proof.Machine

def execDebugAttach (attach : Bool) (s : State) : Out := .next (s.debugAttach attach)

def execDebugAuthCheck (token : List Byte) (s : State) : Out := .next (s.debugCheck token)

def execDebugAuthExpiry (s : State) : Out := .next s.debugExpiry

/-- HALT (R381, R382). -/
def execHalt (c : CoreId) (s : State) : Out :=
  let s := s.selectCore c
  .next (if s.debugOpen ∧ s.mayHalt c then s.requestHalt c 1 else s)

/-- FORCE (R382). -/
def execForce (c : CoreId) (s : State) : Out :=
  let s := s.selectCore c
  .next (if s.debugOpen ∧ s.mayHalt c then s.forceHalt c else s)

/-- STEP (R381): the halted core may execute one instruction. -/
def execStep (c : CoreId) (s : State) : Out :=
  let s := s.selectCore c
  .next (if s.debugOpen ∧ s.mayHalt c ∧ (s.core c).halt = .halted then s.setCore c { s.core c with step := true } else s)

/-- RESUME (R381). -/
def execResume (c : CoreId) (s : State) : Out :=
  let s := s.selectCore c
  .next (if s.debugOpen ∧ s.mayHalt c then s.resumeCore c else s)

/-- CORE_REGISTER_WRITE (R380): with WRITE scope, of a halted core. -/
def execCoreRegisterWrite (c : CoreId) (rsel : BitVec 6) (v : Word) (s : State) : Out :=
  let s := s.selectCore c
  .next (if s.scope 3 ∧ (s.core c).halt = .halted then (s.wr Reg.DBG_CORE_RSEL (wd rsel.toNat)).coreWrite c rsel.toNat v else s)

def execPeek (addr : BitVec 24) (s : State) : Out := .next (s.peek addr.toNat)

end Sys2Proof.Machine
end

