-- ==== Sys2Proof/Machine/Dispatcher.lean ====
section
/-! DEFINITION. The commands of the dispatch assist unit (R182 to R191). -/

namespace Sys2Proof.Machine

/-- CALL_ADD (R183). -/
def execCallAdd (s : State) : Out := .next (s.dispFront 1)

/-- CALL_CANCEL (R183); during a cycle it waits for the next snapshot. -/
def execCallCancel (s : State) : Out := .next (if s.disp.work.isSome then s else s.dispFront 2)

/-- STOP_DONE (R183); during a cycle it waits for the next snapshot. -/
def execStopDone (s : State) : Out := .next (if s.disp.work.isSome then s else s.dispFront 3)

/-- The commit of a cycle (R184). -/
def execDispatchCommit (s : State) : Out := .next s.dispCommit

/-- A cycle not committed within 45 ms of its bell (R184). -/
def execDispatchDrop (s : State) : Out := .next s.dispDrop

/-- A write of DISP_CALL_SEL (R183). -/
def execDispatchCallLatch (m : Master) (slot8 : BitVec 8) (s : State) : Out :=
  .next (s.asPrefect m (fun s => if s.hasLift then s.callLatch slot8.toNat else s))

end Sys2Proof.Machine
end

