-- ==== Sys2Proof/Machine/EvtCmd.lean ====
section
/-! DEFINITION. The commands of the event recorder (R374, R378, R395). -/

namespace Sys2Proof.Machine

def execEventWindowEnd (rule : Nat) (key : Nat) (s : State) : Out := .next (s.windowEnd rule key)

def execEvtFlush (m : Master) (s : State) : Out := .next (s.asPrefect m State.flush)

def execFlushTimer (s : State) : Out := .next s.flushTimer

def execEvtExact (m : Master) (retained : Bool) (s : State) : Out := .next (s.throughView m (fun s => s.evtRead m true retained))

def execEvtNext (m : Master) (retained : Bool) (s : State) : Out := .next (s.throughView m (fun s => s.evtRead m false retained))

def execEvtReadDone (s : State) : Out := .next s.evtReadDone

end Sys2Proof.Machine
end

