-- ==== Sys2Proof/Machine/NetOps.lean ====
section
/-! DEFINITION. The Ethernet MACs, PRP and the riser link engine (R242 to R263). -/

namespace Sys2Proof.Machine

/-- A frame queued by steward firmware (R248, R256): for the pair, on both LANs, padded and then with a trailer of 6 bytes where it fits. -/
def State.transmit (s : State) (n : Nat) (pair : Bool) (q : BitVec 2) (len : Nat) (coll : BitVec 4) : State :=
  let s := s.emit []
  if pair && s.bit Reg.PRP_CTRL 0 && decide (n < 2) then
    let whole := max 64 len + 6
    let fits := decide (whole ≤ s.fld (Reg.NET_MAXLEN 0) 13 0) && decide (whole ≤ s.fld (Reg.NET_MAXLEN 1) 13 0)
    let s := if fits then { s with net := { s.net with prpSeq := s.net.prpSeq + 1 } } else s.incSat Reg.PRP_TX_NO_RCT 31 0
    let f : TxFrame := { q := q, len := if fits then whole else len, pair := true }
    (s.queueTx 0 f).queueTx 1 f
  else s.queueTx n { q := q, len := len, pair := false, coll := coll }

/-- THRESH against MAX_LEN: SAF (R248). -/
def State.setSaf (s : State) (n : Nat) : State :=
  s.setBit (Reg.NET_TX_THRESH n) 14 (decide (s.fld (Reg.NET_MAXLEN n) 13 0 ≤ s.fld (Reg.NET_TX_THRESH n) 13 0))

/-- A transmit underrun (R249): `emit` shows the descriptor's status UNDERRUN. The frame being sent ends, and steward firmware queues it again at
the head of its queue. -/
def State.underrun (s : State) (n : Nat) : State :=
  let s := s.incSat (Reg.NET_TX_UNDERRUN n) 31 0
  let th := s.fld (Reg.NET_TX_THRESH n) 13 0
  let mx := s.fld (Reg.NET_MAXLEN n) 13 0
  let new := if th < mx then min (th + 512) mx else th
  let s := (s.setFld (Reg.NET_TX_THRESH n) 13 0 new).setSaf n
  let k := s.mac n
  let s := match k.sending with
    | some f => if s.now < k.busy then s.setMac n { k with queue := { f with again := true } :: k.queue, sending := none, busy := s.now } else s
    | none => s
  (s.recordWindow n (60 * secCounts) { sev := 3, source := BitVec.ofNat 8 (0x10 + n), code := 249, args := [wd n, wd new] }).emit [wd n, 0xFFFE]

/-! ### Pause and gate events (R250, R251) -/

/-- A pause of some quanta received (R250). -/
def State.pauseFor (s : State) (n quanta : Nat) : State :=
  if 4 ≤ n ∨ !s.bit (Reg.NET_CTRL n) 3 then s
  else
    let asked := quanta * quantumCounts n
    let cap := s.fld (Reg.NET_PAUSE n) 15 0 * usCounts
    let s := if cap < asked then s.incSat (Reg.NET_PAUSE_CAPPED n) 31 0 else s
    let d := min asked cap
    if d = 0 then ((s.setMac n { s.mac n with pauseEnd := none }).setBit (Reg.NET_STAT n) 3 false).drainTx n
    else (s.setMac n { s.mac n with pauseEnd := some (s.now + d) }).setBit (Reg.NET_STAT n) 3 true

/-- A pause ends; its time is known. -/
def State.pauseExpiry (s : State) (n : Nat) : State :=
  match (s.mac n).pauseEnd with
  | some t => (((s.advanceTo t).setMac n { s.mac n with pauseEnd := none }).setBit (Reg.NET_STAT n) 3 false |>.emit []).drainTx n
  | none => s

/-- The next end of a run of the gate bank in operation after now. -/
def State.nextGate (s : State) (n : Nat) : Option Nat :=
  match s.operRuns n with
  | none => none
  | some (base, cycle, runs) =>
    let off := (s.now + cycle - base % cycle) % cycle
    let ends := (runs.foldl (fun (r : List Nat × Nat) x => (r.1 ++ [r.2 + x.2], r.2 + x.2)) ([], 0)).1
    (ends.find? (fun e => decide (off < e))).map (fun e => s.now + (e - off))

/-- A pending bank in operation from its start (R251). -/
def State.gateSwitch (s : State) (n : Nat) : State :=
  match (s.mac n).change with
  | some (bank, base, cycle) =>
    if base ≤ s.now then
      ((s.setMac n { s.mac n with oper := some (base, cycle), change := none }).setFld (Reg.NET_GATE_STAT n) 0 0 bank).setBit (Reg.NET_GATE_STAT n) 1 false
    else s
  | none => s

/-- A gate interval ends (R251), or a pending bank takes over, whichever is first; windows that pass with frames waiting under a pause count as
missed (R252). -/
def State.gateEntry (s : State) (n : Nat) : State :=
  let due := match s.nextGate n, (s.mac n).change with
    | some a, some c => some (min a (max s.now c.2.1))
    | some a, none => some a
    | none, some c => some (max s.now c.2.1)
    | none, none => none
  match due with
  | none => s
  | some t =>
    let open0 := fun (s : State) (f : TxFrame) => s.gateTest n f s.now == 0 || s.gateTest n f s.now == 2
    let waiting := if s.bit (Reg.NET_STAT n) 3 then (s.mac n).queue.filter (open0 s) else []
    let s := ((s.advanceTo t).gateSwitch n).emit []
    let s := if waiting.any (fun f => !open0 s f) then s.incSat (Reg.NET_GATE_MISSED n) 31 0 else s
    s.drainTx n

/-- NET_GATE_CTRL.CHANGE (R251): the admin bank takes over at the first cycle start at or after now on its base time. -/
def State.gateChange (s : State) (n : Nat) : State :=
  let base := (s.rd (Reg.NET_GATE_BASE_LO n)).toNat + 2 ^ 32 * (s.rd (Reg.NET_GATE_BASE_HI n)).toNat
  let cycle := max 1 ((s.rd (Reg.NET_GATE_CYCLE n)).toNat / 4)
  let start := if s.now ≤ base then base else base + ceilDiv (s.now - base) cycle * cycle
  (s.setMac n { s.mac n with change := some (s.fld (Reg.NET_GATE_CTRL n) 1 1, start, cycle) }).setBit (Reg.NET_GATE_STAT n) 1 true

/-! ### Energy Efficient Ethernet (R253 to R255) -/

/-- Six bytes as an address, the first on the wire most significant. -/
def macAddr (b : List Byte) : BitVec 48 := BitVec.ofNat 48 (b.take 6 |>.foldl (fun n x => n * 256 + x.toNat) 0)

/-- A big-endian halfword at an offset. -/
def half (b : List Byte) (i : Nat) : Nat := (b.getD i 0).toNat * 256 + (b.getD (i + 1) 0).toNat

/-- The transmit wake time in use while EEE is agreed (R253): the larger of TW and the partner's request. -/
def State.settleTw (s : State) (n : Nat) : State :=
  s.setFld (Reg.NET_EEE_STAT n) 15 0
    (if s.bit (Reg.NET_STAT n) 5 then max (s.fld (Reg.NET_EEE_CFG n) 15 0) (s.fld (Reg.NET_EEE_STAT n) 31 16) else 0)

/-- The partner's requested wake time in the TLVs of an LLDP frame (IEEE 802.3 clause 79, PRESUMED: log entry 36): the receive Tw of the EEE TLV. -/
def lldpWake : Nat → List Byte → Option Nat
  | 0, _ => none
  | k + 1, b =>
    let len := half b 0 % 512
    if half b 0 / 512 = 0 then none
    else if half b 0 / 512 = 127 ∧ (b.drop 2).take 4 = [0x00, 0x12, 0x0F, 0x05] then some (half b 8)
    else lldpWake k (b.drop (2 + len))

/-- An LLDP frame on LAN A or B: the partner's request (R253). -/
def State.lldpReceive (s : State) (n : Nat) (b : List Byte) : State :=
  if macAddr b = 0x0180C200000E#48 ∧ half b 12 = 0x88CC then
    match lldpWake b.length (b.drop 14) with
    | some tw => (s.setFld (Reg.NET_EEE_STAT n) 31 16 tw).settleTw n
    | none => s
  else s

/-- LPI_IDLE expires, that long after the last frame has left: low-power idle asserted, or cancelled by a frame queued before the commit point.
The sleep lasts 182 µs to 202 µs, a free value (log entry 2). -/
def State.lpiEntry (s : State) (n : Nat) : State :=
  if decide (2 ≤ n) || !s.macUp n || !s.bit (Reg.NET_CTRL n) 4 || !s.bit (Reg.NET_STAT n) 5 || s.bit (Reg.NET_STAT n) 1 then s
  else if !(s.mac n).queue.isEmpty then ((s.incSat (Reg.NET_LPI_ABORTS n) 31 0).emit []).drainTx n
  else
    let ts := (182 + s.freeWord.toNat % 21) * usCounts
    let s := s.advanceTo ((s.mac n).busy + s.fld (Reg.NET_EEE_CFG n) 31 16 * usCounts)
    ((s.nextFree.setMac n { s.mac n with lpiAt := some (s.now, ts) }).setBit (Reg.NET_STAT n) 1 true)

/-- The wake of a MAC in low-power idle: TW after the sleep has ended. -/
def State.lpiWake (s : State) (n : Nat) : State :=
  match (s.mac n).lpiAt with
  | none => s
  | some (t, ts) =>
    let tw := max (s.fld (Reg.NET_EEE_CFG n) 15 0) (s.fld (Reg.NET_EEE_STAT n) 15 0) * usCounts
    let s := (s.advanceTo (max s.now (t + ts))).advanceTo (max s.now (t + ts) + tw)
    (((s.setMac n { s.mac n with lpiAt := none }).setBit (Reg.NET_STAT n) 1 false).emit []).drainTx n

/-! ### PRP (R256 to R258) -/

/-- A LAN's state in PRP_STAT changed, with its event (R258). -/
def State.setLan (s : State) (lan : Nat) (ok : Bool) : State :=
  if s.bit Reg.PRP_STAT lan == ok then s
  else (s.setBit Reg.PRP_STAT lan ok).record { sev := if ok then 3 else 4, source := 0x18, code := 258, args := [wd lan] }

/-- The redundancy control trailer of a frame, where it is valid (IEC 62439-3, PRESUMED: log entry 36): SEQ and the LAN identifier. -/
def rct (b : List Byte) : Option (BitVec 16 × Nat) :=
  let n := b.length
  let body := if half b 12 = 0x8100 then 18 else 14
  let w := half b (n - 8)
  if n < 24 ∨ half b (n - 6) ≠ 0x88FB then none
  else if w % 4096 + body + 4 = n ∧ (w / 4096 = 0xA ∨ w / 4096 = 0xB) then some (BitVec.ofNat 16 (half b (n - 10)), w / 4096) else none

/-- An unmatched entry leaves the duplicate table (R258). -/
def State.countUnique (s : State) (e : PrpEntry) : State := s.incSat (if e.lan = 0 then Reg.PRP_UNIQUE_A else Reg.PRP_UNIQUE_B) 31 0

/-- The duplicate discard of R257; the flag says that the frame is discarded. -/
def State.dupCheck (s : State) (src : BitVec 48) (seq : BitVec 16) (lan : Fin 2) : State × Bool :=
  let fresh := fun (e : PrpEntry) => decide (s.now - e.time < s.fld Reg.PRP_FORGET 15 0 * msCounts)
  let hit := s.net.dups.find? (fun e => e.src == src && e.seq == seq)
  match hit with
  | some e =>
    if e.lan ≠ lan ∧ fresh e then
      ({ (s.incSat Reg.PRP_DUP 31 0) with net := { s.net with dups := s.net.dups.erase e } }, true)
    else (insert s, false)
  | none => (insert s, false)
where
  /-- The frame's entry put in, in place of one with its key, the oldest evicted first from a full table. -/
  insert (s : State) : State :=
    let fresh := fun (e : PrpEntry) => decide (s.now - e.time < s.fld Reg.PRP_FORGET 15 0 * msCounts)
    let s := match s.net.dups with
      | e :: rest =>
        if 4096 ≤ s.net.dups.length then
          let s := s.countUnique e
          let s := if fresh e then s.incSat Reg.PRP_EVICT 31 0 else s
          { s with net := { s.net with dups := rest } }
        else s
      | [] => s
    let mine := fun (e : PrpEntry) => e.src == src && e.seq == seq
    let s := (s.net.dups.filter mine).foldl State.countUnique s
    { s with net := { s.net with dups := s.net.dups.filter (fun e => !mine e) ++ [{ src := src, seq := seq, lan := lan, time := s.now }] } }

/-- NODES brought up to date. -/
def State.nodeCount (s : State) : State := s.setFld Reg.PRP_STAT 16 8 s.net.nodes.length

/-- A supervision frame received on a LAN (R256, R258): the node table of 256 entries, and the LAN's return. -/
def State.supervision (s : State) (src : BitVec 48) (lan : Nat) : State :=
  let nodes := if s.net.nodes.any (fun x => x.addr == src) then
      s.net.nodes.map (fun x => if x.addr == src then { x with heard := x.heard.setIfInBounds lan (some s.now) } else x)
    else if s.net.nodes.length < 256 then s.net.nodes ++ [{ addr := src, heard := (Vector.replicate 2 none).setIfInBounds lan (some s.now) }]
    else s.net.nodes
  ({ s with net := { s.net with nodes := nodes } }.nodeCount).setLan lan true

/-- A frame as it is delivered: without its trailer where duplicates are discarded (R256). -/
def State.prpBytes (s : State) (n : Nat) (b : List Byte) : List Byte :=
  if n < 2 ∧ s.bit Reg.PRP_CTRL 0 ∧ s.bit Reg.PRP_CTRL 1 ∧ (rct b).isSome then b.take (b.length - 10) ++ b.drop (b.length - 4) else b

/-- A frame of LAN A or B past its checks: duplicates discarded (R257); the flag says that it is delivered. -/
def State.prpReceive (s : State) (n : Nat) (b : List Byte) : State × Bool :=
  if !s.bit Reg.PRP_CTRL 0 then (s, true)
  else
    let lan : Fin 2 := if n = 0 then 0 else 1
    let src := macAddr (b.drop 6)
    let s := if macAddr b / 256 = 0x01154E0001#48 ∧ half b 12 = 0x88FB then s.supervision src n else s
    match rct b with
    | none => (s, true)
    | some (seq, id) =>
      let s := s.incSat (if n = 0 then Reg.PRP_RX_A else Reg.PRP_RX_B) 31 0
      let s := if id = 0xA + n then s else s.incSat (if n = 0 then Reg.PRP_ERR_WRONG_LAN_A else Reg.PRP_ERR_WRONG_LAN_B) 31 0
      if s.bit Reg.PRP_CTRL 1 then
        let (s, drop) := s.dupCheck src seq lan
        (s, !drop)
      else (s, true)

/-- A node not heard for NODE_FORGET is removed; its time is known. -/
def State.nodeForget (s : State) (node : BitVec 48) : State :=
  match s.net.nodes.find? (fun x => x.addr == node) with
  | none => s
  | some x =>
    let last := x.heard.toList.foldl (fun m t => max m (t.getD 0)) 0
    let s := s.advanceTo (last + s.fld Reg.PRP_CFG 31 16 * secCounts)
    { s with net := { s.net with nodes := s.net.nodes.filter (fun x => x.addr != node) } }.nodeCount

/-- A supervision frame of a node has arrived on a LAN within a time. -/
def State.heardIn (s : State) (lan d : Nat) (x : PrpNode) : Bool :=
  match (x.heard.toList[lan]?).join with
  | some t => decide (s.now < t + d)
  | none => false

/-- A LAN on which no supervision frame has arrived for 3 × LIFE_CHECK, while frames of nodes once heard on it arrive on the other LAN, is
lost (R258). -/
def State.lanLoss (s : State) (lan : Nat) : State :=
  let d := 3 * s.fld Reg.PRP_CFG 15 0 * msCounts
  let missed := fun (x : PrpNode) => ((x.heard.toList[lan]?).join).isSome && s.heardIn (1 - lan) d x
  if s.net.nodes.any (s.heardIn lan d) then s
  else if s.net.nodes.any missed then s.setLan lan false
  else s

/-- A supervision frame sent on both LANs every LIFE_CHECK (R256). -/
def State.superviseOut (s : State) : State :=
  if !s.bit Reg.PRP_CTRL 0 || !s.bit Reg.PRP_CTRL 2 then s
  else
    let s := (s.advanceTo s.net.lifeAt).emit []
    let s := { s with net := { s.net with lifeAt := s.now + s.fld Reg.PRP_CFG 15 0 * msCounts } }
    let f : TxFrame := { q := 3, len := 70, pair := true }
    (s.queueTx 0 f).queueTx 1 f

/-! ### The riser (R259 to R261) -/

/-- A riser port's UP or DOWN with its event and count (R261). -/
def State.setRiser (s : State) (p : Nat) (up : Bool) : State :=
  let n := p + 2
  if s.bit (Reg.NET_T1L_STAT n) 4 == up then s
  else
    let s := s.setBit (Reg.NET_T1L_STAT n) 4 up
    let s := if up then s else s.incSat (Reg.NET_RISER_DOWN_CNT n) 31 0
    let s := s.record { sev := if up then 3 else 4, source := BitVec.ofNat 8 (0x10 + n), code := 261, args := [wd p, wd (s.pwr.recess.gone.toList.getD p false).toNat] }
    let s := s.settleSource
    if p ≠ 0 then s else if up then s.riserCameUp else s.riserWentDown

/-- A HELLO received: the port is UP (R261), and a neighbour that was asleep is awake (R346). -/
def State.helloReceive (s : State) (p : Nat) : State :=
  let s := { s with net := { s.net with helloRx := s.net.helloRx.setIfInBounds p (some s.now) } }
  let r := s.pwr.recess
  let s := { s with pwr := { s.pwr with recess := { r with gone := r.gone.setIfInBounds p false, waking := r.waking.setIfInBounds p none } } }
  s.setRiser p true

/-- Nanoseconds of an applied time in three words of a TIME frame. -/
def frameNs (b : List Byte) : Int :=
  let w := fun (i : Nat) => ((bytesWord (b.drop (4 * i))).toNat : Int)
  (w 1 + 2 ^ 32 * w 2) * 1000000000 + w 0

/-- A TIME frame received on a port (R282): kept with its time; where it answers one of this module's, the link delay ((t4 - t1) - (t3 - t2)) / 2
and the offset from the neighbour. -/
def State.timeReceive (s : State) (p : Nat) (b : List Byte) : State :=
  let t4 : Int := (s.time.ofsSec.toNat * 1000000000 + s.time.ofsNs + 4 * s.now : Nat)
  let t3 := frameNs b
  let t2 := frameNs (b.drop 16)
  let t1 := frameNs (b.drop 28)
  let delay := ((t4 - t1) - (t3 - t2)) / 2
  let ex := if t1 = 0 then s.net.timeEx.toList.getD p none else some (delay, t4 - t3 - delay)
  State.settleSource { s with net := { s.net with timeRx := s.net.timeRx.setIfInBounds p (some (b, s.now)), timeEx := s.net.timeEx.setIfInBounds p ex } }

/-- A riser frame (R260); the flag says that it is delivered. A TIME frame is kept with its timestamp (R282). -/
def State.riserReceive (s : State) (n : Nat) (b : List Byte) : State × Bool :=
  if (macAddr b != 0x0180C200000E#48) || half b 12 != 0x88B5 then (s, true)
  else
    let typ := (b.getD 14 0).toNat
    if 6 < typ ∨ b.getD 15 0 ≠ 1 then (s.incSat (Reg.NET_RISER_BADTYPE n) 31 0, false)
    else if typ = 0 then (s.helloReceive (n - 2), true)
    else if typ = 2 then (s.timeReceive (n - 2) ((b.drop 18).take 46), true)
    else (s, true)

/-- The port sends HELLO every 10 ms (R260): module identity and chain position. -/
def State.helloSend (s : State) (p : Nat) : State :=
  if !s.macUp (p + 2) then s
  else
    let s := s.advanceTo (s.net.helloAt.toList.getD p 0)
    let s := { s with net := { s.net with helloAt := s.net.helloAt.setIfInBounds p (s.now + 10 * msCounts) } }
    s.riserSend [(p, 0, [s.rd Reg.SYS_SERIAL_LO, s.rd Reg.SYS_SERIAL_HI, wd (s.fld Reg.SYS_ROLL_STAT 23 8)])]

/-- No HELLO for 50 ms (R261); its time is known. -/
def State.riserSilent (s : State) (p : Nat) : State :=
  match s.net.helloRx.toList.getD p none with
  | some t => if s.riserUp (if p = 0 then 0 else 1) then (s.advanceTo (t + 50 * msCounts)).setRiser p false else s
  | none => s

/-! ### Receiving (R245 to R247) -/

/-- The destination address is accepted (R246). -/
def State.accepts (s : State) (n : Nat) (dst : BitVec 48) : Bool :=
  let wire := (List.range 6).foldl (fun m i => m + dst.toNat / 256 ^ (5 - i) % 256 * 256 ^ i) 0
  (List.range 32).any (fun j => s.bit (Reg.NET_FILT_HI n j) 31 &&
    ((s.rd (Reg.NET_FILT_LO n j)).toNat + 2 ^ 32 * s.fld (Reg.NET_FILT_HI n j) 15 0 == wire)) ||
  (dst == 0xFFFFFFFFFFFF#48 && s.bit (Reg.NET_CTRL n) 2) || s.bit (Reg.NET_CTRL n) 1 || dst == 0x0180C200000E#48 ||
  (decide (n < 2) && s.bit Reg.PRP_CTRL 0 && dst / 256 == 0x01154E0001#48) ||
  (decide (n < 2) && Config.timeProfile n && [0x011B19000000#48, 0x0180C2000000#48 + 0xE, 0x01005E000181#48, 0x01005E00006B#48].contains dst)

/-- A frame delivered: counted, and shown by `emit` with the MAC, its mark, its timestamp at the SFD and its bytes. -/
def State.deliver (s : State) (n : Nat) (mark : Nat) (b : List Byte) : State :=
  s.emitMore ([wd (n + 256 * mark), s.cnt.extractLsb' 0 32, s.cnt.extractLsb' 32 32, wd b.length] ++
    (List.range ((b.length + 3) / 4)).map (fun i => bytesWord (b.drop (4 * i))))

/-- A received frame (R245): the first check that fails decides. -/
def State.receive (s : State) (n : Nat) (f : Frame) : State :=
  let b := f.bytes
  let mx := s.fld (Reg.NET_MAXLEN n) 13 0
  let long := decide (mx < b.length)
  let s := s.emit []
  if !s.macUp n then s
  else if b.length < 64 ∨ (!f.fcsOk && !long) then s.incSat (Reg.NET_RX_FCS_ERR n) 31 0
  else if !s.accepts n (macAddr b) then s.incSat (Reg.NET_RX_FILTERED n) 31 0
  else if long then
    let s := s.incSat (Reg.NET_RX_OVERSIZE n) 31 0
    if f.space then s.deliver n 1 (b.take mx) else s
  else if !f.space then s.incSat (Reg.NET_RX_OVF n) 31 0
  else if half b 12 = 0x8808 then
    let s := s.incSat (Reg.NET_RX_PAUSE n) 31 0
    if half b 14 = 1 then s.pauseFor n (half b 16) else s
  else
    let (s, ok) := if n < 2 then (s.lldpReceive n b).prpReceive n b else if n < 4 then s.riserReceive n b else (s, true)
    if ok then (s.incSat (Reg.NET_RX_FRAMES n) 31 0).deliver n 0 (s.prpBytes n b) else s

/-! ### Links (R242, R258, R261) and PLCA (R262, R263) -/

/-- A PHY's link goes up or down. -/
def State.linkChange (s : State) (n : Nat) (up eee low : Bool) (sqi : BitVec 3) : State :=
  let up := up && s.bit (Reg.NET_CTRL n) 0 && s.bit (Reg.NET_STAT n) 4
  let s := s.setBit (Reg.NET_STAT n) 0 up
  if n < 2 then
    let s := s.setBit (Reg.NET_STAT n) 5 (up && eee && s.bit (Reg.NET_CTRL n) 4)
    let s := (if up then s else (s.setBit (Reg.NET_STAT n) 1 false).setMac n { s.mac n with lpiAt := none }).settleTw n
    ((s.setLan n up).settleSource.emit []).drainTx n
  else if n < 4 then
    let amp := s.fld (Reg.NET_T1L_CFG n) 1 0
    let s := s.setBit (Reg.NET_T1L_STAT n) 0 (amp = 2 || (amp ≠ 1 && low))
    let s := s.setFld (Reg.NET_T1L_STAT n) 3 1 (if up then sqi.toNat else 0)
    if up then (s.emit []).drainTx n else s.setRiser (n - 2) false
  else (s.emit []).drainTx n

/-- A LAN's PHY supply after a change of its feed or of EN (R258, R242); the link goes with it. -/
def State.phyPower (s : State) (n : Nat) (on : Bool) : State :=
  let s := s.setBit (Reg.NET_STAT n) 4 on
  if on then s else s.linkChange n false false false 0

/-- A T1S follower uses PLCA. -/
def State.plcaFollower (s : State) (n : Nat) : Bool :=
  s.bit (Reg.NET_PLCA_CFG n) 16 && s.fld (Reg.NET_PLCA_CFG n) 7 0 != 0 && s.fld (Reg.NET_PLCA_CFG n) 7 0 != 255

/-- The coordinator of its segment. -/
def State.plcaCoordinator (s : State) (n : Nat) : Bool := s.bit (Reg.NET_PLCA_CFG n) 16 && s.fld (Reg.NET_PLCA_CFG n) 7 0 == 0

/-- A beacon received (R263). -/
def State.plcaBeacon (s : State) (t : Nat) : State :=
  let n := t + 4
  if s.plcaCoordinator n then
    (s.incSat (Reg.NET_PLCA_LOSS n) 31 16).record { sev := 4, source := BitVec.ofNat 8 (0x10 + n), code := 263, args := [wd n, 1] }
  else if s.plcaFollower n then
    { (s.setBit (Reg.NET_PLCA_STAT n) 0 true) with net := { s.net with beaconAt := s.net.beaconAt.setIfInBounds t (some s.now) } }
  else s

/-- No beacon for 4 × NODE_COUNT × TO_TIMER bit times of 100 ns: fall back to CSMA/CD (R263). -/
def State.plcaLoss (s : State) (t : Nat) : State :=
  let n := t + 4
  if s.plcaFollower n && s.bit (Reg.NET_PLCA_STAT n) 0 then
    let wait := 4 * s.fld (Reg.NET_PLCA_CFG n) 15 8 * s.fld (Reg.NET_PLCA_CFG n) 31 24 * 25
    let s := s.advanceTo ((s.net.beaconAt.toList.getD t none).getD s.now + wait)
    ((s.setBit (Reg.NET_PLCA_STAT n) 0 false).incSat (Reg.NET_PLCA_LOSS n) 15 0).record
      { sev := 3, source := BitVec.ofNat 8 (0x10 + n), code := 263, args := [wd n, 0] }
  else s

/-! ### Register writes and views -/

/-- A host write of a NET register that is not a plain one. -/
def State.netWrite (s : State) (a : Nat) (v : Word) : Option State :=
  let n := a / 0x10000 - 0x10
  let off := a % 0x10000
  if !netHas n off then some s
  else if off = 0 then
    let lcs := s.fld Reg.KEY_LCS 2 0
    let v := v &&& (if n < 2 then 0x3F else if n < 4 then 0x2F else 0x27)
    let v := if bitOf v 1 && !(lcs == 1 || lcs == 4) then setBitOf v 1 (s.bit a 1) else v
    let was := s.bit a 0
    let s := s.wr a v
    let feed := if n < 2 then s.bit (Reg.PWR_FEED_STAT n) 12 else true
    some (if bitOf v 0 == was then s else s.phyPower n (bitOf v 0 && feed))
  else if off = 8 then
    some (if 64 ≤ bits v 13 0 ∧ bits v 13 0 ≤ 9600 then (s.wr a (v &&& 0x3FFF)).setSaf n else s)
  else if off = 0xC then some ((s.setFld a 13 0 (bits v 13 0)).setSaf n)
  else if off = 0x10 then some (if bits v 15 0 = 0 then s else s.setFld a 15 0 (bits v 15 0))
  else if off = 0x14 then
    let s := if 17 ≤ bits v 15 0 then (s.setFld a 15 0 (bits v 15 0)).settleTw n else s
    some (if bits v 31 16 = 0 then s else s.setFld a 31 16 (bits v 31 16))
  else if off = 0x200 then
    let s := if s.bit (Reg.NET_GATE_STAT n) 1 then s else s.setFld a 1 1 (bits v 1 1)
    some (if bitOf v 0 then s.gateChange n else s)
  else if 0x400 ≤ off ∧ off < 0x600 then
    let bank := (off - 0x400) / 0x100
    some (if bank = s.fld (Reg.NET_GATE_CTRL n) 1 1 ∧ bank ≠ s.fld (Reg.NET_GATE_STAT n) 0 0 ∧ !s.bit (Reg.NET_GATE_STAT n) 1 then s.wr a v else s)
  else if off = 0x204 then some (if v.toNat < 1000 then s else s.wr a v)
  else if off = 0x800 then
    let s := s.wr a (v &&& 0xFF01FFFF)
    some (if s.plcaCoordinator n then s.setBit (Reg.NET_PLCA_STAT n) 0 true
      else if s.plcaFollower n then s else s.setBit (Reg.NET_PLCA_STAT n) 0 false)
  else none

/-- A host write of a PRP register that is not a plain one. -/
def State.prpWrite (s : State) (a : Nat) (v : Word) : Option State :=
  if a = Reg.PRP_CTRL then
    let lcs := s.fld Reg.KEY_LCS 2 0
    let v := v &&& 7
    some (s.wr a (if !bitOf v 1 && !(lcs == 1 || lcs == 4) then setBitOf v 1 (s.bit a 1) else v))
  else if a = Reg.PRP_CFG then
    let s := if 100 ≤ bits v 15 0 then s.setFld a 15 0 (bits v 15 0) else s
    some (if bits v 31 16 = 0 then s else s.setFld a 31 16 (bits v 31 16))
  else if a = Reg.PRP_FORGET then some (if bits v 15 0 = 0 then s else s.wr a (v &&& 0xFFFF))
  else none

end Sys2Proof.Machine
end

