-- ==== Sys2Proof/Machine/SafetyOps.lean ====
section
/-! DEFINITION. The safety die (R15 to R18, R192 to R199) and its SAFE mirror. -/

namespace Sys2Proof.Machine

/-- A safety channel. -/
def State.chan (s : State) (ch : Nat) : ChanSt := s.safe.chans.toList.getD ch ChanSt.zero

/-- A safety channel replaced. -/
def State.setChan (s : State) (ch : Nat) (x : ChanSt) : State := { s with safe := { s.safe with chans := s.safe.chans.setIfInBounds ch x } }

/-- What a channel holds of a car. -/
def ChanSt.car (x : ChanSt) (c : Nat) : ChanCar := x.cars.toList.getD c ChanCar.zero

/-- What the safety die holds of a car. -/
def State.safeCar (s : State) (c : Nat) : SafeCar := s.safe.cars.toList.getD c { released := false, latch := 0, refusals := 0, operated := none, clearable := false, inTime := false }

/-- What the safety die holds of a car replaced. -/
def State.setSafeCar (s : State) (c : Nat) (x : SafeCar) : State := { s with safe := { s.safe with cars := s.safe.cars.setIfInBounds c x } }

/-- The safety die's own time, which a reset of the control die leaves running. -/
def State.safeNow (s : State) : Nat := s.safe.ahead + s.now

/-- The parameters of a car in force (R199). -/
def State.carParams (s : State) (c : Nat) : Option SafetyCar := s.safe.params.bind (fun p => p.cars.toList[c]?)

/-! ### Requests (R193, R357) -/

/-- A car's REQ_PT: an ENUM point that a LIFT-tier lesson produces; none where it is missing or BAD. -/
def State.reqPoint (s : State) (c : Nat) : Option Word :=
  let i : PointIdx := BitVec.ofNat 14 (s.fld (Reg.DISP_CAR_REQ c) 13 0)
  let p := s.point i
  let lift := match p.decl with
    | some d => (s.lesson? d.lesson).any (fun l => l.decl.tier == .lift)
    | none => false
  if s.pointIs i 7 0 && lift && s.levelOf i != 3 then some (s.pointWord i 0) else none

/-- The core that produces a car's REQ_PT is halted (R381). -/
def State.reqHalted (s : State) (c : Nat) : Bool :=
  match (s.point (BitVec.ofNat 14 (s.fld (Reg.DISP_CAR_REQ c) 13 0))).decl with
  | some d => match s.lesson? d.lesson with
    | some l => (s.core l.coreOf).halt == .halted
    | none => false
  | none => false

/-- The request of a car (R193): MODE = OFF while the core behind it is halted (R381); nothing before step 5 of roll call begins (R357), in RECESS (R347) or without REQ_PT. -/
def State.carRequest (s : State) (c : Nat) : SafeReq :=
  let live := s.bit Reg.SYS_ROLL_STAT 0 && s.bit Reg.LIFT_CTRL 0 && !s.inRecess
  let v := if live then (s.reqPoint c).getD 0 else 0
  let v := if s.reqHalted c then putBits v 2 0 0 else v
  let seq (d : Nat) : Bool := live && !([0, 10].contains (s.doorState d))
  { mode := if bits v 2 0 ≤ 3 then BitVec.ofNat 3 (bits v 2 0) else 0, release := bitOf v 3, doorF := bitOf v 4 || seq (2 * c),
    doorR := bitOf v 5 || seq (2 * c + 1), posState := BitVec.ofNat 2 (s.carState c), xchk := s.bit (Reg.LIFT_CAR_STAT c) 11,
    recvAt := s.safeNow, judged := false, counted := false }

/-- Every car's request sent to both channels over the links that are up; a cross-check failure latches (R197). -/
def State.safetyRequest (s : State) : State :=
  let reqs := Vector.ofFn (fun c : Fin 8 => some (s.carRequest c.val))
  let s := { s with safe := { s.safe with chans := s.safe.chans.map (fun k => if k.running && k.link then { k with reqs := reqs } else k) } }
  (List.range 8).foldl (fun s c => if s.bit (Reg.LIFT_CAR_STAT c) 11 then s.xchkSend c else s) s

/-- Every request withdrawn at once: MODE = OFF for every car (R348). -/
def State.withdrawAll (s : State) : State :=
  { s with safe := { s.safe with chans := s.safe.chans.map (fun k => { k with reqs := k.reqs.map (fun r => r.map (fun q => { q with mode := 0, release := false, doorF := false, doorR := false })) }) } }

/-! ### The chain (R192) -/

/-- The door roles, and the roles of a chain that are in use. -/
def doorRole (r : BitVec 4) : Bool := decide (8 ≤ r.toNat) && decide (r.toNat ≤ 13)

end Sys2Proof.Machine

namespace Sys2Proof

open Sys2Proof.Machine

/-- The taps of a chain in use, in order. -/
def SafetyCar.taps (p : SafetyCar) : List (Nat × BitVec 4) := ((List.range 24).zip p.roles.toList).filter (fun t => t.2 != 0)

end Sys2Proof

namespace Sys2Proof.Machine

/-- The open contacts of a chain (R192): a tap de-energised after one that is not; the taps in use only (log entry 34). -/
def openContacts (p : SafetyCar) (dead : BitVec 24) : List (Nat × BitVec 4) :=
  let ts := p.taps
  (List.range ts.length).filterMap (fun k =>
    match ts[k]? with
    | some t =>
      let before := if k = 0 then false else match ts[k - 1]? with | some b => dead.getLsbD b.1 | none => false
      if dead.getLsbD t.1 && !before then some t else none
    | none => none)

/-- A door-role contact is open. -/
def doorOpen (p : SafetyCar) (dead : BitVec 24) : Bool := (openContacts p dead).any (fun t => doorRole t.2)

/-- Every tap in use other than the door roles reads closed (R194), and every tap in use (R197). -/
def chainClosed (p : SafetyCar) (dead : BitVec 24) : Bool := p.taps.all (fun t => doorRole t.2 || !dead.getLsbD t.1)
def allClosed (p : SafetyCar) (dead : BitVec 24) : Bool := p.taps.all (fun t => !dead.getLsbD t.1)

end Sys2Proof.Machine

namespace Sys2Proof

open Sys2Proof.Machine

/-- The speed limit of a mode (R194). -/
def SafetyCar.limit (p : SafetyCar) (mode : BitVec 3) : Nat := if mode = 1 then p.vCorr else if mode = 2 then p.overspeed else p.vLevel

/-- The governor speed exceeds a limit in mm/s: the pulse rate scaled by GOV_SCALE in µm per pulse (R192). -/
def SafetyCar.above (p : SafetyCar) (lim : Nat) (i : SafeIn) : Bool := decide (lim * 1000000 < i.rate * p.govScale)

end Sys2Proof

namespace Sys2Proof.Machine

/-! ### The rules (R194 to R197) -/

/-- A channel's decision on a car. -/
structure Verdict where
  mode : BitVec 3
  doorF : Bool
  doorR : Bool
  reason : BitVec 4

/-- The running grant and the reason of a refusal (R193, R194). -/
def runGrant (p : SafetyCar) (q : SafeReq) (i : SafeIn) : BitVec 3 × BitVec 4 :=
  if q.mode = 0 then (0, 0)
  else
    let lowered := q.mode = 2 ∧ !(q.posState = 1 ∧ !q.xchk)
    let mode : BitVec 3 := if lowered then 1 else q.mode
    let doors := doorOpen p i.dead
    if !chainClosed p i.dead then (0, 2)
    else if doors ∧ mode ≠ 3 then (0, 8)
    else if doors ∧ !i.dz then (0, 3)
    else if doors ∧ p.above p.vLevel i then (0, 4)
    else if p.above (p.limit mode) i then (0, if lowered then 10 else 4)
    else (mode, if lowered then 10 else 0)

/-- The door grant of a side and the reason of a refusal (R195); `slower` says that the car decelerates. -/
def doorRule (p : SafetyCar) (asked : Bool) (granted : BitVec 3) (i : SafeIn) (slower : Bool) : Bool × BitVec 4 :=
  if !asked then (false, 0)
  else if !i.dz then (false, 3)
  else if p.above p.vDoor i then (false, if granted = 1 ∨ granted = 2 then 7 else 4)
  else if (granted = 1 ∨ granted = 2) ∧ !slower then (false, 7)
  else (true, 0)

/-- A channel's judgement of a car (R193 to R195). -/
def judge (s : State) (c : Nat) (params : Option SafetyCar) (q : Option SafeReq) (i : SafeIn) (slower : Bool) : Verdict :=
  let car := s.safeCar c
  let off := fun (r : BitVec 4) => ({ mode := 0, doorF := false, doorR := false, reason := r } : Verdict)
  match params, q with
  | none, _ => off 6
  | some p, some q =>
    let wants := q.mode ≠ 0 ∨ q.doorF ∨ q.doorR
    if s.safeNow ≥ q.recvAt + 10 * msCounts then off 9
    else if !p.enabled then off 6
    else if car.latch ≠ 0 then off 5
    else if !car.released then off (if wants then 1 else 0)
    else
      let (m, r) := runGrant p q i
      let (f, rf) := doorRule p q.doorF m i slower
      let (b, rb) := doorRule p q.doorR m i slower
      { mode := m, doorF := f, doorR := b, reason := if r ≠ 0 then r else if rf ≠ 0 then rf else rb }
  | some _, none => off 9

/-- The mode in force: the one both channels give (R193). -/
def State.grantMode (s : State) (c : Nat) : BitVec 3 :=
  let a := (s.chan 0).car c
  let b := (s.chan 1).car c
  if a.mode = b.mode then a.mode else 0

/-- Unintended movement (R196): the governor count at which a door contact opened, and whether the car has moved beyond its limit since, or the
door-zone input, active at the evaluation before, has gone inactive. -/
def ucmStep (p : SafetyCar) (opened : Option Word) (mode : BitVec 3) (wasDz : Bool) (i : SafeIn) : Option Word × Bool :=
  if doorOpen p i.dead then
    let at0 := opened.getD i.gov
    let dist := (i.gov - at0).toInt.natAbs * p.govScale
    let lim := (p.ucmDist + if mode = 3 then p.levelDist else 0) * 1000
    (some at0, decide (lim < dist) || (wasDz && !i.dz && mode != 3))
  else (none, false)

/-- The safety die's event of a car, sent to the recorder. -/
def State.safeEvent (s : State) (code c : Nat) : State := s.record { sev := 7, source := 0x09, code := BitVec.ofNat 16 code, args := [wd c] }

/-- The reason shown for a car (R193): the first channel's, else the second's. -/
def State.carReason (s : State) (c : Nat) : BitVec 4 :=
  if ((s.chan 0).car c).reason ≠ 0 then ((s.chan 0).car c).reason else ((s.chan 1).car c).reason

/-- A channel's judgement of a request (R193): a refusal by either channel counts once for the request. -/
def State.noteRefusal (s : State) (ch c : Nat) (refused : Bool) : State :=
  match ((s.chan ch).reqs.toList[c]?).join with
  | none => s
  | some r =>
    if r.judged then s
    else
      let k := s.chan ch
      let s := s.setChan ch { k with reqs := k.reqs.setIfInBounds c (some { r with judged := true }) }
      if refused && !r.counted then
        let mark := fun (k : ChanSt) => { k with reqs := k.reqs.setIfInBounds c (((k.reqs.toList[c]?).join).map (fun q => { q with counted := true })) }
        let s := { s with safe := { s.safe with chans := s.safe.chans.map mark } }
        s.setSafeCar c { s.safeCar c with refusals := (s.safeCar c).refusals + 1 }
      else s

/-- The RESET contact has been operated (R197), within 600 s of a set asked for or not (R199). -/
def State.resetDone (s : State) (c : Nat) : State :=
  let x := s.safeCar c
  let inTime := x.inTime || s.safe.asked.any (fun a => decide (s.safeNow ≤ a.2 + 600 * secCounts))
  s.setSafeCar c { x with operated := some s.safeNow, clearable := true, inTime := inTime }

/-- One car at one channel's evaluation (R192 to R197). -/
def State.evalCar (s : State) (ch c : Nat) (i : SafeIn) : State :=
  let k := s.chan ch
  let old := k.car c
  let params := s.carParams c
  let slower := decide (i.rate < old.ins.rate)
  -- latches of the channel's own
  let (opened, moved) := match params with
    | some p => if p.enabled then ucmStep p old.openedAt (s.grantMode c) old.ins.dz i else (none, false)
    | none => (none, false)
  let beyond := params.any (fun p => p.enabled && p.above p.overspeed i)
  let s := if beyond ∧ !(s.safeCar c).latch.getLsbD 0 then s.safeLatch c 0 else s
  let s := if moved ∧ !(s.safeCar c).latch.getLsbD 1 then (s.safeLatch c 1).safeEvent 196 c else s
  -- the RESET contact (R197): opened for 1 s and closed again at rest with every other tap closed
  let resetNow := params.any (fun p => (openContacts p i.dead).any (fun t => t.2 == 14))
  let operated := match old.resetOpen with
    | some t => !resetNow && decide (t + secCounts ≤ s.safeNow) && i.rate == 0 && params.any (fun p => allClosed p i.dead)
    | none => false
  let s := if operated then s.resetDone c else s
  let resetOpen := if resetNow then some (old.resetOpen.getD s.safeNow) else none
  -- release (R197)
  let q := (k.reqs.toList[c]?).join
  let fresh := q.any (fun q => decide (s.safeNow < q.recvAt + 10 * msCounts))
  let consent := params.any (fun p => p.enabled && allClosed p i.dead) && !i.runRb && !i.doorRb && fresh && q.any (·.release)
  let other := ((s.chan (1 - ch)).car c).release
  let s := if consent && other && (s.safeCar c).latch == 0 then s.setSafeCar c { s.safeCar c with released := true } else s
  -- the grants
  let v := judge s c params q i slower
  let was := s.carReason c
  let k := s.chan ch
  let cc : ChanCar := { ins := i, mode := v.mode, doorF := v.doorF, doorR := v.doorR, reason := v.reason, release := consent, openedAt := opened, resetOpen := resetOpen }
  let s := s.setChan ch { k with cars := k.cars.setIfInBounds c cc }
  -- the reason's change, and the refusal (R193)
  let now := s.carReason c
  let s := if now ≠ was ∧ now ≠ 0 then s.record { sev := 4, source := 0x09, code := 193, args := [wd c, wd now.toNat] } else s
  s.noteRefusal ch c (v.reason != 0 && q.any (fun r => r.mode != 0 || r.doorF || r.doorR))

/-- The relays a channel commands for a car: RUN, DOOR (R192). -/
def ChanCar.run (x : ChanCar) : Bool := x.mode != 0
def ChanCar.doorRelay (x : ChanCar) : Bool := x.doorF || x.doorR

/-- A relay energises only while both channels command it (R16). -/
def State.relayOn (s : State) (relay : Nat) : Bool :=
  let f := fun (k : ChanSt) => let x := k.car (relay / 2); if relay % 2 = 0 then x.run else x.doorRelay
  f (s.chan 0) && f (s.chan 1)

/-- A channel's readback of a relay. -/
def ChanSt.readback (k : ChanSt) (relay : Nat) : Bool :=
  let i := (k.car (relay / 2)).ins
  if relay % 2 = 0 then i.runRb else i.doorRb

/-- A car is in its safe state (R197): both relays de-energised. -/
def State.carSafe (s : State) (c : Nat) : Bool := !s.relayOn (2 * c) && !s.relayOn (2 * c + 1)

/-- The channels' grants for a car differ. -/
def State.grantsDiffer (s : State) (c : Nat) : Bool :=
  let a := (s.chan 0).car c
  let b := (s.chan 1).car c
  a.mode != b.mode || a.doorF != b.doorF || a.doorR != b.doorR

/-! ### Links (R13, R17, R197) -/

/-- A request link lost: every request is withdrawn and LINK latches for every car, with an event of severity 7. -/
def State.safetyLinkLost (s : State) (ch : Nat) : State :=
  let s := s.setChan ch { s.chan ch with link := false, reqs := Vector.replicate 8 none }
  let s := (List.range 8).foldl (fun s c => s.safeLatch c 5) s
  s.record { sev := 7, level := 6, source := 0x09, code := 13, args := [wd ch] }

/-- The link returns: LINK clears once both links are up. -/
def State.safetyLinkBack (s : State) (ch : Nat) : State :=
  let s := s.setChan ch { s.chan ch with link := true }
  if (s.chan 0).link ∧ (s.chan 1).link then
    (List.range 8).foldl (fun s c => s.setSafeCar c { s.safeCar c with latch := (s.safeCar c).latch &&& 0x1F }) s
  else s

/-! ### Parameters (R199) -/

end Sys2Proof.Machine

namespace Sys2Proof

open Sys2Proof.Machine

/-- The items of a car lie in their ranges. -/
def SafetyCar.inRange (p : SafetyCar) : Bool :=
  let r := fun lo hi x => decide (lo ≤ x) && decide (x ≤ hi)
  !p.enabled || (r 100 12000 p.overspeed && r 50 1000 p.vCorr && r 50 800 p.vLevel && r 0 800 p.vDoor && r 10 200 p.ucmDist && r 0 100 p.levelDist &&
    r 1 65535 p.govScale && r 5 100 p.relayMs)

end Sys2Proof

namespace Sys2Proof.Machine

end Sys2Proof.Machine

namespace Sys2Proof

open Sys2Proof.Machine

/-- The bytes of a set that are signed: the identifier and each car's items as words. -/
def SafetySet.bytes (x : SafetySet) : List Byte :=
  wordBytes x.id ++ x.cars.toList.flatMap (fun p =>
    (([p.enabled.toNat, p.overspeed, p.vCorr, p.vLevel, p.vDoor, p.ucmDist, p.levelDist, p.govScale, p.relayMs] ++ p.roles.toList.map (·.toNat)).flatMap
      (fun n => wordBytes (wd n))))

end Sys2Proof

namespace Sys2Proof.Machine

/-- A set is verified against the fused key (R199, R307). -/
def State.setVerified (s : State) (x : SafetySet) : Bool :=
  s.key.safetyKey == some (Config.sha256 x.key) && Config.verify 1 x.key x.sig x.bytes && x.cars.toList.all SafetyCar.inRange

/-- The cars enabled by the set in force. -/
def State.enabledCars (s : State) : List Nat := (List.range 8).filter (fun c => (s.carParams c).any (·.enabled))

/-- The set asked for is applied once every enabled car is safe and its RESET contact has been operated within 600 s of the request; it is dropped when
the 600 s pass without (R199). -/
def State.safetyApply (s : State) : State :=
  match s.safe.asked with
  | none => s
  | some (x, t) =>
    if s.enabledCars.all (fun c => (s.safeCar c).inTime) then
      if s.enabledCars.all s.carSafe then { s with safe := { s.safe with params := some x, asked := none } } else s
    else if t + 600 * secCounts < s.safeNow then { s with safe := { s.safe with asked := none } }
    else s

/-- A verified set asked for (R199): every RESET contact is to be operated from now on. -/
def State.safetyAsk (s : State) (set : SafetySet) : State :=
  { s with safe := { s.safe with asked := some (set, s.safeNow), cars := s.safe.cars.map (fun x => { x with inTime := false }) } }

/-! ### The mirror (R18) -/

/-- One car's registers of the mirror. -/
def State.mirrorCar (s : State) (c : Nat) : State :=
  let a := (s.chan 0).car c
  let b := (s.chan 1).car c
  let x := s.safeCar c
  let q := ((s.chan 0).reqs.toList[c]?).join
  let mode := s.grantMode c
  let reason := s.carReason c
  let grant := mode.toNat + 8 * (a.doorF && b.doorF).toNat + 16 * (a.doorR && b.doorR).toNat + 32 * x.released.toNat +
    256 * ((q.map (·.mode.toNat)).getD 0) + 2048 * (q.any (·.doorF)).toNat + 4096 * (q.any (·.doorR)).toNat + 65536 * reason.toNat
  let dead := a.ins.dead ||| b.ins.dead
  let first := (((s.carParams c).bind (fun p => (openContacts p dead).head?)).map (·.1)).getD 31
  let first := if (s.carParams c).isNone then ((List.range 24).find? (fun k => dead.getLsbD k)).getD 31 else first
  let io := (a.ins.dz && b.ins.dz).toNat + 2 * (s.relayOn (2 * c)).toNat + 4 * a.ins.runRb.toNat + 8 * (s.relayOn (2 * c + 1)).toNat + 16 * a.ins.doorRb.toNat +
    65536 * (min 0xFFFF (((s.carParams c).elim 0 (·.govScale)) * max a.ins.rate b.ins.rate / 1000000))
  let s := ((s.wr (Reg.SAFE_CAR_GRANT c) (wd grant)).wr (Reg.SAFE_CAR_CHAIN c) (wd (dead.toNat + first * 2 ^ 24))).wr (Reg.SAFE_CAR_IO c) (wd io)
  s.wr (Reg.SAFE_CAR_LATCH c) (wd (x.latch.toNat + 65536 * x.refusals.toNat))

/-- A status update reaches the mirror (R18), but for RECESS (R347): with the safety die's next sequence count. -/
def State.mirrorUpdate (s : State) : State :=
  if !s.hasLift ∨ s.inRecess ∨ !(s.safe.chans.toList.any (fun k => k.running && k.link)) then s
  else
    let seq := s.safe.seq + 1
    let s := { s with safe := { s.safe with seq := seq }, mirrorAt := some s.now, pwr := { s.pwr with mirrorOld := false } }
    let mask (f : Nat → Bool) : Nat := (List.range 8).foldl (fun n c => if f c then n + 2 ^ c else n) 0
    let stat := (s.chan 0).running.toNat + 2 * (s.chan 1).running.toNat + 4 * s.safe.params.isSome.toNat + 256 * mask (fun c => (s.safeCar c).released) +
      65536 * mask s.carSafe
    let s := ((s.wr Reg.SAFE_STAT (wd stat)).wr Reg.SAFE_SEQ seq).wr Reg.SAFE_PARAM_ID ((s.safe.params.map (·.id)).getD 0)
    (List.range 8).foldl State.mirrorCar s

end Sys2Proof.Machine
end

