-- ==== Sys2Proof/Machine/TimeOps.lean ====
section
/-! DEFINITION. The time base: rate, offset, TIME frames, triggers and captures (R276 to R288). -/

namespace Sys2Proof.Machine

/-! ### Rate (R277) -/

/-- A write of TIME_RATE: taken within ±2,147,484, else ignored with RATE_ERR. -/
def State.rateWrite (s : State) (v : Word) : State :=
  if -2147484 ≤ v.toInt ∧ v.toInt ≤ 2147484 then (s.wr Reg.TIME_RATE v).setCoarse false else s.setBit Reg.TIME_STAT 3 true

/-- The counter one cycle of the 250 MHz clock later: it advances by 1 + RATE / 2^32, the hidden fraction carrying the remainder (R276). In RECESS,
one tick of the slow clock: by 7,629.394 53 × (1 + RATE / 2^32) × the measured ratio (R284). -/
def State.cycle (s : State) : State :=
  let rate := (s.rd Reg.TIME_RATE).toInt
  let sum : Int :=
    if s.inRecess then
      -- 7,629.394 53 = 762,939,453 / 100,000
      (s.cntFrac.toNat : Int) + 762939453 * (2 ^ 32 + rate) * (Config.slowRatio s.free : Int) / (100000 * 2 ^ 32)
    else (s.cntFrac.toNat : Int) + 2 ^ 32 + rate
  { s with cnt := s.cnt + BitVec.ofNat 64 (sum / 2 ^ 32).toNat, cntFrac := wi (sum % 2 ^ 32) }

/-! ### Triggers (R286, R287) -/

/-- A trigger output's state. -/
def State.trigger (s : State) (t : Nat) : Trig := Tab.get (fun _ => { next := none, pulse := none }) s.time.trigs t

/-- A trigger output's state set, with ARMED. -/
def State.setTrigger (s : State) (t : Nat) (x : Trig) : State :=
  ({ s with time := { s.time with trigs := Tab.set (fun _ => { next := none, pulse := none }) s.time.trigs t x } }).setBit (Reg.TIME_TRIG_STAT t) 0 x.next.isSome

/-- The output's level as it is: active while a pulse is in progress, under POL. -/
def State.trigLevel (s : State) (t : Nat) : Bool := (s.trigger t).pulse.isSome != s.bit (Reg.TIME_TRIG_CFG t) 3

/-- START as nanoseconds of applied time in the current era of 2^32 seconds (R286). -/
def State.trigStartNs (s : State) (t : Nat) : Nat :=
  (s.appliedSec / 2 ^ 32 * 2 ^ 32 + (s.rd (Reg.TIME_TRIG_START_HI t)).toNat) * 1000000000 + (s.rd (Reg.TIME_TRIG_START_LO t)).toNat

/-- The offset in nanoseconds. -/
def State.offsetNs (s : State) : Nat := s.time.ofsSec.toNat * 1000000000 + s.time.ofsNs

/-- The count at which an applied time in nanoseconds is reached; none where it is already past at count 0. -/
def State.countOf (s : State) (ns : Nat) : Option Nat := if s.offsetNs ≤ ns then some (ceilDiv (ns - s.offsetNs) 4) else none

/-- START of a trigger as a count; none where it was before count 0. -/
def State.trigStart (s : State) (t : Nat) : Option Nat :=
  if s.bit (Reg.TIME_TRIG_CFG t) 2 then s.countOf (s.trigStartNs t)
  else some ((s.rd (Reg.TIME_TRIG_START_LO t)).toNat + 2 ^ 32 * (s.rd (Reg.TIME_TRIG_START_HI t)).toNat)

/-- The first START + k × PERIOD of a periodic trigger after a count. -/
def State.trigAfter (s : State) (t now : Nat) : Nat :=
  let p := (s.rd (Reg.TIME_TRIG_PERIOD t)).toNat
  if s.bit (Reg.TIME_TRIG_CFG t) 2 then
    let applied := s.offsetNs + 4 * now
    let start := s.trigStartNs t
    let edge := if applied < start then start else start + ((applied - start) / (4 * p) + 1) * (4 * p)
    (s.countOf edge).getD (now + 1)
  else
    let start := (s.trigStart t).getD 0
    if now < start then start else start + ((now - start) / p + 1) * p

/-- An edge now: the output goes active for WIDTH counts; `emit` shows the trigger and its level. -/
def State.trigFire (s : State) (t : Nat) : State :=
  let cfg := s.rd (Reg.TIME_TRIG_CFG t)
  let s := s.setTrigger t { next := if bitOf cfg 1 then some (s.trigAfter t s.now) else none, pulse := some (s.now + bits cfg 31 8) }
  let s := if bitOf cfg 4 then s.irq 2 else s
  s.emit [wd t, wd (s.trigLevel t).toNat]

/-- A write of TIME_TRIG_CFG (R286): EN = 1 arms, or is ignored with CFG_ERR where it breaks a limit; a START already past fires once at once with
LATE. -/
def State.trigWrite (s : State) (t : Nat) (v : Word) : State :=
  let v := v &&& 0xFFFFFF1F
  let period := (s.rd (Reg.TIME_TRIG_PERIOD t)).toNat
  let w := bits v 31 8
  if bitOf v 0 then
    if w < 1 ∨ (bitOf v 1 ∧ (period < 25 ∨ period < 2 * w)) then s.setBit (Reg.TIME_TRIG_STAT t) 2 true
    else
      let s := s.wr (Reg.TIME_TRIG_CFG t) v
      match s.trigStart t with
      | some c =>
        if s.now ≤ c then s.setTrigger t { s.trigger t with next := some c }
        else (s.setBit (Reg.TIME_TRIG_STAT t) 1 true).trigFire t
      | none => (s.setBit (Reg.TIME_TRIG_STAT t) 1 true).trigFire t
  else (s.wr (Reg.TIME_TRIG_CFG t) v).setTrigger t { s.trigger t with next := none }

/-- The edge of an armed trigger; its count is known. -/
def State.trigEdge (s : State) (t : Nat) : State :=
  match (s.trigger t).next with
  | some c => (s.advanceTo c).trigFire t
  | none => s

/-- The pulse in progress ends after WIDTH; its count is known. -/
def State.trigPulseEnd (s : State) (t : Nat) : State :=
  match (s.trigger t).pulse with
  | some c =>
    let s := (s.advanceTo c).setTrigger t { s.trigger t with pulse := none }
    s.emit [wd t, wd (s.trigLevel t).toNat]
  | none => s

/-- An armed trigger on the applied base evaluated against a new offset at Cs + 1 (R287); `old` is the applied time of its next edge before the
step. -/
def State.trigStep (s : State) (old : Option Nat) (t : Nat) : State :=
  let cfg := s.rd (Reg.TIME_TRIG_CFG t)
  match (s.trigger t).next, old with
  | some _, some e =>
    if !bitOf cfg 2 then s
    else if bitOf cfg 1 then
      let next := s.trigAfter t (s.time.cs.toNat + 1)
      let missed := (s.offsetNs + 4 * next - e) / (4 * (s.rd (Reg.TIME_TRIG_PERIOD t)).toNat)
      let s := s.setTrigger t { s.trigger t with next := some next }
      s.setFld (Reg.TIME_TRIG_STAT t) 31 16 (min 65535 (s.fld (Reg.TIME_TRIG_STAT t) 31 16 + missed))
    else
      match s.trigStart t with
      | some c =>
        if s.time.cs.toNat + 1 ≤ c then s.setTrigger t { s.trigger t with next := some c }
        else ((s.advanceTo (s.time.cs.toNat + 1)).setBit (Reg.TIME_TRIG_STAT t) 1 true).trigFire t
      | none => ((s.advanceTo (s.time.cs.toNat + 1)).setBit (Reg.TIME_TRIG_STAT t) 1 true).trigFire t
  | _, _ => s

/-! ### Offset (R279) -/

/-- The staged value in nanoseconds. -/
def State.stagedNs (s : State) : Nat :=
  ((s.rd Reg.TIME_OFS_SEC_LO).toNat + 2 ^ 32 * s.fld Reg.TIME_OFS_SEC_HI 15 0) * 1000000000 + s.fld Reg.TIME_OFS_NS 29 0

/-- An offset accepted (R279, R280, R287): in force from Cs, the count of the next cycle, counted, and recorded where its magnitude is 1 ms or
more. -/
def State.offsetPut (s : State) (ns : Nat) (set host : Bool) : State :=
  let old := s.offsetNs
  let edges := (List.range 8).map (fun t => (s.trigger t).next.map (fun c => old + 4 * c))
  let s := s.cycle
  let cs := s.cnt
  let s := { s with time := { s.time with ofsSec := BitVec.ofNat 48 (ns / 1000000000), ofsNs := ns % 1000000000, cs := cs, byHost := s.time.byHost || host } }
  let s := (s.incSat Reg.TIME_STEP_CNT 31 0).setBit Reg.TIME_STAT 1 false
  let s := if set then s.setBit Reg.TIME_STAT 0 true else s
  let d := (ns : Int) - (old : Int)
  let s := if 1000000 ≤ d.natAbs then
      let sec := d.natAbs / 1000000000
      s.record { sev := 4, source := 0x19, code := 279,
                 args := [wd sec, wd (sec / 2 ^ 32 % 65536 + (if d < 0 then 2 ^ 31 else 0)), wd (d.natAbs % 1000000000), cs.setWidth 32, wd (cs.toNat / 2 ^ 32)] }
    else s
  let s := s.commitTime.settleSource
  (List.range 8).foldl (fun s t => s.trigStep (edges.getD t none) t) s

/-- SET and ADD (R279); a refused command sets RATE_ERR. -/
def State.offsetSet (m : Master) (s : State) : State :=
  if 999999999 < s.fld Reg.TIME_OFS_NS 29 0 then s.setBit Reg.TIME_STAT 3 true else s.offsetPut s.stagedNs true (m != .steward)

def State.offsetAdd (m : Master) (s : State) : State :=
  let n : Int := if s.bit Reg.TIME_OFS_SEC_HI 31 then (s.offsetNs : Int) - s.stagedNs else (s.offsetNs : Int) + s.stagedNs
  if 999999999 < s.fld Reg.TIME_OFS_NS 29 0 ∨ n < 0 ∨ (2 ^ 48 * 1000000000 : Int) ≤ n then s.setBit Reg.TIME_STAT 3 true
  else s.offsetPut n.toNat false (m != .steward)

/-! ### TIME frames (R282) -/

/-- An UP riser port sends a TIME frame every 125 ms: the applied time at its SFD, put in as it is sent, HOPS, and the time at which the last TIME
frame was received there with the transmit time it carries. -/
def State.timeFrame (s : State) (p : Fin 2) : State :=
  if !s.riserUp p then s
  else
    let s := s.advanceTo (s.net.timeAt.toList.getD p.val 0)
    let s := { s with net := { s.net with timeAt := s.net.timeAt.setIfInBounds p.val (s.now + 125 * msCounts) } }
    let last := match s.net.timeRx.toList.getD p.val none with
      | some (b, t) => s.timeWords t ++ (List.range 3).map (fun i => bytesWord (b.drop (4 * i)))
      | none => [0, 0, 0, 0, 0, 0]
    s.riserSend [(p.val, 2, [0, 0, 0, wd (s.fld Reg.TIME_STAT 15 8)] ++ last)]

/-! ### Captures (R288) -/

/-- A capture input's FIFO. -/
def State.capture (s : State) (c : Nat) : CapSt := Tab.get (fun _ => { fifo := [], ovf := false }) s.time.caps c

/-- A capture input's FIFO set. -/
def State.setCapture (s : State) (c : Nat) (x : CapSt) : State :=
  { s with time := { s.time with caps := Tab.set (fun _ => { fifo := [], ovf := false }) s.time.caps c x } }

/-- A selected edge latches the counter. -/
def State.captureEdge (s : State) (c : Nat) (rise : Bool) : State :=
  let cfg := s.rd (Reg.TIME_CAP_CFG c)
  if !(if rise then bitOf cfg 0 else bitOf cfg 1) then s
  else
    let x := s.capture c
    let s := if 4 ≤ x.fifo.length then s.setCapture c { x with ovf := true }
      else s.setCapture c { x with fifo := x.fifo ++ [{ cnt := s.cnt, rise := rise, coarse := s.inRecess }] }
    if bitOf cfg 2 ∧ x.fifo.length < 4 then s.irq 2 else s

/-- The oldest capture popped into TIME_CAP_LO and TIME_CAP_HI; OVF clears. -/
def State.capturePop (s : State) (c : Nat) : State :=
  let x := s.capture c
  match x.fifo with
  | e :: rest => ((s.setCapture c { fifo := rest, ovf := false }).wr (Reg.TIME_CAP_LO c) (e.cnt.setWidth 32)).wr (Reg.TIME_CAP_HI c) (wd (e.cnt.toNat / 2 ^ 32))
  | [] => s.setCapture c { x with ovf := false }

/-! ### Host writes -/

/-- A host write of a TIME register that is not a plain one. -/
def State.timeWrite (s : State) (m : Master) (a : Nat) (v : Word) : Option State :=
  if a = Reg.TIME_CTRL then some (match bits v 1 0 with | 1 => s.offsetSet m | 2 => s.offsetAdd m | _ => s)
  else if a = Reg.TIME_RATE then some (s.rateWrite v)
  else if a = Reg.TIME_STAT then
    let s := if bitOf v 1 then s.setCoarse false else s
    some (s.wr a (s.rd a &&& ~~~(v &&& 0xC)))
  else if Reg.TIME_TRIG_CFG 0 ≤ a ∧ a < Reg.TIME_TRIG_CFG 8 ∧ a % 0x20 = 0 then some (s.trigWrite ((a - Reg.TIME_TRIG_CFG 0) / 0x20) v)
  else none

/-! ### The slow tick count (R285) -/

/-- The running 32.768 kHz count. -/
def State.slowCount (s : State) : Nat := (s.time.ticks.toNat + s.now * 32768 / 250000000) % 2 ^ 64

end Sys2Proof.Machine
end

