-- ==== Sys2Proof/Machine/FeedOps.lean ====
section
/-! DEFINITION. The feeds (R334 to R338), the choice of a sleep state (R341, R342), the recess agreement (R345, R346), the power-fail order
(R348, R349). -/

namespace Sys2Proof.Machine

/-! ### Feeds -/

/-- The state of a feed: 0 ABSENT, 1 ACTIVE, 2 STANDBY, 3 FAULTED, 4 PATH_FAIL. -/
def State.feedState (s : State) (f : Fin 2) : Nat := s.fld (Reg.PWR_FEED_STAT f.val) 2 0

/-- The active feed, and the other one. -/
def State.activeFeed (s : State) : Fin 2 := if s.bit Reg.PWR_STAT 3 then 1 else 0
def otherFeed (f : Fin 2) : Fin 2 := 1 - f

/-- A change of a feed's state: REDUNDANT brought up to date, the PWR interrupt, an event and the wake FEED (R335, R337, R343). -/
def State.setFeed (s : State) (f : Fin 2) (st : Nat) : State :=
  let s := s.setFld (Reg.PWR_FEED_STAT f.val) 2 0 st
  let s := if st = 3 ∨ st = 4 then s.incSat Reg.PWR_FEED_CNT 31 16 else s
  let s := (s.setBit Reg.PWR_STAT 4 (s.feedState (otherFeed s.activeFeed) == 2)).irq 9
  (s.record { sev := if st = 3 ∨ st = 4 then 5 else 4, source := 0x02, code := 335, args := [wd f.val, wd st] }).wakeRequest 6

/-- TEST_DUE brought up to date after a count has gone back to 0 (R338). -/
def State.testDueOf (s : State) : State :=
  let n := s.fld Reg.PWR_FEED_CFG 31 16
  let beyond := fun (d : Nat) => decide (n ≤ d) && d != 0xFFFF
  if n ≠ 0 ∧ (beyond (s.feedDays 0) || beyond (s.feedDays 1)) then s else s.setBit Reg.PWR_STAT 5 false

/-- A transfer onto a feed (R336, R338): it takes the load at once; the path check may still undo it within 3 µs (log entry 41). -/
def State.xferTo (s : State) (f : Fin 2) (commanded : Bool) : State :=
  let old := otherFeed f
  let x : XferSt := { old := old, commanded := commanded, closedAt := s.now, cnt := s.rd Reg.PWR_FEED_CNT, test := s.rd Reg.PWR_FEED_TEST }
  let s := { s with pwr := { s.pwr with xfer := some x, carried := s.pwr.carried.set old.val s.now } }
  let s := (s.setBit Reg.PWR_STAT 3 (f = 1)).incSat Reg.PWR_FEED_CNT 15 0
  let s := (s.wr Reg.PWR_FEED_TEST 0).testDueOf
  let s := if commanded then s.setFeed old 2 else s
  s.setFeed f 1

/-- A LAN PHY on its feed (R334). -/
def State.feedPhy (s : State) (f : Fin 2) (on : Bool) : State :=
  (s.setBit (Reg.PWR_FEED_STAT f.val) 12 on).phyPower f.val (on && s.bit (Reg.NET_CTRL f.val) 0)

/-- A feed lost (R335, R336): isolated, its LAN PHY off; the active feed's load goes to a STANDBY feed. -/
def State.loseFeed (s : State) (f : Fin 2) (st : Nat) : State :=
  let active := s.feedState f = 1
  let s := (s.setFeed f st).feedPhy f false
  if active ∧ s.feedState (otherFeed f) = 2 then s.xferTo (otherFeed f) false else s

/-- TRANSFER (R336): with a STANDBY feed only. -/
def State.feedTransfer (s : State) : State :=
  let f := otherFeed s.activeFeed
  if s.feedState f = 2 ∧ s.feedState s.activeFeed = 1 then s.xferTo f true else s

/-- The new path does not carry the load within 3 µs (R336). -/
def State.pathTimeout (s : State) : State :=
  match s.pwr.xfer with
  | some x =>
    let s := { s with pwr := { s.pwr with xfer := none } }
    if x.closedAt + 3 * usCounts < s.now then s
    else
      let s := s.advanceTo (x.closedAt + 3 * usCounts)
      let new := otherFeed x.old
      let s := ((s.setBit Reg.PWR_STAT 3 (x.old = 1)).wr Reg.PWR_FEED_TEST x.test).wr Reg.PWR_FEED_CNT x.cnt
      if x.commanded then
        let s := ((s.setFld (Reg.PWR_FEED_STAT x.old.val) 2 0 1).setFld (Reg.PWR_FEED_STAT new.val) 2 0 2).setBit Reg.PWR_STAT 4 true
        s.setBit Reg.PWR_STAT 6 true
      else s.setFeed new 4
  | none => s

/-- A feed becomes STANDBY again (R337). -/
def State.returnFeed (s : State) (f : Fin 2) : State :=
  ((s.setFld (Reg.PWR_FEED_STAT f.val) 11 4 0).setFeed f 2).feedPhy f true

/-! ### The choice of a sleep state (R341, R342) -/

/-- The next instant at which the module has work (R342). -/
def State.sleepDue (s : State) (w : SleepWant) : Option Nat :=
  let classes := (List.range 8).filter (fun c =>
    s.lessons.any (fun p => p.2.decl.cls.val == c && !p.2.shed) || s.boundSlots.any (fun p => p.2.cls.toNat == c) ||
      (c == 3 && s.bit Reg.DISP_CTRL 0) || (c == 7 && s.bit Reg.LOOP_CTRL 2))
  let bells := if s.bit Reg.SCAN_CTRL 0 then classes.map s.nextBell else []
  let gates := ((List.range 8).filter (fun n => !(s.mac n).queue.isEmpty)).filterMap s.nextGate
  let stew := match w.stewardDue with | some t => [t.toNat] | none => []
  least ((bells ++ gates ++ stew).map (fun t => max t s.now))

/-- The conditions of DOZE, NAP and RECESS that mean work (R341), each on its own. -/
def State.dozeFree (s : State) : Bool :=
  s.lessons.all (fun p => p.2.phase == .idle) && s.loop.busy.isEmpty && s.loop.late.isEmpty && s.disp.work.isNone &&
    (s.core ⟨64, by decide⟩).waiting == .interrupt && (s.core ⟨65, by decide⟩).waiting == .interrupt
def State.napFree (s : State) (w : SleepWant) : Bool :=
  (List.range 16).all (fun d => s.opMode d == 0) &&
    [0, 1].all (fun n => !s.bit (Reg.NET_STAT n) 0 || !s.bit (Reg.NET_CTRL n) 0 || (s.bit (Reg.NET_STAT n) 1 && s.rxLpi n)) &&
    (!s.bit Reg.HOST_PASS_PEND 8 || s.host.l1 || s.host.d3hot) && !s.bit Reg.DBG_STAT 0 && !w.nandBusy && s.nand.erasing.isNone && s.key.job.isNone
def State.recessFree (s : State) : Bool :=
  (List.range 8).all (fun t => !s.bit (Reg.TIME_TRIG_CFG t) 0) && !s.bit Reg.LIFT_CTRL 0 && !s.bit Reg.DISP_CTRL 0 &&
    !s.bit Reg.LOOP_CTRL 1 && !s.bit Reg.ACC_CTRL 0 && s.progState == 0 && !s.bit Reg.ROSTER_STAT 1 && s.fld Reg.FWU_STAT 3 0 == 0 &&
    s.bus.latching.isNone && s.fld Reg.SYS_ROLL_STAT 5 0 == 0x3F && s.scan.checkpoints.all (fun k => k.waits.isEmpty) && s.meter.saving.isNone

/-- An agreement holds (R345). -/
def State.agreed (s : State) : Bool :=
  s.fld Reg.PWR_RECESS_STAT 1 0 == 2 && (match s.pwr.recess.agreedAt with | some t => decide (s.now ≤ t + 100 * msCounts) | none => true)

/-- What keeps a state out of reach, as PWR_LIMIT.WHY codes it: TOL, SLACK, BUSY, CFG, AGREEMENT. -/
def State.sleepWhy (s : State) (w : SleepWant) (st : Nat) : Nat :=
  let slackBad := match s.sleepDue w with
    | some d => decide (d - s.now < entryBefore st + entryAfter st + exitCounts st + minResidence st)
    | none => false
  let busy := !s.dozeFree || (decide (2 ≤ st) && !s.napFree w) || (st == 3 && !s.recessFree)
  let cfg := decide (s.fld Reg.PWR_CFG 1 0 < st) || (st == 3 && !s.bit Reg.PWR_CFG 2)
  (decide (s.latEff * usCounts < exitCounts st) && s.latEff != 0xFFFFFF).toNat + 2 * slackBad.toNat + 4 * busy.toNat + 8 * cfg.toNat + 16 * (st == 3 && !s.agreed).toNat

/-- The module goes idle (R342): the deepest state nothing keeps out of reach, entered; not before the end of step 1 of roll call. -/
def State.sleepEnter (s : State) (w : SleepWant) : State :=
  if s.pwr.sleep.isSome ∨ s.pwr.off ∨ !s.bit Reg.SYS_ROLL_STAT 0 then s
  else
    let st := if s.sleepWhy w 3 = 0 then 3 else if s.sleepWhy w 2 = 0 then 2 else if s.sleepWhy w 1 = 0 then 1 else 0
    let s := s.setFld Reg.PWR_LIMIT 4 0 (if st = 3 then 0 else s.sleepWhy w (st + 1))
    if st = 0 then s
    else
      let commitAt := s.now + entryBefore st
      let x : SleepSt :=
        { target := st, commitAt := commitAt, endAt := commitAt + entryAfter st, committed := false, exitAt := (s.sleepDue w).map (fun d => d - exitCounts st) }
      { s with pwr := { s.pwr with sleep := some x } }

/-! ### The recess agreement (R345, R346) -/

/-- The agreement's data changed. -/
def State.setRecess (s : State) (r : RecessSt) : State := { s with pwr := { s.pwr with recess := r } }

/-- Every condition of R341 but the agreement holds (R345). -/
def State.quiet (s : State) : Bool :=
  s.bit Reg.PWR_CFG 2 && s.dozeFree && s.recessFree && s.napFree { stewardDue := none, nandBusy := false }

/-- Since when the conditions hold, as the counts of the time base see it (R345, log entry 41). -/
def State.noteQuiet (s : State) : State := s.setRecess { s.pwr.recess with quietSince := if s.quiet then some (s.pwr.recess.quietSince.getD s.now) else none }

/-- REQUEST sent on every port that is UP (R345 step 1), once the conditions have held for 10 s and 60 s after a refusal; with no port UP the agreement
holds at once. -/
def State.recessAsk (s : State) (number : BitVec 16) : State :=
  if s.fld Reg.PWR_RECESS_STAT 1 0 ≠ 0 ∨ !s.quiet then s
  else
    let s := s.advanceTo (max (s.pwr.recess.quietSince.getD s.now + 10 * secCounts) s.pwr.recess.nextAsk)
    let ports := [(0 : Fin 2), 1].filter s.riserUp
    let s := s.setFld Reg.PWR_RECESS_STAT 31 16 number.toNat
    if ports.isEmpty then (s.setFld Reg.PWR_RECESS_STAT 1 0 2).setRecess { s.pwr.recess with askedAt := s.now, agreedAt := some s.now }
    else
      let s := s.setFld Reg.PWR_RECESS_STAT 1 0 1
      let s := s.setRecess { s.pwr.recess with askedAt := s.now, agreedAt := none, awaits := #v[ports.contains 0, ports.contains 1] }
      s.riserSend (ports.map (fun p => recessFrame p.val 1 0 number))

/-- The reason to refuse a REQUEST that arrived on a port (R346); 0 grants it. -/
def State.recessReason (s : State) (port : Fin 2) (carries : Bool) : Nat :=
  if port = 0 ∧ s.relaying then 1
  else if s.fld Reg.SYS_ROLL_STAT 5 0 ≠ 0x3F then 2
  else if s.fld Reg.TIME_STAT 6 4 = port.val + 3 ∧ s.hopsOf (1 - port) = 255 ∧ !s.time.byHost then 3
  else if carries then 4
  else if port = 0 ∧ !s.bit Reg.PWR_CFG 2 then 6
  else 0

/-- A neighbour's REQUEST answered. -/
def State.recessAnswer (s : State) (port : Fin 2) (number : BitVec 16) (carries : Bool) : State :=
  match s.recessReason port carries with
  | 0 => (s.setRecess { s.pwr.recess with given := s.pwr.recess.given.set port.val (some (number, s.now)) }).riserSend [recessFrame port.val 2 0 number]
  | n => s.riserSend [recessFrame port.val 3 n number]

/-- A GRANT received (R345 step 4). -/
def State.recessGranted (s : State) (port : Fin 2) (number : BitVec 16) : State :=
  if s.fld Reg.PWR_RECESS_STAT 1 0 = 1 ∧ s.fld Reg.PWR_RECESS_STAT 31 16 = number.toNat then
    let aw := s.pwr.recess.awaits.set port.val false
    let s := s.setRecess { s.pwr.recess with awaits := aw }
    if aw.toList.any id then s else (s.setFld Reg.PWR_RECESS_STAT 1 0 2).setRecess { s.pwr.recess with agreedAt := some s.now }
  else s

/-- A REFUSE received or presumed (R345 steps 2 and 3). -/
def State.recessRefused (s : State) (port : Fin 2) (reason : Nat) : State :=
  let s := ((s.setFld Reg.PWR_RECESS_STAT 1 0 0).setFld Reg.PWR_RECESS_STAT 3 2 (port.val + 1)).setFld Reg.PWR_RECESS_STAT 6 4 reason
  s.setRecess { s.pwr.recess with awaits := Vector.replicate 2 false, agreedAt := none, nextAsk := s.now + 60 * secCounts }

/-- A grant not followed by COMMIT within 100 ms lapses (R345 step 4): one given to a neighbour, else the module's own agreement. -/
def State.recessLapse (s : State) (port : Fin 2) : State :=
  match s.pwr.recess.given.toList.getD port.val none, s.pwr.recess.agreedAt with
  | some (_, t), _ => (s.advanceTo (t + 100 * msCounts)).setRecess { s.pwr.recess with given := s.pwr.recess.given.set port.val none }
  | none, some t =>
    let s := (s.advanceTo (t + 100 * msCounts)).setFld Reg.PWR_RECESS_STAT 1 0 0
    s.setRecess { s.pwr.recess with agreedAt := none }
  | none, none => s

/-- A WAKE frame on a port (TYPE 5): FLAGS bit 0 is PROPAGATE. -/
def wakeFrameOf (port : Fin 2) : Nat × Nat × List Word := (port.val, 5, [1])

/-- WAKE received (R346): it wakes the module, which once in RUN sends the same WAKE on its other port. -/
def State.wakeRx (s : State) (port : Fin 2) (propagate : Bool) : State :=
  let asleep := s.pwr.sleep.isSome
  let s := s.wakeRequest 4
  if asleep ∧ propagate then
    (s.setRecess { s.pwr.recess with waking := s.pwr.recess.waking.set (1 - port).val (some s.now) }).riserSend [wakeFrameOf (1 - port)]
  else s

/-- WAKE sent again 1 ms later, until a HELLO has come or 50 ms have passed. -/
def State.wakeAgain (s : State) (port : Fin 2) : State :=
  match s.pwr.recess.waking.toList.getD port.val none with
  | some t =>
    let next := t + ((s.now - t) / msCounts + 1) * msCounts
    if t + 50 * msCounts < next then s.setRecess { s.pwr.recess with waking := s.pwr.recess.waking.set port.val none }
    else (s.advanceTo next).riserSend [wakeFrameOf port]
  | none => s

/-! ### Power fail (R348 to R350) -/

/-- Little-endian bytes of a number. -/
def leBytes (n k : Nat) : List Byte := (List.range k).map (fun i => BitVec.ofNat 8 (n / 2 ^ (8 * i)))

/-- Locket line 34 at detection (R285). -/
def State.saveTime (s : State) : State :=
  s.locketWrite (34 * 32) (leBytes s.now 8 ++ leBytes s.time.ofsSec.toNat 6 ++ [0, 0] ++ leBytes s.time.ofsNs 4 ++ wordBytes (s.rd Reg.TIME_RATE) ++ leBytes s.slowCount 8)

/-- The pointers in Locket lines 48 and 49 and the power-fail record in line 50 (R376, R377): state, LAST_STEP, records written and lost. -/
def State.pfRecord (s : State) (state last cause written lost : Nat) : State :=
  let newest := match s.evt.sram.getLast? with | some r => r.seq | none => 0
  let flushed := match s.evt.main.getLast? with | some r => r.seq | none => 0
  let ptr := fun (cap : Nat) (r : Option EvRec) =>
    let p := match r with | some r => (r.seq.toNat / 128 + 1) % (cap / 128) | none => 0
    wordBytes (wd (p / max 1 Config.blockPages)) ++ wordBytes (wd (p % max 1 Config.blockPages))
  let seqOf := fun (r : Option EvRec) => wordBytes (match r with | some r => r.seq | none => 0)
  let s := s.locketWrite (48 * 32) (ptr mainRecords s.evt.main.getLast? ++ wordBytes (s.rd Reg.EVT_TAIL_FLASH) ++ wordBytes flushed ++ leBytes (s.fld Reg.EVT_BOOT 15 0) 2)
  let s := s.locketWrite (49 * 32) (ptr retainedRecords s.evt.retained.getLast? ++ seqOf s.evt.retained.head? ++ seqOf s.evt.retained.getLast?)
  s.locketWrite (50 * 32) (leBytes (state + last * 256 + cause * 65536) 4 ++ leBytes written 4 ++ leBytes lost 4 ++ wordBytes newest)

/-- Step 3 (R376): at most 256 unflushed records are written, highest severity first, newest first within one; how many, and how many
are lost. -/
def State.pfFlush (s : State) : State × Nat × Nat :=
  let u := s.evt.unflushed
  let pick := if s.bit Reg.EVT_STAT 14 then []
    else ((sortOn (fun r => 7 - r.sev.toNat) u.reverse).take 256).map (·.seq)
  let done := fun (r : EvRec) => r.flushed || pick.contains r.seq
  let put := (u.filter (fun r => pick.contains r.seq)).map (fun r => { r with flushed := true })
  let mn := s.evt.main ++ put
  let rt := s.evt.retained ++ put.filter (fun r => decide (6 ≤ r.sev.toNat))
  let e := { s.evt with
    sram := s.evt.sram.map (fun r => { r with flushed := done r }),
    main := mn.drop (mn.length - mainRecords),
    retained := rt.drop (rt.length - retainedRecords) }
  ({ s.ringErase put with evt := e }, pick.length, u.length - pick.length)

/-- A switch that has begun completes before the scan stops (R349 step 2). -/
def State.finishSwitch (s : State) : State :=
  match s.scan.switch with
  | some w => if w.begun then
      let s := s.dropPeriods
      scanCores.foldl (fun s c => s.switchRelease c) s
    else s
  | none => s

/-- Outputs off, DALI lines released, PHYs off, the control die off (R349 step 7). -/
def State.allOff (s : State) : State :=
  let s := ((s.setBit Reg.FIELD_CTRL 0 false).outputsUpdate).daliSettleAll
  let s := (List.range 8).foldl (fun s n => s.setBit (Reg.NET_STAT n) 4 false) s
  { s with pwr := { s.pwr with sleep := none, xfer := none, off := true } }

/-- The power-fail checkpoint begun, and complete where the hold-up lasts to the end of step 4 (R112, R350). -/
def State.failCheckpoint (s : State) (whole : Bool) : State :=
  let s := s.checkpoint
  if whole then s
  else match s.scan.checkpoints with
    | k :: rest => { s with scan := { s.scan with checkpoints := { k with complete := false } :: rest } }
    | [] => s

/-- The power-fail order (R348, R349): `last` is the last step the hold-up lasts for, none where no step ends (R350); a step that does not end has no
effect but a checkpoint begun. -/
def State.powerFail (s : State) (cut : List (Fin 2 × SupplyMeas × List (Fin 16 × CktCycle))) (last : Option (Fin 8)) : State :=
  let st := fun (f : Fin 2) => s.feedState f
  if s.pwr.off ∨ [1, 2].contains (st 0) ∨ [1, 2].contains (st 1) then s
  else
    let cause := if st 0 = 4 ∨ st 1 = 4 then 2 else if st 0 = 3 ∧ st 1 = 3 then 3 else 1
    let s := s.sleepCommit
    let early := match s.pwr.sleep with | some x => !x.committed | none => false
    let s := if early then s.incSat Reg.PWR_RACE_CNT 15 0 else s
    let s := s.setBit Reg.PWR_WAKE_SRC 6 (s.pwr.sleep.isSome || s.bit Reg.PWR_WAKE_SRC 6)
    let s := { s with pwr := { s.pwr with sleep := none } }
    let s := ((s.saveTime).withdrawAll).pfRecord 1 0xF cause 0 0
    let ends := fun (k : Nat) => last.any (fun l => decide (k ≤ l.val))
    let s := if ends 2 then (List.range 16).foldl (fun s d => s.opFault d) s.finishSwitch.scanStop else s
    let (s, written, lost) := if ends 3 then s.pfFlush else (s, 0, 0)
    let s := if ends 3 then s.failCheckpoint (ends 4) else s
    let s := if ends 5 then s.energyStep cut else s
    let s := (s.enterBattery (ends 6)).allOff
    s.pfRecord (if ends 7 then 2 else 1) (match last with | some l => l.val | none => 0xF) cause written lost

end Sys2Proof.Machine
end

