-- ==== Sys2Proof/Machine/StartOps.lean ====
section
/-! DEFINITION. Reset (R352), the start of the Locket, the recorder and the time base (R285, R296, R377), roll call (R354 to R357). -/

namespace Sys2Proof.Machine

/-! ### What a reset keeps (R352; log entry 46) -/

/-- A register that a reset of the control die keeps: identity, the metering die (at power-on its calibration generation and battery records, log
entry 35), feeds and settings kept with them, keys and tamper, the Charm (at power-on its RF side),
firmware slots, the restart configuration, the roster's epoch. -/
def keptReg (power : Bool) (a : Nat) : Bool :=
  let b := a / 0x10000
  a == Reg.SYS_ID || a == Reg.SYS_SERIAL_LO || a == Reg.SYS_SERIAL_HI || a == Reg.SYS_RESET_CAUSE ||
    (a == Reg.PWR_STAT || (decide (Reg.PWR_FEED_CFG ≤ a) && decide (a < 0x0200A0))) ||
    (b == 0xA && (!power || a == Reg.METER_CAL_GEN || (List.range 16).any (fun k => a == Reg.METER_CKT_BAT k))) || (b == 0x1D && (!power || a == Reg.CHARM_STAT || a == Reg.CHARM_RFLOCK 0 || a == Reg.CHARM_RFLOCK 1)) || a == Reg.CLK_AON_STAT ||
    a == Reg.KEY_LCS || a == Reg.KEY_TAMPER_CFG || a == Reg.KEY_TAMPER_STAT ||
    (b == 0x1A && (List.range 32).any (fun k => a == Reg.KEY_SLOT_ATTR k || a == Reg.KEY_SLOT_BIND k)) ||
    (decide (Reg.FWU_SLOT_STAT 0 ≤ a) && decide (a ≤ Reg.FWU_SLOT_ID_HI 1)) || a == Reg.FWU_JOURNAL ||
    a == Reg.ROSTER_EPOCH || a == Reg.EVT_BOOT

/-- The image that the current-image record in NAND names (R108): the pending one once a switch has begun; before Ts, while ARMED, a free value says
whether step 1 has written the record already. -/
def State.storedImage (s : State) : List ImageItem :=
  match s.scan.switch with
  | some w => if w.begun || (s.progState == 5 && s.freeWord.getLsbD 0) then w.image else s.scan.current
  | none => s.scan.current

/-- LOOP_HZ_ZCFG [17:1] of the committed models, which survive every restart (R157). -/
def State.zoneDims (s : State) (regs : Tab Word) : Tab Word :=
  s.loop.zones.foldl (fun r p =>
    match p.2.committed with
    | some m => Tab.set regDefault r (Reg.LOOP_HZ_ZCFG p.1) (modelWord m 244 &&& 0x3FFFE)
    | none => r) regs

/-- The state of the control die after a reset: everything at its reset value but what lies on other dies, which keep their own time (R198), in the Locket, in NAND and in the AON
domain. LPDDR5 is lost. -/
def State.afterReset (s : State) (power : Bool) : State :=
  let settings := if s.fwu.trialAt.isSome then s.settings else s.liveSettings
  let image := s.storedImage
  let r := State.reset
  { r with
    regs := s.zoneDims (s.regs.filter (fun p => keptReg power p.1)), free := s.free + 1, reply := s.reply, pending := s.pending, settings := settings,
    locket := s.locket, charm := { s.charm with waiting := none }, key := { s.key with job := none },
    time := { r.time with ticks := BitVec.ofNat 64 s.slowCount },
    meter := s.meter, safe := { s.safe with ahead := s.safeNow }, acc := { r.acc with store := s.acc.store },
    roster := { r.roster with ctx := s.roster.ctx, staged := s.roster.ctx, rules := s.roster.rules },
    loop := { r.loop with zones := (s.loop.zones.map (fun p => (p.1, { ZoneSt.zero with model := p.2.model, next := p.2.next, staged := p.2.staged }))).filter (fun p => decide (p.2 ≠ ZoneSt.zero)) },
    evt := { r.evt with main := s.evt.main, retained := s.evt.retained },
    nand := { s.nand with erasing := none }, fwu := { r.fwu with slots := s.fwu.slots },
    scan := { r.scan with tilesOut := s.scan.tilesOut, current := image, layout := s.scan.layout, checkpoints := s.scan.checkpoints.map (fun (k : Checkpoint) => { k with waits := [] }), retentiveLost := s.scan.retentiveLost } }

/-! ### The Locket, the recorder and the time base at a start -/

/-- The fuses are ahead of line 1 of the Locket (R292, R296): a change stopped behind its commit point. -/
def State.fusesAhead (s : State) : Bool :=
  let line := fun (i : Nat) => (Memory.read s.locket (32 + i)).toNat
  if s.key.scrapped then s.lcs != 5 else line 0 != s.fuseLcs || line 1 != s.key.rows.length

/-- The change that the fuses hold completed at a start (R292): every slot EMPTY, RESULT = INCOMPLETE, REASON = LIFECYCLE. -/
def State.completeChange (s : State) (old : Nat) : State :=
  let new := s.fuseLcs
  let s := ((s.changeLocket old new).changeEffects new).setFld Reg.KEY_STAT 4 1 12
  s.changeEvent old new

/-- The attribute record verified (R302): one that fails makes every slot EMPTY, zeroes its lines and records an event of severity 6. -/
def State.attrCheck (s : State) : State :=
  if s.key.occ = 0 ∨ s.key.attrMac = s.attrCode then s
  else
    let s := ((s.locketPut 64 (List.replicate 1024 0)).emptySlots).sealLine1
    s.record { sev := 6, source := 0x1A, code := 302 }

/-- The check of the Locket (R296), the write lock lifted, and the first row of its table that applies: after a tamper or a loss the root secret is
generated anew and every slot is EMPTY; a change that the fuses hold is completed; else the attribute record is verified. The flags say whether
one of the first two rows applied. KEY_LCS shows the fuses, and the nonce is replaced (R290, R306). -/
def State.locketCheck (s : State) : State × Bool × Bool :=
  let tampered := s.fld Reg.KEY_TAMPER_STAT 4 0 ≠ 0
  let lost := s.key.lost
  let old := s.lcs
  let ahead := s.fusesAhead
  let s := (s.setBit Reg.KEY_TAMPER_STAT 16 false).newNonce
  if tampered || lost then
    let s := (s.setFld Reg.KEY_LCS 2 0 s.fuseLcs).setFld Reg.KEY_LCS 12 8 s.key.rows.length
    let s := if s.lcs = 0 ∨ s.lcs = 5 then s.setBit Reg.KEY_LCS 16 false
      else
        let (s, r) := s.random256
        ((s.locketPut 0 (bigBytes r)).setBit Reg.KEY_LCS 16 true).setFld Reg.KEY_LCS 31 24 (s.fld Reg.KEY_LCS 31 24 + 1)
    let s := (s.emptySlots.sealLine1).setFld Reg.KEY_STAT 4 1 8
    let s := { s with key := { s.key with lost := false }, scan := { s.scan with retentiveLost := some (if tampered then 7 else 8) } }
    (s, tampered, lost)
  else if ahead then (s.completeChange old, false, false)
  else (s.attrCheck, false, false)

/-- The newer of two SEQ, modulo 2^32 (R377). -/
def newerSeq (a b : Word) : Word := if (b - a).toNat < 2 ^ 31 then b else a

/-- The recorder's numbering, BOOT and the power-fail record (R376, R377). -/
def State.evtStart (s : State) (lost : Bool) : State :=
  let w := fun (i : Nat) => bytesWord (Memory.readN s.locket (50 * 32 + i) 4)
  let state := bits (w 0) 7 0
  let last := bits (w 0) 15 8
  let cause := bits (w 0) 23 16
  let seqs := (s.evt.main.getLast?.map (fun r => r.seq)).toList ++ (s.evt.retained.getLast?.map (fun r => r.seq)).toList ++ (if state = 0 then [] else [w 12])
  let s := match seqs with
    | n :: rest => { s with evt := { s.evt with next := nextSeq (rest.foldl newerSeq n) } }
    | [] => s
  let boot := bytesWord (Memory.readN s.locket (48 * 32 + 16) 2)
  let s := (s.locketWrite (48 * 32 + 16) ((wordBytes (boot + 1)).take 2)).setFld Reg.EVT_BOOT 15 0 (boot.toNat + 1)
  let s := if lost then s.setBit Reg.EVT_STAT 15 true else s
  let s := s.evtRegs
  if state = 0 then s
  else
    let s := (s.setFld Reg.PWR_PF_STAT 3 0 last).setFld Reg.PWR_PF_STAT 5 4 cause
    let s := s.wr Reg.EVT_PF (wd (min (w 4).toNat 0xFFFF + 65536 * min (w 8).toNat 0xFFFF))
    let s := if (last = 0xF ∨ last < 5) ∧ s.hasMeter then (s.setBit Reg.METER_STAT 5 true).record { sev := 6, source := 0x0A, code := 215, args := [wd last] } else s
    let s := s.record { sev := if w 8 = 0 then 4 else 5, source := 0x1B, code := 377, args := [wd last, wd cause, w 4, w 8, w 12] }
    s.locketWrite (50 * 32) [0]

/-- The time base at a start (R285). -/
def State.timeStart (s : State) (lost : Bool) : State :=
  if lost then s.record { sev := 4, source := 0x19, code := 285 }
  else
    let num := fun (i n : Nat) => (List.range n).foldl (fun v k => v + (Memory.read s.locket (34 * 32 + i + k)).toNat * 256 ^ k) 0
    let ns := num 8 6 * 1000000000 + num 16 4 + num 0 8 * 4 + (s.slowCount - num 24 8) * 1000000000 / 32768 - 4 * s.now
    let s := { s with time := { s.time with ofsSec := BitVec.ofNat 48 (ns / 1000000000), ofsNs := ns % 1000000000 } }
    let s := s.wr Reg.TIME_RATE (wd (num 20 4))
    s.wr Reg.TIME_STAT (s.rd Reg.TIME_STAT ||| 7)

/-- The image the boot code starts: CURRENT runs; a trial is over and its slot FAILED (R365, R369). The flag says so. -/
def State.fwuStart (s : State) : State × Bool :=
  match s.slotIn 3 with
  | some _ =>
    let s := (s.failTrial 0).setBit Reg.FWU_STAT 9 true
    (match s.slotIn 4 with | some n => s.setRunning n | none => s, true)
  | none => (match s.slotIn 4 with | some n => s.setRunning n | none => s, false)

/-- A reset of the control die (R352), and the start that follows it up to roll call. -/
def State.controlReset (s : State) (cause : Nat) : State :=
  let power := cause == 0
  let count := if power then 0 else min (s.fld Reg.SYS_RESET_CAUSE 15 8 + 1) 255
  let s := (s.wr Reg.PWR_FEED_TEST s.feedTest).changeCut.afterReset power
  let s := s.wr Reg.SYS_RESET_CAUSE (wd (cause + 256 * count + 65536 * (power && s.hasLift).toNat))
  let (s, tampered, lost) := s.locketCheck
  let (s, fellBack) := s.fwuStart
  let s := s.evtStart (tampered || lost)
  let s := if lost && !tampered then s.record { sev := 6, source := 0x1A, code := 296 } else s
  let s := if (tampered || lost) && s.hasMeter then (s.setBit Reg.METER_STAT 4 true).record { sev := 6, source := 0x0A, code := 217 } else s
  let s := if fellBack then (s.record { sev := 6, source := 0x1C, code := 365, args := [s.freeWord] }).nextFree else s
  s.timeStart (tampered || lost)

/-- Power-on (R351, R352): one feed takes the load, never the one whose path failed; the metering die and the safety die start. -/
def State.powerOn (s : State) : State :=
  if !s.pwr.off then s
  else
    let f : Fin 2 := if s.feedState 0 = 4 then 1 else if s.feedState 1 = 4 then 0
      else if s.feedState 0 = 2 ∧ s.feedState 1 ≠ 2 then 0 else if s.feedState 1 = 2 ∧ s.feedState 0 ≠ 2 then 1 else if s.bit Reg.PWR_FEED_CFG 0 then 1 else 0
    let s := s.meterStart
    let s := { s with safe := { s.safe with chans := Vector.replicate 2 ChanSt.zero, cars := s.safe.cars.map (fun (c : SafeCar) => { c with released := false, operated := none, clearable := false, inTime := false }) } }
    let s := s.controlReset 0
    let s := ((s.setFld (Reg.PWR_FEED_STAT f.val) 2 0 1).setFld (Reg.PWR_FEED_STAT f.val) 7 4 0).setBit (Reg.PWR_FEED_STAT f.val) 12 true
    let s := s.wr Reg.PWR_STAT (wd (8 * f.val + (s.fld Reg.PWR_STAT 5 5) * 32))
    let s := (s.setFld Reg.PWR_FEED_TEST (16 * f.val + 15) (16 * f.val) 0).setBit Reg.PWR_STAT 4 (s.feedState (otherFeed f) == 2)
    if s.feedState (otherFeed f) = 2 then s else s.setBit (Reg.PWR_FEED_STAT (otherFeed f).val) 12 false

/-- A reset from a source that needs the module powered. -/
def State.warmReset (s : State) (cause : Nat) : State := if s.pwr.off then s else s.controlReset cause

/-! ### Roll call (R354) -/

/-- Enabled cars of a module with lifts. -/
def State.enabledUnits (s : State) : List Nat :=
  if s.hasLift && s.bit Reg.LIFT_CTRL 0 then (List.range 8).filter (fun c => s.bit (Reg.LIFT_CAR_CFG c) 14) else []

/-- A step of roll call is complete: 2 every enabled DALI line is addressed, 3 the chain length is known, 4 the first election has been held, 5
every enabled car is VALID or latched, 6 all of them with the metering merge (R354, R357). -/
def State.stepDone (s : State) : Nat → Bool
  | 2 => (List.range 16).all (fun l => !s.bit Reg.DALI_CTRL l || (s.field.lines.toList.getD l { addressed := false, pend := [] }).addressed)
  | 3 => s.fld Reg.SYS_ROLL_STAT 23 16 != 0
  | 4 => s.host.firstDone
  | 5 => s.enabledUnits.all (fun c => s.carState c == 1 || (s.safeCar c).latch != 0)
  | 6 => s.fld Reg.SYS_ROLL_STAT 4 0 == 0x1F && (s.meter.merged || !s.hasMeter)
  | _ => false

/-- Steps that have become complete set their bits; step 6 gives FULL_S (log entry 47). -/
def State.rollSettle (s : State) : State :=
  if !s.bit Reg.SYS_ROLL_STAT 0 ∨ s.bit Reg.SYS_ROLL_STAT 5 ∨ s.pwr.off then s
  else
    let s := [2, 3, 4, 5].foldl (fun s k => if s.stepDone k then s.setBit Reg.SYS_ROLL_STAT (k - 1) true else s) s
    if s.stepDone 6 then (s.setBit Reg.SYS_ROLL_STAT 5 true).setFld Reg.SYS_ROLL_TIME 31 16 (min (s.now / secCounts) 0xFFFF) else s

/-- The current image brought back at a start: its lessons, groups and variables, then the restart rule (R113); without one, or in SCRAPPED, the
scan does not run. -/
def State.startScan (s : State) : State :=
  if s.scan.current.isEmpty ∨ s.lcs = 5 then s
  else
    let l := s.scan.current
    let s := (imageLessons l).foldl (fun s d => s.setLesson d.num (Lesson.fresh d 1)) (s.placeGroups l)
    let s := s.showId.restartScan false true
    if s.bit Reg.SCAN_RESTART_STAT 0 then s else s.wr Reg.ROSTER_EPOCH 0

/-! ### NAND at a start, and its uncorrectable pages (R13, R368) -/

/-- A firmware slot that was only being received is empty after its erase; other areas hold nothing where an erase runs. -/
def State.wipeArea (s : State) : NandArea → State
  | .slot n => if s.slotState n = 1 then (s.setFwSlot n { manifest := [], blocks := [] }).setSlotState n 0 else s
  | _ => s

/-- A half-erased block erased again and blank-checked (R368): a free value says whether the check fails, which retires the block. -/
def State.reErase (s : State) (p : NandArea × Nat) : State :=
  let s := State.wipeArea { s with nand := s.nand.log p.1 p.2 true } p.1
  let s := s.record { sev := 4, source := 0x20, code := 368, args := [1, wd (areaCode p.1), wd p.2] }
  let fails := s.freeWord.getLsbD 0
  let s := s.nextFree
  if fails then
    let s := { s with nand := { s.nand with bad := p :: s.nand.bad } }
    (s.incSat Reg.FWU_JOURNAL 31 16).record { sev := 5, source := 0x20, code := 368, args := [2, wd (areaCode p.1), wd p.2] }
  else s

/-- The journal checked at step 1 of roll call, before any area is used (R368); the erases still asked for then begin. -/
def State.nandCheck (s : State) : State :=
  let half := s.nand.half
  let s := s.setFld Reg.FWU_JOURNAL 15 0 (min half.length 0xFFFF)
  let s := half.foldl State.reErase s
  { s with nand := s.nand.start }

/-- A page of an area that reads with an uncorrectable error (R368): a slot is FAILED and the other image used, the other copy of a settings record
serves, a checkpoint counts as failing its digest, the other area's save serves, the records of a page of the ring are lost. -/
def State.nandPage (s : State) (area : NandArea) (page : Nat) : State :=
  match area with
  | .slot n =>
    match s.slotState n with
    | 0 => s
    | 1 => ((s.setSlotState n 6).fwuErr 9).endTransfer
    | 3 => s.fallBack
    | 4 => match [0, 1].find? (fun o => o != n && (s.slotState o == 5 || s.slotState o == 2)) with
      | some o => (s.setSlotState n 6).setSlotState o 4
      | none => s.setSlotState n 6
    | _ => s.setSlotState n 6
  | .settings => s
  | .ring retained =>
    let l := if retained then s.evt.retained else s.evt.main
    let gone := (l.drop (128 * page)).take 128
    let left := l.take (128 * page) ++ l.drop (128 * (page + 1))
    let s := { s with evt := if retained then { s.evt with retained := left } else { s.evt with main := left } }
    (gone.foldl (fun s r => s.countLost (some r.sev.toNat)) s).evtRegs
  | .checkpoint k => { s with scan := { s.scan with checkpoints := s.scan.checkpoints.map (fun (c : Checkpoint) => if c.area = k then { c with digestOk := false } else c) } }
  | .meter k => { s with meter := { s.meter with areas := s.meter.areas.set k none } }

/-! ### Step 1, and discovery up the riser (R354, R356) -/

/-- CHAIN_LEN, with an event where it replaces another one, sent down. -/
def State.chainLength (s : State) (n : Nat) : State :=
  let old := s.fld Reg.SYS_ROLL_STAT 23 16
  let s := s.setFld Reg.SYS_ROLL_STAT 23 16 n
  let s := if old ≠ 0 ∧ old ≠ n then s.record { sev := 4, source := 0x20, code := 356, args := [wd n] } else s
  (if s.riserUp 1 then s.riserAdd (s.rollFrame 1 n) else s).rollSettle

/-- A position taken and sent up. -/
def State.takePosition (s : State) (n : Nat) (head : Bool) : State :=
  let s := ((s.setFld Reg.SYS_ROLL_STAT 15 8 n).setBit Reg.SYS_ROLL_STAT 24 head).setBit Reg.SYS_ROLL_STAT 25 false
  let s := { s with net := { s.net with posAt := s.now } }
  if s.riserUp 0 then s.riserAdd (s.rollFrame 0 n) else s

/-- The PHYs of the networks powered at the end of step 1. -/
def State.networksUp (s : State) : State :=
  (List.range 8).foldl (fun s n => if n < 2 then s.phyPower n (s.bit (Reg.PWR_FEED_STAT n) 12 && s.bit (Reg.NET_CTRL n) 0) else s.phyPower n true) s

/-- Step 1 of roll call (R354). -/
def State.rollStep1 (s : State) : State :=
  let s := (s.setBit Reg.FIELD_STAT 8 true).setBit Reg.CHARM_STAT 2 true
  let s := s.nandCheck.trimCheckpoints
  let s := (s.restoreSettings.startScan).setPhase 1 none
  let s := (((s.setBit Reg.FIELD_CTRL 0 true).daliSettleAll).outputsUpdate).networksUp
  let s := (s.setBit Reg.SYS_ROLL_STAT 0 true).setFld Reg.SYS_ROLL_TIME 15 0 (min (s.now / msCounts) 0xFFFF)
  let s := { s with net := { s.net with step1At := s.now } }
  match s.net.rollHeld with
  | some v => (State.takePosition { s with net := { s.net with rollHeld := none } } ((v.toNat + 1) % 256) false).rollSettle
  | none => s.rollSettle

/-- Roll call after a release from reset. -/
def State.rollCall (s : State) : State := if s.phase ≠ 0 ∨ s.pwr.off ∨ s.bit Reg.SYS_ROLL_STAT 0 then s else s.rollStep1

/-- A step that passes its bound (R354): the bounds counted from the release are those of steps 1, 2 and 6; step 5 has none. -/
def State.rollLate (s : State) (k : Nat) : State :=
  let bound := if k = 0 then 120 * msCounts else if k = 1 then 45 * secCounts else if k = 5 then 90 * secCounts else 0
  let s := if s.pwr.off ∨ s.bit Reg.SYS_ROLL_STAT k then s else s.advanceTo bound
  if s.pwr.off ∨ s.bit Reg.SYS_ROLL_STAT k ∨ k = 4 then s
  else (s.setBit Reg.SYS_ROLL_STAT 6 true).record { sev := 4, source := 0x20, code := 354, args := [wd (k + 1)] }

/-- Riser Down has stayed DOWN for 250 ms after the end of step 1: the module is the head. -/
def State.rollHead (s : State) : State :=
  if !s.bit Reg.SYS_ROLL_STAT 0 ∨ s.riserUp 1 ∨ s.bit Reg.SYS_ROLL_STAT 24 then s else ((s.advanceTo (s.net.step1At + 250 * msCounts)).emit []).takePosition 0 true

/-- A ROLL frame: a position from below, a chain length from above. A position that arrives before the end of step 1 waits for it. -/
def State.rollFrameRx (s : State) (port : Fin 2) (v : Nat) : State :=
  if !s.bit Reg.SYS_ROLL_STAT 0 then if port = 1 then { s with net := { s.net with rollHeld := some (BitVec.ofNat 8 v) } } else s
  else if port = 1 then (s.emit []).takePosition ((v + 1) % 256) false else (s.emit []).chainLength v

/-- Riser Up has stayed DOWN, for 100 ms after the position and 250 ms after the end of step 1: the module is the top. -/
def State.rollTop (s : State) : State :=
  let pos := s.fld Reg.SYS_ROLL_STAT 15 8
  if !s.bit Reg.SYS_ROLL_STAT 0 ∨ s.riserUp 0 ∨ s.bit Reg.SYS_ROLL_STAT 25 ∨ pos = 0xFF then s
  else
    let s := s.advanceTo (max (s.net.posAt + 100 * msCounts) (s.net.step1At + 250 * msCounts))
    ((s.emit []).setBit Reg.SYS_ROLL_STAT 25 true).chainLength (pos + 1)

/-! ### DEAD (R369) and the steward watchdog (R365) -/

/-- No image starts: the module is DEAD. -/
def State.dead (s : State) : State := (s.setFld Reg.FWU_STAT 3 0 6).setPhase 3 none

/-- A core's watchdog expires. Before NORMAL the boot code tries the other image once. Otherwise a trial falls back, and outside one the idle core
takes over, unless it has failed already: then the control die resets (R352, R365, R369). -/
def State.stewardWatchdog (s : State) (core : Fin 2) : State :=
  let mine := core = s.fwu.active
  if s.pwr.off ∨ s.fwuState = 6 then s
  else if s.phase = 0 then
    if !mine then s
    else match s.slotIn 4, [0, 1].find? (fun n => s.slotState n == 5 || s.slotState n == 6 || s.slotState n == 2) with
      | some n, some o =>
        if s.fwu.failed[core] then s.dead
        else State.setRunning ({ s with fwu := { s.fwu with failed := s.fwu.failed.set core.val true } }.setSlotState n 6 |>.setSlotState o 4) o
      | _, _ => s.dead
  else if s.fwu.trialAt.isSome then (if mine then s.fallBack else s)
  else if s.fwuState = 4 then (if mine then s else s.fallBack)
  else if !mine then s
  else
    let s := { s with fwu := { s.fwu with failed := s.fwu.failed.set core.val true } }
    if s.fwu.failed[1 - core] then s.controlReset 3
    else s.suspendRemote.switchSteward

/-- START in DEAD (R369): the delivered image is CURRENT at once, and roll call runs. -/
def State.startDead (s : State) : State :=
  match s.slotIn 2 with
  | some n =>
    let s := match s.slotIn 4 with | some o => s.setSlotState o 6 | none => s
    let s := ((s.setSlotState n 4).setRunning n).setFld Reg.FWU_STAT 3 0 0
    s.rollStep1
  | none => s.fwuSequence

end Sys2Proof.Machine
end

