-- ==== Sys2Proof/Machine/Fwu.lean ====
section
/-! DEFINITION. The commands of firmware update (R358 to R369). -/

namespace Sys2Proof.Machine

def execFwuBegin (m : Master) (s : State) : Out := .next ((s.emit []).hostWrite m State.fwuBegin)

def execFwuPush (m : Master) (piece : FwuPiece) (s : State) : Out := .next ((s.emit []).hostWrite m (fun s => s.fwuPush piece.data))

/-- START (R362): once the image is VERIFIED and forwarding has ended; in DEAD it starts the image (R369). -/
def State.fwuGo (s : State) : State :=
  if s.fwuState = 6 then s.startDead else if s.fwuState = 2 ∧ (s.slotIn 2).isSome ∧ s.forwardEnded then s.install else s.fwuSequence

def execFwuStart (m : Master) (s : State) : Out := .next (s.hostWrite m State.fwuGo)

def execFwuAbort (m : Master) (s : State) : Out := .next ((s.emit []).hostWrite m State.fwuAbort)

/-- CONFIRM (R364): valid in a trial. -/
def execConfirm (m : Master) (s : State) : Out :=
  .next (s.hostWrite m (fun s => if s.fwuState = 5 then { s with fwu := { s.fwu with confirmed := true } } else s.fwuSequence))

def execFwuManifest (manifest : Manifest) (s : State) : Out := .next ((s.emit []).fwuManifest manifest.bytes)

def execFwuData (image32 : Word) (block : BitVec 16) (offset : Word) (data : List Byte) (s : State) : Out :=
  .next ((s.emit []).fwuDataRx image32 block.toNat offset.toNat data)

def execFwuAck (block : BitVec 16) (err : BitVec 8) (s : State) : Out := .next ((s.emit []).fwuAcked block.toNat err.toNat)

/-- FWU_NAK (R361): of the block that was sent last. -/
def execFwuNak (block : BitVec 16) (s : State) : Out :=
  .next (match s.fwu.fwd with
    | some f => if f.manifest ∨ f.next = block.toNat then (s.emit []).fwuRefused else s
    | none => s)

/-- FWU_FRAME_ABORT (R361): from above it ends forwarding, from below the transfer. -/
def execFwuFrameAbort (fromUp : Bool) (s : State) : Out :=
  .next (if fromUp then s.endForward else if s.fwu.xfer.isSome ∧ s.bit Reg.FWU_STAT 10 then s.endTransfer else s)

/-- FWU_ACK_TIMEOUT (R361): no ACK within 200 ms. -/
def execFwuAckTimeout (s : State) : Out :=
  .next (match s.fwu.fwd with
    | some f => match f.sentAt with
      | some t => ((s.advanceTo (t + 200 * msCounts)).emit []).fwuRefused
      | none => s
    | none => s)

def execReceivingDiscard (s : State) : Out := .next s.fwuDiscard

/-- FWU_INSTALL (R362): by itself with AUTO_START, once forwarding has ended. -/
def execFwuInstall (s : State) : Out :=
  .next (if s.bit Reg.FWU_CFG 1 ∧ (s.fwuState = 2 ∨ s.fwuState = 3) ∧ (s.slotIn 2).isSome ∧ s.forwardEnded then s.install else s)

/-- PREPARATION_DONE (R363 step 2, R366): an event for each record migrated. -/
def execPreparationDone (migrated : BitVec 16) (s : State) : Out :=
  .next (if s.fwuState = 4 ∧ !s.fwu.ready then
    let s := s.wr Reg.FWU_MIGRATE_CNT (wd migrated.toNat)
    let s := (List.range migrated.toNat).foldl (fun s i => s.record { sev := 3, source := 0x1C, code := 366, args := [wd (i + 1)] }) s
    { s with fwu := { s.fwu with ready := true } }
  else s)

/-- PREPARATION_TIMEOUT (R363 step 2). -/
def execPreparationTimeout (s : State) : Out :=
  .next (if s.fwuState = 4 ∧ !s.fwu.ready then ((s.advanceTo (s.fwu.prepAt + 120 * secCounts)).failTrial 12).fwuErr 12 else s)

def execReportCard (s : State) : Out := .next s.reportCard

/-- REPORT_DEADLINE (R365). -/
def execReportDeadline (s : State) : Out :=
  .next (match s.fwu.trialAt with
    | some t => (s.advanceTo (t + s.fld Reg.FWU_REPORT_DEADLINE 11 0 * secCounts)).fallBack
    | none => s)

def execStewardWatchdog (core : Fin 2) (s : State) : Out := .next (s.stewardWatchdog core)

end Sys2Proof.Machine
end

