-- ==== Sys2Proof/Machine/HostPass.lean ====
section
/-! DEFINITION. The commands of the hall pass and the sessions (R308 to R315). -/

namespace Sys2Proof.Machine

def execClaim (m : Master) (prio : BitVec 8) (nonce : BitVec 16) (s : State) : Out := .next (s.passCmd m (fun s n => s.claim n prio nonce))

def execRenew (m : Master) (nonce : BitVec 16) (s : State) : Out := .next (s.passCmd m (fun s n => s.renew n nonce))

def execRelease (m : Master) (s : State) : Out := .next (s.passCmd m State.releasePass)

def execWithdraw (m : Master) (s : State) : Out := .next (s.passCmd m State.dropClaim)

def execHandover (m : Master) (target : BitVec 3) (s : State) : Out := .next (s.passCmd m (fun s n => s.handOver n target))

def execAccept (m : Master) (prio : BitVec 8) (nonce : BitVec 16) (s : State) : Out := .next (s.passCmd m (fun s n => s.acceptPass n prio nonce))

def execElectionClose (s : State) : Out := .next s.closeElection

def execLeaseLapse (s : State) : Out := .next s.lapseLease

def execHandoverLapse (s : State) : Out := .next s.lapseHandover

def execSessionAppear (sess : Fin 8) (s : State) : Out := .next (s.appearSession sess)

def execSessionEnd (sess : Fin 8) (s : State) : Out := .next (s.endSession sess)

/-- A read of HOST_LAST_ERR (R313): a session's own code, which the read clears; 0 for steward firmware. -/
def execLastErrRead (m : Master) (s : State) : Out :=
  .next (match m with
    | .sess n =>
      let s := s.wakeRequest 0
      if s.pwr.off then s else (s.setLastErr n 0).emit [wd (s.host.lastErr[n]).toNat]
    | .steward => if s.pwr.off then s else s.emit [0])

def execPciePowerState (ev : PcieEvent) (s : State) : Out := .next (s.pcieEvent ev)

end Sys2Proof.Machine
end

