-- ==== Sys2Proof/Machine/ImmBit.lean ====
section
/-! DEFINITION. Immediate forms (R50) and bit fields (R51). -/

namespace Sys2Proof.Machine

/-- An instruction with a register and an immediate (R50). -/
def State.aluI (s : State) (c : CoreId) (i : Instr) (gd ga : BitVec 4) (f : Word → Word) : Out :=
  s.compute c i gd [ga] (fun t => f (t.g c ga))

/-- A shift or rotate by kind (R50): 0 SLL, 1 SRL, 2 SRA, 3 ROR. -/
def shiftKind (kind : BitVec 2) (x : Word) (n : Nat) : Word :=
  match kind.toNat with
  | 0 => x <<< n
  | 1 => x >>> n
  | 2 => x.sshiftRight n
  | _ => x.rotateRight n

/-- ADDI (R50). -/
def execAddi (c : CoreId) (gd ga : BitVec 4) (imm : Imm) (s : State) : Out := s.aluI c (.addi c gd ga imm) gd ga (fun x => x + imm.sext)

/-- ANDI (R50). -/
def execAndi (c : CoreId) (gd ga : BitVec 4) (imm : Imm) (s : State) : Out := s.aluI c (.andi c gd ga imm) gd ga (fun x => x &&& imm.zext)

/-- ORI (R50). -/
def execOri (c : CoreId) (gd ga : BitVec 4) (imm : Imm) (s : State) : Out := s.aluI c (.ori c gd ga imm) gd ga (fun x => x ||| imm.zext)

/-- XORI (R50). -/
def execXori (c : CoreId) (gd ga : BitVec 4) (imm : Imm) (s : State) : Out := s.aluI c (.xori c gd ga imm) gd ga (fun x => x ^^^ imm.zext)

/-- SLTI (R50). -/
def execSlti (c : CoreId) (gd ga : BitVec 4) (imm : Imm) (s : State) : Out := s.aluI c (.slti c gd ga imm) gd ga (fun x => flagWord (x.slt imm.sext))

/-- SLTIU (R50). -/
def execSltiu (c : CoreId) (gd ga : BitVec 4) (imm : Imm) (s : State) : Out := s.aluI c (.sltiu c gd ga imm) gd ga (fun x => flagWord (x.ult imm.sext))

/-- SHI (R50). -/
def execShi (c : CoreId) (gd ga : BitVec 4) (kind : BitVec 2) (n : BitVec 5) (s : State) : Out :=
  s.aluI c (.shi c gd ga kind n) gd ga (fun x => shiftKind kind x n.toNat)

/-- LI (R50). -/
def execLi (c : CoreId) (gd : BitVec 4) (imm : Imm) (s : State) : Out := s.compute c (.li c gd imm) gd [] (fun _ => imm.sext)

/-- LUI (R50): imm[17:0] × 2^14. -/
def execLui (c : CoreId) (gd : BitVec 4) (imm18 : BitVec 18) (s : State) : Out :=
  s.compute c (.lui c gd imm18) gd [] (fun _ => wd (imm18.toNat * 16384))

/-- EXTU (R51). -/
def execExtu (c : CoreId) (gd ga : BitVec 4) (l w : BitVec 5) (s : State) : Out := s.aluI c (.extu c gd ga l w) gd ga (fun x => extractU x l w)

/-- EXTS (R51). -/
def execExts (c : CoreId) (gd ga : BitVec 4) (l w : BitVec 5) (s : State) : Out := s.aluI c (.exts c gd ga l w) gd ga (fun x => extractS x l w)

/-- INS (R51): the other bits of gd are unchanged. -/
def execIns (c : CoreId) (gd ga : BitVec 4) (l w : BitVec 5) (s : State) : Out :=
  s.compute c (.ins c gd ga l w) gd [ga] (fun t => insertBits (t.g c gd) (t.g c ga) l w)

/-- CLZ (R51). -/
def execClz (c : CoreId) (gd ga : BitVec 4) (s : State) : Out := s.aluI c (.clz c gd ga) gd ga (fun x => wd (leadingZeros x))

/-- CTZ (R51). -/
def execCtz (c : CoreId) (gd ga : BitVec 4) (s : State) : Out := s.aluI c (.ctz c gd ga) gd ga (fun x => wd (trailingZeros x))

/-- POPC (R51). -/
def execPopc (c : CoreId) (gd ga : BitVec 4) (s : State) : Out := s.aluI c (.popc c gd ga) gd ga (fun x => wd (popCount x))

/-- BSWAP (R51). -/
def execBswap (c : CoreId) (gd ga : BitVec 4) (s : State) : Out := s.aluI c (.bswap c gd ga) gd ga (fun x => byteSwap x)

end Sys2Proof.Machine
end

