-- ==== Sys2Proof/Machine/Keys.lean ====
section
/-! DEFINITION. Key engine commands (R292, R299 to R307), tamper and loss of VBAT (R298). -/

namespace Sys2Proof.Machine

def execTransition (m : Master) (target : BitVec 3) (s : State) : Out := .next (s.asPrefect m (fun s => s.keyStart m (.transition target) 0))

def execKeyLoad (m : Master) (slot5 : BitVec 5) (s : State) : Out := .next (s.asPrefect m (fun s => s.keyStart m .load slot5))

def execKeyErase (m : Master) (slot5 : BitVec 5) (s : State) : Out := .next (s.asPrefect m (fun s => s.keyStart m .erase slot5))

def execOwnerRestore (m : Master) (s : State) : Out := .next (s.asPrefect m (fun s => s.keyStart m .ownerRestore 0))

def execGetNonce (m : Master) (s : State) : Out := .next (s.asPrefect m (fun s => s.keyStart m .getNonce 0))

def execKeySha256 (m : Master) (s : State) : Out := .next (s.asPrefect m (fun s => s.keyStart m .sha256 0))

def execKeySha384 (m : Master) (s : State) : Out := .next (s.asPrefect m (fun s => s.keyStart m .sha384 0))

def execKeyHmac (m : Master) (slot5 : BitVec 5) (s : State) : Out := .next (s.asPrefect m (fun s => s.keyStart m .hmac slot5))

def execKeyGcmEnc (m : Master) (slot5 : BitVec 5) (s : State) : Out := .next (s.asPrefect m (fun s => s.keyStart m .gcmEnc slot5))

def execKeyGcmDec (m : Master) (slot5 : BitVec 5) (s : State) : Out := .next (s.asPrefect m (fun s => s.keyStart m .gcmDec slot5))

def execKeySign (m : Master) (slot5 : BitVec 5) (s : State) : Out := .next (s.asPrefect m (fun s => s.keyStart m .sign slot5))

def execKeyVerify (m : Master) (slot5 : BitVec 5) (s : State) : Out := .next (s.asPrefect m (fun s => s.keyStart m .verify slot5))

def execDerive (m : Master) (slot5 : BitVec 5) (s : State) : Out := .next (s.asPrefect m (fun s => s.keyStart m .derive slot5))

def execGenerate (m : Master) (slot5 : BitVec 5) (s : State) : Out := .next (s.asPrefect m (fun s => s.keyStart m .generate slot5))

def execIdentity (m : Master) (s : State) : Out := .next (s.asPrefect m (fun s => s.keyStart m .identity 0))

def execFuseSafetyKey (m : Master) (s : State) : Out := .next (s.asPrefect m (fun s => s.keyStart m .fuseSafetyKey 0))

/-- The command in progress completes (R307): with RANDOM where it draws from the random source and the health test fails (R300). -/
def execKeyCommandDone (healthy : Bool) (s : State) : Out :=
  match s.key.job with
  | some j =>
    if s.pwr.off then .next s
    else if !healthy && s.drawsRandom j then .next (s.keyEnd 13)
    else
      let (s, code) := s.keyResult j
      .next (s.keyEnd code)
  | none => .next s

/-- A tamper sensor enters or leaves its firing condition (R297, R298). -/
def execTamper (sensor : Fin 5) (active : Bool) (s : State) : Out := .next (s.tamper sensor.val active)

/-- VBAT is lost (R298): with the feeds gone too, the Locket, the tamper latch, the slow count and battery metering are lost; while a feed supplies
the module nothing changes. -/
def execVbatLoss (s : State) : Out :=
  .next (if s.pwr.off then
      let s := s.wr Reg.KEY_TAMPER_STAT 0
      { s with locket := [], key := { s.key with lost := true }, time := { s.time with ticks := 0 },
               meter := { s.meter with battery := none }, scan := { s.scan with retentiveLost := some 8 } }
    else s)

end Sys2Proof.Machine
end

