-- ==== Sys2Proof/Machine/EncOps.lean ====
section
/-! DEFINITION. The encoder inputs on the field die: sampling, the line filter and the ×4 decoder (R163, R164). -/

namespace Sys2Proof.Machine

/-- An encoder input, and one replaced. -/
def State.enc (s : State) (e : Nat) : EncSt := s.lift.enc.toList.getD e EncSt.zero
def State.setEnc (s : State) (e : Nat) (x : EncSt) : State := { s with lift := { s.lift with enc := s.lift.enc.setIfInBounds e x } }

/-- One sample of a line (R163): a new level is accepted once it has stood for FILT + 1 consecutive samples; the accepted level and the samples at
the other level so far. -/
def lineSample (filt : Nat) (was : Bool) (n : Nat) (now : Bool) : Bool × Nat :=
  if now = was then (was, 0) else if filt ≤ n then (now, 0) else (was, n + 1)

/-- One sample of an input (R163, R164): an accepted change of one line counts by one, forward where A leads B; changes of both in one sample leave the
count and are an error. -/
def EncSt.sample (x : EncSt) (filt : Nat) (invert : Bool) (l : Bool × Bool) : EncSt × Bool :=
  let (a, na) := lineSample filt x.a x.na l.1
  let (b, nb) := lineSample filt x.b x.nb l.2
  let both := a != x.a && b != x.b
  let forward := if a != x.a then a != b else a == b
  let step : Word := if forward != invert then 1 else 0xFFFFFFFF
  ({ a := a, b := b, na := na, nb := nb, count := if both || (a == x.a && b == x.b) then x.count else x.count + step }, both)

/-- The samples of an input since the last latch decoded, and its count latched (R163); a lost link leaves the latched count as it was (R169). -/
def State.encFeed (s : State) (e : Nat) (lines : List (Bool × Bool)) : State :=
  let filt := s.fld (Reg.LIFT_ENC_CFG e) 1 0
  let invert := s.bit (Reg.LIFT_ENC_CFG e) 2
  let s := lines.foldl (fun s l =>
    let (x, bad) := (s.enc e).sample filt invert l
    let s := s.setEnc e x
    if bad then s.encQerr e else s) s
  if s.bit Reg.FIELD_STAT 8 then s.wr (Reg.LIFT_ENC_COUNT e) (s.enc e).count else s

/-- The samples of several inputs. -/
def State.encFeedAll (s : State) (l : List (Fin 32 × List (Bool × Bool))) : State := l.foldl (fun s p => s.encFeed p.1.val p.2) s

end Sys2Proof.Machine
end

