-- ==== Sys2Proof/Machine/Lift.lean ====
section
/-! DEFINITION. The commands of the car position units and the door sequencers (R162 to R181). -/

namespace Sys2Proof.Machine

/-- A position period of the car units (R165). -/
def execPositionPeriod (lines : List (Fin 32 × List (Bool × Bool))) (s : State) : Out :=
  if s.hasLift then .next ((List.range 8).foldl State.carPeriod (s.encFeedAll lines)) else .next s

/-- Both lines of an encoder change in one sample (R164). -/
def execEncoderQerr (enc : Fin 32) (s : State) : Out := .next (s.encQerr enc.val)

/-- A door-zone edge (R167). -/
def execDoorZoneEdge (car : Fin 8) (rising : Bool) (km kg : Word) (s : State) : Out := .next (s.dzEdge car.val rising km kg)

/-- A terminal reference edge (R168). -/
def execTerminalEdge (car : Fin 8) (active : Bool) (km kg : Word) (s : State) : Out := .next (s.termEdge car.val active km kg)

/-- CLEAR (R166). -/
def execCarClear (m : Master) (car : Fin 8) (s : State) : Out := .next (s.asPrefect m (fun s => s.carClear car.val))

/-- FLUSH (R170). -/
def execCaptureFlush (m : Master) (car : Fin 8) (s : State) : Out :=
  .next (s.asPrefect m (fun s => if s.hasLift then s.carFlush car.val else s))

/-- A read of LIFT_CAR_DZCAP_INFO (R170). -/
def execDzcapPop (m : Master) (car : Fin 8) (s : State) : Out :=
  .next (s.hostRead m (fun s => if s.hasLift then s.capInfo car.val else 0) (fun s => if s.hasLift then s.capPop car.val else s))

/-- A position period of the door sequencers (R172). -/
def execDoorPositionPeriod (s : State) : Out := .next ((List.range 16).foldl State.doorPeriod s)

/-- A commit of CMD_PT taken as a command (R173). -/
def execDoorCommand (door : Fin 16) (s : State) : Out := .next (s.doorNoted (s.doorCommand door.val) door.val)

/-- Closed is held for 50 ms (R175). -/
def execDoorClosedReached (door : Fin 16) (s : State) : Out := .next (s.closedReached door.val)

/-- Open is held for 50 ms (R175). -/
def execDoorOpenReached (door : Fin 16) (s : State) : Out := .next (s.openReached door.val)

/-- A stall persists for 100 ms (R175). -/
def execDoorStall (door : Fin 16) (s : State) : Out := .next (s.doorStall door.val)

/-- Homing runs 60 s without a stall (R174). -/
def execHomingTimeout (door : Fin 16) (s : State) : Out :=
  .next (if s.doorState door.val = 9 then s.doorNoted ((s.advanceTo ((s.door door.val).since + 60 * secCounts)).doorEnter door.val 7) door.val else s)

/-- A learning run does not end within 60 s (R179). -/
def execLearnTimeout (door : Fin 16) (s : State) : Out :=
  .next (if s.doorState door.val = 8 then s.doorNoted ((s.advanceTo ((s.door door.val).since + 60 * secCounts)).learnFail door.val 2) door.val else s)

end Sys2Proof.Machine
end

