-- ==== Sys2Proof/Machine/Links.lean ====
section
/-! DEFINITION. The links between the dies (R13, R17, R227, R229). -/

namespace Sys2Proof

/-- The number of a link in the counts of CRC errors. -/
def DieLink.number : DieLink → Nat
  | .field => 0
  | .pwm _ => 0
  | .metering => 1
  | .safety c => 2 + c.val
  | .lpddr => 4
  | .nand => 5
  | .charm => 6

end Sys2Proof

namespace Sys2Proof.Machine

/-- CROSS_DIE_CRC_ERROR (R13): the frame or access is repeated; the field, metering, LPDDR5 and NAND links count it. -/
def execCrossDieCrcError (link : DieLink) (s : State) : Out :=
  .next (match link with
    | .safety _ => s
    | .charm => s
    | _ =>
      let n := Tab.get (fun _ => 0) s.linkErrs link.number
      { s with linkErrs := Tab.set (fun _ => 0) s.linkErrs link.number (n + 1) })

/-- The control-to-field link is lost (R13): outputs off, DALI lines released, operators in FAULT (R152), cars UNCERTAIN (R166), field points
LINK_LOST, an event of severity 6. -/
def State.fieldLinkLost (s : State) : State :=
  if !s.fieldLink || s.inRecess then s
  else
    let s := s.setBit Reg.FIELD_STAT 8 false
    let s := ((s.outputsUpdate).daliSettleAll).carLinkLost
    let s := (List.range 16).foldl (fun s d => s.opFault d) s
    let pts := s.regs.flatMap (fun r => if r.1 / 65536 = 0xB then ((bindingsOf r.1 r.2).getD []).filterMap (fun b => if b.producer.isSome then some b.idx else none) else [])
    let s := pts.foldl (fun s i => s.setQual i 9 true) s
    s.record { sev := 6, level := 6, source := 0x0B, code := 13 }

/-- A PWM gate output without an update for 125 µs (R13): the gate is off, its operator goes to FAULT (R152), and an event of severity 6 is
recorded. -/
def State.gateLost (s : State) (g : Nat) : State :=
  if Tab.get (fun _ => false) s.field.pwmLost g || !s.fieldLink || s.inRecess then s
  else
    let s := { s with field := { s.field with pwmLost := Tab.set (fun _ => false) s.field.pwmLost g true } }
    (s.opFault (g / 6)).record { sev := 6, level := 6, source := 0x0B, code := 13, args := [wd (g + 1)] }

/-- A PWM gate output is updated again. -/
def State.gateBack (s : State) (g : Nat) : State :=
  { s with field := { s.field with pwmLost := Tab.set (fun _ => false) s.field.pwmLost g false } }

/-- The link returns: outputs follow their points again (R227), lines run, and the edges counted meanwhile are committed (R225). -/
def State.fieldLinkBack (s : State) : State :=
  if s.fieldLink ∨ s.phase = 0 then s
  else (((s.setBit Reg.FIELD_STAT 8 true).outputsUpdate).daliSettleAll).diCommitAll

/-- The control-to-Charm link (R13): a host transfer that waits ends with BUSY_RF. -/
def State.charmLink (s : State) (up : Bool) : State :=
  let s := s.setBit Reg.CHARM_STAT 2 up
  if !up ∧ s.charm.waiting.isSome then { (s.wr Reg.CHARM_XFER_STAT 2) with charm := { s.charm with waiting := none } } else s

/-- LINK_LOSS (R13); of the field and metering dies none is declared in RECESS (R347). -/
def execLinkLoss (link : DieLink) (s : State) : Out :=
  .next (match link with
    | .field => s.fieldLinkLost
    | .pwm gate => s.gateLost gate.val
    | .metering => if s.hasMeter && !s.inRecess then s.meterLinkLost else s
    | .safety ch => if s.hasLift then s.safetyLinkLost ch.val else s
    | .charm => s.charmLink false
    | .lpddr => s
    | .nand => s)

/-- LINK_RETURN (R13). -/
def execLinkReturn (link : DieLink) (s : State) : Out :=
  .next (match link with
    | .field => s.fieldLinkBack
    | .pwm gate => s.gateBack gate.val
    | .metering => if s.hasMeter then s.meterLinkBack else s
    | .safety ch => if s.hasLift then s.safetyLinkBack ch.val else s
    | .charm => s.charmLink true
    | .lpddr => s
    | .nand => s)

end Sys2Proof.Machine
end

