-- ==== Sys2Proof/Machine/Meter.lean ====
section
/-! DEFINITION. The metering commands (R201 to R219). -/

namespace Sys2Proof.Machine

/-- A write of a METER register (R330): ignored where the metering die is absent (R1), dropped and counted while its link is lost. -/
def State.meterReg (s : State) (m : Master) (a : Nat) (f : State → State) : State :=
  s.asPrefect m (fun s => if s.hasMeter then s.overLink m a s.meter.link f else s)

def execLineCycle (supply : Fin 2) (sup : SupplyMeas) (ckts : List (Fin 16 × CktCycle)) (s : State) : Out := .next (s.lineCycle supply.val sup ckts)

def execMeterSnap (m : Master) (s : State) : Out := .next (s.meterReg m Reg.METER_CTRL State.snapStart)

def execMeterClrAll (m : Master) (s : State) : Out := .next (s.meterReg m Reg.METER_CTRL State.meterClear)

def execCalApply (m : Master) (s : State) : Out := .next (s.meterReg m Reg.METER_CAL_CMD State.calApply)

def execMeterSupervision (ckt : Fin 16) (cond : MeterCond) (s : State) : Out := .next (s.superviseNow ckt.val cond)

def execMeterSave (s : State) : Out := .next s.meterSave

def execSaveConfirmed (s : State) : Out := .next s.saveConfirmed

def execSaveLate (s : State) : Out := .next s.saveLate

def execQmapWrite (m : Master) (entry10 : BitVec 10) (v : Word) (s : State) : Out :=
  .next (s.meterReg m (Reg.METER_QMAP entry10.toNat) (fun s => s.qmapWrite entry10.toNat v))

def execBatClr (m : Master) (ckt : Fin 16) (s : State) : Out :=
  .next (s.meterReg m (Reg.METER_CKT_CMD ckt.val) (fun s => s.wr (Reg.METER_CKT_BAT ckt.val) 0))

def execBatteryMeasure (rms : List (Fin 48 × Nat)) (s : State) : Out := .next (s.batteryMeasure rms)

def execBatteryRecordWrite (s : State) : Out := .next s.batteryRecord

def execMeterMerge (s : State) : Out := .next s.meterMerge

def execPulseEmit (out : Fin 8) (s : State) : Out := .next (s.pulseEmit out.val)

end Sys2Proof.Machine
end

