-- ==== Sys2Proof/Machine/Operation.lean ====
section
/-! DEFINITION. Operations in flight at their targets: the roster check, point gets and puts, PSYNC, engine messages, timeouts
(R10, R27, R60 to R67, R97, R125, R126, R128). -/

namespace Sys2Proof.Machine

/-! ### The roster's refusals (R125, R126) -/

/-- A refusal (R126): the tag completes with ROSTER_DENIED, counted against the issuing slot and recorded once per lesson in 60 s. A steward
core's refusals carry no lesson and share the window of their core. -/
def State.denyOp (s : State) (e : Nat) (x : Entry) (target kind : Nat) : State :=
  let s := (s.completeOp e 12 []).incSat (Reg.ROSTER_HR_DENY x.slot.toNat) 31 0
  s.recordWindow (x.lesson.getD (0x10000 + x.core.val)) (60 * secCounts)
    { sev := 3, source := 0x05, code := 126, tenant := some x.tenant, slot := some x.slot,
      args := [wd (x.lesson.getD 0xFFFFFFFF), wd target, wd kind] }

/-! ### Points (R31, R32, R61 to R63) -/

/-- A word a lesson may put (R31). -/
def lessonWord (w : Nat) : Bool := [0, 1, 2, 12, 13, 14, 15].contains w

/-- What a put writes into the working values (R31, R62 rule 4): QUAL keeps bits [1:0], [12] and [23:16]. -/
def Point.putWork (p : Point) (w : Nat) (data : List Word) : Point :=
  { p with work := (List.range data.length).foldl (fun k i =>
      k.setIfInBounds (w + i) (some (if w + i = 2 then data.getD i 0 &&& 0x00FF1003 else data.getD i 0))) p.work }

/-- Word w as the producing lesson reads it (R32): its working value where it has put the word this period, and under a force the
forced VALUE. A working QUAL stands in the committed word with the level its bits imply. -/
def Point.ownWord (p : Point) (w : Nat) : Word :=
  match p.work.toList.getD w none with
  | none => p.word w
  | some v =>
    if w = 2 then
      let q := (p.word 2 &&& 0xFF00EFFC) ||| v
      putBits q 1 0 (max (bits q 1 0) (impliedLevel q p.producer))
    else if p.forced && decide (w < 2) then p.word w else v

/-- The words of an operation that reads a record: the words of a get; VALUE and QUAL of a PGETVQ (R61). -/
def OpKind.readWords : OpKind → List Nat
  | .get _ w n _ => (List.range n).map (w + ·)
  | .getVq _ _ => [0, 2]
  | _ => []

/-- The entry's lesson produces the point (R31). No lesson issues a steward core's entry, so its put completes with PRIVILEGE (DEDUCED, log entry 65: R31
speaks of lessons only, and steward firmware commits remote points by DEVICE_ANSWER). -/
def State.produces (s : State) (x : Entry) (i : PointIdx) : Bool := (x.lesson.map (s.point i).outputOf).getD false

/-- A put the roster and R31 allow on a point. -/
def State.putAllowed (s : State) (x : Entry) (i : PointIdx) (w n : Nat) : Bool :=
  s.mayWrite x.tenant i && s.produces x i && (List.range n).all (fun j => lessonWord (w + j))

/-- The puts a clasp of the same core holds on a record, in issue order: a get issued after one of them returns what it put (R62 rule 2, R76). -/
def State.earlierHeld (s : State) (x : Entry) (i : PointIdx) : List Entry :=
  sortOn (fun y => y.order) ((s.entries.map (·.2)).filter (fun y =>
    y.core == x.core && y.lesson == x.lesson && y.held && !y.completed && decide (y.order < x.order) && y.op.point == some i))

/-- The record as a get of an entry reads it, working values and held puts in place. -/
def State.recordFor (s : State) (x : Entry) (i : PointIdx) : Point :=
  (s.earlierHeld x i).foldl (fun p y => match y.op with
    | .put _ w data => if s.putAllowed y i w data.length then p.putWork w data else p
    | _ => p) (s.point i)

/-- An earlier operation of the same core on the same record has not completed: operations are applied in issue order (R62 rule 2). A PSYNC, a
held put and a get that waits for a device are not in the way. -/
def State.behindEarlier (s : State) (x : Entry) (i : PointIdx) : Bool :=
  s.entries.any (fun p => p.2.core == x.core && decide (p.2.order < x.order) && p.2.outcome.isNone && !p.2.held && p.2.trans.isNone &&
    p.2.op.point == some i && (match p.2.op with | .psync _ _ _ => false | _ => true))

/-- The home tile of a point is out of service (R8, R14). -/
def State.tileOut (s : State) (i : PointIdx) : Bool := s.scan.tilesOut.getLsbD (i.toNat / 2048)

/-- The device transaction a remote get waits on: none where it waits on none or has been answered; some false while in flight; some true once
its request has timed out (R97). -/
def State.transWait (s : State) (x : Entry) : Option Bool :=
  match x.trans with
  | none => none
  | some (n, r) =>
    match s.group n with
    | none => some true
    | some y =>
      if (y.lastDone.map (fun d => decide (r ≤ d))).getD false then none else some (!y.flights.contains r)

/-- A get reaches its read (R61, R62, R128). -/
def State.completeGet (s : State) (fin : Finish) (e : Nat) (x : Entry) (i : PointIdx) : State :=
  if s.tileOut i then fin s e 15 []
  else if !s.mayRead x.tenant i then s.denyOp e x i.toNat 1
  else if (s.transWait x).isSome then s
  else
    let own := s.produces x i
    let p := if own then s.recordFor x i else s.point i
    let words := x.op.readWords
    if words.any (fun w => p.poison.getLsbD w && !(own && (p.work.toList.getD w none).isSome)) then fin s e 3 []
    else fin s e 0 (words.map (fun w => if own then p.ownWord w else p.word w))

/-- A put reaches its write point (R62 rule 3, R125): the roster, then R31. -/
def State.completePut (s : State) (fin : Finish) (e : Nat) (x : Entry) (i : PointIdx) (w : Nat) (data : List Word) : State :=
  if s.tileOut i then fin s e 15 []
  else if !s.mayWrite x.tenant i then s.denyOp e x i.toNat 1
  else if !s.putAllowed x i w data.length then fin s e 2 []
  else fin (s.setPoint i ((s.point i).putWork w data)) e 0 []

/-- A PSYNC looks at the record (R63): completes once SEQ differs, at once where SEQ is poisoned. -/
def State.completePsync (s : State) (e : Nat) (x : Entry) (i : PointIdx) (seq : Word) : State :=
  if s.tileOut i then s.completeOp e 15 []
  else if !s.mayRead x.tenant i then s.denyOp e x i.toNat 1
  else if (s.point i).poison.getLsbD 6 then s.completeOp e 3 []
  else if (s.point i).word 6 = seq then s
  else s.completeOp e 0 [(s.point i).word 6]

/-! ### Engine messages (R66, R67) -/

/-- Loop message types of a variant (R155). -/
def State.loopType (s : State) (typ : Nat) : Bool :=
  [1, 2, 3, 4, 0x20, 0x30].contains typ || (s.variant != 1 && [0x10, 0x11, 0x12, 0x13].contains typ)

/-- The first resource a message needs and may not use, with what it is refused with: REJECTED where there is nothing to check (R67). -/
inductive MsgCheck where
  | ok
  | rejected
  | denied (target kind : Nat)
deriving DecidableEq, Repr

/-- The roster check of a message (R67, R125, R155, R183, R275). -/
def State.msgCheck (s : State) (unit : Nat) (m : EngMsg) : MsgCheck :=
  let w := m.payload.getD 0 0
  let typ := m.typ.toNat
  if unit = 0 then
    if !s.loopType typ ∨ (typ = 0x11 ∧ 47 < bits w 5 0) then .rejected
    else match s.loopRights m with
      | none => if m.tenant = 0 then .ok else .denied 0 3
      | some [] => .rejected
      | some l => match l.find? (fun r => !s.mayMsg m.tenant r.1 r.2) with
        | some r => .denied r.2 r.1
        | none => .ok
  else if unit = 1 then
    if [1, 2, 3].contains typ then (if s.mayMsg m.tenant 6 0 then .ok else .denied 0 6) else .rejected
  else
    if [1, 2].contains typ then (if s.mayMsg m.tenant 5 (bits w 6 0) then .ok else .denied (bits w 6 0) 5) else .rejected

/-- A message at the unit behind the roster (R67): a full queue, the unit's own refusal, else queued with its receipt. -/
def State.acceptMsg (s : State) (fin : Finish) (e : Nat) (unit : Nat) (m : EngMsg) : State :=
  if unit = 0 then
    let fill := s.scan.loopQ.length
    if 256 ≤ fill then fin s e 16 []
    else if !s.loopSettle.loopAccepts m then fin s e 17 []
    else
      let n := s.loop.accepted + 1
      let s := { s with scan := { s.scan with loopQ := s.scan.loopQ ++ [m] }, loop := { s.loop with accepted := n } }
      fin s e 0 [wd (fill + n % 2 ^ 24 * 256)]
  else if unit = 1 then
    if 64 ≤ s.scan.dispQ.length then fin s e 16 []
    else if !s.dispAccepts m then fin (if s.dispFull m then s.inc Reg.DISP_FULL_CNT else s) e 17 []
    else
      let r := if m.typ.toNat = 1 then s.callReceipt m else 0
      let m := if m.typ.toNat = 1 then { m with payload := m.payload ++ [r] } else m
      let s := { s with scan := { s.scan with dispQ := s.scan.dispQ ++ [m] } }
      fin s e 0 [r]
  else
    if 128 ≤ s.scan.accQ.length then fin s e 16 []
    else if !s.accAccepts m then fin s e 17 []
    else
      let s := { s with scan := { s.scan with accQ := s.scan.accQ ++ [m] } }
      fin s e 0 [s.acc.count]

/-- An engine message reaches its unit (R67), in the issue order of its core to that unit. -/
def State.completeMsg (s : State) (fin : Finish) (e : Nat) (x : Entry) (unit : BitVec 2) (typ : BitVec 10) (payload : List Word) : State :=
  let earlier := s.entries.any (fun p => p.2.core == x.core && decide (p.2.order < x.order) && p.2.outcome.isNone &&
    (match p.2.op with | .msg u _ _ _ => u == unit | _ => false))
  let m : EngMsg := { typ := typ, payload := payload, lesson := x.lesson, tenant := x.tenant, privT := x.privT, came := s.now }
  if earlier then s
  else if unit = 1 ∧ s.variant = 1 then fin s e 1 []
  else if unit = 1 ∧ x.privT then fin s e 2 []
  else match s.msgCheck unit.toNat m with
    | .rejected => fin s e 17 []
    | .denied target kind => s.denyOp e x target kind
    | .ok => s.acceptMsg fin e unit.toNat m

/-! ### The commands -/

/-- An operation in flight at its target (R62, R128): behind an earlier one of its core on the same record it waits. -/
def State.atTarget (s : State) (fin : Finish) (e : Nat) (x : Entry) : State :=
  match x.op with
  | .get i _ _ _ => if s.behindEarlier x i then s else s.completeGet fin e x i
  | .getVq i _ => if s.behindEarlier x i then s else s.completeGet fin e x i
  | .put i w data => if s.behindEarlier x i then s else s.completePut fin e x i w data
  | .psync i _ seq => s.completePsync e x i seq
  | .msg unit typ payload _ => s.completeMsg fin e x unit typ payload

/-- An operation in flight reaches its target and completes against its tag; one that has passed its write point before a Tc completes with what it
read then (R129); for an entry released or already complete, or a put a clasp still holds, nothing happens (R27, R76). -/
def execOperationComplete (entry : Fin 8192) (s : State) : Out :=
  let e := entry.val
  match s.entry? e with
  | none => .next s
  | some x =>
    if x.completed || x.held then .next s
    else match x.outcome with
      | some cause => .next (s.completeOp e cause x.result)
      | none => .next (s.atTarget State.completeOp e x)

/-- A PSYNC completes (R63). -/
def execPsyncComplete (entry : Fin 8192) (s : State) : Out :=
  match s.entry? entry.val with
  | none => .next s
  | some x =>
    match x.op with
    | .psync i _ seq => .next (if x.completed then s else s.completePsync entry.val x i seq)
    | _ => .next s

/-- An operation runs into its timeout (R60, R97): TIMEOUT; the event of a tile operation; REMOTE_TIMEOUT on the point of a remote get. A held put
has no timeout before UNCLASP issues it. -/
def execOperationTimeout (entry : Fin 8192) (s : State) : Out :=
  let e := entry.val
  match s.entry? e with
  | none => .next s
  | some x =>
    match x.timeout with
    | none => .next s
    | some t =>
      if x.completed || x.held then .next s
      else
        let due := match x.trans with
          | some (n, r) => match s.group n with
            | some y => min (x.issued + t) (r + y.timeoutUs * usCounts)
            | none => x.issued + t
          | none => x.issued + t
        let s := (s.advanceTo due).completeOp e 14 []
        .next (match x.op with
          | .msg _ _ _ _ => s
          | _ => match x.remote, x.op.getIdx with
            | true, some i => s.setQual i 7 true
            | _, _ => s.record { sev := 5, level := 4, source := 0x04, code := 60, tenant := some x.tenant, slot := some x.slot })

end Sys2Proof.Machine
end

