-- ==== Sys2Proof/Machine/Power.lean ====
section
/-! DEFINITION. The commands of feeds, sleep, wake, the recess agreement and power fail (R334 to R350). -/

namespace Sys2Proof.Machine

/-- FEED_ABSENT (R335). -/
def execFeedAbsent (feed : Fin 2) (low : BitVec 4) (s : State) : Out :=
  let s := s.setFld (Reg.PWR_FEED_STAT feed.val) 7 4 low.toNat
  .next (if low = 0 ∨ s.feedState feed = 0 then s else if s.feedState feed = 4 then s.feedPhy feed false else s.loseFeed feed 0)

/-- FEED_FAULTED (R335): the feed named, or the standby feed where both lie equally far. -/
def execFeedFaulted (which : Option (Fin 2)) (dev : BitVec 4) (s : State) : Out :=
  let f := which.getD (otherFeed s.activeFeed)
  let s := s.setFld (Reg.PWR_FEED_STAT f.val) 11 8 dev.toNat
  .next (if dev = 0 ∨ s.feedState f = 3 ∨ s.feedState f = 4 then s else s.loseFeed f 3)

/-- TRANSFER (R336). -/
def execTransfer (m : Master) (s : State) : Out := .next (s.asPrefect m State.feedTransfer)

/-- TRANSFER_PATH_TIMEOUT (R336). -/
def execTransferPathTimeout (s : State) : Out := .next s.pathTimeout

/-- RESTORE (R337). -/
def execRestore (m : Master) (feed : Fin 2) (s : State) : Out :=
  .next (s.asPrefect m (fun s => if [0, 3, 4].contains (s.feedState feed) then s.returnFeed feed else s))

/-- FEED_AUTO_RESTORE (R337): not of a PATH_FAIL feed. -/
def execFeedAutoRestore (feed : Fin 2) (s : State) : Out :=
  .next (if s.bit Reg.PWR_FEED_CFG 1 ∧ [0, 3].contains (s.feedState feed) then s.returnFeed feed else s)

/-- TEST_DUE (R338): the count of days reaches TEST_INTERVAL. -/
def execTestDue (feed : Fin 2) (s : State) : Out :=
  let n := s.fld Reg.PWR_FEED_CFG 31 16
  .next (if n = 0 then s
    else ((((State.setFld { s with pwr := { s.pwr with carried := s.pwr.carried.set feed.val s.now } } Reg.PWR_FEED_TEST (16 * feed.val + 15) (16 * feed.val) n)).setBit Reg.PWR_STAT 5 true).irq 9).record
      { sev := 3, source := 0x02, code := 338, args := [wd feed.val, wd n] })

/-- SLEEP_ENTRY (R342). -/
def execSleepEntry (want : SleepWant) (s : State) : Out := .next (s.sleepEnter want)

/-- WAKE_REQUEST (R343, R344). -/
def execWakeRequest (src : Fin 8) (s : State) : Out := .next (s.wakeRequest src.val)

/-- SCHEDULED_EXIT (R342): a wake with source DUE at the instant fixed at entry. -/
def execScheduledExit (s : State) : Out :=
  .next (match s.pwr.sleep with
    | some x => match x.exitAt with
      | some t => (s.advanceTo t).wakeRequest 1
      | none => s
    | none => s)

def execRecessAsk (number : BitVec 16) (s : State) : Out := .next (s.recessAsk number)

def execRecessRequestRx (port : Fin 2) (number : BitVec 16) (carries : Bool) (s : State) : Out := .next (s.recessAnswer port number carries)

def execRecessGrantRx (port : Fin 2) (number : BitVec 16) (s : State) : Out := .next (s.recessGranted port number)

/-- RECESS_REFUSE_RX (R345 step 3). -/
def execRecessRefuseRx (port : Fin 2) (number : BitVec 16) (reason : BitVec 8) (s : State) : Out :=
  .next (if s.fld Reg.PWR_RECESS_STAT 1 0 = 1 ∧ s.fld Reg.PWR_RECESS_STAT 31 16 = number.toNat then s.recessRefused port reason.toNat else s)

/-- RECESS_COMMIT_RX (R345 step 5): the neighbour goes; its port will go DOWN with cause RECESS. -/
def execRecessCommitRx (port : Fin 2) (number : BitVec 16) (s : State) : Out :=
  .next (match s.pwr.recess.given.toList.getD port.val none with
    | some (n, _) =>
      if n = number then s.setRecess { s.pwr.recess with given := s.pwr.recess.given.set port.val none, gone := s.pwr.recess.gone.set port.val true } else s
    | none => s)

/-- RECESS_WITHDRAW_RX (R345): the agreement with the neighbour is over. -/
def execRecessWithdrawRx (port : Fin 2) (number : BitVec 16) (s : State) : Out :=
  let given := match s.pwr.recess.given.toList.getD port.val none with
    | some (n, t) => if n = number then none else some (n, t)
    | none => none
  .next (s.setRecess { s.pwr.recess with given := s.pwr.recess.given.set port.val given, gone := s.pwr.recess.gone.set port.val false })

/-- RECESS_ANSWER_TIMEOUT (R345 step 2): no answer counts as REFUSE with reason TIMEOUT. -/
def execRecessAnswerTimeout (port : Fin 2) (s : State) : Out :=
  .next (if s.pwr.recess.awaits.toList.getD port.val false then (s.advanceTo (s.pwr.recess.askedAt + 10 * msCounts)).recessRefused port 5 else s)

def execRecessGrantLapse (port : Fin 2) (s : State) : Out := .next (s.recessLapse port)

def execWakeFrame (port : Fin 2) (propagate : Bool) (s : State) : Out := .next (s.wakeRx port propagate)

def execWakeFrameResend (port : Fin 2) (s : State) : Out := .next (s.wakeAgain port)

/-- POWER_FAIL_DETECT (R348, R349). -/
def execPowerFailDetect (cut : List (Fin 2 × SupplyMeas × List (Fin 16 × CktCycle))) (last : Option (Fin 8)) (s : State) : Out := .next (s.powerFail cut last)

end Sys2Proof.Machine
end

