-- ==== Sys2Proof/Machine/Program.lean ====
section
/-! DEFINITION. The commands of program images, switches and restarts (R103 to R116), of RUN (R80, R113) and of an uncorrectable error (R14). -/

namespace Sys2Proof.Machine

def execProgBegin (m : Master) (tenantImg : Bool) (tenant : BitVec 12) (s : State) : Out :=
  .next (s.asPrefect m (fun s => s.progBegin m tenantImg tenant))

def execProgPush (m : Master) (items : List ImageItem) (s : State) : Out := .next (s.asPrefect m (fun s => s.progPush items))

def execProgCheck (m : Master) (s : State) : Out := .next (s.asPrefect m State.progCheck)

def execProgCheckDone (s : State) : Out := .next s.progChecked

def execProgLoad (m : Master) (s : State) : Out := .next (s.asPrefect m State.progLoad)

def execProgArm (m : Master) (s : State) : Out := .next (s.asPrefect m State.progArm)

def execStagingDone (s : State) : Out := .next s.stagingDone

def execProgAbort (m : Master) (s : State) : Out := .next (s.asPrefect m State.progAbort)

def execWarmRestart (m : Master) (s : State) : Out := .next (s.asPrefect m (fun s => s.restartCmd false))

def execColdRestart (m : Master) (s : State) : Out := .next (s.asPrefect m (fun s => s.restartCmd true))

def execSwitchCoreRelease (core : Fin 64) (s : State) : Out := .next (s.switchRelease core)

/-- PERIODIC_CHECKPOINT (R112). -/
def execPeriodicCheckpoint (s : State) : Out := .next (if s.ckptInterval = 0 then s else s.periodicCheckpoint)

def execScanRunStart (m : Master) (s : State) : Out := .next (s.asPrefect m State.prefectRun)

def execScanRunStop (m : Master) (s : State) : Out := .next (s.asPrefect m State.runStop)

/-- UNCORRECTABLE_ERROR (R13, R14, R368): an operation that reads LPDDR5 completes with MEMORY, a page of NAND is handled by its area; else a word is
poisoned, and a core that leaves service while a switch is armed runs the tests of ARM again. -/
def execUncorrectableError (target : ErrTarget) (s : State) : Out :=
  match target with
  | .lpddr e => .next (s.completeOp e.val 3 [])
  | .nand area page => .next (s.nandPage area page)
  | _ =>
    let n := s.fld Reg.SCAN_STAT 18 12
    let s := s.uncorrectable target
    .next (if s.fld Reg.SCAN_STAT 18 12 = n then s else s.rearm)

end Sys2Proof.Machine
end

