-- ==== Sys2Proof/Machine/ScanEvents.lean ====
section
/-! DEFINITION. The commands of the schedule (R80 to R98) and of remote devices (R97); the bell itself is in Machine/Bell.lean. -/

namespace Sys2Proof.Machine

/-- LESSON_START (R38). -/
def execLessonStart (core : Fin 64) (s : State) : Out := .next (s.startLesson core)

/-- A lesson's deadline passes (R40, R89); on a halted core the period is abandoned with DEBUG_HALT (R381). -/
def execDeadlineExpiry (lesson : BitVec 12) (s : State) : Out :=
  let n := lesson.toNat
  match s.lesson? n with
  | some l =>
    if l.phase = .idle then .next s
    else
      let s := s.advanceTo l.deadlineAt
      .next (s.abandon n (s.deadlineCause l))
  | none => .next s

/-- A lesson's time is charged to its budget (R87): it is the running lesson of its core, or the core waits for its homeroom's reload to start it. -/
def State.charged (s : State) (n : Nat) (l : Lesson) : Bool :=
  l.phase == .running ||
    (l.phase == .ready && (s.core l.coreOf).lesson.isNone && (s.bestLesson l.coreOf).map (·.1) == some n && !s.resident l.decl.tenant)

/-- A lesson's charged time reaches its budget (R90): counted, recorded, and below LIFT demoted behind every other lesson. -/
def execBudgetExhausted (lesson : BitVec 12) (s : State) : Out :=
  let n := lesson.toNat
  match s.lesson? n with
  | some l =>
    if !s.charged n l || l.exhausted then .next s
    else
      let s := (s.inc Reg.SCAN_OVERRUN_CNT).recordWindow n (60 * secCounts) { sev := 2, source := 0x04, code := 90, args := [wd n] }
      if l.decl.tier = .safety ∨ l.decl.tier = .lift then .next (s.setLesson n { l with exhausted := true })
      else
        let s := s.setLesson n { l with exhausted := true, demoted := some s.scan.demoteCount }
        let s := { s with scan := { s.scan with demoteCount := s.scan.demoteCount + 1 } }
        .next ((s.preempt l.coreOf).resumeBest l.coreOf)
  | none => .next s

def execFloorWrite (m : Master) (slot : Fin 16) (v : Word) (s : State) : Out := .next (s.asPrefect m (fun s => s.floorWrite slot.val v))

def execForceSet (m : Master) (s : State) : Out := .next (s.asPrefect m (fun s => s.forceSet m))

def execForceClear (m : Master) (s : State) : Out :=
  .next (s.asPrefect m (fun s => s.forceClear m (BitVec.ofNat 14 (s.fld Reg.SCAN_FORCE_IDX 13 0))))

def execForceClearAll (m : Master) (s : State) : Out :=
  .next (s.asPrefect m (fun s => s.forces.foldl (fun s i => s.forceClear m i) s))

/-- SCAN_LESSON_CLR for one lesson: applied as its next period begins. -/
def execLessonClrOne (m : Master) (lesson : BitVec 12) (s : State) : Out :=
  .next (s.asPrefect m (fun s => s.updLesson lesson.toNat (fun l => { l with clrPending := true })))

/-- SCAN_LESSON_CLR.ALL. -/
def State.clrAll (s : State) : State := s.lessons.foldl (fun s p => s.updLesson p.1 (fun l => { l with clrPending := true })) s

def execLessonClrAll (m : Master) (s : State) : Out := .next (s.asPrefect m State.clrAll)

/-- A commit by a producer that is not a lesson (R9): only by the unit that DESC.PRODUCER names. -/
def execProducerCommit (idx : PointIdx) (producer : BitVec 3) (upd : PtUpdate) (s : State) : Out :=
  .next (if producer ≠ 0 ∧ (s.point idx).producer = producer.toNat then s.commitPoint idx (updateSet upd) else s)

/-- A device's answer to the oldest request in flight (R97): every point of the group it carries that a remote device produces (R9) is
committed with one STAMP. An answer
with no request in flight came too late and is discarded. -/
def execDeviceAnswer (group : BitVec 16) (values : List (BitVec 14 × PtUpdate)) (s : State) : Out :=
  match s.group group.toNat with
  | some x =>
    match x.flights with
    | r :: rest =>
      let s := (values.filter (fun v => x.points.contains v.1 && (s.point v.1).producer == 6)).foldl (fun s v => s.commitPoint v.1 (updateSet v.2)) s
      .next (s.setGroup group.toNat { x with flights := rest, lastDone := some r })
    | [] => .next s
  | none => .next s

/-- The oldest request in flight times out: the group's points take REMOTE_TIMEOUT (R97, R30); counted on a serial group's channel (R266). -/
def execDeviceRequestTimeout (group : BitVec 16) (s : State) : Out :=
  match s.group group.toNat with
  | some x =>
    match x.flights with
    | r :: rest =>
      let s := s.advanceTo (r + x.timeoutUs * usCounts)
      let s := match Config.groupChannel group.toNat with
        | some ch => s.setFld (Reg.SER_CH_ERR ch.val) 31 16 (s.fld (Reg.SER_CH_ERR ch.val) 31 16 + 1)
        | none => s
      .next (x.points.foldl (fun s i => s.setQual i 7 true) (s.setGroup group.toNat { x with flights := rest }))
    | [] => .next s
  | none => .next s

/-- A poll falls due (R97): a request, unless a transaction is in flight or the module is in RECESS (R347). -/
def execDevicePoll (group : BitVec 16) (s : State) : Out :=
  match s.group group.toNat with
  | some x => .next (if x.flights = [] ∧ !s.inRecess then s.setGroup group.toNat (x.request s.now) else s)
  | none => .next s

end Sys2Proof.Machine
end

