-- ==== Sys2Proof/Machine/Serial.lean ====
section
/-! DEFINITION. The serial buses (R264 to R268). -/

namespace Sys2Proof.Machine

/-- A frame with a framing, parity or checksum error is discarded and counted (R266). -/
def execSerialFrameError (sch : Fin 8) (s : State) : Out := .next (s.incSat (Reg.SER_CH_ERR sch.val) 15 0)

/-- A CAN channel enters bus-off (R267). -/
def execCanBusOff (can : Fin 4) (s : State) : Out :=
  let n := can.val
  .next (if s.bit (Reg.SER_CAN_CFG n) 0 && s.fld (Reg.SER_CAN_STAT n) 1 0 != 2 then
      ((s.setFld (Reg.SER_CAN_STAT n) 1 0 2).setFld (Reg.SER_CAN_CNT n) 15 0 ((s.fld (Reg.SER_CAN_CNT n) 15 0 + 1) % 65536)).record
        { sev := 4, source := 0x0D, code := 267, args := [wd n] }
    else s)

/-- Bus-off recovery after 128 × 11 recessive bits, with AUTO_RECOVER (R267); the error counts start again from 0. -/
def execCanBusOffRecovery (can : Fin 4) (s : State) : Out :=
  let n := can.val
  .next (if s.fld (Reg.SER_CAN_STAT n) 1 0 = 2 ∧ s.bit (Reg.SER_CAN_CFG n) 3 then s.wr (Reg.SER_CAN_STAT n) 0 else s)

/-- A host write of a SER register that is not a plain one: PROTO starts and stops a channel, EN a CAN channel;
DATA rates 8 and 10 need XL_EN (R267). -/
def State.serWrite (s : State) (a : Nat) (v : Word) : Option State :=
  if Reg.SER_CH_CFG 0 ≤ a ∧ a < Reg.SER_CH_CFG 8 ∧ a % 0x40 = 0 then
    let v := v &&& 0x3FFFFFFF
    let v := if bits v 29 22 = 0 then putBits v 29 22 (s.fld a 29 22) else v
    let run := bits v 1 0 != 0
    let s := s.wr a v
    some (if run then s.setBit (a + 4) 2 true else s.wr (a + 4) 0)
  else if Reg.SER_CAN_CFG 0 ≤ a ∧ a < Reg.SER_CAN_CFG 4 ∧ a % 0x40 = 0 then
    let rate := bits v 8 6
    let v := if rate ≤ 3 || (rate ≤ 5 && bitOf v 2) then v else putBits v 8 6 (s.fld a 8 6)
    let was := s.bit a 0
    let off := s.fld (a + 4) 1 0 == 2
    let s := s.wr a (v &&& 0x1FF)
    some (if bitOf v 0 then (if !was || off then s.wr (a + 4) 0 else s) else s.wr (a + 4) 3)
  else none

end Sys2Proof.Machine
end

