-- ==== Sys2Proof/Machine/RegIf.lean ====
section
/-! DEFINITION. The register interface (R319 to R333): what a read returns and clears, what a write does in every block, the mailbox, the POINT
window, the phases, and the QSPI port (R310). -/

namespace Sys2Proof.Machine

/-! ### The map (R319, R320, R369) -/

/-- A register or a word of the POINT window stands at an address. -/
def mapped (a : Nat) : Bool := (decide (0x800000 ≤ a) && decide (a < 0x900000)) || (regSpec? a).isSome

/-- The blocks that answer while the module is DEAD: SYS, HOST and FWU (R369). -/
def deadBlock (a : Nat) : Bool := [0x00, 0x01, 0x1C].contains (a / 0x10000)

/-- The link to the die a block is on is up (R13, R330). -/
def State.linkUp (s : State) (a : Nat) : Bool :=
  if a / 0x10000 = 0xA then s.meter.link else if a / 0x10000 = 0xB then s.fieldLink else true

/-- A circuit is granted to a tenant (R132). -/
def State.cktGranted (s : State) (t : BitVec 12) (k : Nat) : Bool := s.granted t 7 0 (fun w1 _ => inRange k w1)

/-- A register of the METER block that a view of a tenant does not show (R132, R212): of a circuit, a current channel or a map entry of a circuit not
granted, or of a supply that no granted circuit uses. -/
def State.meterHidden (s : State) (t : BitVec 12) (a : Nat) : Bool :=
  if Reg.METER_CKT_CFG 0 ≤ a ∧ a < Reg.METER_CKT_CFG 16 then !s.cktGranted t ((a - Reg.METER_CKT_CFG 0) / 0x80)
  else if Reg.METER_CAL_FS 0 ≤ a ∧ a < Reg.METER_CAL_FS 48 then !s.cktGranted t ((a - Reg.METER_CAL_FS 0) / 0x40 / 3)
  else if Reg.METER_QMAP 0 ≤ a ∧ a ≤ Reg.METER_QMAP 1023 then !s.cktGranted t (s.fld a 17 14)
  else if Reg.METER_SUP_CFG 0 ≤ a ∧ a < Reg.METER_SUP_CFG 2 then
    !(List.range 16).any (fun k => s.cktGranted t k && s.cktSupply k == (a - Reg.METER_SUP_CFG 0) / 0x10)
  else false

/-- An access under a view reads 0 at a register (R132). -/
def State.hidden (s : State) (m : Master) (a : Nat) : Bool := (s.viewOf m).any (fun t => s.meterHidden t a)

/-! ### Reads (R320, R321, R330, R332) -/

/-- What a read of a mapped register shows a master: its own HOST_LAST_ERR and SELF; through a view no circuit that is not granted; of
the DBG block two registers (R379). -/
def State.shown (s : State) (m : Master) (a : Nat) : Word :=
  if a = Reg.HOST_LAST_ERR then
    match m with
    | .sess n => wd (s.host.lastErr[n]).toNat
    | .steward => 0
  else if a = Reg.HOST_PASS_STAT then
    match m with
    | .sess n => setBitOf (s.peekWord a) 5 (s.prefect == some n)
    | .steward => s.peekWord a
  else if a / 0x10000 = 0x1F ∧ a ≠ Reg.DBG_STAT ∧ a ≠ Reg.DBG_CORE_STAT then 0
  else if s.hidden m a then 0
  else s.peekWord a

/-- The side effects of a read (R321): RC fields clear, a FIFO register pops, HOST_LAST_ERR forgets the reader's code. -/
def State.readEffect (s : State) (m : Master) (a : Nat) : State :=
  if a = Reg.HOST_LAST_ERR then
    match m with
    | .sess n => s.setLastErr n 0
    | .steward => s
  else if !s.owns m || s.hidden m a then s
  else match (List.range 8).find? (fun c => a == Reg.TIME_CAP_INFO c), (List.range 8).find? (fun c => a == Reg.LIFT_CAR_DZCAP_INFO c) with
    | some c, _ => s.capturePop c
    | _, some c => s.capPop c
    | _, _ =>
      match regSpec? a with
      | some r => if r.rc = 0 ∨ a / 0x10000 = 0x1F then s else s.wr a (s.rd a &&& ~~~r.rc)
      | none => s

/-- A read of a word of the POINT window (R125, R332). -/
def State.pointRead (s : State) (m : Master) (i : PointIdx) (w : Nat) : State × Word :=
  if (s.viewOf m).any (fun t => !s.mayRead t i) then (s.incSat Reg.ROSTER_VIEW_DENY 31 0, 0) else (s, s.pointWord i w)

/-- A host access that finds the module asleep wakes it (R330, R343), but for one to the AON domain. -/
def State.accessWake (s : State) (m : Master) (a : Nat) : State :=
  match m with
  | .sess _ => if aonRegister a then s else s.wakeRequest 0
  | .steward => s

/-- One read access (R320, R321). Nothing answers while the module is off. -/
def State.busRead (s : State) (m : Master) (addr : Nat) : State × Word :=
  let a := addr / 4 * 4
  let s := s.accessWake m a
  if s.pwr.off ∨ (s.phase = 3 ∧ !deadBlock a) then (s, 0)
  else if 0x800000 ≤ a ∧ a < 0x900000 then s.pointRead m (BitVec.ofNat 14 ((a - 0x800000) / 64)) (a % 64 / 4)
  else if s.absentBlock a then (s, 0)
  else if !mapped a then (s.busCount m a 0, 0)
  else if !s.linkUp a then (s.busCount m a 3, 0)
  else (s.readEffect m a, s.shown m a)

/-! ### The phases (R328) -/

/-- ENTER_TEST: from the Prefect in NORMAL, in DEVELOP or RETURN, with RUN = 0; otherwise CMD_ERR. -/
def State.testEnter (s : State) (m : Master) : State :=
  let lcs := s.fld Reg.KEY_LCS 2 0
  if m ≠ .steward ∧ s.phase = 1 ∧ (lcs = 1 ∨ lcs = 4) ∧ !s.bit Reg.SCAN_CTRL 0 then s.setPhase 2 m.session else s.setBit Reg.SYS_PHASE 9 true

/-- LEAVE_TEST: no effect outside TEST. -/
def State.testLeave (s : State) (m : Master) : State := if s.phase = 2 then s.setPhase 1 m.session else s

/-! ### The mailbox (R324 to R326) -/

/-- The 128-bit count of an energy register as words. -/
def countWords (n : Nat) : List Word := [wd (n % 2 ^ 32), wd (n / 2 ^ 32 % 2 ^ 32), wd (n / 2 ^ 64 % 2 ^ 32), wd (n / 2 ^ 96 % 2 ^ 32)]

/-- What a latch of a space and an index delivers now: the error and the words (R325, R326). -/
def State.mboxObject (s : State) (space index : Nat) (view : Option (BitVec 12)) : Nat × List Word :=
  if space = 1 ∨ space = 2 then
    if 127 < index ∨ 5 < index % 8 then (1, [])
    else if s.variant = 2 then (2, [])
    else if !s.meter.link then (5, [])
    else if space = 2 ∧ !s.bit Reg.METER_STAT 1 then (3, [])
    else if view.any (fun t => !s.cktGranted t (index / 8)) then (4, [])
    else (0, countWords (if space = 1 then s.energy index else Tab.get (fun _ => 0) s.meter.snap index))
  else if space = 3 then
    if index ≠ 0 then (1, [])
    else
      let sec := s.appliedSec
      (0, [wd (s.appliedNs % 1000000000), wd (sec % 2 ^ 32),
        wd (sec / 2 ^ 32 % 65536 + (s.bit Reg.TIME_STAT 0).toNat * 65536 + (s.bit Reg.TIME_STAT 1).toNat * 131072), s.cnt.setWidth 32])
  else if space = 4 then
    if 65535 < index then (1, [])
    else match Tab.get (fun _ => none) s.acc.store index with
      | some r => if view.any (fun t => BitVec.ofNat 12 (bits r[2] 11 0) != t) then (4, []) else (0, r.toList)
      | none => (3, [])
  else (1, [])

/-- A write of MBOX_SEL (R324). A SNAP latch returns the bank as it stands now (R326). -/
def State.mboxSelect (s : State) (m : Master) (v : Word) : State :=
  let s := s.wr Reg.MBOX_SEL (v &&& 0xF00FFFFF)
  let space := bits v 31 28
  let index := bits v 19 0
  let view := s.viewOf m
  if space = 0 then { (s.wr Reg.MBOX_STAT 0) with bus := { s.bus with latch := [], latching := none, early := none } }
  else
    let early := if space = 2 then some (s.mboxObject 2 index view) else none
    { (s.wr Reg.MBOX_STAT 2) with bus := { s.bus with latch := [], latching := some (space, index, view), early := early } }

/-- The latch completes (R324 step 2, R326). -/
def State.mboxDone (s : State) : State :=
  match s.bus.latching with
  | none => s
  | some (space, index, view) =>
    let (err, words) := s.bus.early.getD (s.mboxObject space index view)
    let s := { (s.wr Reg.MBOX_STAT (wd (1 + 4 * err))) with bus := { s.bus with latch := words, latching := none, early := none } }
    s.irq 7

/-! ### Writes to the POINT window (R125, R333) -/

/-- What the staged words commit with VALUE. -/
def stagedSet (v : Word) (stage : Vector Word 16) (mask : Nat) : CommitSet :=
  let w := fun i => if mask / 2 ^ i % 2 = 1 then some (stage.toList.getD i 0) else none
  { value := some v, valueHi := w 1, level := (w 2).map (fun q => BitVec.ofNat 2 (bits q 1 0)), overrange := (w 2).map (fun q => bitOf q 12),
    detail := (w 2).map (fun q => BitVec.ofNat 8 (bits q 23 16)), aux := [w 12, w 13, w 14, w 15] }

/-- One word written (R333): refusals, staging, and the commit by VALUE; a write for another point discards the staged words. -/
def State.pointWrite (s : State) (m : Master) (i : PointIdx) (w : Nat) (v : Word) : State :=
  if (s.viewOf m).any (fun t => !s.mayWrite t i) then s.incSat Reg.ROSTER_VIEW_DENY 31 0
  else if (s.point i).producer ≠ 7 then s.incSat Reg.SYS_PT_DROP 31 16
  else if !lessonWord w then s.incSat Reg.SYS_PT_DROP 15 0
  else
    let mask := s.fld Reg.SYS_PT_STAGE 31 16
    let other := s.bit Reg.SYS_PT_STAGE 14 && s.fld Reg.SYS_PT_STAGE 13 0 != i.toNat
    let s := if other then s.addSat Reg.SYS_PT_DISCARD ((List.range 16).filter (fun j => mask / 2 ^ j % 2 == 1)).length else s
    let mask := if other then 0 else mask
    if w = 0 then (s.wr Reg.SYS_PT_STAGE (wd i.toNat)).commitPoint i (stagedSet v s.bus.stage mask)
    else
      let mask := if mask / 2 ^ w % 2 = 1 then mask else mask + 2 ^ w
      { (s.wr Reg.SYS_PT_STAGE (wd (i.toNat + 16384 + mask * 65536))) with bus := { s.bus with stage := s.bus.stage.setIfInBounds w v } }

/-! ### Writes of the other blocks -/

/-- The read-only fields steward firmware keeps by its own accesses: the state of the applied time and the EEE negotiation (log entry 49). -/
def stewardMask (a : Nat) : Word :=
  if a = Reg.TIME_STAT then 0xFF71
  else if 0x100000 ≤ a ∧ a < 0x180000 ∧ a % 0x10000 = 0x18 then 0xFFFFFFFF
  else if 0x100000 ≤ a ∧ a < 0x180000 ∧ a % 0x10000 = 0x04 then 0x20
  else 0

/-- A plain write (R5): RW fields take the value, W1C bits written 1 clear, every other bit keeps its value. -/
def State.plainWrite (s : State) (a : Nat) (v : Word) : State :=
  match regSpec? a with
  | some r => s.wr a ((s.rd a &&& ~~~(r.rw ||| (r.w1c &&& v))) ||| (v &&& r.rw))
  | none => s

/-- SYS and HOST: the phase command, the reset command, QSPI_EN (R308, R328, R352). -/
def State.sysWrite (s : State) (m : Master) (a : Nat) (v : Word) : Option State :=
  if a = Reg.SYS_PHASE_CMD then some (match bits v 1 0 with | 1 => s.testEnter m | 2 => s.testLeave m | _ => s)
  else if a = Reg.SYS_RESET_CMD then some (if bitOf v 0 && bits v 31 24 == 0x5A then s.warmReset 2 else s)
  else if a = Reg.HOST_CFG then
    let was := s.bit a 0
    let s := s.plainWrite a v
    some (if bitOf v 0 = was then s else if bitOf v 0 then s.appearSession 1 else s.endSession 1)
  else none

/-- PWR: the feed commands and the configuration (R336, R337). -/
def State.pwrWrite (s : State) (a : Nat) (v : Word) : Option State :=
  if a = Reg.PWR_FEED_CMD then
    some (match bits v 1 0 with
      | 1 => s.feedTransfer
      | 2 =>
        let f : Fin 2 := if bitOf v 2 then 1 else 0
        if [0, 3, 4].contains (s.feedState f) then s.returnFeed f else s
      | _ => s)
  else if a = Reg.PWR_FEED_CFG then some (s.plainWrite a (if bits v 15 8 = 0 then putBits v 15 8 (s.fld a 15 8) else v))
  else none

/-- SCAN: RUN, phases, floors, forces, lesson clears, image commands (R80, R94, R98, R103, R112). -/
def State.scanWrite (s : State) (m : Master) (a : Nat) (v : Word) : Option State :=
  if a = Reg.SCAN_CTRL then some (if bitOf v 0 then s.prefectRun else if s.bit a 0 then s.runStop else s)
  else if a = Reg.SCAN_LESSON_CLR then
    some (if bitOf v 31 then s.clrAll else s.updLesson (bits v 11 0) (fun l => { l with clrPending := true }))
  else if Reg.SCAN_BELL_CFG 0 ≤ a ∧ a ≤ Reg.SCAN_BELL_CFG 7 then
    some (if a = Reg.SCAN_BELL_CFG 0 ∨ s.bit Reg.SCAN_STAT 0 then s else s.plainWrite a v)
  else if Reg.SCAN_HR_FLOOR 0 ≤ a ∧ a ≤ Reg.SCAN_HR_FLOOR 15 then some (s.floorWrite ((a - Reg.SCAN_HR_FLOOR 0) / 4) v)
  else if a = Reg.SCAN_FORCE_CMD then
    some (match bits v 1 0 with
      | 1 => s.forceSet m
      | 2 => s.forceClear m (BitVec.ofNat 14 (s.fld Reg.SCAN_FORCE_IDX 13 0))
      | 3 => s.forces.foldl (fun s i => s.forceClear m i) s
      | _ => s)
  else if a = Reg.SCAN_PROG_CTRL then
    some (match bits v 3 0 with
      | 1 => s.progBegin m (bitOf v 4) (BitVec.ofNat 12 (bits v 27 16))
      | 2 => s.progPush (Config.pieceItems (Memory.readN s.bus.progBuf 0 (s.fld Reg.SCAN_PROG_LEN 12 0)))
      | 3 => s.progCheck
      | 4 => s.progLoad
      | 5 => s.progArm
      | 6 => s.progAbort
      | 7 => s.restartCmd false
      | 8 => s.restartCmd true
      | _ => s)
  else if Reg.SCAN_PROG_BUF 0 ≤ a ∧ a ≤ Reg.SCAN_PROG_BUF 1023 then
    some { s with bus := { s.bus with progBuf := Memory.writeN s.bus.progBuf (a - Reg.SCAN_PROG_BUF 0) (wordBytes v) } }
  else if a = Reg.SCAN_CKPT_CFG then
    let n := bits v 11 0
    some (s.plainWrite a (wd (if n = 0 then 0 else min (max n 10) 3600)))
  else none

/-- ROSTER: commands, the view, the staged contexts (R118, R127, R132). -/
def State.rosterWrite (s : State) (a : Nat) (v : Word) : Option State :=
  let t := s.selTenant
  let staged := fun (c : TenantCtx) => { s with roster := { s.roster with staged := Tab.set tenantDefault s.roster.staged t c } }
  let c := Tab.get tenantDefault s.roster.staged t
  if a = Reg.ROSTER_CTRL then some (match bits v 1 0 with | 1 => s.rosterCommit | 2 => s.rosterRevert | _ => s)
  else if a = Reg.ROSTER_VIEW then
    let tenant := fun (s : State) => BitVec.ofNat 12 (s.fld Reg.ROSTER_VIEW 11 0)
    let was := if s.bit a 31 then [tenant s] else []
    let s := s.plainWrite a v
    let s := if bitOf v 31 then s.needSlot (tenant s) else s
    some (s.settleSlots was)
  else if a = Reg.ROSTER_TEN_CFG then
    let w := v &&& 0xFF1F
    some (staged { c with cfg := if t = 0 then (w &&& 0xFF0C) ||| 0x11 else w })
  else if a = Reg.ROSTER_TEN_SHARE0 then some (staged { c with share0 := v })
  else if a = Reg.ROSTER_TEN_SHARE1 then some (staged { c with share1 := v })
  else none

/-- GEN and PERIOD of an operator (R233): a write of GEN = 1 for a bound operator is ignored and sets GEN_ERR. -/
def State.genWrite (s : State) (op : Nat) (v : Word) : State :=
  let a := Reg.FIELD_GEN_CFG op
  let bound := (s.oper op).bind.isSome
  if bitOf v 0 && bound then s.setBit a 1 true
  else
    let s := if bitOf v 1 then s.setBit a 1 false else s
    let s := if bits v 31 16 < 800 then s else s.setFld a 31 16 (bits v 31 16)
    s.setBit a 0 (bitOf v 0)

/-- FIELD and DALI (R221, R222, R227, R229, R233, R235 to R241). -/
def State.fieldWrite (s : State) (a : Nat) (v : Word) : Option State :=
  if a = Reg.FIELD_CTRL then some (s.outEnable v)
  else match regIndex a (Reg.FIELD_DO_CFG 0) 64 16, regIndex a (Reg.FIELD_DO_GRP 0) 8 4, regIndex a (Reg.FIELD_GEN_CFG 0) 16 32,
      regIndex a (Reg.DALI_LINE_CMD 0) 16 64 with
    | some d, _, _, _ =>
      let s := s.plainWrite a v
      some ((if bitOf v 6 then s.doClear d else s).doUpdate d)
    | _, some g, _, _ => some (if bitOf v 16 then s.doGroupClear g else s)
    | _, _, some op, _ => some (s.genWrite op v)
    | _, _, _, some l =>
      let s := if bitOf v 0 then s.daliAddress l else s
      some (if bitOf v 1 then s.daliRefresh l else s)
    | none, none, none, none =>
      if (bindingsOf a v).isSome then some (s.bindWrite a v)
      else if a = Reg.DALI_CTRL then some ((s.plainWrite a v).daliSettleAll)
      else if a = Reg.DALI_RAW_CTRL then
        let s := s.plainWrite a v
        some (if bitOf v 7 then s.daliRawGo else s)
      else none

/-- The key engine operation of a write of KEY_CMD (R307); a reserved OP starts none. -/
def State.keyOpOf (s : State) (v : Word) : Option KeyOp :=
  match bits v 3 0 with
  | 1 => some (.transition (BitVec.ofNat 3 (bits v 6 4)))
  | 2 => some .load
  | 3 => some .erase
  | 4 => some .ownerRestore
  | 5 => some .getNonce
  | 6 =>
    match s.fld Reg.KEY_OP 2 0 with
    | 0 => some .sha256
    | 1 => some .sha384
    | 2 => some .hmac
    | 3 => some .gcmEnc
    | 4 => some .gcmDec
    | 5 => some .sign
    | 6 => some .verify
    | _ => none
  | 7 => some .derive
  | 8 => some .generate
  | 9 => some .identity
  | 10 => some .fuseSafetyKey
  | _ => none

/-- KEY: commands, the attributes of an EMPTY slot, the arm bits (R297, R304). -/
def State.keyWrite (s : State) (m : Master) (a : Nat) (v : Word) : Option State :=
  let lcs := s.fld Reg.KEY_LCS 2 0
  if a = Reg.KEY_CMD then
    some (match s.keyOpOf v with
      | some op => s.keyStart m op (BitVec.ofNat 5 (bits v 12 8))
      | none => s)
  else if Reg.KEY_SLOT_ATTR 0 ≤ a ∧ a < Reg.KEY_SLOT_ATTR 32 then
    some (if s.key.occ.getLsbD ((a - Reg.KEY_SLOT_ATTR 0) / 8) || lcs == 2 || lcs == 3 || lcs == 5 then s else s.plainWrite a v)
  else if a = Reg.KEY_TAMPER_CFG then some (if lcs = 2 ∨ lcs = 3 then s.setBit a 4 (bitOf v 4) else s.plainWrite a v)
  else none

/-- EVT (R374, R378). -/
def State.evtWrite (s : State) (m : Master) (a : Nat) (v : Word) : Option State :=
  if a = Reg.EVT_CTRL then
    let s := s.plainWrite a v
    some (if bitOf v 7 then s.flush else s)
  else if a = Reg.EVT_RD_CMD then some (match bits v 1 0 with | 1 => s.evtRead m true (bitOf v 2) | 2 => s.evtRead m false (bitOf v 2) | _ => s)
  else none

/-- FWU (R361 to R364). -/
def State.fwuWrite (s : State) (a : Nat) (v : Word) : Option State :=
  if a = Reg.FWU_CTRL then
    let s := s.emit []
    some (match bits v 2 0 with
      | 1 => s.fwuBegin
      | 2 => s.fwuPush (Memory.readN s.bus.fwuBuf 0 (s.fld Reg.FWU_LEN 12 0))
      | 3 => s.fwuGo
      | 4 => s.fwuAbort
      | 5 => if s.fwuState = 5 then { s with fwu := { s.fwu with confirmed := true } } else s.fwuSequence
      | _ => s)
  else if Reg.FWU_BUF 0 ≤ a ∧ a ≤ Reg.FWU_BUF 1023 then
    some { s with bus := { s.bus with fwuBuf := Memory.writeN s.bus.fwuBuf (a - Reg.FWU_BUF 0) (wordBytes v) } }
  else if a = Reg.FWU_REPORT_DEADLINE then some (if bits v 11 0 < 60 ∨ 3600 < bits v 11 0 then s else s.plainWrite a v)
  else none

/-- What a write of a mapped register does, by block; none where it is a plain one. -/
def State.blockWrite (s : State) (m : Master) (a : Nat) (v : Word) : Option State :=
  match a / 0x10000 with
  | 0x00 | 0x01 => s.sysWrite m a v
  | 0x02 => s.pwrWrite a v
  | 0x04 => s.scanWrite m a v
  | 0x05 => s.rosterWrite a v
  | 0x06 => s.loopWrite a v
  | 0x07 => s.liftWrite a v
  | 0x08 => s.dispWrite a v
  | 0x09 | 0x1F => some s
  | 0x0A => s.meterWrite a v
  | 0x0B | 0x0C => s.fieldWrite a v
  | 0x0D => s.serWrite a v
  | 0x0E => s.accWrite a v
  | 0x18 => s.prpWrite a v
  | 0x19 => s.timeWrite m a v
  | 0x1A => s.keyWrite m a v
  | 0x1B => s.evtWrite m a v
  | 0x1C => s.fwuWrite a v
  | 0x1D => s.charmWrite m a v
  | 0x1E => if a = Reg.MBOX_SEL then some (s.mboxSelect m v) else none
  | b => if 0x10 ≤ b ∧ b ≤ 0x17 then s.netWrite a v else none

/-- A write of a mapped register carried out, with what steward firmware keeps in read-only fields. -/
def State.regWrite (s : State) (m : Master) (a : Nat) (v : Word) : State :=
  let t := (s.blockWrite m a v).getD (s.plainWrite a v)
  if m = .steward ∧ stewardMask a ≠ 0 then t.wr a ((t.rd a &&& ~~~stewardMask a) ||| (v &&& stewardMask a)) else t

/-! ### One write access (R313, R320, R329, R330) -/

/-- A register a session that is not the Prefect may write: HOST_PASS_CMD, its own HOST_LAT_TOL, and on sessions 0 and 1 its own interrupt registers
(R313). -/
def ownRegister (m : Master) (a : Nat) : Bool :=
  match m with
  | .steward => false
  | .sess n => a == Reg.HOST_PASS_CMD || a == Reg.HOST_LAT_TOL n.val ||
      (decide (n.val ≤ 1) && (a == Reg.HOST_IRQ_STAT n.val || a == Reg.HOST_IRQ_EN n.val))

/-- A write a tenant view does not drop (R132; log entry 8). The POINT window has its own check. -/
def viewKeeps (m : Master) (a : Nat) : Bool :=
  ownRegister m a || [Reg.ROSTER_VIEW, Reg.EVT_RD_SEL, Reg.EVT_RD_CMD, Reg.MBOX_SEL, Reg.MBOX_PAGE].contains a ||
    (decide (0x800000 ≤ a) && decide (a < 0x900000))

/-- A command of HOST_PASS_CMD (R311, R312); steward firmware's has no effect (R308). -/
def State.passWrite (s : State) (n : Fin 8) (v : Word) : State :=
  let prio := BitVec.ofNat 8 (bits v 7 0)
  let nonce := BitVec.ofNat 16 (bits v 23 8)
  match bits v 31 28 with
  | 1 => s.claim n prio nonce
  | 2 => s.renew n nonce
  | 3 => s.releasePass n
  | 4 => s.dropClaim n
  | 5 => s.handOver n (BitVec.ofNat 3 (bits v 26 24))
  | 6 => s.acceptPass n prio nonce
  | _ => s

/-- A write puts a value other than 0 into a reserved bit of an RW register that is a live test control (R329, log entry 54). -/
def State.liveControl (s : State) (a : Nat) (v : Word) : Bool :=
  s.phase != 1 && a / 0x10000 != 9 && (match regSpec? a with
    | some r => r.rw != 0 && v &&& r.rsv != 0 && v &&& r.rsv &&& Config.liveControls a != 0
    | none => false)

/-- A write access: who may make it, the bridge's edge cases, then the register's effect. -/
def State.busWrite (s : State) (m : Master) (addr : Nat) (be : BitVec 4) (v : Word) : Out :=
  let a := addr / 4 * 4
  let s := s.accessWake m a
  if s.pwr.off then .next s
  else if !(s.owns m || ownRegister m a) then
    match m with
    | .sess n => .next (s.dropNotOwner n)
    | .steward => .next s
  else if s.viewed m && !viewKeeps m a then .next (s.incSat Reg.ROSTER_VIEW_DENY 31 0)
  else if s.phase = 3 ∧ !deadBlock a then .next s
  else if m = .sess 0 ∧ be ≠ 0xF then .next (s.busCount m a 1)
  else if 0x800000 ≤ a ∧ a < 0x900000 then .next (s.pointWrite m (BitVec.ofNat 14 ((a - 0x800000) / 64)) (a % 64 / 4) v)
  else if s.absentBlock a then .next s
  else if !mapped a then .next (s.busCount m a 0)
  else if !s.linkUp a then .next (s.busCount m a 3)
  else if a = Reg.HOST_PASS_CMD then
    match m with
    | .sess n => .next (s.passWrite n v)
    | .steward => .next s
  else if s.liveControl a v then .fault .liveTestControl
  else .next (s.regWrite m a v)

/-! ### The QSPI port (R310) -/

/-- The writes posted in the QSPI queue carried out, oldest first. -/
def drainQspi : List (BitVec 24 × Word) → State → Out
  | [], s => .next s
  | (a, v) :: rest, s =>
    match State.busWrite { s with host := { s.host with qspi := rest } } (.sess 1) a.toNat 0xF v with
    | .next t => drainQspi rest t
    | o => o

/-- One posted QSPI write carried out; none where the queue is empty. -/
def State.postedWrite (s : State) : Option Out :=
  match s.host.qspi with
  | [] => none
  | (a, v) :: rest => some (State.busWrite { s with host := { s.host with qspi := rest } } (.sess 1) a.toNat 0xF v)

/-- Session 1 exists (R308). -/
def State.qspiOn (s : State) : Bool := s.bit Reg.HOST_CFG 0 && !s.pwr.off

/-- QSPI_READ (R310): after every write before it. -/
def execQspiRead (addr : BitVec 24) (s : State) : Out :=
  if !s.qspiOn then .next s
  else match drainQspi s.host.qspi s with
    | .next t =>
      let (t, w) := t.busRead (.sess 1) addr.toNat
      .next (t.emit [w])
    | o => o

/-- QSPI_WRITE (R310): posted into the queue of 4; a full queue drops it with OVERRUN. The chip select is a host access and wakes the
module. -/
def execQspiWrite (addr : BitVec 24) (v : Word) (s : State) : Out :=
  if !s.qspiOn then .next s
  else
    let s := s.wakeRequest 0
    .next (if 4 ≤ s.host.qspi.length then s.setLastErr 1 3 else { s with host := { s.host with qspi := s.host.qspi ++ [(addr, v)] } })

/-- QSPI_STATUS (R310). -/
def execQspiStatus (s : State) : Out :=
  if !s.qspiOn then .next s
  else
    let s := s.wakeRequest 0
    .next (s.emit [wd ((!s.host.qspi.isEmpty).toNat + 2 * (s.host.lastErr.toList.getD 1 0 != 0).toNat + 4 * s.qspiIrq.toNat)])

/-! ### The commands of the register interface -/

/-- REGISTER_WRITE (R320). -/
def execRegisterWrite (m : Master) (addr : BitVec 24) (v : Word) (be : BitVec 4) (s : State) : Out := s.busWrite m addr.toNat be v

/-- READ_CLEAR (R321): the word returned, and the side effects for the Prefect. -/
def execReadClear (m : Master) (addr : BitVec 24) (s : State) : Out :=
  let (t, w) := s.busRead m addr.toNat
  .next (if t.pwr.off then t else t.emit [w])

/-- BUS_WATCHDOG (R331): a read returns all ones, a write is dropped; counted and recorded. -/
def execBusWatchdog (m : Master) (addr : BitVec 24) (write : Bool) (s : State) : Out :=
  if s.pwr.off then .next s else
  let s := (s.busCount m addr.toNat 2).record { sev := 5, source := 0x00, code := 331, session := m.session, args := [wd addr.toNat] }
  .next (if write then s else s.emit [0xFFFFFFFF])

/-- MBOX_LATCH (R324). -/
def execMboxLatch (m : Master) (v : Word) (s : State) : Out := .next (s.throughView m (fun s => s.mboxSelect m v))

/-- MBOX_RELEASE (R324): a write of SPACE 0. -/
def execMboxRelease (m : Master) (s : State) : Out := .next (s.throughView m (fun s => s.mboxSelect m 0))

/-- MBOX_LATCH_DONE (R326). -/
def execMboxLatchDone (s : State) : Out := .next s.mboxDone

/-- POINT_STAGE_WRITE (R333): a write of a word of the POINT window. -/
def execPointStageWrite (m : Master) (idx : PointIdx) (word4 : BitVec 4) (v : Word) (s : State) : Out :=
  .next (s.throughView m (fun s => s.pointWrite m idx word4.toNat v))

/-- POINT_VALUE_WRITE (R333): VALUE commits. -/
def execPointValueWrite (m : Master) (idx : PointIdx) (v : Word) (s : State) : Out :=
  .next (s.throughView m (fun s => s.pointWrite m idx 0 v))

/-- ENTER_TEST (R328). -/
def execEnterTest (m : Master) (s : State) : Out := .next (s.hostWrite m (fun s => s.testEnter m))

/-- LEAVE_TEST (R328). -/
def execLeaveTest (m : Master) (s : State) : Out := .next (s.hostWrite m (fun s => s.testLeave m))

end Sys2Proof.Machine
end

