-- ==== Sys2Proof/Machine/LoadStore.lean ====
section
/-! DEFINITION. Loads and stores (R52, R53, R71, R76): core memory with its regions and its clasp buffer, and on a steward core LPDDR5 and
the register blocks, whose accesses wait for the homeroom of the tenant they are made for (R121). -/

namespace Sys2Proof.Machine

/-- A word that the buffered stores of a core's clasp cover whole (R76). -/
def State.buffered (s : State) (c : CoreId) (a : Nat) : Bool :=
  match (s.core c).clasp with
  | some k => (List.range 4).all (fun i => k.stores.any (fun st => decide (st.addr ≤ a + i) && decide (a + i < st.addr + st.bytes.length)))
  | none => false

/-- A load of n bytes meets a word with an uncorrectable error (R14, R52). -/
def State.loadPoisoned (s : State) (c : CoreId) (a n : Nat) : Bool :=
  (List.range ((n + 3) / 4)).any (fun i => s.isPoisoned (a + 4 * i) && !s.buffered c ((a + 4 * i) / 4 * 4))

/-- What the cluster clasp lock asks of an access (R76). -/
inductive LockNeed where
  /-- No lock is needed, or it is held. -/
  | free
  /-- The access takes the lock. -/
  | take
  /-- The core waits for it. -/
  | queue
deriving DecidableEq, Repr

/-- The first access of a clasp to cluster memory takes the lock, first come, first served; an access outside a clasp never does. -/
def State.lockNeed (s : State) (c : CoreId) (cluster : Bool) : LockNeed :=
  match (s.core c).clasp with
  | some k =>
    if !cluster || k.lock then .free
    else if (s.scan.lockOwner.toList.getD (clusterOf c).val none).isNone && (s.scan.lockFifo.toList.getD (clusterOf c).val []).isEmpty then .take
    else .queue
  | none => .free

/-- An access made under the clasp lock rule: at once, after taking the lock, or after the wait for it. -/
def State.underLock (s : State) (c : CoreId) (cluster : Bool) (body : State → Res) : Res :=
  match s.lockNeed c cluster with
  | .free => body s
  | .take => body (s.takeLock c)
  | .queue =>
    let cl := (clusterOf c).val
    .whole ({ s with scan := { s.scan with
      lockFifo := s.scan.lockFifo.setIfInBounds cl (s.scan.lockFifo.toList.getD cl [] ++ [c]) } }.setWaiting c .claspLock)

/-- The word of a register put into its byte lane, and its byte enables, for a steward store of the low n bytes of a value; lanes that the
store does not give are free (log entry 50). -/
def narrowWord (a : BitVec 24) (n : Nat) (v : Word) : Word :=
  let lane := a.toNat % 4
  bytesWord ((List.range 4).map (fun i => if lane ≤ i ∧ i < lane + n then (wordBytes v).getD (i - lane) 0
    else (wordBytes (Config.narrowLanes a)).getD i 0))

/-- A load of n bytes (R52): MEMORY for a bad address or a poisoned word; else gd takes the extended value. -/
def State.load (s : State) (c : CoreId) (gd : BitVec 4) (ea : Word) (n : Nat) (ext : Word → Word) : Res :=
  match s.dataAddr c ea n false with
  | .memory => .exc 3 ea
  | .at a cl => s.underLock c cl (fun t =>
      if t.loadPoisoned c a n then .exc 3 ea else .done (t.setG c gd (ext (bytesWord (t.loadBytes c a n)))))
  | .lpddr a => .done (s.setG c gd (ext (bytesWord (Memory.readN s.lpddr a n))))
  | .reg a =>
    if s.awaitsReload c then .wait .reload
    else
    let (t, w) := s.busRead .steward a.toNat
    .done (t.setG c gd (ext (bytesWord (((wordBytes w).drop (a.toNat % 4)).take n))))

/-- A load instruction (R52). -/
def State.loadInstr (s : State) (c : CoreId) (i : Instr) (gd ga : BitVec 4) (imm : Imm) (n : Nat) (ext : Word → Word) : Out :=
  s.runInstr c i true false [gd, ga] (fun t => t.load c gd (t.g c ga + imm.sext) n ext)

/-- A store of bytes to core memory: buffered inside a clasp (R76), else made at once (R53). -/
def State.storeCore (s : State) (c : CoreId) (a : Nat) (cluster : Bool) (b : List Byte) : State :=
  match (s.core c).clasp with
  | some k => s.setCore c { s.core c with clasp := some { k with stores := k.stores ++ [{ addr := a, bytes := b, cluster := cluster }] } }
  | none => s.storeBytes c a b

/-- A store of the low n bytes of a value (R52): MEMORY for a bad address. -/
def State.store (s : State) (c : CoreId) (ea : Word) (n : Nat) (v : Word) : Res :=
  let b := (wordBytes v).take n
  match s.dataAddr c ea n true with
  | .memory => .exc 3 ea
  | .at a cl => s.underLock c cl (fun t => .done (t.storeCore c a cl b))
  | .lpddr a => .done { s with lpddr := Memory.writeN s.lpddr a b }
  | .reg a =>
    if s.awaitsReload c then .wait .reload
    else match s.busWrite .steward (a.toNat / 4 * 4) 0xF (narrowWord a n v) with
      | .next t => .done t
      | o => .stop o

/-- A store instruction (R52): gd holds the data. -/
def State.storeInstr (s : State) (c : CoreId) (i : Instr) (gd ga : BitVec 4) (imm : Imm) (n : Nat) : Out :=
  s.runInstr c i true false [gd, ga] (fun t => t.store c (t.g c ga + imm.sext) n (t.g c gd))

/-- LW (R52). -/
def execLw (c : CoreId) (gd ga : BitVec 4) (imm : Imm) (s : State) : Out := s.loadInstr c (.lw c gd ga imm) gd ga imm 4 id

/-- LH (R52): sign-extended. -/
def execLh (c : CoreId) (gd ga : BitVec 4) (imm : Imm) (s : State) : Out :=
  s.loadInstr c (.lh c gd ga imm) gd ga imm 2 (fun w => (w.setWidth 16).signExtend 32)

/-- LHU (R52): zero-extended. -/
def execLhu (c : CoreId) (gd ga : BitVec 4) (imm : Imm) (s : State) : Out := s.loadInstr c (.lhu c gd ga imm) gd ga imm 2 id

/-- LB (R52): sign-extended. -/
def execLb (c : CoreId) (gd ga : BitVec 4) (imm : Imm) (s : State) : Out :=
  s.loadInstr c (.lb c gd ga imm) gd ga imm 1 (fun w => (w.setWidth 8).signExtend 32)

/-- LBU (R52): zero-extended. -/
def execLbu (c : CoreId) (gd ga : BitVec 4) (imm : Imm) (s : State) : Out := s.loadInstr c (.lbu c gd ga imm) gd ga imm 1 id

/-- SW (R52). -/
def execSw (c : CoreId) (gd ga : BitVec 4) (imm : Imm) (s : State) : Out := s.storeInstr c (.sw c gd ga imm) gd ga imm 4

/-- SH (R52): gd[15:0]. -/
def execSh (c : CoreId) (gd ga : BitVec 4) (imm : Imm) (s : State) : Out := s.storeInstr c (.sh c gd ga imm) gd ga imm 2

/-- SB (R52): gd[7:0]. -/
def execSb (c : CoreId) (gd ga : BitVec 4) (imm : Imm) (s : State) : Out := s.storeInstr c (.sb c gd ga imm) gd ga imm 1

/-! ### Eight words at a time (R71) -/

/-- The address of VLD and VST: ga + 32 × sext(off) (R71). -/
def vectorAddr (g : Word) (off : BitVec 12) : Word := g + off.signExtend 32 * 32

/-- Eight BF24 words as a b register: aligned to the largest exponent among them, then formed under R68 (R71: VLD). -/
def bfOfWords (l : List Word) : BReg × Bool :=
  let top := (l.map bf24Exp).foldl max (-32)
  bfResult (l.map (fun w => bfRound (bf24Mant w) (bf24Exp w - 23) top)) (top - 23)

/-- One of the eight words at an address is a register. -/
def State.anyRegister (s : State) (c : CoreId) (ea : Word) : Bool :=
  (List.range 8).any (fun i => match s.dataAddr c (ea + wd (4 * i)) 4 false with | .reg _ => true | _ => false)

/-- The words of LPDDR5 or of registers that a steward VLD reads one after another. -/
def State.readWords (s : State) (c : CoreId) (ea : Word) : Nat → State × List Word
  | 0 => (s, [])
  | n + 1 =>
    let (t, l) := s.readWords c ea n
    match t.dataAddr c (ea + wd (4 * n)) 4 false with
    | .lpddr a => (t, l ++ [bytesWord (Memory.readN t.lpddr a 4)])
    | .reg a =>
      let (u, w) := t.busRead .steward a.toNat
      (u, l ++ [w])
    | _ => (t, l ++ [0])

/-- VLD (R71): MEMORY for an address that is not a multiple of 32, fails the check of R35, or holds a poisoned word. -/
def execVld (c : CoreId) (bd : BitVec 3) (ga : BitVec 4) (off12 : BitVec 12) (s : State) : Out :=
  s.runInstr c (.vld c bd ga off12) true false [ga] (fun t =>
    let ea := vectorAddr (t.g c ga) off12
    match t.dataAddr c ea 32 false with
    | .memory => .exc 3 ea
    | .at a cl => t.underLock c cl (fun u =>
        if u.loadPoisoned c a 32 then .exc 3 ea
        else u.bfWrite c (.vld c bd ga off12) bd false (bfOfWords ((List.range 8).map (fun i => bytesWord (u.loadBytes c (a + 4 * i) 4)))))
    | _ =>
      if (List.range 8).any (fun i => t.dataAddr c (ea + wd (4 * i)) 4 false == .memory) then .exc 3 ea
      else if t.awaitsReload c && t.anyRegister c ea then .wait .reload
      else
        let (u, l) := t.readWords c ea 8
        u.bfWrite c (.vld c bd ga off12) bd false (bfOfWords l))

/-- The words of a steward VST to LPDDR5 or to registers, in ascending order. -/
def State.writeWords (s : State) (c : CoreId) (ea : Word) : List Word → Out
  | [] => .next s
  | w :: rest =>
    match s.dataAddr c ea 4 true with
    | .lpddr a => State.writeWords { s with lpddr := Memory.writeN s.lpddr a (wordBytes w) } c (ea + 4) rest
    | .reg a => match s.busWrite .steward (a.toNat / 4 * 4) 0xF w with
      | .next t => t.writeWords c (ea + 4) rest
      | o => o
    | _ => s.writeWords c (ea + 4) rest

/-- VST (R71): the lanes as eight words; one buffered store inside a clasp. -/
def execVst (c : CoreId) (bd : BitVec 3) (ga : BitVec 4) (off12 : BitVec 12) (s : State) : Out :=
  s.runInstr c (.vst c bd ga off12) true false [ga] (fun t =>
    let ea := vectorAddr (t.g c ga) off12
    let words := (List.range 8).map (fun i => (t.b c bd).laneWord i)
    match t.dataAddr c ea 32 true with
    | .memory => .exc 3 ea
    | .at a cl => t.underLock c cl (fun u => .done (u.storeCore c a cl (words.flatMap wordBytes)))
    | _ =>
      if (List.range 8).any (fun i => t.dataAddr c (ea + wd (4 * i)) 4 true == .memory) then .exc 3 ea
      else if t.awaitsReload c && t.anyRegister c ea then .wait .reload
      else match t.writeWords c ea words with
        | .next u => .done u
        | o => .stop o)

end Sys2Proof.Machine
end

