-- ==== Sys2Proof/Machine/Loop.lean ====
section
/-! DEFINITION. The commands of the loop engine (R133 to R161). -/

namespace Sys2Proof.Machine

/-- A following-error alarm of a slot (R146). -/
def State.slotAlarm (s : State) (n : Nat) : State :=
  let x := s.slot n
  match x.bind with
  | none => s
  | some b =>
    if x.feTime = 0 ∨ x.feTimer < x.feTime ∨ x.feAlarm then s
    else
      let s := (s.setSlot n { x with feAlarm := true }).inc Reg.LOOP_FE_CNT
      s.record { sev := 3, source := 0x06, code := 146, args := [wd n, x.fe, s.rd (Reg.SCAN_BELL_CNT b.cls.toNat)] }

/-- The following-error timer has reached FE_TIME (R146); the action takes effect at the next evaluation of a slot. -/
def execFeAlarm (target : FeTarget) (s : State) : Out :=
  .next (match target with
    | .slot n => s.slotAlarm n.toNat
    | .stage st => s.stageAlarm st.val)

/-- A 32 kHz period (R148): queued messages first, the encoder counts latched, then the sixteen operators. -/
def execCurrentPeriod (lines : List (Fin 32 × List (Bool × Bool))) (currents : Vector (BitVec 14) 32) (s : State) : Out :=
  if s.variant = 1 then .next s
  else
    let s := s.loopSettle.encFeedAll lines
    let code := fun k => currents.toList.getD k 0
    let s := (List.range 16).foldl (fun s d =>
      s.opPeriod d (s.phaseAmps (2 * d) (code (2 * d))) (s.phaseAmps (2 * d + 1) (code (2 * d + 1)))) s
    .next { s with loop := { s.loop with period := (s.loop.period + 1) % 16 } }

/-- BIND (R155). -/
def execLoopBind (s : State) : Out := .next (s.loopFront 0x001)

/-- UNBIND (R155). -/
def execLoopUnbind (s : State) : Out := .next (s.loopFront 0x002)

/-- PARAM (R155). -/
def execLoopParam (s : State) : Out := .next (s.loopFront 0x003)

/-- MODE (R155). -/
def execLoopMode (s : State) : Out := .next (s.loopFront 0x004)

/-- OP_BIND (R155). -/
def execOpBind (s : State) : Out := .next (s.loopFront 0x010)

/-- OP_PARAM (R155). -/
def execOpParam (s : State) : Out := .next (s.loopFront 0x011)

/-- OP_MODE (R155). -/
def execOpMode (s : State) : Out := .next (s.loopFront 0x012)

/-- OP_MOVE (R155). -/
def execOpMove (s : State) : Out := .next (s.loopFront 0x013)

/-- ZONE (R155). -/
def execZone (s : State) : Out := .next (s.loopFront 0x020)

/-- TRIGGER (R155). -/
def execLoopTriggerMsg (s : State) : Out := .next (s.loopFront 0x030)

/-- APPLY of the selected slot's staged set (R144). -/
def execSlotParamApply (m : Master) (s : State) : Out := .next (s.asPrefect m (fun s => s.slotApply (s.fld Reg.LOOP_SLOT_SEL 10 0)))

/-- APPLY of a stage's staged set (R153). -/
def execStageParamApply (m : Master) (stage : Fin 48) (s : State) : Out :=
  .next (s.asPrefect m (fun s => if s.variant = 1 then s else s.stageApply stage.val))

/-- A write of LOOP_SLOT_SEL latches the slot window. -/
def execSlotWindowLatch (m : Master) (slot11 : BitVec 11) (s : State) : Out := .next (s.asPrefect m (fun s => s.slotLatch slot11.toNat))

/-- The horizon deadline passes for a zone (R159). -/
def execHzDeadline (zone : BitVec 6) (s : State) : Out := .next (s.hzDeadline zone.toNat)

/-- COMMIT of the window's model (R157). -/
def execModelCommit (m : Master) (s : State) : Out := .next (s.asPrefect m State.modelCommit)

/-- ARM (R161). -/
def execTraceArm (m : Master) (s : State) : Out := .next (s.asPrefect m State.traceArm)

/-- TRIGGER by command (R161). -/
def execTraceTrigger (m : Master) (s : State) : Out := .next (s.asPrefect m State.traceTrigger)

/-- STOP (R161). -/
def execTraceStop (m : Master) (s : State) : Out := .next (s.asPrefect m State.traceStop)

end Sys2Proof.Machine
end

