-- ==== Sys2Proof/Machine/MulDiv.lean ====
section
/-! DEFINITION. Multiply and divide (R49). -/

namespace Sys2Proof.Machine

/-- MUL (R49): bits [31:0] of the product. -/
def execMul (c : CoreId) (gd ga gb : BitVec 4) (s : State) : Out := s.alu c (.mul c gd ga gb) gd ga gb (fun x y => x * y)

/-- MULH (R49): bits [63:32] of the signed product. -/
def execMulh (c : CoreId) (gd ga gb : BitVec 4) (s : State) : Out := s.alu c (.mulh c gd ga gb) gd ga gb (fun x y => wi (x.toInt * y.toInt / 4294967296))

/-- MULHU (R49): bits [63:32] of the unsigned product. -/
def execMulhu (c : CoreId) (gd ga gb : BitVec 4) (s : State) : Out := s.alu c (.mulhu c gd ga gb) gd ga gb (fun x y => wd (x.toNat * y.toNat / 4294967296))

/-- MULV (R49): OVERFLOW where the signed product is outside −2^31 to 2^31 − 1. -/
def execMulv (c : CoreId) (gd ga gb : BitVec 4) (s : State) : Out := s.aluV c (.mulv c gd ga gb) gd ga gb (fun x y => x * y)

/-- DIV (R49): rounded toward zero; −2^31 by −1 gives −2^31. -/
def execDiv (c : CoreId) (gd ga gb : BitVec 4) (s : State) : Out := s.divide c (.div c gd ga gb) gd ga gb (fun x y => x.sdiv y)

/-- DIVU (R49). -/
def execDivu (c : CoreId) (gd ga gb : BitVec 4) (s : State) : Out := s.divide c (.divu c gd ga gb) gd ga gb (fun x y => x / y)

/-- REM (R49): the sign of ga. -/
def execRem (c : CoreId) (gd ga gb : BitVec 4) (s : State) : Out := s.divide c (.rem c gd ga gb) gd ga gb (fun x y => x.srem y)

/-- REMU (R49). -/
def execRemu (c : CoreId) (gd ga gb : BitVec 4) (s : State) : Out := s.divide c (.remu c gd ga gb) gd ga gb (fun x y => x % y)

/-- MULQ (R49): the Q31 product, rounded to nearest, −1 × −1 saturated. -/
def execMulq (c : CoreId) (gd ga gb : BitVec 4) (s : State) : Out := s.alu c (.mulq c gd ga gb) gd ga gb (fun x y => q31 x y)

end Sys2Proof.Machine
end

