-- ==== Sys2Proof/Machine/Net.lean ====
section
/-! DEFINITION. The network commands (R242 to R263). -/

namespace Sys2Proof.Machine

def execFrameReceive (mac : Fin 8) (frame : Frame) (s : State) : Out := .next (s.receive mac.val frame)

def execPauseExpiry (mac : Fin 8) (s : State) : Out := .next (s.pauseExpiry mac.val)

def execFrameTransmit (mac : Fin 8) (pair : Bool) (q : BitVec 2) (len14 : BitVec 14) (coll : BitVec 4) (s : State) : Out :=
  .next (s.transmit mac.val pair q len14.toNat coll)

def execTxUnderrun (mac : Fin 8) (s : State) : Out := .next (s.underrun mac.val)

def execGateEntry (mac : Fin 8) (s : State) : Out := .next (s.gateEntry mac.val)

def execGateChange (m : Master) (mac : Fin 8) (s : State) : Out := .next (s.asPrefect m (fun s => s.gateChange mac.val))

def execLpiEntry (mac : Fin 8) (s : State) : Out := .next (s.lpiEntry mac.val)

def execLpiWake (mac : Fin 8) (s : State) : Out := .next (s.lpiWake mac.val)

def execPhyLinkChange (mac : Fin 8) (up eee low : Bool) (sqi : BitVec 3) (s : State) : Out := .next (s.linkChange mac.val up eee low sqi)

def execPrpSupervision (s : State) : Out := .next s.superviseOut

def execNodeForget (node : BitVec 48) (s : State) : Out := .next (s.nodeForget node)

def execLanLoss (lan : Fin 2) (s : State) : Out := .next (s.lanLoss lan.val)

def execHelloSend (port : Fin 2) (s : State) : Out := .next (s.helloSend port.val)

def execRiserPortDown (port : Fin 2) (s : State) : Out := .next (s.riserSilent port.val)

def execPlcaBeaconLoss (t1s : Fin 4) (s : State) : Out := .next (s.plcaLoss t1s.val)

def execPlcaBeacon (t1s : Fin 4) (s : State) : Out := .next (s.plcaBeacon t1s.val)

end Sys2Proof.Machine
end

