-- ==== Sys2Proof/Machine/Roster.lean ====
section
/-! DEFINITION. Roster and homeroom commands (R121, R127 to R130); the Tc is in Machine/RosterTc.lean. -/

namespace Sys2Proof.Machine

def execRosterCommit (m : Master) (s : State) : Out := .next (s.asPrefect m State.rosterCommit)

def execRosterRevert (m : Master) (s : State) : Out := .next (s.asPrefect m State.rosterRevert)

/-- No operation of an earlier epoch remains incomplete: DRAINED sets (R130). -/
def execRosterDrained (s : State) : Out :=
  .next (if !s.bit Reg.ROSTER_STAT 0 && s.oldOps.isEmpty then s.rosterDrain else s)

/-- The drain bound passes (R130): what remains completes with RULE_CHANGED, and an event of severity 5 is recorded. -/
def execDrainBoundExpiry (s : State) : Out :=
  if s.bit Reg.ROSTER_STAT 0 then .next s
  else
    let s := s.advanceTo (s.roster.tc + (s.rd Reg.ROSTER_DRAIN_BOUND).toNat * usCounts)
    let old := s.oldOps
    let s := s.ruleChanged old
    let s := if old.isEmpty then s else s.record { sev := 5, source := 0x05, code := 130, args := [wd old.length] }
    .next s.rosterDrain

/-- A steward core whose access waits for a homeroom goes on once its tenant is resident (R121). -/
def State.reloadWaitEnd (s : State) (c : CoreId) : State :=
  if (s.core c).waiting = .reload ∧ !s.awaitsReload c then s.setWaiting c .none else s

/-- A tenant's reload ends and its slot is resident (R121). -/
def execHomeroomReloadDone (slot : Fin 16) (s : State) : Out :=
  if s.fld (Reg.ROSTER_HR_CTX slot.val) 13 12 = 1 then
    .next (((s.setFld (Reg.ROSTER_HR_CTX slot.val) 13 12 2).reloadWaitEnd ⟨64, by decide⟩).reloadWaitEnd ⟨65, by decide⟩)
  else .next s

end Sys2Proof.Machine
end

