-- ==== Sys2Proof/Machine/RosterTc.lean ====
section
/-! DEFINITION. Tc of a roster commit (R127 to R130, R136). -/

namespace Sys2Proof.Machine

/-- An operation in flight that has taken effect by Tc, though its completion has not come yet (R128, R129): which of those that can take effect have is
the hardware's timing, a free value each. An earlier one of the same core on the same record goes first (R62). A PSYNC and a held put never have. -/
def State.reachTargets (s : State) : State :=
  (sortOn (fun p => p.2.order) (s.entries.filter (fun p => !p.2.completed && !p.2.held && !p.2.isPsync))).foldl (fun s p =>
    let past := bitOf s.freeWord 0
    if past then s.nextFree.atTarget State.latchOp p.1 p.2 else s.nextFree) s

/-- Tc (R127 steps 3 and 4, R129, R130): contexts and rules replaced, the epoch moved on, operations short of their write point completed
with RULE_CHANGED, the bound computed. Not before every newly pinned tenant is resident (R122). A reload in progress goes on with the new maps; a slot
no longer pinned may serve a waiting request (R121). -/
def State.rosterTc (s : State) : State :=
  match s.roster.copyCtx with
  | none => s
  | some ctx =>
    let waits := (validTenants ctx).any (fun t => (Tab.get tenantDefault ctx t).pin && !s.resident (BitVec.ofNat 12 t))
    if waits ∨ !s.bit Reg.ROSTER_STAT 0 then s
    else
      let s := s.reachTargets
      let s := { s with roster := { s.roster with ctx := ctx, rules := s.roster.copyRules, tc := s.now } }
      let s := (s.wr Reg.ROSTER_EPOCH (s.rd Reg.ROSTER_EPOCH + 1)).setBit Reg.ROSTER_STAT 0 false
      let s := (List.range 16).foldl (fun s k =>
        if s.fld (Reg.ROSTER_HR_CTX k) 13 12 = 0 then s
        else
          let c := s.tenant (BitVec.ofNat 12 (s.fld (Reg.ROSTER_HR_CTX k) 11 0))
          (s.setBit (Reg.ROSTER_HR_CTX k) 14 (c.valid && c.pin)).setBit (Reg.ROSTER_HR_CTX k) 15 c.privT) s
      let old := s.oldOps
      let s := s.wr Reg.ROSTER_DRAIN_BOUND (wd (min (drainBound old) 0xFFFFFFFF))
      let s := s.ruleChanged (old.filter (fun p => p.2.outcome.isNone))
      (if s.oldOps.isEmpty then s.rosterDrain else s).settleSlots []

/-- ROSTER_TC (R127, R129), with the check of every bound slot (R136). -/
def execRosterTc (s : State) : Out :=
  let t := s.rosterTc
  .next (if t.rd Reg.ROSTER_EPOCH = s.rd Reg.ROSTER_EPOCH then t else t.loopRoster)

end Sys2Proof.Machine
end

