-- ==== Sys2Proof/Machine/Safety.lean ====
section
/-! DEFINITION. The commands of the safety die (R15 to R18, R192 to R199). -/

namespace Sys2Proof.Machine

/-- Every 1 ms the control die sends each car's request (R193). -/
def execSafetyRequest (s : State) : Out := .next (if s.hasLift then s.safetyRequest else s)

/-- A channel evaluates its rules on what it reads (R192). -/
def execSafetyEvaluation (ch : Fin 2) (ins : Vector SafeIn 8) (s : State) : Out :=
  .next (if s.hasLift ∧ (s.chan ch.val).running then
    (List.range 8).foldl (fun s c => s.evalCar ch.val c (ins.toList.getD c SafeIn.zero)) s else s)

/-- The channels' grants differ for 5 ms (R197). -/
def execGrantDisagree (car : Fin 8) (s : State) : Out := .next (if s.hasLift ∧ s.grantsDiffer car.val then s.safeLatch car.val 4 else s)

/-- A readback disagrees with its command for longer than the switching time (R16). -/
def execRelayReadbackFail (ch : Fin 2) (relay : Fin 16) (s : State) : Out :=
  .next (if s.hasLift ∧ (s.chan ch.val).readback relay.val ≠ s.relayOn relay.val then s.safeLatch (relay.val / 2) 3 else s)

/-- The RESET contact has been operated (R197): every latch of the car but LINK clears. -/
def execLatchClear (car : Fin 8) (s : State) : Out :=
  let x := s.safeCar car.val
  .next (if x.clearable then s.setSafeCar car.val { x with latch := x.latch &&& 0x20, clearable := false } else s)

/-- A signed parameter set is forwarded over the request links and verified (R15, R199). -/
def execSafetyParamRequest (set : SafetySet) (s : State) : Out :=
  .next (if s.hasLift ∧ s.safe.chans.toList.any (fun k => k.running && k.link) ∧ s.setVerified set then s.safetyAsk set else s)

/-- The set asked for is applied (R199). -/
def execSafetyParamApply (s : State) : Out := .next s.safetyApply

/-- The safety die starts and holds every car safe (R17). -/
def execSafetyDieStart (s : State) : Out :=
  .next (if s.hasLift then
    let s := { s with safe := { s.safe with chans := Vector.replicate 2 { ChanSt.zero with running := true }, asked := none, seq := 0 } }
    (List.range 8).foldl (fun s c => s.setSafeCar c { s.safeCar c with released := false, operated := none, clearable := false, inTime := false }) s
  else s)

/-- A status update reaches the SAFE mirror (R18). -/
def execSafeMirrorUpdate (s : State) : Out := .next s.mirrorUpdate

end Sys2Proof.Machine
end

