-- ==== Sys2Proof/Machine/Startup.lean ====
section
/-! DEFINITION. The commands of reset and roll call (R352 to R357, R392). -/

namespace Sys2Proof.Machine

/-- POWER_ON_RESET (R351, R352): out of OFF or BATTERY. -/
def execPowerOnReset (s : State) : Out := .next s.powerOn

def execResetNAssert (s : State) : Out := .next (s.warmReset 1)

/-- SYS_RESET_GO (R352): ignored without the right KEY. -/
def execSysResetGo (m : Master) (key : BitVec 8) (s : State) : Out := .next (s.hostWrite m (fun s => if key = 0x5A then s.warmReset 2 else s))

def execThermalReset (s : State) : Out := .next (s.warmReset 4)

def execClockReset (s : State) : Out := .next (s.warmReset 5)

/-- THERMAL_ALARM (R392). -/
def execThermalAlarm (celsius : Int) (s : State) : Out :=
  .next (if celsius ≤ 105 ∨ s.pwr.off then s
    else s.record { sev := if 115 < celsius then 6 else 5, source := 0x20, code := 392, args := [wi celsius] })

def execRollCall (s : State) : Out := .next s.rollCall

def execRollStepLate (rstep : Fin 6) (s : State) : Out := .next (s.rollLate rstep.val)

def execRollHead (s : State) : Out := .next s.rollHead

def execRollFrame (port : Fin 2) (value8 : BitVec 8) (s : State) : Out := .next (s.rollFrameRx port value8.toNat)

def execRollTop (s : State) : Out := .next s.rollTop

end Sys2Proof.Machine
end

