-- ==== Sys2Proof/Machine/System.lean ====
section
/-! DEFINITION. System instructions (R56, R57), words that raise ILLEGAL (R45), and steward interrupts (R58). -/

namespace Sys2Proof.Machine

/-- NOP (R56). -/
def execNop (c : CoreId) (s : State) : Out := s.runInstr c (.nop c) true false [] (fun t => .done t)

/-- FENCE (R56): a store is visible to the cluster in the step that makes it, so there is nothing to wait for. -/
def execFence (c : CoreId) (s : State) : Out := s.runInstr c (.fence c) true false [] (fun t => .done t)

/-- BRK (R56, R381): a halt request where the debugger may halt the core, which then stops behind the BRK (log entry 16); else
BREAK. -/
def execBrk (c : CoreId) (code : BitVec 12) (s : State) : Out :=
  s.runInstr c (.brk c code) true false [] (fun t =>
    if t.mayHalt c then .whole ((((t.countClasp c).setPc c (t.pc c + 4)).requestHalt c 2))
    else .exc 4 (code.setWidth 32))

/-- TRAP (R56). -/
def execTrap (c : CoreId) (code : BitVec 12) (s : State) : Out :=
  s.runInstr c (.trap c code) true false [] (fun _ => .exc 5 (code.setWidth 32))

/-- ERET (R56): on a scan core to the header's EX_PC, which must be a word address in a CODE region; on a steward core through the
kept frame. Outside a handler it raises ILLEGAL; inside a clasp it breaks the bound (R77). -/
def State.eret (s : State) (c : CoreId) : Res :=
  if !bitOf (s.ls c) 9 then .exc 1 (exWord (.eret c))
  else if (s.core c).clasp.isSome then .exc 9 (exWord (.eret c))
  else
    let out := s.setLs c (setBitOf (s.ls c) 9 false)
    if isScan c then
      match (s.core c).lesson.bind s.lesson? with
      | some l =>
        let t := s.wordAt (State.headerAt l 0x10)
        if s.inCode c t then .jump out t else .exc 3 t
      | none => .whole s
    else
      match (s.core c).frame with
      | pc :: rest => .whole (((out.setCore c { out.core c with frame := rest }).setPc c pc).serveIrq c)
      | [] => .exc 1 (exWord (.eret c))

/-- ERET (R56). -/
def execEret (c : CoreId) (s : State) : Out := s.runInstr c (.eret c) true false [] (fun t => t.eret c)

/-- LS as RDSR reads it (R24): CLASS, START, LATE and LAST_ABANDON read 0 on a steward core. -/
def State.readLs (s : State) (c : CoreId) : Word := if isScan c then s.ls c else s.ls c &&& 0x131F

/-- HM as RDSR reads it (R23): PRIV reads 0 on a steward core. -/
def State.readHm (s : State) (c : CoreId) : Word := if isScan c then (s.core c).ctx.hm else (s.core c).ctx.hm &&& 0x0FFF000F

/-- The CORE special register (R57). -/
def coreWord (c : CoreId) : Word := if isScan c then wd c.val else wd (64 + (c.val - 64))

/-- A special register's value (R57); none for a number that is not defined. -/
def State.special (s : State) (c : CoreId) (sr : BitVec 12) : Option Word :=
  match sr.toNat with
  | 0 => some (s.readLs c)
  | 1 => some (s.readHm c)
  | 2 => some (if isScan c then (s.core c).ctx.bell else 0)
  | 3 => some (s.pc c)
  | 4 => some (s.cnt.extractLsb' 0 32)
  | 5 => some (s.core c).timeHi
  | 6 => some (coreWord c)
  | _ => none

/-- RDSR (R57): TIME_LO latches bits [63:32] of the counter for the core. -/
def execRdsr (c : CoreId) (gd : BitVec 4) (sr : BitVec 12) (s : State) : Out :=
  s.runInstr c (.rdsr c gd sr) (decide (sr.toNat < 7)) false [gd] (fun t => match t.special c sr with
    | some v =>
      let t := t.setG c gd v
      .done (if sr = 4 then t.setCore c { t.core c with timeHi := t.cnt.extractLsb' 32 32 } else t)
    | none => .exc 1 (exWord (.rdsr c gd sr)))

/-- WRSR (R57): LS takes BF_STICKY's clear at B and T, and every field at S, where IN_CLASP and IN_HANDLER are bits like the others: writing them neither
opens nor ends a clasp, and takes no pending interrupt (DESIGN CHOICE, log entry 65); HM takes SLOT, PRIV and TENANT at S and raises
PRIVILEGE below; every other number raises ILLEGAL. -/
def execWrsr (c : CoreId) (ga : BitVec 4) (sr : BitVec 12) (s : State) : Out :=
  s.runInstr c (.wrsr c ga sr) (decide (sr.toNat < 2)) (sr == 1) [ga] (fun t =>
    let v := t.g c ga
    if sr = 0 then
      .done (if isScan c then (if bitOf v 12 then t.setLs c (setBitOf (t.ls c) 12 false) else t) else t.setLs c (v &&& 0x1FFF1FFF))
    else
      let was := t.hmTenant c
      let t := t.updCtx c (fun k => { k with hm := v &&& 0x0FFF010F })
      .done ((t.needSlot (t.hmTenant c)).settleSlots [was]))

/-- WAIT (R56): a steward core idles until an enabled interrupt is pending; PRIVILEGE below S. -/
def execWait (c : CoreId) (s : State) : Out :=
  s.runInstr c (.wait c) true true [] (fun t =>
    if (t.core c).irq &&& (t.core c).ien = 0 then .wait .interrupt else .done t)

/-- IEN (R56): lines enabled; one that is pending is then taken. -/
def execIen (c : CoreId) (mask12 : BitVec 12) (s : State) : Out :=
  s.runInstr c (.ien c mask12) true true [] (fun t =>
    .whole (((t.setCore c { t.core c with ien := (t.core c).ien ||| mask12 }).countClasp c |>.setPc c (t.pc c + 4)).serveIrq c))

/-- IDIS (R56): lines disabled. -/
def execIdis (c : CoreId) (mask12 : BitVec 12) (s : State) : Out :=
  s.runInstr c (.idis c mask12) true true [] (fun t => .done (t.setCore c { t.core c with ien := (t.core c).ien &&& ~~~mask12 }))

/-- An instruction word that no encoding defines raises ILLEGAL (R44, R45). The second word belongs to it only behind a prefix, whose
fetch of that word comes first (R43). A word that decodes is no such word, and nothing happens. -/
def execIllegalEncoding (c : CoreId) (word second : Word) (s : State) : Out :=
  if (decodeWords c word.toNat second.toNat).isSome || !s.executing c then .next s
  else
    let pc := s.pc c
    if !s.fetchOk c pc then s.finish c pc (.exc 3 pc)
    else if bits word 31 26 == 0x3F && !s.fetchOk c (pc + 4) then s.finish c pc (.exc 3 (pc + 4))
    else s.finish c pc (.exc 1 word)

/-- An interrupt line of a steward core (R58): it becomes pending, and is taken where it is enabled (log entry 18). -/
def execStewardInterrupt (core : Fin 2) (line : Fin 12) (s : State) : Out :=
  let c : CoreId := ⟨64 + core.val, by omega⟩
  let k := s.core c
  .next ((s.setCore c { k with irq := k.irq ||| BitVec.ofNat 12 (2 ^ line.val) }).serveIrq c)

end Sys2Proof.Machine
end

