-- ==== Sys2Proof/Machine/TimeCmd.lean ====
section
/-! DEFINITION. The commands of the time base (R276 to R288). -/

namespace Sys2Proof.Machine

def execRateWrite (m : Master) (v : Word) (s : State) : Out := .next (s.asPrefect m (fun s => s.rateWrite v))

def execOffsetSet (m : Master) (s : State) : Out := .next (s.asPrefect m (State.offsetSet m))

def execOffsetAdd (m : Master) (s : State) : Out := .next (s.asPrefect m (State.offsetAdd m))

def execTimeFrameSend (port : Fin 2) (s : State) : Out := .next (s.timeFrame port)

def execTriggerEnable (m : Master) (trig : Fin 8) (v : Word) (s : State) : Out := .next (s.asPrefect m (fun s => s.trigWrite trig.val v))

def execTriggerEdge (trig : Fin 8) (s : State) : Out := .next (s.trigEdge trig.val)

def execTriggerPulseEnd (trig : Fin 8) (s : State) : Out := .next (s.trigPulseEnd trig.val)

def execCaptureEdge (cap : Fin 8) (rise : Bool) (s : State) : Out := .next (s.captureEdge cap.val rise)

def execCapturePop (m : Master) (cap : Fin 8) (s : State) : Out :=
  .next (s.hostRead m (fun s => s.peekWord (Reg.TIME_CAP_INFO cap.val)) (fun s => s.capturePop cap.val))

end Sys2Proof.Machine
end

