-- ==== Sys2Proof/Machine/Dispatch.lean ====
section
/-! DEFINITION. The meaning of every command: one arm per constructor, each a direct call of its meaning. -/

namespace Sys2Proof.Machine

/-- The effect of a command on everything but the queue. -/
def exec (i : Instr) (s : State) : Host.Outcome State Fault Refusal :=
  match i with
  | .add c gd ga gb => Sys2Proof.Machine.execAdd c gd ga gb s
  | .sub c gd ga gb => Sys2Proof.Machine.execSub c gd ga gb s
  | .and c gd ga gb => Sys2Proof.Machine.execAnd c gd ga gb s
  | .or c gd ga gb => Sys2Proof.Machine.execOr c gd ga gb s
  | .xor c gd ga gb => Sys2Proof.Machine.execXor c gd ga gb s
  | .nor c gd ga gb => Sys2Proof.Machine.execNor c gd ga gb s
  | .andn c gd ga gb => Sys2Proof.Machine.execAndn c gd ga gb s
  | .slt c gd ga gb => Sys2Proof.Machine.execSlt c gd ga gb s
  | .sltu c gd ga gb => Sys2Proof.Machine.execSltu c gd ga gb s
  | .seq c gd ga gb => Sys2Proof.Machine.execSeq c gd ga gb s
  | .sll c gd ga gb => Sys2Proof.Machine.execSll c gd ga gb s
  | .srl c gd ga gb => Sys2Proof.Machine.execSrl c gd ga gb s
  | .sra c gd ga gb => Sys2Proof.Machine.execSra c gd ga gb s
  | .ror c gd ga gb => Sys2Proof.Machine.execRor c gd ga gb s
  | .min c gd ga gb => Sys2Proof.Machine.execMin c gd ga gb s
  | .max c gd ga gb => Sys2Proof.Machine.execMax c gd ga gb s
  | .minu c gd ga gb => Sys2Proof.Machine.execMinu c gd ga gb s
  | .maxu c gd ga gb => Sys2Proof.Machine.execMaxu c gd ga gb s
  | .addv c gd ga gb => Sys2Proof.Machine.execAddv c gd ga gb s
  | .subv c gd ga gb => Sys2Proof.Machine.execSubv c gd ga gb s
  | .adds c gd ga gb => Sys2Proof.Machine.execAdds c gd ga gb s
  | .subs c gd ga gb => Sys2Proof.Machine.execSubs c gd ga gb s
  | .sel c gd ga gb => Sys2Proof.Machine.execSel c gd ga gb s
  | .abs c gd ga => Sys2Proof.Machine.execAbs c gd ga s
  | .mul c gd ga gb => Sys2Proof.Machine.execMul c gd ga gb s
  | .mulh c gd ga gb => Sys2Proof.Machine.execMulh c gd ga gb s
  | .mulhu c gd ga gb => Sys2Proof.Machine.execMulhu c gd ga gb s
  | .mulv c gd ga gb => Sys2Proof.Machine.execMulv c gd ga gb s
  | .div c gd ga gb => Sys2Proof.Machine.execDiv c gd ga gb s
  | .divu c gd ga gb => Sys2Proof.Machine.execDivu c gd ga gb s
  | .rem c gd ga gb => Sys2Proof.Machine.execRem c gd ga gb s
  | .remu c gd ga gb => Sys2Proof.Machine.execRemu c gd ga gb s
  | .mulq c gd ga gb => Sys2Proof.Machine.execMulq c gd ga gb s
  | .addi c gd ga imm => Sys2Proof.Machine.execAddi c gd ga imm s
  | .andi c gd ga imm => Sys2Proof.Machine.execAndi c gd ga imm s
  | .ori c gd ga imm => Sys2Proof.Machine.execOri c gd ga imm s
  | .xori c gd ga imm => Sys2Proof.Machine.execXori c gd ga imm s
  | .slti c gd ga imm => Sys2Proof.Machine.execSlti c gd ga imm s
  | .sltiu c gd ga imm => Sys2Proof.Machine.execSltiu c gd ga imm s
  | .shi c gd ga kind n => Sys2Proof.Machine.execShi c gd ga kind n s
  | .li c gd imm => Sys2Proof.Machine.execLi c gd imm s
  | .lui c gd imm18 => Sys2Proof.Machine.execLui c gd imm18 s
  | .extu c gd ga l w => Sys2Proof.Machine.execExtu c gd ga l w s
  | .exts c gd ga l w => Sys2Proof.Machine.execExts c gd ga l w s
  | .ins c gd ga l w => Sys2Proof.Machine.execIns c gd ga l w s
  | .clz c gd ga => Sys2Proof.Machine.execClz c gd ga s
  | .ctz c gd ga => Sys2Proof.Machine.execCtz c gd ga s
  | .popc c gd ga => Sys2Proof.Machine.execPopc c gd ga s
  | .bswap c gd ga => Sys2Proof.Machine.execBswap c gd ga s
  | .lw c gd ga imm => Sys2Proof.Machine.execLw c gd ga imm s
  | .lh c gd ga imm => Sys2Proof.Machine.execLh c gd ga imm s
  | .lhu c gd ga imm => Sys2Proof.Machine.execLhu c gd ga imm s
  | .lb c gd ga imm => Sys2Proof.Machine.execLb c gd ga imm s
  | .lbu c gd ga imm => Sys2Proof.Machine.execLbu c gd ga imm s
  | .sw c gd ga imm => Sys2Proof.Machine.execSw c gd ga imm s
  | .sh c gd ga imm => Sys2Proof.Machine.execSh c gd ga imm s
  | .sb c gd ga imm => Sys2Proof.Machine.execSb c gd ga imm s
  | .beq c ga gb off18 => Sys2Proof.Machine.execBeq c ga gb off18 s
  | .bne c ga gb off18 => Sys2Proof.Machine.execBne c ga gb off18 s
  | .blt c ga gb off18 => Sys2Proof.Machine.execBlt c ga gb off18 s
  | .bge c ga gb off18 => Sys2Proof.Machine.execBge c ga gb off18 s
  | .bltu c ga gb off18 => Sys2Proof.Machine.execBltu c ga gb off18 s
  | .bgeu c ga gb off18 => Sys2Proof.Machine.execBgeu c ga gb off18 s
  | .jal c gd off18 => Sys2Proof.Machine.execJal c gd off18 s
  | .jr c ga off17 => Sys2Proof.Machine.execJr c ga off17 s
  | .jalr c gd ga off17 => Sys2Proof.Machine.execJalr c gd ga off17 s
  | .nop c => Sys2Proof.Machine.execNop c s
  | .fence c => Sys2Proof.Machine.execFence c s
  | .brk c code => Sys2Proof.Machine.execBrk c code s
  | .trap c code => Sys2Proof.Machine.execTrap c code s
  | .eret c => Sys2Proof.Machine.execEret c s
  | .rdsr c gd sr => Sys2Proof.Machine.execRdsr c gd sr s
  | .wrsr c ga sr => Sys2Proof.Machine.execWrsr c ga sr s
  | .wait c => Sys2Proof.Machine.execWait c s
  | .ien c mask12 => Sys2Proof.Machine.execIen c mask12 s
  | .idis c mask12 => Sys2Proof.Machine.execIdis c mask12 s
  | .illegalEncoding c word second => Sys2Proof.Machine.execIllegalEncoding c word second s
  | .stewardInterrupt core line => Sys2Proof.Machine.execStewardInterrupt core line s
  | .pget c gd t pt => Sys2Proof.Machine.execPget c gd t pt s
  | .pget2 c gd t pt => Sys2Proof.Machine.execPget2 c gd t pt s
  | .pget4 c gd t pt => Sys2Proof.Machine.execPget4 c gd t pt s
  | .pgetvq c gd t pt => Sys2Proof.Machine.execPgetvq c gd t pt s
  | .pput c gd t pt => Sys2Proof.Machine.execPput c gd t pt s
  | .pput2 c gd t pt => Sys2Proof.Machine.execPput2 c gd t pt s
  | .pput4 c gd t pt => Sys2Proof.Machine.execPput4 c gd t pt s
  | .psync c gd t pt => Sys2Proof.Machine.execPsync c gd t pt s
  | .twait c gd t => Sys2Proof.Machine.execTwait c gd t s
  | .ttest c gd t => Sys2Proof.Machine.execTtest c gd t s
  | .tmov c gd t => Sys2Proof.Machine.execTmov c gd t s
  | .twaitm c gd mask8 => Sys2Proof.Machine.execTwaitm c gd mask8 s
  | .emsg c gd t unit typ ga len reply => Sys2Proof.Machine.execEmsg c gd t unit typ ga len reply s
  | .poolEntryGrant => Sys2Proof.Machine.execPoolEntryGrant s
  | .tagWaitEnd c => Sys2Proof.Machine.execTagWaitEnd c s
  | .boundWaitEnd c => Sys2Proof.Machine.execBoundWaitEnd c s
  | .operationComplete entry => Sys2Proof.Machine.execOperationComplete entry s
  | .psyncComplete entry => Sys2Proof.Machine.execPsyncComplete entry s
  | .operationTimeout entry => Sys2Proof.Machine.execOperationTimeout entry s
  | .vadd c bd ba bb tt => Sys2Proof.Machine.execVadd c bd ba bb tt s
  | .vsub c bd ba bb tt => Sys2Proof.Machine.execVsub c bd ba bb tt s
  | .vmul c bd ba bb tt => Sys2Proof.Machine.execVmul c bd ba bb tt s
  | .vmac c bd ba bb tt => Sys2Proof.Machine.execVmac c bd ba bb tt s
  | .vmin c bd ba bb tt => Sys2Proof.Machine.execVmin c bd ba bb tt s
  | .vmax c bd ba bb tt => Sys2Proof.Machine.execVmax c bd ba bb tt s
  | .vneg c bd ba tt => Sys2Proof.Machine.execVneg c bd ba tt s
  | .vabs c bd ba tt => Sys2Proof.Machine.execVabs c bd ba tt s
  | .vclamp c bd ba bb tt => Sys2Proof.Machine.execVclamp c bd ba bb tt s
  | .vdot c bd ba bb tt => Sys2Proof.Machine.execVdot c bd ba bb tt s
  | .vsum c bd ba tt => Sys2Proof.Machine.execVsum c bd ba tt s
  | .vbcast c op lane bd ba bb tt => Sys2Proof.Machine.execVbcast c op lane bd ba bb tt s
  | .vld c bd ga off12 => Sys2Proof.Machine.execVld c bd ga off12 s
  | .vst c bd ga off12 => Sys2Proof.Machine.execVst c bd ga off12 s
  | .vext c ga bd lane => Sys2Proof.Machine.execVext c ga bd lane s
  | .vins c bd ga lane => Sys2Proof.Machine.execVins c bd ga lane s
  | .vgexp c ga bd => Sys2Proof.Machine.execVgexp c ga bd s
  | .vsete c bd ga => Sys2Proof.Machine.execVsete c bd ga s
  | .vcvt c ga bd lane scale tt => Sys2Proof.Machine.execVcvt c ga bd lane scale tt s
  | .vcvtf c bd ga lane scale => Sys2Proof.Machine.execVcvtf c bd ga lane scale s
  | .vcmp c ga bd bb cond => Sys2Proof.Machine.execVcmp c ga bd bb cond s
  | .vsplat c bd ga => Sys2Proof.Machine.execVsplat c bd ga s
  | .vzero c bd => Sys2Proof.Machine.execVzero c bd s
  | .lend c => Sys2Proof.Machine.execLend c s
  | .lslack c gd => Sys2Proof.Machine.execLslack c gd s
  | .lsleep c ga => Sys2Proof.Machine.execLsleep c ga s
  | .lsleepExpiry c => Sys2Proof.Machine.execLsleepExpiry c s
  | .lbell c gd cls => Sys2Proof.Machine.execLbell c gd cls s
  | .clasp c => Sys2Proof.Machine.execClasp c s
  | .unclasp c => Sys2Proof.Machine.execUnclasp c s
  | .claspSlotGrant => Sys2Proof.Machine.execClaspSlotGrant s
  | .claspLockGrant cluster => Sys2Proof.Machine.execClaspLockGrant cluster s
  | .bell cls => Sys2Proof.Machine.execBell cls s
  | .lessonStart core => Sys2Proof.Machine.execLessonStart core s
  | .deadlineExpiry lesson => Sys2Proof.Machine.execDeadlineExpiry lesson s
  | .budgetExhausted lesson => Sys2Proof.Machine.execBudgetExhausted lesson s
  | .scanRunStart m => Sys2Proof.Machine.execScanRunStart m s
  | .scanRunStop m => Sys2Proof.Machine.execScanRunStop m s
  | .uncorrectableError target => Sys2Proof.Machine.execUncorrectableError target s
  | .floorWrite m slot v => Sys2Proof.Machine.execFloorWrite m slot v s
  | .forceSet m => Sys2Proof.Machine.execForceSet m s
  | .forceClear m => Sys2Proof.Machine.execForceClear m s
  | .forceClearAll m => Sys2Proof.Machine.execForceClearAll m s
  | .lessonClrOne m lesson => Sys2Proof.Machine.execLessonClrOne m lesson s
  | .lessonClrAll m => Sys2Proof.Machine.execLessonClrAll m s
  | .producerCommit idx producer upd => Sys2Proof.Machine.execProducerCommit idx producer upd s
  | .deviceAnswer group values => Sys2Proof.Machine.execDeviceAnswer group values s
  | .deviceRequestTimeout group => Sys2Proof.Machine.execDeviceRequestTimeout group s
  | .devicePoll group => Sys2Proof.Machine.execDevicePoll group s
  | .progBegin m tenantImg tenant => Sys2Proof.Machine.execProgBegin m tenantImg tenant s
  | .progPush m items => Sys2Proof.Machine.execProgPush m items s
  | .progCheck m => Sys2Proof.Machine.execProgCheck m s
  | .progCheckDone => Sys2Proof.Machine.execProgCheckDone s
  | .progLoad m => Sys2Proof.Machine.execProgLoad m s
  | .progArm m => Sys2Proof.Machine.execProgArm m s
  | .stagingDone => Sys2Proof.Machine.execStagingDone s
  | .progAbort m => Sys2Proof.Machine.execProgAbort m s
  | .warmRestart m => Sys2Proof.Machine.execWarmRestart m s
  | .coldRestart m => Sys2Proof.Machine.execColdRestart m s
  | .switchCoreRelease core => Sys2Proof.Machine.execSwitchCoreRelease core s
  | .periodicCheckpoint => Sys2Proof.Machine.execPeriodicCheckpoint s
  | .homeroomReloadDone slot => Sys2Proof.Machine.execHomeroomReloadDone slot s
  | .rosterCommit m => Sys2Proof.Machine.execRosterCommit m s
  | .rosterRevert m => Sys2Proof.Machine.execRosterRevert m s
  | .rosterTc => Sys2Proof.Machine.execRosterTc s
  | .rosterDrained => Sys2Proof.Machine.execRosterDrained s
  | .drainBoundExpiry => Sys2Proof.Machine.execDrainBoundExpiry s
  | .feAlarm target => Sys2Proof.Machine.execFeAlarm target s
  | .currentPeriod lines currents => Sys2Proof.Machine.execCurrentPeriod lines currents s
  | .loopBind => Sys2Proof.Machine.execLoopBind s
  | .loopUnbind => Sys2Proof.Machine.execLoopUnbind s
  | .loopParam => Sys2Proof.Machine.execLoopParam s
  | .loopMode => Sys2Proof.Machine.execLoopMode s
  | .opBind => Sys2Proof.Machine.execOpBind s
  | .opParam => Sys2Proof.Machine.execOpParam s
  | .opMode => Sys2Proof.Machine.execOpMode s
  | .opMove => Sys2Proof.Machine.execOpMove s
  | .zone => Sys2Proof.Machine.execZone s
  | .loopTriggerMsg => Sys2Proof.Machine.execLoopTriggerMsg s
  | .slotParamApply m => Sys2Proof.Machine.execSlotParamApply m s
  | .stageParamApply m stage => Sys2Proof.Machine.execStageParamApply m stage s
  | .slotWindowLatch m slot11 => Sys2Proof.Machine.execSlotWindowLatch m slot11 s
  | .hzDeadline zone => Sys2Proof.Machine.execHzDeadline zone s
  | .modelCommit m => Sys2Proof.Machine.execModelCommit m s
  | .traceArm m => Sys2Proof.Machine.execTraceArm m s
  | .traceTrigger m => Sys2Proof.Machine.execTraceTrigger m s
  | .traceStop m => Sys2Proof.Machine.execTraceStop m s
  | .positionPeriod lines => Sys2Proof.Machine.execPositionPeriod lines s
  | .encoderQerr enc => Sys2Proof.Machine.execEncoderQerr enc s
  | .doorZoneEdge car rising km kg => Sys2Proof.Machine.execDoorZoneEdge car rising km kg s
  | .terminalEdge car active km kg => Sys2Proof.Machine.execTerminalEdge car active km kg s
  | .carClear m car => Sys2Proof.Machine.execCarClear m car s
  | .captureFlush m car => Sys2Proof.Machine.execCaptureFlush m car s
  | .dzcapPop m car => Sys2Proof.Machine.execDzcapPop m car s
  | .doorPositionPeriod => Sys2Proof.Machine.execDoorPositionPeriod s
  | .doorCommand door => Sys2Proof.Machine.execDoorCommand door s
  | .doorClosedReached door => Sys2Proof.Machine.execDoorClosedReached door s
  | .doorOpenReached door => Sys2Proof.Machine.execDoorOpenReached door s
  | .doorStall door => Sys2Proof.Machine.execDoorStall door s
  | .homingTimeout door => Sys2Proof.Machine.execHomingTimeout door s
  | .learnTimeout door => Sys2Proof.Machine.execLearnTimeout door s
  | .callAdd => Sys2Proof.Machine.execCallAdd s
  | .callCancel => Sys2Proof.Machine.execCallCancel s
  | .stopDone => Sys2Proof.Machine.execStopDone s
  | .dispatchCommit => Sys2Proof.Machine.execDispatchCommit s
  | .dispatchDrop => Sys2Proof.Machine.execDispatchDrop s
  | .dispatchCallLatch m slot8 => Sys2Proof.Machine.execDispatchCallLatch m slot8 s
  | .safetyRequest => Sys2Proof.Machine.execSafetyRequest s
  | .safetyEvaluation ch ins => Sys2Proof.Machine.execSafetyEvaluation ch ins s
  | .grantDisagree car => Sys2Proof.Machine.execGrantDisagree car s
  | .relayReadbackFail ch relay => Sys2Proof.Machine.execRelayReadbackFail ch relay s
  | .latchClear car => Sys2Proof.Machine.execLatchClear car s
  | .safetyParamRequest set => Sys2Proof.Machine.execSafetyParamRequest set s
  | .safetyParamApply => Sys2Proof.Machine.execSafetyParamApply s
  | .safetyDieStart => Sys2Proof.Machine.execSafetyDieStart s
  | .safeMirrorUpdate => Sys2Proof.Machine.execSafeMirrorUpdate s
  | .lineCycle supply sup ckts => Sys2Proof.Machine.execLineCycle supply sup ckts s
  | .meterSnap m => Sys2Proof.Machine.execMeterSnap m s
  | .meterClrAll m => Sys2Proof.Machine.execMeterClrAll m s
  | .calApply m => Sys2Proof.Machine.execCalApply m s
  | .meterSupervision ckt cond => Sys2Proof.Machine.execMeterSupervision ckt cond s
  | .meterSave => Sys2Proof.Machine.execMeterSave s
  | .saveConfirmed => Sys2Proof.Machine.execSaveConfirmed s
  | .saveLate => Sys2Proof.Machine.execSaveLate s
  | .qmapWrite m entry10 v => Sys2Proof.Machine.execQmapWrite m entry10 v s
  | .batClr m ckt => Sys2Proof.Machine.execBatClr m ckt s
  | .batteryMeasure rms => Sys2Proof.Machine.execBatteryMeasure rms s
  | .batteryRecordWrite => Sys2Proof.Machine.execBatteryRecordWrite s
  | .meterMerge => Sys2Proof.Machine.execMeterMerge s
  | .pulseEmit out => Sys2Proof.Machine.execPulseEmit out s
  | .diSample di raw => Sys2Proof.Machine.execDiSample di raw s
  | .doReadbackFault dch rb => Sys2Proof.Machine.execDoReadbackFault dch rb s
  | .doOverload dch => Sys2Proof.Machine.execDoOverload dch s
  | .doGroupOverload grp current => Sys2Proof.Machine.execDoGroupOverload grp current s
  | .doRetry target ok => Sys2Proof.Machine.execDoRetry target ok s
  | .doClear m dch => Sys2Proof.Machine.execDoClear m dch s
  | .doGroupClear m grp => Sys2Proof.Machine.execDoGroupClear m grp s
  | .vfldLow bank => Sys2Proof.Machine.execVfldLow bank s
  | .vfldRestore bank => Sys2Proof.Machine.execVfldRestore bank s
  | .aiConversion ai code16 micro => Sys2Proof.Machine.execAiConversion ai code16 micro s
  | .aiShuntRetry ai => Sys2Proof.Machine.execAiShuntRetry ai s
  | .csMeanCommit cs mean => Sys2Proof.Machine.execCsMeanCommit cs mean s
  | .channelBind m addr v => Sys2Proof.Machine.execChannelBind m addr v s
  | .fieldOutEnable m v => Sys2Proof.Machine.execFieldOutEnable m v s
  | .daliBusFail line => Sys2Proof.Machine.execDaliBusFail line s
  | .daliBusReturn line => Sys2Proof.Machine.execDaliBusReturn line s
  | .daliAddress m line => Sys2Proof.Machine.execDaliAddress m line s
  | .addressingEnd line gear dev dup excess => Sys2Proof.Machine.execAddressingEnd line gear dev dup excess s
  | .daliRefresh m line => Sys2Proof.Machine.execDaliRefresh m line s
  | .daliOutputSend line resends => Sys2Proof.Machine.execDaliOutputSend line resends s
  | .daliEvent line sa inst info ityp => Sys2Proof.Machine.execDaliEvent line sa inst info ityp s
  | .daliGapExpiry entry10 => Sys2Proof.Machine.execDaliGapExpiry entry10 s
  | .daliPoll entry10 answer => Sys2Proof.Machine.execDaliPoll entry10 answer s
  | .daliRawGo m => Sys2Proof.Machine.execDaliRawGo m s
  | .daliRawDone result ans8 => Sys2Proof.Machine.execDaliRawDone result ans8 s
  | .frameReceive mac frame => Sys2Proof.Machine.execFrameReceive mac frame s
  | .pauseExpiry mac => Sys2Proof.Machine.execPauseExpiry mac s
  | .frameTransmit mac pair q len14 coll => Sys2Proof.Machine.execFrameTransmit mac pair q len14 coll s
  | .txUnderrun mac => Sys2Proof.Machine.execTxUnderrun mac s
  | .gateEntry mac => Sys2Proof.Machine.execGateEntry mac s
  | .gateChange m mac => Sys2Proof.Machine.execGateChange m mac s
  | .lpiEntry mac => Sys2Proof.Machine.execLpiEntry mac s
  | .lpiWake mac => Sys2Proof.Machine.execLpiWake mac s
  | .phyLinkChange mac up eee low sqi => Sys2Proof.Machine.execPhyLinkChange mac up eee low sqi s
  | .prpSupervision => Sys2Proof.Machine.execPrpSupervision s
  | .nodeForget node => Sys2Proof.Machine.execNodeForget node s
  | .lanLoss lan => Sys2Proof.Machine.execLanLoss lan s
  | .helloSend port => Sys2Proof.Machine.execHelloSend port s
  | .riserPortDown port => Sys2Proof.Machine.execRiserPortDown port s
  | .plcaBeaconLoss t1s => Sys2Proof.Machine.execPlcaBeaconLoss t1s s
  | .canBusOff can => Sys2Proof.Machine.execCanBusOff can s
  | .canBusOffRecovery can => Sys2Proof.Machine.execCanBusOffRecovery can s
  | .credWrite m => Sys2Proof.Machine.execCredWrite m s
  | .credDelete m => Sys2Proof.Machine.execCredDelete m s
  | .present psrc => Sys2Proof.Machine.execPresent psrc s
  | .cacheSweep => Sys2Proof.Machine.execCacheSweep s
  | .doorLock dsrc => Sys2Proof.Machine.execDoorLock dsrc s
  | .doorPulse dsrc => Sys2Proof.Machine.execDoorPulse dsrc s
  | .doorHoldUnlocked dsrc => Sys2Proof.Machine.execDoorHoldUnlocked dsrc s
  | .doorLockdown dsrc => Sys2Proof.Machine.execDoorLockdown dsrc s
  | .doorReleaseLockdown dsrc => Sys2Proof.Machine.execDoorReleaseLockdown dsrc s
  | .doorContactChange adoor => Sys2Proof.Machine.execDoorContactChange adoor s
  | .doorRex adoor => Sys2Proof.Machine.execDoorRex adoor s
  | .doorFire adoor => Sys2Proof.Machine.execDoorFire adoor s
  | .strikeTimeExpiry adoor => Sys2Proof.Machine.execStrikeTimeExpiry adoor s
  | .heldTimeExpiry adoor => Sys2Proof.Machine.execHeldTimeExpiry adoor s
  | .rateWrite m v => Sys2Proof.Machine.execRateWrite m v s
  | .offsetSet m => Sys2Proof.Machine.execOffsetSet m s
  | .offsetAdd m => Sys2Proof.Machine.execOffsetAdd m s
  | .timeFrameSend port => Sys2Proof.Machine.execTimeFrameSend port s
  | .triggerEnable m trig v => Sys2Proof.Machine.execTriggerEnable m trig v s
  | .triggerEdge trig => Sys2Proof.Machine.execTriggerEdge trig s
  | .triggerPulseEnd trig => Sys2Proof.Machine.execTriggerPulseEnd trig s
  | .captureEdge cap rise => Sys2Proof.Machine.execCaptureEdge cap rise s
  | .capturePop m cap => Sys2Proof.Machine.execCapturePop m cap s
  | .transition m target => Sys2Proof.Machine.execTransition m target s
  | .keyLoad m slot5 => Sys2Proof.Machine.execKeyLoad m slot5 s
  | .keyErase m slot5 => Sys2Proof.Machine.execKeyErase m slot5 s
  | .ownerRestore m => Sys2Proof.Machine.execOwnerRestore m s
  | .getNonce m => Sys2Proof.Machine.execGetNonce m s
  | .keySha256 m => Sys2Proof.Machine.execKeySha256 m s
  | .keySha384 m => Sys2Proof.Machine.execKeySha384 m s
  | .keyHmac m slot5 => Sys2Proof.Machine.execKeyHmac m slot5 s
  | .keyGcmEnc m slot5 => Sys2Proof.Machine.execKeyGcmEnc m slot5 s
  | .keyGcmDec m slot5 => Sys2Proof.Machine.execKeyGcmDec m slot5 s
  | .keySign m slot5 => Sys2Proof.Machine.execKeySign m slot5 s
  | .keyVerify m slot5 => Sys2Proof.Machine.execKeyVerify m slot5 s
  | .derive m slot5 => Sys2Proof.Machine.execDerive m slot5 s
  | .generate m slot5 => Sys2Proof.Machine.execGenerate m slot5 s
  | .identity m => Sys2Proof.Machine.execIdentity m s
  | .fuseSafetyKey m => Sys2Proof.Machine.execFuseSafetyKey m s
  | .keyCommandDone healthy => Sys2Proof.Machine.execKeyCommandDone healthy s
  | .tamper sensor active => Sys2Proof.Machine.execTamper sensor active s
  | .claim m prio nonce => Sys2Proof.Machine.execClaim m prio nonce s
  | .renew m nonce => Sys2Proof.Machine.execRenew m nonce s
  | .release m => Sys2Proof.Machine.execRelease m s
  | .withdraw m => Sys2Proof.Machine.execWithdraw m s
  | .handover m target => Sys2Proof.Machine.execHandover m target s
  | .accept m prio nonce => Sys2Proof.Machine.execAccept m prio nonce s
  | .electionClose => Sys2Proof.Machine.execElectionClose s
  | .leaseLapse => Sys2Proof.Machine.execLeaseLapse s
  | .handoverLapse => Sys2Proof.Machine.execHandoverLapse s
  | .sessionAppear sess => Sys2Proof.Machine.execSessionAppear sess s
  | .sessionEnd sess => Sys2Proof.Machine.execSessionEnd sess s
  | .lastErrRead m => Sys2Proof.Machine.execLastErrRead m s
  | .qspiRead addr => Sys2Proof.Machine.execQspiRead addr s
  | .qspiWrite addr v => Sys2Proof.Machine.execQspiWrite addr v s
  | .qspiStatus => Sys2Proof.Machine.execQspiStatus s
  | .charmRead m => Sys2Proof.Machine.execCharmRead m s
  | .charmWrite m => Sys2Proof.Machine.execCharmWrite m s
  | .charmXferTimeout => Sys2Proof.Machine.execCharmXferTimeout s
  | .hostLockRequest m n1 v => Sys2Proof.Machine.execHostLockRequest m n1 v s
  | .hostLockTimeout sector => Sys2Proof.Machine.execHostLockTimeout sector s
  | .rfUpdateBinary file off16 bytes => Sys2Proof.Machine.execRfUpdateBinary file off16 bytes s
  | .rfReadBinary file off16 len8 => Sys2Proof.Machine.execRfReadBinary file off16 len8 s
  | .rfLockRelease sector deselect => Sys2Proof.Machine.execRfLockRelease sector deselect s
  | .rfFieldLoss torn => Sys2Proof.Machine.execRfFieldLoss torn s
  | .registerWrite m addr v be => Sys2Proof.Machine.execRegisterWrite m addr v be s
  | .readClear m addr => Sys2Proof.Machine.execReadClear m addr s
  | .busWatchdog m addr write => Sys2Proof.Machine.execBusWatchdog m addr write s
  | .mboxLatch m v => Sys2Proof.Machine.execMboxLatch m v s
  | .mboxRelease m => Sys2Proof.Machine.execMboxRelease m s
  | .mboxLatchDone => Sys2Proof.Machine.execMboxLatchDone s
  | .pointStageWrite m idx word4 v => Sys2Proof.Machine.execPointStageWrite m idx word4 v s
  | .pointValueWrite m idx v => Sys2Proof.Machine.execPointValueWrite m idx v s
  | .enterTest m => Sys2Proof.Machine.execEnterTest m s
  | .leaveTest m => Sys2Proof.Machine.execLeaveTest m s
  | .feedAbsent feed low => Sys2Proof.Machine.execFeedAbsent feed low s
  | .feedFaulted which dev => Sys2Proof.Machine.execFeedFaulted which dev s
  | .transfer m => Sys2Proof.Machine.execTransfer m s
  | .transferPathTimeout => Sys2Proof.Machine.execTransferPathTimeout s
  | .restore m feed => Sys2Proof.Machine.execRestore m feed s
  | .feedAutoRestore feed => Sys2Proof.Machine.execFeedAutoRestore feed s
  | .testDue feed => Sys2Proof.Machine.execTestDue feed s
  | .sleepEntry want => Sys2Proof.Machine.execSleepEntry want s
  | .wakeRequest src => Sys2Proof.Machine.execWakeRequest src s
  | .scheduledExit => Sys2Proof.Machine.execScheduledExit s
  | .recessAsk number => Sys2Proof.Machine.execRecessAsk number s
  | .recessRequestRx port number carries => Sys2Proof.Machine.execRecessRequestRx port number carries s
  | .recessGrantRx port number => Sys2Proof.Machine.execRecessGrantRx port number s
  | .recessRefuseRx port number reason => Sys2Proof.Machine.execRecessRefuseRx port number reason s
  | .recessCommitRx port number => Sys2Proof.Machine.execRecessCommitRx port number s
  | .recessWithdrawRx port number => Sys2Proof.Machine.execRecessWithdrawRx port number s
  | .recessAnswerTimeout port => Sys2Proof.Machine.execRecessAnswerTimeout port s
  | .recessGrantLapse port => Sys2Proof.Machine.execRecessGrantLapse port s
  | .wakeFrame port propagate => Sys2Proof.Machine.execWakeFrame port propagate s
  | .wakeFrameResend port => Sys2Proof.Machine.execWakeFrameResend port s
  | .powerFailDetect cut last => Sys2Proof.Machine.execPowerFailDetect cut last s
  | .powerOnReset => Sys2Proof.Machine.execPowerOnReset s
  | .resetNAssert => Sys2Proof.Machine.execResetNAssert s
  | .sysResetGo m key => Sys2Proof.Machine.execSysResetGo m key s
  | .thermalReset => Sys2Proof.Machine.execThermalReset s
  | .clockReset => Sys2Proof.Machine.execClockReset s
  | .thermalAlarm celsius => Sys2Proof.Machine.execThermalAlarm celsius s
  | .rollCall => Sys2Proof.Machine.execRollCall s
  | .rollStepLate rstep => Sys2Proof.Machine.execRollStepLate rstep s
  | .rollHead => Sys2Proof.Machine.execRollHead s
  | .rollFrame port value8 => Sys2Proof.Machine.execRollFrame port value8 s
  | .rollTop => Sys2Proof.Machine.execRollTop s
  | .fwuBegin m => Sys2Proof.Machine.execFwuBegin m s
  | .fwuPush m piece => Sys2Proof.Machine.execFwuPush m piece s
  | .fwuStart m => Sys2Proof.Machine.execFwuStart m s
  | .fwuAbort m => Sys2Proof.Machine.execFwuAbort m s
  | .confirm m => Sys2Proof.Machine.execConfirm m s
  | .fwuManifest manifest => Sys2Proof.Machine.execFwuManifest manifest s
  | .fwuData image32 block offset data => Sys2Proof.Machine.execFwuData image32 block offset data s
  | .fwuAck block err => Sys2Proof.Machine.execFwuAck block err s
  | .fwuNak block => Sys2Proof.Machine.execFwuNak block s
  | .fwuFrameAbort fromUp => Sys2Proof.Machine.execFwuFrameAbort fromUp s
  | .fwuAckTimeout => Sys2Proof.Machine.execFwuAckTimeout s
  | .receivingDiscard => Sys2Proof.Machine.execReceivingDiscard s
  | .fwuInstall => Sys2Proof.Machine.execFwuInstall s
  | .preparationDone migrated => Sys2Proof.Machine.execPreparationDone migrated s
  | .preparationTimeout => Sys2Proof.Machine.execPreparationTimeout s
  | .reportCard => Sys2Proof.Machine.execReportCard s
  | .reportDeadline => Sys2Proof.Machine.execReportDeadline s
  | .stewardWatchdog core => Sys2Proof.Machine.execStewardWatchdog core s
  | .crossDieCrcError link => Sys2Proof.Machine.execCrossDieCrcError link s
  | .linkLoss link => Sys2Proof.Machine.execLinkLoss link s
  | .linkReturn link => Sys2Proof.Machine.execLinkReturn link s
  | .eventWindowEnd rule key => Sys2Proof.Machine.execEventWindowEnd rule key s
  | .evtFlush m => Sys2Proof.Machine.execEvtFlush m s
  | .flushTimer => Sys2Proof.Machine.execFlushTimer s
  | .evtExact m retained => Sys2Proof.Machine.execEvtExact m retained s
  | .evtNext m retained => Sys2Proof.Machine.execEvtNext m retained s
  | .evtReadDone => Sys2Proof.Machine.execEvtReadDone s
  | .debugAttach attach => Sys2Proof.Machine.execDebugAttach attach s
  | .debugAuthCheck token => Sys2Proof.Machine.execDebugAuthCheck token s
  | .debugAuthExpiry => Sys2Proof.Machine.execDebugAuthExpiry s
  | .halt c => Sys2Proof.Machine.execHalt c s
  | .force c => Sys2Proof.Machine.execForce c s
  | .step c => Sys2Proof.Machine.execStep c s
  | .resume c => Sys2Proof.Machine.execResume c s
  | .coreRegisterWrite c rsel v => Sys2Proof.Machine.execCoreRegisterWrite c rsel v s
  | .peek addr => Sys2Proof.Machine.execPeek addr s
  | .stuckOnClear dch => Sys2Proof.Machine.execStuckOnClear dch s
  | .doOverTemperature dch => Sys2Proof.Machine.execDoOverTemperature dch s
  | .plcaBeacon t1s => Sys2Proof.Machine.execPlcaBeacon t1s s
  | .serialFrameError sch => Sys2Proof.Machine.execSerialFrameError sch s
  | .pciePowerState ev => Sys2Proof.Machine.execPciePowerState ev s
  | .vbatLoss => Sys2Proof.Machine.execVbatLoss s

end Sys2Proof.Machine
end

