-- ==== Sys2Proof/Machine/TimeBase.lean ====
section
/-! DEFINITION. One count of the time base (R276, R284): what the block does on an empty queue (log entry 1). -/

namespace Sys2Proof.Machine

/-- One cycle of the time base, with what a sleep entry does at its commit point (R345). -/
def State.tick (s : State) : State := s.cycle.sleepCommit

end Sys2Proof.Machine
end

