-- ==== Sys2Proof/Machine/Idle.lean ====
section
/-! DEFINITION. What the block does while no command waits (log entry 1): a posted QSPI write (R310), else one count of the time base
and what follows from it. -/

namespace Sys2Proof.Machine

/-- The erase that runs ends, and the next one begins (R367; log entry 66); a flush that waited for erased blocks goes on (R374, R375). -/
def State.eraseTick (s : State) : State :=
  if s.nand.erasing.isNone then s
  else
    let t := State.evtRegs { s with nand := s.nand.finish }
    if s.bit Reg.EVT_STAT 14 && !t.bit Reg.EVT_STAT 14 then t.flush else t

/-- The step on an empty queue: the oldest posted QSPI write; without one, one cycle of the time base (R276), the lease interrupt (R312), the
roll call (R354), the erase that runs (R367), the outputs of the last bell's evaluations (R137), the frames
whose line has become free (R252), and how long the conditions of RECESS have held (R345). Nothing happens without power. -/
def idleStep (s : State) : Out :=
  match s.postedWrite with
  | some o => o
  | none => if s.pwr.off then .next s else .next ((((((s.tick.leaseIrq s.now).rollSettle).eraseTick).loopLate).netTick).noteQuiet)

end Sys2Proof.Machine
end

