-- ==== Sys2Proof/Safety.lean ====
section
/-! DEFINITION. What counts as a safe run of the block, in the terms statements use: every step answers a next state, and a state whose
stored tables are in canonical form. -/

namespace Sys2Proof.Machine

/-- The state a step answers, where it answers one. -/
def stepped (s : State) : Option State :=
  match step s with
  | .next t => some t
  | .fault _ => none
  | .refused _ => none

/-- The state after n steps, where each of them answers a next state. -/
def runSteps : Nat → State → Option State
  | 0, s => some s
  | n + 1, s => (stepped s).bind (runSteps n)

/-- A run of n steps is safe: none of them faults and none is refused. -/
def safeRun (n : Nat) (s : State) : Bool := (runSteps n s).isSome

/-! ### The vocabulary of statements about commands -/

/-- A command completes: exec answers a next state, of which P holds. -/
def Completes (i : Instr) (s : State) (P : State → Prop) : Prop := ∃ t, exec i s = .next t ∧ P t

/-- The state in which a write of a master arrives: a session's access wakes the module (R330, R343). -/
def State.woken (s : State) (m : Master) : State :=
  match m with
  | .sess _ => s.wakeRequest 0
  | .steward => s

/-- A write that only the Prefect may make is carried out in this state (R308, R313, R132, R369): the module has power and is not DEAD, the
access is the Prefect's or steward firmware's own, and no tenant view drops it. -/
def State.obeys (s : State) (m : Master) : Bool := !s.pwr.off && s.owns m && !s.viewed m && s.phase != 3

/-- The effect of a command that changes nothing of `u` but registers, and of them none outside a list. -/
def OnlyRegs (u : State) (l : List Nat) (t : State) : Prop := t = { u with regs := t.regs } ∧ ∀ a, a ∉ l → t.rd a = u.rd a

/-- A write of a register behind a lost link (R13, R330): dropped, and counted in SYS_BUS_ERR. -/
def LinkDropped (u t : State) : Prop :=
  OnlyRegs u [Reg.SYS_BUS_ERR, Reg.SYS_BUS_LAST] t ∧ t.fld Reg.SYS_BUS_ERR 31 24 = min 255 (u.fld Reg.SYS_BUS_ERR 31 24 + 1)

/-- A fault of a DO (R228, R229): nothing where it shows already; else its code, one more occurrence, latched at once where RETRY is 0 and the fault
could be retried, then the event and the feedback point. A channel that has not latched has no failed retry; one that has keeps its latch, and the
code it had latched with. -/
def DoFaulted (s : State) (d code : Nat) (t : State) : Prop :=
  (s.fld (Reg.FIELD_DO_STAT d) 4 2 = code → t = s) ∧
  (s.fld (Reg.FIELD_DO_STAT d) 4 2 ≠ code → ∃ v : State,
    t = (v.record { sev := 4, level := BitVec.ofNat 4 (doLevel code), source := 0x0B, code := 228, args := [wd d, wd code] }).fbCommit d ∧
    OnlyRegs { s with field := { s.field with doHeld := v.field.doHeld } } [Reg.FIELD_DO_STAT d, Reg.FIELD_DO_FCNT d] v ∧
    v.fld (Reg.FIELD_DO_STAT d) 4 2 = code ∧ (s.bit (Reg.FIELD_DO_STAT d) 5 = false → v.fld (Reg.FIELD_DO_STAT d) 11 8 = 0 ∧ v.field.doHeld = s.field.doHeld) ∧
    (s.bit (Reg.FIELD_DO_STAT d) 5 = true → v.fld (Reg.FIELD_DO_STAT d) 11 8 = s.fld (Reg.FIELD_DO_STAT d) 11 8 ∧
      Tab.get (fun _ => 0) v.field.doHeld d = (if s.fld (Reg.FIELD_DO_STAT d) 4 2 = 2 ∨ s.fld (Reg.FIELD_DO_STAT d) 4 2 = 5 then Tab.get (fun _ => 0) s.field.doHeld d
        else s.fld (Reg.FIELD_DO_STAT d) 4 2)) ∧
    v.fld (Reg.FIELD_DO_FCNT d) 15 0 = min 65535 (s.fld (Reg.FIELD_DO_FCNT d) 15 0 + 1) ∧
    v.bit (Reg.FIELD_DO_STAT d) 5 = (s.bit (Reg.FIELD_DO_STAT d) 5 || decide (s.fld (Reg.FIELD_DO_CFG d) 5 2 = 0 ∧ code ≠ 2 ∧ code ≠ 5)))

/-- A point commits: its record takes what its unit wrote, and no other point changes (R9, R28). -/
def PointCommitted (s : State) (i : PointIdx) (c : CommitSet) (t : State) : Prop :=
  t.point i = (s.point i).commit c s.now ∧ (∀ j, j ≠ i → t.point j = s.point j) ∧ t.scan = s.scan ∧ t.now = s.now

/-- An instruction issues on a core now (R46): the core executes, its words can be fetched, its operands are legal, the bound of a clasp is
not reached (R77), and no register it uses is bound to an operation still in flight (R27). -/
def State.ready (s : State) (c : CoreId) (i : Instr) (uses : List (BitVec 4)) : Bool :=
  s.executing c && s.fetchOk c (s.pc c) && (!(prefixWord i).isSome || s.fetchOk c (s.pc c + 4)) && operandsLegal i &&
    !((s.core c).clasp.map (fun k => decide (32 ≤ k.count))).getD false && ((s.observeBound c uses).firstBound c uses).isNone

/-- The address of the instruction behind one (R43): a prefix pair takes two words. -/
def State.behind (s : State) (c : CoreId) (i : Instr) : Word := if (prefixWord i).isSome then s.pc c + 8 else s.pc c + 4

/-- A register set with one g register written and the PC moved. -/
def Ctx.put (x : Ctx) (gd : BitVec 4) (v pc : Word) : Ctx := { x with g := x.g.set gd.toNat v, pc := pc }

/-- The whole effect of an instruction that touches nothing but its core's registers: they are x afterwards, and nothing else in the block
changes but the clasp's count of instructions and a debugger's STEP. -/
def Retires (s : State) (c : CoreId) (x : Ctx) (t : State) : Prop :=
  ∃ k : Core, t = s.setCore c k ∧ k.ctx = x ∧ k.lesson = (s.core c).lesson ∧ k.stack = (s.core c).stack ∧ k.waiting = (s.core c).waiting ∧
    k.clasp.map (fun q => (q.points, q.stores, q.lock, q.firstOrder)) = (s.core c).clasp.map (fun q => (q.points, q.stores, q.lock, q.firstOrder)) ∧
    k.ien = (s.core c).ien ∧ k.irq = (s.core c).irq ∧ k.frame = (s.core c).frame ∧ k.timeHi = (s.core c).timeHi ∧
    ((s.core c).step = false → k.halt = (s.core c).halt ∧ k.haltCause = (s.core c).haltCause)

/-- The exception an instruction raises has been taken (R39), with the debugger's STEP ended. -/
def State.raised (s : State) (c : CoreId) (cause : BitVec 5) (addr : Word) : State := (s.takeException c cause addr).afterStep c

/-! ### Shapes of statements about instructions -/

/-- A word that is no instruction raises ILLEGAL with it on a core that executes, whatever word follows it (R45); behind a prefix the second word
has to be fetched first. -/
def RaisesIllegal (w : Word) : Prop :=
  ∀ (s : State) (c : CoreId) (second : Word), s.executing c = true → s.fetchOk c (s.pc c) = true →
    (bits w 31 26 = 0x3F → s.fetchOk c (s.pc c + 4) = true) → exec (.illegalEncoding c w second) s = .next (s.raised c 1 w)

/-- An instruction of three registers that raises nothing writes f of its sources to gd and goes on. -/
def WritesOf2 (mk : CoreId → BitVec 4 → BitVec 4 → BitVec 4 → Instr) (f : Word → Word → Word) : Prop :=
  ∀ (s : State) (c : CoreId) (gd ga gb : BitVec 4), s.ready c (mk c gd ga gb) [gd, ga, gb] = true →
    let u := s.observeBound c [gd, ga, gb]
    Completes (mk c gd ga gb) s (Retires u c ((u.core c).ctx.put gd (f (u.g c ga) (u.g c gb)) (s.pc c + 4)))

/-- An instruction of three registers writes the exact signed result where a word holds it, and raises OVERFLOW where none does: it then changes no tag
register, so the state is the one before the observation of its registers' operations (R46). -/
def WritesOrOverflows (mk : CoreId → BitVec 4 → BitVec 4 → BitVec 4 → Instr) (f : Int → Int → Int) : Prop :=
  ∀ (s : State) (c : CoreId) (gd ga gb : BitVec 4), s.ready c (mk c gd ga gb) [gd, ga, gb] = true →
    let u := s.observeBound c [gd, ga, gb]
    let x := f (u.g c ga).toInt (u.g c gb).toInt
    (-2147483648 ≤ x ∧ x ≤ 2147483647 →
      Completes (mk c gd ga gb) s (Retires u c ((u.core c).ctx.put gd (BitVec.ofInt 32 x) (s.pc c + 4)))) ∧
    (x < -2147483648 ∨ 2147483647 < x → exec (mk c gd ga gb) s = .next (s.raised c 6 (BitVec.ofNat 32 (encode (mk c gd ga gb)))))

/-- A division writes f of its sources where the divisor is not 0, and raises DIV_ZERO where it is. -/
def Divides (mk : CoreId → BitVec 4 → BitVec 4 → BitVec 4 → Instr) (f : Word → Word → Word) : Prop :=
  ∀ (s : State) (c : CoreId) (gd ga gb : BitVec 4), s.ready c (mk c gd ga gb) [gd, ga, gb] = true →
    let u := s.observeBound c [gd, ga, gb]
    (u.g c gb ≠ 0 → Completes (mk c gd ga gb) s (Retires u c ((u.core c).ctx.put gd (f (u.g c ga) (u.g c gb)) (s.pc c + 4)))) ∧
    (u.g c gb = 0 → exec (mk c gd ga gb) s = .next (s.raised c 7 (BitVec.ofNat 32 (encode (mk c gd ga gb)))))

/-- An instruction of a register and an immediate writes f of them: the immediate's own 18 bits are sign-extended or zero-extended, and a
prefix gives all 32 bits and makes the instruction two words long. -/
def WritesOfImm (mk : CoreId → BitVec 4 → BitVec 4 → Imm → Instr) (signed : Bool) (f : Word → Word → Word) : Prop :=
  ∀ (s : State) (c : CoreId) (gd ga : BitVec 4),
    (∀ v : BitVec 18, s.ready c (mk c gd ga (.short v)) [gd, ga] = true →
      let u := s.observeBound c [gd, ga]
      Completes (mk c gd ga (.short v)) s (Retires u c ((u.core c).ctx.put gd
        (f (u.g c ga) (if signed then v.signExtend 32 else v.setWidth 32)) (s.pc c + 4)))) ∧
    (∀ v : Word, s.ready c (mk c gd ga (.prefixed v)) [gd, ga] = true →
      let u := s.observeBound c [gd, ga]
      Completes (mk c gd ga (.prefixed v)) s (Retires u c ((u.core c).ctx.put gd (f (u.g c ga) v) (s.pc c + 8))))

/-- An instruction of one source writes f of it to gd and goes on. -/
def WritesOf1 (mk : CoreId → BitVec 4 → BitVec 4 → Instr) (f : Word → Word) : Prop :=
  ∀ (s : State) (c : CoreId) (gd ga : BitVec 4), s.ready c (mk c gd ga) [gd, ga] = true →
    let u := s.observeBound c [gd, ga]
    Completes (mk c gd ga) s (Retires u c ((u.core c).ctx.put gd (f (u.g c ga)) (s.pc c + 4)))

/-- A branch on p: taken, it goes to PC + 4 × sext(offset), or raises MEMORY with the target where that lies outside the running tenant's
code; not taken, it goes on whatever its target. -/
def BranchesOn (mk : CoreId → BitVec 4 → BitVec 4 → BitVec 18 → Instr) (p : Word → Word → Prop) : Prop :=
  ∀ (s : State) (c : CoreId) (ga gb : BitVec 4) (off : BitVec 18), s.ready c (mk c ga gb off) [ga, gb] = true →
    let u := s.observeBound c [ga, gb]
    let target := s.pc c + 4 * off.signExtend 32
    (¬p (u.g c ga) (u.g c gb) → Completes (mk c ga gb off) s (Retires u c { (u.core c).ctx with pc := s.pc c + 4 })) ∧
    (p (u.g c ga) (u.g c gb) → u.inCode c target = true →
      Completes (mk c ga gb off) s (Retires u c { (u.core c).ctx with pc := target })) ∧
    (p (u.g c ga) (u.g c gb) → u.inCode c target = false → exec (mk c ga gb off) s = .next (s.raised c 3 target))

/-- A jump to a target (R55): to code of the running tenant, with the address behind the jump in its link register; the lesson exit of a scan core does what
LEND does there, or breaks an open clasp; any other target raises MEMORY with it. -/
def JumpsTo (i : Instr) (s u : State) (c : CoreId) (target : Word) (link : Option (BitVec 4)) : Prop :=
  let x : Ctx := match link with
    | some gd => { (u.core c).ctx with g := (u.core c).ctx.g.set gd.toNat (s.pc c + 4) }
    | none => (u.core c).ctx
  let leaves := isScan c && target == 0xFFFFFFFC
  (u.inCode c target = true → Completes i s (Retires u c { x with pc := target })) ∧
  (u.inCode c target = false → leaves = false → exec i s = .next (s.raised c 3 target)) ∧
  (leaves = true → (u.core c).clasp = none → exec i s = exec (.lend c) (u.setCore c { u.core c with ctx := x })) ∧
  (leaves = true → (u.core c).clasp.isSome = true → exec i s = .next (s.raised c 9 (BitVec.ofNat 32 (encode i))))

/-- The access of a clasp that waits for its cluster's lock (R76): the core stands last in the queue of it, at the same instruction, and no register and no
byte of memory has changed. -/
def WaitsForLock (u : State) (c : CoreId) (t : State) : Prop :=
  (t.core c).waiting = .claspLock ∧ (t.core c).ctx = (u.core c).ctx ∧ t.scan.mem = u.scan.mem ∧ t.points = u.points ∧
    t.scan.lockFifo.toList.getD (clusterOf c).val [] = u.scan.lockFifo.toList.getD (clusterOf c).val [] ++ [c]

/-- A load of n bytes (R52, R76): from core memory outside poisoned words, at once, after taking the cluster clasp lock or after the wait for it, from
LPDDR5, and from a register, where a tenant's access first waits for its homeroom (R121); a bad address and a poisoned word raise MEMORY with the effective
address. -/
def Loads (mk : CoreId → BitVec 4 → BitVec 4 → Imm → Instr) (n : Nat) (ext : Word → Word) : Prop :=
  ∀ (s : State) (c : CoreId) (gd ga : BitVec 4) (imm : Imm), s.ready c (mk c gd ga imm) [gd, ga] = true →
    let i := mk c gd ga imm
    let u := s.observeBound c [gd, ga]
    let ea := u.g c ga + imm.sext
    (∀ a cl, u.dataAddr c ea n false = .at a cl → u.lockNeed c cl = .free → u.loadPoisoned c a n = false →
      Completes i s (Retires u c ((u.core c).ctx.put gd (ext (bytesWord (u.loadBytes c a n))) (s.behind c i)))) ∧
    (∀ a cl, u.dataAddr c ea n false = .at a cl → u.lockNeed c cl = .free → u.loadPoisoned c a n = true → exec i s = .next (s.raised c 3 ea)) ∧
    (∀ a cl, u.dataAddr c ea n false = .at a cl → u.lockNeed c cl = .take → (u.takeLock c).loadPoisoned c a n = false →
      Completes i s (Retires (u.takeLock c) c (((u.takeLock c).core c).ctx.put gd (ext (bytesWord ((u.takeLock c).loadBytes c a n))) (s.behind c i)))) ∧
    (∀ a cl, u.dataAddr c ea n false = .at a cl → u.lockNeed c cl = .take → (u.takeLock c).loadPoisoned c a n = true → exec i s = .next (s.raised c 3 ea)) ∧
    (∀ a cl, u.dataAddr c ea n false = .at a cl → u.lockNeed c cl = .queue → Completes i s (WaitsForLock u c)) ∧
    (∀ a, u.dataAddr c ea n false = .lpddr a →
      Completes i s (Retires u c ((u.core c).ctx.put gd (ext (bytesWord (Memory.readN u.lpddr a n))) (s.behind c i)))) ∧
    (∀ a, u.dataAddr c ea n false = .reg a → u.awaitsReload c = true → exec i s = .next (u.setWaiting c .reload)) ∧
    (∀ a, u.dataAddr c ea n false = .reg a → u.awaitsReload c = false → Completes i s (fun t => ∃ r w, u.busRead .steward a.toNat = (r, w) ∧
      Retires r c ((r.core c).ctx.put gd (ext (bytesWord (((wordBytes w).drop (a.toNat % 4)).take n))) (s.behind c i)) t)) ∧
    (u.dataAddr c ea n false = .memory → exec i s = .next (s.raised c 3 ea))

/-- A store of the low n bytes of gd (R52, R53, R76). Outside a clasp exactly the n bytes at the address change, little-endian; inside one the
store is buffered, under the cluster clasp lock where it needs it, and no byte changes; LPDDR5 takes the bytes at once, and a register block the word with
them in their lanes, once the homeroom of the tenant it is made for is resident (R121); a bad address raises MEMORY. An exception is taken on the state
before the observation of the registers' operations (R46). -/
def Stores (mk : CoreId → BitVec 4 → BitVec 4 → Imm → Instr) (n : Nat) : Prop :=
  ∀ (s : State) (c : CoreId) (gd ga : BitVec 4) (imm : Imm), s.ready c (mk c gd ga imm) [gd, ga] = true →
    let i := mk c gd ga imm
    let u := s.observeBound c [gd, ga]
    let ea := u.g c ga + imm.sext
    let v := u.g c gd
    let x := { (u.core c).ctx with pc := s.behind c i }
    (∀ a cl, u.dataAddr c ea n true = .at a cl → (u.core c).clasp = none → Completes i s (fun t => ∃ m p l,
      Retires { u with scan := { u.scan with mem := m, poison := p, lessons := l } } c x t ∧
      ∀ b, Memory.read m b = if a ≤ b ∧ b < a + n then BitVec.ofNat 8 (v.toNat / 256 ^ (b - a)) else u.byteAt b)) ∧
    (∀ a cl k, u.dataAddr c ea n true = .at a cl → (u.core c).clasp = some k → u.lockNeed c cl = .free → Completes i s (fun t =>
      t.scan.mem = u.scan.mem ∧ (t.core c).ctx = x ∧
      (t.core c).clasp.map (fun q => q.stores) = some (k.stores ++ [⟨a, (wordBytes v).take n, cl⟩]))) ∧
    (∀ a cl k, u.dataAddr c ea n true = .at a cl → (u.core c).clasp = some k → u.lockNeed c cl = .take → Completes i s (fun t =>
      t.scan.mem = u.scan.mem ∧ (t.core c).ctx = x ∧ t.scan.lockOwner.toList.getD (clusterOf c).val none = some c ∧
      (t.core c).clasp.map (fun q => (q.lock, q.stores)) = some (true, k.stores ++ [⟨a, (wordBytes v).take n, cl⟩]))) ∧
    (∀ a cl, u.dataAddr c ea n true = .at a cl → u.lockNeed c cl = .queue → Completes i s (WaitsForLock u c)) ∧
    (∀ a, u.dataAddr c ea n true = .reg a → u.awaitsReload c = true → exec i s = .next (u.setWaiting c .reload)) ∧
    (∀ a r, u.dataAddr c ea n true = .reg a → u.awaitsReload c = false → u.busWrite .steward (a.toNat / 4 * 4) 0xF (narrowWord a n v) = .next r →
      Completes i s (Retires r c { (r.core c).ctx with pc := s.behind c i })) ∧
    (∀ a f, u.dataAddr c ea n true = .reg a → u.awaitsReload c = false →
      u.busWrite .steward (a.toNat / 4 * 4) 0xF (narrowWord a n v) = .fault f → exec i s = .fault f) ∧
    (∀ a, u.dataAddr c ea n true = .lpddr a → Completes i s (fun t => ∃ m, Retires { u with lpddr := m } c x t ∧
      ∀ b, Memory.read m b = if a ≤ b ∧ b < a + n then BitVec.ofNat 8 (v.toNat / 256 ^ (b - a)) else Memory.read u.lpddr b)) ∧
    (u.dataAddr c ea n true = .memory → exec i s = .next (s.raised c 3 ea))

/-- A point operation or message can be issued now (R60, R65, R77, R95): the group and the core have room, and a pool entry is free for the
slot. -/
def State.canIssue (s : State) (c : CoreId) (tag : BitVec 3) : Bool :=
  decide (((s.core c).clasp.map (·.points)).getD 0 < 4) && decide ((s.tag c tag).out + (s.tag c tag).done < 32) && decide (s.coreHeld c < 256) &&
    s.poolAvailable c (s.hmSlot c) && !s.awaitsReload c

/-- What an issue leaves (R27, R61, R65): one new entry that holds the operation, its group counting one more, its registers bound to it, and the
PC moved; points, memory and registers of the host map stay as they are. -/
def Issued (s : State) (c : CoreId) (tag : BitVec 3) (op : OpKind) (t : State) : Prop :=
  ∃ e x, s.freeEntry c = some e ∧ t.entry? e = some x ∧ x.op = op ∧ x.core = c ∧ x.lesson = (s.core c).lesson ∧ x.tag = tag ∧
    x.tenant = s.hmTenant c ∧ x.completed = false ∧ x.outcome = none ∧ x.held = ((s.core c).clasp.isSome && op.isPut) ∧ x.issued = s.now ∧
    (t.tag c tag).out = (s.tag c tag).out + 1 ∧ (∀ r ∈ op.binds, (t.core c).ctx.bound[r.toNat] = some e) ∧ t.pc c = s.pc c + 4 ∧
    (t.core c).ctx.g = (s.core c).ctx.g ∧ (t.core c).ctx.b = (s.core c).ctx.b ∧ (t.core c).ctx.ls = (s.core c).ctx.ls ∧
    (∀ d, d ≠ e → t.entry? d = s.entry? d) ∧ t.points = s.points ∧ t.scan.mem = s.scan.mem ∧ t.regs = s.regs

/-- A point instruction issues the operation of its operand (R59, R61). Where it cannot, its core waits at the same instruction: for the homeroom of the
tenant a steward core serves (R121), for its group (R27), for one of the core's 256 entries (R65), or for a pool entry (R95); a fifth point operation of a
clasp breaks its bound (R77). -/
def IssuesPoint (mk : CoreId → BitVec 4 → BitVec 3 → PtOp → Instr) (uses : BitVec 4 → List (BitVec 4)) (n : Nat) (noWord : Bool)
    (op : (BitVec 4 → Word) → PointIdx → Nat → BitVec 4 → OpKind) : Prop :=
  (∀ (s : State) (c : CoreId) (gd : BitVec 4) (tag : BitVec 3) (pt : PtOp), s.ready c (mk c gd tag pt) (uses gd ++ pt.regs) = true →
    let u := s.observeBound c (uses gd ++ pt.regs)
    u.canIssue c tag = true →
    let v := match pt with
      | .imm k => k.toNat
      | .reg r => (u.g c r).toNat % 2 ^ 18
    Completes (mk c gd tag pt) s
      (Issued u c tag (op (u.g c) (BitVec.ofNat 14 v) (if noWord then 0 else v / 2 ^ 14 - v / 2 ^ 14 % n) gd))) ∧
  ∀ (s : State) (c : CoreId) (gd : BitVec 4) (tag : BitVec 3) (pt : PtOp), s.ready c (mk c gd tag pt) (uses gd ++ pt.regs) = true →
    let u := s.observeBound c (uses gd ++ pt.regs)
    let r := u.tag c tag
    let points := ((u.core c).clasp.map (·.points)).getD 0
    (4 ≤ points → exec (mk c gd tag pt) s = .next (s.raised c 9 (BitVec.ofNat 32 (encode (mk c gd tag pt))))) ∧
    (points < 4 → u.awaitsReload c = true → exec (mk c gd tag pt) s = .next (u.setWaiting c .reload)) ∧
    (u.awaitsReload c = false → (u.core c).clasp = none → r.out ≠ 0 → r.out + r.done = 32 → exec (mk c gd tag pt) s = .next (u.setWaiting c (.tag tag))) ∧
    (u.awaitsReload c = false → points < 4 → r.out + r.done < 32 → 256 ≤ u.coreHeld c → exec (mk c gd tag pt) s = .next (u.setWaiting c .coreLimit)) ∧
    (u.awaitsReload c = false → points < 4 → r.out + r.done < 32 → u.coreHeld c < 256 → u.poolAvailable c (u.hmSlot c) = false →
      Completes (mk c gd tag pt) s (fun t => (∃ x : Issue, (t.core c).waiting = .pool x ∧ x.tag = tag ∧ x.pcNext = s.pc c + 4) ∧
        t.scan.poolFifo = u.scan.poolFifo ++ [c] ∧ (t.core c).ctx = (u.core c).ctx ∧ t.points = u.points ∧
        t.rd Reg.SCAN_POOL_STALLS = u.rd Reg.SCAN_POOL_STALLS + 1))

/-- A block-float instruction forms its result from the registers as they stand before it (R68, R69): written where no lane saturates; a
saturated result is written with LS.BF_STICKY set where T is 0, and raises BF_OVERFLOW with nothing written where T is 1. -/
def BlockFloats (s : State) (c : CoreId) (i : Instr) (bd : BitVec 3) (tt : Bool) (r : BReg × Bool) : Prop :=
  let x := { (s.core c).ctx with b := (s.core c).ctx.b.set bd.toNat r.1, pc := s.pc c + 4 }
  (r.2 = false → Completes i s (Retires s c x)) ∧
  (r.2 = true → tt = false → Completes i s (Retires s c { x with ls := setBitOf x.ls 12 true })) ∧
  (r.2 = true → tt = true → exec i s = .next (s.raised c 8 (BitVec.ofNat 32 (encode i))))

/-- A block-float instruction of two sources (R70). -/
def FormsOf2 (mk : CoreId → BitVec 3 → BitVec 3 → BitVec 3 → Bool → Instr) (f : BReg → BReg → BReg → BReg × Bool) : Prop :=
  ∀ (s : State) (c : CoreId) (bd ba bb : BitVec 3) (tt : Bool), s.ready c (mk c bd ba bb tt) [] = true →
    BlockFloats s c (mk c bd ba bb tt) bd tt (f (s.b c bd) (s.b c ba) (s.b c bb))

/-- A block-float instruction of one source (R70). -/
def FormsOf1 (mk : CoreId → BitVec 3 → BitVec 3 → Bool → Instr) (f : BReg → BReg × Bool) : Prop :=
  ∀ (s : State) (c : CoreId) (bd ba : BitVec 3) (tt : Bool), s.ready c (mk c bd ba tt) [] = true →
    BlockFloats s c (mk c bd ba tt) bd tt (f (s.b c ba))

/-- A block-float register formed from itself and a g register (R71); a saturated result sets LS.BF_STICKY. -/
def FormsFrom (mk : CoreId → BitVec 3 → BitVec 4 → Instr) (f : BReg → Word → BReg × Bool) : Prop :=
  ∀ (s : State) (c : CoreId) (bd : BitVec 3) (ga : BitVec 4), s.ready c (mk c bd ga) [ga] = true →
    let u := s.observeBound c [ga]
    let r := f (u.b c bd) (u.g c ga)
    let x := { (u.core c).ctx with b := (u.core c).ctx.b.set bd.toNat r.1, pc := s.pc c + 4 }
    Completes (mk c bd ga) s (Retires u c { x with ls := if r.2 then setBitOf x.ls 12 true else x.ls })

/-- The commands that only the Prefect or steward firmware may give (R308, R313): the master each comes from. -/
def prefectOnly (i : Instr) : Option Master :=
  match i with
  | .batClr m _ => some m
  | .calApply m => some m
  | .captureFlush m _ => some m
  | .carClear m _ => some m
  | .channelBind m _ _ => some m
  | .charmRead m => some m
  | .charmWrite m => some m
  | .coldRestart m => some m
  | .credDelete m => some m
  | .credWrite m => some m
  | .daliAddress m _ => some m
  | .daliRawGo m => some m
  | .daliRefresh m _ => some m
  | .derive m _ => some m
  | .dispatchCallLatch m _ => some m
  | .doClear m _ => some m
  | .doGroupClear m _ => some m
  | .evtFlush m => some m
  | .fieldOutEnable m _ => some m
  | .floorWrite m _ _ => some m
  | .forceClear m => some m
  | .forceClearAll m => some m
  | .forceSet m => some m
  | .fuseSafetyKey m => some m
  | .gateChange m _ => some m
  | .generate m _ => some m
  | .getNonce m => some m
  | .hostLockRequest m _ _ => some m
  | .identity m => some m
  | .keyErase m _ => some m
  | .keyGcmDec m _ => some m
  | .keyGcmEnc m _ => some m
  | .keyHmac m _ => some m
  | .keyLoad m _ => some m
  | .keySha256 m => some m
  | .keySha384 m => some m
  | .keySign m _ => some m
  | .keyVerify m _ => some m
  | .lessonClrAll m => some m
  | .lessonClrOne m _ => some m
  | .meterClrAll m => some m
  | .meterSnap m => some m
  | .modelCommit m => some m
  | .offsetAdd m => some m
  | .offsetSet m => some m
  | .ownerRestore m => some m
  | .progAbort m => some m
  | .progArm m => some m
  | .progBegin m _ _ => some m
  | .progCheck m => some m
  | .progLoad m => some m
  | .progPush m _ => some m
  | .qmapWrite m _ _ => some m
  | .rateWrite m _ => some m
  | .restore m _ => some m
  | .rosterCommit m => some m
  | .rosterRevert m => some m
  | .scanRunStart m => some m
  | .scanRunStop m => some m
  | .slotParamApply m => some m
  | .slotWindowLatch m _ => some m
  | .stageParamApply m _ => some m
  | .traceArm m => some m
  | .traceStop m => some m
  | .traceTrigger m => some m
  | .transfer m => some m
  | .transition m _ => some m
  | .triggerEnable m _ _ => some m
  | .warmRestart m => some m
  | .confirm m => some m
  | .enterTest m => some m
  | .leaveTest m => some m
  | .fwuStart m => some m
  | .sysResetGo m _ => some m
  | .doorLock (.reg m _) => some m
  | .doorPulse (.reg m _) => some m
  | .doorHoldUnlocked (.reg m _) => some m
  | .doorLockdown (.reg m _) => some m
  | .doorReleaseLockdown (.reg m _) => some m
  | _ => none

/-- The byte memories of the block are in canonical form: core memory, the Locket, LPDDR5 and the Charm. -/
def State.memoriesWf (s : State) : Bool := Memory.wf s.scan.mem && Memory.wf s.locket && Memory.wf s.lpddr && Memory.wf s.charm.mem

/-- The register file, the points and the scan tables are in canonical form. -/
def State.tablesWf (s : State) : Bool :=
  Tab.wf regDefault s.regs && Tab.wf (fun _ => Point.zero) s.points && Tab.wf (fun _ => Core.zero) s.scan.cores &&
    Tab.wf (fun _ => none) s.scan.lessons && Tab.wf (fun _ => none) s.scan.pool

end Sys2Proof.Machine
end

