-- ==== Sys2Proof/WellFormed.lean ====
section
/-! DEFINITION. Well-formed commands: what can be said of a command before any state is looked at. A core instruction must have a legal
encoding (R45); a command that carries bytes or records must carry as many as its rule gives it. -/

namespace Sys2Proof

/-- No key stands twice in a list. -/
def distinctKeys : List Nat → Bool
  | [] => true
  | k :: ks => !ks.contains k && distinctKeys ks

/-- A register address is that of a whole 32-bit word (R5, R319). -/
def wordAddress (a : BitVec 24) : Bool := decide (a.toNat % 4 = 0)

/-- The bytes, records and numbers a command carries are as many as its rule allows. -/
def Instr.payloadOk (i : Instr) : Bool :=
  match i with
  -- R319, R310: registers stand at word addresses
  | .registerWrite _ addr _ _ => wordAddress addr
  | .readClear _ addr => wordAddress addr
  | .busWatchdog _ addr _ => wordAddress addr
  | .channelBind _ addr _ => wordAddress addr
  | .qspiRead addr => wordAddress addr
  | .qspiWrite addr _ => wordAddress addr
  -- R361: a piece has 4 to 4,096 bytes, a multiple of 4
  | .fwuPush _ piece => decide (4 ≤ piece.data.length) && decide (piece.data.length ≤ 4096) && decide (piece.data.length % 4 = 0)
  -- R358: the manifest is 4 KiB
  | .fwuManifest m => decide (m.bytes.length = 4096)
  -- R260: a DATA frame carries up to 1,484 bytes
  | .fwuData _ _ _ data => decide (1 ≤ data.length) && decide (data.length ≤ 1484)
  -- R379: a token is 256 bytes
  | .debugAuthCheck token => decide (token.length = 256)
  -- R199: an ECDSA P-384 signature of 96 bytes
  | .safetyParamRequest set => decide (set.sig.length = 96)
  -- each point, encoder, circuit or sector at most once
  | .deviceAnswer _ values => distinctKeys (values.map (fun p => p.1.toNat))
  | .currentPeriod lines _ => distinctKeys (lines.map (fun p => p.1.val))
  | .positionPeriod lines => distinctKeys (lines.map (fun p => p.1.val))
  | .lineCycle _ _ ckts => distinctKeys (ckts.map (fun p => p.1.val))
  | .batteryMeasure rms => distinctKeys (rms.map (fun p => p.1.val))
  | .rfFieldLoss torn => distinctKeys (torn.map (fun p => p.toNat))
  -- R14: an uncorrectable error falls on a word
  | .uncorrectableError (.imem _ a) => decide (a.toNat % 4 = 0)
  | .uncorrectableError (.dmem _ a) => decide (a.toNat % 4 = 0)
  | .uncorrectableError (.committed _ a) => decide (a.toNat % 4 = 0)
  | .uncorrectableError (.cluster _ a) => decide (a.toNat % 4 = 0)
  | _ => true

/-- A command is well formed. The block does not rely on it: an ill-formed instruction raises ILLEGAL, and every other command has its
effect on what it carries. -/
def Instr.wellFormed (i : Instr) : Bool := Machine.operandsLegal i && i.payloadOk

end Sys2Proof
end

