-- ==== Sys2Proof/Certificates/Slice0/Obligations.lean ====
section
/-! DEFINITION. The statements about the block, each with the rule of the manual it rests on. `Completes`, `Retires`, `State.ready`,
`State.woken` and `State.obeys` are explained in Sys2Proof/Safety.lean. -/

open Sys2Proof Sys2Proof.Machine

/-! ### The instructions of the cores -/

/-- R48: major opcode 0x00. Each instruction writes its result to gd, and the whole of its effect is that register and the PC; ADDV and SUBV raise
OVERFLOW where the exact sum does not fit; every other word of the opcode raises ILLEGAL. -/
def Obligations.AluResults : Prop :=
  (WritesOf2 .add (fun x y => x + y) ∧ WritesOf2 .sub (fun x y => x - y) ∧ WritesOf2 .and (fun x y => x &&& y) ∧
  WritesOf2 .or (fun x y => x ||| y) ∧ WritesOf2 .xor (fun x y => x ^^^ y) ∧ WritesOf2 .nor (fun x y => ~~~(x ||| y)) ∧
  WritesOf2 .andn (fun x y => x &&& ~~~y) ∧ WritesOf2 .slt (fun x y => if x.toInt < y.toInt then 1 else 0) ∧
  WritesOf2 .sltu (fun x y => if x.toNat < y.toNat then 1 else 0) ∧ WritesOf2 .seq (fun x y => if x = y then 1 else 0) ∧
  WritesOf2 .sll (fun x y => x <<< (y.toNat % 32)) ∧ WritesOf2 .srl (fun x y => x >>> (y.toNat % 32)) ∧
  WritesOf2 .sra (fun x y => x.sshiftRight (y.toNat % 32)) ∧ WritesOf2 .ror (fun x y => x.rotateRight (y.toNat % 32)) ∧
  WritesOf2 .min (fun x y => BitVec.ofInt 32 (min x.toInt y.toInt)) ∧ WritesOf2 .max (fun x y => BitVec.ofInt 32 (max x.toInt y.toInt)) ∧
  WritesOf2 .minu (fun x y => BitVec.ofNat 32 (min x.toNat y.toNat)) ∧ WritesOf2 .maxu (fun x y => BitVec.ofNat 32 (max x.toNat y.toNat)) ∧
  WritesOf2 .adds (fun x y => BitVec.ofInt 32 (max (-2147483648) (min 2147483647 (x.toInt + y.toInt)))) ∧
  WritesOf2 .subs (fun x y => BitVec.ofInt 32 (max (-2147483648) (min 2147483647 (x.toInt - y.toInt))))) ∧
  WritesOrOverflows .addv (fun x y => x + y) ∧ WritesOrOverflows .subv (fun x y => x - y) ∧
  (∀ (s : State) (c : CoreId) (gd ga gb : BitVec 4), s.ready c (.sel c gd ga gb) [gd, ga, gb] = true →
    let u := s.observeBound c [gd, ga, gb]
    Completes (.sel c gd ga gb) s (Retires u c ((u.core c).ctx.put gd (if u.g c gb ≠ 0 then u.g c ga else u.g c gd) (s.pc c + 4)))) ∧
  WritesOf1 .abs (fun x => BitVec.ofInt 32 (min 2147483647 |x.toInt|)) ∧
  ∀ w : Word, bits w 31 26 = 0 → (bits w 13 6 ≠ 0 ∨ 0x18 ≤ bits w 5 0 ∨ (bits w 5 0 = 0x17 ∧ bits w 17 14 ≠ 0)) → RaisesIllegal w

/-- R49: major opcode 0x01. The multiplications, with OVERFLOW of MULV where the exact product does not fit; the divisions, with DIV_ZERO on a divisor
of 0, their results in the corner of −2^31 by −1; every other word of the opcode raises ILLEGAL. -/
def Obligations.MultiplyDivide : Prop :=
  (WritesOf2 .mul (fun x y => BitVec.ofInt 32 (x.toInt * y.toInt)) ∧
  WritesOf2 .mulh (fun x y => BitVec.ofInt 32 (x.toInt * y.toInt / 4294967296)) ∧
  WritesOf2 .mulhu (fun x y => BitVec.ofNat 32 (x.toNat * y.toNat / 4294967296)) ∧
  WritesOf2 .mulq (fun x y => BitVec.ofInt 32 (min 2147483647 ((x.toInt * y.toInt + 1073741824) / 2147483648))) ∧
  WritesOrOverflows .mulv (fun x y => x * y)) ∧
  (Divides .div (fun x y => BitVec.ofInt 32 (x.toInt.tdiv y.toInt)) ∧ Divides .divu (fun x y => BitVec.ofNat 32 (x.toNat / y.toNat)) ∧
  Divides .rem (fun x y => BitVec.ofInt 32 (x.toInt.tmod y.toInt)) ∧ Divides .remu (fun x y => BitVec.ofNat 32 (x.toNat % y.toNat))) ∧
  (∀ (s : State) (c : CoreId) (gd ga gb : BitVec 4),
    let u := s.observeBound c [gd, ga, gb]
    u.g c ga = 0x80000000 → u.g c gb = 0xFFFFFFFF →
    (s.ready c (.div c gd ga gb) [gd, ga, gb] = true → Completes (.div c gd ga gb) s (Retires u c ((u.core c).ctx.put gd 0x80000000 (s.pc c + 4)))) ∧
    (s.ready c (.rem c gd ga gb) [gd, ga, gb] = true → Completes (.rem c gd ga gb) s (Retires u c ((u.core c).ctx.put gd 0 (s.pc c + 4))))) ∧
  ∀ w : Word, bits w 31 26 = 1 → (bits w 13 6 ≠ 0 ∨ 9 ≤ bits w 5 0) → RaisesIllegal w

/-- R50: the immediate instructions. An immediate of 18 bits is sign-extended, but for ANDI, ORI and XORI, where it is zero-extended; a prefix
gives all 32 bits, and the PC then moves by 8. SHI and LUI take no prefix, and a field that must be 0 raises ILLEGAL where it is not. -/
def Obligations.ImmediateResults : Prop :=
  (WritesOfImm .addi true (fun x v => x + v) ∧ WritesOfImm .andi false (fun x v => x &&& v) ∧ WritesOfImm .ori false (fun x v => x ||| v) ∧
  WritesOfImm .xori false (fun x v => x ^^^ v) ∧ WritesOfImm .slti true (fun x v => if x.toInt < v.toInt then 1 else 0) ∧
  WritesOfImm .sltiu true (fun x v => if x.toNat < v.toNat then 1 else 0)) ∧
  (∀ (s : State) (c : CoreId) (gd : BitVec 4),
    (∀ v : BitVec 18, s.ready c (.li c gd (.short v)) [gd] = true →
      let u := s.observeBound c [gd]
      Completes (.li c gd (.short v)) s (Retires u c ((u.core c).ctx.put gd (v.signExtend 32) (s.pc c + 4)))) ∧
    (∀ v : Word, s.ready c (.li c gd (.prefixed v)) [gd] = true →
      let u := s.observeBound c [gd]
      Completes (.li c gd (.prefixed v)) s (Retires u c ((u.core c).ctx.put gd v (s.pc c + 8)))) ∧
    (∀ v : BitVec 18, s.ready c (.lui c gd v) [gd] = true →
      let u := s.observeBound c [gd]
      Completes (.lui c gd v) s (Retires u c ((u.core c).ctx.put gd (v.setWidth 32 <<< (14 : Nat)) (s.pc c + 4))))) ∧
  (∀ (s : State) (c : CoreId) (gd ga : BitVec 4) (n : BitVec 5) (kind : BitVec 2), s.ready c (.shi c gd ga kind n) [gd, ga] = true →
    let u := s.observeBound c [gd, ga]
    let x := u.g c ga
    Completes (.shi c gd ga kind n) s (Retires u c ((u.core c).ctx.put gd
      (if kind = 0 then x <<< n.toNat else if kind = 1 then x >>> n.toNat else if kind = 2 then x.sshiftRight n.toNat
        else x.rotateRight n.toNat) (s.pc c + 4)))) ∧
  (∀ w : Word, (bits w 31 26 = 8 ∧ bits w 17 7 ≠ 0) ∨ ((bits w 31 26 = 9 ∨ bits w 31 26 = 10) ∧ bits w 21 18 ≠ 0) → RaisesIllegal w) ∧
  ∀ (s : State) (c : CoreId) (w second : Word), bits w 31 26 = 0x3F → (bits second 31 26 = 8 ∨ bits second 31 26 = 10 ∨ (bits second 31 26 = 9 ∧ bits second 21 18 ≠ 0)) → s.executing c = true →
    s.fetchOk c (s.pc c) = true → s.fetchOk c (s.pc c + 4) = true → exec (.illegalEncoding c w second) s = .next (s.raised c 1 w)

/-- R51: major opcode 0x0B. EXTU, EXTS and INS for every field that lies in the word, the counts of zeros and ones, the reversal of bytes; every
other word of the opcode raises ILLEGAL. -/
def Obligations.BitResults : Prop :=
  ((∀ (s : State) (c : CoreId) (gd ga : BitVec 4) (l w : BitVec 5), s.ready c (.extu c gd ga l w) [gd, ga] = true →
    let u := s.observeBound c [gd, ga]
    Completes (.extu c gd ga l w) s (fun t => ∃ v : Word, Retires u c ((u.core c).ctx.put gd v (s.pc c + 4)) t ∧
      ∀ j < 32, v.getLsbD j = (decide (j ≤ w.toNat) && (u.g c ga).getLsbD (l.toNat + j)))) ∧
  (∀ (s : State) (c : CoreId) (gd ga : BitVec 4) (l w : BitVec 5), s.ready c (.exts c gd ga l w) [gd, ga] = true →
    let u := s.observeBound c [gd, ga]
    Completes (.exts c gd ga l w) s (fun t => ∃ v : Word, Retires u c ((u.core c).ctx.put gd v (s.pc c + 4)) t ∧
      ∀ j < 32, v.getLsbD j = (u.g c ga).getLsbD (l.toNat + min j w.toNat))) ∧
  (∀ (s : State) (c : CoreId) (gd ga : BitVec 4) (l w : BitVec 5), s.ready c (.ins c gd ga l w) [gd, ga] = true →
    let u := s.observeBound c [gd, ga]
    Completes (.ins c gd ga l w) s (fun t => ∃ v : Word, Retires u c ((u.core c).ctx.put gd v (s.pc c + 4)) t ∧
      ∀ j < 32, v.getLsbD j = if l.toNat ≤ j ∧ j ≤ l.toNat + w.toNat then (u.g c ga).getLsbD (j - l.toNat) else (u.g c gd).getLsbD j)) ∧
  WritesOf1 .clz (fun x => BitVec.ofNat 32 (leadingZeros x)) ∧
  WritesOf1 .ctz (fun x => BitVec.ofNat 32 (trailingZeros x)) ∧
  WritesOf1 .popc (fun x => BitVec.ofNat 32 ((List.range 32).countP (fun j => x.getLsbD j))) ∧
  WritesOf1 .bswap (fun x => x.extractLsb' 0 8 ++ x.extractLsb' 8 8 ++ x.extractLsb' 16 8 ++ x.extractLsb' 24 8)) ∧
  (∀ x : Word, (leadingZeros x = 32 ↔ x = 0) ∧ (trailingZeros x = 32 ↔ x = 0) ∧
    (x ≠ 0 → leadingZeros x < 32 ∧ x.getLsbD (31 - leadingZeros x) = true ∧ (∀ j, 31 - leadingZeros x < j → x.getLsbD j = false) ∧
      trailingZeros x < 32 ∧ x.getLsbD (trailingZeros x) = true ∧ ∀ j < trailingZeros x, x.getLsbD j = false)) ∧
  ∀ w : Word, bits w 31 26 = 0x0B → (bits w 17 14 ≠ 0 ∨ 7 ≤ bits w 13 10 ∨ (3 ≤ bits w 13 10 ∧ bits w 9 0 ≠ 0) ∨
    (bits w 13 10 < 3 ∧ 31 < bits w 4 0 + bits w 9 5)) → RaisesIllegal w

/-- R54, R55: a branch that is taken goes to PC + 4 × sext(offset), a jump to its target with the link register of JAL and JALR written; where the target
is misaligned or outside the code of the running tenant they raise MEMORY (cause 3) with it, but for the lesson exit of a scan core, where a jump does what
LEND does. A branch not taken goes on, whatever its target. BEQ, BNE, BLT, BGE, BLTU and BGEU complete where their target lies in the code of the running
tenant, and JAL, JR and JALR where theirs does. -/
def Obligations.ControlTransfers : Prop :=
  (∀ (s : State) (c : CoreId) (ga gb : BitVec 4) (off : BitVec 18) (i : Instr),
    i ∈ [Instr.beq c ga gb off, Instr.bne c ga gb off, Instr.blt c ga gb off, Instr.bge c ga gb off, Instr.bltu c ga gb off, Instr.bgeu c ga gb off] →
    s.ready c i [ga, gb] = true → (s.observeBound c [ga, gb]).inCode c (s.pc c + 4 * off.signExtend 32) = true → ∃ t, exec i s = .next t ∧
      (t.pc c = s.pc c + 4 ∨ t.pc c = s.pc c + 4 * off.signExtend 32) ∧ (t.core c).ctx.g = (s.core c).ctx.g ∧ t.points = s.points ∧ t.scan.mem = s.scan.mem) ∧
  (∀ (s : State) (c : CoreId) (gd ga : BitVec 4) (o18 : BitVec 18) (o17 : BitVec 17),
    (s.ready c (.jal c gd o18) [gd] = true → (s.observeBound c [gd]).inCode c (s.pc c + 4 * o18.signExtend 32) = true →
      ∃ t, exec (.jal c gd o18) s = .next t ∧ t.pc c = s.pc c + 4 * o18.signExtend 32 ∧ t.g c gd = s.pc c + 4 ∧ t.points = s.points) ∧
    (s.ready c (.jr c ga o17) [ga] = true → (s.observeBound c [ga]).inCode c (s.g c ga + o17.signExtend 32) = true →
      ∃ t, exec (.jr c ga o17) s = .next t ∧ t.pc c = s.g c ga + o17.signExtend 32 ∧ (t.core c).ctx.g = (s.core c).ctx.g ∧ t.points = s.points) ∧
    (s.ready c (.jalr c gd ga o17) [gd, ga] = true → (s.observeBound c [gd, ga]).inCode c (s.g c ga + o17.signExtend 32) = true →
      ∃ t, exec (.jalr c gd ga o17) s = .next t ∧ t.pc c = s.g c ga + o17.signExtend 32 ∧ t.g c gd = s.pc c + 4 ∧ t.points = s.points)) ∧
  (BranchesOn .beq (fun x y => x = y) ∧ BranchesOn .bne (fun x y => x ≠ y) ∧ BranchesOn .blt (fun x y => x.toInt < y.toInt) ∧
  BranchesOn .bge (fun x y => y.toInt ≤ x.toInt) ∧ BranchesOn .bltu (fun x y => x.toNat < y.toNat) ∧
  BranchesOn .bgeu (fun x y => y.toNat ≤ x.toNat)) ∧
  (∀ (s : State) (c : CoreId) (gd : BitVec 4) (off : BitVec 18), s.ready c (.jal c gd off) [gd] = true →
    let u := s.observeBound c [gd]
    JumpsTo (.jal c gd off) s u c (s.pc c + 4 * off.signExtend 32) (some gd)) ∧
  (∀ (s : State) (c : CoreId) (ga : BitVec 4) (off : BitVec 17), s.ready c (.jr c ga off) [ga] = true →
    let u := s.observeBound c [ga]
    JumpsTo (.jr c ga off) s u c (u.g c ga + off.signExtend 32) none) ∧
  (∀ (s : State) (c : CoreId) (gd ga : BitVec 4) (off : BitVec 17), s.ready c (.jalr c gd ga off) [gd, ga] = true →
    let u := s.observeBound c [gd, ga]
    JumpsTo (.jalr c gd ga off) s u c (u.g c ga + off.signExtend 32) (some gd)) ∧
  (∀ (s : State) (c : CoreId) (a : Word), s.inCode c a = true → a.toNat % 4 = 0 ∧ (isScan c = true → a ≠ 0xFFFFFFFC ∧ ∃ r : Region, r.kind = .code ∧
    r.owner = s.hmTenant c ∧ r.base ≤ a.toNat ∧ a.toNat + 4 ≤ r.base + r.size)) ∧
  (∀ c : CoreId, encode (.jr c 15 0) = 0x7C3C0000) ∧
  ∀ w : Word, (bits w 31 26 = 0x1E ∧ bits w 21 18 ≠ 0) ∨ (bits w 31 26 = 0x1F ∧ bits w 17 17 = 0 ∧ bits w 25 22 ≠ 0) → RaisesIllegal w
/-- R52, R76, R14: the loads, from every place an address can name. -/
def Obligations.LoadResults : Prop :=
  Loads .lw 4 id ∧ Loads .lh 2 (fun w => (w.setWidth 16).signExtend 32) ∧ Loads .lhu 2 (fun w => (w.setWidth 16).setWidth 32) ∧
  Loads .lb 1 (fun w => (w.setWidth 8).signExtend 32) ∧ Loads .lbu 1 (fun w => (w.setWidth 8).setWidth 32)

/-- R52, R53, R76: the stores: which bytes change, and that no other byte of memory and no other register does. -/
def Obligations.StoreResults : Prop := Stores .sw 4 ∧ Stores .sh 2 ∧ Stores .sb 1

/-- R35, R41, R52: what a data address of a scan core may be: a multiple of the access's size in data SRAM or cluster memory, in a region of its
own tenant (a CONST region of no tenant for a load), wholly inside it. -/
def Obligations.DataAddresses : Prop :=
  ∀ (s : State) (c : CoreId) (ea : Word) (n : Nat) (write : Bool), isScan c = true → 0 < n →
    (ea.toNat % n ≠ 0 → s.dataAddr c ea n write = .memory) ∧
    (∀ a cl, s.dataAddr c ea n write = .at a cl → ea.toNat % n = 0 ∧ ∃ r : Region,
      r.kind ≠ .code ∧ (write = true → r.kind ≠ .const) ∧ (write = true ∨ s.privT c = true → r.owner = s.hmTenant c) ∧
      (r.owner = s.hmTenant c ∨ r.owner = 0xFFF) ∧
      (cl = false → a = (Space.dmem (s.memCore c)).base + ea.toNat ∧ ea.toNat < 0x20000 ∧ r.base ≤ ea.toNat ∧ ea.toNat + n ≤ r.base + r.size) ∧
      (cl = true → a = (Space.cluster (clusterOf c)).base + (ea.toNat - 0x100000) ∧ 0x100000 ≤ ea.toNat ∧ ea.toNat < 0x2C0000 ∧
        r.base ≤ ea.toNat - 0x100000 ∧ ea.toNat - 0x100000 + n ≤ r.base + r.size)) ∧
    (∀ a, s.dataAddr c ea n write ≠ .lpddr a) ∧ ∀ a, s.dataAddr c ea n write ≠ .reg a

/-- R76: a load inside a clasp returns what the clasp's own buffered store put there, and memory outside has not changed. -/
def Obligations.ClaspSeesOwnStores : Prop :=
  ∀ (s : State) (c : CoreId) (k : Clasp) (a : Nat) (cl : Bool) (b : List Byte), (s.core c).clasp = some k →
    (s.storeCore c a cl b).loadBytes c a b.length = b ∧ (s.storeCore c a cl b).scan.mem = s.scan.mem ∧
    ∀ d n, d + n ≤ a ∨ a + b.length ≤ d → (s.storeCore c a cl b).loadBytes c d n = s.loadBytes c d n

/-- R56, R57, R24, R25: NOP, FENCE, BRK, TRAP, RDSR, WRSR and ERET. -/
def Obligations.SystemResults : Prop :=
  (∀ (s : State) (c : CoreId), (s.ready c (.nop c) [] = true → Completes (.nop c) s (Retires s c { (s.core c).ctx with pc := s.pc c + 4 })) ∧
    (s.ready c (.fence c) [] = true → Completes (.fence c) s (Retires s c { (s.core c).ctx with pc := s.pc c + 4 }))) ∧
  (∀ (s : State) (c : CoreId) (code : BitVec 12), s.ready c (.trap c code) [] = true →
    exec (.trap c code) s = .next (s.raised c 5 (code.setWidth 32))) ∧
  (∀ (s : State) (c : CoreId) (code : BitVec 12), s.ready c (.brk c code) [] = true →
    (s.mayHalt c = false → exec (.brk c code) s = .next (s.raised c 4 (code.setWidth 32))) ∧
    (s.mayHalt c = true → (s.core c).clasp = none → Completes (.brk c code) s (fun t => (t.core c).halt = .halted ∧ t.pc c = s.pc c + 4))) ∧
  (∀ (s : State) (c : CoreId) (gd : BitVec 4) (sr : BitVec 12), s.ready c (.rdsr c gd sr) [gd] = true →
    let u := s.observeBound c [gd]
    (∀ v, (sr.toNat, v) ∈ [(0, if isScan c then u.ls c else u.ls c &&& 0x131F), (1, u.readHm c),
        (2, if isScan c then (u.core c).ctx.bell else 0), (3, s.pc c), (5, (u.core c).timeHi), (6, BitVec.ofNat 32 c.val)] →
      Completes (.rdsr c gd sr) s (Retires u c ((u.core c).ctx.put gd v (s.pc c + 4)))) ∧
    (sr = 4 → Completes (.rdsr c gd sr) s (Retires (u.setCore c { u.core c with timeHi := u.cnt.extractLsb' 32 32 }) c
      ((u.core c).ctx.put gd (u.cnt.setWidth 32) (s.pc c + 4)))) ∧
    (7 ≤ sr.toNat → exec (.rdsr c gd sr) s = .next (s.raised c 1 (BitVec.ofNat 32 (encode (.rdsr c gd sr)))))) ∧
  (∀ (s : State) (c : CoreId) (ga : BitVec 4) (sr : BitVec 12), s.ready c (.wrsr c ga sr) [ga] = true →
    let u := s.observeBound c [ga]
    let v := u.g c ga
    let x := { (u.core c).ctx with pc := s.pc c + 4 }
    (sr = 0 → isScan c = true → Completes (.wrsr c ga sr) s (Retires u c { x with ls := if bitOf v 12 then setBitOf x.ls 12 false else x.ls })) ∧
    (sr = 0 → isScan c = false → Completes (.wrsr c ga sr) s (Retires u c { x with ls := v &&& 0x1FFF1FFF })) ∧
    (sr = 1 → isScan c = false → Completes (.wrsr c ga sr) s (fun t => (t.core c).ctx = { x with hm := v &&& 0x0FFF010F } ∧
      t.points = u.points ∧ t.scan.mem = u.scan.mem)) ∧
    (sr = 1 → isScan c = true → exec (.wrsr c ga sr) s = .next (s.raised c 2 (BitVec.ofNat 32 (encode (.wrsr c ga sr))))) ∧
    (2 ≤ sr.toNat → exec (.wrsr c ga sr) s = .next (s.raised c 1 (BitVec.ofNat 32 (encode (.wrsr c ga sr)))))) ∧
  (∀ (s : State) (c : CoreId), s.ready c (.eret c) [] = true → (s.core c).clasp = none →
    (bitOf (s.ls c) 9 = false → exec (.eret c) s = .next (s.raised c 1 (BitVec.ofNat 32 (encode (.eret c))))) ∧
    (∀ n l, bitOf (s.ls c) 9 = true → isScan c = true → (s.core c).lesson = some n → s.lesson? n = some l →
      let back := s.wordAt (State.headerAt l 0x10)
      (s.inCode c back = true → Completes (.eret c) s (Retires s c { (s.core c).ctx with ls := setBitOf (s.ls c) 9 false, pc := back })) ∧
      (s.inCode c back = false → exec (.eret c) s = .next (s.raised c 3 back))) ∧
    (∀ pc rest, bitOf (s.ls c) 9 = true → isScan c = false → (s.core c).frame = pc :: rest → (s.core c).irq &&& (s.core c).ien = 0 →
      Completes (.eret c) s (fun t => t.pc c = pc ∧ (t.core c).frame = rest ∧ bitOf (t.ls c) 9 = false)))

/-- R56, R58, R72, R45: what only a steward core runs, the interrupt lines of a steward core, and words that are no instruction. -/
def Obligations.StewardResults : Prop :=
  (∀ (s : State) (c : CoreId) (i : Instr), isScan c = true → (i = .wait c ∨ ∃ m, i = .ien c m ∨ i = .idis c m) → s.ready c i [] = true →
    exec i s = .next (s.raised c 2 (BitVec.ofNat 32 (encode i)))) ∧
  (∀ (s : State) (c : CoreId), isScan c = false → s.ready c (.wait c) [] = true →
    ((s.core c).irq &&& (s.core c).ien ≠ 0 → Completes (.wait c) s (Retires s c { (s.core c).ctx with pc := s.pc c + 4 })) ∧
    ((s.core c).irq &&& (s.core c).ien = 0 → exec (.wait c) s = .next (s.setCore c { s.core c with waiting := .interrupt }))) ∧
  (∀ (s : State) (c : CoreId) (m : BitVec 12), isScan c = false → s.ready c (.ien c m) [] = true →
    Completes (.ien c m) s (fun t => (t.core c).ien = (s.core c).ien ||| m ∧ t.points = s.points ∧ t.regs = s.regs ∧
      ((s.core c).irq &&& ((s.core c).ien ||| m) = 0 → t.pc c = s.pc c + 4))) ∧
  (∀ (s : State) (c : CoreId) (m : BitVec 12), isScan c = false → s.ready c (.idis c m) [] = true →
    Completes (.idis c m) s (fun t => (t.core c).ien = (s.core c).ien &&& ~~~m ∧ (t.core c).irq = (s.core c).irq ∧
      (t.core c).ctx = { (s.core c).ctx with pc := s.pc c + 4 } ∧ t.points = s.points ∧ t.regs = s.regs)) ∧
  (∀ (s : State) (core : Fin 2) (line : Fin 12),
    let c : CoreId := ⟨64 + core.val, by omega⟩
    let k := s.core c
    let free := !bitOf k.ctx.ls 9 && k.clasp.isNone && k.halt != .halted
    (s.stewardRuns c = false → exec (.stewardInterrupt core line) s = .next (s.setCore c { k with irq := k.irq ||| BitVec.ofNat 12 (2 ^ line.val) })) ∧
    (s.stewardRuns c = true → free = false → k.ien.getLsbD line.val = true → Completes (.stewardInterrupt core line) s (fun t =>
      (t.core c).irq = k.irq ||| BitVec.ofNat 12 (2 ^ line.val) ∧ (t.core c).frame = k.frame ∧
      (k.waiting = .interrupt → (t.core c).waiting = .none ∧ t.pc c = k.ctx.pc + 4) ∧ (k.waiting ≠ .interrupt → (t.core c).waiting = k.waiting ∧ t.pc c = k.ctx.pc))) ∧
    (k.irq &&& k.ien = 0 → k.ien.getLsbD line.val = false → Completes (.stewardInterrupt core line) s (fun t => (t.core c).irq = k.irq ||| BitVec.ofNat 12 (2 ^ line.val))) ∧
    (s.stewardRuns c = true → free = true → k.irq &&& k.ien = 0 → k.ien.getLsbD line.val = true → k.waiting = .interrupt →
      Completes (.stewardInterrupt core line) s (fun t => t.pc c = Config.stewardVector core.val ∧ (t.core c).frame = (k.ctx.pc + 4) :: k.frame ∧
        (t.core c).waiting = .none ∧ bitOf (t.ls c) 9 = true ∧ bits (t.ls c) 4 0 = 19 ∧ (t.core c).irq = k.irq &&& ~~~BitVec.ofNat 12 (2 ^ line.val)))) ∧
  (∀ (s : State) (c : CoreId) (word second : Word), decodeWords c word.toNat second.toNat = none → s.executing c = true →
    s.fetchOk c (s.pc c) = true → (bits word 31 26 = 0x3F → s.fetchOk c (s.pc c + 4) = true) →
    exec (.illegalEncoding c word second) s = .next (s.raised c 1 word))

/-- R59, R61 to R63, R65, R66: the point instructions and the engine message issue their operation. -/
def Obligations.PointIssues : Prop :=
  IssuesPoint .pget (fun g => [g]) 1 false (fun _ i w g => .get i w 1 g) ∧
  IssuesPoint .pget2 (fun g => [g, g + 1]) 2 false (fun _ i w g => .get i w 2 g) ∧
  IssuesPoint .pget4 (fun g => [g, g + 1, g + 2, g + 3]) 4 false (fun _ i w g => .get i w 4 g) ∧
  IssuesPoint .pgetvq (fun g => [g, g + 1]) 1 true (fun _ i _ g => .getVq i g) ∧
  IssuesPoint .pput (fun g => [g]) 1 false (fun r i w g => .put i w [r g]) ∧
  IssuesPoint .pput2 (fun g => [g, g + 1]) 2 false (fun r i w g => .put i w [r g, r (g + 1)]) ∧
  IssuesPoint .pput4 (fun g => [g, g + 1, g + 2, g + 3]) 4 false (fun r i w g => .put i w [r g, r (g + 1), r (g + 2), r (g + 3)]) ∧
  (∀ (s : State) (c : CoreId) (gd : BitVec 4) (tag : BitVec 3) (pt : PtOp), s.ready c (.psync c gd tag pt) (gd :: pt.regs) = true →
    let u := s.observeBound c (gd :: pt.regs)
    let v := match pt with
      | .imm k => k.toNat
      | .reg r => (u.g c r).toNat % 2 ^ 18
    ((u.core c).clasp = none → u.canIssue c tag = true →
      Completes (.psync c gd tag pt) s (Issued u c tag (.psync (BitVec.ofNat 14 v) gd (u.g c gd)))) ∧
    ((u.core c).clasp.isSome = true → exec (.psync c gd tag pt) s = .next (s.raised c 9 (BitVec.ofNat 32 (encode (.psync c gd tag pt)))))) ∧
  (∀ (s : State) (c : CoreId) (gd : BitVec 4) (tag : BitVec 3) (unit : BitVec 2) (typ : BitVec 10) (ga : BitVec 4) (len : BitVec 2) (reply : Bool),
    let i : Instr := .emsg c gd tag unit typ ga len reply
    let pay := (List.range (2 ^ len.toNat)).map (fun j => ga + BitVec.ofNat 4 j)
    let uses := (if reply then [gd] else []) ++ pay
    s.ready c i uses = true →
    let u := s.observeBound c uses
    ((u.core c).clasp = none → u.canIssue c tag = true →
      Completes (.emsg c gd tag unit typ ga len reply) s (Issued u c tag (.msg unit typ (pay.map (u.g c)) (if reply then some gd else none)))) ∧
    ((u.core c).clasp.isSome = true → exec (.emsg c gd tag unit typ ga len reply) s = .next (s.raised c 9 (BitVec.ofNat 32 (encode i)))))

/-- R27, R64, R65, R95: the tag instructions, the waits they make, and how those waits and a stalled issue end. -/
def Obligations.TagResults : Prop :=
  (∀ (s : State) (c : CoreId) (gd : BitVec 4) (t : BitVec 3), s.ready c (.tmov c gd t) [gd] = true →
    let u := s.observeBound c [gd]
    let r := u.tag c t
    Completes (.tmov c gd t) s (Retires u c ((u.core c).ctx.put gd
      (BitVec.ofNat 32 (r.out + 2 ^ 6 * r.done + 2 ^ 12 * r.failed + 2 ^ 18 * r.cause.toNat)) (s.pc c + 4)))) ∧
  (∀ (s : State) (c : CoreId) (gd : BitVec 4) (t : BitVec 3), s.ready c (.twait c gd t) [gd] = true →
    let u := s.observeBound c [gd]
    ((u.tag c t).out = 0 → Completes (.twait c gd t) s (Retires (u.observeGroup c t) c
      (((u.observeGroup c t).core c).ctx.put gd (((u.observeGroup c t).tag c t).word) (s.pc c + 4)))) ∧
    ((u.tag c t).out ≠ 0 → (u.core c).clasp = none → exec (.twait c gd t) s = .next (u.setCore c { u.core c with waiting := .tag t }))) ∧
  (∀ (s : State) (c : CoreId) (gd : BitVec 4) (t : BitVec 3), s.ready c (.ttest c gd t) [gd] = true →
    let u := s.observeBound c [gd]
    (u.core c).clasp = none →
    ((u.tag c t).out ≠ 0 → Completes (.ttest c gd t) s (Retires u c ((u.core c).ctx.put gd ((u.tag c t).word) (s.pc c + 4)))) ∧
    ((u.tag c t).out = 0 → Completes (.ttest c gd t) s (Retires (u.observeGroup c t) c
      (((u.observeGroup c t).core c).ctx.put gd (((u.observeGroup c t).tag c t).word) (s.pc c + 4))))) ∧
  (∀ (s : State) (c : CoreId) (gd : BitVec 4) (m : BitVec 8), s.ready c (.twaitm c gd m) [gd] = true →
    let u := s.observeBound c [gd]
    (u.core c).clasp = none →
    (m = 0 ∨ (∃ j < 8, m.getLsbD j = true ∧ (u.tag c (BitVec.ofNat 3 j)).out = 0) → Completes (.twaitm c gd m) s (fun t => ∃ v : Word,
      Retires u c ((u.core c).ctx.put gd v (s.pc c + 4)) t ∧
      ∀ j < 32, v.getLsbD j = (m.getLsbD j && decide (j < 8) && ((u.tag c (BitVec.ofNat 3 j)).out == 0)))) ∧
    (m ≠ 0 → (∀ j < 8, m.getLsbD j = true → (u.tag c (BitVec.ofNat 3 j)).out ≠ 0) →
      exec (.twaitm c gd m) s = .next (u.setCore c { u.core c with waiting := .tagMask m }))) ∧
  (∀ (s : State) (c : CoreId) (t : BitVec 3), (s.core c).waiting = .tag t →
    ((s.tag c t).out = 0 → exec (.tagWaitEnd c) s = .next (s.setCore c { s.core c with waiting := .none })) ∧
    ((s.tag c t).out ≠ 0 → exec (.tagWaitEnd c) s = .next s)) ∧
  (∀ (s : State) (c : CoreId) (e : Nat) (x : Entry), (s.core c).waiting = .bound e → s.entry? e = some x →
    (x.completed = true → exec (.boundWaitEnd c) s = .next (s.setCore c { s.core c with waiting := .none })) ∧
    (x.completed = false → exec (.boundWaitEnd c) s = .next s)) ∧
  (∀ (s : State) (c : CoreId) (x : Issue), s.nextGrant = some c → (s.core c).waiting = .pool x → (s.core c).step = false → (s.freeEntry c).isSome = true →
    Completes .poolEntryGrant s (fun t => (t.core c).waiting = .none ∧ c ∉ t.scan.poolFifo ∧ t.pc c = x.pcNext ∧
      ∃ e y, s.freeEntry c = some e ∧ t.entry? e = some y ∧ y.op = x.op ∧ y.tag = x.tag ∧ y.core = c ∧ y.completed = false)) ∧
  ∀ s : State, s.nextGrant = none → exec .poolEntryGrant s = .next s

/-- R72 to R74, R84, R88: LEND, LSLACK, LSLEEP and its end, LBELL. A lesson that ends commits; on a steward core LEND, LSLACK and LSLEEP raise
ILLEGAL. -/
def Obligations.LessonControl : Prop :=
  (∀ (s : State) (c : CoreId) (gd : BitVec 4) (cls : BitVec 3), s.ready c (.lbell c gd cls) [gd] = true →
    let u := s.observeBound c [gd]
    Completes (.lbell c gd cls) s (Retires u c ((u.core c).ctx.put gd (u.rd (Reg.SCAN_BELL_CNT cls.toNat)) (s.pc c + 4)))) ∧
  (∀ (s : State) (c : CoreId) (gd : BitVec 4) (n : Nat) (l : Lesson), isScan c = true → s.ready c (.lslack c gd) [gd] = true →
    let u := s.observeBound c [gd]
    (u.core c).lesson = some n → u.lesson? n = some l →
    Completes (.lslack c gd) s (Retires u c ((u.core c).ctx.put gd
      (if l.deadlineAt - u.now < 2 ^ 32 then BitVec.ofNat 32 (l.deadlineAt - u.now) else 0xFFFFFFFF) (s.pc c + 4)))) ∧
  (∀ (s : State) (c : CoreId) (ga : BitVec 4), isScan c = true → s.ready c (.lsleep c ga) [ga] = true →
    let u := s.observeBound c [ga]
    ((u.core c).clasp = none → Completes (.lsleep c ga) s (fun t => (t.core c).waiting = .sleep (u.now + (u.g c ga).toNat) ∧
      (t.core c).ctx = (u.core c).ctx ∧ t.points = u.points ∧ t.scan.mem = u.scan.mem)) ∧
    ((u.core c).clasp.isSome = true → exec (.lsleep c ga) s = .next (s.raised c 9 (BitVec.ofNat 32 (encode (.lsleep c ga)))))) ∧
  (∀ (s : State) (c : CoreId) (due n : Nat) (l : Lesson), (s.core c).waiting = .sleep due → (s.core c).lesson = some n → s.lesson? n = some l →
    (due < l.deadlineAt → due < 2 ^ 64 → Completes (.lsleepExpiry c) s (fun t => (t.core c).waiting = .none ∧ t.pc c = s.pc c + 4 ∧
      t.now = max s.now due ∧ t.points = s.points ∧ t.scan.mem = s.scan.mem)) ∧
    (l.deadlineAt ≤ due → exec (.lsleepExpiry c) s = .next s)) ∧
  (∀ (s : State) (c : CoreId) (n : Nat) (l : Lesson), isScan c = true → s.ready c (.lend c) [] = true → (s.core c).lesson = some n →
    s.lesson? n = some l → (s.core c).clasp = none → (∀ p ∈ s.ownEntries c, p.2.isPsync = false) →
    ((∀ j < 8, (s.tag c (BitVec.ofNat 3 j)).out = 0) → exec (.lend c) s = .next ((s.endLesson c n).afterStep c)) ∧
    ((∃ j < 8, (s.tag c (BitVec.ofNat 3 j)).out ≠ 0) → Completes (.lend c) s (fun t => (t.core c).waiting = .lend))) ∧
  (∀ (s : State) (c : CoreId), isScan c = false →
    (s.ready c (.lend c) [] = true → exec (.lend c) s = .next (s.raised c 1 (BitVec.ofNat 32 (encode (.lend c))))) ∧
    (∀ g, s.ready c (.lslack c g) [] = true → exec (.lslack c g) s = .next (s.raised c 1 (BitVec.ofNat 32 (encode (.lslack c g))))) ∧
    (∀ g, s.ready c (.lsleep c g) [] = true → exec (.lsleep c g) s = .next (s.raised c 1 (BitVec.ofNat 32 (encode (.lsleep c g))))))

/-- R75 to R78: a clasp opens where one of the 32 slots is free, waits its turn where none is, applies its buffered stores and issues its held puts
when it closes; the slot and the cluster lock go to those who wait, first come, first served. -/
def Obligations.Clasps : Prop :=
  (∀ (s : State) (c : CoreId), s.ready c (.clasp c) [] = true → (s.core c).clasp = none →
    (s.openClasps < 32 → s.scan.claspFifo = [] → Completes (.clasp c) s (fun t =>
      (t.core c).clasp = some ⟨0, 0, [], false, s.scan.issueCount⟩ ∧ (t.core c).ctx = { (s.core c).ctx with pc := s.pc c + 4, ls := setBitOf (s.ls c) 8 true } ∧
      t.points = s.points ∧ t.scan.mem = s.scan.mem ∧ t.regs = s.regs)) ∧
    (32 ≤ s.openClasps ∨ s.scan.claspFifo ≠ [] → Completes (.clasp c) s (fun t =>
      (t.core c).waiting = .claspSlot ∧ t.scan.claspFifo = s.scan.claspFifo ++ [c] ∧ t.pc c = s.pc c))) ∧
  (∀ (s : State) (c : CoreId), s.ready c (.clasp c) [] = true → (s.core c).clasp.isSome = true →
    exec (.clasp c) s = .next (s.raised c 9 (BitVec.ofNat 32 (encode (.clasp c))))) ∧
  (∀ (s : State) (c : CoreId) (k : Clasp), s.ready c (.unclasp c) [] = true → (s.core c).clasp = some k →
    exec (.unclasp c) s = .next ((s.closeClasp c k).afterStep c)) ∧
  (∀ (s : State) (c : CoreId), s.ready c (.unclasp c) [] = true → (s.core c).clasp = none →
    Completes (.unclasp c) s (Retires s c { (s.core c).ctx with pc := s.pc c + 4 })) ∧
  (∀ (s : State) (c : CoreId) (k : Clasp), ((s.closeClasp c k).core c).clasp = none ∧ ∀ a, (s.closeClasp c k).byteAt a =
    Memory.read (k.stores.foldl (fun m st => Memory.writeN m st.addr st.bytes) s.scan.mem) a) ∧
  (∀ (s : State) (c : CoreId) (rest : List CoreId), s.scan.claspFifo = c :: rest →
    (s.openClasps < 32 → (s.core c).step = false → Completes .claspSlotGrant s (fun t => t.scan.claspFifo = rest ∧ (t.core c).waiting = .none ∧
      (t.core c).clasp = some ⟨0, 0, [], false, s.scan.issueCount⟩ ∧ bitOf (t.ls c) 8 = true ∧ t.pc c = s.pc c + 4)) ∧
    (32 ≤ s.openClasps → exec .claspSlotGrant s = .next s)) ∧
  (∀ (s : State) (cl : Fin 8) (c : CoreId) (rest : List CoreId) (k : Clasp), s.scan.lockFifo[cl] = c :: rest → s.scan.lockOwner[cl] = none →
    (s.core c).clasp = some k → (clusterOf c).val = cl.val → Completes (.claspLockGrant cl) s (fun t => t.scan.lockFifo[cl] = rest ∧
      t.scan.lockOwner[cl] = some c ∧ (t.core c).waiting = .none ∧ (t.core c).clasp = some { k with lock := true } ∧ (t.core c).ctx = (s.core c).ctx)) ∧
  ∀ (s : State) (cl : Fin 8) (c : CoreId), s.scan.lockOwner[cl] = some c → exec (.claspLockGrant cl) s = .next s

/-- R70: block-float arithmetic, each instruction by its formula over the lanes and exponents, formed once under R68. VADD, VSUB, VMUL, VMAC, VMIN, VMAX,
VCLAMP, VDOT, VNEG, VABS, VSUM and VBCAST complete at T = 0 whatever their lanes hold; at T = 1 a saturated result raises BF_OVERFLOW. -/
def Obligations.BlockFloatArithmetic : Prop :=
  (∀ (s : State) (c : CoreId) (bd ba bb lane : BitVec 3) (op : BitVec 5) (i : Instr),
    i ∈ [Instr.vadd c bd ba bb false, Instr.vsub c bd ba bb false, Instr.vmul c bd ba bb false, Instr.vmac c bd ba bb false, Instr.vmin c bd ba bb false,
      Instr.vmax c bd ba bb false, Instr.vclamp c bd ba bb false, Instr.vdot c bd ba bb false, Instr.vneg c bd ba false, Instr.vabs c bd ba false,
      Instr.vsum c bd ba false, Instr.vbcast c op lane bd ba bb false] →
    s.ready c i [] = true → ∃ t, exec i s = .next t ∧ t.pc c = s.pc c + 4 ∧ (t.core c).ctx.g = (s.core c).ctx.g ∧ (∀ r, r ≠ bd → t.b c r = s.b c r) ∧
      t.points = s.points ∧ t.scan.mem = s.scan.mem) ∧
  FormsOf2 .vadd (fun _ x y => bfCombine (· + ·) x y) ∧ FormsOf2 .vsub (fun _ x y => bfCombine (· - ·) x y) ∧
  FormsOf2 .vmul (fun _ x y => bfMul x y) ∧ FormsOf2 .vmac bfMac ∧ FormsOf2 .vmin (fun _ x y => bfCombine min x y) ∧
  FormsOf2 .vmax (fun _ x y => bfCombine max x y) ∧ FormsOf2 .vclamp bfClamp ∧
  FormsOf2 .vdot (fun _ x y => bfSum (bfProducts x y).1 (bfProducts x y).2) ∧
  FormsOf1 .vneg (fun x => bfResult (x.mants.map (fun m => -m)) (x.exp - 23)) ∧
  FormsOf1 .vabs (fun x => bfResult (x.mants.map (fun m => |m|)) (x.exp - 23)) ∧
  FormsOf1 .vsum (fun x => bfSum x.mants (x.exp - 23)) ∧
  (∀ (s : State) (c : CoreId) (op : BitVec 5) (lane bd ba bb : BitVec 3) (tt : Bool), s.ready c (.vbcast c op lane bd ba bb tt) [] = true →
    let y := (s.b c bb).broadcast lane.toNat
    BlockFloats s c (.vbcast c op lane bd ba bb tt) bd tt (if op = 0 then bfCombine (· + ·) (s.b c ba) y
      else if op = 1 then bfCombine (· - ·) (s.b c ba) y else if op = 2 then bfMul (s.b c ba) y else bfMac (s.b c bd) (s.b c ba) y))

/-- R68, R69, R71: the register formed from exact lanes n × 2^x. The lanes are rounded at the smallest exponent from −32 at which every rounded lane fits 24
bits, and renormalised while every one of them lies in −2^22 to 2^22 − 1; where the exponent would be above +31, it is +31 and every lane is saturated.
Rounding is to nearest, ties to even. And the block-float moves, conversions and comparisons, and the eight-word load and store: VEXT, VGEXP, VCMP, VZERO,
VSETE, VSPLAT, VINS, VCVTF, VCVT, VLD and VST complete under the stated conditions. -/
def Obligations.BlockFloatMoves : Prop :=
  ((∀ (lanes : List Int) (x : Int), lanes.length = 8 →
    (∀ e, bfExp (-32) lanes x = some e → -32 ≤ e ∧ e ≤ 31 ∧ (∀ n ∈ lanes, -8388608 ≤ bfRound n x e ∧ bfRound n x e ≤ 8388607) ∧
      (∀ d, -32 ≤ d → d < e → ∃ n ∈ lanes, bfRound n x d < -8388608 ∨ 8388607 < bfRound n x d)) ∧
    (bfExp (-32) lanes x = none → ∀ d, -32 ≤ d → d ≤ 31 → ∃ n ∈ lanes, bfRound n x d < -8388608 ∨ 8388607 < bfRound n x d) ∧
    (let k := (bfExp (-32) lanes x).getD 32
     (∀ ms e, bfNormal lanes x = some (ms, e) → -32 ≤ e ∧ e ≤ k ∧ e ≤ 31 ∧ ms = lanes.map (fun n => bfRound n x k * 2 ^ (k - e).toNat) ∧
       (∀ m ∈ ms, -8388608 ≤ m ∧ m ≤ 8388607) ∧ (e = -32 ∨ ∃ m ∈ ms, m < -4194304 ∨ 4194303 < m) ∧
       (bfResult lanes x).2 = false ∧ (bfResult lanes x).1.exp = e ∧ (bfResult lanes x).1.mants = ms) ∧
     (bfNormal lanes x = none → k = 32 ∧ (∃ n ∈ lanes, bfRound n x 32 < -4194304 ∨ 4194303 < bfRound n x 32) ∧
       (bfResult lanes x).2 = true ∧ (bfResult lanes x).1.exp = 31 ∧
       (bfResult lanes x).1.mants = lanes.map (fun n => max (-8388608) (min 8388607 (bfRound n x 31)))))) ∧
  (∀ n x e : Int, e - 23 ≤ x → bfRound n x e = n * 2 ^ (x - (e - 23)).toNat) ∧
  (∀ n x e : Int, x < e - 23 → let d : Int := 2 ^ ((e - 23) - x).toNat
    2 * |n - bfRound n x e * d| ≤ d ∧ (2 * |n - bfRound n x e * d| = d → bfRound n x e % 2 = 0))) ∧
  (∀ (s : State) (c : CoreId) (ga : BitVec 4) (bd lane : BitVec 3), s.ready c (.vext c ga bd lane) [ga] = true →
    let u := s.observeBound c [ga]
    Completes (.vext c ga bd lane) s (Retires u c ((u.core c).ctx.put ga ((u.b c bd).laneWord lane.toNat) (s.pc c + 4)))) ∧
  (∀ (s : State) (c : CoreId) (ga : BitVec 4) (bd : BitVec 3), s.ready c (.vgexp c ga bd) [ga] = true →
    let u := s.observeBound c [ga]
    Completes (.vgexp c ga bd) s (Retires u c ((u.core c).ctx.put ga ((u.b c bd).e.signExtend 32) (s.pc c + 4)))) ∧
  (∀ (s : State) (c : CoreId) (ga : BitVec 4) (bd bb cond : BitVec 3), s.ready c (.vcmp c ga bd bb cond) [ga] = true →
    let u := s.observeBound c [ga]
    Completes (.vcmp c ga bd bb cond) s (fun t => ∃ v : Word, Retires u c ((u.core c).ctx.put ga v (s.pc c + 4)) t ∧ ∀ j < 32,
      v.getLsbD j = (decide (j < 8) && bfCond cond.toNat ((u.b c bd).mant j) (u.b c bd).exp ((u.b c bb).mant j) (u.b c bb).exp))) ∧
  (∀ (s : State) (c : CoreId) (bd : BitVec 3), s.ready c (.vzero c bd) [] = true →
    Completes (.vzero c bd) s (Retires s c { (s.core c).ctx with b := (s.core c).ctx.b.set bd.toNat ⟨Vector.replicate 8 0, -32⟩, pc := s.pc c + 4 })) ∧
  FormsFrom .vsete (fun b w => b.setExp (w.setWidth 6).toInt) ∧
  FormsFrom .vsplat (fun _ w => bfResult (List.replicate 8 (bf24Mant w)) (bf24Exp w - 23)) ∧
  (∀ (s : State) (c : CoreId) (bd : BitVec 3) (ga : BitVec 4) (lane : BitVec 3), s.ready c (.vins c bd ga lane) [ga] = true →
    let u := s.observeBound c [ga]
    let r := (u.b c bd).insert lane.toNat (bf24Mant (u.g c ga)) (bf24Exp (u.g c ga) - 23)
    let x := { (u.core c).ctx with b := (u.core c).ctx.b.set bd.toNat r.1, pc := s.pc c + 4 }
    Completes (.vins c bd ga lane) s (Retires u c { x with ls := if r.2 then setBitOf x.ls 12 true else x.ls })) ∧
  (∀ (s : State) (c : CoreId) (bd : BitVec 3) (ga : BitVec 4) (lane : BitVec 3) (scale : BitVec 6), s.ready c (.vcvtf c bd ga lane scale) [ga] = true →
    let u := s.observeBound c [ga]
    let r := (u.b c bd).insert lane.toNat (u.g c ga).toInt scale.toInt
    let x := { (u.core c).ctx with b := (u.core c).ctx.b.set bd.toNat r.1, pc := s.pc c + 4 }
    Completes (.vcvtf c bd ga lane scale) s (Retires u c { x with ls := if r.2 then setBitOf x.ls 12 true else x.ls })) ∧
  (∀ (s : State) (c : CoreId) (ga : BitVec 4) (bd lane : BitVec 3) (scale : BitVec 6) (tt : Bool), s.ready c (.vcvt c ga bd lane scale tt) [ga] = true →
    let u := s.observeBound c [ga]
    let v := bfToInt ((u.b c bd).mant lane.toNat) (u.b c bd).exp scale.toInt
    (-2147483648 ≤ v ∧ v ≤ 2147483647 → Completes (.vcvt c ga bd lane scale tt) s (Retires u c ((u.core c).ctx.put ga (BitVec.ofInt 32 v) (s.pc c + 4)))) ∧
    (v < -2147483648 ∨ 2147483647 < v → tt = false → Completes (.vcvt c ga bd lane scale tt) s (Retires u c
      { (u.core c).ctx.put ga (if v < 0 then 0x80000000 else 0x7FFFFFFF) (s.pc c + 4) with ls := setBitOf (u.ls c) 12 true })) ∧
    (v < -2147483648 ∨ 2147483647 < v → tt = true →
      exec (.vcvt c ga bd lane scale tt) s = .next (s.raised c 8 (BitVec.ofNat 32 (encode (.vcvt c ga bd lane scale tt)))))) ∧
  (∀ (s : State) (c : CoreId) (bd : BitVec 3) (ga : BitVec 4) (off : BitVec 12), s.ready c (.vld c bd ga off) [ga] = true →
    let u := s.observeBound c [ga]
    let ea := u.g c ga + 32 * off.signExtend 32
    (∀ a cl, u.dataAddr c ea 32 false = .at a cl → u.lockNeed c cl = .free → u.loadPoisoned c a 32 = false →
      let r := bfOfWords ((List.range 8).map (fun i => bytesWord (u.loadBytes c (a + 4 * i) 4)))
      let x := { (u.core c).ctx with b := (u.core c).ctx.b.set bd.toNat r.1, pc := s.pc c + 4 }
      Completes (.vld c bd ga off) s (Retires u c { x with ls := if r.2 then setBitOf x.ls 12 true else x.ls })) ∧
    (∀ a cl, u.dataAddr c ea 32 false = .at a cl → u.lockNeed c cl = .take → (u.takeLock c).loadPoisoned c a 32 = false →
      let w := u.takeLock c
      let r := bfOfWords ((List.range 8).map (fun i => bytesWord (w.loadBytes c (a + 4 * i) 4)))
      let x := { (w.core c).ctx with b := (w.core c).ctx.b.set bd.toNat r.1, pc := s.pc c + 4 }
      Completes (.vld c bd ga off) s (Retires w c { x with ls := if r.2 then setBitOf x.ls 12 true else x.ls })) ∧
    (∀ a cl, u.dataAddr c ea 32 false = .at a cl → u.lockNeed c cl = .queue → Completes (.vld c bd ga off) s (WaitsForLock u c)) ∧
    (∀ a cl, u.dataAddr c ea 32 false = .at a cl → u.lockNeed c cl = .free → u.loadPoisoned c a 32 = true → exec (.vld c bd ga off) s = .next (s.raised c 3 ea)) ∧
    (∀ a, u.dataAddr c ea 32 false = .lpddr a → (∀ j < 8, u.dataAddr c (ea + BitVec.ofNat 32 (4 * j)) 4 false = .lpddr (a + 4 * j)) →
      let r := bfOfWords ((List.range 8).map (fun j => bytesWord (Memory.readN u.lpddr (a + 4 * j) 4)))
      let x := { (u.core c).ctx with b := (u.core c).ctx.b.set bd.toNat r.1, pc := s.pc c + 4 }
      Completes (.vld c bd ga off) s (Retires u c { x with ls := if r.2 then setBitOf x.ls 12 true else x.ls })) ∧
    (u.dataAddr c ea 32 false = .memory → exec (.vld c bd ga off) s = .next (s.raised c 3 ea))) ∧
  (∀ (s : State) (c : CoreId) (bd : BitVec 3) (ga : BitVec 4) (off : BitVec 12), s.ready c (.vst c bd ga off) [ga] = true →
    let u := s.observeBound c [ga]
    let ea := u.g c ga + 32 * off.signExtend 32
    (∀ a cl, u.dataAddr c ea 32 true = .at a cl → (u.core c).clasp = none → Completes (.vst c bd ga off) s (fun t => ∃ m p l,
      Retires { u with scan := { u.scan with mem := m, poison := p, lessons := l } } c { (u.core c).ctx with pc := s.pc c + 4 } t ∧
      ∀ b, Memory.read m b = if a ≤ b ∧ b < a + 32 then BitVec.ofNat 8 (((u.b c bd).laneWord ((b - a) / 4)).toNat / 256 ^ ((b - a) % 4)) else u.byteAt b)) ∧
    (∀ a cl k, u.dataAddr c ea 32 true = .at a cl → (u.core c).clasp = some k → u.lockNeed c cl = .free → Completes (.vst c bd ga off) s (fun t =>
      t.scan.mem = u.scan.mem ∧ (t.core c).ctx = { (u.core c).ctx with pc := s.pc c + 4 } ∧ (t.core c).clasp.map (fun q => q.stores) =
        some (k.stores ++ [⟨a, ((List.range 8).map (fun i => (u.b c bd).laneWord i)).flatMap wordBytes, cl⟩]))) ∧
    (∀ a cl, u.dataAddr c ea 32 true = .at a cl → u.lockNeed c cl = .queue → Completes (.vst c bd ga off) s (WaitsForLock u c)) ∧
    (∀ a, u.dataAddr c ea 32 true = .lpddr a → (∀ j < 8, u.dataAddr c (ea + BitVec.ofNat 32 (4 * j)) 4 true = .lpddr (a + 4 * j)) →
      Completes (.vst c bd ga off) s (fun t => ∃ m, Retires { u with lpddr := m } c { (u.core c).ctx with pc := s.pc c + 4 } t ∧
      ∀ b, Memory.read m b = if a ≤ b ∧ b < a + 32 then BitVec.ofNat 8 (((u.b c bd).laneWord ((b - a) / 4)).toNat / 256 ^ ((b - a) % 4))
        else Memory.read u.lpddr b)) ∧
    (u.dataAddr c ea 32 true = .memory → exec (.vst c bd ga off) s = .next (s.raised c 3 ea)))

/-- R27, R60 to R63, R97, R125: an operation in flight reaches its target. A get the roster allows completes with the words it names; a put of its
producing lesson reaches the working values alone; a PSYNC completes once SEQ differs; a timeout completes with TIMEOUT. A refusal changes no
point. -/
def Obligations.OperationResults : Prop :=
  (∀ (s : State) (e : Fin 8192), s.entry? e.val = none → exec (.operationComplete e) s = .next s ∧ exec (.psyncComplete e) s = .next s ∧
    exec (.operationTimeout e) s = .next s) ∧
  (∀ (s : State) (e : Fin 8192) (x : Entry) (cause : BitVec 5), s.entry? e.val = some x → x.completed = false → x.held = false → x.outcome = some cause →
    exec (.operationComplete e) s = .next (s.completeOp e.val cause x.result)) ∧
  (∀ (s : State) (e : Fin 8192) (x : Entry) (i : PointIdx) (w n : Nat) (gd : BitVec 4), s.entry? e.val = some x → x.op = .get i w n gd → x.completed = false → x.outcome = none →
    x.held = false → s.behindEarlier x i = false → s.tileOut i = false → s.mayRead x.tenant i = true → x.trans = none → s.produces x i = false →
    (∀ j < n, (s.point i).poison.getLsbD (w + j) = false) →
    exec (.operationComplete e) s = .next (s.completeOp e.val 0 ((List.range n).map (fun j => (s.point i).word (w + j))))) ∧
  (∀ (s : State) (e : Fin 8192) (x : Entry) (i : PointIdx) (w : Nat) (data : List Word), s.entry? e.val = some x → x.op = .put i w data → x.completed = false → x.outcome = none →
    x.held = false → s.behindEarlier x i = false → s.tileOut i = false → s.mayWrite x.tenant i = true → s.putAllowed x i w data.length = true →
    Completes (.operationComplete e) s (fun t => (t.point i).words = (s.point i).words ∧ t.regs = s.regs ∧ (∀ j, j ≠ i → t.point j = s.point j) ∧
      ∀ k < 16, (t.point i).work.toList.getD k none = if w ≤ k ∧ k < w + data.length
        then some (if k = 2 then data.getD (k - w) 0 &&& 0x00FF1003 else data.getD (k - w) 0) else (s.point i).work.toList.getD k none)) ∧
  (∀ (s : State) (e : Fin 8192) (x : Entry) (i : PointIdx) (w : Nat) (data : List Word), s.entry? e.val = some x → x.op = .put i w data → x.completed = false → x.outcome = none →
    x.held = false → s.behindEarlier x i = false → s.tileOut i = false → s.mayWrite x.tenant i = false → Completes (.operationComplete e) s (fun t => t.points = s.points)) ∧
  (∀ (s : State) (e : Fin 8192) (x : Entry) (i : PointIdx) (gd : BitVec 4) (seq : Word), s.entry? e.val = some x → x.op = .psync i gd seq → x.completed = false →
    s.tileOut i = false → s.mayRead x.tenant i = true → (s.point i).poison.getLsbD 6 = false →
    ((s.point i).word 6 = seq → exec (.psyncComplete e) s = .next s) ∧
    ((s.point i).word 6 ≠ seq → exec (.psyncComplete e) s = .next (s.completeOp e.val 0 [(s.point i).word 6]))) ∧
  (∀ (s : State) (e : Fin 8192) (x : Entry) (m : Nat), s.entry? e.val = some x → x.timeout = some m → x.completed = false → x.held = false →
    (∃ u t p r, x.op = .msg u t p r) → x.trans = none →
    exec (.operationTimeout e) s = .next ((s.advanceTo (x.issued + m)).completeOp e.val 14 [])) ∧
  (∀ (s : State) (e : Nat) (x : Entry) (cause : BitVec 5) (ws : List Word), s.entry? e = some x → x.completed = false → (s.core x.core).lesson = x.lesson →
    let t := s.completeOp e cause ws
    t.entry? e = some { x with outcome := some cause, completed := true, held := false } ∧ (∀ d, d ≠ e → t.entry? d = s.entry? d) ∧
    (t.tag x.core x.tag).out = (s.tag x.core x.tag).out - 1 ∧ (t.tag x.core x.tag).done = (s.tag x.core x.tag).done + 1 ∧
    t.points = s.points ∧ t.regs = s.regs ∧ t.scan.mem = s.scan.mem ∧ ∀ c, c ≠ x.core → t.core c = s.core c)

/-- R27, R44, R45: an instruction whose operands break its encoding's rules raises ILLEGAL with its first word, and nothing else happens; one that
reads or writes a register bound to an operation in flight waits for it; once the operation has completed, its group has observed it and the
instruction runs. -/
def Obligations.IssueConditions : Prop :=
  (∀ (s : State) (c : CoreId) (i : Instr), operandsLegal i = false → s.executing c = true → s.fetchOk c (s.pc c) = true →
    ((∃ gd ga l w, i = .extu c gd ga l w ∨ i = .exts c gd ga l w ∨ i = .ins c gd ga l w) ∨
     (∃ gd tag pt, i = .pget2 c gd tag pt ∨ i = .pget4 c gd tag pt ∨ i = .pgetvq c gd tag pt ∨ i = .pput2 c gd tag pt ∨ i = .pput4 c gd tag pt ∨
       i = .psync c gd tag pt) ∨ (∃ gd tag unit typ ga len reply, i = .emsg c gd tag unit typ ga len reply) ∨
     (∃ op lane bd ba bb tt, i = .vbcast c op lane bd ba bb tt) ∨ ∃ ga bd bb cond, i = .vcmp c ga bd bb cond) →
    exec i s = .next (s.raised c 1 (BitVec.ofNat 32 (encode i)))) ∧
  ∀ (s : State) (c : CoreId) (gd ga gb : BitVec 4) (e : Nat), s.executing c = true → s.fetchOk c (s.pc c) = true → (s.core c).clasp = none →
    let u := s.observeBound c [gd, ga, gb]
    u.firstBound c [gd, ga, gb] = some e →
    exec (.add c gd ga gb) s = .next (u.setCore c { u.core c with waiting := .bound e }) ∧
    exec (.div c gd ga gb) s = .next (u.setCore c { u.core c with waiting := .bound e }) ∧
    exec (.sel c gd ga gb) s = .next (u.setCore c { u.core c with waiting := .bound e }) ∧ u.points = s.points ∧ u.scan.mem = s.scan.mem ∧
    ((∀ p ∈ s.entries, p.2.lesson.isSome = true) → u.regs = s.regs)

/-! ### The schedule, points and forces -/

/-- R25, R38, R40, R80, R83, R89, R90: bells, the start of a lesson, its deadline and its budget. -/
def Obligations.Schedule : Prop :=
  (∀ (s : State) (cls : Fin 8), (s.pwr.off = true ∨ s.bit Reg.SCAN_STAT 0 = false) → exec (.bell cls) s = .next s) ∧
  (∀ (s : State) (cls : Fin 8), s.pwr.off = false → s.bit Reg.SCAN_STAT 0 = true →
    let at_ := s.nextBell cls.val
    exec (.bell cls) s = .next ((((List.range cls.val).filter (fun k => s.nextBell k == at_)) ++ [cls.val]).foldl (fun s k => s.ringAt k at_) s)) ∧
  (∀ (s : State) (cls : Fin 8) (t : Nat),
    let v := (if s.now < t then s.loopLate else s).advanceTo t
    v.scan.switch = none →
    s.ringAt cls.val t = ((v.ring cls.val).bellLessons cls.val (BitVec.ofNat 32 (v.scan.rung.toList.getD cls.val 0)) t).unitBell cls.val) ∧
  (∀ (s : State) (cls : Fin 8), (s.ring cls.val).rd (Reg.SCAN_BELL_CNT cls.val) = BitVec.ofNat 32 (s.scan.rung.toList.getD cls.val 0) ∧
    (s.ring cls.val).scan.rung.toList.getD cls.val 0 = s.scan.rung.toList.getD cls.val 0 + 1 ∧
    (∀ a, a ≠ Reg.SCAN_BELL_CNT cls.val → (s.ring cls.val).rd a = s.rd a) ∧ (s.ring cls.val).points = s.points) ∧
  (∀ (s : State) (n : Nat) (l : Lesson) (count : Word) (t : Nat), ∃ x, (s.readyLesson n l count t).lesson? n = some x ∧ x.phase = .ready ∧ x.bell = count ∧
    x.bellTime = t ∧ x.deadlineAt = t + l.decl.deadline * 250 ∧ x.demoted = none ∧ x.exhausted = false ∧
    (∀ m, m ≠ n → (s.readyLesson n l count t).lesson? m = s.lesson? m) ∧ (s.readyLesson n l count t).points = s.points) ∧
  (∀ (s : State) (core : Fin 64) (n slot : Nat) (l : Lesson),
    let c := coreId core
    (s.core c).lesson = none → (s.core c).halt ≠ .halted → s.bit (Reg.SCAN_CORE_STAT core.val) 0 = true → s.bestLesson c = some (n, l) → l.phase = .ready →
    s.slotOf l.decl.tenant = some slot → s.resident l.decl.tenant = true → Completes (.lessonStart core) s (fun t =>
      (t.core c).lesson = some n ∧ (t.core c).waiting = .none ∧ t.pc c = l.decl.entry ∧ t.g c 1 = l.decl.header ∧ t.g c 2 = BitVec.ofNat 32 n ∧
      t.g c 14 = l.decl.stackTop ∧ t.g c 15 = 0xFFFFFFFC ∧ (∀ r : BitVec 4, r ≠ 1 → r ≠ 2 → r ≠ 14 → r ≠ 15 → t.g c r = 0) ∧
      (t.core c).ctx.bell = l.bell ∧ t.lesson? n = some { l with phase := .running, start := 0 } ∧ t.points = s.points ∧ t.regs = s.regs)) ∧
  (∀ (s : State) (core : Fin 64), ((s.core (coreId core)).lesson.isSome = true ∨ s.bit (Reg.SCAN_CORE_STAT core.val) 0 = false) →
    exec (.lessonStart core) s = .next s) ∧
  (∀ (s : State) (lesson : BitVec 12) (l : Lesson), s.lesson? lesson.toNat = some l → l.phase ≠ .idle →
    let cause : BitVec 5 := if (s.core l.coreOf).halt = .halted then 18 else 11
    exec (.deadlineExpiry lesson) s = .next ((s.advanceTo l.deadlineAt).abandon lesson.toNat cause)) ∧
  (∀ (s : State) (n : Nat) (l : Lesson) (cause : BitVec 5), s.lesson? n = some l → ∃ x, (s.dropPeriod n cause).lesson? n = some x ∧
    x.phase = .idle ∧ x.lastAbandon = cause ∧ x.abandonBell = l.bell ∧ x.decl = l.decl) ∧
  (∀ (s : State) (lesson : BitVec 12) (l : Lesson), s.lesson? lesson.toNat = some l → l.exhausted = false →
    (l.phase = .running ∨ (l.phase = .ready ∧ (s.core l.coreOf).lesson = none ∧ s.resident l.decl.tenant = false ∧ ∃ x, s.bestLesson l.coreOf = some (lesson.toNat, x))) →
    (l.decl.tier = .safety ∨ l.decl.tier = .lift → Completes (.budgetExhausted lesson) s (fun t =>
      t.lesson? lesson.toNat = some { l with exhausted := true } ∧ t.rd Reg.SCAN_OVERRUN_CNT = s.rd Reg.SCAN_OVERRUN_CNT + 1 ∧ t.points = s.points)) ∧
    (l.decl.tier ≠ .safety → l.decl.tier ≠ .lift → Completes (.budgetExhausted lesson) s (fun t => (∃ x, t.lesson? lesson.toNat = some x ∧ x.exhausted = true ∧
      x.demoted = some s.scan.demoteCount) ∧ t.rd Reg.SCAN_OVERRUN_CNT = s.rd Reg.SCAN_OVERRUN_CNT + 1 ∧ t.points = s.points))) ∧
  (∀ (s : State) (lesson : BitVec 12), s.lesson? lesson.toNat = none → exec (.budgetExhausted lesson) s = .next s ∧ exec (.deadlineExpiry lesson) s = .next s)

/-- R94, R98, R132: a slot's floor, forces and the clearing of a lesson's marks, as the Prefect's writes make them. -/
def Obligations.Forces : Prop :=
  (∀ (s : State) (m : Master) (slot : Fin 16) (v : Word),
    let u := s.woken m
    let others := ((List.range 16).filter (fun k => k != slot.val)).foldl (fun n k => n + u.floorOf k) 0
    u.obeys m = true →
    (bits v 10 0 ≤ 1024 → others + bits v 10 0 ≤ 4096 → Completes (.floorWrite m slot v) s (fun t =>
      t.fld (Reg.SCAN_HR_FLOOR slot.val) 10 0 = bits v 10 0 ∧ (∀ a, a ≠ Reg.SCAN_HR_FLOOR slot.val → t.rd a = u.rd a) ∧ t.scan = u.scan)) ∧
    ((1024 < bits v 10 0 ∨ 4096 < others + bits v 10 0) → Completes (.floorWrite m slot v) s (fun t =>
      t.bit Reg.SCAN_STAT 3 = true ∧ (∀ a, a ≠ Reg.SCAN_STAT → t.rd a = u.rd a) ∧ t.scan = u.scan))) ∧
  (∀ (s : State) (m : Master),
    let u := s.woken m
    let i : PointIdx := BitVec.ofNat 14 (u.fld Reg.SCAN_FORCE_IDX 13 0)
    u.obeys m = true →
    ((u.point i).forced = true ∨ u.forces.length < 256 → Completes (.forceSet m) s (fun t =>
      t.point i = (u.point i).forceTo (u.rd Reg.SCAN_FORCE_VAL_LO) (u.rd Reg.SCAN_FORCE_VAL_HI) true u.now ∧ (∀ j, j ≠ i → t.point j = u.point j))) ∧
    ((u.point i).forced = false → 256 ≤ u.forces.length → Completes (.forceSet m) s (fun t =>
      t.bit Reg.SCAN_FORCE_STAT 16 = true ∧ t.points = u.points)) ∧
    ((u.point i).forced = true → Completes (.forceClear m) s (fun t =>
      t.point i = (u.point i).forceTo ((u.point i).heal.word 7) ((u.point i).heal.word 8) false u.now ∧ (∀ j, j ≠ i → t.point j = u.point j))) ∧
    ((u.point i).forced = false → exec (.forceClear m) s = .next u)) ∧
  (∀ (p : Point) (v h : Word) (b : Bool) (now : Nat), (p.poison = 0 → p.heal = p) ∧
    let r := p.heal
    let q := p.forceTo v h b now
    q.word 0 = v ∧ q.word 1 = (if bits (r.word 3) 3 0 = 3 ∨ bits (r.word 3) 3 0 = 4 then h else 0) ∧ q.forced = b ∧ q.word 6 = r.word 6 + 1 ∧
    q.word 4 = BitVec.ofNat 32 (now % 2 ^ 32) ∧ q.word 5 = BitVec.ofNat 32 (now / 2 ^ 32 % 2 ^ 32) ∧ q.word 7 = r.word 7 ∧ q.word 8 = r.word 8 ∧
    q.word 3 = r.word 3 ∧ q.poison = 0) ∧
  (∀ (s : State) (m : Master) (i : PointIdx), (s.woken m).obeys m = true → (s.woken m).forces = [i] → ((s.woken m).point i).forced = true →
    Completes (.forceClearAll m) s (fun t => (t.point i).forced = false ∧ ∀ j, j ≠ i → t.point j = (s.woken m).point j)) ∧
  (∀ (s : State) (m : Master) (n : BitVec 12) (l : Lesson), (s.woken m).obeys m = true → (s.woken m).lesson? n.toNat = some l →
    Completes (.lessonClrOne m n) s (fun t => t.lesson? n.toNat = some { l with clrPending := true } ∧ (∀ k, k ≠ n.toNat → t.lesson? k = (s.woken m).lesson? k) ∧
      t.regs = (s.woken m).regs)) ∧
  (∀ (s : State) (m : Master) (n : Nat) (l : Lesson), (s.woken m).obeys m = true → (n, l) ∈ (s.woken m).lessons → (s.woken m).lesson? n = some l →
    Completes (.lessonClrAll m) s (fun t => t.lesson? n = some { l with clrPending := true } ∧ t.regs = (s.woken m).regs))

/-- R9, R28, R30, R97: commits by the unit a point names as its producer, and remote devices: an answer commits the points it carries, a timeout marks
them, a poll sends a request where none is in flight. -/
def Obligations.Commits : Prop :=
  (∀ (s : State) (i : PointIdx) (producer : BitVec 3) (upd : PtUpdate),
    (producer ≠ 0 → (s.point i).producer = producer.toNat → Completes (.producerCommit i producer upd) s (fun t =>
      t.point i = (s.point i).commit (updateSet upd) s.now ∧ (∀ j, j ≠ i → t.point j = s.point j) ∧ t.scan = s.scan ∧ t.evt = s.evt)) ∧
    ((producer = 0 ∨ (s.point i).producer ≠ producer.toNat) → exec (.producerCommit i producer upd) s = .next s)) ∧
  (∀ (p : Point) (c : CommitSet) (now : Nat), p.poison = 0 → let q := p.commit c now
    q.word 6 = p.word 6 + 1 ∧ q.word 7 = c.value.getD (p.word 7) ∧
    q.word 8 = (if bits (p.word 3) 3 0 = 3 ∨ bits (p.word 3) 3 0 = 4 then c.valueHi.getD (p.word 8) else 0) ∧ q.word 3 = p.word 3 ∧ q.word 9 = p.word 9 ∧
    q.word 4 = BitVec.ofNat 32 (now % 2 ^ 32) ∧ q.word 5 = BitVec.ofNat 32 (now / 2 ^ 32 % 2 ^ 32) ∧
    (p.forced = false → q.word 0 = q.word 7 ∧ q.word 1 = q.word 8) ∧ (p.forced = true → q.word 0 = p.word 0 ∧ q.word 1 = p.word 1) ∧
    bitOf (q.word 2) 3 = false ∧ bitOf (q.word 2) 4 = false ∧ bitOf (q.word 2) 7 = false ∧ bitOf (q.word 2) 10 = false ∧ bitOf (q.word 2) 13 = false ∧
    bitOf (q.word 2) 2 = p.forced) ∧
  (∀ (s : State) (group : BitVec 16) (x : GroupSt) (r : Nat) (rest : List Nat) (i : PointIdx) (upd : PtUpdate), s.group group.toNat = some x → x.flights = r :: rest →
    (i ∈ x.points → (s.point i).producer = 6 → Completes (.deviceAnswer group [(i, upd)]) s (fun t => t.point i = (s.point i).commit (updateSet upd) s.now ∧
      (∀ j, j ≠ i → t.point j = s.point j) ∧ t.group group.toNat = some { x with flights := rest, lastDone := some r })) ∧
    (i ∉ x.points ∨ (s.point i).producer ≠ 6 → Completes (.deviceAnswer group [(i, upd)]) s (fun t => t.points = s.points ∧
      t.group group.toNat = some { x with flights := rest, lastDone := some r }))) ∧
  (∀ (s : State) (group : BitVec 16) (x : GroupSt) (r : Nat) (rest : List Nat), s.group group.toNat = some x → x.flights = r :: rest →
    r + x.timeoutUs * 250 < 2 ^ 64 → Completes (.deviceRequestTimeout group) s (fun t =>
      t.group group.toNat = some { x with flights := rest } ∧ t.now = max s.now (r + x.timeoutUs * 250) ∧ (∀ i, i ∉ x.points → t.point i = s.point i) ∧
      ∀ i, i ∈ x.points → bitOf ((t.point i).word 2) 7 = true)) ∧
  (∀ (s : State) (group : BitVec 16) (x : GroupSt), s.group group.toNat = some x →
    (x.flights = [] → s.inRecess = false → Completes (.devicePoll group) s (fun t =>
      t.group group.toNat = some { x with flights := [s.now], lastReq := some s.now } ∧ t.points = s.points ∧ t.regs = s.regs)) ∧
    ((x.flights ≠ [] ∨ s.inRecess = true) → exec (.devicePoll group) s = .next s)) ∧
  ∀ (s : State) (group : BitVec 16) (values : List (BitVec 14 × PtUpdate)), s.group group.toNat = none →
    exec (.deviceAnswer group values) s = .next s ∧ exec (.deviceRequestTimeout group) s = .next s ∧ exec (.devicePoll group) s = .next s

/-! ### Programs and the roster -/

/-- R103, R104: how an image is delivered: BEGIN, PUSH, CHECK and ABORT in the states that take them, OUT_OF_SEQUENCE in every other, and the
end of CHECK. -/
def Obligations.ImageDelivery : Prop :=
  (∀ (s : State) (m : Master) (own : Bool) (tenant : BitVec 12),
    let u := s.woken m
    u.obeys m = true →
    (u.progState ∈ [0, 1, 3, 8] → Completes (.progBegin m own tenant) s (fun t => ∃ v : State, v = { u with scan := { u.scan with staged := [], stagedTenant := if own then some tenant else none } } ∧
      OnlyRegs v [Reg.SCAN_PROG_STAT] t ∧ t.progState = 1 ∧ t.bit Reg.SCAN_PROG_STAT 4 = false ∧ t.fld Reg.SCAN_PROG_STAT 12 8 = 0 ∧
      t.fld Reg.SCAN_PROG_STAT 18 16 = (m.session.map BitVec.toNat).getD 0)) ∧
    (u.progState ∉ [0, 1, 3, 8] → Completes (.progBegin m own tenant) s (fun t => OnlyRegs u [Reg.SCAN_PROG_STAT] t ∧ t.progState = u.progState ∧ t.fld Reg.SCAN_PROG_STAT 12 8 = 20))) ∧
  (∀ (s : State) (m : Master) (items : List ImageItem),
    let u := s.woken m
    let off := u.fld Reg.SCAN_PROG_OFFSET 24 0
    u.obeys m = true →
    (u.progState ∈ [1, 3, 8] → off + u.fld Reg.SCAN_PROG_LEN 12 0 ≤ 25165824 → Completes (.progPush m items) s (fun t => ∃ l,
      OnlyRegs { u with scan := { u.scan with staged := l } } [Reg.SCAN_PROG_STAT] t ∧ Tab.get (fun _ => (0, [])) l off = (u.fld Reg.SCAN_PROG_LEN 12 0, items) ∧
      (∀ k, k ≠ off → Tab.get (fun _ => (0, [])) l k = Tab.get (fun _ => (0, [])) u.scan.staged k) ∧ t.progState = 1)) ∧
    (u.progState ∈ [1, 3, 8] → 25165824 < off + u.fld Reg.SCAN_PROG_LEN 12 0 → Completes (.progPush m items) s (fun t =>
      OnlyRegs u [Reg.SCAN_PROG_STAT] t ∧ t.progState = u.progState ∧ t.fld Reg.SCAN_PROG_STAT 12 8 = 1)) ∧
    (u.progState ∉ [1, 3, 8] → Completes (.progPush m items) s (fun t => OnlyRegs u [Reg.SCAN_PROG_STAT] t ∧ t.progState = u.progState ∧ t.fld Reg.SCAN_PROG_STAT 12 8 = 20))) ∧
  (∀ (s : State) (m : Master),
    let u := s.woken m
    u.obeys m = true →
    (u.progState ∈ [1, 3, 8] → Completes (.progCheck m) s (fun t => OnlyRegs u [Reg.SCAN_PROG_STAT, Reg.SCAN_PROG_DETAIL] t ∧ t.progState = 2 ∧
      t.bit Reg.SCAN_PROG_STAT 4 = true ∧ t.fld Reg.SCAN_PROG_STAT 12 8 = 0 ∧ t.rd Reg.SCAN_PROG_DETAIL = 0)) ∧
    (u.progState ∉ [1, 3, 8] → Completes (.progCheck m) s (fun t => OnlyRegs u [Reg.SCAN_PROG_STAT] t ∧ t.progState = u.progState ∧ t.fld Reg.SCAN_PROG_STAT 12 8 = 20)) ∧
    (u.progState ∉ [6, 7] → Completes (.progAbort m) s (fun t => ∃ v : State, v = { u with scan := { u.scan with staged := [], stagedTenant := none, switch := none } } ∧
      OnlyRegs v [Reg.SCAN_PROG_STAT] t ∧ t.progState = 0 ∧ t.bit Reg.SCAN_PROG_STAT 4 = false)) ∧
    (u.progState ∈ [6, 7] → Completes (.progAbort m) s (fun t => OnlyRegs u [Reg.SCAN_PROG_STAT] t ∧ t.progState = u.progState ∧ t.fld Reg.SCAN_PROG_STAT 12 8 = 20))) ∧
  ∀ (s : State),
    (s.progState ≠ 2 → exec .progCheckDone s = .next s) ∧
    (s.progState = 2 → Completes .progCheckDone s (fun t => match s.imageRefusal s.scan.stagedTenant.isSome with
      | none => OnlyRegs s [Reg.SCAN_PROG_STAT, Reg.KEY_DENY_CNT] t ∧ t.progState = 3 ∧ t.bit Reg.SCAN_PROG_STAT 4 = false
      | some (code, item, kind) => code < 32 → ∃ v : State,
        t = v.record { sev := 3, source := 0x04, code := 104, args := [wd code, wd item] } ∧ v.progState = 8 ∧ v.bit Reg.SCAN_PROG_STAT 4 = false ∧
        v.fld Reg.SCAN_PROG_STAT 12 8 = code ∧ v.rd Reg.SCAN_PROG_DETAIL = wd (item % 65536 + kind * 65536) ∧ v.scan = s.scan ∧ v.points = s.points))

/-- R25, R80, R105, R106, R108, R111 to R113: RUN, LOAD, ARM, staging, the end of a switch, checkpoints and restarts. -/
def Obligations.ProgramsRun : Prop :=
  (∀ (s : State) (m : Master),
    let u := s.woken m
    u.obeys m = true →
    (u.bit Reg.SCAN_CTRL 0 = true → exec (.scanRunStart m) s = .next u) ∧
    (u.bit Reg.SCAN_CTRL 0 = false → Completes (.scanRunStart m) s (fun t => t.bit Reg.SCAN_CTRL 0 = true ∧ t.bit Reg.SCAN_STAT 0 = true ∧ t.scan.t0 = t.cnt ∧
      t.cnt = u.cnt ∧ t.scan.rung = Vector.replicate 8 0 ∧ (∀ k, k < 8 → t.rd (Reg.SCAN_BELL_CNT k) = 0) ∧ t.points = u.points ∧ t.scan.mem = u.scan.mem)) ∧
    Completes (.scanRunStop m) s (fun t => OnlyRegs u [Reg.SCAN_CTRL, Reg.SCAN_STAT] t ∧ t.bit Reg.SCAN_CTRL 0 = false ∧ t.bit Reg.SCAN_STAT 0 = false)) ∧
  (∀ (s : State) (m : Master),
    let u := s.woken m
    let idle := !u.bit Reg.SCAN_CTRL 0 && u.lessons.all (fun p => p.2.phase == .idle) && u.scan.stagedTenant == none
    u.obeys m = true →
    (u.progState = 3 → idle = true → Completes (.progLoad m) s (fun t => ∃ v : State, t = v.outputsUpdate ∧ v.progState = 0 ∧ v.bit Reg.SCAN_PROG_STAT 4 = false ∧
      v.rd Reg.SCAN_RESTART_STAT = 0x90 ∧ v.scan.current = u.newImage ∧ v.scan.staged = [] ∧ v.scan.checkpoints = [] ∧ v.scan.firstStart = true ∧ v.cnt = u.cnt)) ∧
    ((u.progState ≠ 3 ∨ idle = false) → Completes (.progLoad m) s (fun t => OnlyRegs u [Reg.SCAN_PROG_STAT] t ∧ t.progState = u.progState ∧
      t.fld Reg.SCAN_PROG_STAT 12 8 = 20)) ∧
    (let cls := u.fld Reg.SCAN_PROG_SWITCH 2 0
     let ok := slowestClass (affectedLessons u.scan.current u.newImage) ≤ cls
     (u.progState = 3 → ok → u.armRefusal u.newImage = none → Completes (.progArm m) s (fun t => ∃ w : Switch, t.scan.switch = some w ∧
       OnlyRegs { u with scan := { u.scan with switch := some w } } [Reg.SCAN_PROG_STAT] t ∧ t.progState = 4 ∧ t.bit Reg.SCAN_PROG_STAT 4 = true ∧ w.image = u.newImage ∧
       w.cls.val = cls ∧ w.affected = u.affectedCores u.scan.current u.newImage ∧ w.begun = false ∧
       w.bell = if u.rd Reg.SCAN_PROG_SWITCH_BELL = 0xFFFFFFFF then none else some (u.rd Reg.SCAN_PROG_SWITCH_BELL))) ∧
     (∀ code item kind, u.progState = 3 → ok → u.armRefusal u.newImage = some (code, item, kind) → Completes (.progArm m) s (fun t => ∃ v : State,
       t = v.record { sev := 3, source := 0x04, code := 104, args := [wd code, wd item] } ∧ OnlyRegs u [Reg.SCAN_PROG_STAT, Reg.SCAN_PROG_DETAIL] v ∧ v.progState = 8 ∧
       v.rd Reg.SCAN_PROG_DETAIL = wd (item % 65536 + kind * 65536))) ∧
     ((u.progState ≠ 3 ∨ ¬ok) → Completes (.progArm m) s (fun t => OnlyRegs u [Reg.SCAN_PROG_STAT] t ∧ t.progState = u.progState ∧ t.fld Reg.SCAN_PROG_STAT 12 8 = 20)))) ∧
  (∀ (s : State) (w : Switch), s.scan.switch = some w →
    (s.progState ≠ 4 → exec .stagingDone s = .next s) ∧
    (s.progState = 4 → s.switchMissed w = false → Completes .stagingDone s (fun t => ∃ m p,
      OnlyRegs { s with scan := { s.scan with switch := some { w with armedAt := s.now }, mem := m, poison := p } } [Reg.SCAN_PROG_STAT] t ∧ t.progState = 5 ∧
        ∀ b, (∀ cl : Fin 8, b < (Space.cluster cl).base + 0x180000 ∨ (Space.cluster cl).base + 0x1C0000 ≤ b) → t.byteAt b = s.byteAt b)) ∧
    (s.progState = 4 → s.switchMissed w = true → Completes .stagingDone s (fun t => ∃ v : State, t = v.record { sev := 3, source := 0x04, code := 104, args := [19, 0] } ∧
      OnlyRegs { s with scan := { s.scan with switch := none } } [Reg.SCAN_PROG_STAT, Reg.SCAN_PROG_DETAIL] v ∧ v.progState = 8 ∧ v.fld Reg.SCAN_PROG_STAT 12 8 = 19))) ∧
  (∀ (s : State) (core : Fin 64) (w : Switch), s.scan.switch = some w →
    (w.begun = false ∨ core.val ∉ w.affected → exec (.switchCoreRelease core) s = .next s) ∧
    (w.begun = true → w.affected = [core.val] → s.lessons.all (fun p => p.2.phase == .idle) = true → Completes (.switchCoreRelease core) s (fun t => ∃ v : State,
      t = State.resumeBest v (coreId core) ∧ v.scan.current = w.image ∧ v.scan.switch = none ∧ v.scan.staged = [] ∧ v.progState = 0))) ∧
  (∀ (s : State),
    (s.ckptInterval = 0 → exec .periodicCheckpoint s = .next s) ∧
    (s.ckptInterval ≠ 0 → Completes .periodicCheckpoint s (fun t => ∃ (k : Checkpoint) (rest : List Checkpoint) (n : NandSt),
      t = { s with scan := { s.scan with checkpoints := k :: rest }, nand := n } ∧ (∀ x ∈ rest, x ∈ s.scan.checkpoints) ∧
      (∀ y, s.scan.checkpoints.find? (·.complete) = some y → k.complete = false → y ∈ rest) ∧ (k.complete = true ↔ k.waits = []) ∧
      k.waits = (if s.bit Reg.SCAN_STAT 0 then (s.lessons.filter (fun p => !p.2.shed)).map (·.1) else []) ∧
      k.imageId = ((imageHeader? s.scan.current).map (·.imageId)).getD 0 ∧ k.begunAt = s.appliedSec ∧ k.digestOk = true ∧ k.stale = false ∧
      k.forces = s.forces.map (fun i => (i.toNat, (s.point i).word 0, (s.point i).word 1)) ∧
      ∀ p ∈ k.mem, p ∈ s.scan.mem ∧ inRanges s.warmRanges p.1 = true))) ∧
  ∀ (s : State) (m : Master),
    let u := s.woken m
    u.obeys m = true →
    ((2 ≤ u.progState ∧ u.progState ≤ 7) → Completes (.coldRestart m) s (fun t => OnlyRegs u [Reg.SCAN_PROG_STAT] t ∧ t.fld Reg.SCAN_PROG_STAT 12 8 = 20) ∧
      Completes (.warmRestart m) s (fun t => OnlyRegs u [Reg.SCAN_PROG_STAT] t ∧ t.fld Reg.SCAN_PROG_STAT 12 8 = 20)) ∧
    ((u.progState < 2 ∨ 7 < u.progState) → u.scan.retentiveLost = none → Completes (.coldRestart m) s (fun t => t.bit Reg.SCAN_CTRL 0 = true ∧
      t.bit Reg.SCAN_STAT 0 = true ∧ t.scan.t0 = t.cnt ∧ t.scan.rung = Vector.replicate 8 0 ∧
      ∃ v : State, t = (State.outputsUpdate v.restartEvent).bellsStart ∧ v.rd Reg.SCAN_RESTART_STAT = 0x10 ∧ v.scan.current = u.scan.current ∧ v.scan.firstStart = false)) ∧
    ((u.progState < 2 ∨ 7 < u.progState) → u.scan.retentiveLost = none → u.bit Reg.SCAN_RESTART_CFG 0 = true → Completes (.warmRestart m) s (fun t =>
      t.bit Reg.SCAN_CTRL 0 = true ∧ t.bit Reg.SCAN_STAT 0 = true ∧ t.scan.t0 = t.cnt ∧
      ∃ v : State, t = (State.outputsUpdate v.restartEvent).bellsStart ∧ v.rd Reg.SCAN_RESTART_STAT = 1 ∧ v.scan.current = u.scan.current))

/-- R7, R14, R121, R127, R129 to R131: an uncorrectable error poisons the word it is in and is reported at the level of its tile; a second one within 1 s takes
a core out of service. A reload that ends makes its slot resident, and a steward core that waited for it goes on. A commit of the roster is checked, takes
effect at one instant, and ends when what was in flight has drained. The event's severity is the model's (DESIGN CHOICE, log entry 55). -/
def Obligations.RosterAndErrors : Prop :=
  (∀ (s : State) (c : CoreId) (a : Word) (target : ErrTarget) (base : Nat),
    (target = .imem c a ∧ base = (Space.imem c).base) ∨ (target = .dmem c a ∧ base = (Space.dmem c).base) ∨ (target = .committed c a ∧ base = (Space.committed c).base) →
    let w := (base + a.toNat % 0x40000) / 4 * 4
    (isScan c = true → Tab.get (fun _ => none) s.scan.tileErr c.val = none) → Completes (.uncorrectableError target) s (fun t => ∃ p e,
      let v : State := { s with scan := { s.scan with poison := p, tileErr := e } }
      t = (if isScan c then v.record { sev := 3, level := 4, source := 0x04, code := 14, args := [wd c.val] } else v) ∧
      (isScan c = true → Tab.get (fun _ => none) e c.val = some s.now) ∧
      Tab.get (fun _ => false) p w = true ∧ ∀ b, b ≠ w → Tab.get (fun _ => false) p b = Tab.get (fun _ => false) s.scan.poison b)) ∧
  (∀ (s : State) (cl : Fin 8) (a : Word), Tab.get (fun _ => none) s.scan.tileErr (64 + cl.val) = none →
    let w := ((Space.cluster cl).base + a.toNat % 0x200000) / 4 * 4
    Completes (.uncorrectableError (.cluster cl a)) s (fun t => ∃ p e,
      let v : State := { s with scan := { s.scan with poison := p, tileErr := e } }
      t = v.record { sev := 3, level := 4, source := 0x04, code := 14, args := [wd (64 + cl.val)] } ∧ Tab.get (fun _ => none) e (64 + cl.val) = some s.now ∧
      Tab.get (fun _ => false) p w = true ∧ ∀ b, b ≠ w → Tab.get (fun _ => false) p b = Tab.get (fun _ => false) s.scan.poison b)) ∧
  (∀ (s : State) (i : PointIdx) (w : BitVec 4), Tab.get (fun _ => none) s.scan.tileErr (64 + i.toNat / 2048) = none →
    Completes (.uncorrectableError (.point i w)) s (fun t => bitOf ((t.point i).word 2) 10 = true ∧
      (t.point i).poison = (s.point i).poison ||| BitVec.ofNat 16 (2 ^ w.toNat) ∧ ∀ j, j ≠ i → t.point j = s.point j)) ∧
  (∀ (s : State) (e : Fin 8192), exec (.uncorrectableError (.lpddr e)) s = .next (s.completeOp e.val 3 [])) ∧
  (∀ (s : State) (tile : Fin 64) (at_ : Nat), Tab.get (fun _ => none) s.scan.tileErr tile.val = some at_ → s.now < at_ + 250000000 →
    s.bit (Reg.SCAN_CORE_STAT tile.val) 0 = true →
    let v : State := { s with scan := { s.scan with tileErr := Tab.set (fun _ => none) s.scan.tileErr tile.val (some s.now) } }
    s.tileError tile.val = State.coreOut (v.record { sev := 3, level := 4, source := 0x04, code := 14, args := [wd tile.val] }) tile) ∧
  (∀ (s : State) (slot : Fin 16),
    (s.fld (Reg.ROSTER_HR_CTX slot.val) 13 12 = 1 → Completes (.homeroomReloadDone slot) s (fun t =>
      t.fld (Reg.ROSTER_HR_CTX slot.val) 13 12 = 2 ∧ t.fld (Reg.ROSTER_HR_CTX slot.val) 11 0 = s.fld (Reg.ROSTER_HR_CTX slot.val) 11 0 ∧
      (∀ a, a ≠ Reg.ROSTER_HR_CTX slot.val → t.rd a = s.rd a) ∧ t.points = s.points ∧ t.scan.mem = s.scan.mem ∧ (∀ c, (t.core c).ctx = (s.core c).ctx) ∧
      (∀ c, isScan c = true → t.core c = s.core c) ∧
      ∀ c, isScan c = false → (s.core c).waiting = .reload → t.resident (s.hmTenant c) = true → (t.core c).waiting = .none)) ∧
    (s.fld (Reg.ROSTER_HR_CTX slot.val) 13 12 ≠ 1 → exec (.homeroomReloadDone slot) s = .next s)) ∧
  (∀ (s : State) (m : Master),
    let u := s.woken m
    u.obeys m = true →
    (u.bit Reg.ROSTER_STAT 1 = true → Completes (.rosterCommit m) s (fun t => OnlyRegs u [Reg.ROSTER_STAT, Reg.ROSTER_ERR_DETAIL] t ∧
      t.fld Reg.ROSTER_STAT 11 8 = 1)) ∧
    (u.bit Reg.ROSTER_STAT 1 = false → u.bit Reg.ROSTER_STAT 0 = false → Completes (.rosterCommit m) s (fun t =>
      OnlyRegs u [Reg.ROSTER_STAT, Reg.ROSTER_ERR_DETAIL] t ∧ t.fld Reg.ROSTER_STAT 11 8 = 2)) ∧
    (∀ code item tenant, u.bit Reg.ROSTER_STAT 1 = false → u.bit Reg.ROSTER_STAT 0 = true → u.commitRefusal u.roster.staged u.stagedRules = some (code, item, tenant) →
      code < 16 → Completes (.rosterCommit m) s (fun t => OnlyRegs u [Reg.ROSTER_STAT, Reg.ROSTER_ERR_DETAIL] t ∧ t.fld Reg.ROSTER_STAT 11 8 = code ∧
        t.bit Reg.ROSTER_STAT 1 = false ∧ t.rd Reg.ROSTER_ERR_DETAIL = wd (item + tenant.toNat * 4096))) ∧
    (u.bit Reg.ROSTER_STAT 1 = false → u.bit Reg.ROSTER_STAT 0 = true → u.commitRefusal u.roster.staged u.stagedRules = none → Completes (.rosterCommit m) s (fun t =>
      t.fld Reg.ROSTER_STAT 11 8 = 0 ∧ t.bit Reg.ROSTER_STAT 1 = true ∧ t.roster.copyCtx = some u.roster.staged ∧ t.roster.copyRules = u.stagedRules ∧
      t.roster.ctx = u.roster.ctx ∧ t.roster.rules = u.roster.rules ∧ t.rd Reg.ROSTER_EPOCH = u.rd Reg.ROSTER_EPOCH)) ∧
    Completes (.rosterRevert m) s (fun t => t.roster = { u.roster with staged := u.roster.ctx } ∧ t.scan = u.scan ∧ t.points = u.points ∧
      ∀ a, (a < Reg.ROSTER_RULE 0 0 ∨ Reg.ROSTER_RULE 2047 3 < a) → u.roster.rules.all (fun r => decide (r.1 < 8192)) = true → t.rd a = u.rd a)) ∧
  (∀ (s : State), s.roster.copyCtx = none → exec .rosterTc s = .next s) ∧
  (∀ (s : State) (ctx : Tab TenantCtx), s.roster.copyCtx = some ctx → s.bit Reg.ROSTER_STAT 0 = true →
    (validTenants ctx).any (fun t => (Tab.get tenantDefault ctx t).pin && !s.resident (BitVec.ofNat 12 t)) = false → s.entries = [] →
    s.rosterTc.roster.ctx = ctx ∧ s.rosterTc.roster.rules = s.roster.copyRules ∧ s.rosterTc.rd Reg.ROSTER_EPOCH = s.rd Reg.ROSTER_EPOCH + 1 ∧
    s.rosterTc.rd Reg.ROSTER_DRAIN_BOUND = 0 ∧ s.rosterTc.bit Reg.ROSTER_STAT 0 = true ∧ s.rosterTc.bit Reg.ROSTER_STAT 1 = false ∧
    exec .rosterTc s = .next s.rosterTc.loopRoster) ∧
  (∀ (s : State) (e : Nat) (x : Entry), s.entry? e = some x → x.completed = false →
    (s.ruleChanged [(e, x)]).entry? e = some { x with outcome := some 13, completed := true, held := false } ∧
    (s.ruleChanged [(e, x)]).rd Reg.ROSTER_ABORTED = BitVec.ofNat 32 (min ((s.rd Reg.ROSTER_ABORTED).toNat + 1) 0xFFFFFFFF) ∧
    (s.ruleChanged [(e, x)]).points = s.points) ∧
  (∀ (s : State), s.bit Reg.ROSTER_STAT 0 = false →
    (s.oldOps = [] → Completes .rosterDrained s (fun t => t.bit Reg.ROSTER_STAT 0 = true ∧ t.bit Reg.ROSTER_STAT 1 = false ∧ t.roster.copyCtx = none ∧
      t.roster.ctx = s.roster.ctx ∧ t.points = s.points)) ∧
    (s.oldOps ≠ [] → exec .rosterDrained s = .next s) ∧
    Completes .drainBoundExpiry s (fun t => ∃ v : State, t = v.rosterDrain ∧ (s.roster.tc + (s.rd Reg.ROSTER_DRAIN_BOUND).toNat * 250 < 2 ^ 64 →
      v.now = max s.now (s.roster.tc + (s.rd Reg.ROSTER_DRAIN_BOUND).toNat * 250)) ∧ v.points = s.points ∧ v.scan.mem = s.scan.mem)) ∧
  ∀ (s : State), s.bit Reg.ROSTER_STAT 0 = true → exec .rosterDrained s = .next s ∧ exec .drainBoundExpiry s = .next s

/-! ### The loop engine -/

/-- R155, R156: the message at the front of the loop engine's queue, type by type; the message leaves the queue, and nothing happens for a
queue whose front is another type. -/
def Obligations.LoopMessages : Prop :=
  (∀ (s : State) (cmd : Instr) (typ : Nat), (cmd, typ) ∈ [(.loopBind, 0x001), (.loopUnbind, 0x002),
      (.loopParam, 0x003), (.loopMode, 0x004), (.opBind, 0x010), (.opParam, 0x011), (.opMode, 0x012), (.opMove, 0x013), (.zone, 0x020), (.loopTriggerMsg, 0x030)] →
    (∀ q rest, s.scan.loopQ = q :: rest → q.typ.toNat ≠ typ) → exec cmd s = .next s) ∧
  ∀ (s : State) (q : EngMsg) (rest : List EngMsg), s.scan.loopQ = q :: rest →
    let u : State := { s with scan := { s.scan with loopQ := rest } }
    let w0 := q.payload.getD 0 0
    let w1 := q.payload.getD 1 0
    let n := bits w0 10 0
    let d := bits w0 3 0
    let st := bits w0 5 0
    let x := u.slot n
    let others := fun (t : State) => ∀ k, k ≠ n → t.slot k = u.slot k
    (q.typ = 0x001 → let b := (bindOf q.payload).2
      (x.bind = some b → exec .loopBind s = .next u) ∧
      (x.bind ≠ some b → Completes .loopBind s (fun t => ∃ y : SlotSt, t = u.setSlot n y ∧ y.bind = some b ∧ y.req = 1 ∧ y.active = 1 ∧ y.plan = none ∧
        y.rosterHold = false ∧ y.feAlarm = false ∧ y.outUsed = (u.committedOut x b.out).bfWord ∧ y.act.toList.getD 12 0 = (u.committedOut x b.out).bfWord))) ∧
    (q.typ = 0x002 → (x.bind = none → exec .loopUnbind s = .next u) ∧
      (∀ b, x.bind = some b → Completes .loopUnbind s (fun t => (t.slot n).bind = none ∧ others t ∧ (t.point b.out).plevel = 1 ∧
        (t.point b.out).word 0 = (u.point b.out).word 0 ∧ (∀ j, j ≠ b.out → t.point j = u.point j) ∧ t.scan = u.scan))) ∧
    (q.typ = 0x003 → bitOf w0 31 = false → exec .loopParam s = .next (u.setSlot n { x with staged := x.staged.setIfInBounds (bits w0 19 16) (w1 &&& 0x3FFFFFFF) })) ∧
    (q.typ = 0x003 → bitOf w0 31 = true → exec .loopParam s =
      .next ((u.setSlot n { x with staged := x.staged.setIfInBounds (bits w0 19 16) (w1 &&& 0x3FFFFFFF) }).slotApply n)) ∧
    (q.typ = 0x004 → let mode := bits w0 18 16
      (mode ≤ 2 ∨ (mode = 3 ∧ (x.bind.map (·.trackEn)).getD false = true)) → Completes .loopMode s (fun t => ∃ y : SlotSt, t = u.setSlot n y ∧
        y.req = BitVec.ofNat 3 mode ∧ y.bind = x.bind ∧ y.active = x.active ∧ y.act.toList.getD 12 0 = (if mode = 1 then w1 else x.act.toList.getD 12 0) ∧
        (x.feAction = 0 ∨ x.feAction = 3 → y.feAlarm = x.feAlarm) ∧ (x.feAction = 1 ∨ x.feAction = 2 → y.feAlarm = false))) ∧
    (q.typ = 0x010 → let new : PointIdx × Option PointIdx := (BitVec.ofNat 14 (bits w1 13 0), if bitOf w0 4 then some (BitVec.ofNat 14 (bits w1 29 16)) else none)
      ((u.oper d).bind = some new → exec .opBind s = .next u) ∧
      ((u.oper d).bind ≠ some new → Completes .opBind s (fun t => (t.oper d).bind = some new ∧ t.opMode d = 0 ∧ t.fld (Reg.LOOP_STG_MODE (3 * d)) 2 0 = 0 ∧
        (∀ a, a ≠ Reg.LOOP_STG_MODE (3 * d) → t.rd a = u.rd a) ∧ (∀ k, k ≠ d → t.oper k = u.oper k) ∧ t.points = u.points))) ∧
    (q.typ = 0x011 → let a := Reg.LOOP_STG_PARAM st (bits w0 18 16)
      (bitOf w0 31 = false → Completes .opParam s (fun t => OnlyRegs u [a] t ∧ t.rd a = w1)) ∧
      (bitOf w0 31 = true → exec .opParam s = .next ((u.wr a w1).stageApply st))) ∧
    (q.typ = 0x012 → let mode := bits w0 18 16
      (mode ≤ 3 → (u.opMode d ≠ 5 ∨ mode = 0) → Completes .opMode s (fun t => t.fld (Reg.LOOP_STG_MODE (3 * d)) 2 0 = mode ∧ (mode = 0 → t.opMode d = 0) ∧
        (mode ≠ 0 → t.opMode d = u.opMode d) ∧ (t.oper d).stop = false ∧ (t.oper d).bind = (u.oper d).bind ∧ (∀ k, k ≠ d → t.oper k = u.oper k) ∧ t.points = u.points)) ∧
      ((3 < mode ∨ (u.opMode d = 5 ∧ mode ≠ 0)) → exec .opMode s = .next u)) ∧
    (q.typ = 0x013 → Completes .opMove s (fun t => OnlyRegs u [Reg.LOOP_STG_TARGET (3 * d + 2)] t ∧ t.rd (Reg.LOOP_STG_TARGET (3 * d + 2)) = w1)) ∧
    (q.typ = 0x020 →
      (bits w0 12 8 = 0 → Completes .zone s (fun t => OnlyRegs u [Reg.LOOP_HZ_ZCFG st] t ∧
        t.bit (Reg.LOOP_HZ_ZCFG st) 0 = if bitOf w0 6 then bitOf w0 7 else u.bit (Reg.LOOP_HZ_ZCFG st) 0)) ∧
      (∀ i o j, zoneItem (bits w0 12 8) = some (i, o, j) → Completes .zone s (fun t => modelWord (t.zone st).staged i = w1 ∧
        (∀ k, k ≠ i → modelWord (t.zone st).staged k = modelWord (u.zone st).staged k) ∧ (∀ z, z ≠ st → t.zone z = u.zone z) ∧
        (∀ m, (u.zone st).model = some m → ∃ m2, (t.zone st).model = some m2 ∧ modelWord m2 i = w1)))) ∧
    (q.typ = 0x030 → exec .loopTriggerMsg s = .next u.traceTrigger)

/-- R144, R146, R149, R152, R153, R156, R157, R159 to R161: alarms, the fast period, parameter sets, the window, models and the trace. -/
def Obligations.LoopUnits : Prop :=
  (∀ (s : State) (slot : BitVec 11),
    let x := s.slot slot.toNat
    (∀ b, x.bind = some b → x.feTime ≠ 0 → x.feTime ≤ x.feTimer → x.feAlarm = false → Completes (.feAlarm (.slot slot)) s (fun t => ∃ v : State,
      t = v.record { sev := 3, source := 0x06, code := 146, args := [wd slot.toNat, x.fe, s.rd (Reg.SCAN_BELL_CNT b.cls.toNat)] } ∧
      OnlyRegs (s.setSlot slot.toNat { x with feAlarm := true }) [Reg.LOOP_FE_CNT] v ∧ v.rd Reg.LOOP_FE_CNT = s.rd Reg.LOOP_FE_CNT + 1)) ∧
    ((x.bind = none ∨ x.feTime = 0 ∨ x.feTimer < x.feTime ∨ x.feAlarm = true) → exec (.feAlarm (.slot slot)) s = .next s)) ∧
  (∀ (s : State) (st : Fin 48),
    let d := st.val / 3
    let stat := Reg.LOOP_STG_STAT st.val
    let time := s.fld (Reg.LOOP_STG_FE st.val) 15 0
    let action := s.fld (Reg.LOOP_STG_FE st.val) 17 16
    (time = 0 ∨ s.fld stat 31 16 < time ∨ s.bit stat 0 = true → exec (.feAlarm (.stage st)) s = .next s) ∧
    (time ≠ 0 → time ≤ s.fld stat 31 16 → s.bit stat 0 = false → Completes (.feAlarm (.stage st)) s (fun t => t.bit stat 0 = true ∧
      t.rd Reg.LOOP_FE_CNT = s.rd Reg.LOOP_FE_CNT + 1 ∧ (action = 2 → s.opMode d ≠ 0 → t.opMode d = 5) ∧ (action = 1 → st.val % 3 = 0 → s.opMode d ≠ 0 → t.opMode d = 5) ∧
      (action = 1 → st.val % 3 ≠ 0 → (t.oper d).stop = true ∧ t.opMode d = s.opMode d) ∧ (action = 0 ∨ action = 3 → t.opMode d = s.opMode d) ∧ t.points = s.points))) ∧
  (∀ (s : State) (lines : List (Fin 32 × List (Bool × Bool))) (currents : Vector (BitVec 14) 32),
    (s.variant = 1 → exec (.currentPeriod lines currents) s = .next s) ∧
    (s.variant ≠ 1 → let v := s.loopSettle.encFeedAll lines
      let w := (List.range 16).foldl (fun s d => s.opPeriod d (s.phaseAmps (2 * d) (currents.toList.getD (2 * d) 0)) (s.phaseAmps (2 * d + 1) (currents.toList.getD (2 * d + 1) 0))) v
      exec (.currentPeriod lines currents) s = .next { w with loop := { w.loop with period := (w.loop.period + 1) % 16 } })) ∧
  (∀ (s : State) (d : Fin 16) (ia ib : Machine.Num), ((s.oper d.val).par 0 4).lt ((ia.abs.max ib.abs).max ((ia.add ib).neg.line).1.abs) = true → ∃ v : State,
    s.currentStage d.val ia ib = v.record { sev := 5, source := 0x06, code := 149, args := [wd d.val] } ∧ v.rd Reg.LOOP_TRIP_CNT = s.rd Reg.LOOP_TRIP_CNT + 1 ∧
    (s.opMode d.val ≠ 0 → v.opMode d.val = 5) ∧ v.points = s.points) ∧
  (∀ (s : State) (d : Fin 16), let req := s.fld (Reg.LOOP_STG_MODE (3 * d.val)) 2 0
    (s.opSettle d.val).opMode d.val = if s.opMode d.val = 5 then 5 else if req = 0 then 0 else if s.opMode d.val = 0 ∧ s.bit Reg.LOOP_CTRL 1 = false then 0
      else if s.doorGrant d.val then req else 4) ∧
  (∀ (s : State) (cls : Nat), s.bit Reg.LOOP_CTRL 0 = false → s.loopBell cls = s) ∧
  (∀ (s : State) (m : Master),
    let u := s.woken m
    let n := u.fld Reg.LOOP_SLOT_SEL 10 0
    let x := u.slot n
    u.obeys m = true →
    (slotSetOk x.staged.toList = true → Completes (.slotParamApply m) s (fun t => ∃ y : SlotSt, t = u.setSlot n y ∧ y.act = x.staged ∧ y.staged = x.staged ∧
      y.paramErr = false ∧ y.bind = x.bind ∧ y.st = x.st)) ∧
    (slotSetOk x.staged.toList = false → Completes (.slotParamApply m) s (fun t => OnlyRegs (u.setSlot n { x with staged := x.act, paramErr := true }) [Reg.LOOP_MSG_REJ_CNT] t ∧
      t.rd Reg.LOOP_MSG_REJ_CNT = u.rd Reg.LOOP_MSG_REJ_CNT + 1))) ∧
  (∀ (s : State) (m : Master) (st : Fin 48),
    let u := s.woken m
    let d := st.val / 3
    let set := (List.range 8).map (fun i => u.rd (Reg.LOOP_STG_PARAM st.val i))
    u.obeys m = true →
    (u.variant = 1 → exec (.stageParamApply m st) s = .next u) ∧
    (u.variant ≠ 1 → stageSetOk (st.val % 3) set = true → Completes (.stageParamApply m st) s (fun t => t.bit (Reg.LOOP_STG_STAT st.val) 3 = false ∧
      ((t.oper d).act.toList.getD (st.val % 3) (Vector.replicate 8 0)).toList = set ∧ (∀ a, a ≠ Reg.LOOP_STG_STAT st.val → t.rd a = u.rd a) ∧
      (∀ k, k ≠ d → t.oper k = u.oper k) ∧ t.points = u.points)) ∧
    (u.variant ≠ 1 → stageSetOk (st.val % 3) set = false → Completes (.stageParamApply m st) s (fun t => t.bit (Reg.LOOP_STG_STAT st.val) 3 = true ∧
      t.rd Reg.LOOP_MSG_REJ_CNT = u.rd Reg.LOOP_MSG_REJ_CNT + 1 ∧ t.loop = u.loop ∧ t.points = u.points ∧
      ∀ i, i < 8 → t.rd (Reg.LOOP_STG_PARAM st.val i) = ((u.oper d).act.toList.getD (st.val % 3) (Vector.replicate 8 0)).toList.getD i 0))) ∧
  (∀ (s : State) (m : Master) (slot : BitVec 11),
    let u := s.woken m
    u.obeys m = true → Completes (.slotWindowLatch m slot) s (fun t => OnlyRegs { u with loop := { u.loop with win := u.slot slot.toNat } } [Reg.LOOP_SLOT_SEL] t ∧
      t.rd Reg.LOOP_SLOT_SEL = wd slot.toNat)) ∧
  (∀ (s : State) (zone : BitVec 6) (m : Tab Word), (s.loop.busy.contains zone.toNat = false → exec (.hzDeadline zone) s = .next s) ∧
    (s.loop.busy.contains zone.toNat = true → (s.zone zone.toNat).model = some m → Completes (.hzDeadline zone) s (fun t => ∃ v : State,
      t = v.record { sev := 3, source := 0x06, code := 160, args := [wd zone.toNat, 3, s.rd Reg.LOOP_HZ_BELL] } ∧
      v.rd (Reg.LOOP_HZ_ZSTAT zone.toNat) = wd (3 + s.fld Reg.LOOP_HZ_CFG 15 0 * 100 % 2 ^ 24 * 256) ∧ v.rd Reg.LOOP_HZ_DROP_CNT = s.rd Reg.LOOP_HZ_DROP_CNT + 1 ∧
      v.rd (Reg.LOOP_HZ_ZDROP zone.toNat) = s.rd (Reg.LOOP_HZ_ZDROP zone.toNat) + 1 ∧ zone.toNat ∉ v.loop.busy ∧ v.points = s.points))) ∧
  (∀ (s : State) (m : Master),
    let u := s.woken m
    let z := u.fld Reg.LOOP_HZ_SEL 5 0
    let staged := (u.zone z).staged
    u.obeys m = true →
    (modelOk staged = true → Completes (.modelCommit m) s (fun t => (t.zone z).next = some staged ∧ (t.zone z).model = (u.zone z).model ∧
      t.fld (Reg.LOOP_HZ_ZCFG z) 17 1 = bits (modelWord staged 244) 17 1 ∧ t.bit (Reg.LOOP_HZ_ZCFG z) 0 = u.bit (Reg.LOOP_HZ_ZCFG z) 0 ∧
      (∀ a, a ≠ Reg.LOOP_HZ_ZCFG z → t.rd a = u.rd a) ∧ (∀ k, k ≠ z → t.zone k = u.zone k))) ∧
    (modelOk staged = false → Completes (.modelCommit m) s (fun t => OnlyRegs u [Reg.LOOP_HZ_STAT] t ∧ t.bit Reg.LOOP_HZ_STAT 7 = true))) ∧
  ∀ (s : State) (m : Master),
    let u := s.woken m
    let full := (List.range 16).all (fun c => !u.traceOn c || decide (u.fld Reg.LOOP_TR_TRIG 19 8 ≤ (u.trCh c).samples.length))
    u.obeys m = true →
    Completes (.traceArm m) s (fun t => OnlyRegs { u with loop := { u.loop with tr := Vector.replicate 16 TrCh.zero } } [Reg.LOOP_TR_STAT] t ∧ t.fld Reg.LOOP_TR_STAT 1 0 = 1) ∧
    Completes (.traceStop m) s (fun t => OnlyRegs u [Reg.LOOP_TR_STAT] t ∧ t.fld Reg.LOOP_TR_STAT 1 0 = 0) ∧
    ((u.fld Reg.LOOP_TR_STAT 1 0 ≠ 1 ∨ full = false) → exec (.traceTrigger m) s = .next u) ∧
    (u.fld Reg.LOOP_TR_STAT 1 0 = 1 → full = true → Completes (.traceTrigger m) s (fun t => ∃ r, OnlyRegs { u with loop := { u.loop with tr := r } }
      [Reg.LOOP_TR_STAT, Reg.LOOP_TR_TIME_LO, Reg.LOOP_TR_TIME_HI] t ∧ t.rd Reg.LOOP_TR_TIME_LO = u.cnt.extractLsb' 0 32 ∧ t.rd Reg.LOOP_TR_TIME_HI = u.cnt.extractLsb' 32 32 ∧
      (t.fld Reg.LOOP_TR_STAT 1 0 = 2 ∨ t.fld Reg.LOOP_TR_STAT 1 0 = 3) ∧ ∀ c, c < 16 → (t.trCh c).post = 4096 - u.fld Reg.LOOP_TR_TRIG 19 8))

/-! ### Cars, doors and dispatch -/

/-- R164 to R170: the car position units: encoder errors, references at door zones and terminals, captures, the comparison of both positions, CLEAR
and FLUSH. -/
def Obligations.CarPositions : Prop :=
  (∀ (s : State) (lines : List (Fin 32 × List (Bool × Bool))), (s.hasLift = false → exec (.positionPeriod lines) s = .next s) ∧
    (s.hasLift = true → exec (.positionPeriod lines) s = .next ((List.range 8).foldl State.carPeriod (s.encFeedAll lines)))) ∧
  (∀ (x : EncSt) (filt : Nat) (invert : Bool) (l : Bool × Bool), let r := x.sample filt invert l
    (x.na ≤ filt → x.nb ≤ filt → r.1.na ≤ filt ∧ r.1.nb ≤ filt) ∧ (r.2 = true ↔ r.1.a ≠ x.a ∧ r.1.b ≠ x.b) ∧
    (r.1.a ≠ x.a → r.1.a = l.1 ∧ filt ≤ x.na) ∧ (r.1.b ≠ x.b → r.1.b = l.2 ∧ filt ≤ x.nb) ∧
    (r.1.a = x.a → r.1.b = x.b → r.1.count = x.count) ∧ (r.2 = true → r.1.count = x.count) ∧
    (r.1.a ≠ x.a → r.1.b = x.b → r.1.count = if (r.1.a != r.1.b) != invert then x.count + 1 else x.count - 1) ∧
    (r.1.b ≠ x.b → r.1.a = x.a → r.1.count = if (r.1.a == r.1.b) != invert then x.count + 1 else x.count - 1)) ∧
  (∀ (s : State) (e : Fin 32), (s.bit Reg.FIELD_STAT 8 = true → (s.encFeed e.val []).rd (Reg.LIFT_ENC_COUNT e.val) = (s.enc e.val).count) ∧
    (s.bit Reg.FIELD_STAT 8 = false → s.encFeed e.val [] = s)) ∧
  (∀ (s : State) (c : Fin 8), (s.carOn c.val = false → s.carPeriod c.val = s) ∧
    (s.carOn c.val = true → let x := s.car c.val
      let pos := scaledPos x.refPos (s.rd (Reg.LIFT_ENC_COUNT (4 * c.val)) - x.refKm) (s.rd (Reg.LIFT_CAR_MSCALE c.val))
      let gpos := scaledPos x.refPos (s.rd (Reg.LIFT_ENC_COUNT (4 * c.val + 1)) - x.refKg) (s.rd (Reg.LIFT_CAR_GSCALE c.val))
      let beyond := decide (s.fld (Reg.LIFT_CAR_XCHK c.val) 15 0 < (pos - gpos).toInt.natAbs)
      ∃ v : State, s.carPeriod c.val = v.carCommit c.val ∧ v.rd (Reg.LIFT_CAR_POS c.val) = pos ∧ v.rd (Reg.LIFT_CAR_GPOS c.val) = gpos ∧
        v.rd (Reg.LIFT_CAR_DIFF c.val) = pos - gpos ∧ (v.car c.val).vel = wi ((pos - x.prev2).toInt * 1000) ∧ (v.car c.val).prev1 = pos ∧ (v.car c.val).prev2 = x.prev1 ∧
        v.points = s.points ∧ (s.carState c.val ≠ 3 → s.bit Reg.FIELD_STAT 8 = true → beyond = true → x.beyond = true → v.carState c.val = 3 ∧
          v.rd Reg.LIFT_XCHK_CNT = s.rd Reg.LIFT_XCHK_CNT + 1 ∧
          (s.safe.chans.toList.any (fun k => k.running && k.link) = true → (v.safeCar c.val).released = false ∧ (v.safeCar c.val).latch.getLsbD 2 = true) ∧
          (s.safe.chans.toList.any (fun k => k.running && k.link) = false → v.safe = s.safe)) ∧
        ((beyond = false ∨ x.beyond = false) → v.carState c.val = s.carState c.val ∧ v.rd Reg.LIFT_XCHK_CNT = s.rd Reg.LIFT_XCHK_CNT))) ∧
  (∀ (s : State) (e : Fin 32), ((s.hasLift = false ∨ s.bit Reg.FIELD_STAT 8 = false) → exec (.encoderQerr e) s = .next s) ∧
    (s.hasLift = true → s.bit Reg.FIELD_STAT 8 = true → let d := 2 * (e.val / 4) + e.val % 4 - 2
      let moving := decide (2 ≤ e.val % 4) && [2, 4, 5, 6].contains (s.doorState d)
      Completes (.encoderQerr e) s (fun t => ∃ v : State, t = (if moving then v.doorCommit d else v) ∧
      v.fld (Reg.LIFT_ENC_QERR e.val) 15 0 = min 65535 (s.fld (Reg.LIFT_ENC_QERR e.val) 15 0 + 1) ∧ v.points = s.points ∧
      (e.val % 4 < 2 → s.carState (e.val / 4) = 1 → v.carState (e.val / 4) = 2 ∧ v.fld (Reg.LIFT_CAR_STAT (e.val / 4)) 19 16 = 1 + e.val % 4) ∧
      (e.val % 4 < 2 → s.carState (e.val / 4) ≠ 1 → v.carState (e.val / 4) = s.carState (e.val / 4)) ∧
      (2 ≤ e.val % 4 → v.refLost d = true ∧ v.doorState d = if moving then 7 else s.doorState d)))) ∧
  (∀ (s : State) (car : Fin 8) (rising : Bool) (km kg : Word),
    let c := car.val
    let x := s.car c
    let early := match x.edgeAt with | some t => decide (s.now < t + 250000) | none => false
    let p := (s.posOf c km).toInt
    let lo := rising == decide (0 < x.vel.toInt)
    let edge := fun l => if lo then s.dzLo c l else s.dzHi c l
    let cand := (List.range 128).filter (fun l => s.landing c l && decide ((p - edge l).natAbs ≤ s.fld (Reg.LIFT_CAR_XCHK c) 31 16))
    ((s.carOn c = false ∨ s.bit Reg.FIELD_STAT 8 = false ∨ early = true) → exec (.doorZoneEdge car rising km kg) s = .next s) ∧
    (s.carOn c = true → s.bit Reg.FIELD_STAT 8 = true → early = false → x.vel.toInt.natAbs < 16 → x.fifo.length < 16 →
      exec (.doorZoneEdge car rising km kg) s = .next ((s.setCar c { x with edgeAt := some s.now }).setCar c
        { x with edgeAt := some s.now, fifo := x.fifo ++ [{ falling := !rising, terminal := false, landing := 0xFF, pos := wi p }] })) ∧
    (∀ l, s.carOn c = true → s.bit Reg.FIELD_STAT 8 = true → early = false → 16 ≤ x.vel.toInt.natAbs → cand = [l] → (s.carState c = 1 ∨ s.carState c = 2) →
      Completes (.doorZoneEdge car rising km kg) s (fun t => t.carState c = 1 ∧ t.fld (Reg.LIFT_CAR_STAT c) 9 2 = l ∧ (t.car c).refPos = wi (edge l) ∧ (t.car c).refKm = km ∧
        (t.car c).refKg = kg ∧ t.rd (Reg.LIFT_CAR_CORR c) = wi (edge l - p) ∧ (t.car c).edgeAt = some s.now ∧
        t.fld (Reg.LIFT_CAR_REF_CNT c) 15 0 = (s.fld (Reg.LIFT_CAR_REF_CNT c) 15 0 + 1) % 65536 ∧ t.points = s.points)) ∧
    (s.carOn c = true → s.bit Reg.FIELD_STAT 8 = true → early = false → 16 ≤ x.vel.toInt.natAbs → cand.length ≠ 1 → (s.carState c = 1 ∨ s.carState c = 2) →
      Completes (.doorZoneEdge car rising km kg) s (fun t => t.carState c = s.carState c ∧ (t.car c).refPos = x.refPos ∧ (t.car c).refKm = x.refKm ∧
        t.fld (Reg.LIFT_CAR_REF_CNT c) 31 16 = (s.fld (Reg.LIFT_CAR_REF_CNT c) 31 16 + 1) % 65536 ∧ t.points = s.points))) ∧
  (∀ (s : State) (car : Fin 8) (active : Bool) (km kg : Word),
    let c := car.val
    let x := s.car c
    let on := s.carOn c && s.bit Reg.FIELD_STAT 8 && s.bit (Reg.LIFT_CAR_CFG c) 24
    let takes := active && decide (x.vel.toInt < 0)
    (on = false → exec (.terminalEdge car active km kg) s = .next s) ∧
    (on = true → takes = true → Completes (.terminalEdge car active km kg) s (fun t => t.carState c = (if s.carState c = 3 then 3 else 1) ∧ t.fld (Reg.LIFT_CAR_STAT c) 9 2 = 0xFF ∧
      (t.car c).refPos = s.rd (Reg.LIFT_CAR_TERM_POS c) ∧ (t.car c).refKm = km ∧ (t.car c).refKg = kg ∧ t.rd (Reg.LIFT_CAR_DIFF c) = 0 ∧
      (t.car c).fifo.getLast? = some { falling := false, terminal := true, landing := 0xFF, pos := s.posOf c km } ∧ t.points = s.points)) ∧
    (on = true → takes = false → Completes (.terminalEdge car active km kg) s (fun t => ∃ y : CarSt, t = s.setCar c y ∧ y.refPos = x.refPos ∧ y.refKm = x.refKm ∧ y.refKg = x.refKg ∧
      y.fifo.getLast? = some { falling := !active, terminal := true, landing := 0xFF, pos := s.posOf c km } ∧ (x.fifo.length ≤ 16 → y.fifo.length = min 16 (x.fifo.length + 1))))) ∧
  ∀ (s : State) (m : Master) (car : Fin 8),
    let u := s.woken m
    let c := car.val
    let x := u.car c
    (u.obeys m = true →
      ((u.hasLift = false ∨ u.carState c ≠ 3) → exec (.carClear m car) s = .next u) ∧
      (u.hasLift = true → u.carState c = 3 → Completes (.carClear m car) s (fun t =>
        OnlyRegs (u.setCar c { x with refPos := 0, refKm := 0, refKg := 0, beyond := false }) [Reg.LIFT_CAR_STAT c] t ∧ t.carState c = 0 ∧ t.bit (Reg.LIFT_CAR_STAT c) 11 = false)) ∧
      (u.hasLift = false → exec (.captureFlush m car) s = .next u) ∧
      (u.hasLift = true → exec (.captureFlush m car) s = .next (u.setCar c { x with fifo := [] }))) ∧
    (u.pwr.off = false → u.hasLift = false → exec (.dzcapPop m car) s = .next (u.emit [0])) ∧
    (u.pwr.off = false → u.hasLift = true → u.owns m = false → exec (.dzcapPop m car) s = .next (u.emit [u.capInfo c])) ∧
    (u.pwr.off = false → u.hasLift = true → u.owns m = true →
      (x.fifo = [] → exec (.dzcapPop m car) s = .next ((u.setCar c { x with ovf := false }).emit [u.capInfo c])) ∧
      (∀ e rest, x.fifo = e :: rest → Completes (.dzcapPop m car) s (fun t => ∃ v : State, t = v.emit [u.capInfo c] ∧
        OnlyRegs (u.setCar c { x with fifo := rest, ovf := false }) [Reg.LIFT_CAR_DZCAP_POS c] v ∧ v.rd (Reg.LIFT_CAR_DZCAP_POS c) = e.pos)))

/-- R172 to R180: the door sequencers: taking charge, commands, the ends of a movement, stalls, homing and learning. -/
def Obligations.DoorSequencers : Prop :=
  (∀ (s : State), exec .doorPositionPeriod s = .next ((List.range 16).foldl State.doorPeriod s)) ∧
  (∀ (s : State) (d : Fin 16), ((s.hasLift = false ∨ s.bit (Reg.LIFT_DOOR_CFG d.val) 0 = false) → s.doorPeriod d.val = s) ∧
    (s.hasLift = true → s.bit (Reg.LIFT_DOOR_CFG d.val) 0 = true → s.bit Reg.LIFT_CTRL 0 = true → s.doorReady d.val = true → s.doorState d.val = 0 →
      ∃ v : State, s.doorPeriod d.val = (v.doorDrive d.val).doorCommit d.val ∧ v.doorState d.val = 7 ∧ v.refLost d.val = true ∧
        (v.door d.val).seq = s.pointWord (BitVec.ofNat 14 (s.fld (Reg.LIFT_DOOR_PTS d.val) 13 0)) 6)) ∧
  (∀ (s : State) (door : Fin 16),
    let d := door.val
    let i : PointIdx := BitVec.ofNat 14 (s.fld (Reg.LIFT_DOOR_PTS d) 13 0)
    let x := s.door d
    let cmd := bits (s.pointWord i 0) 3 0
    let st := s.doorState d
    ((st = 0 ∨ s.pointWord i 6 = x.seq) → exec (.doorCommand door) s = .next s) ∧
    (st ≠ 0 → s.pointWord i 6 ≠ x.seq →
      (cmd = 0 → exec (.doorCommand door) s = .next (s.setDoor d { x with seq := s.pointWord i 6 })) ∧
      (cmd ≠ 0 → doorNext cmd st (s.refLost d) (s.learned d) = none → Completes (.doorCommand door) s (fun t =>
        OnlyRegs (s.setDoor d { x with seq := s.pointWord i 6 }) [Reg.LIFT_DOOR_STAT d] t ∧ t.bit (Reg.LIFT_DOOR_STAT d) 5 = true ∧ t.doorState d = st)) ∧
      (∀ nx, cmd ≠ 0 → doorNext cmd st (s.refLost d) (s.learned d) = some nx → Completes (.doorCommand door) s (fun t => ∃ v : State, t = v.doorCommit d ∧
        (v.door d).seq = s.pointWord i 6 ∧ v.doorState d = (if st = 8 then 7 else nx) ∧ (st = 8 → v.fld (Reg.LIFT_DOOR_STAT d) 18 16 = 5) ∧
        (v.door d).since = s.now ∧ v.points = s.points)))) ∧
  (∀ (s : State) (door : Fin 16),
    let d := door.val
    ((s.closedNow d = false ∨ (s.door d).closedAt = none) → exec (.doorClosedReached door) s = .next s) ∧
    (∀ at_, s.closedNow d = true → (s.door d).closedAt = some at_ → at_ + 12500000 < 2 ^ 64 → Completes (.doorClosedReached door) s (fun t => ∃ v : State, t = v.doorCommit d ∧
      v.now = max s.now (at_ + 12500000) ∧ v.doorState d = 1 ∧ v.fld (Reg.LIFT_DOOR_STAT d) 15 8 = 0 ∧ (v.door d).obstructed = false ∧ (v.door d).since = v.now ∧
      v.points = s.points)) ∧
    ((s.openNow d = false ∨ (s.door d).openAt = none) → exec (.doorOpenReached door) s = .next s) ∧
    (∀ at_, s.openNow d = true → (s.door d).openAt = some at_ → at_ + 12500000 < 2 ^ 64 → Completes (.doorOpenReached door) s (fun t => ∃ v : State, t = v.doorCommit d ∧
      v.now = max s.now (at_ + 12500000) ∧ v.doorState d = 3 ∧ (v.door d).since = v.now ∧ (∀ a, a ≠ Reg.LIFT_DOOR_STAT d → v.rd a = s.rd a) ∧ v.points = s.points))) ∧
  (∀ (s : State) (d : Nat), (s.closedNow d = true ↔ (s.doorState d = 4 ∨ s.doorState d = 6) ∧ s.doorLive d = true ∧ s.doorAt d 0 = true) ∧
    (s.openNow d = true ↔ (s.doorState d = 2 ∨ s.doorState d = 5) ∧ s.doorLive d = true ∧ s.doorAt d (s.openPos d) = true)) ∧
  (∀ (s : State) (d : Fin 16), ((s.doorHolds d.val).door d.val).closedAt = (if s.closedNow d.val then some ((s.door d.val).closedAt.getD s.now) else none) ∧
    ((s.doorHolds d.val).door d.val).openAt = (if s.openNow d.val then some ((s.door d.val).openAt.getD s.now) else none) ∧
    ((s.doorHolds d.val).door d.val).stallAt = (if s.stalled d.val then some ((s.door d.val).stallAt.getD s.now) else none)) ∧
  (∀ (s : State) (door : Fin 16),
    let d := door.val
    let ph := (s.door d).phase
    ((s.stalled d = false ∨ (s.door d).stallAt = none) → exec (.doorStall door) s = .next s) ∧
    (∀ at_, s.stalled d = true → (s.door d).stallAt = some at_ → at_ + 25000000 < 2 ^ 64 → let after := fun (t : State) => t.now = max s.now (at_ + 25000000)
    (s.doorState d ≠ 8 → s.doorState d ≠ 9 → Completes (.doorStall door) s (fun t => after t ∧ t = { s with cnt := t.cnt })) ∧
    (s.doorState d = 9 → Completes (.doorStall door) s (fun t => ∃ v : State, t = v.doorCommit d ∧ after v ∧ v.doorState d = 1 ∧ v.rd (Reg.LIFT_DOOR_REF d) = s.opPos d ∧
      v.refLost d = false ∧ v.points = s.points)) ∧
    (s.doorState d = 8 →
      (ph = 1 → Completes (.doorStall door) s (fun t => after t ∧ t.doorState d = 8 ∧ (t.door d).phase = 2 ∧ t.rd (Reg.LIFT_DOOR_REF d) = s.opPos d ∧ t.refLost d = false)) ∧
      (ph = 2 → ((Machine.Num.int (s.doorPos d)).lt (((s.door d).par 4).mul ⟨1, 10⟩)) = true → Completes (.doorStall door) s (fun t => ∃ v : State, t = v.doorCommit d ∧
        after v ∧ v.doorState d = 7 ∧ v.fld (Reg.LIFT_DOOR_STAT d) 18 16 = 3 ∧ v.rd (Reg.LIFT_DOOR_LEARN d 0) = s.rd (Reg.LIFT_DOOR_LEARN d 0) ∧ v.points = s.points)) ∧
      (ph = 2 → ((Machine.Num.int (s.doorPos d)).lt (((s.door d).par 4).mul ⟨1, 10⟩)) = false → Completes (.doorStall door) s (fun t =>
        after t ∧ t.doorState d = 8 ∧ (t.door d).phase = 3 ∧ (t.door d).stroke = wi (s.doorPos d) ∧ t.regs = s.regs)) ∧
      (ph = 5 → Completes (.doorStall door) s (fun t => ∃ v : State, t = v.doorCommit d ∧ after v ∧ v.doorState d = 1 ∧ v.fld (Reg.LIFT_DOOR_STAT d) 18 16 = 1 ∧
        v.learned d = true ∧ v.refLost d = false ∧ v.rd (Reg.LIFT_DOOR_LEARN d 0) = (s.door d).mass ∧ v.rd (Reg.LIFT_DOOR_LEARN d 1) = (s.door d).friction ∧
        v.rd (Reg.LIFT_DOOR_OPEN_POS d) = wi (divRne ((s.door d).stroke.toInt * 98) 100) ∧ v.points = s.points)) ∧
      (ph ≠ 1 → ph ≠ 2 → ph ≠ 5 → Completes (.doorStall door) s (fun t => after t ∧ t = { s with cnt := t.cnt }))))) ∧
  ∀ (s : State) (door : Fin 16),
    let d := door.val
    let due := (s.door d).since + 60 * 250000000
    (s.doorState d ≠ 9 → exec (.homingTimeout door) s = .next s) ∧
    (s.doorState d = 9 → due < 2 ^ 64 → Completes (.homingTimeout door) s (fun t => ∃ v : State, t = v.doorCommit d ∧ v.doorState d = 7 ∧ v.now = max s.now due ∧
      v.points = s.points)) ∧
    (s.doorState d ≠ 8 → exec (.learnTimeout door) s = .next s) ∧
    (s.doorState d = 8 → due < 2 ^ 64 → Completes (.learnTimeout door) s (fun t => ∃ v : State, t = v.doorCommit d ∧ v.doorState d = 7 ∧
      v.fld (Reg.LIFT_DOOR_STAT d) 18 16 = 2 ∧ v.now = max s.now due ∧ v.rd (Reg.LIFT_DOOR_LEARN d 0) = s.rd (Reg.LIFT_DOOR_LEARN d 0) ∧ v.points = s.points))

/-- R183, R184, R190: the dispatch assist unit: its messages, the commit and the drop of a cycle, and the call window. -/
def Obligations.Dispatching : Prop :=
  (∀ (s : State) (cmd : Instr) (typ : Nat), (cmd, typ) ∈ [(.callAdd, 1), (.callCancel, 2), (.stopDone, 3)] →
    (∀ q rest, s.scan.dispQ = q :: rest → q.typ.toNat ≠ typ) → exec cmd s = .next s) ∧
  (∀ (s : State), s.disp.work.isSome = true → exec .callCancel s = .next s ∧ exec .stopDone s = .next s) ∧
  (∀ (s : State) (q : EngMsg) (rest : List EngMsg), s.scan.dispQ = q :: rest →
    let u : State := { s with scan := { s.scan with dispQ := rest } }
    let w0 := q.payload.getD 0 0
    let slot := bits (q.payload.getD 2 0) 7 0
    let x := callOf q.payload q.came
    (q.typ = 1 → bitOf (q.payload.getD 2 0) 8 = false → Completes .callAdd s (fun t => ∃ l, t = { u with disp := { u.disp with calls := l } } ∧ t.call slot = x ∧
      ∀ k, k ≠ slot → t.call k = u.call k)) ∧
    (q.typ = 1 → bitOf (q.payload.getD 2 0) 8 = true → (u.call slot).state ≠ 0 → Completes .callAdd s (fun t => ∃ l, t = { u with disp := { u.disp with calls := l } } ∧
      t.call slot = { u.call slot with group := BitVec.ofNat 4 (min 15 ((u.call slot).group.toNat + x.group.toNat)) } ∧ ∀ k, k ≠ slot → t.call k = u.call k)) ∧
    (q.typ = 2 → s.disp.work = none → let k := bits w0 7 0
      ((u.call k).state = 0 → exec .callCancel s = .next u) ∧
      ((u.call k).state ≠ 0 → Completes .callCancel s (fun t => ∃ l e, t = { u with disp := { u.disp with calls := l, ended := e } } ∧ t.call k = CallSt.zero ∧
        (∀ j, j ≠ k → t.call j = u.call j) ∧ e = u.disp.ended ++ (match (u.call k).answer with
          | some i => [(i, answerWords { u.call k with state := 0 } k true false)]
          | none => [])))) ∧
    (q.typ = 3 → s.disp.work = none → ∀ k y, let c := bits w0 2 0
      let l := bits w0 9 3
      u.disp.calls.filter (fun p => p.2.car.val == c && p.2.rear == bitOf w0 10) = [(k, y)] → Completes .stopDone s (fun t => ∃ tab e, ∃ ls : Vector (List Stop) 8,
        t = { u with disp := { u.disp with calls := tab, ended := e, lists := ls } } ∧ (∀ j, j ≠ k → t.call j = u.call j) ∧
        ((y.state = 2 ∨ y.state = 3) → y.orig.toNat = l → t.call k = if y.kind = 0 then { y with state := 4 } else CallSt.zero) ∧
        (y.state = 4 → y.dest.toNat = l → t.call k = CallSt.zero) ∧ (∀ p ∈ ls.toList.getD c [], p.landing.toNat = l → p.committed = false)))) ∧
  (∀ (s : State), s.disp.work = none → exec .dispatchCommit s = .next s ∧ exec .dispatchDrop s = .next s) ∧
  (∀ (s : State) (k : DispWork), s.disp.work = some k →
    (k.bellAt + 11250000 < s.now → exec .dispatchCommit s = exec .dispatchDrop s) ∧
    (s.now ≤ k.bellAt + 11250000 → Completes .dispatchCommit s (fun t => t.disp.work = none ∧ t.disp.lists = k.lists ∧ t.disp.ended = [] ∧ t.rd Reg.DISP_CAND = wd k.cands ∧
      t.bit Reg.DISP_STAT 10 = false ∧ t.fld Reg.DISP_STAT 31 16 = min ((s.now - k.bellAt) / 2500) 0xFFFF ∧
      ∀ c, c < 8 → k.lists.toList.getD c [] = [] → t.rd (Reg.DISP_CAR_STAT c) = wd (8192 * (k.eligible.getLsbD c).toNat))) ∧
    Completes .dispatchDrop s (fun t => ∃ v : State, t = v.record { sev := 5, source := 0x08, code := 184 } ∧ v.disp.work = none ∧ v.disp.calls = s.disp.calls ∧
      v.rd Reg.DISP_DROP_CNT = s.rd Reg.DISP_DROP_CNT + 1 ∧ v.bit Reg.DISP_STAT 10 = true ∧ v.points = s.points ∧
      (k.bellAt + 11250000 < 2 ^ 64 → v.now = max s.now (k.bellAt + 11250000)))) ∧
  ∀ (s : State) (m : Master) (slot : BitVec 8),
    let u := s.woken m
    u.obeys m = true → (u.hasLift = false → exec (.dispatchCallLatch m slot) s = .next u) ∧
      (u.hasLift = true → Completes (.dispatchCallLatch m slot) s (fun t => OnlyRegs { u with disp := { u.disp with win := u.call slot.toNat, winAt := u.now } } [Reg.DISP_CALL_SEL] t ∧
        t.rd Reg.DISP_CALL_SEL = wd slot.toNat))

/-! ### The safety die and metering -/

/-- R16 to R18, R193 to R199: the safety die: requests, evaluations, latches, parameter sets, its start and the mirror. A channel grants a
running mode or door motion only where every condition of the rules holds. -/
def Obligations.SafetyDie : Prop :=
  (∀ (s : State), (s.hasLift = false → exec .safetyRequest s = .next s) ∧
    (s.hasLift = true → Completes .safetyRequest s (fun t => t.points = s.points ∧ t.regs = s.regs ∧
      (∀ (ch : Fin 2) (c : Fin 8), (s.chan ch.val).running = true → (s.chan ch.val).link = true → (t.chan ch.val).reqs.toList.getD c.val none = some (s.carRequest c.val)) ∧
      (∀ (ch : Fin 2), ((s.chan ch.val).running = false ∨ (s.chan ch.val).link = false) → (t.chan ch.val).reqs = (s.chan ch.val).reqs) ∧
      ∀ (ch : Fin 2) (c : Fin 8), (s.chan ch.val).running = true → (s.chan ch.val).link = true → s.bit (Reg.LIFT_CAR_STAT c.val) 11 = true →
        (t.safeCar c.val).latch.getLsbD 2 = true ∧ (t.safeCar c.val).released = false))) ∧
  (∀ (s : State) (c : Nat), (s.bit Reg.SYS_ROLL_STAT 0 = false ∨ s.bit Reg.LIFT_CTRL 0 = false ∨ s.inRecess = true) →
    (s.carRequest c).mode = 0 ∧ (s.carRequest c).release = false ∧ (s.carRequest c).doorF = false ∧ (s.carRequest c).doorR = false) ∧
  (∀ (s : State) (ch : Fin 2) (ins : Vector SafeIn 8),
    ((s.hasLift = false ∨ (s.chan ch.val).running = false) → exec (.safetyEvaluation ch ins) s = .next s) ∧
    (s.hasLift = true → (s.chan ch.val).running = true →
      exec (.safetyEvaluation ch ins) s = .next ((List.range 8).foldl (fun s c => s.evalCar ch.val c (ins.toList.getD c SafeIn.zero)) s))) ∧
  (∀ (s : State) (ch : Fin 2) (c : Fin 8) (i : SafeIn),
    let t := s.evalCar ch.val c.val i
    let g := (t.chan ch.val).car c.val
    (g.mode ≠ 0 ∨ g.doorF = true ∨ g.doorR = true) → ∃ p q, s.carParams c.val = some p ∧ p.enabled = true ∧ (t.safeCar c.val).latch = 0 ∧ (t.safeCar c.val).released = true ∧
      ((s.chan ch.val).reqs.toList[c.val]?).join = some q ∧ s.safeNow < q.recvAt + 2500000 ∧
      (g.mode ≠ 0 → q.mode ≠ 0 ∧ chainClosed p i.dead = true ∧ p.above (p.limit g.mode) i = false ∧ (doorOpen p i.dead = true → g.mode = 3 ∧ i.dz = true) ∧
        (g.mode = 2 → q.posState = 1 ∧ q.xchk = false)) ∧
      (g.doorF = true → q.doorF = true ∧ i.dz = true ∧ p.above p.vDoor i = false) ∧ (g.doorR = true → q.doorR = true ∧ i.dz = true ∧ p.above p.vDoor i = false)) ∧
  (∀ (p : SafetyCar) (lim : Nat) (i : SafeIn), p.above lim i = true ↔ lim * 1000000 < i.rate * p.govScale) ∧
  (∀ (s : State) (relay : Fin 16), s.relayOn relay.val = true → ∀ ch : Fin 2, let g := (s.chan ch.val).car (relay.val / 2)
    (relay.val % 2 = 0 → g.mode ≠ 0) ∧ (relay.val % 2 = 1 → g.doorF = true ∨ g.doorR = true)) ∧
  (∀ (s : State) (car : Fin 8), ((s.hasLift = false ∨ s.grantsDiffer car.val = false) → exec (.grantDisagree car) s = .next s) ∧
    (s.hasLift = true → s.grantsDiffer car.val = true → Completes (.grantDisagree car) s (fun t => (t.safeCar car.val).latch = (s.safeCar car.val).latch ||| 16 ∧
      (t.safeCar car.val).released = false ∧ t.carSafe car.val = true ∧ (∀ k : Fin 8, k ≠ car → t.safeCar k.val = s.safeCar k.val) ∧ t.regs = s.regs ∧ t.points = s.points))) ∧
  (∀ (s : State) (ch : Fin 2) (relay : Fin 16),
    let c := relay.val / 2
    let bad := s.hasLift && ((s.chan ch.val).readback relay.val != s.relayOn relay.val)
    (bad = false → exec (.relayReadbackFail ch relay) s = .next s) ∧
    (bad = true → Completes (.relayReadbackFail ch relay) s (fun t => (t.safeCar c).latch = (s.safeCar c).latch ||| 8 ∧ (t.safeCar c).released = false ∧
      t.carSafe c = true ∧ (∀ k : Fin 8, k.val ≠ c → t.safeCar k.val = s.safeCar k.val) ∧ t.regs = s.regs ∧ t.points = s.points))) ∧
  (∀ (s : State) (car : Fin 8), ((s.safeCar car.val).clearable = false → exec (.latchClear car) s = .next s) ∧
    ((s.safeCar car.val).clearable = true → exec (.latchClear car) s = .next (s.setSafeCar car.val
      { s.safeCar car.val with latch := (s.safeCar car.val).latch &&& 0x20, clearable := false }))) ∧
  (∀ (s : State) (set : SafetySet),
    let ok := s.hasLift && s.safe.chans.toList.any (fun k => k.running && k.link) && s.setVerified set
    (ok = false → exec (.safetyParamRequest set) s = .next s) ∧
    (ok = true → exec (.safetyParamRequest set) s = .next { s with safe := { s.safe with asked := some (set, s.safeNow), cars := s.safe.cars.map (fun x => { x with inTime := false }) } })) ∧
  (∀ (s : State), (s.safe.asked = none → exec .safetyParamApply s = .next s) ∧
    ∀ x at_, s.safe.asked = some (x, at_) →
      let operated := s.enabledCars.all (fun c => (s.safeCar c).inTime)
      (operated = true → s.enabledCars.all s.carSafe = true → exec .safetyParamApply s = .next { s with safe := { s.safe with params := some x, asked := none } }) ∧
      (operated = true → s.enabledCars.all s.carSafe = false → exec .safetyParamApply s = .next s) ∧
      (operated = false → at_ + 150000000000 < s.safeNow → exec .safetyParamApply s = .next { s with safe := { s.safe with asked := none } }) ∧
      (operated = false → s.safeNow ≤ at_ + 150000000000 → exec .safetyParamApply s = .next s)) ∧
  (∀ (s : State), (s.hasLift = false → exec .safetyDieStart s = .next s) ∧
    (s.hasLift = true → Completes .safetyDieStart s (fun t => t.safe.params = s.safe.params ∧ t.safe.asked = none ∧ t.safe.seq = 0 ∧ t.regs = s.regs ∧ t.points = s.points ∧
      ∀ (ch : Fin 2) (c : Fin 8), (t.chan ch.val).running = true ∧ ((t.chan ch.val).car c.val).mode = 0 ∧ (t.safeCar c.val).released = false ∧
        (t.safeCar c.val).latch = (s.safeCar c.val).latch ∧ t.carSafe c.val = true))) ∧
  ∀ (s : State),
    let live := s.hasLift && !s.inRecess && s.safe.chans.toList.any (fun k => k.running && k.link)
    (live = false → exec .safeMirrorUpdate s = .next s) ∧
    (live = true → Completes .safeMirrorUpdate s (fun t => t.mirrorAt = some s.now ∧ t.safe = { s.safe with seq := s.safe.seq + 1 } ∧ t.rd Reg.SAFE_SEQ = s.safe.seq + 1 ∧
      t.rd Reg.SAFE_PARAM_ID = (s.safe.params.map (·.id)).getD 0 ∧ t.points = s.points ∧
      ∀ c : Fin 8, t.fld (Reg.SAFE_CAR_GRANT c.val) 2 0 = (s.grantMode c.val).toNat ∧
        t.rd (Reg.SAFE_CAR_LATCH c.val) = wd ((s.safeCar c.val).latch.toNat + 65536 * (s.safeCar c.val).refusals.toNat)))

/-- R202, R206, R207, R210 to R213, R217, R218: the metering die: line cycles, snapshots, calibration, supervision, saves, the quantity map, the battery
record, the merge and pulses. -/
def Obligations.Metering : Prop :=
  (∀ (s : State) (supply : Fin 2) (m : SupplyMeas) (ckts : List (Fin 16 × CktCycle)),
    (s.metering = false → exec (.lineCycle supply m ckts) s = .next s) ∧
    (s.metering = true → let v := (s.setBit Reg.METER_STAT 0 true).supplyCycle supply.val m ckts
      let full := (v.cktsOf supply.val).any (fun k => decide (v.intervalCycles supply.val ≤ (v.mckt k).cycles.length))
      exec (.lineCycle supply m ckts) s = .next ((State.snapSupply (if full then v.endInterval supply.val else v) supply.val).calSwitch supply.val))) ∧
  (∀ (s : State) (k : Fin 16) (c : CycleRes) (n : Nat), let t := s.registerEnergy k.val c n
    t.bit (Reg.METER_CKT_STAT k.val) 7 = s.creeping k.val c ∧ (s.creeping k.val c = true → t.meter = s.meter) ∧
    (s.creeping k.val c = false → (∀ i, i < 6 → t.energy (8 * k.val + i) = s.energy (8 * k.val + i) + (energySteps c n).getD i 0) ∧
      ∀ r, (r < 8 * k.val ∨ 8 * k.val + 6 ≤ r) → t.energy r = s.energy r)) ∧
  (∀ (s : State) (m : Master),
    let u := s.woken m
    u.obeys m = true →
    (u.hasMeter = false → exec (.meterSnap m) s = .next u ∧ exec (.meterClrAll m) s = .next u ∧ exec (.calApply m) s = .next u) ∧
    (u.hasMeter = true → u.meter.link = false → Completes (.meterSnap m) s (LinkDropped u) ∧ Completes (.meterClrAll m) s (LinkDropped u) ∧ Completes (.calApply m) s (LinkDropped u)) ∧
    (u.hasMeter = true → u.meter.link = true →
      Completes (.meterSnap m) s (fun t => OnlyRegs { u with meter := { u.meter with snapNext := [], snapWait := Vector.replicate 2 true } } [Reg.METER_STAT] t ∧
        t.bit Reg.METER_STAT 1 = false) ∧
      (u.fld Reg.KEY_LCS 2 0 ≠ 1 → exec (.meterClrAll m) s = .next u) ∧
      (u.fld Reg.KEY_LCS 2 0 = 1 → Completes (.meterClrAll m) s (fun t => ∃ n : NandSt,
        t = { u with nand := n, meter := { u.meter with regs := [], base := [], areas := Vector.replicate 2 none, area := 0, used := 0, saving := none } })) ∧
      ((List.range 54).all (fun ch => (u.stagedCal ch).ok) = false → Completes (.calApply m) s (fun t => OnlyRegs u [Reg.METER_STAT] t ∧ t.bit Reg.METER_STAT 6 = true)) ∧
      ((List.range 54).all (fun ch => (u.stagedCal ch).ok) = true → Completes (.calApply m) s (fun t => ∃ (v : State) (next : Tab CalCh) (lo hi : Word),
        t = v.record { sev := 5, source := 0x0A, code := 210, args := [u.rd Reg.METER_CAL_GEN + 1, lo, hi] } ∧ v.rd Reg.METER_CAL_GEN = u.rd Reg.METER_CAL_GEN + 1 ∧
        OnlyRegs { u with meter := { u.meter with calNext := Vector.replicate 2 (some next) } } [Reg.METER_CAL_GEN] v ∧
        ∀ ch, ch < 54 → Tab.get (fun _ => ⟨0, 1, []⟩) next ch = u.stagedCal ch)))) ∧
  (∀ (s : State) (ckt : Fin 16) (cond : MeterCond),
    let x := s.mckt ckt.val
    let i := condIndex cond
    let wait := if i ≤ 3 then s.fld (Reg.METER_CKT_REV ckt.val) 31 24 * 250000000 else 0
    (x.since.toList.getD i none = none → exec (.meterSupervision ckt cond) s = .next s) ∧
    (x.episode.toList.getD i false = true → exec (.meterSupervision ckt cond) s = .next s) ∧
    (∀ at_, x.since.toList.getD i none = some at_ → x.episode.toList.getD i false = false → at_ + wait < 2 ^ 64 → Completes (.meterSupervision ckt cond) s (fun t => ∃ (v : State) (it : EvItem),
      t = v.record it ∧ it.code = 211 ∧ it.source = 0x0A ∧ it.args.head? = some (wd ckt.val) ∧ v.bit (Reg.METER_CKT_STAT ckt.val) (condBit i) = true ∧
      v.now = max s.now (at_ + wait) ∧ (v.mckt ckt.val).episode.toList.getD i false = true ∧ v.points = s.points ∧ (∀ a, a ≠ Reg.METER_CKT_STAT ckt.val → v.rd a = s.rd a)))) ∧
  (∀ (s : State),
    let due := s.meter.lastSave + (if meterRegs.any (fun r => decide (4096 * 2 ^ 32 ≤ s.unsaved r)) then 1 else s.fld Reg.METER_SAVE_CFG 11 0) * 250000000
    ((s.meterOn = false ∨ s.meter.link = false ∨ s.meter.merged = false) → exec .meterSave s = .next s) ∧
    (s.meterOn = true → s.meter.link = true → s.meter.merged = true → due < 2 ^ 64 → Completes .meterSave s (fun t => t.now = max s.now due ∧
      t = { s with cnt := t.cnt, meter := { s.meter with saving := some (s.meter.regs, t.now), lastSave := t.now } })) ∧
    (s.meter.saving = none → exec .saveConfirmed s = .next s ∧ exec .saveLate s = .next s) ∧
    (∀ x, s.meter.saving = some x →
      Completes .saveConfirmed s (fun t => t.latestSave = some { regs := x.1, copy := none } ∧
        OnlyRegs { s with nand := t.nand, meter := { s.meter with base := x.1, saving := none, areas := t.meter.areas, area := t.meter.area, used := t.meter.used } } [Reg.METER_SAVE_CNT] t ∧
        t.rd Reg.METER_SAVE_CNT = s.rd Reg.METER_SAVE_CNT + 1) ∧
      (x.2 + (s.fld Reg.METER_SAVE_CFG 11 0 + 10) * 250000000 < 2 ^ 64 → Completes .saveLate s (fun t => ∃ v : State, t = v.record { sev := 4, source := 0x0A, code := 213 } ∧
        v.bit Reg.METER_STAT 2 = true ∧ v.meter = s.meter ∧ v.now = max s.now (x.2 + (s.fld Reg.METER_SAVE_CFG 11 0 + 10) * 250000000))))) ∧
  (∀ (s : State) (m : Master) (e : BitVec 10) (v : Word) (ckt : Fin 16),
    let u := s.woken m
    let w := v &&& 0x81FFFFFF
    let i : PointIdx := BitVec.ofNat 14 (bits w 13 0)
    let typ := bits ((u.point i).word 3) 3 0
    let ok := decide ((u.point i).producer = 4) && !(u.qmap.any (fun q => q.1 != e.toNat && bits q.2 13 0 == bits w 13 0)) &&
      kindDefined (bits w 24 20) (bits w 19 18) (u.threeWire (bits w 17 14)) && (if 16 ≤ bits w 24 20 then typ == 4 else typ == 6 || typ == 5 || typ == 1)
    u.obeys m = true →
    (u.hasMeter = false → exec (.qmapWrite m e v) s = .next u ∧ exec (.batClr m ckt) s = .next u) ∧
    (u.hasMeter = true → u.meter.link = false → Completes (.qmapWrite m e v) s (LinkDropped u) ∧ Completes (.batClr m ckt) s (LinkDropped u)) ∧
    (u.hasMeter = true → u.meter.link = true →
      (bitOf w 31 = false ∨ ok = true → Completes (.qmapWrite m e v) s (fun t => OnlyRegs u [Reg.METER_QMAP e.toNat] t ∧ t.rd (Reg.METER_QMAP e.toNat) = w)) ∧
      (bitOf w 31 = true → ok = false → Completes (.qmapWrite m e v) s (fun t => OnlyRegs u [Reg.METER_QMAP e.toNat, Reg.METER_STAT] t ∧
        t.bit (Reg.METER_QMAP e.toNat) 31 = false ∧ t.bit Reg.METER_STAT 7 = true)) ∧
      Completes (.batClr m ckt) s (fun t => OnlyRegs u [Reg.METER_CKT_BAT ckt.val] t ∧ t.rd (Reg.METER_CKT_BAT ckt.val) = 0))) ∧
  (∀ (s : State) (rms : List (Fin 48 × Nat)), (s.meter.battery = none → exec (.batteryMeasure rms) s = .next s ∧ exec .batteryRecordWrite s = .next s) ∧
    ∀ b, s.meter.battery = some b →
      Completes (.batteryMeasure rms) s (fun t => ∃ y : BatSt, t = { s with meter := { s.meter with battery := some y } } ∧ y.secs = b.secs + 1 ∧ (rms = [] → y.charge = b.charge ∧ y.seen = b.seen)) ∧
      Completes .batteryRecordWrite s (fun t => ∃ mem, t = { s with locket := mem } ∧ (s.locketLocked = true → mem = s.locket) ∧
        (s.locketLocked = false → (∀ k, k < 16 → Memory.readN mem (energyLine k + 12) 4 = wordBytes (wd (min (b.charge.toList.getD k 0 / 360000) 0xFFFF +
          65536 * (b.seen.toList.getD k 0).toNat + 2 ^ 20 * min (b.time.toList.getD k 0) 0xFFF))) ∧
          ∀ a, (a < energyLine 0 ∨ energyLine 16 ≤ a ∨ a % 16 < 12) → Memory.read mem a = Memory.read s.locket a))) ∧
  (∀ (s : State), ((s.hasMeter = false ∨ s.meter.merged = true ∨ s.meter.link = false) → exec .meterMerge s = .next s) ∧
    (s.hasMeter = true → s.meter.merged = false → s.meter.link = true → s.latestSave = none → Completes .meterMerge s (fun t => t.meter.merged = true ∧
      t.meter.base = t.meter.regs ∧ t.meter.lastSave = s.now ∧ ∀ r ∈ meterRegs, t.energy r = s.unsavedField (r / 8) (r % 8) * 2 ^ 29 + s.energy r))) ∧
  ∀ (s : State) (out : Fin 8),
    let o := out.val
    let cfg := s.rd (Reg.METER_PULSE_CFG o)
    let n := s.fld (Reg.METER_PULSE_STAT o) 15 0
    let x := s.meter.pulses.toList.getD o { acc := 0, free := 0 }
    ((s.meterOn = false ∨ s.meter.link = false ∨ n = 0 ∨ bitOf cfg 0 = false) → exec (.pulseEmit out) s = .next s) ∧
    (s.meterOn = true → s.meter.link = true → n ≠ 0 → bitOf cfg 0 = true → x.free < 2 ^ 64 → Completes (.pulseEmit out) s (fun t => t.now = max s.now x.free ∧
      t.fld (Reg.METER_PULSE_STAT o) 15 0 = n - 1 ∧ t.reply = [wd o, wd (bits cfg 20 13), wd (bits cfg 21 21)] ∧
      (t.meter.pulses.toList.getD o { acc := 0, free := 0 }).free = t.now + 2 * bits cfg 20 13 * 250000 ∧ t.meter.regs = s.meter.regs ∧ t.points = s.points))

/-! ### Field I/O and DALI -/

/-- R221 to R234: the field die: bindings and OUT_EN, digital inputs, the protection of digital outputs, analog conversions and current means. -/
def Obligations.FieldIO : Prop :=
  (∀ (s : State) (m : Master) (addr : BitVec 24) (v : Word),
    let u := s.woken m
    let a := addr.toNat
    let lost := decide (a / 65536 = 0xB) && !u.fieldLink
    u.obeys m = true →
    (lost = true → Completes (.channelBind m addr v) s (LinkDropped u)) ∧
    (lost = false → bindingsOf a v = none → exec (.channelBind m addr v) s = .next u) ∧
    (∀ bs, lost = false → bindingsOf a v = some bs →
      let valid := bs.all u.bindOk && !daliRefused a v && ((bs.filter (fun b => b.producer.isSome)).map (·.idx)).all (fun i => !(u.boundInputs a).contains i)
      (valid = true → Completes (.channelBind m addr v) s (fun t => t.rd a = bindingValue a v ∧ t.points = u.points ∧ t.scan = u.scan)) ∧
      (valid = false → a < 0xC0000 → Completes (.channelBind m addr v) s (fun t => OnlyRegs u [Reg.FIELD_STAT] t ∧ t.bit Reg.FIELD_STAT 9 = true)) ∧
      (valid = false → 0xC0000 ≤ a → Completes (.channelBind m addr v) s (fun t => OnlyRegs u [a, Reg.DALI_ERR] t ∧ t.bit Reg.DALI_ERR 0 = true ∧
        (a ≠ Reg.DALI_ERR → t.bit a 31 = false))))) ∧
  (∀ (s : State) (m : Master) (v : Word),
    let u := s.woken m
    u.obeys m = true →
    (u.fieldLink = false → Completes (.fieldOutEnable m v) s (LinkDropped u)) ∧
    (u.fieldLink = true → Completes (.fieldOutEnable m v) s (fun t => t.rd Reg.FIELD_CTRL = v &&& 1 ∧ t.points = u.points ∧
      (bitOf v 0 = false → (∀ l : Fin 16, t.daliState l.val = 0) ∧ ∀ d : Fin 64, t.bit (Reg.FIELD_DO_STAT d.val) 0 = false)))) ∧
  (∀ (s : State) (di : Fin 96) (raw : Bool),
    let d := di.val
    let stat := Reg.FIELD_DI_STAT d
    let cfg := s.rd (Reg.FIELD_DI_CFG d)
    let limit := max 1 (bits cfg 31 24)
    let n := s.fld stat 9 2
    let c := if raw != bitOf cfg 15 then min (n + 1) limit else n - 1
    let st := if c = 0 then false else if c = limit then true else s.bit stat 1
    (s.inRecess = true → bitOf cfg 20 = false → exec (.diSample di raw) s = .next s) ∧
    ((s.inRecess = false ∨ bitOf cfg 20 = true) →
      (st = s.bit stat 1 → Completes (.diSample di raw) s (fun t => OnlyRegs s [stat] t ∧ t.bit stat 0 = raw ∧ t.bit stat 1 = st ∧ t.fld stat 9 2 = c)) ∧
      (st ≠ s.bit stat 1 → Completes (.diSample di raw) s (fun t => ∃ v : State,
        t = (if s.inRecess then v.wakeRequest 2 else if s.fieldLink then v.diCommit d else v) ∧ v.bit stat 0 = raw ∧ v.bit stat 1 = st ∧ v.fld stat 9 2 = c ∧
        v.rd (Reg.FIELD_DI_EDGES d) = s.rd (Reg.FIELD_DI_EDGES d) + (if st then 1 else 0) ∧ v.bit (Reg.FIELD_COS (d / 32)) (d % 32) = true ∧ v.points = s.points)))) ∧
  (∀ (s : State) (dch : Fin 64) (rb : Bool),
    let d := dch.val
    let src := s.rd (Reg.FIELD_DO_SRC d)
    let quiet := s.doDriven d == rb || !s.readbackChecked (d / 8) || decide (3 ≤ s.fld (Reg.FIELD_DO_STAT d) 4 2)
    Completes (.doReadbackFault dch rb) s (fun t => t.bit (Reg.FIELD_DO_STAT d) 1 = rb ∧
      (bitOf src 30 = true → s.fieldLink = true → s.bit (Reg.FIELD_DO_STAT d) 1 ≠ rb → (t.point (BitVec.ofNat 14 (bits src 29 16))).word 7 = wd rb.toNat) ∧
      (bitOf src 30 = false → quiet = true → t = s.setBit (Reg.FIELD_DO_STAT d) 1 rb) ∧
      (bitOf src 30 = false → quiet = false → DoFaulted (s.setBit (Reg.FIELD_DO_STAT d) 1 rb) d (if rb then 2 else 1) t))) ∧
  (∀ (s : State) (dch : Fin 64),
    (s.doDriven dch.val = false → exec (.doOverload dch) s = .next s ∧ exec (.doOverTemperature dch) s = .next s) ∧
    (s.doDriven dch.val = true → Completes (.doOverload dch) s (DoFaulted s dch.val 3) ∧ Completes (.doOverTemperature dch) s (DoFaulted s dch.val 4)) ∧
    (s.fld (Reg.FIELD_DO_STAT dch.val) 4 2 ≠ 2 → exec (.stuckOnClear dch) s = .next s) ∧
    (s.fld (Reg.FIELD_DO_STAT dch.val) 4 2 = 2 → Completes (.stuckOnClear dch) s (fun t => t.bit (Reg.FIELD_DO_STAT dch.val) 1 = false ∧
      (s.bit (Reg.FIELD_DO_STAT dch.val) 5 = false → t.fld (Reg.FIELD_DO_STAT dch.val) 31 1 = 0) ∧
      (s.bit (Reg.FIELD_DO_STAT dch.val) 5 = true → t.bit (Reg.FIELD_DO_STAT dch.val) 5 = true ∧
        t.fld (Reg.FIELD_DO_STAT dch.val) 4 2 = Tab.get (fun _ => 0) s.field.doHeld dch.val % 8)))) ∧
  (∀ (s : State) (bank : Nat), (s.bit Reg.FIELD_STAT bank = true → s.readbackChecked bank = false) ∧
    (s.bit Reg.FIELD_STAT bank = false → (s.field.vfldBack.toList.getD bank none = none → s.readbackChecked bank = true) ∧
      ∀ at_, s.field.vfldBack.toList.getD bank none = some at_ → s.readbackChecked bank = decide (at_ + 1250000 ≤ s.now))) ∧
  (∀ (s : State) (grp : Fin 8) (current : BitVec 13),
    ((current.toNat ≤ 4400 ∨ s.bit (Reg.FIELD_DO_GRP grp.val) 13 = true) → Completes (.doGroupOverload grp current) s (fun t => OnlyRegs s [Reg.FIELD_DO_GRP grp.val] t ∧ t.fld (Reg.FIELD_DO_GRP grp.val) 12 0 = current.toNat ∧
      t.bit (Reg.FIELD_DO_GRP grp.val) 13 = s.bit (Reg.FIELD_DO_GRP grp.val) 13)) ∧
    (4400 < current.toNat → s.bit (Reg.FIELD_DO_GRP grp.val) 13 = false → Completes (.doGroupOverload grp current) s (fun t => t.fld (Reg.FIELD_DO_GRP grp.val) 12 0 = current.toNat ∧
      t.bit (Reg.FIELD_DO_GRP grp.val) 13 = true ∧ ∀ d ∈ grpChannels grp.val, t.fld (Reg.FIELD_DO_STAT d) 4 2 = 5))) ∧
  (∀ (s : State) (dch : Fin 64) (ok : Bool),
    let stat := Reg.FIELD_DO_STAT dch.val
    let f := s.fld stat 4 2
    let n := min 8 (s.fld stat 11 8 + 1)
    let may := (f == 1 || f == 3 || f == 4) && !s.bit stat 5
    (may = false → exec (.doRetry (.channel dch) ok) s = .next s) ∧
    (may = true → ok = true → Completes (.doRetry (.channel dch) ok) s (fun t => t.fld stat 31 2 = 0)) ∧
    (may = true → ok = false → Completes (.doRetry (.channel dch) ok) s (fun t => OnlyRegs s [stat] t ∧ t.fld stat 11 8 = n ∧ t.bit stat 5 = decide (n = 8) ∧ t.fld stat 4 2 = f))) ∧
  (∀ (s : State) (grp : Fin 8) (ok : Bool),
    let g := grp.val
    let n := min 8 (s.field.grpRetry.toList.getD g 0 + 1)
    let may := s.bit (Reg.FIELD_DO_GRP g) 13 && !s.bit (Reg.FIELD_DO_GRP g) 14
    (may = false → exec (.doRetry (.group grp) ok) s = .next s) ∧
    (may = true → ok = true → Completes (.doRetry (.group grp) ok) s (fun t => t.bit (Reg.FIELD_DO_GRP g) 13 = false ∧ t.bit (Reg.FIELD_DO_GRP g) 14 = false ∧
      ∀ d ∈ grpChannels g, t.fld (Reg.FIELD_DO_STAT d) 4 2 = if s.fld (Reg.FIELD_DO_STAT d) 4 2 = 5 then
        (if s.bit (Reg.FIELD_DO_STAT d) 5 then Tab.get (fun _ => 0) s.field.doHeld d % 8 else 0) else s.fld (Reg.FIELD_DO_STAT d) 4 2)) ∧
    (may = true → ok = false → Completes (.doRetry (.group grp) ok) s (fun t => OnlyRegs (s.setGrpRetry g n) [Reg.FIELD_DO_GRP g] t ∧
      t.bit (Reg.FIELD_DO_GRP g) 14 = decide (n = 8) ∧ t.bit (Reg.FIELD_DO_GRP g) 13 = true))) ∧
  (∀ (s : State) (m : Master) (dch : Fin 64) (grp : Fin 8),
    let u := s.woken m
    u.obeys m = true →
    (u.fieldLink = false → Completes (.doClear m dch) s (LinkDropped u) ∧ Completes (.doGroupClear m grp) s (LinkDropped u)) ∧
    (u.fieldLink = true →
      (u.bit (Reg.FIELD_DO_STAT dch.val) 5 = false → exec (.doClear m dch) s = .next u) ∧
      (u.bit (Reg.FIELD_DO_STAT dch.val) 5 = true → Completes (.doClear m dch) s (fun t => t.bit (Reg.FIELD_DO_STAT dch.val) 5 = false ∧
        t.fld (Reg.FIELD_DO_STAT dch.val) 11 8 = 0 ∧ t.fld (Reg.FIELD_DO_STAT dch.val) 4 2 =
          if u.fld (Reg.FIELD_DO_STAT dch.val) 4 2 = 2 ∨ u.fld (Reg.FIELD_DO_STAT dch.val) 4 2 = 5 then u.fld (Reg.FIELD_DO_STAT dch.val) 4 2 else 0)) ∧
      (u.bit (Reg.FIELD_DO_GRP grp.val) 14 = false → exec (.doGroupClear m grp) s = .next u) ∧
      (u.bit (Reg.FIELD_DO_GRP grp.val) 14 = true → Completes (.doGroupClear m grp) s (fun t => t.bit (Reg.FIELD_DO_GRP grp.val) 13 = false ∧
        t.bit (Reg.FIELD_DO_GRP grp.val) 14 = false)))) ∧
  (∀ (s : State) (bank : Fin 8),
    let code := fun (t : State) d => t.fld (Reg.FIELD_DO_STAT d) 4 2
    Completes (.vfldLow bank) s (fun t => t.bit Reg.FIELD_STAT bank.val = true ∧ t.bit (Reg.FIELD_DO_GRP bank.val) 15 = true ∧
      ∀ d ∈ grpChannels bank.val, code t d = if code s d < 3 ∧ s.bit (Reg.FIELD_DO_STAT d) 5 = false then 6 else code s d) ∧
    Completes (.vfldRestore bank) s (fun t => t.bit Reg.FIELD_STAT bank.val = false ∧ t.bit (Reg.FIELD_DO_GRP bank.val) 15 = false ∧
      t.readbackChecked bank.val = false ∧ ∀ d ∈ grpChannels bank.val, code t d = if code s d = 6 then 0 else code s d)) ∧
  (∀ (s : State) (g : Fin 96), (s.fieldOut = false ∨ (s.genMode (g.val / 6) = true ∧ s.inRecess = true)) → s.gateOn g.val = 0) ∧
  (∀ (s : State) (ai : Fin 32) (code16 : BitVec 16) (micro : Int),
    let n := ai.val
    let raw := Reg.FIELD_AI_RAW n
    let cfg := s.rd (Reg.FIELD_AI_CFG n)
    let mode := bits cfg 18 16
    let gone := s.fld raw 18 16 == 4
    let diag := if gone then 4 else (aiDiag mode micro).1
    let tick := Tab.get (fun _ => 0) s.field.aiTick n + 1
    let due := decide (aiRate (bits cfg 22 21) ≤ tick) && bitOf cfg 14 && s.fieldLink
    ((s.inRecess = true ∨ mode = 0 ∨ 6 ≤ mode) → exec (.aiConversion ai code16 micro) s = .next s) ∧
    (s.inRecess = false → 1 ≤ mode → mode ≤ 5 → Completes (.aiConversion ai code16 micro) s (fun t => ∃ (v : State) (x : Int),
      t = (if due then v.aiCommit n x diag (if gone then true else (aiDiag mode micro).2) else v) ∧ v.fld raw 15 0 = code16.toNat ∧ v.fld raw 18 16 = diag ∧
      (gone = false → bits cfg 20 19 = 0 → x = micro) ∧ v.points = s.points ∧ ∀ a, a ≠ raw → v.rd a = s.rd a)) ∧
    (s.fld raw 18 16 ≠ 4 → exec (.aiShuntRetry ai) s = .next s) ∧
    (s.fld raw 18 16 = 4 → Completes (.aiShuntRetry ai) s (fun t => OnlyRegs s [raw] t ∧ t.fld raw 18 16 = 0 ∧ t.fld raw 15 0 = s.fld raw 15 0))) ∧
  ∀ (s : State) (cs : Fin 32) (mean : BitVec 14),
    let cfg := s.rd (Reg.FIELD_GEN_CS (cs.val / 2) (cs.val % 2))
    let i : PointIdx := BitVec.ofNat 14 (bits cfg 13 0)
    let on := s.genMode (cs.val / 2) && bitOf cfg 14 && s.fieldLink && !s.inRecess
    let r := Machine.Num.toTyped ((s.point i).word 3) (Machine.Num.mul ⟨Config.csFraction mean, 2 ^ 14⟩ (Machine.Num.ofBf (s.rd (Reg.FIELD_CS_SCALE cs.val))))
    (on = false → exec (.csMeanCommit cs mean) s = .next s) ∧
    (on = true → Completes (.csMeanCommit cs mean) s (PointCommitted s i { value := some r.1, valueHi := some 0, level := some 0, overrange := some r.2, detail := some 0 }))

/-- R235 to R241: DALI lines: bus power, addressing, refreshes, what is sent, events with their gap, polls and raw commands. -/
def Obligations.DaliLines : Prop :=
  (∀ (s : State) (line : Fin 16),
    let l := line.val
    (s.daliState l < 2 → exec (.daliBusFail line) s = .next s) ∧
    (2 ≤ s.daliState l → Completes (.daliBusFail line) s (fun t => t.daliState l = 1 ∧ ∃ v : State, t = v.record { sev := 4, source := 0x0C, code := 235, args := [wd l] } ∧
      v.scan = s.scan)) ∧
    (s.daliState l ≠ 1 → exec (.daliBusReturn line) s = .next s) ∧
    (s.daliState l = 1 → (s.daliLine l).addressed = false → Completes (.daliBusReturn line) s (fun t => OnlyRegs s [Reg.DALI_LINE_STAT l] t ∧ t.daliState l = 2)) ∧
    (s.daliState l = 1 → (s.daliLine l).addressed = true → Completes (.daliBusReturn line) s (fun t => t.daliState l = 3 ∧ t.points = s.points ∧
      ∀ k : Fin 16, k ≠ line → t.daliLine k.val = s.daliLine k.val))) ∧
  (∀ (s : State) (m : Master) (line : Fin 16),
    let u := s.woken m
    let l := line.val
    u.obeys m = true →
    (u.daliState l ≠ 3 → exec (.daliAddress m line) s = .next u) ∧
    (u.daliState l = 3 → Completes (.daliAddress m line) s (fun t => OnlyRegs u [Reg.DALI_LINE_STAT l] t ∧ t.daliState l = 2)) ∧
    (u.daliState l < 2 → exec (.daliRefresh m line) s = .next u) ∧
    (2 ≤ u.daliState l → Completes (.daliRefresh m line) s (fun t => t = u.daliRefreshLine l ∧ t.points = u.points ∧ (∀ k : Fin 16, k ≠ line → t.daliLine k.val = u.daliLine k.val) ∧
      ∀ a, t.rd a = u.rd a))) ∧
  (∀ (s : State) (line : Fin 16) (gear dev : BitVec 64) (dup excess : Bool),
    let l := line.val
    (s.daliState l ≠ 2 → exec (.addressingEnd line gear dev dup excess) s = .next s) ∧
    (s.daliState l = 2 → Completes (.addressingEnd line gear dev dup excess) s (fun t => t.daliState l = 3 ∧ (t.daliLine l).addressed = true ∧
      t.fld (Reg.DALI_LINE_STAT l) 8 2 = popCount64 gear ∧ t.fld (Reg.DALI_LINE_STAT l) 15 9 = popCount64 dev ∧ t.bit (Reg.DALI_LINE_STAT l) 16 = dup ∧
      t.bit (Reg.DALI_LINE_STAT l) 17 = excess ∧ t.rd (Reg.DALI_LINE_GEAR_LO l) = gear.extractLsb' 0 32 ∧ t.rd (Reg.DALI_LINE_GEAR_HI l) = gear.extractLsb' 32 32 ∧
      t.rd (Reg.DALI_LINE_DEV_LO l) = dev.extractLsb' 0 32 ∧ t.rd (Reg.DALI_LINE_DEV_HI l) = dev.extractLsb' 32 32 ∧ t.points = s.points))) ∧
  (∀ (s : State) (line : Fin 16) (resends : Fin 5),
    let l := line.val
    let raw := s.bit Reg.DALI_RAW_STAT 0 && s.fld Reg.DALI_RAW_CTRL 3 0 == l
    (((s.daliLine l).pend = [] ∨ s.daliState l ≠ 3 ∨ raw = true) → exec (.daliOutputSend line resends) s = .next s) ∧
    ∀ e v rest, (s.daliLine l).pend = (e, v) :: rest → s.daliState l = 3 → raw = false → Completes (.daliOutputSend line resends) s (fun t =>
      (t.daliLine l).pend = rest ∧ (∀ k : Fin 16, k ≠ line → t.daliLine k.val = s.daliLine k.val) ∧
      t.fld (Reg.DALI_LINE_ERR l) 15 0 = min 65535 (s.fld (Reg.DALI_LINE_ERR l) 15 0 + resends.val) ∧
      (resends.val ≠ 4 → t.reply = [wd l, wd e, wd v] ∧ Tab.get (fun _ => none) t.field.sent e = some v) ∧
      (resends.val = 4 → t.reply = s.reply ∧ t.field.sent = s.field.sent ∧ t.fld (Reg.DALI_LINE_ERR l) 31 16 = (s.fld (Reg.DALI_LINE_ERR l) 31 16 + 1) % 65536))) ∧
  (∀ (s : State) (line : Fin 16) (sa : BitVec 6) (inst : BitVec 5) (info : BitVec 10) (ityp : BitVec 8),
    let l := line.val
    let es := s.daliEvts (fun w => bits w 17 14 == l && bits w 23 18 == sa.toNat && bits w 28 24 == inst.toNat && bits w 30 29 == 0)
    ((s.daliState l < 2 ∨ (s.inRecess = true ∧ s.bit Reg.DALI_CTRL (16 + l) = false)) → exec (.daliEvent line sa inst info ityp) s = .next s) ∧
    (2 ≤ s.daliState l → s.inRecess = false → es = [] → exec (.daliEvent line sa inst info ityp) s = .next s) ∧
    (∀ e, 2 ≤ s.daliState l → s.inRecess = false → es = [e] →
      let x := s.daliEv e
      let quiet := (match x.last with | some k => decide (k + s.daliGap e ≤ s.now) | none => true) && x.held.isNone
      (quiet = true → Completes (.daliEvent line sa inst info ityp) s (fun t => (t.daliEv e).last = some s.now ∧ (t.daliEv e).held = none ∧
        PointCommitted s (s.daliEvtPoint e) { value := some (wd info.toNat), valueHi := some 0, level := some 0, detail := some 0, flags := 0,
                                              aux := [some (wd ityp.toNat), some 1, some x.missed, some (wd (s.now % 2 ^ 32))] } t)) ∧
      (quiet = false → exec (.daliEvent line sa inst info ityp) s = .next (s.setDaliEv e { x with
        held := some (info, ityp, s.now), merged := x.merged + 1, missed := if x.held.isSome then x.missed + 1 else x.missed })))) ∧
  (∀ (s : State) (entry : BitVec 10),
    let e := entry.toNat
    let x := s.daliEv e
    ((x.held = none ∨ x.last = none) → exec (.daliGapExpiry entry) s = .next s) ∧
    ∀ info ityp at_ last, x.held = some (info, ityp, at_) → x.last = some last → last + s.daliGap e < 2 ^ 64 → Completes (.daliGapExpiry entry) s (fun t =>
      t.now = max s.now (last + s.daliGap e) ∧ (t.daliEv e).held = none ∧ (t.daliEv e).merged = 0 ∧ (t.daliEv e).last = some t.now ∧
      (t.point (s.daliEvtPoint e)).word 7 = wd info.toNat ∧ ∀ j, j ≠ s.daliEvtPoint e → t.point j = s.point j)) ∧
  (∀ (s : State) (entry : BitVec 10) (answer : Option (BitVec 8)),
    let e := entry.toNat
    let w := s.rd (Reg.DALI_EVT e)
    let l := bits w 17 14
    let on := bitOf w 31 && (bits w 30 29 == 1 || bits w 30 29 == 2) && s.daliState l == 3 && s.fld (Reg.DALI_LINE_CFG l) 9 2 != 0 &&
      (s.daliLine l).pend.isEmpty && !s.daliRawBusy l && (s.daliEv e).answer != some answer
    (on = false → exec (.daliPoll entry answer) s = .next s) ∧
    (∀ a, on = true → answer = some a → Completes (.daliPoll entry answer) s (fun t => (t.daliEv e).answer = some (some a) ∧
      PointCommitted s (s.daliEvtPoint e) { value := some (wd a.toNat), valueHi := some 0, level := some 0, detail := some 0 } t)) ∧
    (on = true → answer = none → Completes (.daliPoll entry answer) s (fun t => (t.daliEv e).answer = some none ∧
      PointCommitted s (s.daliEvtPoint e) { level := some 3, detail := some 2 } t))) ∧
  (∀ (s : State) (m : Master),
    let u := s.woken m
    let l := u.fld Reg.DALI_RAW_CTRL 3 0
    u.obeys m = true →
    (u.bit Reg.DALI_RAW_STAT 0 = true → exec (.daliRawGo m) s = .next u) ∧
    (u.bit Reg.DALI_RAW_STAT 0 = false →
      (u.daliState l = 3 → Completes (.daliRawGo m) s (fun t => OnlyRegs (u.emit [wd l, u.rd Reg.DALI_RAW_DATA]) [Reg.DALI_RAW_STAT] t ∧ t.bit Reg.DALI_RAW_STAT 0 = true)) ∧
      (u.daliState l ≠ 3 → Completes (.daliRawGo m) s (fun t => OnlyRegs u [Reg.DALI_RAW_STAT] t ∧ t.bit Reg.DALI_RAW_STAT 0 = false ∧
        t.fld Reg.DALI_RAW_STAT 3 1 = if u.daliState l = 1 then 3 else 4)))) ∧
  ∀ (s : State) (result : BitVec 3) (ans : BitVec 8),
    (s.bit Reg.DALI_RAW_STAT 0 = false → exec (.daliRawDone result ans) s = .next s) ∧
    (s.bit Reg.DALI_RAW_STAT 0 = true → Completes (.daliRawDone result ans) s (fun t => OnlyRegs s [Reg.DALI_RAW_STAT] t ∧ t.bit Reg.DALI_RAW_STAT 0 = false ∧
      t.fld Reg.DALI_RAW_STAT 3 1 = result.toNat ∧ (result = 0 → s.bit Reg.DALI_RAW_CTRL 6 = true → t.fld Reg.DALI_RAW_STAT 15 8 = ans.toNat)))

/-! ### Networks and serial buses -/

/-- R245 to R263: the Ethernet MACs, gates, low-power idle, PRP, the riser ports and PLCA. -/
def Obligations.Networks : Prop :=
  (∀ (s : State) (mac : Fin 8) (f : Frame),
    let n := mac.val
    let u := s.emit []
    let mx := s.fld (Reg.NET_MAXLEN n) 13 0
    let len := f.bytes.length
    let counted := fun (r : Nat) (t : State) => OnlyRegs u [r] t ∧ (t.rd r).toNat = min (2 ^ 32 - 1) ((s.rd r).toNat + 1)
    let fine := decide (64 ≤ len) && (f.fcsOk || decide (mx < len))
    (s.macUp n = false → exec (.frameReceive mac f) s = .next u) ∧
    (s.macUp n = true →
      (fine = false → Completes (.frameReceive mac f) s (counted (Reg.NET_RX_FCS_ERR n))) ∧
      (fine = true → s.accepts n (macAddr f.bytes) = false → Completes (.frameReceive mac f) s (counted (Reg.NET_RX_FILTERED n))) ∧
      (fine = true → s.accepts n (macAddr f.bytes) = true →
        (mx < len → f.space = false → Completes (.frameReceive mac f) s (counted (Reg.NET_RX_OVERSIZE n))) ∧
        (mx < len → f.space = true → Completes (.frameReceive mac f) s (fun t => ∃ v : State, counted (Reg.NET_RX_OVERSIZE n) v ∧ t = v.deliver n 1 (f.bytes.take mx))) ∧
        (len ≤ mx → f.space = false → Completes (.frameReceive mac f) s (counted (Reg.NET_RX_OVF n))) ∧
        (len ≤ mx → f.space = true → half f.bytes 12 = 0x8808 → Completes (.frameReceive mac f) s (fun t => ∃ v : State, counted (Reg.NET_RX_PAUSE n) v ∧
          t = if half f.bytes 14 = 1 then v.pauseFor n (half f.bytes 16) else v)) ∧
        (len ≤ mx → f.space = true → half f.bytes 12 ≠ 0x8808 → 4 ≤ n → Completes (.frameReceive mac f) s (fun t => ∃ v : State, counted (Reg.NET_RX_FRAMES n) v ∧
          t = v.deliver n 0 f.bytes)) ∧
        (len ≤ mx → f.space = true → half f.bytes 12 ≠ 0x8808 → n < 4 → Completes (.frameReceive mac f) s (fun t =>
          let r := if n < 2 then (u.lldpReceive n f.bytes).prpReceive n f.bytes else u.riserReceive n f.bytes
          (r.2 = false → t = r.1) ∧ (r.2 = true → t = (r.1.incSat (Reg.NET_RX_FRAMES n) 31 0).deliver n 0 (r.1.prpBytes n f.bytes))))))) ∧
  (∀ (s : State) (src : BitVec 48) (seq : BitVec 16) (lan : Fin 2),
    (s.net.dups.find? (fun e => e.src == src && e.seq == seq) = none → (s.dupCheck src seq lan).2 = false ∧ (s.dupCheck src seq lan).1.rd Reg.PRP_DUP = s.rd Reg.PRP_DUP) ∧
    ∀ e, s.net.dups.find? (fun e => e.src == src && e.seq == seq) = some e →
      (s.dupCheck src seq lan).2 = decide (e.lan ≠ lan ∧ s.now - e.time < s.fld Reg.PRP_FORGET 15 0 * 250000)) ∧
  (∀ (s : State) (mac : Fin 8), let n := mac.val
    ((s.mac n).pauseEnd = none → exec (.pauseExpiry mac) s = .next s) ∧
    (∀ e, (s.mac n).pauseEnd = some e → e < 2 ^ 64 → Completes (.pauseExpiry mac) s (fun t => ∃ v : State, t = v.drainTx n ∧ v.now = max s.now e ∧ v.reply = [] ∧
      v.bit (Reg.NET_STAT n) 3 = false ∧ (v.mac n).pauseEnd = none ∧ (v.mac n).queue = (s.mac n).queue)) ∧
    (Completes (.txUnderrun mac) s (fun t => let th := s.fld (Reg.NET_TX_THRESH n) 13 0
      let mx := s.fld (Reg.NET_MAXLEN n) 13 0
      t.fld (Reg.NET_TX_THRESH n) 13 0 = (if th < mx then min (th + 512) mx else th) ∧ t.reply = [wd n, 0xFFFE] ∧
      (t.rd (Reg.NET_TX_UNDERRUN n)).toNat = min (2 ^ 32 - 1) ((s.rd (Reg.NET_TX_UNDERRUN n)).toNat + 1) ∧
      t.bit (Reg.NET_TX_THRESH n) 14 = decide (mx ≤ t.fld (Reg.NET_TX_THRESH n) 13 0) ∧
      (((s.mac n).sending = none ∨ (s.mac n).busy ≤ s.now) → t.net = s.net) ∧
      ∀ f, (s.mac n).sending = some f → s.now < (s.mac n).busy → (t.mac n).queue = { f with again := true } :: (s.mac n).queue ∧ (t.mac n).sending = none))) ∧
  (∀ (s : State) (mac : Fin 8) (pair : Bool) (q : BitVec 2) (len : BitVec 14) (coll : BitVec 4), let n := mac.val
    let both := pair && s.bit Reg.PRP_CTRL 0 && decide (n < 2)
    let one : TxFrame := { q := q, len := len.toNat, pair := false, coll := coll }
    let free := s.macUp n && !s.bit (Reg.NET_STAT n) 3 && !s.bit (Reg.NET_STAT n) 1 && decide ((s.mac n).busy ≤ s.now)
    (both = false → free = false → s.bit (Reg.NET_STAT n) 1 = false → exec (.frameTransmit mac pair q len coll) s =
      .next ((s.emit []).setMac n { s.mac n with queue := (s.mac n).queue ++ [one] })) ∧
    (both = false → free = true → s.operRuns n = none → (s.mac n).queue = [] →
      Completes (.frameTransmit mac pair q len coll) s (fun t => OnlyRegs ((s.setMac n { s.mac n with busy := s.now + frameCounts n len.toNat, sending := some one }).emit
        [wd n, wd q.toNat, wd len.toNat]) [Reg.NET_TX_FRAMES n, Reg.NET_TX_COLL n] t ∧ (t.rd (Reg.NET_TX_FRAMES n)).toNat = min (2 ^ 32 - 1) ((s.rd (Reg.NET_TX_FRAMES n)).toNat + 1) ∧
        (coll = 0 ∨ n < 4 ∨ s.bit (Reg.NET_PLCA_STAT n) 0 = true → t.rd (Reg.NET_TX_COLL n) = s.rd (Reg.NET_TX_COLL n)) ∧
        (coll ≠ 0 → 4 ≤ n → s.bit (Reg.NET_PLCA_STAT n) 0 = false → (t.rd (Reg.NET_TX_COLL n)).toNat = min (2 ^ 32 - 1) ((s.rd (Reg.NET_TX_COLL n)).toNat + coll.toNat)))) ∧
    (both = true → let whole := max 64 len.toNat + 6
      let fits := decide (whole ≤ s.fld (Reg.NET_MAXLEN 0) 13 0) && decide (whole ≤ s.fld (Reg.NET_MAXLEN 1) 13 0)
      Completes (.frameTransmit mac pair q len coll) s (fun t => ∃ (v : State) (f : TxFrame), t = (v.queueTx 0 f).queueTx 1 f ∧ f.pair = true ∧ f.q = q ∧
        f.len = (if fits then whole else len.toNat) ∧ v.net.prpSeq = (if fits then s.net.prpSeq + 1 else s.net.prpSeq) ∧ v.reply = []))) ∧
  (∀ (s : State) (mac : Fin 8), let n := mac.val
    (s.operRuns n = none → (s.mac n).change = none → exec (.gateEntry mac) s = .next s) ∧
    (∀ e, s.nextGate n = some e → (s.mac n).change = none → (s.mac n).queue = [] → exec (.gateEntry mac) s = .next ((s.advanceTo e).emit [])) ∧
    (∀ bank base cycle, s.operRuns n = none → (s.mac n).change = some (bank, base, cycle) → (s.mac n).queue = [] → base < 2 ^ 64 → Completes (.gateEntry mac) s (fun t =>
      t.now = max s.now base ∧ (t.mac n).oper = some (base, cycle) ∧ (t.mac n).change = none ∧ t.fld (Reg.NET_GATE_STAT n) 0 0 = bank % 2 ∧
      t.bit (Reg.NET_GATE_STAT n) 1 = false ∧ t.reply = []))) ∧
  (∀ (s : State) (m : Master) (mac : Fin 8),
    let u := s.woken m
    let n := mac.val
    let base := (u.rd (Reg.NET_GATE_BASE_LO n)).toNat + 2 ^ 32 * (u.rd (Reg.NET_GATE_BASE_HI n)).toNat
    let cycle := max 1 ((u.rd (Reg.NET_GATE_CYCLE n)).toNat / 4)
    u.obeys m = true → Completes (.gateChange m mac) s (fun t => ∃ k, (t.mac n).change = some (u.fld (Reg.NET_GATE_CTRL n) 1 1, base + k * cycle, cycle) ∧
      u.now ≤ base + k * cycle ∧ (k = 0 ∨ base + (k - 1) * cycle < u.now) ∧ t.bit (Reg.NET_GATE_STAT n) 1 = true ∧ (∀ a, a ≠ Reg.NET_GATE_STAT n → t.rd a = u.rd a) ∧
      ∀ j : Fin 8, j ≠ mac → t.mac j.val = u.mac j.val)) ∧
  (∀ (s : State) (mac : Fin 8), let n := mac.val
    let may := decide (n < 2) && s.macUp n && s.bit (Reg.NET_CTRL n) 4 && s.bit (Reg.NET_STAT n) 5 && !s.bit (Reg.NET_STAT n) 1
    (may = false → exec (.lpiEntry mac) s = .next s) ∧
    (may = true → (s.mac n).queue ≠ [] → Completes (.lpiEntry mac) s (fun t => ∃ v : State, t = v.drainTx n ∧ OnlyRegs (s.emit []) [Reg.NET_LPI_ABORTS n] v ∧
      (v.rd (Reg.NET_LPI_ABORTS n)).toNat = min (2 ^ 32 - 1) ((s.rd (Reg.NET_LPI_ABORTS n)).toNat + 1))) ∧
    (may = true → (s.mac n).queue = [] → let from_ := (s.mac n).busy + s.fld (Reg.NET_EEE_CFG n) 31 16 * 250
      from_ < 2 ^ 64 → Completes (.lpiEntry mac) s (fun t => ∃ ts, t.now = max s.now from_ ∧ (t.mac n).lpiAt = some (t.now, ts) ∧ 182 * 250 ≤ ts ∧ ts ≤ 202 * 250 ∧
      t.bit (Reg.NET_STAT n) 1 = true ∧ ∀ a, a ≠ Reg.NET_STAT n → t.rd a = s.rd a)) ∧
    ((s.mac n).lpiAt = none → exec (.lpiWake mac) s = .next s) ∧
    (∀ e ts, (s.mac n).lpiAt = some (e, ts) → let tw := max (s.fld (Reg.NET_EEE_CFG n) 15 0) (s.fld (Reg.NET_EEE_STAT n) 15 0) * 250
      max s.now (e + ts) + tw < 2 ^ 64 → Completes (.lpiWake mac) s (fun t => ∃ v : State, t = v.drainTx n ∧ v.now = max s.now (e + ts) + tw ∧
        (v.mac n).lpiAt = none ∧ v.bit (Reg.NET_STAT n) 1 = false ∧ v.reply = []))) ∧
  (∀ (s : State) (mac : Fin 8) (up eee low : Bool) (sqi : BitVec 3), let n := mac.val
    let on := up && s.bit (Reg.NET_CTRL n) 0 && s.bit (Reg.NET_STAT n) 4
    Completes (.phyLinkChange mac up eee low sqi) s (fun t => t.bit (Reg.NET_STAT n) 0 = on ∧ (n < 2 → t.bit Reg.PRP_STAT n = on) ∧
      (2 ≤ n → n < 4 → t.fld (Reg.NET_T1L_STAT n) 3 1 = (if on then sqi.toNat else 0) ∧ (on = false → t.bit (Reg.NET_T1L_STAT n) 4 = false)))) ∧
  (∀ (s : State), ((s.bit Reg.PRP_CTRL 0 = false ∨ s.bit Reg.PRP_CTRL 2 = false) → exec .prpSupervision s = .next s) ∧
    (s.bit Reg.PRP_CTRL 0 = true → s.bit Reg.PRP_CTRL 2 = true → s.net.lifeAt < 2 ^ 64 → Completes .prpSupervision s (fun t => ∃ (v : State) (f : TxFrame),
      t = (v.queueTx 0 f).queueTx 1 f ∧ f = { q := 3, len := 70, pair := true } ∧ v.now = max s.now s.net.lifeAt ∧ v.net.lifeAt = v.now + s.fld Reg.PRP_CFG 15 0 * 250000 ∧
      v.reply = [] ∧ v.regs = s.regs))) ∧
  (∀ (s : State) (node : BitVec 48), (s.net.nodes.find? (fun x => x.addr == node) = none → exec (.nodeForget node) s = .next s) ∧
    ((s.net.nodes.find? (fun x => x.addr == node)).isSome = true → Completes (.nodeForget node) s (fun t => t.net.nodes = s.net.nodes.filter (fun x => x.addr != node) ∧
      t.fld Reg.PRP_STAT 16 8 = t.net.nodes.length % 512 ∧ t.points = s.points))) ∧
  (∀ (s : State) (lan : Fin 2),
    let d := 3 * s.fld Reg.PRP_CFG 15 0 * 250000
    let heard := fun (l : Nat) (x : PrpNode) => match (x.heard.toList[l]?).join with
      | some a => decide (s.now < a + d)
      | none => false
    let silent := !s.net.nodes.any (heard lan.val) && s.net.nodes.any (fun x => ((x.heard.toList[lan.val]?).join).isSome && heard (1 - lan.val) x)
    ((silent = false ∨ s.bit Reg.PRP_STAT lan.val = false) → exec (.lanLoss lan) s = .next s) ∧
    (silent = true → s.bit Reg.PRP_STAT lan.val = true → Completes (.lanLoss lan) s (fun t => ∃ v : State, OnlyRegs s [Reg.PRP_STAT] v ∧ v.bit Reg.PRP_STAT lan.val = false ∧
      t = v.record { sev := 4, source := 0x18, code := 258, args := [wd lan.val] }))) ∧
  (∀ (s : State) (port : Fin 2), let p := port.val
    let at_ := s.net.helloAt.toList.getD p 0
    (s.macUp (p + 2) = false → exec (.helloSend port) s = .next s) ∧
    (s.macUp (p + 2) = true → at_ < 2 ^ 64 → Completes (.helloSend port) s (fun t => ∃ v : State,
      t = v.riserSend [(p, 0, [s.rd Reg.SYS_SERIAL_LO, s.rd Reg.SYS_SERIAL_HI, wd (s.fld Reg.SYS_ROLL_STAT 23 8)])] ∧ v.now = max s.now at_ ∧ v.regs = s.regs ∧
      v.net.helloAt.toList.getD p 0 = v.now + 2500000)) ∧
    ((s.net.helloRx.toList.getD p none = none ∨ s.riserUp port = false) → exec (.riserPortDown port) s = .next s) ∧
    (∀ e, s.net.helloRx.toList.getD p none = some e → s.riserUp port = true → e + 12500000 < 2 ^ 64 → Completes (.riserPortDown port) s (fun t => t.riserUp port = false ∧
      t.now = max s.now (e + 12500000) ∧
      (t.rd (Reg.NET_RISER_DOWN_CNT (p + 2))).toNat = min (2 ^ 32 - 1) ((s.rd (Reg.NET_RISER_DOWN_CNT (p + 2))).toNat + 1)))) ∧
  ∀ (s : State) (port : Fin 4), let n := port.val + 4
    (s.plcaCoordinator n = true → Completes (.plcaBeacon port) s (fun t => ∃ v : State, OnlyRegs s [Reg.NET_PLCA_LOSS n] v ∧
      v.fld (Reg.NET_PLCA_LOSS n) 31 16 = min 65535 (s.fld (Reg.NET_PLCA_LOSS n) 31 16 + 1) ∧
      t = v.record { sev := 4, source := BitVec.ofNat 8 (0x10 + n), code := 263, args := [wd n, 1] })) ∧
    (s.plcaFollower n = true → Completes (.plcaBeacon port) s (fun t => OnlyRegs { s with net := { s.net with beaconAt := s.net.beaconAt.setIfInBounds port.val (some s.now) } }
      [Reg.NET_PLCA_STAT n] t ∧ t.bit (Reg.NET_PLCA_STAT n) 0 = true)) ∧
    (s.plcaCoordinator n = false → s.plcaFollower n = false → exec (.plcaBeacon port) s = .next s) ∧
    ((s.plcaFollower n = false ∨ s.bit (Reg.NET_PLCA_STAT n) 0 = false) → exec (.plcaBeaconLoss port) s = .next s) ∧
    (s.plcaFollower n = true → s.bit (Reg.NET_PLCA_STAT n) 0 = true → Completes (.plcaBeaconLoss port) s (fun t => ∃ v : State, v.bit (Reg.NET_PLCA_STAT n) 0 = false ∧
      v.fld (Reg.NET_PLCA_LOSS n) 15 0 = min 65535 (s.fld (Reg.NET_PLCA_LOSS n) 15 0 + 1) ∧ v.net = s.net ∧
      t = v.record { sev := 3, source := BitVec.ofNat 8 (0x10 + n), code := 263, args := [wd n, 0] }))

/-- R266, R267: the serial buses: errored frames are counted, bus-off and the recovery from it. -/
def Obligations.SerialBuses : Prop :=
  (∀ (s : State) (ch : Fin 8), Completes (.serialFrameError ch) s (fun t => OnlyRegs s [Reg.SER_CH_ERR ch.val] t ∧
    t.fld (Reg.SER_CH_ERR ch.val) 15 0 = min 65535 (s.fld (Reg.SER_CH_ERR ch.val) 15 0 + 1) ∧ t.fld (Reg.SER_CH_ERR ch.val) 31 16 = s.fld (Reg.SER_CH_ERR ch.val) 31 16)) ∧
  ∀ (s : State) (can : Fin 4), let n := can.val
    let on := s.bit (Reg.SER_CAN_CFG n) 0 && s.fld (Reg.SER_CAN_STAT n) 1 0 != 2
    let recovers := s.fld (Reg.SER_CAN_STAT n) 1 0 == 2 && s.bit (Reg.SER_CAN_CFG n) 3
    (on = false → exec (.canBusOff can) s = .next s) ∧
    (on = true → Completes (.canBusOff can) s (fun t => ∃ v : State, OnlyRegs s [Reg.SER_CAN_STAT n, Reg.SER_CAN_CNT n] v ∧ v.fld (Reg.SER_CAN_STAT n) 1 0 = 2 ∧
      v.fld (Reg.SER_CAN_CNT n) 15 0 = (s.fld (Reg.SER_CAN_CNT n) 15 0 + 1) % 65536 ∧ t = v.record { sev := 4, source := 0x0D, code := 267, args := [wd n] })) ∧
    (recovers = false → exec (.canBusOffRecovery can) s = .next s) ∧
    (recovers = true → Completes (.canBusOffRecovery can) s (fun t => OnlyRegs s [Reg.SER_CAN_STAT n] t ∧ t.rd (Reg.SER_CAN_STAT n) = 0))

/-! ### Access and time -/

/-- R269 to R271, R275: credentials, the cache's sweep, presentations and door commands from either source. -/
def Obligations.Credentials : Prop :=
  (∀ (s : State) (m : Master),
    let u := s.woken m
    let r : Vector Word 8 := Vector.ofFn (fun (i : Fin 8) => u.rd (Reg.ACC_CRED_W i.val))
    let id := u.rd (Reg.ACC_CRED_W 1) ++ u.rd (Reg.ACC_CRED_W 0)
    let stored := fun (t : State) k => Tab.get (fun _ => (none : Option (Vector Word 8))) t.acc.store k
    let put := fun k (t : State) => stored t k = some r ∧ (∀ j, j ≠ k → stored t j = stored u j) ∧ t.rd Reg.ACC_CRED_STAT = wd (65536 * k) ∧
      (∀ e ∈ t.acc.cache, e.1 = credId r → e.2 = r) ∧ (∀ a, a ≠ Reg.ACC_CRED_STAT → t.rd a = u.rd a) ∧ t.points = u.points
    u.obeys m = true →
    (credClean r = false → Completes (.credWrite m) s (fun t => OnlyRegs u [Reg.ACC_CRED_STAT] t ∧ t.rd Reg.ACC_CRED_STAT = 6)) ∧
    (∀ k x, credClean r = true → u.cred? (credId r) = some (k, x) → Completes (.credWrite m) s (put k)) ∧
    (∀ k, credClean r = true → u.cred? (credId r) = none → k < 65536 → stored u k = none → (∀ j, j < k → stored u j ≠ none) → Completes (.credWrite m) s (put k)) ∧
    (credClean r = true → u.cred? (credId r) = none → (∀ j, j < 65536 → stored u j ≠ none) → Completes (.credWrite m) s (fun t =>
      OnlyRegs u [Reg.ACC_CRED_STAT] t ∧ t.rd Reg.ACC_CRED_STAT = 2)) ∧
    (u.cred? id = none → Completes (.credDelete m) s (fun t => OnlyRegs u [Reg.ACC_CRED_STAT] t ∧ t.rd Reg.ACC_CRED_STAT = 4)) ∧
    (∀ k x, u.cred? id = some (k, x) → Completes (.credDelete m) s (fun t => stored t k = none ∧ (∀ j, j ≠ k → stored t j = stored u j) ∧
      t.acc.cache = u.acc.cache.filter (fun e => e.1 != id) ∧ t.rd Reg.ACC_CRED_STAT = wd (65536 * k) ∧ (∀ a, a ≠ Reg.ACC_CRED_STAT → t.rd a = u.rd a)))) ∧
  (∀ (s : State), exec .cacheSweep s = .next { s with acc := { s.acc with cache := s.acc.cache.filter (fun e => !expired e.2 s.accT) } }) ∧
  (∀ (s : State), (∀ q rest, s.scan.accQ = q :: rest → q.typ ≠ 1) → exec (.present .msg) s = .next s) ∧
  (∀ (s : State) (q : EngMsg) (rest : List EngMsg), s.scan.accQ = q :: rest → q.typ = 1 → exec (.present .msg) s =
    .next (State.present { s with scan := { s.scan with accQ := rest } } (bits (q.payload.getD 0 0) 6 0) (q.payload.getD 2 0 ++ q.payload.getD 1 0))) ∧
  (∀ (s : State) (door : Fin 128) (id : BitVec 64) (secure : Bool),
    let d := door.val
    let st := s.adoorState d
    let on := s.adoorOn d && s.bit (Reg.ACC_DOOR_RDR d) 3 && secure
    (on = false → exec (.present (.card door id secure)) s = .next s) ∧
    (on = true → s.bit Reg.ACC_CTRL 0 = false → Completes (.present (.card door id secure)) s (fun t => ∃ v : State,
      t = v.doorRecord 2 270 d 2 1 id (some 0) s.accT ∧ v.acc.count = s.acc.count + 1 ∧ v.adoorState d = st)) ∧
    (∀ e, on = true → s.bit Reg.ACC_CTRL 0 = true → s.acc.cache.find? (fun e => e.1 == id) = some e →
      let r := e.2
      let tenant : BitVec 12 := BitVec.ofNat 12 (bits r[2] 11 0)
      let reason := if bitOf r[2] 20 = false then 2 else if expired r s.accT then 3 else if s.accT < r[3].toNat then 4
        else if s.inDoorSet (bits r[2] 19 12) d = false then 5 else if st = 6 then 6 else 0
      (reason ≠ 0 → Completes (.present (.card door id secure)) s (fun t => ∃ v : State, t = v.doorRecord 2 270 d 2 reason id (some tenant) s.accT ∧
        v.adoorState d = st ∧ (v.adoor d).release = (s.adoor d).release ∧ v.fld Reg.ACC_STAT 31 16 = min 65535 (s.fld Reg.ACC_STAT 31 16 + 1))) ∧
      (reason = 0 → Completes (.present (.card door id secure)) s (fun t => ∃ v : State, t = v.doorRecord 1 270 d 1 0 id (some tenant) s.accT ∧
        v.adoorState d = (if st = 0 then 1 else st) ∧ v.fld Reg.ACC_STAT 31 16 = s.fld Reg.ACC_STAT 31 16 ∧
        (st ≠ 5 → st ≠ 7 → (v.adoor d).release = some (s.now + s.fld (Reg.ACC_DOOR_CFG d) 15 8 * 25000000)))))) ∧
  ∀ (mk : DoorSrc → Instr) (k : Nat), (mk, k) ∈ [(Instr.doorLock, 0), (Instr.doorPulse, 1), (Instr.doorHoldUnlocked, 2), (Instr.doorLockdown, 3), (Instr.doorReleaseLockdown, 4)] →
    (∀ (s : State) (m : Master) (door : Fin 128), (s.woken m).obeys m = true → exec (mk (.reg m door)) s = .next ((s.woken m).doorCmd door.val k)) ∧
    (∀ (s : State) (q : EngMsg) (rest : List EngMsg), s.scan.accQ = q :: rest → q.typ = 2 → bits (q.payload.getD 0 0) 10 8 = k →
      exec (mk .msg) s = .next (State.doorCmd { s with scan := { s.scan with accQ := rest } } (bits (q.payload.getD 0 0) 6 0) k)) ∧
    (∀ (s : State), (∀ q rest, s.scan.accQ = q :: rest → q.typ ≠ 2 ∨ bits (q.payload.getD 0 0) 10 8 ≠ k) → exec (mk .msg) s = .next s)

/-- R272, R273: the state of a door: what each door command, its contact, its request to exit, a fire release and its two times make of it. -/
def Obligations.Doors : Prop :=
  (∀ (s : State) (d k : Nat), (s.adoorOn d = false ∨ s.adoorState d = 7) → s.doorCmd d k = s) ∧
  (∀ (s : State) (d : Nat), d < 128 → s.adoorOn d = true →
    let st := s.adoorState d
    let free := fun (t : State) => (t.adoor d).release = none
    let timed := fun (t : State) => (t.adoor d).release = some (s.now + s.fld (Reg.ACC_DOOR_CFG d) 15 8 * 25000000)
    (st = 5 → (s.doorCmd d 0).adoorState d = 0 ∧ free (s.doorCmd d 0)) ∧ (st ≠ 5 → s.doorCmd d 0 = s) ∧
    (st = 0 → (s.doorCmd d 1).adoorState d = 1 ∧ timed (s.doorCmd d 1)) ∧ ((st = 5 ∨ st = 6) → s.doorCmd d 1 = s) ∧
    ((1 ≤ st ∧ st ≤ 4) → (s.doorCmd d 1).adoorState d = st ∧ timed (s.doorCmd d 1)) ∧
    (st ≠ 7 → (s.doorCmd d 2).adoorState d = 5) ∧ (st ≠ 7 → (s.doorCmd d 3).adoorState d = 6) ∧ (st ≠ 7 → st ≠ 6 → free (s.doorCmd d 3)) ∧
    (st = 6 → (s.doorCmd d 4).adoorState d = 0 ∧ free (s.doorCmd d 4)) ∧ (st ≠ 6 → s.doorCmd d 4 = s)) ∧
  (∀ (s : State) (door : Fin 128),
    let d := door.val
    let c := s.doorContact d
    let x := s.adoor d
    let st := s.adoorState d
    ((s.adoorOn d = false ∨ c = x.contact) → exec (.doorContactChange door) s = .next s) ∧
    (s.adoorOn d = true → c ≠ x.contact → Completes (.doorContactChange door) s (fun t => (t.adoor d).contact = c ∧ (t.adoor d).openAt = (if c then some s.now else none) ∧
      (c = true → st = 0 → x.release = none → t.adoorState d = 4) ∧ (c = true → (st = 0 → x.release ≠ none) → (st = 0 ∨ st = 1) → t.adoorState d = 2 ∧
        (s.bit (Reg.ACC_DOOR_CFG d) 2 = true → (t.adoor d).release = none) ∧ (s.bit (Reg.ACC_DOOR_CFG d) 2 = false → (t.adoor d).release = x.release)) ∧
      (c = true → 2 ≤ st → t.adoorState d = st) ∧ (c = false → (2 ≤ st ∧ st ≤ 4) → t.adoorState d = 0 ∧ (t.adoor d).release = none) ∧
      (c = false → (st < 2 ∨ 4 < st) → t.adoorState d = st ∧ (t.adoor d).release = x.release)))) ∧
  (∀ (s : State) (door : Fin 128),
    let d := door.val
    let x := s.adoor d
    let st := s.adoorState d
    let active := s.bit (Reg.ACC_DOOR_PTS2 d) 16 && s.doorInput (s.fld (Reg.ACC_DOOR_PTS1 d) 29 16) false
    let acts := s.adoorOn d && active && !x.rex && st != 5 && st != 7
    (acts = false → exec (.doorRex door) s = .next (s.setAdoor d { x with rex := active })) ∧
    (acts = true → Completes (.doorRex door) s (fun t => (t.adoor d).rex = true ∧ t.adoorState d = (if st = 0 then 1 else st) ∧
      (t.adoor d).release = some (s.now + s.fld (Reg.ACC_DOOR_CFG d) 15 8 * 25000000)))) ∧
  (∀ (s : State) (door : Fin 128),
    let d := door.val
    let st := s.adoorState d
    let fire := s.bit (Reg.ACC_DOOR_PTS2 d) 14 && s.doorInput (s.fld (Reg.ACC_DOOR_PTS2 d) 13 0) true
    ((s.adoorOn d = false ∨ fire = decide (st = 7)) → exec (.doorFire door) s = .next s) ∧
    (s.adoorOn d = true → fire = true → st ≠ 7 → Completes (.doorFire door) s (fun t => t.adoorState d = 7 ∧ t.unlocked d = true)) ∧
    (s.adoorOn d = true → fire = false → st = 7 → Completes (.doorFire door) s (fun t => t.adoorState d = 0 ∧ t.unlocked d = false))) ∧
  (∀ (s : State) (m : Master) (door : Fin 128),
    let u := s.woken m
    let d := door.val
    let st := u.adoorState d
    u.obeys m = true → u.adoorOn d = true →
    (st = 5 → Completes (.doorLock (.reg m door)) s (fun t => t.adoorState d = 0)) ∧
    (st = 0 → Completes (.doorPulse (.reg m door)) s (fun t => t.adoorState d = 1)) ∧
    (st ≠ 7 → Completes (.doorHoldUnlocked (.reg m door)) s (fun t => t.adoorState d = 5)) ∧
    (st ≠ 7 → Completes (.doorLockdown (.reg m door)) s (fun t => t.adoorState d = 6)) ∧
    (st = 6 → Completes (.doorReleaseLockdown (.reg m door)) s (fun t => t.adoorState d = 0))) ∧
  ∀ (s : State) (door : Fin 128),
    let d := door.val
    let x := s.adoor d
    let st := s.adoorState d
    (x.release = none → exec (.strikeTimeExpiry door) s = .next s) ∧
    (∀ e, x.release = some e → e < 2 ^ 64 → Completes (.strikeTimeExpiry door) s (fun t => t.now = max s.now e ∧ (t.adoor d).release = none ∧
      t.adoorState d = if st = 1 ∧ x.contact = false then 0 else st)) ∧
    ((x.openAt = none ∨ st ≠ 2) → exec (.heldTimeExpiry door) s = .next s) ∧
    (∀ e, x.openAt = some e → st = 2 → e + s.fld (Reg.ACC_DOOR_CFG d) 31 16 * 250000000 < 2 ^ 64 → Completes (.heldTimeExpiry door) s (fun t =>
      t.now = max s.now (e + s.fld (Reg.ACC_DOOR_CFG d) 31 16 * 250000000) ∧ t.adoorState d = 3 ∧ (t.adoor d).release = x.release))

/-- R277 to R279, R282, R286 to R288: the rate, the offset, TIME frames, trigger outputs and captures. -/
def Obligations.TimeBase : Prop :=
  (∀ (s : State) (m : Master) (v : Word),
    let u := s.woken m
    u.obeys m = true →
    (-2147484 ≤ v.toInt → v.toInt ≤ 2147484 → Completes (.rateWrite m v) s (fun t => t.rd Reg.TIME_RATE = v ∧ t.bit Reg.TIME_STAT 1 = false ∧ t.cnt = u.cnt ∧ t.time = u.time)) ∧
    ((v.toInt < -2147484 ∨ 2147484 < v.toInt) → Completes (.rateWrite m v) s (fun t => OnlyRegs u [Reg.TIME_STAT] t ∧ t.bit Reg.TIME_STAT 3 = true))) ∧
  (∀ (s : State) (m : Master),
    let u := s.woken m
    let n : Int := if u.bit Reg.TIME_OFS_SEC_HI 31 then (u.offsetNs : Int) - u.stagedNs else (u.offsetNs : Int) + u.stagedNs
    let stepped := fun (ns : Nat) (t : State) => t.time.ofsSec = BitVec.ofNat 48 (ns / 1000000000) ∧ t.time.ofsNs = ns % 1000000000 ∧ t.time.cs = u.cycle.cnt ∧
      t.time.byHost = (u.time.byHost || m != .steward) ∧
      (t.rd Reg.TIME_STEP_CNT).toNat = min (2 ^ 32 - 1) ((u.rd Reg.TIME_STEP_CNT).toNat + 1) ∧ t.bit Reg.TIME_STAT 1 = false
    u.obeys m = true →
    (999999999 < u.fld Reg.TIME_OFS_NS 29 0 → Completes (.offsetSet m) s (fun t => OnlyRegs u [Reg.TIME_STAT] t ∧ t.bit Reg.TIME_STAT 3 = true)) ∧
    (u.fld Reg.TIME_OFS_NS 29 0 ≤ 999999999 → Completes (.offsetSet m) s (fun t => stepped u.stagedNs t ∧ t.bit Reg.TIME_STAT 0 = true)) ∧
    ((999999999 < u.fld Reg.TIME_OFS_NS 29 0 ∨ n < 0 ∨ (2 ^ 48 * 1000000000 : Int) ≤ n) → Completes (.offsetAdd m) s (fun t =>
      OnlyRegs u [Reg.TIME_STAT] t ∧ t.bit Reg.TIME_STAT 3 = true)) ∧
    (u.fld Reg.TIME_OFS_NS 29 0 ≤ 999999999 → 0 ≤ n → n < 2 ^ 48 * 1000000000 → Completes (.offsetAdd m) s (fun t => stepped n.toNat t ∧
      t.bit Reg.TIME_STAT 0 = u.bit Reg.TIME_STAT 0))) ∧
  (∀ (s : State) (port : Fin 2),
    let at_ := s.net.timeAt.toList.getD port.val 0
    (s.riserUp port = false → exec (.timeFrameSend port) s = .next s) ∧
    (s.riserUp port = true → at_ < 2 ^ 64 → Completes (.timeFrameSend port) s (fun t => ∃ (v : State) (w : List Word), t = v.riserSend [(port.val, 2, w)] ∧
      v.now = max s.now at_ ∧ v.net.timeAt.toList.getD port.val 0 = v.now + 31250000 ∧ v.regs = s.regs ∧
      w.take 4 = [0, 0, 0, wd (s.fld Reg.TIME_STAT 15 8)] ∧ w.length = 10))) ∧
  (∀ (s : State) (n : Nat) (f : TxFrame) (h : Word) (l : List Word), f.riser = some (h :: l) → bits h 7 0 = 2 →
    s.frameShown n f = wd n :: h :: (s.timeWords (s.now + 8 * byteCounts n) ++ l.drop 3)) ∧
  (∀ (s : State) (m : Master) (trig : Fin 8) (v : Word),
    let u := s.woken m
    let k := trig.val
    let w := v &&& 0xFFFFFF1F
    let x := u.wr (Reg.TIME_TRIG_CFG k) w
    let period := (u.rd (Reg.TIME_TRIG_PERIOD k)).toNat
    let bad := decide (bits w 31 8 < 1) || (bitOf w 1 && (decide (period < 25) || decide (period < 2 * bits w 31 8)))
    u.obeys m = true →
    (bitOf w 0 = false → Completes (.triggerEnable m trig v) s (fun t => t.rd (Reg.TIME_TRIG_CFG k) = w ∧ (t.trigger k).next = none ∧
      (t.trigger k).pulse = (u.trigger k).pulse ∧ t.bit (Reg.TIME_TRIG_STAT k) 0 = false)) ∧
    (bitOf w 0 = true → bad = true → Completes (.triggerEnable m trig v) s (fun t => OnlyRegs u [Reg.TIME_TRIG_STAT k] t ∧ t.bit (Reg.TIME_TRIG_STAT k) 2 = true)) ∧
    (∀ c, bitOf w 0 = true → bad = false → x.trigStart k = some c → u.now ≤ c → Completes (.triggerEnable m trig v) s (fun t => t.rd (Reg.TIME_TRIG_CFG k) = w ∧
      (t.trigger k).next = some c ∧ t.bit (Reg.TIME_TRIG_STAT k) 0 = true ∧ (∀ j : Fin 8, j ≠ trig → t.trigger j.val = u.trigger j.val))) ∧
    (bitOf w 0 = true → bad = false → (∀ c, x.trigStart k = some c → c < u.now) → Completes (.triggerEnable m trig v) s (fun t => t.rd (Reg.TIME_TRIG_CFG k) = w ∧
      t.bit (Reg.TIME_TRIG_STAT k) 1 = true ∧ (t.trigger k).pulse = some (u.now + bits w 31 8) ∧ t.reply.head? = some (wd k)))) ∧
  (∀ (s : State) (trig : Fin 8),
    let k := trig.val
    let cfg := s.rd (Reg.TIME_TRIG_CFG k)
    ((s.trigger k).next = none → exec (.triggerEdge trig) s = .next s) ∧
    (∀ c, (s.trigger k).next = some c → c < 2 ^ 64 → Completes (.triggerEdge trig) s (fun t => t.now = max s.now c ∧ (t.trigger k).pulse = some (t.now + bits cfg 31 8) ∧
      t.reply = [wd k, wd (!bitOf cfg 3).toNat] ∧ (bitOf cfg 1 = false → (t.trigger k).next = none ∧ t.bit (Reg.TIME_TRIG_STAT k) 0 = false) ∧
      (bitOf cfg 1 = true → (t.trigger k).next.isSome = true ∧ t.bit (Reg.TIME_TRIG_STAT k) 0 = true))) ∧
    ((s.trigger k).pulse = none → exec (.triggerPulseEnd trig) s = .next s) ∧
    (∀ c, (s.trigger k).pulse = some c → c < 2 ^ 64 → Completes (.triggerPulseEnd trig) s (fun t => t.now = max s.now c ∧ (t.trigger k).pulse = none ∧
      (t.trigger k).next = (s.trigger k).next ∧ t.reply = [wd k, wd (bitOf cfg 3).toNat]))) ∧
  (∀ (s : State) (cap : Fin 8) (rise : Bool),
    let c := cap.val
    let x := s.capture c
    let on := if rise then s.bit (Reg.TIME_CAP_CFG c) 0 else s.bit (Reg.TIME_CAP_CFG c) 1
    (on = false → exec (.captureEdge cap rise) s = .next s) ∧
    (on = true → 4 ≤ x.fifo.length → exec (.captureEdge cap rise) s = .next (s.setCapture c { x with ovf := true })) ∧
    (on = true → x.fifo.length < 4 → Completes (.captureEdge cap rise) s (fun t => (t.capture c).fifo = x.fifo ++ [{ cnt := s.cnt, rise := rise, coarse := s.inRecess }] ∧
      (t.capture c).ovf = x.ovf ∧ (∀ j : Fin 8, j ≠ cap → t.capture j.val = s.capture j.val) ∧ t.points = s.points))) ∧
  ∀ (s : State) (m : Master) (cap : Fin 8),
    let u := s.woken m
    let c := cap.val
    let x := u.capture c
    let shown := [u.peekWord (Reg.TIME_CAP_INFO c)]
    u.pwr.off = false →
    (u.owns m = false → exec (.capturePop m cap) s = .next (u.emit shown)) ∧
    (u.owns m = true → x.fifo = [] → exec (.capturePop m cap) s = .next ((u.setCapture c { x with ovf := false }).emit shown)) ∧
    (∀ e rest, u.owns m = true → x.fifo = e :: rest → Completes (.capturePop m cap) s (fun t =>
      OnlyRegs ((u.setCapture c { fifo := rest, ovf := false }).emit shown) [Reg.TIME_CAP_LO c, Reg.TIME_CAP_HI c] t ∧
      t.rd (Reg.TIME_CAP_LO c) = e.cnt.setWidth 32 ∧ t.rd (Reg.TIME_CAP_HI c) = wd (e.cnt.toNat / 2 ^ 32)))

/-! ### Keys and tampering -/

/-- R292, R293, R298, R307: which commands of the key engine start, and how the others end at once. -/
def Obligations.KeyCommands : Prop :=
  (∀ (s : State) (n : Fin 8) (slot : BitVec 5) (target : BitVec 3),
    let m := Master.sess n
    let u := s.woken m
    let begun := fun (op : KeyOp) (k : BitVec 5) (t : State) => t.key.job = some { op := op, slot := k, sess := n.val, tenant := 0 } ∧ t.bit Reg.KEY_STAT 0 = true
    u.obeys m = true → u.key.job = none → u.bit Reg.KEY_TAMPER_STAT 16 = false → u.fld Reg.KEY_LCS 2 0 ≠ 5 →
    (u.bit Reg.SCAN_CTRL 0 = false → u.fld Reg.SCAN_PROG_STAT 3 0 = 0 → Completes (.transition m target) s (begun (.transition target) 0)) ∧
    Completes (.keyLoad m slot) s (begun .load slot) ∧ Completes (.keyErase m slot) s (begun .erase slot) ∧ Completes (.ownerRestore m) s (begun .ownerRestore 0) ∧
    Completes (.getNonce m) s (begun .getNonce 0) ∧ Completes (.keySha256 m) s (begun .sha256 0) ∧ Completes (.keySha384 m) s (begun .sha384 0) ∧
    Completes (.keyHmac m slot) s (begun .hmac slot) ∧ Completes (.keyGcmEnc m slot) s (begun .gcmEnc slot) ∧ Completes (.keyGcmDec m slot) s (begun .gcmDec slot) ∧
    Completes (.keySign m slot) s (begun .sign slot) ∧ Completes (.keyVerify m slot) s (begun .verify slot) ∧ Completes (.derive m slot) s (begun .derive slot) ∧
    Completes (.generate m slot) s (begun .generate slot) ∧ Completes (.identity m) s (begun .identity 0) ∧ Completes (.fuseSafetyKey m) s (begun .fuseSafetyKey 0)) ∧
  ∀ (s : State) (m : Master) (slot : BitVec 5) (target : BitVec 3) (i : Instr) (op : KeyOp) (k : BitVec 5), (i, op, k) ∈
      [(Instr.transition m target, KeyOp.transition target, (0 : BitVec 5)), (.keyLoad m slot, .load, slot), (.keyErase m slot, .erase, slot), (.ownerRestore m, .ownerRestore, 0),
        (.getNonce m, .getNonce, 0), (.keySha256 m, .sha256, 0), (.keySha384 m, .sha384, 0), (.keyHmac m slot, .hmac, slot), (.keyGcmEnc m slot, .gcmEnc, slot),
        (.keyGcmDec m slot, .gcmDec, slot), (.keySign m slot, .sign, slot), (.keyVerify m slot, .verify, slot), (.derive m slot, .derive, slot),
        (.generate m slot, .generate, slot), (.identity m, .identity, 0), (.fuseSafetyKey m, .fuseSafetyKey, 0)] →
    let u := s.woken m
    let lcs := u.fld Reg.KEY_LCS 2 0
    let change := match op with | .transition _ => true | _ => false
    let hash := match op with | .sha256 => true | .sha384 => true | _ => false
    let scanning := u.bit Reg.SCAN_CTRL 0 || !(u.fld Reg.SCAN_PROG_STAT 3 0 == 0 || u.fld Reg.SCAN_PROG_STAT 3 0 == 8)
    let ends := fun (code : Nat) => Completes i s (fun t => ∃ v : State, t = v.irq 5 ∧ OnlyRegs u [Reg.KEY_STAT] v ∧ v.bit Reg.KEY_STAT 0 = false ∧
      v.fld Reg.KEY_STAT 4 1 = code)
    let starts := fun (sess : Nat) (tenant : BitVec 12) (t : State) => t.key.job = some { op := op, slot := k, sess := sess, tenant := tenant } ∧
      t.bit Reg.KEY_STAT 0 = true ∧ t.fld Reg.KEY_STAT 31 16 = 0 ∧ (∀ a, a ≠ Reg.KEY_STAT → t.rd a = u.rd a) ∧ t.key.occ = u.key.occ ∧
      t.key.rows = u.key.rows ∧ t.locket = u.locket ∧ t.points = u.points
    let taken := hash || (!u.bit Reg.KEY_TAMPER_STAT 16 && lcs != 5 && !(change && scanning))
    u.obeys m = true →
    (u.key.job.isSome = true → change = false → exec i s = .next u) ∧
    (u.key.job.isSome = true → change = true → Completes i s (fun t => OnlyRegs u [Reg.KEY_STAT] t ∧ t.fld Reg.KEY_STAT 4 1 = 9 ∧ t.bit Reg.KEY_STAT 0 = u.bit Reg.KEY_STAT 0)) ∧
    (u.key.job = none → hash = false → u.bit Reg.KEY_TAMPER_STAT 16 = true → ends 8) ∧
    (u.key.job = none → hash = false → u.bit Reg.KEY_TAMPER_STAT 16 = false → lcs = 5 → ends 4) ∧
    (u.key.job = none → u.bit Reg.KEY_TAMPER_STAT 16 = false → lcs ≠ 5 → change = true → scanning = true → ends 9) ∧
    (∀ n, m = .sess n → u.key.job = none → taken = true → Completes i s (starts n.val 0)) ∧
    (m = .steward → u.key.job = none → taken = true → Completes i s (fun t => ∃ n, n < 8 ∧ starts n u.stewardTenant t))

/-- R291 to R293, R299 to R307: what each command of the key engine has done when it completes, and its RESULT. -/
def Obligations.KeyResults : Prop :=
  ∀ (s : State) (healthy : Bool), ((s.key.job = none ∨ s.pwr.off = true) → exec (.keyCommandDone healthy) s = .next s) ∧
  ∀ (j : KeyJob), s.key.job = some j → s.pwr.off = false → (s.bit Reg.KEY_TAMPER_STAT 16 = false ∨ j.op.hashing = true) →
    let k := j.slot.toNat
    let attr := s.rd (Reg.KEY_SLOT_ATTR k)
    let alg := bits attr 4 3
    let n := s.fld Reg.KEY_OP 27 16
    let owned := s.ownedLcs
    let root := s.bit Reg.KEY_LCS 16
    let serial := s.rd Reg.SYS_SERIAL_HI ++ s.rd Reg.SYS_SERIAL_LO
    let ends := fun (code : Nat) (P : State → Prop) => Completes (.keyCommandDone healthy) s (fun t => ∃ v : State, t = v.irq 5 ∧ v.key.job = none ∧
      v.bit Reg.KEY_STAT 0 = false ∧ v.fld Reg.KEY_STAT 4 1 = code ∧ P v)
    let kept := fun (v : State) => v.key.occ = s.key.occ ∧ v.key.rows = s.key.rows ∧ v.locket = s.locket ∧ v.fld Reg.KEY_LCS 2 0 = s.fld Reg.KEY_LCS 2 0
    let denied := fun (v : State) => kept v ∧ (v.rd Reg.KEY_DENY_CNT).toNat = min (2 ^ 32 - 1) ((s.rd Reg.KEY_DENY_CNT).toNat + 1)
    let gives := fun (l : List Byte) (v : State) => kept v ∧ v.keyBytes 2048 l.length = l ∧ v.fld Reg.KEY_STAT 31 16 = l.length
    let others := fun (v : State) => ∀ i, i < 32 → i ≠ k → v.slotFull i = s.slotFull i ∧ v.slotKey i = s.slotKey i ∧
      v.rd (Reg.KEY_SLOT_ATTR i) = s.rd (Reg.KEY_SLOT_ATTR i)
    let filled := fun (a : Word) (x : BitVec 256) (v : State) => others v ∧ v.slotFull k = true ∧ v.slotKey k = x ∧ v.rd (Reg.KEY_SLOT_ATTR k) = a &&& 0x03FFFFFF
    let typ := bits attr 2 0
    let algs := if typ = 2 then [0, 1] else if typ = 3 then [0, 2] else if typ = 4 then [0, 1, 2] else [0, 1, 2, 3]
    let meant := decide (1 ≤ typ) && decide (typ ≤ 4) && algs.contains alg
    let fits := meant && bitOf attr (21 + s.lcs)
    let idKey := fun (c : Nat) => Config.hkdf s.rootSecret serial 0x49 [BitVec.ofNat 8 c]
    let inGroup := fun (c : Nat) => 0 < (idKey c).toNat ∧ (idKey c).toNat < p256Order
    ((healthy = false ∧ s.drawsRandom j = true) → ends 13 kept) ∧
    (∀ c, c < 256 → inGroup c → (∀ d, d < c → ¬ inGroup d) → s.identityKey = idKey c) ∧
    ((healthy = true ∨ s.drawsRandom j = false) →
    (j.op = .getNonce → ends 0 (fun v => kept v ∧ v.key.nonce = s.key.nonce ∧ v.keyBytes 0 16 = bigBytes s.key.nonce)) ∧
    ((j.op = .sha256 ∨ j.op = .sha384 ∨ j.op = .hmac ∨ j.op = .sign ∨ j.op = .verify) → 2016 < n → ends 5 kept) ∧
    (j.op = .sha256 → n ≤ 2016 → ends 0 (gives (bigBytes (Config.sha256 (s.keyIn 0))))) ∧
    (j.op = .sha384 → n ≤ 2016 → ends 0 (gives (bigBytes (Config.sha384 (s.keyIn 0))))) ∧
    (j.op = .hmac → n ≤ 2016 → s.slotAllows j 2 6 = false → ends 1 denied) ∧
    (j.op = .hmac → n ≤ 2016 → s.slotAllows j 2 6 = true → ends 0 (gives ((bigBytes (Config.hmac (alg == 1) (s.slotKey k) (s.keyIn 0))).take (if alg = 1 then 48 else 32)))) ∧
    ((j.op = .gcmEnc ∨ j.op = .gcmDec) →
      let a := s.fld Reg.KEY_OP_AAD 10 0
      let key := s.slotKey k
      let data := s.keyIn (16 + (a + 15) / 16 * 16)
      let out := gcmXor key (s.keyBytes 0 12) data
      let tag := fun (l : List Byte) => Config.gcmTag key (s.keyBytes 0 12) (s.keyBytes 16 a) l
      let match_ := decide (tag data = bigVec 128 (s.keyBytes (16 + (a + 15) / 16 * 16 + n) 16))
      (2016 < a + n → ends 5 kept) ∧ (a + n ≤ 2016 → s.slotAllows j 1 6 = false → ends 1 denied) ∧
      (a + n ≤ 2016 → s.slotAllows j 1 6 = true → j.op = .gcmEnc → ends 0 (gives (out ++ bigBytes (tag out)))) ∧
      (a + n ≤ 2016 → s.slotAllows j 1 6 = true → j.op = .gcmDec → match_ = true → ends 0 (gives out)) ∧
      (a + n ≤ 2016 → s.slotAllows j 1 6 = true → j.op = .gcmDec → match_ = false → ends 10 kept)) ∧
    (j.op = .sign → n ≤ 2016 → s.slotAllows j 3 6 = false → ends 1 denied) ∧
    (j.op = .sign → n ≤ 2016 → s.slotAllows j 3 6 = true → ends 0 (gives (bigBytes (Config.sign alg (s.slotKey k) (s.keyIn 0) s.freeWord)))) ∧
    (j.op = .verify → n ≤ 2016 → s.slotAllows j 4 6 = false → ends 1 denied) ∧
    (j.op = .verify → n ≤ 2016 → s.slotAllows j 4 6 = true → ends (if Config.sha256 (s.keyBytes 0 (pubLen alg)) ≠ s.slotKey k then 11
      else if Config.verify alg (s.keyBytes 0 (pubLen alg)) (s.keyBytes 128 (sigLen alg)) (s.keyIn 256) then 0 else 2) kept) ∧
    (j.op = .identity → root = false → ends 4 kept) ∧
    (j.op = .identity → root = true → ends 0 (gives (publicKey 0 s.identityKey))) ∧
    (j.op = .fuseSafetyKey → s.fld Reg.KEY_LCS 2 0 = 2 → s.key.safetyKey = none → ends 0 (fun v => kept v ∧ v.key.safetyKey = some (bigVec 256 (s.keyBytes 0 32)))) ∧
    (j.op = .fuseSafetyKey → (s.fld Reg.KEY_LCS 2 0 ≠ 2 ∨ s.key.safetyKey ≠ none) → ends 4 (fun v => kept v ∧ v.key.safetyKey = s.key.safetyKey)) ∧
    (j.op = .derive → root = false → ends 4 kept) ∧
    ((j.op = .load ∨ j.op = .generate ∨ (j.op = .derive ∧ root = true)) → s.slotFull k = true → ends 6 kept) ∧
    (∀ c, owned = true → s.slotFull k = false → ((j.op = .load ∧ c = s.recordCheck [1] k s.recAnchor) ∨ (j.op = .generate ∧ c = s.recordCheck [5] k s.recAnchor) ∨
      (j.op = .derive ∧ root = true ∧ c = s.recordCheck [6] k s.recAnchor)) → c ≠ 0 → ends c kept) ∧
    (owned = false → s.slotFull k = false → (j.op = .load ∨ (j.op = .generate ∧ typ ≠ 4) ∨ (j.op = .derive ∧ root = true)) →
      (fits = false → ends (if meant = false then 5 else 1) kept) ∧
      (j.op = .load → fits = true → ends 0 (filled (setBitOf attr 12 false)
        (if typ = 4 then Config.sha256 (s.keyBytes 0 (pubLen alg)) else bigVec 256 (s.keyBytes 0 32)))) ∧
      (j.op = .derive → fits = true → ends 0 (filled (setBitOf attr 12 true) (Config.hkdf s.rootSecret serial 0x55 (s.keyBytes 0 (min 64 n))))) ∧
      (j.op = .generate → fits = true → ends 0 (fun v => ∃ x, filled (setBitOf attr 12 false) x v ∧
        (typ = 3 → v.keyBytes 2048 (pubLen alg) = publicKey alg x ∧ v.fld Reg.KEY_STAT 31 16 = pubLen alg)))) ∧
    (owned = false → s.slotFull k = false → j.op = .generate → typ = 4 → ends 5 kept) ∧
    (j.op = .erase → owned = true → s.recordCheck [4] k s.recAnchor ≠ 0 → ends (s.recordCheck [4] k s.recAnchor) kept) ∧
    (j.op = .erase → (owned = true → s.recordCheck [4] k s.recAnchor = 0) → ends 0 (fun v => others v ∧ v.slotFull k = false ∧ v.slotKey k = 0 ∧ v.rd (Reg.KEY_SLOT_ATTR k) = 0)) ∧
    (j.op = .ownerRestore → owned = false → ends 4 kept) ∧
    (j.op = .ownerRestore → owned = true → s.slotFull 0 = true → ends 6 kept) ∧
    (j.op = .ownerRestore → owned = true → s.slotFull 0 = false → s.recordCheck [3] 0 s.recAnchor ≠ 0 → ends (s.recordCheck [3] 0 s.recAnchor) kept) ∧
    (j.op = .ownerRestore → owned = true → s.slotFull 0 = false → s.recordCheck [3] 0 s.recAnchor = 0 → ends 0 (fun v => v.slotFull 0 = true ∧ v.slotFull 1 = true ∧
      v.slotKey 0 = Config.sha256 s.recSigner ∧ ∀ i, 2 ≤ i → i < 32 → v.slotFull i = s.slotFull i ∧ v.slotKey i = s.slotKey i)) ∧
    ∀ target, j.op = .transition target →
      let old := s.fld Reg.KEY_LCS 2 0
      let new := target.toNat
      let changed := fun (v : State) => v.fld Reg.KEY_LCS 2 0 = new ∧ (new ≠ 5 → v.key.rows.length = s.key.rows.length + 1) ∧ (new = 5 → v.key.scrapped = true ∧ v.settings = []) ∧
        (∀ i, 2 ≤ i → i < 32 → v.slotFull i = false) ∧ v.bit Reg.DBG_STAT 1 = false ∧ v.scan.retentiveLost = some 10
      let free := [(0, 1), (0, 2), (1, 2), (0, 5), (1, 5), (4, 5)].contains (old, new)
      let byOwner := [(2, 3), (3, 2), (2, 4), (3, 4), (4, 1), (2, 5), (3, 5)].contains (old, new)
      let check := s.recordCheck (if old = 4 then [7] else if new = 4 ∨ new = 5 then [2, 7] else [2]) new s.recAnchor
      (free = false → byOwner = false → ends 4 kept) ∧
      ((free = true ∨ byOwner = true) → 23 ≤ s.key.rows.length → new ≠ 5 → ends 7 kept) ∧
      let badAlg := decide (new = 2) && decide (2 < ((s.keyBytes 511 1).getD 0 0).toNat)
      (free = true → (s.key.rows.length < 23 ∨ new = 5) → badAlg = true → ends 5 kept) ∧
      (free = true → (s.key.rows.length < 23 ∨ new = 5) → badAlg = false → ends 0 changed) ∧
      (byOwner = true → (s.key.rows.length < 23 ∨ new = 5) → check ≠ 0 → ends check kept) ∧
      (byOwner = true → (s.key.rows.length < 23 ∨ new = 5) → check = 0 → old = 2 → new = 3 → s.unwrapField = none → ends 10 kept) ∧
      (byOwner = true → (s.key.rows.length < 23 ∨ new = 5) → check = 0 → badAlg = true → ends 5 kept) ∧
      (byOwner = true → (s.key.rows.length < 23 ∨ new = 5) → check = 0 → badAlg = false → (old = 2 → new = 3 → s.unwrapField ≠ none) → ends 0 changed))

/-! ### Hosts, ownership and the register interface -/

/-- R311 to R313: the commands of the hall pass, its election, its lease and its handover; what a change of Prefect leaves. -/
def Obligations.HallPass : Prop :=
  (∀ (s : State) (i : Instr) (prio : BitVec 8) (nonce : BitVec 16) (target : BitVec 3), i ∈ [Instr.claim .steward prio nonce, .renew .steward nonce, .release .steward,
    .withdraw .steward, .handover .steward target, .accept .steward prio nonce] → exec i s = .next s) ∧
  (∀ (s : State) (n : Fin 8) (prio : BitVec 8) (nonce : BitVec 16), s.pwr.off = false →
    let u := s.woken (.sess n)
    let refused := fun (code : BitVec 3) => (Host.Outcome.next (u.setLastErr n code) : Host.Outcome State Fault Refusal)
    let pend := fun (t : State) => ∀ j : Fin 8, t.bit Reg.HOST_PASS_PEND j.val = (t.claimOf j).isSome
    (u.prefect = some n → exec (.claim (.sess n) prio nonce) s = .next u) ∧
    (u.prefect ≠ some n → Completes (.claim (.sess n) prio nonce) s (fun t => t.claimOf n = some { sess := n, prio := prio, nonce := nonce } ∧
      (∀ j, j ≠ n → t.claimOf j = u.claimOf j) ∧ pend t ∧ t.prefect = u.prefect ∧ (u.prefect = none → u.host.electionClose = none →
        t.host.electionClose = some (u.now + (if u.host.firstDone then 5000000 else 250000000)) ∧ t.bit Reg.HOST_PASS_STAT 4 = true) ∧
      ((u.prefect ≠ none ∨ u.host.electionClose ≠ none) → t.host.electionClose = u.host.electionClose))) ∧
    (u.prefect ≠ some n → exec (.renew (.sess n) nonce) s = refused 1) ∧
    (u.prefect = some n → nonce ≠ u.host.nonce → exec (.renew (.sess n) nonce) s = refused 2) ∧
    (u.prefect = some n → nonce = u.host.nonce → exec (.renew (.sess n) nonce) s = .next { u with host := { u.host with renewedAt := u.now } }) ∧
    (u.prefect ≠ some n → exec (.release (.sess n)) s = refused 1) ∧
    (u.prefect = some n → exec (.release (.sess n)) s = .next (u.passTo none 3).electPending) ∧
    Completes (.withdraw (.sess n)) s (fun t => t.claimOf n = none ∧ (∀ j, j ≠ n → t.claimOf j = u.claimOf j) ∧ pend t ∧ OnlyRegs { u with host := t.host } [Reg.HOST_PASS_PEND] t) ∧
    (∀ target : BitVec 3, (u.prefect ≠ some n → exec (.handover (.sess n) target) s = refused 1) ∧
      (∀ k : Fin 8, target.toNat = k.val → u.prefect = some n → (k = n → exec (.handover (.sess n) target) s = .next u) ∧
        (∀ c, k ≠ n → u.claimOf k = some c → exec (.handover (.sess n) target) s = .next (u.passTo (some c) 5)) ∧
        (k ≠ n → u.claimOf k = none → exec (.handover (.sess n) target) s = .next { u with host := { u.host with handover := some (k, u.now) } }))) ∧
    (∀ at0, u.host.handover = some (n, at0) → u.now ≤ at0 + 25000000 → exec (.accept (.sess n) prio nonce) s =
      .next (u.passTo (some { sess := n, prio := prio, nonce := nonce }) 5)) ∧
    ((∀ at0, u.host.handover = some (n, at0) → at0 + 25000000 < u.now) → exec (.accept (.sess n) prio nonce) s = .next u)) ∧
  (∀ (s : State), (s.host.electionClose = none → exec .electionClose s = .next s) ∧
    (∀ e, s.host.electionClose = some e → e < 2 ^ 64 → Completes .electionClose s (fun t => ∃ v : State, v.now = max s.now e ∧ v.host.electionClose = none ∧
      v.host.firstDone = true ∧ v.host.claims = s.host.claims ∧ OnlyRegs s [Reg.HOST_PASS_STAT] { v with host := s.host, cnt := s.cnt } ∧
      v.bit Reg.HOST_PASS_STAT 4 = false ∧ (s.host.claims = [] → t = v) ∧
      (∀ c ∈ s.host.claims, (∀ x ∈ s.host.claims, x ≠ c → x.prio.toNat < c.prio.toNat ∨ (x.prio = c.prio ∧ c.sess.val < x.sess.val)) → t = v.passTo (some c) 1))) ∧
    (s.prefect = none → exec .leaseLapse s = .next s) ∧
    (s.prefect ≠ none → s.host.renewedAt + 125000000 < 2 ^ 64 → Completes .leaseLapse s (fun t => ∃ v w : State, t = (v.passTo none 2).electPending ∧
      v.now = max s.now (s.host.renewedAt + 125000000) ∧ w = { s with cnt := v.cnt } ∧ (s.now ≤ s.host.renewedAt + 100000000 → v = w.irq 11) ∧
      (s.host.renewedAt + 100000000 < s.now → v = w))) ∧
    (s.host.handover = none → exec .handoverLapse s = .next s) ∧
    (∀ k at0, s.host.handover = some (k, at0) → at0 + 25000000 < 2 ^ 64 → Completes .handoverLapse s (fun t => t.now = max s.now (at0 + 25000000) ∧
      t.host.handover = none ∧ t.bit Reg.HOST_PASS_STAT 6 = true ∧ t.prefect = s.prefect ∧ OnlyRegs { s with cnt := t.cnt, host := t.host } [Reg.HOST_PASS_STAT] t))) ∧
  ∀ (s : State) (new : Option ClaimSt) (cause : Nat),
    let t := s.passTo new cause
    let st := s.fld Reg.SCAN_PROG_STAT 3 0
    t.prefect = new.map (·.sess) ∧ t.host.handover = none ∧ t.rd Reg.ROSTER_VIEW = 0 ∧ t.now = s.now ∧ t.points = s.points ∧
    (∀ c, new = some c → t.host.nonce = c.nonce ∧ t.host.renewedAt = s.now ∧ t.fld Reg.HOST_PASS_STAT 15 8 = c.prio.toNat ∧ t.claimOf c.sess = none ∧
      ∀ j, j ≠ c.sess → t.claimOf j = s.claimOf j) ∧
    (new = none → t.host.claims = s.host.claims ∧ t.host.renewedAt = s.host.renewedAt) ∧
    (1 ≤ st → st ≤ 4 → t.rd Reg.SCAN_PROG_STAT = s.rd Reg.SCAN_PROG_STAT &&& 0xFFFFFFE0 ∧ t.scan.staged = []) ∧
    (s.host.claims.isEmpty = true → s.electPending = s) ∧
    (s.host.claims.isEmpty = false → s.electPending.host.electionClose = some (s.now + (if s.host.firstDone then 5000000 else 250000000)) ∧
      s.electPending.bit Reg.HOST_PASS_STAT 4 = true ∧ s.electPending.prefect = s.prefect)

/-- R308, R310, R313 to R315: sessions that come and go, a session's last error, the PCIe function, and the QSPI port. -/
def Obligations.Sessions : Prop :=
  (∀ (s : State) (n : Fin 8),
    (n.val = 1 → s.bit Reg.HOST_CFG 0 = false → exec (.sessionAppear n) s = .next s) ∧
    ((n.val ≠ 1 ∨ s.bit Reg.HOST_CFG 0 = true) → Completes (.sessionAppear n) s (fun t => OnlyRegs s [Reg.HOST_PASS_PEND] t ∧ t.bit Reg.HOST_PASS_PEND (8 + n.val) = true)) ∧
    Completes (.sessionEnd n) s (fun t => ∃ v : State, OnlyRegs { s with host := v.host } [Reg.HOST_PASS_PEND] v ∧ v.bit Reg.HOST_PASS_PEND (8 + n.val) = false ∧
      v.claimOf n = none ∧ (∀ j, j ≠ n → v.claimOf j = s.claimOf j) ∧ (s.prefect ≠ some n → t = v) ∧ (s.prefect = some n → t = (v.passTo none 4).electPending)) ∧
    (let u := s.woken (.sess n)
     u.pwr.off = false → exec (.lastErrRead (.sess n)) s = .next ((u.setLastErr n 0).emit [wd (u.host.lastErr[n]).toNat])) ∧
    (s.pwr.off = false → exec (.lastErrRead .steward) s = .next (s.emit [0]))) ∧
  (∀ (s : State) (b : Bool) (us : Option Nat),
    exec (.pciePowerState (.d3hot true)) s = .next { s with host := { s.host with d3hot := true } } ∧
    exec (.pciePowerState (.d3hot false)) s = .next (State.wakeRequest { s with host := { s.host with d3hot := false } } 0) ∧
    exec (.pciePowerState (.l1 true)) s = .next { s with host := { s.host with l1 := true } } ∧
    exec (.pciePowerState (.l1 false)) s = .next (State.wakeRequest { s with host := { s.host with l1 := false } } 0) ∧
    exec (.pciePowerState (.pmeEn b)) s = .next { s with host := { s.host with pmeEn := b } } ∧
    exec (.pciePowerState .pmeClear) s = .next { s with host := { s.host with pmeStatus := false } } ∧
    exec (.pciePowerState (.ltr us)) s = .next { s with host := { s.host with ltr := us } }) ∧
  ∀ (s : State) (addr : BitVec 24) (v : Word),
    let u := s.wakeRequest 0
    (s.qspiOn = false → exec (.qspiWrite addr v) s = .next s ∧ exec .qspiStatus s = .next s ∧ exec (.qspiRead addr) s = .next s) ∧
    (s.qspiOn = true → u.host.qspi.length < 4 → exec (.qspiWrite addr v) s = .next { u with host := { u.host with qspi := u.host.qspi ++ [(addr, v)] } }) ∧
    (s.qspiOn = true → 4 ≤ u.host.qspi.length → exec (.qspiWrite addr v) s = .next (u.setLastErr 1 3)) ∧
    (s.qspiOn = true → exec .qspiStatus s = .next (u.emit [wd ((if u.host.qspi = [] then 0 else 1) + (if u.host.lastErr[1] = 0 then 0 else 2) +
      (if u.rd (Reg.HOST_IRQ_STAT 1) &&& u.rd (Reg.HOST_IRQ_EN 1) = 0 then 0 else 4))])) ∧
    (s.qspiOn = true → s.host.qspi = [] → Completes (.qspiRead addr) s (fun t => ∃ (r : State) (w : Word), s.busRead (.sess 1) addr.toNat = (r, w) ∧ t = r.emit [w])) ∧
    (∀ a x q, s.qspiOn = true → s.host.qspi = [(a, x)] → State.busWrite { s with host := { s.host with qspi := [] } } (.sess 1) a.toNat 0xF x = .next q →
      Completes (.qspiRead addr) s (fun t => ∃ (r : State) (w : Word), q.busRead (.sess 1) addr.toNat = (r, w) ∧ t = r.emit [w]))

/-- R5, R320, R321, R328 to R331, R369: what a read and a write of a register give and do, the edge cases of the bridge, and the phases. -/
def Obligations.RegisterAccess : Prop :=
  (∀ (s : State) (m : Master) (addr : BitVec 24),
    let a := addr.toNat / 4 * 4
    let u := if aonRegister a then s else s.woken m
    let reads := fun (l : List Nat) (w : Word) (P : State → Prop) => Completes (.readClear m addr) s (fun t => OnlyRegs (u.emit [w]) l t ∧ P t)
    let point := decide (0x800000 ≤ a ∧ a < 0x900000)
    let hidden := (u.viewOf m).any (fun t => !u.mayRead t (BitVec.ofNat 14 ((a - 0x800000) / 64)))
    let special := (List.range 8).any (fun c => a == Reg.TIME_CAP_INFO c || a == Reg.LIFT_CAR_DZCAP_INFO c) || a == Reg.HOST_LAST_ERR
    (u.pwr.off = true → exec (.readClear m addr) s = .next u) ∧
    (u.pwr.off = false → u.phase = 3 → deadBlock a = false → exec (.readClear m addr) s = .next (u.emit [0])) ∧
    (u.pwr.off = false → (u.phase ≠ 3 ∨ deadBlock a = true) →
    (point = true → hidden = false → exec (.readClear m addr) s = .next (u.emit [u.pointWord (BitVec.ofNat 14 ((a - 0x800000) / 64)) (a % 64 / 4)])) ∧
    (point = true → hidden = true → reads [Reg.ROSTER_VIEW_DENY] 0 (fun t => (t.rd Reg.ROSTER_VIEW_DENY).toNat = min (2 ^ 32 - 1) ((u.rd Reg.ROSTER_VIEW_DENY).toNat + 1))) ∧
    (point = false → u.absentBlock a = true → exec (.readClear m addr) s = .next (u.emit [0])) ∧
    (point = false → u.absentBlock a = false → regSpec? a = none → reads [Reg.SYS_BUS_ERR, Reg.SYS_BUS_LAST] 0 (fun t => t.fld Reg.SYS_BUS_ERR 7 0 = min 255 (u.fld Reg.SYS_BUS_ERR 7 0 + 1))) ∧
    (∀ r, point = false → regSpec? a = some r → u.absentBlock a = false → u.linkUp a = false →
      reads [Reg.SYS_BUS_ERR, Reg.SYS_BUS_LAST] 0 (fun t => t.fld Reg.SYS_BUS_ERR 31 24 = min 255 (u.fld Reg.SYS_BUS_ERR 31 24 + 1))) ∧
    (∀ r, point = false → regSpec? a = some r → u.absentBlock a = false → u.linkUp a = true → special = false →
      (u.owns m = false ∨ u.hidden m a = true ∨ r.rc = 0 ∨ a / 0x10000 = 0x1F) →
      exec (.readClear m addr) s = .next (u.emit [u.shown m a])) ∧
    (∀ r, point = false → regSpec? a = some r → u.absentBlock a = false → u.linkUp a = true → special = false → u.owns m = true → u.hidden m a = false →
      a / 0x10000 ≠ 0x1F → reads [a] (u.shown m a) (fun t => t.rd a = u.rd a &&& ~~~r.rc)))) ∧
  (∀ (s : State) (m : Master) (addr : BitVec 24) (v : Word) (be : BitVec 4),
    let a := addr.toNat / 4 * 4
    let u := if aonRegister a then s else s.woken m
    let point := decide (0x800000 ≤ a ∧ a < 0x900000)
    let may := u.owns m || ownRegister m a
    let kept := !u.viewed m || viewKeeps m a
    let alive := u.phase != 3 || deadBlock a
    let whole := decide (m ≠ .sess 0) || be == 15
    let counted := fun (kind : Nat) => Completes (.registerWrite m addr v be) s (fun t => OnlyRegs u [Reg.SYS_BUS_ERR, Reg.SYS_BUS_LAST] t ∧
      t.fld Reg.SYS_BUS_ERR (8 * kind + 7) (8 * kind) = min 255 (u.fld Reg.SYS_BUS_ERR (8 * kind + 7) (8 * kind) + 1))
    let keeps := fun (x : Word) => if m = .steward then (x &&& ~~~(stewardMask a)) ||| (v &&& stewardMask a) else x
    let live := u.phase != 1 && a / 0x10000 != 9 && (regSpec? a).any (fun r => r.rw != 0 && v &&& r.rsv != 0)
    (u.pwr.off = true → exec (.registerWrite m addr v be) s = .next u) ∧
    (∀ n, m = .sess n → u.pwr.off = false → may = false → exec (.registerWrite m addr v be) s = .next (u.dropNotOwner n)) ∧
    (u.pwr.off = false → may = true → kept = false → Completes (.registerWrite m addr v be) s (fun t => OnlyRegs u [Reg.ROSTER_VIEW_DENY] t ∧
      (t.rd Reg.ROSTER_VIEW_DENY).toNat = min (2 ^ 32 - 1) ((u.rd Reg.ROSTER_VIEW_DENY).toNat + 1))) ∧
    (u.pwr.off = false → may = true → kept = true → alive = false → exec (.registerWrite m addr v be) s = .next u) ∧
    (u.pwr.off = false → may = true → kept = true → alive = true → whole = false → counted 1) ∧
    (u.pwr.off = false → may = true → kept = true → alive = true → whole = true → point = true →
      exec (.registerWrite m addr v be) s = .next (u.pointWrite m (BitVec.ofNat 14 ((a - 0x800000) / 64)) (a % 64 / 4) v)) ∧
    (u.pwr.off = false → may = true → kept = true → alive = true → whole = true → point = false → u.absentBlock a = true → exec (.registerWrite m addr v be) s = .next u) ∧
    (u.pwr.off = false → may = true → kept = true → alive = true → whole = true → point = false → u.absentBlock a = false → regSpec? a = none → counted 0) ∧
    (∀ r, u.pwr.off = false → may = true → kept = true → alive = true → whole = true → point = false → u.absentBlock a = false → regSpec? a = some r →
      (u.linkUp a = false → counted 3) ∧
      (u.linkUp a = true → a = Reg.HOST_PASS_CMD → (m = .steward → exec (.registerWrite m addr v be) s = .next u) ∧ ∀ n, m = .sess n → exec (.registerWrite m addr v be) s = .next (u.passWrite n v)) ∧
      (u.linkUp a = true → a ≠ Reg.HOST_PASS_CMD → live = true → exec (.registerWrite m addr v be) s =
        if v &&& r.rsv &&& Config.liveControls a = 0 then .next (u.regWrite m a v) else .fault .liveTestControl) ∧
      (u.linkUp a = true → a ≠ Reg.HOST_PASS_CMD → live = false → u.blockWrite m a v = none →
        Completes (.registerWrite m addr v be) s (fun t => OnlyRegs u [a] t ∧ t.rd a = keeps ((u.rd a &&& ~~~(r.rw ||| (r.w1c &&& v))) ||| (v &&& r.rw)))) ∧
      (∀ b, u.linkUp a = true → a ≠ Reg.HOST_PASS_CMD → live = false → u.blockWrite m a v = some b →
        Completes (.registerWrite m addr v be) s (fun t => OnlyRegs b [a] t ∧ t.rd a = keeps (b.rd a))))) ∧
  (∀ (s : State) (m : Master) (addr : BitVec 24) (write : Bool), (s.pwr.off = true → exec (.busWatchdog m addr write) s = .next s) ∧
    (s.pwr.off = false → Completes (.busWatchdog m addr write) s (fun t => ∃ v : State, OnlyRegs s [Reg.SYS_BUS_ERR, Reg.SYS_BUS_LAST] v ∧
    v.fld Reg.SYS_BUS_ERR 23 16 = min 255 (s.fld Reg.SYS_BUS_ERR 23 16 + 1) ∧
    t = (if write then id else (State.emit · [0xFFFFFFFF])) (v.record { sev := 5, source := 0x00, code := 331, session := m.session, args := [wd addr.toNat] })))) ∧
  ∀ (s : State) (m : Master),
    let u := s.woken m
    let lcs := u.fld Reg.KEY_LCS 2 0
    let may := decide (m ≠ .steward) && u.phase == 1 && (lcs == 1 || lcs == 4) && !u.bit Reg.SCAN_CTRL 0
    let moved := fun (old new : Nat) (t : State) => ∃ v : State, t = v.record { sev := 4, source := 0x00, code := 328, session := m.session, args := [wd old, wd new] } ∧
      OnlyRegs u [Reg.SYS_PHASE] v ∧ v.phase = new ∧ v.bit Reg.SYS_PHASE 8 = true
    u.pwr.off = false → u.owns m = true → u.viewed m = false →
    (may = true → Completes (.enterTest m) s (moved 1 2)) ∧
    (may = false → Completes (.enterTest m) s (fun t => OnlyRegs u [Reg.SYS_PHASE] t ∧ t.phase = u.phase ∧ t.bit Reg.SYS_PHASE 9 = true)) ∧
    (u.phase = 2 → Completes (.leaveTest m) s (moved 2 1)) ∧
    (u.phase ≠ 2 → exec (.leaveTest m) s = .next u)

/-- R324 to R326, R332, R333: the mailbox and the POINT window. -/
def Obligations.WindowsOfObjects : Prop :=
  (∀ (s : State) (m : Master) (v : Word),
    let u := s.woken m
    let space := bits v 31 28
    let index := bits v 19 0
    let view := u.viewOf m
    let gone := fun (w : Word) (t : State) => OnlyRegs { u with bus := t.bus } [Reg.MBOX_SEL, Reg.MBOX_STAT] t ∧ t.rd Reg.MBOX_SEL = w ∧ t.rd Reg.MBOX_STAT = 0 ∧
      t.bus.latch = [] ∧ t.bus.latching = none ∧ t.bus.stage = u.bus.stage
    u.pwr.off = false → u.phase ≠ 3 → u.owns m = true →
    (space = 0 → Completes (.mboxLatch m v) s (gone (v &&& 0xF00FFFFF))) ∧ Completes (.mboxRelease m) s (gone 0) ∧
    (space ≠ 0 → Completes (.mboxLatch m v) s (fun t => OnlyRegs { u with bus := t.bus } [Reg.MBOX_SEL, Reg.MBOX_STAT] t ∧ t.rd Reg.MBOX_SEL = v &&& 0xF00FFFFF ∧
      t.rd Reg.MBOX_STAT = 2 ∧ t.bus.latch = [] ∧ t.bus.latching = some (space, index, view) ∧
      t.bus.early = if space = 2 then some (u.mboxObject 2 index view) else none))) ∧
  (∀ (s : State), (s.bus.latching = none → exec .mboxLatchDone s = .next s) ∧
    ∀ space index view, s.bus.latching = some (space, index, view) →
      let gives := fun (err : Nat) (l : List Word) => Completes .mboxLatchDone s (fun t => ∃ v : State, t = v.irq 7 ∧ OnlyRegs { s with bus := v.bus } [Reg.MBOX_STAT] v ∧
        v.rd Reg.MBOX_STAT = wd (1 + 4 * err) ∧ v.bus.latch = l ∧ v.bus.latching = none)
      let words := fun (n : Nat) => [wd n, wd (n / 2 ^ 32), wd (n / 2 ^ 64), wd (n / 2 ^ 96)]
      (∀ err l, s.bus.early = some (err, l) → gives err l) ∧
      (s.bus.early = none →
        ((space = 0 ∨ 4 < space ∨ (space = 3 ∧ index ≠ 0) ∨ ((space = 1 ∨ space = 2) ∧ (127 < index ∨ 5 < index % 8)) ∨ (space = 4 ∧ 65535 < index)) → gives 1 []) ∧
        (space = 1 → index ≤ 127 → index % 8 ≤ 5 →
          (s.variant = 2 → gives 2 []) ∧ (s.variant ≠ 2 → s.meter.link = false → gives 5 []) ∧
          (s.variant ≠ 2 → s.meter.link = true → view.any (fun t => !s.cktGranted t (index / 8)) = true → gives 4 []) ∧
          (s.variant ≠ 2 → s.meter.link = true → view.any (fun t => !s.cktGranted t (index / 8)) = false → gives 0 (words (s.energy index)))) ∧
        (space = 3 → index = 0 → gives 0 [wd (s.appliedNs % 1000000000), wd s.appliedSec,
          wd (s.appliedSec / 2 ^ 32 % 65536 + 65536 * (s.bit Reg.TIME_STAT 0).toNat + 131072 * (s.bit Reg.TIME_STAT 1).toNat), s.cnt.setWidth 32]) ∧
        (space = 4 → index ≤ 65535 → Tab.get (fun _ => none) s.acc.store index = none → gives 3 []) ∧
        (∀ r : Vector Word 8, space = 4 → index ≤ 65535 → Tab.get (fun _ => none) s.acc.store index = some r →
          (view.any (fun t => BitVec.ofNat 12 (bits r[2] 11 0) != t) = true → gives 4 []) ∧
          (view.any (fun t => BitVec.ofNat 12 (bits r[2] 11 0) != t) = false → gives 0 r.toList)))) ∧
  (∀ (s : State) (m : Master) (idx : PointIdx) (word : BitVec 4) (v : Word),
    let u := s.woken m
    u.pwr.off = false → u.phase ≠ 3 → u.owns m = true → (u.viewOf m).any (fun t => !u.mayWrite t idx) = false → (u.point idx).producer = 7 →
    u.bit Reg.SYS_PT_STAGE 14 = false → u.fld Reg.SYS_PT_STAGE 31 16 = 0 →
    Completes (.pointValueWrite m idx v) s (fun t => t.rd Reg.SYS_PT_STAGE = wd idx.toNat ∧ PointCommitted u idx { value := some v, aux := [none, none, none, none] } t) ∧
    (word.toNat ∈ [1, 2, 12, 13, 14, 15] → Completes (.pointStageWrite m idx word v) s (fun t => t.points = u.points ∧ t.bus.stage[word.toNat]? = some v ∧
      t.rd Reg.SYS_PT_STAGE = wd (idx.toNat + 16384 + 2 ^ (16 + word.toNat))))) ∧
  (∀ (s : State) (m : Master) (idx : PointIdx) (word : BitVec 4) (v : Word) (i : Instr),
    let u := s.woken m
    let w := if i = Instr.pointValueWrite m idx v then 0 else word.toNat
    let counted := fun (hi lo : Nat) => Completes i s (fun t => OnlyRegs u [Reg.SYS_PT_DROP] t ∧ t.fld Reg.SYS_PT_DROP hi lo = min 65535 (u.fld Reg.SYS_PT_DROP hi lo + 1))
    let open_ := !(u.viewOf m).any (fun t => !u.mayWrite t idx)
    let mask := u.fld Reg.SYS_PT_STAGE 31 16
    let same := decide (u.fld Reg.SYS_PT_STAGE 13 0 = idx.toNat)
    let valid := u.bit Reg.SYS_PT_STAGE 14
    let staged := fun n => if mask / 2 ^ n % 2 = 1 then some (u.bus.stage.toList.getD n 0) else none
    let whole : CommitSet := { value := some v, valueHi := staged 1, level := (staged 2).map (fun q => BitVec.ofNat 2 (bits q 1 0)), overrange := (staged 2).map (fun q => bitOf q 12), detail := (staged 2).map (fun q => BitVec.ofNat 8 (bits q 23 16)), aux := [staged 12, staged 13, staged 14, staged 15] }
    (i = .pointStageWrite m idx word v ∨ i = .pointValueWrite m idx v) → u.pwr.off = false → u.phase ≠ 3 → u.owns m = true →
    (open_ = false → Completes i s (fun t => OnlyRegs u [Reg.ROSTER_VIEW_DENY] t ∧ (t.rd Reg.ROSTER_VIEW_DENY).toNat = min (2 ^ 32 - 1) ((u.rd Reg.ROSTER_VIEW_DENY).toNat + 1))) ∧
    (open_ = true → (u.point idx).producer ≠ 7 → counted 31 16) ∧
    (open_ = true → (u.point idx).producer = 7 → w ∉ [0, 1, 2, 12, 13, 14, 15] → counted 15 0) ∧
    (open_ = true → (u.point idx).producer = 7 → w = 0 → valid = true → same = true → Completes i s (fun t => t.rd Reg.SYS_PT_STAGE = wd idx.toNat ∧
      PointCommitted u idx whole t)) ∧
    (open_ = true → (u.point idx).producer = 7 → w = 0 → ((valid = true ∧ same = false) ∨ (valid = false ∧ mask = 0)) → Completes i s (fun t =>
      t.rd Reg.SYS_PT_STAGE = wd idx.toNat ∧ PointCommitted u idx { value := some v, aux := [none, none, none, none] } t)) ∧
    (open_ = true → (u.point idx).producer = 7 → w ∈ [1, 2, 12, 13, 14, 15] → ((valid = true ∧ same = true) ∨ (valid = false ∧ mask = 0)) → Completes i s (fun t =>
      OnlyRegs { u with bus := t.bus } [Reg.SYS_PT_STAGE] t ∧ t.bus.latch = u.bus.latch ∧ t.bus.stage[w]? = some v ∧ (∀ n, n ≠ w → t.bus.stage[n]? = u.bus.stage[n]?) ∧
      t.fld Reg.SYS_PT_STAGE 13 0 = idx.toNat ∧ t.bit Reg.SYS_PT_STAGE 14 = true ∧ ∀ n, n < 16 → t.bit Reg.SYS_PT_STAGE (16 + n) = (decide (n = w) || u.bit Reg.SYS_PT_STAGE (16 + n)))) ∧
    (open_ = true → (u.point idx).producer = 7 → w ∈ [1, 2, 12, 13, 14, 15] → valid = true → same = false → Completes i s (fun t =>
      t.points = u.points ∧ t.bus.stage[w]? = some v ∧ t.rd Reg.SYS_PT_STAGE = wd (idx.toNat + 16384 + 2 ^ (16 + w)) ∧
      (t.rd Reg.SYS_PT_DISCARD).toNat = min (2 ^ 32 - 1) ((u.rd Reg.SYS_PT_DISCARD).toNat + ((List.range 16).filter (fun n => u.bit Reg.SYS_PT_STAGE (16 + n))).length))))
/-! ### The Charm and power -/

/-- R316 to R318: the Charm: transfers and locks of the host, commands of the RF side, and what commits its shadows. -/
def Obligations.CharmTransfers : Prop :=
  (∀ (s : State) (m : Master),
    let u := s.woken m
    let n := u.fld Reg.CHARM_XFER 5 0
    u.obeys m = true → u.bit Reg.CHARM_XFER_STAT 0 = false → u.bit Reg.CHARM_STAT 2 = true → u.rfLocked n = false →
    Completes (.charmRead m) s (fun t => t.rd Reg.CHARM_XFER_STAT = 0 ∧ ∀ k, k < 64 → t.rd (Reg.CHARM_BUF k) = bytesWord ((u.sector n).drop (4 * k))) ∧
    (1 ≤ n → n < 56 → Completes (.charmWrite m) s (fun t => t.rd Reg.CHARM_XFER_STAT = 0 ∧
      t.sector n = (List.range 64).flatMap (fun k => wordBytes (u.rd (Reg.CHARM_BUF k)))))) ∧
  (∀ (s : State) (m : Master) (write : Bool),
    let i := if write then Instr.charmWrite m else Instr.charmRead m
    let u := s.woken m
    let n := u.fld Reg.CHARM_XFER 5 0
    let denied := write && (n == 0 || decide (56 ≤ n)) && !(decide (m = .steward) && decide (56 ≤ n))
    let up := u.bit Reg.CHARM_STAT 2
    let answers := fun (l : List Nat) (stat : Word) (P : State → Prop) => Completes i s (fun t => OnlyRegs { u with charm := t.charm } (Reg.CHARM_XFER :: Reg.CHARM_XFER_STAT :: l) t ∧
      t.rd Reg.CHARM_XFER_STAT = stat ∧ P t)
    u.obeys m = true →
    (u.bit Reg.CHARM_XFER_STAT 0 = true → exec i s = .next u) ∧
    (u.bit Reg.CHARM_XFER_STAT 0 = false → denied = true → answers [] 4 (fun t => t.charm = u.charm)) ∧
    (u.bit Reg.CHARM_XFER_STAT 0 = false → denied = false → up = false → answers [] 2 (fun t => t.charm = u.charm)) ∧
    (u.bit Reg.CHARM_XFER_STAT 0 = false → denied = false → up = true → u.rfLocked n = true → answers [Reg.CHARM_CNT] 1 (fun t => t.charm.waiting = some u.now ∧
      t.charm.mem = u.charm.mem ∧ t.fld Reg.CHARM_CNT 31 16 = min 65535 (u.fld Reg.CHARM_CNT 31 16 + 1))) ∧
    (u.bit Reg.CHARM_XFER_STAT 0 = false → denied = false → up = true → u.rfLocked n = false → write = false → answers ((List.range 64).map Reg.CHARM_BUF) 0 (fun t =>
      t.charm.mem = u.charm.mem ∧ ∀ k, k < 64 → t.rd (Reg.CHARM_BUF k) = bytesWord ((u.sector n).drop (4 * k)))) ∧
    (u.bit Reg.CHARM_XFER_STAT 0 = false → denied = false → up = true → u.rfLocked n = false → write = true → answers [] 0 (fun t =>
      t.sector n = (List.range 64).flatMap (fun k => wordBytes (u.rd (Reg.CHARM_BUF k))) ∧ ∀ k, k ≠ n → t.sector k = u.sector k))) ∧
  (∀ (s : State), (s.charm.waiting = none → exec .charmXferTimeout s = .next s) ∧
    (∀ e, s.charm.waiting = some e → e + 1250000 < 2 ^ 64 → Completes .charmXferTimeout s (fun t => t.now = max s.now (e + 1250000) ∧ t.rd Reg.CHARM_XFER_STAT = 2 ∧
      t.charm.waiting = none ∧ t.charm.mem = s.charm.mem ∧ ∀ a, a ≠ Reg.CHARM_XFER_STAT → t.rd a = s.rd a))) ∧
  (∀ (s : State) (m : Master) (n1 : Fin 2) (v : Word),
    let u := s.woken m
    let k := n1.val
    u.obeys m = true → Completes (.hostLockRequest m n1 v) s (fun t => OnlyRegs { u with charm := t.charm } [Reg.CHARM_LOCK k, Reg.CHARM_HELD k] t ∧ t.charm.mem = u.charm.mem ∧
      t.rd (Reg.CHARM_LOCK k) = v ∧ ∀ j, j < 32 → t.bit (Reg.CHARM_HELD k) j = (bitOf v j && (u.bit (Reg.CHARM_HELD k) j || !u.rfLocked (32 * k + j))))) ∧
  (∀ (s : State) (sector : BitVec 6),
    let n := sector.toNat
    let e := Tab.get (fun _ => 0) s.charm.hostAt n + 250000000
    (s.hostLocked n = false → exec (.hostLockTimeout sector) s = .next s) ∧
    (s.hostLocked n = true → e < 2 ^ 64 → Completes (.hostLockTimeout sector) s (fun t => t.now = max s.now e ∧ (∀ k, k < 64 → k ≠ n → t.hostLocked k = s.hostLocked k ∧
      t.lockAsked k = s.lockAsked k) ∧ t.hostLocked n = false ∧ t.lockAsked n = false ∧ t.charm = s.charm))) ∧
  (∀ (s : State) (file off : BitVec 16) (b : List Byte),
    let lcs := s.fld Reg.KEY_LCS 2 0
    let known := file == 0xE103 || file == 0xE104 || file == 0xE105
    let writable := file == 0xE104 && (decide (lcs ≤ 2) || lcs == 4 || (lcs == 3 && s.bit Reg.CHARM_CFG 0))
    let a := 256 + off.toNat
    let touched := fun k => decide (256 * k < a + b.length) && decide (a < 256 * (k + 1))
    let opened := fun (t : State) => t.fld Reg.CHARM_STAT 1 0 = 3 ∧ t.charm.mem = s.charm.mem
    (known = false → Completes (.rfUpdateBinary file off b) s (fun t => opened t ∧ t.reply.length = 1 ∧ t.charm.shadows = s.charm.shadows)) ∧
    (known = true → writable = false → Completes (.rfUpdateBinary file off b) s (fun t => opened t ∧ t.reply = [0x6982] ∧ t.charm.shadows = s.charm.shadows)) ∧
    (writable = true → 14080 < off.toNat + b.length → Completes (.rfUpdateBinary file off b) s (fun t => opened t ∧ t.reply.length = 1 ∧ t.charm.shadows = s.charm.shadows)) ∧
    (writable = true → off.toNat + b.length ≤ 14080 → (∃ k, k < 64 ∧ touched k = true ∧ s.hostLocked k = true) → Completes (.rfUpdateBinary file off b) s (fun t => opened t ∧ t.reply = [0x6985] ∧
      t.charm.shadows = s.charm.shadows ∧ t.fld Reg.CHARM_CNT 15 0 = min 65535 (s.fld Reg.CHARM_CNT 15 0 + 1))) ∧
    (writable = true → off.toNat + b.length ≤ 14080 → (∀ k, k < 64 → touched k = true → s.hostLocked k = false) → Completes (.rfUpdateBinary file off b) s (fun t => opened t ∧ t.reply = [0x9000] ∧
      ∀ k, k < 64 → t.rfLocked k = (touched k || s.rfLocked k) ∧ ∀ j, j < 256 → (t.rfSector k).getD j 0 =
        if a ≤ 256 * k + j ∧ 256 * k + j < a + b.length then b.getD (256 * k + j - a) 0 else (s.rfSector k).getD j 0))) ∧
  (∀ (s : State) (file off : BitVec 16) (len : BitVec 8) (base size : Nat),
    let n := len.toNat
    let a := base + off.toNat
    let touched := fun k => decide (256 * k < a + n) && decide (a < 256 * (k + 1))
    let opened := fun (t : State) => t.fld Reg.CHARM_STAT 1 0 = 3 ∧ t.charm.mem = s.charm.mem ∧ t.charm.shadows = s.charm.shadows
    (file ∉ [0xE103, 0xE104, 0xE105] → Completes (.rfReadBinary file off len) s (fun t => opened t ∧ t.reply.length = 1)) ∧
    ((file, base, size) ∈ [((0xE103 : BitVec 16), 0, 256), (0xE104, 256, 14080), (0xE105, 14336, 2048)] →
      (size < off.toNat + n → Completes (.rfReadBinary file off len) s (fun t => opened t ∧ t.reply.length = 1)) ∧
      (off.toNat + n ≤ size → Completes (.rfReadBinary file off len) s (fun t => opened t ∧ t.reply.length = n + 1 ∧ t.reply.head? = some 0x9000 ∧
        (∀ k, k < 64 → t.rfLocked k = ((touched k && !s.hostLocked k) || s.rfLocked k)) ∧
        ∀ j, j < n → t.reply[j + 1]? = some (wd ((if s.hostLocked ((a + j) / 256) then s.sector ((a + j) / 256) else s.rfSector ((a + j) / 256)).getD ((a + j) % 256) 0).toNat))))) ∧
  (∀ (s : State) (sector : BitVec 6) (deselect : Bool),
    let n := sector.toNat
    let e := s.charm.rfLast + 1250000
    let shadow := s.charm.shadows.find? (fun p => p.1 == n)
    let runs := s.charm.waiting.isSome && s.fld Reg.CHARM_XFER 5 0 == n
    (s.rfLocked n = false → exec (.rfLockRelease sector deselect) s = .next s) ∧
    (s.rfLocked n = true → (deselect = true ∨ e < 2 ^ 64) → Completes (.rfLockRelease sector deselect) s (fun t => t.now = (if deselect then s.now else max s.now e) ∧
      t.bit Reg.CHARM_STAT 1 = (!deselect && s.bit Reg.CHARM_STAT 1) ∧ (∀ k, k < 64 → t.rfLocked k = (s.rfLocked k && k != n)) ∧ (∀ k, k ≠ n → t.sector k = s.sector k) ∧
      t.hostLocked n = (s.hostLocked n || s.lockAsked n) ∧ (runs = true → t.rd Reg.CHARM_XFER_STAT = 0 ∧ t.charm.waiting = none) ∧
      (runs = false → t.charm.waiting = s.charm.waiting ∧ (shadow = none → t.sector n = s.sector n) ∧ ∀ p, shadow = some p → p.2.length = 256 → t.sector n = p.2 ∧
        (t.nlen ≠ 0 → t.bit (Reg.HOST_IRQ_STAT 0) 8 = true))))) ∧
  ∀ (s : State) (torn : List (BitVec 6)), s.charm.waiting = none → Completes (.rfFieldLoss torn) s (fun t => t.fld Reg.CHARM_STAT 1 0 = 0 ∧ ∀ k, k < 64 → t.rfLocked k = false ∧
    ((s.rfLocked k = false ∨ BitVec.ofNat 6 k ∈ torn ∨ s.charm.shadows.find? (fun p => p.1 == k) = none) → t.sector k = s.sector k) ∧
    ∀ p, s.rfLocked k = true → BitVec.ofNat 6 k ∉ torn → s.charm.shadows.find? (fun p => p.1 == k) = some p → p.2.length = 256 → t.sector k = p.2)

/-- R335 to R338: a feed that is lost, the transfer of the load, its path check, the return of a feed, and its tests. -/
def Obligations.Feeds : Prop :=
  (∀ (s : State) (f : Fin 2) (v : BitVec 4), v ≠ 0 → (s.feedState f = 1 ∨ s.feedState f = 2) →
    Completes (.feedAbsent f v) s (fun t => t.feedState f = 0 ∧ t.fld (Reg.PWR_FEED_STAT f.val) 7 4 = v.toNat) ∧
    Completes (.feedFaulted (some f) v) s (fun t => t.feedState f = 3 ∧ t.fld (Reg.PWR_FEED_STAT f.val) 11 8 = v.toNat) ∧
    (f ≠ s.activeFeed → Completes (.feedFaulted none v) s (fun t => t.feedState f = 3 ∧ t.fld (Reg.PWR_FEED_STAT f.val) 11 8 = v.toNat))) ∧
  (∀ (s : State) (i : Instr) (f : Fin 2) (hi lo st : Nat) (v : BitVec 4) (which : Option (Fin 2)),
    ((i = .feedAbsent f v ∧ hi = 7 ∧ lo = 4 ∧ st = 0) ∨ (i = .feedFaulted which v ∧ f = which.getD (otherFeed s.activeFeed) ∧ hi = 11 ∧ lo = 8 ∧ st = 3)) →
    let g := otherFeed f
    let same := v == 0 || s.feedState f == st || (s.feedState f == 4 && st == 3)
    let moves := s.feedState f == 1 && s.feedState g == 2
    (same = true → Completes i s (fun t => OnlyRegs s [Reg.PWR_FEED_STAT f.val] t ∧ t.fld (Reg.PWR_FEED_STAT f.val) hi lo = v.toNat ∧ t.feedState f = s.feedState f)) ∧
    (v ≠ 0 → s.feedState f = 4 → st = 0 → Completes i s (fun t => t.feedState f = 4 ∧ t.fld (Reg.PWR_FEED_STAT f.val) hi lo = v.toNat ∧
      t.bit (Reg.PWR_FEED_STAT f.val) 12 = false ∧ t.bit (Reg.NET_STAT f.val) 4 = false ∧ t.pwr.xfer = s.pwr.xfer ∧ t.activeFeed = s.activeFeed)) ∧
    (same = false → s.feedState f ≠ 4 → Completes i s (fun t => t.feedState f = st ∧ t.fld (Reg.PWR_FEED_STAT f.val) hi lo = v.toNat ∧ t.bit (Reg.PWR_FEED_STAT f.val) 12 = false ∧
      t.bit Reg.PWR_STAT 4 = (t.feedState (otherFeed t.activeFeed) == 2) ∧ t.fld Reg.PWR_FEED_CNT 31 16 = min 65535 (s.fld Reg.PWR_FEED_CNT 31 16 + if st = 3 then 1 else 0) ∧
      (moves = false → t.feedState g = s.feedState g ∧ t.activeFeed = s.activeFeed ∧ t.pwr.xfer = s.pwr.xfer) ∧
      (moves = true → t.feedState g = 1 ∧ t.activeFeed = g ∧ t.pwr.xfer.map (fun x => (x.old, x.commanded)) = some (f, false) ∧
        t.fld Reg.PWR_FEED_CNT 15 0 = min 65535 (s.fld Reg.PWR_FEED_CNT 15 0 + 1) ∧ t.rd Reg.PWR_FEED_TEST = 0 ∧
        t.pwr.carried[g] = s.pwr.carried[g])))) ∧
  (∀ (s : State) (m : Master),
    let u := s.woken m
    let old := u.activeFeed
    let f := otherFeed old
    u.obeys m = true →
    ((u.feedState f ≠ 2 ∨ u.feedState old ≠ 1) → exec (.transfer m) s = .next u) ∧
    (u.feedState f = 2 → u.feedState old = 1 → Completes (.transfer m) s (fun t => t.feedState f = 1 ∧ t.feedState old = 2 ∧ t.activeFeed = f ∧ t.bit Reg.PWR_STAT 4 = true ∧
      t.pwr.xfer = some { old := old, commanded := true, closedAt := u.now, cnt := u.rd Reg.PWR_FEED_CNT, test := u.rd Reg.PWR_FEED_TEST } ∧
      t.fld Reg.PWR_FEED_CNT 15 0 = min 65535 (u.fld Reg.PWR_FEED_CNT 15 0 + 1) ∧ t.rd Reg.PWR_FEED_TEST = 0 ∧
      t.pwr.carried[old] = u.now ∧ t.pwr.carried[f] = u.pwr.carried[f]))) ∧
  (∀ (s : State), (s.pwr.xfer = none → exec .transferPathTimeout s = .next s) ∧
    (∀ x, s.pwr.xfer = some x → x.closedAt + 750 < s.now → exec .transferPathTimeout s = .next { s with pwr := { s.pwr with xfer := none } }) ∧
    (∀ x, s.pwr.xfer = some x → s.now ≤ x.closedAt + 750 → x.closedAt + 750 < 2 ^ 64 → Completes .transferPathTimeout s (fun t => t.pwr.xfer = none ∧ t.activeFeed = x.old ∧
      t.rd Reg.PWR_FEED_TEST = x.test ∧ (x.commanded = true → t.now = x.closedAt + 750 ∧ t.feedState x.old = 1 ∧ t.feedState (otherFeed x.old) = 2 ∧
        t.bit Reg.PWR_STAT 4 = true ∧ t.bit Reg.PWR_STAT 6 = true ∧ t.rd Reg.PWR_FEED_CNT = x.cnt) ∧
      (x.commanded = false → t.feedState (otherFeed x.old) = 4 ∧ t.feedState x.old = s.feedState x.old ∧
        t.fld Reg.PWR_FEED_CNT 31 16 = min 65535 (bits x.cnt 31 16 + 1) ∧ t.fld Reg.PWR_FEED_CNT 15 0 = bits x.cnt 15 0)))) ∧
  (∀ (s : State) (m : Master) (f : Fin 2),
    let returned := fun (u t : State) => t.feedState f = 2 ∧ t.fld (Reg.PWR_FEED_STAT f.val) 11 4 = 0 ∧ t.bit (Reg.PWR_FEED_STAT f.val) 12 = true ∧
      t.feedState (otherFeed f) = u.feedState (otherFeed f) ∧ t.activeFeed = u.activeFeed ∧ t.bit Reg.PWR_STAT 4 = (t.feedState (otherFeed t.activeFeed) == 2)
    let u := s.woken m
    (u.obeys m = true → u.feedState f ∈ [0, 3, 4] → Completes (.restore m f) s (returned u)) ∧
    (u.obeys m = true → u.feedState f ∉ [0, 3, 4] → exec (.restore m f) s = .next u) ∧
    (s.bit Reg.PWR_FEED_CFG 1 = true → s.feedState f ∈ [0, 3] → Completes (.feedAutoRestore f) s (returned s)) ∧
    ((s.bit Reg.PWR_FEED_CFG 1 = false ∨ s.feedState f ∉ [0, 3]) → exec (.feedAutoRestore f) s = .next s)) ∧
  ∀ (s : State) (f : Fin 2),
    let n := s.fld Reg.PWR_FEED_CFG 31 16
    let days := s.fld Reg.PWR_FEED_TEST (16 * f.val + 15) (16 * f.val)
    (f = s.activeFeed → s.feedDays f = days) ∧
    (f ≠ s.activeFeed → days ≠ 0xFFFF → s.feedDays f = min (days + (s.now - s.pwr.carried[f]) / 21600000000000) 0xFFFE) ∧
    (n = 0 → exec (.testDue f) s = .next s) ∧
    (n ≠ 0 → Completes (.testDue f) s (fun t => ∃ v : State, t = (v.irq 9).record { sev := 3, source := 0x02, code := 338, args := [wd f.val, wd n] } ∧
      v.pwr.carried[f] = s.now ∧ v.pwr.carried[otherFeed f] = s.pwr.carried[otherFeed f] ∧
      OnlyRegs { s with pwr := { s.pwr with carried := v.pwr.carried } } [Reg.PWR_FEED_TEST, Reg.PWR_STAT] v ∧ v.fld Reg.PWR_FEED_TEST (16 * f.val + 15) (16 * f.val) = n ∧ v.bit Reg.PWR_STAT 5 = true))

/-- R340 to R344, R348, R349: entry to a sleep state, the wake before and after its commit point, the scheduled exit, and power fail. -/
def Obligations.SleepAndPowerFail : Prop :=
  (∀ (s : State) (w : SleepWant),
    let blocked := s.pwr.sleep.isSome || s.pwr.off || !s.bit Reg.SYS_ROLL_STAT 0
    let st := if s.sleepWhy w 3 = 0 then 3 else if s.sleepWhy w 2 = 0 then 2 else if s.sleepWhy w 1 = 0 then 1 else 0
    let entry := fun (before after exit : Nat) => ({ s.pwr with sleep := some { target := st, commitAt := s.now + before, endAt := s.now + before + after, committed := false, exitAt := (s.sleepDue w).map (fun d => d - exit) } } : PwrSt)
    (blocked = true → exec (.sleepEntry w) s = .next s) ∧
    (blocked = false → Completes (.sleepEntry w) s (fun t => OnlyRegs { s with pwr := t.pwr } [Reg.PWR_LIMIT] t ∧
      t.fld Reg.PWR_LIMIT 4 0 = (if st = 3 then 0 else s.sleepWhy w (st + 1)) ∧ (st = 0 → t.pwr = s.pwr) ∧ (st ≠ 0 → ∀ before after exit, (st, before, after, exit) ∈
        [(1, 25, 0, 500), (2, 5000, 2500, 20000), (3, 500000, 12500, 1250000)] → t.pwr = entry before after exit))) ∧
    ∀ k, (1 ≤ k ∧ k ≤ 3) → ((s.fld Reg.PWR_CFG 1 0 < k ∨ (k = 3 ∧ s.agreed = false) ∨ (k = 3 ∧ s.bit Reg.PWR_CFG 2 = false) ∨
      (∃ n, n < 8 ∧ (if n = 1 then s.bit Reg.HOST_CFG 0 = true else s.bit Reg.HOST_PASS_PEND (8 + n) = true) ∧ (n = 0 → s.host.d3hot = false ∧ s.host.ltr = none) ∧
        s.fld (Reg.HOST_LAT_TOL n) 23 0 * 250 < exitCounts k ∧ s.fld (Reg.HOST_LAT_TOL n) 23 0 ≠ 0xFFFFFF)) → s.sleepWhy w k ≠ 0)) ∧
  (∀ (s : State) (src : Fin 8),
    (s.pwr.sleep = none → exec (.wakeRequest src) s = .next s) ∧
    (∀ x, s.pwr.sleep = some x → s.now < x.commitAt → Completes (.wakeRequest src) s (fun t => t.pwr.sleep = none ∧ t.now = s.now ∧ t.bit Reg.PWR_WAKE_SRC src.val = true ∧
      t.fld Reg.PWR_RACE_CNT 15 0 = min 65535 (s.fld Reg.PWR_RACE_CNT 15 0 + 1) ∧ (x.target = 3 → t.fld Reg.PWR_RECESS_STAT 1 0 = 0 ∧ t.pwr.recess.agreedAt = none) ∧
      (x.target ≠ 3 → OnlyRegs { s with pwr := t.pwr } [Reg.PWR_WAKE_SRC, Reg.PWR_RACE_CNT] t ∧ t.pwr.recess = s.pwr.recess))) ∧
    (∀ x exit, s.pwr.sleep = some x → x.commitAt ≤ s.now → (x.target, exit) ∈ [(1, 500), (2, 20000), (3, 1250000)] → x.endAt + exit < 2 ^ 64 → s.now + exit < 2 ^ 64 →
      Completes (.wakeRequest src) s (fun t => t.pwr.sleep = none ∧ t.now = max s.now x.endAt + exit ∧ t.bit Reg.PWR_WAKE_SRC src.val = true ∧
        t.fld Reg.PWR_RACE_CNT 31 16 = min 65535 (s.fld Reg.PWR_RACE_CNT 31 16 + if s.now < x.endAt then 1 else 0) ∧
        t.fld Reg.PWR_RACE_CNT 15 0 = s.fld Reg.PWR_RACE_CNT 15 0 ∧
        (t.rd (Reg.PWR_ENTRY_CNT (x.target - 1))).toNat = min (2 ^ 32 - 1) ((s.rd (Reg.PWR_ENTRY_CNT (x.target - 1))).toNat + if x.committed then 0 else 1) ∧
        (x.target = 3 → t.fld Reg.PWR_RECESS_STAT 1 0 = if src.val = 1 then s.fld Reg.PWR_RECESS_STAT 1 0 else 0)))) ∧
  (∀ (s : State), ((∀ x, s.pwr.sleep = some x → x.exitAt = none) → exec .scheduledExit s = .next s) ∧
    (∀ x e, s.pwr.sleep = some x → x.exitAt = some e → exec .scheduledExit s = .next ((s.advanceTo e).wakeRequest 1))) ∧
  ∀ (s : State) (cut : List (Fin 2 × SupplyMeas × List (Fin 16 × CktCycle))) (last : Option (Fin 8)),
    let fed := fun (f : Fin 2) => s.feedState f == 1 || s.feedState f == 2
    let cause := if s.feedState 0 = 4 ∨ s.feedState 1 = 4 then 2 else if s.feedState 0 = 3 ∧ s.feedState 1 = 3 then 3 else 1
    ((s.pwr.off = true ∨ fed 0 = true ∨ fed 1 = true) → exec (.powerFailDetect cut last) s = .next s) ∧
    (s.pwr.off = false → fed 0 = false → fed 1 = false → Completes (.powerFailDetect cut last) s (fun t => ∃ (v : State) (written lost : Nat),
      t = v.allOff.pfRecord (if last = some 7 then 2 else 1) ((last.map (·.val)).getD 15) cause written lost ∧ ((∀ l, last = some l → l.val < 3) → written = 0 ∧ lost = 0) ∧
      v.pwr.sleep = none ∧ written ≤ 256)) ∧
    s.allOff.pwr.off = true ∧ s.allOff.pwr.sleep = none ∧ s.allOff.bit Reg.FIELD_CTRL 0 = false ∧ (∀ n, n < 8 → s.allOff.bit (Reg.NET_STAT n) 4 = false) ∧
    (∀ d, d < 64 → s.allOff.bit (Reg.FIELD_DO_STAT d) 0 = false) ∧
    ∀ state lastStep why written lost, s.bit Reg.KEY_TAMPER_STAT 16 = false →
      Memory.readN (s.pfRecord state lastStep why written lost).locket 1600 4 = wordBytes (wd (state + 256 * lastStep + 65536 * why))

/-- R345, R346: the recess agreement and the wake frames. -/
def Obligations.RecessAgreement : Prop :=
  (∀ (s : State) (number : BitVec 16),
    let w : SleepWant := { stewardDue := none, nandBusy := false }
    let may := s.fld Reg.PWR_RECESS_STAT 1 0 == 0 && s.dozeFree && s.napFree w && s.recessFree && s.bit Reg.PWR_CFG 2
    let e := max s.now (max (s.pwr.recess.quietSince.getD s.now + 2500000000) s.pwr.recess.nextAsk)
    let stat := fun (v : Nat) (t : State) => t.now = e ∧ t.fld Reg.PWR_RECESS_STAT 31 16 = number.toNat ∧ t.fld Reg.PWR_RECESS_STAT 1 0 = v ∧ t.pwr.recess.askedAt = e
    (may = false → exec (.recessAsk number) s = .next s) ∧
    (may = true → e < 2 ^ 64 → s.riserUp 0 = false → s.riserUp 1 = false → Completes (.recessAsk number) s (fun t => stat 2 t ∧ t.pwr.recess.agreedAt = some e ∧
      OnlyRegs { s with pwr := t.pwr, cnt := t.cnt } [Reg.PWR_RECESS_STAT] t)) ∧
    (may = true → e < 2 ^ 64 → (s.riserUp 0 = true ∨ s.riserUp 1 = true) → Completes (.recessAsk number) s (fun t => ∃ v : State, stat 1 v ∧ v.pwr.recess.agreedAt = none ∧
      v.pwr.recess.awaits = #v[s.riserUp 0, s.riserUp 1] ∧ OnlyRegs { s with pwr := v.pwr, cnt := v.cnt } [Reg.PWR_RECESS_STAT] v ∧
      t = v.riserSend (([(0 : Fin 2), 1].filter s.riserUp).map (fun p => (p.val, 4, [wd (1 + 65536 * number.toNat)])))))) ∧
  (∀ (s : State) (port : Fin 2) (number : BitVec 16) (carries : Bool),
    let p := port.val
    let reason := if p = 0 ∧ s.relaying = true then 1 else if s.fld Reg.SYS_ROLL_STAT 5 0 ≠ 0x3F then 2 else if s.fld Reg.TIME_STAT 6 4 = p + 3 ∧ s.hopsOf (1 - port) = 255 ∧ s.time.byHost = false then 3
      else if carries then 4 else if p = 0 ∧ s.bit Reg.PWR_CFG 2 = false then 6 else 0
    (reason = 0 → exec (.recessRequestRx port number carries) s =
      .next ((s.setRecess { s.pwr.recess with given := s.pwr.recess.given.set p (some (number, s.now)) }).riserSend [(p, 4, [wd (2 + 65536 * number.toNat)])])) ∧
    (reason ≠ 0 → exec (.recessRequestRx port number carries) s = .next (s.riserSend [(p, 4, [wd (3 + 256 * reason + 65536 * number.toNat)])]))) ∧
  (∀ (s : State) (port other : Fin 2) (number : BitVec 16) (reason : BitVec 8),
    let asks := s.fld Reg.PWR_RECESS_STAT 1 0 == 1 && s.fld Reg.PWR_RECESS_STAT 31 16 == number.toNat
    let e := s.pwr.recess.askedAt + 2500000
    let refused := fun (n v : Nat) (t : State) => OnlyRegs { s with pwr := t.pwr, cnt := t.cnt } [Reg.PWR_RECESS_STAT] t ∧ t.now = v ∧ t.fld Reg.PWR_RECESS_STAT 1 0 = 0 ∧
      t.fld Reg.PWR_RECESS_STAT 3 2 = port.val + 1 ∧ t.fld Reg.PWR_RECESS_STAT 6 4 = n ∧ t.pwr.recess.agreedAt = none ∧ t.pwr.recess.nextAsk = v + 15000000000 ∧
      t.pwr.recess.awaits = #v[false, false] ∧ t.pwr.recess.given = s.pwr.recess.given
    other ≠ port →
    (asks = false → exec (.recessGrantRx port number) s = .next s ∧ exec (.recessRefuseRx port number reason) s = .next s) ∧
    (asks = true → s.pwr.recess.awaits[other.val] = true → exec (.recessGrantRx port number) s =
      .next (s.setRecess { s.pwr.recess with awaits := s.pwr.recess.awaits.set port.val false })) ∧
    (asks = true → s.pwr.recess.awaits[other.val] = false → Completes (.recessGrantRx port number) s (fun t => OnlyRegs { s with pwr := t.pwr } [Reg.PWR_RECESS_STAT] t ∧
      t.fld Reg.PWR_RECESS_STAT 1 0 = 2 ∧ t.pwr.recess.agreedAt = some s.now ∧ t.pwr.recess.awaits = #v[false, false])) ∧
    (asks = true → reason.toNat < 8 → Completes (.recessRefuseRx port number reason) s (refused reason.toNat s.now)) ∧
    (s.pwr.recess.awaits[port.val] = false → exec (.recessAnswerTimeout port) s = .next s) ∧
    (s.pwr.recess.awaits[port.val] = true → e < 2 ^ 64 → Completes (.recessAnswerTimeout port) s (refused 5 (max s.now e)))) ∧
  (∀ (s : State) (port : Fin 2) (number : BitVec 16),
    let p := port.val
    let g := s.pwr.recess.given[p]
    let lapsed := fun (e : Nat) (t : State) => t.now = max s.now e ∧ ∀ a, a ≠ Reg.PWR_RECESS_STAT → t.rd a = s.rd a
    ((∀ x, g = some x → x.1 ≠ number) → exec (.recessCommitRx port number) s = .next s) ∧
    (∀ x, g = some x → x.1 = number → exec (.recessCommitRx port number) s =
      .next (s.setRecess { s.pwr.recess with given := s.pwr.recess.given.set p none, gone := s.pwr.recess.gone.set p true })) ∧
    exec (.recessWithdrawRx port number) s = .next (s.setRecess { s.pwr.recess with
      given := s.pwr.recess.given.set p (g.filter (fun x => x.1 != number)), gone := s.pwr.recess.gone.set p false }) ∧
    (∀ x, g = some x → x.2 + 25000000 < 2 ^ 64 → Completes (.recessGrantLapse port) s (fun t => lapsed (x.2 + 25000000) t ∧ t.pwr.recess.given = s.pwr.recess.given.set p none ∧
      t.rd Reg.PWR_RECESS_STAT = s.rd Reg.PWR_RECESS_STAT)) ∧
    (∀ e, g = none → s.pwr.recess.agreedAt = some e → e + 25000000 < 2 ^ 64 → Completes (.recessGrantLapse port) s (fun t => lapsed (e + 25000000) t ∧
      t.pwr.recess.agreedAt = none ∧ t.fld Reg.PWR_RECESS_STAT 1 0 = 0)) ∧
    (g = none → s.pwr.recess.agreedAt = none → exec (.recessGrantLapse port) s = .next s)) ∧
  ∀ (s : State) (port other : Fin 2) (propagate : Bool), other ≠ port →
    let u := s.wakeRequest 4
    let next := fun e => e + ((s.now - e) / 250000 + 1) * 250000
    ((s.pwr.sleep = none ∨ propagate = false) → exec (.wakeFrame port propagate) s = .next u) ∧
    (s.pwr.sleep ≠ none → propagate = true → exec (.wakeFrame port propagate) s =
      .next ((u.setRecess { u.pwr.recess with waking := u.pwr.recess.waking.set other.val (some u.now) }).riserSend [(other.val, 5, [1])])) ∧
    (s.pwr.recess.waking[port.val] = none → exec (.wakeFrameResend port) s = .next s) ∧
    (∀ e, s.pwr.recess.waking[port.val] = some e → e + 12500000 < next e → exec (.wakeFrameResend port) s =
      .next (s.setRecess { s.pwr.recess with waking := s.pwr.recess.waking.set port.val none })) ∧
    (∀ e, s.pwr.recess.waking[port.val] = some e → next e ≤ e + 12500000 → exec (.wakeFrameResend port) s = .next ((s.advanceTo (next e)).riserSend [(port.val, 5, [1])]))
/-! ### Startup, firmware and debug -/

/-- R352, R354, R356, R392: resets, the thermal alarm, roll call and discovery up the riser. -/
def Obligations.Startup : Prop :=
  (∀ (s : State) (m : Master),
    let after := fun (cause : Nat) (t : State) => t.fld Reg.SYS_RESET_CAUSE 7 0 = cause ∧ t.phase = 0 ∧ t.pwr.off = false ∧ t.now = 0
    (s.pwr.off = true → Completes .powerOnReset s (after 0)) ∧
    (s.pwr.off = false → Completes .resetNAssert s (after 1) ∧ Completes .thermalReset s (after 4) ∧ Completes .clockReset s (after 5)) ∧
    ((s.woken m).obeys m = true → Completes (.sysResetGo m 0x5A) s (after 2))) ∧
  (∀ (s : State) (i : Instr) (m : Master) (key : BitVec 8) (cause : Nat) (u : State),
    ((i = .powerOnReset ∧ cause = 0 ∧ u = s ∧ s.pwr.off = true) ∨ ((i, cause) ∈ [(Instr.resetNAssert, 1), (.thermalReset, 4), (.clockReset, 5)] ∧ u = s ∧ s.pwr.off = false) ∨
      (i = .sysResetGo m key ∧ cause = 2 ∧ key = 0x5A ∧ u = s.woken m ∧ u.pwr.off = false ∧ u.owns m = true ∧ u.viewed m = false)) →
    Completes i s (fun t => t.fld Reg.SYS_RESET_CAUSE 7 0 = cause ∧ t.fld Reg.SYS_RESET_CAUSE 15 8 = (if cause = 0 then 0 else min (u.fld Reg.SYS_RESET_CAUSE 15 8 + 1) 255) ∧
      t.bit Reg.SYS_RESET_CAUSE 16 = (decide (cause = 0) && u.hasLift) ∧ t.phase = 0 ∧ t.bit Reg.SYS_ROLL_STAT 0 = false ∧ t.prefect = none ∧ t.bit Reg.SCAN_CTRL 0 = false ∧
      t.bit Reg.FIELD_CTRL 0 = false ∧ t.points = [] ∧ t.scan.mem = [] ∧ t.scan.lessons = [] ∧ t.lpddr = [] ∧ t.now = 0 ∧ t.pwr.off = false ∧ t.pwr.sleep = none ∧
      (t.key.rows = u.key.rows ∨ ∃ j x, u.key.job = some j ∧ j.op = .transition x ∧ t.key.rows.length = u.key.rows.length + 1) ∧ t.acc.store = u.acc.store ∧ t.charm.mem = u.charm.mem)) ∧
  (∀ (s : State) (m : Master) (key : BitVec 8) (c : Int),
    (s.pwr.off = false → exec .powerOnReset s = .next s) ∧
    (s.pwr.off = true → exec .resetNAssert s = .next s ∧ exec .thermalReset s = .next s ∧ exec .clockReset s = .next s) ∧
    ((s.woken m).obeys m = true → key ≠ 0x5A → exec (.sysResetGo m key) s = .next (s.woken m)) ∧
    ((c ≤ 105 ∨ s.pwr.off = true) → exec (.thermalAlarm c) s = .next s) ∧
    (105 < c → s.pwr.off = false → exec (.thermalAlarm c) s =
      .next (s.record { sev := if 115 < c then 6 else 5, source := 0x20, code := 392, args := [BitVec.ofInt 32 c] }))) ∧
  (∀ (s : State), ((s.phase ≠ 0 ∨ s.pwr.off = true ∨ s.bit Reg.SYS_ROLL_STAT 0 = true) → exec .rollCall s = .next s) ∧
    (s.phase = 0 → s.pwr.off = false → s.bit Reg.SYS_ROLL_STAT 0 = false → Completes .rollCall s (fun t => t.phase = 1 ∧ t.bit Reg.FIELD_CTRL 0 = true ∧
      t.bit Reg.SYS_ROLL_STAT 0 = true ∧ t.fld Reg.SYS_ROLL_TIME 15 0 = min (t.now / 250000) 65535))) ∧
  (∀ (s : State) (k : Fin 6) (bound : Nat), (k.val, bound) ∈ [(0, 30000000), (1, 11250000000), (2, 0), (3, 0), (5, 22500000000)] →
    ((s.pwr.off = true ∨ s.bit Reg.SYS_ROLL_STAT k.val = true) → exec (.rollStepLate k) s = .next s) ∧
    (s.pwr.off = false → s.bit Reg.SYS_ROLL_STAT k.val = false → Completes (.rollStepLate k) s (fun t => ∃ v : State,
      t = v.record { sev := 4, source := 0x20, code := 354, args := [wd (k.val + 1)] } ∧ v.now = max s.now bound ∧ v.bit Reg.SYS_ROLL_STAT 6 = true ∧
      OnlyRegs { s with cnt := v.cnt } [Reg.SYS_ROLL_STAT] v)) ∧ exec (.rollStepLate 4) s = .next s) ∧
  (∀ (s : State) (v : BitVec 8),
    let pos := s.fld Reg.SYS_ROLL_STAT 15 8
    let on := s.bit Reg.SYS_ROLL_STAT 0
    let old := s.fld Reg.SYS_ROLL_STAT 23 16
    let headAt := max s.now (s.net.step1At + 62500000)
    let topAt := max s.now (max (s.net.posAt + 25000000) (s.net.step1At + 62500000))
    let placed := fun (count n : Nat) (head : Bool) (t : State) => ∃ w : State, OnlyRegs { (s.emit []) with cnt := w.cnt, net := { s.net with posAt := count } } [Reg.SYS_ROLL_STAT] w ∧
      w.now = count ∧ w.fld Reg.SYS_ROLL_STAT 15 8 = n ∧
      w.bit Reg.SYS_ROLL_STAT 24 = head ∧ w.bit Reg.SYS_ROLL_STAT 25 = false ∧
      t = if s.riserUp 0 = true then w.riserAdd (0, 1, [wd n, s.rd Reg.SYS_SERIAL_LO, s.rd Reg.SYS_SERIAL_HI]) else w
    let length := fun (count n : Nat) (t : State) => ∃ w x : State, OnlyRegs { (s.emit []) with cnt := w.cnt } [Reg.SYS_ROLL_STAT] w ∧ w.now = count ∧
      w.fld Reg.SYS_ROLL_STAT 23 16 = n ∧ x = (if old ≠ 0 ∧ old ≠ n then w.record { sev := 4, source := 0x20, code := 356, args := [wd n] } else w) ∧
      t = State.rollSettle (if s.riserUp 1 = true then x.riserAdd (1, 1, [wd n, s.rd Reg.SYS_SERIAL_LO, s.rd Reg.SYS_SERIAL_HI]) else x)
    (on = false → exec .rollHead s = .next s ∧ exec .rollTop s = .next s ∧ exec (.rollFrame 0 v) s = .next s ∧
      exec (.rollFrame 1 v) s = .next { s with net := { s.net with rollHeld := some v } }) ∧
    ((s.riserUp 1 = true ∨ s.bit Reg.SYS_ROLL_STAT 24 = true) → exec .rollHead s = .next s) ∧
    (on = true → s.riserUp 1 = false → s.bit Reg.SYS_ROLL_STAT 24 = false → headAt < 2 ^ 64 → Completes .rollHead s (placed headAt 0 true)) ∧
    (on = true → Completes (.rollFrame 1 v) s (placed s.now ((v.toNat + 1) % 256) false)) ∧
    (on = true → Completes (.rollFrame 0 v) s (length s.now v.toNat)) ∧
    ((s.riserUp 0 = true ∨ s.bit Reg.SYS_ROLL_STAT 25 = true ∨ pos = 255) → exec .rollTop s = .next s) ∧
    (on = true → s.riserUp 0 = false → s.bit Reg.SYS_ROLL_STAT 25 = false → pos ≠ 255 → topAt < 2 ^ 64 → Completes .rollTop s (fun t => length topAt (pos + 1) t ∧ t.bit Reg.SYS_ROLL_STAT 25 = true))) ∧
  ∀ (s : State), s.rollSettle.bit Reg.SYS_ROLL_STAT 0 = s.bit Reg.SYS_ROLL_STAT 0 ∧ (∀ a, a ≠ Reg.SYS_ROLL_STAT → a ≠ Reg.SYS_ROLL_TIME → s.rollSettle.rd a = s.rd a) ∧
    (∀ k, 2 ≤ k → k ≤ 5 → s.bit Reg.SYS_ROLL_STAT 0 = true → s.bit Reg.SYS_ROLL_STAT 5 = false → s.pwr.off = false →
      s.rollSettle.bit Reg.SYS_ROLL_STAT (k - 1) = (s.bit Reg.SYS_ROLL_STAT (k - 1) || s.stepDone k))

/-- R358 to R369: delivery, forwarding, installation, trial and fallback of a firmware image. -/
def Obligations.FirmwareUpdate : Prop :=
  (∀ (s : State) (m : Master) (piece : FwuPiece),
    let u := s.woken m
    let e := State.woken (s.emit []) m
    let st := e.fwuState
    let off := e.fld Reg.FWU_OFFSET 25 0
    let n := e.fld Reg.FWU_LEN 12 0
    let may := fun (v : State) => !v.pwr.off && v.owns m && !v.viewed m
    let refused := fun (v : State) (code : Nat) (t : State) => ∃ w : State, t = w.record { sev := 4, source := 0x1C, code := 359, args := [wd code] } ∧
      OnlyRegs v [Reg.FWU_STAT] w ∧ w.fld Reg.FWU_STAT 8 5 = code
    let pushes := e.fwu.began || (e.fwu.xfer.isSome && !e.bit Reg.FWU_STAT 10)
    (may e = true → st ∈ [3, 4, 5] → Completes (.fwuBegin m) s (refused e 8)) ∧
    (may e = true → st ∈ [0, 1, 2, 6] → Completes (.fwuBegin m) s (fun t => t.fwu.began = true ∧ t.fwu.stage = [] ∧ t.fwu.slots = e.fwu.slots ∧ OnlyRegs { e with fwu := t.fwu } [Reg.FWU_STAT] t ∧
      t.fld Reg.FWU_STAT 8 5 = 0 ∧ t.fwuState = (if st = 6 then 6 else 1))) ∧
    (may e = true → pushes = false → Completes (.fwuPush m piece) s (refused e 8)) ∧
    let formed := decide (off + n ≤ 50270208) && decide (0 < n) && decide (n ≤ 4096) && n % 4 == 0 && off % 4 == 0
    (may e = true → pushes = true → formed = false → Completes (.fwuPush m piece) s (refused e 1)) ∧
    (may e = true → pushes = true → formed = true → exec (.fwuPush m piece) s =
      .next (((e.stageBytes off (piece.data.take n)).hostManifest).verifyBlocks false 767)) ∧
    (may e = true → (st = 4 ∨ st = 5) → Completes (.fwuAbort m) s (refused e 8)) ∧
    (may e = true → st ≠ 4 → st ≠ 5 → Completes (.fwuAbort m) s (fun t => t.fwu.fwd = none ∧ t.fwu.xfer = none ∧ t.fwu.began = false ∧ t.fwu.stage = [] ∧
      t.fwu.slots = e.fwu.slots ∧ t.fwuState = (if st = 6 then 6 else 0))) ∧
    (may u = true → u.fwuState ≠ 5 → Completes (.confirm m) s (refused u 8)) ∧
    (may u = true → u.fwuState = 5 → exec (.confirm m) s = .next { u with fwu := { u.fwu with confirmed := true } }) ∧
    (may u = true → u.fwuState ≠ 6 → ¬ (u.fwuState = 2 ∧ (u.slotIn 2).isSome = true ∧ u.forwardEnded = true) → Completes (.fwuStart m) s (refused u 8)) ∧
    (may u = true → u.fwuState = 2 → (u.slotIn 2).isSome = true → u.forwardEnded = true → exec (.fwuStart m) s = .next u.install) ∧
    (may u = true → u.fwuState = 6 → u.slotIn 2 = none → Completes (.fwuStart m) s (refused u 8)) ∧
    (∀ k, may u = true → u.fwuState = 6 → u.slotIn 2 = some k → Completes (.fwuStart m) s (fun t => ∃ v : State, t = v.rollStep1 ∧ v.slotState k = 4 ∧ v.slotRuns k = true ∧
      v.slotRuns (1 - k) = false ∧ v.fwuState = 0))) ∧
  (∀ (s : State) (off : Nat) (b : List Byte) (k : Nat), Tab.get (fun _ => (none : Option Byte)) (s.stageBytes off b).fwu.stage k =
    if off ≤ k ∧ k < off + b.length then b[k - off]? else Tab.get (fun _ => none) s.fwu.stage k) ∧
  (∀ (s : State) (mf : List Byte), s.fwu.began = true → s.arrived 0 4096 = some mf →
    let err := s.manifestErr mf
    (err ≠ 0 → s.fwu.xfer = none → ∃ v : State, s.hostManifest = State.endTransfer (v.record { sev := 4, source := 0x1C, code := 359, args := [wd err] }) ∧ OnlyRegs s [Reg.FWU_STAT] v ∧
      v.fld Reg.FWU_STAT 8 5 = err) ∧
    (err ≠ 0 → s.fwu.xfer ≠ none → ∃ v w : State, w = v.record { sev := 4, source := 0x1C, code := 359, args := [wd err] } ∧ OnlyRegs s [Reg.FWU_STAT] v ∧
      v.fld Reg.FWU_STAT 8 5 = err ∧ s.hostManifest = { w with fwu := { s.fwu with began := false, stage := [] } }) ∧
    (err = 0 → s.hostManifest = (s.unstage 0 4096).acceptManifest mf false)) ∧
  (∀ (s : State) (mf : List Byte) (riser : Bool) (n : Fin 2),
    let new : FwuSlot := { manifest := mf, blocks := [] }
    s.freeSlot = some n → new.count ≠ 0 → (s.fwSlot n).imageId ≠ new.imageId →
    let t := s.acceptManifest mf riser
    t.fwSlot n = new ∧ t.slotState n = 1 ∧ t.fwu.xfer = some new.imageId ∧ t.bit Reg.FWU_STAT 10 = riser ∧ t.fld Reg.FWU_STAT 8 5 = 0 ∧ t.fld Reg.FWU_STAT 25 16 = 0 ∧
    t.fwuState = (if s.fwuState = 6 then 6 else 1) ∧ t.fwSlot (1 - n) = s.fwSlot (1 - n)) ∧
  (∀ (s : State) (n : Fin 2) (riser : Bool) (b : List Byte),
    let x := s.fwSlot n
    let i := x.blocks.length
    let good := s.blockVerified n riser b
    let bad := s.blockFailed n riser
    i < 767 → (good.fwSlot n).blocks = x.blocks ++ [b] ∧ (good.fwSlot n).manifest = x.manifest ∧ good.fld Reg.FWU_STAT 25 16 = i + 1 ∧
      (i + 1 = x.count → good.slotState n = 2 ∧ good.fwu.xfer = none) ∧ (i + 1 ≠ x.count → good.slotState n = s.slotState n ∧ good.fwu.xfer = s.fwu.xfer) ∧
      bad.fwu.slots = s.fwu.slots ∧ (2 ≤ s.fwu.fails → bad.fld Reg.FWU_STAT 8 5 = 6 ∧ bad.fwu.xfer = none) ∧ (s.fwu.fails < 2 → bad.fwu.fails = s.fwu.fails + 1 ∧ bad.fwu.xfer = s.fwu.xfer)) ∧
  (∀ (s : State) (mf : Manifest),
    let e := s.emit []
    let id := FwuSlot.imageId { manifest := mf.bytes, blocks := [] }
    let runs := match e.runningSlot with | some n => (e.fwSlot n).imageId == id && (e.fwSlot n).manifest == mf.bytes | none => false
    let ack := fun (err block : Nat) => ((1 : Nat), (3 : Nat), [wd (3 + 256 * err + 65536 * block), 0, id.extractLsb' 0 32])
    (runs = true → exec (.fwuManifest mf) s = .next (e.riserAdd (ack 0 65535))) ∧
    (runs = false → e.manifestErr mf.bytes ≠ 0 → Completes (.fwuManifest mf) s (fun t => ∃ v : State, OnlyRegs e [Reg.FWU_STAT] v ∧ v.fld Reg.FWU_STAT 8 5 = e.manifestErr mf.bytes ∧
      t = State.riserAdd (v.record { sev := 4, source := 0x1C, code := 359, args := [wd (e.manifestErr mf.bytes)] }) (ack (e.manifestErr mf.bytes) 65535))) ∧
    (runs = false → e.manifestErr mf.bytes = 0 → Completes (.fwuManifest mf) s (fun t => ∃ n : Nat, t = (e.acceptManifest mf.bytes true).riserAdd (ack 0 n) ∧
      (∀ k, (e.acceptManifest mf.bytes true).freeSlot = some k → n = ((e.acceptManifest mf.bytes true).fwSlot k).blocks.length)))) ∧
  (∀ (s : State) (image offset : Word) (block : BitVec 16) (data : List Byte),
    let e := s.emit []
    let held := s.fld Reg.FWU_STAT 25 16
    let fits := fun (id : BitVec 64) => decide (id.setWidth 32 = image) && s.bit Reg.FWU_STAT 10 && decide (block.toNat < 767) && decide (offset.toNat + data.length ≤ 65536)
    ((∀ id, s.fwu.xfer = some id → fits id = false) → exec (.fwuData image block offset data) s = .next e) ∧
    (∀ id, s.fwu.xfer = some id → fits id = true → block.toNat < held → exec (.fwuData image block offset data) s = .next (e.riserAdd (1, 3, [wd (3 + 65536 * block.toNat), 0, image]))) ∧
    (∀ id, s.fwu.xfer = some id → fits id = true → held ≤ block.toNat → exec (.fwuData image block offset data) s =
      .next ((e.stageBytes (4096 + 65536 * block.toNat + offset.toNat) data).verifyBlocks true 767))) ∧
  (∀ (s : State) (block : BitVec 16) (err : BitVec 8),
    let e := s.emit []
    let b := block.toNat
    ((∀ f, s.fwu.fwd = some f → f.sentAt = none) → exec (.fwuAck block err) s = .next e ∧ exec .fwuAckTimeout s = .next s) ∧
    (s.fwu.fwd = none → exec (.fwuNak block) s = .next s ∧ exec (.fwuFrameAbort true) s = .next s) ∧
    (∀ f, s.fwu.fwd = some f → f.sentAt ≠ none →
      let n := (s.fwSlot f.slot).count
      (f.manifest = true → b = 65535 → Completes (.fwuAck block err) s (fun t => t.bit Reg.FWU_FWD 10 = true ∧ t.fwu.fwd = none)) ∧
      (f.manifest = true → b ≠ 65535 → err ≠ 0 → exec (.fwuAck block err) s = .next e) ∧
      (f.manifest = true → b ≠ 65535 → err = 0 → b ≤ 767 → n ≤ 767 → Completes (.fwuAck block err) s (fun t => t.fld Reg.FWU_FWD 9 0 = min b n ∧ (n ≤ b → t.fwu.fwd = none) ∧
        (b < n → ∃ sent, t.fwu.fwd = some { f with manifest := false, next := b, sentAt := sent, fails := 0 }))) ∧
      (f.manifest = false → b ≠ f.next → exec (.fwuAck block err) s = .next e) ∧
      (f.manifest = false → b = f.next → b < 767 → Completes (.fwuAck block err) s (fun t => t.fld Reg.FWU_FWD 9 0 = b + 1 ∧ (n ≤ b + 1 → t.fwu.fwd = none) ∧
        (b + 1 < n → ∃ sent, t.fwu.fwd = some { f with next := b + 1, sentAt := sent, fails := 0 }))) ∧
      (f.manifest = false → f.next ≠ b → exec (.fwuNak block) s = .next s) ∧
      ((f.manifest = true ∨ f.next = b) → 2 ≤ f.fails → Completes (.fwuNak block) s (fun t => t.fwu.fwd = none ∧
        t = State.endForward ((s.emit []).riserAdd (0, 3, [wd (5 + 65536 * f.next), 0, (s.fwSlot f.slot).imageId.setWidth 32])))) ∧
      ((f.manifest = true ∨ f.next = b) → f.fails < 2 → Completes (.fwuNak block) s (fun t => ∃ sent, t.fwu.fwd = some { f with sentAt := sent, fails := f.fails + 1 })) ∧
      (∀ q, f.sentAt = some q → q + 50000000 < 2 ^ 64 → Completes .fwuAckTimeout s (fun t => t.now = max s.now (q + 50000000) ∧ (2 ≤ f.fails → t.fwu.fwd = none) ∧
        (f.fails < 2 → ∃ sent, t.fwu.fwd = some { f with sentAt := sent, fails := f.fails + 1 })))) ∧
    (∀ f, s.fwu.fwd = some f → Completes (.fwuFrameAbort true) s (fun t => t.fwu.fwd = none ∧ t.fwu.xfer = s.fwu.xfer ∧ t.fwu.slots = s.fwu.slots ∧
      t.fwuState = if s.fwuState = 3 then (if s.slotState f.slot = 2 then 2 else 0) else s.fwuState)) ∧
    ((s.fwu.xfer = none ∨ s.bit Reg.FWU_STAT 10 = false) → exec (.fwuFrameAbort false) s = .next s) ∧
    (s.fwu.xfer ≠ none → s.bit Reg.FWU_STAT 10 = true → Completes (.fwuFrameAbort false) s (fun t => t.fwu.xfer = none ∧ t.fwu.stage = [] ∧ t.fwu.slots = s.fwu.slots ∧
      t.fwuState = if s.fwuState = 6 then 6 else 0)) ∧
    (s.slotIn 1 = none → exec .receivingDiscard s = .next s) ∧
    (∀ n, s.slotIn 1 = some n → s.fwu.lastAt + 150000000000 < 2 ^ 64 → Completes .receivingDiscard s (fun t => t.now = max s.now (s.fwu.lastAt + 150000000000) ∧ t.slotState n = 0 ∧
      (t.fwSlot n).blocks = [] ∧ t.fwSlot (1 - n) = s.fwSlot (1 - n) ∧ t.fwu.xfer = none ∧ t.fwu.fwd = none))) ∧
  (∀ (s : State) (count : BitVec 16),
    let go := s.bit Reg.FWU_CFG 1 && (s.fwuState == 2 || s.fwuState == 3) && (s.slotIn 2).isSome && s.forwardEnded
    let waits := decide (s.fwuState = 4) && !s.fwu.ready
    let late := s.fwu.prepAt + 30000000000
    (go = false → exec .fwuInstall s = .next s) ∧ (go = true → exec .fwuInstall s = .next s.install) ∧
    (∀ n r, go = true → s.slotIn 2 = some n → s.runningSlot = some r → n ≠ r → (s.fwSlot n).chainOk = true → Completes .fwuInstall s (fun t => t.slotState n = 3 ∧
      t.slotState r = 5 ∧ t.fwuState = 4)) ∧
    (∀ n r, s.slotIn 2 = some n → s.runningSlot = some r → s.fwuState ≠ 6 → (s.fwSlot n).chainOk = false → s.install.slotState n = 6 ∧ s.install.fld Reg.FWU_STAT 8 5 = 6 ∧
      s.install.fwuState = 0 ∧ s.install.fwu = s.fwu) ∧
    (∀ n r, s.slotIn 2 = some n → s.runningSlot = some r → n ≠ r → s.fwuState ≠ 6 → (s.fwSlot n).chainOk = true → s.install.slotState n = 3 ∧ s.install.slotState r = 5 ∧ s.install.slotRuns r = true ∧
      s.install.fwuState = 4 ∧ s.install.fwu.prepAt = s.now ∧ s.install.fwu.ready = false ∧ s.install.fwu.fwd = none) ∧
    (waits = false → exec (.preparationDone count) s = .next s ∧ exec .preparationTimeout s = .next s) ∧
    (waits = true → Completes (.preparationDone count) s (fun t => t.fwu.ready = true ∧ t.rd Reg.FWU_MIGRATE_CNT = wd count.toNat ∧ t.fwuState = 4)) ∧
    (waits = true → late < 2 ^ 64 → Completes .preparationTimeout s (fun t => ∃ v : State, t = v.record { sev := 4, source := 0x1C, code := 359, args := [12] } ∧ v.now = max s.now late ∧
      v.fld Reg.FWU_STAT 8 5 = 12 ∧ (∀ n o, s.slotIn 3 = some n → s.slotIn 5 = some o → v.slotState n = 6 ∧ v.slotState o = 4 ∧ v.fld (Reg.FWU_SLOT_STAT n.val) 7 4 = 12 ∧ v.fwuState = 0)))) ∧
  (∀ (s : State),
    let due := fun q => q + s.fld Reg.FWU_REPORT_DEADLINE 11 0 * 250000000
    ((s.slotIn 3 = none ∨ s.slotIn 5 = none ∨ s.fwu.trialAt = none) → exec .reportCard s = .next s) ∧
    (s.fwu.trialAt = none → exec .reportDeadline s = .next s) ∧
    (∀ n o q, s.slotIn 3 = some n → s.slotIn 5 = some o → s.fwu.trialAt = some q →
      (((s.bit Reg.FWU_CFG 2 = true ∧ s.fwu.confirmed = false) ∨ due q < s.now) → exec .reportCard s = .next s) ∧
      (¬ (s.bit Reg.FWU_CFG 2 = true ∧ s.fwu.confirmed = false) → s.now ≤ due q → s.fwuState ≠ 6 → Completes .reportCard s (fun t => t.slotState n = 4 ∧ t.slotState o = 5 ∧
        t.fwu.trialAt = none ∧ t.fwuState = (if s.bit Reg.FWU_CFG 0 = true ∧ s.bit Reg.FWU_CFG 3 = true then 3 else 0))) ∧
      (due q < 2 ^ 64 → s.fwuState ≠ 6 → Completes .reportDeadline s (fun t => t.now = max s.now (due q) ∧ t.slotState n = 6 ∧ t.slotState o = 4 ∧ t.slotRuns o = true ∧
        t.slotRuns n = false ∧ t.bit Reg.FWU_STAT 9 = true ∧ t.fwu.trialAt = none ∧ t.fwuState = 0 ∧ t.fwu.active = 1 - s.fwu.active)))) ∧
  ∀ (s : State) (core : Fin 2),
    let mine := decide (core = s.fwu.active)
    let trial := s.fwu.trialAt.isSome
    ((s.pwr.off = true ∨ s.fwuState = 6) → exec (.stewardWatchdog core) s = .next s) ∧
    (s.pwr.off = false → s.fwuState ≠ 6 → s.phase = 0 → mine = false → exec (.stewardWatchdog core) s = .next s) ∧
    (s.pwr.off = false → s.fwuState ≠ 6 → s.phase = 0 → mine = true → (s.slotIn 4 = none ∨ s.fwu.failed[core] = true) → Completes (.stewardWatchdog core) s (fun t => t.phase = 3 ∧ t.fwuState = 6)) ∧
    (∀ n o, s.pwr.off = false → s.fwuState ≠ 6 → s.phase = 0 → mine = true → s.slotIn 4 = some n → o ≠ n → s.slotState o ∈ [2, 5, 6] → s.fwu.failed[core] = false →
      Completes (.stewardWatchdog core) s (fun t => t.slotState n = 6 ∧ t.slotState o = 4 ∧ t.slotRuns o = true ∧ t.slotRuns n = false ∧ t.fwu.failed[core] = true)) ∧
    (s.pwr.off = false → s.fwuState ≠ 6 → s.phase ≠ 0 → trial = true → exec (.stewardWatchdog core) s = .next (if mine then s.fallBack else s)) ∧
    (s.pwr.off = false → s.phase ≠ 0 → trial = false → s.fwuState = 4 → exec (.stewardWatchdog core) s = .next (if mine then s else s.fallBack)) ∧
    (s.pwr.off = false → s.fwuState ∉ [4, 6] → s.phase ≠ 0 → trial = false → mine = false → exec (.stewardWatchdog core) s = .next s) ∧
    (s.pwr.off = false → s.fwuState ∉ [4, 6] → s.phase ≠ 0 → trial = false → mine = true → s.fwu.failed[1 - core] = false → Completes (.stewardWatchdog core) s (fun t =>
      t.fwu.active = 1 - core ∧ t.fwu.failed[core] = true ∧ t.fwu.failed[1 - core] = false)) ∧
    (s.pwr.off = false → s.fwuState ∉ [4, 6] → s.phase ≠ 0 → trial = false → mine = true → s.fwu.failed[1 - core] = true → Completes (.stewardWatchdog core) s (fun t =>
      t.fld Reg.SYS_RESET_CAUSE 7 0 = 3 ∧ t.phase = 0))
/-! ### Links, the event recorder, tampering and debug -/

/-- R13, R17, R152, R227, R229: errors on the links between the dies, and links that are lost and return. -/
def Obligations.LinksBetweenDies : Prop :=
  (∀ (s : State) (link : DieLink) (k : Nat), ((link, k) ∈ [(DieLink.field, 0), (.metering, 1), (.lpddr, 4), (.nand, 5)] ∨ (k = 0 ∧ ∃ g, link = .pwm g)) →
    Completes (.crossDieCrcError link) s (fun t => t = { s with linkErrs := t.linkErrs } ∧
      ∀ j, Tab.get (fun _ => 0) t.linkErrs j = Tab.get (fun _ => 0) s.linkErrs j + if j = k then 1 else 0)) ∧
  (∀ (s : State), exec (.crossDieCrcError .charm) s = .next s ∧ (∀ ch, exec (.crossDieCrcError (.safety ch)) s = .next s) ∧
    exec (.linkLoss .lpddr) s = .next s ∧ exec (.linkLoss .nand) s = .next s ∧ exec (.linkReturn .lpddr) s = .next s ∧ exec (.linkReturn .nand) s = .next s) ∧
  (∀ (s : State), ((s.bit Reg.FIELD_STAT 8 = false ∨ s.inRecess = true) → exec (.linkLoss .field) s = .next s) ∧
    (s.bit Reg.FIELD_STAT 8 = true → s.inRecess = false → Completes (.linkLoss .field) s (fun t => ∃ v : State, t = v.record { sev := 6, level := 6, source := 0x0B, code := 13 } ∧ v.bit Reg.FIELD_STAT 8 = false ∧
      (∀ c, c < 8 → v.carState c = (if s.carState c = 1 then 2 else s.carState c) ∧ (s.carState c = 1 → v.fld (Reg.LIFT_CAR_STAT c) 19 16 = 4)) ∧
      (∀ d, d < 16 → v.opMode d = if s.opMode d = 0 then 0 else 5) ∧ (∀ d, d < 64 → v.bit (Reg.FIELD_DO_STAT d) 0 = false) ∧
      ∀ d, d < 96 → s.bit (Reg.FIELD_DI_CFG d) 14 = true → bitOf ((v.point (BitVec.ofNat 14 (s.fld (Reg.FIELD_DI_CFG d) 13 0))).word 2) 9 = true)) ∧
    ((s.bit Reg.FIELD_STAT 8 = true ∨ s.phase = 0) → exec (.linkReturn .field) s = .next s) ∧
    (s.bit Reg.FIELD_STAT 8 = false → s.phase ≠ 0 → Completes (.linkReturn .field) s (fun t => t.bit Reg.FIELD_STAT 8 = true ∧ t.now = s.now ∧
      ∀ d, Tab.get (fun _ => none) t.field.diPend d = none))) ∧
  (∀ (s : State) (g : Fin 96),
    let lost := fun (x : State) (k : Nat) => Tab.get (fun _ => false) x.field.pwmLost k
    let still := lost s g.val || !s.bit Reg.FIELD_STAT 8 || s.inRecess
    (still = true → exec (.linkLoss (.pwm g)) s = .next s) ∧
    (still = false → Completes (.linkLoss (.pwm g)) s (fun t => ∃ v : State, t = v.record { sev := 6, level := 6, source := 0x0B, code := 13, args := [wd (g.val + 1)] } ∧
      (∀ k, lost v k = (k == g.val || lost s k)) ∧ v.opMode (g.val / 6) = (if s.opMode (g.val / 6) = 0 then 0 else 5) ∧
      ∀ d, d < 16 → d ≠ g.val / 6 → v.opMode d = s.opMode d)) ∧
    Completes (.linkReturn (.pwm g)) s (fun t => t = { s with field := t.field } ∧ ∀ k, lost t k = (k != g.val && lost s k))) ∧
  (∀ (s : State), (s.inRecess = true → exec (.linkLoss .metering) s = .next s) ∧ (s.variant = 2 → exec (.linkLoss .metering) s = .next s ∧ exec (.linkReturn .metering) s = .next s) ∧
    (s.variant ≠ 2 → exec (.linkReturn .metering) s = .next { s with meter := { s.meter with link := true } }) ∧
    (s.variant ≠ 2 → s.inRecess = false → Completes (.linkLoss .metering) s (fun t => t.meter = { s.meter with link := false } ∧ t.scan = s.scan ∧ t.now = s.now)) ∧
    (∀ ch : Fin 2, (s.variant = 1 → exec (.linkLoss (.safety ch)) s = .next s ∧ exec (.linkReturn (.safety ch)) s = .next s) ∧
      (s.variant ≠ 1 → Completes (.linkLoss (.safety ch)) s (fun t => ∃ v : State, t = v.record { sev := 7, level := 6, source := 0x09, code := 13, args := [wd ch.val] } ∧ (v.chan ch.val).link = false ∧
        (∀ c, c < 8 → (v.safeCar c).latch = (s.safeCar c).latch ||| 0x20 ∧ (v.safeCar c).released = false) ∧ v.regs = s.regs)) ∧
      (s.variant ≠ 1 → Completes (.linkReturn (.safety ch)) s (fun t => (t.chan ch.val).link = true ∧ ∀ c, c < 8 → (t.safeCar c).latch =
        if (s.chan (1 - ch.val)).link then (s.safeCar c).latch &&& 0x1F else (s.safeCar c).latch)))) ∧
  ∀ (s : State), Completes (.linkLoss .charm) s (fun t => OnlyRegs { s with charm := t.charm } [Reg.CHARM_STAT, Reg.CHARM_XFER_STAT] t ∧ t.bit Reg.CHARM_STAT 2 = false ∧
      t.charm.waiting = none ∧ t.charm.mem = s.charm.mem ∧ t.rd Reg.CHARM_XFER_STAT = if s.charm.waiting.isSome then 2 else s.rd Reg.CHARM_XFER_STAT) ∧
    Completes (.linkReturn .charm) s (fun t => OnlyRegs s [Reg.CHARM_STAT] t ∧ t.bit Reg.CHARM_STAT 2 = true)

/-- R370 to R375, R378, R395: what a record holds and does, rate windows, flushing, and the reading latch. -/
def Obligations.EventRecorder : Prop :=
  (∀ (s : State) (it : EvItem),
    let t := s.record it
    let low := min (s.fld Reg.EVT_CTRL 1 0) 2
    let flushes := decide (s.fld Reg.EVT_CTRL 6 4 ≤ it.sev.toNat)
    (it.sev.toNat < low → OnlyRegs s [Reg.EVT_LOST it.sev.toNat] t ∧ (t.rd (Reg.EVT_LOST it.sev.toNat)).toNat = min (2 ^ 32 - 1) ((s.rd (Reg.EVT_LOST it.sev.toNat)).toNat + 1)) ∧
    (low ≤ it.sev.toNat → t.points = s.points ∧ t.scan = s.scan ∧ t.now = s.now ∧ t.evt.next = (if s.evt.next + 1 = 0xFFFFFFFF then 0 else s.evt.next + 1) ∧
      (s.bit Reg.EVT_CTRL 11 = true → s.fld Reg.EVT_CTRL 10 8 ≤ it.sev.toNat → t.bit (Reg.HOST_IRQ_STAT 0) 3 = true)) ∧
    (low ≤ it.sev.toNat → s.evt.sram.length < 8192 → ∃ r, t.evt.sram.getLast? = some r ∧ t.evt.sram.length = s.evt.sram.length + 1 ∧ r.seq = s.evt.next ∧ r.stamp = s.cnt ∧
      r.sev = it.sev ∧ r.source = it.source ∧ r.code = it.code ∧ r.args = it.args ∧ r.session = it.session ∧ r.tenant = it.tenant ∧ r.repeats = 0 ∧
      r.boot.toNat = s.fld Reg.EVT_BOOT 15 0 ∧ (s.bit Reg.TIME_STAT 0 = false → r.seconds = 0) ∧ (flushes = true → s.ringStall = false → r.flushed = true ∧ t.evt.unflushed = []))) ∧
  (∀ (s : State) (key len : Nat) (it : EvItem),
    let open_ := s.evt.windows.find? (fun w => w.code == it.code.toNat && w.key == key)
    (∀ w, open_ = some w → s.recordWindow key len it = { s with evt := { s.evt with windows := s.evt.windows.map (fun w =>
      if w.code == it.code.toNat && w.key == key then { w with count := w.count + 1, last := some it } else w) } }) ∧
    (open_ = none → (s.recordWindow key len it).evt.sram = (s.record it).evt.sram ∧ (s.recordWindow key len it).evt.windows = s.evt.windows ++
      [{ code := it.code.toNat, key := key, len := len, due := s.now + len, count := 0, last := none }])) ∧
  (∀ (s : State) (rule key : Nat),
    let mine := fun (w : EvWindow) => w.code == rule && w.key == key
    (s.evt.windows.find? mine = none → exec (.eventWindowEnd rule key) s = .next s) ∧
    (∀ w, s.evt.windows.find? mine = some w → w.due < 2 ^ 64 →
      (w.last = none → Completes (.eventWindowEnd rule key) s (fun t => t.now = max s.now w.due ∧ t.evt = { s.evt with windows := s.evt.windows.filter (fun x => !mine x) } ∧ t.regs = s.regs)) ∧
      (∀ it, w.last = some it → Completes (.eventWindowEnd rule key) s (fun t => t.now = max s.now w.due ∧ ∃ v : State, v = { s with cnt := t.cnt } ∧
        t.evt.sram = (v.recordRep it w.count).evt.sram ∧ t.regs = (v.recordRep it w.count).regs ∧
        t.evt.windows = s.evt.windows.filter (fun x => !mine x) ++ [{ w with due := t.now + w.len, count := 0, last := none }])))) ∧
  (∀ (s : State), (s.bit Reg.EVT_STAT 14 = true → s.flush = s) ∧
    (s.bit Reg.EVT_STAT 14 = false → s.flush.evt.unflushed = [] ∧ s.flush.evt.sram.map (·.seq) = s.evt.sram.map (·.seq) ∧ s.flush.fld Reg.EVT_STAT 13 0 = 0 ∧
      (s.evt.main.length + s.evt.unflushed.length ≤ 1966080 → s.flush.evt.main.map (·.seq) = s.evt.main.map (·.seq) ++ s.evt.unflushed.map (·.seq)) ∧
      (s.evt.retained.length + s.evt.unflushed.length ≤ 131072 → s.flush.evt.retained.map (·.seq) = s.evt.retained.map (·.seq) ++
        (s.evt.unflushed.filter (fun r => decide (6 ≤ r.sev.toNat))).map (·.seq)))) ∧
  (∀ (s : State) (m : Master) (retained : Bool),
    let u := s.woken m
    let reads := fun (exact : Bool) (t : State) => OnlyRegs { u with evt := t.evt } [Reg.EVT_RD_STAT] t ∧ t.rd Reg.EVT_RD_STAT = 2 ∧
      t.evt = { u.evt with latch := none, pendingRead := some (exact, retained, u.rd Reg.EVT_RD_SEL, u.viewOf m) }
    (u.obeys m = true → exec (.evtFlush m) s = .next u.flush) ∧
    (s.evt.unflushed = [] → exec .flushTimer s = .next s) ∧
    (∀ r rest, s.evt.unflushed = r :: rest → r.stamp.toNat + 250000000 < 2 ^ 64 → exec .flushTimer s =
      .next (State.flush { s with cnt := BitVec.ofNat 64 (max s.now (r.stamp.toNat + 250000000)) })) ∧
    (u.pwr.off = false → u.phase ≠ 3 → u.owns m = true → Completes (.evtExact m retained) s (reads true) ∧ Completes (.evtNext m retained) s (reads false))) ∧
  ∀ (s : State), (s.evt.pendingRead = none → exec .evtReadDone s = .next s) ∧
    ∀ exact retained sel view, s.evt.pendingRead = some (exact, retained, sel, view) →
      let lacks := fun (l : List EvRec) (r : EvRec) => !l.any (fun x => x.seq == r.seq)
      let held := if retained then s.evt.retained
        else s.evt.retained.filter (fun r => lacks s.evt.main r && lacks s.evt.sram r) ++ s.evt.main ++ s.evt.sram.filter (lacks s.evt.main)
      let may := fun (r : EvRec) => match view, r.tenant with
        | none, _ => true
        | some ten, some x => x == ten || s.granted ten 8 0 (fun _ w2 => decide (bits w2 11 0 = x.toNat))
        | some _, none => false
      let oldest := (held.head?.map (·.seq)).getD 0
      let found := (held.filter may).find? (fun r => if exact then r.seq == sel else decide ((sel - oldest).toNat ≤ (r.seq - oldest).toNat))
      Completes .evtReadDone s (fun t => OnlyRegs { s with evt := t.evt } [Reg.EVT_RD_STAT] t ∧ t.evt = { s.evt with latch := found, pendingRead := none } ∧
        (found = none → t.rd Reg.EVT_RD_STAT = 8) ∧ ∀ r, found = some r → t.rd Reg.EVT_RD_STAT = if s.evt.sram.any (fun x => x.seq == r.seq) then 1 else 5)

/-- R298, R379 to R382: tampering and the loss of VBAT; the debug port: attach, authorisation, halting, stepping and looking. -/
def Obligations.TamperingAndDebug : Prop :=
  (∀ (s : State) (sensor : Fin 5) (active : Bool),
    let k := sensor.val
    let armed := (s.ownedLcs && decide (k < 4)) || s.bit Reg.KEY_TAMPER_CFG k
    ((armed = false ∨ active = false) → Completes (.tamper sensor active) s (fun t => OnlyRegs s [Reg.KEY_TAMPER_STAT] t ∧
      t.bit Reg.KEY_TAMPER_STAT (21 + k) = active ∧ ∀ j, j < 32 → j ≠ 21 + k → t.bit Reg.KEY_TAMPER_STAT j = s.bit Reg.KEY_TAMPER_STAT j)) ∧
    (armed = true → active = true → Completes (.tamper sensor active) s (fun t => t.locket = [] ∧ t.key.lost = true ∧ t.bit Reg.KEY_TAMPER_STAT k = true ∧ t.bit Reg.KEY_TAMPER_STAT 16 = true ∧
      t.bit Reg.KEY_TAMPER_STAT (21 + k) = true ∧ t.fld Reg.KEY_TAMPER_STAT 15 8 = min 255 (s.fld Reg.KEY_TAMPER_STAT 15 8 + 1))) ∧
    (armed = true → active = true → s.pwr.off = false → Completes (.tamper sensor active) s (fun t => ∃ v : State, t = v.record { sev := 7, source := 0x1A, code := 298, args := [wd k] } ∧
      v.key.job = none ∧ v.key.occ = 0 ∧ v.bit Reg.KEY_LCS 16 = false ∧ v.bit Reg.DBG_STAT 1 = false ∧ (∀ i, i < 1024 → v.rd (Reg.KEY_BUF i) = 0) ∧
      (s.key.job.isSome = true → v.fld Reg.KEY_STAT 4 1 = 8 ∧ v.bit Reg.KEY_STAT 0 = false)))) ∧
  (∀ (s : State), (s.pwr.off = false → exec .vbatLoss s = .next s) ∧
    (s.pwr.off = true → Completes .vbatLoss s (fun t => t.locket = [] ∧ t.key.lost = true ∧ t.rd Reg.KEY_TAMPER_STAT = 0 ∧ t.time.ticks = 0 ∧ t.meter.battery = none ∧
      (∀ a, a ≠ Reg.KEY_TAMPER_STAT → t.rd a = s.rd a) ∧ t.points = s.points ∧ t.pwr = s.pwr))) ∧
  (∀ (s : State) (b : List Byte),
    let attached := s.bit Reg.DBG_STAT 0
    let code := s.tokenCheck b
    let scope := bits (bytesWord (b.drop 16)) 3 0
    let due := s.now + (bytesWord (b.drop 20)).toNat * 250000000
    (∀ on : Bool, (s.debugOpen = false ∨ attached = on) → exec (.debugAttach on) s = .next s) ∧
    (s.debugOpen = true → attached = false → Completes (.debugAttach true) s (fun t => t.bit Reg.DBG_STAT 0 = true ∧
      (s.ownedLcs = false → t.bit Reg.DBG_STAT 1 = true ∧ t.fld Reg.DBG_STAT 6 3 = 15) ∧ (s.ownedLcs = true → t.bit Reg.DBG_STAT 1 = s.bit Reg.DBG_STAT 1))) ∧
    (s.debugOpen = true → attached = true → Completes (.debugAttach false) s (fun t => t.bit Reg.DBG_STAT 0 = false ∧ t.bit Reg.DBG_STAT 1 = false ∧ t.debugEnds = none ∧
      (s.bit Reg.DBG_STAT 1 = true → t.fld Reg.DBG_STAT 6 3 = 0))) ∧
    ((s.debugOpen = false ∨ attached = false ∨ s.ownedLcs = false) → exec (.debugAuthCheck b) s = .next s) ∧
    (s.debugOpen = true → attached = true → s.ownedLcs = true → Completes (.debugAuthCheck b) s (fun t => t.rd Reg.DBG_AUTH_STAT = wd code ∧
      (code = 0 → t.bit Reg.DBG_STAT 1 = true ∧ t.fld Reg.DBG_STAT 6 3 = scope ∧ t.debugEnds = some due) ∧ (code ≠ 0 → t.rd Reg.DBG_STAT = s.rd Reg.DBG_STAT ∧ t.debugEnds = s.debugEnds))) ∧
    (s.locketLocked = true → code = 8) ∧ (s.locketLocked = false → b.length ≠ 256 → code = 5) ∧
    (code = 0 → bitOf (bytesWord (b.drop 16)) 2 = false ∧ 0 < (bytesWord (b.drop 20)).toNat ∧ (bytesWord (b.drop 20)).toNat ≤ 28800 ∧ ∀ k, k < 4 → bytesWord (b.drop (4 * k)) = s.rd (Reg.DBG_NONCE k)) ∧
    (s.debugEnds = none → exec .debugAuthExpiry s = .next s) ∧
    (∀ e, s.debugEnds = some e → e < 2 ^ 64 → Completes .debugAuthExpiry s (fun t => t.now = max s.now e ∧ t.bit Reg.DBG_STAT 1 = false ∧ t.debugEnds = none))) ∧
  (∀ (s : State) (c : CoreId) (rsel : BitVec 6) (v : Word),
    let u := s.selectCore c
    let k := u.core c
    let may := u.debugOpen && u.mayHalt c
    let writes := u.scope 3 && decide (k.halt = .halted)
    let halted := fun (cause : BitVec 3) (t : State) => t = u.setCore c { k with halt := .halted, haltCause := cause }
    (s.debugOpen = true → s.bit Reg.DBG_STAT 0 = true → OnlyRegs s [Reg.DBG_CORE_SEL] u ∧ u.rd Reg.DBG_CORE_SEL = wd c.val) ∧
    (may = false → exec (.halt c) s = .next u ∧ exec (.force c) s = .next u ∧ exec (.step c) s = .next u ∧ exec (.resume c) s = .next u) ∧
    (may = true → k.halt = .halted → exec (.halt c) s = .next u ∧ exec (.force c) s = .next u ∧ exec (.step c) s = .next (u.setCore c { k with step := true }) ∧
      exec (.resume c) s = .next (((u.setCore c { k with halt := .running, haltCause := 0, step := false }).preempt c).resumeBest c)) ∧
    (may = true → k.halt ≠ .halted → exec (.step c) s = .next u ∧ exec (.resume c) s = .next u) ∧
    (may = true → k.halt ≠ .halted → k.clasp = none → Completes (.halt c) s (halted 1) ∧ Completes (.force c) s (halted 4)) ∧
    (∀ q, may = true → k.halt ≠ .halted → k.clasp = some q → exec (.halt c) s = .next (u.setCore c { k with halt := .haltPending, haltCause := 1 })) ∧
    (∀ q n, may = true → k.halt ≠ .halted → k.clasp = some q → k.lesson = some n → exec (.force c) s = .next (((u.breakClasp c).haltCore c 4).abandon n 10)) ∧
    (∀ q, may = true → k.halt ≠ .halted → k.clasp = some q → k.lesson = none → exec (.force c) s = .next ((u.breakClasp c).haltCore c 4)) ∧
    (writes = false → exec (.coreRegisterWrite c rsel v) s = .next u) ∧
    (writes = true → Completes (.coreRegisterWrite c rsel v) s (fun t => t.rd Reg.DBG_CORE_RSEL = wd rsel.toNat ∧ (∀ d, d ≠ c → t.core d = u.core d) ∧ t.points = u.points ∧
      (∀ r : BitVec 4, rsel.toNat = r.toNat → t.core c = { k with ctx := { k.ctx with g := k.ctx.g.set r.toNat v } }) ∧ (rsel = 16 → t.pc c = v) ∧ (rsel = 17 → t.ls c = v) ∧
      ((rsel = 18 ∨ 36 ≤ rsel.toNat) → t.core c = k)))) ∧
  ∀ (s : State) (addr : BitVec 24),
    let a := addr.toNat / 4 * 4
    let u := if aonRegister a then s else s.wakeRequest 0
    let clears := match regSpec? a with | some r => r.rc != 0 | none => false
    let secret := s.ownedLcs && a / 0x10000 == 0x1A && a != Reg.KEY_LCS && a != Reg.KEY_STAT
    (s.scope 0 = false → exec (.peek addr) s = .next s) ∧
    (s.scope 0 = true → Completes (.peek addr) s (fun t => ∃ w : Word, OnlyRegs (u.emit [w]) [Reg.DBG_STAT, Reg.DBG_PEEK_ADDR, Reg.DBG_PEEK_DATA] t ∧ t.rd Reg.DBG_PEEK_ADDR = wd a ∧
      t.rd Reg.DBG_PEEK_DATA = w ∧ (clears = true → t.bit Reg.DBG_STAT 2 = true) ∧ (clears = false → t.rd Reg.DBG_STAT = u.rd Reg.DBG_STAT) ∧ w = u.debugWord a)) ∧
    (secret = true → s.debugWord a = 0)
/-! ### The block as a whole -/

/-- Every command runs as it stands at the front of the queue: a step takes it off and is its exec on the rest. -/
def Obligations.StepRunsFront : Prop :=
  ∀ (s : State) (c : Instr) (rest : List Instr), s.pending = c :: rest → step s = exec c { s with pending := rest }

/-- R308, R313, R132: a command only the Prefect may give, from another session, is dropped and changes nothing but that session's error code, the count of
such writes and the recorder; through a tenant view it is counted as denied. -/
def Obligations.OnlyThePrefect : Prop :=
  ∀ (i : Instr) (s : State) (n : Fin 8), prefectOnly i = some (.sess n) →
    let u := s.wakeRequest 0
    (u.pwr.off = true → exec i s = .next u) ∧
    (u.pwr.off = false → u.prefect ≠ some n → Completes i s (fun t => t.host = { u.host with lastErr := u.host.lastErr.set n 1, pmeStatus := t.host.pmeStatus } ∧
      (t.rd Reg.HOST_NOT_OWNER_CNT).toNat = min (2 ^ 32 - 1) ((u.rd Reg.HOST_NOT_OWNER_CNT).toNat + 1) ∧ t.points = u.points ∧ t.scan = u.scan ∧ t.key = u.key ∧
      t.roster = u.roster ∧ t.acc = u.acc ∧ t.fwu = u.fwu ∧ t.pwr = u.pwr ∧ t.charm = u.charm ∧ t.meter = u.meter ∧ t.field = u.field ∧ t.time = u.time ∧ t.cnt = u.cnt ∧
      t.locket = u.locket ∧ ∀ a, a / 65536 ∉ [0x01, 0x06, 0x1B] → t.rd a = u.rd a)) ∧
    (u.pwr.off = false → u.prefect = some n → u.bit Reg.ROSTER_VIEW 31 = true → Completes i s (fun t => OnlyRegs u [Reg.ROSTER_VIEW_DENY] t ∧
      (t.rd Reg.ROSTER_VIEW_DENY).toNat = min (2 ^ 32 - 1) ((u.rd Reg.ROSTER_VIEW_DENY).toNat + 1)))

/-- What reset leaves: the values of the register tables, no Prefect, phase BOOT, an empty queue, and every stored table in canonical form. -/
def Obligations.ResetState : Prop :=
  let s := State.reset
  s.pending = [] ∧ s.prefect = none ∧ s.phase = 0 ∧ s.now = 0 ∧ s.points = [] ∧ s.memoriesWf = true ∧ s.tablesWf = true ∧ s.pwr.sleep = none ∧ s.pwr.off = false ∧
  s.fld Reg.SYS_ROLL_STAT 15 8 = 255 ∧ s.rd Reg.HOST_CFG = 1 ∧ s.rd (Reg.HOST_LAT_TOL 1) = 2 ∧ s.rd (Reg.HOST_LAT_TOL 2) = 0xFFFFFF ∧ s.rd Reg.PWR_CFG = 2 ∧ s.fld Reg.PWR_FEED_CFG 15 8 = 10 ∧
  s.rd Reg.SCAN_POOL_STAT = 0x18000000 ∧ s.rd (Reg.SCAN_HR_FLOOR 15) = 128 ∧ s.rd (Reg.LOOP_STG_CPR 45) = 4096 ∧ s.rd (Reg.LOOP_STG_CPR 47) = 0 ∧ s.fld (Reg.FIELD_DI_CFG 95) 17 16 = 1 ∧
  s.rd (Reg.NET_MAXLEN 7) = 1528 ∧ s.rd Reg.PRP_FORGET = 400 ∧ s.fld Reg.TIME_STAT 15 8 = 255 ∧ s.rd Reg.EVT_CTRL = 0xD60 ∧ s.rd Reg.FWU_REPORT_DEADLINE = 600

/-- Every word of the encoding tables carries its instruction whole: the words of an instruction decode to it, with every operand at every value the
encoding admits (R42 to R45). -/
def Obligations.EncodeDecode : Prop :=
  ∀ (i : Instr) (c : CoreId), wordCore i = some c → operandsLegal i = true → decodeWords c (encodeWords i).1 (encodeWords i).2 = some i

/-- A word, or a prefix and the word behind it, stands for at most one instruction, whose own words they are (R42 to R45). -/
def Obligations.DecodeEncode : Prop :=
  ∀ (c : CoreId) (w second : Nat) (i : Instr), decodeWords c w second = some i →
    wordCore i = some c ∧ operandsLegal i = true ∧ encodeWords i = (w, if w / 2 ^ 26 = 0x3F then second else 0)

/-- No command and no idle step takes core memory, the Locket, LPDDR5 or the Charm out of canonical form. -/
def Obligations.MemoriesStayCanonical : Prop :=
  ∀ (s t : State), s.memoriesWf = true → step s = .next t → t.memoriesWf = true
end

