-- ==== Sys2Proof/Laws/State.lean ====
section
/-! SUPPORT. What each basic update of the state leaves as it is: one lemma per field and update, so that no proof unfolds a record update. -/

namespace Sys2Proof.Machine

variable (s : State)

/-! ### wr -/

@[simp] theorem State.wr_free (a : Nat) (v : Word) : (s.wr a v).free = s.free := rfl
@[simp] theorem State.wr_cnt (a : Nat) (v : Word) : (s.wr a v).cnt = s.cnt := rfl
@[simp] theorem State.wr_cntFrac (a : Nat) (v : Word) : (s.wr a v).cntFrac = s.cntFrac := rfl
@[simp] theorem State.wr_reply (a : Nat) (v : Word) : (s.wr a v).reply = s.reply := rfl
@[simp] theorem State.wr_scan (a : Nat) (v : Word) : (s.wr a v).scan = s.scan := rfl
@[simp] theorem State.wr_points (a : Nat) (v : Word) : (s.wr a v).points = s.points := rfl
@[simp] theorem State.wr_roster (a : Nat) (v : Word) : (s.wr a v).roster = s.roster := rfl
@[simp] theorem State.wr_evt (a : Nat) (v : Word) : (s.wr a v).evt = s.evt := rfl
@[simp] theorem State.wr_time (a : Nat) (v : Word) : (s.wr a v).time = s.time := rfl
@[simp] theorem State.wr_host (a : Nat) (v : Word) : (s.wr a v).host = s.host := rfl
@[simp] theorem State.wr_bus (a : Nat) (v : Word) : (s.wr a v).bus = s.bus := rfl
@[simp] theorem State.wr_locket (a : Nat) (v : Word) : (s.wr a v).locket = s.locket := rfl
@[simp] theorem State.wr_lpddr (a : Nat) (v : Word) : (s.wr a v).lpddr = s.lpddr := rfl
@[simp] theorem State.wr_field (a : Nat) (v : Word) : (s.wr a v).field = s.field := rfl
@[simp] theorem State.wr_pwr (a : Nat) (v : Word) : (s.wr a v).pwr = s.pwr := rfl
@[simp] theorem State.wr_key (a : Nat) (v : Word) : (s.wr a v).key = s.key := rfl
@[simp] theorem State.wr_loop (a : Nat) (v : Word) : (s.wr a v).loop = s.loop := rfl
@[simp] theorem State.wr_mirrorAt (a : Nat) (v : Word) : (s.wr a v).mirrorAt = s.mirrorAt := rfl
@[simp] theorem State.wr_lift (a : Nat) (v : Word) : (s.wr a v).lift = s.lift := rfl
@[simp] theorem State.wr_disp (a : Nat) (v : Word) : (s.wr a v).disp = s.disp := rfl
@[simp] theorem State.wr_safe (a : Nat) (v : Word) : (s.wr a v).safe = s.safe := rfl
@[simp] theorem State.wr_meter (a : Nat) (v : Word) : (s.wr a v).meter = s.meter := rfl
@[simp] theorem State.wr_net (a : Nat) (v : Word) : (s.wr a v).net = s.net := rfl
@[simp] theorem State.wr_acc (a : Nat) (v : Word) : (s.wr a v).acc = s.acc := rfl
@[simp] theorem State.wr_charm (a : Nat) (v : Word) : (s.wr a v).charm = s.charm := rfl
@[simp] theorem State.wr_fwu (a : Nat) (v : Word) : (s.wr a v).fwu = s.fwu := rfl
@[simp] theorem State.wr_nand (a : Nat) (v : Word) : (s.wr a v).nand = s.nand := rfl
@[simp] theorem State.wr_settings (a : Nat) (v : Word) : (s.wr a v).settings = s.settings := rfl
@[simp] theorem State.wr_debugEnds (a : Nat) (v : Word) : (s.wr a v).debugEnds = s.debugEnds := rfl
@[simp] theorem State.wr_linkErrs (a : Nat) (v : Word) : (s.wr a v).linkErrs = s.linkErrs := rfl
@[simp] theorem State.wr_pending (a : Nat) (v : Word) : (s.wr a v).pending = s.pending := rfl

/-! ### setFld -/

@[simp] theorem State.setFld_free (a hi lo v : Nat) : (s.setFld a hi lo v).free = s.free := rfl
@[simp] theorem State.setFld_cnt (a hi lo v : Nat) : (s.setFld a hi lo v).cnt = s.cnt := rfl
@[simp] theorem State.setFld_cntFrac (a hi lo v : Nat) : (s.setFld a hi lo v).cntFrac = s.cntFrac := rfl
@[simp] theorem State.setFld_reply (a hi lo v : Nat) : (s.setFld a hi lo v).reply = s.reply := rfl
@[simp] theorem State.setFld_scan (a hi lo v : Nat) : (s.setFld a hi lo v).scan = s.scan := rfl
@[simp] theorem State.setFld_points (a hi lo v : Nat) : (s.setFld a hi lo v).points = s.points := rfl
@[simp] theorem State.setFld_roster (a hi lo v : Nat) : (s.setFld a hi lo v).roster = s.roster := rfl
@[simp] theorem State.setFld_evt (a hi lo v : Nat) : (s.setFld a hi lo v).evt = s.evt := rfl
@[simp] theorem State.setFld_time (a hi lo v : Nat) : (s.setFld a hi lo v).time = s.time := rfl
@[simp] theorem State.setFld_host (a hi lo v : Nat) : (s.setFld a hi lo v).host = s.host := rfl
@[simp] theorem State.setFld_bus (a hi lo v : Nat) : (s.setFld a hi lo v).bus = s.bus := rfl
@[simp] theorem State.setFld_locket (a hi lo v : Nat) : (s.setFld a hi lo v).locket = s.locket := rfl
@[simp] theorem State.setFld_lpddr (a hi lo v : Nat) : (s.setFld a hi lo v).lpddr = s.lpddr := rfl
@[simp] theorem State.setFld_field (a hi lo v : Nat) : (s.setFld a hi lo v).field = s.field := rfl
@[simp] theorem State.setFld_pwr (a hi lo v : Nat) : (s.setFld a hi lo v).pwr = s.pwr := rfl
@[simp] theorem State.setFld_key (a hi lo v : Nat) : (s.setFld a hi lo v).key = s.key := rfl
@[simp] theorem State.setFld_loop (a hi lo v : Nat) : (s.setFld a hi lo v).loop = s.loop := rfl
@[simp] theorem State.setFld_mirrorAt (a hi lo v : Nat) : (s.setFld a hi lo v).mirrorAt = s.mirrorAt := rfl
@[simp] theorem State.setFld_lift (a hi lo v : Nat) : (s.setFld a hi lo v).lift = s.lift := rfl
@[simp] theorem State.setFld_disp (a hi lo v : Nat) : (s.setFld a hi lo v).disp = s.disp := rfl
@[simp] theorem State.setFld_safe (a hi lo v : Nat) : (s.setFld a hi lo v).safe = s.safe := rfl
@[simp] theorem State.setFld_meter (a hi lo v : Nat) : (s.setFld a hi lo v).meter = s.meter := rfl
@[simp] theorem State.setFld_net (a hi lo v : Nat) : (s.setFld a hi lo v).net = s.net := rfl
@[simp] theorem State.setFld_acc (a hi lo v : Nat) : (s.setFld a hi lo v).acc = s.acc := rfl
@[simp] theorem State.setFld_charm (a hi lo v : Nat) : (s.setFld a hi lo v).charm = s.charm := rfl
@[simp] theorem State.setFld_fwu (a hi lo v : Nat) : (s.setFld a hi lo v).fwu = s.fwu := rfl
@[simp] theorem State.setFld_nand (a hi lo v : Nat) : (s.setFld a hi lo v).nand = s.nand := rfl
@[simp] theorem State.setFld_settings (a hi lo v : Nat) : (s.setFld a hi lo v).settings = s.settings := rfl
@[simp] theorem State.setFld_debugEnds (a hi lo v : Nat) : (s.setFld a hi lo v).debugEnds = s.debugEnds := rfl
@[simp] theorem State.setFld_linkErrs (a hi lo v : Nat) : (s.setFld a hi lo v).linkErrs = s.linkErrs := rfl
@[simp] theorem State.setFld_pending (a hi lo v : Nat) : (s.setFld a hi lo v).pending = s.pending := rfl

/-! ### setBit -/

@[simp] theorem State.setBit_free (a i : Nat) (b : Bool) : (s.setBit a i b).free = s.free := rfl
@[simp] theorem State.setBit_cnt (a i : Nat) (b : Bool) : (s.setBit a i b).cnt = s.cnt := rfl
@[simp] theorem State.setBit_cntFrac (a i : Nat) (b : Bool) : (s.setBit a i b).cntFrac = s.cntFrac := rfl
@[simp] theorem State.setBit_reply (a i : Nat) (b : Bool) : (s.setBit a i b).reply = s.reply := rfl
@[simp] theorem State.setBit_scan (a i : Nat) (b : Bool) : (s.setBit a i b).scan = s.scan := rfl
@[simp] theorem State.setBit_points (a i : Nat) (b : Bool) : (s.setBit a i b).points = s.points := rfl
@[simp] theorem State.setBit_roster (a i : Nat) (b : Bool) : (s.setBit a i b).roster = s.roster := rfl
@[simp] theorem State.setBit_evt (a i : Nat) (b : Bool) : (s.setBit a i b).evt = s.evt := rfl
@[simp] theorem State.setBit_time (a i : Nat) (b : Bool) : (s.setBit a i b).time = s.time := rfl
@[simp] theorem State.setBit_host (a i : Nat) (b : Bool) : (s.setBit a i b).host = s.host := rfl
@[simp] theorem State.setBit_bus (a i : Nat) (b : Bool) : (s.setBit a i b).bus = s.bus := rfl
@[simp] theorem State.setBit_locket (a i : Nat) (b : Bool) : (s.setBit a i b).locket = s.locket := rfl
@[simp] theorem State.setBit_lpddr (a i : Nat) (b : Bool) : (s.setBit a i b).lpddr = s.lpddr := rfl
@[simp] theorem State.setBit_field (a i : Nat) (b : Bool) : (s.setBit a i b).field = s.field := rfl
@[simp] theorem State.setBit_pwr (a i : Nat) (b : Bool) : (s.setBit a i b).pwr = s.pwr := rfl
@[simp] theorem State.setBit_key (a i : Nat) (b : Bool) : (s.setBit a i b).key = s.key := rfl
@[simp] theorem State.setBit_loop (a i : Nat) (b : Bool) : (s.setBit a i b).loop = s.loop := rfl
@[simp] theorem State.setBit_mirrorAt (a i : Nat) (b : Bool) : (s.setBit a i b).mirrorAt = s.mirrorAt := rfl
@[simp] theorem State.setBit_lift (a i : Nat) (b : Bool) : (s.setBit a i b).lift = s.lift := rfl
@[simp] theorem State.setBit_disp (a i : Nat) (b : Bool) : (s.setBit a i b).disp = s.disp := rfl
@[simp] theorem State.setBit_safe (a i : Nat) (b : Bool) : (s.setBit a i b).safe = s.safe := rfl
@[simp] theorem State.setBit_meter (a i : Nat) (b : Bool) : (s.setBit a i b).meter = s.meter := rfl
@[simp] theorem State.setBit_net (a i : Nat) (b : Bool) : (s.setBit a i b).net = s.net := rfl
@[simp] theorem State.setBit_acc (a i : Nat) (b : Bool) : (s.setBit a i b).acc = s.acc := rfl
@[simp] theorem State.setBit_charm (a i : Nat) (b : Bool) : (s.setBit a i b).charm = s.charm := rfl
@[simp] theorem State.setBit_fwu (a i : Nat) (b : Bool) : (s.setBit a i b).fwu = s.fwu := rfl
@[simp] theorem State.setBit_nand (a i : Nat) (b : Bool) : (s.setBit a i b).nand = s.nand := rfl
@[simp] theorem State.setBit_settings (a i : Nat) (b : Bool) : (s.setBit a i b).settings = s.settings := rfl
@[simp] theorem State.setBit_debugEnds (a i : Nat) (b : Bool) : (s.setBit a i b).debugEnds = s.debugEnds := rfl
@[simp] theorem State.setBit_linkErrs (a i : Nat) (b : Bool) : (s.setBit a i b).linkErrs = s.linkErrs := rfl
@[simp] theorem State.setBit_pending (a i : Nat) (b : Bool) : (s.setBit a i b).pending = s.pending := rfl

/-! ### incSat -/

@[simp] theorem State.incSat_free (a hi lo : Nat) : (s.incSat a hi lo).free = s.free := rfl
@[simp] theorem State.incSat_cnt (a hi lo : Nat) : (s.incSat a hi lo).cnt = s.cnt := rfl
@[simp] theorem State.incSat_cntFrac (a hi lo : Nat) : (s.incSat a hi lo).cntFrac = s.cntFrac := rfl
@[simp] theorem State.incSat_reply (a hi lo : Nat) : (s.incSat a hi lo).reply = s.reply := rfl
@[simp] theorem State.incSat_scan (a hi lo : Nat) : (s.incSat a hi lo).scan = s.scan := rfl
@[simp] theorem State.incSat_points (a hi lo : Nat) : (s.incSat a hi lo).points = s.points := rfl
@[simp] theorem State.incSat_roster (a hi lo : Nat) : (s.incSat a hi lo).roster = s.roster := rfl
@[simp] theorem State.incSat_evt (a hi lo : Nat) : (s.incSat a hi lo).evt = s.evt := rfl
@[simp] theorem State.incSat_time (a hi lo : Nat) : (s.incSat a hi lo).time = s.time := rfl
@[simp] theorem State.incSat_host (a hi lo : Nat) : (s.incSat a hi lo).host = s.host := rfl
@[simp] theorem State.incSat_bus (a hi lo : Nat) : (s.incSat a hi lo).bus = s.bus := rfl
@[simp] theorem State.incSat_locket (a hi lo : Nat) : (s.incSat a hi lo).locket = s.locket := rfl
@[simp] theorem State.incSat_lpddr (a hi lo : Nat) : (s.incSat a hi lo).lpddr = s.lpddr := rfl
@[simp] theorem State.incSat_field (a hi lo : Nat) : (s.incSat a hi lo).field = s.field := rfl
@[simp] theorem State.incSat_pwr (a hi lo : Nat) : (s.incSat a hi lo).pwr = s.pwr := rfl
@[simp] theorem State.incSat_key (a hi lo : Nat) : (s.incSat a hi lo).key = s.key := rfl
@[simp] theorem State.incSat_loop (a hi lo : Nat) : (s.incSat a hi lo).loop = s.loop := rfl
@[simp] theorem State.incSat_mirrorAt (a hi lo : Nat) : (s.incSat a hi lo).mirrorAt = s.mirrorAt := rfl
@[simp] theorem State.incSat_lift (a hi lo : Nat) : (s.incSat a hi lo).lift = s.lift := rfl
@[simp] theorem State.incSat_disp (a hi lo : Nat) : (s.incSat a hi lo).disp = s.disp := rfl
@[simp] theorem State.incSat_safe (a hi lo : Nat) : (s.incSat a hi lo).safe = s.safe := rfl
@[simp] theorem State.incSat_meter (a hi lo : Nat) : (s.incSat a hi lo).meter = s.meter := rfl
@[simp] theorem State.incSat_net (a hi lo : Nat) : (s.incSat a hi lo).net = s.net := rfl
@[simp] theorem State.incSat_acc (a hi lo : Nat) : (s.incSat a hi lo).acc = s.acc := rfl
@[simp] theorem State.incSat_charm (a hi lo : Nat) : (s.incSat a hi lo).charm = s.charm := rfl
@[simp] theorem State.incSat_fwu (a hi lo : Nat) : (s.incSat a hi lo).fwu = s.fwu := rfl
@[simp] theorem State.incSat_nand (a hi lo : Nat) : (s.incSat a hi lo).nand = s.nand := rfl
@[simp] theorem State.incSat_settings (a hi lo : Nat) : (s.incSat a hi lo).settings = s.settings := rfl
@[simp] theorem State.incSat_debugEnds (a hi lo : Nat) : (s.incSat a hi lo).debugEnds = s.debugEnds := rfl
@[simp] theorem State.incSat_linkErrs (a hi lo : Nat) : (s.incSat a hi lo).linkErrs = s.linkErrs := rfl
@[simp] theorem State.incSat_pending (a hi lo : Nat) : (s.incSat a hi lo).pending = s.pending := rfl

/-! ### inc -/

@[simp] theorem State.inc_free (a : Nat) : (s.inc a).free = s.free := rfl
@[simp] theorem State.inc_cnt (a : Nat) : (s.inc a).cnt = s.cnt := rfl
@[simp] theorem State.inc_cntFrac (a : Nat) : (s.inc a).cntFrac = s.cntFrac := rfl
@[simp] theorem State.inc_reply (a : Nat) : (s.inc a).reply = s.reply := rfl
@[simp] theorem State.inc_scan (a : Nat) : (s.inc a).scan = s.scan := rfl
@[simp] theorem State.inc_points (a : Nat) : (s.inc a).points = s.points := rfl
@[simp] theorem State.inc_roster (a : Nat) : (s.inc a).roster = s.roster := rfl
@[simp] theorem State.inc_evt (a : Nat) : (s.inc a).evt = s.evt := rfl
@[simp] theorem State.inc_time (a : Nat) : (s.inc a).time = s.time := rfl
@[simp] theorem State.inc_host (a : Nat) : (s.inc a).host = s.host := rfl
@[simp] theorem State.inc_bus (a : Nat) : (s.inc a).bus = s.bus := rfl
@[simp] theorem State.inc_locket (a : Nat) : (s.inc a).locket = s.locket := rfl
@[simp] theorem State.inc_lpddr (a : Nat) : (s.inc a).lpddr = s.lpddr := rfl
@[simp] theorem State.inc_field (a : Nat) : (s.inc a).field = s.field := rfl
@[simp] theorem State.inc_pwr (a : Nat) : (s.inc a).pwr = s.pwr := rfl
@[simp] theorem State.inc_key (a : Nat) : (s.inc a).key = s.key := rfl
@[simp] theorem State.inc_loop (a : Nat) : (s.inc a).loop = s.loop := rfl
@[simp] theorem State.inc_mirrorAt (a : Nat) : (s.inc a).mirrorAt = s.mirrorAt := rfl
@[simp] theorem State.inc_lift (a : Nat) : (s.inc a).lift = s.lift := rfl
@[simp] theorem State.inc_disp (a : Nat) : (s.inc a).disp = s.disp := rfl
@[simp] theorem State.inc_safe (a : Nat) : (s.inc a).safe = s.safe := rfl
@[simp] theorem State.inc_meter (a : Nat) : (s.inc a).meter = s.meter := rfl
@[simp] theorem State.inc_net (a : Nat) : (s.inc a).net = s.net := rfl
@[simp] theorem State.inc_acc (a : Nat) : (s.inc a).acc = s.acc := rfl
@[simp] theorem State.inc_charm (a : Nat) : (s.inc a).charm = s.charm := rfl
@[simp] theorem State.inc_fwu (a : Nat) : (s.inc a).fwu = s.fwu := rfl
@[simp] theorem State.inc_nand (a : Nat) : (s.inc a).nand = s.nand := rfl
@[simp] theorem State.inc_settings (a : Nat) : (s.inc a).settings = s.settings := rfl
@[simp] theorem State.inc_debugEnds (a : Nat) : (s.inc a).debugEnds = s.debugEnds := rfl
@[simp] theorem State.inc_linkErrs (a : Nat) : (s.inc a).linkErrs = s.linkErrs := rfl
@[simp] theorem State.inc_pending (a : Nat) : (s.inc a).pending = s.pending := rfl

/-! ### addSat -/

@[simp] theorem State.addSat_free (a n : Nat) : (s.addSat a n).free = s.free := rfl
@[simp] theorem State.addSat_cnt (a n : Nat) : (s.addSat a n).cnt = s.cnt := rfl
@[simp] theorem State.addSat_cntFrac (a n : Nat) : (s.addSat a n).cntFrac = s.cntFrac := rfl
@[simp] theorem State.addSat_reply (a n : Nat) : (s.addSat a n).reply = s.reply := rfl
@[simp] theorem State.addSat_scan (a n : Nat) : (s.addSat a n).scan = s.scan := rfl
@[simp] theorem State.addSat_points (a n : Nat) : (s.addSat a n).points = s.points := rfl
@[simp] theorem State.addSat_roster (a n : Nat) : (s.addSat a n).roster = s.roster := rfl
@[simp] theorem State.addSat_evt (a n : Nat) : (s.addSat a n).evt = s.evt := rfl
@[simp] theorem State.addSat_time (a n : Nat) : (s.addSat a n).time = s.time := rfl
@[simp] theorem State.addSat_host (a n : Nat) : (s.addSat a n).host = s.host := rfl
@[simp] theorem State.addSat_bus (a n : Nat) : (s.addSat a n).bus = s.bus := rfl
@[simp] theorem State.addSat_locket (a n : Nat) : (s.addSat a n).locket = s.locket := rfl
@[simp] theorem State.addSat_lpddr (a n : Nat) : (s.addSat a n).lpddr = s.lpddr := rfl
@[simp] theorem State.addSat_field (a n : Nat) : (s.addSat a n).field = s.field := rfl
@[simp] theorem State.addSat_pwr (a n : Nat) : (s.addSat a n).pwr = s.pwr := rfl
@[simp] theorem State.addSat_key (a n : Nat) : (s.addSat a n).key = s.key := rfl
@[simp] theorem State.addSat_loop (a n : Nat) : (s.addSat a n).loop = s.loop := rfl
@[simp] theorem State.addSat_mirrorAt (a n : Nat) : (s.addSat a n).mirrorAt = s.mirrorAt := rfl
@[simp] theorem State.addSat_lift (a n : Nat) : (s.addSat a n).lift = s.lift := rfl
@[simp] theorem State.addSat_disp (a n : Nat) : (s.addSat a n).disp = s.disp := rfl
@[simp] theorem State.addSat_safe (a n : Nat) : (s.addSat a n).safe = s.safe := rfl
@[simp] theorem State.addSat_meter (a n : Nat) : (s.addSat a n).meter = s.meter := rfl
@[simp] theorem State.addSat_net (a n : Nat) : (s.addSat a n).net = s.net := rfl
@[simp] theorem State.addSat_acc (a n : Nat) : (s.addSat a n).acc = s.acc := rfl
@[simp] theorem State.addSat_charm (a n : Nat) : (s.addSat a n).charm = s.charm := rfl
@[simp] theorem State.addSat_fwu (a n : Nat) : (s.addSat a n).fwu = s.fwu := rfl
@[simp] theorem State.addSat_nand (a n : Nat) : (s.addSat a n).nand = s.nand := rfl
@[simp] theorem State.addSat_settings (a n : Nat) : (s.addSat a n).settings = s.settings := rfl
@[simp] theorem State.addSat_debugEnds (a n : Nat) : (s.addSat a n).debugEnds = s.debugEnds := rfl
@[simp] theorem State.addSat_linkErrs (a n : Nat) : (s.addSat a n).linkErrs = s.linkErrs := rfl
@[simp] theorem State.addSat_pending (a n : Nat) : (s.addSat a n).pending = s.pending := rfl

/-! ### nextFree -/

@[simp] theorem State.nextFree_regs : (s.nextFree).regs = s.regs := rfl
@[simp] theorem State.nextFree_cnt : (s.nextFree).cnt = s.cnt := rfl
@[simp] theorem State.nextFree_cntFrac : (s.nextFree).cntFrac = s.cntFrac := rfl
@[simp] theorem State.nextFree_reply : (s.nextFree).reply = s.reply := rfl
@[simp] theorem State.nextFree_scan : (s.nextFree).scan = s.scan := rfl
@[simp] theorem State.nextFree_points : (s.nextFree).points = s.points := rfl
@[simp] theorem State.nextFree_roster : (s.nextFree).roster = s.roster := rfl
@[simp] theorem State.nextFree_evt : (s.nextFree).evt = s.evt := rfl
@[simp] theorem State.nextFree_time : (s.nextFree).time = s.time := rfl
@[simp] theorem State.nextFree_host : (s.nextFree).host = s.host := rfl
@[simp] theorem State.nextFree_bus : (s.nextFree).bus = s.bus := rfl
@[simp] theorem State.nextFree_locket : (s.nextFree).locket = s.locket := rfl
@[simp] theorem State.nextFree_lpddr : (s.nextFree).lpddr = s.lpddr := rfl
@[simp] theorem State.nextFree_field : (s.nextFree).field = s.field := rfl
@[simp] theorem State.nextFree_pwr : (s.nextFree).pwr = s.pwr := rfl
@[simp] theorem State.nextFree_key : (s.nextFree).key = s.key := rfl
@[simp] theorem State.nextFree_loop : (s.nextFree).loop = s.loop := rfl
@[simp] theorem State.nextFree_mirrorAt : (s.nextFree).mirrorAt = s.mirrorAt := rfl
@[simp] theorem State.nextFree_lift : (s.nextFree).lift = s.lift := rfl
@[simp] theorem State.nextFree_disp : (s.nextFree).disp = s.disp := rfl
@[simp] theorem State.nextFree_safe : (s.nextFree).safe = s.safe := rfl
@[simp] theorem State.nextFree_meter : (s.nextFree).meter = s.meter := rfl
@[simp] theorem State.nextFree_net : (s.nextFree).net = s.net := rfl
@[simp] theorem State.nextFree_acc : (s.nextFree).acc = s.acc := rfl
@[simp] theorem State.nextFree_charm : (s.nextFree).charm = s.charm := rfl
@[simp] theorem State.nextFree_fwu : (s.nextFree).fwu = s.fwu := rfl
@[simp] theorem State.nextFree_nand : (s.nextFree).nand = s.nand := rfl
@[simp] theorem State.nextFree_settings : (s.nextFree).settings = s.settings := rfl
@[simp] theorem State.nextFree_debugEnds : (s.nextFree).debugEnds = s.debugEnds := rfl
@[simp] theorem State.nextFree_linkErrs : (s.nextFree).linkErrs = s.linkErrs := rfl
@[simp] theorem State.nextFree_pending : (s.nextFree).pending = s.pending := rfl

/-! ### setPoint -/

@[simp] theorem State.setPoint_regs (i : PointIdx) (p : Point) : (s.setPoint i p).regs = s.regs := rfl
@[simp] theorem State.setPoint_free (i : PointIdx) (p : Point) : (s.setPoint i p).free = s.free := rfl
@[simp] theorem State.setPoint_cnt (i : PointIdx) (p : Point) : (s.setPoint i p).cnt = s.cnt := rfl
@[simp] theorem State.setPoint_cntFrac (i : PointIdx) (p : Point) : (s.setPoint i p).cntFrac = s.cntFrac := rfl
@[simp] theorem State.setPoint_reply (i : PointIdx) (p : Point) : (s.setPoint i p).reply = s.reply := rfl
@[simp] theorem State.setPoint_scan (i : PointIdx) (p : Point) : (s.setPoint i p).scan = s.scan := rfl
@[simp] theorem State.setPoint_roster (i : PointIdx) (p : Point) : (s.setPoint i p).roster = s.roster := rfl
@[simp] theorem State.setPoint_evt (i : PointIdx) (p : Point) : (s.setPoint i p).evt = s.evt := rfl
@[simp] theorem State.setPoint_time (i : PointIdx) (p : Point) : (s.setPoint i p).time = s.time := rfl
@[simp] theorem State.setPoint_host (i : PointIdx) (p : Point) : (s.setPoint i p).host = s.host := rfl
@[simp] theorem State.setPoint_bus (i : PointIdx) (p : Point) : (s.setPoint i p).bus = s.bus := rfl
@[simp] theorem State.setPoint_locket (i : PointIdx) (p : Point) : (s.setPoint i p).locket = s.locket := rfl
@[simp] theorem State.setPoint_lpddr (i : PointIdx) (p : Point) : (s.setPoint i p).lpddr = s.lpddr := rfl
@[simp] theorem State.setPoint_field (i : PointIdx) (p : Point) : (s.setPoint i p).field = s.field := rfl
@[simp] theorem State.setPoint_pwr (i : PointIdx) (p : Point) : (s.setPoint i p).pwr = s.pwr := rfl
@[simp] theorem State.setPoint_key (i : PointIdx) (p : Point) : (s.setPoint i p).key = s.key := rfl
@[simp] theorem State.setPoint_loop (i : PointIdx) (p : Point) : (s.setPoint i p).loop = s.loop := rfl
@[simp] theorem State.setPoint_mirrorAt (i : PointIdx) (p : Point) : (s.setPoint i p).mirrorAt = s.mirrorAt := rfl
@[simp] theorem State.setPoint_lift (i : PointIdx) (p : Point) : (s.setPoint i p).lift = s.lift := rfl
@[simp] theorem State.setPoint_disp (i : PointIdx) (p : Point) : (s.setPoint i p).disp = s.disp := rfl
@[simp] theorem State.setPoint_safe (i : PointIdx) (p : Point) : (s.setPoint i p).safe = s.safe := rfl
@[simp] theorem State.setPoint_meter (i : PointIdx) (p : Point) : (s.setPoint i p).meter = s.meter := rfl
@[simp] theorem State.setPoint_net (i : PointIdx) (p : Point) : (s.setPoint i p).net = s.net := rfl
@[simp] theorem State.setPoint_acc (i : PointIdx) (p : Point) : (s.setPoint i p).acc = s.acc := rfl
@[simp] theorem State.setPoint_charm (i : PointIdx) (p : Point) : (s.setPoint i p).charm = s.charm := rfl
@[simp] theorem State.setPoint_fwu (i : PointIdx) (p : Point) : (s.setPoint i p).fwu = s.fwu := rfl
@[simp] theorem State.setPoint_nand (i : PointIdx) (p : Point) : (s.setPoint i p).nand = s.nand := rfl
@[simp] theorem State.setPoint_settings (i : PointIdx) (p : Point) : (s.setPoint i p).settings = s.settings := rfl
@[simp] theorem State.setPoint_debugEnds (i : PointIdx) (p : Point) : (s.setPoint i p).debugEnds = s.debugEnds := rfl
@[simp] theorem State.setPoint_linkErrs (i : PointIdx) (p : Point) : (s.setPoint i p).linkErrs = s.linkErrs := rfl
@[simp] theorem State.setPoint_pending (i : PointIdx) (p : Point) : (s.setPoint i p).pending = s.pending := rfl

/-! ### setCore -/

@[simp] theorem State.setCore_regs (c : CoreId) (k : Core) : (s.setCore c k).regs = s.regs := rfl
@[simp] theorem State.setCore_free (c : CoreId) (k : Core) : (s.setCore c k).free = s.free := rfl
@[simp] theorem State.setCore_cnt (c : CoreId) (k : Core) : (s.setCore c k).cnt = s.cnt := rfl
@[simp] theorem State.setCore_cntFrac (c : CoreId) (k : Core) : (s.setCore c k).cntFrac = s.cntFrac := rfl
@[simp] theorem State.setCore_reply (c : CoreId) (k : Core) : (s.setCore c k).reply = s.reply := rfl
@[simp] theorem State.setCore_points (c : CoreId) (k : Core) : (s.setCore c k).points = s.points := rfl
@[simp] theorem State.setCore_roster (c : CoreId) (k : Core) : (s.setCore c k).roster = s.roster := rfl
@[simp] theorem State.setCore_evt (c : CoreId) (k : Core) : (s.setCore c k).evt = s.evt := rfl
@[simp] theorem State.setCore_time (c : CoreId) (k : Core) : (s.setCore c k).time = s.time := rfl
@[simp] theorem State.setCore_host (c : CoreId) (k : Core) : (s.setCore c k).host = s.host := rfl
@[simp] theorem State.setCore_bus (c : CoreId) (k : Core) : (s.setCore c k).bus = s.bus := rfl
@[simp] theorem State.setCore_locket (c : CoreId) (k : Core) : (s.setCore c k).locket = s.locket := rfl
@[simp] theorem State.setCore_lpddr (c : CoreId) (k : Core) : (s.setCore c k).lpddr = s.lpddr := rfl
@[simp] theorem State.setCore_field (c : CoreId) (k : Core) : (s.setCore c k).field = s.field := rfl
@[simp] theorem State.setCore_pwr (c : CoreId) (k : Core) : (s.setCore c k).pwr = s.pwr := rfl
@[simp] theorem State.setCore_key (c : CoreId) (k : Core) : (s.setCore c k).key = s.key := rfl
@[simp] theorem State.setCore_loop (c : CoreId) (k : Core) : (s.setCore c k).loop = s.loop := rfl
@[simp] theorem State.setCore_mirrorAt (c : CoreId) (k : Core) : (s.setCore c k).mirrorAt = s.mirrorAt := rfl
@[simp] theorem State.setCore_lift (c : CoreId) (k : Core) : (s.setCore c k).lift = s.lift := rfl
@[simp] theorem State.setCore_disp (c : CoreId) (k : Core) : (s.setCore c k).disp = s.disp := rfl
@[simp] theorem State.setCore_safe (c : CoreId) (k : Core) : (s.setCore c k).safe = s.safe := rfl
@[simp] theorem State.setCore_meter (c : CoreId) (k : Core) : (s.setCore c k).meter = s.meter := rfl
@[simp] theorem State.setCore_net (c : CoreId) (k : Core) : (s.setCore c k).net = s.net := rfl
@[simp] theorem State.setCore_acc (c : CoreId) (k : Core) : (s.setCore c k).acc = s.acc := rfl
@[simp] theorem State.setCore_charm (c : CoreId) (k : Core) : (s.setCore c k).charm = s.charm := rfl
@[simp] theorem State.setCore_fwu (c : CoreId) (k : Core) : (s.setCore c k).fwu = s.fwu := rfl
@[simp] theorem State.setCore_nand (c : CoreId) (k : Core) : (s.setCore c k).nand = s.nand := rfl
@[simp] theorem State.setCore_settings (c : CoreId) (k : Core) : (s.setCore c k).settings = s.settings := rfl
@[simp] theorem State.setCore_debugEnds (c : CoreId) (k : Core) : (s.setCore c k).debugEnds = s.debugEnds := rfl
@[simp] theorem State.setCore_linkErrs (c : CoreId) (k : Core) : (s.setCore c k).linkErrs = s.linkErrs := rfl
@[simp] theorem State.setCore_pending (c : CoreId) (k : Core) : (s.setCore c k).pending = s.pending := rfl
@[simp] theorem State.setCore_scan_t0 (c : CoreId) (k : Core) : (s.setCore c k).scan.t0 = s.scan.t0 := rfl
@[simp] theorem State.setCore_scan_rung (c : CoreId) (k : Core) : (s.setCore c k).scan.rung = s.scan.rung := rfl
@[simp] theorem State.setCore_scan_lessons (c : CoreId) (k : Core) : (s.setCore c k).scan.lessons = s.scan.lessons := rfl
@[simp] theorem State.setCore_scan_pool (c : CoreId) (k : Core) : (s.setCore c k).scan.pool = s.scan.pool := rfl
@[simp] theorem State.setCore_scan_poolFifo (c : CoreId) (k : Core) : (s.setCore c k).scan.poolFifo = s.scan.poolFifo := rfl
@[simp] theorem State.setCore_scan_issueCount (c : CoreId) (k : Core) : (s.setCore c k).scan.issueCount = s.scan.issueCount := rfl
@[simp] theorem State.setCore_scan_claspFifo (c : CoreId) (k : Core) : (s.setCore c k).scan.claspFifo = s.scan.claspFifo := rfl
@[simp] theorem State.setCore_scan_lockOwner (c : CoreId) (k : Core) : (s.setCore c k).scan.lockOwner = s.scan.lockOwner := rfl
@[simp] theorem State.setCore_scan_lockFifo (c : CoreId) (k : Core) : (s.setCore c k).scan.lockFifo = s.scan.lockFifo := rfl
@[simp] theorem State.setCore_scan_coreRegions (c : CoreId) (k : Core) : (s.setCore c k).scan.coreRegions = s.scan.coreRegions := rfl
@[simp] theorem State.setCore_scan_clusterRegions (c : CoreId) (k : Core) : (s.setCore c k).scan.clusterRegions = s.scan.clusterRegions := rfl
@[simp] theorem State.setCore_scan_mem (c : CoreId) (k : Core) : (s.setCore c k).scan.mem = s.scan.mem := rfl
@[simp] theorem State.setCore_scan_poison (c : CoreId) (k : Core) : (s.setCore c k).scan.poison = s.scan.poison := rfl
@[simp] theorem State.setCore_scan_tileErr (c : CoreId) (k : Core) : (s.setCore c k).scan.tileErr = s.scan.tileErr := rfl
@[simp] theorem State.setCore_scan_tilesOut (c : CoreId) (k : Core) : (s.setCore c k).scan.tilesOut = s.scan.tilesOut := rfl
@[simp] theorem State.setCore_scan_demoteCount (c : CoreId) (k : Core) : (s.setCore c k).scan.demoteCount = s.scan.demoteCount := rfl
@[simp] theorem State.setCore_scan_groups (c : CoreId) (k : Core) : (s.setCore c k).scan.groups = s.scan.groups := rfl
@[simp] theorem State.setCore_scan_loopQ (c : CoreId) (k : Core) : (s.setCore c k).scan.loopQ = s.scan.loopQ := rfl
@[simp] theorem State.setCore_scan_dispQ (c : CoreId) (k : Core) : (s.setCore c k).scan.dispQ = s.scan.dispQ := rfl
@[simp] theorem State.setCore_scan_accQ (c : CoreId) (k : Core) : (s.setCore c k).scan.accQ = s.scan.accQ := rfl
@[simp] theorem State.setCore_scan_staged (c : CoreId) (k : Core) : (s.setCore c k).scan.staged = s.scan.staged := rfl
@[simp] theorem State.setCore_scan_stagedTenant (c : CoreId) (k : Core) : (s.setCore c k).scan.stagedTenant = s.scan.stagedTenant := rfl
@[simp] theorem State.setCore_scan_current (c : CoreId) (k : Core) : (s.setCore c k).scan.current = s.scan.current := rfl
@[simp] theorem State.setCore_scan_layout (c : CoreId) (k : Core) : (s.setCore c k).scan.layout = s.scan.layout := rfl
@[simp] theorem State.setCore_scan_owns (c : CoreId) (k : Core) : (s.setCore c k).scan.owns = s.scan.owns := rfl
@[simp] theorem State.setCore_scan_switch (c : CoreId) (k : Core) : (s.setCore c k).scan.switch = s.scan.switch := rfl
@[simp] theorem State.setCore_scan_checkpoints (c : CoreId) (k : Core) : (s.setCore c k).scan.checkpoints = s.scan.checkpoints := rfl
@[simp] theorem State.setCore_scan_firstStart (c : CoreId) (k : Core) : (s.setCore c k).scan.firstStart = s.scan.firstStart := rfl
@[simp] theorem State.setCore_scan_retentiveLost (c : CoreId) (k : Core) : (s.setCore c k).scan.retentiveLost = s.scan.retentiveLost := rfl

/-! ### setLesson -/

@[simp] theorem State.setLesson_regs (n : Nat) (l : Lesson) : (s.setLesson n l).regs = s.regs := rfl
@[simp] theorem State.setLesson_free (n : Nat) (l : Lesson) : (s.setLesson n l).free = s.free := rfl
@[simp] theorem State.setLesson_cnt (n : Nat) (l : Lesson) : (s.setLesson n l).cnt = s.cnt := rfl
@[simp] theorem State.setLesson_cntFrac (n : Nat) (l : Lesson) : (s.setLesson n l).cntFrac = s.cntFrac := rfl
@[simp] theorem State.setLesson_reply (n : Nat) (l : Lesson) : (s.setLesson n l).reply = s.reply := rfl
@[simp] theorem State.setLesson_points (n : Nat) (l : Lesson) : (s.setLesson n l).points = s.points := rfl
@[simp] theorem State.setLesson_roster (n : Nat) (l : Lesson) : (s.setLesson n l).roster = s.roster := rfl
@[simp] theorem State.setLesson_evt (n : Nat) (l : Lesson) : (s.setLesson n l).evt = s.evt := rfl
@[simp] theorem State.setLesson_time (n : Nat) (l : Lesson) : (s.setLesson n l).time = s.time := rfl
@[simp] theorem State.setLesson_host (n : Nat) (l : Lesson) : (s.setLesson n l).host = s.host := rfl
@[simp] theorem State.setLesson_bus (n : Nat) (l : Lesson) : (s.setLesson n l).bus = s.bus := rfl
@[simp] theorem State.setLesson_locket (n : Nat) (l : Lesson) : (s.setLesson n l).locket = s.locket := rfl
@[simp] theorem State.setLesson_lpddr (n : Nat) (l : Lesson) : (s.setLesson n l).lpddr = s.lpddr := rfl
@[simp] theorem State.setLesson_field (n : Nat) (l : Lesson) : (s.setLesson n l).field = s.field := rfl
@[simp] theorem State.setLesson_pwr (n : Nat) (l : Lesson) : (s.setLesson n l).pwr = s.pwr := rfl
@[simp] theorem State.setLesson_key (n : Nat) (l : Lesson) : (s.setLesson n l).key = s.key := rfl
@[simp] theorem State.setLesson_loop (n : Nat) (l : Lesson) : (s.setLesson n l).loop = s.loop := rfl
@[simp] theorem State.setLesson_mirrorAt (n : Nat) (l : Lesson) : (s.setLesson n l).mirrorAt = s.mirrorAt := rfl
@[simp] theorem State.setLesson_lift (n : Nat) (l : Lesson) : (s.setLesson n l).lift = s.lift := rfl
@[simp] theorem State.setLesson_disp (n : Nat) (l : Lesson) : (s.setLesson n l).disp = s.disp := rfl
@[simp] theorem State.setLesson_safe (n : Nat) (l : Lesson) : (s.setLesson n l).safe = s.safe := rfl
@[simp] theorem State.setLesson_meter (n : Nat) (l : Lesson) : (s.setLesson n l).meter = s.meter := rfl
@[simp] theorem State.setLesson_net (n : Nat) (l : Lesson) : (s.setLesson n l).net = s.net := rfl
@[simp] theorem State.setLesson_acc (n : Nat) (l : Lesson) : (s.setLesson n l).acc = s.acc := rfl
@[simp] theorem State.setLesson_charm (n : Nat) (l : Lesson) : (s.setLesson n l).charm = s.charm := rfl
@[simp] theorem State.setLesson_fwu (n : Nat) (l : Lesson) : (s.setLesson n l).fwu = s.fwu := rfl
@[simp] theorem State.setLesson_nand (n : Nat) (l : Lesson) : (s.setLesson n l).nand = s.nand := rfl
@[simp] theorem State.setLesson_settings (n : Nat) (l : Lesson) : (s.setLesson n l).settings = s.settings := rfl
@[simp] theorem State.setLesson_debugEnds (n : Nat) (l : Lesson) : (s.setLesson n l).debugEnds = s.debugEnds := rfl
@[simp] theorem State.setLesson_linkErrs (n : Nat) (l : Lesson) : (s.setLesson n l).linkErrs = s.linkErrs := rfl
@[simp] theorem State.setLesson_pending (n : Nat) (l : Lesson) : (s.setLesson n l).pending = s.pending := rfl
@[simp] theorem State.setLesson_scan_t0 (n : Nat) (l : Lesson) : (s.setLesson n l).scan.t0 = s.scan.t0 := rfl
@[simp] theorem State.setLesson_scan_rung (n : Nat) (l : Lesson) : (s.setLesson n l).scan.rung = s.scan.rung := rfl
@[simp] theorem State.setLesson_scan_cores (n : Nat) (l : Lesson) : (s.setLesson n l).scan.cores = s.scan.cores := rfl
@[simp] theorem State.setLesson_scan_pool (n : Nat) (l : Lesson) : (s.setLesson n l).scan.pool = s.scan.pool := rfl
@[simp] theorem State.setLesson_scan_poolFifo (n : Nat) (l : Lesson) : (s.setLesson n l).scan.poolFifo = s.scan.poolFifo := rfl
@[simp] theorem State.setLesson_scan_issueCount (n : Nat) (l : Lesson) : (s.setLesson n l).scan.issueCount = s.scan.issueCount := rfl
@[simp] theorem State.setLesson_scan_claspFifo (n : Nat) (l : Lesson) : (s.setLesson n l).scan.claspFifo = s.scan.claspFifo := rfl
@[simp] theorem State.setLesson_scan_lockOwner (n : Nat) (l : Lesson) : (s.setLesson n l).scan.lockOwner = s.scan.lockOwner := rfl
@[simp] theorem State.setLesson_scan_lockFifo (n : Nat) (l : Lesson) : (s.setLesson n l).scan.lockFifo = s.scan.lockFifo := rfl
@[simp] theorem State.setLesson_scan_coreRegions (n : Nat) (l : Lesson) : (s.setLesson n l).scan.coreRegions = s.scan.coreRegions := rfl
@[simp] theorem State.setLesson_scan_clusterRegions (n : Nat) (l : Lesson) : (s.setLesson n l).scan.clusterRegions = s.scan.clusterRegions := rfl
@[simp] theorem State.setLesson_scan_mem (n : Nat) (l : Lesson) : (s.setLesson n l).scan.mem = s.scan.mem := rfl
@[simp] theorem State.setLesson_scan_poison (n : Nat) (l : Lesson) : (s.setLesson n l).scan.poison = s.scan.poison := rfl
@[simp] theorem State.setLesson_scan_tileErr (n : Nat) (l : Lesson) : (s.setLesson n l).scan.tileErr = s.scan.tileErr := rfl
@[simp] theorem State.setLesson_scan_tilesOut (n : Nat) (l : Lesson) : (s.setLesson n l).scan.tilesOut = s.scan.tilesOut := rfl
@[simp] theorem State.setLesson_scan_demoteCount (n : Nat) (l : Lesson) : (s.setLesson n l).scan.demoteCount = s.scan.demoteCount := rfl
@[simp] theorem State.setLesson_scan_groups (n : Nat) (l : Lesson) : (s.setLesson n l).scan.groups = s.scan.groups := rfl
@[simp] theorem State.setLesson_scan_loopQ (n : Nat) (l : Lesson) : (s.setLesson n l).scan.loopQ = s.scan.loopQ := rfl
@[simp] theorem State.setLesson_scan_dispQ (n : Nat) (l : Lesson) : (s.setLesson n l).scan.dispQ = s.scan.dispQ := rfl
@[simp] theorem State.setLesson_scan_accQ (n : Nat) (l : Lesson) : (s.setLesson n l).scan.accQ = s.scan.accQ := rfl
@[simp] theorem State.setLesson_scan_staged (n : Nat) (l : Lesson) : (s.setLesson n l).scan.staged = s.scan.staged := rfl
@[simp] theorem State.setLesson_scan_stagedTenant (n : Nat) (l : Lesson) : (s.setLesson n l).scan.stagedTenant = s.scan.stagedTenant := rfl
@[simp] theorem State.setLesson_scan_current (n : Nat) (l : Lesson) : (s.setLesson n l).scan.current = s.scan.current := rfl
@[simp] theorem State.setLesson_scan_layout (n : Nat) (l : Lesson) : (s.setLesson n l).scan.layout = s.scan.layout := rfl
@[simp] theorem State.setLesson_scan_owns (n : Nat) (l : Lesson) : (s.setLesson n l).scan.owns = s.scan.owns := rfl
@[simp] theorem State.setLesson_scan_switch (n : Nat) (l : Lesson) : (s.setLesson n l).scan.switch = s.scan.switch := rfl
@[simp] theorem State.setLesson_scan_checkpoints (n : Nat) (l : Lesson) : (s.setLesson n l).scan.checkpoints = s.scan.checkpoints := rfl
@[simp] theorem State.setLesson_scan_firstStart (n : Nat) (l : Lesson) : (s.setLesson n l).scan.firstStart = s.scan.firstStart := rfl
@[simp] theorem State.setLesson_scan_retentiveLost (n : Nat) (l : Lesson) : (s.setLesson n l).scan.retentiveLost = s.scan.retentiveLost := rfl

/-! ### setEntry -/

@[simp] theorem State.setEntry_regs (e : Nat) (x : Option Entry) : (s.setEntry e x).regs = s.regs := rfl
@[simp] theorem State.setEntry_free (e : Nat) (x : Option Entry) : (s.setEntry e x).free = s.free := rfl
@[simp] theorem State.setEntry_cnt (e : Nat) (x : Option Entry) : (s.setEntry e x).cnt = s.cnt := rfl
@[simp] theorem State.setEntry_cntFrac (e : Nat) (x : Option Entry) : (s.setEntry e x).cntFrac = s.cntFrac := rfl
@[simp] theorem State.setEntry_reply (e : Nat) (x : Option Entry) : (s.setEntry e x).reply = s.reply := rfl
@[simp] theorem State.setEntry_points (e : Nat) (x : Option Entry) : (s.setEntry e x).points = s.points := rfl
@[simp] theorem State.setEntry_roster (e : Nat) (x : Option Entry) : (s.setEntry e x).roster = s.roster := rfl
@[simp] theorem State.setEntry_evt (e : Nat) (x : Option Entry) : (s.setEntry e x).evt = s.evt := rfl
@[simp] theorem State.setEntry_time (e : Nat) (x : Option Entry) : (s.setEntry e x).time = s.time := rfl
@[simp] theorem State.setEntry_host (e : Nat) (x : Option Entry) : (s.setEntry e x).host = s.host := rfl
@[simp] theorem State.setEntry_bus (e : Nat) (x : Option Entry) : (s.setEntry e x).bus = s.bus := rfl
@[simp] theorem State.setEntry_locket (e : Nat) (x : Option Entry) : (s.setEntry e x).locket = s.locket := rfl
@[simp] theorem State.setEntry_lpddr (e : Nat) (x : Option Entry) : (s.setEntry e x).lpddr = s.lpddr := rfl
@[simp] theorem State.setEntry_field (e : Nat) (x : Option Entry) : (s.setEntry e x).field = s.field := rfl
@[simp] theorem State.setEntry_pwr (e : Nat) (x : Option Entry) : (s.setEntry e x).pwr = s.pwr := rfl
@[simp] theorem State.setEntry_key (e : Nat) (x : Option Entry) : (s.setEntry e x).key = s.key := rfl
@[simp] theorem State.setEntry_loop (e : Nat) (x : Option Entry) : (s.setEntry e x).loop = s.loop := rfl
@[simp] theorem State.setEntry_mirrorAt (e : Nat) (x : Option Entry) : (s.setEntry e x).mirrorAt = s.mirrorAt := rfl
@[simp] theorem State.setEntry_lift (e : Nat) (x : Option Entry) : (s.setEntry e x).lift = s.lift := rfl
@[simp] theorem State.setEntry_disp (e : Nat) (x : Option Entry) : (s.setEntry e x).disp = s.disp := rfl
@[simp] theorem State.setEntry_safe (e : Nat) (x : Option Entry) : (s.setEntry e x).safe = s.safe := rfl
@[simp] theorem State.setEntry_meter (e : Nat) (x : Option Entry) : (s.setEntry e x).meter = s.meter := rfl
@[simp] theorem State.setEntry_net (e : Nat) (x : Option Entry) : (s.setEntry e x).net = s.net := rfl
@[simp] theorem State.setEntry_acc (e : Nat) (x : Option Entry) : (s.setEntry e x).acc = s.acc := rfl
@[simp] theorem State.setEntry_charm (e : Nat) (x : Option Entry) : (s.setEntry e x).charm = s.charm := rfl
@[simp] theorem State.setEntry_fwu (e : Nat) (x : Option Entry) : (s.setEntry e x).fwu = s.fwu := rfl
@[simp] theorem State.setEntry_nand (e : Nat) (x : Option Entry) : (s.setEntry e x).nand = s.nand := rfl
@[simp] theorem State.setEntry_settings (e : Nat) (x : Option Entry) : (s.setEntry e x).settings = s.settings := rfl
@[simp] theorem State.setEntry_debugEnds (e : Nat) (x : Option Entry) : (s.setEntry e x).debugEnds = s.debugEnds := rfl
@[simp] theorem State.setEntry_linkErrs (e : Nat) (x : Option Entry) : (s.setEntry e x).linkErrs = s.linkErrs := rfl
@[simp] theorem State.setEntry_pending (e : Nat) (x : Option Entry) : (s.setEntry e x).pending = s.pending := rfl
@[simp] theorem State.setEntry_scan_t0 (e : Nat) (x : Option Entry) : (s.setEntry e x).scan.t0 = s.scan.t0 := rfl
@[simp] theorem State.setEntry_scan_rung (e : Nat) (x : Option Entry) : (s.setEntry e x).scan.rung = s.scan.rung := rfl
@[simp] theorem State.setEntry_scan_cores (e : Nat) (x : Option Entry) : (s.setEntry e x).scan.cores = s.scan.cores := rfl
@[simp] theorem State.setEntry_scan_lessons (e : Nat) (x : Option Entry) : (s.setEntry e x).scan.lessons = s.scan.lessons := rfl
@[simp] theorem State.setEntry_scan_poolFifo (e : Nat) (x : Option Entry) : (s.setEntry e x).scan.poolFifo = s.scan.poolFifo := rfl
@[simp] theorem State.setEntry_scan_issueCount (e : Nat) (x : Option Entry) : (s.setEntry e x).scan.issueCount = s.scan.issueCount := rfl
@[simp] theorem State.setEntry_scan_claspFifo (e : Nat) (x : Option Entry) : (s.setEntry e x).scan.claspFifo = s.scan.claspFifo := rfl
@[simp] theorem State.setEntry_scan_lockOwner (e : Nat) (x : Option Entry) : (s.setEntry e x).scan.lockOwner = s.scan.lockOwner := rfl
@[simp] theorem State.setEntry_scan_lockFifo (e : Nat) (x : Option Entry) : (s.setEntry e x).scan.lockFifo = s.scan.lockFifo := rfl
@[simp] theorem State.setEntry_scan_coreRegions (e : Nat) (x : Option Entry) : (s.setEntry e x).scan.coreRegions = s.scan.coreRegions := rfl
@[simp] theorem State.setEntry_scan_clusterRegions (e : Nat) (x : Option Entry) : (s.setEntry e x).scan.clusterRegions = s.scan.clusterRegions := rfl
@[simp] theorem State.setEntry_scan_mem (e : Nat) (x : Option Entry) : (s.setEntry e x).scan.mem = s.scan.mem := rfl
@[simp] theorem State.setEntry_scan_poison (e : Nat) (x : Option Entry) : (s.setEntry e x).scan.poison = s.scan.poison := rfl
@[simp] theorem State.setEntry_scan_tileErr (e : Nat) (x : Option Entry) : (s.setEntry e x).scan.tileErr = s.scan.tileErr := rfl
@[simp] theorem State.setEntry_scan_tilesOut (e : Nat) (x : Option Entry) : (s.setEntry e x).scan.tilesOut = s.scan.tilesOut := rfl
@[simp] theorem State.setEntry_scan_demoteCount (e : Nat) (x : Option Entry) : (s.setEntry e x).scan.demoteCount = s.scan.demoteCount := rfl
@[simp] theorem State.setEntry_scan_groups (e : Nat) (x : Option Entry) : (s.setEntry e x).scan.groups = s.scan.groups := rfl
@[simp] theorem State.setEntry_scan_loopQ (e : Nat) (x : Option Entry) : (s.setEntry e x).scan.loopQ = s.scan.loopQ := rfl
@[simp] theorem State.setEntry_scan_dispQ (e : Nat) (x : Option Entry) : (s.setEntry e x).scan.dispQ = s.scan.dispQ := rfl
@[simp] theorem State.setEntry_scan_accQ (e : Nat) (x : Option Entry) : (s.setEntry e x).scan.accQ = s.scan.accQ := rfl
@[simp] theorem State.setEntry_scan_staged (e : Nat) (x : Option Entry) : (s.setEntry e x).scan.staged = s.scan.staged := rfl
@[simp] theorem State.setEntry_scan_stagedTenant (e : Nat) (x : Option Entry) : (s.setEntry e x).scan.stagedTenant = s.scan.stagedTenant := rfl
@[simp] theorem State.setEntry_scan_current (e : Nat) (x : Option Entry) : (s.setEntry e x).scan.current = s.scan.current := rfl
@[simp] theorem State.setEntry_scan_layout (e : Nat) (x : Option Entry) : (s.setEntry e x).scan.layout = s.scan.layout := rfl
@[simp] theorem State.setEntry_scan_owns (e : Nat) (x : Option Entry) : (s.setEntry e x).scan.owns = s.scan.owns := rfl
@[simp] theorem State.setEntry_scan_switch (e : Nat) (x : Option Entry) : (s.setEntry e x).scan.switch = s.scan.switch := rfl
@[simp] theorem State.setEntry_scan_checkpoints (e : Nat) (x : Option Entry) : (s.setEntry e x).scan.checkpoints = s.scan.checkpoints := rfl
@[simp] theorem State.setEntry_scan_firstStart (e : Nat) (x : Option Entry) : (s.setEntry e x).scan.firstStart = s.scan.firstStart := rfl
@[simp] theorem State.setEntry_scan_retentiveLost (e : Nat) (x : Option Entry) : (s.setEntry e x).scan.retentiveLost = s.scan.retentiveLost := rfl

/-! ### storeAt -/

@[simp] theorem State.storeAt_regs (a : Nat) (b : List Byte) : (s.storeAt a b).regs = s.regs := rfl
@[simp] theorem State.storeAt_free (a : Nat) (b : List Byte) : (s.storeAt a b).free = s.free := rfl
@[simp] theorem State.storeAt_cnt (a : Nat) (b : List Byte) : (s.storeAt a b).cnt = s.cnt := rfl
@[simp] theorem State.storeAt_cntFrac (a : Nat) (b : List Byte) : (s.storeAt a b).cntFrac = s.cntFrac := rfl
@[simp] theorem State.storeAt_reply (a : Nat) (b : List Byte) : (s.storeAt a b).reply = s.reply := rfl
@[simp] theorem State.storeAt_points (a : Nat) (b : List Byte) : (s.storeAt a b).points = s.points := rfl
@[simp] theorem State.storeAt_roster (a : Nat) (b : List Byte) : (s.storeAt a b).roster = s.roster := rfl
@[simp] theorem State.storeAt_evt (a : Nat) (b : List Byte) : (s.storeAt a b).evt = s.evt := rfl
@[simp] theorem State.storeAt_time (a : Nat) (b : List Byte) : (s.storeAt a b).time = s.time := rfl
@[simp] theorem State.storeAt_host (a : Nat) (b : List Byte) : (s.storeAt a b).host = s.host := rfl
@[simp] theorem State.storeAt_bus (a : Nat) (b : List Byte) : (s.storeAt a b).bus = s.bus := rfl
@[simp] theorem State.storeAt_locket (a : Nat) (b : List Byte) : (s.storeAt a b).locket = s.locket := rfl
@[simp] theorem State.storeAt_lpddr (a : Nat) (b : List Byte) : (s.storeAt a b).lpddr = s.lpddr := rfl
@[simp] theorem State.storeAt_field (a : Nat) (b : List Byte) : (s.storeAt a b).field = s.field := rfl
@[simp] theorem State.storeAt_pwr (a : Nat) (b : List Byte) : (s.storeAt a b).pwr = s.pwr := rfl
@[simp] theorem State.storeAt_key (a : Nat) (b : List Byte) : (s.storeAt a b).key = s.key := rfl
@[simp] theorem State.storeAt_loop (a : Nat) (b : List Byte) : (s.storeAt a b).loop = s.loop := rfl
@[simp] theorem State.storeAt_mirrorAt (a : Nat) (b : List Byte) : (s.storeAt a b).mirrorAt = s.mirrorAt := rfl
@[simp] theorem State.storeAt_lift (a : Nat) (b : List Byte) : (s.storeAt a b).lift = s.lift := rfl
@[simp] theorem State.storeAt_disp (a : Nat) (b : List Byte) : (s.storeAt a b).disp = s.disp := rfl
@[simp] theorem State.storeAt_safe (a : Nat) (b : List Byte) : (s.storeAt a b).safe = s.safe := rfl
@[simp] theorem State.storeAt_meter (a : Nat) (b : List Byte) : (s.storeAt a b).meter = s.meter := rfl
@[simp] theorem State.storeAt_net (a : Nat) (b : List Byte) : (s.storeAt a b).net = s.net := rfl
@[simp] theorem State.storeAt_acc (a : Nat) (b : List Byte) : (s.storeAt a b).acc = s.acc := rfl
@[simp] theorem State.storeAt_charm (a : Nat) (b : List Byte) : (s.storeAt a b).charm = s.charm := rfl
@[simp] theorem State.storeAt_fwu (a : Nat) (b : List Byte) : (s.storeAt a b).fwu = s.fwu := rfl
@[simp] theorem State.storeAt_nand (a : Nat) (b : List Byte) : (s.storeAt a b).nand = s.nand := rfl
@[simp] theorem State.storeAt_settings (a : Nat) (b : List Byte) : (s.storeAt a b).settings = s.settings := rfl
@[simp] theorem State.storeAt_debugEnds (a : Nat) (b : List Byte) : (s.storeAt a b).debugEnds = s.debugEnds := rfl
@[simp] theorem State.storeAt_linkErrs (a : Nat) (b : List Byte) : (s.storeAt a b).linkErrs = s.linkErrs := rfl
@[simp] theorem State.storeAt_pending (a : Nat) (b : List Byte) : (s.storeAt a b).pending = s.pending := rfl
@[simp] theorem State.storeAt_scan_t0 (a : Nat) (b : List Byte) : (s.storeAt a b).scan.t0 = s.scan.t0 := rfl
@[simp] theorem State.storeAt_scan_rung (a : Nat) (b : List Byte) : (s.storeAt a b).scan.rung = s.scan.rung := rfl
@[simp] theorem State.storeAt_scan_cores (a : Nat) (b : List Byte) : (s.storeAt a b).scan.cores = s.scan.cores := rfl
@[simp] theorem State.storeAt_scan_lessons (a : Nat) (b : List Byte) : (s.storeAt a b).scan.lessons = s.scan.lessons := rfl
@[simp] theorem State.storeAt_scan_pool (a : Nat) (b : List Byte) : (s.storeAt a b).scan.pool = s.scan.pool := rfl
@[simp] theorem State.storeAt_scan_poolFifo (a : Nat) (b : List Byte) : (s.storeAt a b).scan.poolFifo = s.scan.poolFifo := rfl
@[simp] theorem State.storeAt_scan_issueCount (a : Nat) (b : List Byte) : (s.storeAt a b).scan.issueCount = s.scan.issueCount := rfl
@[simp] theorem State.storeAt_scan_claspFifo (a : Nat) (b : List Byte) : (s.storeAt a b).scan.claspFifo = s.scan.claspFifo := rfl
@[simp] theorem State.storeAt_scan_lockOwner (a : Nat) (b : List Byte) : (s.storeAt a b).scan.lockOwner = s.scan.lockOwner := rfl
@[simp] theorem State.storeAt_scan_lockFifo (a : Nat) (b : List Byte) : (s.storeAt a b).scan.lockFifo = s.scan.lockFifo := rfl
@[simp] theorem State.storeAt_scan_coreRegions (a : Nat) (b : List Byte) : (s.storeAt a b).scan.coreRegions = s.scan.coreRegions := rfl
@[simp] theorem State.storeAt_scan_clusterRegions (a : Nat) (b : List Byte) : (s.storeAt a b).scan.clusterRegions = s.scan.clusterRegions := rfl
@[simp] theorem State.storeAt_scan_tileErr (a : Nat) (b : List Byte) : (s.storeAt a b).scan.tileErr = s.scan.tileErr := rfl
@[simp] theorem State.storeAt_scan_tilesOut (a : Nat) (b : List Byte) : (s.storeAt a b).scan.tilesOut = s.scan.tilesOut := rfl
@[simp] theorem State.storeAt_scan_demoteCount (a : Nat) (b : List Byte) : (s.storeAt a b).scan.demoteCount = s.scan.demoteCount := rfl
@[simp] theorem State.storeAt_scan_groups (a : Nat) (b : List Byte) : (s.storeAt a b).scan.groups = s.scan.groups := rfl
@[simp] theorem State.storeAt_scan_loopQ (a : Nat) (b : List Byte) : (s.storeAt a b).scan.loopQ = s.scan.loopQ := rfl
@[simp] theorem State.storeAt_scan_dispQ (a : Nat) (b : List Byte) : (s.storeAt a b).scan.dispQ = s.scan.dispQ := rfl
@[simp] theorem State.storeAt_scan_accQ (a : Nat) (b : List Byte) : (s.storeAt a b).scan.accQ = s.scan.accQ := rfl
@[simp] theorem State.storeAt_scan_staged (a : Nat) (b : List Byte) : (s.storeAt a b).scan.staged = s.scan.staged := rfl
@[simp] theorem State.storeAt_scan_stagedTenant (a : Nat) (b : List Byte) : (s.storeAt a b).scan.stagedTenant = s.scan.stagedTenant := rfl
@[simp] theorem State.storeAt_scan_current (a : Nat) (b : List Byte) : (s.storeAt a b).scan.current = s.scan.current := rfl
@[simp] theorem State.storeAt_scan_layout (a : Nat) (b : List Byte) : (s.storeAt a b).scan.layout = s.scan.layout := rfl
@[simp] theorem State.storeAt_scan_owns (a : Nat) (b : List Byte) : (s.storeAt a b).scan.owns = s.scan.owns := rfl
@[simp] theorem State.storeAt_scan_switch (a : Nat) (b : List Byte) : (s.storeAt a b).scan.switch = s.scan.switch := rfl
@[simp] theorem State.storeAt_scan_checkpoints (a : Nat) (b : List Byte) : (s.storeAt a b).scan.checkpoints = s.scan.checkpoints := rfl
@[simp] theorem State.storeAt_scan_firstStart (a : Nat) (b : List Byte) : (s.storeAt a b).scan.firstStart = s.scan.firstStart := rfl
@[simp] theorem State.storeAt_scan_retentiveLost (a : Nat) (b : List Byte) : (s.storeAt a b).scan.retentiveLost = s.scan.retentiveLost := rfl

end Sys2Proof.Machine
end

