-- ==== Sys2Proof/Laws/Tab.lean ====
section
/-! SUPPORT. The laws of sparse tables and of byte memory: a read after a write, and the canonical form kept. -/

namespace Sys2Proof.Machine

section
variable {α : Type}

theorem Tab.get_drop (d : Nat → α) (m : Tab α) (k j : Nat) : Tab.get d (Tab.drop m k) j = if j = k then d j else Tab.get d m j := by
  induction m with
  | nil => simp [Tab.drop, Tab.get]
  | cons e t ih =>
    obtain ⟨p, x⟩ := e
    by_cases hp : p = k
    · subst hp
      simp only [Tab.drop, if_true, ih, Tab.get]
      by_cases hj : j = p
      · simp [hj]
      · simp [hj, Ne.symm hj]
    · simp only [Tab.drop, hp, if_false, Tab.get, ih]
      by_cases hj : j = k
      · subst hj; simp [hp]
      · simp [hj]

theorem Tab.get_place (d : Nat → α) (m : Tab α) (k j : Nat) (v : α) :
    Tab.get d (Tab.place k v (Tab.drop m k)) j = if j = k then v else Tab.get d m j := by
  have key : ∀ m' : Tab α, Tab.get d m' k = d k → (∀ e ∈ m', e.1 ≠ k) →
      Tab.get d (Tab.place k v m') j = if j = k then v else Tab.get d m' j := by
    intro m'
    induction m' with
    | nil => intro _ _; by_cases hj : j = k <;> simp [Tab.place, Tab.get, hj, Ne.symm]
    | cons e t ih =>
      obtain ⟨p, x⟩ := e
      intro h1 h2
      have hpk : p ≠ k := h2 (p, x) (by simp)
      have ht : ∀ e ∈ t, e.1 ≠ k := fun e he => h2 e (by simp [he])
      have h3 : Tab.get d t k = d k := by simpa [Tab.get, hpk] using h1
      by_cases hlt : k < p
      · simp only [Tab.place, hlt, if_true, Tab.get]
        by_cases hj : j = k
        · simp [hj]
        · simp [hj, Ne.symm hj]
      · simp only [Tab.place, hlt, if_false, Tab.get, ih h3 ht]
        by_cases hpj : p = j
        · subst hpj; simp [hpk]
        · simp [hpj]
  have hd : ∀ e ∈ Tab.drop m k, e.1 ≠ k := by
    induction m with
    | nil => simp [Tab.drop]
    | cons e t ih =>
      obtain ⟨p, x⟩ := e
      by_cases hp : p = k
      · simpa [Tab.drop, hp] using ih
      · simp only [Tab.drop, hp, if_false, List.mem_cons]
        rintro e (rfl | he)
        · exact hp
        · exact ih e he
  rw [key _ (by simp [Tab.get_drop]) hd, Tab.get_drop]
  by_cases hj : j = k <;> simp [hj]

/-- A read after a write: the value at the key written, and every other key as before. -/
theorem Tab.get_set [DecidableEq α] (d : Nat → α) (m : Tab α) (k j : Nat) (v : α) :
    Tab.get d (Tab.set d m k v) j = if j = k then v else Tab.get d m j := by
  unfold Tab.set
  by_cases hv : v = d k
  · simp only [hv, if_true, Tab.get_drop]
    by_cases hj : j = k <;> simp [hj]
  · simp only [hv, if_false, Tab.get_place]

@[simp] theorem Tab.get_set_same [DecidableEq α] (d : Nat → α) (m : Tab α) (k : Nat) (v : α) :
    Tab.get d (Tab.set d m k v) k = v := by simp [Tab.get_set]

theorem Tab.get_set_ne [DecidableEq α] (d : Nat → α) (m : Tab α) {k j : Nat} (v : α) (h : j ≠ k) :
    Tab.get d (Tab.set d m k v) j = Tab.get d m j := by simp [Tab.get_set, h]

theorem Tab.drop_place (m : Tab α) (k : Nat) (v : α) (h : ∀ e ∈ m, e.1 ≠ k) : Tab.drop (Tab.place k v m) k = m := by
  induction m with
  | nil => simp [Tab.place, Tab.drop]
  | cons e t ih =>
    obtain ⟨p, x⟩ := e
    have hp : p ≠ k := h (p, x) (by simp)
    have ht : ∀ m' : Tab α, (∀ e ∈ m', e.1 ≠ k) → Tab.drop m' k = m' := by
      intro m'
      induction m' with
      | nil => intro _; rfl
      | cons e t ih =>
        intro hm
        simp [Tab.drop, hm e (by simp), ih (fun e he => hm e (by simp [he]))]
    have h2 : ∀ e ∈ t, e.1 ≠ k := fun e he => h e (by simp [he])
    by_cases hlt : k < p
    · simp [Tab.place, hlt, Tab.drop, hp, ht t h2]
    · simp [Tab.place, hlt, Tab.drop, hp, ih h2]

theorem Tab.drop_keys (k : Nat) : ∀ m : Tab α, ∀ e ∈ Tab.drop m k, e.1 ≠ k
  | [], e, h => by simp [Tab.drop] at h
  | (p, x) :: t, e, h => by
    by_cases hp : p = k
    · exact Tab.drop_keys k t e (by simpa [Tab.drop, hp] using h)
    · simp only [Tab.drop, hp, if_false, List.mem_cons] at h
      rcases h with rfl | h
      · exact hp
      · exact Tab.drop_keys k t e h

theorem Tab.drop_drop (m : Tab α) (k : Nat) : Tab.drop (Tab.drop m k) k = Tab.drop m k := by
  induction m with
  | nil => rfl
  | cons e t ih =>
    obtain ⟨p, x⟩ := e
    by_cases hp : p = k <;> simp [Tab.drop, hp, ih]

/-- The later of two writes to one key remains. -/
theorem Tab.set_set [DecidableEq α] (d : Nat → α) (m : Tab α) (k : Nat) (v w : α) : Tab.set d (Tab.set d m k v) k w = Tab.set d m k w := by
  have h : Tab.drop (Tab.set d m k v) k = Tab.drop m k := by
    unfold Tab.set
    split
    · exact Tab.drop_drop m k
    · exact Tab.drop_place _ k v (Tab.drop_keys k m)
  unfold Tab.set at h ⊢
  rw [h]

theorem Tab.above_mono {k j : Nat} (h : j ≤ k) : ∀ m : Tab α, Tab.above k m = true → Tab.above j m = true
  | [], _ => rfl
  | (p, x) :: t, hm => by
    simp only [Tab.above, Bool.and_eq_true, decide_eq_true_eq] at hm ⊢
    exact ⟨by omega, Tab.above_mono h t hm.2⟩

theorem Tab.above_drop {k j : Nat} : ∀ m : Tab α, Tab.above j m = true → Tab.above j (Tab.drop m k) = true
  | [], _ => rfl
  | (p, x) :: t, hm => by
    simp only [Tab.above, Bool.and_eq_true, decide_eq_true_eq] at hm
    by_cases hp : p = k
    · simpa [Tab.drop, hp] using Tab.above_drop t hm.2
    · simpa [Tab.drop, hp, Tab.above, hm.1] using Tab.above_drop t hm.2

theorem Tab.above_place {k j : Nat} (v : α) (hk : j < k) : ∀ m : Tab α, Tab.above j m = true → Tab.above j (Tab.place k v m) = true
  | [], _ => by simp [Tab.place, Tab.above, hk]
  | (p, x) :: t, hm => by
    simp only [Tab.above, Bool.and_eq_true, decide_eq_true_eq] at hm
    by_cases hp : k < p
    · simp [Tab.place, hp, Tab.above, hk, hm.1, hm.2]
    · simpa [Tab.place, hp, Tab.above, hm.1] using Tab.above_place v hk t hm.2

theorem Tab.wf_drop [DecidableEq α] (d : Nat → α) (k : Nat) : ∀ m : Tab α, Tab.wf d m = true → Tab.wf d (Tab.drop m k) = true
  | [], _ => rfl
  | (p, x) :: t, hm => by
    simp only [Tab.wf, Bool.and_eq_true] at hm
    by_cases hp : p = k
    · simpa [Tab.drop, hp] using Tab.wf_drop d k t hm.2
    · simp only [Tab.drop, hp, if_false, Tab.wf, Bool.and_eq_true]
      exact ⟨⟨Tab.above_drop t hm.1.1, hm.1.2⟩, Tab.wf_drop d k t hm.2⟩

theorem Tab.wf_place [DecidableEq α] (d : Nat → α) (k : Nat) (v : α) (hv : v ≠ d k) :
    ∀ m : Tab α, Tab.wf d m = true → (∀ e ∈ m, e.1 ≠ k) → Tab.wf d (Tab.place k v m) = true
  | [], _, _ => by simp [Tab.place, Tab.wf, Tab.above, hv]
  | (p, x) :: t, hm, hk => by
    simp only [Tab.wf, Bool.and_eq_true] at hm
    by_cases hp : k < p
    · have h1 : Tab.above k ((p, x) :: t) = true := by
        simp [Tab.above, hp, Tab.above_mono (Nat.le_of_lt hp) t hm.1.1]
      simp only [Tab.place, hp, if_true, Tab.wf, Bool.and_eq_true]
      exact ⟨⟨h1, by simp [hv]⟩, hm⟩
    · have hlt : p < k := by
        have := hk (p, x) (by simp)
        simp only at this
        omega
      simp only [Tab.place, hp, if_false, Tab.wf, Bool.and_eq_true]
      exact ⟨⟨Tab.above_place v hlt t hm.1.1, hm.1.2⟩, Tab.wf_place d k v hv t hm.2 (fun e he => hk e (by simp [he]))⟩

/-- A write keeps the canonical form. -/
theorem Tab.wf_set [DecidableEq α] (d : Nat → α) (m : Tab α) (k : Nat) (v : α) (h : Tab.wf d m = true) :
    Tab.wf d (Tab.set d m k v) = true := by
  unfold Tab.set
  split
  · exact Tab.wf_drop d k m h
  · exact Tab.wf_place d k v ‹_› _ (Tab.wf_drop d k m h) (Tab.drop_keys k m)

end

/-! ### Byte memory -/

/-- A byte read after a byte written. -/
theorem Memory.read_write (m : Memory) (a b : Nat) (v : Byte) : Memory.read (Memory.write m a v) b = if b = a then v else Memory.read m b :=
  Tab.get_set _ m a b v

/-- Bytes outside the ones written read as before; the ones written read what was written. -/
theorem Memory.read_writeN (l : List Byte) : ∀ (m : Memory) (a b : Nat), Memory.read (Memory.writeN m a l) b =
    if a ≤ b ∧ b < a + l.length then l.getD (b - a) 0 else Memory.read m b := by
  induction l with
  | nil =>
    intro m a b
    have h : ¬(a ≤ b ∧ b < a + 0) := by omega
    simp only [Memory.writeN, List.length_nil, h, if_false]
  | cons x xs ih =>
    intro m a b
    simp only [Memory.writeN, ih, Memory.read_write, List.length_cons]
    by_cases h1 : a + 1 ≤ b ∧ b < a + 1 + xs.length
    · have h2 : a ≤ b ∧ b < a + (xs.length + 1) := by omega
      obtain ⟨n, rfl⟩ : ∃ n, b = a + (n + 1) := ⟨b - a - 1, by omega⟩
      have h3 : a + (n + 1) - (a + 1) = n := by omega
      have h4 : a + (n + 1) - a = n + 1 := by omega
      rw [if_pos h1, if_pos h2, h3, h4, List.getD_cons_succ]
    · by_cases h4 : b = a
      · subst h4
        have h6 : ¬(b + 1 ≤ b ∧ b < b + 1 + xs.length) := by omega
        have h7 : b ≤ b ∧ b < b + (xs.length + 1) := by omega
        rw [if_neg h6, if_pos rfl, if_pos h7, Nat.sub_self, List.getD_cons_zero]
      · have h5 : ¬(a ≤ b ∧ b < a + (xs.length + 1)) := by omega
        rw [if_neg h1, if_neg h4, if_neg h5]

/-- Every write of bytes keeps the canonical form. -/
theorem Memory.wf_write (m : Memory) (a : Nat) (v : Byte) (h : Memory.wf m = true) : Memory.wf (Memory.write m a v) = true :=
  Tab.wf_set _ m a v h

theorem Memory.wf_writeN (l : List Byte) : ∀ (m : Memory) (a : Nat), Memory.wf m = true → Memory.wf (Memory.writeN m a l) = true := by
  induction l with
  | nil => intro m a h; exact h
  | cons x xs ih => intro m a h; exact ih _ _ (Memory.wf_write m a x h)

end Sys2Proof.Machine
end

