-- ==== Sys2Proof/Laws/Regs.lean ====
section
/-! SUPPORT. The laws of bit fields and of the register file: a field read after a field written. -/

namespace Sys2Proof.Machine

/-! ### Fields of a word -/

theorem toNat_putBits (w : Word) (hi lo v : Nat) (h1 : lo ≤ hi) (h2 : hi < 32) :
    (putBits w hi lo v).toNat = w.toNat % 2 ^ lo + (v % 2 ^ (hi + 1 - lo)) * 2 ^ lo + w.toNat / 2 ^ (hi + 1) * 2 ^ (hi + 1) := by
  unfold putBits
  rw [BitVec.toNat_ofNat, Nat.mod_eq_of_lt]
  have ha : w.toNat % 2 ^ lo < 2 ^ lo := Nat.mod_lt _ (by positivity)
  have hb : v % 2 ^ (hi + 1 - lo) < 2 ^ (hi + 1 - lo) := Nat.mod_lt _ (by positivity)
  have e1 : 2 ^ (hi + 1 - lo) * 2 ^ lo = 2 ^ (hi + 1) := by rw [← pow_add]; congr 1; omega
  have e2 : 2 ^ (hi + 1) * 2 ^ (32 - (hi + 1)) = 2 ^ 32 := by rw [← pow_add]; congr 1; omega
  have hc : w.toNat / 2 ^ (hi + 1) < 2 ^ (32 - (hi + 1)) := by
    rw [Nat.div_lt_iff_lt_mul (by positivity), mul_comm, e2]; exact w.isLt
  have h3 : (v % 2 ^ (hi + 1 - lo) + 1) * 2 ^ lo ≤ 2 ^ (hi + 1) := by
    rw [← e1]; exact Nat.mul_le_mul_right _ hb
  have h4 : (w.toNat / 2 ^ (hi + 1) + 1) * 2 ^ (hi + 1) ≤ 2 ^ 32 := by
    rw [← e2, mul_comm (2 ^ (hi + 1))]; exact Nat.mul_le_mul_right _ hc
  rw [add_mul, one_mul] at h3 h4
  omega

/-- A bit of a word after a field is put: inside the field the value's bit, outside the word's own. -/
theorem bitOf_putBits (w : Word) (hi lo v j : Nat) (h1 : lo ≤ hi) (h2 : hi < 32) :
    bitOf (putBits w hi lo v) j = if lo ≤ j ∧ j ≤ hi then v.testBit (j - lo) else bitOf w j := by
  unfold bitOf BitVec.getLsbD
  rw [toNat_putBits w hi lo v h1 h2]
  have e1 : 2 ^ (hi + 1 - lo) * 2 ^ lo = 2 ^ (hi + 1) := by rw [← pow_add]; congr 1; omega
  have ha : w.toNat % 2 ^ lo < 2 ^ lo := Nat.mod_lt _ (by positivity)
  have hb : v % 2 ^ (hi + 1 - lo) < 2 ^ (hi + 1 - lo) := Nat.mod_lt _ (by positivity)
  have h3 : (v % 2 ^ (hi + 1 - lo) + 1) * 2 ^ lo ≤ 2 ^ (hi + 1) := by
    rw [← e1]; exact Nat.mul_le_mul_right _ hb
  rw [add_mul, one_mul] at h3
  have hlow : w.toNat % 2 ^ lo + v % 2 ^ (hi + 1 - lo) * 2 ^ lo < 2 ^ (hi + 1) := by omega
  rw [add_comm, mul_comm _ (2 ^ (hi + 1)), Nat.testBit_two_pow_mul_add _ hlow]
  by_cases hj : j < hi + 1
  · rw [if_pos hj, add_comm, mul_comm _ (2 ^ lo), Nat.testBit_two_pow_mul_add _ ha]
    by_cases hl : j < lo
    · rw [if_pos hl, Nat.testBit_mod_two_pow, if_neg (by omega)]
      simp [hl]
    · rw [if_neg hl, Nat.testBit_mod_two_pow, if_pos (by omega)]
      have : j - lo < hi + 1 - lo := by omega
      simp [this]
  · rw [if_neg hj, if_neg (by omega), Nat.testBit_div_two_pow]
    congr 1
    omega

theorem bitOf_setBitOf (w : Word) (i j : Nat) (b : Bool) (h : i < 32) : bitOf (setBitOf w i b) j = if j = i then b else bitOf w j := by
  unfold setBitOf
  rw [bitOf_putBits w i i _ j (le_refl i) h]
  by_cases hj : j = i
  · subst hj
    cases b <;> simp
  · rw [if_neg (by omega), if_neg hj]

@[simp] theorem bits_putBits (w : Word) (hi lo v : Nat) (h1 : lo ≤ hi) (h2 : hi < 32) : bits (putBits w hi lo v) hi lo = v % 2 ^ (hi + 1 - lo) := by
  unfold bits
  rw [toNat_putBits w hi lo v h1 h2]
  have ha : w.toNat % 2 ^ lo < 2 ^ lo := Nat.mod_lt _ (by positivity)
  have e1 : 2 ^ (hi + 1) = 2 ^ (hi + 1 - lo) * 2 ^ lo := by rw [← pow_add]; congr 1; omega
  have e2 : w.toNat % 2 ^ lo + v % 2 ^ (hi + 1 - lo) * 2 ^ lo + w.toNat / 2 ^ (hi + 1) * 2 ^ (hi + 1) =
      w.toNat % 2 ^ lo + 2 ^ lo * (v % 2 ^ (hi + 1 - lo) + 2 ^ (hi + 1 - lo) * (w.toNat / 2 ^ (hi + 1))) := by
    rw [e1]; ring
  rw [e2, Nat.add_mul_div_left _ _ (by positivity), Nat.div_eq_of_lt ha, zero_add, Nat.add_mul_mod_self_left, Nat.mod_mod]

/-- A field that lies apart from the one put reads as before. -/
theorem bits_putBits_apart (w : Word) (hi lo v hi' lo' : Nat) (h1 : lo ≤ hi) (h2 : hi < 32) (h : hi' < lo ∨ hi < lo') :
    bits (putBits w hi lo v) hi' lo' = bits w hi' lo' := by
  unfold bits
  apply Nat.eq_of_testBit_eq
  intro j
  rw [Nat.testBit_mod_two_pow, Nat.testBit_mod_two_pow, Nat.testBit_div_two_pow, Nat.testBit_div_two_pow]
  by_cases hj : j < hi' + 1 - lo'
  · have := bitOf_putBits w hi lo v (j + lo') h1 h2
    unfold bitOf BitVec.getLsbD at this
    rw [this, if_neg (by omega)]
  · simp [hj]

/-! ### The register file -/

/-- A register read after a register written. -/
theorem State.rd_wr (s : State) (a b : Nat) (v : Word) : (s.wr a v).rd b = if b = a then v else s.rd b := by
  simp [State.rd, State.wr, Tab.get_set]

@[simp] theorem State.rd_wr_same (s : State) (a : Nat) (v : Word) : (s.wr a v).rd a = v := by simp [State.rd_wr]

theorem State.rd_wr_ne (s : State) {a b : Nat} (v : Word) (h : b ≠ a) : (s.wr a v).rd b = s.rd b := by simp [State.rd_wr, h]

theorem State.rd_setFld_ne (s : State) {a b : Nat} (hi lo v : Nat) (h : b ≠ a) : (s.setFld a hi lo v).rd b = s.rd b := by
  simp [State.setFld, State.rd_wr, h]

theorem State.rd_setBit_ne (s : State) {a b : Nat} (i : Nat) (v : Bool) (h : b ≠ a) : (s.setBit a i v).rd b = s.rd b := by
  simp [State.setBit, State.rd_wr, h]

theorem State.rd_incSat_ne (s : State) {a b : Nat} (hi lo : Nat) (h : b ≠ a) : (s.incSat a hi lo).rd b = s.rd b := by
  simp [State.incSat, State.setFld, State.rd_wr, h]

theorem State.rd_inc_ne (s : State) {a b : Nat} (h : b ≠ a) : (s.inc a).rd b = s.rd b := by simp [State.inc, State.rd_wr, h]

@[simp] theorem State.rd_inc_same (s : State) (a : Nat) : (s.inc a).rd a = s.rd a + 1 := by simp [State.inc]

theorem State.rd_addSat_ne (s : State) {a b : Nat} (n : Nat) (h : b ≠ a) : (s.addSat a n).rd b = s.rd b := by
  simp [State.addSat, State.rd_wr, h]

/-- A field read after the same field written. -/
theorem State.fld_setFld (s : State) (a hi lo v : Nat) (h1 : lo ≤ hi) (h2 : hi < 32) : (s.setFld a hi lo v).fld a hi lo = v % 2 ^ (hi + 1 - lo) := by
  simp [State.fld, State.setFld, h1, h2]

/-- A bit read after a bit of the same register written. -/
theorem State.bit_setBit (s : State) (a i j : Nat) (b : Bool) (h : i < 32) : (s.setBit a i b).bit a j = if j = i then b else s.bit a j := by
  simp [State.bit, State.setBit, bitOf_setBitOf, h]

@[simp] theorem State.bit_setBit_same (s : State) (a i : Nat) (b : Bool) (h : i < 32) : (s.setBit a i b).bit a i = b := by
  simp [State.bit_setBit, h]

/-- Fields and bits of another register read as before. -/
theorem State.fld_of_rd {s t : State} {a : Nat} (h : t.rd a = s.rd a) (hi lo : Nat) : t.fld a hi lo = s.fld a hi lo := by simp [State.fld, h]

theorem State.bit_of_rd {s t : State} {a : Nat} (h : t.rd a = s.rd a) (i : Nat) : t.bit a i = s.bit a i := by simp [State.bit, h]

/-! ### Cores, lessons, entries and points -/

@[simp] theorem State.core_setCore_same (s : State) (c : CoreId) (k : Core) : (s.setCore c k).core c = k := by
  simp [State.core, State.setCore]

theorem State.core_setCore (s : State) (c d : CoreId) (k : Core) : (s.setCore c k).core d = if d = c then k else s.core d := by
  simp [State.core, State.setCore, Tab.get_set, Fin.val_inj]

@[simp] theorem State.lesson_setLesson_same (s : State) (n : Nat) (l : Lesson) : (s.setLesson n l).lesson? n = some l := by
  simp [State.lesson?, State.setLesson]

theorem State.lesson_setLesson (s : State) (n m : Nat) (l : Lesson) : (s.setLesson n l).lesson? m = if m = n then some l else s.lesson? m := by
  simp [State.lesson?, State.setLesson, Tab.get_set]

theorem State.entry_setEntry (s : State) (e d : Nat) (x : Option Entry) : (s.setEntry e x).entry? d = if d = e then x else s.entry? d := by
  simp [State.entry?, State.setEntry, Tab.get_set]

theorem State.point_setPoint (s : State) (i j : PointIdx) (p : Point) : (s.setPoint i p).point j = if j = i then p else s.point j := by
  simp [State.point, State.setPoint, Tab.get_set, BitVec.toNat_inj]

@[simp] theorem State.point_setPoint_same (s : State) (i : PointIdx) (p : Point) : (s.setPoint i p).point i = p := by
  simp [State.point_setPoint]

/-- A byte of core memory after a store: the bytes stored, and every other byte as before. -/
theorem State.byteAt_storeAt (s : State) (a : Nat) (l : List Byte) (b : Nat) :
    (s.storeAt a l).byteAt b = if a ≤ b ∧ b < a + l.length then l.getD (b - a) 0 else s.byteAt b := by
  simp [State.byteAt, State.storeAt, Memory.read_writeN]

end Sys2Proof.Machine
end

