-- ==== Sys2Proof/Laws/CoreFrame.lean ====
section
/-! SUPPORT. The operations that change one core alone leave the rest of the state as it is. -/

namespace Sys2Proof.Machine

variable (s : State)

@[simp] theorem State.updCtx_regs (c : CoreId) (f : Ctx → Ctx) : (s.updCtx c f).regs = s.regs := rfl
@[simp] theorem State.updCtx_cnt (c : CoreId) (f : Ctx → Ctx) : (s.updCtx c f).cnt = s.cnt := rfl
@[simp] theorem State.updCtx_points (c : CoreId) (f : Ctx → Ctx) : (s.updCtx c f).points = s.points := rfl
@[simp] theorem State.updCtx_evt (c : CoreId) (f : Ctx → Ctx) : (s.updCtx c f).evt = s.evt := rfl
@[simp] theorem State.updCtx_roster (c : CoreId) (f : Ctx → Ctx) : (s.updCtx c f).roster = s.roster := rfl
@[simp] theorem State.updCtx_lpddr (c : CoreId) (f : Ctx → Ctx) : (s.updCtx c f).lpddr = s.lpddr := rfl
@[simp] theorem State.updCtx_locket (c : CoreId) (f : Ctx → Ctx) : (s.updCtx c f).locket = s.locket := rfl
@[simp] theorem State.updCtx_pwr (c : CoreId) (f : Ctx → Ctx) : (s.updCtx c f).pwr = s.pwr := rfl
@[simp] theorem State.updCtx_scan_mem (c : CoreId) (f : Ctx → Ctx) : (s.updCtx c f).scan.mem = s.scan.mem := rfl
@[simp] theorem State.updCtx_scan_poison (c : CoreId) (f : Ctx → Ctx) : (s.updCtx c f).scan.poison = s.scan.poison := rfl
@[simp] theorem State.updCtx_scan_pool (c : CoreId) (f : Ctx → Ctx) : (s.updCtx c f).scan.pool = s.scan.pool := rfl
@[simp] theorem State.updCtx_scan_lessons (c : CoreId) (f : Ctx → Ctx) : (s.updCtx c f).scan.lessons = s.scan.lessons := rfl
@[simp] theorem State.updCtx_scan_poolFifo (c : CoreId) (f : Ctx → Ctx) : (s.updCtx c f).scan.poolFifo = s.scan.poolFifo := rfl
@[simp] theorem State.updCtx_scan_claspFifo (c : CoreId) (f : Ctx → Ctx) : (s.updCtx c f).scan.claspFifo = s.scan.claspFifo := rfl
@[simp] theorem State.updCtx_scan_lockOwner (c : CoreId) (f : Ctx → Ctx) : (s.updCtx c f).scan.lockOwner = s.scan.lockOwner := rfl
@[simp] theorem State.updCtx_scan_lockFifo (c : CoreId) (f : Ctx → Ctx) : (s.updCtx c f).scan.lockFifo = s.scan.lockFifo := rfl
@[simp] theorem State.updCtx_scan_issueCount (c : CoreId) (f : Ctx → Ctx) : (s.updCtx c f).scan.issueCount = s.scan.issueCount := rfl
@[simp] theorem State.updCtx_scan_coreRegions (c : CoreId) (f : Ctx → Ctx) : (s.updCtx c f).scan.coreRegions = s.scan.coreRegions := rfl

@[simp] theorem State.setPc_regs (c : CoreId) (v : Word) : (s.setPc c v).regs = s.regs := rfl
@[simp] theorem State.setPc_cnt (c : CoreId) (v : Word) : (s.setPc c v).cnt = s.cnt := rfl
@[simp] theorem State.setPc_points (c : CoreId) (v : Word) : (s.setPc c v).points = s.points := rfl
@[simp] theorem State.setPc_evt (c : CoreId) (v : Word) : (s.setPc c v).evt = s.evt := rfl
@[simp] theorem State.setPc_roster (c : CoreId) (v : Word) : (s.setPc c v).roster = s.roster := rfl
@[simp] theorem State.setPc_lpddr (c : CoreId) (v : Word) : (s.setPc c v).lpddr = s.lpddr := rfl
@[simp] theorem State.setPc_locket (c : CoreId) (v : Word) : (s.setPc c v).locket = s.locket := rfl
@[simp] theorem State.setPc_pwr (c : CoreId) (v : Word) : (s.setPc c v).pwr = s.pwr := rfl
@[simp] theorem State.setPc_scan_mem (c : CoreId) (v : Word) : (s.setPc c v).scan.mem = s.scan.mem := rfl
@[simp] theorem State.setPc_scan_poison (c : CoreId) (v : Word) : (s.setPc c v).scan.poison = s.scan.poison := rfl
@[simp] theorem State.setPc_scan_pool (c : CoreId) (v : Word) : (s.setPc c v).scan.pool = s.scan.pool := rfl
@[simp] theorem State.setPc_scan_lessons (c : CoreId) (v : Word) : (s.setPc c v).scan.lessons = s.scan.lessons := rfl
@[simp] theorem State.setPc_scan_poolFifo (c : CoreId) (v : Word) : (s.setPc c v).scan.poolFifo = s.scan.poolFifo := rfl
@[simp] theorem State.setPc_scan_claspFifo (c : CoreId) (v : Word) : (s.setPc c v).scan.claspFifo = s.scan.claspFifo := rfl
@[simp] theorem State.setPc_scan_lockOwner (c : CoreId) (v : Word) : (s.setPc c v).scan.lockOwner = s.scan.lockOwner := rfl
@[simp] theorem State.setPc_scan_lockFifo (c : CoreId) (v : Word) : (s.setPc c v).scan.lockFifo = s.scan.lockFifo := rfl
@[simp] theorem State.setPc_scan_issueCount (c : CoreId) (v : Word) : (s.setPc c v).scan.issueCount = s.scan.issueCount := rfl
@[simp] theorem State.setPc_scan_coreRegions (c : CoreId) (v : Word) : (s.setPc c v).scan.coreRegions = s.scan.coreRegions := rfl

@[simp] theorem State.setLs_regs (c : CoreId) (v : Word) : (s.setLs c v).regs = s.regs := rfl
@[simp] theorem State.setLs_cnt (c : CoreId) (v : Word) : (s.setLs c v).cnt = s.cnt := rfl
@[simp] theorem State.setLs_points (c : CoreId) (v : Word) : (s.setLs c v).points = s.points := rfl
@[simp] theorem State.setLs_evt (c : CoreId) (v : Word) : (s.setLs c v).evt = s.evt := rfl
@[simp] theorem State.setLs_roster (c : CoreId) (v : Word) : (s.setLs c v).roster = s.roster := rfl
@[simp] theorem State.setLs_lpddr (c : CoreId) (v : Word) : (s.setLs c v).lpddr = s.lpddr := rfl
@[simp] theorem State.setLs_locket (c : CoreId) (v : Word) : (s.setLs c v).locket = s.locket := rfl
@[simp] theorem State.setLs_pwr (c : CoreId) (v : Word) : (s.setLs c v).pwr = s.pwr := rfl
@[simp] theorem State.setLs_scan_mem (c : CoreId) (v : Word) : (s.setLs c v).scan.mem = s.scan.mem := rfl
@[simp] theorem State.setLs_scan_poison (c : CoreId) (v : Word) : (s.setLs c v).scan.poison = s.scan.poison := rfl
@[simp] theorem State.setLs_scan_pool (c : CoreId) (v : Word) : (s.setLs c v).scan.pool = s.scan.pool := rfl
@[simp] theorem State.setLs_scan_lessons (c : CoreId) (v : Word) : (s.setLs c v).scan.lessons = s.scan.lessons := rfl
@[simp] theorem State.setLs_scan_poolFifo (c : CoreId) (v : Word) : (s.setLs c v).scan.poolFifo = s.scan.poolFifo := rfl
@[simp] theorem State.setLs_scan_claspFifo (c : CoreId) (v : Word) : (s.setLs c v).scan.claspFifo = s.scan.claspFifo := rfl
@[simp] theorem State.setLs_scan_lockOwner (c : CoreId) (v : Word) : (s.setLs c v).scan.lockOwner = s.scan.lockOwner := rfl
@[simp] theorem State.setLs_scan_lockFifo (c : CoreId) (v : Word) : (s.setLs c v).scan.lockFifo = s.scan.lockFifo := rfl
@[simp] theorem State.setLs_scan_issueCount (c : CoreId) (v : Word) : (s.setLs c v).scan.issueCount = s.scan.issueCount := rfl
@[simp] theorem State.setLs_scan_coreRegions (c : CoreId) (v : Word) : (s.setLs c v).scan.coreRegions = s.scan.coreRegions := rfl

@[simp] theorem State.setG_regs (c : CoreId) (r : BitVec 4) (v : Word) : (s.setG c r v).regs = s.regs := rfl
@[simp] theorem State.setG_cnt (c : CoreId) (r : BitVec 4) (v : Word) : (s.setG c r v).cnt = s.cnt := rfl
@[simp] theorem State.setG_points (c : CoreId) (r : BitVec 4) (v : Word) : (s.setG c r v).points = s.points := rfl
@[simp] theorem State.setG_evt (c : CoreId) (r : BitVec 4) (v : Word) : (s.setG c r v).evt = s.evt := rfl
@[simp] theorem State.setG_roster (c : CoreId) (r : BitVec 4) (v : Word) : (s.setG c r v).roster = s.roster := rfl
@[simp] theorem State.setG_lpddr (c : CoreId) (r : BitVec 4) (v : Word) : (s.setG c r v).lpddr = s.lpddr := rfl
@[simp] theorem State.setG_locket (c : CoreId) (r : BitVec 4) (v : Word) : (s.setG c r v).locket = s.locket := rfl
@[simp] theorem State.setG_pwr (c : CoreId) (r : BitVec 4) (v : Word) : (s.setG c r v).pwr = s.pwr := rfl
@[simp] theorem State.setG_scan_mem (c : CoreId) (r : BitVec 4) (v : Word) : (s.setG c r v).scan.mem = s.scan.mem := rfl
@[simp] theorem State.setG_scan_poison (c : CoreId) (r : BitVec 4) (v : Word) : (s.setG c r v).scan.poison = s.scan.poison := rfl
@[simp] theorem State.setG_scan_pool (c : CoreId) (r : BitVec 4) (v : Word) : (s.setG c r v).scan.pool = s.scan.pool := rfl
@[simp] theorem State.setG_scan_lessons (c : CoreId) (r : BitVec 4) (v : Word) : (s.setG c r v).scan.lessons = s.scan.lessons := rfl
@[simp] theorem State.setG_scan_poolFifo (c : CoreId) (r : BitVec 4) (v : Word) : (s.setG c r v).scan.poolFifo = s.scan.poolFifo := rfl
@[simp] theorem State.setG_scan_claspFifo (c : CoreId) (r : BitVec 4) (v : Word) : (s.setG c r v).scan.claspFifo = s.scan.claspFifo := rfl
@[simp] theorem State.setG_scan_lockOwner (c : CoreId) (r : BitVec 4) (v : Word) : (s.setG c r v).scan.lockOwner = s.scan.lockOwner := rfl
@[simp] theorem State.setG_scan_lockFifo (c : CoreId) (r : BitVec 4) (v : Word) : (s.setG c r v).scan.lockFifo = s.scan.lockFifo := rfl
@[simp] theorem State.setG_scan_issueCount (c : CoreId) (r : BitVec 4) (v : Word) : (s.setG c r v).scan.issueCount = s.scan.issueCount := rfl
@[simp] theorem State.setG_scan_coreRegions (c : CoreId) (r : BitVec 4) (v : Word) : (s.setG c r v).scan.coreRegions = s.scan.coreRegions := rfl

@[simp] theorem State.setB_regs (c : CoreId) (r : BitVec 3) (v : BReg) : (s.setB c r v).regs = s.regs := rfl
@[simp] theorem State.setB_cnt (c : CoreId) (r : BitVec 3) (v : BReg) : (s.setB c r v).cnt = s.cnt := rfl
@[simp] theorem State.setB_points (c : CoreId) (r : BitVec 3) (v : BReg) : (s.setB c r v).points = s.points := rfl
@[simp] theorem State.setB_evt (c : CoreId) (r : BitVec 3) (v : BReg) : (s.setB c r v).evt = s.evt := rfl
@[simp] theorem State.setB_roster (c : CoreId) (r : BitVec 3) (v : BReg) : (s.setB c r v).roster = s.roster := rfl
@[simp] theorem State.setB_lpddr (c : CoreId) (r : BitVec 3) (v : BReg) : (s.setB c r v).lpddr = s.lpddr := rfl
@[simp] theorem State.setB_locket (c : CoreId) (r : BitVec 3) (v : BReg) : (s.setB c r v).locket = s.locket := rfl
@[simp] theorem State.setB_pwr (c : CoreId) (r : BitVec 3) (v : BReg) : (s.setB c r v).pwr = s.pwr := rfl
@[simp] theorem State.setB_scan_mem (c : CoreId) (r : BitVec 3) (v : BReg) : (s.setB c r v).scan.mem = s.scan.mem := rfl
@[simp] theorem State.setB_scan_poison (c : CoreId) (r : BitVec 3) (v : BReg) : (s.setB c r v).scan.poison = s.scan.poison := rfl
@[simp] theorem State.setB_scan_pool (c : CoreId) (r : BitVec 3) (v : BReg) : (s.setB c r v).scan.pool = s.scan.pool := rfl
@[simp] theorem State.setB_scan_lessons (c : CoreId) (r : BitVec 3) (v : BReg) : (s.setB c r v).scan.lessons = s.scan.lessons := rfl
@[simp] theorem State.setB_scan_poolFifo (c : CoreId) (r : BitVec 3) (v : BReg) : (s.setB c r v).scan.poolFifo = s.scan.poolFifo := rfl
@[simp] theorem State.setB_scan_claspFifo (c : CoreId) (r : BitVec 3) (v : BReg) : (s.setB c r v).scan.claspFifo = s.scan.claspFifo := rfl
@[simp] theorem State.setB_scan_lockOwner (c : CoreId) (r : BitVec 3) (v : BReg) : (s.setB c r v).scan.lockOwner = s.scan.lockOwner := rfl
@[simp] theorem State.setB_scan_lockFifo (c : CoreId) (r : BitVec 3) (v : BReg) : (s.setB c r v).scan.lockFifo = s.scan.lockFifo := rfl
@[simp] theorem State.setB_scan_issueCount (c : CoreId) (r : BitVec 3) (v : BReg) : (s.setB c r v).scan.issueCount = s.scan.issueCount := rfl
@[simp] theorem State.setB_scan_coreRegions (c : CoreId) (r : BitVec 3) (v : BReg) : (s.setB c r v).scan.coreRegions = s.scan.coreRegions := rfl

@[simp] theorem State.setWaiting_regs (c : CoreId) (w : Waiting) : (s.setWaiting c w).regs = s.regs := rfl
@[simp] theorem State.setWaiting_cnt (c : CoreId) (w : Waiting) : (s.setWaiting c w).cnt = s.cnt := rfl
@[simp] theorem State.setWaiting_points (c : CoreId) (w : Waiting) : (s.setWaiting c w).points = s.points := rfl
@[simp] theorem State.setWaiting_evt (c : CoreId) (w : Waiting) : (s.setWaiting c w).evt = s.evt := rfl
@[simp] theorem State.setWaiting_roster (c : CoreId) (w : Waiting) : (s.setWaiting c w).roster = s.roster := rfl
@[simp] theorem State.setWaiting_lpddr (c : CoreId) (w : Waiting) : (s.setWaiting c w).lpddr = s.lpddr := rfl
@[simp] theorem State.setWaiting_locket (c : CoreId) (w : Waiting) : (s.setWaiting c w).locket = s.locket := rfl
@[simp] theorem State.setWaiting_pwr (c : CoreId) (w : Waiting) : (s.setWaiting c w).pwr = s.pwr := rfl
@[simp] theorem State.setWaiting_scan_mem (c : CoreId) (w : Waiting) : (s.setWaiting c w).scan.mem = s.scan.mem := rfl
@[simp] theorem State.setWaiting_scan_poison (c : CoreId) (w : Waiting) : (s.setWaiting c w).scan.poison = s.scan.poison := rfl
@[simp] theorem State.setWaiting_scan_pool (c : CoreId) (w : Waiting) : (s.setWaiting c w).scan.pool = s.scan.pool := rfl
@[simp] theorem State.setWaiting_scan_lessons (c : CoreId) (w : Waiting) : (s.setWaiting c w).scan.lessons = s.scan.lessons := rfl
@[simp] theorem State.setWaiting_scan_poolFifo (c : CoreId) (w : Waiting) : (s.setWaiting c w).scan.poolFifo = s.scan.poolFifo := rfl
@[simp] theorem State.setWaiting_scan_claspFifo (c : CoreId) (w : Waiting) : (s.setWaiting c w).scan.claspFifo = s.scan.claspFifo := rfl
@[simp] theorem State.setWaiting_scan_lockOwner (c : CoreId) (w : Waiting) : (s.setWaiting c w).scan.lockOwner = s.scan.lockOwner := rfl
@[simp] theorem State.setWaiting_scan_lockFifo (c : CoreId) (w : Waiting) : (s.setWaiting c w).scan.lockFifo = s.scan.lockFifo := rfl
@[simp] theorem State.setWaiting_scan_issueCount (c : CoreId) (w : Waiting) : (s.setWaiting c w).scan.issueCount = s.scan.issueCount := rfl
@[simp] theorem State.setWaiting_scan_coreRegions (c : CoreId) (w : Waiting) : (s.setWaiting c w).scan.coreRegions = s.scan.coreRegions := rfl

@[simp] theorem State.haltCore_regs (c : CoreId) (k : BitVec 3) : (s.haltCore c k).regs = s.regs := rfl
@[simp] theorem State.haltCore_cnt (c : CoreId) (k : BitVec 3) : (s.haltCore c k).cnt = s.cnt := rfl
@[simp] theorem State.haltCore_points (c : CoreId) (k : BitVec 3) : (s.haltCore c k).points = s.points := rfl
@[simp] theorem State.haltCore_evt (c : CoreId) (k : BitVec 3) : (s.haltCore c k).evt = s.evt := rfl
@[simp] theorem State.haltCore_roster (c : CoreId) (k : BitVec 3) : (s.haltCore c k).roster = s.roster := rfl
@[simp] theorem State.haltCore_lpddr (c : CoreId) (k : BitVec 3) : (s.haltCore c k).lpddr = s.lpddr := rfl
@[simp] theorem State.haltCore_locket (c : CoreId) (k : BitVec 3) : (s.haltCore c k).locket = s.locket := rfl
@[simp] theorem State.haltCore_pwr (c : CoreId) (k : BitVec 3) : (s.haltCore c k).pwr = s.pwr := rfl
@[simp] theorem State.haltCore_scan_mem (c : CoreId) (k : BitVec 3) : (s.haltCore c k).scan.mem = s.scan.mem := rfl
@[simp] theorem State.haltCore_scan_poison (c : CoreId) (k : BitVec 3) : (s.haltCore c k).scan.poison = s.scan.poison := rfl
@[simp] theorem State.haltCore_scan_pool (c : CoreId) (k : BitVec 3) : (s.haltCore c k).scan.pool = s.scan.pool := rfl
@[simp] theorem State.haltCore_scan_lessons (c : CoreId) (k : BitVec 3) : (s.haltCore c k).scan.lessons = s.scan.lessons := rfl
@[simp] theorem State.haltCore_scan_poolFifo (c : CoreId) (k : BitVec 3) : (s.haltCore c k).scan.poolFifo = s.scan.poolFifo := rfl
@[simp] theorem State.haltCore_scan_claspFifo (c : CoreId) (k : BitVec 3) : (s.haltCore c k).scan.claspFifo = s.scan.claspFifo := rfl
@[simp] theorem State.haltCore_scan_lockOwner (c : CoreId) (k : BitVec 3) : (s.haltCore c k).scan.lockOwner = s.scan.lockOwner := rfl
@[simp] theorem State.haltCore_scan_lockFifo (c : CoreId) (k : BitVec 3) : (s.haltCore c k).scan.lockFifo = s.scan.lockFifo := rfl
@[simp] theorem State.haltCore_scan_issueCount (c : CoreId) (k : BitVec 3) : (s.haltCore c k).scan.issueCount = s.scan.issueCount := rfl
@[simp] theorem State.haltCore_scan_coreRegions (c : CoreId) (k : BitVec 3) : (s.haltCore c k).scan.coreRegions = s.scan.coreRegions := rfl

@[simp] theorem State.countClasp_regs (c : CoreId) : (s.countClasp c).regs = s.regs := by unfold State.countClasp; simp only []; split <;> rfl
@[simp] theorem State.countClasp_cnt (c : CoreId) : (s.countClasp c).cnt = s.cnt := by unfold State.countClasp; simp only []; split <;> rfl
@[simp] theorem State.countClasp_points (c : CoreId) : (s.countClasp c).points = s.points := by unfold State.countClasp; simp only []; split <;> rfl
@[simp] theorem State.countClasp_evt (c : CoreId) : (s.countClasp c).evt = s.evt := by unfold State.countClasp; simp only []; split <;> rfl
@[simp] theorem State.countClasp_roster (c : CoreId) : (s.countClasp c).roster = s.roster := by unfold State.countClasp; simp only []; split <;> rfl
@[simp] theorem State.countClasp_lpddr (c : CoreId) : (s.countClasp c).lpddr = s.lpddr := by unfold State.countClasp; simp only []; split <;> rfl
@[simp] theorem State.countClasp_locket (c : CoreId) : (s.countClasp c).locket = s.locket := by unfold State.countClasp; simp only []; split <;> rfl
@[simp] theorem State.countClasp_pwr (c : CoreId) : (s.countClasp c).pwr = s.pwr := by unfold State.countClasp; simp only []; split <;> rfl
@[simp] theorem State.countClasp_scan_mem (c : CoreId) : (s.countClasp c).scan.mem = s.scan.mem := by unfold State.countClasp; simp only []; split <;> rfl
@[simp] theorem State.countClasp_scan_poison (c : CoreId) : (s.countClasp c).scan.poison = s.scan.poison := by unfold State.countClasp; simp only []; split <;> rfl
@[simp] theorem State.countClasp_scan_pool (c : CoreId) : (s.countClasp c).scan.pool = s.scan.pool := by unfold State.countClasp; simp only []; split <;> rfl
@[simp] theorem State.countClasp_scan_lessons (c : CoreId) : (s.countClasp c).scan.lessons = s.scan.lessons := by unfold State.countClasp; simp only []; split <;> rfl
@[simp] theorem State.countClasp_scan_poolFifo (c : CoreId) : (s.countClasp c).scan.poolFifo = s.scan.poolFifo := by unfold State.countClasp; simp only []; split <;> rfl
@[simp] theorem State.countClasp_scan_claspFifo (c : CoreId) : (s.countClasp c).scan.claspFifo = s.scan.claspFifo := by unfold State.countClasp; simp only []; split <;> rfl
@[simp] theorem State.countClasp_scan_lockOwner (c : CoreId) : (s.countClasp c).scan.lockOwner = s.scan.lockOwner := by unfold State.countClasp; simp only []; split <;> rfl
@[simp] theorem State.countClasp_scan_lockFifo (c : CoreId) : (s.countClasp c).scan.lockFifo = s.scan.lockFifo := by unfold State.countClasp; simp only []; split <;> rfl
@[simp] theorem State.countClasp_scan_issueCount (c : CoreId) : (s.countClasp c).scan.issueCount = s.scan.issueCount := by unfold State.countClasp; simp only []; split <;> rfl
@[simp] theorem State.countClasp_scan_coreRegions (c : CoreId) : (s.countClasp c).scan.coreRegions = s.scan.coreRegions := by unfold State.countClasp; simp only []; split <;> rfl

@[simp] theorem State.afterStep_regs (c : CoreId) : (s.afterStep c).regs = s.regs := by unfold State.afterStep; simp only []; split <;> rfl
@[simp] theorem State.afterStep_cnt (c : CoreId) : (s.afterStep c).cnt = s.cnt := by unfold State.afterStep; simp only []; split <;> rfl
@[simp] theorem State.afterStep_points (c : CoreId) : (s.afterStep c).points = s.points := by unfold State.afterStep; simp only []; split <;> rfl
@[simp] theorem State.afterStep_evt (c : CoreId) : (s.afterStep c).evt = s.evt := by unfold State.afterStep; simp only []; split <;> rfl
@[simp] theorem State.afterStep_roster (c : CoreId) : (s.afterStep c).roster = s.roster := by unfold State.afterStep; simp only []; split <;> rfl
@[simp] theorem State.afterStep_lpddr (c : CoreId) : (s.afterStep c).lpddr = s.lpddr := by unfold State.afterStep; simp only []; split <;> rfl
@[simp] theorem State.afterStep_locket (c : CoreId) : (s.afterStep c).locket = s.locket := by unfold State.afterStep; simp only []; split <;> rfl
@[simp] theorem State.afterStep_pwr (c : CoreId) : (s.afterStep c).pwr = s.pwr := by unfold State.afterStep; simp only []; split <;> rfl
@[simp] theorem State.afterStep_scan_mem (c : CoreId) : (s.afterStep c).scan.mem = s.scan.mem := by unfold State.afterStep; simp only []; split <;> rfl
@[simp] theorem State.afterStep_scan_poison (c : CoreId) : (s.afterStep c).scan.poison = s.scan.poison := by unfold State.afterStep; simp only []; split <;> rfl
@[simp] theorem State.afterStep_scan_pool (c : CoreId) : (s.afterStep c).scan.pool = s.scan.pool := by unfold State.afterStep; simp only []; split <;> rfl
@[simp] theorem State.afterStep_scan_lessons (c : CoreId) : (s.afterStep c).scan.lessons = s.scan.lessons := by unfold State.afterStep; simp only []; split <;> rfl
@[simp] theorem State.afterStep_scan_poolFifo (c : CoreId) : (s.afterStep c).scan.poolFifo = s.scan.poolFifo := by unfold State.afterStep; simp only []; split <;> rfl
@[simp] theorem State.afterStep_scan_claspFifo (c : CoreId) : (s.afterStep c).scan.claspFifo = s.scan.claspFifo := by unfold State.afterStep; simp only []; split <;> rfl
@[simp] theorem State.afterStep_scan_lockOwner (c : CoreId) : (s.afterStep c).scan.lockOwner = s.scan.lockOwner := by unfold State.afterStep; simp only []; split <;> rfl
@[simp] theorem State.afterStep_scan_lockFifo (c : CoreId) : (s.afterStep c).scan.lockFifo = s.scan.lockFifo := by unfold State.afterStep; simp only []; split <;> rfl
@[simp] theorem State.afterStep_scan_issueCount (c : CoreId) : (s.afterStep c).scan.issueCount = s.scan.issueCount := by unfold State.afterStep; simp only []; split <;> rfl
@[simp] theorem State.afterStep_scan_coreRegions (c : CoreId) : (s.afterStep c).scan.coreRegions = s.scan.coreRegions := by unfold State.afterStep; simp only []; split <;> rfl

@[simp] theorem State.requestHalt_regs (c : CoreId) (k : BitVec 3) : (s.requestHalt c k).regs = s.regs := by unfold State.requestHalt; split <;> [rfl; (split <;> rfl)]
@[simp] theorem State.requestHalt_cnt (c : CoreId) (k : BitVec 3) : (s.requestHalt c k).cnt = s.cnt := by unfold State.requestHalt; split <;> [rfl; (split <;> rfl)]
@[simp] theorem State.requestHalt_points (c : CoreId) (k : BitVec 3) : (s.requestHalt c k).points = s.points := by unfold State.requestHalt; split <;> [rfl; (split <;> rfl)]
@[simp] theorem State.requestHalt_evt (c : CoreId) (k : BitVec 3) : (s.requestHalt c k).evt = s.evt := by unfold State.requestHalt; split <;> [rfl; (split <;> rfl)]
@[simp] theorem State.requestHalt_roster (c : CoreId) (k : BitVec 3) : (s.requestHalt c k).roster = s.roster := by unfold State.requestHalt; split <;> [rfl; (split <;> rfl)]
@[simp] theorem State.requestHalt_lpddr (c : CoreId) (k : BitVec 3) : (s.requestHalt c k).lpddr = s.lpddr := by unfold State.requestHalt; split <;> [rfl; (split <;> rfl)]
@[simp] theorem State.requestHalt_locket (c : CoreId) (k : BitVec 3) : (s.requestHalt c k).locket = s.locket := by unfold State.requestHalt; split <;> [rfl; (split <;> rfl)]
@[simp] theorem State.requestHalt_pwr (c : CoreId) (k : BitVec 3) : (s.requestHalt c k).pwr = s.pwr := by unfold State.requestHalt; split <;> [rfl; (split <;> rfl)]
@[simp] theorem State.requestHalt_scan_mem (c : CoreId) (k : BitVec 3) : (s.requestHalt c k).scan.mem = s.scan.mem := by unfold State.requestHalt; split <;> [rfl; (split <;> rfl)]
@[simp] theorem State.requestHalt_scan_poison (c : CoreId) (k : BitVec 3) : (s.requestHalt c k).scan.poison = s.scan.poison := by unfold State.requestHalt; split <;> [rfl; (split <;> rfl)]
@[simp] theorem State.requestHalt_scan_pool (c : CoreId) (k : BitVec 3) : (s.requestHalt c k).scan.pool = s.scan.pool := by unfold State.requestHalt; split <;> [rfl; (split <;> rfl)]
@[simp] theorem State.requestHalt_scan_lessons (c : CoreId) (k : BitVec 3) : (s.requestHalt c k).scan.lessons = s.scan.lessons := by unfold State.requestHalt; split <;> [rfl; (split <;> rfl)]
@[simp] theorem State.requestHalt_scan_poolFifo (c : CoreId) (k : BitVec 3) : (s.requestHalt c k).scan.poolFifo = s.scan.poolFifo := by unfold State.requestHalt; split <;> [rfl; (split <;> rfl)]
@[simp] theorem State.requestHalt_scan_claspFifo (c : CoreId) (k : BitVec 3) : (s.requestHalt c k).scan.claspFifo = s.scan.claspFifo := by unfold State.requestHalt; split <;> [rfl; (split <;> rfl)]
@[simp] theorem State.requestHalt_scan_lockOwner (c : CoreId) (k : BitVec 3) : (s.requestHalt c k).scan.lockOwner = s.scan.lockOwner := by unfold State.requestHalt; split <;> [rfl; (split <;> rfl)]
@[simp] theorem State.requestHalt_scan_lockFifo (c : CoreId) (k : BitVec 3) : (s.requestHalt c k).scan.lockFifo = s.scan.lockFifo := by unfold State.requestHalt; split <;> [rfl; (split <;> rfl)]
@[simp] theorem State.requestHalt_scan_issueCount (c : CoreId) (k : BitVec 3) : (s.requestHalt c k).scan.issueCount = s.scan.issueCount := by unfold State.requestHalt; split <;> [rfl; (split <;> rfl)]
@[simp] theorem State.requestHalt_scan_coreRegions (c : CoreId) (k : BitVec 3) : (s.requestHalt c k).scan.coreRegions = s.scan.coreRegions := by unfold State.requestHalt; split <;> [rfl; (split <;> rfl)]

@[simp] theorem State.serveIrq_regs (c : CoreId) : (s.serveIrq c).regs = s.regs := by unfold State.serveIrq; simp only []; split <;> [rfl; (split <;> [(split <;> rfl); rfl])]
@[simp] theorem State.serveIrq_cnt (c : CoreId) : (s.serveIrq c).cnt = s.cnt := by unfold State.serveIrq; simp only []; split <;> [rfl; (split <;> [(split <;> rfl); rfl])]
@[simp] theorem State.serveIrq_points (c : CoreId) : (s.serveIrq c).points = s.points := by unfold State.serveIrq; simp only []; split <;> [rfl; (split <;> [(split <;> rfl); rfl])]
@[simp] theorem State.serveIrq_evt (c : CoreId) : (s.serveIrq c).evt = s.evt := by unfold State.serveIrq; simp only []; split <;> [rfl; (split <;> [(split <;> rfl); rfl])]
@[simp] theorem State.serveIrq_roster (c : CoreId) : (s.serveIrq c).roster = s.roster := by unfold State.serveIrq; simp only []; split <;> [rfl; (split <;> [(split <;> rfl); rfl])]
@[simp] theorem State.serveIrq_lpddr (c : CoreId) : (s.serveIrq c).lpddr = s.lpddr := by unfold State.serveIrq; simp only []; split <;> [rfl; (split <;> [(split <;> rfl); rfl])]
@[simp] theorem State.serveIrq_locket (c : CoreId) : (s.serveIrq c).locket = s.locket := by unfold State.serveIrq; simp only []; split <;> [rfl; (split <;> [(split <;> rfl); rfl])]
@[simp] theorem State.serveIrq_pwr (c : CoreId) : (s.serveIrq c).pwr = s.pwr := by unfold State.serveIrq; simp only []; split <;> [rfl; (split <;> [(split <;> rfl); rfl])]
@[simp] theorem State.serveIrq_scan_mem (c : CoreId) : (s.serveIrq c).scan.mem = s.scan.mem := by unfold State.serveIrq; simp only []; split <;> [rfl; (split <;> [(split <;> rfl); rfl])]
@[simp] theorem State.serveIrq_scan_poison (c : CoreId) : (s.serveIrq c).scan.poison = s.scan.poison := by unfold State.serveIrq; simp only []; split <;> [rfl; (split <;> [(split <;> rfl); rfl])]
@[simp] theorem State.serveIrq_scan_pool (c : CoreId) : (s.serveIrq c).scan.pool = s.scan.pool := by unfold State.serveIrq; simp only []; split <;> [rfl; (split <;> [(split <;> rfl); rfl])]
@[simp] theorem State.serveIrq_scan_lessons (c : CoreId) : (s.serveIrq c).scan.lessons = s.scan.lessons := by unfold State.serveIrq; simp only []; split <;> [rfl; (split <;> [(split <;> rfl); rfl])]
@[simp] theorem State.serveIrq_scan_poolFifo (c : CoreId) : (s.serveIrq c).scan.poolFifo = s.scan.poolFifo := by unfold State.serveIrq; simp only []; split <;> [rfl; (split <;> [(split <;> rfl); rfl])]
@[simp] theorem State.serveIrq_scan_claspFifo (c : CoreId) : (s.serveIrq c).scan.claspFifo = s.scan.claspFifo := by unfold State.serveIrq; simp only []; split <;> [rfl; (split <;> [(split <;> rfl); rfl])]
@[simp] theorem State.serveIrq_scan_lockOwner (c : CoreId) : (s.serveIrq c).scan.lockOwner = s.scan.lockOwner := by unfold State.serveIrq; simp only []; split <;> [rfl; (split <;> [(split <;> rfl); rfl])]
@[simp] theorem State.serveIrq_scan_lockFifo (c : CoreId) : (s.serveIrq c).scan.lockFifo = s.scan.lockFifo := by unfold State.serveIrq; simp only []; split <;> [rfl; (split <;> [(split <;> rfl); rfl])]
@[simp] theorem State.serveIrq_scan_issueCount (c : CoreId) : (s.serveIrq c).scan.issueCount = s.scan.issueCount := by unfold State.serveIrq; simp only []; split <;> [rfl; (split <;> [(split <;> rfl); rfl])]
@[simp] theorem State.serveIrq_scan_coreRegions (c : CoreId) : (s.serveIrq c).scan.coreRegions = s.scan.coreRegions := by unfold State.serveIrq; simp only []; split <;> [rfl; (split <;> [(split <;> rfl); rfl])]

/-- What each of them makes of its core. -/
@[simp] theorem State.core_updCtx (c : CoreId) (f : Ctx → Ctx) : (s.updCtx c f).core c = { s.core c with ctx := f (s.core c).ctx } := by
  simp [State.updCtx]

@[simp] theorem State.core_setPc (c : CoreId) (v : Word) : (s.setPc c v).core c = { s.core c with ctx := { (s.core c).ctx with pc := v } } := by
  simp [State.setPc]

@[simp] theorem State.core_setLs (c : CoreId) (v : Word) : (s.setLs c v).core c = { s.core c with ctx := { (s.core c).ctx with ls := v } } := by
  simp [State.setLs]

@[simp] theorem State.core_setWaiting (c : CoreId) (w : Waiting) : (s.setWaiting c w).core c = { s.core c with waiting := w } := by
  simp [State.setWaiting]

@[simp] theorem State.core_countClasp (c : CoreId) :
    (s.countClasp c).core c = { s.core c with clasp := (s.core c).clasp.map (fun x => { x with count := x.count + 1 }) } := by
  unfold State.countClasp
  simp only []
  cases h : (s.core c).clasp with
  | none => show s.core c = _; generalize s.core c = k at h ⊢; cases k; simp_all
  | some x => simp

@[simp] theorem State.core_afterStep (c : CoreId) : (s.afterStep c).core c =
    if (s.core c).step && ((s.core c).waiting == .none || (s.core c).waiting == .interrupt) then
      { s.core c with step := false, halt := .halted, haltCause := 3 } else s.core c := by
  unfold State.afterStep
  simp only
  split <;> simp_all

theorem State.ctx_afterStep (c : CoreId) : ((s.afterStep c).core c).ctx = (s.core c).ctx := by
  simp only [State.core_afterStep]; split <;> rfl

end Sys2Proof.Machine
end

