-- ==== Sys2Proof/Laws/Frames.lean ====
section
/-! SUPPORT. What the shared operations that reach far can change: homeroom slots, event records, the hand of the clock. Each law names the
parts of the state that may differ; everything else is the same. -/

namespace Sys2Proof.Machine

/-- `t` is `s` with other registers and another roster state. -/
def State.SlotsOnly (s t : State) : Prop := ∃ r o, t = { s with regs := r, roster := o }

theorem State.SlotsOnly.refl (s : State) : s.SlotsOnly s := ⟨_, _, rfl⟩

theorem State.SlotsOnly.trans {s t u : State} (h : s.SlotsOnly t) (k : t.SlotsOnly u) : s.SlotsOnly u := by
  obtain ⟨r, o, rfl⟩ := h
  obtain ⟨r', o', rfl⟩ := k
  exact ⟨_, _, rfl⟩

theorem State.SlotsOnly.foldl {α : Type} (f : State → α → State) (h : ∀ (s : State) (a : α), s.SlotsOnly (f s a)) : ∀ (l : List α) (s : State), s.SlotsOnly (l.foldl f s)
  | [], s => .refl s
  | a :: l, s => (h s a).trans (State.SlotsOnly.foldl f h l (f s a))

theorem State.loadSlot_frame (s : State) (k : Nat) (t : BitVec 12) : s.SlotsOnly (s.loadSlot k t) := ⟨_, _, rfl⟩

theorem State.needSlot_frame (s : State) (t : BitVec 12) : s.SlotsOnly (s.needSlot t) := by
  unfold State.needSlot
  split
  · exact .refl s
  · split
    · split
      · exact ⟨_, _, rfl⟩
      · exact ⟨_, _, rfl⟩
    · exact ⟨_, _, rfl⟩

theorem State.settleSlots_frame (s : State) (l : List (BitVec 12)) : s.SlotsOnly (s.settleSlots l) := by
  unfold State.settleSlots
  refine State.SlotsOnly.trans (State.SlotsOnly.foldl _ ?_ l s) (State.SlotsOnly.foldl _ ?_ _ _)
  · intro s t
    simp only []
    split
    · split
      · exact .refl s
      · exact ⟨_, _, rfl⟩
    · exact .refl s
  · intro s t
    simp only []
    split
    · split <;> exact ⟨_, _, rfl⟩
    · exact .refl s

/-- `t` is `s` with other registers, another event recorder, another loop trace, another PME status and another erase journal. -/
def State.EventsOnly (s t : State) : Prop := ∃ r e tr p n, t = { s with regs := r, evt := e, loop := { s.loop with tr := tr }, host := { s.host with pmeStatus := p }, nand := n }

theorem State.EventsOnly.refl (s : State) : s.EventsOnly s := ⟨_, _, _, _, _, rfl⟩

theorem State.EventsOnly.trans {s t u : State} (h : s.EventsOnly t) (k : t.EventsOnly u) : s.EventsOnly u := by
  obtain ⟨r, e, tr, p, n, rfl⟩ := h
  obtain ⟨r', e', tr', p', n', rfl⟩ := k
  exact ⟨_, _, _, _, _, rfl⟩

theorem State.wr_eventsOnly (s : State) (a : Nat) (v : Word) : s.EventsOnly (s.wr a v) := ⟨_, _, _, _, _, rfl⟩
theorem State.setFld_eventsOnly (s : State) (a hi lo v : Nat) : s.EventsOnly (s.setFld a hi lo v) := ⟨_, _, _, _, _, rfl⟩
theorem State.setBit_eventsOnly (s : State) (a i : Nat) (b : Bool) : s.EventsOnly (s.setBit a i b) := ⟨_, _, _, _, _, rfl⟩
theorem State.incSat_eventsOnly (s : State) (a hi lo : Nat) : s.EventsOnly (s.incSat a hi lo) := ⟨_, _, _, _, _, rfl⟩

theorem State.irq_eventsOnly (s : State) (n : Nat) : s.EventsOnly (s.irq n) := by
  unfold State.irq
  simp only []
  split <;> exact ⟨_, _, _, _, _, rfl⟩

theorem State.showSeq_eventsOnly (s : State) (a : Nat) (r : Option EvRec) : s.EventsOnly (s.showSeq a r) := by
  cases r
  · exact .refl s
  · exact State.wr_eventsOnly s _ _

theorem State.evtRegs_eventsOnly (s : State) : s.EventsOnly s.evtRegs :=
  ((((State.setFld_eventsOnly s _ _ _ _).trans (State.setBit_eventsOnly _ _ _ _)).trans (State.showSeq_eventsOnly _ _ _)).trans
    (State.showSeq_eventsOnly _ _ _)).trans (State.showSeq_eventsOnly _ _ _)

theorem State.EventsOnly.foldl {α : Type} (f : State → α → State) (h : ∀ (s : State) (a : α), s.EventsOnly (f s a)) :
    ∀ (l : List α) (s : State), s.EventsOnly (l.foldl f s)
  | [], s => .refl s
  | a :: l, s => (h s a).trans (State.EventsOnly.foldl f h l (f s a))

/-- Making room in the flash ring changes the erase journal alone. -/
theorem State.ringErase_nand (s : State) (l : List EvRec) : ∃ n, s.ringErase l = { s with nand := n } := by
  have fold : ∀ (r : Bool) (l : List Nat) (s : State), ∃ n, l.foldl (fun s b => s.erase (.ring r) b) s = { s with nand := n } := by
    intro r l
    induction l with
    | nil => exact fun s => ⟨s.nand, rfl⟩
    | cons b l ih => exact fun s => ih (s.erase (.ring r) b)
  unfold State.ringErase
  obtain ⟨n, h⟩ := fold false (ringPages mainRecords (s.evt.main ++ l)) s
  simp only [h]
  obtain ⟨m, k⟩ := fold true (ringPages retainedRecords (s.evt.retained ++ l.filter (fun r => decide (6 ≤ r.sev.toNat)))) { s with nand := n }
  exact ⟨m, k⟩

theorem State.flush_eventsOnly (s : State) : s.EventsOnly s.flush := by
  unfold State.flush
  split
  · exact .refl s
  · obtain ⟨n, h⟩ := State.ringErase_nand s s.evt.unflushed
    rw [h]
    exact State.EventsOnly.trans ⟨_, _, _, _, _, rfl⟩ (State.evtRegs_eventsOnly _)

theorem State.countLost_eventsOnly (s : State) (v : Option Nat) : s.EventsOnly (s.countLost v) := by
  cases v
  · exact .refl s
  · exact State.incSat_eventsOnly s _ _ _

theorem State.ringPut_eventsOnly (s : State) (r : EvRec) : s.EventsOnly (s.ringPut r) :=
  State.EventsOnly.trans (t := { s with evt := (s.evt.put r).1 }) ⟨_, _, _, _, _, rfl⟩ (State.countLost_eventsOnly _ _)

theorem State.traceTrigger_eventsOnly (s : State) : s.EventsOnly s.traceTrigger := by
  unfold State.traceTrigger
  simp only []
  split
  · exact ⟨_, _, _, _, _, rfl⟩
  · exact .refl s

theorem State.EventsOnly.ite {s t u : State} (p : Prop) [Decidable p] (h : s.EventsOnly t) (k : s.EventsOnly u) : s.EventsOnly (if p then t else u) := by
  split
  · exact h
  · exact k

theorem State.recordSignals_eventsOnly (s : State) (it : EvItem) (ms : List Nat) : s.EventsOnly (s.recordSignals it ms) := by
  unfold State.recordSignals
  exact ((State.EventsOnly.ite _ (State.irq_eventsOnly _ _) (.refl _)).trans (State.EventsOnly.ite _ (State.irq_eventsOnly _ _) (.refl _))).trans
    (State.EventsOnly.ite _ (State.traceTrigger_eventsOnly _) (.refl _))

theorem State.recordFlush_eventsOnly (s : State) (it : EvItem) (ms : List Nat) : s.EventsOnly (s.recordFlush it ms) :=
  State.EventsOnly.ite _ (State.flush_eventsOnly _) (.refl _)

theorem State.recordRep_eventsOnly (s : State) (it : EvItem) (n : Nat) : s.EventsOnly (s.recordRep it n) := by
  unfold State.recordRep
  refine State.EventsOnly.ite _ (State.incSat_eventsOnly s _ _ _) ?_
  have h : s.EventsOnly s.nextEvent := ⟨_, _, _, _, _, rfl⟩
  exact (((h.trans (State.ringPut_eventsOnly _ _)).trans (State.evtRegs_eventsOnly _)).trans (State.recordSignals_eventsOnly _ _ _)).trans
    (State.recordFlush_eventsOnly _ _ _)

/-- Recording an event changes nothing but registers, the event recorder, the trace, the PME status and the erase journal. -/
theorem State.record_eventsOnly (s : State) (it : EvItem) : s.EventsOnly (s.record it) := State.recordRep_eventsOnly s it 0

theorem State.recordWindow_eventsOnly (s : State) (key len : Nat) (it : EvItem) : s.EventsOnly (s.recordWindow key len it) := by
  unfold State.recordWindow
  split
  · exact ⟨_, _, _, _, _, rfl⟩
  · exact State.EventsOnly.trans (State.record_eventsOnly s it) ⟨_, _, _, _, _, rfl⟩

end Sys2Proof.Machine
end

