-- ==== Sys2Proof/Laws/Cores.lean ====
section
/-! SUPPORT. What the frame of an instruction does (R46): one law for an instruction that issues, and one for an instruction that
touches nothing but its core's registers. -/

namespace Sys2Proof.Machine

theorem State.setCore_setCore (s : State) (c : CoreId) (k j : Core) : (s.setCore c k).setCore c j = s.setCore c j := by
  simp [State.setCore, Tab.set_set]

/-- An instruction that issues: its body runs in the state in which its registers' completed operations have been observed; an exception it raises is
taken on the state before (R46). -/
theorem State.runInstr_ready {s : State} {c : CoreId} {i : Instr} {uses : List (BitVec 4)} (h : s.ready c i uses = true) (legal privileged : Bool)
    (body : State → Res) (hl : legal = true) (hp : (privileged && isScan c) = false) :
    s.runInstr c i legal privileged uses body = s.settle c (s.behind c i) (s.observeBound c uses) (body (s.observeBound c uses)) := by
  subst hl
  simp only [State.ready, Bool.and_eq_true, Bool.or_eq_true, Bool.not_eq_true', Option.isNone_iff_eq_none] at h
  obtain ⟨⟨⟨⟨⟨h1, h2⟩, h3⟩, h4⟩, h5⟩, h6⟩ := h
  unfold State.runInstr State.behind
  have h3' : ((prefixWord i).isSome && !s.fetchOk c (s.pc c + 4)) = false := by
    cases hp : (prefixWord i).isSome <;> simp_all
  simp only [h1, h2, h3', h4, h5, h6, hp, Bool.not_true, Bool.false_eq_true, if_false, Bool.or_self]

/-- A body that raises nothing ends on the state it has reached. -/
@[simp] theorem State.settle_done (s t u : State) (c : CoreId) (next : Word) : s.settle c next t (.done u) = t.finish c next (.done u) := rfl
@[simp] theorem State.settle_jump (s t u : State) (c : CoreId) (next a : Word) : s.settle c next t (.jump u a) = t.finish c next (.jump u a) := rfl
@[simp] theorem State.settle_whole (s t u : State) (c : CoreId) (next : Word) : s.settle c next t (.whole u) = t.finish c next (.whole u) := rfl
@[simp] theorem State.settle_wait (s t : State) (c : CoreId) (next : Word) (w : Waiting) :
    s.settle c next t (.wait w) = t.finish c next (.wait w) := rfl
@[simp] theorem State.settle_exc (s t : State) (c : CoreId) (next : Word) (cause : BitVec 5) (a : Word) :
    s.settle c next t (.exc cause a) = .next (s.raised c cause a) := rfl

/-- What retiring a body that has changed only its core comes to. -/
theorem State.finish_done_setCore (s : State) (c : CoreId) (next : Word) (k : Core)
    (hk : k.lesson = (s.core c).lesson ∧ k.stack = (s.core c).stack ∧ k.waiting = (s.core c).waiting ∧ k.clasp = (s.core c).clasp ∧
      k.ien = (s.core c).ien ∧ k.irq = (s.core c).irq ∧ k.frame = (s.core c).frame ∧ k.timeHi = (s.core c).timeHi ∧ k.halt = (s.core c).halt ∧
      k.haltCause = (s.core c).haltCause ∧ k.step = (s.core c).step) :
    ∃ t, s.finish c next (.done (s.setCore c k)) = .next t ∧ Retires s c { k.ctx with pc := next } t := by
  obtain ⟨h1, h2, h3, h4, h5, h6, h7, h8, h9, h10, h11⟩ := hk
  refine ⟨_, rfl, ?_⟩
  unfold Retires
  cases hc : k.clasp with
  | none =>
    simp only [State.countClasp, State.core_setCore_same, hc, State.setPc, State.updCtx, State.setCore_setCore, State.afterStep]
    split
    · refine ⟨_, rfl, ?_⟩
      simp_all
    · refine ⟨_, rfl, ?_⟩
      simp_all
  | some q =>
    simp only [State.countClasp, State.core_setCore_same, hc, State.setPc, State.updCtx, State.setCore_setCore, State.afterStep]
    split
    · refine ⟨_, rfl, ?_⟩
      simp_all
      simp [← h4]
    · refine ⟨_, rfl, ?_⟩
      simp_all
      simp [← h4]

/-- An instruction that writes one g register retires with it written. -/
theorem State.finish_done_setG (s : State) (c : CoreId) (next : Word) (gd : BitVec 4) (v : Word) :
    ∃ t, s.finish c next (.done (s.setG c gd v)) = .next t ∧ Retires s c ((s.core c).ctx.put gd v next) t := by
  have h := State.finish_done_setCore s c next { s.core c with ctx := { (s.core c).ctx with g := (s.core c).ctx.g.set gd.toNat v } } (by simp)
  simpa [State.setG, State.updCtx, Ctx.put] using h

/-- An instruction that computes one g register (R48 to R51) completes with its result. -/
theorem State.compute_ready {s : State} {c : CoreId} {i : Instr} {gd : BitVec 4} {srcs : List (BitVec 4)} (h : s.ready c i (gd :: srcs) = true)
    (f : State → Word) :
    ∃ t, s.compute c i gd srcs f = .next t ∧
      Retires (s.observeBound c (gd :: srcs)) c (((s.observeBound c (gd :: srcs)).core c).ctx.put gd (f (s.observeBound c (gd :: srcs))) (s.behind c i)) t := by
  unfold State.compute
  rw [State.runInstr_ready h true false _ rfl rfl]
  exact State.finish_done_setG _ _ _ _ _

/-- An instruction that has a result or raises a cause (R48, R49): it completes with the result, or takes the exception. -/
theorem State.computeOr_ready {s : State} {c : CoreId} {i : Instr} {gd : BitVec 4} {srcs : List (BitVec 4)} (h : s.ready c i (gd :: srcs) = true)
    (cause : BitVec 5) (f : State → Option Word) :
    (∀ v, f (s.observeBound c (gd :: srcs)) = some v → ∃ t, s.computeOr c i gd srcs cause f = .next t ∧
      Retires (s.observeBound c (gd :: srcs)) c (((s.observeBound c (gd :: srcs)).core c).ctx.put gd v (s.behind c i)) t) ∧
    (f (s.observeBound c (gd :: srcs)) = none → s.computeOr c i gd srcs cause f = .next (s.raised c cause (exWord i))) := by
  unfold State.computeOr
  rw [State.runInstr_ready h true false _ rfl rfl]
  constructor
  · intro v hv
    rw [hv]
    exact State.finish_done_setG _ _ _ _ _
  · intro hv
    rw [hv]
    rfl

/-- An instruction that changes nothing retires with the PC moved. -/
theorem State.finish_done_self (s : State) (c : CoreId) (next : Word) :
    ∃ t, s.finish c next (.done s) = .next t ∧ Retires s c { (s.core c).ctx with pc := next } t := by
  have h := State.finish_done_setCore s c next (s.core c) (by simp)
  have e : s.finish c next (.done (s.setCore c (s.core c))) = s.finish c next (.done s) := by
    simp only [State.finish, State.countClasp, State.core_setCore_same]
    split <;> simp [State.setPc, State.updCtx, State.setCore_setCore]
  rw [e] at h
  exact h

/-- A jump retires as an instruction whose next address is the target. -/
theorem State.finish_jump (s t : State) (c : CoreId) (next a : Word) : s.finish c next (.jump t a) = s.finish c a (.done t) := rfl

/-! ### Completed operations observed (R27) -/

theorem State.core_setEntry (s : State) (e : Nat) (x : Option Entry) (c : CoreId) : (s.setEntry e x).core c = s.core c := rfl

theorem State.core_ctx_updEntryCtx (s : State) (c : CoreId) (n : Option Nat) (f : Ctx → Ctx) (d : CoreId) :
    ((s.updEntryCtx c n f).core d).ctx = (s.core d).ctx ∨ ((s.updEntryCtx c n f).core d).ctx = f (s.core d).ctx := by
  unfold State.updEntryCtx
  by_cases h : d = c
  · subst h
    by_cases hl : (s.core d).lesson = n
    · simp [hl]
    · simp [hl]
  · by_cases hl : (s.core c).lesson = n <;> simp [hl, State.core_setCore, h]

theorem State.core_slotsOnly {s t : State} (h : s.SlotsOnly t) (c : CoreId) : t.core c = s.core c := by
  obtain ⟨r, o, rfl⟩ := h
  rfl

theorem State.core_observed (s : State) (p : Prop) [Decidable p] (l : List (BitVec 12)) (c : CoreId) :
    (if p then s.settleSlots l else s).core c = s.core c := by
  split
  · exact State.core_slotsOnly (State.settleSlots_frame s l) c
  · rfl

/-- Observing a completed operation changes of a core's registers only its tag registers and the bounds of its g registers. -/
theorem State.observe_ctx (s : State) (e : Nat) (d : CoreId) :
    ∃ t b, ((s.observe e).core d).ctx = { (s.core d).ctx with t := t, bound := b } := by
  unfold State.observe
  cases hx : s.entry? e with
  | none => exact ⟨_, _, rfl⟩
  | some x =>
    simp only []
    rw [State.core_observed]
    simp only [State.core_setEntry]
    rcases State.core_ctx_updEntryCtx s x.core x.lesson (fun k => (k.unbind e).updTag x.tag (fun t => t.observe (x.outcome.getD 0))) d with h | h
    · exact ⟨_, _, h⟩
    · exact ⟨_, _, h⟩

/-- So does observing the operation one g register is bound to. -/
theorem State.observeBound_one (s : State) (c d : CoreId) (r : BitVec 4) :
    ∃ t b, ((s.observeBound c [r]).core d).ctx = { (s.core d).ctx with t := t, bound := b } := by
  simp only [State.observeBound, List.foldl_cons, List.foldl_nil]
  split
  · split
    · split
      · exact State.observe_ctx s _ d
      · exact ⟨_, _, rfl⟩
    · by_cases hd : d = c
      · subst hd; exact ⟨_, _, by rw [State.core_updCtx]; rfl⟩
      · exact ⟨_, _, by rw [State.updCtx, State.core_setCore, if_neg hd]⟩
  · exact ⟨_, _, rfl⟩

theorem State.observeBound_cons (s : State) (c : CoreId) (r : BitVec 4) (rs : List (BitVec 4)) :
    s.observeBound c (r :: rs) = (s.observeBound c [r]).observeBound c rs := rfl

/-- And observing those of a list of g registers. -/
theorem State.observeBound_ctx (c d : CoreId) : ∀ (rs : List (BitVec 4)) (s : State),
    ∃ t b, ((s.observeBound c rs).core d).ctx = { (s.core d).ctx with t := t, bound := b }
  | [], _ => ⟨_, _, rfl⟩
  | r :: rs, s => by
    obtain ⟨t, b, h⟩ := State.observeBound_ctx c d rs (s.observeBound c [r])
    obtain ⟨t', b', h'⟩ := State.observeBound_one s c d r
    refine ⟨t, b, ?_⟩
    rw [State.observeBound_cons, h, h']

@[simp] theorem State.pc_observeBound (s : State) (c d : CoreId) (rs : List (BitVec 4)) : (s.observeBound c rs).pc d = s.pc d := by
  obtain ⟨t, b, h⟩ := State.observeBound_ctx c d rs s
  unfold State.pc
  rw [h]

@[simp] theorem State.g_observeBound (s : State) (c d : CoreId) (rs : List (BitVec 4)) (r : BitVec 4) : (s.observeBound c rs).g d r = s.g d r := by
  obtain ⟨t, b, h⟩ := State.observeBound_ctx c d rs s
  unfold State.g
  simp only [h]

end Sys2Proof.Machine
end

