-- ==== Sys2Proof/Laws/Dispatch.lean ====
section
/-! SUPPORT. What exec does with each constructor: it runs that command's meaning. Each law is true by rfl. -/

namespace Sys2Proof.Machine

@[simp] theorem exec_add c gd ga gb (s) : exec (.add c gd ga gb) s = execAdd c gd ga gb s := rfl
@[simp] theorem exec_sub c gd ga gb (s) : exec (.sub c gd ga gb) s = execSub c gd ga gb s := rfl
@[simp] theorem exec_and c gd ga gb (s) : exec (.and c gd ga gb) s = execAnd c gd ga gb s := rfl
@[simp] theorem exec_or c gd ga gb (s) : exec (.or c gd ga gb) s = execOr c gd ga gb s := rfl
@[simp] theorem exec_xor c gd ga gb (s) : exec (.xor c gd ga gb) s = execXor c gd ga gb s := rfl
@[simp] theorem exec_nor c gd ga gb (s) : exec (.nor c gd ga gb) s = execNor c gd ga gb s := rfl
@[simp] theorem exec_andn c gd ga gb (s) : exec (.andn c gd ga gb) s = execAndn c gd ga gb s := rfl
@[simp] theorem exec_slt c gd ga gb (s) : exec (.slt c gd ga gb) s = execSlt c gd ga gb s := rfl
@[simp] theorem exec_sltu c gd ga gb (s) : exec (.sltu c gd ga gb) s = execSltu c gd ga gb s := rfl
@[simp] theorem exec_seq c gd ga gb (s) : exec (.seq c gd ga gb) s = execSeq c gd ga gb s := rfl
@[simp] theorem exec_sll c gd ga gb (s) : exec (.sll c gd ga gb) s = execSll c gd ga gb s := rfl
@[simp] theorem exec_srl c gd ga gb (s) : exec (.srl c gd ga gb) s = execSrl c gd ga gb s := rfl
@[simp] theorem exec_sra c gd ga gb (s) : exec (.sra c gd ga gb) s = execSra c gd ga gb s := rfl
@[simp] theorem exec_ror c gd ga gb (s) : exec (.ror c gd ga gb) s = execRor c gd ga gb s := rfl
@[simp] theorem exec_min c gd ga gb (s) : exec (.min c gd ga gb) s = execMin c gd ga gb s := rfl
@[simp] theorem exec_max c gd ga gb (s) : exec (.max c gd ga gb) s = execMax c gd ga gb s := rfl
@[simp] theorem exec_minu c gd ga gb (s) : exec (.minu c gd ga gb) s = execMinu c gd ga gb s := rfl
@[simp] theorem exec_maxu c gd ga gb (s) : exec (.maxu c gd ga gb) s = execMaxu c gd ga gb s := rfl
@[simp] theorem exec_addv c gd ga gb (s) : exec (.addv c gd ga gb) s = execAddv c gd ga gb s := rfl
@[simp] theorem exec_subv c gd ga gb (s) : exec (.subv c gd ga gb) s = execSubv c gd ga gb s := rfl
@[simp] theorem exec_adds c gd ga gb (s) : exec (.adds c gd ga gb) s = execAdds c gd ga gb s := rfl
@[simp] theorem exec_subs c gd ga gb (s) : exec (.subs c gd ga gb) s = execSubs c gd ga gb s := rfl
@[simp] theorem exec_sel c gd ga gb (s) : exec (.sel c gd ga gb) s = execSel c gd ga gb s := rfl
@[simp] theorem exec_abs c gd ga (s) : exec (.abs c gd ga) s = execAbs c gd ga s := rfl
@[simp] theorem exec_mul c gd ga gb (s) : exec (.mul c gd ga gb) s = execMul c gd ga gb s := rfl
@[simp] theorem exec_mulh c gd ga gb (s) : exec (.mulh c gd ga gb) s = execMulh c gd ga gb s := rfl
@[simp] theorem exec_mulhu c gd ga gb (s) : exec (.mulhu c gd ga gb) s = execMulhu c gd ga gb s := rfl
@[simp] theorem exec_mulv c gd ga gb (s) : exec (.mulv c gd ga gb) s = execMulv c gd ga gb s := rfl
@[simp] theorem exec_div c gd ga gb (s) : exec (.div c gd ga gb) s = execDiv c gd ga gb s := rfl
@[simp] theorem exec_divu c gd ga gb (s) : exec (.divu c gd ga gb) s = execDivu c gd ga gb s := rfl
@[simp] theorem exec_rem c gd ga gb (s) : exec (.rem c gd ga gb) s = execRem c gd ga gb s := rfl
@[simp] theorem exec_remu c gd ga gb (s) : exec (.remu c gd ga gb) s = execRemu c gd ga gb s := rfl
@[simp] theorem exec_mulq c gd ga gb (s) : exec (.mulq c gd ga gb) s = execMulq c gd ga gb s := rfl
@[simp] theorem exec_addi c gd ga imm (s) : exec (.addi c gd ga imm) s = execAddi c gd ga imm s := rfl
@[simp] theorem exec_andi c gd ga imm (s) : exec (.andi c gd ga imm) s = execAndi c gd ga imm s := rfl
@[simp] theorem exec_ori c gd ga imm (s) : exec (.ori c gd ga imm) s = execOri c gd ga imm s := rfl
@[simp] theorem exec_xori c gd ga imm (s) : exec (.xori c gd ga imm) s = execXori c gd ga imm s := rfl
@[simp] theorem exec_slti c gd ga imm (s) : exec (.slti c gd ga imm) s = execSlti c gd ga imm s := rfl
@[simp] theorem exec_sltiu c gd ga imm (s) : exec (.sltiu c gd ga imm) s = execSltiu c gd ga imm s := rfl
@[simp] theorem exec_shi c gd ga kind n (s) : exec (.shi c gd ga kind n) s = execShi c gd ga kind n s := rfl
@[simp] theorem exec_li c gd imm (s) : exec (.li c gd imm) s = execLi c gd imm s := rfl
@[simp] theorem exec_lui c gd imm18 (s) : exec (.lui c gd imm18) s = execLui c gd imm18 s := rfl
@[simp] theorem exec_extu c gd ga l w (s) : exec (.extu c gd ga l w) s = execExtu c gd ga l w s := rfl
@[simp] theorem exec_exts c gd ga l w (s) : exec (.exts c gd ga l w) s = execExts c gd ga l w s := rfl
@[simp] theorem exec_ins c gd ga l w (s) : exec (.ins c gd ga l w) s = execIns c gd ga l w s := rfl
@[simp] theorem exec_clz c gd ga (s) : exec (.clz c gd ga) s = execClz c gd ga s := rfl
@[simp] theorem exec_ctz c gd ga (s) : exec (.ctz c gd ga) s = execCtz c gd ga s := rfl
@[simp] theorem exec_popc c gd ga (s) : exec (.popc c gd ga) s = execPopc c gd ga s := rfl
@[simp] theorem exec_bswap c gd ga (s) : exec (.bswap c gd ga) s = execBswap c gd ga s := rfl
@[simp] theorem exec_lw c gd ga imm (s) : exec (.lw c gd ga imm) s = execLw c gd ga imm s := rfl
@[simp] theorem exec_lh c gd ga imm (s) : exec (.lh c gd ga imm) s = execLh c gd ga imm s := rfl
@[simp] theorem exec_lhu c gd ga imm (s) : exec (.lhu c gd ga imm) s = execLhu c gd ga imm s := rfl
@[simp] theorem exec_lb c gd ga imm (s) : exec (.lb c gd ga imm) s = execLb c gd ga imm s := rfl
@[simp] theorem exec_lbu c gd ga imm (s) : exec (.lbu c gd ga imm) s = execLbu c gd ga imm s := rfl
@[simp] theorem exec_sw c gd ga imm (s) : exec (.sw c gd ga imm) s = execSw c gd ga imm s := rfl
@[simp] theorem exec_sh c gd ga imm (s) : exec (.sh c gd ga imm) s = execSh c gd ga imm s := rfl
@[simp] theorem exec_sb c gd ga imm (s) : exec (.sb c gd ga imm) s = execSb c gd ga imm s := rfl
@[simp] theorem exec_beq c ga gb off18 (s) : exec (.beq c ga gb off18) s = execBeq c ga gb off18 s := rfl
@[simp] theorem exec_bne c ga gb off18 (s) : exec (.bne c ga gb off18) s = execBne c ga gb off18 s := rfl
@[simp] theorem exec_blt c ga gb off18 (s) : exec (.blt c ga gb off18) s = execBlt c ga gb off18 s := rfl
@[simp] theorem exec_bge c ga gb off18 (s) : exec (.bge c ga gb off18) s = execBge c ga gb off18 s := rfl
@[simp] theorem exec_bltu c ga gb off18 (s) : exec (.bltu c ga gb off18) s = execBltu c ga gb off18 s := rfl
@[simp] theorem exec_bgeu c ga gb off18 (s) : exec (.bgeu c ga gb off18) s = execBgeu c ga gb off18 s := rfl
@[simp] theorem exec_jal c gd off18 (s) : exec (.jal c gd off18) s = execJal c gd off18 s := rfl
@[simp] theorem exec_jr c ga off17 (s) : exec (.jr c ga off17) s = execJr c ga off17 s := rfl
@[simp] theorem exec_jalr c gd ga off17 (s) : exec (.jalr c gd ga off17) s = execJalr c gd ga off17 s := rfl
@[simp] theorem exec_nop c (s) : exec (.nop c) s = execNop c s := rfl
@[simp] theorem exec_fence c (s) : exec (.fence c) s = execFence c s := rfl
@[simp] theorem exec_brk c code (s) : exec (.brk c code) s = execBrk c code s := rfl
@[simp] theorem exec_trap c code (s) : exec (.trap c code) s = execTrap c code s := rfl
@[simp] theorem exec_eret c (s) : exec (.eret c) s = execEret c s := rfl
@[simp] theorem exec_rdsr c gd sr (s) : exec (.rdsr c gd sr) s = execRdsr c gd sr s := rfl
@[simp] theorem exec_wrsr c ga sr (s) : exec (.wrsr c ga sr) s = execWrsr c ga sr s := rfl
@[simp] theorem exec_wait c (s) : exec (.wait c) s = execWait c s := rfl
@[simp] theorem exec_ien c mask12 (s) : exec (.ien c mask12) s = execIen c mask12 s := rfl
@[simp] theorem exec_idis c mask12 (s) : exec (.idis c mask12) s = execIdis c mask12 s := rfl
@[simp] theorem exec_illegalEncoding c word second (s) : exec (.illegalEncoding c word second) s = execIllegalEncoding c word second s := rfl
@[simp] theorem exec_stewardInterrupt core line (s) : exec (.stewardInterrupt core line) s = execStewardInterrupt core line s := rfl
@[simp] theorem exec_pget c gd t pt (s) : exec (.pget c gd t pt) s = execPget c gd t pt s := rfl
@[simp] theorem exec_pget2 c gd t pt (s) : exec (.pget2 c gd t pt) s = execPget2 c gd t pt s := rfl
@[simp] theorem exec_pget4 c gd t pt (s) : exec (.pget4 c gd t pt) s = execPget4 c gd t pt s := rfl
@[simp] theorem exec_pgetvq c gd t pt (s) : exec (.pgetvq c gd t pt) s = execPgetvq c gd t pt s := rfl
@[simp] theorem exec_pput c gd t pt (s) : exec (.pput c gd t pt) s = execPput c gd t pt s := rfl
@[simp] theorem exec_pput2 c gd t pt (s) : exec (.pput2 c gd t pt) s = execPput2 c gd t pt s := rfl
@[simp] theorem exec_pput4 c gd t pt (s) : exec (.pput4 c gd t pt) s = execPput4 c gd t pt s := rfl
@[simp] theorem exec_psync c gd t pt (s) : exec (.psync c gd t pt) s = execPsync c gd t pt s := rfl
@[simp] theorem exec_twait c gd t (s) : exec (.twait c gd t) s = execTwait c gd t s := rfl
@[simp] theorem exec_ttest c gd t (s) : exec (.ttest c gd t) s = execTtest c gd t s := rfl
@[simp] theorem exec_tmov c gd t (s) : exec (.tmov c gd t) s = execTmov c gd t s := rfl
@[simp] theorem exec_twaitm c gd mask8 (s) : exec (.twaitm c gd mask8) s = execTwaitm c gd mask8 s := rfl
@[simp] theorem exec_emsg c gd t unit typ ga len reply (s) : exec (.emsg c gd t unit typ ga len reply) s = execEmsg c gd t unit typ ga len reply s := rfl
@[simp] theorem exec_poolEntryGrant (s) : exec .poolEntryGrant s = execPoolEntryGrant s := rfl
@[simp] theorem exec_tagWaitEnd c (s) : exec (.tagWaitEnd c) s = execTagWaitEnd c s := rfl
@[simp] theorem exec_boundWaitEnd c (s) : exec (.boundWaitEnd c) s = execBoundWaitEnd c s := rfl
@[simp] theorem exec_operationComplete entry (s) : exec (.operationComplete entry) s = execOperationComplete entry s := rfl
@[simp] theorem exec_psyncComplete entry (s) : exec (.psyncComplete entry) s = execPsyncComplete entry s := rfl
@[simp] theorem exec_operationTimeout entry (s) : exec (.operationTimeout entry) s = execOperationTimeout entry s := rfl
@[simp] theorem exec_vadd c bd ba bb tt (s) : exec (.vadd c bd ba bb tt) s = execVadd c bd ba bb tt s := rfl
@[simp] theorem exec_vsub c bd ba bb tt (s) : exec (.vsub c bd ba bb tt) s = execVsub c bd ba bb tt s := rfl
@[simp] theorem exec_vmul c bd ba bb tt (s) : exec (.vmul c bd ba bb tt) s = execVmul c bd ba bb tt s := rfl
@[simp] theorem exec_vmac c bd ba bb tt (s) : exec (.vmac c bd ba bb tt) s = execVmac c bd ba bb tt s := rfl
@[simp] theorem exec_vmin c bd ba bb tt (s) : exec (.vmin c bd ba bb tt) s = execVmin c bd ba bb tt s := rfl
@[simp] theorem exec_vmax c bd ba bb tt (s) : exec (.vmax c bd ba bb tt) s = execVmax c bd ba bb tt s := rfl
@[simp] theorem exec_vneg c bd ba tt (s) : exec (.vneg c bd ba tt) s = execVneg c bd ba tt s := rfl
@[simp] theorem exec_vabs c bd ba tt (s) : exec (.vabs c bd ba tt) s = execVabs c bd ba tt s := rfl
@[simp] theorem exec_vclamp c bd ba bb tt (s) : exec (.vclamp c bd ba bb tt) s = execVclamp c bd ba bb tt s := rfl
@[simp] theorem exec_vdot c bd ba bb tt (s) : exec (.vdot c bd ba bb tt) s = execVdot c bd ba bb tt s := rfl
@[simp] theorem exec_vsum c bd ba tt (s) : exec (.vsum c bd ba tt) s = execVsum c bd ba tt s := rfl
@[simp] theorem exec_vbcast c op lane bd ba bb tt (s) : exec (.vbcast c op lane bd ba bb tt) s = execVbcast c op lane bd ba bb tt s := rfl
@[simp] theorem exec_vld c bd ga off12 (s) : exec (.vld c bd ga off12) s = execVld c bd ga off12 s := rfl
@[simp] theorem exec_vst c bd ga off12 (s) : exec (.vst c bd ga off12) s = execVst c bd ga off12 s := rfl
@[simp] theorem exec_vext c ga bd lane (s) : exec (.vext c ga bd lane) s = execVext c ga bd lane s := rfl
@[simp] theorem exec_vins c bd ga lane (s) : exec (.vins c bd ga lane) s = execVins c bd ga lane s := rfl
@[simp] theorem exec_vgexp c ga bd (s) : exec (.vgexp c ga bd) s = execVgexp c ga bd s := rfl
@[simp] theorem exec_vsete c bd ga (s) : exec (.vsete c bd ga) s = execVsete c bd ga s := rfl
@[simp] theorem exec_vcvt c ga bd lane scale tt (s) : exec (.vcvt c ga bd lane scale tt) s = execVcvt c ga bd lane scale tt s := rfl
@[simp] theorem exec_vcvtf c bd ga lane scale (s) : exec (.vcvtf c bd ga lane scale) s = execVcvtf c bd ga lane scale s := rfl
@[simp] theorem exec_vcmp c ga bd bb cond (s) : exec (.vcmp c ga bd bb cond) s = execVcmp c ga bd bb cond s := rfl
@[simp] theorem exec_vsplat c bd ga (s) : exec (.vsplat c bd ga) s = execVsplat c bd ga s := rfl
@[simp] theorem exec_vzero c bd (s) : exec (.vzero c bd) s = execVzero c bd s := rfl
@[simp] theorem exec_lend c (s) : exec (.lend c) s = execLend c s := rfl
@[simp] theorem exec_lslack c gd (s) : exec (.lslack c gd) s = execLslack c gd s := rfl
@[simp] theorem exec_lsleep c ga (s) : exec (.lsleep c ga) s = execLsleep c ga s := rfl
@[simp] theorem exec_lsleepExpiry c (s) : exec (.lsleepExpiry c) s = execLsleepExpiry c s := rfl
@[simp] theorem exec_lbell c gd cls (s) : exec (.lbell c gd cls) s = execLbell c gd cls s := rfl
@[simp] theorem exec_clasp c (s) : exec (.clasp c) s = execClasp c s := rfl
@[simp] theorem exec_unclasp c (s) : exec (.unclasp c) s = execUnclasp c s := rfl
@[simp] theorem exec_claspSlotGrant (s) : exec .claspSlotGrant s = execClaspSlotGrant s := rfl
@[simp] theorem exec_claspLockGrant cluster (s) : exec (.claspLockGrant cluster) s = execClaspLockGrant cluster s := rfl
@[simp] theorem exec_bell cls (s) : exec (.bell cls) s = execBell cls s := rfl
@[simp] theorem exec_lessonStart core (s) : exec (.lessonStart core) s = execLessonStart core s := rfl
@[simp] theorem exec_deadlineExpiry lesson (s) : exec (.deadlineExpiry lesson) s = execDeadlineExpiry lesson s := rfl
@[simp] theorem exec_budgetExhausted lesson (s) : exec (.budgetExhausted lesson) s = execBudgetExhausted lesson s := rfl
@[simp] theorem exec_scanRunStart m (s) : exec (.scanRunStart m) s = execScanRunStart m s := rfl
@[simp] theorem exec_scanRunStop m (s) : exec (.scanRunStop m) s = execScanRunStop m s := rfl
@[simp] theorem exec_uncorrectableError target (s) : exec (.uncorrectableError target) s = execUncorrectableError target s := rfl
@[simp] theorem exec_floorWrite m slot v (s) : exec (.floorWrite m slot v) s = execFloorWrite m slot v s := rfl
@[simp] theorem exec_forceSet m (s) : exec (.forceSet m) s = execForceSet m s := rfl
@[simp] theorem exec_forceClear m (s) : exec (.forceClear m) s = execForceClear m s := rfl
@[simp] theorem exec_forceClearAll m (s) : exec (.forceClearAll m) s = execForceClearAll m s := rfl
@[simp] theorem exec_lessonClrOne m lesson (s) : exec (.lessonClrOne m lesson) s = execLessonClrOne m lesson s := rfl
@[simp] theorem exec_lessonClrAll m (s) : exec (.lessonClrAll m) s = execLessonClrAll m s := rfl
@[simp] theorem exec_producerCommit idx producer upd (s) : exec (.producerCommit idx producer upd) s = execProducerCommit idx producer upd s := rfl
@[simp] theorem exec_deviceAnswer group values (s) : exec (.deviceAnswer group values) s = execDeviceAnswer group values s := rfl
@[simp] theorem exec_deviceRequestTimeout group (s) : exec (.deviceRequestTimeout group) s = execDeviceRequestTimeout group s := rfl
@[simp] theorem exec_devicePoll group (s) : exec (.devicePoll group) s = execDevicePoll group s := rfl
@[simp] theorem exec_progBegin m tenantImg tenant (s) : exec (.progBegin m tenantImg tenant) s = execProgBegin m tenantImg tenant s := rfl
@[simp] theorem exec_progPush m items (s) : exec (.progPush m items) s = execProgPush m items s := rfl
@[simp] theorem exec_progCheck m (s) : exec (.progCheck m) s = execProgCheck m s := rfl
@[simp] theorem exec_progCheckDone (s) : exec .progCheckDone s = execProgCheckDone s := rfl
@[simp] theorem exec_progLoad m (s) : exec (.progLoad m) s = execProgLoad m s := rfl
@[simp] theorem exec_progArm m (s) : exec (.progArm m) s = execProgArm m s := rfl
@[simp] theorem exec_stagingDone (s) : exec .stagingDone s = execStagingDone s := rfl
@[simp] theorem exec_progAbort m (s) : exec (.progAbort m) s = execProgAbort m s := rfl
@[simp] theorem exec_warmRestart m (s) : exec (.warmRestart m) s = execWarmRestart m s := rfl
@[simp] theorem exec_coldRestart m (s) : exec (.coldRestart m) s = execColdRestart m s := rfl
@[simp] theorem exec_switchCoreRelease core (s) : exec (.switchCoreRelease core) s = execSwitchCoreRelease core s := rfl
@[simp] theorem exec_periodicCheckpoint (s) : exec .periodicCheckpoint s = execPeriodicCheckpoint s := rfl
@[simp] theorem exec_homeroomReloadDone slot (s) : exec (.homeroomReloadDone slot) s = execHomeroomReloadDone slot s := rfl
@[simp] theorem exec_rosterCommit m (s) : exec (.rosterCommit m) s = execRosterCommit m s := rfl
@[simp] theorem exec_rosterRevert m (s) : exec (.rosterRevert m) s = execRosterRevert m s := rfl
@[simp] theorem exec_rosterTc (s) : exec .rosterTc s = execRosterTc s := rfl
@[simp] theorem exec_rosterDrained (s) : exec .rosterDrained s = execRosterDrained s := rfl
@[simp] theorem exec_drainBoundExpiry (s) : exec .drainBoundExpiry s = execDrainBoundExpiry s := rfl
@[simp] theorem exec_feAlarm target (s) : exec (.feAlarm target) s = execFeAlarm target s := rfl
@[simp] theorem exec_currentPeriod lines currents (s) : exec (.currentPeriod lines currents) s = execCurrentPeriod lines currents s := rfl
@[simp] theorem exec_loopBind (s) : exec .loopBind s = execLoopBind s := rfl
@[simp] theorem exec_loopUnbind (s) : exec .loopUnbind s = execLoopUnbind s := rfl
@[simp] theorem exec_loopParam (s) : exec .loopParam s = execLoopParam s := rfl
@[simp] theorem exec_loopMode (s) : exec .loopMode s = execLoopMode s := rfl
@[simp] theorem exec_opBind (s) : exec .opBind s = execOpBind s := rfl
@[simp] theorem exec_opParam (s) : exec .opParam s = execOpParam s := rfl
@[simp] theorem exec_opMode (s) : exec .opMode s = execOpMode s := rfl
@[simp] theorem exec_opMove (s) : exec .opMove s = execOpMove s := rfl
@[simp] theorem exec_zone (s) : exec .zone s = execZone s := rfl
@[simp] theorem exec_loopTriggerMsg (s) : exec .loopTriggerMsg s = execLoopTriggerMsg s := rfl
@[simp] theorem exec_slotParamApply m (s) : exec (.slotParamApply m) s = execSlotParamApply m s := rfl
@[simp] theorem exec_stageParamApply m stage (s) : exec (.stageParamApply m stage) s = execStageParamApply m stage s := rfl
@[simp] theorem exec_slotWindowLatch m slot11 (s) : exec (.slotWindowLatch m slot11) s = execSlotWindowLatch m slot11 s := rfl
@[simp] theorem exec_hzDeadline zone (s) : exec (.hzDeadline zone) s = execHzDeadline zone s := rfl
@[simp] theorem exec_modelCommit m (s) : exec (.modelCommit m) s = execModelCommit m s := rfl
@[simp] theorem exec_traceArm m (s) : exec (.traceArm m) s = execTraceArm m s := rfl
@[simp] theorem exec_traceTrigger m (s) : exec (.traceTrigger m) s = execTraceTrigger m s := rfl
@[simp] theorem exec_traceStop m (s) : exec (.traceStop m) s = execTraceStop m s := rfl
@[simp] theorem exec_positionPeriod lines (s) : exec (.positionPeriod lines) s = execPositionPeriod lines s := rfl
@[simp] theorem exec_encoderQerr enc (s) : exec (.encoderQerr enc) s = execEncoderQerr enc s := rfl
@[simp] theorem exec_doorZoneEdge car rising km kg (s) : exec (.doorZoneEdge car rising km kg) s = execDoorZoneEdge car rising km kg s := rfl
@[simp] theorem exec_terminalEdge car active km kg (s) : exec (.terminalEdge car active km kg) s = execTerminalEdge car active km kg s := rfl
@[simp] theorem exec_carClear m car (s) : exec (.carClear m car) s = execCarClear m car s := rfl
@[simp] theorem exec_captureFlush m car (s) : exec (.captureFlush m car) s = execCaptureFlush m car s := rfl
@[simp] theorem exec_dzcapPop m car (s) : exec (.dzcapPop m car) s = execDzcapPop m car s := rfl
@[simp] theorem exec_doorPositionPeriod (s) : exec .doorPositionPeriod s = execDoorPositionPeriod s := rfl
@[simp] theorem exec_doorCommand door (s) : exec (.doorCommand door) s = execDoorCommand door s := rfl
@[simp] theorem exec_doorClosedReached door (s) : exec (.doorClosedReached door) s = execDoorClosedReached door s := rfl
@[simp] theorem exec_doorOpenReached door (s) : exec (.doorOpenReached door) s = execDoorOpenReached door s := rfl
@[simp] theorem exec_doorStall door (s) : exec (.doorStall door) s = execDoorStall door s := rfl
@[simp] theorem exec_homingTimeout door (s) : exec (.homingTimeout door) s = execHomingTimeout door s := rfl
@[simp] theorem exec_learnTimeout door (s) : exec (.learnTimeout door) s = execLearnTimeout door s := rfl
@[simp] theorem exec_callAdd (s) : exec .callAdd s = execCallAdd s := rfl
@[simp] theorem exec_callCancel (s) : exec .callCancel s = execCallCancel s := rfl
@[simp] theorem exec_stopDone (s) : exec .stopDone s = execStopDone s := rfl
@[simp] theorem exec_dispatchCommit (s) : exec .dispatchCommit s = execDispatchCommit s := rfl
@[simp] theorem exec_dispatchDrop (s) : exec .dispatchDrop s = execDispatchDrop s := rfl
@[simp] theorem exec_dispatchCallLatch m slot8 (s) : exec (.dispatchCallLatch m slot8) s = execDispatchCallLatch m slot8 s := rfl
@[simp] theorem exec_safetyRequest (s) : exec .safetyRequest s = execSafetyRequest s := rfl
@[simp] theorem exec_safetyEvaluation ch ins (s) : exec (.safetyEvaluation ch ins) s = execSafetyEvaluation ch ins s := rfl
@[simp] theorem exec_grantDisagree car (s) : exec (.grantDisagree car) s = execGrantDisagree car s := rfl
@[simp] theorem exec_relayReadbackFail ch relay (s) : exec (.relayReadbackFail ch relay) s = execRelayReadbackFail ch relay s := rfl
@[simp] theorem exec_latchClear car (s) : exec (.latchClear car) s = execLatchClear car s := rfl
@[simp] theorem exec_safetyParamRequest set (s) : exec (.safetyParamRequest set) s = execSafetyParamRequest set s := rfl
@[simp] theorem exec_safetyParamApply (s) : exec .safetyParamApply s = execSafetyParamApply s := rfl
@[simp] theorem exec_safetyDieStart (s) : exec .safetyDieStart s = execSafetyDieStart s := rfl
@[simp] theorem exec_safeMirrorUpdate (s) : exec .safeMirrorUpdate s = execSafeMirrorUpdate s := rfl
@[simp] theorem exec_lineCycle supply sup ckts (s) : exec (.lineCycle supply sup ckts) s = execLineCycle supply sup ckts s := rfl
@[simp] theorem exec_meterSnap m (s) : exec (.meterSnap m) s = execMeterSnap m s := rfl
@[simp] theorem exec_meterClrAll m (s) : exec (.meterClrAll m) s = execMeterClrAll m s := rfl
@[simp] theorem exec_calApply m (s) : exec (.calApply m) s = execCalApply m s := rfl
@[simp] theorem exec_meterSupervision ckt cond (s) : exec (.meterSupervision ckt cond) s = execMeterSupervision ckt cond s := rfl
@[simp] theorem exec_meterSave (s) : exec .meterSave s = execMeterSave s := rfl
@[simp] theorem exec_saveConfirmed (s) : exec .saveConfirmed s = execSaveConfirmed s := rfl
@[simp] theorem exec_saveLate (s) : exec .saveLate s = execSaveLate s := rfl
@[simp] theorem exec_qmapWrite m entry10 v (s) : exec (.qmapWrite m entry10 v) s = execQmapWrite m entry10 v s := rfl
@[simp] theorem exec_batClr m ckt (s) : exec (.batClr m ckt) s = execBatClr m ckt s := rfl
@[simp] theorem exec_batteryMeasure rms (s) : exec (.batteryMeasure rms) s = execBatteryMeasure rms s := rfl
@[simp] theorem exec_batteryRecordWrite (s) : exec .batteryRecordWrite s = execBatteryRecordWrite s := rfl
@[simp] theorem exec_meterMerge (s) : exec .meterMerge s = execMeterMerge s := rfl
@[simp] theorem exec_pulseEmit out (s) : exec (.pulseEmit out) s = execPulseEmit out s := rfl
@[simp] theorem exec_diSample di raw (s) : exec (.diSample di raw) s = execDiSample di raw s := rfl
@[simp] theorem exec_doReadbackFault dch rb (s) : exec (.doReadbackFault dch rb) s = execDoReadbackFault dch rb s := rfl
@[simp] theorem exec_doOverload dch (s) : exec (.doOverload dch) s = execDoOverload dch s := rfl
@[simp] theorem exec_doGroupOverload grp current (s) : exec (.doGroupOverload grp current) s = execDoGroupOverload grp current s := rfl
@[simp] theorem exec_doRetry target ok (s) : exec (.doRetry target ok) s = execDoRetry target ok s := rfl
@[simp] theorem exec_doClear m dch (s) : exec (.doClear m dch) s = execDoClear m dch s := rfl
@[simp] theorem exec_doGroupClear m grp (s) : exec (.doGroupClear m grp) s = execDoGroupClear m grp s := rfl
@[simp] theorem exec_vfldLow bank (s) : exec (.vfldLow bank) s = execVfldLow bank s := rfl
@[simp] theorem exec_vfldRestore bank (s) : exec (.vfldRestore bank) s = execVfldRestore bank s := rfl
@[simp] theorem exec_aiConversion ai code16 micro (s) : exec (.aiConversion ai code16 micro) s = execAiConversion ai code16 micro s := rfl
@[simp] theorem exec_aiShuntRetry ai (s) : exec (.aiShuntRetry ai) s = execAiShuntRetry ai s := rfl
@[simp] theorem exec_csMeanCommit cs mean (s) : exec (.csMeanCommit cs mean) s = execCsMeanCommit cs mean s := rfl
@[simp] theorem exec_channelBind m addr v (s) : exec (.channelBind m addr v) s = execChannelBind m addr v s := rfl
@[simp] theorem exec_fieldOutEnable m v (s) : exec (.fieldOutEnable m v) s = execFieldOutEnable m v s := rfl
@[simp] theorem exec_daliBusFail line (s) : exec (.daliBusFail line) s = execDaliBusFail line s := rfl
@[simp] theorem exec_daliBusReturn line (s) : exec (.daliBusReturn line) s = execDaliBusReturn line s := rfl
@[simp] theorem exec_daliAddress m line (s) : exec (.daliAddress m line) s = execDaliAddress m line s := rfl
@[simp] theorem exec_addressingEnd line gear dev dup excess (s) : exec (.addressingEnd line gear dev dup excess) s = execAddressingEnd line gear dev dup excess s := rfl
@[simp] theorem exec_daliRefresh m line (s) : exec (.daliRefresh m line) s = execDaliRefresh m line s := rfl
@[simp] theorem exec_daliOutputSend line resends (s) : exec (.daliOutputSend line resends) s = execDaliOutputSend line resends s := rfl
@[simp] theorem exec_daliEvent line sa inst info ityp (s) : exec (.daliEvent line sa inst info ityp) s = execDaliEvent line sa inst info ityp s := rfl
@[simp] theorem exec_daliGapExpiry entry10 (s) : exec (.daliGapExpiry entry10) s = execDaliGapExpiry entry10 s := rfl
@[simp] theorem exec_daliPoll entry10 answer (s) : exec (.daliPoll entry10 answer) s = execDaliPoll entry10 answer s := rfl
@[simp] theorem exec_daliRawGo m (s) : exec (.daliRawGo m) s = execDaliRawGo m s := rfl
@[simp] theorem exec_daliRawDone result ans8 (s) : exec (.daliRawDone result ans8) s = execDaliRawDone result ans8 s := rfl
@[simp] theorem exec_frameReceive mac frame (s) : exec (.frameReceive mac frame) s = execFrameReceive mac frame s := rfl
@[simp] theorem exec_pauseExpiry mac (s) : exec (.pauseExpiry mac) s = execPauseExpiry mac s := rfl
@[simp] theorem exec_frameTransmit mac pair q len14 coll (s) : exec (.frameTransmit mac pair q len14 coll) s = execFrameTransmit mac pair q len14 coll s := rfl
@[simp] theorem exec_txUnderrun mac (s) : exec (.txUnderrun mac) s = execTxUnderrun mac s := rfl
@[simp] theorem exec_gateEntry mac (s) : exec (.gateEntry mac) s = execGateEntry mac s := rfl
@[simp] theorem exec_gateChange m mac (s) : exec (.gateChange m mac) s = execGateChange m mac s := rfl
@[simp] theorem exec_lpiEntry mac (s) : exec (.lpiEntry mac) s = execLpiEntry mac s := rfl
@[simp] theorem exec_lpiWake mac (s) : exec (.lpiWake mac) s = execLpiWake mac s := rfl
@[simp] theorem exec_phyLinkChange mac up eee low sqi (s) : exec (.phyLinkChange mac up eee low sqi) s = execPhyLinkChange mac up eee low sqi s := rfl
@[simp] theorem exec_prpSupervision (s) : exec .prpSupervision s = execPrpSupervision s := rfl
@[simp] theorem exec_nodeForget node (s) : exec (.nodeForget node) s = execNodeForget node s := rfl
@[simp] theorem exec_lanLoss lan (s) : exec (.lanLoss lan) s = execLanLoss lan s := rfl
@[simp] theorem exec_helloSend port (s) : exec (.helloSend port) s = execHelloSend port s := rfl
@[simp] theorem exec_riserPortDown port (s) : exec (.riserPortDown port) s = execRiserPortDown port s := rfl
@[simp] theorem exec_plcaBeaconLoss t1s (s) : exec (.plcaBeaconLoss t1s) s = execPlcaBeaconLoss t1s s := rfl
@[simp] theorem exec_canBusOff can (s) : exec (.canBusOff can) s = execCanBusOff can s := rfl
@[simp] theorem exec_canBusOffRecovery can (s) : exec (.canBusOffRecovery can) s = execCanBusOffRecovery can s := rfl
@[simp] theorem exec_credWrite m (s) : exec (.credWrite m) s = execCredWrite m s := rfl
@[simp] theorem exec_credDelete m (s) : exec (.credDelete m) s = execCredDelete m s := rfl
@[simp] theorem exec_present psrc (s) : exec (.present psrc) s = execPresent psrc s := rfl
@[simp] theorem exec_cacheSweep (s) : exec .cacheSweep s = execCacheSweep s := rfl
@[simp] theorem exec_doorLock dsrc (s) : exec (.doorLock dsrc) s = execDoorLock dsrc s := rfl
@[simp] theorem exec_doorPulse dsrc (s) : exec (.doorPulse dsrc) s = execDoorPulse dsrc s := rfl
@[simp] theorem exec_doorHoldUnlocked dsrc (s) : exec (.doorHoldUnlocked dsrc) s = execDoorHoldUnlocked dsrc s := rfl
@[simp] theorem exec_doorLockdown dsrc (s) : exec (.doorLockdown dsrc) s = execDoorLockdown dsrc s := rfl
@[simp] theorem exec_doorReleaseLockdown dsrc (s) : exec (.doorReleaseLockdown dsrc) s = execDoorReleaseLockdown dsrc s := rfl
@[simp] theorem exec_doorContactChange adoor (s) : exec (.doorContactChange adoor) s = execDoorContactChange adoor s := rfl
@[simp] theorem exec_doorRex adoor (s) : exec (.doorRex adoor) s = execDoorRex adoor s := rfl
@[simp] theorem exec_doorFire adoor (s) : exec (.doorFire adoor) s = execDoorFire adoor s := rfl
@[simp] theorem exec_strikeTimeExpiry adoor (s) : exec (.strikeTimeExpiry adoor) s = execStrikeTimeExpiry adoor s := rfl
@[simp] theorem exec_heldTimeExpiry adoor (s) : exec (.heldTimeExpiry adoor) s = execHeldTimeExpiry adoor s := rfl
@[simp] theorem exec_rateWrite m v (s) : exec (.rateWrite m v) s = execRateWrite m v s := rfl
@[simp] theorem exec_offsetSet m (s) : exec (.offsetSet m) s = execOffsetSet m s := rfl
@[simp] theorem exec_offsetAdd m (s) : exec (.offsetAdd m) s = execOffsetAdd m s := rfl
@[simp] theorem exec_timeFrameSend port (s) : exec (.timeFrameSend port) s = execTimeFrameSend port s := rfl
@[simp] theorem exec_triggerEnable m trig v (s) : exec (.triggerEnable m trig v) s = execTriggerEnable m trig v s := rfl
@[simp] theorem exec_triggerEdge trig (s) : exec (.triggerEdge trig) s = execTriggerEdge trig s := rfl
@[simp] theorem exec_triggerPulseEnd trig (s) : exec (.triggerPulseEnd trig) s = execTriggerPulseEnd trig s := rfl
@[simp] theorem exec_captureEdge cap rise (s) : exec (.captureEdge cap rise) s = execCaptureEdge cap rise s := rfl
@[simp] theorem exec_capturePop m cap (s) : exec (.capturePop m cap) s = execCapturePop m cap s := rfl
@[simp] theorem exec_transition m target (s) : exec (.transition m target) s = execTransition m target s := rfl
@[simp] theorem exec_keyLoad m slot5 (s) : exec (.keyLoad m slot5) s = execKeyLoad m slot5 s := rfl
@[simp] theorem exec_keyErase m slot5 (s) : exec (.keyErase m slot5) s = execKeyErase m slot5 s := rfl
@[simp] theorem exec_ownerRestore m (s) : exec (.ownerRestore m) s = execOwnerRestore m s := rfl
@[simp] theorem exec_getNonce m (s) : exec (.getNonce m) s = execGetNonce m s := rfl
@[simp] theorem exec_keySha256 m (s) : exec (.keySha256 m) s = execKeySha256 m s := rfl
@[simp] theorem exec_keySha384 m (s) : exec (.keySha384 m) s = execKeySha384 m s := rfl
@[simp] theorem exec_keyHmac m slot5 (s) : exec (.keyHmac m slot5) s = execKeyHmac m slot5 s := rfl
@[simp] theorem exec_keyGcmEnc m slot5 (s) : exec (.keyGcmEnc m slot5) s = execKeyGcmEnc m slot5 s := rfl
@[simp] theorem exec_keyGcmDec m slot5 (s) : exec (.keyGcmDec m slot5) s = execKeyGcmDec m slot5 s := rfl
@[simp] theorem exec_keySign m slot5 (s) : exec (.keySign m slot5) s = execKeySign m slot5 s := rfl
@[simp] theorem exec_keyVerify m slot5 (s) : exec (.keyVerify m slot5) s = execKeyVerify m slot5 s := rfl
@[simp] theorem exec_derive m slot5 (s) : exec (.derive m slot5) s = execDerive m slot5 s := rfl
@[simp] theorem exec_generate m slot5 (s) : exec (.generate m slot5) s = execGenerate m slot5 s := rfl
@[simp] theorem exec_identity m (s) : exec (.identity m) s = execIdentity m s := rfl
@[simp] theorem exec_fuseSafetyKey m (s) : exec (.fuseSafetyKey m) s = execFuseSafetyKey m s := rfl
@[simp] theorem exec_keyCommandDone healthy (s) : exec (.keyCommandDone healthy) s = execKeyCommandDone healthy s := rfl
@[simp] theorem exec_tamper sensor active (s) : exec (.tamper sensor active) s = execTamper sensor active s := rfl
@[simp] theorem exec_claim m prio nonce (s) : exec (.claim m prio nonce) s = execClaim m prio nonce s := rfl
@[simp] theorem exec_renew m nonce (s) : exec (.renew m nonce) s = execRenew m nonce s := rfl
@[simp] theorem exec_release m (s) : exec (.release m) s = execRelease m s := rfl
@[simp] theorem exec_withdraw m (s) : exec (.withdraw m) s = execWithdraw m s := rfl
@[simp] theorem exec_handover m target (s) : exec (.handover m target) s = execHandover m target s := rfl
@[simp] theorem exec_accept m prio nonce (s) : exec (.accept m prio nonce) s = execAccept m prio nonce s := rfl
@[simp] theorem exec_electionClose (s) : exec .electionClose s = execElectionClose s := rfl
@[simp] theorem exec_leaseLapse (s) : exec .leaseLapse s = execLeaseLapse s := rfl
@[simp] theorem exec_handoverLapse (s) : exec .handoverLapse s = execHandoverLapse s := rfl
@[simp] theorem exec_sessionAppear sess (s) : exec (.sessionAppear sess) s = execSessionAppear sess s := rfl
@[simp] theorem exec_sessionEnd sess (s) : exec (.sessionEnd sess) s = execSessionEnd sess s := rfl
@[simp] theorem exec_lastErrRead m (s) : exec (.lastErrRead m) s = execLastErrRead m s := rfl
@[simp] theorem exec_qspiRead addr (s) : exec (.qspiRead addr) s = execQspiRead addr s := rfl
@[simp] theorem exec_qspiWrite addr v (s) : exec (.qspiWrite addr v) s = execQspiWrite addr v s := rfl
@[simp] theorem exec_qspiStatus (s) : exec .qspiStatus s = execQspiStatus s := rfl
@[simp] theorem exec_charmRead m (s) : exec (.charmRead m) s = execCharmRead m s := rfl
@[simp] theorem exec_charmWrite m (s) : exec (.charmWrite m) s = execCharmWrite m s := rfl
@[simp] theorem exec_charmXferTimeout (s) : exec .charmXferTimeout s = execCharmXferTimeout s := rfl
@[simp] theorem exec_hostLockRequest m n1 v (s) : exec (.hostLockRequest m n1 v) s = execHostLockRequest m n1 v s := rfl
@[simp] theorem exec_hostLockTimeout sector (s) : exec (.hostLockTimeout sector) s = execHostLockTimeout sector s := rfl
@[simp] theorem exec_rfUpdateBinary file off16 bytes (s) : exec (.rfUpdateBinary file off16 bytes) s = execRfUpdateBinary file off16 bytes s := rfl
@[simp] theorem exec_rfReadBinary file off16 len8 (s) : exec (.rfReadBinary file off16 len8) s = execRfReadBinary file off16 len8 s := rfl
@[simp] theorem exec_rfLockRelease sector deselect (s) : exec (.rfLockRelease sector deselect) s = execRfLockRelease sector deselect s := rfl
@[simp] theorem exec_rfFieldLoss torn (s) : exec (.rfFieldLoss torn) s = execRfFieldLoss torn s := rfl
@[simp] theorem exec_registerWrite m addr v be (s) : exec (.registerWrite m addr v be) s = execRegisterWrite m addr v be s := rfl
@[simp] theorem exec_readClear m addr (s) : exec (.readClear m addr) s = execReadClear m addr s := rfl
@[simp] theorem exec_busWatchdog m addr write (s) : exec (.busWatchdog m addr write) s = execBusWatchdog m addr write s := rfl
@[simp] theorem exec_mboxLatch m v (s) : exec (.mboxLatch m v) s = execMboxLatch m v s := rfl
@[simp] theorem exec_mboxRelease m (s) : exec (.mboxRelease m) s = execMboxRelease m s := rfl
@[simp] theorem exec_mboxLatchDone (s) : exec .mboxLatchDone s = execMboxLatchDone s := rfl
@[simp] theorem exec_pointStageWrite m idx word4 v (s) : exec (.pointStageWrite m idx word4 v) s = execPointStageWrite m idx word4 v s := rfl
@[simp] theorem exec_pointValueWrite m idx v (s) : exec (.pointValueWrite m idx v) s = execPointValueWrite m idx v s := rfl
@[simp] theorem exec_enterTest m (s) : exec (.enterTest m) s = execEnterTest m s := rfl
@[simp] theorem exec_leaveTest m (s) : exec (.leaveTest m) s = execLeaveTest m s := rfl
@[simp] theorem exec_feedAbsent feed low (s) : exec (.feedAbsent feed low) s = execFeedAbsent feed low s := rfl
@[simp] theorem exec_feedFaulted which dev (s) : exec (.feedFaulted which dev) s = execFeedFaulted which dev s := rfl
@[simp] theorem exec_transfer m (s) : exec (.transfer m) s = execTransfer m s := rfl
@[simp] theorem exec_transferPathTimeout (s) : exec .transferPathTimeout s = execTransferPathTimeout s := rfl
@[simp] theorem exec_restore m feed (s) : exec (.restore m feed) s = execRestore m feed s := rfl
@[simp] theorem exec_feedAutoRestore feed (s) : exec (.feedAutoRestore feed) s = execFeedAutoRestore feed s := rfl
@[simp] theorem exec_testDue feed (s) : exec (.testDue feed) s = execTestDue feed s := rfl
@[simp] theorem exec_sleepEntry want (s) : exec (.sleepEntry want) s = execSleepEntry want s := rfl
@[simp] theorem exec_wakeRequest src (s) : exec (.wakeRequest src) s = execWakeRequest src s := rfl
@[simp] theorem exec_scheduledExit (s) : exec .scheduledExit s = execScheduledExit s := rfl
@[simp] theorem exec_recessAsk number (s) : exec (.recessAsk number) s = execRecessAsk number s := rfl
@[simp] theorem exec_recessRequestRx port number carries (s) : exec (.recessRequestRx port number carries) s = execRecessRequestRx port number carries s := rfl
@[simp] theorem exec_recessGrantRx port number (s) : exec (.recessGrantRx port number) s = execRecessGrantRx port number s := rfl
@[simp] theorem exec_recessRefuseRx port number reason (s) : exec (.recessRefuseRx port number reason) s = execRecessRefuseRx port number reason s := rfl
@[simp] theorem exec_recessCommitRx port number (s) : exec (.recessCommitRx port number) s = execRecessCommitRx port number s := rfl
@[simp] theorem exec_recessWithdrawRx port number (s) : exec (.recessWithdrawRx port number) s = execRecessWithdrawRx port number s := rfl
@[simp] theorem exec_recessAnswerTimeout port (s) : exec (.recessAnswerTimeout port) s = execRecessAnswerTimeout port s := rfl
@[simp] theorem exec_recessGrantLapse port (s) : exec (.recessGrantLapse port) s = execRecessGrantLapse port s := rfl
@[simp] theorem exec_wakeFrame port propagate (s) : exec (.wakeFrame port propagate) s = execWakeFrame port propagate s := rfl
@[simp] theorem exec_wakeFrameResend port (s) : exec (.wakeFrameResend port) s = execWakeFrameResend port s := rfl
@[simp] theorem exec_powerFailDetect cut last (s) : exec (.powerFailDetect cut last) s = execPowerFailDetect cut last s := rfl
@[simp] theorem exec_powerOnReset (s) : exec .powerOnReset s = execPowerOnReset s := rfl
@[simp] theorem exec_resetNAssert (s) : exec .resetNAssert s = execResetNAssert s := rfl
@[simp] theorem exec_sysResetGo m key (s) : exec (.sysResetGo m key) s = execSysResetGo m key s := rfl
@[simp] theorem exec_thermalReset (s) : exec .thermalReset s = execThermalReset s := rfl
@[simp] theorem exec_clockReset (s) : exec .clockReset s = execClockReset s := rfl
@[simp] theorem exec_thermalAlarm celsius (s) : exec (.thermalAlarm celsius) s = execThermalAlarm celsius s := rfl
@[simp] theorem exec_rollCall (s) : exec .rollCall s = execRollCall s := rfl
@[simp] theorem exec_rollStepLate rstep (s) : exec (.rollStepLate rstep) s = execRollStepLate rstep s := rfl
@[simp] theorem exec_rollHead (s) : exec .rollHead s = execRollHead s := rfl
@[simp] theorem exec_rollFrame port value8 (s) : exec (.rollFrame port value8) s = execRollFrame port value8 s := rfl
@[simp] theorem exec_rollTop (s) : exec .rollTop s = execRollTop s := rfl
@[simp] theorem exec_fwuBegin m (s) : exec (.fwuBegin m) s = execFwuBegin m s := rfl
@[simp] theorem exec_fwuPush m piece (s) : exec (.fwuPush m piece) s = execFwuPush m piece s := rfl
@[simp] theorem exec_fwuStart m (s) : exec (.fwuStart m) s = execFwuStart m s := rfl
@[simp] theorem exec_fwuAbort m (s) : exec (.fwuAbort m) s = execFwuAbort m s := rfl
@[simp] theorem exec_confirm m (s) : exec (.confirm m) s = execConfirm m s := rfl
@[simp] theorem exec_fwuManifest manifest (s) : exec (.fwuManifest manifest) s = execFwuManifest manifest s := rfl
@[simp] theorem exec_fwuData image32 block offset data (s) : exec (.fwuData image32 block offset data) s = execFwuData image32 block offset data s := rfl
@[simp] theorem exec_fwuAck block err (s) : exec (.fwuAck block err) s = execFwuAck block err s := rfl
@[simp] theorem exec_fwuNak block (s) : exec (.fwuNak block) s = execFwuNak block s := rfl
@[simp] theorem exec_fwuFrameAbort fromUp (s) : exec (.fwuFrameAbort fromUp) s = execFwuFrameAbort fromUp s := rfl
@[simp] theorem exec_fwuAckTimeout (s) : exec .fwuAckTimeout s = execFwuAckTimeout s := rfl
@[simp] theorem exec_receivingDiscard (s) : exec .receivingDiscard s = execReceivingDiscard s := rfl
@[simp] theorem exec_fwuInstall (s) : exec .fwuInstall s = execFwuInstall s := rfl
@[simp] theorem exec_preparationDone migrated (s) : exec (.preparationDone migrated) s = execPreparationDone migrated s := rfl
@[simp] theorem exec_preparationTimeout (s) : exec .preparationTimeout s = execPreparationTimeout s := rfl
@[simp] theorem exec_reportCard (s) : exec .reportCard s = execReportCard s := rfl
@[simp] theorem exec_reportDeadline (s) : exec .reportDeadline s = execReportDeadline s := rfl
@[simp] theorem exec_stewardWatchdog core (s) : exec (.stewardWatchdog core) s = execStewardWatchdog core s := rfl
@[simp] theorem exec_crossDieCrcError link (s) : exec (.crossDieCrcError link) s = execCrossDieCrcError link s := rfl
@[simp] theorem exec_linkLoss link (s) : exec (.linkLoss link) s = execLinkLoss link s := rfl
@[simp] theorem exec_linkReturn link (s) : exec (.linkReturn link) s = execLinkReturn link s := rfl
@[simp] theorem exec_eventWindowEnd rule key (s) : exec (.eventWindowEnd rule key) s = execEventWindowEnd rule key s := rfl
@[simp] theorem exec_evtFlush m (s) : exec (.evtFlush m) s = execEvtFlush m s := rfl
@[simp] theorem exec_flushTimer (s) : exec .flushTimer s = execFlushTimer s := rfl
@[simp] theorem exec_evtExact m retained (s) : exec (.evtExact m retained) s = execEvtExact m retained s := rfl
@[simp] theorem exec_evtNext m retained (s) : exec (.evtNext m retained) s = execEvtNext m retained s := rfl
@[simp] theorem exec_evtReadDone (s) : exec .evtReadDone s = execEvtReadDone s := rfl
@[simp] theorem exec_debugAttach attach (s) : exec (.debugAttach attach) s = execDebugAttach attach s := rfl
@[simp] theorem exec_debugAuthCheck token (s) : exec (.debugAuthCheck token) s = execDebugAuthCheck token s := rfl
@[simp] theorem exec_debugAuthExpiry (s) : exec .debugAuthExpiry s = execDebugAuthExpiry s := rfl
@[simp] theorem exec_halt c (s) : exec (.halt c) s = execHalt c s := rfl
@[simp] theorem exec_force c (s) : exec (.force c) s = execForce c s := rfl
@[simp] theorem exec_step c (s) : exec (.step c) s = execStep c s := rfl
@[simp] theorem exec_resume c (s) : exec (.resume c) s = execResume c s := rfl
@[simp] theorem exec_coreRegisterWrite c rsel v (s) : exec (.coreRegisterWrite c rsel v) s = execCoreRegisterWrite c rsel v s := rfl
@[simp] theorem exec_peek addr (s) : exec (.peek addr) s = execPeek addr s := rfl
@[simp] theorem exec_stuckOnClear dch (s) : exec (.stuckOnClear dch) s = execStuckOnClear dch s := rfl
@[simp] theorem exec_doOverTemperature dch (s) : exec (.doOverTemperature dch) s = execDoOverTemperature dch s := rfl
@[simp] theorem exec_plcaBeacon t1s (s) : exec (.plcaBeacon t1s) s = execPlcaBeacon t1s s := rfl
@[simp] theorem exec_serialFrameError sch (s) : exec (.serialFrameError sch) s = execSerialFrameError sch s := rfl
@[simp] theorem exec_pciePowerState ev (s) : exec (.pciePowerState ev) s = execPciePowerState ev s := rfl
@[simp] theorem exec_vbatLoss (s) : exec .vbatLoss s = execVbatLoss s := rfl

end Sys2Proof.Machine
end

