-- ==== Sys2Proof/Laws/PerInstr.lean ====
section
/-! SUPPORT. The families of statements made for every command. Operands: every field an instruction has fits its place in the word, so that the
word, and the prefix word where there is one, is one of 32 bits (R42, R43); a command that is no instruction has the word 0. -/

namespace Sys2Proof.Laws

open Sys2Proof.Machine

/-- The instruction's words are words of 32 bits, and a prefix word has the prefix's major opcode (R42, R43). -/
def Operands.Statement (i : Instr) : Prop := encode i < 2 ^ 32 ∧ ∀ p, prefixWord i = some p → p / 2 ^ 26 = 0x3F

/-! The words of the formats of R42 are words of 32 bits. -/

theorem fmtA_lt {op fn : Nat} (gd ga gb : BitVec 4) (h : op < 64) (h2 : fn < 2 ^ 14) : fmtA op gd ga gb fn < 2 ^ 32 := by
  have := gd.isLt; have := ga.isLt; have := gb.isLt
  simp only [fmtA]; omega

theorem fmtI_lt {op imm : Nat} (gd ga : BitVec 4) (h : op < 64) (h2 : imm < 2 ^ 18) : fmtI op gd ga imm < 2 ^ 32 := by
  have := gd.isLt; have := ga.isLt
  simp only [fmtI]; omega

theorem fmtP_lt {op low : Nat} (gd : BitVec 4) (t : BitVec 3) (h : op < 64) (h2 : low < 2 ^ 19) : fmtP op gd t low < 2 ^ 32 := by
  have := gd.isLt; have := t.isLt
  simp only [fmtP]; omega

theorem fmtV_lt {op fn : Nat} (bd ba bb : BitVec 3) (h : op < 64) (h2 : fn < 2 ^ 17) : fmtV op bd ba bb fn < 2 ^ 32 := by
  have := bd.isLt; have := ba.isLt; have := bb.isLt
  simp only [fmtV]; omega

theorem fmtS_lt {sub x : Nat} (gd ga : BitVec 4) (h : sub < 64) (h2 : x < 2 ^ 12) : fmtS gd ga sub x < 2 ^ 32 := by
  have := gd.isLt; have := ga.isLt
  simp only [fmtS]; omega

theorem immLow_lt (v : Imm) : v.low < 2 ^ 18 := by
  cases v with
  | short x => exact x.isLt
  | prefixed x => exact Nat.mod_lt _ (by decide)

theorem immPre_op (v : Imm) : ∀ p, v.pre = some p → p / 2 ^ 26 = 0x3F := by
  cases v with
  | short x => intro p h; cases h
  | prefixed x =>
    intro p h
    have := x.isLt
    simp only [Imm.pre, Option.some.injEq] at h
    omega

theorem ptBits_lt (v : PtOp) : v.bits < 2 ^ 19 := by
  cases v with
  | imm x => have := x.isLt; simp only [PtOp.bits]; omega
  | reg x => have := x.isLt; simp only [PtOp.bits]; omega

end Sys2Proof.Laws

namespace Sys2Proof.Laws.Operands

open Sys2Proof.Machine

theorem add (c_ : CoreId) (gd_ : BitVec 4) (ga_ : BitVec 4) (gb_ : BitVec 4) : Statement (.add c_ gd_ ga_ gb_) := ⟨fmtA_lt _ _ _ (by decide) (by have := gd_.isLt; have := ga_.isLt; have := gb_.isLt; omega), nofun⟩
theorem sub (c_ : CoreId) (gd_ : BitVec 4) (ga_ : BitVec 4) (gb_ : BitVec 4) : Statement (.sub c_ gd_ ga_ gb_) := ⟨fmtA_lt _ _ _ (by decide) (by have := gd_.isLt; have := ga_.isLt; have := gb_.isLt; omega), nofun⟩
theorem and (c_ : CoreId) (gd_ : BitVec 4) (ga_ : BitVec 4) (gb_ : BitVec 4) : Statement (.and c_ gd_ ga_ gb_) := ⟨fmtA_lt _ _ _ (by decide) (by have := gd_.isLt; have := ga_.isLt; have := gb_.isLt; omega), nofun⟩
theorem or (c_ : CoreId) (gd_ : BitVec 4) (ga_ : BitVec 4) (gb_ : BitVec 4) : Statement (.or c_ gd_ ga_ gb_) := ⟨fmtA_lt _ _ _ (by decide) (by have := gd_.isLt; have := ga_.isLt; have := gb_.isLt; omega), nofun⟩
theorem xor (c_ : CoreId) (gd_ : BitVec 4) (ga_ : BitVec 4) (gb_ : BitVec 4) : Statement (.xor c_ gd_ ga_ gb_) := ⟨fmtA_lt _ _ _ (by decide) (by have := gd_.isLt; have := ga_.isLt; have := gb_.isLt; omega), nofun⟩
theorem nor (c_ : CoreId) (gd_ : BitVec 4) (ga_ : BitVec 4) (gb_ : BitVec 4) : Statement (.nor c_ gd_ ga_ gb_) := ⟨fmtA_lt _ _ _ (by decide) (by have := gd_.isLt; have := ga_.isLt; have := gb_.isLt; omega), nofun⟩
theorem andn (c_ : CoreId) (gd_ : BitVec 4) (ga_ : BitVec 4) (gb_ : BitVec 4) : Statement (.andn c_ gd_ ga_ gb_) := ⟨fmtA_lt _ _ _ (by decide) (by have := gd_.isLt; have := ga_.isLt; have := gb_.isLt; omega), nofun⟩
theorem slt (c_ : CoreId) (gd_ : BitVec 4) (ga_ : BitVec 4) (gb_ : BitVec 4) : Statement (.slt c_ gd_ ga_ gb_) := ⟨fmtA_lt _ _ _ (by decide) (by have := gd_.isLt; have := ga_.isLt; have := gb_.isLt; omega), nofun⟩
theorem sltu (c_ : CoreId) (gd_ : BitVec 4) (ga_ : BitVec 4) (gb_ : BitVec 4) : Statement (.sltu c_ gd_ ga_ gb_) := ⟨fmtA_lt _ _ _ (by decide) (by have := gd_.isLt; have := ga_.isLt; have := gb_.isLt; omega), nofun⟩
theorem seq (c_ : CoreId) (gd_ : BitVec 4) (ga_ : BitVec 4) (gb_ : BitVec 4) : Statement (.seq c_ gd_ ga_ gb_) := ⟨fmtA_lt _ _ _ (by decide) (by have := gd_.isLt; have := ga_.isLt; have := gb_.isLt; omega), nofun⟩
theorem sll (c_ : CoreId) (gd_ : BitVec 4) (ga_ : BitVec 4) (gb_ : BitVec 4) : Statement (.sll c_ gd_ ga_ gb_) := ⟨fmtA_lt _ _ _ (by decide) (by have := gd_.isLt; have := ga_.isLt; have := gb_.isLt; omega), nofun⟩
theorem srl (c_ : CoreId) (gd_ : BitVec 4) (ga_ : BitVec 4) (gb_ : BitVec 4) : Statement (.srl c_ gd_ ga_ gb_) := ⟨fmtA_lt _ _ _ (by decide) (by have := gd_.isLt; have := ga_.isLt; have := gb_.isLt; omega), nofun⟩
theorem sra (c_ : CoreId) (gd_ : BitVec 4) (ga_ : BitVec 4) (gb_ : BitVec 4) : Statement (.sra c_ gd_ ga_ gb_) := ⟨fmtA_lt _ _ _ (by decide) (by have := gd_.isLt; have := ga_.isLt; have := gb_.isLt; omega), nofun⟩
theorem ror (c_ : CoreId) (gd_ : BitVec 4) (ga_ : BitVec 4) (gb_ : BitVec 4) : Statement (.ror c_ gd_ ga_ gb_) := ⟨fmtA_lt _ _ _ (by decide) (by have := gd_.isLt; have := ga_.isLt; have := gb_.isLt; omega), nofun⟩
theorem min (c_ : CoreId) (gd_ : BitVec 4) (ga_ : BitVec 4) (gb_ : BitVec 4) : Statement (.min c_ gd_ ga_ gb_) := ⟨fmtA_lt _ _ _ (by decide) (by have := gd_.isLt; have := ga_.isLt; have := gb_.isLt; omega), nofun⟩
theorem max (c_ : CoreId) (gd_ : BitVec 4) (ga_ : BitVec 4) (gb_ : BitVec 4) : Statement (.max c_ gd_ ga_ gb_) := ⟨fmtA_lt _ _ _ (by decide) (by have := gd_.isLt; have := ga_.isLt; have := gb_.isLt; omega), nofun⟩
theorem minu (c_ : CoreId) (gd_ : BitVec 4) (ga_ : BitVec 4) (gb_ : BitVec 4) : Statement (.minu c_ gd_ ga_ gb_) := ⟨fmtA_lt _ _ _ (by decide) (by have := gd_.isLt; have := ga_.isLt; have := gb_.isLt; omega), nofun⟩
theorem maxu (c_ : CoreId) (gd_ : BitVec 4) (ga_ : BitVec 4) (gb_ : BitVec 4) : Statement (.maxu c_ gd_ ga_ gb_) := ⟨fmtA_lt _ _ _ (by decide) (by have := gd_.isLt; have := ga_.isLt; have := gb_.isLt; omega), nofun⟩
theorem addv (c_ : CoreId) (gd_ : BitVec 4) (ga_ : BitVec 4) (gb_ : BitVec 4) : Statement (.addv c_ gd_ ga_ gb_) := ⟨fmtA_lt _ _ _ (by decide) (by have := gd_.isLt; have := ga_.isLt; have := gb_.isLt; omega), nofun⟩
theorem subv (c_ : CoreId) (gd_ : BitVec 4) (ga_ : BitVec 4) (gb_ : BitVec 4) : Statement (.subv c_ gd_ ga_ gb_) := ⟨fmtA_lt _ _ _ (by decide) (by have := gd_.isLt; have := ga_.isLt; have := gb_.isLt; omega), nofun⟩
theorem adds (c_ : CoreId) (gd_ : BitVec 4) (ga_ : BitVec 4) (gb_ : BitVec 4) : Statement (.adds c_ gd_ ga_ gb_) := ⟨fmtA_lt _ _ _ (by decide) (by have := gd_.isLt; have := ga_.isLt; have := gb_.isLt; omega), nofun⟩
theorem subs (c_ : CoreId) (gd_ : BitVec 4) (ga_ : BitVec 4) (gb_ : BitVec 4) : Statement (.subs c_ gd_ ga_ gb_) := ⟨fmtA_lt _ _ _ (by decide) (by have := gd_.isLt; have := ga_.isLt; have := gb_.isLt; omega), nofun⟩
theorem sel (c_ : CoreId) (gd_ : BitVec 4) (ga_ : BitVec 4) (gb_ : BitVec 4) : Statement (.sel c_ gd_ ga_ gb_) := ⟨fmtA_lt _ _ _ (by decide) (by have := gd_.isLt; have := ga_.isLt; have := gb_.isLt; omega), nofun⟩
theorem abs (c_ : CoreId) (gd_ : BitVec 4) (ga_ : BitVec 4) : Statement (.abs c_ gd_ ga_) := ⟨fmtA_lt _ _ _ (by decide) (by have := gd_.isLt; have := ga_.isLt; omega), nofun⟩
theorem mul (c_ : CoreId) (gd_ : BitVec 4) (ga_ : BitVec 4) (gb_ : BitVec 4) : Statement (.mul c_ gd_ ga_ gb_) := ⟨fmtA_lt _ _ _ (by decide) (by have := gd_.isLt; have := ga_.isLt; have := gb_.isLt; omega), nofun⟩
theorem mulh (c_ : CoreId) (gd_ : BitVec 4) (ga_ : BitVec 4) (gb_ : BitVec 4) : Statement (.mulh c_ gd_ ga_ gb_) := ⟨fmtA_lt _ _ _ (by decide) (by have := gd_.isLt; have := ga_.isLt; have := gb_.isLt; omega), nofun⟩
theorem mulhu (c_ : CoreId) (gd_ : BitVec 4) (ga_ : BitVec 4) (gb_ : BitVec 4) : Statement (.mulhu c_ gd_ ga_ gb_) := ⟨fmtA_lt _ _ _ (by decide) (by have := gd_.isLt; have := ga_.isLt; have := gb_.isLt; omega), nofun⟩
theorem mulv (c_ : CoreId) (gd_ : BitVec 4) (ga_ : BitVec 4) (gb_ : BitVec 4) : Statement (.mulv c_ gd_ ga_ gb_) := ⟨fmtA_lt _ _ _ (by decide) (by have := gd_.isLt; have := ga_.isLt; have := gb_.isLt; omega), nofun⟩
theorem div (c_ : CoreId) (gd_ : BitVec 4) (ga_ : BitVec 4) (gb_ : BitVec 4) : Statement (.div c_ gd_ ga_ gb_) := ⟨fmtA_lt _ _ _ (by decide) (by have := gd_.isLt; have := ga_.isLt; have := gb_.isLt; omega), nofun⟩
theorem divu (c_ : CoreId) (gd_ : BitVec 4) (ga_ : BitVec 4) (gb_ : BitVec 4) : Statement (.divu c_ gd_ ga_ gb_) := ⟨fmtA_lt _ _ _ (by decide) (by have := gd_.isLt; have := ga_.isLt; have := gb_.isLt; omega), nofun⟩
theorem rem (c_ : CoreId) (gd_ : BitVec 4) (ga_ : BitVec 4) (gb_ : BitVec 4) : Statement (.rem c_ gd_ ga_ gb_) := ⟨fmtA_lt _ _ _ (by decide) (by have := gd_.isLt; have := ga_.isLt; have := gb_.isLt; omega), nofun⟩
theorem remu (c_ : CoreId) (gd_ : BitVec 4) (ga_ : BitVec 4) (gb_ : BitVec 4) : Statement (.remu c_ gd_ ga_ gb_) := ⟨fmtA_lt _ _ _ (by decide) (by have := gd_.isLt; have := ga_.isLt; have := gb_.isLt; omega), nofun⟩
theorem mulq (c_ : CoreId) (gd_ : BitVec 4) (ga_ : BitVec 4) (gb_ : BitVec 4) : Statement (.mulq c_ gd_ ga_ gb_) := ⟨fmtA_lt _ _ _ (by decide) (by have := gd_.isLt; have := ga_.isLt; have := gb_.isLt; omega), nofun⟩
theorem addi (c_ : CoreId) (gd_ : BitVec 4) (ga_ : BitVec 4) (imm_ : Imm) : Statement (.addi c_ gd_ ga_ imm_) := ⟨fmtI_lt _ _ (by decide) (immLow_lt imm_), immPre_op imm_⟩
theorem andi (c_ : CoreId) (gd_ : BitVec 4) (ga_ : BitVec 4) (imm_ : Imm) : Statement (.andi c_ gd_ ga_ imm_) := ⟨fmtI_lt _ _ (by decide) (immLow_lt imm_), immPre_op imm_⟩
theorem ori (c_ : CoreId) (gd_ : BitVec 4) (ga_ : BitVec 4) (imm_ : Imm) : Statement (.ori c_ gd_ ga_ imm_) := ⟨fmtI_lt _ _ (by decide) (immLow_lt imm_), immPre_op imm_⟩
theorem xori (c_ : CoreId) (gd_ : BitVec 4) (ga_ : BitVec 4) (imm_ : Imm) : Statement (.xori c_ gd_ ga_ imm_) := ⟨fmtI_lt _ _ (by decide) (immLow_lt imm_), immPre_op imm_⟩
theorem slti (c_ : CoreId) (gd_ : BitVec 4) (ga_ : BitVec 4) (imm_ : Imm) : Statement (.slti c_ gd_ ga_ imm_) := ⟨fmtI_lt _ _ (by decide) (immLow_lt imm_), immPre_op imm_⟩
theorem sltiu (c_ : CoreId) (gd_ : BitVec 4) (ga_ : BitVec 4) (imm_ : Imm) : Statement (.sltiu c_ gd_ ga_ imm_) := ⟨fmtI_lt _ _ (by decide) (immLow_lt imm_), immPre_op imm_⟩
theorem shi (c_ : CoreId) (gd_ : BitVec 4) (ga_ : BitVec 4) (kind_ : BitVec 2) (n_ : BitVec 5) : Statement (.shi c_ gd_ ga_ kind_ n_) := ⟨fmtI_lt _ _ (by decide) (by have := gd_.isLt; have := ga_.isLt; have := kind_.isLt; have := n_.isLt; omega), nofun⟩
theorem li (c_ : CoreId) (gd_ : BitVec 4) (imm_ : Imm) : Statement (.li c_ gd_ imm_) := ⟨fmtI_lt _ _ (by decide) (immLow_lt imm_), immPre_op imm_⟩
theorem lui (c_ : CoreId) (gd_ : BitVec 4) (imm18_ : BitVec 18) : Statement (.lui c_ gd_ imm18_) := ⟨fmtI_lt _ _ (by decide) (by have := gd_.isLt; have := imm18_.isLt; omega), nofun⟩
theorem extu (c_ : CoreId) (gd_ : BitVec 4) (ga_ : BitVec 4) (l_ : BitVec 5) (w_ : BitVec 5) : Statement (.extu c_ gd_ ga_ l_ w_) := ⟨fmtA_lt _ _ _ (by decide) (by have := gd_.isLt; have := ga_.isLt; have := l_.isLt; have := w_.isLt; omega), nofun⟩
theorem exts (c_ : CoreId) (gd_ : BitVec 4) (ga_ : BitVec 4) (l_ : BitVec 5) (w_ : BitVec 5) : Statement (.exts c_ gd_ ga_ l_ w_) := ⟨fmtA_lt _ _ _ (by decide) (by have := gd_.isLt; have := ga_.isLt; have := l_.isLt; have := w_.isLt; omega), nofun⟩
theorem ins (c_ : CoreId) (gd_ : BitVec 4) (ga_ : BitVec 4) (l_ : BitVec 5) (w_ : BitVec 5) : Statement (.ins c_ gd_ ga_ l_ w_) := ⟨fmtA_lt _ _ _ (by decide) (by have := gd_.isLt; have := ga_.isLt; have := l_.isLt; have := w_.isLt; omega), nofun⟩
theorem clz (c_ : CoreId) (gd_ : BitVec 4) (ga_ : BitVec 4) : Statement (.clz c_ gd_ ga_) := ⟨fmtA_lt _ _ _ (by decide) (by have := gd_.isLt; have := ga_.isLt; omega), nofun⟩
theorem ctz (c_ : CoreId) (gd_ : BitVec 4) (ga_ : BitVec 4) : Statement (.ctz c_ gd_ ga_) := ⟨fmtA_lt _ _ _ (by decide) (by have := gd_.isLt; have := ga_.isLt; omega), nofun⟩
theorem popc (c_ : CoreId) (gd_ : BitVec 4) (ga_ : BitVec 4) : Statement (.popc c_ gd_ ga_) := ⟨fmtA_lt _ _ _ (by decide) (by have := gd_.isLt; have := ga_.isLt; omega), nofun⟩
theorem bswap (c_ : CoreId) (gd_ : BitVec 4) (ga_ : BitVec 4) : Statement (.bswap c_ gd_ ga_) := ⟨fmtA_lt _ _ _ (by decide) (by have := gd_.isLt; have := ga_.isLt; omega), nofun⟩
theorem lw (c_ : CoreId) (gd_ : BitVec 4) (ga_ : BitVec 4) (imm_ : Imm) : Statement (.lw c_ gd_ ga_ imm_) := ⟨fmtI_lt _ _ (by decide) (immLow_lt imm_), immPre_op imm_⟩
theorem lh (c_ : CoreId) (gd_ : BitVec 4) (ga_ : BitVec 4) (imm_ : Imm) : Statement (.lh c_ gd_ ga_ imm_) := ⟨fmtI_lt _ _ (by decide) (immLow_lt imm_), immPre_op imm_⟩
theorem lhu (c_ : CoreId) (gd_ : BitVec 4) (ga_ : BitVec 4) (imm_ : Imm) : Statement (.lhu c_ gd_ ga_ imm_) := ⟨fmtI_lt _ _ (by decide) (immLow_lt imm_), immPre_op imm_⟩
theorem lb (c_ : CoreId) (gd_ : BitVec 4) (ga_ : BitVec 4) (imm_ : Imm) : Statement (.lb c_ gd_ ga_ imm_) := ⟨fmtI_lt _ _ (by decide) (immLow_lt imm_), immPre_op imm_⟩
theorem lbu (c_ : CoreId) (gd_ : BitVec 4) (ga_ : BitVec 4) (imm_ : Imm) : Statement (.lbu c_ gd_ ga_ imm_) := ⟨fmtI_lt _ _ (by decide) (immLow_lt imm_), immPre_op imm_⟩
theorem sw (c_ : CoreId) (gd_ : BitVec 4) (ga_ : BitVec 4) (imm_ : Imm) : Statement (.sw c_ gd_ ga_ imm_) := ⟨fmtI_lt _ _ (by decide) (immLow_lt imm_), immPre_op imm_⟩
theorem sh (c_ : CoreId) (gd_ : BitVec 4) (ga_ : BitVec 4) (imm_ : Imm) : Statement (.sh c_ gd_ ga_ imm_) := ⟨fmtI_lt _ _ (by decide) (immLow_lt imm_), immPre_op imm_⟩
theorem sb (c_ : CoreId) (gd_ : BitVec 4) (ga_ : BitVec 4) (imm_ : Imm) : Statement (.sb c_ gd_ ga_ imm_) := ⟨fmtI_lt _ _ (by decide) (immLow_lt imm_), immPre_op imm_⟩
theorem beq (c_ : CoreId) (ga_ : BitVec 4) (gb_ : BitVec 4) (off18_ : BitVec 18) : Statement (.beq c_ ga_ gb_ off18_) := ⟨fmtI_lt _ _ (by decide) (by have := ga_.isLt; have := gb_.isLt; have := off18_.isLt; omega), nofun⟩
theorem bne (c_ : CoreId) (ga_ : BitVec 4) (gb_ : BitVec 4) (off18_ : BitVec 18) : Statement (.bne c_ ga_ gb_ off18_) := ⟨fmtI_lt _ _ (by decide) (by have := ga_.isLt; have := gb_.isLt; have := off18_.isLt; omega), nofun⟩
theorem blt (c_ : CoreId) (ga_ : BitVec 4) (gb_ : BitVec 4) (off18_ : BitVec 18) : Statement (.blt c_ ga_ gb_ off18_) := ⟨fmtI_lt _ _ (by decide) (by have := ga_.isLt; have := gb_.isLt; have := off18_.isLt; omega), nofun⟩
theorem bge (c_ : CoreId) (ga_ : BitVec 4) (gb_ : BitVec 4) (off18_ : BitVec 18) : Statement (.bge c_ ga_ gb_ off18_) := ⟨fmtI_lt _ _ (by decide) (by have := ga_.isLt; have := gb_.isLt; have := off18_.isLt; omega), nofun⟩
theorem bltu (c_ : CoreId) (ga_ : BitVec 4) (gb_ : BitVec 4) (off18_ : BitVec 18) : Statement (.bltu c_ ga_ gb_ off18_) := ⟨fmtI_lt _ _ (by decide) (by have := ga_.isLt; have := gb_.isLt; have := off18_.isLt; omega), nofun⟩
theorem bgeu (c_ : CoreId) (ga_ : BitVec 4) (gb_ : BitVec 4) (off18_ : BitVec 18) : Statement (.bgeu c_ ga_ gb_ off18_) := ⟨fmtI_lt _ _ (by decide) (by have := ga_.isLt; have := gb_.isLt; have := off18_.isLt; omega), nofun⟩
theorem jal (c_ : CoreId) (gd_ : BitVec 4) (off18_ : BitVec 18) : Statement (.jal c_ gd_ off18_) := ⟨fmtI_lt _ _ (by decide) (by have := gd_.isLt; have := off18_.isLt; omega), nofun⟩
theorem jr (c_ : CoreId) (ga_ : BitVec 4) (off17_ : BitVec 17) : Statement (.jr c_ ga_ off17_) := ⟨fmtI_lt _ _ (by decide) (by have := ga_.isLt; have := off17_.isLt; omega), nofun⟩
theorem jalr (c_ : CoreId) (gd_ : BitVec 4) (ga_ : BitVec 4) (off17_ : BitVec 17) : Statement (.jalr c_ gd_ ga_ off17_) := ⟨fmtI_lt _ _ (by decide) (by have := gd_.isLt; have := ga_.isLt; have := off17_.isLt; omega), nofun⟩
theorem nop (c_ : CoreId) : Statement (.nop c_) := ⟨fmtS_lt _ _ (by decide) (by  omega), nofun⟩
theorem fence (c_ : CoreId) : Statement (.fence c_) := ⟨fmtS_lt _ _ (by decide) (by  omega), nofun⟩
theorem brk (c_ : CoreId) (code_ : BitVec 12) : Statement (.brk c_ code_) := ⟨fmtS_lt _ _ (by decide) (by have := code_.isLt; omega), nofun⟩
theorem trap (c_ : CoreId) (code_ : BitVec 12) : Statement (.trap c_ code_) := ⟨fmtS_lt _ _ (by decide) (by have := code_.isLt; omega), nofun⟩
theorem eret (c_ : CoreId) : Statement (.eret c_) := ⟨fmtS_lt _ _ (by decide) (by  omega), nofun⟩
theorem rdsr (c_ : CoreId) (gd_ : BitVec 4) (sr_ : BitVec 12) : Statement (.rdsr c_ gd_ sr_) := ⟨fmtS_lt _ _ (by decide) (by have := gd_.isLt; have := sr_.isLt; omega), nofun⟩
theorem wrsr (c_ : CoreId) (ga_ : BitVec 4) (sr_ : BitVec 12) : Statement (.wrsr c_ ga_ sr_) := ⟨fmtS_lt _ _ (by decide) (by have := ga_.isLt; have := sr_.isLt; omega), nofun⟩
theorem wait (c_ : CoreId) : Statement (.wait c_) := ⟨fmtS_lt _ _ (by decide) (by  omega), nofun⟩
theorem ien (c_ : CoreId) (mask12_ : BitVec 12) : Statement (.ien c_ mask12_) := ⟨fmtS_lt _ _ (by decide) (by have := mask12_.isLt; omega), nofun⟩
theorem idis (c_ : CoreId) (mask12_ : BitVec 12) : Statement (.idis c_ mask12_) := ⟨fmtS_lt _ _ (by decide) (by have := mask12_.isLt; omega), nofun⟩
theorem illegalEncoding (c_ : CoreId) (word_ : Word) (second_ : Word) : Statement (.illegalEncoding c_ word_ second_) := ⟨word_.isLt, nofun⟩
theorem stewardInterrupt (core_ : Fin 2) (line_ : Fin 12) : Statement (.stewardInterrupt core_ line_) := ⟨Nat.two_pow_pos 32, nofun⟩
theorem pget (c_ : CoreId) (gd_ : BitVec 4) (t_ : BitVec 3) (pt_ : PtOp) : Statement (.pget c_ gd_ t_ pt_) := ⟨fmtP_lt _ _ (by decide) (ptBits_lt pt_), nofun⟩
theorem pget2 (c_ : CoreId) (gd_ : BitVec 4) (t_ : BitVec 3) (pt_ : PtOp) : Statement (.pget2 c_ gd_ t_ pt_) := ⟨fmtP_lt _ _ (by decide) (ptBits_lt pt_), nofun⟩
theorem pget4 (c_ : CoreId) (gd_ : BitVec 4) (t_ : BitVec 3) (pt_ : PtOp) : Statement (.pget4 c_ gd_ t_ pt_) := ⟨fmtP_lt _ _ (by decide) (ptBits_lt pt_), nofun⟩
theorem pgetvq (c_ : CoreId) (gd_ : BitVec 4) (t_ : BitVec 3) (pt_ : PtOp) : Statement (.pgetvq c_ gd_ t_ pt_) := ⟨fmtP_lt _ _ (by decide) (ptBits_lt pt_), nofun⟩
theorem pput (c_ : CoreId) (gd_ : BitVec 4) (t_ : BitVec 3) (pt_ : PtOp) : Statement (.pput c_ gd_ t_ pt_) := ⟨fmtP_lt _ _ (by decide) (ptBits_lt pt_), nofun⟩
theorem pput2 (c_ : CoreId) (gd_ : BitVec 4) (t_ : BitVec 3) (pt_ : PtOp) : Statement (.pput2 c_ gd_ t_ pt_) := ⟨fmtP_lt _ _ (by decide) (ptBits_lt pt_), nofun⟩
theorem pput4 (c_ : CoreId) (gd_ : BitVec 4) (t_ : BitVec 3) (pt_ : PtOp) : Statement (.pput4 c_ gd_ t_ pt_) := ⟨fmtP_lt _ _ (by decide) (ptBits_lt pt_), nofun⟩
theorem psync (c_ : CoreId) (gd_ : BitVec 4) (t_ : BitVec 3) (pt_ : PtOp) : Statement (.psync c_ gd_ t_ pt_) := ⟨fmtP_lt _ _ (by decide) (ptBits_lt pt_), nofun⟩
theorem twait (c_ : CoreId) (gd_ : BitVec 4) (t_ : BitVec 3) : Statement (.twait c_ gd_ t_) := ⟨fmtP_lt _ _ (by decide) (by have := gd_.isLt; have := t_.isLt; omega), nofun⟩
theorem ttest (c_ : CoreId) (gd_ : BitVec 4) (t_ : BitVec 3) : Statement (.ttest c_ gd_ t_) := ⟨fmtP_lt _ _ (by decide) (by have := gd_.isLt; have := t_.isLt; omega), nofun⟩
theorem tmov (c_ : CoreId) (gd_ : BitVec 4) (t_ : BitVec 3) : Statement (.tmov c_ gd_ t_) := ⟨fmtP_lt _ _ (by decide) (by have := gd_.isLt; have := t_.isLt; omega), nofun⟩
theorem twaitm (c_ : CoreId) (gd_ : BitVec 4) (mask8_ : BitVec 8) : Statement (.twaitm c_ gd_ mask8_) := ⟨fmtP_lt _ _ (by decide) (by have := gd_.isLt; have := mask8_.isLt; omega), nofun⟩
theorem emsg (c_ : CoreId) (gd_ : BitVec 4) (t_ : BitVec 3) (unit_ : BitVec 2) (typ_ : BitVec 10) (ga_ : BitVec 4) (len_ : BitVec 2) (reply_ : Bool) : Statement (.emsg c_ gd_ t_ unit_ typ_ ga_ len_ reply_) := ⟨(by have := gd_.isLt; have := t_.isLt; have := unit_.isLt; have := typ_.isLt; have := ga_.isLt; have := len_.isLt; have := Bool.toNat_lt reply_; simp only [encode]; omega), nofun⟩
theorem poolEntryGrant : Statement .poolEntryGrant := ⟨Nat.two_pow_pos 32, nofun⟩
theorem tagWaitEnd (c_ : CoreId) : Statement (.tagWaitEnd c_) := ⟨Nat.two_pow_pos 32, nofun⟩
theorem boundWaitEnd (c_ : CoreId) : Statement (.boundWaitEnd c_) := ⟨Nat.two_pow_pos 32, nofun⟩
theorem operationComplete (entry_ : Fin 8192) : Statement (.operationComplete entry_) := ⟨Nat.two_pow_pos 32, nofun⟩
theorem psyncComplete (entry_ : Fin 8192) : Statement (.psyncComplete entry_) := ⟨Nat.two_pow_pos 32, nofun⟩
theorem operationTimeout (entry_ : Fin 8192) : Statement (.operationTimeout entry_) := ⟨Nat.two_pow_pos 32, nofun⟩
theorem vadd (c_ : CoreId) (bd_ : BitVec 3) (ba_ : BitVec 3) (bb_ : BitVec 3) (tt_ : Bool) : Statement (.vadd c_ bd_ ba_ bb_ tt_) := ⟨fmtV_lt _ _ _ (by decide) (by have := bd_.isLt; have := ba_.isLt; have := bb_.isLt; have := Bool.toNat_lt tt_; omega), nofun⟩
theorem vsub (c_ : CoreId) (bd_ : BitVec 3) (ba_ : BitVec 3) (bb_ : BitVec 3) (tt_ : Bool) : Statement (.vsub c_ bd_ ba_ bb_ tt_) := ⟨fmtV_lt _ _ _ (by decide) (by have := bd_.isLt; have := ba_.isLt; have := bb_.isLt; have := Bool.toNat_lt tt_; omega), nofun⟩
theorem vmul (c_ : CoreId) (bd_ : BitVec 3) (ba_ : BitVec 3) (bb_ : BitVec 3) (tt_ : Bool) : Statement (.vmul c_ bd_ ba_ bb_ tt_) := ⟨fmtV_lt _ _ _ (by decide) (by have := bd_.isLt; have := ba_.isLt; have := bb_.isLt; have := Bool.toNat_lt tt_; omega), nofun⟩
theorem vmac (c_ : CoreId) (bd_ : BitVec 3) (ba_ : BitVec 3) (bb_ : BitVec 3) (tt_ : Bool) : Statement (.vmac c_ bd_ ba_ bb_ tt_) := ⟨fmtV_lt _ _ _ (by decide) (by have := bd_.isLt; have := ba_.isLt; have := bb_.isLt; have := Bool.toNat_lt tt_; omega), nofun⟩
theorem vmin (c_ : CoreId) (bd_ : BitVec 3) (ba_ : BitVec 3) (bb_ : BitVec 3) (tt_ : Bool) : Statement (.vmin c_ bd_ ba_ bb_ tt_) := ⟨fmtV_lt _ _ _ (by decide) (by have := bd_.isLt; have := ba_.isLt; have := bb_.isLt; have := Bool.toNat_lt tt_; omega), nofun⟩
theorem vmax (c_ : CoreId) (bd_ : BitVec 3) (ba_ : BitVec 3) (bb_ : BitVec 3) (tt_ : Bool) : Statement (.vmax c_ bd_ ba_ bb_ tt_) := ⟨fmtV_lt _ _ _ (by decide) (by have := bd_.isLt; have := ba_.isLt; have := bb_.isLt; have := Bool.toNat_lt tt_; omega), nofun⟩
theorem vneg (c_ : CoreId) (bd_ : BitVec 3) (ba_ : BitVec 3) (tt_ : Bool) : Statement (.vneg c_ bd_ ba_ tt_) := ⟨fmtV_lt _ _ _ (by decide) (by have := bd_.isLt; have := ba_.isLt; have := Bool.toNat_lt tt_; omega), nofun⟩
theorem vabs (c_ : CoreId) (bd_ : BitVec 3) (ba_ : BitVec 3) (tt_ : Bool) : Statement (.vabs c_ bd_ ba_ tt_) := ⟨fmtV_lt _ _ _ (by decide) (by have := bd_.isLt; have := ba_.isLt; have := Bool.toNat_lt tt_; omega), nofun⟩
theorem vclamp (c_ : CoreId) (bd_ : BitVec 3) (ba_ : BitVec 3) (bb_ : BitVec 3) (tt_ : Bool) : Statement (.vclamp c_ bd_ ba_ bb_ tt_) := ⟨fmtV_lt _ _ _ (by decide) (by have := bd_.isLt; have := ba_.isLt; have := bb_.isLt; have := Bool.toNat_lt tt_; omega), nofun⟩
theorem vdot (c_ : CoreId) (bd_ : BitVec 3) (ba_ : BitVec 3) (bb_ : BitVec 3) (tt_ : Bool) : Statement (.vdot c_ bd_ ba_ bb_ tt_) := ⟨fmtV_lt _ _ _ (by decide) (by have := bd_.isLt; have := ba_.isLt; have := bb_.isLt; have := Bool.toNat_lt tt_; omega), nofun⟩
theorem vsum (c_ : CoreId) (bd_ : BitVec 3) (ba_ : BitVec 3) (tt_ : Bool) : Statement (.vsum c_ bd_ ba_ tt_) := ⟨fmtV_lt _ _ _ (by decide) (by have := bd_.isLt; have := ba_.isLt; have := Bool.toNat_lt tt_; omega), nofun⟩
theorem vbcast (c_ : CoreId) (op_ : BitVec 5) (lane_ : BitVec 3) (bd_ : BitVec 3) (ba_ : BitVec 3) (bb_ : BitVec 3) (tt_ : Bool) : Statement (.vbcast c_ op_ lane_ bd_ ba_ bb_ tt_) := ⟨fmtV_lt _ _ _ (by decide) (by have := op_.isLt; have := lane_.isLt; have := bd_.isLt; have := ba_.isLt; have := bb_.isLt; have := Bool.toNat_lt tt_; omega), nofun⟩
theorem vld (c_ : CoreId) (bd_ : BitVec 3) (ga_ : BitVec 4) (off12_ : BitVec 12) : Statement (.vld c_ bd_ ga_ off12_) := ⟨fmtV_lt _ _ _ (by decide) (by have := bd_.isLt; have := ga_.isLt; have := off12_.isLt; omega), nofun⟩
theorem vst (c_ : CoreId) (bd_ : BitVec 3) (ga_ : BitVec 4) (off12_ : BitVec 12) : Statement (.vst c_ bd_ ga_ off12_) := ⟨fmtV_lt _ _ _ (by decide) (by have := bd_.isLt; have := ga_.isLt; have := off12_.isLt; omega), nofun⟩
theorem vext (c_ : CoreId) (ga_ : BitVec 4) (bd_ : BitVec 3) (lane_ : BitVec 3) : Statement (.vext c_ ga_ bd_ lane_) := ⟨fmtV_lt _ _ _ (by decide) (by have := ga_.isLt; have := bd_.isLt; have := lane_.isLt; omega), nofun⟩
theorem vins (c_ : CoreId) (bd_ : BitVec 3) (ga_ : BitVec 4) (lane_ : BitVec 3) : Statement (.vins c_ bd_ ga_ lane_) := ⟨fmtV_lt _ _ _ (by decide) (by have := bd_.isLt; have := ga_.isLt; have := lane_.isLt; omega), nofun⟩
theorem vgexp (c_ : CoreId) (ga_ : BitVec 4) (bd_ : BitVec 3) : Statement (.vgexp c_ ga_ bd_) := ⟨fmtV_lt _ _ _ (by decide) (by have := ga_.isLt; have := bd_.isLt; omega), nofun⟩
theorem vsete (c_ : CoreId) (bd_ : BitVec 3) (ga_ : BitVec 4) : Statement (.vsete c_ bd_ ga_) := ⟨fmtV_lt _ _ _ (by decide) (by have := bd_.isLt; have := ga_.isLt; omega), nofun⟩
theorem vcvt (c_ : CoreId) (ga_ : BitVec 4) (bd_ : BitVec 3) (lane_ : BitVec 3) (scale_ : BitVec 6) (tt_ : Bool) : Statement (.vcvt c_ ga_ bd_ lane_ scale_ tt_) := ⟨fmtV_lt _ _ _ (by decide) (by have := ga_.isLt; have := bd_.isLt; have := lane_.isLt; have := scale_.isLt; have := Bool.toNat_lt tt_; omega), nofun⟩
theorem vcvtf (c_ : CoreId) (bd_ : BitVec 3) (ga_ : BitVec 4) (lane_ : BitVec 3) (scale_ : BitVec 6) : Statement (.vcvtf c_ bd_ ga_ lane_ scale_) := ⟨fmtV_lt _ _ _ (by decide) (by have := bd_.isLt; have := ga_.isLt; have := lane_.isLt; have := scale_.isLt; omega), nofun⟩
theorem vcmp (c_ : CoreId) (ga_ : BitVec 4) (bd_ : BitVec 3) (bb_ : BitVec 3) (cond_ : BitVec 3) : Statement (.vcmp c_ ga_ bd_ bb_ cond_) := ⟨fmtV_lt _ _ _ (by decide) (by have := ga_.isLt; have := bd_.isLt; have := bb_.isLt; have := cond_.isLt; omega), nofun⟩
theorem vsplat (c_ : CoreId) (bd_ : BitVec 3) (ga_ : BitVec 4) : Statement (.vsplat c_ bd_ ga_) := ⟨fmtV_lt _ _ _ (by decide) (by have := bd_.isLt; have := ga_.isLt; omega), nofun⟩
theorem vzero (c_ : CoreId) (bd_ : BitVec 3) : Statement (.vzero c_ bd_) := ⟨fmtV_lt _ _ _ (by decide) (by have := bd_.isLt; omega), nofun⟩
theorem lend (c_ : CoreId) : Statement (.lend c_) := ⟨fmtA_lt _ _ _ (by decide) (by  omega), nofun⟩
theorem lslack (c_ : CoreId) (gd_ : BitVec 4) : Statement (.lslack c_ gd_) := ⟨fmtA_lt _ _ _ (by decide) (by have := gd_.isLt; omega), nofun⟩
theorem lsleep (c_ : CoreId) (ga_ : BitVec 4) : Statement (.lsleep c_ ga_) := ⟨fmtA_lt _ _ _ (by decide) (by have := ga_.isLt; omega), nofun⟩
theorem lsleepExpiry (c_ : CoreId) : Statement (.lsleepExpiry c_) := ⟨Nat.two_pow_pos 32, nofun⟩
theorem lbell (c_ : CoreId) (gd_ : BitVec 4) (cls_ : BitVec 3) : Statement (.lbell c_ gd_ cls_) := ⟨fmtA_lt _ _ _ (by decide) (by have := gd_.isLt; have := cls_.isLt; omega), nofun⟩
theorem clasp (c_ : CoreId) : Statement (.clasp c_) := ⟨fmtA_lt _ _ _ (by decide) (by  omega), nofun⟩
theorem unclasp (c_ : CoreId) : Statement (.unclasp c_) := ⟨fmtA_lt _ _ _ (by decide) (by  omega), nofun⟩
theorem claspSlotGrant : Statement .claspSlotGrant := ⟨Nat.two_pow_pos 32, nofun⟩
theorem claspLockGrant (cluster_ : Fin 8) : Statement (.claspLockGrant cluster_) := ⟨Nat.two_pow_pos 32, nofun⟩
theorem bell (cls_ : Fin 8) : Statement (.bell cls_) := ⟨Nat.two_pow_pos 32, nofun⟩
theorem lessonStart (core_ : Fin 64) : Statement (.lessonStart core_) := ⟨Nat.two_pow_pos 32, nofun⟩
theorem deadlineExpiry (lesson_ : BitVec 12) : Statement (.deadlineExpiry lesson_) := ⟨Nat.two_pow_pos 32, nofun⟩
theorem budgetExhausted (lesson_ : BitVec 12) : Statement (.budgetExhausted lesson_) := ⟨Nat.two_pow_pos 32, nofun⟩
theorem scanRunStart (m_ : Master) : Statement (.scanRunStart m_) := ⟨Nat.two_pow_pos 32, nofun⟩
theorem scanRunStop (m_ : Master) : Statement (.scanRunStop m_) := ⟨Nat.two_pow_pos 32, nofun⟩
theorem uncorrectableError (target_ : ErrTarget) : Statement (.uncorrectableError target_) := ⟨Nat.two_pow_pos 32, nofun⟩
theorem floorWrite (m_ : Master) (slot_ : Fin 16) (v_ : Word) : Statement (.floorWrite m_ slot_ v_) := ⟨Nat.two_pow_pos 32, nofun⟩
theorem forceSet (m_ : Master) : Statement (.forceSet m_) := ⟨Nat.two_pow_pos 32, nofun⟩
theorem forceClear (m_ : Master) : Statement (.forceClear m_) := ⟨Nat.two_pow_pos 32, nofun⟩
theorem forceClearAll (m_ : Master) : Statement (.forceClearAll m_) := ⟨Nat.two_pow_pos 32, nofun⟩
theorem lessonClrOne (m_ : Master) (lesson_ : BitVec 12) : Statement (.lessonClrOne m_ lesson_) := ⟨Nat.two_pow_pos 32, nofun⟩
theorem lessonClrAll (m_ : Master) : Statement (.lessonClrAll m_) := ⟨Nat.two_pow_pos 32, nofun⟩
theorem producerCommit (idx_ : PointIdx) (producer_ : BitVec 3) (upd_ : PtUpdate) : Statement (.producerCommit idx_ producer_ upd_) := ⟨Nat.two_pow_pos 32, nofun⟩
theorem deviceAnswer (group_ : BitVec 16) (values_ : List (BitVec 14 × PtUpdate)) : Statement (.deviceAnswer group_ values_) := ⟨Nat.two_pow_pos 32, nofun⟩
theorem deviceRequestTimeout (group_ : BitVec 16) : Statement (.deviceRequestTimeout group_) := ⟨Nat.two_pow_pos 32, nofun⟩
theorem devicePoll (group_ : BitVec 16) : Statement (.devicePoll group_) := ⟨Nat.two_pow_pos 32, nofun⟩
theorem progBegin (m_ : Master) (tenantImg_ : Bool) (tenant_ : BitVec 12) : Statement (.progBegin m_ tenantImg_ tenant_) := ⟨Nat.two_pow_pos 32, nofun⟩
theorem progPush (m_ : Master) (items_ : List ImageItem) : Statement (.progPush m_ items_) := ⟨Nat.two_pow_pos 32, nofun⟩
theorem progCheck (m_ : Master) : Statement (.progCheck m_) := ⟨Nat.two_pow_pos 32, nofun⟩
theorem progCheckDone : Statement .progCheckDone := ⟨Nat.two_pow_pos 32, nofun⟩
theorem progLoad (m_ : Master) : Statement (.progLoad m_) := ⟨Nat.two_pow_pos 32, nofun⟩
theorem progArm (m_ : Master) : Statement (.progArm m_) := ⟨Nat.two_pow_pos 32, nofun⟩
theorem stagingDone : Statement .stagingDone := ⟨Nat.two_pow_pos 32, nofun⟩
theorem progAbort (m_ : Master) : Statement (.progAbort m_) := ⟨Nat.two_pow_pos 32, nofun⟩
theorem warmRestart (m_ : Master) : Statement (.warmRestart m_) := ⟨Nat.two_pow_pos 32, nofun⟩
theorem coldRestart (m_ : Master) : Statement (.coldRestart m_) := ⟨Nat.two_pow_pos 32, nofun⟩
theorem switchCoreRelease (core_ : Fin 64) : Statement (.switchCoreRelease core_) := ⟨Nat.two_pow_pos 32, nofun⟩
theorem periodicCheckpoint : Statement .periodicCheckpoint := ⟨Nat.two_pow_pos 32, nofun⟩
theorem homeroomReloadDone (slot_ : Fin 16) : Statement (.homeroomReloadDone slot_) := ⟨Nat.two_pow_pos 32, nofun⟩
theorem rosterCommit (m_ : Master) : Statement (.rosterCommit m_) := ⟨Nat.two_pow_pos 32, nofun⟩
theorem rosterRevert (m_ : Master) : Statement (.rosterRevert m_) := ⟨Nat.two_pow_pos 32, nofun⟩
theorem rosterTc : Statement .rosterTc := ⟨Nat.two_pow_pos 32, nofun⟩
theorem rosterDrained : Statement .rosterDrained := ⟨Nat.two_pow_pos 32, nofun⟩
theorem drainBoundExpiry : Statement .drainBoundExpiry := ⟨Nat.two_pow_pos 32, nofun⟩
theorem feAlarm (target_ : FeTarget) : Statement (.feAlarm target_) := ⟨Nat.two_pow_pos 32, nofun⟩
theorem currentPeriod (lines_ : List (Fin 32 × List (Bool × Bool))) (currents_ : Vector (BitVec 14) 32) : Statement (.currentPeriod lines_ currents_) := ⟨Nat.two_pow_pos 32, nofun⟩
theorem loopBind : Statement .loopBind := ⟨Nat.two_pow_pos 32, nofun⟩
theorem loopUnbind : Statement .loopUnbind := ⟨Nat.two_pow_pos 32, nofun⟩
theorem loopParam : Statement .loopParam := ⟨Nat.two_pow_pos 32, nofun⟩
theorem loopMode : Statement .loopMode := ⟨Nat.two_pow_pos 32, nofun⟩
theorem opBind : Statement .opBind := ⟨Nat.two_pow_pos 32, nofun⟩
theorem opParam : Statement .opParam := ⟨Nat.two_pow_pos 32, nofun⟩
theorem opMode : Statement .opMode := ⟨Nat.two_pow_pos 32, nofun⟩
theorem opMove : Statement .opMove := ⟨Nat.two_pow_pos 32, nofun⟩
theorem zone : Statement .zone := ⟨Nat.two_pow_pos 32, nofun⟩
theorem loopTriggerMsg : Statement .loopTriggerMsg := ⟨Nat.two_pow_pos 32, nofun⟩
theorem slotParamApply (m_ : Master) : Statement (.slotParamApply m_) := ⟨Nat.two_pow_pos 32, nofun⟩
theorem stageParamApply (m_ : Master) (stage_ : Fin 48) : Statement (.stageParamApply m_ stage_) := ⟨Nat.two_pow_pos 32, nofun⟩
theorem slotWindowLatch (m_ : Master) (slot11_ : BitVec 11) : Statement (.slotWindowLatch m_ slot11_) := ⟨Nat.two_pow_pos 32, nofun⟩
theorem hzDeadline (zone_ : BitVec 6) : Statement (.hzDeadline zone_) := ⟨Nat.two_pow_pos 32, nofun⟩
theorem modelCommit (m_ : Master) : Statement (.modelCommit m_) := ⟨Nat.two_pow_pos 32, nofun⟩
theorem traceArm (m_ : Master) : Statement (.traceArm m_) := ⟨Nat.two_pow_pos 32, nofun⟩
theorem traceTrigger (m_ : Master) : Statement (.traceTrigger m_) := ⟨Nat.two_pow_pos 32, nofun⟩
theorem traceStop (m_ : Master) : Statement (.traceStop m_) := ⟨Nat.two_pow_pos 32, nofun⟩
theorem positionPeriod (lines_ : List (Fin 32 × List (Bool × Bool))) : Statement (.positionPeriod lines_) := ⟨Nat.two_pow_pos 32, nofun⟩
theorem encoderQerr (enc_ : Fin 32) : Statement (.encoderQerr enc_) := ⟨Nat.two_pow_pos 32, nofun⟩
theorem doorZoneEdge (car_ : Fin 8) (rising_ : Bool) (km_ : Word) (kg_ : Word) : Statement (.doorZoneEdge car_ rising_ km_ kg_) := ⟨Nat.two_pow_pos 32, nofun⟩
theorem terminalEdge (car_ : Fin 8) (active_ : Bool) (km_ : Word) (kg_ : Word) : Statement (.terminalEdge car_ active_ km_ kg_) := ⟨Nat.two_pow_pos 32, nofun⟩
theorem carClear (m_ : Master) (car_ : Fin 8) : Statement (.carClear m_ car_) := ⟨Nat.two_pow_pos 32, nofun⟩
theorem captureFlush (m_ : Master) (car_ : Fin 8) : Statement (.captureFlush m_ car_) := ⟨Nat.two_pow_pos 32, nofun⟩
theorem dzcapPop (m_ : Master) (car_ : Fin 8) : Statement (.dzcapPop m_ car_) := ⟨Nat.two_pow_pos 32, nofun⟩
theorem doorPositionPeriod : Statement .doorPositionPeriod := ⟨Nat.two_pow_pos 32, nofun⟩
theorem doorCommand (door_ : Fin 16) : Statement (.doorCommand door_) := ⟨Nat.two_pow_pos 32, nofun⟩
theorem doorClosedReached (door_ : Fin 16) : Statement (.doorClosedReached door_) := ⟨Nat.two_pow_pos 32, nofun⟩
theorem doorOpenReached (door_ : Fin 16) : Statement (.doorOpenReached door_) := ⟨Nat.two_pow_pos 32, nofun⟩
theorem doorStall (door_ : Fin 16) : Statement (.doorStall door_) := ⟨Nat.two_pow_pos 32, nofun⟩
theorem homingTimeout (door_ : Fin 16) : Statement (.homingTimeout door_) := ⟨Nat.two_pow_pos 32, nofun⟩
theorem learnTimeout (door_ : Fin 16) : Statement (.learnTimeout door_) := ⟨Nat.two_pow_pos 32, nofun⟩
theorem callAdd : Statement .callAdd := ⟨Nat.two_pow_pos 32, nofun⟩
theorem callCancel : Statement .callCancel := ⟨Nat.two_pow_pos 32, nofun⟩
theorem stopDone : Statement .stopDone := ⟨Nat.two_pow_pos 32, nofun⟩
theorem dispatchCommit : Statement .dispatchCommit := ⟨Nat.two_pow_pos 32, nofun⟩
theorem dispatchDrop : Statement .dispatchDrop := ⟨Nat.two_pow_pos 32, nofun⟩
theorem dispatchCallLatch (m_ : Master) (slot8_ : BitVec 8) : Statement (.dispatchCallLatch m_ slot8_) := ⟨Nat.two_pow_pos 32, nofun⟩
theorem safetyRequest : Statement .safetyRequest := ⟨Nat.two_pow_pos 32, nofun⟩
theorem safetyEvaluation (ch_ : Fin 2) (ins_ : Vector SafeIn 8) : Statement (.safetyEvaluation ch_ ins_) := ⟨Nat.two_pow_pos 32, nofun⟩
theorem grantDisagree (car_ : Fin 8) : Statement (.grantDisagree car_) := ⟨Nat.two_pow_pos 32, nofun⟩
theorem relayReadbackFail (ch_ : Fin 2) (relay_ : Fin 16) : Statement (.relayReadbackFail ch_ relay_) := ⟨Nat.two_pow_pos 32, nofun⟩
theorem latchClear (car_ : Fin 8) : Statement (.latchClear car_) := ⟨Nat.two_pow_pos 32, nofun⟩
theorem safetyParamRequest (set_ : SafetySet) : Statement (.safetyParamRequest set_) := ⟨Nat.two_pow_pos 32, nofun⟩
theorem safetyParamApply : Statement .safetyParamApply := ⟨Nat.two_pow_pos 32, nofun⟩
theorem safetyDieStart : Statement .safetyDieStart := ⟨Nat.two_pow_pos 32, nofun⟩
theorem safeMirrorUpdate : Statement .safeMirrorUpdate := ⟨Nat.two_pow_pos 32, nofun⟩
theorem lineCycle (supply_ : Fin 2) (sup_ : SupplyMeas) (ckts_ : List (Fin 16 × CktCycle)) : Statement (.lineCycle supply_ sup_ ckts_) := ⟨Nat.two_pow_pos 32, nofun⟩
theorem meterSnap (m_ : Master) : Statement (.meterSnap m_) := ⟨Nat.two_pow_pos 32, nofun⟩
theorem meterClrAll (m_ : Master) : Statement (.meterClrAll m_) := ⟨Nat.two_pow_pos 32, nofun⟩
theorem calApply (m_ : Master) : Statement (.calApply m_) := ⟨Nat.two_pow_pos 32, nofun⟩
theorem meterSupervision (ckt_ : Fin 16) (cond_ : MeterCond) : Statement (.meterSupervision ckt_ cond_) := ⟨Nat.two_pow_pos 32, nofun⟩
theorem meterSave : Statement .meterSave := ⟨Nat.two_pow_pos 32, nofun⟩
theorem saveConfirmed : Statement .saveConfirmed := ⟨Nat.two_pow_pos 32, nofun⟩
theorem saveLate : Statement .saveLate := ⟨Nat.two_pow_pos 32, nofun⟩
theorem qmapWrite (m_ : Master) (entry10_ : BitVec 10) (v_ : Word) : Statement (.qmapWrite m_ entry10_ v_) := ⟨Nat.two_pow_pos 32, nofun⟩
theorem batClr (m_ : Master) (ckt_ : Fin 16) : Statement (.batClr m_ ckt_) := ⟨Nat.two_pow_pos 32, nofun⟩
theorem batteryMeasure (rms_ : List (Fin 48 × Nat)) : Statement (.batteryMeasure rms_) := ⟨Nat.two_pow_pos 32, nofun⟩
theorem batteryRecordWrite : Statement .batteryRecordWrite := ⟨Nat.two_pow_pos 32, nofun⟩
theorem meterMerge : Statement .meterMerge := ⟨Nat.two_pow_pos 32, nofun⟩
theorem pulseEmit (out_ : Fin 8) : Statement (.pulseEmit out_) := ⟨Nat.two_pow_pos 32, nofun⟩
theorem diSample (di_ : Fin 96) (raw_ : Bool) : Statement (.diSample di_ raw_) := ⟨Nat.two_pow_pos 32, nofun⟩
theorem doReadbackFault (dch_ : Fin 64) (rb_ : Bool) : Statement (.doReadbackFault dch_ rb_) := ⟨Nat.two_pow_pos 32, nofun⟩
theorem doOverload (dch_ : Fin 64) : Statement (.doOverload dch_) := ⟨Nat.two_pow_pos 32, nofun⟩
theorem doGroupOverload (grp_ : Fin 8) (current_ : BitVec 13) : Statement (.doGroupOverload grp_ current_) := ⟨Nat.two_pow_pos 32, nofun⟩
theorem doRetry (target_ : RetryTarget) (ok_ : Bool) : Statement (.doRetry target_ ok_) := ⟨Nat.two_pow_pos 32, nofun⟩
theorem doClear (m_ : Master) (dch_ : Fin 64) : Statement (.doClear m_ dch_) := ⟨Nat.two_pow_pos 32, nofun⟩
theorem doGroupClear (m_ : Master) (grp_ : Fin 8) : Statement (.doGroupClear m_ grp_) := ⟨Nat.two_pow_pos 32, nofun⟩
theorem vfldLow (bank_ : Fin 8) : Statement (.vfldLow bank_) := ⟨Nat.two_pow_pos 32, nofun⟩
theorem vfldRestore (bank_ : Fin 8) : Statement (.vfldRestore bank_) := ⟨Nat.two_pow_pos 32, nofun⟩
theorem aiConversion (ai_ : Fin 32) (code16_ : BitVec 16) (micro_ : Int) : Statement (.aiConversion ai_ code16_ micro_) := ⟨Nat.two_pow_pos 32, nofun⟩
theorem aiShuntRetry (ai_ : Fin 32) : Statement (.aiShuntRetry ai_) := ⟨Nat.two_pow_pos 32, nofun⟩
theorem csMeanCommit (cs_ : Fin 32) (mean_ : BitVec 14) : Statement (.csMeanCommit cs_ mean_) := ⟨Nat.two_pow_pos 32, nofun⟩
theorem channelBind (m_ : Master) (addr_ : BitVec 24) (v_ : Word) : Statement (.channelBind m_ addr_ v_) := ⟨Nat.two_pow_pos 32, nofun⟩
theorem fieldOutEnable (m_ : Master) (v_ : Word) : Statement (.fieldOutEnable m_ v_) := ⟨Nat.two_pow_pos 32, nofun⟩
theorem daliBusFail (line_ : Fin 16) : Statement (.daliBusFail line_) := ⟨Nat.two_pow_pos 32, nofun⟩
theorem daliBusReturn (line_ : Fin 16) : Statement (.daliBusReturn line_) := ⟨Nat.two_pow_pos 32, nofun⟩
theorem daliAddress (m_ : Master) (line_ : Fin 16) : Statement (.daliAddress m_ line_) := ⟨Nat.two_pow_pos 32, nofun⟩
theorem addressingEnd (line_ : Fin 16) (gear_ : BitVec 64) (dev_ : BitVec 64) (dup_ : Bool) (excess_ : Bool) : Statement (.addressingEnd line_ gear_ dev_ dup_ excess_) := ⟨Nat.two_pow_pos 32, nofun⟩
theorem daliRefresh (m_ : Master) (line_ : Fin 16) : Statement (.daliRefresh m_ line_) := ⟨Nat.two_pow_pos 32, nofun⟩
theorem daliOutputSend (line_ : Fin 16) (resends_ : Fin 5) : Statement (.daliOutputSend line_ resends_) := ⟨Nat.two_pow_pos 32, nofun⟩
theorem daliEvent (line_ : Fin 16) (sa_ : BitVec 6) (inst_ : BitVec 5) (info_ : BitVec 10) (ityp_ : BitVec 8) : Statement (.daliEvent line_ sa_ inst_ info_ ityp_) := ⟨Nat.two_pow_pos 32, nofun⟩
theorem daliGapExpiry (entry10_ : BitVec 10) : Statement (.daliGapExpiry entry10_) := ⟨Nat.two_pow_pos 32, nofun⟩
theorem daliPoll (entry10_ : BitVec 10) (answer_ : Option (BitVec 8)) : Statement (.daliPoll entry10_ answer_) := ⟨Nat.two_pow_pos 32, nofun⟩
theorem daliRawGo (m_ : Master) : Statement (.daliRawGo m_) := ⟨Nat.two_pow_pos 32, nofun⟩
theorem daliRawDone (result_ : BitVec 3) (ans8_ : BitVec 8) : Statement (.daliRawDone result_ ans8_) := ⟨Nat.two_pow_pos 32, nofun⟩
theorem frameReceive (mac_ : Fin 8) (frame_ : Frame) : Statement (.frameReceive mac_ frame_) := ⟨Nat.two_pow_pos 32, nofun⟩
theorem pauseExpiry (mac_ : Fin 8) : Statement (.pauseExpiry mac_) := ⟨Nat.two_pow_pos 32, nofun⟩
theorem frameTransmit (mac_ : Fin 8) (pair_ : Bool) (q_ : BitVec 2) (len14_ : BitVec 14) (coll_ : BitVec 4) : Statement (.frameTransmit mac_ pair_ q_ len14_ coll_) := ⟨Nat.two_pow_pos 32, nofun⟩
theorem txUnderrun (mac_ : Fin 8) : Statement (.txUnderrun mac_) := ⟨Nat.two_pow_pos 32, nofun⟩
theorem gateEntry (mac_ : Fin 8) : Statement (.gateEntry mac_) := ⟨Nat.two_pow_pos 32, nofun⟩
theorem gateChange (m_ : Master) (mac_ : Fin 8) : Statement (.gateChange m_ mac_) := ⟨Nat.two_pow_pos 32, nofun⟩
theorem lpiEntry (mac_ : Fin 8) : Statement (.lpiEntry mac_) := ⟨Nat.two_pow_pos 32, nofun⟩
theorem lpiWake (mac_ : Fin 8) : Statement (.lpiWake mac_) := ⟨Nat.two_pow_pos 32, nofun⟩
theorem phyLinkChange (mac_ : Fin 8) (up_ : Bool) (eee_ : Bool) (low_ : Bool) (sqi_ : BitVec 3) : Statement (.phyLinkChange mac_ up_ eee_ low_ sqi_) := ⟨Nat.two_pow_pos 32, nofun⟩
theorem prpSupervision : Statement .prpSupervision := ⟨Nat.two_pow_pos 32, nofun⟩
theorem nodeForget (node_ : BitVec 48) : Statement (.nodeForget node_) := ⟨Nat.two_pow_pos 32, nofun⟩
theorem lanLoss (lan_ : Fin 2) : Statement (.lanLoss lan_) := ⟨Nat.two_pow_pos 32, nofun⟩
theorem helloSend (port_ : Fin 2) : Statement (.helloSend port_) := ⟨Nat.two_pow_pos 32, nofun⟩
theorem riserPortDown (port_ : Fin 2) : Statement (.riserPortDown port_) := ⟨Nat.two_pow_pos 32, nofun⟩
theorem plcaBeaconLoss (t1s_ : Fin 4) : Statement (.plcaBeaconLoss t1s_) := ⟨Nat.two_pow_pos 32, nofun⟩
theorem canBusOff (can_ : Fin 4) : Statement (.canBusOff can_) := ⟨Nat.two_pow_pos 32, nofun⟩
theorem canBusOffRecovery (can_ : Fin 4) : Statement (.canBusOffRecovery can_) := ⟨Nat.two_pow_pos 32, nofun⟩
theorem credWrite (m_ : Master) : Statement (.credWrite m_) := ⟨Nat.two_pow_pos 32, nofun⟩
theorem credDelete (m_ : Master) : Statement (.credDelete m_) := ⟨Nat.two_pow_pos 32, nofun⟩
theorem present (psrc_ : PresentSrc) : Statement (.present psrc_) := ⟨Nat.two_pow_pos 32, nofun⟩
theorem cacheSweep : Statement .cacheSweep := ⟨Nat.two_pow_pos 32, nofun⟩
theorem doorLock (dsrc_ : DoorSrc) : Statement (.doorLock dsrc_) := ⟨Nat.two_pow_pos 32, nofun⟩
theorem doorPulse (dsrc_ : DoorSrc) : Statement (.doorPulse dsrc_) := ⟨Nat.two_pow_pos 32, nofun⟩
theorem doorHoldUnlocked (dsrc_ : DoorSrc) : Statement (.doorHoldUnlocked dsrc_) := ⟨Nat.two_pow_pos 32, nofun⟩
theorem doorLockdown (dsrc_ : DoorSrc) : Statement (.doorLockdown dsrc_) := ⟨Nat.two_pow_pos 32, nofun⟩
theorem doorReleaseLockdown (dsrc_ : DoorSrc) : Statement (.doorReleaseLockdown dsrc_) := ⟨Nat.two_pow_pos 32, nofun⟩
theorem doorContactChange (adoor_ : Fin 128) : Statement (.doorContactChange adoor_) := ⟨Nat.two_pow_pos 32, nofun⟩
theorem doorRex (adoor_ : Fin 128) : Statement (.doorRex adoor_) := ⟨Nat.two_pow_pos 32, nofun⟩
theorem doorFire (adoor_ : Fin 128) : Statement (.doorFire adoor_) := ⟨Nat.two_pow_pos 32, nofun⟩
theorem strikeTimeExpiry (adoor_ : Fin 128) : Statement (.strikeTimeExpiry adoor_) := ⟨Nat.two_pow_pos 32, nofun⟩
theorem heldTimeExpiry (adoor_ : Fin 128) : Statement (.heldTimeExpiry adoor_) := ⟨Nat.two_pow_pos 32, nofun⟩
theorem rateWrite (m_ : Master) (v_ : Word) : Statement (.rateWrite m_ v_) := ⟨Nat.two_pow_pos 32, nofun⟩
theorem offsetSet (m_ : Master) : Statement (.offsetSet m_) := ⟨Nat.two_pow_pos 32, nofun⟩
theorem offsetAdd (m_ : Master) : Statement (.offsetAdd m_) := ⟨Nat.two_pow_pos 32, nofun⟩
theorem timeFrameSend (port_ : Fin 2) : Statement (.timeFrameSend port_) := ⟨Nat.two_pow_pos 32, nofun⟩
theorem triggerEnable (m_ : Master) (trig_ : Fin 8) (v_ : Word) : Statement (.triggerEnable m_ trig_ v_) := ⟨Nat.two_pow_pos 32, nofun⟩
theorem triggerEdge (trig_ : Fin 8) : Statement (.triggerEdge trig_) := ⟨Nat.two_pow_pos 32, nofun⟩
theorem triggerPulseEnd (trig_ : Fin 8) : Statement (.triggerPulseEnd trig_) := ⟨Nat.two_pow_pos 32, nofun⟩
theorem captureEdge (cap_ : Fin 8) (rise_ : Bool) : Statement (.captureEdge cap_ rise_) := ⟨Nat.two_pow_pos 32, nofun⟩
theorem capturePop (m_ : Master) (cap_ : Fin 8) : Statement (.capturePop m_ cap_) := ⟨Nat.two_pow_pos 32, nofun⟩
theorem transition (m_ : Master) (target_ : BitVec 3) : Statement (.transition m_ target_) := ⟨Nat.two_pow_pos 32, nofun⟩
theorem keyLoad (m_ : Master) (slot5_ : BitVec 5) : Statement (.keyLoad m_ slot5_) := ⟨Nat.two_pow_pos 32, nofun⟩
theorem keyErase (m_ : Master) (slot5_ : BitVec 5) : Statement (.keyErase m_ slot5_) := ⟨Nat.two_pow_pos 32, nofun⟩
theorem ownerRestore (m_ : Master) : Statement (.ownerRestore m_) := ⟨Nat.two_pow_pos 32, nofun⟩
theorem getNonce (m_ : Master) : Statement (.getNonce m_) := ⟨Nat.two_pow_pos 32, nofun⟩
theorem keySha256 (m_ : Master) : Statement (.keySha256 m_) := ⟨Nat.two_pow_pos 32, nofun⟩
theorem keySha384 (m_ : Master) : Statement (.keySha384 m_) := ⟨Nat.two_pow_pos 32, nofun⟩
theorem keyHmac (m_ : Master) (slot5_ : BitVec 5) : Statement (.keyHmac m_ slot5_) := ⟨Nat.two_pow_pos 32, nofun⟩
theorem keyGcmEnc (m_ : Master) (slot5_ : BitVec 5) : Statement (.keyGcmEnc m_ slot5_) := ⟨Nat.two_pow_pos 32, nofun⟩
theorem keyGcmDec (m_ : Master) (slot5_ : BitVec 5) : Statement (.keyGcmDec m_ slot5_) := ⟨Nat.two_pow_pos 32, nofun⟩
theorem keySign (m_ : Master) (slot5_ : BitVec 5) : Statement (.keySign m_ slot5_) := ⟨Nat.two_pow_pos 32, nofun⟩
theorem keyVerify (m_ : Master) (slot5_ : BitVec 5) : Statement (.keyVerify m_ slot5_) := ⟨Nat.two_pow_pos 32, nofun⟩
theorem derive (m_ : Master) (slot5_ : BitVec 5) : Statement (.derive m_ slot5_) := ⟨Nat.two_pow_pos 32, nofun⟩
theorem generate (m_ : Master) (slot5_ : BitVec 5) : Statement (.generate m_ slot5_) := ⟨Nat.two_pow_pos 32, nofun⟩
theorem identity (m_ : Master) : Statement (.identity m_) := ⟨Nat.two_pow_pos 32, nofun⟩
theorem fuseSafetyKey (m_ : Master) : Statement (.fuseSafetyKey m_) := ⟨Nat.two_pow_pos 32, nofun⟩
theorem keyCommandDone (healthy_ : Bool) : Statement (.keyCommandDone healthy_) := ⟨Nat.two_pow_pos 32, nofun⟩
theorem tamper (sensor_ : Fin 5) (active_ : Bool) : Statement (.tamper sensor_ active_) := ⟨Nat.two_pow_pos 32, nofun⟩
theorem claim (m_ : Master) (prio_ : BitVec 8) (nonce_ : BitVec 16) : Statement (.claim m_ prio_ nonce_) := ⟨Nat.two_pow_pos 32, nofun⟩
theorem renew (m_ : Master) (nonce_ : BitVec 16) : Statement (.renew m_ nonce_) := ⟨Nat.two_pow_pos 32, nofun⟩
theorem release (m_ : Master) : Statement (.release m_) := ⟨Nat.two_pow_pos 32, nofun⟩
theorem withdraw (m_ : Master) : Statement (.withdraw m_) := ⟨Nat.two_pow_pos 32, nofun⟩
theorem handover (m_ : Master) (target_ : BitVec 3) : Statement (.handover m_ target_) := ⟨Nat.two_pow_pos 32, nofun⟩
theorem accept (m_ : Master) (prio_ : BitVec 8) (nonce_ : BitVec 16) : Statement (.accept m_ prio_ nonce_) := ⟨Nat.two_pow_pos 32, nofun⟩
theorem electionClose : Statement .electionClose := ⟨Nat.two_pow_pos 32, nofun⟩
theorem leaseLapse : Statement .leaseLapse := ⟨Nat.two_pow_pos 32, nofun⟩
theorem handoverLapse : Statement .handoverLapse := ⟨Nat.two_pow_pos 32, nofun⟩
theorem sessionAppear (sess_ : Fin 8) : Statement (.sessionAppear sess_) := ⟨Nat.two_pow_pos 32, nofun⟩
theorem sessionEnd (sess_ : Fin 8) : Statement (.sessionEnd sess_) := ⟨Nat.two_pow_pos 32, nofun⟩
theorem lastErrRead (m_ : Master) : Statement (.lastErrRead m_) := ⟨Nat.two_pow_pos 32, nofun⟩
theorem qspiRead (addr_ : BitVec 24) : Statement (.qspiRead addr_) := ⟨Nat.two_pow_pos 32, nofun⟩
theorem qspiWrite (addr_ : BitVec 24) (v_ : Word) : Statement (.qspiWrite addr_ v_) := ⟨Nat.two_pow_pos 32, nofun⟩
theorem qspiStatus : Statement .qspiStatus := ⟨Nat.two_pow_pos 32, nofun⟩
theorem charmRead (m_ : Master) : Statement (.charmRead m_) := ⟨Nat.two_pow_pos 32, nofun⟩
theorem charmWrite (m_ : Master) : Statement (.charmWrite m_) := ⟨Nat.two_pow_pos 32, nofun⟩
theorem charmXferTimeout : Statement .charmXferTimeout := ⟨Nat.two_pow_pos 32, nofun⟩
theorem hostLockRequest (m_ : Master) (n1_ : Fin 2) (v_ : Word) : Statement (.hostLockRequest m_ n1_ v_) := ⟨Nat.two_pow_pos 32, nofun⟩
theorem hostLockTimeout (sector_ : BitVec 6) : Statement (.hostLockTimeout sector_) := ⟨Nat.two_pow_pos 32, nofun⟩
theorem rfUpdateBinary (file_ : BitVec 16) (off16_ : BitVec 16) (bytes_ : List Byte) : Statement (.rfUpdateBinary file_ off16_ bytes_) := ⟨Nat.two_pow_pos 32, nofun⟩
theorem rfReadBinary (file_ : BitVec 16) (off16_ : BitVec 16) (len8_ : BitVec 8) : Statement (.rfReadBinary file_ off16_ len8_) := ⟨Nat.two_pow_pos 32, nofun⟩
theorem rfLockRelease (sector_ : BitVec 6) (deselect_ : Bool) : Statement (.rfLockRelease sector_ deselect_) := ⟨Nat.two_pow_pos 32, nofun⟩
theorem rfFieldLoss (torn_ : List (BitVec 6)) : Statement (.rfFieldLoss torn_) := ⟨Nat.two_pow_pos 32, nofun⟩
theorem registerWrite (m_ : Master) (addr_ : BitVec 24) (v_ : Word) (be_ : BitVec 4) : Statement (.registerWrite m_ addr_ v_ be_) := ⟨Nat.two_pow_pos 32, nofun⟩
theorem readClear (m_ : Master) (addr_ : BitVec 24) : Statement (.readClear m_ addr_) := ⟨Nat.two_pow_pos 32, nofun⟩
theorem busWatchdog (m_ : Master) (addr_ : BitVec 24) (write_ : Bool) : Statement (.busWatchdog m_ addr_ write_) := ⟨Nat.two_pow_pos 32, nofun⟩
theorem mboxLatch (m_ : Master) (v_ : Word) : Statement (.mboxLatch m_ v_) := ⟨Nat.two_pow_pos 32, nofun⟩
theorem mboxRelease (m_ : Master) : Statement (.mboxRelease m_) := ⟨Nat.two_pow_pos 32, nofun⟩
theorem mboxLatchDone : Statement .mboxLatchDone := ⟨Nat.two_pow_pos 32, nofun⟩
theorem pointStageWrite (m_ : Master) (idx_ : PointIdx) (word4_ : BitVec 4) (v_ : Word) : Statement (.pointStageWrite m_ idx_ word4_ v_) := ⟨Nat.two_pow_pos 32, nofun⟩
theorem pointValueWrite (m_ : Master) (idx_ : PointIdx) (v_ : Word) : Statement (.pointValueWrite m_ idx_ v_) := ⟨Nat.two_pow_pos 32, nofun⟩
theorem enterTest (m_ : Master) : Statement (.enterTest m_) := ⟨Nat.two_pow_pos 32, nofun⟩
theorem leaveTest (m_ : Master) : Statement (.leaveTest m_) := ⟨Nat.two_pow_pos 32, nofun⟩
theorem feedAbsent (feed_ : Fin 2) (low_ : BitVec 4) : Statement (.feedAbsent feed_ low_) := ⟨Nat.two_pow_pos 32, nofun⟩
theorem feedFaulted (which_ : Option (Fin 2)) (dev_ : BitVec 4) : Statement (.feedFaulted which_ dev_) := ⟨Nat.two_pow_pos 32, nofun⟩
theorem transfer (m_ : Master) : Statement (.transfer m_) := ⟨Nat.two_pow_pos 32, nofun⟩
theorem transferPathTimeout : Statement .transferPathTimeout := ⟨Nat.two_pow_pos 32, nofun⟩
theorem restore (m_ : Master) (feed_ : Fin 2) : Statement (.restore m_ feed_) := ⟨Nat.two_pow_pos 32, nofun⟩
theorem feedAutoRestore (feed_ : Fin 2) : Statement (.feedAutoRestore feed_) := ⟨Nat.two_pow_pos 32, nofun⟩
theorem testDue (feed_ : Fin 2) : Statement (.testDue feed_) := ⟨Nat.two_pow_pos 32, nofun⟩
theorem sleepEntry (want_ : SleepWant) : Statement (.sleepEntry want_) := ⟨Nat.two_pow_pos 32, nofun⟩
theorem wakeRequest (src_ : Fin 8) : Statement (.wakeRequest src_) := ⟨Nat.two_pow_pos 32, nofun⟩
theorem scheduledExit : Statement .scheduledExit := ⟨Nat.two_pow_pos 32, nofun⟩
theorem recessAsk (number_ : BitVec 16) : Statement (.recessAsk number_) := ⟨Nat.two_pow_pos 32, nofun⟩
theorem recessRequestRx (port_ : Fin 2) (number_ : BitVec 16) (carries_ : Bool) : Statement (.recessRequestRx port_ number_ carries_) := ⟨Nat.two_pow_pos 32, nofun⟩
theorem recessGrantRx (port_ : Fin 2) (number_ : BitVec 16) : Statement (.recessGrantRx port_ number_) := ⟨Nat.two_pow_pos 32, nofun⟩
theorem recessRefuseRx (port_ : Fin 2) (number_ : BitVec 16) (reason_ : BitVec 8) : Statement (.recessRefuseRx port_ number_ reason_) := ⟨Nat.two_pow_pos 32, nofun⟩
theorem recessCommitRx (port_ : Fin 2) (number_ : BitVec 16) : Statement (.recessCommitRx port_ number_) := ⟨Nat.two_pow_pos 32, nofun⟩
theorem recessWithdrawRx (port_ : Fin 2) (number_ : BitVec 16) : Statement (.recessWithdrawRx port_ number_) := ⟨Nat.two_pow_pos 32, nofun⟩
theorem recessAnswerTimeout (port_ : Fin 2) : Statement (.recessAnswerTimeout port_) := ⟨Nat.two_pow_pos 32, nofun⟩
theorem recessGrantLapse (port_ : Fin 2) : Statement (.recessGrantLapse port_) := ⟨Nat.two_pow_pos 32, nofun⟩
theorem wakeFrame (port_ : Fin 2) (propagate_ : Bool) : Statement (.wakeFrame port_ propagate_) := ⟨Nat.two_pow_pos 32, nofun⟩
theorem wakeFrameResend (port_ : Fin 2) : Statement (.wakeFrameResend port_) := ⟨Nat.two_pow_pos 32, nofun⟩
theorem powerFailDetect (cut_ : List (Fin 2 × SupplyMeas × List (Fin 16 × CktCycle))) (last_ : Option (Fin 8)) : Statement (.powerFailDetect cut_ last_) := ⟨Nat.two_pow_pos 32, nofun⟩
theorem powerOnReset : Statement .powerOnReset := ⟨Nat.two_pow_pos 32, nofun⟩
theorem resetNAssert : Statement .resetNAssert := ⟨Nat.two_pow_pos 32, nofun⟩
theorem sysResetGo (m_ : Master) (key_ : BitVec 8) : Statement (.sysResetGo m_ key_) := ⟨Nat.two_pow_pos 32, nofun⟩
theorem thermalReset : Statement .thermalReset := ⟨Nat.two_pow_pos 32, nofun⟩
theorem clockReset : Statement .clockReset := ⟨Nat.two_pow_pos 32, nofun⟩
theorem thermalAlarm (celsius_ : Int) : Statement (.thermalAlarm celsius_) := ⟨Nat.two_pow_pos 32, nofun⟩
theorem rollCall : Statement .rollCall := ⟨Nat.two_pow_pos 32, nofun⟩
theorem rollStepLate (rstep_ : Fin 6) : Statement (.rollStepLate rstep_) := ⟨Nat.two_pow_pos 32, nofun⟩
theorem rollHead : Statement .rollHead := ⟨Nat.two_pow_pos 32, nofun⟩
theorem rollFrame (port_ : Fin 2) (value8_ : BitVec 8) : Statement (.rollFrame port_ value8_) := ⟨Nat.two_pow_pos 32, nofun⟩
theorem rollTop : Statement .rollTop := ⟨Nat.two_pow_pos 32, nofun⟩
theorem fwuBegin (m_ : Master) : Statement (.fwuBegin m_) := ⟨Nat.two_pow_pos 32, nofun⟩
theorem fwuPush (m_ : Master) (piece_ : FwuPiece) : Statement (.fwuPush m_ piece_) := ⟨Nat.two_pow_pos 32, nofun⟩
theorem fwuStart (m_ : Master) : Statement (.fwuStart m_) := ⟨Nat.two_pow_pos 32, nofun⟩
theorem fwuAbort (m_ : Master) : Statement (.fwuAbort m_) := ⟨Nat.two_pow_pos 32, nofun⟩
theorem confirm (m_ : Master) : Statement (.confirm m_) := ⟨Nat.two_pow_pos 32, nofun⟩
theorem fwuManifest (manifest_ : Manifest) : Statement (.fwuManifest manifest_) := ⟨Nat.two_pow_pos 32, nofun⟩
theorem fwuData (image32_ : Word) (block_ : BitVec 16) (offset_ : Word) (data_ : List Byte) : Statement (.fwuData image32_ block_ offset_ data_) := ⟨Nat.two_pow_pos 32, nofun⟩
theorem fwuAck (block_ : BitVec 16) (err_ : BitVec 8) : Statement (.fwuAck block_ err_) := ⟨Nat.two_pow_pos 32, nofun⟩
theorem fwuNak (block_ : BitVec 16) : Statement (.fwuNak block_) := ⟨Nat.two_pow_pos 32, nofun⟩
theorem fwuFrameAbort (fromUp_ : Bool) : Statement (.fwuFrameAbort fromUp_) := ⟨Nat.two_pow_pos 32, nofun⟩
theorem fwuAckTimeout : Statement .fwuAckTimeout := ⟨Nat.two_pow_pos 32, nofun⟩
theorem receivingDiscard : Statement .receivingDiscard := ⟨Nat.two_pow_pos 32, nofun⟩
theorem fwuInstall : Statement .fwuInstall := ⟨Nat.two_pow_pos 32, nofun⟩
theorem preparationDone (migrated_ : BitVec 16) : Statement (.preparationDone migrated_) := ⟨Nat.two_pow_pos 32, nofun⟩
theorem preparationTimeout : Statement .preparationTimeout := ⟨Nat.two_pow_pos 32, nofun⟩
theorem reportCard : Statement .reportCard := ⟨Nat.two_pow_pos 32, nofun⟩
theorem reportDeadline : Statement .reportDeadline := ⟨Nat.two_pow_pos 32, nofun⟩
theorem stewardWatchdog (core_ : Fin 2) : Statement (.stewardWatchdog core_) := ⟨Nat.two_pow_pos 32, nofun⟩
theorem crossDieCrcError (link_ : DieLink) : Statement (.crossDieCrcError link_) := ⟨Nat.two_pow_pos 32, nofun⟩
theorem linkLoss (link_ : DieLink) : Statement (.linkLoss link_) := ⟨Nat.two_pow_pos 32, nofun⟩
theorem linkReturn (link_ : DieLink) : Statement (.linkReturn link_) := ⟨Nat.two_pow_pos 32, nofun⟩
theorem eventWindowEnd (rule_ : Nat) (key_ : Nat) : Statement (.eventWindowEnd rule_ key_) := ⟨Nat.two_pow_pos 32, nofun⟩
theorem evtFlush (m_ : Master) : Statement (.evtFlush m_) := ⟨Nat.two_pow_pos 32, nofun⟩
theorem flushTimer : Statement .flushTimer := ⟨Nat.two_pow_pos 32, nofun⟩
theorem evtExact (m_ : Master) (retained_ : Bool) : Statement (.evtExact m_ retained_) := ⟨Nat.two_pow_pos 32, nofun⟩
theorem evtNext (m_ : Master) (retained_ : Bool) : Statement (.evtNext m_ retained_) := ⟨Nat.two_pow_pos 32, nofun⟩
theorem evtReadDone : Statement .evtReadDone := ⟨Nat.two_pow_pos 32, nofun⟩
theorem debugAttach (attach_ : Bool) : Statement (.debugAttach attach_) := ⟨Nat.two_pow_pos 32, nofun⟩
theorem debugAuthCheck (token_ : List Byte) : Statement (.debugAuthCheck token_) := ⟨Nat.two_pow_pos 32, nofun⟩
theorem debugAuthExpiry : Statement .debugAuthExpiry := ⟨Nat.two_pow_pos 32, nofun⟩
theorem halt (c_ : CoreId) : Statement (.halt c_) := ⟨Nat.two_pow_pos 32, nofun⟩
theorem force (c_ : CoreId) : Statement (.force c_) := ⟨Nat.two_pow_pos 32, nofun⟩
theorem step (c_ : CoreId) : Statement (.step c_) := ⟨Nat.two_pow_pos 32, nofun⟩
theorem resume (c_ : CoreId) : Statement (.resume c_) := ⟨Nat.two_pow_pos 32, nofun⟩
theorem coreRegisterWrite (c_ : CoreId) (rsel_ : BitVec 6) (v_ : Word) : Statement (.coreRegisterWrite c_ rsel_ v_) := ⟨Nat.two_pow_pos 32, nofun⟩
theorem peek (addr_ : BitVec 24) : Statement (.peek addr_) := ⟨Nat.two_pow_pos 32, nofun⟩
theorem stuckOnClear (dch_ : Fin 64) : Statement (.stuckOnClear dch_) := ⟨Nat.two_pow_pos 32, nofun⟩
theorem doOverTemperature (dch_ : Fin 64) : Statement (.doOverTemperature dch_) := ⟨Nat.two_pow_pos 32, nofun⟩
theorem plcaBeacon (t1s_ : Fin 4) : Statement (.plcaBeacon t1s_) := ⟨Nat.two_pow_pos 32, nofun⟩
theorem serialFrameError (sch_ : Fin 8) : Statement (.serialFrameError sch_) := ⟨Nat.two_pow_pos 32, nofun⟩
theorem pciePowerState (ev_ : PcieEvent) : Statement (.pciePowerState ev_) := ⟨Nat.two_pow_pos 32, nofun⟩
theorem vbatLoss : Statement .vbatLoss := ⟨Nat.two_pow_pos 32, nofun⟩

end Sys2Proof.Laws.Operands
end

