-- ==== Sys2Proof/Laws/Records.lean ====
section
/-! SUPPORT. Which registers recording an event can change, what a commit of a point can change, and what a host write comes to. -/

namespace Sys2Proof.Machine

/-- The registers that recording an event may change: the recorder's own, HOST_IRQ_STAT, and the loop trace's status and time. -/
def recordsTo (a : Nat) : Bool :=
  (decide (0x1B0004 ≤ a) && decide (a < 0x1B0040)) || a == Reg.HOST_IRQ_STAT 0 || a == Reg.HOST_IRQ_STAT 1 || a == Reg.LOOP_TR_STAT ||
    a == Reg.LOOP_TR_TIME_LO || a == Reg.LOOP_TR_TIME_HI

/-- Every register but those reads as before. -/
def State.RegsKept (s t : State) : Prop := ∀ a, recordsTo a = false → t.rd a = s.rd a

theorem State.RegsKept.refl (s : State) : s.RegsKept s := fun _ _ => rfl

theorem State.RegsKept.trans {s t u : State} (h : s.RegsKept t) (k : t.RegsKept u) : s.RegsKept u := fun a ha => (k a ha).trans (h a ha)

theorem State.RegsKept.ite {s t u : State} (p : Prop) [Decidable p] (h : s.RegsKept t) (k : s.RegsKept u) : s.RegsKept (if p then t else u) := by
  split
  · exact h
  · exact k

theorem State.RegsKept.of_regs {s t : State} (h : t.regs = s.regs) : s.RegsKept t := fun a _ => by simp [State.rd, h]

theorem State.wr_kept (s : State) {a : Nat} (v : Word) (h : recordsTo a = true) : s.RegsKept (s.wr a v) :=
  fun b hb => State.rd_wr_ne s v (by rintro rfl; rw [h] at hb; cases hb)

theorem State.irq_kept (s : State) (n : Nat) : s.RegsKept (s.irq n) := by
  unfold State.irq
  simp only []
  refine State.RegsKept.ite _ (State.RegsKept.trans ?_ (.of_regs rfl)) ?_ <;>
    exact (State.wr_kept s _ (by decide)).trans (State.wr_kept _ _ (by decide))

theorem State.showSeq_kept (s : State) {a : Nat} (r : Option EvRec) (h : recordsTo a = true) : s.RegsKept (s.showSeq a r) := by
  cases r
  · exact .refl s
  · exact State.wr_kept s _ h

theorem State.setFld_kept (s : State) {a : Nat} (hi lo v : Nat) (h : recordsTo a = true) : s.RegsKept (s.setFld a hi lo v) := State.wr_kept s _ h

theorem State.setBit_kept (s : State) {a : Nat} (i : Nat) (b : Bool) (h : recordsTo a = true) : s.RegsKept (s.setBit a i b) := State.wr_kept s _ h

theorem State.evtRegs_kept (s : State) : s.RegsKept s.evtRegs := by
  unfold State.evtRegs
  have h0 := State.setFld_kept s (a := Reg.EVT_STAT) 13 0 s.evt.unflushed.length (by decide)
  have h1 := h0.trans (State.setBit_kept _ (a := Reg.EVT_STAT) 14 s.ringStall (by decide))
  have h2 := h1.trans (State.showSeq_kept _ (a := Reg.EVT_HEAD) s.evt.sram.getLast? (by decide))
  have h3 := h2.trans (State.showSeq_kept _ (a := Reg.EVT_TAIL_SRAM) s.evt.sram.head? (by decide))
  exact h3.trans (State.showSeq_kept _ (a := Reg.EVT_TAIL_FLASH) s.evt.main.head? (by decide))

theorem State.flush_kept (s : State) : s.RegsKept s.flush := by
  unfold State.flush
  obtain ⟨n, h⟩ := State.ringErase_nand s s.evt.unflushed
  rw [h]
  have k : s.RegsKept { s with nand := n, evt := s.evt.written } := .of_regs rfl
  exact State.RegsKept.ite _ (.refl s) (k.trans (State.evtRegs_kept _))

theorem recordsTo_lost (v : BitVec 3) : recordsTo (Reg.EVT_LOST v.toNat) = true := by
  have := v.isLt
  have h1 : 0x1B0004 ≤ Reg.EVT_LOST v.toNat := by simp [Reg.EVT_LOST]; omega
  have h2 : Reg.EVT_LOST v.toNat < 0x1B0040 := by simp [Reg.EVT_LOST]; omega
  unfold recordsTo
  rw [decide_eq_true h1, decide_eq_true h2]
  rfl

/-- The severity an `Evt.put` loses is the severity of a record. -/
theorem Evt.put_lost (e : Evt) (r : EvRec) : (e.put r).2 = none ∨ ∃ v : BitVec 3, (e.put r).2 = some v.toNat := by
  unfold Evt.put
  split
  · exact .inl rfl
  · split
    · exact .inl rfl
    · split
      · split
        · exact .inr ⟨_, rfl⟩
        · exact .inr ⟨_, rfl⟩
      · exact .inl rfl

theorem State.ringPut_kept (s : State) (r : EvRec) : s.RegsKept (s.ringPut r) := by
  unfold State.ringPut
  have h : s.RegsKept { s with evt := (s.evt.put r).1 } := .of_regs rfl
  rcases Evt.put_lost s.evt r with e | ⟨v, e⟩
  · rw [e]; exact h
  · rw [e]; exact h.trans (State.wr_kept _ _ (recordsTo_lost v))

theorem State.traceTrigger_kept (s : State) : s.RegsKept s.traceTrigger := by
  unfold State.traceTrigger
  simp only []
  refine State.RegsKept.ite _ ?_ (.refl s)
  refine State.RegsKept.trans ?_ (State.wr_kept _ _ (by decide))
  refine State.RegsKept.trans ?_ (State.wr_kept _ _ (by decide))
  exact State.RegsKept.trans (.of_regs rfl) (State.wr_kept _ _ (by decide))

theorem State.recordSignals_kept (s : State) (it : EvItem) (ms : List Nat) : s.RegsKept (s.recordSignals it ms) := by
  unfold State.recordSignals
  exact ((State.RegsKept.ite _ (State.irq_kept _ _) (.refl _)).trans (State.RegsKept.ite _ (State.irq_kept _ _) (.refl _))).trans
    (State.RegsKept.ite _ (State.traceTrigger_kept _) (.refl _))

theorem State.recordRep_kept (s : State) (it : EvItem) (n : Nat) : s.RegsKept (s.recordRep it n) := by
  unfold State.recordRep
  refine State.RegsKept.ite _ (State.wr_kept s _ (recordsTo_lost _)) ?_
  have h : s.RegsKept s.nextEvent := .of_regs rfl
  have h1 := ((h.trans (State.ringPut_kept _ (s.makeRec it n (s.matching it)))).trans (State.evtRegs_kept _)).trans
    (State.recordSignals_kept _ it (s.matching it))
  exact h1.trans (State.RegsKept.ite _ (State.flush_kept _) (.refl _))

/-- Recording an event leaves every register outside `recordsTo` as it is. -/
theorem State.record_kept (s : State) (it : EvItem) : s.RegsKept (s.record it) := State.recordRep_kept s it 0

theorem State.recordWindow_kept (s : State) (key len : Nat) (it : EvItem) : s.RegsKept (s.recordWindow key len it) := by
  unfold State.recordWindow
  split
  · exact .of_regs rfl
  · exact (State.record_kept s it).trans (.of_regs rfl)

/-! ### Outputs that follow a point, and commits -/

/-- `t` is `s` with other registers and another field state. -/
def State.OutputsOnly (s t : State) : Prop := ∃ r f, t = { s with regs := r, field := f }

theorem State.OutputsOnly.refl (s : State) : s.OutputsOnly s := ⟨_, _, rfl⟩

theorem State.OutputsOnly.trans {s t u : State} (h : s.OutputsOnly t) (k : t.OutputsOnly u) : s.OutputsOnly u := by
  obtain ⟨r, f, rfl⟩ := h
  obtain ⟨r', f', rfl⟩ := k
  exact ⟨_, _, rfl⟩

theorem State.OutputsOnly.ite {s t u : State} (p : Prop) [Decidable p] (h : s.OutputsOnly t) (k : s.OutputsOnly u) : s.OutputsOnly (if p then t else u) := by
  split
  · exact h
  · exact k

theorem State.OutputsOnly.foldl {α : Type} (f : State → α → State) (h : ∀ (s : State) (a : α), s.OutputsOnly (f s a)) :
    ∀ (l : List α) (s : State), s.OutputsOnly (l.foldl f s)
  | [], s => .refl s
  | a :: l, s => (h s a).trans (State.OutputsOnly.foldl f h l (f s a))

theorem State.setBit_outputsOnly (s : State) (a i : Nat) (b : Bool) : s.OutputsOnly (s.setBit a i b) := ⟨_, _, rfl⟩
theorem State.setFld_outputsOnly (s : State) (a hi lo v : Nat) : s.OutputsOnly (s.setFld a hi lo v) := ⟨_, _, rfl⟩

theorem State.doUpdate_outputsOnly (s : State) (d : Nat) : s.OutputsOnly (s.doUpdate d) := by
  unfold State.doUpdate
  simp only []
  refine .ite _ (State.setBit_outputsOnly ..) (.ite _ (.refl s) (.ite _ (State.setBit_outputsOnly ..) (.ite _ ?_ (State.setBit_outputsOnly ..))))
  split
  · exact State.setBit_outputsOnly ..
  · exact .refl s
  · exact State.setBit_outputsOnly ..

theorem State.aoUpdate_outputsOnly (s : State) (a : Nat) : s.OutputsOnly (s.aoUpdate a) := by
  have zero : s.OutputsOnly (s.aoZero a) := ⟨_, _, rfl⟩
  unfold State.aoUpdate
  simp only []
  exact .ite _ zero (.ite _ (.refl s) (.ite _ zero (.ite _ (.ite _ (.refl s) zero) ⟨_, _, rfl⟩)))

theorem State.daliFollow_outputsOnly (s : State) (e : Nat) : s.OutputsOnly (s.daliFollow e) := by
  unfold State.daliFollow
  simp only []
  refine State.OutputsOnly.trans (t := if ((s.daliLine (bits (s.rd (Reg.DALI_OUT e)) 17 14)).pend.any fun p => p.1 == e) = true
    then s.incSat Reg.DALI_OUT_MERGED 31 0 else s) (.ite _ ⟨_, _, rfl⟩ (.refl s)) ?_
  generalize (if ((s.daliLine (bits (s.rd (Reg.DALI_OUT e)) 17 14)).pend.any fun p => p.1 == e) = true
    then s.incSat Reg.DALI_OUT_MERGED 31 0 else s) = u
  split
  · exact .ite _ ⟨_, _, rfl⟩ (.refl _)
  · exact .ite _ ⟨_, _, rfl⟩ (.refl _)

/-- The outputs that follow a point change nothing but registers and the field die's own state. -/
theorem State.follow_outputsOnly (s : State) (i : PointIdx) : s.OutputsOnly (s.follow i) := by
  unfold State.follow
  exact ((State.OutputsOnly.foldl _ State.doUpdate_outputsOnly _ _).trans (State.OutputsOnly.foldl _ State.aoUpdate_outputsOnly _ _)).trans
    (State.OutputsOnly.foldl _ State.daliFollow_outputsOnly _ _)

/-- The Locket copy of a point changes the Locket alone. -/
theorem State.retainPoint_frame (s : State) (i : PointIdx) : ∃ l, s.retainPoint i = { s with locket := l } := by
  unfold State.retainPoint
  simp only [State.locketWrite]
  repeat' split
  all_goals exact ⟨_, rfl⟩

theorem State.settle_frame (s : State) (i : PointIdx) : ∃ r f l, (s.retainPoint i).follow i = { s with regs := r, field := f, locket := l } := by
  obtain ⟨l, h⟩ := State.retainPoint_frame s i
  obtain ⟨r, f, k⟩ := State.follow_outputsOnly { s with locket := l } i
  exact ⟨r, f, l, by rw [h, k]⟩

/-- A commit of a point changes that point, registers, the field die's state and the Locket, and nothing else (R9, R115). -/
theorem State.commitPoint_frame (s : State) (i : PointIdx) (c : CommitSet) :
    ∃ r f l, s.commitPoint i c = { s.setPoint i ((s.point i).commit c s.now) with regs := r, field := f, locket := l } :=
  State.settle_frame (s.setPoint i ((s.point i).commit c s.now)) i

theorem State.point_of_points {s t : State} (h : t.points = s.points) (i : PointIdx) : t.point i = s.point i := by simp [State.point, h]

/-- A point after a commit: the committed point itself, and every other point as before. -/
theorem State.point_commitPoint (s : State) (i j : PointIdx) (c : CommitSet) :
    (s.commitPoint i c).point j = if j = i then (s.point i).commit c s.now else s.point j := by
  obtain ⟨r, f, l, h⟩ := State.commitPoint_frame s i c
  have e : (s.commitPoint i c).points = (s.setPoint i ((s.point i).commit c s.now)).points := by rw [h]
  rw [State.point_of_points e, State.point_setPoint]

/-- A quality bit set outside a commit changes that point, registers and the field die's state. -/
theorem State.setQual_frame (s : State) (i : PointIdx) (b : Nat) (v : Bool) : ∃ r f, s.setQual i b v =
    { s.setPoint i ((s.point i).setWord 2 (setBitOf ((s.point i).word 2) b v)).settleLevel with regs := r, field := f } := by
  unfold State.setQual
  exact State.follow_outputsOnly _ i

theorem State.point_setQual (s : State) (i j : PointIdx) (b : Nat) (v : Bool) : (s.setQual i b v).point j =
    if j = i then ((s.point i).setWord 2 (setBitOf ((s.point i).word 2) b v)).settleLevel else s.point j := by
  obtain ⟨r, f, h⟩ := State.setQual_frame s i b v
  have e : (s.setQual i b v).points = (s.setPoint i ((s.point i).setWord 2 (setBitOf ((s.point i).word 2) b v)).settleLevel).points := by rw [h]
  rw [State.point_of_points e, State.point_setPoint]

/-! ### Writes over the host path -/

/-- The gate of R313 opens for the Prefect and for steward firmware. -/
theorem State.asPrefect_obeys {s : State} {m : Master} (h : (s.woken m).obeys m = true) (f : State → State) : s.asPrefect m f = f (s.woken m) := by
  simp only [State.obeys, Bool.and_eq_true, Bool.not_eq_true', bne_iff_ne, ne_eq] at h
  obtain ⟨⟨⟨h1, h2⟩, h3⟩, h4⟩ := h
  unfold State.asPrefect State.hostWrite
  cases m with
  | steward => simp only [State.woken] at *; simp [h1, h2, h3, h4]
  | sess n => simp only [State.woken] at *; simp [h1, h2, h3, h4]

/-- It turns a session that does not hold the pass away (R313). -/
theorem State.asPrefect_turned {s : State} {n : Fin 8} (h1 : (s.woken (.sess n)).pwr.off = false) (h2 : (s.woken (.sess n)).owns (.sess n) = false)
    (f : State → State) : s.asPrefect (.sess n) f = (s.woken (.sess n)).dropNotOwner n := by
  unfold State.asPrefect State.hostWrite
  simp only [State.woken] at *
  simp [h1, h2]

end Sys2Proof.Machine
end

