-- ==== Sys2Proof/Tests/Slice0.lean ====
section
/-! SUPPORT. Tests of the model, each on one command and one small state: what is well formed and what is not, words written out from the
spec's encodings, results the spec gives, and for every statement of Certificates/Slice0/Obligations.lean that has hypotheses a state and
operands that meet them (witness_<name of the statement>). -/

namespace Sys2Proof.Tests

-- One theorem after the other: each kernel evaluation would else take a thread of its own.
set_option Elab.async false

open Sys2Proof Sys2Proof.Machine

/-- The state a command answers; the state before it where it answers none. -/
def out (i : Instr) (s : State) : State :=
  match exec i s with
  | .next t => t
  | _ => s

/-- The state of an outcome that has one. -/
def state (o : Out) : State :=
  match o with
  | .next t => t
  | _ => State.reset

/-- The reset state with some registers of the host map set. -/
def withRegs (l : List (Nat × Word)) : State := l.foldl (fun s p => s.wr p.1 p.2) State.reset

/-- A state with some more registers set. -/
def plus (s : State) (l : List (Nat × Word)) : State := l.foldl (fun s p => s.wr p.1 p.2) s

/-- Session 0 holds the hall pass. -/
def held : State := withRegs [(Reg.HOST_PASS_STAT, 8)]

/-- Session 0 is the Prefect, with some registers set. -/
def heldWith (l : List (Nat × Word)) : State := plus held l

/-- Session 0. -/
def m0 : Master := .sess 0

/-- The state a write of session 0 arrives in. -/
def arrived (s : State) : State := s.woken m0

/-- The active steward core. -/
def k64 : CoreId := ⟨64, by decide⟩

/-- Scan core 0. -/
def k0 : CoreId := ⟨0, by decide⟩

/-- Steward core SA with g1 and g2 set. -/
def sa (x y : Word) : State := State.reset.updCtx k64 (fun k => { k with g := (k.g.set 1 x).set 2 y })

/-- Lesson 5 of tenant 3: class 0, core 0, a handler. -/
def lesson5 : LessonDecl :=
  { num := 5, cls := 0, core := 0, tenant := 3, tier := .a, deadline := 1000, budget := 100, order := 0, entry := 0x100,
    handler := some 0x200, header := 0, stackTop := 0x1000 }

/-- Lesson 5 in its period. -/
def running5 : Lesson :=
  { decl := lesson5, runsOn := 0, phase := .running, late := 0, lastAbandon := 0, sticky := false, start := 0, bell := 0, bellTime := 0,
    deadlineAt := 250000, demoted := none, exhausted := false, clrPending := false, abandonBell := 0xFFFFFFFF, shed := false, notBefore := 0, dirty := [] }

/-- The regions of tenant 3 on core 0: code, scratch and state. -/
def regions5 : List Region :=
  [⟨0, 0x1000, 3, .code, false⟩, ⟨0, 0x1000, 3, .scratch, false⟩, ⟨0x1000, 0x1000, 3, .state, false⟩, ⟨0x2000, 0x1000, 0xFFF, .const, false⟩]

/-- Lesson 5 runs on core 0, its PC at 0x100, in homeroom slot 1. -/
def scanning : State :=
  let k : Core := { Core.zero with lesson := some 5, ctx := { Ctx.zero with pc := 0x100, hm := 0x00030001 } }
  let sc := { State.reset.scan with
    cores := [(0, k)], lessons := [(5, some running5)], coreRegions := [(0, regions5)],
    clusterRegions := [(0, [⟨0, 0x1000, 3, .scratch, false⟩])] }
  { State.reset with scan := sc }

/-- Lesson 5 with g1 and g2 set. -/
def lessonAt (x y : Word) : State := scanning.updCtx k0 (fun k => { k with g := (k.g.set 1 x).set 2 y })

/-! ### What is well formed -/

/-- A manifest of n bytes. -/
def bytesOf (n : Nat) : List Byte := List.replicate n 0

/-- A safety parameter set with a signature of n bytes. -/
def paramSet (n : Nat) : SafetySet :=
  { id := 1, key := [], sig := bytesOf n, cars := Vector.replicate 8 ⟨false, 0, 0, 0, 0, 0, 0, 0, 0, Vector.replicate 24 0⟩ }

theorem test_wellFormed_encodings :
    Instr.wellFormed (.extu k0 1 2 0 31) = true ∧ Instr.wellFormed (.extu k0 1 2 1 31) = false ∧
    Instr.wellFormed (.exts k0 1 2 16 16) = false ∧ Instr.wellFormed (.ins k0 1 2 31 1) = false ∧
    Instr.wellFormed (.pget2 k0 3 0 (.imm 0)) = false ∧ Instr.wellFormed (.pget2 k0 2 0 (.imm 0x4000)) = false ∧
    Instr.wellFormed (.pget4 k0 2 0 (.imm 0)) = false ∧ Instr.wellFormed (.pget4 k0 4 0 (.imm 0x8000)) = false ∧
    Instr.wellFormed (.pgetvq k0 15 0 (.imm 0)) = false ∧ Instr.wellFormed (.pgetvq k0 14 0 (.imm 0x4000)) = false ∧
    Instr.wellFormed (.pgetvq k0 14 7 (.imm 0x3FFF)) = true := by decide

theorem test_wellFormed_more_encodings :
    Instr.wellFormed (.pput2 k0 1 0 (.reg 0)) = false ∧ Instr.wellFormed (.pput4 k0 2 0 (.reg 0)) = false ∧
    Instr.wellFormed (.pput4 k0 4 0 (.imm 0x4000)) = false ∧ Instr.wellFormed (.psync k0 0 0 (.imm 0x4000)) = false ∧
    Instr.wellFormed (.emsg k0 0 0 3 0 0 0 false) = false ∧ Instr.wellFormed (.emsg k0 0 0 0 0 0 3 false) = false ∧
    Instr.wellFormed (.emsg k0 0 0 0 0 1 1 false) = false ∧ Instr.wellFormed (.emsg k0 1 0 0 0 0 0 false) = false ∧
    Instr.wellFormed (.emsg k0 1 0 2 0x3FF 4 2 true) = true ∧ Instr.wellFormed (.vbcast k0 4 0 0 0 0 false) = false ∧
    Instr.wellFormed (.vcmp k0 0 0 0 3) = false ∧ Instr.wellFormed (.vcmp k0 0 0 0 2) = true := by decide

theorem test_wellFormed_word_addresses :
    Instr.wellFormed (.registerWrite m0 0x000006 0 0xF) = false ∧ Instr.wellFormed (.registerWrite m0 0x000004 0 0xF) = true ∧
    Instr.wellFormed (.readClear m0 1) = false ∧ Instr.wellFormed (.busWatchdog m0 2 true) = false ∧
    Instr.wellFormed (.channelBind m0 3 0) = false ∧ Instr.wellFormed (.qspiRead 5) = false ∧ Instr.wellFormed (.qspiWrite 6 0) = false := by decide

theorem test_wellFormed_lengths :
    Instr.wellFormed (.fwuPush m0 ⟨bytesOf 4⟩) = true ∧ Instr.wellFormed (.fwuPush m0 ⟨bytesOf 6⟩) = false ∧
    Instr.wellFormed (.fwuPush m0 ⟨[]⟩) = false ∧ Instr.wellFormed (.fwuManifest ⟨bytesOf 4⟩) = false ∧
    Instr.wellFormed (.debugAuthCheck (bytesOf 255)) = false ∧
    Instr.wellFormed (.safetyParamRequest (paramSet 95)) = false ∧ Instr.wellFormed (.safetyParamRequest (paramSet 96)) = true := by decide +kernel

theorem test_wellFormed_long_lengths :
    Instr.wellFormed (.debugAuthCheck (bytesOf 256)) = true ∧ Instr.wellFormed (.fwuPush m0 ⟨bytesOf 4100⟩) = false ∧ Instr.wellFormed (.fwuData 0 0 0 (bytesOf 1485)) = false ∧
    Instr.wellFormed (.fwuData 0 0 0 (bytesOf 1484)) = true ∧ Instr.wellFormed (.fwuData 0 0 0 []) = false := by decide +kernel

theorem test_wellFormed_keys :
    Instr.wellFormed (.deviceAnswer 1 [(4, {}), (4, {})]) = false ∧ Instr.wellFormed (.deviceAnswer 1 [(4, {}), (5, {})]) = true ∧
    Instr.wellFormed (.currentPeriod [(1, []), (1, [(true, false)])] (Vector.replicate 32 0)) = false ∧
    Instr.wellFormed (.positionPeriod [(1, []), (1, [(true, false)])]) = false ∧
    Instr.wellFormed (.lineCycle 0 ⟨50000, Vector.replicate 3 []⟩ [(1, ⟨Vector.replicate 3 []⟩), (1, ⟨Vector.replicate 3 []⟩)]) = false ∧
    Instr.wellFormed (.batteryMeasure [(2, 0), (2, 1)]) = false ∧ Instr.wellFormed (.rfFieldLoss [3, 3]) = false := by decide

theorem test_wellFormed_error_words :
    Instr.wellFormed (.uncorrectableError (.imem k0 2)) = false ∧ Instr.wellFormed (.uncorrectableError (.dmem k0 1)) = false ∧
    Instr.wellFormed (.uncorrectableError (.committed k0 3)) = false ∧ Instr.wellFormed (.uncorrectableError (.cluster 0 5)) = false ∧
    Instr.wellFormed (.uncorrectableError (.cluster 7 4)) = true := by decide

/-! ### The words of instructions, written out from the encodings of R42 to R45 and the worked example of spec/04 -/

/-- Each instruction is read from its word, and is the word the encoder gives. -/
def spelled (l : List (Nat × Instr)) : Bool := l.all (fun p => decide (decodeWords k0 p.1 0 = some p.2) && decide (encode p.2 = p.1))

theorem test_words_of_the_worked_example :
    spelled [(0x8D0404B4, .pgetvq k0 4 0 (.imm 1204)), (0x8D8404B5, .pgetvq k0 6 0 (.imm 1205)), (0xA2000000, .twait k0 8 0),
      (0x2E6000AC, .extu k0 9 8 12 5), (0xCC008100, .vins k0 0 4 0), (0xCC00C500, .vins k0 0 6 1), (0xC1030000, .vadd k0 2 0 1 true)] = true := by decide

theorem test_words_of_formats_A_I_and_B :
    -- op 0x00 gd 1 ga 2 gb 3 function 1; op 0x01 function 8; op 0x02 gd 3 ga 1 imm −1; op 0x08 kind 2, n 4; op 0x09 gd 3, imm 0; op 0x0A
    spelled [(0x0048C001, .sub k0 1 2 3), (0x0448C008, .mulq k0 1 2 3), (0x08C7FFFF, .addi k0 3 1 (.short 0x3FFFF)), (0x20C40044, .shi k0 3 1 2 4),
      (0x24C00000, .li k0 3 (.short 0)), (0x28C00001, .lui k0 3 1),
      -- op 0x10 LW, 0x15 SW, 0x18 BEQ g1, g2, −1; 0x1E JAL; 0x1F JR (bit 17 = 0) and JALR (bit 17 = 1)
      (0x40C40010, .lw k0 3 1 (.short 16)), (0x54C40010, .sw k0 3 1 (.short 16)), (0x604BFFFF, .beq k0 1 2 0x3FFFF),
      (0x7B800008, .jal k0 14 8), (0x7C3C0000, .jr k0 15 0)] = true := by decide

theorem test_prefix_pair :
    -- prefix 0x3F with IMM_HI = 0x10 before LI g6, low bits 0x1200: 0x10 × 2^18 + 0x1200
    decodeWords k0 0xFC000010 0x25801200 = some (.li k0 6 (.prefixed 0x00401200)) ∧
    encodeWords (.li k0 6 (.prefixed 0x00401200)) = (0xFC000010, 0x25801200) := by decide

theorem test_words_of_formats_P_V_and_S :
    spelled [(0x81040005, .pget k0 4 0 (.imm 5)), (0x90780002, .pput k0 1 7 (.reg 2)), (0xAC0000FF, .twaitm k0 0 0xFF),
      (0xC0120001, .vsub k0 0 1 1 false), (0xE0000000, .lend k0), (0xF0000000, .clasp k0), (0xF0000001, .unclasp k0),
      (0xF8000000, .nop k0)] = true := by decide

theorem test_reserved_words_are_illegal :
    [0x00000018, 0x04000009, 0x00004017, 0x30000000, 0x2C08003F, 0xB0000000, 0xDC000000, 0xF0000002, 0xFC004000].all
      (fun w => decide (decodeWords k0 w 0xFFFFFFFF = none)) = true := by decide

/-! ### Instructions on the g registers -/

/-- The two-operand instructions that raise nothing. -/
def plain2 : List (CoreId → BitVec 4 → BitVec 4 → BitVec 4 → Instr) :=
  [.add, .sub, .and, .or, .xor, .nor, .andn, .slt, .sltu, .seq, .sll, .srl, .sra, .ror, .min, .max, .minu, .maxu, .adds, .subs, .mul, .mulh,
   .mulhu, .mulq]

/-- What an instruction leaves in g3 of x in g1 and y in g2. -/
def of2 (mk : CoreId → BitVec 4 → BitVec 4 → BitVec 4 → Instr) (x y : Word) : Word := (out (mk k64 3 1 2) (sa x y)).g k64 3

theorem witness_AluResults :
    (plain2 ++ [Instr.addv, Instr.subv, Instr.sel]).all (fun mk => State.reset.ready k64 (mk k64 15 1 2) [15, 1, 2] && scanning.ready k0 (mk k0 0 0 15) [0, 0, 15]) = true ∧
    scanning.ready k0 (.abs k0 3 3) [3, 3] = true ∧ of2 .addv 0x7FFFFFFE 1 = 0x7FFFFFFF ∧ of2 .subv 0x80000001 1 = 0x80000000 ∧
    State.reset.executing k64 = true ∧ State.reset.fetchOk k64 (State.reset.pc k64) = true ∧ bits (0x18 : Word) 5 0 = 0x18 ∧ bits (0x4017 : Word) 17 14 = 1 ∧
    bits (0x40 : Word) 13 6 = 1 := by decide

theorem test_alu_results :
    of2 .add 0xFFFFFFFF 2 = 1 ∧ of2 .sub 1 2 = 0xFFFFFFFF ∧ of2 .and 0xC 0xA = 8 ∧ of2 .or 0xC 0xA = 0xE ∧ of2 .xor 0xC 0xA = 6 ∧
    of2 .nor 0xC 0xA = 0xFFFFFFF1 ∧ of2 .andn 0xC 0xA = 4 ∧ of2 .slt 0xFFFFFFFF 0 = 1 ∧ of2 .sltu 0xFFFFFFFF 0 = 0 ∧ of2 .seq 7 7 = 1 ∧
    of2 .sll 1 33 = 2 ∧ of2 .srl 0x80000000 31 = 1 ∧ of2 .sra 0x80000000 31 = 0xFFFFFFFF ∧ of2 .ror 1 1 = 0x80000000 := by decide

theorem test_more_alu_results :
    of2 .min 0xFFFFFFFF 1 = 0xFFFFFFFF ∧ of2 .max 0xFFFFFFFF 1 = 1 ∧ of2 .minu 0xFFFFFFFF 1 = 1 ∧ of2 .maxu 0xFFFFFFFF 1 = 0xFFFFFFFF ∧
    of2 .adds 0x7FFFFFFF 1 = 0x7FFFFFFF ∧ of2 .subs 0x80000000 1 = 0x80000000 ∧ of2 .mul 0x10000 0x10001 = 0x10000 ∧
    of2 .mulh 0xFFFFFFFF 2 = 0xFFFFFFFF ∧ of2 .mulhu 0xFFFFFFFF 2 = 1 ∧ of2 .mulq 0x80000000 0x80000000 = 0x7FFFFFFF ∧
    of2 .mulq 0x40000000 0x40000000 = 0x20000000 := by decide

theorem witness_MultiplyDivide :
    [Instr.mul, .mulh, .mulhu, .mulq, .mulv, .div, .divu, .rem, .remu].all (fun mk => State.reset.ready k64 (mk k64 3 1 2) [3, 1, 2]) = true ∧
    of2 .mulv 0xFFFFFFFF 0x7FFFFFFF = 0x80000001 ∧
    of2 .div 0xFFFFFFF9 2 = 0xFFFFFFFD ∧ of2 .divu 0xFFFFFFF9 2 = 0x7FFFFFFC ∧ of2 .rem 0xFFFFFFF9 2 = 0xFFFFFFFF ∧ of2 .remu 7 4 = 3 ∧
    of2 .div 0x80000000 0xFFFFFFFF = 0x80000000 ∧ of2 .rem 0x80000000 0xFFFFFFFF = 0 ∧ bits (0x04000009 : Word) 5 0 = 9 ∧ bits (0x04000009 : Word) 31 26 = 1 := by decide

theorem test_checked_arithmetic_raises :
    bits ((out (.addv k64 3 1 2) (sa 0x7FFFFFFF 1)).ls k64) 4 0 = 6 ∧ bits ((out (.subv k64 3 1 2) (sa 0x80000000 1)).ls k64) 4 0 = 6 ∧
    bits ((out (.mulv k64 3 1 2) (sa 0x10000 0x8000)).ls k64) 4 0 = 6 ∧ bits ((out (.div k64 3 1 2) (sa 1 0)).ls k64) 4 0 = 7 ∧
    bits ((out (.remu k64 3 1 2) (sa 1 0)).ls k64) 4 0 = 7 := by decide

/-- The instructions of a register and an immediate. -/
def withImm : List (CoreId → BitVec 4 → BitVec 4 → Imm → Instr) := [.addi, .andi, .ori, .xori, .slti, .sltiu]

/-- What such an instruction leaves in g3 of x in g1. -/
def ofImm (mk : CoreId → BitVec 4 → BitVec 4 → Imm → Instr) (x : Word) (v : Imm) : Word := (out (mk k64 3 1 v) (sa x 0)).g k64 3

theorem witness_ImmediateResults :
    withImm.all (fun mk => State.reset.ready k64 (mk k64 3 1 (.short 0x3FFFF)) [3, 1] && State.reset.ready k64 (mk k64 3 1 (.prefixed 0xFFFFFFFF)) [3, 1]) = true ∧
    State.reset.ready k64 (.li k64 3 (.short 0x20000)) [3] = true ∧ State.reset.ready k64 (.li k64 3 (.prefixed 0)) [3] = true ∧
    scanning.ready k0 (.lui k0 3 0x3FFFF) [3] = true ∧ [0, 1, 2, 3].all (fun k => State.reset.ready k64 (.shi k64 3 1 k 31) [3, 1]) = true ∧
    bits (0x20000080 : Word) 17 7 = 1 ∧ bits (0x20000080 : Word) 31 26 = 8 ∧ bits (0xFC000000 : Word) 31 26 = 0x3F ∧ State.reset.fetchOk k64 (State.reset.pc k64 + 4) = true := by decide

theorem test_immediate_results :
    ofImm .addi 5 (.short 0x3FFFF) = 4 ∧ ofImm .andi 0xFFFFFFFF (.short 0x3FFFF) = 0x3FFFF ∧ ofImm .ori 0 (.prefixed 0x80000001) = 0x80000001 ∧
    ofImm .xori 0xFF (.short 0xF) = 0xF0 ∧ ofImm .slti 0xFFFFFFFE (.short 0x3FFFF) = 1 ∧ ofImm .sltiu 5 (.short 0x3FFFF) = 1 ∧
    (out (.li k64 3 (.prefixed 0x12345678)) State.reset).g k64 3 = 0x12345678 ∧ (out (.li k64 3 (.prefixed 0)) State.reset).pc k64 = 8 ∧
    (out (.lui k64 3 0x20001) State.reset).g k64 3 = 0x80004000 := by decide

theorem witness_BitResults :
    State.reset.ready k64 (.extu k64 3 1 0 31) [3, 1] = true ∧ State.reset.ready k64 (.exts k64 3 1 31 0) [3, 1] = true ∧
    State.reset.ready k64 (.ins k64 3 1 4 27) [3, 1] = true ∧ State.reset.ready k64 (.extu k64 3 1 16 16) [3, 1] = false ∧
    [Instr.clz, .ctz, .popc, .bswap].all (fun mk => scanning.ready k0 (mk k0 3 3) [3, 3]) = true ∧ bits (0x2C001C00 : Word) 31 26 = 0x0B ∧
    bits (0x2C001C00 : Word) 13 10 = 7 := by decide

theorem test_bit_results :
    (out (.sel k64 3 1 2) (sa 7 1)).g k64 3 = 7 ∧ (out (.sel k64 3 1 2) (sa 7 0)).g k64 3 = 0 ∧
    (out (.shi k64 3 1 2 4) (sa 0x80000010 0)).g k64 3 = 0xF8000001 ∧ (out (.extu k64 3 1 4 7) (sa 0xABCD 0)).g k64 3 = 0xBC ∧
    (out (.exts k64 3 1 4 7) (sa 0xABCD 0)).g k64 3 = 0xFFFFFFBC ∧ (out (.ins k64 2 1 8 7) (sa 0x12 0xFFFFFFFF)).g k64 2 = 0xFFFF12FF ∧
    (out (.abs k64 3 1) (sa 0x80000000 0)).g k64 3 = 0x7FFFFFFF ∧ (out (.clz k64 3 1) (sa 0 0)).g k64 3 = 32 ∧
    (out (.ctz k64 3 1) (sa 8 0)).g k64 3 = 3 ∧ (out (.popc k64 3 1) (sa 0xF0F 0)).g k64 3 = 8 ∧
    (out (.bswap k64 3 1) (sa 0x01020304 0)).g k64 3 = 0x04030201 := by decide

/-- The branches. -/
def branches : List (CoreId → BitVec 4 → BitVec 4 → BitVec 18 → Instr) := [.beq, .bne, .blt, .bge, .bltu, .bgeu]

theorem witness_ControlTransfers :
    branches.all (fun mk => State.reset.ready k64 (mk k64 1 2 2) [1, 2] && scanning.ready k0 (mk k0 1 2 0x3FFFF) [1, 2]) = true ∧
    State.reset.inCode k64 8 = true ∧ scanning.inCode k0 0xFC = true ∧ scanning.inCode k0 0x1100 = false ∧
    scanning.ready k0 (.jal k0 3 0x400) [3] = true ∧ State.reset.inCode k64 0x1FFFC = true ∧ State.reset.inCode k64 0x20000 = false ∧
    (lessonAt 0x200 0).ready k0 (.jr k0 1 0) [1] = true ∧ (lessonAt 0x200 0).ready k0 (.jalr k0 1 1 4) [1, 1] = true ∧
    (lessonAt 0x202 0).inCode k0 0x202 = false ∧ (lessonAt 0xFFFFFFFC 0).ready k0 (.jr k0 1 0) [1] = true ∧ ((lessonAt 0xFFFFFFFC 0).core k0).clasp = none := by decide

theorem test_control_transfers :
    (out (.beq k64 1 2 2) (sa 4 4)).pc k64 = 8 ∧ (out (.beq k64 1 2 2) (sa 4 5)).pc k64 = 4 ∧ (out (.bne k0 1 2 0x3FFFF) (lessonAt 4 5)).pc k0 = 0xFC ∧
    (out (.blt k64 1 2 3) (sa 0xFFFFFFFF 0)).pc k64 = 12 ∧ (out (.bltu k64 1 2 3) (sa 0xFFFFFFFF 0)).pc k64 = 4 ∧
    (out (.jal k64 14 8) State.reset).g k64 14 = 4 ∧ (out (.jal k64 14 8) State.reset).pc k64 = 32 ∧
    (out (.jalr k0 1 1 4) (lessonAt 0x200 0)).pc k0 = 0x204 ∧ (out (.jalr k0 1 1 4) (lessonAt 0x200 0)).g k0 1 = 0x104 ∧
    (out (.jr k0 1 0) (lessonAt 0x202 0)).pc k0 = 0x200 := by decide

theorem test_lesson_exit_ends_the_lesson : ((out (.jr k0 1 0) (lessonAt 0xFFFFFFFC 0)).core k0).lesson = none := by decide

/-! ### Loads, stores and the other instructions of a core -/

/-- Lesson 5 with the word 0x80818283 at 0x10 of its scratch region, an uncorrectable error at 0x20 and g1 = x. -/
def loaded (x : Word) : State :=
  out (.uncorrectableError (.dmem k0 0x20)) ((lessonAt x 0).storeAt ((Space.dmem k0).base + 0x10) [0x83, 0x82, 0x81, 0x80])

/-- Lesson 5 inside a clasp. -/
def clasped (x : Word) : State := out (.clasp k0) (lessonAt x 0x1234)

/-- The five loads. -/
def loads : List ((CoreId → BitVec 4 → BitVec 4 → Imm → Instr) × Nat) := [(.lw, 4), (.lh, 2), (.lhu, 2), (.lb, 1), (.lbu, 1)]

theorem witness_LoadResults :
    loads.all (fun p => (loaded 0x10).ready k0 (p.1 k0 3 1 (.short 0)) [3, 1] &&
      decide ((loaded 0x10).dataAddr k0 0x10 p.2 false = .at ((Space.dmem k0).base + 0x10) false) &&
      decide ((loaded 0x10).dataAddr k0 0x2FFC p.2 false = .at ((Space.dmem k0).base + 0x2FFC) false) &&
      decide ((loaded 0x10).dataAddr k0 0x3000 p.2 false = .memory) &&
      decide ((loaded 0x10).dataAddr k0 0x100FFC p.2 false = .at ((Space.cluster 0).base + 0xFFC) true) &&
      decide ((loaded 0x10).lockNeed k0 true = .free) && !(loaded 0x10).loadPoisoned k0 ((Space.dmem k0).base + 0x10) p.2 &&
      (loaded 0x10).loadPoisoned k0 ((Space.dmem k0).base + 0x20) p.2 && decide ((clasped 0x10).lockNeed k0 false = .free)) = true := by decide

/-- The LPDDR5 and register clauses: where steward firmware's map (an opaque constant) sends an address there, an aligned access reaches it. -/
theorem witness_LoadResults_mapped (ea : Word) (a : Nat) (r : BitVec 24) (b : Bool) (h : ea.toNat % 4 = 0) (h2 : 0x40000 < ea.toNat + 4) :
    (Config.stewardMap ea = .lpddr a → State.reset.dataAddr k64 ea 4 b = .lpddr a) ∧
    (Config.stewardMap ea = .register r → State.reset.dataAddr k64 ea 4 b = .reg r) := by
  have hk : isScan k64 = false := by decide
  constructor <;> intro hm <;> simp [State.dataAddr, h, hk, hm, Nat.not_le.mpr h2]

theorem test_loads :
    (out (.lw k0 3 1 (.short 0)) (loaded 0x10)).g k0 3 = 0x80818283 ∧ (out (.lh k0 3 1 (.short 2)) (loaded 0x10)).g k0 3 = 0xFFFF8081 ∧
    (out (.lhu k0 3 1 (.short 2)) (loaded 0x10)).g k0 3 = 0x8081 ∧ (out (.lb k0 3 1 (.short 0x3FFFD)) (loaded 0x13)).g k0 3 = 0xFFFFFF83 ∧
    (out (.lbu k0 1 1 (.short 1)) (loaded 0x10)).g k0 1 = 0x82 ∧ (out (.lw k0 3 1 (.short 2)) (loaded 0x10)).pc k0 = 0x200 ∧
    (out (.lw k0 3 1 (.short 0)) (loaded 0x20)).pc k0 = 0x200 := by decide

/-- The three stores. -/
def stores : List ((CoreId → BitVec 4 → BitVec 4 → Imm → Instr) × Nat) := [(.sw, 4), (.sh, 2), (.sb, 1)]

theorem witness_StoreResults :
    stores.all (fun p => (lessonAt 0x10 0).ready k0 (p.1 k0 2 1 (.prefixed 0)) [2, 1] &&
      decide ((lessonAt 0x10 0).dataAddr k0 0x1FFC p.2 true = .at ((Space.dmem k0).base + 0x1FFC) false) &&
      decide ((lessonAt 0x10 0).dataAddr k0 0x2000 p.2 true = .memory) && decide ((lessonAt 0 0).dataAddr k0 0x100000 p.2 true = .at (Space.cluster 0).base true) &&
      (clasped 0x10).ready k0 (p.1 k0 2 1 (.short 0)) [2, 1] && ((clasped 0x10).core k0).clasp.isSome && decide ((clasped 0x10).lockNeed k0 false = .free)) = true := by
  decide

/-- Lesson 5 inside a clasp whose cluster's lock another core holds. -/
def lockedOut (x : Word) : State :=
  { clasped x with scan := { (clasped x).scan with lockOwner := (clasped x).scan.lockOwner.set 0 (some ⟨1, by decide⟩) } }

theorem witness_clasp_lock :
    (loads ++ stores).all (fun p => (clasped 0x100000).ready k0 (p.1 k0 3 1 (.short 0)) [3, 1] && (lockedOut 0x100000).ready k0 (p.1 k0 3 1 (.short 0)) [3, 1] &&
      decide ((clasped 0x100000).dataAddr k0 0x100000 p.2 true = .at (Space.cluster 0).base true) &&
      decide ((lockedOut 0x100000).dataAddr k0 0x100000 p.2 false = .at (Space.cluster 0).base true) &&
      !((clasped 0x100000).takeLock k0).loadPoisoned k0 (Space.cluster 0).base p.2) = true ∧
    (clasped 0x100000).lockNeed k0 true = .take ∧ (lockedOut 0x100000).lockNeed k0 true = .queue := by decide

theorem witness_StoreResults_register (ea : Word) (r : BitVec 24) (h : ea.toNat % 4 = 0) (h2 : 0x40000 < ea.toNat + 4) (hm : Config.stewardMap ea = .register r)
    (hr : r = 0x34) : State.reset.dataAddr k64 ea 4 true = .reg r ∧ ∃ t, State.reset.busWrite .steward (r.toNat / 4 * 4) 0xF (narrowWord r 4 7) = .next t := by
  have hk : isScan k64 = false := by decide
  refine ⟨by simp [State.dataAddr, h, hk, hm, Nat.not_le.mpr h2], ?_⟩
  subst hr
  exact ⟨_, rfl⟩

theorem test_stores :
    (out (.sw k0 2 1 (.short 0)) (lessonAt 0x10 0x11223344)).byteAt ((Space.dmem k0).base + 0x13) = 0x11 ∧
    (out (.sh k0 2 1 (.short 0)) (lessonAt 0x10 0x11223344)).wordAt ((Space.dmem k0).base + 0x10) = 0x3344 ∧
    (out (.sb k0 2 1 (.short 1)) (lessonAt 0x10 0x11223344)).wordAt ((Space.dmem k0).base + 0x10) = 0x4400 ∧
    (out (.sw k0 2 1 (.short 0)) (clasped 0x10)).wordAt ((Space.dmem k0).base + 0x10) = 0 ∧
    (out (.lw k0 3 1 (.short 0)) (out (.sw k0 2 1 (.short 0)) (clasped 0x10))).g k0 3 = 0x1234 := by decide

theorem witness_DataAddresses :
    isScan k0 = true ∧ scanning.dataAddr k0 1 4 true = .memory ∧ scanning.dataAddr k0 0 4 true = .at (Space.dmem k0).base false ∧
    scanning.dataAddr k0 0x100FFC 4 false = .at ((Space.cluster 0).base + 0xFFC) true ∧ scanning.dataAddr k0 0x2000 4 false = .at ((Space.dmem k0).base + 0x2000) false ∧
    scanning.dataAddr k0 0x2000 4 true = .memory := by decide

theorem witness_ClaspSeesOwnStores : ((clasped 0).core k0).clasp = some ⟨0, 0, [], false, 0⟩ := by decide

/-- Lesson 5 in its exception handler, its EX_PC at 0x104. -/
def handling : State := out (.trap k0 7) (out (.nop k0) scanning)

/-- A debugger attached to an authorised module with both halting scopes. -/
def debugged (s : State) : State := s.wr Reg.DBG_STAT 0x33

theorem witness_SystemResults :
    State.reset.ready k64 (.nop k64) [] = true ∧ scanning.ready k0 (.fence k0) [] = true ∧ scanning.ready k0 (.trap k0 0xFFF) [] = true ∧
    scanning.ready k0 (.brk k0 1) [] = true ∧ scanning.mayHalt k0 = false ∧ (debugged scanning).mayHalt k0 = true ∧ (debugged State.reset).mayHalt k64 = true ∧
    (debugged scanning).ready k0 (.brk k0 1) [] = true ∧ (scanning.core k0).clasp = none ∧
    scanning.ready k0 (.rdsr k0 3 6) [3] = true ∧ scanning.ready k0 (.rdsr k0 3 7) [3] = true ∧ State.reset.ready k64 (.rdsr k64 3 4) [3] = true ∧
    scanning.ready k0 (.wrsr k0 3 0) [3] = true ∧ scanning.ready k0 (.wrsr k0 3 1) [3] = true ∧ scanning.ready k0 (.wrsr k0 3 2) [3] = true ∧
    State.reset.ready k64 (.wrsr k64 3 0) [3] = true ∧ State.reset.ready k64 (.wrsr k64 3 1) [3] = true := by decide

theorem witness_SystemResults_eret :
    scanning.ready k0 (.eret k0) [] = true ∧ bitOf (scanning.ls k0) 9 = false ∧ handling.ready k0 (.eret k0) [] = true ∧
    (handling.core k0).clasp = none ∧ bitOf (handling.ls k0) 9 = true ∧ (handling.core k0).lesson = some 5 ∧ (handling.lesson? 5).isSome = true ∧
    handling.wordAt (State.headerAt running5 0x10) = 0x104 ∧ handling.inCode k0 0x104 = true ∧
    (handling.storeAt (State.headerAt running5 0x10) [0, 0, 1, 0]).inCode k0 0x10000 = false ∧
    (let s := out (.trap k64 1) (sa 1 0)
     bitOf (s.ls k64) 9 = true ∧ (s.core k64).frame = [0] ∧ (s.core k64).irq &&& (s.core k64).ien = 0 ∧ (s.core k64).clasp = none ∧
       (s.setPc k64 0).ready k64 (.eret k64) [] = true) := by decide

theorem test_exceptions :
    handling.pc k0 = 0x200 ∧ bits (handling.ls k0) 4 0 = 5 ∧ handling.wordAt (State.headerAt running5 0x14) = 5 ∧
    handling.wordAt (State.headerAt running5 0x18) = 7 ∧ (out (.eret k0) handling).pc k0 = 0x104 ∧ bitOf ((out (.eret k0) handling).ls k0) 9 = false ∧
    ((out (.brk k0 1) (debugged scanning)).core k0).halt = .halted ∧ (out (.brk k0 1) scanning).pc k0 = 0x200 ∧
    (out (.rdsr k0 3 3) scanning).g k0 3 = 0x100 ∧ (out (.wrsr k0 1 0) (lessonAt 0x1000 0)).pc k0 = 0x104 := by decide

/-- SA with one interrupt line enabled. -/
def waitingSa : State := out (.wait k64) (out (.ien k64 2) (sa 1 0))

/-- The same with its interrupts held back by IN_HANDLER. -/
def waitingIn : State := waitingSa.updCtx k64 (fun k => { k with ls := setBitOf k.ls 9 true })

theorem witness_interrupt_held_back :
    State.reset.stewardRuns ⟨65, by decide⟩ = false ∧ waitingSa.stewardRuns k64 = true ∧ waitingIn.stewardRuns k64 = true ∧
    (!bitOf (waitingIn.ls k64) 9 && (waitingIn.core k64).clasp.isNone && (waitingIn.core k64).halt != .halted) = false ∧ (waitingIn.core k64).ien.getLsbD 1 = true ∧
    ((out (.stewardInterrupt 0 1) waitingIn).core k64).waiting = .none ∧ (out (.stewardInterrupt 0 1) waitingIn).pc k64 = (waitingIn.pc k64) + 4 := by decide

theorem witness_StewardResults :
    scanning.ready k0 (.wait k0) [] = true ∧ scanning.ready k0 (.ien k0 1) [] = true ∧ scanning.ready k0 (.idis k0 0xFFF) [] = true ∧
    State.reset.ready k64 (.wait k64) [] = true ∧ (State.reset.core k64).irq &&& (State.reset.core k64).ien = 0 ∧
    (let s := State.reset.setCore k64 { State.reset.core k64 with ien := 2, irq := 2 }
     s.ready k64 (.wait k64) [] = true ∧ (s.core k64).irq &&& (s.core k64).ien ≠ 0) ∧
    State.reset.ready k64 (.ien k64 0x800) [] = true ∧ State.reset.ready k64 (.idis k64 0x800) [] = true ∧
    (waitingSa.core k64).waiting = .interrupt ∧ (waitingSa.core k64).ien.getLsbD 1 = true ∧ (waitingSa.core k64).irq = 0 ∧
    bitOf (waitingSa.ls k64) 9 = false ∧ (waitingSa.core k64).clasp = none ∧ (waitingSa.core k64).halt = .running ∧ (waitingSa.core k64).ien.getLsbD 11 = false ∧
    decodeWords k0 0xFFFFFFFF 0 = none ∧ scanning.executing k0 = true ∧ scanning.fetchOk k0 0x100 = true ∧ scanning.fetchOk k0 0x104 = true := by decide

theorem test_steward_interrupt :
    (let s := out (.stewardInterrupt 0 1) waitingSa
     (s.core k64).waiting = .none ∧ (s.core k64).frame = [8] ∧ bits (s.ls k64) 4 0 = 19 ∧ (s.core k64).irq = 0) ∧
    (out (.ien k0 1) scanning).pc k0 = 0x200 ∧ bits ((out (.wait k0) scanning).ls k0) 4 0 = 2 ∧ bits ((out (.illegalEncoding k0 0x18 0) scanning).ls k0) 4 0 = 1 ∧
    ((out (.idis k64 2) waitingSa).core k64).ien = 2 ∧ ((out (.idis k64 2) (out (.ien k64 6) State.reset)).core k64).ien = 4 := by decide

theorem witness_PointIssues :
    [Instr.pget, .pget2, .pget4, .pgetvq, .pput, .pput2, .pput4, .psync].all (fun mk =>
      scanning.ready k0 (mk k0 12 7 (.reg 0)) [12, 13, 14, 15, 0] && State.reset.ready k64 (mk k64 0 0 (.imm 0x3FFF)) [0, 1, 2, 3]) = true ∧
    scanning.canIssue k0 7 = true ∧ State.reset.canIssue k64 0 = true ∧ (scanning.core k0).clasp = none ∧ ((clasped 0).core k0).clasp.isSome = true ∧
    (clasped 0).ready k0 (.psync k0 1 2 (.imm 4)) [1] = true ∧ (clasped 0).canIssue k0 2 = true ∧
    scanning.ready k0 (.emsg k0 5 1 2 0x3FF 12 2 true) [5, 12, 13, 14, 15] = true ∧ scanning.ready k0 (.emsg k0 0 1 0 0 15 0 false) [15] = true ∧
    (clasped 0).ready k0 (.emsg k0 0 1 0 0 15 0 false) [15] = true := by decide

/-- SA with a get of point 7 into g4 in flight in group 1, entry 0. -/
def getting : State := out (.pget k64 4 1 (.imm 7)) State.reset

theorem test_point_issues :
    (getting.tag k64 1).out = 1 ∧ (getting.entry? 0).map (fun x => x.op) = some (.get 7 0 1 4) ∧ (getting.core k64).ctx.bound[4] = some 0 ∧
    ((out (.pput2 k64 2 0 (.imm 0x30009)) (sa 0 5)).entry? 0).map (fun x => x.op) = some (.put 9 12 [5, 0]) ∧
    ((out (.emsg k64 5 1 1 3 2 1 true) (sa 0 5)).entry? 0).map (fun x => x.op) = some (.msg 1 3 [5, 0] (some 5)) ∧
    ((out (.psync k64 1 1 (.imm 7)) (sa 9 0)).entry? 0).map (fun x => x.op) = some (.psync 7 1 9) ∧
    bits ((out (.psync k0 1 2 (.imm 4)) (clasped 0)).ls k0) 4 0 = 9 := by decide

/-- The get has completed. -/
def gotten : State := out (.operationComplete 0) getting

/-- A core that waits for a pool entry, the only one in the queue. -/
def pooled : State :=
  let s := scanning.setWaiting k0 (.pool ⟨2, .get 7 0 1 4, false, 0x104⟩)
  let sc := { s.scan with poolFifo := [k0] }
  { s with scan := sc }

theorem witness_TagResults :
    State.reset.ready k64 (.tmov k64 3 7) [3] = true ∧ State.reset.ready k64 (.twait k64 3 7) [3] = true ∧ (State.reset.tag k64 7).out = 0 ∧
    getting.ready k64 (.twait k64 3 1) [3] = true ∧ (getting.tag k64 1).out = 1 ∧ (getting.core k64).clasp = none ∧
    getting.ready k64 (.ttest k64 3 1) [3] = true ∧ gotten.ready k64 (.ttest k64 3 1) [3] = true ∧ (gotten.tag k64 1).out = 0 ∧
    getting.ready k64 (.twaitm k64 3 0) [3] = true ∧ getting.ready k64 (.twaitm k64 3 2) [3] = true ∧ getting.ready k64 (.twaitm k64 3 0x82) [3] = true ∧
    (getting.tag k64 7).out = 0 ∧ ((out (.twait k64 3 1) getting).core k64).waiting = .tag 1 ∧
    ((out (.operationComplete 0) (out (.twait k64 3 1) getting)).tag k64 1).out = 0 ∧
    ((out (.add k64 5 4 4) getting).core k64).waiting = .bound 0 ∧ (getting.entry? 0).map (fun x => x.completed) = some false ∧
    (gotten.entry? 0).map (fun x => x.completed) = some true ∧ pooled.nextGrant = some k0 ∧ (pooled.freeEntry k0).isSome = true ∧
    (pooled.core k0).step = false ∧ State.reset.nextGrant = none := by decide

theorem test_tags :
    (out (.tmov k64 3 1) getting).g k64 3 = 1 ∧ (out (.tmov k64 3 1) gotten).g k64 3 = 64 ∧ (out (.twait k64 3 1) gotten).g k64 3 = 0 ∧
    (out (.ttest k64 3 1) getting).g k64 3 = 1 ∧ (out (.twaitm k64 3 0x82) getting).g k64 3 = 0x80 ∧
    ((out (.twaitm k64 3 2) getting).core k64).waiting = .tagMask 2 ∧ (out .poolEntryGrant pooled).pc k0 = 0x104 ∧
    ((out (.tagWaitEnd k64) (out (.operationComplete 0) (out (.twait k64 3 1) getting))).core k64).waiting = .none ∧
    ((out (.boundWaitEnd k64) (out (.operationComplete 0) (out (.add k64 5 4 4) getting))).core k64).waiting = .none := by decide

/-- Lesson 5 asleep until count 500 of the time base. -/
def asleep : State := out (.lsleep k0 1) (lessonAt 500 0)

theorem witness_LessonControl :
    State.reset.ready k64 (.lbell k64 3 7) [3] = true ∧ scanning.ready k0 (.lslack k0 3) [3] = true ∧ (scanning.core k0).lesson = some 5 ∧
    scanning.lesson? 5 = some running5 ∧ (lessonAt 500 0).ready k0 (.lsleep k0 1) [1] = true ∧ (clasped 500).ready k0 (.lsleep k0 1) [1] = true ∧
    (asleep.core k0).waiting = .sleep 500 ∧ asleep.lesson? 5 = some running5 ∧ ((out (.lsleep k0 1) (lessonAt 250000 0)).core k0).waiting = .sleep 250000 ∧
    scanning.ready k0 (.lend k0) [] = true ∧ scanning.tagsQuiet k0 = true ∧ scanning.ownEntries k0 = [] ∧
    (let s := out (.pget k0 4 1 (.imm 7)) scanning
     s.ready k0 (.lend k0) [] = true ∧ (s.tag k0 1).out = 1 ∧ (s.ownEntries k0).map (fun p => p.2.isPsync) = [false]) ∧
    State.reset.ready k64 (.lend k64) [] = true ∧ State.reset.ready k64 (.lslack k64 0) [0] = true ∧ State.reset.ready k64 (.lsleep k64 0) [0] = true := by decide

theorem test_lesson_control :
    (out (.lslack k0 3) scanning).g k0 3 = 250000 ∧ (out (.lbell k64 3 2) (withRegs [(Reg.SCAN_BELL_CNT 2, 9)])).g k64 3 = 9 ∧
    ((out (.lsleepExpiry k0) asleep).core k0).waiting = .none ∧ (out (.lsleepExpiry k0) asleep).now = 500 ∧ (out (.lsleepExpiry k0) asleep).pc k0 = 0x104 ∧
    ((out (.lend k0) scanning).core k0).lesson = none ∧ bits ((out (.lend k64) (sa 1 0)).ls k64) 4 0 = 1 := by decide

/-- One core that waits for a clasp slot, and one that waits for the lock of cluster 0. -/
def claspQueue : State :=
  let sc := { scanning.scan with claspFifo := [k0] }
  { scanning with scan := sc }

/-- A core inside a clasp that waits for the lock of cluster 0. -/
def lockQueue : State :=
  let sc := { (clasped 0).scan with lockFifo := (clasped 0).scan.lockFifo.set 0 [k0] }
  { clasped 0 with scan := sc }

/-- All 32 clasp slots taken by other cores. -/
def fullSlots : State :=
  let sc := { claspQueue.scan with cores := claspQueue.scan.cores ++ (List.range 32).map (fun j => (j + 1, { Core.zero with clasp := some ⟨0, 0, [], false, 0⟩ })) }
  { claspQueue with scan := sc }

theorem witness_Clasps :
    scanning.ready k0 (.clasp k0) [] = true ∧ (scanning.core k0).clasp = none ∧ scanning.openClasps = 0 ∧ scanning.scan.claspFifo = [] ∧
    claspQueue.ready k0 (.clasp k0) [] = true ∧ claspQueue.scan.claspFifo ≠ [] ∧ (clasped 0).ready k0 (.clasp k0) [] = true ∧
    (clasped 0).ready k0 (.unclasp k0) [] = true ∧ scanning.ready k0 (.unclasp k0) [] = true ∧ claspQueue.openClasps = 0 ∧
    fullSlots.openClasps = 32 ∧ fullSlots.scan.claspFifo = [k0] ∧ fullSlots.ready k0 (.clasp k0) [] = true ∧ (claspQueue.core k0).step = false ∧
    lockQueue.scan.lockFifo[0] = [k0] ∧ lockQueue.scan.lockOwner[0] = none ∧ (lockQueue.core k0).clasp.isSome = true ∧ (clusterOf k0).val = 0 ∧
    (out (.claspLockGrant 0) lockQueue).scan.lockOwner[0] = some k0 := by decide

theorem test_clasps :
    (let s := out (.unclasp k0) (out (.sw k0 2 1 (.short 0)) (clasped 0x10))
     s.wordAt ((Space.dmem k0).base + 0x10) = 0x1234 ∧ (s.core k0).clasp = none ∧ bitOf (s.ls k0) 8 = false) ∧
    ((out .claspSlotGrant claspQueue).core k0).clasp.isSome = true ∧ (out .claspSlotGrant claspQueue).scan.claspFifo = [] ∧
    ((out .claspSlotGrant fullSlots).core k0).clasp = none ∧ (out .claspSlotGrant claspQueue).pc k0 = 0x104 := by decide

/-- SA with block-float registers b0 (x in lane 0) and b1 (y in lane 0), exponents 0, and g1 = w. -/
def bfs (x y : BitVec 24) (w : Word) : State :=
  State.reset.updCtx k64 (fun k => { k with b := (k.b.set 0 ⟨(Vector.replicate 8 0).set 0 x, 0⟩).set 1 ⟨(Vector.replicate 8 0).set 0 y, 0⟩, g := k.g.set 1 w })

theorem witness_BlockFloatArithmetic :
    [Instr.vadd, .vsub, .vmul, .vmac, .vmin, .vmax, .vclamp, .vdot].all (fun mk => State.reset.ready k64 (mk k64 7 0 1 true) []) = true ∧
    [Instr.vneg, .vabs, .vsum].all (fun mk => scanning.ready k0 (mk k0 2 2 false) []) = true ∧
    [0, 1, 2, 3].all (fun op => State.reset.ready k64 (.vbcast k64 op 7 2 0 1 true) []) = true ∧
    (bfCombine (· + ·) ((bfs 0x400000 0x100000 0).b k64 0) ((bfs 0x400000 0x100000 0).b k64 1)).2 = false ∧
    (bfMul ⟨Vector.replicate 8 0x800000, 31⟩ ⟨Vector.replicate 8 0x800000, 31⟩).2 = true := by decide

theorem test_block_float_arithmetic :
    (out (.vadd k64 2 0 1 false) (bfs 0x400000 0x200000 0)).b k64 2 = ⟨(Vector.replicate 8 0).set 0 0x600000, 0⟩ ∧
    (out (.vmul k64 2 0 1 false) (bfs 0x400000 0x400000 0)).b k64 2 = ⟨(Vector.replicate 8 0).set 0 0x400000, -1⟩ ∧
    (out (.vneg k64 2 0 false) (bfs 0x400000 0 0)).b k64 2 = ⟨(Vector.replicate 8 0).set 0 0x800000, -1⟩ := by decide

theorem witness_BlockFloatMoves :
    State.reset.ready k64 (.vext k64 1 7 7) [1] = true ∧ State.reset.ready k64 (.vgexp k64 1 0) [1] = true ∧ State.reset.ready k64 (.vcmp k64 1 0 1 2) [1] = true ∧
    scanning.ready k0 (.vzero k0 7) [] = true ∧ State.reset.ready k64 (.vsete k64 0 1) [1] = true ∧ State.reset.ready k64 (.vsplat k64 0 1) [1] = true ∧
    State.reset.ready k64 (.vins k64 0 1 7) [1] = true ∧ State.reset.ready k64 (.vcvtf k64 0 1 0 0x3F) [1] = true ∧
    State.reset.ready k64 (.vcvt k64 1 0 0 0 true) [1] = true ∧ bfToInt 1 0 (-1) = 0 ∧ bfToInt 0x7FFFFF 31 0 = 2147483392 ∧ bfToInt 0x7FFFFF 31 (-1) = 4294966784 ∧
    (lessonAt 0x1000 0).ready k0 (.vld k0 0 1 0x7F) [1] = true ∧ (lessonAt 0x1000 0).dataAddr k0 0x1FE0 32 false = .at ((Space.dmem k0).base + 0x1FE0) false ∧
    (lessonAt 0x1000 0).lockNeed k0 false = .free ∧ (lessonAt 0x1000 0).loadPoisoned k0 ((Space.dmem k0).base + 0x1FE0) 32 = false ∧
    (lessonAt 0x1000 0).dataAddr k0 0x3000 32 false = .memory ∧ (lessonAt 0x1000 0).ready k0 (.vst k0 0 1 0x80) [1] = true ∧
    (lessonAt 0x1000 0).dataAddr k0 0x2000 32 true = .memory ∧ (lessonAt 0x1000 0).dataAddr k0 0x1000 32 true = .at ((Space.dmem k0).base + 0x1000) false ∧
    bfExp (-32) [1, 0, 0, 0, 0, 0, 0, 0] 8 = some 9 ∧ bfExp (-32) [8388608, 0, 0, 0, 0, 0, 0, 0] 8 = none := by decide

theorem witness_BlockFloatMoves_clasp :
    (clasped 0x100000).ready k0 (.vld k0 0 1 0) [1] = true ∧ (clasped 0x100000).dataAddr k0 0x100000 32 false = .at (Space.cluster 0).base true ∧
    (clasped 0x100000).lockNeed k0 true = .take ∧ ((clasped 0x100000).takeLock k0).loadPoisoned k0 (Space.cluster 0).base 32 = false ∧
    (lockedOut 0x100000).lockNeed k0 true = .queue ∧ (clasped 0x1000).ready k0 (.vst k0 0 1 0) [1] = true ∧ (clasped 0x1000).lockNeed k0 false = .free ∧
    (clasped 0x1000).dataAddr k0 0x1000 32 true = .at ((Space.dmem k0).base + 0x1000) false ∧ (loaded 0).loadPoisoned k0 ((Space.dmem k0).base + 0x20) 32 = true ∧
    (bfNormal [1, 0, 0, 0, 0, 0, 0, 0] 8).isSome = true ∧ bfNormal [8388608, 0, 0, 0, 0, 0, 0, 0] 31 = none := by decide +kernel

theorem test_block_float_moves :
    (out (.vzero k64 1) (bfs 1 2 3)).b k64 1 = ⟨Vector.replicate 8 0, 0x20⟩ ∧ (out (.vgexp k64 3 1) (out (.vzero k64 1) State.reset)).g k64 3 = 0xFFFFFFE0 ∧
    (out (.vcvt k64 3 0 0 0 false) (out (.vcvtf k64 0 1 0 0) (bfs 0 0 1000))).g k64 3 = 1000 ∧
    (out (.vcmp k64 3 0 1 0) (bfs 5 5 0)).g k64 3 = 0xFF ∧ (out (.vcmp k64 3 0 1 1) (bfs 4 5 0)).g k64 3 = 1 ∧
    (out (.vext k64 3 2 5) (out (.vsplat k64 2 1) (bfs 0 0 0x00400000))).g k64 3 = (out (.vext k64 3 2 0) (out (.vsplat k64 2 1) (bfs 0 0 0x00400000))).g k64 3 := by decide

/-- Lesson 5 produces point 9, and a put of 4 to its VALUE is in flight. -/
def putting : State :=
  let p : Point := { Point.zero with words := Point.zero.words.set 3 0x00030000, decl := some ⟨9, 1, 0x00030000, 0, 0, 0, 0, 0, 5⟩ }
  out (.pput k0 2 1 (.imm 9)) ((lessonAt 0 4).setPoint 9 p)

/-- SA waits on a new commit of point 7. -/
def syncing : State := out (.psync k64 1 1 (.imm 7)) State.reset

theorem witness_OperationResults :
    State.reset.entry? 8191 = none ∧ getting.tileOut 7 = false ∧ (getting.point 7).poison = 0 ∧ (getting.core k64).lesson = none ∧
    (getting.entry? 0).map (fun x => x.op) = some (.get 7 0 1 4) ∧ (getting.entry? 0).map (fun x => x.trans) = some none ∧
    (getting.entry? 0).map (fun x => !x.completed && !x.held && !getting.behindEarlier x 7 && getting.mayRead x.tenant 7 && !getting.produces x 7) = some true ∧
    (putting.entry? 0).map (fun x => x.op) = some (.put 9 0 [4]) ∧ putting.tileOut 9 = false ∧
    (putting.entry? 0).map (fun x => !x.completed && !x.held && !putting.behindEarlier x 9 && putting.mayWrite x.tenant 9 && putting.putAllowed x 9 0 1) = some true ∧
    ((out (.pput k0 2 1 (.imm 8)) scanning).entry? 0).map (fun x => x.op) = some (.put 8 0 [0]) ∧
    ((out (.pput k0 2 1 (.imm 8)) scanning).entry? 0).map (fun x => !x.held && !scanning.mayWrite x.tenant 8) = some true := by decide

theorem witness_OperationResults_psync :
    (syncing.entry? 0).map (fun x => x.op) = some (.psync 7 1 0) ∧ (syncing.entry? 0).map (fun x => !x.completed && syncing.mayRead x.tenant 7) = some true ∧
    (syncing.point 7).word 6 = 0 ∧ ((syncing.setPoint 7 (Point.zero.setWord 6 1)).point 7).word 6 ≠ 0 ∧
    ((out (.emsg k64 5 1 1 3 2 1 true) State.reset).entry? 0).map (fun x => x.timeout) = some (some 25000) ∧
    ((out (.emsg k64 5 1 1 3 2 1 true) State.reset).entry? 0).map (fun x => !x.completed && !x.held && x.trans.isNone) = some true := by decide

/-- The answer to the put was latched by a change of the roster: it completes with that answer. -/
def latchedPut : State :=
  match putting.entry? 0 with
  | some x => putting.setEntry 0 (some { x with outcome := some 13 })
  | none => putting

theorem witness_OperationResults_latched :
    (latchedPut.entry? 0).map (fun x => (x.completed, x.held, x.outcome)) = some (false, false, some 13) ∧ (putting.entry? 0).map (fun x => x.outcome) = some none ∧
    ((out (.operationComplete 0) latchedPut).entry? 0).map (fun x => (x.completed, x.outcome)) = some (true, some 13) ∧
    ((out (.operationComplete 0) latchedPut).point 9).work.toList.getD 0 none = none := by decide +kernel

theorem test_operations :
    (gotten.tag k64 1).done = 1 ∧ (gotten.entry? 0).map (fun x => x.outcome) = some (some 0) ∧
    ((out (.operationComplete 0) putting).point 9).work.toList.getD 0 none = some 4 ∧ ((out (.operationComplete 0) putting).point 9).word 0 = 0 ∧
    (out (.psyncComplete 0) syncing) = syncing ∧
    ((out (.psyncComplete 0) (syncing.setPoint 7 (Point.zero.setWord 6 1))).g k64 1) = 1 ∧
    ((out (.operationTimeout 0) (out (.emsg k64 5 1 1 3 2 1 true) State.reset)).entry? 0).map (fun x => x.outcome) = some (some 14) := by decide

theorem witness_IssueConditions :
    operandsLegal (.extu k0 1 2 31 1) = false ∧ operandsLegal (.pget2 k0 1 0 (.imm 0)) = false ∧ operandsLegal (.emsg k0 0 0 3 0 0 0 false) = false ∧
    operandsLegal (.vbcast k0 31 0 0 0 0 false) = false ∧ operandsLegal (.vcmp k0 0 0 0 7) = false ∧ scanning.executing k0 = true ∧
    scanning.fetchOk k0 (scanning.pc k0) = true ∧ getting.executing k64 = true ∧ getting.fetchOk k64 (getting.pc k64) = true ∧ (getting.core k64).clasp = none ∧
    (getting.observeBound k64 [5, 4, 4]).firstBound k64 [5, 4, 4] = some 0 := by decide

/-! ### The schedule, points and forces -/

/-- Lesson 5 ready for core 0 in a module whose bells run, its tenant resident in slot 3. -/
def readied : State :=
  let sc := { State.reset.scan with lessons := [(5, some { running5 with phase := .ready, bell := 7 })], coreRegions := [(0, regions5)] }
  plus { State.reset with scan := sc } [(Reg.SCAN_STAT, 1), (Reg.ROSTER_HR_CTX 3, 0x2003)]

/-- The same lesson, LIFT, in its period. -/
def liftRunning : State :=
  let sc := { State.reset.scan with lessons := [(5, some { running5 with decl := { lesson5 with tier := .lift } })] }
  { State.reset with scan := sc }

theorem witness_Schedule :
    State.reset.bit Reg.SCAN_STAT 0 = false ∧ readied.pwr.off = false ∧ readied.bit Reg.SCAN_STAT 0 = true ∧ readied.scan.switch = none ∧
    (readied.core (coreId 0)).lesson = none ∧ (readied.core (coreId 0)).halt = .running ∧ readied.bit (Reg.SCAN_CORE_STAT 0) 0 = true ∧
    (readied.bestLesson (coreId 0)).map (fun p => (p.1, p.2.phase)) = some (5, .ready) ∧ readied.slotOf 3 = some 3 ∧ readied.resident 3 = true ∧
    (scanning.core (coreId 0)).lesson.isSome = true ∧ (withRegs [(Reg.SCAN_CORE_STAT 63, 0)]).bit (Reg.SCAN_CORE_STAT 63) 0 = false ∧
    scanning.lesson? (BitVec.toNat (5 : BitVec 12)) = some running5 ∧ running5.phase = .running ∧ (scanning.core running5.coreOf).halt ≠ .halted ∧
    ((scanning.haltCore k0 3).core running5.coreOf).halt = .halted ∧ (liftRunning.lesson? 5).map (fun l => (l.phase, l.exhausted, l.decl.tier)) = some (.running, false, .lift) ∧
    scanning.lesson? (BitVec.toNat (4095 : BitVec 12)) = none := by decide

/-- Lesson 5 ready, its homeroom still to be reloaded. -/
def reloading : State := plus readied [(Reg.ROSTER_HR_CTX 3, 0x1003)]

theorem witness_Schedule_reload :
    (reloading.lesson? 5).map (fun l => (l.phase, l.exhausted)) = some (.ready, false) ∧ (reloading.core k0).lesson = none ∧ reloading.resident 3 = false ∧
    (reloading.bestLesson k0).map (·.1) = some 5 ∧ lesson5.tier ≠ .safety ∧ lesson5.tier ≠ .lift ∧
    ((out (.budgetExhausted 5) reloading).lesson? 5).map (fun l => (l.exhausted, l.demoted)) = some (true, some 0) ∧
    readied.nextBell 1 = 0 ∧ (let v := readied.advanceTo 500000
      v.scan.switch = none) := by decide +kernel

theorem test_schedule :
    (out (.lessonStart 0) readied).pc k0 = 0x100 ∧ (out (.lessonStart 0) readied).g k0 15 = 0xFFFFFFFC ∧ (out (.lessonStart 0) readied).g k0 2 = 5 ∧
    ((out (.lessonStart 0) readied).core k0).ctx.bell = 7 ∧
    ((out (.deadlineExpiry 5) scanning).lesson? 5).map (fun l => (l.phase, l.lastAbandon, l.late)) = some (.idle, 11, 1) ∧ (out (.deadlineExpiry 5) scanning).now = 250000 ∧
    (out (.budgetExhausted 5) liftRunning).rd Reg.SCAN_OVERRUN_CNT = 1 := by decide

theorem test_bell_counts :
    (out (.bell 1) (withRegs [(Reg.SCAN_STAT, 1)])).scan.rung.toList.getD 1 0 = 1 ∧ (out (.bell 1) (withRegs [(Reg.SCAN_STAT, 1)])).rd (Reg.SCAN_BELL_CNT 1) = 0 ∧
    (out (.bell 1) (out (.bell 1) (withRegs [(Reg.SCAN_STAT, 1)]))).rd (Reg.SCAN_BELL_CNT 1) = 1 ∧ (out (.bell 1) State.reset).scan.rung.toList.getD 1 0 = 0 := by decide

/-- Session 0 is the Prefect, and point 6 carries a force. -/
def forced6 : State := (heldWith [(Reg.SCAN_FORCE_IDX, 6), (Reg.SCAN_FORCE_VAL_LO, 1)]).setPoint 6 (Point.zero.setWord 2 4)

/-- The same with 256 forces, point 6 not among them. -/
def forced256 : State :=
  { forced6 with points := (List.range 256).map (fun j => (j + 7, Point.zero.setWord 2 4)) }

theorem witness_Forces :
    (arrived held).obeys m0 = true ∧ State.reset.obeys .steward = true ∧ bits (1024 : Word) 10 0 = 1024 ∧
    ((List.range 16).filter (fun k => k != 15)).foldl (fun n k => n + (arrived held).floorOf k) 0 ≤ 3072 ∧ 1024 < bits (0x401 : Word) 10 0 ∧
    4096 < ((List.range 16).filter (fun k => k != 0)).foldl (fun n k => n + (heldWith [(Reg.SCAN_HR_FLOOR 1, 1024), (Reg.SCAN_HR_FLOOR 2, 1024), (Reg.SCAN_HR_FLOOR 3, 1024), (Reg.SCAN_HR_FLOOR 4, 1024)]).floorOf k) 0 + 1 ∧
    (arrived forced6).obeys m0 = true ∧ ((arrived forced6).point 6).forced = true ∧ BitVec.ofNat 14 ((arrived forced6).fld Reg.SCAN_FORCE_IDX 13 0) = 6 ∧
    (arrived forced6).forces = [6] ∧ ((arrived held).point 0).forced = false ∧ (arrived held).forces.length < 256 := by decide

theorem witness_Forces_full :
    (arrived forced256).obeys m0 = true ∧ ((arrived forced256).point 6).forced = false ∧ (arrived forced256).forces.length = 256 := by decide +kernel

/-- Session 0 is the Prefect, and lesson 5 is loaded. -/
def heldLesson : State := { held with scan := scanning.scan }

theorem witness_Forces_lessons :
    (arrived heldLesson).obeys m0 = true ∧ (arrived heldLesson).lesson? (BitVec.toNat (5 : BitVec 12)) = some running5 ∧
    (5, running5) ∈ (arrived heldLesson).lessons := by decide

theorem test_forces :
    (let p := (out (.forceSet m0) forced6).point 6
     p.word 0 = 1 ∧ p.forced = true ∧ p.word 6 = 1) ∧ ((out (.forceClear m0) forced6).point 6).forced = false ∧
    ((out (.forceClearAll m0) forced6).point 6).forced = false ∧ (out (.floorWrite m0 3 5) held).fld (Reg.SCAN_HR_FLOOR 3) 10 0 = 5 ∧
    (out (.floorWrite m0 3 0x401) held).bit Reg.SCAN_STAT 3 = true ∧ ((out (.lessonClrOne m0 5) heldLesson).lesson? 5).map (fun l => l.clrPending) = some true ∧
    ((out (.lessonClrAll m0) heldLesson).lesson? 5).map (fun l => l.clrPending) = some true ∧ ((out (.forceSet (.sess 1)) forced6).point 6).word 6 = 0 := by decide

/-- Point 4 belongs to the metering unit (PRODUCER 4), point 5 to a remote device of group 2 with a request in flight. -/
def fed : State :=
  let s := (State.reset.setPoint 4 (Point.zero.setWord 3 0x1000)).setPoint 5 (Point.zero.setWord 3 0x1800)
  s.setGroup 2 { timeoutUs := 10, points := [5], flights := [100], lastReq := some 100, lastDone := none }

theorem witness_Commits :
    (fed.point 4).producer = BitVec.toNat (4 : BitVec 3) ∧ (4 : BitVec 3) ≠ 0 ∧ (fed.point 4).producer ≠ BitVec.toNat (7 : BitVec 3) ∧ (fed.point 4).poison = 0 ∧
    (fed.point 4).forced = false ∧ (forced6.point 6).forced = true ∧ (forced6.point 6).poison = 0 ∧
    (fed.group 2).map (fun x => (x.flights, x.points, x.timeoutUs)) = some ([100], [5], 10) ∧
    ((out (.deviceAnswer 2 []) fed).group 2).map (fun x => x.flights) = some [] ∧ fed.inRecess = false ∧ fed.group 3 = none := by decide

theorem test_commits :
    ((out (.producerCommit 4 4 { value := 9 }) fed).point 4).word 0 = 9 ∧ ((out (.producerCommit 4 4 { value := 9 }) fed).point 4).word 6 = 1 ∧
    ((out (.producerCommit 4 5 { value := 9 }) fed).point 4).word 6 = 0 ∧ ((out (.deviceAnswer 2 [(5, { value := 3 })]) fed).point 5).word 0 = 3 ∧
    ((out (.deviceAnswer 2 [(4, { value := 3 })]) fed).point 4).word 0 = 0 ∧ ((out (.devicePoll 2) (out (.deviceAnswer 2 []) fed)).group 2).map (fun x => x.flights) = some [0] ∧
    ((out (.devicePoll 2) fed).group 2).map (fun x => x.flights) = some [100] := by decide

/-! ### Programs and the roster -/

/-- Session 0 is the Prefect, and SCAN_PROG_STAT.STATE is st. -/
def prog (st : Word) (l : List (Nat × Word)) : State := heldWith ((Reg.SCAN_PROG_STAT, st) :: l)

/-- A building image that is a header and nothing else, its digest right. -/
def bareHeader : ImageHeader :=
  { version := 1, length := 4096, imageId := 1, tenantKind := false, tenant := 0, units := 0, digest := Config.imageDigest [], key := none, sig := 0 }

/-- The bare image staged, in STATE st. -/
def bare (st : Word) : State :=
  let s := prog st []
  let sc := { s.scan with staged := [(0, 4096, [.header bareHeader])] }
  { s with scan := sc }

theorem witness_ImageDelivery :
    (arrived held).obeys m0 = true ∧
    [0, 1, 2, 3, 4, 5, 6, 7, 8].all (fun k => decide ((arrived (prog (BitVec.ofNat 32 k) [])).progState = k) && (arrived (prog (BitVec.ofNat 32 k) [])).obeys m0) = true ∧
    (arrived (prog 1 [(Reg.SCAN_PROG_OFFSET, 25161728), (Reg.SCAN_PROG_LEN, 4096)])).fld Reg.SCAN_PROG_OFFSET 24 0 +
      (arrived (prog 1 [(Reg.SCAN_PROG_OFFSET, 25161728), (Reg.SCAN_PROG_LEN, 4096)])).fld Reg.SCAN_PROG_LEN 12 0 = 25165824 ∧
    (prog 2 []).progState = 2 ∧ State.reset.progState ≠ 2 := by decide +kernel

theorem witness_ImageDelivery_refused :
    (prog 2 []).progState = 2 ∧ ((prog 2 []).imageRefusal (prog 2 []).scan.stagedTenant.isSome).map (fun r => r.1) = some 1 := by
  constructor
  · decide
  · rfl

theorem test_image_delivery :
    (out (.progBegin m0 false 0) held).progState = 1 ∧ (out (.progBegin m0 false 0) (prog 2 [])).fld Reg.SCAN_PROG_STAT 12 8 = 20 ∧
    (out (.progPush m0 [.reservation 3 8]) (prog 1 [(Reg.SCAN_PROG_OFFSET, 4096), (Reg.SCAN_PROG_LEN, 4)])).scan.staged = [(4096, 4, [.reservation 3 8])] ∧
    (out (.progCheck m0) (prog 1 [])).progState = 2 ∧ (out (.progCheck m0) (prog 0 [])).fld Reg.SCAN_PROG_STAT 12 8 = 20 ∧
    (out (.progAbort m0) (bare 3)).scan.staged = [] ∧ (out (.progAbort m0) (prog 6 [])).progState = 6 ∧ out .progCheckDone held = held := by decide

/-- A live switch to nothing on core 0, class 0, in STATE st. -/
def switching (st : Word) (bell : Option Word) (begun : Bool) : State :=
  let s := prog st []
  let w : Switch := { image := [], cls := 0, bell := bell, armedAt := 0, affected := [0], begun := begun, beganAt := 0, carried := 0, initialised := 0, discarded := 0, oldMem := [] }
  let sc := { s.scan with switch := some w, rung := s.scan.rung.set 0 5 }
  { s with scan := sc }

/-- A switch of a switching state missed its bell. -/
def missed (s : State) : Option Bool := s.scan.switch.map s.switchMissed

theorem witness_ProgramsRun :
    (arrived (heldWith [(Reg.SCAN_CTRL, 1)])).bit Reg.SCAN_CTRL 0 = true ∧ (arrived held).bit Reg.SCAN_CTRL 0 = false ∧ (arrived held).obeys m0 = true ∧
    (arrived (bare 3)).progState = 3 ∧ (arrived (bare 3)).obeys m0 = true ∧ (arrived (bare 3)).bit Reg.SCAN_CTRL 0 = false ∧ (arrived (bare 3)).lessons = [] ∧
    (arrived (bare 3)).scan.stagedTenant = none ∧ (arrived (prog 3 [(Reg.SCAN_CTRL, 1)])).bit Reg.SCAN_CTRL 0 = true ∧ (arrived (prog 0 [])).progState ≠ 3 ∧
    missed (switching 4 none false) = some false ∧ missed (switching 4 (some 5) false) = some false ∧ missed (switching 4 (some 4) false) = some true ∧
    (switching 4 none false).progState = 4 ∧ (switching 3 none false).progState ≠ 4 ∧ (switching 6 none true).scan.switch.map (fun w => (w.begun, w.affected)) = some (true, [0]) ∧
    (switching 6 none true).lessons = [] ∧ (withRegs [(Reg.SCAN_CKPT_CFG, 0)]).ckptInterval = 0 ∧ (withRegs [(Reg.SCAN_CKPT_CFG, 10)]).ckptInterval = 10 := by decide

theorem witness_ProgramsRun_arm :
    slowestClass (affectedLessons (arrived (prog 3 [])).scan.current (arrived (prog 3 [])).newImage) ≤ (arrived (prog 3 [])).fld Reg.SCAN_PROG_SWITCH 2 0 ∧
    (arrived (prog 3 [])).armRefusal (arrived (prog 3 [])).newImage = none ∧ (arrived (prog 3 [])).scan.retentiveLost = none ∧
    (arrived (prog 2 [])).obeys m0 = true ∧ (arrived (prog 7 [])).progState = 7 ∧ (arrived (prog 8 [])).progState = 8 ∧
    (arrived (heldWith [(Reg.SCAN_RESTART_CFG, 1)])).bit Reg.SCAN_RESTART_CFG 0 = true := by decide +kernel

/-- An image of one lesson of class 7 whose budget is 100 times its period: ARM refuses it where its class allows, and is out of sequence below it. -/
def greedy (cls : Word) : State :=
  let d : LessonDecl := { lesson5 with cls := 7, budget := 1000000000 }
  let s := prog 3 [(Reg.SCAN_PROG_SWITCH, cls)]
  let sc := { s.scan with staged := [(0, 4096, [.lesson d])] }
  { s with scan := sc }

theorem witness_ProgramsRun_arm_refused :
    slowestClass (affectedLessons (arrived (greedy 7)).scan.current (arrived (greedy 7)).newImage) = 7 ∧ (arrived (greedy 7)).fld Reg.SCAN_PROG_SWITCH 2 0 = 7 ∧
    ((arrived (greedy 7)).armRefusal (arrived (greedy 7)).newImage).map (fun r => r.1) = some 8 ∧ (arrived (greedy 6)).fld Reg.SCAN_PROG_SWITCH 2 0 = 6 := by decide +kernel

theorem test_programs :
    (out (.scanRunStart m0) (heldWith [(Reg.SCAN_BELL_CNT 3, 8)])).rd (Reg.SCAN_BELL_CNT 3) = 0 ∧ (out (.scanRunStart m0) held).bit Reg.SCAN_STAT 0 = true ∧
    (out (.scanRunStop m0) (heldWith [(Reg.SCAN_CTRL, 1), (Reg.SCAN_STAT, 1)])).bit Reg.SCAN_STAT 0 = false ∧
    (out .stagingDone (switching 4 none false)).progState = 5 ∧ (out .stagingDone (switching 4 (some 4) false)).progState = 8 ∧
    (out (.switchCoreRelease 0) (switching 6 none false)).progState = 6 ∧ (out (.switchCoreRelease 0) (switching 6 none true)).progState = 0 ∧
    ((out .periodicCheckpoint (withRegs [(Reg.SCAN_CKPT_CFG, 10)])).scan.checkpoints.map (fun k => k.complete)) = [true] ∧
    (out (.coldRestart m0) (prog 2 [])).fld Reg.SCAN_PROG_STAT 12 8 = 20 ∧ (out (.progArm m0) (prog 0 [])).fld Reg.SCAN_PROG_STAT 12 8 = 20 ∧
    (out (.progLoad m0) (prog 0 [])).fld Reg.SCAN_PROG_STAT 12 8 = 20 := by decide

theorem test_restarts :
    (out (.coldRestart m0) held).rd Reg.SCAN_RESTART_STAT = 0x10 ∧ (out (.coldRestart m0) held).bit Reg.SCAN_CTRL 0 = true ∧
    (out (.warmRestart m0) (heldWith [(Reg.SCAN_RESTART_CFG, 1)])).rd Reg.SCAN_RESTART_STAT = 1 ∧ (out (.progLoad m0) (bare 3)).rd Reg.SCAN_RESTART_STAT = 0x90 := by
  decide +kernel

/-- A commit of the roster in progress: tenant 3 becomes valid; nothing in flight. -/
def committing : State :=
  let s := heldWith [(Reg.ROSTER_STAT, 3)]
  { s with roster := { s.roster with copyCtx := some [(3, ⟨0xFF05, 0, 0⟩)] } }

/-- The roster drains, a get of the epoch before still in flight. -/
def draining (l : List (Nat × Word)) : State := plus getting ((Reg.ROSTER_STAT, 2) :: l)

theorem witness_RosterAndErrors :
    isScan k0 = true ∧ Tab.get (fun _ => none) State.reset.scan.tileErr k0.val = none ∧ Tab.get (fun _ => none) State.reset.scan.tileErr (64 + 16383 / 2048) = none ∧
    (loaded 0).now < 0 + 250000000 ∧ Tab.get (fun _ => none) (loaded 0).scan.tileErr 0 = some 0 ∧ (loaded 0).bit (Reg.SCAN_CORE_STAT 0) 0 = true ∧
    (withRegs [(Reg.ROSTER_HR_CTX 15, 0x1003)]).fld (Reg.ROSTER_HR_CTX 15) 13 12 = 1 ∧ (arrived committing).obeys m0 = true ∧ (arrived committing).bit Reg.ROSTER_STAT 1 = true ∧
    (arrived (heldWith [(Reg.ROSTER_STAT, 0)])).bit Reg.ROSTER_STAT 0 = false ∧ (arrived (heldWith [(Reg.ROSTER_STAT, 1)])).bit Reg.ROSTER_STAT 0 = true ∧
    (arrived (heldWith [(Reg.ROSTER_STAT, 1)])).commitRefusal (arrived (heldWith [(Reg.ROSTER_STAT, 1)])).roster.staged (arrived (heldWith [(Reg.ROSTER_STAT, 1)])).stagedRules = none ∧
    State.reset.roster.copyCtx = none ∧ committing.bit Reg.ROSTER_STAT 0 = true ∧ (validTenants [(3, (⟨0xFF05, 0, 0⟩ : TenantCtx))]) = [0, 3] ∧ committing.resident 0 = true ∧
    committing.entries = [] ∧ (draining []).bit Reg.ROSTER_STAT 0 = false ∧ (draining []).oldOps = [] ∧ (draining [(Reg.ROSTER_EPOCH, 1)]).oldOps ≠ [] := by decide

theorem witness_RosterAndErrors_refused :
    let s := arrived (heldWith [(Reg.ROSTER_STAT, 1), (Reg.ROSTER_RULE 0 0, 0x80000000)])
    s.obeys m0 = true ∧ s.bit Reg.ROSTER_STAT 1 = false ∧ s.bit Reg.ROSTER_STAT 0 = true ∧ (s.commitRefusal s.roster.staged s.stagedRules).isSome = true := by decide

theorem test_roster :
    (out .rosterTc committing).roster.ctx = [(3, ⟨0xFF05, 0, 0⟩)] ∧ (out .rosterTc committing).rd Reg.ROSTER_EPOCH = 1 ∧
    (out (.rosterCommit m0) (heldWith [(Reg.ROSTER_STAT, 1)])).bit Reg.ROSTER_STAT 1 = true ∧ (out (.rosterCommit m0) committing).fld Reg.ROSTER_STAT 11 8 = 1 ∧
    (out (.homeroomReloadDone 15) (withRegs [(Reg.ROSTER_HR_CTX 15, 0x1003)])).fld (Reg.ROSTER_HR_CTX 15) 13 12 = 2 ∧
    (out .rosterDrained (draining [])).bit Reg.ROSTER_STAT 0 = true ∧ (out .rosterDrained (draining [(Reg.ROSTER_EPOCH, 1)])).bit Reg.ROSTER_STAT 0 = false ∧
    ((out .drainBoundExpiry (draining [(Reg.ROSTER_EPOCH, 1)])).entry? 0).map (fun x => x.outcome) = some (some 13) ∧
    (out (.rosterRevert m0) (heldWith [(Reg.ROSTER_RULE 0 0, 5)])).rd (Reg.ROSTER_RULE 0 0) = 0 ∧
    bitOf (((out (.uncorrectableError (.point 3 2)) State.reset).point 3).word 2) 10 = true ∧ (loaded 0).isPoisoned ((Space.dmem k0).base + 0x22) = true := by decide +kernel

/-! ### The loop engine -/

/-- The loop engine with one message in its queue. -/
def loopMsg (typ : BitVec 10) (payload : List Word) (s : State) : State :=
  let sc := { s.scan with loopQ := [⟨typ, payload, none, 0, false, 0⟩] }
  { s with scan := sc }

/-- The payload of a BIND of slot 7: class 1, PI law, feedback point 20, output point 21. -/
def bind7 : List Word := [0x00000807, 0x00150014, 0, 0]

/-- Slot 7 bound. -/
def bound7 : State := out .loopBind (loopMsg 0x001 bind7 State.reset)

/-- Slot 7 with a change made to it. -/
def with7 (f : SlotSt → SlotSt) : State := bound7.setSlot 7 (f (bound7.slot 7))

theorem witness_LoopMessages :
    (loopMsg 0x001 bind7 State.reset).scan.loopQ = [⟨0x001, bind7, none, 0, false, 0⟩] ∧ (State.reset.slot 7).bind = none ∧
    (bound7.slot 7).bind = some (bindOf bind7).2 ∧ (bindOf bind7).1 = 7 ∧ State.reset.scan.loopQ = [] ∧
    bitOf (0x80000000 : Word) 31 = true ∧ bits (0x00020007 : Word) 18 16 = 2 ∧ bits (0x00030007 : Word) 18 16 = 3 ∧
    (with7 (fun x => { x with bind := x.bind.map (fun b => { b with trackEn := true }) }) |>.slot 7).bind.map (fun b => b.trackEn) = some true ∧
    (bound7.slot 7).feAction = 0 ∧ ((with7 (fun x => { x with feAction := 1 })).slot 7).feAction = 1 ∧
    ((out .opBind (loopMsg 0x010 [0x13, 0x00160015] State.reset)).oper 3).bind = some (0x15, some 0x16) ∧ (State.reset.oper 3).bind = none ∧
    State.reset.opMode 3 ≠ 5 ∧ (withRegs [(Reg.LOOP_STG_MODE 9, 0x50)]).opMode 3 = 5 ∧ bits (0x00070003 : Word) 18 16 = 7 ∧
    zoneItem 1 = some (208, false, 0) ∧ zoneItem 16 = some (227, true, 3) ∧ zoneItem 0 = none := by decide +kernel

theorem test_loop_messages :
    (bound7.slot 7).req = 1 ∧ bound7.scan.loopQ = [] ∧ ((out .loopUnbind (loopMsg 0x002 [7] bound7)).slot 7).bind = none ∧
    ((out .loopUnbind (loopMsg 0x002 [7] bound7)).point 21).plevel = 1 ∧ ((out .loopMode (loopMsg 0x004 [0x00020007, 0] bound7)).slot 7).req = 2 ∧
    ((out .loopParam (loopMsg 0x003 [0x00070007, 0x00400000] bound7)).slot 7).staged.toList.getD 7 0 = 0x00400000 ∧
    ((out .loopParam (loopMsg 0x003 [0x80070007, 0x00400000] bound7)).slot 7).act.toList.getD 7 0 = 0x00400000 ∧
    ((out .loopParam (loopMsg 0x003 [0x80070007, 0] bound7)).slot 7).paramErr = true ∧ out .loopBind (loopMsg 0x002 [7] bound7) = loopMsg 0x002 [7] bound7 := by
  decide +kernel

theorem test_operator_messages :
    (out .opParam (loopMsg 0x011 [0x00020009, 5] State.reset)).rd (Reg.LOOP_STG_PARAM 9 2) = 5 ∧
    (out .opMode (loopMsg 0x012 [0x00020003] State.reset)).fld (Reg.LOOP_STG_MODE 9) 2 0 = 2 ∧
    (out .opMode (loopMsg 0x012 [0x00040003] State.reset)).fld (Reg.LOOP_STG_MODE 9) 2 0 = 0 ∧
    (out .opMove (loopMsg 0x013 [3, 77] State.reset)).rd (Reg.LOOP_STG_TARGET 11) = 77 ∧
    (out .zone (loopMsg 0x020 [0xC5, 0] State.reset)).bit (Reg.LOOP_HZ_ZCFG 5) 0 = true ∧
    modelWord ((out .zone (loopMsg 0x020 [0x105, 9] State.reset)).zone 5).staged 208 = 9 ∧
    out .loopTriggerMsg (loopMsg 0x030 [] State.reset) = State.reset := by decide +kernel

/-- Slot 7 with its following-error timer at its time. -/
def erring : State := with7 (fun x => { x with feTime := 3, feTimer := 3 })

/-- A state whose session 0 is Prefect, with slot 7 bound and selected. -/
def held7 (f : SlotSt → SlotSt) : State :=
  let s := { with7 f with regs := held.regs }
  plus s [(Reg.LOOP_SLOT_SEL, 7)]

/-- A model of the smallest size. -/
def smallModel : Tab Word := [(196, 0x00400000), (204, 0x00400000), (216, 0x00400000), (244, 0x1222)]

/-- The Prefect with zone 5 selected and a model staged for it. -/
def zoned (m : Tab Word) (l : List (Nat × Word)) : State :=
  let s := heldWith ((Reg.LOOP_HZ_SEL, 5) :: l)
  { s with loop := { s.loop with zones := [(5, { ZoneSt.zero with staged := m, model := some m })], busy := [5] } }

theorem witness_LoopUnits :
    (erring.slot 7).bind = some (bindOf bind7).2 ∧ (erring.slot 7).feTime = 3 ∧ (erring.slot 7).feTime ≤ (erring.slot 7).feTimer ∧ (erring.slot 7).feAlarm = false ∧
    (State.reset.slot 2047).bind = none ∧
    (let s := withRegs [(Reg.LOOP_STG_FE 47, 0x20001), (Reg.LOOP_STG_STAT 47, 0x10000), (Reg.LOOP_STG_MODE 45, 0x30)]
     s.fld (Reg.LOOP_STG_FE 47) 15 0 = 1 ∧ s.fld (Reg.LOOP_STG_FE 47) 17 16 = 2 ∧ s.fld (Reg.LOOP_STG_STAT 47) 31 16 = 1 ∧ s.bit (Reg.LOOP_STG_STAT 47) 0 = false ∧ s.opMode 15 = 3) ∧
    (withRegs [(Reg.SYS_ID, 1)]).variant = 1 ∧ State.reset.variant ≠ 1 ∧
    ((State.reset.oper 15).par 0 4).lt ((⟨1, 1⟩ : Machine.Num).abs.max (⟨1, 1⟩ : Machine.Num).abs) = true ∧
    ((State.reset.oper 15).par 0 4).lt (((⟨1, 1⟩ : Machine.Num).abs.max (⟨1, 1⟩ : Machine.Num).abs).max (((⟨1, 1⟩ : Machine.Num).add ⟨1, 1⟩).neg.line).1.abs) = true ∧
    (withRegs [(Reg.LOOP_CTRL, 0)]).bit Reg.LOOP_CTRL 0 = false ∧ (arrived (held7 id)).obeys m0 = true ∧ (arrived (held7 id)).fld Reg.LOOP_SLOT_SEL 10 0 = 7 := by decide +kernel

theorem witness_LoopUnits_parameters :
    slotSetOk ((arrived (held7 id)).slot 7).staged.toList = false ∧
    slotSetOk ((arrived (held7 (fun x => { x with staged := x.staged.set 7 0x00400000 }))).slot 7).staged.toList = true ∧
    stageSetOk 0 [0, 0, 0, 0, 0, 0, 0, 0] = false ∧ stageSetOk 0 [0x00400000, 0, 0, 0, 0x00400000, 0, 0, 0] = true ∧
    stageSetOk 1 [0x00400000, 0, 0x00400000, 0, 0, 0, 0, 0] = true ∧ (arrived (heldWith [(Reg.SYS_ID, 1)])).variant = 1 ∧ (arrived held).variant ≠ 1 ∧
    (State.reset.loop.busy.contains 5) = false ∧ ((zoned smallModel []).loop.busy.contains 5) = true ∧ ((zoned smallModel []).zone 5).model = some smallModel ∧
    (arrived (zoned smallModel [])).obeys m0 = true ∧ (arrived (zoned smallModel [])).fld Reg.LOOP_HZ_SEL 5 0 = 5 ∧ modelOk smallModel = true ∧ modelOk [] = false ∧
    (List.range 16).all (fun c => !(arrived held).traceOn c || decide ((arrived held).fld Reg.LOOP_TR_TRIG 19 8 ≤ ((arrived held).trCh c).samples.length)) = true ∧
    (arrived (heldWith [(Reg.LOOP_TR_STAT, 1)])).fld Reg.LOOP_TR_STAT 1 0 = 1 ∧
    (List.range 16).all (fun c => !(arrived (heldWith [(Reg.LOOP_TR_CH 0, 1), (Reg.LOOP_TR_TRIG, 0x100)])).traceOn c ||
      decide ((arrived (heldWith [(Reg.LOOP_TR_CH 0, 1), (Reg.LOOP_TR_TRIG, 0x100)])).fld Reg.LOOP_TR_TRIG 19 8 ≤ 0)) = false := by decide +kernel

theorem test_loop_units :
    ((out (.feAlarm (.slot 7)) erring).slot 7).feAlarm = true ∧ (out (.feAlarm (.slot 7)) erring).rd Reg.LOOP_FE_CNT = 1 ∧
    (out (.feAlarm (.stage 47)) (withRegs [(Reg.LOOP_STG_FE 47, 0x20001), (Reg.LOOP_STG_STAT 47, 0x10000), (Reg.LOOP_STG_MODE 45, 0x30)])).opMode 15 = 5 ∧
    out (.currentPeriod [(3, [(true, false)])] (Vector.replicate 32 0)) (withRegs [(Reg.SYS_ID, 1)]) = withRegs [(Reg.SYS_ID, 1)] ∧
    ((out (.slotParamApply m0) (held7 id)).slot 7).paramErr = true ∧ (out (.slotWindowLatch m0 7) (held7 id)).loop.win.bind = some (bindOf bind7).2 ∧
    (out (.stageParamApply m0 0) held).bit (Reg.LOOP_STG_STAT 0) 3 = true ∧ (out (.hzDeadline 5) (zoned smallModel [])).loop.busy = [] ∧
    (out (.hzDeadline 5) (zoned smallModel [])).rd Reg.LOOP_HZ_DROP_CNT = 1 ∧ ((out (.modelCommit m0) (zoned smallModel [])).zone 5).next = some smallModel ∧
    (out (.modelCommit m0) (zoned [] [])).bit Reg.LOOP_HZ_STAT 7 = true ∧ (out (.traceArm m0) held).fld Reg.LOOP_TR_STAT 1 0 = 1 ∧
    (out (.traceStop m0) (heldWith [(Reg.LOOP_TR_STAT, 2)])).fld Reg.LOOP_TR_STAT 1 0 = 0 ∧
    (out (.traceTrigger m0) (heldWith [(Reg.LOOP_TR_STAT, 1)])).fld Reg.LOOP_TR_STAT 1 0 ≠ 1 := by decide +kernel

/-! ### Cars, doors and dispatch -/

/-- Car 0 enabled with the field die linked, and some more registers. -/
def carState (l : List (Nat × Word)) : State := withRegs ([(Reg.LIFT_CTRL, 1), (Reg.LIFT_CAR_CFG 0, 0x01004000), (Reg.FIELD_STAT, 0x100)] ++ l)

/-- Car 0 at landing 2's lower edge, moving up at 100 mm/s. -/
def risingCar (l : List (Nat × Word)) : State :=
  let s := carState ([(Reg.LIFT_CAR_STAT 0, 2), (Reg.LIFT_LAND 0 2 0, 50), (Reg.LIFT_LAND 0 2 1, 150), (Reg.LIFT_CAR_XCHK 0, 0x00100005)] ++ l)
  s.setCar 0 { s.car 0 with refPos := 45, vel := 100 }

theorem witness_CarPositions :
    (withRegs [(Reg.SYS_ID, 1)]).hasLift = false ∧ State.reset.hasLift = true ∧ State.reset.carOn 7 = false ∧ (carState []).carOn 0 = true ∧
    (carState []).carState 0 ≠ 3 ∧ (carState []).bit Reg.FIELD_STAT 8 = true ∧
    (let s := (carState [(Reg.LIFT_ENC_COUNT 0, 1000), (Reg.LIFT_CAR_MSCALE 0, 65536), (Reg.LIFT_CAR_XCHK 0, 5)]).setCar 0 { CarSt.zero with beyond := true }
     s.carOn 0 = true ∧ (s.car 0).beyond = true ∧ scaledPos 0 1000 (s.rd (Reg.LIFT_CAR_MSCALE 0)) = 1000 ∧
       scaledPos 0 0 (s.rd (Reg.LIFT_CAR_GSCALE 0)) = 0 ∧ s.fld (Reg.LIFT_CAR_XCHK 0) 15 0 < 1000) ∧
    State.reset.bit Reg.FIELD_STAT 8 = false ∧ (carState [(Reg.LIFT_CAR_STAT 0, 1)]).carState 0 = 1 ∧ (carState [(Reg.LIFT_DOOR_STAT 0, 2)]).doorState 0 = 2 := by decide +kernel

/-- The safety die's channel 0 runs and is linked. -/
def channelUp : State :=
  { State.reset with safe := { State.reset.safe with chans := State.reset.safe.chans.set 0 { State.reset.safe.chans[0] with running := true, link := true } } }

theorem witness_CarPositions_encoders :
    (carState []).bit Reg.FIELD_STAT 8 = true ∧ State.reset.bit Reg.FIELD_STAT 8 = false ∧ channelUp.safe.chans.toList.any (fun k => k.running && k.link) = true ∧
    State.reset.safe.chans.toList.any (fun k => k.running && k.link) = false ∧ (carState []).enc 5 = ⟨false, false, 0, 0, 0⟩ ∧
    (⟨false, false, 0, 0, 0⟩ : EncSt).sample 0 false (true, false) = (⟨true, false, 0, 0, 1⟩, false) ∧
    (⟨false, false, 1, 0, 7⟩ : EncSt).sample 1 true (true, false) = (⟨true, false, 0, 0, 6⟩, false) ∧
    ((⟨false, false, 1, 1, 7⟩ : EncSt).sample 1 true (true, true)).2 = true := by decide +kernel

theorem witness_CarPositions_edges :
    ((carState []).car 0).edgeAt = none ∧ ((carState []).car 0).vel.toInt.natAbs < 16 ∧ ((carState []).car 0).fifo.length < 16 ∧
    (risingCar []).carOn 0 = true ∧ ((risingCar []).car 0).vel.toInt.natAbs = 100 ∧ (risingCar []).carState 0 = 2 ∧ ((risingCar []).car 0).edgeAt = none ∧
    (List.range 128).filter (fun l => (risingCar []).landing 0 l && decide ((((risingCar []).posOf 0 0).toInt - (risingCar []).dzLo 0 l).natAbs ≤ (risingCar []).fld (Reg.LIFT_CAR_XCHK 0) 31 16)) = [2] ∧
    (List.range 128).filter (fun l => (risingCar [(Reg.LIFT_CAR_XCHK 0, 0)]).landing 0 l &&
      decide ((((risingCar [(Reg.LIFT_CAR_XCHK 0, 0)]).posOf 0 0).toInt - (risingCar [(Reg.LIFT_CAR_XCHK 0, 0)]).dzLo 0 l).natAbs ≤ 0)) = [] ∧
    (carState []).bit (Reg.LIFT_CAR_CFG 0) 24 = true ∧ ((carState []).setCar 0 { CarSt.zero with vel := 0xFFFFFFFF }).carState 0 ≠ 3 := by decide +kernel

/-- Session 0 is the Prefect, car 0 in FAULT with one capture. -/
def faultCar : State :=
  (heldWith [(Reg.LIFT_CAR_STAT 0, 3)]).setCar 0 { CarSt.zero with fifo := [{ falling := false, terminal := false, landing := 2, pos := 50 }] }

theorem witness_CarPositions_commands :
    (arrived faultCar).obeys m0 = true ∧ (arrived faultCar).carState 0 = 3 ∧ (arrived faultCar).hasLift = true ∧ (arrived (heldWith [(Reg.SYS_ID, 1)])).hasLift = false ∧
    (arrived faultCar).pwr.off = false ∧ (arrived faultCar).owns m0 = true ∧ (arrived State.reset).owns m0 = false ∧ ((arrived faultCar).car 0).fifo.length = 1 ∧
    ((arrived held).car 0).fifo = [] ∧ (arrived held).carState 0 ≠ 3 := by decide +kernel

theorem test_cars :
    (out (.encoderQerr 0) (carState [(Reg.LIFT_CAR_STAT 0, 1)])).carState 0 = 2 ∧ (out (.encoderQerr 0) (carState [])).fld (Reg.LIFT_ENC_QERR 0) 15 0 = 1 ∧
    (out (.doorZoneEdge 0 true 0 0) (risingCar [])).carState 0 = 1 ∧ ((out (.doorZoneEdge 0 true 0 0) (risingCar [])).car 0).refPos = 50 ∧
    (out (.doorZoneEdge 0 true 0 0) (risingCar [])).rd (Reg.LIFT_CAR_CORR 0) = 5 ∧
    (out (.terminalEdge 0 true 7 8) ((carState [(Reg.LIFT_CAR_TERM_POS 0, 20)]).setCar 0 { CarSt.zero with vel := 0xFFFFFFFF })).carState 0 = 1 ∧
    (out (.carClear m0 0) faultCar).carState 0 = 0 ∧ ((out (.captureFlush m0 0) faultCar).car 0).fifo = [] ∧ ((out (.dzcapPop m0 0) faultCar).car 0).fifo = [] ∧
    (out (.dzcapPop m0 0) faultCar).rd (Reg.LIFT_CAR_DZCAP_POS 0) = 50 ∧
    (out (.positionPeriod [(0, [(true, false), (true, true)])]) (carState [(Reg.LIFT_ENC_CFG 0, 0), (Reg.LIFT_CAR_MSCALE 0, 65536)])).rd (Reg.LIFT_CAR_POS 0) = 2 ∧
    (out (.positionPeriod [(0, [(false, true)])]) (carState [(Reg.LIFT_ENC_CFG 0, 0)])).rd (Reg.LIFT_ENC_COUNT 0) = 0xFFFFFFFF ∧
    (out (.positionPeriod [(0, [(true, true)])]) (carState [(Reg.LIFT_ENC_CFG 0, 0)])).fld (Reg.LIFT_ENC_QERR 0) 15 0 = 1 := by decide +kernel

/-- Door 0 in a state, its command point 10 and state point 11, its operator bound, and some more registers. -/
def doorIn (l : List (Nat × Word)) : State :=
  let s := withRegs ([(Reg.LIFT_CTRL, 1), (Reg.LIFT_DOOR_CFG 0, 1), (Reg.LIFT_DOOR_PTS 0, 0x000B000A), (Reg.LOOP_CTRL, 3), (Reg.LOOP_STG_MODE 0, 0x20)] ++ l)
  let s := (s.setPoint 10 (((Point.zero.setWord 3 7).setWord 6 1).setWord 0 1)).setPoint 11 (Point.zero.setWord 3 0x407)
  let x : OperSt := { OperSt.zero with bind := some (20, none) }
  let s := { s with loop := { s.loop with ops := s.loop.ops.set 0 x } }
  s.setDoor 0 { DoorSt.zero with applied := ((Vector.replicate 10 0x00400000).set 7 0).set 8 0x00200000 }

/-- Door 0 within the window of the end it moves to, since count 40. -/
def ending (st : Word) : State :=
  let s := doorIn [(Reg.LIFT_DOOR_STAT 0, st), (Reg.LIFT_DOOR_DERIVED 0 1, 0x00400000)]
  s.setDoor 0 { s.door 0 with closedAt := some 40, openAt := some 40 }

theorem witness_DoorSequencers :
    State.reset.bit (Reg.LIFT_DOOR_CFG 15) 0 = false ∧ (doorIn []).hasLift = true ∧ (doorIn []).bit (Reg.LIFT_DOOR_CFG 0) 0 = true ∧ (doorIn []).bit Reg.LIFT_CTRL 0 = true ∧
    (doorIn []).doorReady 0 = true ∧ (doorIn []).doorState 0 = 0 ∧ (doorIn [(Reg.LIFT_DOOR_STAT 0, 1)]).doorState 0 = 1 ∧ (doorIn []).pointWord 10 6 ≠ ((doorIn []).door 0).seq ∧
    bits ((doorIn []).pointWord 10 0) 3 0 = 1 ∧ doorNext 1 1 false true = some 2 ∧ doorNext 1 1 true true = none ∧ doorNext 4 8 true false = some 7 ∧
    (doorIn [(Reg.LIFT_DOOR_STAT 0, 0x41)]).learned 0 = true ∧ (doorIn [(Reg.LIFT_DOOR_STAT 0, 0x41)]).refLost 0 = false ∧
    (ending 4).closedNow 0 = true ∧ ((ending 4).door 0).closedAt = some 40 ∧ (ending 2).openNow 0 = true ∧ ((ending 2).door 0).openAt = some 40 ∧
    40 + 12500000 < 2 ^ 64 ∧ State.reset.closedNow 0 = false ∧ State.reset.openNow 0 = false := by decide +kernel

/-- Door 0 stalled while homing (9) or learning (8), in a phase. -/
def stalling (st : Word) (ph : Nat) (l : List (Nat × Word)) : State :=
  let s := doorIn ([(Reg.LIFT_DOOR_STAT 0, st), (Reg.LOOP_STG_STAT 1, 2)] ++ l)
  s.setDoor 0 { s.door 0 with phase := ph, stallAt := some 40 }

theorem witness_DoorSequencers_stall :
    State.reset.stalled 0 = false ∧ (stalling 9 0 []).stalled 0 = true ∧ (stalling 9 0 []).doorState 0 = 9 ∧ (stalling 8 1 []).doorState 0 = 8 ∧
    ((stalling 8 5 []).door 0).phase = 5 ∧ ((stalling 9 0 []).door 0).stallAt = some 40 ∧ 40 + 25000000 < 2 ^ 64 ∧ (stalling 2 0 []).stalled 0 = true ∧ ((Machine.Num.int ((stalling 8 2 []).doorPos 0)).lt ((((stalling 8 2 []).door 0).par 4).mul ⟨1, 10⟩)) = true ∧
    ((Machine.Num.int ((stalling 8 2 [(Reg.LIFT_ENC_COUNT 2, 100)]).doorPos 0)).lt ((((stalling 8 2 [(Reg.LIFT_ENC_COUNT 2, 100)]).door 0).par 4).mul ⟨1, 10⟩)) = false ∧
    ((stalling 9 0 []).door 0).since + 60 * 250000000 < 2 ^ 64 := by decide +kernel

theorem test_doors :
    (out .doorPositionPeriod (doorIn [])).doorState 0 = 7 ∧ (out (.doorCommand 0) (doorIn [(Reg.LIFT_DOOR_STAT 0, 0x41)])).doorState 0 = 2 ∧
    (out (.doorCommand 0) (doorIn [(Reg.LIFT_DOOR_STAT 0, 1)])).bit (Reg.LIFT_DOOR_STAT 0) 5 = true ∧
    (out (.doorClosedReached 0) (ending 4)).doorState 0 = 1 ∧ (out (.doorClosedReached 0) (ending 4)).now = 12500040 ∧
    ((out (.doorClosedReached 0) (ending 4)).point 11).word 0 = 1 ∧
    (out (.doorOpenReached 0) (ending 2)).doorState 0 = 3 ∧
    (out (.doorStall 0) (stalling 9 0 [])).doorState 0 = 1 ∧ ((out (.doorStall 0) (stalling 8 1 [])).door 0).phase = 2 ∧
    (out (.homingTimeout 0) (doorIn [(Reg.LIFT_DOOR_STAT 0, 9)])).doorState 0 = 7 ∧ (out (.homingTimeout 0) (doorIn [(Reg.LIFT_DOOR_STAT 0, 9)])).now = 15000000000 ∧
    (out (.learnTimeout 0) (doorIn [(Reg.LIFT_DOOR_STAT 0, 8)])).fld (Reg.LIFT_DOOR_STAT 0) 18 16 = 2 := by decide +kernel

/-- The dispatch assist unit with one message in its queue and call 9 in a state. -/
def dispMsg (typ : BitVec 10) (payload : List Word) (st : BitVec 3) : State :=
  let sc := { State.reset.scan with dispQ := [⟨typ, payload, none, 0, false, 40⟩] }
  let d := { State.reset.disp with calls := if st = 0 then [] else [(9, { CallSt.zero with state := st, orig := 4, dest := 6, group := 14, answer := some 30 })] }
  { State.reset with scan := sc, disp := d }

/-- A cycle in progress. -/
def cycling : State :=
  let d := { State.reset.disp with work := some ⟨100, [], Vector.replicate 8 [], [], [], 0xFF, 12, false⟩ }
  { State.reset with disp := d }

theorem witness_Dispatching :
    State.reset.scan.dispQ = [] ∧ cycling.disp.work.isSome = true ∧ (dispMsg 1 [0x00200304, 0x801E, 9] 0).scan.dispQ.length = 1 ∧
    bitOf (0x109 : Word) 8 = true ∧ ((dispMsg 1 [0x00200304, 0x801E, 0x109] 1).call 9).state ≠ 0 ∧ (dispMsg 2 [9] 1).disp.work = none ∧
    ((dispMsg 2 [9] 0).call 9).state = 0 ∧ (dispMsg 3 [0x20] 2).disp.calls.length = 1 ∧ bits (0x20 : Word) 9 3 = 4 ∧ ((dispMsg 3 [0x30] 4).call 9).dest.toNat = bits (0x30 : Word) 9 3 ∧
    100 + 11250000 < 2 ^ 64 ∧ (arrived held).hasLift = true := by decide +kernel

theorem test_late_commit_is_dropped :
    (let s := cycling.advanceTo 11250101
     s.now = 11250101 ∧ (out .dispatchCommit s).rd Reg.DISP_DROP_CNT = 1 ∧ (out .dispatchCommit s).rd Reg.DISP_CAND = 0) := by decide +kernel

theorem test_dispatch :
    ((out .callAdd (dispMsg 1 [0x00200304, 0x801E, 9] 0)).call 9).state = 1 ∧ ((out .callAdd (dispMsg 1 [0x00200304, 0x801E, 0x109] 1)).call 9).group = 15 ∧
    ((out .callCancel (dispMsg 2 [9] 1)).call 9).state = 0 ∧ (out .callCancel (dispMsg 2 [9] 1)).disp.ended.length = 1 ∧
    ((out .stopDone (dispMsg 3 [0x20] 2)).call 9).state = 4 ∧ ((out .stopDone (dispMsg 3 [0x30] 4)).call 9).state = 0 ∧
    (out .dispatchCommit cycling).rd Reg.DISP_CAND = 12 ∧ (out .dispatchCommit cycling).disp.work.isSome = false ∧ (out .dispatchDrop cycling).rd Reg.DISP_DROP_CNT = 1 ∧
    (out .dispatchDrop cycling).now = 11250100 ∧ (out (.dispatchCallLatch m0 9) held).rd Reg.DISP_CALL_SEL = 9 := by decide +kernel

/-! ### The safety die and metering -/

/-- Both channels of the safety die run, car 0 is released and asks for CORRECTION (mode 1), under parameters that enable it. -/
def released0 : State :=
  let p : SafetyCar := { enabled := true, overspeed := 1000, vCorr := 300, vLevel := 200, vDoor := 100, ucmDist := 100, levelDist := 50, govScale := 1, relayMs := 20, roles := Vector.replicate 24 0 }
  let set : SafetySet := { id := 9, key := [], sig := [], cars := (paramSet 0).cars.set 0 p }
  let q : SafeReq := { mode := 1, release := false, doorF := false, doorR := false, posState := 0, xchk := false, recvAt := 0, judged := false, counted := false }
  let k : ChanSt := { ChanSt.zero with running := true, reqs := ChanSt.zero.reqs.set 0 (some q) }
  let car : SafeCar := { released := true, latch := 0, refusals := 0, operated := none, clearable := false, inTime := false }
  let f := { State.reset.safe with chans := Vector.replicate 2 k, cars := State.reset.safe.cars.set 0 car, params := some set }
  { State.reset with safe := f }

/-- Inputs of a car at rest with every tap energised. -/
def atRest : SafeIn := { dead := 0, dz := false, rate := 0, gov := 0, runRb := false, doorRb := false }

/-- Channel 0 has evaluated car 0, and both have. -/
def granted0 : State := released0.evalCar 0 0 atRest
def grantedBoth : State := granted0.evalCar 1 0 atRest

theorem witness_SafetyDie :
    (withRegs [(Reg.SYS_ID, 1)]).hasLift = false ∧ released0.hasLift = true ∧ (released0.chan 0).running = true ∧ (released0.chan 0).link = true ∧
    (plus released0 [(Reg.LIFT_CAR_STAT 7, 0x800)]).bit (Reg.LIFT_CAR_STAT 7) 11 = true ∧ (State.reset.chan 1).running = false ∧
    released0.bit Reg.SYS_ROLL_STAT 0 = false ∧ ((granted0.chan 0).car 0).mode = 1 ∧ grantedBoth.relayOn 0 = true ∧ State.reset.grantsDiffer 7 = false ∧
    granted0.grantsDiffer 0 = true ∧ ((grantedBoth.chan 0).readback 0 != grantedBoth.relayOn 0) = true ∧ ((State.reset.chan 0).readback 15 != State.reset.relayOn 15) = false ∧
    (State.reset.safeCar 0).clearable = false ∧ ((State.reset.setSafeCar 3 { State.reset.safeCar 3 with clearable := true, latch := 5 }).safeCar 3).clearable = true ∧
    State.reset.setVerified (paramSet 96) = false ∧ State.reset.safe.asked = none ∧ released0.safe.chans.toList.any (fun k => k.running && k.link) = true ∧ released0.inRecess = false ∧ State.reset.safe.chans.toList.any (fun k => k.running && k.link) = false := by decide +kernel

/-- A parameter set passes where the opaque checks of R199 say so: the key's digest is the fused one and the signature verifies. -/
theorem witness_SafetyDie_verified (h : Config.verify 1 [] (bytesOf 96) (paramSet 96).bytes = true) :
    State.setVerified { State.reset with key := { State.reset.key with safetyKey := some (Config.sha256 []) } } (paramSet 96) = true := by
  have h2 : (paramSet 96).cars.toList.all SafetyCar.inRange = true := by decide
  have h3 : (paramSet 96).key = [] := rfl
  have h4 : (paramSet 96).sig = bytesOf 96 := rfl
  simp [State.setVerified, h2, h3, h4, h]

/-- A parameter set asked for at count 0; the module's time is t. -/
def asking (t : BitVec 64) : State :=
  { released0 with safe := { released0.safe with asked := some (paramSet 96, 0) }, cnt := t }

/-- The RESET of car 0 was operated in time. -/
def inTime0 (s : State) : State := s.setSafeCar 0 { s.safeCar 0 with inTime := true }

theorem witness_SafetyDie_apply :
    (asking 150000000001).safeNow > 0 + 150000000000 ∧ (asking 150000000000).safeNow ≤ 0 + 150000000000 ∧
    (asking 5).enabledCars = [0] ∧ (asking 5).enabledCars.all (fun c => ((asking 5).safeCar c).inTime) = false ∧
    (inTime0 (asking 5)).enabledCars.all (fun c => ((inTime0 (asking 5)).safeCar c).inTime) = true ∧
    (inTime0 (asking 5)).enabledCars.all (inTime0 (asking 5)).carSafe = true ∧
    (let s := { inTime0 (asking 5) with safe := { (inTime0 (asking 5)).safe with chans := grantedBoth.safe.chans } }
     s.enabledCars.all (fun c => (s.safeCar c).inTime) = true ∧ s.enabledCars.all s.carSafe = false) := by decide +kernel

theorem test_safety :
    ((out (.safetyEvaluation 0 (Vector.replicate 8 atRest)) released0).chan 0).car 0 = (granted0.chan 0).car 0 ∧
    ((out (.grantDisagree 0) granted0).safeCar 0).latch = 16 ∧ ((out (.relayReadbackFail 0 0) grantedBoth).safeCar 0).latch = 8 ∧
    ((out (.latchClear 3) (State.reset.setSafeCar 3 { State.reset.safeCar 3 with clearable := true, latch := 5 })).safeCar 3).latch = 0 ∧
    (out .safetyParamApply (asking 150000000001)).safe.asked = none ∧ ((out .safetyDieStart released0).safeCar 0).released = false ∧
    (out .safeMirrorUpdate released0).rd Reg.SAFE_SEQ = 1 ∧ (out .safeMirrorUpdate released0).rd Reg.SAFE_PARAM_ID = 9 ∧
    ((out .safetyRequest released0).chan 0).reqs.toList.getD 0 none = some (released0.carRequest 0) ∧
    out (.safetyParamRequest (paramSet 96)) State.reset = State.reset := by decide +kernel

/-- The metering die enabled and merged. -/
def metered (l : List (Nat × Word)) : State :=
  let s := withRegs ((Reg.METER_CTRL, 1) :: l)
  { s with meter := { s.meter with merged := true } }

/-- A cycle without a phase. -/
def noCycle : CycleRes := { phases := Vector.replicate 3 none, n2 := 0, freq := 50000, pos2 := 0, neg2 := 0, extrap := false, clip := false, noV := false, locked := true }

/-- A cycle with one phase. -/
def oneCycle : CycleRes := { noCycle with phases := noCycle.phases.set 0 (some ⟨0, 2 ^ 60, 2 ^ 40, 0, 0, 0, 0⟩) }

theorem witness_Metering :
    (withRegs [(Reg.METER_CTRL, 0)]).metering = false ∧ (metered []).metering = true ∧ State.reset.creeping 0 noCycle = true ∧ State.reset.creeping 0 oneCycle = false ∧
    (let s := held; ({ s with meter := { s.meter with link := false } } : State).meter.link) = false ∧ (arrived held).meter.link = true ∧ (arrived held).obeys m0 = true ∧
    (arrived (heldWith [(Reg.KEY_LCS, 1)])).fld Reg.KEY_LCS 2 0 = 1 ∧ (arrived held).fld Reg.KEY_LCS 2 0 ≠ 1 ∧
    (List.range 54).all (fun ch => ((arrived held).stagedCal ch).ok) = false ∧
    (State.reset.mckt 0).since.toList.getD 5 none = none ∧ (metered []).meter.link = true ∧ (metered []).meter.merged = true ∧ State.reset.meter.saving = none ∧
    State.reset.meter.battery = none ∧ State.reset.hasMeter = true ∧ State.reset.meter.merged = false ∧ State.reset.latestSave = none ∧ (arrived held).hasMeter = true ∧ (arrived (heldWith [(Reg.SYS_ID, 2)])).hasMeter = false ∧ (metered []).meterOn = true ∧ (withRegs [(Reg.METER_CTRL, 0)]).meterOn = true ∧ (withRegs [(Reg.SYS_ID, 2)]).meterOn = false ∧ (withRegs [(Reg.SYS_ID, 2)]).hasMeter = false ∧
    State.reset.locketLocked = false ∧ (withRegs [(Reg.KEY_TAMPER_STAT, 0x10000)]).locketLocked = true := by decide +kernel

/-- Every channel's staged calibration acceptable: one breakpoint, full scale 1. -/
def calibrated : State :=
  { held with regs := held.regs ++ (List.range 6).map (fun v => (Reg.METER_VCH_FS v, 1)) ++ (List.range 48).map (fun ch => (Reg.METER_CAL_FS ch, 1)) }

/-- A state with no module held: circuit 2 has shown REVERSE since count 100. -/
def reversed : State :=
  let x : MeterCkt := { MeterCkt.zero with since := MeterCkt.zero.since.set 0 (some 100) }
  { State.reset with meter := { State.reset.meter with ckts := State.reset.meter.ckts.set 2 x } }

/-- A save on its way since count 7, and the battery sequencer running. -/
def saving7 : State := { metered [] with meter := { (metered []).meter with saving := some ([(0, 5)], 7) } }
def onBattery : State := { State.reset with meter := { State.reset.meter with battery := some BatSt.zero } }

theorem witness_Metering_more :
    (List.range 54).all (fun ch => ((arrived calibrated).stagedCal ch).ok) = true ∧ (arrived calibrated).obeys m0 = true ∧
    (reversed.mckt 2).since.toList.getD (condIndex .reverse) none = some 100 ∧ (reversed.mckt 2).episode.toList.getD 0 false = false ∧
    (metered []).meter.lastSave + 4095 * 250000000 < 2 ^ 64 ∧ saving7.meter.saving = some ([(0, 5)], 7) ∧ onBattery.meter.battery = some BatSt.zero ∧
    bitOf (0x80000000 : Word) 31 = true ∧ kindDefined 1 0 false = true ∧ kindDefined 0 0 false = false ∧
    (((arrived held).setPoint 4 (Point.zero.setWord 3 0x1006)).point 4).producer = 4 ∧ (arrived held).qmap = [] ∧
    (metered [(Reg.METER_PULSE_CFG 7, 1), (Reg.METER_PULSE_STAT 7, 2)]).fld (Reg.METER_PULSE_STAT 7) 15 0 = 2 ∧
    bitOf ((metered [(Reg.METER_PULSE_CFG 7, 1), (Reg.METER_PULSE_STAT 7, 2)]).rd (Reg.METER_PULSE_CFG 7)) 0 = true := by decide +kernel

theorem test_metering :
    (out (.meterSnap m0) held).meter.snapWait = Vector.replicate 2 true ∧ (out (.calApply m0) held).bit Reg.METER_STAT 6 = true ∧
    (out (.calApply m0) calibrated).rd Reg.METER_CAL_GEN = 1 ∧ (out (.meterSupervision 2 .reverse) reversed).bit (Reg.METER_CKT_STAT 2) 1 = true ∧
    (out .meterSave (metered [])).meter.saving.isSome = true ∧ (out .saveConfirmed saving7).meter.base = [(0, 5)] ∧ (out .saveConfirmed saving7).meter.saving = none ∧ (out .saveLate saving7).bit Reg.METER_STAT 2 = true ∧
    (out (.qmapWrite m0 3 0x80000000) held).bit Reg.METER_STAT 7 = true ∧ (out (.batClr m0 1) (heldWith [(Reg.METER_CKT_BAT 1, 5)])).rd (Reg.METER_CKT_BAT 1) = 0 ∧
    (out (.batteryMeasure []) onBattery).meter.battery.map (fun b => b.secs) = some 1 ∧
    (out (.pulseEmit 7) (metered [(Reg.METER_PULSE_CFG 7, 1), (Reg.METER_PULSE_STAT 7, 2)])).fld (Reg.METER_PULSE_STAT 7) 15 0 = 1 := by decide +kernel

theorem test_metering_more :
    out (.meterSnap m0) (heldWith [(Reg.SYS_ID, 2)]) = arrived (heldWith [(Reg.SYS_ID, 2)]) ∧
    (out (.meterClrAll m0) (heldWith [(Reg.KEY_LCS, 1)])).meter.regs = [] ∧ (out .batteryRecordWrite onBattery).locket = [] ∧
    (out (.lineCycle 0 ⟨50000, Vector.replicate 3 []⟩ []) (withRegs [(Reg.SYS_ID, 2)])).bit Reg.METER_STAT 0 = false ∧ (State.reset.registerEnergy 0 oneCycle 10).meter.regs ≠ [] := by decide +kernel

/-! ### Field I/O and DALI -/

/-- A module in RECESS. -/
def recess (s : State) : State := { s with pwr := { s.pwr with sleep := some ⟨3, 0, 0, true, none⟩ } }

/-- Session 0 is the Prefect and the field die is linked, with some more registers. -/
def fieldHeld (l : List (Nat × Word)) : State := heldWith ((Reg.FIELD_STAT, 0x100) :: l)

/-- The field die linked, with some more registers. -/
def fieldUp (l : List (Nat × Word)) : State := withRegs ((Reg.FIELD_STAT, 0x100) :: l)

/-- A binding is acceptable at an address (R221). -/
def bindable (s : State) (a : Nat) (v : Word) : Bool :=
  ((bindingsOf a v).getD []).all s.bindOk && !daliRefused a v &&
    ((((bindingsOf a v).getD []).filter (fun b => b.producer.isSome)).map (fun b => b.idx)).all (fun i => !(s.boundInputs a).contains i)

theorem witness_FieldIO :
    (arrived held).obeys m0 = true ∧ (arrived held).fieldLink = false ∧ (arrived (fieldHeld [])).obeys m0 = true ∧ (arrived (fieldHeld [])).fieldLink = true ∧
    bindingsOf 0xB0000 1 = none ∧ (bindingsOf (Reg.FIELD_DO_SRC 63) 0x80000001).isSome = true ∧
    bindable (arrived (fieldHeld [])) (Reg.FIELD_DO_SRC 63) 0x80000001 = true ∧ bindable (arrived (fieldHeld [])) (Reg.FIELD_DI_CFG 95) 0x4001 = false ∧
    bindable (arrived held) (Reg.DALI_EVT 1023) 0xE0000001 = false ∧ bindable (arrived held) (Reg.DALI_EVT 1023) 1 = true ∧
    (arrived (fieldHeld [])).inRecess = false ∧ (recess State.reset).inRecess = true ∧ bitOf ((recess State.reset).rd (Reg.FIELD_DI_CFG 0)) 20 = false ∧
    (fieldUp [(Reg.FIELD_DO_STAT 5, 1)]).doDriven 5 = true ∧ State.reset.doDriven 63 = false ∧ State.reset.fld (Reg.FIELD_DO_STAT 5) 4 2 ≠ 2 ∧
    (fieldUp [(Reg.FIELD_DO_STAT 5, 8)]).fld (Reg.FIELD_DO_STAT 5) 4 2 = 2 ∧ BitVec.toNat (4400 : BitVec 13) = 4400 ∧ 4400 < BitVec.toNat (4401 : BitVec 13) := by decide +kernel

theorem witness_FieldIO_more :
    (fieldUp [(Reg.FIELD_DO_STAT 5, 0x70C)]).fld (Reg.FIELD_DO_STAT 5) 4 2 = 3 ∧ (fieldUp [(Reg.FIELD_DO_STAT 5, 0x70C)]).bit (Reg.FIELD_DO_STAT 5) 5 = false ∧
    (fieldUp [(Reg.FIELD_DO_STAT 5, 0x70C)]).fld (Reg.FIELD_DO_STAT 5) 11 8 = 7 ∧ (fieldUp [(Reg.FIELD_DO_GRP 7, 0x2000)]).bit (Reg.FIELD_DO_GRP 7) 13 = true ∧
    (fieldUp [(Reg.FIELD_DO_GRP 7, 0x6000)]).bit (Reg.FIELD_DO_GRP 7) 14 = true ∧ (arrived (fieldHeld [(Reg.FIELD_DO_STAT 5, 0x2C)])).bit (Reg.FIELD_DO_STAT 5) 5 = true ∧
    State.reset.inRecess = false ∧ bits (0x00010000 : Word) 18 16 = 1 ∧ bits (0x00050000 : Word) 18 16 = 5 ∧ bits ((fieldUp []).rd (Reg.FIELD_AI_CFG 31)) 18 16 = 0 ∧
    (fieldUp [(Reg.FIELD_AI_RAW 31, 0x40000)]).fld (Reg.FIELD_AI_RAW 31) 18 16 = 4 ∧
    (let s := fieldUp [(Reg.FIELD_GEN_CFG 15, 1), (Reg.FIELD_GEN_CS 15 1, 0x4005)]
     s.genMode 15 && bitOf (s.rd (Reg.FIELD_GEN_CS 15 1)) 14 && s.fieldLink && !s.inRecess) = true ∧ State.reset.genMode 0 = false := by decide +kernel

/-- Output 5 latched NO_ON (code 1), with code 2 or 5 shown over it. -/
def latched5 (code : Word) : State :=
  let s := fieldUp [(Reg.FIELD_DO_STAT 5, 0x20 + 4 * code), (Reg.FIELD_DO_GRP 0, 0x2000)]
  { s with field := { s.field with doHeld := [(5, 1)] } }

theorem witness_FieldIO_latched :
    (latched5 2).fld (Reg.FIELD_DO_STAT 5) 4 2 = 2 ∧ (latched5 2).bit (Reg.FIELD_DO_STAT 5) 5 = true ∧ Tab.get (fun _ => 0) (latched5 2).field.doHeld 5 % 8 = 1 ∧
    (fieldUp [(Reg.FIELD_DO_STAT 5, 8)]).bit (Reg.FIELD_DO_STAT 5) 5 = false ∧ (latched5 5).bit (Reg.FIELD_DO_GRP 0) 13 = true ∧
    (fieldUp []).bit Reg.FIELD_STAT 7 = false ∧ (fieldUp []).field.vfldBack.toList.getD 7 none = none ∧
    (out (.vfldRestore 7) (out (.vfldLow 7) (fieldUp []))).field.vfldBack.toList.getD 7 none = some 0 ∧ (out (.vfldLow 7) (fieldUp [])).bit Reg.FIELD_STAT 7 = true ∧
    (withRegs [(Reg.FIELD_CTRL, 0)]).fieldOut = false ∧ (recess (fieldUp [(Reg.FIELD_GEN_CFG 15, 1)])).genMode 15 = true ∧ 5 ∈ grpChannels 0 := by decide +kernel

theorem test_field_latched :
    (out (.stuckOnClear 5) (latched5 2)).fld (Reg.FIELD_DO_STAT 5) 4 2 = 1 ∧ (out (.stuckOnClear 5) (latched5 2)).bit (Reg.FIELD_DO_STAT 5) 5 = true ∧
    (out (.doGroupOverload 0 4401) (latched5 5)).fld (Reg.FIELD_DO_GRP 0) 12 0 = 4401 ∧ (out (.doGroupOverload 0 4401) (latched5 5)).fld (Reg.FIELD_DO_STAT 5) 4 2 = 5 ∧
    (out (.vfldRestore 7) (out (.vfldLow 7) (fieldUp []))).readbackChecked 7 = false ∧ (recess (fieldUp [(Reg.FIELD_GEN_CFG 15, 1)])).gateOn 95 = 0 := by decide +kernel

theorem test_field :
    (out (.channelBind m0 (BitVec.ofNat 24 (Reg.FIELD_DO_SRC 63)) 0x80000001) (fieldHeld [])).rd (Reg.FIELD_DO_SRC 63) = 0x80000001 ∧
    (out (.channelBind m0 (BitVec.ofNat 24 (Reg.FIELD_DI_CFG 95)) 0x4001) (fieldHeld [])).bit Reg.FIELD_STAT 9 = true ∧
    (out (.channelBind m0 (BitVec.ofNat 24 (Reg.FIELD_DI_CFG 95)) 0x4001) held).fld Reg.SYS_BUS_ERR 31 24 = 1 ∧
    (out (.fieldOutEnable m0 3) (fieldHeld [])).rd Reg.FIELD_CTRL = 1 ∧ (out (.diSample 0 true) (fieldUp [])).bit (Reg.FIELD_DI_STAT 0) 0 = true ∧
    (out (.doOverload 5) (fieldUp [(Reg.FIELD_DO_STAT 5, 1)])).fld (Reg.FIELD_DO_STAT 5) 4 2 = 3 ∧
    (out (.doOverTemperature 5) (fieldUp [(Reg.FIELD_DO_STAT 5, 1)])).fld (Reg.FIELD_DO_STAT 5) 4 2 = 4 ∧
    (out (.doReadbackFault 5 false) (fieldUp [(Reg.FIELD_DO_STAT 5, 1)])).fld (Reg.FIELD_DO_STAT 5) 4 2 = 1 ∧
    (out (.stuckOnClear 5) (fieldUp [(Reg.FIELD_DO_STAT 5, 8)])).fld (Reg.FIELD_DO_STAT 5) 4 2 = 0 ∧
    (out (.doGroupOverload 7 4401) (fieldUp [])).fld (Reg.FIELD_DO_STAT 63) 4 2 = 5 ∧ (out (.doGroupOverload 7 4400) (fieldUp [])).bit (Reg.FIELD_DO_GRP 7) 13 = false := by decide +kernel

theorem test_field_more :
    (out (.doRetry (.channel 5) false) (fieldUp [(Reg.FIELD_DO_STAT 5, 0x70C)])).bit (Reg.FIELD_DO_STAT 5) 5 = true ∧
    (out (.doRetry (.channel 5) true) (fieldUp [(Reg.FIELD_DO_STAT 5, 0x70C)])).fld (Reg.FIELD_DO_STAT 5) 4 2 = 0 ∧
    (out (.doClear m0 5) (fieldHeld [(Reg.FIELD_DO_STAT 5, 0x2C)])).fld (Reg.FIELD_DO_STAT 5) 4 2 = 0 ∧
    (out (.doGroupClear m0 7) (fieldHeld [(Reg.FIELD_DO_GRP 7, 0x6000)])).bit (Reg.FIELD_DO_GRP 7) 14 = false ∧
    (out (.vfldLow 7) (fieldUp [])).fld (Reg.FIELD_DO_STAT 56) 4 2 = 6 ∧ (out (.vfldRestore 7) (out (.vfldLow 7) (fieldUp []))).fld (Reg.FIELD_DO_STAT 56) 4 2 = 0 ∧
    (out (.aiConversion 31 0xABCD 11000000) (fieldUp [(Reg.FIELD_AI_CFG 31, 0x00010000)])).fld (Reg.FIELD_AI_RAW 31) 18 16 = 3 ∧
    (out (.aiConversion 31 0xABCD 3500) (fieldUp [(Reg.FIELD_AI_CFG 31, 0x00030000)])).fld (Reg.FIELD_AI_RAW 31) 18 16 = 1 ∧
    (out (.aiShuntRetry 31) (fieldUp [(Reg.FIELD_AI_RAW 31, 0x40000)])).fld (Reg.FIELD_AI_RAW 31) 18 16 = 0 := by decide +kernel

/-- DALI line 15 in a state, addressed, with one entry of each map: output 0 and event 2 of point 30 (device 3, instance 1). -/
def daliIn (s : State) (st : Word) (l : List (Nat × Word)) : State :=
  let s := plus s ([(Reg.DALI_LINE_STAT 15, st), (Reg.DALI_EVT 2, 0x810FC01E), (Reg.DALI_LINE_CFG 15, 0x0C04)] ++ l)
  s.setDaliLine 15 { addressed := true, pend := [(0, 100)] }

theorem witness_DaliLines :
    (daliIn State.reset 2 []).daliState 15 = 2 ∧ State.reset.daliState 0 < 2 ∧ (daliIn State.reset 1 []).daliState 15 = 1 ∧ ((daliIn State.reset 1 []).daliLine 15).addressed = true ∧
    ((plus State.reset [(Reg.DALI_LINE_STAT 0, 1)]).daliLine 0).addressed = false ∧ (arrived (daliIn held 3 [])).obeys m0 = true ∧ (arrived (daliIn held 3 [])).daliState 15 = 3 ∧
    (State.reset.daliLine 0).pend = [] ∧ ((daliIn State.reset 3 []).daliLine 15).pend = [(0, 100)] ∧
    ((daliIn State.reset 3 []).bit Reg.DALI_RAW_STAT 0 && (daliIn State.reset 3 []).fld Reg.DALI_RAW_CTRL 3 0 == 15) = false ∧
    (daliIn State.reset 3 []).daliEvts (fun w => bits w 17 14 == 15 && bits w 23 18 == 3 && bits w 28 24 == 1 && bits w 30 29 == 0) = [2] ∧
    (daliIn State.reset 3 []).daliEvts (fun w => bits w 17 14 == 15 && bits w 23 18 == 4 && bits w 28 24 == 1 && bits w 30 29 == 0) = [] ∧
    ((daliIn State.reset 3 []).daliEv 2).last = none ∧ ((daliIn State.reset 3 []).daliEv 2).held = none ∧ (daliIn State.reset 3 []).daliEvtPoint 2 = 30 := by decide +kernel

/-- The event entry after one event, and after a second one within the gap. -/
def eventOnce : State := state (execDaliEvent 15 3 1 0x2A5 7 (daliIn State.reset 3 []))
def eventTwice : State := state (execDaliEvent 15 3 1 0x111 7 eventOnce)

/-- Event entry 2 polled, nothing else waiting for the line. -/
def polled : State := (daliIn State.reset 3 [(Reg.DALI_EVT 2, 0xA10FC01E)]).setDaliLine 15 { addressed := true, pend := [] }

theorem witness_DaliLines_events :
    (eventOnce.daliEv 2).last = some 0 ∧ (eventOnce.daliEv 2).held = none ∧ 0 + eventOnce.daliGap 2 > eventOnce.now ∧
    (eventTwice.daliEv 2).held = some (0x111, 7, 0) ∧ (eventTwice.daliEv 2).last = some 0 ∧ 0 + eventTwice.daliGap 2 < 2 ^ 64 ∧
    (let s := polled
     bitOf (s.rd (Reg.DALI_EVT 2)) 31 && (bits (s.rd (Reg.DALI_EVT 2)) 30 29 == 1 || bits (s.rd (Reg.DALI_EVT 2)) 30 29 == 2) && s.daliState 15 == 3 &&
       s.fld (Reg.DALI_LINE_CFG 15) 9 2 != 0 && (s.daliLine 15).pend.isEmpty && !s.daliRawBusy 15 && (s.daliEv 2).answer != some (some 9)) = true ∧
    (arrived held).bit Reg.DALI_RAW_STAT 0 = false ∧ (arrived (heldWith [(Reg.DALI_RAW_STAT, 1)])).bit Reg.DALI_RAW_STAT 0 = true := by decide +kernel

theorem test_dali :
    (out (.daliBusFail 15) (daliIn State.reset 3 [])).daliState 15 = 1 ∧ (out (.daliBusReturn 15) (daliIn State.reset 1 [])).daliState 15 = 3 ∧
    (out (.daliAddress m0 15) (daliIn held 3 [])).daliState 15 = 2 ∧ (out (.addressingEnd 15 3 1 true false) (daliIn State.reset 2 [])).fld (Reg.DALI_LINE_STAT 15) 8 2 = 2 ∧
    (out (.daliOutputSend 15 4) (daliIn State.reset 3 [])).fld (Reg.DALI_LINE_ERR 15) 31 16 = 1 ∧ (out (.daliOutputSend 15 0) (daliIn State.reset 3 [])).reply = [15, 0, 100] ∧
    (eventOnce.point 30).word 0 = 0x2A5 ∧ (eventTwice.point 30).word 0 = 0x2A5 ∧ ((out (.daliGapExpiry 2) eventTwice).point 30).word 0 = 0x111 ∧
    ((out (.daliPoll 2 (some 9)) polled).point 30).word 0 = 9 ∧
    out (.daliPoll 2 (some 9)) (daliIn State.reset 3 [(Reg.DALI_EVT 2, 0xA10FC01E)]) = daliIn State.reset 3 [(Reg.DALI_EVT 2, 0xA10FC01E)] ∧
    (out (.daliRawGo m0) (daliIn held 3 [(Reg.DALI_RAW_CTRL, 15)])).bit Reg.DALI_RAW_STAT 0 = true ∧ (out (.daliRawGo m0) held).fld Reg.DALI_RAW_STAT 3 1 = 4 ∧
    (out (.daliRawDone 0 0x55) (withRegs [(Reg.DALI_RAW_STAT, 1), (Reg.DALI_RAW_CTRL, 0x40)])).fld Reg.DALI_RAW_STAT 15 8 = 0x55 ∧
    (out (.daliRefresh m0 0) held) = held := by decide +kernel

/-! ### Networks and serial buses -/

/-- MAC n enabled, its link up and its PHY powered, frames of 64 to 1522 bytes, and some more registers. -/
def macOn (n : Nat) (l : List (Nat × Word)) : State := plus (plus held [(Reg.NET_CTRL n, 1), (Reg.NET_STAT n, 0x11), (Reg.NET_MAXLEN n, 1522)]) l

/-- MAC n in a state, replaced. -/
def macWith (s : State) (n : Nat) (f : NetMac → NetMac) : State := s.setMac n (f (s.mac n))

/-- A frame of 64 bytes to some address from 02:00:00:00:00:01, of some type, the bytes after it given. -/
def frameTo (dst : List Byte) (typ : List Byte) (more : List Byte) : Frame :=
  { bytes := dst ++ [2, 0, 0, 0, 0, 1] ++ typ ++ more ++ List.replicate (50 - more.length) 0, fcsOk := true, space := true }

/-- The broadcast address; the address of pause frames. -/
def allOnes : List Byte := List.replicate 6 0xFF
def pauseAddr : List Byte := [1, 0x80, 0xC2, 0, 0, 1]

/-- A MAC that takes every address (PROMISC) with some more of NET_CTRL. -/
def promisc (n : Nat) (w : Word) : State := macOn n [(Reg.NET_CTRL n, 3 ||| w)]

/-- A frame longer than MAX_LEN 64. -/
def longFrame : Frame := { frameTo allOnes [8, 0] (List.replicate 51 7) with fcsOk := false }

theorem witness_Networks_receive :
    State.reset.macUp 0 = false ∧ (promisc 7 0).macUp 7 = true ∧ (promisc 7 0).accepts 7 (macAddr allOnes) = true ∧ (macOn 7 []).accepts 7 (macAddr allOnes) = false ∧
    (frameTo allOnes [8, 0] []).bytes.length = 64 ∧ (frameTo allOnes [8, 0] []).fcsOk = true ∧ 64 ≤ (promisc 7 0).fld (Reg.NET_MAXLEN 7) 13 0 ∧
    longFrame.bytes.length = 65 ∧ (plus (promisc 7 0) [(Reg.NET_MAXLEN 7, 64)]).fld (Reg.NET_MAXLEN 7) 13 0 = 64 ∧ longFrame.space = true ∧
    half (frameTo pauseAddr [0x88, 8] [0, 1, 0, 2]).bytes 12 = 0x8808 ∧ half (frameTo pauseAddr [0x88, 8] [0, 1, 0, 2]).bytes 14 = 1 ∧
    half (frameTo allOnes [8, 0] []).bytes 12 ≠ 0x8808 ∧ (promisc 0 0).macUp 0 = true ∧ (promisc 0 0).accepts 0 (macAddr allOnes) = true ∧
    (promisc 0 0).net.dups.find? (fun e => e.src == 1 && e.seq == 1) = none := by decide +kernel

/-- A frame of source 1 and sequence number 1 seen on LAN A. -/
def seenOnA : State := (((macOn 0 [(Reg.PRP_CTRL, 3), (Reg.PRP_FORGET, 400)])).dupCheck 1 1 0).1

theorem witness_Networks_prp :
    seenOnA.net.dups.find? (fun e => e.src == 1 && e.seq == 1) = some { src := 1, seq := 1, lan := 0, time := 0 } ∧
    (seenOnA.dupCheck 1 1 1).2 = true ∧ (seenOnA.dupCheck 1 1 0).2 = false := by decide +kernel

theorem test_receive :
    (out (.frameReceive 7 (frameTo allOnes [8, 0] [])) (promisc 7 0)).rd (Reg.NET_RX_FRAMES 7) = 1 ∧
    (out (.frameReceive 7 { frameTo allOnes [8, 0] [] with fcsOk := false }) (promisc 7 0)).rd (Reg.NET_RX_FCS_ERR 7) = 1 ∧
    (out (.frameReceive 7 (frameTo allOnes [8, 0] [])) (macOn 7 [])).rd (Reg.NET_RX_FILTERED 7) = 1 ∧
    (out (.frameReceive 7 longFrame) (plus (promisc 7 0) [(Reg.NET_MAXLEN 7, 64)])).rd (Reg.NET_RX_OVERSIZE 7) = 1 ∧
    (out (.frameReceive 7 { frameTo allOnes [8, 0] [] with space := false }) (promisc 7 0)).rd (Reg.NET_RX_OVF 7) = 1 := by decide +kernel

theorem test_pause :
    ((out (.frameReceive 0 (frameTo pauseAddr [0x88, 8] [0, 1, 0, 2])) (plus (promisc 0 8) [(Reg.NET_PAUSE 0, 100)])).mac 0).pauseEnd = some 256 ∧
    (out (.frameReceive 0 (frameTo pauseAddr [0x88, 8] [0, 1, 0, 2])) (plus (promisc 0 8) [(Reg.NET_PAUSE 0, 100)])).bit (Reg.NET_STAT 0) 3 = true ∧
    (out (.frameReceive 0 (frameTo pauseAddr [0x88, 8] [0, 1, 0xFF, 0xFF])) (plus (promisc 0 8) [(Reg.NET_PAUSE 0, 1)])).rd (Reg.NET_PAUSE_CAPPED 0) = 1 := by decide +kernel

/-- A frame of queue 3 waiting. -/
def waiting3 : TxFrame := { q := 3, len := 100, pair := false }

/-- A MAC with gates on, one pending bank or one in operation whose only entry opens every gate for a part of the cycle. -/
def gated (oper : Option (Nat × Nat)) (change : Option (Nat × Nat × Nat)) : State :=
  macWith (macOn 7 [(Reg.NET_CTRL 7, 0x21), (Reg.NET_GATE_LIST 7 0 0, 0x1F), (Reg.NET_GATE_LIST 7 0 1, 0x20), (Reg.NET_GATE_CYCLE 7, 1000),
    (Reg.NET_GATE_CTRL 7, 2)]) 7 (fun x => { x with oper := oper, change := change })

theorem witness_Networks_send :
    (State.reset.mac 7).pauseEnd = none ∧ ((macWith State.reset 7 (fun x => { x with pauseEnd := some 500 })).mac 7).pauseEnd = some 500 ∧
    State.reset.macUp 7 = false ∧ State.reset.bit (Reg.NET_STAT 7) 1 = false ∧ (macOn 7 []).macUp 7 = true ∧ (macOn 7 []).bit (Reg.NET_STAT 7) 3 = false ∧
    (macOn 7 []).operRuns 7 = none ∧ ((macOn 7 []).mac 7).queue = [] ∧ (true && (macOn 1 [(Reg.PRP_CTRL, 1)]).bit Reg.PRP_CTRL 0 && decide (1 < 2)) = true ∧
    ((macOn 7 []).mac 7).change = none ∧ (gated (some (0, 250)) none).nextGate 7 = some 1 ∧ ((gated (some (0, 250)) none).mac 7).queue = [] ∧
    (gated none (some (1, 500, 250))).operRuns 7 = none ∧ ((gated none (some (1, 500, 250))).mac 7).change = some (1, 500, 250) ∧
    (arrived (gated none none)).obeys m0 = true := by decide +kernel

/-- MAC 7 sends a frame of queue 3 until count 500. -/
def sending7 : State := macWith (macOn 7 [(Reg.NET_TX_THRESH 7, 256)]) 7 (fun x => { x with sending := some waiting3, busy := 500 })

theorem witness_Networks_transmit :
    ((macOn 7 []).macUp 7 && !(macOn 7 []).bit (Reg.NET_STAT 7) 3 && !(macOn 7 []).bit (Reg.NET_STAT 7) 1 && decide (((macOn 7 []).mac 7).busy ≤ (macOn 7 []).now)) = true ∧
    (sending7.macUp 7 && !sending7.bit (Reg.NET_STAT 7) 3 && !sending7.bit (Reg.NET_STAT 7) 1 && decide ((sending7.mac 7).busy ≤ sending7.now)) = false ∧
    sending7.bit (Reg.NET_STAT 7) 1 = false ∧ (sending7.mac 7).sending = some waiting3 ∧ sending7.now < (sending7.mac 7).busy ∧ ((macOn 7 []).mac 7).sending = none ∧
    (macOn 7 []).bit (Reg.NET_PLCA_STAT 7) 0 = false ∧ (macOn 7 [(Reg.NET_PLCA_STAT 7, 1)]).bit (Reg.NET_PLCA_STAT 7) 0 = true := by decide +kernel

theorem test_transmit :
    (out (.frameTransmit 7 false 3 100 15) (macOn 7 [])).rd (Reg.NET_TX_COLL 7) = 15 ∧ ((out (.frameTransmit 7 false 3 100 0) sending7).mac 7).queue.map (fun f => f.len) = [100] ∧
    ((out (.txUnderrun 7) sending7).mac 7).queue = [{ waiting3 with again := true }] ∧ ((out (.txUnderrun 7) sending7).mac 7).sending = none := by decide +kernel

/-- Energy efficient MAC 1, its link partner too. -/
def eee (f : NetMac → NetMac) : State := macWith (macOn 1 [(Reg.NET_CTRL 1, 0x11), (Reg.NET_STAT 1, 0x31), (Reg.NET_EEE_CFG 1, 0x110011)]) 1 f

theorem witness_Networks_idle :
    (decide (1 < 2) && (eee id).macUp 1 && (eee id).bit (Reg.NET_CTRL 1) 4 && (eee id).bit (Reg.NET_STAT 1) 5 && !(eee id).bit (Reg.NET_STAT 1) 1) = true ∧
    ((eee id).mac 1).queue = [] ∧ ((eee (fun x => { x with queue := [waiting3] })).mac 1).queue = [waiting3] ∧ ((eee id).mac 1).lpiAt = none ∧ ((eee id).mac 1).busy + (eee id).fld (Reg.NET_EEE_CFG 1) 31 16 * 250 < 2 ^ 64 ∧
    ((eee (fun x => { x with lpiAt := some (0, 182 * 250) })).mac 1).lpiAt = some (0, 182 * 250) ∧ (macOn 2 []).macUp 2 = true := by decide +kernel

/-- A node heard on both LANs long ago and on LAN B now; HELLO received on riser port 1 at time 0. -/
def heardOnB : State :=
  let s := macOn 3 [(Reg.PRP_CTRL, 5), (Reg.PRP_STAT, 0x103), (Reg.PRP_CFG, 100), (Reg.NET_T1L_STAT 3, 0x10)]
  let nw := { s.net with nodes := [{ addr := 9, heard := #v[some 0, some 75000000] }], helloRx := #v[none, some 0] }
  { s with cnt := 75000000, net := nw }

theorem witness_Networks_more :
    (withRegs [(Reg.PRP_CTRL, 1)]).bit Reg.PRP_CTRL 2 = false ∧ heardOnB.bit Reg.PRP_CTRL 0 = true ∧ heardOnB.bit Reg.PRP_CTRL 2 = true ∧ heardOnB.net.lifeAt < 2 ^ 64 ∧
    heardOnB.net.nodes.find? (fun x => x.addr == 8) = none ∧ (heardOnB.net.nodes.find? (fun x => x.addr == 9)).isSome = true ∧
    heardOnB.bit Reg.PRP_STAT 0 = true ∧ (let heard := fun (l : Nat) (x : PrpNode) => match (x.heard.toList[l]?).join with
      | some a => decide (heardOnB.now < a + 3 * heardOnB.fld Reg.PRP_CFG 15 0 * 250000)
      | none => false
     !heardOnB.net.nodes.any (heard 0) && heardOnB.net.nodes.any (fun x => ((x.heard.toList[0]?).join).isSome && heard 1 x)) = true ∧ State.reset.bit Reg.PRP_STAT 0 = false ∧ State.reset.macUp 3 = false ∧ heardOnB.macUp 3 = true ∧
    heardOnB.net.helloAt.toList.getD 1 0 < 2 ^ 64 ∧ State.reset.net.helloRx.toList.getD 0 none = none ∧ heardOnB.net.helloRx.toList.getD 1 none = some 0 ∧ heardOnB.riserUp 1 = true := by decide +kernel

/-- PLCA on MAC 7: the coordinator; a follower that hears beacons. -/
def plca0 : State := macOn 7 [(Reg.NET_PLCA_CFG 7, 0x20010800), (Reg.NET_PLCA_STAT 7, 1)]
def plca1 : State := macOn 7 [(Reg.NET_PLCA_CFG 7, 0x200108FE), (Reg.NET_PLCA_STAT 7, 1)]

theorem witness_Networks_plca :
    plca0.plcaCoordinator 7 = true ∧ plca1.plcaCoordinator 7 = false ∧ plca1.plcaFollower 7 = true ∧ plca1.bit (Reg.NET_PLCA_STAT 7) 0 = true ∧
    State.reset.plcaCoordinator 4 = false ∧ State.reset.plcaFollower 4 = false := by decide +kernel

theorem test_networks :
    (out (.frameTransmit 7 false 3 100 0) (macOn 7 [])).reply = [7, 3, 100] ∧ (out (.frameTransmit 7 false 3 100 0) held).reply = [] ∧
    (out (.frameTransmit 0 true 2 100 0) (macOn 0 [(Reg.PRP_CTRL, 1), (Reg.NET_MAXLEN 1, 1522)])).reply = [0, 2, 106] ∧
    (out (.txUnderrun 7) (macOn 7 [(Reg.NET_TX_THRESH 7, 256)])).fld (Reg.NET_TX_THRESH 7) 13 0 = 768 ∧
    (out (.txUnderrun 7) (macOn 7 [(Reg.NET_TX_THRESH 7, 1400)])).rd (Reg.NET_TX_THRESH 7) = 0x45F2 ∧
    (out (.gateEntry 7) (gated none (some (1, 500, 250)))).rd (Reg.NET_GATE_STAT 7) = 1 ∧ ((out (.gateChange m0 7) (gated none none)).mac 7).change = some (1, 0, 250) ∧
    (out (.lpiEntry 1) (eee (fun x => { x with queue := [waiting3] }))).rd (Reg.NET_LPI_ABORTS 1) = 1 ∧
    (out (.lpiWake 1) (eee (fun x => { x with lpiAt := some (0, 182 * 250) }))).now = 199 * 250 ∧
    (out (.phyLinkChange 3 false false false 0) heardOnB).rd (Reg.NET_RISER_DOWN_CNT 3) = 1 := by decide +kernel

theorem test_networks_more :
    (out .prpSupervision heardOnB).net.lifeAt = 100000000 ∧ (out (.nodeForget 9) heardOnB).fld Reg.PRP_STAT 16 8 = 0 ∧ (out (.lanLoss 0) heardOnB).bit Reg.PRP_STAT 0 = false ∧
    (out (.riserPortDown 1) heardOnB).riserUp 1 = false ∧ (out (.plcaBeacon 3) plca0).rd (Reg.NET_PLCA_LOSS 7) = 0x10000 ∧
    (out (.plcaBeaconLoss 3) plca1).rd (Reg.NET_PLCA_LOSS 7) = 1 ∧ (out (.plcaBeaconLoss 3) plca1).rd (Reg.NET_PLCA_STAT 7) = 0 := by decide +kernel

/-- CAN 3 on, and in bus-off with automatic recovery. -/
def canOn : State := withRegs [(Reg.SER_CAN_CFG 3, 9)]
def canOff : State := withRegs [(Reg.SER_CAN_CFG 3, 9), (Reg.SER_CAN_STAT 3, 2)]

theorem witness_SerialBuses :
    (State.reset.bit (Reg.SER_CAN_CFG 3) 0 && State.reset.fld (Reg.SER_CAN_STAT 3) 1 0 != 2) = false ∧ (canOn.bit (Reg.SER_CAN_CFG 3) 0 && canOn.fld (Reg.SER_CAN_STAT 3) 1 0 != 2) = true ∧
    (canOn.fld (Reg.SER_CAN_STAT 3) 1 0 == 2 && canOn.bit (Reg.SER_CAN_CFG 3) 3) = false ∧ (canOff.fld (Reg.SER_CAN_STAT 3) 1 0 == 2 && canOff.bit (Reg.SER_CAN_CFG 3) 3) = true := by decide +kernel

theorem test_serial :
    (out (.serialFrameError 7) (withRegs [(Reg.SER_CH_ERR 7, 0x1FFFF)])).rd (Reg.SER_CH_ERR 7) = 0x1FFFF ∧ (out (.canBusOff 3) canOn).fld (Reg.SER_CAN_STAT 3) 1 0 = 2 ∧
    (out (.canBusOffRecovery 3) canOff).rd (Reg.SER_CAN_STAT 3) = 0 ∧ (out (.canBusOff 3) canOff).fld (Reg.SER_CAN_CNT 3) 15 0 = 0 := by decide +kernel

/-! ### Access and time -/

/-- A record of the ID 7: tenant 3, door set 1, enabled, from second 0 to 100. -/
def cred7 : Vector Word 8 := #v[7, 0, 0x00101003, 0, 100, 0, 0, 0]

/-- An access engine with door 127 in service (reader on, STRIKE_TIME 5 s), the door set 1 holding it, W0 to W7 with the record of ID 7, and some
more registers; a store and a cache. -/
def accIn (l : List (Nat × Word)) (store : Tab (Option (Vector Word 8))) (cache : List (BitVec 64 × Vector Word 8)) : State :=
  let s := plus held ([(Reg.ACC_CTRL, 1), (Reg.ACC_DOOR_CFG 127, 0x00053201), (Reg.ACC_DOOR_RDR 127, 8), (Reg.ACC_DOORSET 1 3, 0x80000000),
    (Reg.ACC_CRED_W 0, 7), (Reg.ACC_CRED_W 2, 0x00101003), (Reg.ACC_CRED_W 4, 100)] ++ l)
  let ac := { s.acc with store := store, cache := cache }
  { s with acc := ac }

/-- The record of ID 7 stored at index 2; nothing stored; the record in the cache. -/
def stored7 : State := accIn [] [(2, some cred7)] []
def none7 : State := accIn [] [] []
def cached7 : State := accIn [] [] [(7, cred7)]

/-- A message of the access engine. -/
def accMsg (typ : BitVec 10) (p : List Word) : State :=
  let m : EngMsg := { typ := typ, payload := p, lesson := none, tenant := 0xFFF, privT := true, came := 0 }
  let sc := { none7.scan with accQ := [m] }
  { none7 with scan := sc }

theorem witness_Credentials :
    (arrived stored7).obeys m0 = true ∧ credClean (Vector.ofFn (fun (i : Fin 8) => stored7.rd (Reg.ACC_CRED_W i.val))) = true ∧
    (stored7.cred? 7).map (·.1) = some 2 ∧ (none7.cred? 7).isNone = true ∧ (Tab.get (fun _ => (none : Option (Vector Word 8))) none7.acc.store 0).isNone = true ∧
    credClean (Vector.ofFn (fun (i : Fin 8) => (accIn [(Reg.ACC_CRED_W 7, 1)] [] []).rd (Reg.ACC_CRED_W i.val))) = false ∧
    (State.reset.adoorOn 127 && State.reset.bit (Reg.ACC_DOOR_RDR 127) 3 && true) = false ∧ (cached7.adoorOn 127 && cached7.bit (Reg.ACC_DOOR_RDR 127) 3 && true) = true ∧
    (accIn [(Reg.ACC_CTRL, 0)] [] []).bit Reg.ACC_CTRL 0 = false ∧ cached7.bit Reg.ACC_CTRL 0 = true ∧ ((cached7.acc.cache.find? (fun e => e.1 == 7)).map (·.2)) = some cred7 ∧
    bitOf cred7[2] 20 = true ∧ expired cred7 cached7.accT = false ∧ ¬ cached7.accT < cred7[3].toNat ∧ cached7.inDoorSet (bits cred7[2] 19 12) 127 = true ∧
    cached7.adoorState 127 = 0 ∧ cached7.inDoorSet (bits cred7[2] 19 12) 126 = false := by decide +kernel

/-- A store that holds a record at every index. -/
def fullStore : Tab (Option (Vector Word 8)) := (List.range 65536).map (fun k => (k, some #v[9, 0, 0, 0, 0, 0, 0, 0]))

/-- A key of a full store reads its record. -/
theorem fullStore_get (n m j : Nat) (h : m ≤ j) (hj : j < m + n) :
    Tab.get (fun _ => (none : Option (Vector Word 8))) ((List.range' m n).map (fun k => (k, some #v[9, 0, 0, 0, 0, 0, 0, 0]))) j ≠ none := by
  induction n generalizing m with
  | zero => omega
  | succ n ih =>
    by_cases e : m = j
    · simp [List.range'_succ, Tab.get, e]
    · have := ih (m + 1) (by omega) (by omega)
      simpa [List.range'_succ, Tab.get, e] using this

theorem witness_Credentials_full : ∀ j, j < 65536 → Tab.get (fun _ => (none : Option (Vector Word 8))) (accIn [] fullStore []).acc.store j ≠ none := by
  intro j h
  have := fullStore_get 65536 0 j (by omega) (by omega)
  simpa [accIn, fullStore, List.range_eq_range'] using this

theorem witness_Credentials_messages :
    State.reset.scan.accQ = [] ∧ ((accMsg 1 [127, 7, 0, 0]).scan.accQ.head?.map (fun q => q.typ)) = some 1 ∧
    ((accMsg 2 [0x47F]).scan.accQ.head?.map (fun q => (q.typ, bits (q.payload.getD 0 0) 10 8))) = some (2, 4) := by decide +kernel

theorem test_credentials :
    (out (.credWrite m0) none7).acc.store = [(0, some cred7)] ∧ (out (.credWrite m0) stored7).rd Reg.ACC_CRED_STAT = 0x20000 ∧
    (out (.credDelete m0) stored7).acc.store = [] ∧ (out (.credDelete m0) none7).rd Reg.ACC_CRED_STAT = 4 ∧
    (out (.credWrite m0) (accIn [(Reg.ACC_CRED_W 7, 1)] [] [])).rd Reg.ACC_CRED_STAT = 6 ∧ (out .cacheSweep cached7).acc.cache = [(7, cred7)] ∧
    (out (.present (.card 127 7 true)) cached7).adoorState 127 = 1 ∧ ((out (.present (.card 127 7 true)) cached7).adoor 127).release = some (50 * 25000000) ∧
    (out (.present (.card 127 7 true)) none7).rd Reg.ACC_STAT = 0x10000 ∧ (out (.present (.card 127 7 false)) cached7) = cached7 ∧
    (out (.present .msg) (accMsg 1 [127, 8, 0, 0])).rd Reg.ACC_STAT = 0x10000 ∧ (out (.doorLockdown .msg) (accMsg 2 [0x37F])).adoorState 127 = 6 := by decide +kernel

/-- Door 127 in a state of R273, its contact, request to exit and fire inputs on points 1, 2 and 3, which hold some values, and its data. -/
def accDoor (st : Word) (c r f : Word) (x : AccDoor) : State :=
  let s := accIn [(Reg.ACC_DOOR_STAT 127, st), (Reg.ACC_DOOR_PTS1 127, 0x00020001), (Reg.ACC_DOOR_PTS2 127, 0x1C003)] [] []
  let pt := fun (v : Word) => { Point.zero with words := Point.zero.words.set 0 v }
  let s := { s with points := [(1, pt c), (2, pt r), (3, pt f)] }
  s.setAdoor 127 x

/-- A door's data: its release and whether it is open. -/
def doorData (rel opened : Option Nat) (c : Bool) : AccDoor := { release := rel, openAt := opened, contact := c, rex := false, strike := none }

theorem witness_Doors :
    State.reset.adoorOn 127 = false ∧ (accDoor 7 0 0 0 AccDoor.zero).adoorOn 127 = true ∧ (accDoor 7 0 0 0 AccDoor.zero).adoorState 127 = 7 ∧
    (accDoor 0 0 0 0 AccDoor.zero).adoorState 127 = 0 ∧ (accDoor 1 0 0 0 AccDoor.zero).adoorState 127 = 1 ∧ (accDoor 4 0 0 0 AccDoor.zero).adoorState 127 = 4 ∧
    (accDoor 5 0 0 0 AccDoor.zero).adoorState 127 = 5 ∧ (accDoor 6 0 0 0 AccDoor.zero).adoorState 127 = 6 ∧ (accDoor 0 1 0 0 AccDoor.zero).doorContact 127 = true ∧
    ((accDoor 0 1 0 0 AccDoor.zero).adoor 127).contact = false ∧ (accDoor 0 0 0 0 AccDoor.zero).doorContact 127 = ((accDoor 0 0 0 0 AccDoor.zero).adoor 127).contact ∧
    ((accDoor 0 1 0 0 AccDoor.zero).adoor 127).release = none ∧ ((accDoor 1 1 0 0 (doorData (some 9) none false)).adoor 127).release = some 9 ∧
    (accDoor 1 1 0 0 AccDoor.zero).bit (Reg.ACC_DOOR_CFG 127) 2 = false ∧ (plus (accDoor 1 1 0 0 AccDoor.zero) [(Reg.ACC_DOOR_CFG 127, 5)]).bit (Reg.ACC_DOOR_CFG 127) 2 = true ∧
    (accDoor 2 0 0 0 (doorData none (some 0) true)).doorContact 127 = false ∧ ((accDoor 2 0 0 0 (doorData none (some 0) true)).adoor 127).contact = true := by decide +kernel

theorem witness_Doors_inputs :
    (let s := accDoor 0 0 1 0 AccDoor.zero
     s.adoorOn 127 && (s.bit (Reg.ACC_DOOR_PTS2 127) 16 && s.doorInput (s.fld (Reg.ACC_DOOR_PTS1 127) 29 16) false) && !(s.adoor 127).rex && s.adoorState 127 != 5 &&
       s.adoorState 127 != 7) = true ∧
    (let s := accDoor 0 0 0 1 AccDoor.zero
     s.bit (Reg.ACC_DOOR_PTS2 127) 14 && s.doorInput (s.fld (Reg.ACC_DOOR_PTS2 127) 13 0) true) = true ∧
    (let s := accDoor 7 0 0 0 AccDoor.zero
     s.bit (Reg.ACC_DOOR_PTS2 127) 14 && s.doorInput (s.fld (Reg.ACC_DOOR_PTS2 127) 13 0) true) = false ∧
    ((accDoor 1 0 0 0 (doorData (some 9) none false)).adoor 127).release = some 9 ∧ ((accDoor 2 1 0 0 (doorData none (some 0) true)).adoor 127).openAt = some 0 ∧
    0 + (accDoor 2 1 0 0 (doorData none (some 0) true)).fld (Reg.ACC_DOOR_CFG 127) 31 16 * 250000000 < 2 ^ 64 ∧ (State.reset.adoor 0).release = none ∧ (State.reset.adoor 0).openAt = none := by decide +kernel

theorem test_access_doors :
    (out (.doorPulse (.reg m0 127)) (accDoor 0 0 0 0 AccDoor.zero)).adoorState 127 = 1 ∧ (out (.doorLock (.reg m0 127)) (accDoor 5 0 0 0 AccDoor.zero)).adoorState 127 = 0 ∧
    (out (.doorHoldUnlocked (.reg m0 127)) (accDoor 6 0 0 0 AccDoor.zero)).adoorState 127 = 5 ∧ (out (.doorReleaseLockdown (.reg m0 127)) (accDoor 6 0 0 0 AccDoor.zero)).adoorState 127 = 0 ∧
    (out (.doorPulse (.reg m0 127)) (accDoor 7 0 0 0 AccDoor.zero)).adoorState 127 = 7 ∧ (out (.doorContactChange 127) (accDoor 0 1 0 0 AccDoor.zero)).adoorState 127 = 4 ∧
    (out (.doorContactChange 127) (accDoor 1 1 0 0 (doorData (some 9) none false))).adoorState 127 = 2 ∧ (out (.doorContactChange 127) (accDoor 3 0 0 0 (doorData none (some 0) true))).adoorState 127 = 0 ∧
    (out (.doorRex 127) (accDoor 6 0 1 0 AccDoor.zero)).unlocked 127 = true ∧ (out (.doorFire 127) (accDoor 6 0 0 1 AccDoor.zero)).adoorState 127 = 7 ∧
    (out (.strikeTimeExpiry 127) (accDoor 1 0 0 0 (doorData (some 9) none false))).adoorState 127 = 0 ∧ (out (.heldTimeExpiry 127) (accDoor 2 1 0 0 (doorData none (some 0) true))).now = 5 * 250000000 := by decide +kernel

/-- The time base with some registers, an offset of 1 s and the count 1000. -/
def timeIn (l : List (Nat × Word)) : State :=
  let s := plus held l
  let ti := { s.time with ofsSec := 1 }
  { s with cnt := 1000, time := ti }

/-- Trigger 7: 10 counts wide, every 25 counts, from 2000; with some edge or pulse to come. -/
def trigIn (start : Word) (x : Trig) : State :=
  (timeIn [(Reg.TIME_TRIG_CFG 7, 0xA03), (Reg.TIME_TRIG_PERIOD 7, 25), (Reg.TIME_TRIG_START_LO 7, start)]).setTrigger 7 x

/-- Nothing to come. -/
def noTrig : Trig := { next := none, pulse := none }

theorem witness_TimeBase :
    (arrived held).obeys m0 = true ∧ (-2147484 ≤ (0xFFDF3B64 : Word).toInt ∧ (0xFFDF3B64 : Word).toInt ≤ 2147484) ∧ 2147484 < (0x0020C49D : Word).toInt ∧
    (arrived (timeIn [(Reg.TIME_OFS_NS, 999999999)])).fld Reg.TIME_OFS_NS 29 0 ≤ 999999999 ∧ 999999999 < (arrived (timeIn [(Reg.TIME_OFS_NS, 1000000000)])).fld Reg.TIME_OFS_NS 29 0 ∧
    (arrived (timeIn [(Reg.TIME_OFS_NS, 999999999), (Reg.TIME_OFS_SEC_HI, 0x80000000)])).bit Reg.TIME_OFS_SEC_HI 31 = true ∧
    (arrived (timeIn [(Reg.TIME_OFS_NS, 999999999)])).offsetNs = 1000000000 ∧ (arrived (timeIn [(Reg.TIME_OFS_NS, 999999999)])).stagedNs = 999999999 ∧
    (arrived (timeIn [(Reg.TIME_OFS_SEC_LO, 2), (Reg.TIME_OFS_SEC_HI, 0x80000000)])).stagedNs = 2000000000 ∧
    State.reset.riserUp 1 = false ∧ (timeIn [(Reg.NET_T1L_STAT 3, 0x10)]).riserUp 1 = true ∧ (timeIn []).net.timeAt.toList.getD 1 0 < 2 ^ 64 := by decide +kernel

theorem witness_TimeBase_triggers :
    bitOf (0xA02 : Word) 0 = false ∧ bitOf (0xA03 : Word) 0 = true ∧
    (decide (bits (0x003 : Word) 31 8 < 1) || (bitOf (0x003 : Word) 1 && (decide ((trigIn 2000 noTrig).rd (Reg.TIME_TRIG_PERIOD 7) < 25)))) = true ∧
    (decide (bits (0xA03 : Word) 31 8 < 1) || (bitOf (0xA03 : Word) 1 && (decide (((arrived (trigIn 2000 noTrig)).rd (Reg.TIME_TRIG_PERIOD 7)).toNat < 25) ||
      decide (((arrived (trigIn 2000 noTrig)).rd (Reg.TIME_TRIG_PERIOD 7)).toNat < 2 * bits (0xA03 : Word) 31 8)))) = false ∧
    ((arrived (trigIn 2000 noTrig)).wr (Reg.TIME_TRIG_CFG 7) 0xA03).trigStart 7 = some 2000 ∧ (arrived (trigIn 2000 noTrig)).now ≤ 2000 ∧
    ((arrived (trigIn 999 noTrig)).wr (Reg.TIME_TRIG_CFG 7) 0xA03).trigStart 7 = some 999 ∧ 999 < (arrived (trigIn 999 noTrig)).now ∧
    ((trigIn 2000 noTrig).trigger 7).next = none ∧ ((trigIn 2000 { next := some 2000, pulse := none }).trigger 7).next = some 2000 ∧
    ((trigIn 2000 noTrig).trigger 7).pulse = none ∧ ((trigIn 2000 { next := none, pulse := some 1010 }).trigger 7).pulse = some 1010 := by decide +kernel

/-- Capture 7 on rising edges, with some captures kept. -/
def capIn (n : Nat) (ovf : Bool) : State :=
  (timeIn [(Reg.TIME_CAP_CFG 7, 1)]).setCapture 7 { fifo := List.replicate n { cnt := 0x100000005, rise := true, coarse := false }, ovf := ovf }

theorem witness_TimeBase_captures :
    (capIn 0 false).bit (Reg.TIME_CAP_CFG 7) 1 = false ∧ (capIn 0 false).bit (Reg.TIME_CAP_CFG 7) 0 = true ∧ 4 ≤ ((capIn 4 false).capture 7).fifo.length ∧
    ((capIn 3 false).capture 7).fifo.length < 4 ∧ (arrived (capIn 0 true)).pwr.off = false ∧ (arrived (capIn 0 true)).owns m0 = true ∧ (arrived State.reset).owns m0 = false ∧
    ((arrived (capIn 0 true)).capture 7).fifo = [] ∧ ((arrived (capIn 1 true)).capture 7).fifo = [{ cnt := 0x100000005, rise := true, coarse := false }] := by decide +kernel

theorem test_time :
    (out (.rateWrite m0 0xFFDF3B64) held).rd Reg.TIME_RATE = 0xFFDF3B64 ∧ (out (.rateWrite m0 0x0020C49D) held).bit Reg.TIME_STAT 3 = true ∧
    (out (.offsetSet m0) (timeIn [(Reg.TIME_OFS_NS, 5)])).time.ofsNs = 5 ∧ (out (.offsetAdd m0) (timeIn [(Reg.TIME_OFS_NS, 5)])).time.ofsSec = 1 ∧
    (out (.offsetAdd m0) (timeIn [(Reg.TIME_OFS_SEC_LO, 2), (Reg.TIME_OFS_SEC_HI, 0x80000000)])).bit Reg.TIME_STAT 3 = true ∧
    ((out (.triggerEnable m0 7 0xA03) (trigIn 2000 noTrig)).trigger 7).next = some 2000 ∧ ((out (.triggerEnable m0 7 0xA03) (trigIn 999 noTrig)).trigger 7).pulse = some 1010 ∧
    (out (.triggerEnable m0 7 0xA03) (trigIn 999 noTrig)).bit (Reg.TIME_TRIG_STAT 7) 1 = true ∧ (out (.triggerEnable m0 7 0x003) (trigIn 2000 noTrig)).bit (Reg.TIME_TRIG_STAT 7) 2 = true ∧
    ((out (.triggerEdge 7) (trigIn 2000 { next := some 2000, pulse := none })).trigger 7) = { next := some 2025, pulse := some 2010 } ∧
    (out (.triggerPulseEnd 7) (trigIn 2000 { next := none, pulse := some 1010 })).reply = [7, 0] := by decide +kernel

theorem test_capture :
    ((out (.captureEdge 7 true) (capIn 3 false)).capture 7).fifo.length = 4 ∧ ((out (.captureEdge 7 true) (capIn 4 false)).capture 7).ovf = true ∧
    (out (.capturePop m0 7) (capIn 1 true)).rd (Reg.TIME_CAP_HI 7) = 1 ∧ (out (.capturePop m0 7) (capIn 1 true)).rd (Reg.TIME_CAP_LO 7) = 5 ∧ ((out (.capturePop m0 7) (capIn 0 true)).capture 7).ovf = false := by decide +kernel

/-! ### Keys, hosts and the register interface -/

/-- The life-cycle state, the attributes and bindings of slot 31, the command in progress, the slots occupied, and some more registers. -/
def keyIn (lcs : Word) (attr : Word) (job : Option KeyOp) (occ : BitVec 32) (l : List (Nat × Word)) : State :=
  let s := plus held ([(Reg.KEY_LCS, lcs), (Reg.KEY_SLOT_ATTR 31, attr)] ++ l)
  let ks := { s.key with job := job.map (fun o => { op := o, slot := 31, sess := 7, tenant := 0 }), occ := occ, nonce := 0 }
  { s with key := ks }

theorem witness_KeyCommands :
    (arrived (keyIn 1 0 none 0 [])).obeys m0 = true ∧ (arrived (keyIn 1 0 (some .load) 0 [])).key.job.isSome = true ∧ (arrived (keyIn 1 0 none 0 [])).key.job = none ∧
    (arrived (keyIn 1 0 none 0 [(Reg.KEY_TAMPER_STAT, 0x10000)])).bit Reg.KEY_TAMPER_STAT 16 = true ∧ (arrived (keyIn 5 0 none 0 [])).fld Reg.KEY_LCS 2 0 = 5 ∧
    (arrived (keyIn 5 0 none 0 [])).bit Reg.KEY_TAMPER_STAT 16 = false ∧ (arrived (keyIn 1 0 none 0 [(Reg.SCAN_CTRL, 1)])).bit Reg.SCAN_CTRL 0 = true ∧
    (arrived (keyIn 1 0 none 0 [(Reg.SCAN_CTRL, 0)])).bit Reg.SCAN_CTRL 0 = false ∧ (arrived (keyIn 1 0 none 0 [])).fld Reg.SCAN_PROG_STAT 3 0 = 0 ∧
    (State.reset.woken .steward).obeys .steward = true ∧ (State.reset.woken .steward).key.job = none := by decide +kernel

/-- Attributes of a slot: a TYPE, every USE, every LCS and every master. -/
def attrOf (typ : Word) : Word := typ ||| 0x03FFEFE0

theorem witness_KeyResults :
    State.reset.key.job = none ∧ (keyIn 1 0 (some .getNonce) 0 []).key.job.isSome = true ∧ (keyIn 1 0 (some .getNonce) 0 []).bit Reg.KEY_TAMPER_STAT 16 = false ∧
    (keyIn 1 0 (some .sha256) 0 [(Reg.KEY_OP, 0x7E00000)]).fld Reg.KEY_OP 27 16 = 2016 ∧ 2016 < (keyIn 1 0 (some .sha256) 0 [(Reg.KEY_OP, 0x7E10000)]).fld Reg.KEY_OP 27 16 ∧
    (let s := keyIn 1 (attrOf 2) (some .hmac) 0x80000000 []
     (s.key.job.map (fun j => s.slotAllows j 2 6)) = some true ∧ (s.key.job.map (fun j => s.slotAllows j 3 6)) = some false) ∧
    (let s := keyIn 1 (attrOf 1) (some .gcmDec) 0x80000000 [(Reg.KEY_OP, 0x7D00000), (Reg.KEY_OP_AAD, 16)]
     (s.key.job.map (fun j => s.slotAllows j 1 6)) = some true ∧ s.fld Reg.KEY_OP_AAD 10 0 + s.fld Reg.KEY_OP 27 16 = 2016) ∧
    (let s := keyIn 1 (attrOf 3) (some .sign) 0x80000000 []
     (s.key.job.map (fun j => s.slotAllows j 3 6)) = some true) ∧
    (let s := keyIn 1 (attrOf 4) (some .verify) 0x80000000 []
     (s.key.job.map (fun j => s.slotAllows j 4 6)) = some true) := by decide +kernel

theorem witness_KeyResults_slots :
    (keyIn 1 0 (some .identity) 0 []).bit Reg.KEY_LCS 16 = false ∧ (keyIn 0x10001 0 (some .identity) 0 []).bit Reg.KEY_LCS 16 = true ∧
    (keyIn 2 0 (some .fuseSafetyKey) 0 []).fld Reg.KEY_LCS 2 0 = 2 ∧ (keyIn 2 0 (some .fuseSafetyKey) 0 []).key.safetyKey = none ∧ (keyIn 1 0 (some .fuseSafetyKey) 0 []).fld Reg.KEY_LCS 2 0 ≠ 2 ∧
    (keyIn 1 0 (some .load) 0x80000000 []).slotFull 31 = true ∧ (keyIn 1 0 (some .load) 0 []).slotFull 31 = false ∧ (keyIn 1 0 (some .load) 0 []).ownedLcs = false ∧
    (keyIn 2 0 (some .load) 0 []).ownedLcs = true ∧ (keyIn 3 0 (some .ownerRestore) 0 []).slotFull 0 = false ∧ (keyIn 3 0 (some .ownerRestore) 1 []).slotFull 0 = true ∧
    (keyIn 2 0 (some .load) 0 []).recordCheck [1] 31 (keyIn 2 0 (some .load) 0 []).recAnchor = 5 ∧ (keyIn 2 0 (some .generate) 0 []).recordCheck [5] 31 (keyIn 2 0 (some .generate) 0 []).recAnchor = 5 ∧
    (keyIn 0x10002 0 (some .derive) 0 []).recordCheck [6] 31 (keyIn 0x10002 0 (some .derive) 0 []).recAnchor = 5 ∧ (keyIn 2 0 (some .erase) 0 []).recordCheck [4] 31 (keyIn 2 0 (some .erase) 0 []).recAnchor = 5 ∧
    (keyIn 3 0 (some .ownerRestore) 0 []).recordCheck [3] 0 (keyIn 3 0 (some .ownerRestore) 0 []).recAnchor = 5 ∧
    (let attr := (keyIn 1 (attrOf 3) (some .generate) 0 []).rd (Reg.KEY_SLOT_ATTR 31)
     decide (1 ≤ bits attr 2 0) && decide (bits attr 2 0 ≤ 4) && bitOf attr (21 + (keyIn 1 (attrOf 3) (some .generate) 0 []).lcs)) = true ∧
    bits ((keyIn 1 0 (some .load) 0 []).rd (Reg.KEY_SLOT_ATTR 31)) 2 0 = 0 ∧ bits ((keyIn 1 (attrOf 4) (some .generate) 0 []).rd (Reg.KEY_SLOT_ATTR 31)) 2 0 = 4 := by decide +kernel

theorem witness_KeyResults_transitions :
    (keyIn 0 0 (some (.transition 1)) 0 []).fld Reg.KEY_LCS 2 0 = 0 ∧ [(0, 1), (0, 2), (1, 2), (0, 5), (1, 5), (4, 5)].contains (0, 1) = true ∧
    (keyIn 3 0 (some (.transition 2)) 0 []).fld Reg.KEY_LCS 2 0 = 3 ∧ [(2, 3), (3, 2), (2, 4), (3, 4), (4, 1), (2, 5), (3, 5)].contains (3, 2) = true ∧
    (keyIn 3 0 (some (.transition 2)) 0 []).recordCheck [2] 2 (keyIn 3 0 (some (.transition 2)) 0 []).recAnchor = 5 ∧ (keyIn 0 0 none 0 []).key.rows.length < 23 ∧
    (let s := keyIn 0 0 (some (.transition 1)) 0 []
     let ks := { s.key with rows := List.replicate 23 { lcs := 1, owner := 0 } }
     23 ≤ ({ s with key := ks } : State).key.rows.length) := by decide +kernel

/-- A record of some type and item in the buffer, the nonce 0, and its signer the last row's owner. -/
def recordIn (lcs : Word) (op : KeyOp) (occ : BitVec 32) (w : Word) : State :=
  let s := keyIn lcs 0 (some op) occ [(Reg.KEY_BUF 0, w)]
  let ks := { s.key with rows := [{ lcs := 3, owner := Config.sha256 s.recSigner }] }
  { s with key := ks }

/-- The rest of OWNER_RESTORE's checks pass where the opaque signature check does. -/
theorem witness_KeyResults_restore (h : Config.verify 0 (recordIn 3 .ownerRestore 0 3).recSigner
      (recordSig 0 (((recordIn 3 .ownerRestore 0 3).keyBytes 0 416 |>.drop 288).take 128)) (((recordIn 3 .ownerRestore 0 3).keyBytes 0 416).take 288) = true) :
    (recordIn 3 .ownerRestore 0 3).recordCheck [3] 0 (recordIn 3 .ownerRestore 0 3).recAnchor = 0 := by
  have e0 : (((recordIn 3 .ownerRestore 0 3).keyBytes 0 416).getD 0 0).toNat = 3 := by decide +kernel
  have e1 : (((recordIn 3 .ownerRestore 0 3).keyBytes 0 416).getD 24 0).toNat = 0 := by decide +kernel
  have e2 : recordFormed [3] 0 ((recordIn 3 .ownerRestore 0 3).keyBytes 0 416) = true := by decide +kernel
  have e3 : bigVec 128 ((((recordIn 3 .ownerRestore 0 3).keyBytes 0 416).drop 8).take 16) = (recordIn 3 .ownerRestore 0 3).key.nonce := by decide +kernel
  have e4 : (recordIn 3 .ownerRestore 0 3).recAnchor 3 = some (Config.sha256 (recordIn 3 .ownerRestore 0 3).recSigner) := rfl
  unfold State.recordCheck
  simp only [e0, e1, e2, e3, e4, h]
  simp

/-- The checks of the record of a transition, a load, a generation, a derivation or an erasure pass where the opaque ones do. -/
theorem witness_KeyResults_records (s : State) (typ item : Nat) (anchor : Nat → Option (BitVec 256)) (h0 : ((s.keyBytes 0 416).getD 0 0).toNat = typ)
    (h1 : recordFormed [typ] item (s.keyBytes 0 416) = true) (h2 : ((s.keyBytes 0 416).getD 24 0).toNat = 0)
    (h4 : bigVec 128 (((s.keyBytes 0 416).drop 8).take 16) = s.key.nonce) (h5 : anchor typ = some (Config.sha256 s.recSigner))
    (h6 : Config.verify 0 s.recSigner (recordSig 0 (((s.keyBytes 0 416).drop 288).take 128)) ((s.keyBytes 0 416).take 288) = true) : s.recordCheck [typ] item anchor = 0 := by
  unfold State.recordCheck
  simp only [h0, h1, h2, h4, h5, h6]
  simp

/-- A record of TYPE 2 for item 2 is well formed. -/
theorem witness_KeyResults_format :
    (let s := recordIn 3 (.transition 2) 1 0x202
     recordFormed [2] 2 (s.keyBytes 0 416) = true ∧ ((s.keyBytes 0 416).getD 0 0).toNat = 2 ∧ ((s.keyBytes 0 416).getD 24 0).toNat = 0 ∧ bigVec 128 (((s.keyBytes 0 416).drop 8).take 16) = s.key.nonce) := by decide +kernel

/-- The module off; the serial interface of the key unit finds a bad ALG. -/
theorem witness_KeyResults_more :
    ({ keyIn 1 0 (some .sha256) 0 [(Reg.KEY_TAMPER_STAT, 0x10000)] with pwr := { State.reset.pwr with off := true } } : State).pwr.off = true ∧
    (keyIn 1 0 (some .sha256) 0 [(Reg.KEY_TAMPER_STAT, 0x10000)]).pwr.off = false ∧ KeyOp.sha256.hashing = true ∧
    (keyIn 1 0 (some .generate) 0 []).key.job.map (fun j => (keyIn 1 0 (some .generate) 0 []).drawsRandom j) = some true ∧
    (keyIn 1 0 (some .load) 0 []).key.job.map (fun j => (keyIn 1 0 (some .load) 0 []).drawsRandom j) = some false ∧
    2016 < (keyIn 1 (attrOf 3) (some .sign) 0x80000000 [(Reg.KEY_OP, 0x7E10000)]).fld Reg.KEY_OP 27 16 ∧
    (let s := keyIn 0 0 (some (.transition 2)) 0 [(Reg.KEY_BUF 127, 0x03000000)]
     decide (2 < ((s.keyBytes 511 1).getD 0 0).toNat)) = true ∧ (keyIn 2 0 (some (.transition 3)) 0 []).unwrapField = none := by decide +kernel

theorem test_random_source_fails : (out (.keyCommandDone false) (keyIn 1 (attrOf 3) (some .generate) 0 [])).fld Reg.KEY_STAT 4 1 = 13 := by decide +kernel

theorem test_keys :
    (out (.keySha256 m0) (keyIn 5 0 none 0 [])).bit Reg.KEY_STAT 0 = true ∧ (out (.keyLoad m0 31) (keyIn 5 0 none 0 [])).fld Reg.KEY_STAT 4 1 = 4 ∧
    (out (.transition m0 1) (keyIn 0 0 none 0 [(Reg.SCAN_CTRL, 1)])).fld Reg.KEY_STAT 4 1 = 9 ∧ (out (.transition m0 1) (keyIn 0 0 (some .load) 0 [])).fld Reg.KEY_STAT 4 1 = 9 ∧
    (out (.keyCommandDone true) (keyIn 1 0 (some .hmac) 0 [])).rd Reg.KEY_DENY_CNT = 1 ∧ (out (.keyCommandDone true) (keyIn 1 0 (some .load) 0x80000000 [])).fld Reg.KEY_STAT 4 1 = 6 ∧
    ((keyIn 1 (attrOf 1) (some .load) 0 [(Reg.KEY_BUF 0, 7)]).loadMaterial 31).2.2.2 = 7 <<< 248 ∧
    (out (.keyCommandDone true) (keyIn 0 0 (some (.transition 1)) 0 [])).fld Reg.KEY_LCS 2 0 = 1 ∧ (out (.keyCommandDone true) (keyIn 0 0 (some (.transition 3)) 0 [])).fld Reg.KEY_STAT 4 1 = 4 ∧
    (out (.keyCommandDone true) (keyIn 2 0 (some .erase) 0x80000000 [])).fld Reg.KEY_STAT 4 1 = 5 ∧ (out (.keyCommandDone true) (keyIn 1 0 (some .erase) 0x80000000 [])).key.occ = 0 := by decide +kernel

/-- The claims of sessions 2 and 6, an election that closes at 250,000,000, a lease renewed at 0 and a handover to session 7. -/
def passIn (owner : Word) (claims : List ClaimSt) (close : Option Nat) (hand : Option (Fin 8 × Nat)) : State :=
  let s := withRegs [(Reg.HOST_PASS_STAT, owner)]
  let ho := { s.host with claims := claims, electionClose := close, handover := hand, nonce := 5 }
  { s with host := ho }

/-- A claim. -/
def claim (n : Fin 8) (prio : BitVec 8) : ClaimSt := { sess := n, prio := prio, nonce := 9 }

theorem witness_HallPass :
    State.reset.pwr.off = false ∧ (State.reset.woken (.sess 7)).prefect ≠ some 7 ∧ ((passIn 15 [] none none).woken (.sess 7)).prefect = some 7 ∧
    (State.reset.woken (.sess 7)).prefect = none ∧ (State.reset.woken (.sess 7)).host.electionClose = none ∧ ((passIn 0 [claim 2 0] (some 250000000) none).woken (.sess 7)).host.electionClose ≠ none ∧
    ((passIn 15 [] none none).woken (.sess 7)).host.nonce = 5 ∧ ((passIn 15 [claim 2 0] none none).woken (.sess 7)).claimOf 2 = some (claim 2 0) ∧
    ((passIn 15 [] none none).woken (.sess 7)).claimOf 2 = none ∧ ((passIn 8 [] none (some (7, 0))).woken (.sess 7)).host.handover = some (7, 0) ∧
    ((passIn 8 [] none (some (7, 0))).woken (.sess 7)).now ≤ 0 + 25000000 ∧ (State.reset.woken (.sess 7)).host.handover = none := by decide +kernel

theorem witness_HallPass_times :
    State.reset.host.electionClose = none ∧ (passIn 0 [claim 2 0] (some 250000000) none).host.electionClose = some 250000000 ∧ (passIn 0 [] (some 250000000) none).host.claims = [] ∧
    (∀ x ∈ (passIn 0 [claim 2 7, claim 6 7] none none).host.claims, x ≠ claim 2 7 → x.prio.toNat < (claim 2 7).prio.toNat ∨ (x.prio = (claim 2 7).prio ∧ (claim 2 7).sess.val < x.sess.val)) ∧
    State.reset.prefect = none ∧ (passIn 15 [] none none).prefect ≠ none ∧ (passIn 15 [] none none).host.renewedAt = 0 ∧ State.reset.host.handover = none ∧
    (passIn 8 [] none (some (7, 0))).host.handover = some (7, 0) ∧ (let s := { passIn 15 [] none none with cnt := 100000001 }
      s.host.renewedAt + 100000000 < s.now) := by decide +kernel

theorem witness_HallPass_change :
    (withRegs [(Reg.SCAN_PROG_STAT, 4)]).fld Reg.SCAN_PROG_STAT 3 0 = 4 ∧ State.reset.host.claims.isEmpty = true ∧ (passIn 0 [claim 2 0] none none).host.claims.isEmpty = false := by decide +kernel

theorem test_pass :
    (out (.claim (.sess 7) 3 9) State.reset).host.electionClose = some 250000000 ∧ (out (.claim (.sess 7) 3 9) State.reset).rd Reg.HOST_PASS_PEND = 0x80 ∧
    (out .electionClose (passIn 0 [claim 2 7, claim 6 7] (some 250000000) none)).prefect = some 2 ∧ (out .electionClose (passIn 0 [claim 2 6, claim 6 7] (some 250000000) none)).prefect = some 6 ∧
    (out (.renew (.sess 7) 6) (passIn 15 [] none none)).host.lastErr[7] = 2 ∧ (out (.release (.sess 7)) (passIn 15 [claim 2 0] none none)).prefect = none ∧
    (out (.handover (.sess 7) 2) (passIn 15 [claim 2 0] none none)).prefect = some 2 ∧ (out (.accept (.sess 7) 1 2) (passIn 8 [] none (some (7, 0)))).prefect = some 7 ∧
    (out .leaseLapse (passIn 15 [] none none)).prefect = none ∧ (out .leaseLapse (passIn 15 [] none none)).now = 125000000 ∧ (out .handoverLapse (passIn 8 [] none (some (7, 0)))).bit Reg.HOST_PASS_STAT 6 = true := by decide +kernel

/-- The QSPI port on, with some writes queued. -/
def qspiWith (q : List (BitVec 24 × Word)) : State :=
  let s := heldWith [(Reg.HOST_CFG, 1)]
  let ho := { s.host with qspi := q }
  { s with host := ho }

theorem witness_Sessions :
    (withRegs [(Reg.HOST_CFG, 0)]).bit Reg.HOST_CFG 0 = false ∧ (withRegs [(Reg.HOST_CFG, 1)]).bit Reg.HOST_CFG 0 = true ∧ State.reset.prefect ≠ some 0 ∧ held.prefect = some 0 ∧
    (State.reset.woken (.sess 7)).pwr.off = false ∧ (withRegs [(Reg.HOST_CFG, 0)]).qspiOn = false ∧ (qspiWith []).qspiOn = true ∧
    ((qspiWith [(0, 0), (4, 0), (8, 0)]).wakeRequest 0).host.qspi.length < 4 ∧ 4 ≤ ((qspiWith [(0, 0), (4, 0), (8, 0), (12, 0)]).wakeRequest 0).host.qspi.length ∧
    (qspiWith []).host.qspi = [] ∧ (qspiWith [(0x010004, 7)]).host.qspi = [(0x010004, 7)] ∧
    (match State.busWrite (qspiWith []) (.sess 1) 0x010004 0xF 7 with | .next _ => true | _ => false) = true := by decide +kernel

theorem test_sessions :
    (out (.sessionAppear 7) State.reset).rd Reg.HOST_PASS_PEND = 0x8000 ∧ (out (.sessionEnd 0) held).prefect = none ∧ (out (.pciePowerState (.ltr (some 9))) held).host.ltr = some 9 ∧
    (out (.qspiWrite 16 7) (qspiWith [(0, 0), (4, 0), (8, 0), (12, 0)])).host.lastErr[1] = 3 ∧ (out .qspiStatus (qspiWith [(0, 0)])).reply = [1] ∧
    (out (.lastErrRead (.sess 7)) (out (.renew (.sess 7) 6) State.reset)).reply = [1] := by decide +kernel

/-- Session 0 through a view of tenant 3. -/
def viewing : State := heldWith [(Reg.ROSTER_VIEW, 0x80000003)]

theorem witness_RegisterAccess_read :
    (held.woken m0).pwr.off = false ∧ (held.woken m0).phase ≠ 3 ∧ deadBlock Reg.SYS_ID = true ∧ (held.woken m0).owns m0 = true ∧ (State.reset.woken m0).owns m0 = false ∧
    ((viewing.woken m0).viewOf m0).any (fun t => !(viewing.woken m0).mayRead t 0) = true ∧ (viewing.woken m0).hidden m0 Reg.SYS_ID = false ∧ (held.woken m0).viewOf m0 = none ∧ regSpec? 0x00FFFC = none ∧
    (regSpec? 0x070000).isSome = true ∧ (let s := withRegs [(Reg.SYS_ID, 1)]
      s.absentBlock 0x070000) = true ∧ (held.woken m0).absentBlock Reg.FIELD_CTRL = false ∧ (held.woken m0).linkUp Reg.FIELD_CTRL = false ∧
    (regSpec? Reg.SYS_ID).isSome = true ∧ (held.woken m0).linkUp Reg.SYS_ID = true ∧ (regSpec? Reg.SYS_BUS_ERR).isSome = true ∧
    ((List.range 8).any (fun c => Reg.SYS_BUS_ERR == Reg.TIME_CAP_INFO c || Reg.SYS_BUS_ERR == Reg.LIFT_CAR_DZCAP_INFO c) || Reg.SYS_BUS_ERR == Reg.HOST_LAST_ERR) = false ∧
    Reg.SYS_BUS_ERR / 0x10000 ≠ 0x1F := by decide +kernel

/-- SYS_PT_STAGE clear, the point declared for the host; the module off and DEAD. -/
theorem witness_RegisterAccess_edges :
    aonRegister (BitVec.toNat (0x000010 : BitVec 24)) = false ∧ (held.woken m0).absentBlock 0x070000 = false ∧ (heldWith [(Reg.SYS_PHASE, 3)]).phase = 3 ∧ deadBlock Reg.SCAN_CTRL = false ∧
    (held.woken m0).linkUp Reg.HOST_PASS_CMD = true ∧ (regSpec? Reg.HOST_PASS_CMD).isSome = true ∧ (held.woken m0).absentBlock Reg.HOST_PASS_CMD = false ∧
    (regSpec? Reg.TIME_STAT).isSome = true ∧ stewardMask Reg.TIME_STAT ≠ 0 ∧ stewardMask Reg.SYS_SCRATCH = 0 ∧ (viewing.woken m0).hidden m0 (Reg.METER_CKT_STAT 0) = true ∧
    (regSpec? (Reg.METER_CKT_STAT 0)).isSome = true := by decide +kernel

theorem witness_RegisterAccess_write :
    (let s := { held with pwr := { held.pwr with off := true } }
     (s.woken .steward).pwr.off) = true ∧ ((State.reset.woken m0).owns m0 || ownRegister m0 Reg.SCAN_CTRL) = false ∧ ((held.woken m0).owns m0 || ownRegister m0 Reg.SCAN_CTRL) = true ∧
    (!(viewing.woken m0).viewed m0 || viewKeeps m0 Reg.SCAN_CTRL) = false ∧ (!(held.woken m0).viewed m0 || viewKeeps m0 Reg.SCAN_CTRL) = true ∧
    ((withRegs [(Reg.SYS_PHASE, 3)]).phase != 3 || deadBlock Reg.SCAN_CTRL) = false ∧ ((held.woken m0).phase != 3 || deadBlock Reg.SCAN_CTRL) = true ∧
    (decide (m0 ≠ .sess 0) || (7 : BitVec 4) == 15) = false ∧ (decide (m0 ≠ .sess 0) || (15 : BitVec 4) == 15) = true ∧
    (regSpec? 0x00FFFC).isNone = true ∧ (regSpec? Reg.SYS_SCRATCH).isSome = true ∧ (held.woken m0).absentBlock Reg.SYS_SCRATCH = false ∧ (held.woken m0).linkUp Reg.SYS_SCRATCH = true ∧
    ((held.woken m0).blockWrite m0 Reg.SYS_SCRATCH 5).isNone = true ∧ ((held.woken m0).blockWrite m0 Reg.TIME_RATE 5).isSome = true ∧ stewardMask Reg.SYS_SCRATCH = 0 ∧
    ((heldWith [(Reg.SYS_PHASE, 1)]).phase != 1 && Reg.SYS_SCRATCH / 0x10000 != 9 && (regSpec? Reg.SYS_SCRATCH).any (fun r => r.rw != 0 && (5 : Word) &&& r.rsv != 0)) = false ∧
    ((heldWith [(Reg.SYS_PHASE, 2)]).phase != 1 && Reg.SCAN_CTRL / 0x10000 != 9 && (regSpec? Reg.SCAN_CTRL).any (fun r => r.rw != 0 && (0xFFFFFFFF : Word) &&& r.rsv != 0)) = true := by decide +kernel

theorem witness_RegisterAccess_phase :
    (let u := (heldWith [(Reg.SYS_PHASE, 1), (Reg.KEY_LCS, 1), (Reg.SCAN_CTRL, 0)]).woken m0
     decide (m0 ≠ .steward) && u.phase == 1 && (u.fld Reg.KEY_LCS 2 0 == 1 || u.fld Reg.KEY_LCS 2 0 == 4) && !u.bit Reg.SCAN_CTRL 0) = true ∧
    ((heldWith [(Reg.SYS_PHASE, 1), (Reg.KEY_LCS, 3)]).woken m0).fld Reg.KEY_LCS 2 0 = 3 ∧ ((heldWith [(Reg.SYS_PHASE, 2)]).woken m0).phase = 2 ∧ (held.woken m0).viewed m0 = false := by decide +kernel

theorem test_registers :
    (out (.registerWrite m0 0x000030 5 15) (heldWith [(Reg.SYS_PHASE, 1)])).rd Reg.SYS_SCRATCH = 5 ∧ (out (.registerWrite m0 0x000030 5 7) held).fld Reg.SYS_BUS_ERR 15 8 = 1 ∧
    (out (.registerWrite m0 0x00FFFC 5 15) held).fld Reg.SYS_BUS_ERR 7 0 = 1 ∧ (out (.registerWrite (.sess 3) 0x000030 5 15) held).rd Reg.HOST_NOT_OWNER_CNT = 1 ∧
    (out (.registerWrite m0 0x040000 1 15) viewing).rd Reg.ROSTER_VIEW_DENY = 1 ∧ (out (.registerWrite m0 0x000030 7 15) (heldWith [(Reg.SYS_PHASE, 2)])).rd Reg.SYS_SCRATCH = 7 ∧
    (out (.readClear m0 0x00FFFC) held).reply = [0] ∧ (out (.readClear m0 0x000014) (heldWith [(Reg.SYS_BUS_ERR, 0x305)])).reply = [0x305] ∧
    (out (.readClear m0 0x000014) (heldWith [(Reg.SYS_BUS_ERR, 0x305)])).rd Reg.SYS_BUS_ERR = 0 ∧ (out (.readClear (.sess 3) 0x000014) (heldWith [(Reg.SYS_BUS_ERR, 0x305)])).rd Reg.SYS_BUS_ERR = 0x305 ∧
    (out (.busWatchdog m0 0x000030 false) held).fld Reg.SYS_BUS_ERR 23 16 = 1 ∧ (out (.enterTest m0) (heldWith [(Reg.SYS_PHASE, 1), (Reg.KEY_LCS, 1), (Reg.SCAN_CTRL, 0)])).phase = 2 ∧
    (out (.enterTest m0) (heldWith [(Reg.SYS_PHASE, 1), (Reg.KEY_LCS, 3)])).bit Reg.SYS_PHASE 9 = true ∧ (out (.leaveTest m0) (heldWith [(Reg.SYS_PHASE, 2)])).phase = 1 := by decide +kernel

/-- The mailbox with a latch in progress, its early object, the metering die linked, and a credential at index 65535. -/
def latchIn (l : List (Nat × Word)) (latching : Option (Nat × Nat × Option (BitVec 12))) (early : Option (Nat × List Word)) : State :=
  let s := heldWith l
  let b := { s.bus with latching := latching, early := early }
  let me := { s.meter with link := true }
  let ac := { s.acc with store := [(65535, some cred7)] }
  { s with bus := b, meter := me, acc := ac }

theorem witness_WindowsOfObjects_mailbox :
    (held.woken m0).pwr.off = false ∧ (held.woken m0).phase ≠ 3 ∧ (held.woken m0).owns m0 = true ∧ bits (0x00000005 : Word) 31 28 = 0 ∧ bits (0x4000FFFF : Word) 31 28 = 4 ∧
    State.reset.bus.latching = none ∧ (latchIn [] (some (1, 127, some 3)) none).bus.latching = some (1, 127, some 3) ∧ (latchIn [] (some (2, 1, none)) (some (0, [1]))).bus.early = some (0, [1]) ∧
    (latchIn [] (some (1, 125, none)) none).variant ≠ 2 ∧ (latchIn [(Reg.SYS_ID, 2)] (some (1, 125, none)) none).variant = 2 ∧ (latchIn [] none none).meter.link = true ∧
    (let me := { State.reset.meter with link := false }
     ({ State.reset with meter := me } : State).meter.link) = false ∧
    (latchIn [] none none).cktGranted 3 (125 / 8) = false ∧
    (Tab.get (fun _ => (none : Option (Vector Word 8))) (latchIn [] none none).acc.store 0).isNone = true ∧ Tab.get (fun _ => none) (latchIn [] none none).acc.store 65535 = some cred7 ∧
    BitVec.ofNat 12 (bits cred7[2] 11 0) = 3 := by decide +kernel

/-- Point 16383 declared for the host, words staged as SYS_PT_STAGE says. -/
def hostPoint (stage : Word) (view : Word) : State :=
  let s := heldWith [(Reg.SYS_PT_STAGE, stage), (Reg.ROSTER_VIEW, view)]
  { s with points := [(16383, { Point.zero with words := Point.zero.words.set 3 0x1C01 })] }

theorem witness_WindowsOfObjects_points :
    (let u := (hostPoint 0 0).woken m0
     !(u.viewOf m0).any (fun t => !u.mayWrite t 16383)) = true ∧
    (let u := (hostPoint 0 0x80000003).woken m0
     !(u.viewOf m0).any (fun t => !u.mayWrite t 16383)) = false ∧ (((hostPoint 0 0).woken m0).point 16382).producer ≠ 7 ∧ (((hostPoint 0 0).woken m0).point 16383).producer = 7 ∧
    (hostPoint 0x20007FFF 0).bit Reg.SYS_PT_STAGE 14 = true ∧ (hostPoint 0x20007FFF 0).fld Reg.SYS_PT_STAGE 13 0 = 16383 ∧ (hostPoint 0x20007FFE 0).fld Reg.SYS_PT_STAGE 13 0 ≠ 16383 ∧
    (hostPoint 0 0).bit Reg.SYS_PT_STAGE 14 = false ∧ (hostPoint 0 0).fld Reg.SYS_PT_STAGE 31 16 = 0 := by decide +kernel

theorem test_windows :
    (out (.mboxLatch m0 0x4000FFFF) held).rd Reg.MBOX_STAT = 2 ∧ (out (.mboxLatch m0 5) held).rd Reg.MBOX_STAT = 0 ∧ (out .mboxLatchDone (latchIn [] (some (4, 65535, none)) none)).bus.latch.take 3 = [7, 0, 0x00101003] ∧
    (out .mboxLatchDone (latchIn [] (some (4, 0, none)) none)).rd Reg.MBOX_STAT = 0xD ∧ (out .mboxLatchDone (latchIn [] (some (1, 126, none)) none)).rd Reg.MBOX_STAT = 5 ∧
    (out .mboxLatchDone (latchIn [] (some (4, 65535, some 4)) none)).rd Reg.MBOX_STAT = 0x11 ∧
    ((out (.pointValueWrite m0 16383 42) (hostPoint 0 0)).point 16383).word 0 = 42 ∧ (out (.pointStageWrite m0 16383 13 42) (hostPoint 0 0)).rd Reg.SYS_PT_STAGE = 0x20007FFF ∧
    (out (.pointStageWrite m0 16383 13 42) (hostPoint 0x10007FFE 0)).rd Reg.SYS_PT_DISCARD = 1 ∧ (out (.pointStageWrite m0 16383 3 42) (hostPoint 0 0)).rd Reg.SYS_PT_DROP = 1 ∧
    (out (.pointValueWrite m0 16382 42) (hostPoint 0 0)).rd Reg.SYS_PT_DROP = 0x10000 ∧ ((out (.pointValueWrite m0 16383 42) (hostPoint 0x20007FFF 0)).point 16383).word 0 = 42 := by decide +kernel

/-! ### The Charm and power -/

/-- The Charm's link up, sector 55 chosen, and some more registers. -/
def charmIn (l : List (Nat × Word)) : State := heldWith ([(Reg.CHARM_STAT, 4), (Reg.CHARM_XFER, 0x137)] ++ l)

/-- A transfer waits since 0, the RF side holds sector 55 with a shadow. -/
def charmWaits (wait : Option Nat) (l : List (Nat × Word)) : State :=
  let s := charmIn ([(Reg.CHARM_RFLOCK 1, 0x800000)] ++ l)
  let ch := { s.charm with waiting := wait, shadows := [(55, 9 :: List.replicate 255 0)] }
  { s with charm := ch }

theorem witness_CharmTransfers :
    (arrived (charmIn [])).obeys m0 = true ∧ (arrived (charmIn [(Reg.CHARM_XFER_STAT, 1)])).bit Reg.CHARM_XFER_STAT 0 = true ∧ (arrived (charmIn [])).bit Reg.CHARM_XFER_STAT 0 = false ∧
    (arrived (charmIn [])).fld Reg.CHARM_XFER 5 0 = 55 ∧ (true && ((arrived (charmIn [])).fld Reg.CHARM_XFER 5 0 == 0 || decide (56 ≤ (arrived (charmIn [])).fld Reg.CHARM_XFER 5 0)) &&
      !(decide (m0 = .steward) && decide (56 ≤ (arrived (charmIn [])).fld Reg.CHARM_XFER 5 0))) = false ∧
    decide (56 ≤ (arrived (charmIn [(Reg.CHARM_XFER, 0x138)])).fld Reg.CHARM_XFER 5 0) = true ∧ (arrived (charmIn [])).bit Reg.CHARM_STAT 2 = true ∧
    (arrived (charmIn [(Reg.CHARM_STAT, 0)])).bit Reg.CHARM_STAT 2 = false ∧ (arrived (charmWaits none [])).rfLocked 55 = true ∧ (arrived (charmIn [])).rfLocked 55 = false ∧
    State.reset.charm.waiting = none ∧ (charmWaits (some 0) []).charm.waiting = some 0 ∧ State.reset.hostLocked 63 = false ∧ (withRegs [(Reg.CHARM_HELD 1, 0x80000000)]).hostLocked 63 = true ∧
    Tab.get (fun _ => 0) (withRegs [(Reg.CHARM_HELD 1, 0x80000000)]).charm.hostAt 63 + 250000000 < 2 ^ 64 := by decide +kernel

theorem witness_CharmTransfers_rf :
    ((0xE106 : BitVec 16) == 0xE103 || (0xE106 : BitVec 16) == 0xE104 || (0xE106 : BitVec 16) == 0xE105) = false ∧ State.reset.fld Reg.KEY_LCS 2 0 ≤ 2 ∧
    ((0xE104 : BitVec 16) == 0xE104 && (decide ((withRegs [(Reg.KEY_LCS, 3)]).fld Reg.KEY_LCS 2 0 ≤ 2) || (withRegs [(Reg.KEY_LCS, 3)]).fld Reg.KEY_LCS 2 0 == 4 ||
      ((withRegs [(Reg.KEY_LCS, 3)]).fld Reg.KEY_LCS 2 0 == 3 && (withRegs [(Reg.KEY_LCS, 3)]).bit Reg.CHARM_CFG 0))) = false ∧
    14080 < (14079 : BitVec 16).toNat + [(1 : Byte), 2].length ∧ (14078 : BitVec 16).toNat + [(1 : Byte), 2].length ≤ 14080 ∧
    (decide (256 * 55 < 256 + 14078 + 2) && decide (256 + 14078 < 256 * (55 + 1))) = true ∧ (withRegs [(Reg.CHARM_HELD 1, 0x800000)]).hostLocked 55 = true ∧
    (∀ k, k < 64 → State.reset.hostLocked k = false) ∧ (14080 : Nat) < (14000 : BitVec 16).toNat + (81 : BitVec 8).toNat ∧ (14000 : BitVec 16).toNat + (80 : BitVec 8).toNat ≤ 14080 ∧
    State.reset.rfLocked 63 = false ∧ (charmWaits none []).rfLocked 55 = true ∧ (charmWaits none []).charm.shadows.find? (fun p => p.1 == 55) = some (55, 9 :: List.replicate 255 0) ∧
    ((9 : Byte) :: List.replicate 255 0).length = 256 ∧ ((charmWaits (some 0) []).charm.waiting.isSome && (charmWaits (some 0) []).fld Reg.CHARM_XFER 5 0 == 55) = true ∧
    ((charmWaits none []).charm.waiting.isSome && (charmWaits none []).fld Reg.CHARM_XFER 5 0 == 55) = false ∧ BitVec.ofNat 6 55 ∉ [(54 : BitVec 6)] := by decide +kernel

theorem test_charm :
    (out (.charmWrite m0) (charmIn [(Reg.CHARM_BUF 0, 0x01020304)])).sector 55 = [4, 3, 2, 1] ++ List.replicate 252 0 ∧ (out (.charmRead m0) (charmIn [(Reg.CHARM_XFER, 0x37)])).rd Reg.CHARM_XFER_STAT = 0 ∧
    (out (.charmWrite m0) (charmIn [(Reg.CHARM_XFER, 0x138)])).rd Reg.CHARM_XFER_STAT = 4 ∧ (out (.charmWrite m0) (charmWaits none [])).rd Reg.CHARM_XFER_STAT = 1 ∧
    (out .charmXferTimeout (charmWaits (some 0) [])).now = 1250000 ∧ (out (.hostLockRequest m0 1 0x800001) (charmWaits none [])).rd (Reg.CHARM_HELD 1) = 1 ∧
    (out (.rfUpdateBinary 0xE104 14078 [1, 2]) State.reset).reply = [0x9000] ∧ (out (.rfUpdateBinary 0xE103 0 [1]) State.reset).reply = [0x6982] ∧
    (out (.rfUpdateBinary 0xE104 14078 [1, 2]) (withRegs [(Reg.CHARM_HELD 1, 0x800000)])).reply = [0x6985] ∧ (out (.rfReadBinary 0xE103 0 2) State.reset).reply.head? = some 0x9000 ∧
    ((out (.rfLockRelease 55 true) (charmWaits none [])).sector 55).head? = some 9 ∧ (out (.rfLockRelease 55 true) (charmWaits none [])).now = 0 ∧
    (out (.rfLockRelease 55 false) (charmWaits none [])).now = 1250000 ∧ (charmWaits none []).charm.rfLast + 1250000 < 2 ^ 64 ∧ ((out (.rfFieldLoss [55]) (charmWaits none [])).sector 55).head? = some 0 ∧
    (out (.hostLockTimeout 63) (withRegs [(Reg.CHARM_HELD 1, 0x80000000)])).hostLocked 63 = false := by decide +kernel

/-- Feed A active, feed B in a state. -/
def feeds (b : Word) (l : List (Nat × Word)) : State := heldWith ([(Reg.PWR_FEED_STAT 0, 0x1001), (Reg.PWR_FEED_STAT 1, b)] ++ l)

/-- A transfer from feed A to feed B whose path closed at 0. -/
def feedMoving (commanded : Bool) (now : BitVec 64) : State :=
  let s := feeds 0x1001 [(Reg.PWR_STAT, 8)]
  let p := { s.pwr with xfer := some { old := 0, commanded := commanded, closedAt := 0, cnt := 5, test := 6 } }
  { s with cnt := now, pwr := p }

theorem witness_Feeds :
    ((1 : BitVec 4) == 0 || (feeds 2 []).feedState 0 == 0 || (feeds 2 []).feedState 0 == 4) = false ∧ ((feeds 2 []).feedState 0 == 1 && (feeds 2 []).feedState (otherFeed 0) == 2) = true ∧
    ((feeds 3 []).feedState 0 == 1 && (feeds 3 []).feedState (otherFeed 0) == 2) = false ∧ ((1 : BitVec 4) == 0 || (feeds 4 []).feedState 1 == 3 || (feeds 4 []).feedState 1 == 4) = true ∧
    (arrived (feeds 2 [])).obeys m0 = true ∧ (arrived (feeds 2 [])).feedState (otherFeed (arrived (feeds 2 [])).activeFeed) = 2 ∧ (arrived (feeds 2 [])).feedState (arrived (feeds 2 [])).activeFeed = 1 ∧
    (arrived (feeds 3 [])).feedState (otherFeed (arrived (feeds 3 [])).activeFeed) ≠ 2 ∧ State.reset.pwr.xfer = none ∧ (feedMoving true 750).pwr.xfer.isSome = true ∧ (feedMoving true 750).now ≤ 0 + 750 ∧
    0 + 750 < (feedMoving true 751).now ∧ (arrived (feeds 4 [])).feedState 1 ∈ [0, 3, 4] ∧ (arrived (feeds 2 [])).feedState 1 ∉ [0, 3, 4] ∧
    (feeds 3 [(Reg.PWR_FEED_CFG, 2)]).bit Reg.PWR_FEED_CFG 1 = true ∧ (feeds 3 [(Reg.PWR_FEED_CFG, 2)]).feedState 1 ∈ [0, 3] ∧ (feeds 4 []).feedState 1 ∉ [0, 3] ∧
    (feeds 2 [(Reg.PWR_FEED_CFG, 0)]).fld Reg.PWR_FEED_CFG 31 16 = 0 ∧ (feeds 2 [(Reg.PWR_FEED_CFG, 0xFFFF0000)]).fld Reg.PWR_FEED_CFG 31 16 = 65535 := by decide +kernel

theorem witness_Feeds_more :
    (feeds 4 []).feedState 1 = 4 ∧ ((1 : BitVec 4) == 0 || (feeds 4 []).feedState 1 == 0 || ((feeds 4 []).feedState 1 == 4 && (0 : Nat) == 3)) = false ∧ (1 : Fin 2) ≠ (feeds 2 []).activeFeed ∧
    (0 : Fin 2) = (feeds 2 []).activeFeed ∧ (feeds 2 [(Reg.PWR_FEED_TEST, 0x50000)]).fld Reg.PWR_FEED_TEST 31 16 = 5 ∧ (feeds 2 []).feedState 1 = 2 ∧ (feeds 2 []).feedState 0 = 1 := by decide +kernel

theorem test_feed_paths :
    (out (.feedAbsent 1 5) (feeds 4 [(Reg.NET_STAT 1, 0x10)])).rd (Reg.PWR_FEED_STAT 1) = 0x54 ∧ (out (.feedAbsent 1 5) (feeds 4 [(Reg.NET_STAT 1, 0x10)])).bit (Reg.NET_STAT 1) 4 = false ∧
    (out (.feedFaulted (some 1) 5) (feeds 4 [])).rd (Reg.PWR_FEED_STAT 1) = 0x504 ∧
    (let s := { feeds 2 [(Reg.PWR_FEED_TEST, 0x50000)] with cnt := 43200000000000 }
     s.feedDays 1 = 7 ∧ s.feedDays 0 = 0) := by decide +kernel

theorem test_feeds :
    (out (.feedAbsent 0 1) (feeds 2 [])).feedState 1 = 1 ∧ (out (.feedAbsent 0 1) (feeds 2 [])).activeFeed = 1 ∧ (out (.feedAbsent 0 1) (feeds 3 [])).feedState 1 = 3 ∧
    (out (.feedFaulted (some 0) 2) (feeds 2 [])).rd (Reg.PWR_FEED_STAT 0) = 0x203 ∧ (out (.transfer m0) (feeds 2 [])).feedState 0 = 2 ∧ (out (.transfer m0) (feeds 3 [])).feedState 0 = 1 ∧
    (out .transferPathTimeout (feedMoving false 0)).feedState 1 = 4 ∧ (out .transferPathTimeout (feedMoving true 0)).rd Reg.PWR_FEED_CNT = 5 ∧ (out (.restore m0 1) (feeds 4 [])).feedState 1 = 2 ∧
    (out (.feedAutoRestore 1) (feeds 4 [(Reg.PWR_FEED_CFG, 2)])).feedState 1 = 4 ∧ (out (.feedAutoRestore 1) (feeds 3 [(Reg.PWR_FEED_CFG, 2)])).feedState 1 = 2 ∧
    (out (.testDue 1) (feeds 2 [(Reg.PWR_FEED_CFG, 0x50000)])).fld Reg.PWR_FEED_TEST 31 16 = 5 := by decide +kernel

/-- Nothing keeps the module from a sleep state: roll call done, both steward cores wait, the agreement made. -/
def restful (cfg : Word) : State :=
  let s := withRegs [(Reg.HOST_CFG, 0), (Reg.PWR_CFG, cfg), (Reg.SYS_ROLL_STAT, 0x3F), (Reg.PWR_RECESS_STAT, 2), (Reg.LIFT_CTRL, 0), (Reg.DISP_CTRL, 0), (Reg.LOOP_CTRL, 0), (Reg.ACC_CTRL, 0)]
  let w := fun (s : State) (n : CoreId) => s.setCore n { s.core n with waiting := .interrupt }
  w (w s k64) ⟨65, by decide⟩

/-- No time set, no NAND operation. -/
def noWant : SleepWant := { stewardDue := none, nandBusy := false }

/-- An entry to a state with its commit point at 100 and its end at 200. -/
def entering (target : Nat) (now : BitVec 64) (done : Bool) (exit : Option Nat) : State :=
  let s := restful 7
  let p := { s.pwr with sleep := some { target := target, commitAt := 100, endAt := 200, committed := done, exitAt := exit } }
  { s with cnt := now, pwr := p }

theorem witness_SleepAndPowerFail :
    (State.reset.pwr.sleep.isSome || State.reset.pwr.off || !State.reset.bit Reg.SYS_ROLL_STAT 0) = true ∧
    ((restful 7).pwr.sleep.isSome || (restful 7).pwr.off || !(restful 7).bit Reg.SYS_ROLL_STAT 0) = false ∧ (restful 7).sleepWhy noWant 3 = 0 ∧ (restful 6).sleepWhy noWant 3 ≠ 0 ∧
    (restful 6).sleepWhy noWant 2 = 0 ∧ (restful 1).sleepWhy noWant 2 ≠ 0 ∧ (restful 1).sleepWhy noWant 1 = 0 ∧ (restful 0).sleepWhy noWant 1 ≠ 0 ∧
    (restful 2).fld Reg.PWR_CFG 1 0 < 3 ∧ (restful 3).bit Reg.PWR_CFG 2 = false ∧ State.reset.pwr.sleep = none ∧ (entering 3 99 false none).now < 100 ∧ 100 ≤ (entering 3 100 false none).now ∧
    (entering 2 100 true (some 300)).pwr.sleep.isSome = true := by decide +kernel

theorem witness_SleepAndPowerFail_tolerance :
    (let s := heldWith [(Reg.HOST_PASS_PEND, 0x8000), (Reg.HOST_LAT_TOL 7, 1)]
     s.bit Reg.HOST_PASS_PEND (8 + 7) = true ∧ s.fld (Reg.HOST_LAT_TOL 7) 23 0 * 250 < exitCounts 1 ∧ s.fld (Reg.HOST_LAT_TOL 7) 23 0 ≠ 0xFFFFFF) ∧
    (heldWith [(Reg.PWR_FEED_STAT 0, 0x1002)]).feedState 0 = 2 ∧ ((feeds 3 [(Reg.PWR_FEED_STAT 0, 4)]).feedState 0 == 1 || (feeds 3 [(Reg.PWR_FEED_STAT 0, 4)]).feedState 0 == 2) = false ∧
    ((feeds 3 [(Reg.PWR_FEED_STAT 0, 4)]).feedState 1 == 1 || (feeds 3 [(Reg.PWR_FEED_STAT 0, 4)]).feedState 1 == 2) = false ∧ State.reset.inRecess = false ∧
    State.reset.bit Reg.KEY_TAMPER_STAT 16 = false ∧ State.reset.pwr.off = false := by decide +kernel

theorem test_sleep :
    ((out (.sleepEntry noWant) (restful 7)).pwr.sleep.map (fun x => (x.target, x.commitAt, x.endAt))) = some (3, 500000, 512500) ∧
    ((out (.sleepEntry noWant) (restful 6)).pwr.sleep.map (fun x => (x.target, x.commitAt, x.endAt))) = some (2, 5000, 7500) ∧
    (out (.sleepEntry noWant) (restful 6)).fld Reg.PWR_LIMIT 4 0 = 8 ∧ (out (.wakeRequest 2) (entering 2 99 false none)).rd Reg.PWR_RACE_CNT = 1 ∧
    (out (.wakeRequest 2) (entering 2 100 false none)).rd Reg.PWR_RACE_CNT = 0x10000 ∧ (out (.wakeRequest 2) (entering 2 100 false none)).now = 20200 ∧
    (out (.wakeRequest 2) (entering 2 100 false none)).rd (Reg.PWR_ENTRY_CNT 1) = 1 ∧ (out .scheduledExit (entering 1 50 false (some 300))).now = 800 ∧
    (out (.powerFailDetect [] (some 7)) (feeds 3 [(Reg.PWR_FEED_STAT 0, 4)])).pwr.off = true ∧ (out (.powerFailDetect [] none) (feeds 3 [(Reg.PWR_FEED_STAT 0, 4)])).pwr.off = true := by decide +kernel

/-- The agreement as some fields of PWR_RECESS_STAT and the ports up say. -/
def agreeing (stat t1l : Word) (r : RecessSt → RecessSt) : State :=
  let s := plus (restful 7) [(Reg.PWR_RECESS_STAT, stat), (Reg.NET_T1L_STAT 2, t1l), (Reg.NET_T1L_STAT 3, t1l)]
  s.setRecess (r s.pwr.recess)

theorem witness_RecessAgreement :
    (let s := agreeing 0 0 id
     s.fld Reg.PWR_RECESS_STAT 1 0 == 0 && s.dozeFree && s.napFree noWant && s.recessFree && s.bit Reg.PWR_CFG 2) = true ∧
    (let s := agreeing 0 0 id
     max s.now (max (s.pwr.recess.quietSince.getD s.now + 2500000000) s.pwr.recess.nextAsk) < 2 ^ 64) ∧ State.reset.dozeFree = false ∧ (agreeing 0 0 id).riserUp 0 = false ∧ (agreeing 0 0x10 id).riserUp 1 = true ∧ (agreeing 0 0 id).fld Reg.SYS_ROLL_STAT 5 0 = 0x3F ∧
    (agreeing 0 0 id).fld Reg.TIME_STAT 6 4 ≠ 3 ∧ (0 : Fin 2) ≠ 1 ∧ ((agreeing 0xFFFF0001 0 id).fld Reg.PWR_RECESS_STAT 1 0 == 1 && (agreeing 0xFFFF0001 0 id).fld Reg.PWR_RECESS_STAT 31 16 == 0xFFFF) = true ∧
    (agreeing 1 0 (fun r => { r with awaits := #v[true, true] })).pwr.recess.awaits[1] = true ∧ (agreeing 1 0 id).pwr.recess.awaits[1] = false ∧ (7 : BitVec 8).toNat < 8 ∧
    (agreeing 1 0 id).pwr.recess.given[0] = none ∧ (agreeing 1 0 (fun r => { r with given := #v[some (7, 0), none] })).pwr.recess.given[0] = some (7, 0) ∧
    (agreeing 2 0 (fun r => { r with agreedAt := some 0 })).pwr.recess.agreedAt = some 0 ∧ (agreeing 2 0 id).pwr.recess.agreedAt = none ∧
    (entering 2 100 false none).pwr.sleep ≠ none ∧ (agreeing 0 0 id).pwr.recess.waking[1] = none ∧
    (let s := agreeing 0 0 (fun r => { r with waking := #v[none, some 0] })
     s.pwr.recess.waking[1] = some 0 ∧ 0 + ((s.now - 0) / 250000 + 1) * 250000 ≤ 0 + 12500000) ∧
    (let s := { agreeing 0 0 (fun r => { r with waking := #v[none, some 0] }) with cnt := 12500000 }
     0 + 12500000 < 0 + ((s.now - 0) / 250000 + 1) * 250000) := by decide +kernel

theorem test_recess :
    (out (.recessAsk 7) (agreeing 0 0 id)).rd Reg.PWR_RECESS_STAT = 0x70002 ∧ (out (.recessAsk 7) (agreeing 0 0x10 id)).fld Reg.PWR_RECESS_STAT 1 0 = 1 ∧
    (out (.recessRequestRx 1 7 false) (agreeing 0 0 id)).pwr.recess.given[1] = some (7, 0) ∧ (out (.recessRequestRx 1 7 true) (agreeing 0 0 id)).pwr.recess.given[1] = none ∧
    (out (.recessGrantRx 0 7) (agreeing 0x70001 0 id)).fld Reg.PWR_RECESS_STAT 1 0 = 2 ∧ (out (.recessGrantRx 0 7) (agreeing 0x70001 0 (fun r => { r with awaits := #v[true, true] }))).fld Reg.PWR_RECESS_STAT 1 0 = 1 ∧
    (out (.recessRefuseRx 1 7 7) (agreeing 0x70001 0 id)).fld Reg.PWR_RECESS_STAT 6 2 = 30 ∧ (out (.recessAnswerTimeout 1) (agreeing 0x70001 0 (fun r => { r with awaits := #v[true, true] }))).now = 2500000 ∧
    (out (.recessCommitRx 0 7) (agreeing 0 0 (fun r => { r with given := #v[some (7, 0), none] }))).pwr.recess.gone[0] = true ∧
    (out (.recessWithdrawRx 0 7) (agreeing 0 0 (fun r => { r with given := #v[some (7, 0), none] }))).pwr.recess.given[0] = none ∧
    (out (.recessGrantLapse 0) (agreeing 2 0 (fun r => { r with agreedAt := some 0 }))).fld Reg.PWR_RECESS_STAT 1 0 = 0 ∧
    (out (.wakeFrame 0 true) (entering 2 100 false none)).pwr.recess.waking[1] = some 20200 ∧ (out (.wakeFrameResend 1) (agreeing 0 0 (fun r => { r with waking := #v[none, some 0] }))).now = 250000 := by decide +kernel

/-! ### Startup and firmware -/

/-- The module without power. -/
def unpowered : State := let p := { State.reset.pwr with off := true }
  { State.reset with pwr := p }

theorem witness_Startup :
    unpowered.pwr.off = true ∧ State.reset.pwr.off = false ∧ (held.woken m0).pwr.off = false ∧ (held.woken m0).owns m0 = true ∧ (held.woken m0).viewed m0 = false ∧ (held.woken m0).obeys m0 = true ∧
    (withRegs [(Reg.SYS_PHASE, 1)]).phase ≠ 0 ∧ State.reset.phase = 0 ∧ State.reset.bit Reg.SYS_ROLL_STAT 0 = false ∧ (withRegs [(Reg.SYS_ROLL_STAT, 1)]).bit Reg.SYS_ROLL_STAT 0 = true ∧
    (0, 30000000) ∈ [(0, 30000000), (1, 11250000000), (2, 0), (3, 0), (5, 22500000000)] ∧ (withRegs [(Reg.SYS_ROLL_STAT, 0x20)]).bit Reg.SYS_ROLL_STAT 5 = true ∧
    State.reset.riserUp 1 = false ∧ State.reset.bit Reg.SYS_ROLL_STAT 24 = false ∧ (withRegs [(Reg.NET_T1L_STAT 3, 0x10)]).riserUp 1 = true ∧ State.reset.riserUp 0 = false ∧
    State.reset.bit Reg.SYS_ROLL_STAT 25 = false ∧ (withRegs [(Reg.SYS_ROLL_STAT, 0xFF01)]).fld Reg.SYS_ROLL_STAT 15 8 = 255 ∧ (withRegs [(Reg.SYS_ROLL_STAT, 0xFE01)]).fld Reg.SYS_ROLL_STAT 15 8 ≠ 255 := by decide +kernel

/-- The roll call on riser port 1's frame at count 5; the counts at which the topmost module and the head place themselves. -/
theorem witness_Startup_roll :
    (withRegs [(Reg.SYS_ID, 1)]).hasLift = false ∧ (let s := withRegs [(Reg.SYS_ROLL_STAT, 1)]
      max s.now (s.net.step1At + 62500000) < 2 ^ 64 ∧ max s.now (max (s.net.posAt + 25000000) (s.net.step1At + 62500000)) < 2 ^ 64) ∧
    (withRegs [(Reg.SYS_ROLL_STAT, 0x30001)]).fld Reg.SYS_ROLL_STAT 23 16 = 3 ∧ (out (.rollFrame 1 9) State.reset).net.rollHeld = some 9 ∧
    (out .rollHead (withRegs [(Reg.SYS_ROLL_STAT, 1)])).now = 62500000 ∧ (out .powerOnReset (plus unpowered [(Reg.SYS_ID, 1)])).rd Reg.SYS_RESET_CAUSE = 0 := by decide +kernel

theorem test_startup :
    (out .powerOnReset unpowered).rd Reg.SYS_RESET_CAUSE = 0x10000 ∧ (out .resetNAssert (withRegs [(Reg.SYS_RESET_CAUSE, 0xFF00)])).rd Reg.SYS_RESET_CAUSE = 0xFF01 ∧
    (out (.sysResetGo m0 0x5A) held).fld Reg.SYS_RESET_CAUSE 15 0 = 0x102 ∧ (out (.sysResetGo m0 0x5B) held).fld Reg.SYS_RESET_CAUSE 15 8 = State.reset.fld Reg.SYS_RESET_CAUSE 15 8 ∧
    (out (.thermalAlarm 116) held).evt.sram.getLast?.map (fun r => r.sev) = some 6 ∧ (out (.thermalAlarm 115) held).evt.sram.getLast?.map (fun r => r.sev) = some 5 ∧
    (out (.thermalAlarm 105) held).evt.sram.length = 0 ∧ (out .rollCall State.reset).phase = 1 ∧ (out (.rollStepLate 0) State.reset).now = 30000000 ∧
    (out (.rollStepLate 0) State.reset).bit Reg.SYS_ROLL_STAT 6 = true ∧ (out .rollHead (withRegs [(Reg.SYS_ROLL_STAT, 1)])).bit Reg.SYS_ROLL_STAT 24 = true ∧
    (out (.rollFrame 1 255) (withRegs [(Reg.SYS_ROLL_STAT, 1)])).fld Reg.SYS_ROLL_STAT 15 8 = 0 ∧ (out .rollTop (withRegs [(Reg.SYS_ROLL_STAT, 0xFE01)])).fld Reg.SYS_ROLL_STAT 23 16 = 255 := by decide +kernel

/-- The update engine with its registers: FWU_STAT, the two slots' states, and more; its other state changed. -/
def fwuIn (stat a b : Word) (l : List (Nat × Word)) (f : FwuSt → FwuSt) : State :=
  let s := heldWith ([(Reg.FWU_STAT, stat), (Reg.FWU_SLOT_STAT 0, a), (Reg.FWU_SLOT_STAT 1, b), (Reg.SYS_PHASE, 1)] ++ l)
  { s with fwu := f s.fwu }

/-- A manifest of two blocks with IMAGE_ID 9 for variant X, its signature zeros. -/
def manifest9 : List Byte := [0x45, 0x53, 0x46, 0x57, 1, 0, 2, 0, 9, 0, 0, 0, 0, 0, 0, 0, 1, 0, 0, 0, 0, 0, 0, 0, 1] ++ List.replicate 4071 0

/-- A transfer of that image into slot 1, none of its blocks there. -/
def receiving (riser : Bool) (fails : Nat) : State :=
  fwuIn (if riser then 0x401 else 1) 0xC 1 [] (fun f => { f with slots := #v[{ manifest := [], blocks := [] }, { manifest := manifest9, blocks := [] }], xfer := some 9, fails := fails })

theorem witness_FirmwareUpdate_host :
    (let e := State.woken (held.emit []) m0
     !e.pwr.off && e.owns m0 && !e.viewed m0) = true ∧ (let e := State.woken ((fwuIn 5 0 0 [] id).emit []) m0
     e.fwuState) = 5 ∧ (let e := State.woken ((fwuIn 6 0 0 [] id).emit []) m0
     e.fwuState) = 6 ∧ (let e := State.woken ((receiving false 0).emit []) m0
     e.fwu.began || (e.fwu.xfer.isSome && !e.bit Reg.FWU_STAT 10)) = true ∧ (let e := State.woken ((receiving true 0).emit []) m0
     e.fwu.began || (e.fwu.xfer.isSome && !e.bit Reg.FWU_STAT 10)) = false ∧ (let off := (withRegs [(Reg.FWU_OFFSET, 50270204)]).fld Reg.FWU_OFFSET 25 0
     decide (off + 4 ≤ 50270208) && decide (0 < 4) && decide (4 ≤ 4096) && 4 % 4 == 0 && off % 4 == 0) = true ∧
    (let off := (withRegs [(Reg.FWU_OFFSET, 50270204)]).fld Reg.FWU_OFFSET 25 0
     decide (off + 8 ≤ 50270208) && decide (0 < 8) && decide (8 ≤ 4096) && 8 % 4 == 0 && off % 4 == 0) = false ∧ (arrived (fwuIn 2 0xC 2 [] id)).fwuState = 2 ∧ ((arrived (fwuIn 2 0xC 2 [] id)).slotIn 2).isSome = true ∧
    (arrived (fwuIn 2 0xC 2 [] id)).forwardEnded = true ∧ (arrived (fwuIn 6 0 2 [] id)).slotIn 2 = some 1 ∧ (arrived (fwuIn 6 0 6 [] id)).slotIn 2 = none := by decide +kernel

/-- Bytes staged one after the other from 0. -/
def staged0 (l : List Byte) (n : Nat) : List (Nat × Option Byte) := (List.range' n l.length).zip (l.map some)

/-- What is staged at a place. -/
theorem staged0_get (l : List Byte) (n j : Nat) (h : j < l.length) : Tab.get (fun _ => (none : Option Byte)) (staged0 l n) (n + j) = l[j]? := by
  induction l generalizing n j with
  | nil => simp at h
  | cons b l ih =>
    cases j with
    | zero => simp [staged0, List.range'_succ, Tab.get]
    | succ j =>
      have := ih (n + 1) j (by simpa using h)
      simpa [staged0, List.range'_succ, Tab.get, Nat.add_assoc, Nat.add_comm 1 j] using this

/-- A filter that keeps everything is a map. -/
theorem filterMap_all {α β : Type} (f : α → Option β) (g : α → β) (l : List α) (h : ∀ i, i ∈ l → f i = some (g i)) : l.filterMap f = l.map g := by
  induction l with
  | nil => rfl
  | cons a l ih =>
    rw [List.filterMap_cons_some (h a (List.mem_cons_self ..)), List.map_cons, ih (fun i hi => h i (List.mem_cons_of_mem _ hi))]

/-- A list of 4096 bytes staged from 0 has arrived. -/
theorem arrived_staged (s : State) (l : List Byte) (h : l.length = 4096) (hs : s.fwu.stage = staged0 l 0) : s.arrived 0 4096 = some l := by
  have e : (List.range 4096).filterMap (fun i => Tab.get (fun _ => none) s.fwu.stage (0 + i)) = l := by
    rw [hs, ← h, filterMap_all _ (fun i => l.getD i 0)]
    · apply List.ext_getElem
      · simp
      · intro i h1 h2
        simp [List.getD, h2]
    · intro i hi
      have hi : i < l.length := by simpa using hi
      simp only [staged0_get l 0 i hi]
      simp [List.getD, hi]
  unfold State.arrived
  simp only [e, h]
  rfl

/-- A host delivery begun, its manifest arrived. -/
def delivered (l : List Byte) : State := fwuIn 1 0xC 0 [] (fun f => { f with began := true, stage := staged0 l 0 })

theorem witness_FirmwareUpdate_manifest (l : List Byte) (h : l.length = 4096) : (delivered l).fwu.began = true ∧ (delivered l).arrived 0 4096 = some l ∧ (delivered l).fwu.xfer = none :=
  ⟨rfl, arrived_staged _ _ h rfl, rfl⟩

/-- A manifest without the magic. -/
def noManifest : List Byte := List.replicate 4096 0

theorem witness_FirmwareUpdate_lengths : noManifest.length = 4096 ∧ manifest9.length = 4096 := by decide +kernel

theorem witness_FirmwareUpdate_refuse : (delivered noManifest).manifestErr noManifest = 1 := by decide +kernel

/-- A manifest is accepted where the opaque signature check accepts it. -/
theorem witness_FirmwareUpdate_accept (h : Config.verify 1 Config.firmwareKey ((manifest9.drop 4000).take 96) (manifest9.take 4000) = true) : (delivered manifest9).manifestErr manifest9 = 0 := by
  have e1 : (FwuSlot.field { manifest := manifest9, blocks := [] } 4 2 = 1 ∧ FwuSlot.count { manifest := manifest9, blocks := [] } = 2 ∧ manifest9.take 4 = [0x45, 0x53, 0x46, 0x57]) := by decide +kernel
  have e2 : ((((manifest9.drop 25).take 1).all (· == 0)) && (((manifest9.drop 30).take 2).all (· == 0)) && (((manifest9.drop 80).take 3920).all (· == 0))) = true := by decide +kernel
  have e3 : (manifest9.getD 24 0).getLsbD (delivered manifest9).variant = true ∧ (delivered manifest9).runningSlot = some 0 ∧ ((delivered manifest9).fwSlot 0) = { manifest := [], blocks := [] } ∧
    (delivered manifest9).fwu.xfer = none ∧ (delivered manifest9).fwuState = 1 ∧ (delivered manifest9).fld Reg.KEY_LCS 2 0 ≠ 5 := by decide +kernel
  have e4 : FwuSlot.field { manifest := manifest9, blocks := [] } 16 4 = 1 ∧ FwuSlot.field { manifest := manifest9, blocks := [] } 28 2 = 0 ∧
    FwuSlot.field { manifest := [], blocks := [] } 20 4 = 0 ∧ FwuSlot.field { manifest := [], blocks := [] } 26 2 = 0 := by decide +kernel
  have e5 : (delivered manifest9).freeSlot = some 1 ∧ (delivered manifest9).nand.bad = [] := by decide +kernel
  unfold State.manifestErr
  simp only [e1, e2, e3, e4, e5, h]
  simp

theorem witness_FirmwareUpdate_slots :
    (delivered manifest9).freeSlot = some 1 ∧ FwuSlot.count { manifest := manifest9, blocks := [] } ≠ 0 ∧ ((delivered manifest9).fwSlot 1).imageId ≠ FwuSlot.imageId { manifest := manifest9, blocks := [] } ∧
    ((receiving true 0).fwSlot 1).blocks.length < 767 ∧ 2 ≤ (receiving true 2).fwu.fails ∧ (receiving true 1).fwu.fails < 2 ∧ ((receiving true 0).fwSlot 1).count = 2 ∧
    (let s := fwuIn 1 0xC 1 [] (fun f => { f with slots := #v[{ manifest := [], blocks := [] }, { manifest := manifest9, blocks := [[]] }] })
     (s.fwSlot 1).blocks.length + 1 = (s.fwSlot 1).count) ∧
    (let e := State.emit (fwuIn 0 0xC 0 [] (fun f => { f with slots := #v[{ manifest := manifest9, blocks := [] }, { manifest := [], blocks := [] }] })) []
     match e.runningSlot with | some n => (e.fwSlot n).imageId == FwuSlot.imageId { manifest := manifest9, blocks := [] } && (e.fwSlot n).manifest == manifest9 | none => false) = true ∧
    (let e := State.emit (delivered manifest9) []
     match e.runningSlot with | some n => (e.fwSlot n).imageId == FwuSlot.imageId { manifest := manifest9, blocks := [] } && (e.fwSlot n).manifest == manifest9 | none => false) = false := by decide +kernel

/-- An image of slot 1 goes up the riser. -/
def forwards (mf : Bool) (next : Nat) (sent : Option Nat) (fails : Nat) : State :=
  let up : FwdSt := { slot := 1, manifest := mf, next := next, sentAt := sent, fails := fails }
  fwuIn 3 0xC 2 [] (fun f => { f with slots := #v[{ manifest := [], blocks := [] }, { manifest := manifest9, blocks := [[], []] }], fwd := some up })

theorem witness_FirmwareUpdate_riser :
    State.reset.fwu.xfer = none ∧ (receiving true 0).fwu.xfer = some 9 ∧ (decide ((9 : BitVec 64).setWidth 32 = (9 : Word)) && (receiving true 0).bit Reg.FWU_STAT 10 &&
      decide ((1 : BitVec 16).toNat < 767) && decide ((65535 : Word).toNat + [(0 : Byte)].length ≤ 65536)) = true ∧ (receiving true 0).fld Reg.FWU_STAT 25 16 ≤ 0 ∧
    (plus (receiving true 0) [(Reg.FWU_STAT, 0x10401)]).fld Reg.FWU_STAT 25 16 = 1 ∧ State.reset.fwu.fwd = none ∧ ((forwards true 0 (some 0) 0).fwu.fwd.map (·.sentAt)) = some (some 0) ∧
    ((forwards true 0 none 0).fwu.fwd.map (·.sentAt)) = some none ∧ ((forwards false 1 (some 0) 2).fwu.fwd.map (fun f => (f.manifest, f.next, f.fails))) = some (false, 1, 2) ∧
    ((forwards true 0 (some 0) 0).fwSlot 1).count ≤ 767 ∧ 0 + 50000000 < 2 ^ 64 ∧ (receiving false 0).bit Reg.FWU_STAT 10 = false ∧ (receiving true 0).bit Reg.FWU_STAT 10 = true ∧
    State.reset.slotIn 1 = none ∧ (receiving true 0).slotIn 1 = some 1 ∧ (receiving true 0).fwu.lastAt + 150000000000 < 2 ^ 64 := by decide +kernel

/-- The trial: FWU_STAT, slot 0 OLD and slot 1 TRIAL, FWU_CFG, when the new image took over, readiness. -/
def trialIn (stat cfg : Word) (since : Option Nat) (ready : Bool) (f : FwuSt → FwuSt) : State := fwuIn stat 5 0xB [(Reg.FWU_CFG, cfg)] (fun x => f { x with trialAt := since, ready := ready })

theorem witness_FirmwareUpdate_trial :
    (let s := fwuIn 2 0xC 2 [(Reg.FWU_CFG, 2)] id
     s.bit Reg.FWU_CFG 1 && (s.fwuState == 2 || s.fwuState == 3) && (s.slotIn 2).isSome && s.forwardEnded) = true ∧ State.reset.fwuState ≠ 2 ∧ (fwuIn 2 0xC 2 [] id).runningSlot = some 0 ∧
    (fwuIn 2 0xC 2 [] id).slotIn 2 = some 1 ∧ (decide ((trialIn 4 0 none false id).fwuState = 4) && !(trialIn 4 0 none false id).fwu.ready) = true ∧
    (decide ((trialIn 4 0 none true id).fwuState = 4) && !(trialIn 4 0 none true id).fwu.ready) = false ∧ (trialIn 4 0 none false id).fwu.prepAt + 30000000000 < 2 ^ 64 ∧
    (trialIn 5 0 (some 0) false id).slotIn 3 = some 1 ∧ (trialIn 5 0 (some 0) false id).slotIn 5 = some 0 ∧ (trialIn 5 0 (some 0) false id).fwu.trialAt = some 0 ∧ State.reset.slotIn 3 = none ∧
    (trialIn 5 4 (some 0) false id).bit Reg.FWU_CFG 2 = true ∧ (trialIn 5 4 (some 0) false id).fwu.confirmed = false ∧ (trialIn 5 0 (some 0) false id).bit Reg.FWU_CFG 2 = false ∧
    (trialIn 5 0 (some 0) false id).now ≤ 0 + (trialIn 5 0 (some 0) false id).fld Reg.FWU_REPORT_DEADLINE 11 0 * 250000000 ∧
    0 + (trialIn 5 0 (some 0) false id).fld Reg.FWU_REPORT_DEADLINE 11 0 * 250000000 < 2 ^ 64 ∧ (trialIn 5 0 none false id).fwu.trialAt = none ∧ (trialIn 5 0 (some 0) false id).fwuState ≠ 6 ∧
    (let s := { trialIn 5 0 (some 0) false id with cnt := 0x7FFFFFFFFFFFFFFF }
     0 + s.fld Reg.FWU_REPORT_DEADLINE 11 0 * 250000000 < s.now) := by decide +kernel

theorem witness_FirmwareUpdate_watchdog :
    unpowered.pwr.off = true ∧ (fwuIn 0 0xC 0 [] id).pwr.off = false ∧ (fwuIn 0 0xC 0 [] id).fwuState ∉ [4, 6] ∧ (fwuIn 0 0xC 0 [] id).phase ≠ 0 ∧ (fwuIn 0 0xC 0 [] id).fwu.trialAt.isSome = false ∧
    (0 : Fin 2) = (fwuIn 0 0xC 0 [] id).fwu.active ∧ (1 : Fin 2) ≠ (fwuIn 0 0xC 0 [] id).fwu.active ∧ (fwuIn 0 0xC 0 [] id).fwu.failed[1 - (0 : Fin 2)] = false ∧
    (fwuIn 0 0xC 0 [] (fun f => { f with failed := #v[false, true] })).fwu.failed[1 - (0 : Fin 2)] = true ∧ (trialIn 5 0 (some 0) false id).fwu.trialAt.isSome = true ∧ (trialIn 4 0 none false id).fwuState = 4 ∧
    (fwuIn 0 0xC 5 [(Reg.SYS_PHASE, 0)] id).phase = 0 ∧ (fwuIn 0 0 0 [(Reg.SYS_PHASE, 0)] id).slotIn 4 = none ∧ (fwuIn 0 0xC 5 [(Reg.SYS_PHASE, 0)] id).slotIn 4 = some 0 ∧
    (fwuIn 0 0xC 5 [(Reg.SYS_PHASE, 0)] id).slotState 1 ∈ [2, 5, 6] ∧ (fwuIn 0 0xC 5 [(Reg.SYS_PHASE, 0)] id).fwu.failed[(0 : Fin 2)] = false ∧
    (fwuIn 0 0xC 5 [(Reg.SYS_PHASE, 0)] (fun f => { f with failed := #v[true, false] })).fwu.failed[(0 : Fin 2)] = true := by decide +kernel

theorem witness_FirmwareUpdate_chain :
    ((fwuIn 2 0xC 2 [] id).fwSlot 1).chainOk = true ∧ FwuSlot.chainOk { manifest := manifest9, blocks := [] } = false ∧ (receiving false 0).fwu.xfer ≠ none ∧
    (receiving false 0).hostManifest.fwu.xfer = some 9 := by decide +kernel

theorem test_firmware :
    (out (.fwuBegin m0) (fwuIn 5 0 0 [] id)).fld Reg.FWU_STAT 8 5 = 8 ∧ (out (.fwuBegin m0) (fwuIn 0 0 0 [] id)).fwuState = 1 ∧ (out (.fwuPush m0 { data := [] }) (fwuIn 0 0 0 [] id)).fld Reg.FWU_STAT 8 5 = 8 ∧
    (out (.fwuAbort m0) (receiving false 0)).fwu.xfer = none ∧ (out (.confirm m0) (fwuIn 5 0 0 [] id)).fwu.confirmed = true ∧ (out (.fwuStart m0) (fwuIn 2 0xC 2 [] id)).slotState 1 = 3 ∧
    ((receiving true 2).blockFailed 1 true).fld Reg.FWU_STAT 8 5 = 6 ∧ (out (.fwuAck 1 0) (forwards false 1 (some 0) 0)).rd Reg.FWU_FWD = 2 ∧ (out (.fwuNak 1) (forwards false 1 (some 0) 2)).fwu.fwd = none ∧
    (out .fwuAckTimeout (forwards false 1 (some 0) 0)).now = 50000000 ∧ (out (.fwuFrameAbort false) (receiving true 0)).fwuState = 0 ∧ (out .receivingDiscard (receiving true 0)).slotState 1 = 0 := by decide +kernel

theorem test_trial :
    (out .fwuInstall (fwuIn 2 0xC 2 [(Reg.FWU_CFG, 2)] id)).fwuState = 4 ∧ (out (.preparationDone 7) (trialIn 4 0 none false id)).rd Reg.FWU_MIGRATE_CNT = 7 ∧
    (out .preparationTimeout (trialIn 4 0 none false id)).rd (Reg.FWU_SLOT_STAT 1) = 0xCE ∧ (out .reportCard (trialIn 5 0 (some 0) false id)).slotState 1 = 4 ∧
    (out .reportCard (trialIn 5 4 (some 0) false id)).slotState 1 = 3 ∧ (out .reportDeadline (trialIn 5 0 (some 0) false id)).slotState 0 = 4 ∧
    (out (.stewardWatchdog 0) (fwuIn 0 0xC 0 [] id)).fwu.active = 1 ∧ (out (.stewardWatchdog 0) (fwuIn 0 0xC 0 [] (fun f => { f with failed := #v[false, true] }))).fld Reg.SYS_RESET_CAUSE 7 0 = 3 ∧
    (out (.stewardWatchdog 0) (fwuIn 0 0xC 5 [(Reg.SYS_PHASE, 0)] id)).slotState 1 = 4 ∧ (out (.stewardWatchdog 0) (fwuIn 0 0 0 [(Reg.SYS_PHASE, 0)] id)).phase = 3 := by decide +kernel

/-! ### Links, the event recorder, tampering and debug -/

/-- The metering link down. -/
def meterDown : State := let me := { State.reset.meter with link := false }
  { State.reset with meter := me }

theorem witness_LinksBetweenDies :
    (withRegs [(Reg.FIELD_STAT, 0)]).bit Reg.FIELD_STAT 8 = false ∧ (fieldUp []).bit Reg.FIELD_STAT 8 = true ∧ (fieldUp []).inRecess = false ∧ State.reset.phase = 0 ∧
    (withRegs [(Reg.SYS_PHASE, 1), (Reg.FIELD_STAT, 0)]).phase ≠ 0 ∧ (withRegs [(Reg.SYS_ID, 2)]).variant = 2 ∧ State.reset.variant ≠ 2 ∧ (withRegs [(Reg.SYS_ID, 1)]).variant = 1 ∧
    State.reset.variant ≠ 1 ∧ (fieldUp [(Reg.FIELD_DI_CFG 95, 0x4001)]).bit (Reg.FIELD_DI_CFG 95) 14 = true ∧ meterDown.meter.link = false := by decide +kernel

theorem witness_LinksBetweenDies_gates :
    (Tab.get (fun _ => false) (fieldUp []).field.pwmLost (95 : Fin 96).val || !(fieldUp []).bit Reg.FIELD_STAT 8 || (fieldUp []).inRecess) = false ∧
    (Tab.get (fun _ => false) State.reset.field.pwmLost 0 || !(withRegs [(Reg.FIELD_STAT, 0)]).bit Reg.FIELD_STAT 8 || State.reset.inRecess) = true ∧
    (recess (fieldUp [])).inRecess = true ∧ (recess (fieldUp [])).variant ≠ 2 := by decide +kernel

theorem test_gate_links :
    (out (.crossDieCrcError (.pwm 95)) State.reset).linkErrs = [(0, 1)] ∧ (out (.linkLoss (.pwm 95)) (fieldUp [(Reg.LOOP_STG_MODE 45, 0x10)])).opMode 15 = 5 ∧
    (out (.linkReturn (.pwm 95)) (out (.linkLoss (.pwm 95)) (fieldUp []))).field.pwmLost = [] ∧ out (.linkLoss .metering) (recess (fieldUp [])) = recess (fieldUp []) := by decide +kernel

theorem test_links :
    (out (.crossDieCrcError .nand) State.reset).linkErrs = [(5, 1)] ∧ (out (.crossDieCrcError .charm) State.reset).linkErrs = [] ∧
    (out (.linkLoss .field) (fieldUp [])).bit Reg.FIELD_STAT 8 = false ∧ (out (.linkReturn .field) (withRegs [(Reg.SYS_PHASE, 1), (Reg.FIELD_STAT, 0)])).bit Reg.FIELD_STAT 8 = true ∧
    (out (.linkReturn .metering) meterDown).meter.link = true ∧ (out (.linkLoss .metering) State.reset).meter.link = false ∧
    ((out (.linkLoss (.safety 1)) State.reset).safeCar 7).latch = 0x20 ∧ ((out (.linkReturn (.safety 1)) (out (.linkLoss (.safety 1)) State.reset)).safeCar 7).latch = 0 ∧
    (out (.linkLoss .charm) (charmWaits (some 0) [])).rd Reg.CHARM_XFER_STAT = 2 ∧ (out (.linkReturn .charm) (withRegs [(Reg.CHARM_STAT, 0)])).bit Reg.CHARM_STAT 2 = true := by decide +kernel

/-- A record's data. -/
def item (sev : BitVec 3) : EvItem := { sev := sev, source := 1, code := 77, args := [5] }

/-- The recorder with one record in SRAM and one window open on rule 77, key 3. -/
def recorder (l : List (Nat × Word)) (last : Option EvItem) (read : Option (Bool × Bool × Word × Option (BitVec 12))) : State :=
  let s := (heldWith l).record (item 1)
  let e := { s.evt with windows := [{ code := 77, key := 3, len := 500, due := 400, count := 2, last := last }], pendingRead := read }
  { s with evt := e }

theorem witness_EventRecorder :
    (item 1).sev.toNat < min ((withRegs [(Reg.EVT_CTRL, 2)]).fld Reg.EVT_CTRL 1 0) 2 ∧ min ((withRegs [(Reg.EVT_CTRL, 2)]).fld Reg.EVT_CTRL 1 0) 2 ≤ (item 2).sev.toNat ∧
    (withRegs [(Reg.EVT_CTRL, 0xD60)]).bit Reg.EVT_CTRL 11 = true ∧ (withRegs [(Reg.EVT_CTRL, 0xD60)]).fld Reg.EVT_CTRL 10 8 ≤ (item 5).sev.toNat ∧ State.reset.evt.sram.length < 8192 ∧
    (withRegs [(Reg.TIME_STAT, 0)]).bit Reg.TIME_STAT 0 = false ∧ (recorder [] none none).evt.unflushed.length = 1 ∧ State.reset.evt.unflushed = [] ∧
    (recorder [] none none).ringStall = false ∧
    ((recorder [] none none).evt.windows.find? (fun w => w.code == 77 && w.key == 3)).isSome = true ∧ ((recorder [] none none).evt.windows.find? (fun w => w.code == 77 && w.key == 2)).isNone = true ∧
    (recorder [] none none).evt.main.length + (recorder [] none none).evt.unflushed.length ≤ 1966080 ∧ (recorder [] none none).evt.retained.length + (recorder [] none none).evt.unflushed.length ≤ 131072 ∧
    (arrived (recorder [] none none)).obeys m0 = true ∧ (arrived (recorder [] none none)).pwr.off = false ∧ (arrived (recorder [] none none)).phase ≠ 3 ∧ (arrived (recorder [] none none)).owns m0 = true ∧
    State.reset.evt.pendingRead = none ∧ (recorder [] none (some (true, false, 0, none))).evt.pendingRead = some (true, false, 0, none) ∧ (recorder [] (some (item 3)) none).evt.windows.map (·.last) = [some (item 3)] := by decide +kernel

theorem test_events :
    ((withRegs [(Reg.EVT_CTRL, 2)]).record (item 1)).rd (Reg.EVT_LOST 1) = 1 ∧ ((withRegs [(Reg.EVT_CTRL, 2)]).record (item 2)).evt.sram.length = 1 ∧
    (State.reset.record (item 6)).evt.main.length = 1 ∧ (State.reset.record (item 6)).evt.retained.length = 1 ∧ (State.reset.record (item 1)).evt.main.length = 0 ∧
    (out (.eventWindowEnd 77 3) (recorder [] none none)).evt.windows.length = 0 ∧ (out (.eventWindowEnd 77 3) (recorder [] (some (item 3)) none)).evt.windows.map (fun w => (w.due, w.count)) = [(900, 0)] ∧
    (out (.eventWindowEnd 77 3) (recorder [] (some (item 3)) none)).evt.sram.map (fun r => r.repeats) = [0, 2] ∧
    (out (.evtFlush m0) (recorder [] none none)).evt.main.length = 1 ∧ (out .flushTimer (recorder [] none none)).now = 250000000 ∧
    (out .evtReadDone (recorder [] none (some (true, false, 0, none)))).rd Reg.EVT_RD_STAT = 1 ∧ (out .evtReadDone (recorder [] none (some (true, false, 1, none)))).rd Reg.EVT_RD_STAT = 8 ∧
    (out .evtReadDone (recorder [] none (some (true, false, 0, some 3)))).rd Reg.EVT_RD_STAT = 8 := by decide +kernel

/-- A debugger attached with every scope, a core halted or running, in a clasp or not. -/
def debugging (lcs : Word) (h : HaltState) (q : Option Clasp) : State :=
  let s := plus scanning [(Reg.KEY_LCS, lcs), (Reg.DBG_STAT, 0x7B)]
  s.setCore k0 { s.core k0 with halt := h, clasp := q }

/-- A clasp. -/
def anyClasp : Clasp := { count := 1, points := 0, stores := [], lock := false, firstOrder := 0 }

theorem witness_TamperingAndDebug :
    ((withRegs [(Reg.KEY_LCS, 1), (Reg.KEY_TAMPER_CFG, 0)]).ownedLcs && decide (3 < 4) || (withRegs [(Reg.KEY_LCS, 1), (Reg.KEY_TAMPER_CFG, 0)]).bit Reg.KEY_TAMPER_CFG 3) = false ∧
    (withRegs [(Reg.KEY_LCS, 3)]).ownedLcs = true ∧ (withRegs [(Reg.KEY_TAMPER_CFG, 0x10)]).bit Reg.KEY_TAMPER_CFG 4 = true ∧ State.reset.pwr.off = false ∧ unpowered.pwr.off = true ∧
    (withRegs [(Reg.KEY_LCS, 5)]).debugOpen = false ∧ (debugging 1 .running none).debugOpen = true ∧ (debugging 1 .running none).bit Reg.DBG_STAT 0 = true ∧ State.reset.bit Reg.DBG_STAT 0 = false ∧
    (debugging 3 .running none).ownedLcs = true ∧ (debugging 1 .running none).ownedLcs = false ∧ (withRegs [(Reg.KEY_TAMPER_STAT, 0x10000)]).locketLocked = true ∧ State.reset.locketLocked = false ∧
    State.reset.debugEnds = none ∧ ({ State.reset with debugEnds := some 5 } : State).debugEnds = some 5 ∧
    (((debugging 1 .running none).selectCore k0).debugOpen && ((debugging 1 .running none).selectCore k0).mayHalt k0) = true ∧ ((State.reset.selectCore k0).debugOpen && (State.reset.selectCore k0).mayHalt k0) = false ∧
    (((debugging 1 .halted none).selectCore k0).core k0).halt = .halted ∧ (((debugging 1 .running none).selectCore k0).core k0).halt ≠ .halted ∧
    (((debugging 1 .running none).selectCore k0).core k0).clasp = none ∧ (((debugging 1 .running (some anyClasp)).selectCore k0).core k0).clasp = some anyClasp ∧
    (((debugging 1 .running (some anyClasp)).selectCore k0).core k0).lesson = some 5 ∧ (((debugging 1 .halted none).selectCore k0).scope 3 && decide ((((debugging 1 .halted none).selectCore k0).core k0).halt = .halted)) = true ∧
    (debugging 1 .running none).scope 0 = true ∧ State.reset.scope 0 = false ∧ (let a := Reg.KEY_BUF 0
      (debugging 3 .running none).ownedLcs && a / 0x10000 == 0x1A && a != Reg.KEY_LCS && a != Reg.KEY_STAT) = true := by decide +kernel

theorem test_tamper_and_debug :
    (out (.tamper 3 true) (withRegs [(Reg.KEY_LCS, 1), (Reg.KEY_TAMPER_CFG, 0)])).rd Reg.KEY_TAMPER_STAT = 0x1000000 ∧ (out (.tamper 3 true) (withRegs [(Reg.KEY_LCS, 3)])).locketLocked = true ∧
    (out (.tamper 4 true) (withRegs [(Reg.KEY_LCS, 3), (Reg.KEY_TAMPER_CFG, 0)])).locketLocked = false ∧ (out (.tamper 3 false) (withRegs [(Reg.KEY_LCS, 3), (Reg.KEY_TAMPER_STAT, 0x1000000)])).rd Reg.KEY_TAMPER_STAT = 0 ∧ (out .vbatLoss unpowered).key.lost = true ∧ (out (.debugAttach true) State.reset).rd Reg.DBG_STAT = 0x7B ∧
    (out (.debugAttach true) (withRegs [(Reg.KEY_LCS, 3)])).rd Reg.DBG_STAT = 1 ∧ (out (.debugAttach false) (debugging 1 .running none)).rd Reg.DBG_STAT = 0 ∧
    (debugging 3 .running none).tokenCheck [] = 5 ∧ ((out (.halt k0) (debugging 1 .running none)).core k0).halt = .halted ∧
    ((out (.halt k0) (debugging 1 .running (some anyClasp))).core k0).halt = .haltPending ∧ ((out (.force k0) (debugging 1 .running (some anyClasp))).core k0).clasp = none ∧
    ((out (.coreRegisterWrite k0 16 0x40) (debugging 1 .halted none)).pc k0) = 0x40 ∧ ((out (.coreRegisterWrite k0 16 0x40) (debugging 1 .running none)).pc k0) = 0x100 ∧
    (out (.peek 0x000014) (plus (debugging 1 .running none) [(Reg.SYS_BUS_ERR, 0x305)])).reply = [0x305] ∧ (out (.peek 0x000014) (plus (debugging 1 .running none) [(Reg.SYS_BUS_ERR, 0x305)])).bit Reg.DBG_STAT 2 = true := by decide +kernel

/-! ### The block as a whole -/

theorem witness_StepRunsFront : ({ State.reset with pending := [.powerOnReset, .rollCall] } : State).pending = .powerOnReset :: [.rollCall] := rfl

theorem test_step : (match step { State.reset with pending := [.rollCall] } with | .next t => t.phase == 1 && t.pending.isEmpty | _ => false) = true ∧
    (match step State.reset with | .next t => decide (t.now = 1) | _ => false) = true := by decide +kernel

theorem witness_OnlyThePrefect :
    prefectOnly (.rosterCommit (.sess 7)) = some (.sess 7) ∧ (unpowered.wakeRequest 0).pwr.off = true ∧ (held.wakeRequest 0).pwr.off = false ∧ (held.wakeRequest 0).prefect ≠ some 7 ∧
    (held.wakeRequest 0).prefect = some 0 ∧ (viewing.wakeRequest 0).bit Reg.ROSTER_VIEW 31 = true := by decide +kernel

theorem test_only_the_prefect :
    (out (.rosterCommit (.sess 7)) held).rd Reg.HOST_NOT_OWNER_CNT = 1 ∧ (out (.rosterCommit (.sess 7)) held).host.lastErr[7] = 1 ∧ (out (.rosterCommit (.sess 0)) viewing).rd Reg.ROSTER_VIEW_DENY = 1 := by decide +kernel

theorem witness_EncodeDecode :
    wordCore (.add k0 15 15 15) = some k0 ∧ operandsLegal (.add k0 15 15 15) = true ∧ wordCore (.lw k64 1 2 (.prefixed 0x7FFFFFFF)) = some k64 ∧ operandsLegal (.lw k64 1 2 (.prefixed 0x7FFFFFFF)) = true := by decide +kernel

theorem witness_DecodeEncode : (decodeWords k0 (encodeWords (.add k0 1 2 3)).1 (encodeWords (.add k0 1 2 3)).2).isSome = true := by decide +kernel

theorem witness_MemoriesStayCanonical : State.reset.memoriesWf = true ∧ (match step State.reset with | .next _ => true | _ => false) = true := by decide +kernel

end Sys2Proof.Tests
end

section
/-! SUPPORT. Changes of registers alone (`OnlyRegs`), what a field and a saturating count read after a write, and the bridge's counts. -/

namespace Sys2Proof.Machine

/-! ### Changes of registers alone -/

theorem OnlyRegs.refl (u : State) (l : List Nat) : OnlyRegs u l u := ⟨rfl, fun _ _ => rfl⟩

theorem OnlyRegs.trans {u t v : State} {l : List Nat} (h : OnlyRegs u l t) (k : OnlyRegs t l v) : OnlyRegs u l v := by
  obtain ⟨ht, hr⟩ := h
  obtain ⟨kv, kr⟩ := k
  exact ⟨by rw [kv, ht], fun a ha => (kr a ha).trans (hr a ha)⟩

theorem State.wr_onlyRegs (s : State) {l : List Nat} {a : Nat} (v : Word) (ha : a ∈ l) : OnlyRegs s l (s.wr a v) :=
  ⟨rfl, fun _ hb => s.rd_wr_ne v (fun e => hb (e ▸ ha))⟩

theorem State.setBit_onlyRegs (s : State) (a i : Nat) (b : Bool) : OnlyRegs s [a] (s.setBit a i b) := s.wr_onlyRegs _ (List.mem_singleton_self a)

theorem State.setFld_onlyRegs (s : State) (a hi lo v : Nat) : OnlyRegs s [a] (s.setFld a hi lo v) := s.wr_onlyRegs _ (List.mem_singleton_self a)

theorem State.incSat_onlyRegs (s : State) (a hi lo : Nat) : OnlyRegs s [a] (s.incSat a hi lo) := s.setFld_onlyRegs a hi lo _

/-- A further write inside the list. -/
theorem OnlyRegs.wr {u t : State} {l : List Nat} {a : Nat} (h : OnlyRegs u l t) (v : Word) (ha : a ∈ l) : OnlyRegs u l (t.wr a v) :=
  h.trans (t.wr_onlyRegs v ha)

/-- The same words given as the reply of both states. -/
theorem OnlyRegs.emit {u t : State} {l : List Nat} (h : OnlyRegs u l t) (ws : List Word) : OnlyRegs (u.emit ws) l (t.emit ws) := by
  obtain ⟨ht, hr⟩ := h
  exact ⟨by rw [ht]; rfl, hr⟩

theorem OnlyRegs.pwr {u t : State} {l : List Nat} (h : OnlyRegs u l t) : t.pwr = u.pwr := by rw [h.1]

@[simp] theorem State.emit_rd (s : State) (ws : List Word) (a : Nat) : (s.emit ws).rd a = s.rd a := rfl

@[simp] theorem State.emit_fld (s : State) (ws : List Word) (a hi lo : Nat) : (s.emit ws).fld a hi lo = s.fld a hi lo := rfl

/-! ### Fields and saturating counts -/

/-- No bit cleared. -/
theorem and_not_zero (w : Word) : w &&& ~~~0 = w := BitVec.and_allOnes

/-- A whole register as a field. -/
theorem State.fld_word (s : State) (a : Nat) : s.fld a 31 0 = (s.rd a).toNat := by
  simp only [State.fld, bits, pow_zero, Nat.div_one]
  exact Nat.mod_eq_of_lt (s.rd a).isLt

/-- A field apart from the bit set reads as before. -/
theorem State.fld_setBit_apart (s : State) (a i hi lo : Nat) (b : Bool) (hi32 : i < 32) (h : hi < i ∨ i < lo) :
    (s.setBit a i b).fld a hi lo = s.fld a hi lo := by
  simp only [State.fld, State.setBit, State.rd_wr_same, setBitOf]
  exact bits_putBits_apart _ _ _ _ _ _ (le_refl i) hi32 h

theorem satInc_eq_min (w n : Nat) : satInc w n = min (2 ^ w - 1) (n + 1) := by
  unfold satInc
  generalize 2 ^ w = c
  split <;> omega

/-- A saturating count in a field, one more occurrence counted. -/
theorem State.fld_incSat (s : State) (a hi lo : Nat) (h1 : lo ≤ hi) (h2 : hi < 32) :
    (s.incSat a hi lo).fld a hi lo = min (2 ^ (hi + 1 - lo) - 1) (s.fld a hi lo + 1) := by
  have hpos : 0 < 2 ^ (hi + 1 - lo) := by positivity
  rw [State.incSat, State.fld_setFld s a hi lo _ h1 h2, satInc_eq_min]
  exact Nat.mod_eq_of_lt (by omega)

/-- A saturating count of 32 bits. -/
theorem State.rd_incSat_word (s : State) (a : Nat) : ((s.incSat a 31 0).rd a).toNat = min (2 ^ 32 - 1) ((s.rd a).toNat + 1) := by
  simpa only [State.fld_word] using s.fld_incSat a 31 0 (by omega) (by omega)

/-! ### What the bridge counts (R330, R331) -/

theorem State.busCount_onlyRegs (s : State) (m : Master) (a kind : Nat) : OnlyRegs s [Reg.SYS_BUS_ERR, Reg.SYS_BUS_LAST] (s.busCount m a kind) :=
  (s.wr_onlyRegs _ (by simp)).wr _ (by simp)

theorem State.fld_busCount (s : State) (m : Master) (a : Nat) {kind : Nat} (hk : kind < 4) :
    (s.busCount m a kind).fld Reg.SYS_BUS_ERR (8 * kind + 7) (8 * kind) = min 255 (s.fld Reg.SYS_BUS_ERR (8 * kind + 7) (8 * kind) + 1) := by
  have hrd : (s.busCount m a kind).rd Reg.SYS_BUS_ERR = (s.incSat Reg.SYS_BUS_ERR (8 * kind + 7) (8 * kind)).rd Reg.SYS_BUS_ERR :=
    State.rd_wr_ne _ _ (by decide)
  have hw : 8 * kind + 7 + 1 - 8 * kind = 8 := by omega
  rw [State.fld_of_rd hrd, State.fld_incSat _ _ _ _ (by omega) (by omega), hw]
  rfl

end Sys2Proof.Machine
end

section
/-! SUPPORT. The register interface (R5, R308, R313, R320, R321, R328 to R332): one equation per case of a read and of a write access, and what a
write of a register and a change of phase leave. -/

namespace Sys2Proof.Machine

/-! ### Where an access arrives -/

theorem State.accessWake_eq (s : State) (m : Master) (a : Nat) : s.accessWake m a = if aonRegister a then s else s.woken m := by
  cases m with
  | steward => simp [State.accessWake, State.woken]
  | sess n => rfl

theorem mapped_of_row {a : Nat} {r : RegSpec} (h : regSpec? a = some r) : mapped a = true := by simp [mapped, h]

theorem unmapped_of_none {a : Nat} (hw : ¬(0x800000 ≤ a ∧ a < 0x900000)) (h : regSpec? a = none) : mapped a = false := by
  simpa [mapped, h] using hw

/-! ### One read access, case by case (R320, R321, R330, R332) -/

/-- The module has power, and while it is DEAD the block is one that answers (R330, R369). -/
structure State.Answers (u : State) (a : Nat) : Prop where
  power : u.pwr.off = false
  alive : u.phase ≠ 3 ∨ deadBlock a = true

theorem State.Answers.not_silent {u : State} {a : Nat} (h : u.Answers a) : ¬(u.pwr.off = true ∨ (u.phase = 3 ∧ (!deadBlock a) = true)) := by
  simpa [h.power, imp_iff_not_or] using h.alive

/-- The register of a row stands at an address outside the POINT window, in a block the variant has. -/
structure State.Stands (u : State) (a : Nat) (r : RegSpec) : Prop where
  window : ¬(0x800000 ≤ a ∧ a < 0x900000)
  present : u.absentBlock a = false
  row : regSpec? a = some r

section
variable {s u : State} {m : Master} {addr a : Nat} {r : RegSpec} (ha : addr / 4 * 4 = a) (hu : s.accessWake m a = u)
include ha hu

theorem State.busRead_off (h : u.pwr.off = true) : s.busRead m addr = (u, 0) := by simp [State.busRead, ha, hu, h]

theorem State.busRead_dead (hp : u.phase = 3) (hd : deadBlock a = false) : s.busRead m addr = (u, 0) := by
  simp [State.busRead, ha, hu, hp, hd]

/-- A read that is answered goes to the POINT window or to the register. -/
theorem State.busRead_answered (h : u.Answers a) : s.busRead m addr =
    if 0x800000 ≤ a ∧ a < 0x900000 then u.pointRead m (BitVec.ofNat 14 ((a - 0x800000) / 64)) (a % 64 / 4)
    else if u.absentBlock a then (u, 0)
    else if !mapped a then (u.busCount m a 0, 0)
    else if !u.linkUp a then (u.busCount m a 3, 0)
    else (u.readEffect m a, u.shown m a) := by
  simp only [State.busRead, ha, hu, if_neg h.not_silent]

theorem State.busRead_point (h : u.Answers a) (hw : 0x800000 ≤ a ∧ a < 0x900000) :
    s.busRead m addr = u.pointRead m (BitVec.ofNat 14 ((a - 0x800000) / 64)) (a % 64 / 4) := by
  rw [State.busRead_answered ha hu h, if_pos hw]

theorem State.busRead_absent (h : u.Answers a) (hw : ¬(0x800000 ≤ a ∧ a < 0x900000)) (hb : u.absentBlock a = true) :
    s.busRead m addr = (u, 0) := by
  rw [State.busRead_answered ha hu h, if_neg hw, if_pos hb]

theorem State.busRead_unmapped (h : u.Answers a) (hw : ¬(0x800000 ≤ a ∧ a < 0x900000)) (hb : u.absentBlock a = false)
    (hr : regSpec? a = none) : s.busRead m addr = (u.busCount m a 0, 0) := by
  simp [State.busRead_answered ha hu h, hw, hb, unmapped_of_none hw hr]

theorem State.busRead_unlinked (h : u.Answers a) (hr : u.Stands a r) (hl : u.linkUp a = false) :
    s.busRead m addr = (u.busCount m a 3, 0) := by
  simp [State.busRead_answered ha hu h, hr.window, hr.present, mapped_of_row hr.row, hl]

theorem State.busRead_register (h : u.Answers a) (hr : u.Stands a r) (hl : u.linkUp a = true) :
    s.busRead m addr = (u.readEffect m a, u.shown m a) := by
  simp [State.busRead_answered ha hu h, hr.window, hr.present, mapped_of_row hr.row, hl]

end

/-- The registers whose read does more than clear fields: the two capture FIFOs and HOST_LAST_ERR (R321). -/
def readSpecial (a : Nat) : Bool :=
  (List.range 8).any (fun c => a == Reg.TIME_CAP_INFO c || a == Reg.LIFT_CAR_DZCAP_INFO c) || a == Reg.HOST_LAST_ERR

/-- The side effect of a read of any other register: its RC fields clear, where the reader owns the pass, sees the register, and the block is not DBG. -/
theorem State.readEffect_plain (u : State) (m : Master) {a : Nat} {r : RegSpec} (hs : readSpecial a = false) (hr : regSpec? a = some r) :
    u.readEffect m a = if u.owns m = false ∨ u.hidden m a = true ∨ r.rc = 0 ∨ a / 0x10000 = 0x1F then u else u.wr a (u.rd a &&& ~~~r.rc) := by
  simp only [readSpecial, Bool.or_eq_false_iff, beq_eq_false_iff_ne, List.any_eq_false, Bool.or_eq_true, beq_iff_eq, not_or] at hs
  obtain ⟨hfifo, hlast⟩ := hs
  have htime : (List.range 8).find? (fun c => a == Reg.TIME_CAP_INFO c) = none :=
    List.find?_eq_none.2 (fun c hc => by simpa using (hfifo c hc).1)
  have hdoor : (List.range 8).find? (fun c => a == Reg.LIFT_CAR_DZCAP_INFO c) = none :=
    List.find?_eq_none.2 (fun c hc => by simpa using (hfifo c hc).2)
  simp only [State.readEffect, if_neg hlast, htime, hdoor, hr]
  by_cases ho : u.owns m = false
  · simp [ho]
  · by_cases hh : u.hidden m a = true <;> simp [ho, hh]

/-- The owner's read of a register outside DBG clears its RC fields, and changes nothing else. -/
theorem State.readEffect_clears (u : State) (m : Master) {a : Nat} {r : RegSpec} (hs : readSpecial a = false) (hr : regSpec? a = some r)
    (ho : u.owns m = true) (hh : u.hidden m a = false) (hd : a / 0x10000 ≠ 0x1F) :
    OnlyRegs u [a] (u.readEffect m a) ∧ (u.readEffect m a).rd a = u.rd a &&& ~~~r.rc := by
  rw [u.readEffect_plain m hs hr]
  by_cases hc : r.rc = 0
  · rw [if_pos (.inr (.inr (.inl hc))), hc]
    exact ⟨.refl u _, (and_not_zero _).symm⟩
  · rw [if_neg (by simp only [ho, hh, hc, hd, or_self, Bool.true_eq_false, Bool.false_eq_true, not_false_eq_true])]
    exact ⟨u.wr_onlyRegs _ (List.mem_singleton_self a), u.rd_wr_same _ _⟩

/-- What a read of a point that a view hides leaves (R132). -/
theorem State.pointRead_hidden (u : State) (m : Master) (i : PointIdx) (w : Nat) (h : (u.viewOf m).any (fun t => !u.mayRead t i) = true) :
    u.pointRead m i w = (u.incSat Reg.ROSTER_VIEW_DENY 31 0, 0) := by simp only [State.pointRead, if_pos h]

theorem State.pointRead_shown (u : State) (m : Master) (i : PointIdx) (w : Nat) (h : (u.viewOf m).any (fun t => !u.mayRead t i) = false) :
    u.pointRead m i w = (u, u.pointWord i w) := by simp [State.pointRead, h]

/-- READ_CLEAR delivers the word of the read access, while the module has power. -/
theorem exec_readClear_next {s t : State} {m : Master} {addr : BitVec 24} {w : Word} (h : s.busRead m addr.toNat = (t, w)) (hp : t.pwr.off = false) :
    exec (.readClear m addr) s = .next (t.emit [w]) := by simp [execReadClear, h, hp]

theorem exec_readClear_off {s t : State} {m : Master} {addr : BitVec 24} {w : Word} (h : s.busRead m addr.toNat = (t, w)) (hp : t.pwr.off = true) :
    exec (.readClear m addr) s = .next t := by simp [execReadClear, h, hp]

/-- A read that changes registers alone: the reply carries the word, and a register's condition stated of the reading's state holds. -/
theorem readClear_completes {s u t : State} {m : Master} {addr : BitVec 24} {l : List Nat} {w : Word} {P : State → Prop}
    (h : s.busRead m addr.toNat = (t, w)) (hp : u.pwr.off = false) (hl : OnlyRegs u l t) (hP : P (t.emit [w])) :
    Completes (.readClear m addr) s (fun v => OnlyRegs (u.emit [w]) l v ∧ P v) :=
  ⟨t.emit [w], exec_readClear_next h (by rw [hl.pwr, hp]), hl.emit [w], hP⟩

/-! ### One write access, case by case (R313, R320, R329, R330) -/

/-- A write of HOST_PASS_CMD: a session's command; steward firmware's has no effect (R308). -/
def State.passAccess (u : State) (m : Master) (v : Word) : State :=
  match m with
  | .sess n => u.passWrite n v
  | .steward => u

/-- Outside NORMAL and outside SAFE, a write puts a value other than 0 into a reserved bit of an RW register (R329). -/
def State.reservedWrite (u : State) (a : Nat) (v : Word) : Bool :=
  u.phase != 1 && a / 0x10000 != 9 && (regSpec? a).any (fun r => r.rw != 0 && v &&& r.rsv != 0)

/-- A write access that the two gates of ownership and of tenant views let pass (R313, R132). -/
structure State.Admits (u : State) (m : Master) (a : Nat) : Prop where
  power : u.pwr.off = false
  may : (u.owns m || ownRegister m a) = true
  kept : (!u.viewed m || viewKeeps m a) = true

/-- One that reaches the map as well: the block answers, and session 0 writes the whole word (R330, R369). -/
structure State.Lands (u : State) (m : Master) (a : Nat) (be : BitVec 4) : Prop extends u.Admits m a where
  alive : (u.phase != 3 || deadBlock a) = true
  whole : (decide (m ≠ .sess 0) || be == 15) = true

section
variable {s u : State} {m : Master} {addr a : Nat} {be : BitVec 4} {v : Word} {r : RegSpec}

theorem State.Admits.not_dropped (h : u.Admits m a) : ¬(u.viewed m && !viewKeeps m a) = true := by
  simpa [imp_iff_not_or] using h.kept

theorem State.Lands.not_silent (h : u.Lands m a be) : ¬(u.phase = 3 ∧ (!deadBlock a) = true) := by
  simpa [imp_iff_not_or] using h.alive

theorem State.Lands.not_partial (h : u.Lands m a be) : ¬(m = .sess 0 ∧ be ≠ 0xF) := by
  simpa [imp_iff_not_or] using h.whole

/-- The writes of reserved bits that the model faults on are those of the live test controls. -/
theorem State.liveControl_of_row (hr : regSpec? a = some r) :
    u.liveControl a v = (u.reservedWrite a v && v &&& r.rsv &&& Config.liveControls a != 0) := by
  simp only [State.liveControl, State.reservedWrite, hr, Option.any_some, Bool.and_assoc]

variable (ha : addr / 4 * 4 = a) (hu : s.accessWake m a = u)
include ha hu

theorem State.busWrite_off (h : u.pwr.off = true) : s.busWrite m addr be v = .next u := by simp [State.busWrite, ha, hu, h]

theorem State.busWrite_notOwner {n : Fin 8} (hm : m = .sess n) (hp : u.pwr.off = false) (h : (u.owns m || ownRegister m a) = false) :
    s.busWrite m addr be v = .next (u.dropNotOwner n) := by
  subst hm
  simp [State.busWrite, ha, hu, hp, h]

theorem State.busWrite_viewDenied (hp : u.pwr.off = false) (hm : (u.owns m || ownRegister m a) = true)
    (hk : (!u.viewed m || viewKeeps m a) = false) : s.busWrite m addr be v = .next (u.incSat Reg.ROSTER_VIEW_DENY 31 0) := by
  have hd : (u.viewed m && !viewKeeps m a) = true := by simpa using hk
  simp [State.busWrite, ha, hu, hp, hm, hd]

/-- A write let through by both gates meets the bridge's edge cases, then the POINT window or a register. -/
theorem State.busWrite_admitted (h : u.Admits m a) : s.busWrite m addr be v =
    if u.phase = 3 ∧ !deadBlock a then .next u
    else if m = .sess 0 ∧ be ≠ 0xF then .next (u.busCount m a 1)
    else if 0x800000 ≤ a ∧ a < 0x900000 then .next (u.pointWrite m (BitVec.ofNat 14 ((a - 0x800000) / 64)) (a % 64 / 4) v)
    else if u.absentBlock a then .next u
    else if !mapped a then .next (u.busCount m a 0)
    else if !u.linkUp a then .next (u.busCount m a 3)
    else if a = Reg.HOST_PASS_CMD then .next (u.passAccess m v)
    else if u.liveControl a v then .fault .liveTestControl
    else .next (u.regWrite m a v) := by
  simp only [State.busWrite, ha, hu, h.power, h.may, if_neg h.not_dropped, Bool.not_true, Bool.false_eq_true, if_false]
  cases m <;> rfl

theorem State.busWrite_dead (h : u.Admits m a) (hd : (u.phase != 3 || deadBlock a) = false) : s.busWrite m addr be v = .next u := by
  have hs : u.phase = 3 ∧ (!deadBlock a) = true := by simpa using hd
  rw [State.busWrite_admitted ha hu h, if_pos hs]

theorem State.busWrite_partial (h : u.Admits m a) (hd : (u.phase != 3 || deadBlock a) = true)
    (hb : (decide (m ≠ .sess 0) || be == 15) = false) : s.busWrite m addr be v = .next (u.busCount m a 1) := by
  have hs : ¬(u.phase = 3 ∧ (!deadBlock a) = true) := by simpa [imp_iff_not_or] using hd
  have hp : m = .sess 0 ∧ be ≠ 0xF := by simpa using hb
  rw [State.busWrite_admitted ha hu h, if_neg hs, if_pos hp]

theorem State.busWrite_point (h : u.Lands m a be) (hw : 0x800000 ≤ a ∧ a < 0x900000) :
    s.busWrite m addr be v = .next (u.pointWrite m (BitVec.ofNat 14 ((a - 0x800000) / 64)) (a % 64 / 4) v) := by
  rw [State.busWrite_admitted ha hu h.toAdmits, if_neg h.not_silent, if_neg h.not_partial, if_pos hw]

theorem State.busWrite_absent (h : u.Lands m a be) (hw : ¬(0x800000 ≤ a ∧ a < 0x900000)) (hb : u.absentBlock a = true) :
    s.busWrite m addr be v = .next u := by
  rw [State.busWrite_admitted ha hu h.toAdmits, if_neg h.not_silent, if_neg h.not_partial, if_neg hw, if_pos hb]

theorem State.busWrite_unmapped (h : u.Lands m a be) (hw : ¬(0x800000 ≤ a ∧ a < 0x900000)) (hb : u.absentBlock a = false)
    (hr : regSpec? a = none) : s.busWrite m addr be v = .next (u.busCount m a 0) := by
  rw [State.busWrite_admitted ha hu h.toAdmits, if_neg h.not_silent, if_neg h.not_partial, if_neg hw]
  simp [hb, unmapped_of_none hw hr]

/-- A write that reaches a register whose row the tables have. -/
theorem State.busWrite_mapped (h : u.Lands m a be) (hr : u.Stands a r) : s.busWrite m addr be v =
    if !u.linkUp a then .next (u.busCount m a 3)
    else if a = Reg.HOST_PASS_CMD then .next (u.passAccess m v)
    else if u.liveControl a v then .fault .liveTestControl
    else .next (u.regWrite m a v) := by
  rw [State.busWrite_admitted ha hu h.toAdmits, if_neg h.not_silent, if_neg h.not_partial, if_neg hr.window]
  simp [hr.present, mapped_of_row hr.row]

theorem State.busWrite_unlinked (h : u.Lands m a be) (hr : u.Stands a r) (hl : u.linkUp a = false) :
    s.busWrite m addr be v = .next (u.busCount m a 3) := by
  simp [State.busWrite_mapped ha hu h hr, hl]

theorem State.busWrite_pass (h : u.Lands m a be) (hr : u.Stands a r) (hl : u.linkUp a = true) (hc : a = Reg.HOST_PASS_CMD) :
    s.busWrite m addr be v = .next (u.passAccess m v) := by
  rw [State.busWrite_mapped ha hu h hr, hl, if_pos hc]
  rfl

/-- A write of a register other than HOST_PASS_CMD: a live test control stops the machine, any other write is carried out. -/
theorem State.busWrite_register (h : u.Lands m a be) (hr : u.Stands a r) (hl : u.linkUp a = true) (hc : a ≠ Reg.HOST_PASS_CMD) :
    s.busWrite m addr be v = if u.liveControl a v then .fault .liveTestControl else .next (u.regWrite m a v) := by
  rw [State.busWrite_mapped ha hu h hr, hl, if_neg hc]
  rfl

theorem State.busWrite_reserved (h : u.Lands m a be) (hr : u.Stands a r) (hl : u.linkUp a = true) (hc : a ≠ Reg.HOST_PASS_CMD)
    (hv : u.reservedWrite a v = true) :
    s.busWrite m addr be v = if v &&& r.rsv &&& Config.liveControls a = 0 then .next (u.regWrite m a v) else .fault .liveTestControl := by
  rw [State.busWrite_register ha hu h hr hl hc, State.liveControl_of_row hr.row, hv]
  by_cases h0 : v &&& r.rsv &&& Config.liveControls a = 0 <;> simp [h0]

theorem State.busWrite_unreserved (h : u.Lands m a be) (hr : u.Stands a r) (hl : u.linkUp a = true) (hc : a ≠ Reg.HOST_PASS_CMD)
    (hv : u.reservedWrite a v = false) : s.busWrite m addr be v = .next (u.regWrite m a v) := by
  rw [State.busWrite_register ha hu h hr hl hc, State.liveControl_of_row hr.row, hv]
  rfl

end

/-! ### The watchdog (R331) -/

theorem State.ite_emit (t : State) (silent : Bool) (ws : List Word) :
    (if silent then t else t.emit ws) = (if silent then id else (State.emit · ws)) t := by
  cases silent <;> rfl

/-- The access the watchdog ends: counted and recorded; a read returns all ones. -/
theorem exec_busWatchdog_next {s : State} {m : Master} {addr : BitVec 24} {write : Bool} (h : s.pwr.off = false) :
    exec (.busWatchdog m addr write) s = .next ((if write then id else (State.emit · [0xFFFFFFFF]))
      ((s.busCount m addr.toNat 2).record { sev := 5, source := 0x00, code := 331, session := m.session, args := [wd addr.toNat] })) := by
  rw [exec_busWatchdog, execBusWatchdog, if_neg (by simp [h])]
  exact congrArg _ (State.ite_emit _ write _)

/-! ### What a write of a register leaves (R5, R308) -/

theorem State.plainWrite_of_row (s : State) {a : Nat} (v : Word) {r : RegSpec} (h : regSpec? a = some r) :
    s.plainWrite a v = s.wr a ((s.rd a &&& ~~~(r.rw ||| (r.w1c &&& v))) ||| (v &&& r.rw)) := by simp only [State.plainWrite, h]

/-- Steward firmware's write sets the read-only fields it keeps, in the register itself; every other master's leaves the block's own effect. -/
theorem State.regWrite_of_effect {u t : State} {m : Master} {a : Nat} {v : Word} (h : (u.blockWrite m a v).getD (u.plainWrite a v) = t) :
    OnlyRegs t [a] (u.regWrite m a v) ∧
      (u.regWrite m a v).rd a = if m = .steward then (t.rd a &&& ~~~stewardMask a) ||| (v &&& stewardMask a) else t.rd a := by
  simp only [State.regWrite, h]
  by_cases hm : m = .steward
  · by_cases hk : stewardMask a = 0
    · rw [if_neg (fun hc => hc.2 hk), if_pos hm, hk]
      exact ⟨.refl t _, by rw [and_not_zero]; simp⟩
    · rw [if_pos ⟨hm, hk⟩, if_pos hm]
      exact ⟨t.wr_onlyRegs _ (List.mem_singleton_self a), t.rd_wr_same _ _⟩
  · rw [if_neg (fun hc => hm hc.1), if_neg hm]
    exact ⟨.refl t _, rfl⟩

/-- A register without an effect of its own: the plain write (R5), and steward firmware's fields. -/
theorem State.regWrite_plain {u : State} {m : Master} {a : Nat} {v : Word} {r : RegSpec} (hr : regSpec? a = some r) (h : u.blockWrite m a v = none) :
    OnlyRegs u [a] (u.regWrite m a v) ∧ (u.regWrite m a v).rd a =
      let x := (u.rd a &&& ~~~(r.rw ||| (r.w1c &&& v))) ||| (v &&& r.rw)
      if m = .steward then (x &&& ~~~stewardMask a) ||| (v &&& stewardMask a) else x := by
  have hplain : (u.blockWrite m a v).getD (u.plainWrite a v) = u.wr a ((u.rd a &&& ~~~(r.rw ||| (r.w1c &&& v))) ||| (v &&& r.rw)) := by
    rw [h]
    exact u.plainWrite_of_row v hr
  obtain ⟨honly, hrd⟩ := State.regWrite_of_effect hplain
  rw [State.rd_wr_same] at hrd
  exact ⟨(u.wr_onlyRegs _ (List.mem_singleton_self a)).trans honly, hrd⟩

/-- A register with an effect of its own: that effect, and steward firmware's fields. -/
theorem State.regWrite_block {u t : State} {m : Master} {a : Nat} {v : Word} (h : u.blockWrite m a v = some t) :
    OnlyRegs t [a] (u.regWrite m a v) ∧
      (u.regWrite m a v).rd a = if m = .steward then (t.rd a &&& ~~~stewardMask a) ||| (v &&& stewardMask a) else t.rd a :=
  State.regWrite_of_effect (by rw [h]; rfl)

/-! ### Writes of the Prefect's own commands, and the phases (R308, R328) -/

theorem State.hostWrite_obeyed {s : State} {m : Master} (hp : (s.woken m).pwr.off = false) (ho : (s.woken m).owns m = true)
    (hv : (s.woken m).viewed m = false) (f : State → State) : s.hostWrite m f = f (s.woken m) := by
  cases m with
  | steward => simp only [State.woken] at *; simp [State.hostWrite, hp, ho, hv]
  | sess n => simp only [State.woken] at *; simp [State.hostWrite, hp, ho, hv]

/-- The registers of a change of phase before its event is recorded. -/
def State.phaseMoved (s : State) (new : Nat) : State := (s.setFld Reg.SYS_PHASE 1 0 new).setBit Reg.SYS_PHASE 8 true

theorem State.setPhase_of_ne (s : State) {old new : Nat} (ses : Option (BitVec 3)) (h : s.phase = old) (hne : old ≠ new) :
    s.setPhase new ses = (s.phaseMoved new).record { sev := 4, source := 0x00, code := 328, session := ses, args := [wd old, wd new] } := by
  subst h
  simp only [State.setPhase, if_neg hne]
  rfl

theorem State.phaseMoved_onlyRegs (s : State) (new : Nat) : OnlyRegs s [Reg.SYS_PHASE] (s.phaseMoved new) :=
  (s.setFld_onlyRegs _ _ _ _).trans (State.setBit_onlyRegs _ _ _ _)

theorem State.phase_phaseMoved (s : State) {new : Nat} (h : new < 4) : (s.phaseMoved new).phase = new := by
  rw [State.phase, State.phaseMoved, State.fld_setBit_apart _ _ _ _ _ _ (by omega) (by omega), State.fld_setFld _ _ _ _ _ (by omega) (by omega)]
  exact Nat.mod_eq_of_lt h

theorem State.bit_phaseMoved (s : State) (new : Nat) : (s.phaseMoved new).bit Reg.SYS_PHASE 8 = true := State.bit_setBit_same _ _ _ _ (by omega)

/-- ENTER_TEST is allowed: the Prefect's, in NORMAL, in DEVELOP or RETURN, with RUN = 0. -/
def State.mayTest (u : State) (m : Master) : Bool :=
  decide (m ≠ .steward) && u.phase == 1 && (u.fld Reg.KEY_LCS 2 0 == 1 || u.fld Reg.KEY_LCS 2 0 == 4) && !u.bit Reg.SCAN_CTRL 0

theorem State.testEnter_eq (u : State) (m : Master) :
    u.testEnter m = if u.mayTest m then u.setPhase 2 m.session else u.setBit Reg.SYS_PHASE 9 true := by
  simp [State.testEnter, State.mayTest, and_assoc]

theorem State.phase_of_mayTest (u : State) {m : Master} (h : u.mayTest m = true) : u.phase = 1 := by
  simp only [State.mayTest, Bool.and_eq_true, beq_iff_eq] at h
  obtain ⟨⟨⟨_, hphase⟩, _⟩, _⟩ := h
  exact hphase

end Sys2Proof.Machine
end

section
/-! What a read and a write of a register do, the bridge's edge cases and the phases (O44), and what reset leaves (O57). -/

namespace Sys2Proof.Machine

/-- Settles O44: the reads and writes case by case along the bridge's gates, then the watchdog, then the phases. -/
theorem registerAccess : Obligations.RegisterAccess := by
  refine ⟨?reads, ?writes, ?watchdog, ?phases⟩
  case reads =>
    intro s m addr a u reads point hidden special
    have hu : s.accessWake m a = u := s.accessWake_eq m a
    refine ⟨fun hoff => exec_readClear_off (State.busRead_off rfl hu hoff) hoff,
      fun hon hp hd => exec_readClear_next (State.busRead_dead rfl hu hp hd) hon, fun hon halive => ?_⟩
    have h : u.Answers a := ⟨hon, halive⟩
    refine ⟨?shown, ?hidden, ?absent, ?unmapped, ?unlinked, ?quiet, ?clears⟩
    case shown =>
      intro hw hs
      have hr := (State.busRead_point rfl hu h (of_decide_eq_true hw)).trans (u.pointRead_shown m _ _ hs)
      exact exec_readClear_next hr hon
    case hidden =>
      intro hw hs
      have hr := (State.busRead_point rfl hu h (of_decide_eq_true hw)).trans (u.pointRead_hidden m _ _ hs)
      exact readClear_completes hr hon (u.incSat_onlyRegs _ _ _) (by rw [State.emit_rd, State.rd_incSat_word])
    case absent =>
      intro hw hb
      exact exec_readClear_next (State.busRead_absent rfl hu h (of_decide_eq_false hw) hb) hon
    case unmapped =>
      intro hw hb hr
      exact readClear_completes (State.busRead_unmapped rfl hu h (of_decide_eq_false hw) hb hr) hon (u.busCount_onlyRegs m a 0)
        (by rw [State.emit_fld]; exact u.fld_busCount m a (kind := 0) (by omega))
    case unlinked =>
      intro r hw hr hb hl
      exact readClear_completes (State.busRead_unlinked rfl hu h ⟨of_decide_eq_false hw, hb, hr⟩ hl) hon (u.busCount_onlyRegs m a 3)
        (by rw [State.emit_fld]; exact u.fld_busCount m a (kind := 3) (by omega))
    case quiet =>
      intro r hw hr hb hl hs hq
      have hread := State.busRead_register rfl hu h ⟨of_decide_eq_false hw, hb, hr⟩ hl
      rw [u.readEffect_plain m hs hr, if_pos hq] at hread
      exact exec_readClear_next hread hon
    case clears =>
      intro r hw hr hb hl hs ho hh hd
      have hread := State.busRead_register rfl hu h ⟨of_decide_eq_false hw, hb, hr⟩ hl
      obtain ⟨honly, hrd⟩ := u.readEffect_clears m hs hr ho hh hd
      exact readClear_completes hread hon honly hrd
  case writes =>
    intro s m addr v be a u point may kept alive whole counted keeps live
    have hu : s.accessWake m a = u := s.accessWake_eq m a
    have hcount : ∀ kind < 4, s.busWrite m addr.toNat be v = .next (u.busCount m a kind) → counted kind :=
      fun kind hk h => ⟨_, h, u.busCount_onlyRegs m a kind, u.fld_busCount m a hk⟩
    refine ⟨?off, ?notOwner, ?denied, ?dead, ?partly, ?point, ?absent, ?unmapped, ?register⟩
    case off => exact fun hoff => State.busWrite_off rfl hu hoff
    case notOwner => exact fun n hm hon hmay => State.busWrite_notOwner rfl hu hm hon hmay
    case denied =>
      exact fun hon hmay hkept => ⟨_, State.busWrite_viewDenied rfl hu hon hmay hkept, u.incSat_onlyRegs _ _ _, u.rd_incSat_word _⟩
    case dead => exact fun hon hmay hkept hdead => State.busWrite_dead rfl hu ⟨hon, hmay, hkept⟩ hdead
    case partly =>
      exact fun hon hmay hkept halive hpart => hcount 1 (by omega) (State.busWrite_partial rfl hu ⟨hon, hmay, hkept⟩ halive hpart)
    case point =>
      exact fun hon hmay hkept halive hwhole hw =>
        State.busWrite_point rfl hu ⟨⟨hon, hmay, hkept⟩, halive, hwhole⟩ (of_decide_eq_true hw)
    case absent =>
      exact fun hon hmay hkept halive hwhole hw hb =>
        State.busWrite_absent rfl hu ⟨⟨hon, hmay, hkept⟩, halive, hwhole⟩ (of_decide_eq_false hw) hb
    case unmapped =>
      exact fun hon hmay hkept halive hwhole hw hb hr =>
        hcount 0 (by omega) (State.busWrite_unmapped rfl hu ⟨⟨hon, hmay, hkept⟩, halive, hwhole⟩ (of_decide_eq_false hw) hb hr)
    case register =>
      intro r hon hmay hkept halive hwhole hw hb hrow
      have h : u.Lands m a be := ⟨⟨hon, hmay, hkept⟩, halive, hwhole⟩
      have hr : u.Stands a r := ⟨of_decide_eq_false hw, hb, hrow⟩
      refine ⟨?unlinked, ?pass, ?live, ?plain, ?effect⟩
      case unlinked => exact fun hl => hcount 3 (by omega) (State.busWrite_unlinked rfl hu h hr hl)
      case pass =>
        intro hl hc
        have hpass := State.busWrite_pass (v := v) rfl hu h hr hl hc
        exact ⟨fun hm => by subst hm; exact hpass, fun n hm => by subst hm; exact hpass⟩
      case live => exact fun hl hc hlive => State.busWrite_reserved rfl hu h hr hl hc hlive
      case plain =>
        exact fun hl hc hlive hnone => ⟨_, State.busWrite_unreserved rfl hu h hr hl hc hlive, State.regWrite_plain hrow hnone⟩
      case effect =>
        exact fun b hl hc hlive hsome => ⟨_, State.busWrite_unreserved rfl hu h hr hl hc hlive, State.regWrite_block hsome⟩
  case watchdog =>
    intro s m addr write
    refine ⟨fun hoff => if_pos hoff, fun hon => ?_⟩
    exact ⟨_, exec_busWatchdog_next hon, _, s.busCount_onlyRegs m addr.toNat 2, s.fld_busCount m addr.toNat (kind := 2) (by omega), rfl⟩
  case phases =>
    intro s m u lcs may moved hon ho hv
    have hgate : ∀ f, s.hostWrite m f = f u := State.hostWrite_obeyed hon ho hv
    have henter : exec (.enterTest m) s = .next (if u.mayTest m then u.setPhase 2 m.session else u.setBit Reg.SYS_PHASE 9 true) :=
      congrArg _ ((hgate _).trans (u.testEnter_eq m))
    have hleave : exec (.leaveTest m) s = .next (u.testLeave m) := congrArg _ (hgate _)
    have hmoved : ∀ old new, u.phase = old → old ≠ new → new < 4 → moved old new (u.setPhase new m.session) :=
      fun old new hold hne hlt =>
        ⟨u.phaseMoved new, u.setPhase_of_ne _ hold hne, u.phaseMoved_onlyRegs new, u.phase_phaseMoved hlt, u.bit_phaseMoved new⟩
    refine ⟨?enters, ?refused, ?leaves, ?stays⟩
    case enters =>
      intro (hmay : u.mayTest m = true)
      rw [if_pos hmay] at henter
      exact ⟨_, henter, hmoved 1 2 (u.phase_of_mayTest hmay) (by omega) (by omega)⟩
    case refused =>
      intro (hmay : u.mayTest m = false)
      rw [hmay] at henter
      exact ⟨_, henter, u.setBit_onlyRegs _ _ _, u.fld_setBit_apart _ _ _ _ _ (by omega) (by omega),
        State.bit_setBit_same _ _ _ _ (by omega)⟩
    case leaves =>
      intro hphase
      rw [State.testLeave, if_pos hphase] at hleave
      exact ⟨_, hleave, hmoved 2 1 hphase (by omega) (by omega)⟩
    case stays =>
      intro hphase
      rw [State.testLeave, if_neg hphase] at hleave
      exact hleave

/-- Right after reset no register is stored: each reads as the value of its table (R5). -/
theorem State.rd_reset (a : Nat) : State.reset.rd a = regDefault a := rfl

/-- Settles O57: what is not a register is empty or zero in `State.reset` itself, and every register reads as its table's value,
which is then looked up. -/
theorem resetState : Obligations.ResetState := by
  refine ⟨rfl, ?prefect, ?phase, rfl, rfl, ?memories, ?tables, rfl, rfl, ?registers⟩
  case prefect => decide
  case phase => decide
  case memories => rfl
  case tables => decide
  case registers =>
    simp only [State.fld, State.rd_reset]
    decide

end Sys2Proof.Machine
end

section
/-! Loads (R52, R76, R14, R121): what the body of a load comes to for each place an address can name (O6). -/

namespace Sys2Proof.Machine

/-! ### The bytes a load takes -/

theorem Memory.length_readN (m : Memory) : ∀ (n a : Nat), (Memory.readN m a n).length = n
  | 0, _ => rfl
  | n + 1, a => congrArg (· + 1) (Memory.length_readN m n (a + 1))

theorem State.length_loadBytes (s : State) (c : CoreId) (a n : Nat) : (s.loadBytes c a n).length = n := Memory.length_readN _ n a

theorem toNat_bytesWord_le (l : List Byte) : (bytesWord l).toNat ≤
    (l.getD 0 0).toNat + 256 * (l.getD 1 0).toNat + 65536 * (l.getD 2 0).toNat + 16777216 * (l.getD 3 0).toNat := by
  rw [bytesWord, wd, BitVec.toNat_ofNat]
  exact Nat.mod_le _ _

/-- No byte stands behind the end of a list. -/
theorem toNat_byte_behind {l : List Byte} {k : Nat} (h : l.length ≤ k) : (l.getD k 0).toNat = 0 := by
  rw [List.getD_eq_default l 0 h]
  rfl

theorem toNat_bytesWord_lt_of_two {l : List Byte} (h : l.length ≤ 2) : (bytesWord l).toNat < 2 ^ 16 := by
  have hle := toNat_bytesWord_le l
  rw [toNat_byte_behind h, toNat_byte_behind (by omega : l.length ≤ 3)] at hle
  have h0 := (l.getD 0 0).isLt
  have h1 := (l.getD 1 0).isLt
  omega

theorem toNat_bytesWord_lt_of_one {l : List Byte} (h : l.length ≤ 1) : (bytesWord l).toNat < 2 ^ 8 := by
  have hle := toNat_bytesWord_le l
  rw [toNat_byte_behind h, toNat_byte_behind (by omega : l.length ≤ 2), toNat_byte_behind (by omega : l.length ≤ 3)] at hle
  have h0 := (l.getD 0 0).isLt
  omega

/-- A word below 2 ^ k is its own zero extension from k bits. -/
theorem setWidth_setWidth_of_lt {w : Word} {k : Nat} (h : w.toNat < 2 ^ k) : (w.setWidth k).setWidth 32 = w := by
  apply BitVec.eq_of_toNat_eq
  rw [BitVec.toNat_setWidth, BitVec.toNat_setWidth, Nat.mod_eq_of_lt h, Nat.mod_eq_of_lt w.isLt]

/-- A load looks at no more of its extension than what that makes of n bytes. -/
theorem State.load_congr (s : State) (c : CoreId) (gd : BitVec 4) (ea : Word) (n : Nat) {f g : Word → Word}
    (h : ∀ l : List Byte, l.length ≤ n → f (bytesWord l) = g (bytesWord l)) : s.load c gd ea n f = s.load c gd ea n g := by
  have hcore : ∀ (t : State) a, f (bytesWord (t.loadBytes c a n)) = g (bytesWord (t.loadBytes c a n)) :=
    fun t a => h _ (t.length_loadBytes c a n).le
  have hddr : ∀ a, f (bytesWord (Memory.readN s.lpddr a n)) = g (bytesWord (Memory.readN s.lpddr a n)) :=
    fun a => h _ (Memory.length_readN _ n a).le
  have hreg : ∀ b : List Byte, f (bytesWord (b.take n)) = g (bytesWord (b.take n)) := fun b => h _ (List.length_take_le n b)
  simp only [State.load, hcore, hddr, hreg]

/-- So does a load instruction. -/
theorem State.loadInstr_congr (s : State) (c : CoreId) (i : Instr) (gd ga : BitVec 4) (imm : Imm) (n : Nat) {f g : Word → Word}
    (h : ∀ l : List Byte, l.length ≤ n → f (bytesWord l) = g (bytesWord l)) : s.loadInstr c i gd ga imm n f = s.loadInstr c i gd ga imm n g := by
  simp only [State.loadInstr, State.load_congr _ _ _ _ _ h]

/-! ### The body of a load, place by place -/

section
variable {u : State} {c : CoreId} {gd : BitVec 4} {ea : Word} {n a : Nat} {cl : Bool} {ext : Word → Word}

/-- A load from core memory in a state that has the lock it needs: MEMORY for a poisoned word, else the bytes. -/
def State.loadCore (t : State) (c : CoreId) (gd : BitVec 4) (ea : Word) (a n : Nat) (ext : Word → Word) : Res :=
  if t.loadPoisoned c a n then .exc 3 ea else .done (t.setG c gd (ext (bytesWord (t.loadBytes c a n))))

/-- The core put last in the queue of its cluster's clasp lock. -/
def State.queueForLock (u : State) (c : CoreId) : State :=
  { u with scan := { u.scan with
    lockFifo := u.scan.lockFifo.setIfInBounds (clusterOf c).val (u.scan.lockFifo.toList.getD (clusterOf c).val [] ++ [c]) } }

theorem State.load_at (h : u.dataAddr c ea n false = .at a cl) :
    u.load c gd ea n ext = u.underLock c cl (fun t => t.loadCore c gd ea a n ext) := by
  rw [State.load, h]
  rfl

theorem State.underLock_free {body : State → Res} (h : u.lockNeed c cl = .free) : u.underLock c cl body = body u := by rw [State.underLock, h]

theorem State.underLock_take {body : State → Res} (h : u.lockNeed c cl = .take) : u.underLock c cl body = body (u.takeLock c) := by
  rw [State.underLock, h]

theorem State.underLock_queue {body : State → Res} (h : u.lockNeed c cl = .queue) :
    u.underLock c cl body = .whole ((u.queueForLock c).setWaiting c .claspLock) := by
  rw [State.underLock, h]
  rfl

theorem State.load_lpddr {x : Nat} (h : u.dataAddr c ea n false = .lpddr x) :
    u.load c gd ea n ext = .done (u.setG c gd (ext (bytesWord (Memory.readN u.lpddr x n)))) := by
  rw [State.load, h]

theorem State.load_reg_wait {x : BitVec 24} (h : u.dataAddr c ea n false = .reg x) (hw : u.awaitsReload c = true) :
    u.load c gd ea n ext = .wait .reload := by
  simp only [State.load, h, hw, if_true]

theorem State.load_reg {x : BitVec 24} (h : u.dataAddr c ea n false = .reg x) (hw : u.awaitsReload c = false) :
    u.load c gd ea n ext = .done ((u.busRead .steward x.toNat).1.setG c gd
      (ext (bytesWord (((wordBytes (u.busRead .steward x.toNat).2).drop (x.toNat % 4)).take n)))) := by
  simp only [State.load, h, hw, Bool.false_eq_true, if_false]

theorem State.load_memory (h : u.dataAddr c ea n false = .memory) : u.load c gd ea n ext = .exc 3 ea := by
  rw [State.load, h]

/-! ### What settling that body leaves -/

/-- A load that puts a word into its register completes with it, whatever state its body ended in. -/
theorem State.settle_setG (s t u : State) (c : CoreId) (next : Word) (gd : BitVec 4) (v : Word) :
    ∃ w, s.settle c next t (.done (u.setG c gd v)) = .next w ∧ Retires u c ((u.core c).ctx.put gd v next) w :=
  State.finish_done_setG u c next gd v

/-- A load from core memory outside poisoned words completes; one that meets a poisoned word raises MEMORY (R14, R52). -/
theorem State.settle_loadCore (s t u : State) (next : Word) :
    (u.loadPoisoned c a n = false → ∃ w, s.settle c next t (u.loadCore c gd ea a n ext) = .next w ∧
      Retires u c ((u.core c).ctx.put gd (ext (bytesWord (u.loadBytes c a n))) next) w) ∧
    (u.loadPoisoned c a n = true → s.settle c next t (u.loadCore c gd ea a n ext) = .next (s.raised c 3 ea)) := by
  constructor
  · intro h
    rw [State.loadCore, h]
    exact State.settle_setG s t u c next gd _
  · intro h
    rw [State.loadCore, h]
    exact State.settle_exc s t c next 3 ea

/-- An access that has queued for the lock leaves its core waiting at the same instruction (R76). -/
theorem State.settle_queued (s t u : State) (c : CoreId) (next : Word) :
    ∃ w, s.settle c next t (.whole ((u.queueForLock c).setWaiting c .claspLock)) = .next w ∧ WaitsForLock u c w := by
  refine ⟨_, rfl, ?waits, ?registers, ?memory, ?points, ?queued⟩
  case waits => simp
  case registers => rw [State.ctx_afterStep, State.core_setWaiting]; rfl
  case memory => rw [State.afterStep_scan_mem]; rfl
  case points => rw [State.afterStep_points]; rfl
  case queued =>
    rw [State.afterStep_scan_lockFifo]
    simp [State.queueForLock, State.setWaiting, State.setCore, List.getD_eq_getElem?_getD]

end

/-! ### Every load instruction -/

/-- An instruction whose meaning is a load of n bytes loads them from every place an address can name. -/
theorem loads_of_loadInstr {mk : CoreId → BitVec 4 → BitVec 4 → Imm → Instr} {n : Nat} {ext : Word → Word}
    (hexec : ∀ c gd ga imm s, exec (mk c gd ga imm) s = s.loadInstr c (mk c gd ga imm) gd ga imm n ext) : Loads mk n ext := by
  intro s c gd ga imm hready i u ea
  have hrun : exec i s = s.settle c (s.behind c i) u (u.load c gd ea n ext) :=
    (hexec c gd ga imm s).trans (State.runInstr_ready hready true false _ rfl rfl)
  unfold Completes
  refine ⟨?free, ?freePoisoned, ?take, ?takePoisoned, ?queue, ?lpddr, ?reload, ?register, ?memory⟩
  case free =>
    intro a cl ha hl hp
    rw [hrun, State.load_at ha, State.underLock_free hl]
    exact (State.settle_loadCore s u u _).1 hp
  case freePoisoned =>
    intro a cl ha hl hp
    rw [hrun, State.load_at ha, State.underLock_free hl]
    exact (State.settle_loadCore s u u _).2 hp
  case take =>
    intro a cl ha hl hp
    rw [hrun, State.load_at ha, State.underLock_take hl]
    exact (State.settle_loadCore s u _ _).1 hp
  case takePoisoned =>
    intro a cl ha hl hp
    rw [hrun, State.load_at ha, State.underLock_take hl]
    exact (State.settle_loadCore s u _ _).2 hp
  case queue =>
    intro a cl ha hl
    rw [hrun, State.load_at ha, State.underLock_queue hl]
    exact State.settle_queued s u u c _
  case lpddr =>
    intro a ha
    rw [hrun, State.load_lpddr ha]
    exact State.settle_setG s u u c _ gd _
  case reload =>
    intro a ha hw
    rw [hrun, State.load_reg_wait ha hw]
    rfl
  case register =>
    intro a ha hw
    rw [hrun, State.load_reg ha hw]
    obtain ⟨t, ht, hret⟩ := State.settle_setG s u (u.busRead .steward a.toNat).1 c (s.behind c i) gd
      (ext (bytesWord (((wordBytes (u.busRead .steward a.toNat).2).drop (a.toNat % 4)).take n)))
    exact ⟨t, ht, _, _, rfl, hret⟩
  case memory =>
    intro ha
    rw [hrun, State.load_memory ha]
    exact State.settle_exc s u c _ 3 ea

/-- Settles O6: each load instruction is a load of its bytes; an extension with zeros leaves the word of the bytes as it is. -/
theorem loadResults : Obligations.LoadResults := by
  refine ⟨?lw, ?lh, ?lhu, ?lb, ?lbu⟩
  case lw => exact loads_of_loadInstr (fun _ _ _ _ _ => rfl)
  case lh => exact loads_of_loadInstr (fun _ _ _ _ _ => rfl)
  case lhu =>
    exact loads_of_loadInstr (fun c gd ga imm s => s.loadInstr_congr c _ gd ga imm 2
      (fun l hl => (setWidth_setWidth_of_lt (toNat_bytesWord_lt_of_two hl)).symm))
  case lb => exact loads_of_loadInstr (fun _ _ _ _ _ => rfl)
  case lbu =>
    exact loads_of_loadInstr (fun c gd ga imm s => s.loadInstr_congr c _ gd ga imm 1
      (fun l hl => (setWidth_setWidth_of_lt (toNat_bytesWord_lt_of_one hl)).symm))

end Sys2Proof.Machine
end

section
/-! Frames used by several parts: what recording an event keeps, and the registers below an address that homeroom slots and outputs leave as
they are. -/

namespace Sys2Proof.Machine

/-! ### Recording an event -/

section
variable (s : State) (it : EvItem)

@[simp] theorem State.record_scan : (s.record it).scan = s.scan := by obtain ⟨_, _, _, _, _, h⟩ := s.record_eventsOnly it; rw [h]
@[simp] theorem State.record_points : (s.record it).points = s.points := by obtain ⟨_, _, _, _, _, h⟩ := s.record_eventsOnly it; rw [h]
@[simp] theorem State.record_roster : (s.record it).roster = s.roster := by obtain ⟨_, _, _, _, _, h⟩ := s.record_eventsOnly it; rw [h]
@[simp] theorem State.record_cnt : (s.record it).cnt = s.cnt := by obtain ⟨_, _, _, _, _, h⟩ := s.record_eventsOnly it; rw [h]

theorem State.rd_record {a : Nat} (h : recordsTo a = false) : (s.record it).rd a = s.rd a := s.record_kept it a h

theorem State.bit_record {a : Nat} (h : recordsTo a = false) (i : Nat) : (s.record it).bit a i = s.bit a i := State.bit_of_rd (s.rd_record it h) i

theorem State.fld_record {a : Nat} (h : recordsTo a = false) (hi lo : Nat) : (s.record it).fld a hi lo = s.fld a hi lo :=
  State.fld_of_rd (s.rd_record it h) hi lo

end

/-- A register apart from HOST_IRQ_STAT, the loop trace and the event recorder is out of a record's reach. -/
theorem recordsTo_of_apart {a : Nat} (hirq : a < 0x010080 ∨ 0x010088 ≤ a) (htrace : a < 0x063000 ∨ 0x064000 ≤ a) (hevt : a < 0x1B0000) :
    recordsTo a = false := by
  simp only [recordsTo, Bool.or_eq_false_iff, Bool.and_eq_false_iff, decide_eq_false_iff_not, beq_eq_false_iff_ne, ne_eq, Reg.HOST_IRQ_STAT,
    Reg.LOOP_TR_STAT, Reg.LOOP_TR_TIME_LO, Reg.LOOP_TR_TIME_HI]
  omega

/-! ### Registers below an address -/

/-- Every register below an address reads as before. -/
def State.KeptBelow (n : Nat) (s t : State) : Prop := ∀ a < n, t.rd a = s.rd a

theorem State.KeptBelow.refl (n : Nat) (s : State) : s.KeptBelow n s := fun _ _ => rfl

theorem State.KeptBelow.trans {n : Nat} {s t u : State} (h : s.KeptBelow n t) (k : t.KeptBelow n u) : s.KeptBelow n u :=
  fun a ha => (k a ha).trans (h a ha)

theorem State.KeptBelow.of_regs {n : Nat} {s t : State} (h : t.regs = s.regs) : s.KeptBelow n t := fun a _ => by simp only [State.rd, h]

theorem State.KeptBelow.ite {n : Nat} {s t u : State} (p : Prop) [Decidable p] (h : s.KeptBelow n t) (k : s.KeptBelow n u) :
    s.KeptBelow n (if p then t else u) := by
  split
  · exact h
  · exact k

theorem State.KeptBelow.foldl {n : Nat} {α : Type} (f : State → α → State) (h : ∀ (s : State) (a : α), s.KeptBelow n (f s a)) :
    ∀ (l : List α) (s : State), s.KeptBelow n (l.foldl f s)
  | [], s => .refl n s
  | a :: l, s => (h s a).trans (State.KeptBelow.foldl f h l (f s a))

theorem State.wr_keptBelow (s : State) {n a : Nat} (v : Word) (h : n ≤ a) : s.KeptBelow n (s.wr a v) := fun b hb => s.rd_wr_ne v (by omega)

/-! ### Homeroom slots (R119 to R122) -/

/-- Work on the homeroom slots leaves the contexts and the rules of the roster as they are, and every register below the homerooms' own. -/
structure State.HomesOnly (s t : State) : Prop where
  roster : ∃ q l, t.roster = { s.roster with requests := q, lastActive := l }
  low : s.KeptBelow Reg.ROSTER_EVICT_CNT t

theorem State.HomesOnly.refl (s : State) : s.HomesOnly s := ⟨⟨_, _, rfl⟩, .refl _ s⟩

theorem State.HomesOnly.trans {s t u : State} (h : s.HomesOnly t) (k : t.HomesOnly u) : s.HomesOnly u := by
  obtain ⟨⟨q, l, hr⟩, hl⟩ := h
  obtain ⟨⟨q', l', kr⟩, kl⟩ := k
  exact ⟨⟨q', l', by rw [kr, hr]⟩, hl.trans kl⟩

theorem State.HomesOnly.foldl {α : Type} (f : State → α → State) (h : ∀ (s : State) (a : α), s.HomesOnly (f s a)) :
    ∀ (l : List α) (s : State), s.HomesOnly (l.foldl f s)
  | [], s => .refl s
  | a :: l, s => (h s a).trans (State.HomesOnly.foldl f h l (f s a))

theorem State.homesOnly_of_regs {s t : State} (h : t.regs = s.regs) (hr : ∃ q l, t.roster = { s.roster with requests := q, lastActive := l }) :
    s.HomesOnly t := ⟨hr, .of_regs h⟩

theorem State.wr_homesOnly (s : State) {a : Nat} (v : Word) (h : Reg.ROSTER_EVICT_CNT ≤ a) : s.HomesOnly (s.wr a v) :=
  ⟨⟨_, _, rfl⟩, s.wr_keptBelow v h⟩

theorem evictCnt_le_hrCtx (k : Nat) : Reg.ROSTER_EVICT_CNT ≤ Reg.ROSTER_HR_CTX k := by
  simp only [Reg.ROSTER_EVICT_CNT, Reg.ROSTER_HR_CTX]
  omega

theorem State.evictInto_homesOnly (s : State) (ev : Bool) (k : Nat) (t : BitVec 12) :
    s.HomesOnly ((if ev then s.inc Reg.ROSTER_EVICT_CNT else s).loadSlot k t) := by
  have hload : ∀ u : State, u.HomesOnly (u.loadSlot k t) := fun u => u.wr_homesOnly _ (evictCnt_le_hrCtx k)
  cases ev
  · exact hload s
  · exact (s.wr_homesOnly _ le_rfl).trans (hload _)

theorem State.needSlot_homesOnly (s : State) (t : BitVec 12) : s.HomesOnly (s.needSlot t) := by
  unfold State.needSlot
  split
  · exact .refl s
  · split
    · exact s.evictInto_homesOnly _ _ t
    · have hcount : s.HomesOnly (s.inc Reg.ROSTER_RELOAD_WAITS) := s.wr_homesOnly _ (by decide)
      exact hcount.trans (State.homesOnly_of_regs rfl ⟨_, _, rfl⟩)

theorem State.settleSlots_homesOnly (s : State) (l : List (BitVec 12)) : s.HomesOnly (s.settleSlots l) := by
  unfold State.settleSlots
  simp only []
  refine State.HomesOnly.trans (State.HomesOnly.foldl _ ?noted l s) (State.HomesOnly.foldl _ ?served _ _)
  case noted =>
    intro s t
    split
    · split
      · exact .refl s
      · exact State.homesOnly_of_regs rfl ⟨_, _, rfl⟩
    · exact .refl s
  case served =>
    intro s t
    split
    · refine State.HomesOnly.trans ?_ (State.evictInto_homesOnly _ _ _ t)
      exact State.homesOnly_of_regs rfl ⟨_, _, rfl⟩
    · exact .refl s

/-! ### Outputs that follow a point write the registers of the field die's outputs alone (R227, R232, R238) -/

theorem State.doUpdate_keptBelow (s : State) (d : Nat) : s.KeptBelow (Reg.FIELD_DO_SRC 0) (s.doUpdate d) := by
  have hset : ∀ b, s.KeptBelow (Reg.FIELD_DO_SRC 0) (s.setBit (Reg.FIELD_DO_STAT d) 0 b) :=
    fun b => s.wr_keptBelow _ (by simp only [Reg.FIELD_DO_SRC, Reg.FIELD_DO_STAT]; omega)
  unfold State.doUpdate
  refine .ite _ (hset _) (.ite _ (.refl _ s) (.ite _ (hset _) (.ite _ ?_ (hset _))))
  split
  · exact hset _
  · exact .refl _ s
  · exact hset _

theorem State.aoUpdate_keptBelow (s : State) (a : Nat) : s.KeptBelow (Reg.FIELD_DO_SRC 0) (s.aoUpdate a) := by
  have hset : ∀ v b, s.KeptBelow (Reg.FIELD_DO_SRC 0) ((s.setFld (Reg.FIELD_AO_STAT a) 15 0 v).setBit (Reg.FIELD_AO_STAT a) 18 b) :=
    fun v b => (s.wr_keptBelow _ (by simp only [Reg.FIELD_DO_SRC, Reg.FIELD_AO_STAT]; omega)).trans
      (State.wr_keptBelow _ _ (by simp only [Reg.FIELD_DO_SRC, Reg.FIELD_AO_STAT]; omega))
  unfold State.aoUpdate
  exact .ite _ (hset _ _) (.ite _ (.refl _ s) (.ite _ (hset _ _) (.ite _ (.ite _ (.refl _ s) (hset _ _)) (hset _ _))))

theorem State.daliFollow_keptBelow (s : State) (e : Nat) : s.KeptBelow (Reg.FIELD_DO_SRC 0) (s.daliFollow e) := by
  have hcount : ∀ b : Bool, s.KeptBelow (Reg.FIELD_DO_SRC 0) (if b then s.incSat Reg.DALI_OUT_MERGED 31 0 else s) :=
    fun b => .ite _ (s.wr_keptBelow _ (by decide)) (.refl _ s)
  unfold State.daliFollow
  simp only []
  split
  · exact .ite _ ((hcount _).trans (.of_regs rfl)) (hcount _)
  · exact .ite _ ((hcount _).trans (.of_regs rfl)) (hcount _)

theorem State.follow_keptBelow (s : State) (i : PointIdx) : s.KeptBelow (Reg.FIELD_DO_SRC 0) (s.follow i) :=
  ((State.KeptBelow.foldl _ State.doUpdate_keptBelow _ _).trans (State.KeptBelow.foldl _ State.aoUpdate_keptBelow _ _)).trans
    (State.KeptBelow.foldl _ State.daliFollow_keptBelow _ _)

theorem State.setQual_keptBelow (s : State) (i : PointIdx) (b : Nat) (v : Bool) : s.KeptBelow (Reg.FIELD_DO_SRC 0) (s.setQual i b v) :=
  State.KeptBelow.trans (.of_regs rfl) (State.follow_keptBelow _ i)

end Sys2Proof.Machine
end

section
/-! The record of a point word by word (R14, R28 to R30): what setting a word, healing and committing leave in each word. -/

namespace Sys2Proof.Machine

/-! ### One word set -/

theorem Point.word_setWord (p : Point) {w : Nat} (j : Nat) (v : Word) (hw : w < 16) : (p.setWord w v).word j = if j = w then v else p.word j := by
  by_cases hj : j = w
  · subst hj
    simp [Point.word, Point.setWord, List.getD_eq_getElem?_getD, hw]
  · simp [Point.word, Point.setWord, List.getD_eq_getElem?_getD, hj, Ne.symm hj]

@[simp] theorem Point.setWord_poison (p : Point) (w : Nat) (v : Word) : (p.setWord w v).poison = p.poison := rfl
@[simp] theorem Point.setWord_plevel (p : Point) (w : Nat) (v : Word) : (p.setWord w v).plevel = p.plevel := rfl
@[simp] theorem Point.setWord_floor (p : Point) (w : Nat) (v : Word) : (p.setWord w v).floor = p.floor := rfl
@[simp] theorem Point.setWord_decl (p : Point) (w : Nat) (v : Word) : (p.setWord w v).decl = p.decl := rfl
@[simp] theorem Point.word_withLevel (p : Point) (a b : BitVec 2) (j : Nat) : ({ p with plevel := a, floor := b } : Point).word j = p.word j := rfl

/-- Settling LEVEL changes QUAL alone, and of QUAL its two lowest bits. -/
theorem Point.word_settleLevel_ne (p : Point) {j : Nat} (hj : j ≠ 2) : p.settleLevel.word j = p.word j := by
  rw [Point.settleLevel, Point.word_setWord p j _ (by omega), if_neg hj]

theorem Point.bitOf_settleLevel (p : Point) {j : Nat} (hj : 1 < j) : bitOf (p.settleLevel.word 2) j = bitOf (p.word 2) j := by
  rw [Point.settleLevel, Point.word_setWord p 2 _ (by omega), if_pos rfl, bitOf_putBits _ _ _ _ _ (by omega) (by omega), if_neg (by omega)]

/-- Checking the limits changes QUAL alone, and of QUAL the two limit flags. -/
theorem Point.word_checkLimits_ne (p : Point) {j : Nat} (hj : j ≠ 2) : p.checkLimits.word j = p.word j := by
  rw [Point.checkLimits, Point.word_setWord p j _ (by omega), if_neg hj]

theorem bitOf_limitFlags (desc alarm v h lo hi q : Word) {j : Nat} (h5 : j ≠ 5) (h6 : j ≠ 6) :
    bitOf (limitFlags desc alarm v h lo hi q) j = bitOf q j := by
  simp only [limitFlags, bitOf_setBitOf _ _ _ _ (by omega : 5 < 32), bitOf_setBitOf _ _ _ _ (by omega : 6 < 32), if_neg h5, if_neg h6]

theorem Point.bitOf_checkLimits (p : Point) {j : Nat} (h5 : j ≠ 5) (h6 : j ≠ 6) : bitOf (p.checkLimits.word 2) j = bitOf (p.word 2) j := by
  rw [Point.checkLimits, Point.word_setWord p 2 _ (by omega), if_pos rfl, bitOf_limitFlags _ _ _ _ _ _ _ h5 h6]

/-- A point without poisoned words has nothing to heal (R14). -/
theorem Point.heal_of_sound {p : Point} (h : p.poison = 0) : p.heal = p := by
  have hfix : ∀ (f : Point → Nat → Point) (l : List Nat), l.foldl (fun q w => if p.poison.getLsbD w then f q w else q) p = p := by
    intro f l
    induction l with
    | nil => rfl
    | cons w l ih => simp [h]
  simp only [Point.heal]
  rw [hfix]
  obtain ⟨_, _, _, _, _, _⟩ := p
  simp_all

/-! ### A commit in stages (R9, R28, R30, R32) -/

/-- VALUE and RAW of a commit: a forced point takes the value in RAW alone (R32). -/
def Point.takeValue (p : Point) (v h : Word) : Point :=
  if p.forced then (p.setWord 7 v).setWord 8 h else (((p.setWord 0 v).setWord 1 h).setWord 7 v).setWord 8 h

/-- QUAL of a commit, before the limits and LEVEL. -/
def CommitSet.qualOf (c : CommitSet) (q : Word) : Word :=
  let q := (q &&& 0x00FF1064) ||| (c.flags &&& 0xB00)
  let q := match c.overrange with | some b => setBitOf q 12 b | none => q
  match c.detail with | some d => putBits q 23 16 d.toNat | none => q

/-- AUX0 to AUX3 of a commit, where its unit gives them. -/
def Point.takeAux (p : Point) (aux : List (Option Word)) : Point :=
  (List.range 4).foldl (fun p i => match aux.getD i none with
    | some w => p.setWord (12 + i) w
    | none => p) p

/-- VALUE_HI as the type of the point has it. -/
def CommitSet.hiOf (c : CommitSet) (p : Point) : Word := p.hi (c.valueHi.getD (p.word 8))

/-- The record before its STAMP, its limits and its LEVEL. -/
def Point.taken (p : Point) (c : CommitSet) : Point :=
  let t := p.takeValue (c.value.getD (p.word 7)) (c.hiOf p)
  Point.takeAux { t.setWord 2 (c.qualOf (t.word 2)) with plevel := c.level.getD t.plevel, floor := 0 } c.aux

theorem Point.commit_of_sound {p : Point} (c : CommitSet) (now : Nat) (h : p.poison = 0) :
    p.commit c now = (((p.taken c).stamp now).checkLimits).settleLevel := by
  unfold Point.commit
  rw [Point.heal_of_sound h]
  rfl

theorem Point.word_takeValue (p : Point) (v h : Word) (j : Nat) : (p.takeValue v h).word j =
    if j = 8 then h else if j = 7 then v else if p.forced = false ∧ j = 1 then h else if p.forced = false ∧ j = 0 then v else p.word j := by
  unfold Point.takeValue
  by_cases hf : p.forced = true
  · simp [hf, Point.word_setWord]
  · simp [hf, Point.word_setWord]

theorem Point.word_takeAux (p : Point) (aux : List (Option Word)) {j : Nat} (hj : j < 12) : (p.takeAux aux).word j = p.word j := by
  have hfold : ∀ (l : List Nat) (q : Point), (∀ i ∈ l, i < 4) → (l.foldl (fun q i => match aux.getD i none with
      | some w => q.setWord (12 + i) w
      | none => q) q).word j = q.word j := by
    intro l
    induction l with
    | nil => intro q _; rfl
    | cons i l ih =>
      intro q hl
      have hi : i < 4 := hl i (List.mem_cons_self ..)
      rw [List.foldl_cons, ih _ (fun k hk => hl k (List.mem_cons_of_mem _ hk))]
      split
      · rw [Point.word_setWord q j _ (by omega), if_neg (by omega)]
      · rfl
  exact hfold _ p (fun i hi => List.mem_range.1 hi)

theorem CommitSet.bitOf_qualOf (c : CommitSet) (q : Word) {j : Nat} (h12 : j ≠ 12) (hdetail : ¬(16 ≤ j ∧ j ≤ 23)) (hflags : bitOf 0xB00 j = false) :
    bitOf (c.qualOf q) j = (bitOf q j && bitOf 0x00FF1064 j) := by
  have hbase : bitOf ((q &&& 0x00FF1064) ||| (c.flags &&& 0xB00)) j = (bitOf q j && bitOf 0x00FF1064 j) := by
    simp only [bitOf] at hflags ⊢
    simp only [BitVec.getLsbD_or, BitVec.getLsbD_and, hflags, Bool.and_false, Bool.or_false]
  unfold CommitSet.qualOf
  cases c.overrange <;> cases c.detail <;>
    simp only [bitOf_setBitOf _ _ _ _ (by omega : 12 < 32), bitOf_putBits _ _ _ _ _ (by omega : 16 ≤ 23) (by omega : 23 < 32), if_neg h12,
      if_neg hdetail, hbase]

theorem Point.qual_taken (p : Point) (c : CommitSet) : (p.taken c).word 2 = c.qualOf (p.word 2) := by
  rw [Point.taken, Point.word_takeAux _ _ (by omega), Point.word_withLevel, Point.word_setWord _ 2 _ (by omega), if_pos rfl,
    Point.word_takeValue]
  simp

theorem Point.word_taken (p : Point) (c : CommitSet) {j : Nat} (hj : j < 12) (h2 : j ≠ 2) :
    (p.taken c).word j = (p.takeValue (c.value.getD (p.word 7)) (c.hiOf p)).word j := by
  rw [Point.taken, Point.word_takeAux _ _ hj, Point.word_withLevel, Point.word_setWord _ j _ (by omega), if_neg h2]

theorem Point.word_stamp (p : Point) (now j : Nat) : (p.stamp now).word j =
    if j = 6 then p.word 6 + 1 else if j = 5 then wd (now / 2 ^ 32 % 2 ^ 32) else if j = 4 then wd (now % 2 ^ 32) else p.word j := by
  simp only [Point.stamp, Point.word_setWord _ _ _ (by omega : 6 < 16), Point.word_setWord _ _ _ (by omega : 5 < 16),
    Point.word_setWord _ _ _ (by omega : 4 < 16)]

/-- The words of a committed record other than QUAL and AUX: SEQ, STAMP, the value in RAW, and in VALUE where no force is active. -/
theorem Point.word_commit {p : Point} (c : CommitSet) (now : Nat) (h : p.poison = 0) {j : Nat} (hj : j < 12) (h2 : j ≠ 2) :
    (p.commit c now).word j =
      if j = 6 then p.word 6 + 1 else if j = 5 then wd (now / 2 ^ 32 % 2 ^ 32) else if j = 4 then wd (now % 2 ^ 32)
      else (p.takeValue (c.value.getD (p.word 7)) (c.hiOf p)).word j := by
  rw [Point.commit_of_sound c now h, Point.word_settleLevel_ne _ h2, Point.word_checkLimits_ne _ h2, Point.word_stamp,
    Point.word_taken p c hj h2, Point.word_taken p c (by omega : 6 < 12) (by omega), Point.word_takeValue p _ _ 6]
  simp

/-- The bits of QUAL that a commit keeps or clears: those that are neither LEVEL nor a limit flag, nor given by the unit. -/
theorem Point.bitOf_commit {p : Point} (c : CommitSet) (now : Nat) (h : p.poison = 0) {j : Nat} (hlevel : 1 < j) (h5 : j ≠ 5) (h6 : j ≠ 6)
    (h12 : j ≠ 12) (hdetail : ¬(16 ≤ j ∧ j ≤ 23)) (hflags : bitOf 0xB00 j = false) :
    bitOf ((p.commit c now).word 2) j = (bitOf (p.word 2) j && bitOf 0x00FF1064 j) := by
  have htaken : ((p.taken c).stamp now).word 2 = c.qualOf (p.word 2) := (Point.word_stamp _ now 2).trans (p.qual_taken c)
  rw [Point.commit_of_sound c now h, Point.bitOf_settleLevel _ hlevel, Point.bitOf_checkLimits _ h5 h6, htaken,
    c.bitOf_qualOf _ h12 hdetail hflags]

/-- The flags of QUAL that a commit clears (R28, R30): INIT, HELD, REMOTE_TIMEOUT, POISONED and SUSPENDED among them. -/
theorem Point.bitOf_commit_cleared {p : Point} (c : CommitSet) (now : Nat) (h : p.poison = 0) {j : Nat} (hj : j ∈ [3, 4, 7, 10, 13]) :
    bitOf ((p.commit c now).word 2) j = false := by
  have hcases : j = 3 ∨ j = 4 ∨ j = 7 ∨ j = 10 ∨ j = 13 := by simpa using hj
  have hmask : bitOf 0x00FF1064 j = false ∧ bitOf 0xB00 j = false := by rcases hcases with rfl | rfl | rfl | rfl | rfl <;> decide
  obtain ⟨hkept, hflags⟩ := hmask
  rw [Point.bitOf_commit c now h (by omega) (by omega) (by omega) (by omega) (by omega) hflags, hkept, Bool.and_false]

/-- A commit keeps the force (R32). -/
theorem Point.forced_commit {p : Point} (c : CommitSet) (now : Nat) (h : p.poison = 0) : (p.commit c now).forced = p.forced := by
  rw [Point.forced, Point.bitOf_commit c now h (by omega) (by omega) (by omega) (by omega) (by omega) (by decide)]
  exact Bool.and_true _

end Sys2Proof.Machine
end

section
/-! Commits by a point's producer, and remote devices (R9, R28, R30, R97; O22). -/

namespace Sys2Proof.Machine

/-! ### What a commit leaves of the state around the point -/

@[simp] theorem State.commitPoint_scan (s : State) (i : PointIdx) (c : CommitSet) : (s.commitPoint i c).scan = s.scan := by
  obtain ⟨r, f, l, h⟩ := State.commitPoint_frame s i c
  rw [h, State.setPoint_scan]

@[simp] theorem State.commitPoint_evt (s : State) (i : PointIdx) (c : CommitSet) : (s.commitPoint i c).evt = s.evt := by
  obtain ⟨r, f, l, h⟩ := State.commitPoint_frame s i c
  rw [h, State.setPoint_evt]

@[simp] theorem State.setQual_scan (s : State) (i : PointIdx) (b : Nat) (v : Bool) : (s.setQual i b v).scan = s.scan := by
  obtain ⟨r, f, h⟩ := State.setQual_frame s i b v
  rw [h, State.setPoint_scan]

@[simp] theorem State.setQual_cnt (s : State) (i : PointIdx) (b : Nat) (v : Bool) : (s.setQual i b v).cnt = s.cnt := by
  obtain ⟨r, f, h⟩ := State.setQual_frame s i b v
  rw [h, State.setPoint_cnt]

theorem State.point_commitPoint_same (s : State) (i : PointIdx) (c : CommitSet) : (s.commitPoint i c).point i = (s.point i).commit c s.now := by
  rw [State.point_commitPoint, if_pos rfl]

theorem State.point_commitPoint_ne (s : State) {i j : PointIdx} (c : CommitSet) (h : j ≠ i) : (s.commitPoint i c).point j = s.point j := by
  rw [State.point_commitPoint, if_neg h]

/-! ### One quality bit set in a list of points -/

theorem State.word_setQual_same (s : State) (i : PointIdx) (b : Nat) (v : Bool) (hb : 1 < b) (hb32 : b < 32) :
    bitOf (((s.setQual i b v).point i).word 2) b = v := by
  rw [State.point_setQual, if_pos rfl, Point.bitOf_settleLevel _ hb, Point.word_setWord _ 2 _ (by omega), if_pos rfl,
    bitOf_setBitOf _ _ _ _ hb32, if_pos rfl]

theorem State.point_setQual_ne (s : State) {i j : PointIdx} (b : Nat) (v : Bool) (h : j ≠ i) : (s.setQual i b v).point j = s.point j := by
  rw [State.point_setQual, if_neg h]

theorem State.markPoints_frame (b : Nat) (v : Bool) : ∀ (l : List PointIdx) (s : State),
    (l.foldl (fun s i => s.setQual i b v) s).scan = s.scan ∧ (l.foldl (fun s i => s.setQual i b v) s).cnt = s.cnt
  | [], _ => ⟨rfl, rfl⟩
  | i :: l, s => by simpa using State.markPoints_frame b v l (s.setQual i b v)

theorem State.point_markPoints_ne (b : Nat) (v : Bool) (j : PointIdx) : ∀ (l : List PointIdx) (s : State), j ∉ l →
    (l.foldl (fun s i => s.setQual i b v) s).point j = s.point j
  | [], _, _ => rfl
  | i :: l, s, h => by
    obtain ⟨hi, hl⟩ := not_or.1 (mt List.mem_cons.2 h)
    rw [List.foldl_cons, State.point_markPoints_ne b v j l _ hl, s.point_setQual_ne b v hi]

theorem State.word_markPoints_mem {b : Nat} (v : Bool) (hb : 1 < b) (hb32 : b < 32) (j : PointIdx) : ∀ (l : List PointIdx) (s : State), j ∈ l →
    bitOf (((l.foldl (fun s i => s.setQual i b v) s).point j).word 2) b = v
  | [], _, h => absurd h List.not_mem_nil
  | i :: l, s, h => by
    rw [List.foldl_cons]
    by_cases hl : j ∈ l
    · exact State.word_markPoints_mem v hb hb32 j l _ hl
    · obtain rfl : j = i := (List.mem_cons.1 h).resolve_right hl
      rw [State.point_markPoints_ne b v j l _ hl]
      exact s.word_setQual_same j b v hb hb32

/-! ### Device groups (R97) -/

theorem State.group_setGroup_same (s : State) (n : Nat) (x : GroupSt) : (s.setGroup n x).group n = some x := by
  simp [State.group, State.setGroup]

theorem State.group_of_scan {s t : State} (h : t.scan = s.scan) (n : Nat) : t.group n = s.group n := by simp only [State.group, h]

@[simp] theorem State.setGroup_points (s : State) (n : Nat) (x : GroupSt) : (s.setGroup n x).points = s.points := rfl

@[simp] theorem State.setGroup_now (s : State) (n : Nat) (x : GroupSt) : (s.setGroup n x).now = s.now := rfl

@[simp] theorem State.point_setGroup (s : State) (n : Nat) (x : GroupSt) (i : PointIdx) : (s.setGroup n x).point i = s.point i := rfl

/-! ### The clock's hand (R79) -/

theorem State.advanceTo_frame (s : State) (t : Nat) : ∃ c, s.advanceTo t = { s with cnt := c } := by
  unfold State.advanceTo
  split <;> exact ⟨_, rfl⟩

@[simp] theorem State.advanceTo_scan (s : State) (t : Nat) : (s.advanceTo t).scan = s.scan := by
  obtain ⟨c, h⟩ := s.advanceTo_frame t
  rw [h]

@[simp] theorem State.advanceTo_points (s : State) (t : Nat) : (s.advanceTo t).points = s.points := by
  obtain ⟨c, h⟩ := s.advanceTo_frame t
  rw [h]

theorem State.now_advanceTo (s : State) {t : Nat} (h : t < 2 ^ 64) : (s.advanceTo t).now = max s.now t := by
  unfold State.advanceTo State.now
  split
  · rw [BitVec.toNat_ofNat, Nat.mod_eq_of_lt h]
    omega
  · omega

/-! ### The commands -/

/-- A value of an answer that its group takes (R97): that of a point of the group which a remote device produces (R9). -/
def GroupSt.takes (x : GroupSt) (s : State) (v : BitVec 14 × PtUpdate) : Bool := x.points.contains v.1 && (s.point v.1).producer == 6

theorem exec_deviceAnswer_group {s : State} {g : BitVec 16} {x : GroupSt} {r : Nat} {rest : List Nat} {values : List (BitVec 14 × PtUpdate)}
    (hg : s.group g.toNat = some x) (hf : x.flights = r :: rest) : exec (.deviceAnswer g values) s =
      .next (((values.filter (x.takes s)).foldl
        (fun s v => s.commitPoint v.1 (updateSet v.2)) s).setGroup g.toNat { x with flights := rest, lastDone := some r }) := by
  simp only [exec_deviceAnswer, execDeviceAnswer, hg, hf]
  rfl

/-- The count of timeouts on a serial group's channel (R266). -/
def State.countSerialTimeout (s : State) (g : Nat) : State :=
  match Config.groupChannel g with
  | some ch => s.setFld (Reg.SER_CH_ERR ch.val) 31 16 (s.fld (Reg.SER_CH_ERR ch.val) 31 16 + 1)
  | none => s

theorem State.countSerialTimeout_frame (s : State) (g : Nat) : ∃ r, s.countSerialTimeout g = { s with regs := r } := by
  unfold State.countSerialTimeout
  split <;> exact ⟨_, rfl⟩

theorem exec_deviceRequestTimeout_group {s : State} {g : BitVec 16} {x : GroupSt} {r : Nat} {rest : List Nat}
    (hg : s.group g.toNat = some x) (hf : x.flights = r :: rest) : exec (.deviceRequestTimeout g) s =
      .next (x.points.foldl (fun s i => s.setQual i 7 true)
        (((s.advanceTo (r + x.timeoutUs * 250)).countSerialTimeout g.toNat).setGroup g.toNat { x with flights := rest })) := by
  simp only [exec_deviceRequestTimeout, execDeviceRequestTimeout, hg, hf]
  rfl

/-- Settles O22: a commit word by word, then the answers, the timeouts and the polls of a device group. -/
theorem commits : Obligations.Commits := by
  refine ⟨?producer, ?record, ?answer, ?timeout, ?poll, ?nowhere⟩
  case producer =>
    intro s i producer upd
    constructor
    · intro hp hi
      refine ⟨s.commitPoint i (updateSet upd), ?_, s.point_commitPoint_same i _, fun j hj => s.point_commitPoint_ne _ hj,
        s.commitPoint_scan i _, s.commitPoint_evt i _⟩
      simp only [exec_producerCommit, execProducerCommit, if_pos (And.intro hp hi)]
    · intro h
      have hno : ¬(producer ≠ 0 ∧ (s.point i).producer = producer.toNat) := fun hc => h.elim hc.1 (fun hne => hne hc.2)
      simp only [exec_producerCommit, execProducerCommit, if_neg hno]
  case record =>
    intro p c now h q
    have hword : ∀ j, _ := fun j => @Point.word_commit p c now h j
    have hcleared : ∀ j, _ := fun j => @Point.bitOf_commit_cleared p c now h j
    refine ⟨?seq, ?raw, ?rawHi, ?desc, ?limit, ?stampLo, ?stampHi, ?free, ?forced, ?f3, ?f4, ?f7, ?f10, ?f13, ?force⟩
    case seq => exact hword 6 (by omega) (by omega)
    case raw => exact (hword 7 (by omega) (by omega)).trans (p.word_takeValue _ _ 7)
    case rawHi => exact (hword 8 (by omega) (by omega)).trans (p.word_takeValue _ _ 8)
    case desc => exact (hword 3 (by omega) (by omega)).trans (by simp [Point.word_takeValue])
    case limit => exact (hword 9 (by omega) (by omega)).trans (by simp [Point.word_takeValue])
    case stampLo => exact hword 4 (by omega) (by omega)
    case stampHi => exact hword 5 (by omega) (by omega)
    case free =>
      intro hf
      rw [hword 0 (by omega) (by omega), hword 1 (by omega) (by omega), hword 7 (by omega) (by omega), hword 8 (by omega) (by omega)]
      simp [Point.word_takeValue, hf]
    case forced =>
      intro hf
      rw [hword 0 (by omega) (by omega), hword 1 (by omega) (by omega)]
      simp [Point.word_takeValue, hf]
    case f3 => exact hcleared 3 (by decide)
    case f4 => exact hcleared 4 (by decide)
    case f7 => exact hcleared 7 (by decide)
    case f10 => exact hcleared 10 (by decide)
    case f13 => exact hcleared 13 (by decide)
    case force => exact Point.forced_commit c now h
  case answer =>
    intro s group x r rest i upd hg hf
    have hexec := exec_deviceAnswer_group (values := [(i, upd)]) hg hf
    constructor
    · intro hi hp
      have htakes : x.takes s (i, upd) = true := by simp [GroupSt.takes, hi, hp]
      rw [List.filter_cons_of_pos htakes, List.filter_nil] at hexec
      refine ⟨_, hexec, ?_, fun j hj => ?_, State.group_setGroup_same _ _ _⟩
      · rw [State.point_setGroup, List.foldl_cons, List.foldl_nil, State.point_commitPoint_same]
      · rw [State.point_setGroup, List.foldl_cons, List.foldl_nil, State.point_commitPoint_ne _ _ hj]
    · intro hno
      have hskips : ¬x.takes s (i, upd) = true := by simpa [GroupSt.takes, imp_iff_not_or] using hno
      rw [List.filter_cons_of_neg hskips, List.filter_nil] at hexec
      exact ⟨_, hexec, rfl, State.group_setGroup_same _ _ _⟩
  case timeout =>
    intro s group x r rest hg hf hlt
    refine ⟨_, exec_deviceRequestTimeout_group hg hf, ?group, ?now, ?others, ?marked⟩
    case group => rw [State.group_of_scan (State.markPoints_frame 7 true _ _).1, State.group_setGroup_same]
    case now =>
      obtain ⟨regs, hcount⟩ := (s.advanceTo (r + x.timeoutUs * 250)).countSerialTimeout_frame group.toNat
      rw [State.now, (State.markPoints_frame 7 true _ _).2, hcount]
      exact s.now_advanceTo hlt
    case others =>
      intro i hi
      obtain ⟨regs, hcount⟩ := (s.advanceTo (r + x.timeoutUs * 250)).countSerialTimeout_frame group.toNat
      rw [State.point_markPoints_ne 7 true i _ _ hi, hcount]
      exact State.point_of_points (s.advanceTo_points _) i
    case marked => exact fun i hi => State.word_markPoints_mem true (by omega) (by omega) i _ _ hi
  case poll =>
    intro s group x hg
    constructor
    · intro hf hr
      refine ⟨s.setGroup group.toNat (x.request s.now), ?_, ?_, rfl, rfl⟩
      · simp only [exec_devicePoll, execDevicePoll, hg, hf, hr, Bool.not_false, and_self, if_true]
      · rw [State.group_setGroup_same, GroupSt.request, hf]
        rfl
    · intro h
      have hno : ¬(x.flights = [] ∧ (!s.inRecess) = true) := by simpa [imp_iff_not_or] using h
      simp only [exec_devicePoll, execDevicePoll, hg, if_neg hno]
  case nowhere =>
    intro s group values hg
    simp only [exec_deviceAnswer, execDeviceAnswer, exec_deviceRequestTimeout, execDeviceRequestTimeout, exec_devicePoll, execDevicePoll, hg,
      and_self]

end Sys2Proof.Machine
end

section
/-! Uncorrectable errors, homeroom reloads and commits of the roster (R7, R14, R121, R127 to R131; O25). -/

namespace Sys2Proof.Machine

/-! ### Words poisoned by uncorrectable errors (R14) -/

/-- The event of an uncorrectable error in a tile (R7). -/
def tileErrorEvent (tile : Nat) : EvItem := { sev := 3, level := 4, source := 0x04, code := 14, args := [wd tile] }

/-- The time of a tile's latest error noted. -/
def State.noteTileErr (s : State) (tile : Nat) : State :=
  { s with scan := { s.scan with tileErr := Tab.set (fun _ => none) s.scan.tileErr tile (some s.now) } }

/-- A tile's first error within 1 s is noted and recorded, and nothing more. -/
theorem State.tileError_first {s : State} {tile : Nat} (h : Tab.get (fun _ => none) s.scan.tileErr tile = none) :
    s.tileError tile = (s.noteTileErr tile).record (tileErrorEvent tile) := by
  simp only [State.tileError, h, Bool.not_false, if_true]
  rfl

/-- The second within 1 s takes a core that is in service out of it. -/
theorem State.tileError_again {s : State} {tile : Fin 64} {at_ : Nat} (h : Tab.get (fun _ => none) s.scan.tileErr tile.val = some at_)
    (hlt : s.now < at_ + 250000000) (hin : s.bit (Reg.SCAN_CORE_STAT tile.val) 0 = true) :
    s.tileError tile.val = State.coreOut ((s.noteTileErr tile.val).record (tileErrorEvent tile.val)) tile := by
  have hkept : ((s.noteTileErr tile.val).record (tileErrorEvent tile.val)).bit (Reg.SCAN_CORE_STAT tile.val) 0 = true := by
    have := tile.isLt
    rw [State.bit_record _ _ (recordsTo_of_apart (by simp only [Reg.SCAN_CORE_STAT]; omega) (by simp only [Reg.SCAN_CORE_STAT]; omega)
      (by simp only [Reg.SCAN_CORE_STAT]; omega))]
    exact hin
  unfold State.tileError
  simp only [h, decide_eq_true hlt, Bool.not_true, Bool.false_eq_true, if_false, dif_pos tile.isLt]
  exact if_pos hkept

/-- The word poisoned, and every other word as before. -/
theorem State.poison_poisonAt (s : State) (a b : Nat) : Tab.get (fun _ => false) (s.poisonAt a).scan.poison b =
    if b = a / 4 * 4 then true else Tab.get (fun _ => false) s.scan.poison b := by
  rw [State.poisonAt, Tab.get_set]

/-- An error that leaves the count of cores out of service as it is has no further effect on the start of the scan. -/
theorem exec_uncorrectableError_kept {s : State} {target : ErrTarget} (hl : ∀ e, target ≠ .lpddr e) (hn : ∀ a p, target ≠ .nand a p)
    (h : (s.uncorrectable target).rd Reg.SCAN_STAT = s.rd Reg.SCAN_STAT) : exec (.uncorrectableError target) s = .next (s.uncorrectable target) := by
  rw [exec_uncorrectableError]
  unfold execUncorrectableError
  split
  · exact absurd rfl (hl _)
  · exact absurd rfl (hn _ _)
  · exact congrArg _ (if_pos (State.fld_of_rd h 18 12))

/-- The three memories of a core that an error can fall in, with the base of each. -/
def coreTargets (c : CoreId) (a : Word) : List (ErrTarget × Nat) :=
  [(.imem c a, (Space.imem c).base), (.dmem c a, (Space.dmem c).base), (.committed c a, (Space.committed c).base)]

/-- An error in a core's memory poisons its word; on a scan core it is an error of the core's tile as well. -/
theorem State.uncorrectable_core (s : State) {c : CoreId} {a : Word} {target : ErrTarget} {base : Nat} (h : (target, base) ∈ coreTargets c a) :
    s.uncorrectable target = if isScan c then (s.poisonAt (base + a.toNat % 0x40000)).tileError c.val else s.poisonAt (base + a.toNat % 0x40000) := by
  simp only [coreTargets, List.mem_cons, Prod.mk.injEq, List.not_mem_nil, or_false] at h
  rcases h with ⟨rfl, rfl⟩ | ⟨rfl, rfl⟩ | ⟨rfl, rfl⟩ <;> rfl

/-- What an error that poisons a word of a memory leaves: the word poisoned, and where it is an error of a tile, noted and recorded as such. -/
theorem State.poisonAt_tileError {s : State} {a tile : Nat} (h : Tab.get (fun _ => none) s.scan.tileErr tile = none) :
    (s.poisonAt a).tileError tile = ((s.poisonAt a).noteTileErr tile).record (tileErrorEvent tile) := State.tileError_first h

/-! ### Homeroom reloads (R121) -/

theorem State.reloadWaitEnd_cases (s : State) (c : CoreId) : s.reloadWaitEnd c = s ∨ s.reloadWaitEnd c = s.setWaiting c .none := by
  unfold State.reloadWaitEnd
  split
  · exact .inr rfl
  · exact .inl rfl

@[simp] theorem State.reloadWaitEnd_regs (s : State) (c : CoreId) : (s.reloadWaitEnd c).regs = s.regs := by
  rcases s.reloadWaitEnd_cases c with h | h <;> rw [h]
  rfl

@[simp] theorem State.reloadWaitEnd_points (s : State) (c : CoreId) : (s.reloadWaitEnd c).points = s.points := by
  rcases s.reloadWaitEnd_cases c with h | h <;> rw [h]
  rfl

@[simp] theorem State.reloadWaitEnd_mem (s : State) (c : CoreId) : (s.reloadWaitEnd c).scan.mem = s.scan.mem := by
  rcases s.reloadWaitEnd_cases c with h | h <;> rw [h]
  rfl

theorem State.core_reloadWaitEnd_ne (s : State) {c d : CoreId} (h : d ≠ c) : (s.reloadWaitEnd c).core d = s.core d := by
  rcases s.reloadWaitEnd_cases c with e | e <;> rw [e]
  rw [State.setWaiting, State.core_setCore, if_neg h]

theorem State.ctx_reloadWaitEnd (s : State) (c d : CoreId) : ((s.reloadWaitEnd c).core d).ctx = (s.core d).ctx := by
  by_cases hd : d = c
  · subst hd
    rcases s.reloadWaitEnd_cases d with e | e <;> rw [e]
    rw [State.core_setWaiting]
  · rw [s.core_reloadWaitEnd_ne hd]

/-- A core that waited for a homeroom which is resident now goes on. -/
theorem State.waiting_reloadWaitEnd {s : State} {c : CoreId} (hw : (s.core c).waiting = .reload) (hr : s.awaitsReload c = false) :
    ((s.reloadWaitEnd c).core c).waiting = .none := by
  have hends : (s.core c).waiting = .reload ∧ (!s.awaitsReload c) = true := by simp [hw, hr]
  rw [State.reloadWaitEnd, if_pos hends, State.core_setWaiting]

theorem State.fld_of_regs {s t : State} (h : t.regs = s.regs) (a hi lo : Nat) : t.fld a hi lo = s.fld a hi lo := by
  simp only [State.fld, State.rd, h]

theorem State.resident_of_regs {s t : State} (h : t.regs = s.regs) (x : BitVec 12) : t.resident x = s.resident x := by
  simp only [State.resident, State.slotOf, State.fld_of_regs h]

theorem State.hmTenant_of_core {s t : State} {c : CoreId} (h : t.core c = s.core c) : t.hmTenant c = s.hmTenant c := by
  simp only [State.hmTenant, h]

/-- No homeroom is waited for by a core whose tenant is resident. -/
theorem State.awaitsReload_of_resident {s : State} {c : CoreId} (h : s.resident (s.hmTenant c) = true) : s.awaitsReload c = false := by
  simp [State.awaitsReload, h]

/-- The slot of a tenant resident, and the two steward cores that may have waited for it gone on. -/
def State.reloaded (s : State) (slot : Nat) : State :=
  ((s.setFld (Reg.ROSTER_HR_CTX slot) 13 12 2).reloadWaitEnd ⟨64, by decide⟩).reloadWaitEnd ⟨65, by decide⟩

theorem steward_of_not_scan {c : CoreId} (h : isScan c = false) : c = ⟨64, by decide⟩ ∨ c = ⟨65, by decide⟩ := by
  have hc : ¬c.val < 64 := by simpa [isScan] using h
  have := c.isLt
  rcases (by omega : c.val = 64 ∨ c.val = 65) with e | e
  · exact .inl (Fin.ext e)
  · exact .inr (Fin.ext e)

section
variable (s : State) (slot : Nat)

theorem State.reloaded_regs : (s.reloaded slot).regs = (s.setFld (Reg.ROSTER_HR_CTX slot) 13 12 2).regs := by
  rw [State.reloaded, State.reloadWaitEnd_regs, State.reloadWaitEnd_regs]

theorem State.rd_reloaded (a : Nat) : (s.reloaded slot).rd a = (s.setFld (Reg.ROSTER_HR_CTX slot) 13 12 2).rd a := by
  simp only [State.rd, s.reloaded_regs slot]

theorem State.ctx_reloaded (c : CoreId) : ((s.reloaded slot).core c).ctx = (s.core c).ctx := by
  rw [State.reloaded, State.ctx_reloadWaitEnd, State.ctx_reloadWaitEnd]
  rfl

theorem State.core_reloaded_scan {c : CoreId} (h : isScan c = true) : (s.reloaded slot).core c = s.core c := by
  have hc : c.val < 64 := by simpa [isScan] using h
  have h64 : c ≠ ⟨64, by decide⟩ := fun e => by simp [e] at hc
  have h65 : c ≠ ⟨65, by decide⟩ := fun e => by simp [e] at hc
  rw [State.reloaded, State.core_reloadWaitEnd_ne _ h65, State.core_reloadWaitEnd_ne _ h64]
  rfl

/-- A steward core that waited for a tenant which the reload has made resident goes on. -/
theorem State.waiting_reloaded {c : CoreId} (hc : isScan c = false) (hw : (s.core c).waiting = .reload)
    (hr : (s.reloaded slot).resident (s.hmTenant c) = true) : ((s.reloaded slot).core c).waiting = .none := by
  rw [State.resident_of_regs (s.reloaded_regs slot)] at hr
  rcases steward_of_not_scan hc with rfl | rfl
  · rw [State.reloaded, State.core_reloadWaitEnd_ne _ (by decide)]
    exact State.waiting_reloadWaitEnd hw (State.awaitsReload_of_resident hr)
  · have hcore := (s.setFld (Reg.ROSTER_HR_CTX slot) 13 12 2).core_reloadWaitEnd_ne (c := ⟨64, by decide⟩) (d := ⟨65, by decide⟩) (by decide)
    refine State.waiting_reloadWaitEnd (by rw [hcore]; exact hw) (State.awaitsReload_of_resident ?_)
    rw [State.resident_of_regs (State.reloadWaitEnd_regs _ _), State.hmTenant_of_core hcore]
    exact hr

end

/-! ### Commits of the roster checked (R127, R131) -/

theorem State.rosterErr_onlyRegs (u : State) (code item : Nat) (tenant : Bool) :
    OnlyRegs u [Reg.ROSTER_STAT, Reg.ROSTER_ERR_DETAIL] (u.rosterErr code item tenant) :=
  (u.wr_onlyRegs (a := Reg.ROSTER_STAT) _ (by simp)).wr _ (by simp)

theorem State.rd_rosterErr_stat (u : State) (code item : Nat) (tenant : Bool) :
    (u.rosterErr code item tenant).rd Reg.ROSTER_STAT = (u.setFld Reg.ROSTER_STAT 11 8 code).rd Reg.ROSTER_STAT := State.rd_wr_ne _ _ (by decide)

theorem State.fld_rosterErr (u : State) {code : Nat} (item : Nat) (tenant : Bool) (h : code < 16) :
    (u.rosterErr code item tenant).fld Reg.ROSTER_STAT 11 8 = code := by
  rw [State.fld_of_rd (u.rd_rosterErr_stat code item tenant), State.fld_setFld _ _ _ _ _ (by omega) (by omega)]
  exact Nat.mod_eq_of_lt h

/-- A bit apart from a field that is set reads as before. -/
theorem State.bit_setFld_apart (s : State) (a hi lo v j : Nat) (h1 : lo ≤ hi) (h2 : hi < 32) (h : ¬(lo ≤ j ∧ j ≤ hi)) :
    (s.setFld a hi lo v).bit a j = s.bit a j := by
  rw [State.bit, State.setFld, State.rd_wr_same, bitOf_putBits _ _ _ _ _ h1 h2, if_neg h]
  rfl

theorem State.bit_rosterErr (u : State) (code item : Nat) (tenant : Bool) :
    (u.rosterErr code item tenant).bit Reg.ROSTER_STAT 1 = u.bit Reg.ROSTER_STAT 1 := by
  rw [State.bit_of_rd (u.rd_rosterErr_stat code item tenant), State.bit_setFld_apart _ _ _ _ _ _ (by omega) (by omega) (by omega)]

/-- A slot given to a tenant that a commit pins anew (R122). -/
def State.pinNew (s : State) (t : Nat) : State :=
  if (Tab.get tenantDefault s.roster.staged t).pin && !((s.tenant (BitVec.ofNat 12 t)).valid && (s.tenant (BitVec.ofNat 12 t)).pin) then
    let s := s.needSlot (BitVec.ofNat 12 t)
    match s.slotOf (BitVec.ofNat 12 t) with
    | some k => s.setBit (Reg.ROSTER_HR_CTX k) 14 true
    | none => s
  else s

theorem State.pinNew_homesOnly (s : State) (t : Nat) : s.HomesOnly (s.pinNew t) := by
  unfold State.pinNew
  split
  · refine (s.needSlot_homesOnly (BitVec.ofNat 12 t)).trans ?_
    simp only []
    split
    · exact State.wr_homesOnly _ _ (evictCnt_le_hrCtx _)
    · exact .refl _
  · exact .refl s

theorem State.HomesOnly.foldl_pinNew : ∀ (l : List Nat) (s : State), s.HomesOnly (l.foldl State.pinNew s)
  | [], s => .refl s
  | t :: l, s => (s.pinNew_homesOnly t).trans (State.HomesOnly.foldl_pinNew l _)

/-- The state of a commit taken: ERR clear, BUSY set, a copy of the staging kept. -/
def State.commitTaken (u : State) : State :=
  let v := (u.rosterErr 0 0 false).setBit Reg.ROSTER_STAT 1 true
  { v with roster := { u.roster with copyCtx := some u.roster.staged, copyRules := u.stagedRules, aborted := 0 } }

section
variable {u : State}

theorem State.rosterCommit_busy (h : u.bit Reg.ROSTER_STAT 1 = true) : u.rosterCommit = u.rosterErr 1 0 false := by
  rw [State.rosterCommit, if_pos h]

theorem State.rosterCommit_draining (h1 : u.bit Reg.ROSTER_STAT 1 = false) (h0 : u.bit Reg.ROSTER_STAT 0 = false) :
    u.rosterCommit = u.rosterErr 2 0 false := by
  simp [State.rosterCommit, h1, h0]

theorem State.rosterCommit_refused {code item : Nat} {tenant : Bool} (h1 : u.bit Reg.ROSTER_STAT 1 = false) (h0 : u.bit Reg.ROSTER_STAT 0 = true)
    (h : u.commitRefusal u.roster.staged u.stagedRules = some (code, item, tenant)) : u.rosterCommit = u.rosterErr code item tenant := by
  simp [State.rosterCommit, h1, h0, h]

theorem State.rosterCommit_taken (h1 : u.bit Reg.ROSTER_STAT 1 = false) (h0 : u.bit Reg.ROSTER_STAT 0 = true)
    (h : u.commitRefusal u.roster.staged u.stagedRules = none) :
    u.rosterCommit = (validTenants u.roster.staged).foldl State.pinNew u.commitTaken := by
  simp only [State.rosterCommit, h1, h0, h, Bool.false_eq_true, if_false, Bool.not_true]
  rfl

end

/-! ### The staging set back to what is committed (R127) -/

/-- A table without the keys that fail a test reads as before at a key that passes it. -/
theorem Tab.get_filter {α : Type} (d : Nat → α) (p : Nat → Bool) {k : Nat} (hk : p k = true) :
    ∀ m : Tab α, Tab.get d (m.filter (fun r => p r.1)) k = Tab.get d m k
  | [] => rfl
  | (j, x) :: m => by
    by_cases hj : p j = true
    · rw [List.filter_cons_of_pos (by exact hj)]
      simp only [Tab.get, Tab.get_filter d p hk m]
    · have hne : ¬j = k := fun e => hj (e ▸ hk)
      rw [List.filter_cons_of_neg (by exact hj), Tab.get_filter d p hk m]
      simp only [Tab.get, if_neg hne]

/-- An address of the rule window (R124). -/
def ruleWindow (a : Nat) : Bool := decide (Reg.ROSTER_RULE 0 0 ≤ a) && decide (a ≤ Reg.ROSTER_RULE 2047 3)

/-- The words of a table of rules written into the window. -/
def State.writeRules (s : State) (rules : Tab Word) : State := rules.foldl (fun s r => s.wr (Reg.ROSTER_RULE 0 0 + 4 * r.1) r.2) s

theorem State.writeRules_frame : ∀ (rules : Tab Word) (s : State), ∃ r, s.writeRules rules = { s with regs := r }
  | [], s => ⟨_, rfl⟩
  | x :: rules, s => by
    obtain ⟨r, h⟩ := State.writeRules_frame rules (s.wr (Reg.ROSTER_RULE 0 0 + 4 * x.1) x.2)
    exact ⟨r, h⟩

theorem State.rd_writeRules {a : Nat} (ha : ruleWindow a = false) : ∀ (rules : Tab Word) (s : State), (∀ r ∈ rules, r.1 < 8192) →
    (s.writeRules rules).rd a = s.rd a
  | [], _, _ => rfl
  | x :: rules, s, h => by
    have hx : a ≠ Reg.ROSTER_RULE 0 0 + 4 * x.1 := by
      have := h x (List.mem_cons_self ..)
      simp only [ruleWindow, Bool.and_eq_false_iff, decide_eq_false_iff_not, Reg.ROSTER_RULE] at ha ⊢
      omega
    exact (State.rd_writeRules ha rules _ (fun r hr => h r (List.mem_cons_of_mem _ hr))).trans (s.rd_wr_ne _ hx)

theorem State.rosterRevert_eq (u : State) : u.rosterRevert =
    { ({ u with regs := u.regs.filter (fun r => !ruleWindow r.1) } : State).writeRules u.roster.rules with
      roster := { u.roster with staged := u.roster.ctx } } := by
  obtain ⟨r, h⟩ := State.writeRules_frame u.roster.rules { u with regs := u.regs.filter (fun r => !ruleWindow r.1) }
  rw [h]
  simp only [State.writeRules] at h
  simp only [State.rosterRevert]
  rw [show (fun r : Nat × Word => !(decide (Reg.ROSTER_RULE 0 0 ≤ r.1) && decide (r.1 ≤ Reg.ROSTER_RULE 2047 3))) = fun r => !ruleWindow r.1 from rfl, h]

theorem State.rosterRevert_frame (u : State) : ∃ r, u.rosterRevert = { u with regs := r, roster := { u.roster with staged := u.roster.ctx } } := by
  obtain ⟨r, h⟩ := State.writeRules_frame u.roster.rules { u with regs := u.regs.filter (fun r => !ruleWindow r.1) }
  exact ⟨r, by rw [State.rosterRevert_eq, h]⟩

theorem State.rd_rosterRevert (u : State) {a : Nat} (ha : ruleWindow a = false) (h : ∀ r ∈ u.roster.rules, r.1 < 8192) :
    u.rosterRevert.rd a = u.rd a := by
  rw [State.rosterRevert_eq]
  exact (State.rd_writeRules ha u.roster.rules _ h).trans (Tab.get_filter regDefault (fun k => !ruleWindow k) (by simp [ha]) u.regs)

/-! ### Operations completed with RULE_CHANGED (R129, R130) -/

theorem State.updEntryCtx_frame (s : State) (c : CoreId) (n : Option Nat) (f : Ctx → Ctx) :
    ∃ k, s.updEntryCtx c n f = { s with scan := { s.scan with cores := k } } := by
  unfold State.updEntryCtx
  simp only []
  split <;> exact ⟨_, rfl⟩

theorem State.entry_updEntryCtx (s : State) (c : CoreId) (n : Option Nat) (f : Ctx → Ctx) (e : Nat) : (s.updEntryCtx c n f).entry? e = s.entry? e := by
  obtain ⟨k, h⟩ := s.updEntryCtx_frame c n f
  rw [h]
  rfl

theorem State.completeOp_frame (s : State) (e : Nat) (cause : BitVec 5) (words : List Word) :
    ∃ k p, s.completeOp e cause words = { s with scan := { s.scan with cores := k, pool := p } } := by
  unfold State.completeOp
  split
  · exact ⟨_, _, rfl⟩
  · split
    · exact ⟨_, _, rfl⟩
    · obtain ⟨k, h⟩ := State.updEntryCtx_frame (s.setEntry e _) _ _ _
      exact ⟨k, _, h⟩

/-- An operation in flight that completes leaves its entry completed with its cause. -/
theorem State.entry_completeOp {s : State} {e : Nat} {x : Entry} (cause : BitVec 5) (words : List Word) (h : s.entry? e = some x)
    (hc : x.completed = false) : (s.completeOp e cause words).entry? e = some { x with outcome := some cause, completed := true, held := false } := by
  simp only [State.completeOp, h, hc, Bool.false_eq_true, if_false]
  rw [State.entry_updEntryCtx, State.entry_setEntry, if_pos rfl]

theorem State.completeOps_frame (cause : BitVec 5) : ∀ (l : List (Nat × Entry)) (s : State),
    ∃ k p, l.foldl (fun s p => s.completeOp p.1 cause []) s = { s with scan := { s.scan with cores := k, pool := p } }
  | [], _ => ⟨_, _, rfl⟩
  | x :: l, s => by
    obtain ⟨k, p, h⟩ := s.completeOp_frame x.1 cause []
    obtain ⟨k', p', h'⟩ := State.completeOps_frame cause l (s.completeOp x.1 cause [])
    exact ⟨k', p', by rw [List.foldl_cons, h', h]⟩

theorem State.ruleChanged_frame (s : State) (l : List (Nat × Entry)) : ∃ k p n, s.ruleChanged l =
    { s.addSat Reg.ROSTER_ABORTED l.length with scan := { s.scan with cores := k, pool := p }, roster := { s.roster with aborted := n } } := by
  obtain ⟨k, p, h⟩ := State.completeOps_frame 13 l s
  refine ⟨k, p, s.roster.aborted + l.length, ?_⟩
  simp only [State.ruleChanged, h]
  rfl

/-! ### A commit drained (R127, R130) -/

/-- The state of a commit that has ended, before its event. -/
def State.drained (s : State) : State :=
  { (s.setBit Reg.ROSTER_STAT 0 true).setBit Reg.ROSTER_STAT 1 false with roster := { s.roster with copyCtx := none, copyRules := [] } }

theorem State.rosterDrain_eq (s : State) : ∃ it, s.rosterDrain = s.drained.record it := ⟨_, rfl⟩

section
variable (s : State)

theorem State.bit_rosterDrain_drained : s.rosterDrain.bit Reg.ROSTER_STAT 0 = true := by
  obtain ⟨it, h⟩ := s.rosterDrain_eq
  rw [h, State.bit_record _ _ (by decide)]
  exact (State.bit_setBit _ _ _ _ _ (by omega)).trans (State.bit_setBit_same _ _ _ _ (by omega))

theorem State.bit_rosterDrain_busy : s.rosterDrain.bit Reg.ROSTER_STAT 1 = false := by
  obtain ⟨it, h⟩ := s.rosterDrain_eq
  rw [h, State.bit_record _ _ (by decide)]
  exact State.bit_setBit_same _ _ _ _ (by omega)

theorem State.rosterDrain_roster : s.rosterDrain.roster = { s.roster with copyCtx := none, copyRules := [] } := by
  obtain ⟨it, h⟩ := s.rosterDrain_eq
  rw [h, State.record_roster]
  rfl

theorem State.rosterDrain_points : s.rosterDrain.points = s.points := by
  obtain ⟨it, h⟩ := s.rosterDrain_eq
  rw [h, State.record_points]
  rfl

theorem State.rd_rosterDrain {a : Nat} (hs : a ≠ Reg.ROSTER_STAT) (ha : recordsTo a = false) : s.rosterDrain.rd a = s.rd a := by
  obtain ⟨it, h⟩ := s.rosterDrain_eq
  rw [h, State.rd_record _ _ ha]
  exact (State.rd_setBit_ne _ _ _ hs).trans (State.rd_setBit_ne _ _ _ hs)

end

/-- The bound of a drain passed: what remains of the old epoch completed with RULE_CHANGED, and an event where anything did (R130). -/
def State.drainExpired (s : State) : State :=
  let s := s.advanceTo (s.roster.tc + (s.rd Reg.ROSTER_DRAIN_BOUND).toNat * usCounts)
  let old := s.oldOps
  let s := s.ruleChanged old
  if old.isEmpty then s else s.record { sev := 5, source := 0x05, code := 130, args := [wd old.length] }

theorem State.drainExpired_frame (s : State) :
    s.drainExpired.cnt = (s.advanceTo (s.roster.tc + (s.rd Reg.ROSTER_DRAIN_BOUND).toNat * 250)).cnt ∧
    s.drainExpired.points = s.points ∧ s.drainExpired.scan.mem = s.scan.mem := by
  have hchanged : ∀ (t : State) l, (t.ruleChanged l).cnt = t.cnt ∧ (t.ruleChanged l).points = t.points ∧ (t.ruleChanged l).scan.mem = t.scan.mem := by
    intro t l
    obtain ⟨k, p, n, h⟩ := t.ruleChanged_frame l
    rw [h]
    exact ⟨rfl, rfl, rfl⟩
  obtain ⟨hcnt, hpoints, hmem⟩ := hchanged (s.advanceTo (s.roster.tc + (s.rd Reg.ROSTER_DRAIN_BOUND).toNat * 250))
    (s.advanceTo (s.roster.tc + (s.rd Reg.ROSTER_DRAIN_BOUND).toNat * 250)).oldOps
  rw [State.advanceTo_points] at hpoints
  rw [State.advanceTo_scan] at hmem
  simp only [State.drainExpired]
  split
  · exact ⟨hcnt, hpoints, hmem⟩
  · rw [State.record_cnt, State.record_points, State.record_scan]
    exact ⟨hcnt, hpoints, hmem⟩

/-! ### Tc (R127 steps 3 and 4) -/

/-- The contexts and the rules replaced, and the epoch moved on. -/
def State.tcEpoch (s : State) (ctx : Tab TenantCtx) : State :=
  let t := { s with roster := { s.roster with ctx := ctx, rules := s.roster.copyRules, tc := s.now } }
  (t.wr Reg.ROSTER_EPOCH (s.rd Reg.ROSTER_EPOCH + 1)).setBit Reg.ROSTER_STAT 0 false

/-- PIN and PRIV_T of a homeroom slot as the new contexts have them. -/
def State.markHome (s : State) (k : Nat) : State :=
  if s.fld (Reg.ROSTER_HR_CTX k) 13 12 = 0 then s
  else
    let c := s.tenant (BitVec.ofNat 12 (s.fld (Reg.ROSTER_HR_CTX k) 11 0))
    (s.setBit (Reg.ROSTER_HR_CTX k) 14 (c.valid && c.pin)).setBit (Reg.ROSTER_HR_CTX k) 15 c.privT

/-- The operations of the old epoch dealt with, and the commit ended where none is left. -/
def State.tcEnd (s : State) : State :=
  let old := s.oldOps
  let s := s.wr Reg.ROSTER_DRAIN_BOUND (wd (min (drainBound old) 0xFFFFFFFF))
  let s := s.ruleChanged (old.filter (fun p => p.2.outcome.isNone))
  (if s.oldOps.isEmpty then s.rosterDrain else s).settleSlots []

theorem State.rosterTc_taken {s : State} {ctx : Tab TenantCtx} (hc : s.roster.copyCtx = some ctx) (hb : s.bit Reg.ROSTER_STAT 0 = true)
    (hw : (validTenants ctx).any (fun t => (Tab.get tenantDefault ctx t).pin && !s.resident (BitVec.ofNat 12 t)) = false) :
    s.rosterTc = ((List.range 16).foldl State.markHome (s.reachTargets.tcEpoch ctx)).tcEnd := by
  have hgo : ¬((validTenants ctx).any (fun t => (Tab.get tenantDefault ctx t).pin && !s.resident (BitVec.ofNat 12 t)) = true ∨
      (!s.bit Reg.ROSTER_STAT 0) = true) := by simp only [hw, hb]; decide
  simp only [State.rosterTc, hc, if_neg hgo]
  rfl

theorem State.reachTargets_of_no_entries {s : State} (h : s.entries = []) : s.reachTargets = s := by
  simp only [State.reachTargets, h, List.filter_nil, sortOn, List.foldl_nil]

theorem State.oldOps_of_no_entries {s t : State} (h : s.entries = []) (hs : t.scan = s.scan) : t.oldOps = [] := by
  have ht : t.entries = [] := by rw [← h, State.entries, State.entries, hs]
  rw [State.oldOps, ht, List.filter_nil]

theorem State.markHome_frame (s : State) (k : Nat) : ∃ r, s.markHome k = { s with regs := r } := by
  unfold State.markHome
  split <;> exact ⟨_, rfl⟩

theorem State.markHome_keptBelow (s : State) (k : Nat) : s.KeptBelow Reg.ROSTER_EVICT_CNT (s.markHome k) := by
  have haddr : Reg.ROSTER_EVICT_CNT ≤ Reg.ROSTER_HR_CTX k := by simp only [Reg.ROSTER_EVICT_CNT, Reg.ROSTER_HR_CTX]; omega
  exact .ite _ (.refl _ s) ((s.wr_keptBelow _ haddr).trans (State.wr_keptBelow _ _ haddr))

theorem State.markHomes_frame : ∀ (l : List Nat) (s : State), ∃ r, l.foldl State.markHome s = { s with regs := r }
  | [], _ => ⟨_, rfl⟩
  | k :: l, s => by
    obtain ⟨r, h⟩ := s.markHome_frame k
    obtain ⟨r', h'⟩ := State.markHomes_frame l (s.markHome k)
    exact ⟨r', by rw [List.foldl_cons, h', h]⟩

/-- A commit with no operation of the old epoch in flight ends at Tc itself. -/
theorem State.tcEnd_of_no_entries {s : State} (h : s.entries = []) :
    s.tcEnd = (((s.wr Reg.ROSTER_DRAIN_BOUND 0).ruleChanged []).rosterDrain).settleSlots [] := by
  have hold : s.oldOps = [] := State.oldOps_of_no_entries h rfl
  have hleft : ((s.wr Reg.ROSTER_DRAIN_BOUND 0).ruleChanged []).oldOps = [] := State.oldOps_of_no_entries h rfl
  simp only [State.tcEnd, hold, List.filter_nil]
  rw [show wd (min (drainBound []) 0xFFFFFFFF) = 0 from rfl, hleft]
  rfl

/-- What Tc leaves of a commit with no operation of the old epoch in flight (R127): the new contexts and rules in force under a new epoch, drained. -/
theorem State.rosterTc_of_no_entries {s : State} {ctx : Tab TenantCtx} (hc : s.roster.copyCtx = some ctx) (hb : s.bit Reg.ROSTER_STAT 0 = true)
    (hw : (validTenants ctx).any (fun t => (Tab.get tenantDefault ctx t).pin && !s.resident (BitVec.ofNat 12 t)) = false) (he : s.entries = []) :
    s.rosterTc.roster.ctx = ctx ∧ s.rosterTc.roster.rules = s.roster.copyRules ∧ s.rosterTc.rd Reg.ROSTER_EPOCH = s.rd Reg.ROSTER_EPOCH + 1 ∧
    s.rosterTc.rd Reg.ROSTER_DRAIN_BOUND = 0 ∧ s.rosterTc.bit Reg.ROSTER_STAT 0 = true ∧ s.rosterTc.bit Reg.ROSTER_STAT 1 = false := by
  obtain ⟨r, hframe⟩ := State.markHomes_frame (List.range 16) (s.tcEpoch ctx)
  have hmarked : (s.tcEpoch ctx).KeptBelow Reg.ROSTER_EVICT_CNT ((List.range 16).foldl State.markHome (s.tcEpoch ctx)) :=
    State.KeptBelow.foldl _ State.markHome_keptBelow _ _
  have htc : s.rosterTc = ((List.range 16).foldl State.markHome (s.tcEpoch ctx)).tcEnd := by
    rw [State.rosterTc_taken hc hb hw, State.reachTargets_of_no_entries he]
  rw [State.tcEnd_of_no_entries (by rw [hframe]; exact he)] at htc
  generalize (List.range 16).foldl State.markHome (s.tcEpoch ctx) = u at hframe hmarked htc
  have hroster : u.roster = (s.tcEpoch ctx).roster := by rw [hframe]
  have hepoch : u.rd Reg.ROSTER_EPOCH = s.rd Reg.ROSTER_EPOCH + 1 := by
    rw [hmarked _ (by decide)]
    exact (State.rd_setBit_ne _ _ _ (by decide)).trans (State.rd_wr_same _ _ _)
  obtain ⟨⟨q, l, hslots⟩, hlow⟩ := State.settleSlots_homesOnly ((u.wr Reg.ROSTER_DRAIN_BOUND 0).ruleChanged []).rosterDrain []
  rw [← htc] at hslots hlow
  rw [State.rosterDrain_roster] at hslots
  have hchanged : ∀ a, a ≠ Reg.ROSTER_ABORTED → ((u.wr Reg.ROSTER_DRAIN_BOUND 0).ruleChanged []).rd a = (u.wr Reg.ROSTER_DRAIN_BOUND 0).rd a :=
    fun a ha => State.rd_addSat_ne _ _ ha
  refine ⟨?ctx, ?rules, ?epoch, ?bound, ?drained, ?busy⟩
  case ctx =>
    rw [hslots]
    exact congrArg Roster.ctx hroster
  case rules =>
    rw [hslots]
    exact congrArg Roster.rules hroster
  case epoch =>
    rw [hlow _ (by decide), State.rd_rosterDrain _ (by decide) (by decide), hchanged _ (by decide), State.rd_wr_ne _ _ (by decide), hepoch]
  case bound =>
    rw [hlow _ (by decide), State.rd_rosterDrain _ (by decide) (by decide), hchanged _ (by decide), State.rd_wr_same]
  case drained =>
    rw [State.bit_of_rd (hlow _ (by decide))]
    exact State.bit_rosterDrain_drained _
  case busy =>
    rw [State.bit_of_rd (hlow _ (by decide))]
    exact State.bit_rosterDrain_busy _

/-! ### The commands -/

theorem State.rd_noteTileErr (s : State) (tile : Nat) (a : Nat) : (s.noteTileErr tile).rd a = s.rd a := rfl

theorem State.point_noteTileErr (s : State) (tile : Nat) (i : PointIdx) : (s.noteTileErr tile).point i = s.point i := rfl

theorem State.tileErr_noteTileErr (s : State) (tile : Nat) : Tab.get (fun _ => none) (s.noteTileErr tile).scan.tileErr tile = some s.now := by
  rw [State.noteTileErr, Tab.get_set_same]

theorem State.poison_poisonAt_same (s : State) (a : Nat) : Tab.get (fun _ => false) (s.poisonAt a).scan.poison (a / 4 * 4) = true := by
  rw [State.poison_poisonAt, if_pos rfl]

theorem State.poison_poisonAt_ne (s : State) {a b : Nat} (h : b ≠ a / 4 * 4) :
    Tab.get (fun _ => false) (s.poisonAt a).scan.poison b = Tab.get (fun _ => false) s.scan.poison b := by
  rw [State.poison_poisonAt, if_neg h]

/-- The recording of a tile's first error leaves SCAN_STAT as it is. -/
theorem State.rd_tileError_first {s : State} {tile : Nat} (h : Tab.get (fun _ => none) s.scan.tileErr tile = none) :
    (s.tileError tile).rd Reg.SCAN_STAT = s.rd Reg.SCAN_STAT := by
  rw [State.tileError_first h, State.rd_record _ _ (by decide), State.rd_noteTileErr]

theorem exec_uncorrectableError_core {s : State} {c : CoreId} {a : Word} {target : ErrTarget} {base : Nat} (h : (target, base) ∈ coreTargets c a)
    (hfirst : isScan c = true → Tab.get (fun _ => none) s.scan.tileErr c.val = none) : exec (.uncorrectableError target) s =
      .next (if isScan c then ((s.poisonAt (base + a.toNat % 0x40000)).noteTileErr c.val).record (tileErrorEvent c.val)
        else s.poisonAt (base + a.toNat % 0x40000)) := by
  have hkind : (∀ e, target ≠ .lpddr e) ∧ ∀ r p, target ≠ .nand r p := by
    simp only [coreTargets, List.mem_cons, Prod.mk.injEq, List.not_mem_nil, or_false] at h
    rcases h with ⟨rfl, _⟩ | ⟨rfl, _⟩ | ⟨rfl, _⟩ <;> exact ⟨nofun, nofun⟩
  have heq := s.uncorrectable_core h
  cases hc : isScan c
  · rw [hc] at heq
    rw [exec_uncorrectableError_kept hkind.1 hkind.2 (by rw [heq]; rfl), heq]
    rfl
  · rw [hc, if_pos rfl] at heq
    have hnone : Tab.get (fun _ => none) (s.poisonAt (base + a.toNat % 0x40000)).scan.tileErr c.val = none := hfirst hc
    rw [exec_uncorrectableError_kept hkind.1 hkind.2 (by rw [heq]; exact State.rd_tileError_first hnone), heq, State.tileError_first hnone]
    rfl

theorem exec_rosterTc_none {s : State} (h : s.roster.copyCtx = none) : exec .rosterTc s = .next s := by
  have hsame : s.rosterTc = s := by simp only [State.rosterTc, h]
  simp only [exec_rosterTc, execRosterTc, hsame, if_true]

theorem succ_ne_self_word (w : Word) : w + 1 ≠ w := by
  intro h
  simp at h

/-- An error in a word of a point's record: the word poisoned, POISONED set, and an error of the point's tile (R14). -/
theorem State.uncorrectable_point (s : State) (i : PointIdx) (w : BitVec 4) : s.uncorrectable (.point i w) =
    ((s.setPoint i { s.point i with poison := (s.point i).poison ||| BitVec.ofNat 16 (2 ^ w.toNat) }).setQual i 10 true).tileError
      (64 + i.toNat / 2048) := rfl

theorem State.poison_setQual (s : State) (i : PointIdx) (b : Nat) (v : Bool) : ((s.setQual i b v).point i).poison = (s.point i).poison := by
  rw [State.point_setQual, if_pos rfl]
  rfl

theorem State.fld_setFld_apart (s : State) (a hi lo v hi' lo' : Nat) (h1 : lo ≤ hi) (h2 : hi < 32) (h : hi' < lo ∨ hi < lo') :
    (s.setFld a hi lo v).fld a hi' lo' = s.fld a hi' lo' := by
  simp only [State.fld, State.setFld, State.rd_wr_same]
  exact bits_putBits_apart _ _ _ _ _ _ h1 h2 h

theorem State.bit_commitTaken (u : State) : u.commitTaken.bit Reg.ROSTER_STAT 1 = true := State.bit_setBit_same _ _ _ _ (by omega)

theorem State.fld_commitTaken (u : State) : u.commitTaken.fld Reg.ROSTER_STAT 11 8 = 0 :=
  (State.fld_setBit_apart _ _ _ _ _ _ (by omega) (by omega)).trans (u.fld_rosterErr 0 false (by omega))

theorem State.rd_commitTaken_epoch (u : State) : u.commitTaken.rd Reg.ROSTER_EPOCH = u.rd Reg.ROSTER_EPOCH :=
  (State.rd_setBit_ne _ _ _ (by decide)).trans ((u.rosterErr_onlyRegs 0 0 false).2 _ (by decide))

theorem ruleWindow_of_outside {a : Nat} (h : a < Reg.ROSTER_RULE 0 0 ∨ Reg.ROSTER_RULE 2047 3 < a) : ruleWindow a = false := by
  simp only [ruleWindow, Bool.and_eq_false_iff, decide_eq_false_iff_not]
  omega

/-- Settles O25: errors tile by tile, the reload, then the commit along its steps: checked, Tc, drained, and its bound. -/
theorem rosterAndErrors : Obligations.RosterAndErrors := by
  refine ⟨?core, ?cluster, ?point, ?lpddr, ?again, ?reload, ?commit, ?noCommit, ?tc, ?ruleChanged, ?draining, ?drained⟩
  case core =>
    intro s c a target base htarget w hfirst
    have hmem : (target, base) ∈ coreTargets c a := by simpa [coreTargets] using htarget
    have hexec := exec_uncorrectableError_core hmem hfirst
    have hsame : Tab.get (fun _ => false) (s.poisonAt (base + a.toNat % 0x40000)).scan.poison w = true := s.poison_poisonAt_same _
    have hothers : ∀ b, b ≠ w → Tab.get (fun _ => false) (s.poisonAt (base + a.toNat % 0x40000)).scan.poison b =
        Tab.get (fun _ => false) s.scan.poison b := fun b hb => s.poison_poisonAt_ne hb
    cases hc : isScan c
    · rw [hc, if_neg Bool.false_ne_true] at hexec
      refine ⟨_, hexec, _, s.scan.tileErr, ?_, nofun, hsame, hothers⟩
      simp only [Bool.false_eq_true, if_false]
      rfl
    · rw [hc, if_pos rfl] at hexec
      refine ⟨_, hexec, _, ((s.poisonAt (base + a.toNat % 0x40000)).noteTileErr c.val).scan.tileErr, ?_, fun _ => State.tileErr_noteTileErr _ _, hsame, hothers⟩
      simp only [if_true]
      rfl
  case cluster =>
    intro s cl a hfirst w
    have hnone : Tab.get (fun _ => none) (s.poisonAt ((Space.cluster cl).base + a.toNat % 0x200000)).scan.tileErr (64 + cl.val) = none := hfirst
    have heq : s.uncorrectable (.cluster cl a) = _ := State.tileError_first hnone
    have hexec := exec_uncorrectableError_kept (s := s) (target := .cluster cl a) nofun nofun (by rw [heq, State.rd_record _ _ (by decide)]; rfl)
    rw [heq] at hexec
    exact ⟨_, hexec, _, _, rfl, State.tileErr_noteTileErr _ _, s.poison_poisonAt_same _, fun b hb => s.poison_poisonAt_ne hb⟩
  case point =>
    intro s i w hfirst
    have hnone : Tab.get (fun _ => none) ((s.setPoint i { s.point i with poison := (s.point i).poison ||| BitVec.ofNat 16 (2 ^ w.toNat) }).setQual i
        10 true).scan.tileErr (64 + i.toNat / 2048) = none := by rw [State.setQual_scan]; exact hfirst
    have hpoint := (s.uncorrectable_point i w).trans (State.tileError_first hnone)
    have hstat : (s.uncorrectable (.point i w)).rd Reg.SCAN_STAT = s.rd Reg.SCAN_STAT := by
      rw [hpoint, State.rd_record _ _ (by decide), State.rd_noteTileErr]
      exact (State.setQual_keptBelow _ _ _ _) _ (by decide)
    refine ⟨_, exec_uncorrectableError_kept nofun nofun hstat, ?_⟩
    have hread : ∀ j, (s.uncorrectable (.point i w)).point j =
        ((s.setPoint i { s.point i with poison := (s.point i).poison ||| BitVec.ofNat 16 (2 ^ w.toNat) }).setQual i 10 true).point j := by
      intro j
      rw [hpoint, State.point_of_points (State.record_points _ _), State.point_noteTileErr]
    refine ⟨?_, ?_, fun j hj => ?_⟩
    · rw [hread]
      exact State.word_setQual_same _ i 10 true (by omega) (by omega)
    · rw [hread, State.poison_setQual, State.point_setPoint_same]
    · rw [hread, State.point_setQual_ne _ _ _ hj, State.point_setPoint, if_neg hj]
  case lpddr => exact fun s e => rfl
  case again => exact fun s tile at_ h hlt hin => State.tileError_again h hlt hin
  case reload =>
    intro s slot
    constructor
    · intro hloading
      refine ⟨s.reloaded slot.val, by simp only [exec_homeroomReloadDone, execHomeroomReloadDone, if_pos hloading]; rfl, ?_, ?_, ?_, ?_, ?_,
        s.ctx_reloaded slot.val, fun c hc => s.core_reloaded_scan slot.val hc, fun c hc hw hr => s.waiting_reloaded slot.val hc hw hr⟩
      · rw [State.fld_of_regs (s.reloaded_regs slot.val), State.fld_setFld _ _ _ _ _ (by omega) (by omega)]
        rfl
      · rw [State.fld_of_regs (s.reloaded_regs slot.val), State.fld_setFld_apart _ _ _ _ _ _ _ (by omega) (by omega) (by omega)]
      · exact fun a ha => (s.rd_reloaded slot.val a).trans (s.rd_setFld_ne _ _ _ ha)
      · rw [State.reloaded, State.reloadWaitEnd_points, State.reloadWaitEnd_points, State.setFld_points]
      · rw [State.reloaded, State.reloadWaitEnd_mem, State.reloadWaitEnd_mem, State.setFld_scan]
    · intro hidle
      simp only [exec_homeroomReloadDone, execHomeroomReloadDone, if_neg hidle]
  case commit =>
    intro s m u hobeys
    have hcommit : exec (.rosterCommit m) s = .next u.rosterCommit := congrArg _ (State.asPrefect_obeys hobeys State.rosterCommit)
    have hrevert : exec (.rosterRevert m) s = .next u.rosterRevert := congrArg _ (State.asPrefect_obeys hobeys State.rosterRevert)
    refine ⟨?busy, ?undrained, ?refused, ?taken, ?revert⟩
    case busy =>
      intro h1
      rw [State.rosterCommit_busy h1] at hcommit
      exact ⟨_, hcommit, u.rosterErr_onlyRegs 1 0 false, u.fld_rosterErr 0 false (by omega)⟩
    case undrained =>
      intro h1 h0
      rw [State.rosterCommit_draining h1 h0] at hcommit
      exact ⟨_, hcommit, u.rosterErr_onlyRegs 2 0 false, u.fld_rosterErr 0 false (by omega)⟩
    case refused =>
      intro code item tenant h1 h0 hrefusal hcode
      rw [State.rosterCommit_refused h1 h0 hrefusal] at hcommit
      exact ⟨_, hcommit, u.rosterErr_onlyRegs code item tenant, u.fld_rosterErr item tenant hcode, (u.bit_rosterErr code item tenant).trans h1,
        State.rd_wr_same _ _ _⟩
    case taken =>
      intro h1 h0 hrefusal
      rw [State.rosterCommit_taken h1 h0 hrefusal] at hcommit
      obtain ⟨⟨q, l, hroster⟩, hlow⟩ := State.HomesOnly.foldl_pinNew (validTenants u.roster.staged) u.commitTaken
      refine ⟨_, hcommit, ?_, ?_, ?_, ?_, ?_, ?_, ?_⟩
      · rw [State.fld_of_rd (hlow _ (by decide)), u.fld_commitTaken]
      · rw [State.bit_of_rd (hlow _ (by decide)), u.bit_commitTaken]
      · rw [hroster]; rfl
      · rw [hroster]; rfl
      · rw [hroster]; rfl
      · rw [hroster]; rfl
      · rw [hlow _ (by decide), u.rd_commitTaken_epoch]
    case revert =>
      obtain ⟨r, hframe⟩ := u.rosterRevert_frame
      refine ⟨_, hrevert, by rw [hframe], by rw [hframe], by rw [hframe], fun a ha hrules => ?_⟩
      refine u.rd_rosterRevert (ruleWindow_of_outside ha) (fun r hr => ?_)
      simpa using List.all_eq_true.1 hrules r hr
  case noCommit => exact fun s h => exec_rosterTc_none h
  case tc =>
    intro s ctx hc hb hw he
    obtain ⟨hctx, hrules, hepoch, hbound, hdrained, hbusy⟩ := State.rosterTc_of_no_entries hc hb hw he
    refine ⟨hctx, hrules, hepoch, hbound, hdrained, hbusy, ?_⟩
    have hmoved : ¬s.rosterTc.rd Reg.ROSTER_EPOCH = s.rd Reg.ROSTER_EPOCH := by
      rw [hepoch]
      exact succ_ne_self_word _
    simp only [exec_rosterTc, execRosterTc, if_neg hmoved]
  case ruleChanged =>
    intro s e x he hc
    have hcount : ∀ (t : State) n o, ({ t.addSat Reg.ROSTER_ABORTED n with roster := o } : State).rd Reg.ROSTER_ABORTED =
        wd (min ((t.rd Reg.ROSTER_ABORTED).toNat + n) 0xFFFFFFFF) := fun t n o => State.rd_wr_same t _ _
    refine ⟨?_, ?_, ?_⟩
    · exact State.entry_completeOp 13 [] he hc
    · obtain ⟨k, p, hframe⟩ := State.completeOps_frame 13 [(e, x)] s
      rw [State.ruleChanged, hframe]
      exact hcount _ _ _
    · obtain ⟨k, p, n, hframe⟩ := s.ruleChanged_frame [(e, x)]
      rw [hframe, State.addSat_points]
  case draining =>
    intro s h0
    have hexec : exec .rosterDrained s = .next (if !s.bit Reg.ROSTER_STAT 0 && s.oldOps.isEmpty then s.rosterDrain else s) := rfl
    refine ⟨?_, ?_, ?_⟩
    · intro hold
      have hgo : (!s.bit Reg.ROSTER_STAT 0 && s.oldOps.isEmpty) = true := by simp [h0, hold]
      rw [if_pos hgo] at hexec
      exact ⟨_, hexec, s.bit_rosterDrain_drained, s.bit_rosterDrain_busy, by rw [s.rosterDrain_roster], by rw [s.rosterDrain_roster],
        s.rosterDrain_points⟩
    · intro hold
      have hleft : ¬(!s.bit Reg.ROSTER_STAT 0 && s.oldOps.isEmpty) = true := by simp [hold]
      rw [if_neg hleft] at hexec
      exact hexec
    · have hbound : exec .drainBoundExpiry s = .next s.drainExpired.rosterDrain := if_neg (by simp [h0])
      obtain ⟨hcnt, hpoints, hmem⟩ := s.drainExpired_frame
      refine ⟨_, hbound, _, rfl, fun hlt => ?_, hpoints, hmem⟩
      rw [State.now, hcnt]
      exact s.now_advanceTo hlt
  case drained =>
    intro s h0
    have hno : ¬(!s.bit Reg.ROSTER_STAT 0 && s.oldOps.isEmpty) = true := by simp [h0]
    exact ⟨congrArg _ (if_neg hno), if_pos h0⟩

end Sys2Proof.Machine
end

section
/-! The safety die's channels and cars (R15 to R18, R192 to R197): reads after writes, and what a latch does. -/

namespace Sys2Proof.Machine

/-! ### Vectors read as lists -/

theorem Vector.getD_setIfInBounds {α : Type} {n : Nat} (v : Vector α n) {i : Nat} (x d : α) (hi : i < n) (j : Nat) :
    (v.setIfInBounds i x).toList.getD j d = if j = i then x else v.toList.getD j d := by
  rw [Vector.toList_setIfInBounds, List.getD_eq_getElem?_getD, List.getElem?_set, List.getD_eq_getElem?_getD]
  by_cases h : j = i
  · subst h
    simp [hi]
  · rw [if_neg (Ne.symm h), if_neg h]

theorem Vector.getD_map {α β : Type} {n : Nat} (v : Vector α n) (f : α → β) (d : α) (e : β) {j : Nat} (hj : j < n) :
    (v.map f).toList.getD j e = f (v.toList.getD j d) := by
  simp [List.getD_eq_getElem?_getD, hj]

/-! ### Channels and cars -/

section
variable (s : State)

theorem State.chan_setChan {ch : Nat} (x : ChanSt) (h : ch < 2) (k : Nat) : (s.setChan ch x).chan k = if k = ch then x else s.chan k :=
  Vector.getD_setIfInBounds _ _ _ h k

theorem State.safeCar_setSafeCar {c : Nat} (x : SafeCar) (h : c < 8) (k : Nat) : (s.setSafeCar c x).safeCar k = if k = c then x else s.safeCar k :=
  Vector.getD_setIfInBounds _ _ _ h k

@[simp] theorem State.safeCar_setChan (ch : Nat) (x : ChanSt) (c : Nat) : (s.setChan ch x).safeCar c = s.safeCar c := rfl

@[simp] theorem State.chan_setSafeCar (c : Nat) (x : SafeCar) (ch : Nat) : (s.setSafeCar c x).chan ch = s.chan ch := rfl

theorem ChanSt.car_set (k : ChanSt) {c : Nat} (x : ChanCar) (h : c < 8) : ({ k with cars := k.cars.setIfInBounds c x } : ChanSt).car c = x := by
  rw [ChanSt.car, Vector.getD_setIfInBounds _ _ _ h, if_pos rfl]

@[simp] theorem State.record_safe (it : EvItem) : (s.record it).safe = s.safe := by
  obtain ⟨_, _, _, _, _, h⟩ := s.record_eventsOnly it
  rw [h]

theorem State.chan_of_safe {s t : State} (h : t.safe = s.safe) (ch : Nat) : t.chan ch = s.chan ch := by simp only [State.chan, h]

theorem State.safeCar_of_safe {s t : State} (h : t.safe = s.safe) (c : Nat) : t.safeCar c = s.safeCar c := by simp only [State.safeCar, h]

/-! ### Latches (R197) -/

/-- A car with one more latch: its release is gone, and a contact operated before opens nothing. -/
def SafeCar.latched (x : SafeCar) (bit : Nat) : SafeCar := { x with latch := x.latch ||| BitVec.ofNat 6 (2 ^ bit), released := false, clearable := false }

/-- A channel that has withdrawn its grants for a car. -/
def ChanSt.dropped (k : ChanSt) (c : Nat) : ChanSt :=
  { k with cars := k.cars.setIfInBounds c { k.car c with mode := 0, doorF := false, doorR := false, release := false, reason := 5 } }

theorem State.safeCar_safeLatch {c : Nat} (bit : Nat) (h : c < 8) (k : Nat) :
    (s.safeLatch c bit).safeCar k = if k = c then (s.safeCar c).latched bit else s.safeCar k := Vector.getD_setIfInBounds _ _ _ h k

theorem State.chan_safeLatch (c bit : Nat) {ch : Nat} (h : ch < 2) : (s.safeLatch c bit).chan ch = (s.chan ch).dropped c :=
  Vector.getD_map _ _ _ _ h

theorem State.safeLatch_frame (c bit : Nat) : ∃ k x, s.safeLatch c bit = { s with safe := { s.safe with chans := k, cars := x } } := ⟨_, _, rfl⟩

theorem ChanSt.car_dropped (k : ChanSt) {c : Nat} (h : c < 8) :
    (k.dropped c).car c = { k.car c with mode := 0, doorF := false, doorR := false, release := false, reason := 5 } := k.car_set _ h

/-- Without grants of the first channel both relays of a car are off (R16). -/
theorem State.carSafe_of_no_grant {s : State} {c : Nat} (hm : ((s.chan 0).car c).mode = 0) (hf : ((s.chan 0).car c).doorF = false)
    (hr : ((s.chan 0).car c).doorR = false) : s.carSafe c = true := by
  have hcar : 2 * c / 2 = c ∧ (2 * c + 1) / 2 = c ∧ 2 * c % 2 = 0 ∧ (2 * c + 1) % 2 ≠ 0 := by omega
  obtain ⟨hrun, hdoor, heven, hodd⟩ := hcar
  simp [State.carSafe, State.relayOn, hrun, hdoor, ChanCar.run, ChanCar.doorRelay, hm, hf, hr]

/-- A latch holds its car safe (R197). -/
theorem State.carSafe_safeLatch {c : Nat} (bit : Nat) (h : c < 8) : (s.safeLatch c bit).carSafe c = true := by
  have hcar := ((s.chan 0).car_dropped h)
  rw [← s.chan_safeLatch c bit (by omega)] at hcar
  exact State.carSafe_of_no_grant (by rw [hcar]) (by rw [hcar]) (by rw [hcar])

end

end Sys2Proof.Machine
end

section
/-! What the field die's outputs and DALI lines change as they follow points and the state of their link (R13, R227, R232, R235, R238). -/

namespace Sys2Proof.Machine

/-! ### Folds over registers -/

section
variable {α : Type} {f : State → α → State}

theorem State.rd_foldl {a : Nat} : ∀ (l : List α) (s : State), (∀ (s : State), ∀ x ∈ l, (f s x).rd a = s.rd a) → (l.foldl f s).rd a = s.rd a
  | [], _, _ => rfl
  | x :: l, s, h => (State.rd_foldl l (f s x) (fun s y hy => h s y (List.mem_cons_of_mem x hy))).trans (h s x List.mem_cons_self)

/-- A fold whose steps each rewrite a register of their own by one rule. -/
theorem State.rd_foldl_own {addr : α → Nat} {u : Word → Word} (hsame : ∀ s x, (f s x).rd (addr x) = u (s.rd (addr x)))
    (hne : ∀ s x a, a ≠ addr x → (f s x).rd a = s.rd a) {x : α} : ∀ (l : List α) (s : State), (l.map addr).Nodup → x ∈ l →
    (l.foldl f s).rd (addr x) = u (s.rd (addr x))
  | [], _, _, h => absurd h List.not_mem_nil
  | y :: l, s, hl, h => by
    obtain ⟨hy, hl⟩ := List.nodup_cons.1 hl
    rcases List.mem_cons.1 h with rfl | h
    · rw [List.foldl_cons, State.rd_foldl l _ fun s z hz => hne s z _ fun e => hy (List.mem_map.2 ⟨z, hz, e.symm⟩), hsame]
    · rw [List.foldl_cons, State.rd_foldl_own hsame hne l _ hl h, hne _ _ _ fun e => hy (List.mem_map.2 ⟨x, h, e⟩)]

end

/-! ### Outputs and lines -/

/-- Outputs and lines of the field die driven anew: registers and line data alone change, no register below the outputs' own, and while the link
is down a DO that is off stays off. -/
structure State.Driven (s t : State) : Prop where
  frame : ∃ r l, t = { s with regs := r, field := { s.field with lines := l } }
  low : s.KeptBelow (Reg.FIELD_DO_SRC 0) t
  off : s.bit Reg.FIELD_STAT 8 = false → ∀ d < 64, s.bit (Reg.FIELD_DO_STAT d) 0 = false → t.bit (Reg.FIELD_DO_STAT d) 0 = false

theorem State.KeptBelow.fieldLink {s t : State} (h : s.KeptBelow (Reg.FIELD_DO_SRC 0) t) : t.bit Reg.FIELD_STAT 8 = s.bit Reg.FIELD_STAT 8 :=
  State.bit_of_rd (h _ (by decide)) 8

theorem State.Driven.refl (s : State) : s.Driven s := ⟨⟨_, _, rfl⟩, .refl _ s, fun _ _ _ h => h⟩

theorem State.Driven.trans {s t u : State} (h : s.Driven t) (k : t.Driven u) : s.Driven u := by
  obtain ⟨⟨r, l, ht⟩, hlow, hoff⟩ := h
  obtain ⟨⟨r', l', hu⟩, klow, koff⟩ := k
  exact ⟨⟨r', l', by rw [hu, ht]⟩, hlow.trans klow, fun hdown d hd h => koff (hlow.fieldLink.trans hdown) d hd (hoff hdown d hd h)⟩

theorem State.Driven.ite {s t u : State} (p : Prop) [Decidable p] (h : s.Driven t) (k : s.Driven u) : s.Driven (if p then t else u) := by
  split
  · exact h
  · exact k

theorem State.Driven.foldl {α : Type} (f : State → α → State) (h : ∀ (s : State) (a : α), s.Driven (f s a)) :
    ∀ (l : List α) (s : State), s.Driven (l.foldl f s)
  | [], s => .refl s
  | a :: l, s => (h s a).trans (State.Driven.foldl f h l (f s a))

theorem State.Driven.of_regs {s t : State} (h : t.regs = s.regs) (hf : ∃ l, t = { s with field := { s.field with lines := l } }) : s.Driven t := by
  obtain ⟨l, hl⟩ := hf
  refine ⟨⟨s.regs, l, hl⟩, .of_regs h, fun _ d _ hd => ?_⟩
  rw [← hd]
  simp only [State.bit, State.rd, h]

theorem State.wr_driven (s : State) {a : Nat} (v : Word) (h : Reg.FIELD_AO_STAT 0 ≤ a) : s.Driven (s.wr a v) := by
  have hdo : Reg.FIELD_DO_SRC 0 ≤ a := le_trans (by decide) h
  refine ⟨⟨_, _, rfl⟩, s.wr_keptBelow v hdo, fun _ d hd hoff => ?_⟩
  rwa [State.bit_of_rd (s.rd_wr_ne v (by simp only [Reg.FIELD_AO_STAT, Reg.FIELD_DO_STAT] at h ⊢; omega)) 0]

theorem State.bit_setBit_doStat (s : State) (d e : Nat) (b : Bool) : (s.setBit (Reg.FIELD_DO_STAT d) 0 b).bit (Reg.FIELD_DO_STAT e) 0 =
    if e = d then b else s.bit (Reg.FIELD_DO_STAT e) 0 := by
  by_cases h : e = d
  · rw [h, if_pos rfl, State.bit_setBit_same _ _ _ _ (by omega)]
  · rw [if_neg h]
    exact State.bit_of_rd (s.rd_setBit_ne _ _ (by simp only [Reg.FIELD_DO_STAT]; omega)) 0

theorem State.doUpdate_of_down {s : State} (h : s.bit Reg.FIELD_STAT 8 = false) (d : Nat) :
    s.doUpdate d = s.setBit (Reg.FIELD_DO_STAT d) 0 false := by
  simp [State.doUpdate, State.fieldOut, h]

theorem State.doUpdate_driven (s : State) (d : Nat) : s.Driven (s.doUpdate d) := by
  have hlow : ∀ b, s.KeptBelow (Reg.FIELD_DO_SRC 0) (s.setBit (Reg.FIELD_DO_STAT d) 0 b) :=
    fun b => s.wr_keptBelow _ (by simp only [Reg.FIELD_DO_SRC, Reg.FIELD_DO_STAT]; omega)
  cases h : s.bit Reg.FIELD_STAT 8 with
  | false =>
    rw [State.doUpdate_of_down h]
    exact ⟨⟨_, _, rfl⟩, hlow false, fun _ e _ hoff => by rw [State.bit_setBit_doStat, hoff, ite_self]⟩
  | true =>
    have hset : ∀ b, s.Driven (s.setBit (Reg.FIELD_DO_STAT d) 0 b) :=
      fun b => ⟨⟨_, _, rfl⟩, hlow b, fun hdown => absurd (h.symm.trans hdown) (by decide)⟩
    unfold State.doUpdate
    refine .ite _ (hset _) (.ite _ (.refl s) (.ite _ (hset _) (.ite _ ?_ (hset _))))
    split
    · exact hset _
    · exact .refl s
    · exact hset _

theorem State.aoUpdate_driven (s : State) (a : Nat) : s.Driven (s.aoUpdate a) := by
  have hset : ∀ v b, s.Driven ((s.setFld (Reg.FIELD_AO_STAT a) 15 0 v).setBit (Reg.FIELD_AO_STAT a) 18 b) :=
    fun v b => (s.wr_driven _ (by simp only [Reg.FIELD_AO_STAT]; omega)).trans (State.wr_driven _ _ (by simp only [Reg.FIELD_AO_STAT]; omega))
  unfold State.aoUpdate
  exact .ite _ (hset _ _) (.ite _ (.refl s) (.ite _ (hset _ _) (.ite _ (.ite _ (.refl s) (hset _ _)) (hset _ _))))

theorem State.setDaliLine_driven (s : State) (l : Nat) (x : DaliLine) : s.Driven (s.setDaliLine l x) := .of_regs rfl ⟨_, rfl⟩

theorem State.daliFollow_driven (s : State) (e : Nat) : s.Driven (s.daliFollow e) := by
  have hcount : ∀ b : Bool, s.Driven (if b then s.incSat Reg.DALI_OUT_MERGED 31 0 else s) := fun b => .ite _ (s.wr_driven _ (by decide)) (.refl s)
  unfold State.daliFollow
  simp only []
  split
  · exact .ite _ ((hcount _).trans (State.setDaliLine_driven _ _ _)) (hcount _)
  · exact .ite _ ((hcount _).trans (State.setDaliLine_driven _ _ _)) (hcount _)

theorem State.follow_driven (s : State) (i : PointIdx) : s.Driven (s.follow i) :=
  ((State.Driven.foldl _ State.doUpdate_driven _ _).trans (State.Driven.foldl _ State.aoUpdate_driven _ _)).trans
    (State.Driven.foldl _ State.daliFollow_driven _ _)

theorem State.outputsUpdate_driven (s : State) : s.Driven s.outputsUpdate :=
  (State.Driven.foldl _ State.doUpdate_driven _ _).trans (State.Driven.foldl _ State.aoUpdate_driven _ _)

theorem State.daliRefreshLine_driven (s : State) (l : Nat) : s.Driven (s.daliRefreshLine l) := by
  refine State.Driven.foldl _ (fun s e => ?_) _ s
  split
  · exact s.setDaliLine_driven _ _
  · exact .refl s

theorem State.daliSettle_driven (s : State) (l : Nat) : s.Driven (s.daliSettle l) := by
  have hset : ∀ (t : State) (v : Nat), t.Driven (t.setFld (Reg.DALI_LINE_STAT l) 1 0 v) :=
    fun t v => t.wr_driven _ (by simp only [Reg.FIELD_AO_STAT, Reg.DALI_LINE_STAT]; omega)
  unfold State.daliSettle
  exact .ite _ ((s.setDaliLine_driven _ _).trans (hset _ _)) (.ite _ ((s.setDaliLine_driven _ _).trans (hset _ _))
    (.ite _ (.refl s) (.ite _ ((hset _ _).trans (State.daliRefreshLine_driven _ _)) (hset _ _))))

theorem State.daliSettleAll_driven (s : State) : s.Driven s.daliSettleAll := State.Driven.foldl _ State.daliSettle_driven _ s

/-- With the link down every DO goes off (R13). -/
theorem State.bit_outputsUpdate_of_down {s : State} (h : s.bit Reg.FIELD_STAT 8 = false) {d : Nat} (hd : d < 64) :
    s.outputsUpdate.bit (Reg.FIELD_DO_STAT d) 0 = false := by
  have hoff : ∀ (l : List Nat) (s : State), s.bit Reg.FIELD_STAT 8 = false → d ∈ l → (l.foldl State.doUpdate s).bit (Reg.FIELD_DO_STAT d) 0 = false := by
    intro l
    induction l with
    | nil => exact fun _ _ hmem => absurd hmem List.not_mem_nil
    | cons e l ih =>
      intro s h hmem
      have hdown : (s.doUpdate e).bit Reg.FIELD_STAT 8 = false := (s.doUpdate_keptBelow e).fieldLink.trans h
      rcases List.mem_cons.1 hmem with rfl | hmem
      · refine (State.Driven.foldl _ State.doUpdate_driven l _).off hdown d hd ?_
        rw [State.doUpdate_of_down h, State.bit_setBit_doStat, if_pos rfl]
      · exact ih _ hdown hmem
  have hdown := (State.Driven.foldl _ State.doUpdate_driven (List.range 64) s).low.fieldLink.trans h
  exact (State.Driven.foldl _ State.aoUpdate_driven (List.range 16) _).off hdown d hd (hoff _ s h (List.mem_range.2 hd))

/-! ### Points marked and committed -/

theorem State.off_setQual {s : State} (i : PointIdx) (b : Nat) (v : Bool) (h : s.bit Reg.FIELD_STAT 8 = false) {d : Nat} (hd : d < 64)
    (hoff : s.bit (Reg.FIELD_DO_STAT d) 0 = false) : (s.setQual i b v).bit (Reg.FIELD_DO_STAT d) 0 = false :=
  (State.follow_driven (s.setPoint i ((s.point i).setWord 2 (setBitOf ((s.point i).word 2) b v)).settleLevel) i).off h d hd hoff

theorem State.setQual_field (s : State) (i : PointIdx) (b : Nat) (v : Bool) : ∃ r l, s.setQual i b v =
    { s.setPoint i ((s.point i).setWord 2 (setBitOf ((s.point i).word 2) b v)).settleLevel with regs := r, field := { s.field with lines := l } } :=
  (State.follow_driven _ i).frame

end Sys2Proof.Machine
end

section
/-! The control-to-field link lost and returned (R13, R152, R166, R225, R227). -/

namespace Sys2Proof.Machine

/-! ### Cars and operators at a loss -/

/-- LIFT_CAR_STAT of a car at the loss of the field link: KNOWN becomes UNCERTAIN with CAUSE 4 (R166). -/
def carWordLost (w : Word) : Word := if bits w 1 0 = 1 then putBits (putBits w 1 0 2) 19 16 4 else w

/-- LOOP_STG_MODE of an operator at a fault: every mode but DISABLED becomes FAULT (R152). -/
def opWordFault (w : Word) : Word := if bits w 6 4 = 0 then w else putBits w 6 4 5

theorem bits_carWordLost (w : Word) : bits (carWordLost w) 1 0 = if bits w 1 0 = 1 then 2 else bits w 1 0 := by
  unfold carWordLost
  split
  · rw [bits_putBits_apart _ _ _ _ _ _ (by omega) (by omega) (by omega), bits_putBits _ _ _ _ (by omega) (by omega)]
    rfl
  · rfl

theorem bits_carWordLost_cause {w : Word} (h : bits w 1 0 = 1) : bits (carWordLost w) 19 16 = 4 := by
  rw [carWordLost, if_pos h, bits_putBits _ _ _ _ (by omega) (by omega)]
  rfl

theorem bits_opWordFault (w : Word) : bits (opWordFault w) 6 4 = if bits w 6 4 = 0 then 0 else 5 := by
  unfold opWordFault
  split
  case isTrue h => exact h
  case isFalse =>
    rw [bits_putBits _ _ _ _ (by omega) (by omega)]
    rfl

theorem State.rd_setOpMode (s : State) (d m a : Nat) : (s.setOpMode d m).rd a = (s.setFld (Reg.LOOP_STG_MODE (3 * d)) 6 4 m).rd a := by
  unfold State.setOpMode
  simp only []
  split <;> rfl

theorem State.rd_opFault_same (s : State) (d : Nat) : (s.opFault d).rd (Reg.LOOP_STG_MODE (3 * d)) = opWordFault (s.rd (Reg.LOOP_STG_MODE (3 * d))) := by
  by_cases h : s.opMode d = 0
  · have hw : bits (s.rd (Reg.LOOP_STG_MODE (3 * d))) 6 4 = 0 := h
    rw [opWordFault, if_pos hw, State.opFault, if_pos h]
  · have hw : ¬bits (s.rd (Reg.LOOP_STG_MODE (3 * d))) 6 4 = 0 := h
    rw [opWordFault, if_neg hw, State.opFault, if_neg h, State.rd_setOpMode, State.setFld, State.rd_wr_same]

theorem State.rd_opFault_ne (s : State) (d a : Nat) (h : a ≠ Reg.LOOP_STG_MODE (3 * d)) : (s.opFault d).rd a = s.rd a := by
  unfold State.opFault
  split
  · rfl
  · rw [State.rd_setOpMode, State.rd_setFld_ne _ _ _ _ h]

theorem State.opMode_of_rd {s : State} {d : Nat} {w : Word} (h : s.rd (Reg.LOOP_STG_MODE (3 * d)) = opWordFault w) :
    s.opMode d = if bits w 6 4 = 0 then 0 else 5 := by
  rw [State.opMode, State.fld, h, bits_opWordFault]

/-- One car's step of the loss (R166). -/
def State.carLost (s : State) (c : Nat) : State := if s.carState c = 1 then s.setCarState c 2 4 else s

theorem State.carLinkLost_eq (s : State) : s.carLinkLost = (List.range 8).foldl State.carLost s := rfl

theorem State.rd_carLost_same (s : State) (c : Nat) : (s.carLost c).rd (Reg.LIFT_CAR_STAT c) = carWordLost (s.rd (Reg.LIFT_CAR_STAT c)) := by
  by_cases h : s.carState c = 1
  · have hw : bits (s.rd (Reg.LIFT_CAR_STAT c)) 1 0 = 1 := h
    rw [carWordLost, if_pos hw, State.carLost, if_pos h]
    simp only [State.setCarState, State.setFld, State.rd_wr_same]
  · have hw : ¬bits (s.rd (Reg.LIFT_CAR_STAT c)) 1 0 = 1 := h
    rw [carWordLost, if_neg hw, State.carLost, if_neg h]

theorem State.rd_carLost_ne (s : State) (c a : Nat) (h : a ≠ Reg.LIFT_CAR_STAT c) : (s.carLost c).rd a = s.rd a := by
  unfold State.carLost State.setCarState
  split
  · rw [State.rd_setFld_ne _ _ _ _ h, State.rd_setFld_ne _ _ _ _ h]
  · rfl

theorem State.rd_carLinkLost_ne (s : State) {a : Nat} (h : ∀ c < 8, a ≠ Reg.LIFT_CAR_STAT c) : s.carLinkLost.rd a = s.rd a :=
  State.rd_foldl _ s fun s c hc => s.rd_carLost_ne c a (h c (List.mem_range.1 hc))

theorem State.rd_carLinkLost_same (s : State) {c : Nat} (h : c < 8) :
    s.carLinkLost.rd (Reg.LIFT_CAR_STAT c) = carWordLost (s.rd (Reg.LIFT_CAR_STAT c)) :=
  State.rd_foldl_own State.rd_carLost_same State.rd_carLost_ne _ s (by decide) (List.mem_range.2 h)

/-- Every operator faulted. -/
def State.opsFault (s : State) : State := (List.range 16).foldl (fun s d => s.opFault d) s

theorem State.rd_opsFault_ne (s : State) {a : Nat} (h : ∀ d < 16, a ≠ Reg.LOOP_STG_MODE (3 * d)) : s.opsFault.rd a = s.rd a :=
  State.rd_foldl _ s fun s d hd => s.rd_opFault_ne d a (h d (List.mem_range.1 hd))

theorem State.rd_opsFault_same (s : State) {d : Nat} (h : d < 16) :
    s.opsFault.rd (Reg.LOOP_STG_MODE (3 * d)) = opWordFault (s.rd (Reg.LOOP_STG_MODE (3 * d))) :=
  State.rd_foldl_own State.rd_opFault_same State.rd_opFault_ne _ s (by decide) (List.mem_range.2 h)

/-! ### The points of the field inputs -/

theorem Tab.mem_of_get_ne {α : Type} (d : Nat → α) {k : Nat} : ∀ m : Tab α, Tab.get d m k ≠ d k → (k, Tab.get d m k) ∈ m
  | [], h => absurd rfl h
  | (j, v) :: m, h => by
    by_cases hj : j = k
    · subst hj
      simp [Tab.get]
    · simp only [Tab.get, hj, if_false] at h ⊢
      exact List.mem_cons_of_mem _ (Tab.mem_of_get_ne d m h)

theorem bitOf_regDefault_diCfg : ∀ d : Fin 96, bitOf (regDefault (Reg.FIELD_DI_CFG d.val)) 14 = false := by decide +kernel

/-- The input points the registers of the field die bind (R221). -/
def State.fieldInputs (s : State) : List PointIdx :=
  s.regs.flatMap (fun r => if r.1 / 65536 = 0xB then ((bindingsOf r.1 r.2).getD []).filterMap (fun b => if b.producer.isSome then some b.idx else none) else [])

theorem bindingsOf_diCfg {d : Nat} (hd : d < 96) {v : Word} (hv : bitOf v 14 = true) :
    bindingsOf (Reg.FIELD_DI_CFG d) v = some [⟨BitVec.ofNat 14 (bits v 13 0), some 3, [0, 2]⟩] := by
  have hidx : (regIndex (Reg.FIELD_DI_CFG d) (Reg.FIELD_DI_CFG 0) 96 16).isSome = true := by
    rw [regIndex, if_pos (by simp only [Reg.FIELD_DI_CFG]; omega)]
    rfl
  simp only [bindingsOf, hidx, hv, if_true, Nat.zero_add]

theorem State.mem_fieldInputs {s : State} {d : Nat} (hd : d < 96) (h : s.bit (Reg.FIELD_DI_CFG d) 14 = true) :
    BitVec.ofNat 14 (s.fld (Reg.FIELD_DI_CFG d) 13 0) ∈ s.fieldInputs := by
  have hset : s.rd (Reg.FIELD_DI_CFG d) ≠ regDefault (Reg.FIELD_DI_CFG d) := by
    intro e
    rw [State.bit, e] at h
    exact absurd (h.symm.trans (bitOf_regDefault_diCfg ⟨d, hd⟩)) (by decide)
  refine List.mem_flatMap.2 ⟨(Reg.FIELD_DI_CFG d, s.rd (Reg.FIELD_DI_CFG d)), Tab.mem_of_get_ne regDefault s.regs hset, ?_⟩
  simp only []
  have hdie : Reg.FIELD_DI_CFG d / 65536 = 0xB := by simp only [Reg.FIELD_DI_CFG]; omega
  rw [if_pos hdie, bindingsOf_diCfg hd h]
  exact List.mem_singleton.2 rfl

/-! ### The loss -/

/-- The module after a loss of the field link, before its points are marked. -/
def State.fieldDown (s : State) : State := (((s.setBit Reg.FIELD_STAT 8 false).outputsUpdate).daliSettleAll).carLinkLost.opsFault

/-- The points of the field inputs marked LINK_LOST. -/
def State.fieldMarked (s : State) : State := s.fieldDown.fieldInputs.foldl (fun s i => s.setQual i 9 true) s.fieldDown

theorem State.fieldLinkLost_eq (s : State) : s.fieldLinkLost =
    if !s.fieldLink || s.inRecess then s else s.fieldMarked.record { sev := 6, level := 6, source := 0x0B, code := 13 } := rfl

/-- The outputs and lines as a loss leaves them. -/
def State.fieldReleased (s : State) : State := ((s.setBit Reg.FIELD_STAT 8 false).outputsUpdate).daliSettleAll

theorem State.rd_fieldReleased (s : State) {a : Nat} (h : a < Reg.FIELD_DO_SRC 0) (hne : a ≠ Reg.FIELD_STAT) : s.fieldReleased.rd a = s.rd a :=
  ((((State.outputsUpdate_driven _).trans (State.daliSettleAll_driven _)).low a h).trans (s.rd_setBit_ne 8 false hne))

theorem State.fieldReleased_down (s : State) : s.fieldReleased.bit Reg.FIELD_STAT 8 = false :=
  ((State.outputsUpdate_driven _).trans (State.daliSettleAll_driven _)).low.fieldLink.trans (State.bit_setBit_same _ _ _ _ (by omega))

theorem State.fieldReleased_off (s : State) {d : Nat} (hd : d < 64) : s.fieldReleased.bit (Reg.FIELD_DO_STAT d) 0 = false :=
  have hdown : (s.setBit Reg.FIELD_STAT 8 false).bit Reg.FIELD_STAT 8 = false := State.bit_setBit_same _ _ _ _ (by omega)
  (State.daliSettleAll_driven _).off ((State.outputsUpdate_driven _).low.fieldLink.trans hdown) d hd (State.bit_outputsUpdate_of_down hdown hd)

theorem State.rd_fieldDown_high (s : State) {a : Nat} (h : Reg.FIELD_STAT ≤ a) : s.fieldDown.rd a = s.fieldReleased.rd a := by
  have hcar : ∀ c < 8, a ≠ Reg.LIFT_CAR_STAT c := fun c hc => by simp only [Reg.FIELD_STAT, Reg.LIFT_CAR_STAT] at h ⊢; omega
  have hop : ∀ d < 16, a ≠ Reg.LOOP_STG_MODE (3 * d) := fun d hd => by simp only [Reg.FIELD_STAT, Reg.LOOP_STG_MODE] at h ⊢; omega
  exact (State.rd_opsFault_ne _ hop).trans (State.rd_carLinkLost_ne _ hcar)

theorem State.rd_fieldDown_car (s : State) {c : Nat} (hc : c < 8) :
    s.fieldDown.rd (Reg.LIFT_CAR_STAT c) = carWordLost (s.rd (Reg.LIFT_CAR_STAT c)) := by
  have hop : ∀ d < 16, Reg.LIFT_CAR_STAT c ≠ Reg.LOOP_STG_MODE (3 * d) := fun d hd => by simp only [Reg.LIFT_CAR_STAT, Reg.LOOP_STG_MODE]; omega
  calc s.fieldDown.rd (Reg.LIFT_CAR_STAT c)
      = s.fieldReleased.carLinkLost.rd (Reg.LIFT_CAR_STAT c) := State.rd_opsFault_ne _ hop
    _ = carWordLost (s.fieldReleased.rd (Reg.LIFT_CAR_STAT c)) := State.rd_carLinkLost_same _ hc
    _ = carWordLost (s.rd (Reg.LIFT_CAR_STAT c)) := by
      rw [s.rd_fieldReleased (by simp only [Reg.LIFT_CAR_STAT, Reg.FIELD_DO_SRC]; omega) (by simp only [Reg.LIFT_CAR_STAT, Reg.FIELD_STAT]; omega)]

theorem State.rd_fieldDown_op (s : State) {d : Nat} (hd : d < 16) :
    s.fieldDown.rd (Reg.LOOP_STG_MODE (3 * d)) = opWordFault (s.rd (Reg.LOOP_STG_MODE (3 * d))) := by
  have hcar : ∀ c < 8, Reg.LOOP_STG_MODE (3 * d) ≠ Reg.LIFT_CAR_STAT c := fun c hc => by simp only [Reg.LIFT_CAR_STAT, Reg.LOOP_STG_MODE]; omega
  calc s.fieldDown.rd (Reg.LOOP_STG_MODE (3 * d))
      = opWordFault (s.fieldReleased.carLinkLost.rd (Reg.LOOP_STG_MODE (3 * d))) := State.rd_opsFault_same _ hd
    _ = opWordFault (s.fieldReleased.rd (Reg.LOOP_STG_MODE (3 * d))) := by rw [State.rd_carLinkLost_ne _ hcar]
    _ = opWordFault (s.rd (Reg.LOOP_STG_MODE (3 * d))) := by
      rw [s.rd_fieldReleased (by simp only [Reg.LOOP_STG_MODE, Reg.FIELD_DO_SRC]; omega) (by simp only [Reg.LOOP_STG_MODE, Reg.FIELD_STAT]; omega)]

/-- Marking points drives outputs: no register below theirs changes, and with the link down a DO that is off stays off. -/
theorem State.markPoints_low (b : Nat) (v : Bool) (l : List PointIdx) (s : State) :
    s.KeptBelow (Reg.FIELD_DO_SRC 0) (l.foldl (fun s i => s.setQual i b v) s) :=
  State.KeptBelow.foldl _ (fun s i => s.setQual_keptBelow i b v) l s

theorem State.off_markPoints (b : Nat) (v : Bool) {d : Nat} (hd : d < 64) : ∀ (l : List PointIdx) (s : State), s.bit Reg.FIELD_STAT 8 = false →
    s.bit (Reg.FIELD_DO_STAT d) 0 = false → (l.foldl (fun s i => s.setQual i b v) s).bit (Reg.FIELD_DO_STAT d) 0 = false
  | [], _, _, hoff => hoff
  | i :: l, s, hdown, hoff =>
    State.off_markPoints b v hd l (s.setQual i b v) ((s.setQual_keptBelow i b v).fieldLink.trans hdown) (State.off_setQual i b v hdown hd hoff)

section
variable (s : State)

theorem State.fieldMarked_low {a : Nat} (h : a < Reg.FIELD_DO_SRC 0) : s.fieldMarked.rd a = s.fieldDown.rd a := State.markPoints_low _ _ _ _ a h

theorem State.fieldDown_down : s.fieldDown.bit Reg.FIELD_STAT 8 = false :=
  (State.bit_of_rd (s.rd_fieldDown_high le_rfl) 8).trans s.fieldReleased_down

theorem State.fieldMarked_down : s.fieldMarked.bit Reg.FIELD_STAT 8 = false :=
  (State.bit_of_rd (s.fieldMarked_low (by decide)) 8).trans s.fieldDown_down

theorem State.fieldMarked_off {d : Nat} (hd : d < 64) : s.fieldMarked.bit (Reg.FIELD_DO_STAT d) 0 = false := by
  refine State.off_markPoints _ _ hd _ _ s.fieldDown_down ?_
  rw [State.bit_of_rd (s.rd_fieldDown_high (by simp only [Reg.FIELD_STAT, Reg.FIELD_DO_STAT]; omega)), s.fieldReleased_off hd]

theorem State.rd_fieldMarked_car {c : Nat} (hc : c < 8) : s.fieldMarked.rd (Reg.LIFT_CAR_STAT c) = carWordLost (s.rd (Reg.LIFT_CAR_STAT c)) :=
  (s.fieldMarked_low (by simp only [Reg.LIFT_CAR_STAT, Reg.FIELD_DO_SRC]; omega)).trans (s.rd_fieldDown_car hc)

theorem State.opMode_fieldMarked {d : Nat} (hd : d < 16) : s.fieldMarked.opMode d = if s.opMode d = 0 then 0 else 5 :=
  State.opMode_of_rd ((s.fieldMarked_low (by simp only [Reg.LOOP_STG_MODE, Reg.FIELD_DO_SRC]; omega)).trans (s.rd_fieldDown_op hd))

theorem State.fieldMarked_lost {d : Nat} (hd : d < 96) (h : s.bit (Reg.FIELD_DI_CFG d) 14 = true) :
    bitOf ((s.fieldMarked.point (BitVec.ofNat 14 (s.fld (Reg.FIELD_DI_CFG d) 13 0))).word 2) 9 = true := by
  have hcfg : s.fieldDown.rd (Reg.FIELD_DI_CFG d) = s.rd (Reg.FIELD_DI_CFG d) :=
    (s.rd_fieldDown_high (by simp only [Reg.FIELD_STAT, Reg.FIELD_DI_CFG]; omega)).trans
      (s.rd_fieldReleased (by simp only [Reg.FIELD_DO_SRC, Reg.FIELD_DI_CFG]; omega) (by simp only [Reg.FIELD_STAT, Reg.FIELD_DI_CFG]; omega))
  have hmem := State.mem_fieldInputs hd ((State.bit_of_rd hcfg 14).trans h)
  rw [State.fld_of_rd hcfg] at hmem
  exact State.word_markPoints_mem true (by omega) (by omega) _ _ _ hmem

end

/-! ### The return -/

/-- DI changes pending, the time and the link bit as they are. -/
def State.DiKept (s t : State) : Prop := t.field.diPend = s.field.diPend ∧ t.cnt = s.cnt ∧ t.bit Reg.FIELD_STAT 8 = s.bit Reg.FIELD_STAT 8

theorem State.Driven.diKept {s t : State} (h : s.Driven t) : s.DiKept t := by
  have hlink := h.low.fieldLink
  obtain ⟨r, l, ht⟩ := h.frame
  exact ⟨by rw [ht], by rw [ht], hlink⟩

theorem State.DiKept.trans {s t u : State} (h : s.DiKept t) (k : t.DiKept u) : s.DiKept u := by
  obtain ⟨hpend, hcnt, hlink⟩ := h
  obtain ⟨kpend, kcnt, klink⟩ := k
  exact ⟨kpend.trans hpend, kcnt.trans hcnt, klink.trans hlink⟩

theorem State.setPoint_diKept (s : State) (i : PointIdx) (p : Point) : s.DiKept (s.setPoint i p) := ⟨rfl, rfl, rfl⟩

theorem State.retainPoint_diKept (s : State) (i : PointIdx) : s.DiKept (s.retainPoint i) := by
  obtain ⟨l, h⟩ := s.retainPoint_frame i
  rw [h]
  exact ⟨rfl, rfl, rfl⟩

theorem State.commitPoint_diKept (s : State) (i : PointIdx) (c : CommitSet) : s.DiKept (s.commitPoint i c) :=
  ((s.setPoint_diKept i _).trans (State.retainPoint_diKept _ i)).trans (State.follow_driven _ i).diKept

/-- A DI's change taken off the pending ones. -/
def State.diTaken (s : State) (d : Nat) : State := { s with field := { s.field with diPend := Tab.set (fun _ => none) s.field.diPend d none } }

theorem State.diCommit_some {s : State} {d t : Nat} (h : Tab.get (fun _ => none) s.field.diPend d = some t) : (s.diTaken d).DiKept (s.diCommit d) := by
  unfold State.diCommit
  rw [h]
  simp only []
  split
  · exact State.commitPoint_diKept _ _ _
  · exact ⟨rfl, rfl, rfl⟩

theorem State.diCommit_kept (s : State) (d : Nat) : (s.diCommit d).cnt = s.cnt ∧ (s.diCommit d).bit Reg.FIELD_STAT 8 = s.bit Reg.FIELD_STAT 8 ∧
    ∀ e, Tab.get (fun _ => none) (s.diCommit d).field.diPend e = if e = d then none else Tab.get (fun _ => none) s.field.diPend e := by
  cases h : Tab.get (fun _ => none) s.field.diPend d with
  | none =>
    have hs : s.diCommit d = s := by rw [State.diCommit, h]
    rw [hs]
    refine ⟨rfl, rfl, fun e => ?_⟩
    split
    case isTrue he => rw [he, h]
    case isFalse => rfl
  | some t =>
    obtain ⟨hpend, hcnt, hlink⟩ := State.diCommit_some h
    exact ⟨hcnt, hlink, fun e => by rw [hpend, State.diTaken, Tab.get_set]⟩

theorem State.diCommits_kept : ∀ (l : List Nat) (s : State), (l.foldl State.diCommit s).cnt = s.cnt ∧
    (l.foldl State.diCommit s).bit Reg.FIELD_STAT 8 = s.bit Reg.FIELD_STAT 8 ∧
    ∀ e, Tab.get (fun _ => none) (l.foldl State.diCommit s).field.diPend e = if e ∈ l then none else Tab.get (fun _ => none) s.field.diPend e
  | [], s => ⟨rfl, rfl, fun e => by simp⟩
  | d :: l, s => by
    obtain ⟨hcnt, hlink, hpend⟩ := s.diCommit_kept d
    obtain ⟨kcnt, klink, kpend⟩ := State.diCommits_kept l (s.diCommit d)
    refine ⟨kcnt.trans hcnt, klink.trans hlink, fun e => ?_⟩
    rw [List.foldl_cons, kpend, hpend]
    by_cases he : e = d <;> simp [he]

theorem Tab.get_of_not_key {α : Type} (d : Nat → α) {k : Nat} : ∀ m : Tab α, k ∉ m.map (·.1) → Tab.get d m k = d k
  | [], _ => rfl
  | (j, v) :: m, h => by
    obtain ⟨hj, hm⟩ := not_or.1 (mt List.mem_cons.2 h)
    rw [Tab.get, if_neg (Ne.symm hj), Tab.get_of_not_key d m hm]

/-- Every pending change committed: none is left (R225). -/
theorem State.diPend_diCommitAll (s : State) (d : Nat) : Tab.get (fun _ => none) s.diCommitAll.field.diPend d = none := by
  rw [State.diCommitAll, (State.diCommits_kept _ s).2.2]
  split
  · rfl
  case isFalse h => exact Tab.get_of_not_key _ _ h

/-- The outputs and lines driven again at a return. -/
def State.fieldUpAgain (s : State) : State := ((s.setBit Reg.FIELD_STAT 8 true).outputsUpdate).daliSettleAll

theorem State.fieldLinkBack_eq (s : State) : s.fieldLinkBack = if s.fieldLink ∨ s.phase = 0 then s else s.fieldUpAgain.diCommitAll := rfl

theorem State.fieldUpAgain_kept (s : State) : (s.setBit Reg.FIELD_STAT 8 true).DiKept s.fieldUpAgain :=
  ((State.outputsUpdate_driven _).trans (State.daliSettleAll_driven _)).diKept

theorem State.fieldBack_kept (s : State) : s.fieldUpAgain.diCommitAll.bit Reg.FIELD_STAT 8 = true ∧ s.fieldUpAgain.diCommitAll.now = s.now := by
  obtain ⟨-, hcnt, hlink⟩ := s.fieldUpAgain_kept
  obtain ⟨kcnt, klink, -⟩ := State.diCommits_kept (s.fieldUpAgain.field.diPend.map (·.1)) s.fieldUpAgain
  exact ⟨klink.trans (hlink.trans (State.bit_setBit_same _ _ _ _ (by omega))), congrArg BitVec.toNat (kcnt.trans hcnt)⟩

end Sys2Proof.Machine
end

section
/-! The links between the dies (R13, R17, R152, R227, R229; O52). -/

namespace Sys2Proof.Machine

/-! ### PWM gates -/

/-- A gate that is lost, as the commands' record holds it. -/
def State.gateIsLost (s : State) (k : Nat) : Bool := Tab.get (fun _ => false) s.field.pwmLost k

/-- A gate's record of its updates set. -/
def State.setGate (s : State) (g : Nat) (lost : Bool) : State :=
  { s with field := { s.field with pwmLost := Tab.set (fun _ => false) s.field.pwmLost g lost } }

theorem State.gateIsLost_setGate (s : State) (g k : Nat) (b : Bool) : (s.setGate g b).gateIsLost k = if k = g then b else s.gateIsLost k :=
  Tab.get_set _ _ _ _ _

theorem State.gateLost_eq (s : State) (g : Nat) : s.gateLost g = if s.gateIsLost g || !s.bit Reg.FIELD_STAT 8 || s.inRecess then s
    else ((s.setGate g true).opFault (g / 6)).record { sev := 6, level := 6, source := 0x0B, code := 13, args := [wd (g + 1)] } := rfl

theorem State.opFault_field (s : State) (d : Nat) : (s.opFault d).field = s.field := by
  unfold State.opFault State.setOpMode
  simp only []
  repeat' split
  all_goals rfl

theorem State.opMode_opFault_same (s : State) (d : Nat) : (s.opFault d).opMode d = if s.opMode d = 0 then 0 else 5 :=
  State.opMode_of_rd (s.rd_opFault_same d)

theorem State.opMode_opFault_ne (s : State) {d e : Nat} (h : e ≠ d) : (s.opFault d).opMode e = s.opMode e :=
  State.fld_of_rd (s.rd_opFault_ne d _ (by simp only [Reg.LOOP_STG_MODE]; omega)) 6 4

/-! ### The metering link -/

/-- A quality bit set touches neither the metering die, nor the scan cores, nor the time. -/
theorem State.setQual_meter (s : State) (i : PointIdx) (b : Nat) (v : Bool) : (s.setQual i b v).meter = s.meter := by
  obtain ⟨r, f, h⟩ := s.setQual_frame i b v
  rw [h, State.setPoint_meter]

theorem State.meterMarks_frame : ∀ (l : List (Nat × Word)) (s : State),
    let t := l.foldl (fun s e => s.setQual (BitVec.ofNat 14 (bits e.2 13 0)) 9 true) s
    t.meter = s.meter ∧ t.scan = s.scan ∧ t.cnt = s.cnt
  | [], _ => ⟨rfl, rfl, rfl⟩
  | e :: l, s => by
    obtain ⟨hm, hs, hc⟩ := State.meterMarks_frame l (s.setQual (BitVec.ofNat 14 (bits e.2 13 0)) 9 true)
    exact ⟨hm.trans (s.setQual_meter _ _ _), hs.trans (s.setQual_scan _ _ _), hc.trans (s.setQual_cnt _ _ _)⟩

/-! ### The safety die's request links -/

/-- The link of a channel is down and its requests are withdrawn. -/
def State.requestsLost (s : State) (ch : Nat) : State := s.setChan ch { s.chan ch with link := false, reqs := Vector.replicate 8 none }

/-- LINK latched for every car (R197). -/
def State.linkLatched (s : State) : State := (List.range 8).foldl (fun s c => s.safeLatch c 5) s

theorem State.safetyLinkLost_eq (s : State) (ch : Nat) : s.safetyLinkLost ch =
    ((s.requestsLost ch).linkLatched).record { sev := 7, level := 6, source := 0x09, code := 13, args := [wd ch] } := rfl

/-- Latches taken for a list of cars: each of them has it, the others are as they were, the links and the registers too. -/
theorem State.latchCars (bit : Nat) : ∀ (l : List Nat) (s : State), (∀ c ∈ l, c < 8) → l.Nodup →
    let t := l.foldl (fun s c => s.safeLatch c bit) s
    t.regs = s.regs ∧ (∀ ch < 2, (t.chan ch).link = (s.chan ch).link) ∧ ∀ c, t.safeCar c = if c ∈ l then (s.safeCar c).latched bit else s.safeCar c
  | [], _, _, _ => ⟨rfl, fun _ _ => rfl, fun _ => by simp⟩
  | e :: l, s, hl, hd => by
    obtain ⟨he, hd⟩ := List.nodup_cons.1 hd
    obtain ⟨hregs, hlink, hcar⟩ := State.latchCars bit l (s.safeLatch e bit) (fun c hc => hl c (List.mem_cons_of_mem e hc)) hd
    refine ⟨hregs, fun ch hch => ?_, fun c => ?_⟩
    · rw [List.foldl_cons, hlink ch hch, s.chan_safeLatch e bit hch]
      rfl
    · rw [List.foldl_cons, hcar, s.safeCar_safeLatch bit (hl e List.mem_cons_self)]
      by_cases hce : c = e
      · subst hce
        simp [he]
      · simp [hce]

/-- A car without its LINK latch. -/
def SafeCar.unlinked (x : SafeCar) : SafeCar := { x with latch := x.latch &&& 0x1F }

/-- The link of a channel is up. -/
def State.requestLinkUp (s : State) (ch : Nat) : State := s.setChan ch { s.chan ch with link := true }

theorem State.safetyLinkBack_eq (s : State) (ch : Nat) : s.safetyLinkBack ch =
    if ((s.requestLinkUp ch).chan 0).link ∧ ((s.requestLinkUp ch).chan 1).link then
      (List.range 8).foldl (fun s c => s.setSafeCar c (s.safeCar c).unlinked) (s.requestLinkUp ch)
    else s.requestLinkUp ch := rfl

/-- Cars rewritten one after another, each by the same rule: each has its new record, and the channels are as they were. -/
theorem State.rewriteCars (f : SafeCar → SafeCar) : ∀ (l : List Nat) (s : State), (∀ c ∈ l, c < 8) → l.Nodup →
    let t := l.foldl (fun s c => s.setSafeCar c (f (s.safeCar c))) s
    (∃ k, t = { s with safe := { s.safe with cars := k } }) ∧ ∀ c, t.safeCar c = if c ∈ l then f (s.safeCar c) else s.safeCar c
  | [], s, _, _ => ⟨⟨s.safe.cars, rfl⟩, fun _ => by simp⟩
  | e :: l, s, hl, hd => by
    obtain ⟨he, hd⟩ := List.nodup_cons.1 hd
    obtain ⟨⟨k, hk⟩, hcar⟩ := State.rewriteCars f l (s.setSafeCar e (f (s.safeCar e))) (fun c hc => hl c (List.mem_cons_of_mem e hc)) hd
    refine ⟨⟨k, by rw [List.foldl_cons, hk]; rfl⟩, fun c => ?_⟩
    rw [List.foldl_cons, hcar, s.safeCar_setSafeCar _ (hl e List.mem_cons_self)]
    by_cases hce : c = e
    · subst hce
      simp [he]
    · simp [hce]

theorem State.link_linkUp (s : State) {ch k : Nat} (h : ch < 2) : ((s.requestLinkUp ch).chan k).link = (k == ch || (s.chan k).link) := by
  rw [State.requestLinkUp, s.chan_setChan _ h]
  by_cases hk : k = ch <;> simp [hk]

/-- Both links are up once one returns, where the other is up. -/
theorem State.links_up (s : State) (ch : Fin 2) :
    (((s.requestLinkUp ch.val).chan 0).link = true ∧ ((s.requestLinkUp ch.val).chan 1).link = true) ↔ (s.chan (1 - ch.val)).link = true := by
  rw [s.link_linkUp ch.isLt, s.link_linkUp ch.isLt]
  match ch with
  | ⟨0, _⟩ => simp
  | ⟨1, _⟩ => simp

theorem State.safetyLinkBack_result (s : State) (ch : Fin 2) : ((s.safetyLinkBack ch.val).chan ch.val).link = true ∧ ∀ c, c < 8 →
    ((s.safetyLinkBack ch.val).safeCar c).latch = if (s.chan (1 - ch.val)).link then (s.safeCar c).latch &&& 0x1F else (s.safeCar c).latch := by
  have hup : ((s.requestLinkUp ch.val).chan ch.val).link = true := by simp [s.link_linkUp ch.isLt]
  by_cases h : (s.chan (1 - ch.val)).link = true
  · rw [State.safetyLinkBack_eq, if_pos ((s.links_up ch).2 h)]
    obtain ⟨⟨k, hk⟩, hcar⟩ := State.rewriteCars SafeCar.unlinked (List.range 8) (s.requestLinkUp ch.val) (fun c hc => List.mem_range.1 hc) (by decide)
    refine ⟨by rw [hk]; exact hup, fun c hc => ?_⟩
    rw [if_pos h, hcar, if_pos (List.mem_range.2 hc)]
    rfl
  · rw [State.safetyLinkBack_eq, if_neg (mt (s.links_up ch).1 h)]
    exact ⟨hup, fun c _ => by rw [if_neg h]; rfl⟩

/-! ### The Charm link -/

/-- A host transfer that waits ended with BUSY_RF. -/
def State.transferEnded (s : State) : State := { (s.wr Reg.CHARM_XFER_STAT 2) with charm := { s.charm with waiting := none } }

theorem State.rd_transferEnded (s : State) (a : Nat) : s.transferEnded.rd a = if a = Reg.CHARM_XFER_STAT then 2 else s.rd a :=
  s.rd_wr Reg.CHARM_XFER_STAT a 2

theorem State.charmLost_waiting {s : State} (h : s.charm.waiting.isSome = true) : s.charmLink false = (s.setBit Reg.CHARM_STAT 2 false).transferEnded :=
  if_pos ⟨rfl, h⟩

theorem State.charmLost_idle {s : State} (h : s.charm.waiting = none) : s.charmLink false = s.setBit Reg.CHARM_STAT 2 false :=
  if_neg fun k => by simp [State.setBit, State.wr, h] at k

/-! ### The commands -/

theorem exec_linkLoss_field_lost {s : State} (h : s.bit Reg.FIELD_STAT 8 = true) (hr : s.inRecess = false) : exec (.linkLoss .field) s =
    .next (s.fieldMarked.record { sev := 6, level := 6, source := 0x0B, code := 13 }) := by
  simp only [exec_linkLoss, execLinkLoss, State.fieldLinkLost_eq, State.fieldLink, h, hr, Bool.not_true, Bool.or_false, Bool.false_eq_true, if_false]

theorem exec_linkReturn_field_up {s : State} (h : s.bit Reg.FIELD_STAT 8 = false) (hp : s.phase ≠ 0) : exec (.linkReturn .field) s =
    .next s.fieldUpAgain.diCommitAll := by
  simp only [exec_linkReturn, execLinkReturn, State.fieldLinkBack_eq, State.fieldLink, h, hp, Bool.false_eq_true, or_self, if_false]

/-- Settles O52: each link's errors, its loss and its return, link by link. -/
theorem linksBetweenDies : Obligations.LinksBetweenDies := by
  refine ⟨?errors, ?none, ?field, ?gates, ?dies, ?charm⟩
  case errors =>
    intro s link k hk
    refine ⟨{ s with linkErrs := Tab.set (fun _ => 0) s.linkErrs k (Tab.get (fun _ => 0) s.linkErrs k + 1) }, ?_, rfl, fun j => ?_⟩
    · rcases hk with hk | ⟨rfl, g, rfl⟩
      · simp only [List.mem_cons, Prod.mk.injEq, List.not_mem_nil, or_false] at hk
        rcases hk with ⟨rfl, rfl⟩ | ⟨rfl, rfl⟩ | ⟨rfl, rfl⟩ | ⟨rfl, rfl⟩ <;> rfl
      · rfl
    · rw [Tab.get_set]
      split
      case isTrue h => rw [h]
      case isFalse => rfl
  case none => exact fun s => ⟨rfl, fun _ => rfl, rfl, rfl, rfl, rfl⟩
  case field =>
    intro s
    refine ⟨fun h => ?_, fun h hr => ?_, fun h => ?_, fun h hp => ?_⟩
    · refine congrArg Host.Outcome.next (?_ : s.fieldLinkLost = s)
      rw [State.fieldLinkLost_eq, if_pos (by rcases h with h | h <;> simp [State.fieldLink, h])]
    · refine ⟨_, exec_linkLoss_field_lost h hr, s.fieldMarked, rfl, s.fieldMarked_down, fun c hc => ?_, fun d hd => s.opMode_fieldMarked hd,
        fun d hd => s.fieldMarked_off hd, fun d hd hb => s.fieldMarked_lost hd hb⟩
      simp only [State.carState, State.fld, s.rd_fieldMarked_car hc]
      exact ⟨bits_carWordLost _, bits_carWordLost_cause⟩
    · refine congrArg Host.Outcome.next (?_ : s.fieldLinkBack = s)
      rw [State.fieldLinkBack_eq]
      exact if_pos h
    · obtain ⟨hlink, hnow⟩ := s.fieldBack_kept
      exact ⟨_, exec_linkReturn_field_up h hp, hlink, hnow, State.diPend_diCommitAll _⟩
  case gates =>
    intro s g
    refine ⟨fun h => ?_, fun h => ?_, ?_⟩
    · refine congrArg Host.Outcome.next (?_ : s.gateLost g.val = s)
      rw [State.gateLost_eq]
      exact if_pos h
    · have hexec : exec (.linkLoss (.pwm g)) s = .next (s.gateLost g.val) := rfl
      rw [State.gateLost_eq, if_neg (by rw [Bool.not_eq_true]; exact h)] at hexec
      refine ⟨_, hexec, _, rfl, fun k => ?_, (s.setGate g.val true).opMode_opFault_same _, fun d _ hd => (s.setGate g.val true).opMode_opFault_ne hd⟩
      refine (congrArg (fun f => Tab.get (fun _ => false) f.pwmLost k) (State.opFault_field _ _)).trans ?_
      refine ((s.gateIsLost_setGate g.val k true).trans ?_)
      by_cases hk : k = g.val <;> simp [hk, State.gateIsLost]
    · refine ⟨s.setGate g.val false, rfl, rfl, fun k => ?_⟩
      refine ((s.gateIsLost_setGate g.val k false).trans ?_)
      by_cases hk : k = g.val <;> simp [hk, State.gateIsLost]
  case dies =>
    intro s
    refine ⟨fun h => ?_, fun h => ?_, fun h => ?_, fun h hr => ?_, fun ch => ⟨fun h => ?_, fun h => ?_, fun h => ?_⟩⟩
    · simp [execLinkLoss, h]
    · simp [execLinkLoss, execLinkReturn, State.hasMeter, h]
    · simp [execLinkReturn, State.hasMeter, h, State.meterLinkBack]
    · have hexec : exec (.linkLoss .metering) s = .next s.meterLinkLost := by simp [execLinkLoss, State.hasMeter, h, hr]
      obtain ⟨hm, hs, hc⟩ := State.meterMarks_frame { s with meter := { s.meter with link := false } }.qmap { s with meter := { s.meter with link := false } }
      exact ⟨_, hexec, hm, hs, congrArg BitVec.toNat hc⟩
    · simp [execLinkLoss, execLinkReturn, State.hasLift, h]
    · have hexec : exec (.linkLoss (.safety ch)) s = .next (s.safetyLinkLost ch.val) := by simp [execLinkLoss, State.hasLift, h]
      rw [State.safetyLinkLost_eq] at hexec
      obtain ⟨hregs, hlink, hcar⟩ := State.latchCars 5 (List.range 8) (s.requestsLost ch.val) (fun c hc => List.mem_range.1 hc) (by decide)
      refine ⟨_, hexec, _, rfl, ?_, fun c hc => ?_, hregs⟩
      · refine (hlink ch.val ch.isLt).trans ?_
        rw [State.requestsLost, State.chan_setChan _ _ ch.isLt, if_pos rfl]
      · have := (hcar c).trans (if_pos (List.mem_range.2 hc))
        exact ⟨congrArg SafeCar.latch this, congrArg SafeCar.released this⟩
    · have hexec : exec (.linkReturn (.safety ch)) s = .next (s.safetyLinkBack ch.val) := by simp [execLinkReturn, State.hasLift, h]
      exact ⟨_, hexec, s.safetyLinkBack_result ch⟩
  case charm =>
    intro s
    have hdown : (s.setBit Reg.CHARM_STAT 2 false).bit Reg.CHARM_STAT 2 = false := State.bit_setBit_same _ _ _ _ (by omega)
    refine ⟨⟨s.charmLink false, rfl, ?_⟩, s.setBit Reg.CHARM_STAT 2 true, rfl, s.setBit_onlyRegs _ _ _, State.bit_setBit_same _ _ _ _ (by omega)⟩
    cases h : s.charm.waiting with
    | none =>
      rw [State.charmLost_idle h]
      exact ⟨s.wr_onlyRegs _ (by simp), hdown, h, rfl, s.rd_setBit_ne _ _ (by decide)⟩
    | some w =>
      rw [State.charmLost_waiting (by rw [h]; rfl)]
      have hrd := (s.setBit Reg.CHARM_STAT 2 false).rd_transferEnded
      refine ⟨⟨rfl, fun a ha => ?_⟩, (State.bit_of_rd ((hrd _).trans (if_neg (by decide))) 2).trans hdown, rfl, rfl, ?_⟩
      · simp only [List.mem_cons, List.not_mem_nil, or_false, not_or] at ha
        obtain ⟨hstat, hxfer⟩ := ha
        rw [hrd, if_neg hxfer]
        exact s.rd_setBit_ne _ _ hstat
      · rw [hrd, if_pos rfl, Option.isSome_some, if_pos rfl]

end Sys2Proof.Machine
end

section
/-! Requests to the safety die and its judgement of a car (R169, R192 to R197; O31). -/

namespace Sys2Proof.Machine

/-! ### Requests (R193, R169) -/

/-- Registers, points and what the channels hold of requests and links as they are. -/
structure State.RequestsKept (s t : State) : Prop where
  regs : t.regs = s.regs
  points : t.points = s.points
  chan : ∀ ch < 2, (t.chan ch).running = (s.chan ch).running ∧ (t.chan ch).link = (s.chan ch).link ∧ (t.chan ch).reqs = (s.chan ch).reqs

theorem State.RequestsKept.refl (s : State) : s.RequestsKept s := ⟨rfl, rfl, fun _ _ => ⟨rfl, rfl, rfl⟩⟩

theorem State.RequestsKept.trans {s t u : State} (h : s.RequestsKept t) (k : t.RequestsKept u) : s.RequestsKept u := by
  refine ⟨k.regs.trans h.regs, k.points.trans h.points, fun ch hch => ?_⟩
  obtain ⟨hrun, hlink, hreqs⟩ := h.chan ch hch
  obtain ⟨krun, klink, kreqs⟩ := k.chan ch hch
  exact ⟨krun.trans hrun, klink.trans hlink, kreqs.trans hreqs⟩

theorem State.safeLatch_requestsKept (s : State) (c bit : Nat) : s.RequestsKept (s.safeLatch c bit) :=
  ⟨rfl, rfl, fun ch hch => by rw [s.chan_safeLatch c bit hch]; exact ⟨rfl, rfl, rfl⟩⟩

/-- One car's cross-check failure sent (R169). -/
def State.xchkStep (s : State) (c : Nat) : State := if s.bit (Reg.LIFT_CAR_STAT c) 11 then s.xchkSend c else s

theorem State.xchkSend_requestsKept (s : State) (c : Nat) : s.RequestsKept (s.xchkSend c) := by
  unfold State.xchkSend
  split
  · exact s.safeLatch_requestsKept c 2
  · exact .refl s

theorem State.xchkStep_requestsKept (s : State) (c : Nat) : s.RequestsKept (s.xchkStep c) := by
  unfold State.xchkStep
  split
  · exact s.xchkSend_requestsKept c
  · exact .refl s

theorem State.xchkSteps_requestsKept : ∀ (l : List Nat) (s : State), s.RequestsKept (l.foldl State.xchkStep s)
  | [], s => .refl s
  | c :: l, s => (s.xchkStep_requestsKept c).trans (State.xchkSteps_requestsKept l _)

/-- A car whose cross-check failure is latched and whose release is gone. -/
def SafeCar.Crossed (x : SafeCar) : Prop := x.latch.getLsbD 2 = true ∧ x.released = false

theorem SafeCar.crossed_latched (x : SafeCar) : (x.latched 2).Crossed := by
  refine ⟨?_, rfl⟩
  simp only [SafeCar.latched, BitVec.getLsbD_or]
  exact Bool.or_true _

/-- A channel that runs with its link up takes what is sent. -/
theorem State.live_of_chan {s : State} {ch : Nat} (h : ch < 2) (hrun : (s.chan ch).running = true) (hlink : (s.chan ch).link = true) :
    s.safe.chans.toList.any (fun k => k.running && k.link) = true := by
  have hlen : ch < s.safe.chans.toList.length := by rw [Vector.length_toList]; exact h
  refine List.any_eq_true.2 ⟨s.chan ch, ?_, by rw [hrun, hlink]; rfl⟩
  rw [State.chan, List.getD_eq_getElem _ _ hlen]
  exact List.getElem_mem hlen

theorem State.xchkStep_sent {s : State} {ch c : Nat} (hc : c < 8) (hch : ch < 2) (hrun : (s.chan ch).running = true) (hlink : (s.chan ch).link = true)
    (hx : s.bit (Reg.LIFT_CAR_STAT c) 11 = true) : ((s.xchkStep c).safeCar c).Crossed := by
  rw [State.xchkStep, if_pos hx, State.xchkSend, if_pos (State.live_of_chan hch hrun hlink), s.safeCar_safeLatch 2 hc, if_pos rfl]
  exact SafeCar.crossed_latched _

theorem State.xchkStep_crossed {s : State} {c d : Nat} (hd : d < 8) (h : (s.safeCar c).Crossed) : ((s.xchkStep d).safeCar c).Crossed := by
  unfold State.xchkStep State.xchkSend
  split
  · split
    · rw [s.safeCar_safeLatch 2 hd]
      split
      · exact SafeCar.crossed_latched _
      · exact h
    · exact h
  · exact h

theorem State.xchkSteps_crossed {c : Nat} : ∀ (l : List Nat) (s : State), (∀ d ∈ l, d < 8) → (s.safeCar c).Crossed →
    ((l.foldl State.xchkStep s).safeCar c).Crossed
  | [], _, _, h => h
  | d :: l, _, hl, h => State.xchkSteps_crossed l _ (fun e he => hl e (List.mem_cons_of_mem d he)) (State.xchkStep_crossed (hl d List.mem_cons_self) h)

theorem State.xchkSteps_sent {ch c : Nat} (hch : ch < 2) : ∀ (l : List Nat) (s : State), (∀ d ∈ l, d < 8) → c ∈ l → (s.chan ch).running = true →
    (s.chan ch).link = true → s.bit (Reg.LIFT_CAR_STAT c) 11 = true → ((l.foldl State.xchkStep s).safeCar c).Crossed
  | [], _, _, hc, _, _, _ => absurd hc List.not_mem_nil
  | d :: l, s, hl, hc, hrun, hlink, hx => by
    have hl' : ∀ e ∈ l, e < 8 := fun e he => hl e (List.mem_cons_of_mem d he)
    rcases List.mem_cons.1 hc with rfl | hc
    · exact State.xchkSteps_crossed l _ hl' (State.xchkStep_sent (hl c List.mem_cons_self) hch hrun hlink hx)
    · have hkept := s.xchkStep_requestsKept d
      obtain ⟨krun, klink, -⟩ := hkept.chan ch hch
      refine State.xchkSteps_sent hch l _ hl' hc (krun.trans hrun) (klink.trans hlink) ?_
      simpa only [State.bit, State.rd, hkept.regs] using hx

/-- A channel with the requests of every car, where it runs and its link is up. -/
def ChanSt.requested (k : ChanSt) (s : State) : ChanSt :=
  if k.running && k.link then { k with reqs := Vector.ofFn (fun c : Fin 8 => some (s.carRequest c.val)) } else k

/-- Every car's request sent. -/
def State.requestsSent (s : State) : State := { s with safe := { s.safe with chans := s.safe.chans.map (fun k => k.requested s) } }

theorem State.safetyRequest_eq (s : State) : s.safetyRequest = (List.range 8).foldl State.xchkStep s.requestsSent := rfl

theorem State.chan_requestsSent (s : State) {ch : Nat} (h : ch < 2) : s.requestsSent.chan ch = (s.chan ch).requested s := Vector.getD_map _ _ _ _ h

theorem ChanSt.requested_live {k : ChanSt} (s : State) (hrun : k.running = true) (hlink : k.link = true) :
    k.requested s = { k with reqs := Vector.ofFn (fun c : Fin 8 => some (s.carRequest c.val)) } := by
  rw [ChanSt.requested, hrun, hlink]
  rfl

theorem ChanSt.requested_dead {k : ChanSt} (s : State) (h : k.running = false ∨ k.link = false) : k.requested s = k := by
  rw [ChanSt.requested, if_neg]
  rcases h with h | h <;> simp [h]

/-! ### The judgement (R193 to R195) -/

/-- The running mode a request can be granted (R194): NORMAL becomes CORRECTION while the position is not known. -/
def SafeReq.runMode (q : SafeReq) : BitVec 3 := if q.mode = 2 ∧ !(q.posState = 1 ∧ !q.xchk) then 1 else q.mode

theorem SafeReq.runMode_normal {q : SafeReq} (h : q.runMode = 2) : q.posState = 1 ∧ q.xchk = false := by
  unfold SafeReq.runMode at h
  split at h
  · exact absurd h (by decide)
  case isFalse hl => simpa [h] using hl

theorem runGrant_eq (p : SafetyCar) (q : SafeReq) (i : SafeIn) : ∃ r r', runGrant p q i =
    if q.mode = 0 then (0, 0)
    else if !chainClosed p i.dead then (0, 2)
    else if doorOpen p i.dead ∧ q.runMode ≠ 3 then (0, 8)
    else if doorOpen p i.dead ∧ !i.dz then (0, 3)
    else if doorOpen p i.dead ∧ p.above p.vLevel i then (0, 4)
    else if p.above (p.limit q.runMode) i then (0, r)
    else (q.runMode, r') := ⟨_, _, rfl⟩

theorem runGrant_running {p : SafetyCar} {q : SafeReq} {i : SafeIn} (h : (runGrant p q i).1 ≠ 0) : (runGrant p q i).1 = q.runMode ∧
    q.mode ≠ 0 ∧ chainClosed p i.dead = true ∧ p.above (p.limit q.runMode) i = false ∧ (doorOpen p i.dead = true → q.runMode = 3 ∧ i.dz = true) := by
  revert h
  obtain ⟨r, r', e⟩ := runGrant_eq p q i
  rw [e]
  split
  · exact fun h => absurd rfl h
  split
  · exact fun h => absurd rfl h
  split
  · exact fun h => absurd rfl h
  split
  · exact fun h => absurd rfl h
  split
  · exact fun h => absurd rfl h
  split
  · exact fun h => absurd rfl h
  rename_i hmode hchain hmode3 hdz _ habove
  refine fun _ => ⟨rfl, hmode, by simpa using hchain, by simpa using habove, fun hopen => ⟨?_, ?_⟩⟩
  · by_contra hne
    exact hmode3 ⟨hopen, hne⟩
  · by_contra hne
    exact hdz ⟨hopen, by simpa using hne⟩

theorem doorRule_granted {p : SafetyCar} {asked slower : Bool} {m : BitVec 3} {i : SafeIn} (h : (doorRule p asked m i slower).1 = true) :
    asked = true ∧ i.dz = true ∧ p.above p.vDoor i = false := by
  unfold doorRule at h
  split at h
  · exact absurd h (by decide)
  · split at h
    · exact absurd h (by decide)
    case isFalse hasked hdz =>
      split at h
      · exact absurd h Bool.false_ne_true
      case isFalse habove => exact ⟨by simpa using hasked, by simpa using hdz, by simpa using habove⟩

/-- A judgement grants something. -/
def Verdict.Grants (v : Verdict) : Prop := v.mode ≠ 0 ∨ v.doorF = true ∨ v.doorR = true

theorem judge_grants {s : State} {c : Nat} {params : Option SafetyCar} {q : Option SafeReq} {i : SafeIn} {slower : Bool}
    (h : (judge s c params q i slower).Grants) : ∃ p r, params = some p ∧ q = some r ∧ p.enabled = true ∧ (s.safeCar c).latch = 0 ∧
      (s.safeCar c).released = true ∧ s.safeNow < r.recvAt + 10 * msCounts ∧ (judge s c params q i slower).mode = (runGrant p r i).1 ∧
      (judge s c params q i slower).doorF = (doorRule p r.doorF (runGrant p r i).1 i slower).1 ∧
      (judge s c params q i slower).doorR = (doorRule p r.doorR (runGrant p r i).1 i slower).1 := by
  have hoff : ∀ r, ¬(⟨0, false, false, r⟩ : Verdict).Grants := fun r => by simp [Verdict.Grants]
  unfold judge at h ⊢
  simp only [] at h ⊢
  split at h
  · exact absurd h (hoff _)
  case h_2 p r =>
    split at h
    · exact absurd h (hoff _)
    split at h
    · exact absurd h (hoff _)
    split at h
    · exact absurd h (hoff _)
    split at h
    · exact absurd h (hoff _)
    rename_i hfresh hen hlatch hrel
    refine ⟨p, r, rfl, rfl, by simpa using hen, by simpa using hlatch, by simpa using hrel, by omega, ?_⟩
    rw [if_neg hfresh, if_neg hen, if_neg hlatch, if_neg hrel]
    exact ⟨rfl, rfl, rfl⟩
  · exact absurd h (hoff _)

end Sys2Proof.Machine
end

section
/-! A car's evaluation by one channel (R192 to R197; O31). -/

namespace Sys2Proof.Machine

/-! ### Refusals (R193) -/

/-- A channel's requests replaced, of two channels' cars nothing. -/
theorem State.cars_setReqs (s : State) {ch k : Nat} (x : Vector (Option SafeReq) 8) (h : ch < 2) :
    ((s.setChan ch { s.chan ch with reqs := x }).chan k).cars = (s.chan k).cars := by
  rw [s.chan_setChan _ h]
  by_cases hk : k = ch
  · rw [if_pos hk, hk]
  · rw [if_neg hk]

/-- A channel's request of a car marked as counted. -/
def ChanSt.markCounted (k : ChanSt) (c : Nat) : ChanSt :=
  { k with reqs := k.reqs.setIfInBounds c (((k.reqs.toList[c]?).join).map (fun q => { q with counted := true })) }

/-- A refusal counted for a car, once for both channels' request. -/
def State.refusalCounted (s : State) (c : Nat) : State :=
  let t := { s with safe := { s.safe with chans := s.safe.chans.map (fun k : ChanSt => k.markCounted c) } }
  t.setSafeCar c { t.safeCar c with refusals := (t.safeCar c).refusals + 1 }

theorem State.noteRefusal_cases (s : State) (ch c : Nat) (refused : Bool) : s.noteRefusal ch c refused = s ∨
    ∃ x, s.noteRefusal ch c refused = s.setChan ch { s.chan ch with reqs := x } ∨
      s.noteRefusal ch c refused = (s.setChan ch { s.chan ch with reqs := x }).refusalCounted c := by
  unfold State.noteRefusal
  split
  · exact .inl rfl
  · split
    · exact .inl rfl
    · simp only []
      split
      · exact .inr ⟨_, .inr rfl⟩
      · exact .inr ⟨_, .inl rfl⟩

/-- What a channel grants a car, the car's latches and its release are as they were. -/
structure State.GrantsKept (s t : State) : Prop where
  cars : ∀ ch < 2, (t.chan ch).cars = (s.chan ch).cars
  latch : ∀ c, (t.safeCar c).latch = (s.safeCar c).latch
  released : ∀ c, (t.safeCar c).released = (s.safeCar c).released

theorem State.GrantsKept.trans {s t u : State} (h : s.GrantsKept t) (k : t.GrantsKept u) : s.GrantsKept u :=
  ⟨fun ch hch => (k.cars ch hch).trans (h.cars ch hch), fun c => (k.latch c).trans (h.latch c), fun c => (k.released c).trans (h.released c)⟩

theorem State.GrantsKept.of_safe {s t : State} (h : t.safe = s.safe) : s.GrantsKept t :=
  ⟨fun ch _ => by rw [State.chan_of_safe h], fun c => by rw [State.safeCar_of_safe h], fun c => by rw [State.safeCar_of_safe h]⟩

theorem State.setReqs_grantsKept (s : State) {ch : Nat} (x : Vector (Option SafeReq) 8) (h : ch < 2) :
    s.GrantsKept (s.setChan ch { s.chan ch with reqs := x }) :=
  ⟨fun _ _ => s.cars_setReqs x h, fun _ => rfl, fun _ => rfl⟩

theorem State.refusalCounted_grantsKept (s : State) {c : Nat} (hc : c < 8) : s.GrantsKept (s.refusalCounted c) := by
  have hcar := State.safeCar_setSafeCar { s with safe := { s.safe with chans := s.safe.chans.map (fun k : ChanSt => k.markCounted c) } }
    { s.safeCar c with refusals := (s.safeCar c).refusals + 1 } hc
  have hchan : ∀ ch < 2, (s.refusalCounted c).chan ch = (s.chan ch).markCounted c :=
    fun ch hch => Vector.getD_map s.safe.chans (fun k : ChanSt => k.markCounted c) ChanSt.zero ChanSt.zero hch
  refine ⟨fun ch hch => (congrArg ChanSt.cars (hchan ch hch)).trans rfl, fun k => ?_, fun k => ?_⟩
  · refine (congrArg SafeCar.latch (hcar k)).trans ?_
    by_cases hk : k = c
    · rw [if_pos hk, hk]
    · rw [if_neg hk]; rfl
  · refine (congrArg SafeCar.released (hcar k)).trans ?_
    by_cases hk : k = c
    · rw [if_pos hk, hk]
    · rw [if_neg hk]; rfl

theorem State.noteRefusal_grantsKept (s : State) {ch c : Nat} (refused : Bool) (hch : ch < 2) (hc : c < 8) : s.GrantsKept (s.noteRefusal ch c refused) := by
  rcases s.noteRefusal_cases ch c refused with h | ⟨x, h | h⟩
  · rw [h]
    exact .of_safe rfl
  · rw [h]
    exact s.setReqs_grantsKept x hch
  · rw [h]
    exact (s.setReqs_grantsKept x hch).trans (State.refusalCounted_grantsKept _ hc)

/-! ### The evaluation -/

/-- The safety die's time as it is. -/
def State.SafeTimeKept (s t : State) : Prop := t.safe.ahead = s.safe.ahead ∧ t.cnt = s.cnt

theorem State.SafeTimeKept.trans {s t u : State} (h : s.SafeTimeKept t) (k : t.SafeTimeKept u) : s.SafeTimeKept u := ⟨k.1.trans h.1, k.2.trans h.2⟩

theorem State.SafeTimeKept.ite {s t u : State} (p : Prop) [Decidable p] (h : s.SafeTimeKept t) (k : s.SafeTimeKept u) :
    s.SafeTimeKept (if p then t else u) := by
  split
  · exact h
  · exact k

theorem State.SafeTimeKept.safeNow {s t : State} (h : s.SafeTimeKept t) : t.safeNow = s.safeNow := by
  obtain ⟨hahead, hcnt⟩ := h
  simp only [State.safeNow, State.now, hahead, hcnt]

theorem State.record_safeTimeKept (s : State) (it : EvItem) : s.SafeTimeKept (s.record it) := ⟨by rw [s.record_safe], s.record_cnt it⟩

/-- A channel's evaluation of a car ends with its judgement of a state that has taken the car's latches and its release, at the same time of the
safety die; what comes after leaves the grants, the latches and the release. -/
theorem State.evalCar_eq (s : State) (ch c : Nat) (i : SafeIn) : ∃ (u : State) (cc : ChanCar) (x : State) (refused : Bool), s.SafeTimeKept u ∧
    (let v := judge u c (s.carParams c) (((s.chan ch).reqs.toList[c]?).join) i (decide (i.rate < ((s.chan ch).car c).ins.rate))
     cc.mode = v.mode ∧ cc.doorF = v.doorF ∧ cc.doorR = v.doorR) ∧
    x.safe = (u.setChan ch { u.chan ch with cars := (u.chan ch).cars.setIfInBounds c cc }).safe ∧ s.evalCar ch c i = x.noteRefusal ch c refused := by
  unfold State.evalCar
  extract_lets _ _ _ _ _ s1 _ _
  split
  extract_lets s2 _ s3 _ _ _ _ _ u _ _ _ cc _ _ x
  refine ⟨u, cc, x, _, ?_, ⟨rfl, rfl, rfl⟩, ?_, rfl⟩
  · have h1 : s.SafeTimeKept s1 := .ite _ ⟨rfl, rfl⟩ ⟨rfl, rfl⟩
    have h2 : s1.SafeTimeKept s2 := .ite _ (.trans (t := s1.safeLatch c 1) ⟨rfl, rfl⟩ (State.record_safeTimeKept _ _)) ⟨rfl, rfl⟩
    have h3 : s2.SafeTimeKept s3 := .ite _ ⟨rfl, rfl⟩ ⟨rfl, rfl⟩
    have h4 : s3.SafeTimeKept u := .ite _ ⟨rfl, rfl⟩ ⟨rfl, rfl⟩
    exact ((h1.trans h2).trans h3).trans h4
  · have hx : ∀ (w : State) (p : Prop) [Decidable p] (it : EvItem), (if p then w.record it else w).safe = w.safe := by
      intro w p _ it
      split
      · exact w.record_safe it
      · rfl
    exact hx _ _ _

theorem State.evalCar_grants (s : State) {ch c : Nat} (hch : ch < 2) (hc : c < 8) (i : SafeIn) : ∃ u, s.SafeTimeKept u ∧
    (let v := judge u c (s.carParams c) (((s.chan ch).reqs.toList[c]?).join) i (decide (i.rate < ((s.chan ch).car c).ins.rate))
     let g := ((s.evalCar ch c i).chan ch).car c
     g.mode = v.mode ∧ g.doorF = v.doorF ∧ g.doorR = v.doorR) ∧
    ((s.evalCar ch c i).safeCar c).latch = (u.safeCar c).latch ∧ ((s.evalCar ch c i).safeCar c).released = (u.safeCar c).released := by
  obtain ⟨u, cc, x, refused, htime, hv, hx, heq⟩ := s.evalCar_eq ch c i
  have hkept := x.noteRefusal_grantsKept refused hch hc
  have hcar : ((s.evalCar ch c i).chan ch).car c = cc := by
    rw [heq, ChanSt.car, hkept.cars ch hch, State.chan_of_safe hx, State.chan_setChan _ _ hch, if_pos rfl, ← ChanSt.car, ChanSt.car_set _ _ hc]
  have hsafe : x.safeCar c = u.safeCar c := State.safeCar_of_safe hx c
  refine ⟨u, htime, by rw [hcar]; exact hv, ?_, ?_⟩
  · rw [heq, hkept.latch, hsafe]
  · rw [heq, hkept.released, hsafe]

end Sys2Proof.Machine
end

section
/-! The safety die's commands and the SAFE mirror (R16 to R18, R193 to R199; O31). -/

namespace Sys2Proof.Machine

/-! ### The mirror (R18) -/

theorem bits_wd_mode (m : BitVec 3) (f r rel q qf qr reason : Nat) :
    bits (wd (m.toNat + 8 * f + 16 * r + 32 * rel + 256 * q + 2048 * qf + 4096 * qr + 65536 * reason)) 2 0 = m.toNat := by
  have := m.isLt
  simp only [bits, wd, BitVec.toNat_ofNat]
  omega

/-- A car's four registers of the mirror, with the mode granted in the first and the latches in the last. -/
theorem State.mirrorCar_eq (s : State) (c : Nat) : ∃ grant chain io, bits grant 2 0 = (s.grantMode c).toNat ∧ s.mirrorCar c =
    (((s.wr (Reg.SAFE_CAR_GRANT c) grant).wr (Reg.SAFE_CAR_CHAIN c) chain).wr (Reg.SAFE_CAR_IO c) io).wr (Reg.SAFE_CAR_LATCH c)
      (wd ((s.safeCar c).latch.toNat + 65536 * (s.safeCar c).refusals.toNat)) :=
  ⟨_, _, _, bits_wd_mode _ _ _ _ _ _ _ _, rfl⟩

theorem State.mirrorCar_frame (s : State) (c : Nat) : ∃ r, s.mirrorCar c = { s with regs := r } := by
  obtain ⟨grant, chain, io, -, e⟩ := s.mirrorCar_eq c
  exact ⟨_, e.trans rfl⟩

theorem State.rd_mirrorCar_ne (s : State) {c a : Nat} (h : a < Reg.SAFE_CAR_GRANT c ∨ Reg.SAFE_CAR_LATCH c < a) : (s.mirrorCar c).rd a = s.rd a := by
  obtain ⟨grant, chain, io, -, e⟩ := s.mirrorCar_eq c
  simp only [Reg.SAFE_CAR_GRANT, Reg.SAFE_CAR_LATCH] at h
  rw [e, State.rd_wr_ne _ _ (by simp only [Reg.SAFE_CAR_LATCH]; omega), State.rd_wr_ne _ _ (by simp only [Reg.SAFE_CAR_IO]; omega),
    State.rd_wr_ne _ _ (by simp only [Reg.SAFE_CAR_CHAIN]; omega), State.rd_wr_ne _ _ (by simp only [Reg.SAFE_CAR_GRANT]; omega)]

theorem State.fld_mirrorCar_grant (s : State) (c : Nat) : (s.mirrorCar c).fld (Reg.SAFE_CAR_GRANT c) 2 0 = (s.grantMode c).toNat := by
  obtain ⟨grant, chain, io, hmode, e⟩ := s.mirrorCar_eq c
  rw [e, ← hmode, State.fld, State.rd_wr_ne _ _ (by simp only [Reg.SAFE_CAR_GRANT, Reg.SAFE_CAR_LATCH]; omega),
    State.rd_wr_ne _ _ (by simp only [Reg.SAFE_CAR_GRANT, Reg.SAFE_CAR_IO]; omega),
    State.rd_wr_ne _ _ (by simp only [Reg.SAFE_CAR_GRANT, Reg.SAFE_CAR_CHAIN]; omega), State.rd_wr_same]

theorem State.rd_mirrorCar_latch (s : State) (c : Nat) :
    (s.mirrorCar c).rd (Reg.SAFE_CAR_LATCH c) = wd ((s.safeCar c).latch.toNat + 65536 * (s.safeCar c).refusals.toNat) := by
  obtain ⟨grant, chain, io, -, e⟩ := s.mirrorCar_eq c
  rw [e, State.rd_wr_same]

theorem State.mirrorCars_frame : ∀ (l : List Nat) (s : State), ∃ r, l.foldl State.mirrorCar s = { s with regs := r }
  | [], s => ⟨s.regs, rfl⟩
  | c :: l, s => by
    obtain ⟨r, h⟩ := s.mirrorCar_frame c
    obtain ⟨r', h'⟩ := State.mirrorCars_frame l { s with regs := r }
    exact ⟨r', by rw [List.foldl_cons, h, h']⟩

theorem State.rd_mirrorCars_ne (s : State) {l : List Nat} {a : Nat} (h : ∀ c ∈ l, a < Reg.SAFE_CAR_GRANT c ∨ Reg.SAFE_CAR_LATCH c < a) :
    (l.foldl State.mirrorCar s).rd a = s.rd a := State.rd_foldl l s fun s c hc => s.rd_mirrorCar_ne (h c hc)

theorem State.mirrorCars_shown {c : Nat} : ∀ (l : List Nat) (s : State), c ∈ l →
    (l.foldl State.mirrorCar s).fld (Reg.SAFE_CAR_GRANT c) 2 0 = (s.grantMode c).toNat ∧
    (l.foldl State.mirrorCar s).rd (Reg.SAFE_CAR_LATCH c) = wd ((s.safeCar c).latch.toNat + 65536 * (s.safeCar c).refusals.toNat)
  | [], _, h => absurd h List.not_mem_nil
  | d :: l, s, h => by
    rw [List.foldl_cons]
    by_cases hl : c ∈ l
    · obtain ⟨r, hd⟩ := s.mirrorCar_frame d
      rw [hd]
      exact State.mirrorCars_shown l { s with regs := r } hl
    · obtain rfl : c = d := (List.mem_cons.1 h).resolve_right hl
      have hgrant : ∀ e ∈ l, Reg.SAFE_CAR_GRANT c < Reg.SAFE_CAR_GRANT e ∨ Reg.SAFE_CAR_LATCH e < Reg.SAFE_CAR_GRANT c := fun e he => by
        have : e ≠ c := fun k => hl (k ▸ he)
        simp only [Reg.SAFE_CAR_GRANT, Reg.SAFE_CAR_LATCH]
        omega
      have hlatch : ∀ e ∈ l, Reg.SAFE_CAR_LATCH c < Reg.SAFE_CAR_GRANT e ∨ Reg.SAFE_CAR_LATCH e < Reg.SAFE_CAR_LATCH c := fun e he => by
        have : e ≠ c := fun k => hl (k ▸ he)
        simp only [Reg.SAFE_CAR_GRANT, Reg.SAFE_CAR_LATCH]
        omega
      exact ⟨(State.fld_of_rd (State.rd_mirrorCars_ne _ hgrant) 2 0).trans (s.fld_mirrorCar_grant c),
        (State.rd_mirrorCars_ne _ hlatch).trans (s.rd_mirrorCar_latch c)⟩

/-- The mirror's own registers written, with the next sequence count. -/
def State.mirrorHead (s : State) (stat : Word) : State :=
  ((({ s with safe := { s.safe with seq := s.safe.seq + 1 }, mirrorAt := some s.now, pwr := { s.pwr with mirrorOld := false } } : State).wr Reg.SAFE_STAT
    stat).wr Reg.SAFE_SEQ (s.safe.seq + 1)).wr Reg.SAFE_PARAM_ID ((s.safe.params.map (·.id)).getD 0)

/-- An update can reach the mirror (R18, R347). -/
def State.mirrorLive (s : State) : Bool := s.hasLift && !s.inRecess && s.safe.chans.toList.any (fun k => k.running && k.link)

theorem State.mirrorUpdate_eq (s : State) : ∃ stat, s.mirrorUpdate =
    if !s.hasLift ∨ s.inRecess ∨ !(s.safe.chans.toList.any (fun k => k.running && k.link)) then s
    else (List.range 8).foldl State.mirrorCar (s.mirrorHead stat) := ⟨_, rfl⟩

theorem State.mirrorUpdate_dead {s : State} (h : s.mirrorLive = false) : s.mirrorUpdate = s := by
  obtain ⟨stat, e⟩ := s.mirrorUpdate_eq
  rw [e, if_pos]
  simpa only [State.mirrorLive, Bool.and_eq_false_iff, Bool.not_eq_true', Bool.not_eq_false', or_assoc] using h

theorem State.mirrorUpdate_live {s : State} (h : s.mirrorLive = true) : ∃ stat, s.mirrorUpdate =
    (List.range 8).foldl State.mirrorCar (s.mirrorHead stat) := by
  obtain ⟨stat, e⟩ := s.mirrorUpdate_eq
  refine ⟨stat, ?_⟩
  simp only [State.mirrorLive, Bool.and_eq_true, Bool.not_eq_true'] at h
  obtain ⟨⟨hlift, hrecess⟩, hany⟩ := h
  rw [e, hlift, hrecess, hany]
  rfl

theorem State.mirrorUpdate_completes {s : State} (h : s.mirrorLive = true) : ∃ t, s.mirrorUpdate = t ∧ t.mirrorAt = some s.now ∧
    t.safe = { s.safe with seq := s.safe.seq + 1 } ∧ t.rd Reg.SAFE_SEQ = s.safe.seq + 1 ∧
    t.rd Reg.SAFE_PARAM_ID = (s.safe.params.map (·.id)).getD 0 ∧ t.points = s.points ∧
    ∀ c : Fin 8, t.fld (Reg.SAFE_CAR_GRANT c.val) 2 0 = (s.grantMode c.val).toNat ∧
      t.rd (Reg.SAFE_CAR_LATCH c.val) = wd ((s.safeCar c.val).latch.toNat + 65536 * (s.safeCar c.val).refusals.toNat) := by
  obtain ⟨stat, e⟩ := State.mirrorUpdate_live h
  obtain ⟨r, hr⟩ := State.mirrorCars_frame (List.range 8) (s.mirrorHead stat)
  have hlow : ∀ a, a < Reg.SAFE_CAR_GRANT 0 → ((List.range 8).foldl State.mirrorCar (s.mirrorHead stat)).rd a = (s.mirrorHead stat).rd a :=
    fun a ha => State.rd_mirrorCars_ne _ fun c _ => .inl (by simp only [Reg.SAFE_CAR_GRANT] at ha ⊢; omega)
  refine ⟨_, e, by rw [hr]; rfl, by rw [hr]; rfl, ?_, ?_, by rw [hr]; rfl, fun c => State.mirrorCars_shown _ _ (List.mem_range.2 c.isLt)⟩
  · rw [hlow _ (by decide), State.mirrorHead, State.rd_wr_ne _ _ (by decide), State.rd_wr_same]
  · rw [hlow _ (by decide), State.mirrorHead, State.rd_wr_same]

end Sys2Proof.Machine
end

section
/-! The safety die's commands (R15 to R18, R192 to R199; O31). -/

namespace Sys2Proof.Machine

/-! ### Requests -/

theorem State.safetyRequest_completes (s : State) : let t := s.safetyRequest
    t.points = s.points ∧ t.regs = s.regs ∧
    (∀ (ch : Fin 2) (c : Fin 8), (s.chan ch.val).running = true → (s.chan ch.val).link = true →
      (t.chan ch.val).reqs.toList.getD c.val none = some (s.carRequest c.val)) ∧
    (∀ (ch : Fin 2), ((s.chan ch.val).running = false ∨ (s.chan ch.val).link = false) → (t.chan ch.val).reqs = (s.chan ch.val).reqs) ∧
    ∀ (ch : Fin 2) (c : Fin 8), (s.chan ch.val).running = true → (s.chan ch.val).link = true → s.bit (Reg.LIFT_CAR_STAT c.val) 11 = true →
      (t.safeCar c.val).latch.getLsbD 2 = true ∧ (t.safeCar c.val).released = false := by
  simp only [State.safetyRequest_eq]
  have hkept := State.xchkSteps_requestsKept (List.range 8) s.requestsSent
  have hreqs : ∀ ch : Fin 2, (((List.range 8).foldl State.xchkStep s.requestsSent).chan ch.val).reqs = ((s.chan ch.val).requested s).reqs := fun ch => by
    rw [(hkept.chan ch.val ch.isLt).2.2, s.chan_requestsSent ch.isLt]
  refine ⟨hkept.points, hkept.regs, fun ch c hrun hlink => ?_, fun ch hdead => ?_, fun ch c hrun hlink hx => ?_⟩
  · rw [hreqs, ChanSt.requested_live s hrun hlink]
    simp [List.getD_eq_getElem?_getD]
  · rw [hreqs, ChanSt.requested_dead s hdead]
  · have hsent : s.requestsSent.chan ch.val = _ := (s.chan_requestsSent ch.isLt).trans (ChanSt.requested_live s hrun hlink)
    exact State.xchkSteps_sent ch.isLt _ s.requestsSent (fun d hd => List.mem_range.1 hd) (List.mem_range.2 c.isLt) (by rw [hsent]; exact hrun)
      (by rw [hsent]; exact hlink) hx

/-- What a request asks for before roll call's step 5, without the lift units enabled and in RECESS (R347, R357). -/
theorem State.carRequest_idle {s : State} (c : Nat) (h : s.bit Reg.SYS_ROLL_STAT 0 = false ∨ s.bit Reg.LIFT_CTRL 0 = false ∨ s.inRecess = true) :
    (s.carRequest c).mode = 0 ∧ (s.carRequest c).release = false ∧ (s.carRequest c).doorF = false ∧ (s.carRequest c).doorR = false := by
  have hlive : (s.bit Reg.SYS_ROLL_STAT 0 && s.bit Reg.LIFT_CTRL 0 && !s.inRecess) = false := by rcases h with h | h | h <;> simp [h]
  have hword : putBits (0 : Word) 2 0 0 = 0 := by decide
  simp only [State.carRequest, hlive, Bool.false_eq_true, if_false, hword, ite_self, Bool.false_and, Bool.or_false]
  decide

/-! ### Grants (R193 to R197) -/

theorem State.evalCar_conditions (s : State) (ch : Fin 2) (c : Fin 8) (i : SafeIn) :
    let t := s.evalCar ch.val c.val i
    let g := (t.chan ch.val).car c.val
    (g.mode ≠ 0 ∨ g.doorF = true ∨ g.doorR = true) → ∃ p q, s.carParams c.val = some p ∧ p.enabled = true ∧ (t.safeCar c.val).latch = 0 ∧ (t.safeCar c.val).released = true ∧
      ((s.chan ch.val).reqs.toList[c.val]?).join = some q ∧ s.safeNow < q.recvAt + 2500000 ∧
      (g.mode ≠ 0 → q.mode ≠ 0 ∧ chainClosed p i.dead = true ∧ p.above (p.limit g.mode) i = false ∧ (doorOpen p i.dead = true → g.mode = 3 ∧ i.dz = true) ∧
        (g.mode = 2 → q.posState = 1 ∧ q.xchk = false)) ∧
      (g.doorF = true → q.doorF = true ∧ i.dz = true ∧ p.above p.vDoor i = false) ∧ (g.doorR = true → q.doorR = true ∧ i.dz = true ∧ p.above p.vDoor i = false) := by
  intro t g hg
  obtain ⟨u, htime, ⟨hmode, hdoorF, hdoorR⟩, hlatch, hrel⟩ := s.evalCar_grants ch.isLt c.isLt i
  have hgrants : (judge u c.val (s.carParams c.val) (((s.chan ch.val).reqs.toList[c.val]?).join) i
      (decide (i.rate < ((s.chan ch.val).car c.val).ins.rate))).Grants := by
    rw [Verdict.Grants, ← hmode, ← hdoorF, ← hdoorR]
    exact hg
  obtain ⟨p, q, hp, hq, hen, hl0, hr1, hfresh, vmode, vF, vR⟩ := judge_grants hgrants
  have gmode : g.mode = (runGrant p q i).1 := hmode.trans vmode
  have gF : g.doorF = (doorRule p q.doorF _ i _).1 := hdoorF.trans vF
  have gR : g.doorR = (doorRule p q.doorR _ i _).1 := hdoorR.trans vR
  refine ⟨p, q, hp, hen, hlatch.trans hl0, hrel.trans hr1, hq, ?_, fun hm => ?_, fun hf => doorRule_granted (gF.symm.trans hf),
    fun hr => doorRule_granted (gR.symm.trans hr)⟩
  · rw [htime.safeNow] at hfresh
    exact hfresh
  · obtain ⟨hrun, hasked, hchain, habove, hopen⟩ := runGrant_running (gmode ▸ hm)
    rw [gmode, hrun]
    exact ⟨hasked, hchain, habove, hopen, SafeReq.runMode_normal⟩

/-- A relay is energised only while both channels command it (R16). -/
theorem State.relayOn_commanded {s : State} {relay : Nat} (h : s.relayOn relay = true) (ch : Fin 2) : let g := (s.chan ch.val).car (relay / 2)
    (relay % 2 = 0 → g.mode ≠ 0) ∧ (relay % 2 = 1 → g.doorF = true ∨ g.doorR = true) := by
  unfold State.relayOn at h
  obtain ⟨h0, h1⟩ := (Bool.and_eq_true _ _).mp h
  have key : ∀ k : ChanSt, (if relay % 2 = 0 then (k.car (relay / 2)).run else (k.car (relay / 2)).doorRelay) = true →
      (relay % 2 = 0 → (k.car (relay / 2)).mode ≠ 0) ∧ (relay % 2 = 1 → (k.car (relay / 2)).doorF = true ∨ (k.car (relay / 2)).doorR = true) := by
    intro k hk
    refine ⟨fun he => ?_, fun ho => ?_⟩
    · rw [if_pos he] at hk
      simpa [ChanCar.run] using hk
    · rw [if_neg (by omega)] at hk
      simpa [ChanCar.doorRelay] using hk
  match ch with
  | ⟨0, _⟩ => exact key _ h0
  | ⟨1, _⟩ => exact key _ h1

/-! ### Latches (R197) -/

theorem State.safeLatch_completes (s : State) {c : Nat} (bit : Nat) (h : c < 8) : let t := s.safeLatch c bit
    (t.safeCar c).latch = (s.safeCar c).latch ||| BitVec.ofNat 6 (2 ^ bit) ∧ (t.safeCar c).released = false ∧ t.carSafe c = true ∧
      (∀ k, k ≠ c → t.safeCar k = s.safeCar k) ∧ t.regs = s.regs ∧ t.points = s.points := by
  have hsame : (s.safeLatch c bit).safeCar c = (s.safeCar c).latched bit := (s.safeCar_safeLatch bit h c).trans (if_pos rfl)
  exact ⟨congrArg SafeCar.latch hsame, congrArg SafeCar.released hsame, s.carSafe_safeLatch bit h,
    fun k hk => (s.safeCar_safeLatch bit h k).trans (if_neg hk), rfl, rfl⟩

/-! ### The start (R17) -/

/-- A car's record as a start leaves it: no release, no contact operated; its latches stay. -/
def SafeCar.started (x : SafeCar) : SafeCar := { x with released := false, operated := none, clearable := false, inTime := false }

/-- The channels running anew, with nothing asked for. -/
def State.chansStarted (s : State) : State :=
  { s with safe := { s.safe with chans := Vector.replicate 2 { ChanSt.zero with running := true }, asked := none, seq := 0 } }

theorem exec_safetyDieStart_lift {s : State} (h : s.hasLift = true) : exec .safetyDieStart s =
    .next ((List.range 8).foldl (fun s c => s.setSafeCar c (s.safeCar c).started) s.chansStarted) := by
  simp only [exec_safetyDieStart, execSafetyDieStart, h, if_true]
  rfl

theorem State.chan_chansStarted (s : State) (ch : Fin 2) : s.chansStarted.chan ch.val = { ChanSt.zero with running := true } := by
  match ch with
  | ⟨0, _⟩ => rfl
  | ⟨1, _⟩ => rfl

theorem ChanSt.car_running (c : Fin 8) : ({ ChanSt.zero with running := true } : ChanSt).car c.val = ChanCar.zero := by
  have : ∀ c : Fin 8, ({ ChanSt.zero with running := true } : ChanSt).car c.val = ChanCar.zero := by decide
  exact this c

theorem State.dieStart_completes (s : State) : let t := (List.range 8).foldl (fun s c => s.setSafeCar c (s.safeCar c).started) s.chansStarted
    t.safe.params = s.safe.params ∧ t.safe.asked = none ∧ t.safe.seq = 0 ∧ t.regs = s.regs ∧ t.points = s.points ∧
      ∀ (ch : Fin 2) (c : Fin 8), (t.chan ch.val).running = true ∧ ((t.chan ch.val).car c.val).mode = 0 ∧ (t.safeCar c.val).released = false ∧
        (t.safeCar c.val).latch = (s.safeCar c.val).latch ∧ t.carSafe c.val = true := by
  intro t
  obtain ⟨⟨k, hk⟩, hcar⟩ := State.rewriteCars SafeCar.started (List.range 8) s.chansStarted (fun c hc => List.mem_range.1 hc) (by decide)
  have hchan : ∀ ch : Fin 2, t.chan ch.val = { ChanSt.zero with running := true } := fun ch => by
    rw [← s.chan_chansStarted ch]
    exact (congrArg (fun x => State.chan x ch.val) hk).trans rfl
  have hstarted : ∀ c : Fin 8, t.safeCar c.val = (s.safeCar c.val).started := fun c => (hcar c.val).trans (if_pos (List.mem_range.2 c.isLt))
  have hzero : ∀ (ch : Fin 2) (c : Fin 8), (t.chan ch.val).car c.val = ChanCar.zero := fun ch c => by rw [hchan]; exact ChanSt.car_running c
  have ht : t = { s.chansStarted with safe := { s.chansStarted.safe with cars := k } } := hk
  refine ⟨by rw [ht]; rfl, by rw [ht]; rfl, by rw [ht]; rfl, by rw [ht]; rfl, by rw [ht]; rfl, fun ch c => ⟨by rw [hchan], by rw [hzero]; rfl, by rw [hstarted]; rfl,
    by rw [hstarted]; rfl, ?_⟩⟩
  have h0 := hzero 0 c
  exact State.carSafe_of_no_grant (congrArg ChanCar.mode h0) (congrArg ChanCar.doorF h0) (congrArg ChanCar.doorR h0)

/-! ### Parameters (R199) -/

theorem State.safetyApply_asked {s : State} {x : SafetySet} {at_ : Nat} (h : s.safe.asked = some (x, at_)) : s.safetyApply =
    if s.enabledCars.all (fun c => (s.safeCar c).inTime) then
      if s.enabledCars.all s.carSafe then { s with safe := { s.safe with params := some x, asked := none } } else s
    else if at_ + 600 * secCounts < s.safeNow then { s with safe := { s.safe with asked := none } }
    else s := by
  rw [State.safetyApply, h]

/-- Settles O31: the requests, a channel's grants through its judgement, the latches, the parameters, the start and the mirror. -/
theorem safetyDie : Obligations.SafetyDie := by
  refine ⟨?request, fun s c h => State.carRequest_idle c h, ?evaluation, State.evalCar_conditions, ?above, fun s relay h => State.relayOn_commanded h, ?disagree,
    ?readback, ?clear, ?ask, ?apply, ?start, ?mirror⟩
  case request =>
    intro s
    refine ⟨fun h => ?_, fun h => ⟨s.safetyRequest, ?_, s.safetyRequest_completes⟩⟩ <;> simp [execSafetyRequest, h]
  case evaluation =>
    intro s ch ins
    refine ⟨fun h => ?_, fun h hrun => ?_⟩
    · refine congrArg Host.Outcome.next (if_neg ?_)
      rcases h with h | h <;> simp [h]
    · exact congrArg Host.Outcome.next (if_pos ⟨h, hrun⟩)
  case above => exact fun p lim i => by simp [SafetyCar.above]
  case disagree =>
    intro s car
    refine ⟨fun h => ?_, fun h hd => ⟨s.safeLatch car.val 4, congrArg Host.Outcome.next (if_pos ⟨h, hd⟩), ?_⟩⟩
    · refine congrArg Host.Outcome.next (if_neg ?_)
      rcases h with h | h <;> simp [h]
    · obtain ⟨hlatch, hrel, hsafe, hother, hregs, hpoints⟩ := s.safeLatch_completes 4 car.isLt
      exact ⟨hlatch, hrel, hsafe, fun k hk => hother k.val (fun e => hk (Fin.ext e)), hregs, hpoints⟩
  case readback =>
    intro s ch relay c bad
    refine ⟨fun h => ?_, fun h => ⟨s.safeLatch c 3, congrArg Host.Outcome.next (if_pos (by simpa [bad] using h)), ?_⟩⟩
    · refine congrArg Host.Outcome.next (if_neg fun k => ?_)
      simp [bad, k] at h
    · obtain ⟨hlatch, hrel, hsafe, hother, hregs, hpoints⟩ := s.safeLatch_completes 3 (show c < 8 by omega)
      exact ⟨hlatch, hrel, hsafe, fun k hk => hother k.val hk, hregs, hpoints⟩
  case clear =>
    exact fun s car => ⟨fun h => congrArg Host.Outcome.next (if_neg (by simp [h])), fun h => congrArg Host.Outcome.next (if_pos h)⟩
  case ask =>
    intro s set ok
    refine ⟨fun h => congrArg Host.Outcome.next (if_neg fun k => ?_), fun h => congrArg Host.Outcome.next (if_pos ?_)⟩
    · obtain ⟨hlift, hany, hver⟩ := k
      simp only [ok, hlift, hany, hver, Bool.and_self] at h
      exact absurd h (by decide)
    · simpa only [ok, Bool.and_eq_true, and_assoc] using h
  case apply =>
    intro s
    refine ⟨fun h => ?_, fun x at_ h => ?_⟩
    · refine congrArg Host.Outcome.next (?_ : s.safetyApply = s)
      rw [State.safetyApply, h]
    · have hexec : exec .safetyParamApply s = .next s.safetyApply := rfl
      have hspan : 600 * secCounts = 150000000000 := rfl
      rw [State.safetyApply_asked h, hspan] at hexec
      refine ⟨fun hop hs => ?_, fun hop hs => ?_, fun hop ht => ?_, fun hop ht => ?_⟩
      · rw [hexec, if_pos hop, if_pos hs]
      · rw [hexec, if_pos hop, if_neg (by simp [hs])]
      · rw [hexec, if_neg (by simp [hop]), if_pos ht]
      · rw [hexec, if_neg (by simp [hop]), if_neg (Nat.not_lt.2 ht)]
  case start =>
    refine fun s => ⟨fun h => ?_, fun h => ⟨_, exec_safetyDieStart_lift h, s.dieStart_completes⟩⟩
    simp [execSafetyDieStart, h]
  case mirror =>
    intro s live
    refine ⟨fun h => congrArg Host.Outcome.next (State.mirrorUpdate_dead h), fun h => ?_⟩
    obtain ⟨t, e, ht⟩ := State.mirrorUpdate_completes h
    exact ⟨t, congrArg Host.Outcome.next e, ht⟩

end Sys2Proof.Machine
end

section
/-! Canonical memories (R34, R289; log entry 3; O60): the predicate, and how the model composes its operations.

A lemma of an operation carries the name of the operation, so a proof reads as the operation does: `h.setBit.record` says that the state
`(s.setBit ..).record ..` is canonical because `s` is. Where an operation chooses, `.ite` takes a proof for each branch, `h.orElse fun k => ..` for an
operation under a condition, `h.elseOr fun k => ..` for one under its negation. -/

namespace Sys2Proof.Machine

theorem Tab.above_filter {α : Type} {k : Nat} (p : Nat × α → Bool) : ∀ m : Tab α, Tab.above k m = true → Tab.above k (m.filter p) = true
  | [], _ => rfl
  | e :: m, h => by
    obtain ⟨he, hm⟩ := Bool.and_eq_true_iff.1 h
    rw [List.filter_cons]
    split
    · exact Bool.and_eq_true_iff.2 ⟨he, Tab.above_filter p m hm⟩
    · exact Tab.above_filter p m hm

theorem Tab.wf_filter {α : Type} [DecidableEq α] (d : Nat → α) (p : Nat × α → Bool) : ∀ m
    : Tab α, Tab.wf d m = true → Tab.wf d (m.filter p) = true
  | [], _ => rfl
  | e :: m, h => by
    obtain ⟨he, hm⟩ := Bool.and_eq_true_iff.1 h
    obtain ⟨ha, hd⟩ := Bool.and_eq_true_iff.1 he
    rw [List.filter_cons]
    split
    · exact Bool.and_eq_true_iff.2 ⟨Bool.and_eq_true_iff.2 ⟨Tab.above_filter p m ha, hd⟩, Tab.wf_filter d p m hm⟩
    · exact Tab.wf_filter d p m hm

/-- A memory without some of its bytes stays canonical. -/

theorem Memory.wf_filter (p : Host.Cell → Bool) (m : Memory) (h : Memory.wf m = true) : Memory.wf (m.filter p) = true :=
  Tab.wf_filter _ p m h

/-- Every memory of the state is in canonical form (R34, R289; log entry 3): core memory, the Locket, LPDDR5 and the Charm. -/
structure State.Canonical (s : State) : Prop where
  mem : Memory.wf s.scan.mem = true
  locket : Memory.wf s.locket = true
  lpddr : Memory.wf s.lpddr = true
  charm : Memory.wf s.charm.mem = true

/-- Where a command or a step goes on, its state is canonical. -/
def Out.Canonical : Out → Prop
  | .next t => t.Canonical
  | _ => True

/-- What the body of an instruction leaves is canonical. -/
def Res.Canonical : Res → Prop
  | .done t | .jump t _ | .whole t => t.Canonical
  | .exc _ _ | .wait _ => True
  | .stop o => o.Canonical

/-- The state a block's write leaves is canonical, where the block has one of its own. -/
def CanonicalIn (o : Option State) : Prop := ∀ t ∈ o, t.Canonical

theorem State.canonical_iff (s : State) : s.Canonical ↔ s.memoriesWf = true := by
  simp only [State.memoriesWf, Bool.and_eq_true]
  exact ⟨fun ⟨m, k, l, c⟩ => ⟨⟨⟨m, k⟩, l⟩, c⟩, fun ⟨⟨⟨m, k⟩, l⟩, c⟩ => ⟨m, k, l, c⟩⟩

section
variable {s t : State} {c : Prop} [Decidable c]

theorem State.Canonical.of_eq (h : s.Canonical)
    (e : (t.scan.mem, t.locket, t.lpddr, t.charm.mem) = (s.scan.mem, s.locket, s.lpddr, s.charm.mem)) : t.Canonical := by
  simp only [Prod.mk.injEq] at e
  obtain ⟨hm, hk, hl, hc⟩ := e
  exact ⟨hm ▸ h.mem, hk ▸ h.locket, hl ▸ h.lpddr, hc ▸ h.charm⟩

/-- A record update that leaves the four memories keeps them canonical; `rfl` sees which updates do. -/

theorem State.Canonical.kept (h : s.Canonical)
    (e : (t.scan.mem, t.locket, t.lpddr, t.charm.mem) = (s.scan.mem, s.locket, s.lpddr, s.charm.mem) := by with_reducible rfl)
      : t.Canonical :=
  h.of_eq e

/-! ### Updates of the other fields of the state -/

theorem State.Canonical.withRegs (h : s.Canonical) {x} : State.Canonical { s with regs := x } := ⟨h.mem, h.locket, h.lpddr, h.charm⟩
theorem State.Canonical.withFree (h : s.Canonical) {x} : State.Canonical { s with free := x } := ⟨h.mem, h.locket, h.lpddr, h.charm⟩
theorem State.Canonical.withCnt (h : s.Canonical) {x} : State.Canonical { s with cnt := x } := ⟨h.mem, h.locket, h.lpddr, h.charm⟩
theorem State.Canonical.withCntFrac (h : s.Canonical) {x} : State.Canonical { s with cntFrac := x } := ⟨h.mem, h.locket, h.lpddr, h.charm⟩
theorem State.Canonical.withReply (h : s.Canonical) {x} : State.Canonical { s with reply := x } := ⟨h.mem, h.locket, h.lpddr, h.charm⟩
theorem State.Canonical.withPoints (h : s.Canonical) {x} : State.Canonical { s with points := x } := ⟨h.mem, h.locket, h.lpddr, h.charm⟩
theorem State.Canonical.withRoster (h : s.Canonical) {x} : State.Canonical { s with roster := x } := ⟨h.mem, h.locket, h.lpddr, h.charm⟩
theorem State.Canonical.withEvt (h : s.Canonical) {x} : State.Canonical { s with evt := x } := ⟨h.mem, h.locket, h.lpddr, h.charm⟩
theorem State.Canonical.withTime (h : s.Canonical) {x} : State.Canonical { s with time := x } := ⟨h.mem, h.locket, h.lpddr, h.charm⟩
theorem State.Canonical.withHost (h : s.Canonical) {x} : State.Canonical { s with host := x } := ⟨h.mem, h.locket, h.lpddr, h.charm⟩
theorem State.Canonical.withBus (h : s.Canonical) {x} : State.Canonical { s with bus := x } := ⟨h.mem, h.locket, h.lpddr, h.charm⟩
theorem State.Canonical.withField (h : s.Canonical) {x} : State.Canonical { s with field := x } := ⟨h.mem, h.locket, h.lpddr, h.charm⟩
theorem State.Canonical.withPwr (h : s.Canonical) {x} : State.Canonical { s with pwr := x } := ⟨h.mem, h.locket, h.lpddr, h.charm⟩
theorem State.Canonical.withKey (h : s.Canonical) {x} : State.Canonical { s with key := x } := ⟨h.mem, h.locket, h.lpddr, h.charm⟩
theorem State.Canonical.withLoop (h : s.Canonical) {x} : State.Canonical { s with loop := x } := ⟨h.mem, h.locket, h.lpddr, h.charm⟩
theorem State.Canonical.withMirrorAt (h : s.Canonical) {x} : State.Canonical { s with mirrorAt := x } := ⟨h.mem, h.locket, h.lpddr, h.charm⟩
theorem State.Canonical.withLift (h : s.Canonical) {x} : State.Canonical { s with lift := x } := ⟨h.mem, h.locket, h.lpddr, h.charm⟩
theorem State.Canonical.withDisp (h : s.Canonical) {x} : State.Canonical { s with disp := x } := ⟨h.mem, h.locket, h.lpddr, h.charm⟩
theorem State.Canonical.withSafe (h : s.Canonical) {x} : State.Canonical { s with safe := x } := ⟨h.mem, h.locket, h.lpddr, h.charm⟩
theorem State.Canonical.withMeter (h : s.Canonical) {x} : State.Canonical { s with meter := x } := ⟨h.mem, h.locket, h.lpddr, h.charm⟩
theorem State.Canonical.withNet (h : s.Canonical) {x} : State.Canonical { s with net := x } := ⟨h.mem, h.locket, h.lpddr, h.charm⟩
theorem State.Canonical.withAcc (h : s.Canonical) {x} : State.Canonical { s with acc := x } := ⟨h.mem, h.locket, h.lpddr, h.charm⟩
theorem State.Canonical.withFwu (h : s.Canonical) {x} : State.Canonical { s with fwu := x } := ⟨h.mem, h.locket, h.lpddr, h.charm⟩
theorem State.Canonical.withNand (h : s.Canonical) {x} : State.Canonical { s with nand := x } := ⟨h.mem, h.locket, h.lpddr, h.charm⟩
theorem State.Canonical.withSettings (h : s.Canonical) {x} : State.Canonical { s with settings := x } := ⟨h.mem, h.locket, h.lpddr, h.charm⟩

theorem State.Canonical.withDebugEnds (h : s.Canonical) {x} : State.Canonical
    { s with debugEnds := x } := ⟨h.mem, h.locket, h.lpddr, h.charm⟩

theorem State.Canonical.withLinkErrs (h : s.Canonical) {x} : State.Canonical { s with linkErrs := x } := ⟨h.mem, h.locket, h.lpddr, h.charm⟩
theorem State.Canonical.withPending (h : s.Canonical) {x} : State.Canonical { s with pending := x } := ⟨h.mem, h.locket, h.lpddr, h.charm⟩

theorem State.Canonical.withScan (h : s.Canonical) {x} (e : x.mem = s.scan.mem := by rfl) : State.Canonical { s with scan := x } :=
  ⟨(congrArg Memory.wf e).trans h.mem, h.locket, h.lpddr, h.charm⟩

theorem State.Canonical.withCharm (h : s.Canonical) {x : CharmSt} (hx : Memory.wf x.mem = true) : State.Canonical { s with charm := x } :=
  ⟨h.mem, h.locket, h.lpddr, hx⟩

/-! ### How the model composes operations -/

theorem State.Canonical.ite (hs : s.Canonical) (ht : t.Canonical) : (if c then s else t).Canonical := by
  split <;> assumption

/-- An operation made under a condition. -/
theorem State.Canonical.orElse (hs : s.Canonical) (ht : s.Canonical → t.Canonical) : (if c then t else s).Canonical := .ite (ht hs) hs
theorem State.Canonical.elseOr (hs : s.Canonical) (ht : s.Canonical → t.Canonical) : (if c then s else t).Canonical := .ite hs (ht hs)

theorem State.Canonical.iteBoth {u : State} (hs : s.Canonical) (ht : s.Canonical → t.Canonical) (hu : s.Canonical → u.Canonical) :
    (if c then t else u).Canonical :=
  .ite (ht hs) (hu hs)

theorem State.Canonical.foldl {α : Type} {f : State → α → State} {l : List α} (h : s.Canonical)
    (hf : ∀ t a, t.Canonical → (f t a).Canonical) : (l.foldl f s).Canonical := by
  induction l generalizing s with
  | nil => exact h
  | cons a l ih => exact ih (hf _ _ h)

theorem State.Canonical.fst {α : Type} {a : α} (h : s.Canonical) : (s, a).1.Canonical := h

theorem State.Canonical.fst_ite {α : Type} {p q : State × α} (hp : p.1.Canonical) (hq : q.1.Canonical)
    : (if c then p else q).1.Canonical := by
  split <;> assumption

theorem State.Canonical.fst_foldl {α β : Type} {f : State × β → α → State × β} {l : List α} {p : State × β} (h : p.1.Canonical)
    (hf : ∀ q a, q.1.Canonical → (f q a).1.Canonical) : (l.foldl f p).1.Canonical := by
  induction l generalizing p with
  | nil => exact h
  | cons a l ih => exact ih (hf _ _ h)

theorem State.Canonical.next (h : s.Canonical) : Out.Canonical (.next s) := h
theorem Out.Canonical.fault {f : Fault} : Out.Canonical (.fault f) := trivial

theorem Out.Canonical.ite {o p : Out} (ho : o.Canonical) (hp : p.Canonical) : Out.Canonical (if c then o else p) := by
  split <;> assumption

theorem Out.Canonical.of_eq {o : Out} (h : o.Canonical) (e : o = .next t) : t.Canonical := by
  subst e
  exact h

theorem State.Canonical.done (h : s.Canonical) : Res.Canonical (.done s) := h
theorem State.Canonical.jump (h : s.Canonical) {a} : Res.Canonical (.jump s a) := h
theorem State.Canonical.whole (h : s.Canonical) : Res.Canonical (.whole s) := h
theorem Res.Canonical.exc {cause addr} : Res.Canonical (.exc cause addr) := trivial
theorem Res.Canonical.wait {w} : Res.Canonical (.wait w) := trivial
theorem Out.Canonical.stop {o : Out} (h : o.Canonical) : Res.Canonical (.stop o) := h

theorem Res.Canonical.ite {o p : Res} (ho : o.Canonical) (hp : p.Canonical) : Res.Canonical (if c then o else p) := by
  split <;> assumption

theorem State.Canonical.some (h : s.Canonical) : CanonicalIn (some s) := fun _ e => Option.some.inj e ▸ h
theorem CanonicalIn.none : CanonicalIn none := fun t ht => absurd ht (Option.not_mem_none t)

theorem CanonicalIn.ite {o p : Option State} (ho : CanonicalIn o) (hp : CanonicalIn p) : CanonicalIn (if c then o else p) := by
  split <;> assumption

theorem CanonicalIn.getD {o : Option State} (ho : CanonicalIn o) (h : s.Canonical) : (o.getD s).Canonical := by
  cases o with
  | none => exact h
  | some t => exact ho t rfl

end

end Sys2Proof.Machine
end

section
/-! Canonical memories (R34, R289; log entry 3; O60): the recorder, the cores, their lessons and the roster. -/

namespace Sys2Proof.Machine

-- One proof at a time: the proofs of this part are large, and elaborated side by side they take more memory than a compile has.
set_option Elab.async false

variable {s : State}

/-! ### Machine/Ops -/

theorem State.Canonical.wr (h : s.Canonical) {a v} : (s.wr a v).Canonical := h.withRegs
theorem State.Canonical.setFld (h : s.Canonical) {a hi lo v} : (s.setFld a hi lo v).Canonical := h.wr
theorem State.Canonical.setBit (h : s.Canonical) {a i b} : (s.setBit a i b).Canonical := h.wr
theorem State.Canonical.incSat (h : s.Canonical) {a hi lo} : (s.incSat a hi lo).Canonical := h.setFld
theorem State.Canonical.inc (h : s.Canonical) {a} : (s.inc a).Canonical := h.wr
theorem State.Canonical.addSat (h : s.Canonical) {a n} : (s.addSat a n).Canonical := h.wr
theorem State.Canonical.advanceTo (h : s.Canonical) {t} : (s.advanceTo t).Canonical := .ite h.withCnt h
theorem State.Canonical.nextFree (h : s.Canonical) : s.nextFree.Canonical := h.withFree
theorem State.Canonical.irq (h : s.Canonical) {n} : (s.irq n).Canonical := h.setBit.setBit.orElse fun k => k.withHost
theorem State.Canonical.storeAt (h : s.Canonical) {a b} : (s.storeAt a b).Canonical := { h with mem := Memory.wf_writeN _ _ _ h.mem }
theorem State.Canonical.setPoint (h : s.Canonical) {i p} : (s.setPoint i p).Canonical := h.withPoints
theorem State.Canonical.setCore (h : s.Canonical) {c k} : (s.setCore c k).Canonical := h.of_eq rfl
theorem State.Canonical.setLesson (h : s.Canonical) {n l} : (s.setLesson n l).Canonical := h.of_eq rfl

theorem State.Canonical.updLesson (h : s.Canonical) {n f} : (s.updLesson n f).Canonical := by
  unfold State.updLesson
  split
  · exact h.setLesson
  · exact h

theorem State.Canonical.setEntry (h : s.Canonical) {e x} : (s.setEntry e x).Canonical := h.of_eq rfl

/-! ### Machine/NandOps -/

theorem State.Canonical.erase (h : s.Canonical) {area block} : (s.erase area block).Canonical := h.withNand
theorem State.Canonical.erased (h : s.Canonical) : s.erased.Canonical := h.withNand

/-! ### Machine/Events -/

theorem State.Canonical.showSeq (h : s.Canonical) {a r} : (s.showSeq a r).Canonical := by
  unfold State.showSeq
  split
  · exact h.wr
  · exact h

theorem State.Canonical.evtRegs (h : s.Canonical) : s.evtRegs.Canonical := h.setFld.setBit.showSeq.showSeq.showSeq

theorem State.Canonical.ringErase (h : s.Canonical) {put} : (s.ringErase put).Canonical :=
  (h.foldl fun _ _ k => k.erase).foldl fun _ _ k => k.erase

theorem State.Canonical.flush (h : s.Canonical) : s.flush.Canonical := .ite h h.ringErase.withEvt.evtRegs

theorem State.Canonical.countLost (h : s.Canonical) {sev} : (s.countLost sev).Canonical := by
  unfold State.countLost
  split
  · exact h.incSat
  · exact h

theorem State.Canonical.ringPut (h : s.Canonical) {r} : (s.ringPut r).Canonical := h.withEvt.countLost
theorem State.Canonical.traceTrigger (h : s.Canonical) : s.traceTrigger.Canonical := .ite h.withLoop.setFld.wr.wr h
theorem State.Canonical.nextEvent (h : s.Canonical) : s.nextEvent.Canonical := h.withEvt

theorem State.Canonical.recordSignals (h : s.Canonical) {it ms} : (s.recordSignals it ms).Canonical :=
  ((h.orElse fun k => k.irq).orElse fun k => k.irq).orElse fun k => k.traceTrigger

theorem State.Canonical.recordFlush (h : s.Canonical) {it ms} : (s.recordFlush it ms).Canonical := .ite h.flush h

theorem State.Canonical.recordRep (h : s.Canonical) {it repeats} : (s.recordRep it repeats).Canonical :=
  .ite h.incSat h.nextEvent.ringPut.evtRegs.recordSignals.recordFlush

theorem State.Canonical.record (h : s.Canonical) {it} : (s.record it).Canonical := h.recordRep

theorem State.Canonical.recordWindow (h : s.Canonical) {key len it} : (s.recordWindow key len it).Canonical := by
  unfold State.recordWindow
  split
  · exact h.withEvt
  · exact h.record.withEvt

/-! ### Machine/HostPath -/

theorem State.Canonical.setLastErr (h : s.Canonical) {n code} : (s.setLastErr n code).Canonical := h.withHost
theorem State.Canonical.dropNotOwner (h : s.Canonical) {n} : (s.dropNotOwner n).Canonical := h.setLastErr.incSat.recordWindow
theorem State.Canonical.setPhase (h : s.Canonical) {new session} : (s.setPhase new session).Canonical := .ite h h.setFld.setBit.record
theorem State.Canonical.debugEvent (h : s.Canonical) {kind} : (s.debugEvent kind).Canonical := h.record
theorem State.Canonical.debugEnd (h : s.Canonical) : s.debugEnd.Canonical := .ite h.wr.debugEvent h

/-! ### Machine/PointBase -/

theorem State.Canonical.locketWrite (h : s.Canonical) {a b} : (s.locketWrite a b).Canonical :=
  .ite h { h with locket := Memory.wf_writeN _ _ _ h.locket }

theorem State.Canonical.retainPoint (h : s.Canonical) {i} : (s.retainPoint i).Canonical := by
  unfold State.retainPoint
  dsimp only
  split
  · split
    · split
      · exact h.locketWrite
      · exact h
    · exact h
  · exact h

/-! ### Machine/FieldOps -/

theorem State.Canonical.doUpdate (h : s.Canonical) {d} : (s.doUpdate d).Canonical := by
  unfold State.doUpdate
  dsimp only
  split
  · exact h.setBit
  · split
    · exact h
    · split
      · exact h.setBit
      · split
        · split
          · exact h.setBit
          · exact h
          · exact h.setBit
        · exact h.setBit

theorem State.Canonical.aoZero (h : s.Canonical) {a} : (s.aoZero a).Canonical := h.setFld.setBit

theorem State.Canonical.aoUpdate (h : s.Canonical) {a} : (s.aoUpdate a).Canonical := by
  unfold State.aoUpdate
  exact .ite h.aoZero <| .ite h <| .ite h.aoZero <| .ite (.ite h h.aoZero) h.setFld.setBit

theorem State.Canonical.setDaliLine (h : s.Canonical) {l x} : (s.setDaliLine l x).Canonical := h.withField
theorem State.Canonical.daliQueue (h : s.Canonical) {l e v} : (s.daliQueue l e v).Canonical := h.setDaliLine

theorem State.Canonical.daliFollow (h : s.Canonical) {e} : (s.daliFollow e).Canonical := by
  unfold State.daliFollow
  dsimp only
  split
  · exact (h.orElse fun k => k.incSat).orElse fun k => k.daliQueue
  · exact (h.orElse fun k => k.incSat).orElse fun k => k.setDaliLine

theorem State.Canonical.daliRefreshLine (h : s.Canonical) {l} : (s.daliRefreshLine l).Canonical :=
  h.foldl fun _ _ k => by split; exacts [k.daliQueue, k]

theorem State.Canonical.follow (h : s.Canonical) {i} : (s.follow i).Canonical :=
  ((h.foldl fun _ _ k => k.doUpdate).foldl fun _ _ k => k.aoUpdate).foldl fun _ _ k => k.daliFollow

theorem State.Canonical.outputsUpdate (h : s.Canonical) : s.outputsUpdate.Canonical :=
  (h.foldl fun _ _ k => k.doUpdate).foldl fun _ _ k => k.aoUpdate

theorem State.Canonical.daliSettle (h : s.Canonical) {l} : (s.daliSettle l).Canonical := by
  unfold State.daliSettle
  exact .ite h.setDaliLine.setFld <| .ite h.setDaliLine.setFld <| .ite h <| .ite h.setFld.daliRefreshLine h.setFld

theorem State.Canonical.daliSettleAll (h : s.Canonical) : s.daliSettleAll.Canonical := h.foldl fun _ _ k => k.daliSettle

/-! ### Machine/PointOps -/

theorem State.Canonical.commitPoint (h : s.Canonical) {i c} : (s.commitPoint i c).Canonical := h.setPoint.retainPoint.follow
theorem State.Canonical.setQual (h : s.Canonical) {i bit b} : (s.setQual i bit b).Canonical := h.setPoint.follow

/-! ### Machine/TxOps -/

theorem State.Canonical.emit (h : s.Canonical) {l} : (s.emit l).Canonical := h.withReply
theorem State.Canonical.emitMore (h : s.Canonical) {l} : (s.emitMore l).Canonical := h.withReply
theorem State.Canonical.setMac (h : s.Canonical) {n x} : (s.setMac n x).Canonical := h.withNet

theorem State.Canonical.frameOut (h : s.Canonical) {n f} : (s.frameOut n f).Canonical :=
  ((h.elseOr fun k => k.incSat.orElse fun k => k.incSat).orElse fun k => k.addSat).setMac.emit

theorem State.Canonical.missWindow (h : s.Canonical) {n f} : (s.missWindow n f).Canonical := .ite h h.setMac.incSat

theorem State.Canonical.tryFrame {r : State × List (BitVec 2)} (h : r.1.Canonical) {n f} : (State.tryFrame n r f).1.Canonical := by
  unfold State.tryFrame
  dsimp only
  split
  · exact h
  · split
    · exact h.setMac.frameOut
    · exact h.setMac.incSat.emit
    · exact h.missWindow
    · exact h

theorem State.Canonical.drainTx (h : s.Canonical) {n} : (s.drainTx n).Canonical :=
  .ite h (State.Canonical.fst_foldl h fun _ _ k => State.Canonical.tryFrame k)

theorem State.Canonical.queueTx (h : s.Canonical) {n f} : (s.queueTx n f).Canonical := (h.setMac.orElse fun k => k.incSat).drainTx
theorem State.Canonical.netTick (h : s.Canonical) : s.netTick.Canonical := .ite h (h.emit.foldl fun _ _ k => k.drainTx)
theorem State.Canonical.riserAdd (h : s.Canonical) {f} : (s.riserAdd f).Canonical := h.withNet.queueTx
theorem State.Canonical.riserSend (h : s.Canonical) {fs} : (s.riserSend fs).Canonical := h.emit.foldl fun _ _ k => k.riserAdd

/-! ### Machine/PowerOps -/

theorem State.Canonical.settleSource (h : s.Canonical) : s.settleSource.Canonical := h.setFld.setFld

theorem State.Canonical.diCommit (h : s.Canonical) {d} : (s.diCommit d).Canonical := by
  unfold State.diCommit
  split
  · exact h
  · exact h.withField.orElse fun k => k.commitPoint

theorem State.Canonical.diCommitAll (h : s.Canonical) : s.diCommitAll.Canonical := h.foldl fun _ _ k => k.diCommit

theorem State.Canonical.commitTime (h : s.Canonical) : s.commitTime.Canonical := by
  unfold State.commitTime
  split
  · exact h
  · exact h.commitPoint

theorem State.Canonical.setCoarse (h : s.Canonical) {b} : (s.setCoarse b).Canonical := .ite h h.setBit.commitTime

theorem State.Canonical.riserPhyOff (h : s.Canonical) {p} : (s.riserPhyOff p).Canonical :=
  h.setBit.setBit.setBit.setFld.orElse fun k => k.incSat.record

theorem State.Canonical.sleepCommit (h : s.Canonical) : s.sleepCommit.Canonical := by
  unfold State.sleepCommit
  split
  · extract_lets _ t u _ _ v
    have hu : u.Canonical := h.withPwr (x := t.pwr).incSat
    have hv : v.Canonical := hu.elseOr fun k => k.riserSend
    clear_value u v
    exact .ite (.ite hv.withPwr.riserPhyOff.riserPhyOff.settleSource.setCoarse hu) h
  · exact h

theorem State.Canonical.endAgreement (h : s.Canonical) : s.endAgreement.Canonical := h.setFld.withPwr.setBit.setBit.riserSend

theorem State.Canonical.sleepExit (h : s.Canonical) {src} : (s.sleepExit src).Canonical := by
  unfold State.sleepExit
  split
  · exact h.withPwr.orElse fun k => k.withPwr.diCommitAll.outputsUpdate.elseOr fun k => k.endAgreement
  · exact h

theorem State.Canonical.wakeRequest (h : s.Canonical) {src} : (s.wakeRequest src).Canonical := by
  unfold State.wakeRequest
  dsimp only
  split
  · exact h.sleepCommit
  · exact .ite (h.sleepCommit.setBit.incSat.withPwr.orElse fun k => k.endAgreement) (h.sleepCommit.setBit.orElse
      fun k => k.incSat).advanceTo.advanceTo.sleepExit

/-! ### Machine/HostGate -/

theorem State.Canonical.hostWrite (h : s.Canonical) {m} {f : State → State} (hf : ∀ {t}, t.Canonical → (f t).Canonical)
    : (s.hostWrite m f).Canonical := by
  cases m with
  | sess n =>
    have k : (s.wakeRequest 0).Canonical := h.wakeRequest
    exact .ite k (.ite (.ite k.incSat (hf k)) k.dropNotOwner)
  | steward => exact .ite h (.ite (.ite h.incSat (hf h)) h)

theorem State.Canonical.asPrefect (h : s.Canonical) {f : State → State} (hf : ∀ {t}, t.Canonical → (f t).Canonical) {m}
    : (s.asPrefect m f).Canonical :=
  h.hostWrite (fun k => .ite k (hf k))

theorem State.Canonical.throughView (h : s.Canonical) {m} {f : State → State} (hf : ∀ {t}, t.Canonical → (f t).Canonical)
    : (s.throughView m f).Canonical := by
  cases m with
  | sess n =>
    have k : (s.wakeRequest 0).Canonical := h.wakeRequest
    exact .ite k (.ite (hf k) k.dropNotOwner)
  | steward => exact .ite h (.ite (hf h) h)

theorem State.Canonical.hostRead (h : s.Canonical) {m v} {eff : State → State} (hf : ∀ {t}, t.Canonical → (eff t).Canonical) :
    (s.hostRead m v eff).Canonical := by
  cases m with
  | sess n =>
    have k : (s.wakeRequest 0).Canonical := h.wakeRequest
    exact .ite k (k.orElse hf).emit
  | steward => exact .ite h (h.orElse hf).emit

theorem State.Canonical.busCount (h : s.Canonical) {m a kind} : (s.busCount m a kind).Canonical := h.incSat.wr

theorem State.Canonical.overLink (h : s.Canonical) {f : State → State} (hf : ∀ {t}, t.Canonical → (f t).Canonical) {m a up}
    : (s.overLink m a up f).Canonical :=
  .ite (hf h) h.busCount

/-! ### Machine/CkptOps -/

theorem State.Canonical.keepCheckpoints (h : s.Canonical) {keep} : (s.keepCheckpoints keep).Canonical :=
  h.withScan.foldl fun _ _ k => k.erase

theorem State.Canonical.newestOnly (h : s.Canonical) : s.newestOnly.Canonical := h.keepCheckpoints
theorem State.Canonical.trimCheckpoints (h : s.Canonical) : s.trimCheckpoints.Canonical := h.keepCheckpoints
theorem State.Canonical.beginCheckpoint (h : s.Canonical) {waits} : (s.beginCheckpoint waits).Canonical := h.of_eq rfl
theorem State.Canonical.checkpoint (h : s.Canonical) : s.checkpoint.Canonical := h.beginCheckpoint

theorem State.Canonical.periodicCheckpoint (h : s.Canonical) : s.periodicCheckpoint.Canonical :=
  h.newestOnly.erased.beginCheckpoint.orElse fun k => k.newestOnly

theorem State.Canonical.saveLesson (h : s.Canonical) {n l} : (s.saveLesson n l).Canonical := by
  unfold State.saveLesson
  split
  · exact h
  · exact .ite h (h.withScan.orElse fun k => k.newestOnly)

/-! ### Machine/CoreOps -/

theorem State.Canonical.updCtx (h : s.Canonical) {c f} : (s.updCtx c f).Canonical := h.setCore
theorem State.Canonical.setG (h : s.Canonical) {c r v} : (s.setG c r v).Canonical := h.updCtx
theorem State.Canonical.setB (h : s.Canonical) {c r v} : (s.setB c r v).Canonical := h.updCtx
theorem State.Canonical.setPc (h : s.Canonical) {c v} : (s.setPc c v).Canonical := h.updCtx
theorem State.Canonical.setLs (h : s.Canonical) {c v} : (s.setLs c v).Canonical := h.updCtx
theorem State.Canonical.setWaiting (h : s.Canonical) {c w} : (s.setWaiting c w).Canonical := h.setCore

theorem State.Canonical.storeBytes (h : s.Canonical) {c a b} : (s.storeBytes c a b).Canonical := by
  unfold State.storeBytes
  dsimp only
  split
  · exact h.storeAt.updLesson
  · exact h.storeAt

theorem State.Canonical.loadSlot (h : s.Canonical) {k t} : (s.loadSlot k t).Canonical := h.wr

theorem State.Canonical.needSlot (h : s.Canonical) {t} : (s.needSlot t).Canonical := by
  unfold State.needSlot
  split
  · exact h
  · split
    · exact (h.orElse fun k => k.inc).loadSlot
    · exact h.inc.withRoster

theorem State.Canonical.settleSlots (h : s.Canonical) {was} : (s.settleSlots was).Canonical :=
  (h.foldl fun _ _ k => by split; exacts [.ite k k.withRoster, k]).foldl
    fun _ _ k => by split; exacts [(k.withRoster.orElse fun k => k.inc).loadSlot, k]

theorem State.Canonical.updEntryCtx (h : s.Canonical) {c lesson f} : (s.updEntryCtx c lesson f).Canonical := .ite h.setCore h.setCore

theorem State.Canonical.observe (h : s.Canonical) {e} : (s.observe e).Canonical := by
  unfold State.observe
  split
  · exact h.updEntryCtx.setEntry.orElse fun k => k.settleSlots
  · exact h

theorem State.Canonical.observeGroup (h : s.Canonical) {c t} : (s.observeGroup c t).Canonical := h.foldl fun _ _ k => k.observe
theorem State.Canonical.releaseLesson (h : s.Canonical) {c n} : (s.releaseLesson c n).Canonical := h.foldl fun _ _ k => k.setEntry
theorem State.Canonical.freeLock (h : s.Canonical) {c} : (s.freeLock c).Canonical := h.of_eq rfl
theorem State.Canonical.haltCore (h : s.Canonical) {c cause} : (s.haltCore c cause).Canonical := h.setCore
theorem State.Canonical.haltDeferred (h : s.Canonical) {c} : (s.haltDeferred c).Canonical := .ite h.haltCore h

theorem State.Canonical.breakClasp (h : s.Canonical) {c} : (s.breakClasp c).Canonical := by
  unfold State.breakClasp
  split
  · exact h
  · exact (h.foldl fun _ _ k => k.updEntryCtx.setEntry).freeLock.setCore.setLs.haltDeferred

theorem State.Canonical.copyLine (h : s.Canonical) {src dst} : (s.copyLine src dst).Canonical :=
  h.storeAt.foldl fun _ _ k => .ite k.withScan k

theorem State.Canonical.restoreState (h : s.Canonical) {c lines} : (s.restoreState c lines).Canonical := h.foldl fun _ _ k => k.copyLine
theorem State.Canonical.commitState (h : s.Canonical) {c lines} : (s.commitState c lines).Canonical := h.foldl fun _ _ k => k.copyLine
theorem State.Canonical.vacate (h : s.Canonical) {c} : (s.vacate c).Canonical := h.setCore.withScan

theorem State.Canonical.resumeLesson (h : s.Canonical) {c n} : (s.resumeLesson c n).Canonical := by
  unfold State.resumeLesson
  dsimp only
  split
  · exact h.setCore.updLesson
  · exact h

theorem State.Canonical.resumeBest (h : s.Canonical) {c} : (s.resumeBest c).Canonical := by
  unfold State.resumeBest
  split
  · exact h
  · split
    · exact .ite h.resumeLesson h
    · exact h

theorem State.Canonical.countSlot (h : s.Canonical) {slot lo} : (s.countSlot slot lo).Canonical := by
  unfold State.countSlot
  split
  · exact h.incSat
  · exact h

theorem State.Canonical.breakGuarantee (h : s.Canonical) {n l slot resource} : (s.breakGuarantee n l slot resource).Canonical :=
  h.inc.setBit.countSlot.record

theorem State.Canonical.countLate (h : s.Canonical) {n slot} : (s.countLate n slot).Canonical := h.updLesson.incSat.countSlot

theorem State.Canonical.dropPeriod (h : s.Canonical) {n cause} : (s.dropPeriod n cause).Canonical := by
  unfold State.dropPeriod
  split
  · exact h
  · rename_i l _
    extract_lets c t ls u v w
    have hw : w.Canonical := ((h.orElse fun k => k.breakClasp).releaseLesson.foldl fun _ _ k => k.setPoint.setQual).restoreState
    clear_value w
    exact (hw.iteBoth (fun k => k.vacate) fun k => k.setCore).setLesson.saveLesson.settleSlots.resumeBest

theorem State.Canonical.abandon (h : s.Canonical) {n cause} : (s.abandon n cause).Canonical := by
  unfold State.abandon
  split
  · exact h
  · exact .ite (h.dropPeriod.countLate.elseOr fun k => k.breakGuarantee) <| .ite h.dropPeriod.incSat.record h.dropPeriod.inc.record

theorem State.Canonical.endLesson (h : s.Canonical) {c n} : (s.endLesson c n).Canonical := by
  unfold State.endLesson
  split
  · exact h
  · exact (h.releaseLesson.foldl fun _ _ k => (k.iteBoth (fun k => k.commitPoint)
      fun k => k.setQual).setPoint).commitState.vacate.setLesson.saveLesson.settleSlots.resumeBest

theorem State.Canonical.preempt (h : s.Canonical) {c} : (s.preempt c).Canonical := by
  unfold State.preempt
  dsimp only
  split
  · split
    · exact .ite h.withScan.setCore.updLesson h
    · exact h
  · exact h

theorem State.Canonical.takeException (h : s.Canonical) {c cause exAddr} : (s.takeException c cause exAddr).Canonical := by
  unfold State.takeException
  dsimp only
  split
  · split
    · exact h.breakClasp
    · split
      · exact h.breakClasp
      · split
        · exact h.breakClasp.abandon
        · split
          · exact h.breakClasp.abandon
          · exact .ite h.breakClasp.abandon h.breakClasp.storeAt.storeAt.storeAt.setLs.setPc.preempt
  · exact h.breakClasp.setCore.setLs.setPc

theorem State.Canonical.afterStep (h : s.Canonical) {c} : (s.afterStep c).Canonical := .ite h.setCore h

theorem State.Canonical.countClasp (h : s.Canonical) {c} : (s.countClasp c).Canonical := by
  unfold State.countClasp
  dsimp only
  split
  · exact h.setCore
  · exact h

theorem State.Canonical.observeBound (h : s.Canonical) {c rs} : (s.observeBound c rs).Canonical :=
  h.foldl fun _ _ k => by split; exacts [by split; exacts [.ite k.observe k, k.updCtx], k]

theorem State.Canonical.finish (h : s.Canonical) {c next r} (hr : Res.Canonical r) : Out.Canonical (s.finish c next r) := by
  cases r with
  | done t => exact (State.Canonical.countClasp hr).setPc.afterStep.next
  | jump t a => exact (State.Canonical.countClasp hr).setPc.afterStep.next
  | whole t => exact (State.Canonical.afterStep hr).next
  | exc cause addr => exact h.takeException.afterStep.next
  | wait w => exact h.setWaiting.next
  | stop o => exact hr

theorem State.Canonical.settle (h : s.Canonical) {c next t r} (ht : t.Canonical) (hr : Res.Canonical r)
    : Out.Canonical (s.settle c next t r) := by
  cases r with
  | exc cause addr => exact h.finish (c := c) (next := next) .exc
  | done _ | jump _ _ | whole _ | wait _ | stop _ => exact ht.finish (c := c) (next := next) hr

theorem State.Canonical.runInstr (h : s.Canonical) {c i legal privileged uses} {body : State → Res} (hb : ∀
    {t}, t.Canonical → Res.Canonical (body t)) :
    Out.Canonical (s.runInstr c i legal privileged uses body) := by
  unfold State.runInstr
  extract_lets pc pre next word u
  have hu : u.Canonical := h.observeBound
  clear_value u
  refine .ite h.next (.ite (h.finish .exc) (.ite (h.finish .exc) (.ite (h.finish .exc) (.ite (h.finish .exc) (.ite (h.finish .exc) ?_)))))
  split
  · exact .ite (h.finish .exc) (hu.finish .wait)
  · exact h.settle hu (hb hu)

theorem State.Canonical.compute (h : s.Canonical) {c i gd srcs f} : Out.Canonical (s.compute c i gd srcs f) :=
  h.runInstr (fun k => k.setG.done)

theorem State.Canonical.computeOr (h : s.Canonical) {c i gd srcs cause f} : Out.Canonical (s.computeOr c i gd srcs cause f) :=
  h.runInstr (fun k => by split; exacts [k.setG.done, .exc])

theorem State.Canonical.alu (h : s.Canonical) {c i gd ga gb f} : Out.Canonical (s.alu c i gd ga gb f) := h.compute
theorem State.Canonical.aluV (h : s.Canonical) {c i gd ga gb f} : Out.Canonical (s.aluV c i gd ga gb f) := h.computeOr
theorem State.Canonical.divide (h : s.Canonical) {c i gd ga gb f} : Out.Canonical (s.divide c i gd ga gb f) := h.computeOr
theorem State.Canonical.requestHalt (h : s.Canonical) {c cause} : (s.requestHalt c cause).Canonical := .ite h <| .ite h.setCore h.haltCore
theorem State.Canonical.serveIrq (h : s.Canonical) {c} : (s.serveIrq c).Canonical := .ite h <| .ite (.ite h.setCore h) h.setCore.setLs.setPc

/-! ### Machine/LessonCtl -/

theorem State.Canonical.releasePsyncs (h : s.Canonical) {c} : (s.releasePsyncs c).Canonical := h.foldl fun _ _ k => k.updCtx.setEntry

theorem State.Canonical.lendNow (h : s.Canonical) {c i} : Res.Canonical (s.lendNow c i) := by
  unfold State.lendNow
  split
  · exact h.whole
  · exact .ite .exc <| .ite h.releasePsyncs.endLesson.whole h.releasePsyncs.setWaiting.whole

theorem State.Canonical.execLend (h : s.Canonical) {c} : Out.Canonical (execLend c s) := h.runInstr (fun k => k.lendNow)
theorem State.Canonical.execLslack (h : s.Canonical) {c gd} : Out.Canonical (execLslack c gd s) := h.runInstr (fun k => k.setG.done)

theorem State.Canonical.execLsleep (h : s.Canonical) {c ga} : Out.Canonical (execLsleep c ga s) :=
  h.runInstr (fun k => .ite .exc k.setWaiting.whole)

theorem State.Canonical.execLsleepExpiry (h : s.Canonical) {c} : Out.Canonical (execLsleepExpiry c s) := by
  unfold Machine.execLsleepExpiry
  split
  · exact .ite h.advanceTo.setWaiting.setPc.afterStep.next h.next
  · exact h.next

theorem State.Canonical.execLbell (h : s.Canonical) {c gd cls} : Out.Canonical (execLbell c gd cls s) := h.compute
theorem State.Canonical.openClasp (h : s.Canonical) {c} : (s.openClasp c).Canonical := h.setCore.setLs.setPc

theorem State.Canonical.execClasp (h : s.Canonical) {c} : Out.Canonical (execClasp c s) :=
  h.runInstr (fun k => .ite .exc <| .ite k.openClasp.whole k.withScan.setWaiting.whole)

theorem State.Canonical.issueHeld (h : s.Canonical) {e} : (s.issueHeld e).Canonical := by
  unfold State.issueHeld
  split
  · exact h.setEntry
  · exact h

theorem State.Canonical.closeClasp (h : s.Canonical) {c k} : (s.closeClasp c k).Canonical := by
  unfold State.closeClasp
  exact ((h.foldl fun _ _ k => k.issueHeld).foldl fun _ _ k => k.storeBytes).freeLock.setCore.setLs.setPc.haltDeferred.preempt.serveIrq

theorem State.Canonical.execUnclasp (h : s.Canonical) {c} : Out.Canonical (execUnclasp c s) :=
  h.runInstr (fun k => by split; exacts [k.closeClasp.whole, k.done])

theorem State.Canonical.execClaspSlotGrant (h : s.Canonical) : Out.Canonical (execClaspSlotGrant s) := by
  unfold Machine.execClaspSlotGrant
  split
  · exact .ite h.withScan.openClasp.afterStep.next h.next
  · exact h.next

theorem State.Canonical.takeLock (h : s.Canonical) {c} : (s.takeLock c).Canonical := by
  unfold State.takeLock
  dsimp only
  split
  · exact h.withScan.setCore
  · exact h.withScan

theorem State.Canonical.execClaspLockGrant (h : s.Canonical) {cluster} : Out.Canonical (execClaspLockGrant cluster s) := by
  unfold Machine.execClaspLockGrant
  split
  · exact h.withScan.takeLock.setWaiting.next
  · exact h.next

/-! ### Machine/PointTag -/

theorem State.Canonical.setGroup (h : s.Canonical) {n x} : (s.setGroup n x).Canonical := h.of_eq rfl

theorem State.Canonical.joinTransaction_start (h : s.Canonical) {n x bell} : (State.joinTransaction.start s n x bell).1.Canonical := by
  unfold State.joinTransaction.start
  split
  · exact h
  · exact h.setGroup

theorem State.Canonical.joinTransaction (h : s.Canonical) {n x bell} : (s.joinTransaction n x bell).1.Canonical := by
  unfold State.joinTransaction
  split
  · split
    · exact h
    · exact h.joinTransaction_start
  · exact h.joinTransaction_start

theorem State.Canonical.issueNow (h : s.Canonical) {c x} : (s.issueNow c x).Canonical := by
  unfold State.issueNow
  split
  · exact h
  · dsimp only
    split
    · exact (State.Canonical.setEntry (by split; exacts [.fst_ite (by split; exacts [h.joinTransaction, h]) h, h])).withScan.updCtx.setCore
    · exact (State.Canonical.setEntry (by split; exacts [.fst_ite (by split; exacts [h.joinTransaction, h]) h, h])).withScan.updCtx

theorem State.Canonical.issue (h : s.Canonical) {c i tag op} : Res.Canonical (s.issue c i tag op) := by
  unfold State.issue
  extract_lets tr inClasp t x u
  have ht : t.Canonical := h.orElse fun k => k.observeGroup
  clear_value t
  exact .ite .exc <| .ite .wait <| .ite (.ite .exc .wait) <| .ite ht.setWaiting.whole <|
    .ite ht.issueNow.done ht.inc.withScan.setWaiting.whole

theorem State.Canonical.pointOp (h : s.Canonical) {c i t pt uses n noWord op} : Out.Canonical (s.pointOp c i t pt uses n noWord op) :=
  h.runInstr (fun k => k.issue)

theorem State.Canonical.execPget (h : s.Canonical) {c gd t pt} : Out.Canonical (execPget c gd t pt s) := h.pointOp
theorem State.Canonical.execPget2 (h : s.Canonical) {c gd t pt} : Out.Canonical (execPget2 c gd t pt s) := h.pointOp
theorem State.Canonical.execPget4 (h : s.Canonical) {c gd t pt} : Out.Canonical (execPget4 c gd t pt s) := h.pointOp
theorem State.Canonical.execPgetvq (h : s.Canonical) {c gd t pt} : Out.Canonical (execPgetvq c gd t pt s) := h.pointOp
theorem State.Canonical.execPput (h : s.Canonical) {c gd t pt} : Out.Canonical (execPput c gd t pt s) := h.pointOp
theorem State.Canonical.execPput2 (h : s.Canonical) {c gd t pt} : Out.Canonical (execPput2 c gd t pt s) := h.pointOp
theorem State.Canonical.execPput4 (h : s.Canonical) {c gd t pt} : Out.Canonical (execPput4 c gd t pt s) := h.pointOp

theorem State.Canonical.execPsync (h : s.Canonical) {c gd t pt} : Out.Canonical (execPsync c gd t pt s) :=
  h.runInstr (fun k => .ite .exc k.issue)

theorem State.Canonical.execEmsg (h : s.Canonical) {c gd t unit typ ga len reply}
    : Out.Canonical (execEmsg c gd t unit typ ga len reply s) :=
  h.runInstr (fun k => .ite .exc k.issue)

theorem State.Canonical.execTwait (h : s.Canonical) {c gd t} : Out.Canonical (execTwait c gd t s) :=
  h.runInstr (fun k => .ite (.ite .exc .wait) k.observeGroup.setG.done)

theorem State.Canonical.execTtest (h : s.Canonical) {c gd t} : Out.Canonical (execTtest c gd t s) :=
  h.runInstr (fun k => .ite .exc (k.orElse fun k => k.observeGroup).setG.done)

theorem State.Canonical.execTmov (h : s.Canonical) {c gd t} : Out.Canonical (execTmov c gd t s) := h.compute

theorem State.Canonical.execTwaitm (h : s.Canonical) {c gd mask8} : Out.Canonical (execTwaitm c gd mask8 s) :=
  h.runInstr (fun k => .ite .exc <| .ite k.setG.done .wait)

theorem State.Canonical.execTagWaitEnd (h : s.Canonical) {c} : Out.Canonical (execTagWaitEnd c s) := by
  unfold Machine.execTagWaitEnd
  split
  · exact (h.orElse fun k => k.setWaiting).next
  · exact (h.elseOr fun k => k.setWaiting).next
  · exact (h.orElse fun k => k.setWaiting).next
  · split
    · exact (h.orElse fun k => k.endLesson.afterStep).next
    · exact h.next
  · exact h.next

theorem State.Canonical.execBoundWaitEnd (h : s.Canonical) {c} : Out.Canonical (execBoundWaitEnd c s) := by
  unfold Machine.execBoundWaitEnd
  split
  · exact (h.orElse fun k => k.setWaiting).next
  · exact h.next

theorem State.Canonical.execPoolEntryGrant (h : s.Canonical) : Out.Canonical (execPoolEntryGrant s) := by
  unfold Machine.execPoolEntryGrant
  split
  · split
    · exact h.withScan.setWaiting.issueNow.countClasp.setPc.afterStep.next
    · exact h.next
  · exact h.next

/-! ### Machine/ScanOps -/

theorem State.Canonical.readyLesson (h : s.Canonical) {n l count t} : (s.readyLesson n l count t).Canonical := h.setLesson.needSlot

theorem State.Canonical.bellLessons (h : s.Canonical) {cls count t} : (s.bellLessons cls count t).Canonical :=
  ((h.foldl fun _ _ k => k.abandon).foldl fun _ _ k => k.readyLesson).foldl fun _ _ k => k.preempt.resumeBest

theorem State.Canonical.writeHeader (h : s.Canonical) {l} : (s.writeHeader l).Canonical := h.storeAt.storeAt.storeAt.storeAt.storeAt

theorem State.Canonical.startLesson (h : s.Canonical) {core} : (s.startLesson core).Canonical := by
  unfold State.startLesson
  dsimp only
  split
  · exact h
  · split
    · split
      · exact .ite h.writeHeader.setCore.setLesson h
      · exact h
    · exact h

theorem State.Canonical.initState (h : s.Canonical) {core} : (s.initState core).Canonical :=
  (h.foldl fun _ _ k => k.storeAt.storeAt).foldl fun _ _ k => by split; exacts [.ite k.storeAt.storeAt k, k]

theorem State.Canonical.healCore (h : s.Canonical) {core} : (s.healCore core).Canonical := h.of_eq rfl

theorem State.Canonical.placeLesson (h : s.Canonical) {n l start} : (s.placeLesson n l start).Canonical := by
  unfold State.placeLesson
  dsimp only
  split
  · exact h.setLesson
  · exact h.setLesson.foldl fun _ _ k => k.setPoint.setQual

theorem State.Canonical.losePeriod (h : s.Canonical) {n slot} : (s.losePeriod n slot).Canonical := h.dropPeriod.countLate

theorem State.Canonical.coreOut (h : s.Canonical) {core} : (s.coreOut core).Canonical :=
  (((h.setBit.setFld.foldl fun _ _ k => .ite k k.losePeriod).foldl fun _ _ k => k.healCore.orElse fun k => k.initState).foldl
    fun _ _ k => by split; exacts [k.setLesson.placeLesson, k]).foldl fun _ _ k => .ite k.breakGuarantee k

theorem State.Canonical.tileError (h : s.Canonical) {tile} : (s.tileError tile).Canonical := by
  unfold State.tileError
  extract_lets again _ t u
  have hu : u.Canonical := h.withScan.record
  clear_value u
  refine .ite hu ?_
  split
  · exact hu.orElse fun k => k.coreOut
  · exact hu.withScan.outputsUpdate

theorem State.Canonical.poisonAt (h : s.Canonical) {a} : (s.poisonAt a).Canonical := h.of_eq rfl

theorem State.Canonical.uncorrectable (h : s.Canonical) {target} : (s.uncorrectable target).Canonical := by
  unfold State.uncorrectable
  dsimp only
  split
  · exact h.poisonAt.orElse fun k => k.tileError
  · exact h.poisonAt.orElse fun k => k.tileError
  · exact h.poisonAt.orElse fun k => k.tileError
  · exact h.poisonAt.tileError
  · exact h.setPoint.setQual.tileError
  · exact h
  · exact h

theorem State.Canonical.forceEvent (h : s.Canonical) {m kind i} : (s.forceEvent m kind i).Canonical := h.record
theorem State.Canonical.forceSet (h : s.Canonical) {m} : (s.forceSet m).Canonical := .ite h.setBit h.setPoint.retainPoint.follow.forceEvent
theorem State.Canonical.forceClear (h : s.Canonical) {m i} : (s.forceClear m i).Canonical := .ite h.setPoint.retainPoint.follow.forceEvent h
theorem State.Canonical.floorWrite (h : s.Canonical) {slot v} : (s.floorWrite slot v).Canonical := .ite h.setBit h.setFld
theorem State.Canonical.runStop (h : s.Canonical) : s.runStop.Canonical := h.setBit.setBit

/-! ### Machine/RosterOps -/

theorem State.Canonical.completeOp (h : s.Canonical) {e cause words} : (s.completeOp e cause words).Canonical := by
  unfold State.completeOp
  split
  · exact h
  · exact .ite h h.setEntry.updEntryCtx

theorem State.Canonical.latchOp (h : s.Canonical) {e cause words} : (State.latchOp s e cause words).Canonical := by
  unfold State.latchOp
  split
  · split
    · exact h.setEntry
    · exact h
  · exact h.completeOp

theorem State.Canonical.rosterErr (h : s.Canonical) {code item tenant} : (s.rosterErr code item tenant).Canonical := h.setFld.wr

theorem State.Canonical.rosterCommit (h : s.Canonical) : s.rosterCommit.Canonical := by
  unfold State.rosterCommit
  split
  · exact h.rosterErr
  · split
    · exact h.rosterErr
    · dsimp only
      split
      · exact h.rosterErr
      · exact h.rosterErr.setBit.withRoster.foldl fun _ _ k => .ite (by split; exacts [k.needSlot.setBit, k.needSlot]) k

theorem State.Canonical.rosterRevert (h : s.Canonical) : s.rosterRevert.Canonical := (h.withRegs.foldl fun _ _ k => k.wr).withRoster
theorem State.Canonical.rosterDrain (h : s.Canonical) : s.rosterDrain.Canonical := h.setBit.setBit.withRoster.record

theorem State.Canonical.ruleChanged (h : s.Canonical) {l} : (s.ruleChanged l).Canonical :=
  (h.foldl fun _ _ k => k.completeOp).addSat.withRoster

end Sys2Proof.Machine
end

section
/-! Canonical memories (R34, R289; log entry 3; O60): the engines. -/

namespace Sys2Proof.Machine

-- One proof at a time: the proofs of this part are large, and elaborated side by side they take more memory than a compile has.
set_option Elab.async false

variable {s : State}

/-! ### Machine/LoopOps -/

theorem State.Canonical.setSlot (h : s.Canonical) {n x} : (s.setSlot n x).Canonical := h.withLoop
theorem State.Canonical.setOper (h : s.Canonical) {d x} : (s.setOper d x).Canonical := h.withLoop
theorem State.Canonical.setTrCh (h : s.Canonical) {c x} : (s.setTrCh c x).Canonical := h.withLoop

theorem State.Canonical.traceTake (h : s.Canonical) {c v} : (s.traceTake c v).Canonical := by
  unfold State.traceTake
  dsimp only
  split
  · exact State.Canonical.setTrCh (by split; exacts [.ite h.traceTrigger h, h])
  · exact State.Canonical.elseOr (by split; exacts [.ite h.traceTrigger h, h]) fun k => k.setTrCh.orElse fun k => k.setFld
  · split
    · exact .ite h.traceTrigger h
    · exact h

theorem State.Canonical.traceWhere (h : s.Canonical) {on sig} : (s.traceWhere on sig).Canonical :=
  .ite (h.foldl fun _ _ k => .ite k.setTrCh.traceTake k.setTrCh) h

theorem State.Canonical.traceSource (h : s.Canonical) {kind index sig} : (s.traceSource kind index sig).Canonical := h.traceWhere
theorem State.Canonical.tracePoints (h : s.Canonical) {cls} : (s.tracePoints cls).Canonical := h.traceWhere
theorem State.Canonical.traceArm (h : s.Canonical) : s.traceArm.Canonical := h.setFld.withLoop
theorem State.Canonical.traceStop (h : s.Canonical) : s.traceStop.Canonical := h.setFld
theorem State.Canonical.bfSaturated (h : s.Canonical) {key} : (s.bfSaturated key).Canonical := h.inc.recordWindow
theorem State.Canonical.loopLate (h : s.Canonical) : s.loopLate.Canonical := h.withLoop.foldl fun _ _ k => k.commitPoint

theorem State.Canonical.evalSlot (h : s.Canonical) {n b} : (s.evalSlot n b).Canonical :=
  .ite h (h.setSlot.withLoop.orElse fun k => k.bfSaturated).traceSource

theorem State.Canonical.loopBell (h : s.Canonical) {cls} : (s.loopBell cls).Canonical := .ite (h.foldl fun _ _ k => k.evalSlot) h
theorem State.Canonical.slotReq (h : s.Canonical) {n mode} : (s.slotReq n mode).Canonical := .ite h h.setSlot
theorem State.Canonical.slotApply (h : s.Canonical) {n} : (s.slotApply n).Canonical := .ite h.setSlot h.setSlot.inc
theorem State.Canonical.slotStage (h : s.Canonical) {n i v} : (s.slotStage n i v).Canonical := h.setSlot
theorem State.Canonical.slotBind (h : s.Canonical) {n b} : (s.slotBind n b).Canonical := h.setSlot

theorem State.Canonical.slotUnbind (h : s.Canonical) {n} : (s.slotUnbind n).Canonical := by
  unfold State.slotUnbind
  dsimp only
  split
  · exact h.setSlot.withLoop.setPoint.follow
  · exact h

theorem State.Canonical.loopRoster (h : s.Canonical) : s.loopRoster.Canonical := h.foldl fun _ _ k => k.setSlot

/-! ### Machine/FastOps -/

theorem State.Canonical.setOpMode (h : s.Canonical) {d mode} : (s.setOpMode d mode).Canonical := h.setFld.orElse fun k => k.setOper
theorem State.Canonical.opFault (h : s.Canonical) {d} : (s.opFault d).Canonical := .ite h h.setOpMode

theorem State.Canonical.opReq (h : s.Canonical) {d mode} : (s.opReq d mode).Canonical :=
  .ite h ((h.setFld.orElse fun k => k.setOpMode).foldl fun _ _ k => .ite k.setBit k).setOper

theorem State.Canonical.opSettle (h : s.Canonical) {d} : (s.opSettle d).Canonical :=
  (h.elseOr fun k => k.setOpMode).orElse fun k => k.setOper

theorem State.Canonical.stageApply (h : s.Canonical) {st} : (s.stageApply st).Canonical :=
  .ite h.setBit.setOper (h.foldl fun _ _ k => k.wr).setBit.inc

theorem State.Canonical.stageDone (h : s.Canonical) {d k lanes fe limit sat bf} : (s.stageDone d k lanes fe limit sat bf).Canonical :=
  (h.setOper.setFld.orElse fun k => k.setBit).setBit.orElse fun k => k.setBit.bfSaturated

theorem State.Canonical.stageTrace (h : s.Canonical) {d k sp fb out} : (s.stageTrace d k sp fb out).Canonical := by
  unfold State.stageTrace
  exact h.traceSource

/-- The arithmetic of a line of the engine does not matter here; left in place, the kernel would evaluate it. -/

theorem State.Canonical.currentStage (h : s.Canonical) {d ia ib} : (s.currentStage d ia ib).Canonical := by
  generalize hf : @State.currentStage = f
  delta State.currentStage at hf
  subst hf
  generalize Num.line = line
  as_aux_lemma => exact .ite h.opFault.inc.record h.setOper.stageDone.stageTrace

theorem State.Canonical.velocityOnly (h : s.Canonical) {d} : (s.velocityOnly d).Canonical := h.setOper.orElse fun k => k.setBit.bfSaturated

theorem State.Canonical.velocityStage (h : s.Canonical) {d} : (s.velocityStage d).Canonical := by
  generalize hf : @State.velocityStage = f
  delta State.velocityStage at hf
  subst hf
  generalize Num.line = line, State.opMeasure = measure
  as_aux_lemma => exact h.setOper.stageDone.stageTrace

theorem State.Canonical.positionStage (h : s.Canonical) {d} : (s.positionStage d).Canonical := by
  generalize hf : @State.positionStage = f
  delta State.positionStage at hf
  subst hf
  generalize Num.line = line
  as_aux_lemma => exact h.setOper.stageDone.stageTrace

theorem State.Canonical.opCommit (h : s.Canonical) {d} : (s.opCommit d).Canonical := by
  unfold State.opCommit
  dsimp only
  split
  · exact h
  · exact h.setOper.commitPoint

theorem State.Canonical.readVbus (h : s.Canonical) {d} : (s.readVbus d).Canonical := by
  unfold State.readVbus
  dsimp only
  split
  · exact .ite h.setOper (h.setOper.orElse fun k => k.setBit.bfSaturated)
  · exact h.setOper

theorem State.Canonical.opPeriod (h : s.Canonical) {d ia ib} : (s.opPeriod d ia ib).Canonical :=
  ((((h.setOper.opSettle.orElse fun k => k.readVbus).orElse fun k => k.currentStage).iteBoth
    (fun k => k.velocityStage) fun k => k.orElse fun k => k.velocityOnly).iteBoth
    (fun k => k.positionStage) fun k => k.orElse fun k => k.setOper).setOper.orElse fun k => k.opCommit

theorem State.Canonical.stageAlarm (h : s.Canonical) {st} : (s.stageAlarm st).Canonical := by
  unfold State.stageAlarm
  dsimp only
  split
  · exact h
  · split
    · exact .ite h.setBit.inc.record.opFault h.setBit.inc.record.setOper
    · exact h.setBit.inc.record.opFault
    · exact h.setBit.inc.record

/-! ### Machine/CarOps -/

theorem State.Canonical.setCar (h : s.Canonical) {c x} : (s.setCar c x).Canonical := h.withLift
theorem State.Canonical.setCarState (h : s.Canonical) {c st cause} : (s.setCarState c st cause).Canonical := h.setFld.setFld
theorem State.Canonical.carCommit (h : s.Canonical) {c} : (s.carCommit c).Canonical := .ite h.commitPoint h
theorem State.Canonical.safeLatch (h : s.Canonical) {c bit} : (s.safeLatch c bit).Canonical := h.withSafe
theorem State.Canonical.xchkSend (h : s.Canonical) {c} : (s.xchkSend c).Canonical := .ite h.safeLatch h

theorem State.Canonical.crossCheck (h : s.Canonical) {c} : (s.crossCheck c).Canonical :=
  h.setCar.orElse fun k => k.setCarState.setBit.inc.xchkSend.record

theorem State.Canonical.carPeriod (h : s.Canonical) {c} : (s.carPeriod c).Canonical :=
  .ite (h.wr.wr.wr.setCar.orElse fun k => k.crossCheck).carCommit h

theorem State.Canonical.capturePush (h : s.Canonical) {c e} : (s.capturePush c e).Canonical := .ite h.setCar h.setCar

theorem State.Canonical.carReference (h : s.Canonical) {c pos km kg landing} : (s.carReference c pos km kg landing).Canonical :=
  h.setCar.setCarState.setFld.setFld.wr

theorem State.Canonical.dzEdge (h : s.Canonical) {c rising km kg} : (s.dzEdge c rising km kg).Canonical := by
  unfold State.dzEdge
  extract_lets x early t p vel note up lo edge win cand st
  have hn : ∀ {u l}, u.Canonical → (note u l).Canonical := fun k => k.capturePush
  have ht : t.Canonical := h.setCar
  clear_value note t
  refine h.elseOr fun _ => .ite (hn ht) ?_
  split
  · exact (hn ht.carReference.wr).orElse fun k => k.record
  · exact hn ht.setFld
  · exact hn ht

theorem State.Canonical.termEdge (h : s.Canonical) {c active km kg} : (s.termEdge c active km kg).Canonical :=
  .ite h (h.orElse fun k => k.carReference.orElse fun k => k.setCarState).capturePush

theorem State.Canonical.carClear (h : s.Canonical) {c} : (s.carClear c).Canonical := .ite h.setCarState.setBit.setCar h
theorem State.Canonical.carFlush (h : s.Canonical) {c} : (s.carFlush c).Canonical := h.setCar

theorem State.Canonical.capPop (h : s.Canonical) {c} : (s.capPop c).Canonical := by
  unfold State.capPop
  dsimp only
  split
  · exact h.wr.setCar
  · exact h.setCar

theorem State.Canonical.carLinkLost (h : s.Canonical) : s.carLinkLost.Canonical := h.foldl fun _ _ k => .ite k.setCarState k

/-! ### Machine/Horizon -/

theorem State.Canonical.setZone (h : s.Canonical) {z x} : (s.setZone z x).Canonical := h.withLoop
theorem State.Canonical.modelCommit (h : s.Canonical) : s.modelCommit.Canonical := .ite h.setZone.setFld h.setBit
theorem State.Canonical.dropPlan (h : s.Canonical) {t} : (s.dropPlan t).Canonical := h.foldl fun _ _ k => k.setSlot

theorem State.Canonical.hzOutcome (h : s.Canonical) {z t code iter at10 plan cost} : (s.hzOutcome z t code iter at10 plan cost).Canonical :=
  .ite (h.wr.setZone.wr.setFld.foldl fun _ _ k => .ite k.setSlot k.setSlot) h.wr.dropPlan.setFld.inc.inc.record

theorem State.Canonical.hzZone (h : s.Canonical) {z t at10 limit} : (s.hzZone z t at10 limit).1.Canonical := by
  unfold State.hzZone
  extract_lets bell clock fin d slots ys ds rs outs bad x u dv dn xh pred
  refine .fst_ite h.hzOutcome.fst ?_
  split
  refine .fst_ite h.hzOutcome.fst ?_
  extract_lets v
  have hv : v.Canonical := h.setZone
  clear_value v
  refine .fst_ite hv.hzOutcome.fst ?_
  dsimp only
  exact .fst_ite hv.hzOutcome.fst hv.setZone.hzOutcome.fst

theorem State.Canonical.horizonBell (h : s.Canonical) : s.horizonBell.Canonical := by
  unfold State.horizonBell
  extract_lets zs t u v _ w limit
  have ht : t.Canonical := h.foldl fun _ _ k => by
    dsimp only
    split <;> exact k.setZone
  have hw : w.Canonical := ht.wr.setFld.setFld.withLoop
  clear_value t w
  refine ht.elseOr fun _ => State.Canonical.fst_foldl hw.fst fun p z k => ?_
  dsimp only
  split
  · exact k
  · exact .fst_ite (k.elseOr fun k => k.dropPlan.wr).fst (.fst_ite k.withLoop.fst k.hzZone)

theorem State.Canonical.hzDeadline (h : s.Canonical) {z} : (s.hzDeadline z).Canonical := by
  unfold State.hzDeadline
  split
  · dsimp only
    split
    · exact h.withLoop.hzOutcome
    · exact h.withLoop
  · exact h

/-! ### Machine/LoopMsg -/

theorem State.Canonical.loopApply (h : s.Canonical) {m} : (s.loopApply m).Canonical := by
  unfold State.loopApply
  dsimp only
  split
  · exact .ite h h.slotBind
  · exact h.slotUnbind
  · exact h.slotStage.orElse fun k => k.slotApply
  · exact (h.orElse fun k => k.setSlot).slotReq
  · exact .ite h h.setFld.setOpMode.setOper
  · exact h.wr.orElse fun k => k.stageApply
  · exact h.opReq
  · exact h.wr
  · split
    · exact (h.orElse fun k => k.setBit).setZone
    · exact .ite h.setBit h
  · exact h.traceTrigger
  · exact h

theorem State.Canonical.loopSettle (h : s.Canonical) : s.loopSettle.Canonical := h.withScan.foldl fun _ _ k => k.loopApply

theorem State.Canonical.loopFront (h : s.Canonical) {typ} : (s.loopFront typ).Canonical := by
  unfold State.loopFront
  split
  · exact .ite h.withScan.loopApply h
  · exact h

theorem State.Canonical.slotLatch (h : s.Canonical) {n} : (s.slotLatch n).Canonical := h.wr.withLoop

theorem State.Canonical.traceCmd (h : s.Canonical) {cmd} : (s.traceCmd cmd).Canonical := by
  unfold State.traceCmd
  split
  · exact h.traceArm
  · exact h.traceTrigger
  · exact h.traceStop
  · exact h

theorem State.Canonical.loopWrite (h : s.Canonical) {a v} : CanonicalIn (s.loopWrite a v) := by
  unfold State.loopWrite
  extract_lets n x
  refine .ite h.wr.some <| .ite h.slotLatch.some <| .ite h.setSlot.some <| .ite h.slotReq.some <| .ite h.setSlot.some <|
    .ite (h.orElse fun k => k.slotApply).some <| .ite h.slotStage.some <| .ite (.ite h.some ?_) <| .ite (h.elseOr fun k => k.wr).some <|
    .ite (h.orElse fun k => k.modelCommit).some <| .ite h.setZone.some <| .ite h.traceCmd.some .none
  split
  · exact (h.orElse fun k => k.opReq).some
  · exact h.wr.some
  · exact .ite h.wr.some <| .ite h.some <| ((h.elseOr fun k => k.setFld).elseOr fun k => k.setFld).some
  · exact (h.orElse fun k => k.wr).some
  · exact (h.orElse fun k => k.wr).some
  · exact (h.orElse fun k => k.stageApply).some
  · exact .none

theorem State.Canonical.loopClear (h : s.Canonical) : s.loopClear.Canonical := by
  unfold State.loopClear
  exact ((h.foldl fun _ _ k => k.setFld.setOpMode).foldl fun _ _ k => k.wr.wr.foldl fun _ _ k1 => k1.wr).kept

/-! ### Machine/DispOps -/

theorem State.Canonical.freeTheCall (h : s.Canonical) {k cancelled} : (s.freeTheCall k cancelled).Canonical := h.withDisp

theorem State.Canonical.stopDone (h : s.Canonical) {c l rear} : (s.stopDone c l rear).Canonical :=
  (h.foldl fun _ _ k => .ite (.ite k.withDisp k.freeTheCall) <| .ite k.freeTheCall k).withDisp

theorem State.Canonical.dispApply (h : s.Canonical) {m} : (s.dispApply m).Canonical := by
  unfold State.dispApply
  dsimp only
  split
  · exact h.withDisp
  · exact .ite h h.freeTheCall
  · exact h.stopDone
  · exact h

theorem State.Canonical.dispFront (h : s.Canonical) {typ} : (s.dispFront typ).Canonical := by
  unfold State.dispFront
  split
  · exact .ite h.withScan.dispApply h
  · exact h

theorem State.Canonical.dispSettle (h : s.Canonical) : s.dispSettle.Canonical := h.withScan.foldl fun _ _ k => k.dispApply

theorem State.Canonical.dispDrop (h : s.Canonical) : s.dispDrop.Canonical := by
  unfold State.dispDrop
  split
  · exact h
  · exact h.advanceTo.withDisp.inc.setBit.record

theorem State.Canonical.dispBell (h : s.Canonical) : s.dispBell.Canonical := .ite h h.dispDrop.dispSettle.withDisp
theorem State.Canonical.dispPoint (h : s.Canonical) {p} : (s.dispPoint p).Canonical := .ite h.commitPoint h

theorem State.Canonical.dispCommit (h : s.Canonical) : s.dispCommit.Canonical := by
  unfold State.dispCommit
  split
  · exact h
  · exact .ite h.dispDrop (((((h.withDisp.foldl fun _ _ k => k.dispPoint).foldl fun _ _ k => k.dispPoint).foldl fun _ _ k =>
      .ite k k.dispPoint).foldl fun _ _ k => k.wr).orElse fun k => k.inc).wr.inc.setBit.setFld

theorem State.Canonical.callLatch (h : s.Canonical) {k} : (s.callLatch k).Canonical := h.wr.withDisp

theorem State.Canonical.dispWrite (h : s.Canonical) {a v} : CanonicalIn (s.dispWrite a v) := by
  unfold State.dispWrite
  exact .ite h.some <| .ite (.ite (h.iteBoth (fun k => k.wr) fun k => k.setBit).some <|
    .ite (State.Canonical.ite (h.orElse fun k => k.setBit).setFld.setFld (h.orElse fun k => k.setBit).setBit).some .none) <|
    .ite h.callLatch.some .none

/-! ### Machine/AccOps -/

theorem State.Canonical.credResult (h : s.Canonical) {res idx} : (s.credResult res idx).Canonical := h.wr

theorem State.Canonical.credWrite (h : s.Canonical) : s.credWrite.Canonical := by
  unfold State.credWrite
  dsimp only
  split
  · exact h.credResult
  · split
    · exact h.withAcc.credResult
    · split
      · exact h.withAcc.credResult
      · exact h.credResult

theorem State.Canonical.credDelete (h : s.Canonical) : s.credDelete.Canonical := by
  unfold State.credDelete
  dsimp only
  split
  · exact h.withAcc.credResult
  · exact h.credResult

theorem State.Canonical.cacheSweep (h : s.Canonical) : s.cacheSweep.Canonical := h.withAcc
theorem State.Canonical.cachePut (h : s.Canonical) {id r} : (s.cachePut id r).Canonical := h.withAcc
theorem State.Canonical.setAdoor (h : s.Canonical) {d x} : (s.setAdoor d x).Canonical := h.withAcc
theorem State.Canonical.strike (h : s.Canonical) {d} : (s.strike d).Canonical := .ite h (h.setAdoor.orElse fun k => k.commitPoint)

theorem State.Canonical.doorEvent (h : s.Canonical) {d event reason id tenant t} : (s.doorEvent d event reason id tenant t).Canonical :=
  .ite h.commitPoint h

theorem State.Canonical.doorRecord (h : s.Canonical) {sev rule d event reason id tenant t}
    : (s.doorRecord sev rule d event reason id tenant t).Canonical :=
  h.record

theorem State.Canonical.doorTo (h : s.Canonical) {d st event} : (s.doorTo d st event).Canonical := h.setFld.strike.doorEvent
theorem State.Canonical.doorToOpen (h : s.Canonical) {d st} : (s.doorToOpen d st).Canonical := h.setFld.strike.nextFree.doorEvent
theorem State.Canonical.releaseLock (h : s.Canonical) {d} : (s.releaseLock d).Canonical := h.setAdoor.strike
theorem State.Canonical.relock (h : s.Canonical) {d} : (s.relock d).Canonical := h.setAdoor.strike

theorem State.Canonical.contactChange (h : s.Canonical) {d} : (s.contactChange d).Canonical :=
  .ite h <| .ite (.ite h.setAdoor.doorTo.doorRecord (h.setAdoor.orElse fun k => k.doorTo.orElse
    fun k => k.relock)) (h.setAdoor.orElse fun k => k.relock.doorTo)

theorem State.Canonical.doorRelease (h : s.Canonical) {d event} : (s.doorRelease d event).Canonical := by
  unfold State.doorRelease
  dsimp only
  split
  · exact h
  · split
    · split
      · exact h.releaseLock.doorTo
      · exact h.releaseLock.doorToOpen
    · exact h.releaseLock

theorem State.Canonical.doorRex (h : s.Canonical) {d} : (s.doorRex d).Canonical := h.setAdoor.orElse fun k => k.doorRelease
theorem State.Canonical.doorFire (h : s.Canonical) {d} : (s.doorFire d).Canonical := .ite h <| .ite h.doorTo <| .ite h.relock.doorToOpen h

theorem State.Canonical.strikeExpiry (h : s.Canonical) {d} : (s.strikeExpiry d).Canonical := by
  unfold State.strikeExpiry
  split
  · exact h
  · exact h.advanceTo.relock.orElse fun k => k.doorToOpen

theorem State.Canonical.heldExpiry (h : s.Canonical) {d} : (s.heldExpiry d).Canonical := by
  unfold State.heldExpiry
  split
  · exact .ite h.advanceTo.doorTo.doorRecord h
  · exact h

theorem State.Canonical.doorCmd (h : s.Canonical) {d cmd} : (s.doorCmd d cmd).Canonical := by
  unfold State.doorCmd
  dsimp only
  split
  · exact h
  · split
    · exact .ite h.relock.doorToOpen h
    · exact .ite h h.doorRelease
    · exact .ite h h.doorToOpen
    · exact .ite h h.relock.doorTo
    · exact .ite h.relock.doorToOpen h
    · exact h

theorem State.Canonical.present (h : s.Canonical) {d id} : (s.present d id).Canonical := by
  unfold State.present
  extract_lets t on _ u hit fetched v w r deny
  have hd : ∀ {x reason tenant}, x.Canonical → (deny x reason tenant).Canonical := fun k => k.incSat.doorEvent.doorRecord
  have hv : v.Canonical := h.withAcc.elseOr fun k => k.incSat
  have hw : w.Canonical := by
    unfold w
    cases fetched with
    | none => exact hv
    | some r => exact hv.cachePut
  clear_value w deny r
  split
  · exact hd hw
  · refine .ite (hd hw) <| .ite (hd (hw.orElse fun k => k.incSat)) <| .ite (hd hw) <| .ite (hd hw) <| .ite (hd hw) ?_
    exact ((hw.elseOr fun k => k.releaseLock).orElse fun k => k.setFld.strike).doorEvent.doorRecord

theorem State.Canonical.accTake (h : s.Canonical) {f : State → EngMsg → State} (hf : ∀ {t a}, t.Canonical → (f t a).Canonical) {typ ok}
    : (s.accTake typ ok f).Canonical := by
  unfold State.accTake
  split
  · exact .ite (hf h.withScan) h
  · exact h

theorem State.Canonical.bindField (h : s.Canonical) {d a hi lo v ok} : (bindField s d a hi lo v ok).Canonical := .ite h.setFld h.setBit

theorem State.Canonical.accWrite (h : s.Canonical) {a v} : CanonicalIn (s.accWrite a v) := by
  unfold State.accWrite
  split
  · exact State.Canonical.some (by split; exacts [h.credWrite, h.credDelete, h])
  · split
    · dsimp only
      split
      · exact (h.bindField.bindField.orElse fun k => k.setAdoor.strike).some
      · exact h.bindField.bindField.some
      · exact h.bindField.bindField.bindField.some
      · exact (h.wr.orElse fun k => k.strike).some
      · exact h.doorCmd.some
      · exact .none
    · exact .none

/-! ### Machine/Access -/

theorem State.Canonical.execCredWrite (h : s.Canonical) {m} : Out.Canonical (execCredWrite m s) := (h.asPrefect (fun k => k.credWrite)).next

theorem State.Canonical.execCredDelete (h : s.Canonical) {m} : Out.Canonical (execCredDelete m s) :=
  (h.asPrefect (fun k => k.credDelete)).next

theorem State.Canonical.execPresent (h : s.Canonical) {psrc} : Out.Canonical (execPresent psrc s) := by
  unfold Machine.execPresent
  split
  · exact (h.accTake (fun k => k.present)).next
  · exact (h.orElse fun k => k.present).next

theorem State.Canonical.execCacheSweep (h : s.Canonical) : Out.Canonical (execCacheSweep s) := h.cacheSweep.next

theorem State.Canonical.accDoorCommand (h : s.Canonical) {dsrc cmd} : (s.accDoorCommand dsrc cmd).Canonical := by
  unfold State.accDoorCommand
  split
  · exact h.accTake (fun k => k.doorCmd)
  · exact h.asPrefect (fun k => k.doorCmd)

theorem State.Canonical.execDoorLock (h : s.Canonical) {dsrc} : Out.Canonical (execDoorLock dsrc s) := h.accDoorCommand.next
theorem State.Canonical.execDoorPulse (h : s.Canonical) {dsrc} : Out.Canonical (execDoorPulse dsrc s) := h.accDoorCommand.next
theorem State.Canonical.execDoorHoldUnlocked (h : s.Canonical) {dsrc} : Out.Canonical (execDoorHoldUnlocked dsrc s) := h.accDoorCommand.next
theorem State.Canonical.execDoorLockdown (h : s.Canonical) {dsrc} : Out.Canonical (execDoorLockdown dsrc s) := h.accDoorCommand.next

theorem State.Canonical.execDoorReleaseLockdown (h : s.Canonical) {dsrc} : Out.Canonical (execDoorReleaseLockdown dsrc s) :=
  h.accDoorCommand.next

theorem State.Canonical.execDoorContactChange (h : s.Canonical) {adoor} : Out.Canonical (execDoorContactChange adoor s) :=
  h.contactChange.next

theorem State.Canonical.execDoorRex (h : s.Canonical) {adoor} : Out.Canonical (execDoorRex adoor s) := h.doorRex.next
theorem State.Canonical.execDoorFire (h : s.Canonical) {adoor} : Out.Canonical (execDoorFire adoor s) := h.doorFire.next
theorem State.Canonical.execStrikeTimeExpiry (h : s.Canonical) {adoor} : Out.Canonical (execStrikeTimeExpiry adoor s) := h.strikeExpiry.next
theorem State.Canonical.execHeldTimeExpiry (h : s.Canonical) {adoor} : Out.Canonical (execHeldTimeExpiry adoor s) := h.heldExpiry.next

/-! ### Machine/Alu -/

theorem State.Canonical.execAdd (h : s.Canonical) {c gd ga gb} : Out.Canonical (execAdd c gd ga gb s) := h.alu
theorem State.Canonical.execSub (h : s.Canonical) {c gd ga gb} : Out.Canonical (execSub c gd ga gb s) := h.alu
theorem State.Canonical.execAnd (h : s.Canonical) {c gd ga gb} : Out.Canonical (execAnd c gd ga gb s) := h.alu
theorem State.Canonical.execOr (h : s.Canonical) {c gd ga gb} : Out.Canonical (execOr c gd ga gb s) := h.alu
theorem State.Canonical.execXor (h : s.Canonical) {c gd ga gb} : Out.Canonical (execXor c gd ga gb s) := h.alu
theorem State.Canonical.execNor (h : s.Canonical) {c gd ga gb} : Out.Canonical (execNor c gd ga gb s) := h.alu
theorem State.Canonical.execAndn (h : s.Canonical) {c gd ga gb} : Out.Canonical (execAndn c gd ga gb s) := h.alu
theorem State.Canonical.execSlt (h : s.Canonical) {c gd ga gb} : Out.Canonical (execSlt c gd ga gb s) := h.alu
theorem State.Canonical.execSltu (h : s.Canonical) {c gd ga gb} : Out.Canonical (execSltu c gd ga gb s) := h.alu
theorem State.Canonical.execSeq (h : s.Canonical) {c gd ga gb} : Out.Canonical (execSeq c gd ga gb s) := h.alu
theorem State.Canonical.execSll (h : s.Canonical) {c gd ga gb} : Out.Canonical (execSll c gd ga gb s) := h.alu
theorem State.Canonical.execSrl (h : s.Canonical) {c gd ga gb} : Out.Canonical (execSrl c gd ga gb s) := h.alu
theorem State.Canonical.execSra (h : s.Canonical) {c gd ga gb} : Out.Canonical (execSra c gd ga gb s) := h.alu
theorem State.Canonical.execRor (h : s.Canonical) {c gd ga gb} : Out.Canonical (execRor c gd ga gb s) := h.alu
theorem State.Canonical.execMin (h : s.Canonical) {c gd ga gb} : Out.Canonical (execMin c gd ga gb s) := h.alu
theorem State.Canonical.execMax (h : s.Canonical) {c gd ga gb} : Out.Canonical (execMax c gd ga gb s) := h.alu
theorem State.Canonical.execMinu (h : s.Canonical) {c gd ga gb} : Out.Canonical (execMinu c gd ga gb s) := h.alu
theorem State.Canonical.execMaxu (h : s.Canonical) {c gd ga gb} : Out.Canonical (execMaxu c gd ga gb s) := h.alu
theorem State.Canonical.execAddv (h : s.Canonical) {c gd ga gb} : Out.Canonical (execAddv c gd ga gb s) := h.aluV
theorem State.Canonical.execSubv (h : s.Canonical) {c gd ga gb} : Out.Canonical (execSubv c gd ga gb s) := h.aluV
theorem State.Canonical.execAdds (h : s.Canonical) {c gd ga gb} : Out.Canonical (execAdds c gd ga gb s) := h.alu
theorem State.Canonical.execSubs (h : s.Canonical) {c gd ga gb} : Out.Canonical (execSubs c gd ga gb s) := h.alu
theorem State.Canonical.execSel (h : s.Canonical) {c gd ga gb} : Out.Canonical (execSel c gd ga gb s) := h.compute
theorem State.Canonical.execAbs (h : s.Canonical) {c gd ga} : Out.Canonical (execAbs c gd ga s) := h.compute

/-! ### Machine/DoorOps -/

theorem State.Canonical.setDoor (h : s.Canonical) {d x} : (s.setDoor d x).Canonical := h.withLift
theorem State.Canonical.doorDerive (h : s.Canonical) {d} : (s.doorDerive d).Canonical := h.wr.wr.wr
theorem State.Canonical.doorApply (h : s.Canonical) {d} : (s.doorApply d).Canonical := .ite (.ite h.setDoor.setBit.doorDerive h.setBit) h

theorem State.Canonical.doorRestore (h : s.Canonical) {d} : (s.doorRestore d).Canonical :=
  .ite h.doorDerive (h.setBit.orElse fun k => k.doorApply).doorDerive

theorem State.Canonical.doorCommit (h : s.Canonical) {d} : (s.doorCommit d).Canonical := .ite h.commitPoint h
theorem State.Canonical.doorNoted (h : s.Canonical) {r d} : (State.doorNoted r s d).Canonical := .ite h h.doorCommit

theorem State.Canonical.doorEnter (h : s.Canonical) {d st} : (s.doorEnter d st).Canonical :=
  .ite h.setFld.setDoor.setFld.setDoor.doorApply (h.setFld.setDoor.orElse fun k => k.doorApply)

theorem State.Canonical.doorIdle (h : s.Canonical) {d} : (s.doorIdle d).Canonical := .ite h h.setFld.opReq.doorApply.doorCommit

theorem State.Canonical.seqEn (h : s.Canonical) {d on} : (s.seqEn d on).Canonical :=
  .ite h.setBit.doorIdle (h.setBit.elseOr fun k => k.setBit)

theorem State.Canonical.learnEnd (h : s.Canonical) {d result} : (s.learnEnd d result).Canonical := h.setFld.record
theorem State.Canonical.learnFail (h : s.Canonical) {d result} : (s.learnFail d result).Canonical := h.learnEnd.doorEnter

theorem State.Canonical.doorReverse (h : s.Canonical) {d kind} : (s.doorReverse d kind).Canonical := by
  unfold State.doorReverse
  exact h.setFld.inc.setDoor.doorEnter

theorem State.Canonical.doorCommand (h : s.Canonical) {d} : (s.doorCommand d).Canonical := by
  unfold State.doorCommand
  dsimp only
  split
  · exact h
  · split
    · exact h.setDoor
    · split
      · exact .ite h.setDoor.learnFail <| .ite h.setDoor.opReq.doorEnter h.setDoor.doorEnter
      · exact h.setDoor.setBit

theorem State.Canonical.closedReached (h : s.Canonical) {d} : (s.closedReached d).Canonical := by
  unfold State.closedReached
  split
  · exact h.advanceTo.doorEnter.doorNoted
  · exact h

theorem State.Canonical.openReached (h : s.Canonical) {d} : (s.openReached d).Canonical := by
  unfold State.openReached
  split
  · exact h.advanceTo.doorEnter.doorNoted
  · exact h

theorem State.Canonical.learnPhase (h : s.Canonical) {d f} : (s.learnPhase d f).Canonical := h.setDoor
theorem State.Canonical.doorRef (h : s.Canonical) {d} : (s.doorRef d).Canonical := h.wr.setBit

theorem State.Canonical.learnOk (h : s.Canonical) {d} : (s.learnOk d).Canonical := by
  unfold State.learnOk
  exact h.wr.wr.wr.wr.setBit.setBit.doorDerive.learnEnd.doorEnter

theorem State.Canonical.stallEffect (h : s.Canonical) {d} : (s.stallEffect d).Canonical := by
  unfold State.stallEffect
  split
  · exact h.doorRef.doorEnter
  · split
    · split
      · exact h.doorRef.learnPhase
      · exact .ite h.learnFail h.learnPhase
      · exact h.learnOk
      · exact h
    · exact h

theorem State.Canonical.doorStall (h : s.Canonical) {d} : (s.doorStall d).Canonical := by
  unfold State.doorStall
  split
  · exact h.advanceTo.stallEffect.doorNoted
  · exact h

theorem State.Canonical.doorHolds (h : s.Canonical) {d} : (s.doorHolds d).Canonical := h.setDoor

theorem State.Canonical.learnPeriod (h : s.Canonical) {d} : (s.learnPeriod d).Canonical := by
  unfold State.learnPeriod
  exact .ite (.ite h.learnPhase <| .ite h.setDoor h) <| .ite (.ite h.setDoor <| .ite h.learnFail h.learnPhase) h

theorem State.Canonical.doorEvents (h : s.Canonical) {d} : (s.doorEvents d).Canonical := by
  unfold State.doorEvents
  extract_lets st lc x edge t _ alarm u inLock
  have ht : t.Canonical := h.setDoor
  have hu : u.Canonical := ht.setDoor
  clear_value st alarm inLock t u
  refine .ite (.ite ht (.ite ht.learnEnd.doorEnter ht.doorEnter)) (.ite (.ite ?_ ht) ?_)
  · split
    · exact ht.setDoor
    · exact ht.orElse fun k => k.learnFail
  · split
    · exact hu.orElse fun k => k.doorEnter
    · exact hu.orElse fun k => k.doorEnter
    · exact .ite hu.doorReverse (hu.orElse fun k => k.doorReverse)
    · exact hu.orElse fun k => k.doorReverse
    · exact .ite hu.learnFail hu.learnPeriod
    · exact hu

theorem State.Canonical.seqReq (h : s.Canonical) {d mode} : (s.seqReq d mode).Canonical := h.setFld
theorem State.Canonical.seqPar (h : s.Canonical) {d k i v} : (s.seqPar d k i v).Canonical := h.setOper

theorem State.Canonical.doorDrive (h : s.Canonical) {d} : (s.doorDrive d).Canonical :=
  (State.Canonical.seqPar (by split; exacts [h.setDoor.seqReq, h.setDoor])).seqPar.seqPar.seqPar.seqPar.wr.setOper

theorem State.Canonical.doorTake (h : s.Canonical) {d} : (s.doorTake d).Canonical := by
  unfold State.doorTake
  exact h.setDoor.setBit.doorEnter

theorem State.Canonical.doorPeriod (h : s.Canonical) {d} : (s.doorPeriod d).Canonical :=
  .ite h <| .ite h.doorIdle <|
    .ite h.setBit.doorIdle (h.iteBoth (fun k => k.doorTake) fun k => k.doorCommand.doorEvents.doorHolds).doorDrive.doorCommit

theorem State.Canonical.doorQerr (h : s.Canonical) {d} : (s.doorQerr d).Canonical := h.setBit.orElse fun k => k.doorEnter.doorNoted

theorem State.Canonical.encQerr (h : s.Canonical) {e} : (s.encQerr e).Canonical :=
  .ite h <| .ite (h.incSat.recordWindow.orElse fun k => k.setCarState) h.incSat.recordWindow.doorQerr

theorem State.Canonical.liftWrite (h : s.Canonical) {a v} : CanonicalIn (s.liftWrite a v) := by
  unfold State.liftWrite
  split
  · exact h.some
  · split
    · dsimp only
      split
      · exact (State.Canonical.ite (h.orElse fun k => k.setBit).wr (h.orElse fun k => k.setBit).wr).some
      · exact (h.iteBoth (fun k => k.setFld.setBit) fun k => k.wr).some
      · exact ((h.orElse fun k => k.carClear).orElse fun k => k.carFlush).some
      · exact .none
    · exact .ite (.ite ((h.iteBoth (fun k => k.setFld.setFld.setFld) fun k => k.setFld.setFld.setBit).orElse fun k => k.seqEn).some <|
        .ite (h.wr.orElse fun k => k.setBit).some <| .ite (h.wr.setBit.orElse fun k => k.doorApply).some .none) .none

/-! ### Machine/RiserOps -/

theorem State.Canonical.fwuData (h : s.Canonical) {op block id data} : (s.fwuData op block id data).Canonical :=
  h.foldl fun _ _ k => k.riserAdd

theorem State.Canonical.setFwd (h : s.Canonical) {f} : (s.setFwd f).Canonical := h.withFwu
theorem State.Canonical.setFwuState (h : s.Canonical) {st} : (s.setFwuState st).Canonical := .ite h h.setFld

theorem State.Canonical.endForward (h : s.Canonical) : s.endForward.Canonical := by
  unfold State.endForward
  split
  · exact h.setFwd.orElse fun k => k.setFwuState
  · exact h

theorem State.Canonical.forward (h : s.Canonical) : s.forward.Canonical := by
  unfold State.forward
  split
  · dsimp only
    split
    · exact h
    · split
      · exact h.fwuData.setFwd
      · split
        · exact h.fwuData.setFwd
        · exact h
  · exact h

theorem State.Canonical.offer (h : s.Canonical) {slot} : (s.offer slot).Canonical := by
  unfold State.offer
  exact h.setFld.setBit.setFwd.forward

theorem State.Canonical.fwuAcked (h : s.Canonical) {block err} : (s.fwuAcked block err).Canonical := by
  unfold State.fwuAcked
  split
  · exact .ite h <| .ite (.ite h.setBit.endForward <| .ite h <| .ite h.setFld.endForward h.setFld.setFwd.forward) <|
      .ite (.ite h.setFld.endForward h.setFld.setFwd.forward) h
  · exact h

theorem State.Canonical.fwuRefused (h : s.Canonical) : s.fwuRefused.Canonical := by
  unfold State.fwuRefused
  split
  · exact .ite h <| .ite h.riserAdd.endForward h.setFwd.forward
  · exact h

theorem State.Canonical.riserCameUp (h : s.Canonical) : s.riserCameUp.Canonical := by
  unfold State.riserCameUp
  dsimp only
  split
  · exact ((h.elseOr fun k => k.setBit.riserAdd).orElse fun k => k.setFwuState).setFwd.forward
  · exact .ite h h.setBit.riserAdd

theorem State.Canonical.riserWentDown (h : s.Canonical) : s.riserWentDown.Canonical := by
  unfold State.riserWentDown
  split
  · exact (h.orElse fun k => k.setFwuState).setFwd
  · exact h

/-! ### Machine/FwuOps -/

theorem State.Canonical.restoreSettings (h : s.Canonical) : s.restoreSettings.Canonical :=
  (h.foldl fun _ _ k => k.wr).foldl fun _ _ k => k.doorRestore

theorem State.Canonical.setSlotState (h : s.Canonical) {n st} : (s.setSlotState n st).Canonical := h.setFld
theorem State.Canonical.setRunning (h : s.Canonical) {n} : (s.setRunning n).Canonical := h.setBit.setBit
theorem State.Canonical.setFwSlot (h : s.Canonical) {n x} : (s.setFwSlot n x).Canonical := h.withFwu.wr.wr.wr
theorem State.Canonical.fwuErr (h : s.Canonical) {code} : (s.fwuErr code).Canonical := h.setFld.record
theorem State.Canonical.fwuSequence (h : s.Canonical) : s.fwuSequence.Canonical := h.fwuErr
theorem State.Canonical.stageBytes (h : s.Canonical) {off b} : (s.stageBytes off b).Canonical := h.withFwu
theorem State.Canonical.unstage (h : s.Canonical) {off n} : (s.unstage off n).Canonical := h.withFwu

theorem State.Canonical.acceptManifest (h : s.Canonical) {m riser} : (s.acceptManifest m riser).Canonical := by
  unfold State.acceptManifest
  split
  · exact h
  · extract_lets new old same t full u v _ w x
    have ht : t.Canonical := (h.elseOr fun k => k.erase).setFwSlot
    have hv : v.Canonical := ht.setSlotState.setFld.setFwuState.setFld.setBit.setFld
    have hw : w.Canonical := hv.withFwu
    clear_value w
    exact (hw.elseOr fun k => k.iteBoth (fun k => k.offer) fun k => k.setFwd).orElse fun k => k.setFwuState

theorem State.Canonical.endTransfer (h : s.Canonical) : s.endTransfer.Canonical := h.withFwu.setFwuState

theorem State.Canonical.blockFailed (h : s.Canonical) {n riser} : (s.blockFailed n riser).Canonical :=
  .ite (h.unstage.orElse fun k => k.riserAdd).fwuErr.endTransfer (h.unstage.withFwu.orElse fun k => k.riserAdd)

theorem State.Canonical.blockVerified (h : s.Canonical) {n riser b} : (s.blockVerified n riser b).Canonical :=
  (h.unstage.erased.setFwSlot.setFld.withFwu.orElse fun k => k.riserAdd).forward.orElse fun k => k.setSlotState.withFwu.setFwuState

theorem State.Canonical.verifyBlocks {riser fuel} : ∀ {s : State}, s.Canonical → (s.verifyBlocks riser fuel).Canonical := by
  induction fuel with
  | zero => exact fun h => h
  | succ fuel ih =>
    intro s h
    conv => arg 1; whnf
    split
    · exact h
    · refine .ite h ?_
      split
      · exact h
      · exact .ite (ih h.blockVerified) h.blockFailed

theorem State.Canonical.fwuBegin (h : s.Canonical) : s.fwuBegin.Canonical := .ite h.withFwu.setFld.setFwuState h.fwuSequence

theorem State.Canonical.hostManifest (h : s.Canonical) : s.hostManifest.Canonical := by
  unfold State.hostManifest
  split
  · exact h
  · split
    · exact h
    · split
      · exact h.unstage.acceptManifest
      · exact .ite h.fwuErr.withFwu h.fwuErr.endTransfer

theorem State.Canonical.fwuPush (h : s.Canonical) {data} : (s.fwuPush data).Canonical :=
  .ite h.fwuSequence <| .ite h.fwuErr h.stageBytes.hostManifest.verifyBlocks

theorem State.Canonical.fwuAbort (h : s.Canonical) : s.fwuAbort.Canonical :=
  .ite h.fwuSequence (State.Canonical.endTransfer (by split; exacts [(h.orElse fun k => k.riserAdd).setFwd, h]))

theorem State.Canonical.fwuManifest (h : s.Canonical) {m} : (s.fwuManifest m).Canonical := by
  unfold State.fwuManifest
  refine .ite h.riserAdd ?_
  split
  · exact h.acceptManifest.riserAdd
  · exact h.fwuErr.riserAdd

theorem State.Canonical.fwuDataRx (h : s.Canonical) {image block off data} : (s.fwuDataRx image block off data).Canonical := by
  unfold State.fwuDataRx
  split
  · exact .ite h <| .ite h.riserAdd h.stageBytes.verifyBlocks
  · exact h

theorem State.Canonical.fwuDiscard (h : s.Canonical) : s.fwuDiscard.Canonical := by
  unfold State.fwuDiscard
  split
  · exact h.advanceTo.erase.setFwSlot.setSlotState.setFwd.setFld.endTransfer
  · exact h

theorem State.Canonical.install (h : s.Canonical) : s.install.Canonical := by
  unfold State.install
  split
  · exact .ite h.setSlotState.setFld.fwuErr.setFwuState h.setSlotState.setSlotState.setFwuState.wr.setFwd.withFwu
  · exact h

theorem State.Canonical.failTrial (h : s.Canonical) {err} : (s.failTrial err).Canonical := by
  unfold State.failTrial
  split
  · exact h.setSlotState.setFld.setSlotState.setFwuState.withFwu
  · exact h

theorem State.Canonical.suspendRemote (h : s.Canonical) : s.suspendRemote.Canonical := h.foldl fun _ _ k => k.setQual
theorem State.Canonical.switchSteward (h : s.Canonical) : s.switchSteward.Canonical := h.withFwu.needSlot.settleSlots
theorem State.Canonical.handoverCancelled (h : s.Canonical) : s.handoverCancelled.Canonical := .ite h.failTrial.fwuErr h.withFwu

theorem State.Canonical.stewardHandover (h : s.Canonical) : s.stewardHandover.Canonical := by
  unfold State.stewardHandover
  split
  · exact .ite h <|
      .ite h.suspendRemote.nextFree.handoverCancelled h.suspendRemote.nextFree.setRunning.withSettings.setFwuState.withFwu.switchSteward
  · exact h

theorem State.Canonical.reportCard (h : s.Canonical) : s.reportCard.Canonical := by
  unfold State.reportCard
  split
  · exact .ite h (h.setSlotState.setFwuState.erase.withFwu.record.orElse fun k => k.setFwuState.offer)
  · exact h

theorem State.Canonical.fallBack (h : s.Canonical) : s.fallBack.Canonical := by
  unfold State.fallBack
  split
  · exact (h.failTrial.setBit.orElse fun k => k.suspendRemote.setRunning.switchSteward.restoreSettings.outputsUpdate).record.nextFree
  · exact h

/-! ### Machine/FieldIO -/

theorem State.Canonical.bindWrite (h : s.Canonical) {a v} : (s.bindWrite a v).Canonical := by
  unfold State.bindWrite
  split
  · exact h
  · dsimp only
    split
    · split
      · exact h.wr.doUpdate
      · exact h.wr.aoUpdate
      · exact h.wr
    · exact .ite h.setBit.setBit h.setBit

theorem State.Canonical.unbindPoint (h : s.Canonical) {i} : (s.unbindPoint i).Canonical :=
  .ite h (h.foldl fun _ _ k => k.wr.record).outputsUpdate

theorem State.Canonical.execChannelBind (h : s.Canonical) {m addr v} : Out.Canonical (execChannelBind m addr v s) :=
  (h.asPrefect (fun k => .ite (k.overLink (fun k1 => k1.bindWrite)) k.bindWrite)).next

theorem State.Canonical.outEnable (h : s.Canonical) {v} : (s.outEnable v).Canonical := h.wr.outputsUpdate.daliSettleAll

theorem State.Canonical.execFieldOutEnable (h : s.Canonical) {m v} : Out.Canonical (execFieldOutEnable m v s) :=
  (h.asPrefect (fun k => k.overLink (fun k1 => k1.outEnable))).next

theorem State.Canonical.diAccept (h : s.Canonical) {d st} : (s.diAccept d st).Canonical :=
  .ite ((h.setBit.orElse fun k => k.inc).setBit.orElse fun k => k.irq).withField.wakeRequest (((h.setBit.orElse
    fun k => k.inc).setBit.orElse fun k => k.irq).withField.orElse fun k => k.diCommit)

theorem State.Canonical.execDiSample (h : s.Canonical) {di raw} : Out.Canonical (execDiSample di raw s) :=
  .ite h.next (h.setBit.setFld.elseOr fun k => k.diAccept).next

theorem State.Canonical.fbCommit (h : s.Canonical) {d} : (s.fbCommit d).Canonical := .ite h.commitPoint h
theorem State.Canonical.setDoHeld (h : s.Canonical) {d code} : (s.setDoHeld d code).Canonical := h.withField

theorem State.Canonical.doFault (h : s.Canonical) {d code} : (s.doFault d code).Canonical :=
  .ite h ((h.iteBoth (fun k => k.setFld.setFld) fun k => k.setFld.elseOr fun k => k.setDoHeld).incSat.orElse
    fun k => k.setBit).record.fbCommit

theorem State.Canonical.doUnfault (h : s.Canonical) {d} : (s.doUnfault d).Canonical := h.wr.fbCommit
theorem State.Canonical.doShownEnd (h : s.Canonical) {d} : (s.doShownEnd d).Canonical := .ite h.setFld.setDoHeld.fbCommit h.doUnfault

theorem State.Canonical.execDoReadbackFault (h : s.Canonical) {dch rb} : Out.Canonical (execDoReadbackFault dch rb s) :=
  ((h.setBit.orElse fun k => k.fbCommit).elseOr fun k => k.doFault).next

theorem State.Canonical.execDoOverload (h : s.Canonical) {dch} : Out.Canonical (execDoOverload dch s) := (h.orElse fun k => k.doFault).next

theorem State.Canonical.execDoOverTemperature (h : s.Canonical) {dch} : Out.Canonical (execDoOverTemperature dch s) :=
  (h.orElse fun k => k.doFault).next

theorem State.Canonical.setGrpRetry (h : s.Canonical) {g n} : (s.setGrpRetry g n).Canonical := h.withField

theorem State.Canonical.execDoGroupOverload (h : s.Canonical) {grp current} : Out.Canonical (execDoGroupOverload grp current s) :=
  (h.setFld.elseOr fun k => k.setBit.setGrpRetry.foldl fun _ _ k => k.doFault).next

theorem State.Canonical.grpOn (h : s.Canonical) {g} : (s.grpOn g).Canonical :=
  h.setBit.setBit.setGrpRetry.foldl fun _ _ k => .ite k.doShownEnd k

theorem State.Canonical.doRetry (h : s.Canonical) {target ok} : (s.doRetry target ok).Canonical := by
  unfold State.doRetry
  split
  · exact .ite (.ite h.doUnfault (h.setFld.orElse fun k => k.setBit)) h
  · exact .ite (.ite h.grpOn (h.setGrpRetry.orElse fun k => k.setBit)) h

theorem State.Canonical.execDoRetry (h : s.Canonical) {target ok} : Out.Canonical (execDoRetry target ok s) := h.doRetry.next
theorem State.Canonical.doClear (h : s.Canonical) {d} : (s.doClear d).Canonical := .ite h <| .ite h.setBit.setFld.setDoHeld h.doUnfault

theorem State.Canonical.execDoClear (h : s.Canonical) {m dch} : Out.Canonical (execDoClear m dch s) :=
  (h.asPrefect (fun k => k.overLink (fun k1 => k1.doClear))).next

theorem State.Canonical.doGroupClear (h : s.Canonical) {g} : (s.doGroupClear g).Canonical := .ite h.grpOn h

theorem State.Canonical.execDoGroupClear (h : s.Canonical) {m grp} : Out.Canonical (execDoGroupClear m grp s) :=
  (h.asPrefect (fun k => k.overLink (fun k1 => k1.doGroupClear))).next

theorem State.Canonical.execStuckOnClear (h : s.Canonical) {dch} : Out.Canonical (execStuckOnClear dch s) :=
  (h.orElse fun k => k.setBit.doShownEnd).next

theorem State.Canonical.execVfldLow (h : s.Canonical) {bank} : Out.Canonical (execVfldLow bank s) :=
  (h.setBit.setBit.foldl fun _ _ k => (k.orElse fun k => k.setFld).fbCommit).next

theorem State.Canonical.execVfldRestore (h : s.Canonical) {bank} : Out.Canonical (execVfldRestore bank s) :=
  (h.setBit.setBit.withField.foldl fun _ _ k => (k.orElse fun k => k.setFld).fbCommit).next

theorem State.Canonical.aiCommit (h : s.Canonical) {n x diag beyond} : (s.aiCommit n x diag beyond).Canonical := h.commitPoint

theorem State.Canonical.execAiConversion (h : s.Canonical) {ai code16 micro} : Out.Canonical (execAiConversion ai code16 micro s) :=
  .ite h.next (h.setFld.setFld.withField.orElse fun k => k.aiCommit).next

theorem State.Canonical.execAiShuntRetry (h : s.Canonical) {ai} : Out.Canonical (execAiShuntRetry ai s) := (h.orElse fun k => k.setFld).next

theorem State.Canonical.execCsMeanCommit (h : s.Canonical) {cs mean} : Out.Canonical (execCsMeanCommit cs mean s) :=
  .ite h.commitPoint.next h.next

/-! ### Machine/KeyOps -/

theorem State.Canonical.setKeyByte (h : s.Canonical) {off b} : (s.setKeyByte off b).Canonical := .ite h.setFld h
theorem State.Canonical.setKeyBytes (h : s.Canonical) {off l} : (s.setKeyBytes off l).Canonical := h.fst_foldl fun _ _ k => k.setKeyByte
theorem State.Canonical.zeroKeyBuf (h : s.Canonical) : s.zeroKeyBuf.Canonical := h.withRegs
theorem State.Canonical.locketPut (h : s.Canonical) {a b} : (s.locketPut a b).Canonical := h.locketWrite
theorem State.Canonical.sealLine1 (h : s.Canonical) : s.sealLine1.Canonical := h.locketPut
theorem State.Canonical.sealAttrs (h : s.Canonical) : s.sealAttrs.Canonical := h.withKey

theorem State.Canonical.fillSlot (h : s.Canonical) {k attr bind key} : (s.fillSlot k attr bind key).Canonical :=
  h.locketPut.wr.wr.withKey.sealLine1.sealAttrs

theorem State.Canonical.emptySlot (h : s.Canonical) {k} : (s.emptySlot k).Canonical := h.locketPut.wr.wr.withKey.sealAttrs
theorem State.Canonical.emptySlots (h : s.Canonical) : s.emptySlots.Canonical := (h.foldl fun _ _ k => k.wr.wr).withKey
theorem State.Canonical.random256 (h : s.Canonical) : s.random256.1.Canonical := h.fst_foldl fun _ _ k => k.nextFree
theorem State.Canonical.newNonce (h : s.Canonical) : s.newNonce.Canonical := h.random256.withKey
theorem State.Canonical.denyUse (h : s.Canonical) : s.denyUse.1.Canonical := h.incSat
theorem State.Canonical.installOwner (h : s.Canonical) {alg pub wrap} : (s.installOwner alg pub wrap).Canonical := h.fillSlot.fillSlot

theorem State.Canonical.changeEffects (h : s.Canonical) {new} : (s.changeEffects new).Canonical :=
  ((h.withScan.debugEnd.orElse fun k => k.setPhase).orElse fun k => k.kept.erase.erase.erase).orElse fun k => k.setBit.foldl
    fun _ _ k => k.setBit

theorem State.Canonical.burnRow (h : s.Canonical) {old new} : (s.burnRow old new).Canonical := .ite h.withKey h.withKey

theorem State.Canonical.changeLocket (h : s.Canonical) {old new} : (s.changeLocket old new).Canonical := by
  unfold State.changeLocket
  extract_lets t u v
  have hu : u.Canonical := h.locketPut.locketPut.emptySlots.elseOr fun k => k.iteBoth
    (fun k => k.locketPut.setBit) fun k => k.random256.locketPut.setBit.setFld
  clear_value u
  exact hu.setFld.setFld.iteBoth (fun k => k.keepCheckpoints) fun k => k.sealLine1

theorem State.Canonical.changeEvent (h : s.Canonical) {old new} : (s.changeEvent old new).Canonical := h.record

theorem State.Canonical.changeLcs (h : s.Canonical) {old new} : (s.changeLcs old new).Canonical :=
  (State.Canonical.changeEffects (by split; exacts [h.burnRow.changeLocket.installOwner, h.burnRow.changeLocket])).zeroKeyBuf.changeEvent

theorem State.Canonical.doTransition (h : s.Canonical) {target} : (s.doTransition target).1.Canonical :=
  .fst_ite (h.orElse fun k => k.newNonce).changeLcs <| .ite h.newNonce h

theorem State.Canonical.changeCut (h : s.Canonical) : s.changeCut.Canonical := by
  unfold State.changeCut
  split
  · split
    · exact .ite h.burnRow.nextFree h.nextFree
    · exact h
  · exact h

theorem State.Canonical.afterRecord (h : s.Canonical) : s.afterRecord.Canonical := .ite h.newNonce h

theorem State.Canonical.tryFill (h : s.Canonical) {k attr bind key} : (s.tryFill k attr bind key).1.Canonical :=
  .fst_ite h <| .fst_ite h.denyUse h.fillSlot

theorem State.Canonical.doLoad (h : s.Canonical) {k} : (s.doLoad k).1.Canonical :=
  .fst_ite h <| .fst_ite h.afterRecord h.afterRecord.tryFill

theorem State.Canonical.doGenerate (h : s.Canonical) {k} : (s.doGenerate k).1.Canonical :=
  .fst_ite h <| .fst_ite h.afterRecord <| .fst_ite h.afterRecord <|
    .fst_ite h.afterRecord.random256.tryFill.setKeyBytes.setFld h.afterRecord.random256.tryFill

theorem State.Canonical.doDerive (h : s.Canonical) {k} : (s.doDerive k).1.Canonical :=
  .fst_ite h <| .fst_ite h <| .fst_ite h.afterRecord h.afterRecord.tryFill

theorem State.Canonical.doErase (h : s.Canonical) {k} : (s.doErase k).1.Canonical :=
  .fst_ite (.fst_ite h.newNonce.emptySlot.sealLine1 h.newNonce) h.emptySlot.sealLine1

theorem State.Canonical.doRestore (h : s.Canonical) : s.doRestore.1.Canonical :=
  .fst_ite h <| .fst_ite h <| .fst_ite h.newNonce h.newNonce.installOwner

theorem State.Canonical.keyOut (h : s.Canonical) {l} : (s.keyOut l).Canonical := h.setKeyBytes.setFld

theorem State.Canonical.doGcm (h : s.Canonical) {j enc} : (s.doGcm j enc).1.Canonical :=
  .fst_ite h <| .fst_ite h.denyUse <| .fst_ite h.keyOut <| .fst_ite h.keyOut h

theorem State.Canonical.keyResult (h : s.Canonical) {j} : (s.keyResult j).1.Canonical := by
  unfold State.keyResult
  dsimp only
  split
  · exact h.doTransition
  · exact h.doLoad
  · exact h.doErase
  · exact h.doRestore
  · exact h.setKeyBytes
  · exact .fst_ite h h.keyOut
  · exact .fst_ite h h.keyOut
  · exact .fst_ite h <| .fst_ite h.keyOut h.denyUse
  · exact h.doGcm
  · exact h.doGcm
  · exact .fst_ite h <| .fst_ite h.keyOut.nextFree h.denyUse
  · exact .fst_ite h <| .fst_ite (.fst_ite h <| .fst_ite h h) h.denyUse
  · exact h.doDerive
  · exact h.doGenerate
  · exact .fst_ite h.keyOut h
  · exact .fst_ite h.withKey h

theorem State.Canonical.keyEnd (h : s.Canonical) {code} : (s.keyEnd code).Canonical := h.withKey.setBit.setFld.irq

theorem State.Canonical.keyStart (h : s.Canonical) {m op slot} : (s.keyStart m op slot).Canonical := by
  unfold State.keyStart
  exact .ite (.ite h.setFld h) <| .ite h.keyEnd <| .ite h.keyEnd <|
    .ite h.keyEnd (State.Canonical.setBit (by split; exacts [h.nextFree, h])).setFld.withKey

theorem State.Canonical.tamper (h : s.Canonical) {sensor active} : (s.tamper sensor active).Canonical := by
  refine h.setBit.elseOr fun h => ?_
  have hz : State.Canonical { (s.setBit Reg.KEY_TAMPER_STAT (21 + sensor) active) with locket := [] } := { h with locket := rfl }
  exact hz.kept.setBit.incSat.setBit.elseOr fun k => (k.orElse fun k => k.keyEnd).emptySlots.setBit.zeroKeyBuf.debugEnd.record

theorem State.Canonical.imageKeyUse (h : s.Canonical) {x} : (s.imageKeyUse x).Canonical := by
  unfold State.imageKeyUse
  split
  · exact h.orElse fun k => k.incSat
  · exact h

/-! ### Machine/PassOps -/

theorem State.Canonical.dropLoad (h : s.Canonical) : s.dropLoad.Canonical := .ite h.setFld.setBit.withScan h
theorem State.Canonical.passPend (h : s.Canonical) : s.passPend.Canonical := h.setFld
theorem State.Canonical.setClaims (h : s.Canonical) {l} : (s.setClaims l).Canonical := h.withHost.passPend
theorem State.Canonical.dropClaim (h : s.Canonical) {n} : (s.dropClaim n).Canonical := h.setClaims

theorem State.Canonical.passTo (h : s.Canonical) {new cause} : (s.passTo new cause).Canonical :=
  (State.Canonical.irq (by split; exacts [h.wr.dropClaim.withHost, h.wr.withHost])).record.wr.settleSlots.dropLoad

theorem State.Canonical.openElection (h : s.Canonical) : s.openElection.Canonical := h.setBit.withHost
theorem State.Canonical.electPending (h : s.Canonical) : s.electPending.Canonical := .ite h h.openElection

theorem State.Canonical.claim (h : s.Canonical) {n prio nonce} : (s.claim n prio nonce).Canonical :=
  .ite h (h.setClaims.orElse fun k => k.openElection)

theorem State.Canonical.renew (h : s.Canonical) {n nonce} : (s.renew n nonce).Canonical := .ite (.ite h.withHost h.setLastErr) h.setLastErr
theorem State.Canonical.releasePass (h : s.Canonical) {n} : (s.releasePass n).Canonical := .ite h.passTo.electPending h.setLastErr

theorem State.Canonical.handOver (h : s.Canonical) {n target} : (s.handOver n target).Canonical := by
  unfold State.handOver
  dsimp only
  split
  · exact h.setLastErr
  · split
    · exact h
    · split
      · exact h.passTo
      · exact h.withHost

theorem State.Canonical.acceptPass (h : s.Canonical) {n prio nonce} : (s.acceptPass n prio nonce).Canonical := by
  unfold State.acceptPass
  split
  · exact .ite h.passTo h
  · exact h

theorem State.Canonical.closeElection (h : s.Canonical) : s.closeElection.Canonical := by
  unfold State.closeElection
  split
  · exact h
  · dsimp only
    split
    · exact h.advanceTo.setBit.withHost.passTo
    · exact h.advanceTo.setBit.withHost

theorem State.Canonical.leaseIrq (h : s.Canonical) {before} : (s.leaseIrq before).Canonical := .ite h.irq h
theorem State.Canonical.lapseLease (h : s.Canonical) : s.lapseLease.Canonical := .ite h h.advanceTo.leaseIrq.passTo.electPending

theorem State.Canonical.lapseHandover (h : s.Canonical) : s.lapseHandover.Canonical := by
  unfold State.lapseHandover
  split
  · exact h.advanceTo.setBit.withHost
  · exact h

theorem State.Canonical.endSession (h : s.Canonical) {n} : (s.endSession n).Canonical :=
  h.setBit.dropClaim.orElse fun k => k.passTo.electPending

theorem State.Canonical.appearSession (h : s.Canonical) {n} : (s.appearSession n).Canonical := .ite h h.setBit

theorem State.Canonical.passCmd (h : s.Canonical) {f : State → Fin 8 → State} (hf : ∀ {t a}, t.Canonical → (f t a).Canonical) {m}
    : (s.passCmd m f).Canonical := by
  unfold State.passCmd
  split
  · exact .ite h (hf h.wakeRequest)
  · exact h

theorem State.Canonical.pcieEvent (h : s.Canonical) {ev} : (s.pcieEvent ev).Canonical := by
  unfold State.pcieEvent
  split
  · exact h.withHost.elseOr fun k => k.wakeRequest
  · exact h.withHost.elseOr fun k => k.wakeRequest
  · exact h.withHost
  · exact h.withHost
  · exact h.withHost

/-! ### Machine/MeterOps -/

theorem State.Canonical.setMckt (h : s.Canonical) {k x} : (s.setMckt k x).Canonical := h.withMeter
theorem State.Canonical.track (h : s.Canonical) {sup m} : (s.track sup m).Canonical := h.wr.setBit

theorem State.Canonical.registerEnergy (h : s.Canonical) {k c n} : (s.registerEnergy k c n).Canonical :=
  h.setBit.elseOr fun k => k.withMeter

theorem State.Canonical.pulseAccrue (h : s.Canonical) {o gain} : (s.pulseAccrue o gain).Canonical :=
  .ite h (h.withMeter.setFld.orElse fun k => k.setBit.record)

theorem State.Canonical.supervise (h : s.Canonical) {k c} : (s.supervise k c).Canonical := h.setMckt.orElse fun k => k.setBit

theorem State.Canonical.superviseNow (h : s.Canonical) {k cond} : (s.superviseNow k cond).Canonical := by
  unfold State.superviseNow
  dsimp only
  split
  · exact h
  · exact .ite h h.advanceTo.setMckt.setBit.record

theorem State.Canonical.endEpisodes (h : s.Canonical) {k} : (s.endEpisodes k).Canonical := (h.foldl fun _ _ k => .ite k k.setBit).setMckt

theorem State.Canonical.commitQuantity (h : s.Canonical) {e} : (s.commitQuantity e).Canonical :=
  .ite (.ite h.commitPoint h.setPoint) h.commitPoint

theorem State.Canonical.commitQuantities (h : s.Canonical) {ks} : (s.commitQuantities ks).Canonical :=
  .ite h (h.foldl fun _ _ k => .ite k.commitQuantity k)

theorem State.Canonical.highPassed (h : s.Canonical) {ch x} : (s.highPassed ch x).1.Canonical := h.withMeter

theorem State.Canonical.cktCycle (h : s.Canonical) {sup m k y} : (s.cktCycle sup m k y).Canonical :=
  ((h.highPassed.withMeter.orElse fun k => k.incSat).registerEnergy.supervise.foldl fun _ _ k => k.pulseAccrue).setMckt

theorem State.Canonical.supplyCycle (h : s.Canonical) {sup m cs} : (s.supplyCycle sup m cs).Canonical :=
  h.highPassed.track.foldl fun _ _ k => .ite k.cktCycle k

theorem State.Canonical.endInterval (h : s.Canonical) {sup} : (s.endInterval sup).Canonical :=
  (h.foldl fun _ _ k => k.setBit).commitQuantities.foldl fun _ _ k => k.endEpisodes.setMckt

theorem State.Canonical.snapSupply (h : s.Canonical) {sup} : (s.snapSupply sup).Canonical :=
  .ite ((h.withMeter.orElse fun k => k.wr.wr).elseOr fun k => k.setBit.withMeter) h

theorem State.Canonical.calSwitch (h : s.Canonical) {sup} : (s.calSwitch sup).Canonical := by
  unfold State.calSwitch
  split
  · exact h.withMeter
  · exact h

theorem State.Canonical.lineCycle (h : s.Canonical) {sup m cs} : (s.lineCycle sup m cs).Canonical :=
  .ite h (h.setBit.supplyCycle.orElse fun k => k.endInterval).snapSupply.calSwitch

theorem State.Canonical.calApply (h : s.Canonical) : s.calApply.Canonical := .ite h.withMeter.inc.record h.setBit
theorem State.Canonical.qmapWrite (h : s.Canonical) {e v} : (s.qmapWrite e v).Canonical := .ite h.wr <| .ite h.wr h.wr.setBit
theorem State.Canonical.qmapDrop (h : s.Canonical) {i} : (s.qmapDrop i).Canonical := h.foldl fun _ _ k => k.setBit.record
theorem State.Canonical.snapStart (h : s.Canonical) : s.snapStart.Canonical := h.setBit.withMeter
theorem State.Canonical.clearStore (h : s.Canonical) : s.clearStore.Canonical := h.erase.erase.withMeter
theorem State.Canonical.meterClear (h : s.Canonical) : s.meterClear.Canonical := .ite h.clearStore.withMeter h
theorem State.Canonical.putSave (h : s.Canonical) {r} : (s.putSave r).Canonical := .ite h.withMeter h.erase.erased.withMeter
theorem State.Canonical.meterSave (h : s.Canonical) : s.meterSave.Canonical := .ite h h.advanceTo.withMeter

theorem State.Canonical.saveConfirmed (h : s.Canonical) : s.saveConfirmed.Canonical := by
  unfold State.saveConfirmed
  split
  · exact h.inc.putSave.withMeter
  · exact h

theorem State.Canonical.saveLate (h : s.Canonical) : s.saveLate.Canonical := by
  unfold State.saveLate
  split
  · exact h.advanceTo.setBit.record
  · exact h

theorem State.Canonical.energyStep (h : s.Canonical) {cut} : (s.energyStep cut).Canonical :=
  (h.orElse fun k => k.foldl fun _ _ k => k.supplyCycle).foldl fun _ _ k => k.locketWrite

theorem State.Canonical.enterBattery (h : s.Canonical) {vbat} : (s.enterBattery vbat).Canonical := h.setBit.orElse fun k => k.withMeter

theorem State.Canonical.batteryMeasure (h : s.Canonical) {rms} : (s.batteryMeasure rms).Canonical := by
  unfold State.batteryMeasure
  split
  · exact h
  · exact h.withMeter

theorem State.Canonical.batteryRecord (h : s.Canonical) : s.batteryRecord.Canonical := by
  unfold State.batteryRecord
  split
  · exact h
  · exact h.foldl fun _ _ k => k.locketWrite

theorem State.Canonical.leaveBattery (h : s.Canonical) : s.leaveBattery.Canonical := h.batteryRecord.withMeter
theorem State.Canonical.meterStart (h : s.Canonical) : s.meterStart.Canonical := h.leaveBattery.withMeter
theorem State.Canonical.mergeBattery (h : s.Canonical) {k} : (s.mergeBattery k).Canonical := h.wr.elseOr fun k => k.record

theorem State.Canonical.meterMerge (h : s.Canonical) : s.meterMerge.Canonical :=
  .ite h (((h.orElse fun k => k.setBit).elseOr fun k => k.foldl
    fun _ _ k => k.mergeBattery).inc.putSave.locketWrite.withMeter.orElse fun k => k.foldl fun _ _ k => .ite k.commitQuantity k)

theorem State.Canonical.meterLinkLost (h : s.Canonical) : s.meterLinkLost.Canonical := h.withMeter.foldl fun _ _ k => k.setQual
theorem State.Canonical.meterLinkBack (h : s.Canonical) : s.meterLinkBack.Canonical := h.withMeter
theorem State.Canonical.pulseEmit (h : s.Canonical) {o} : (s.pulseEmit o).Canonical := .ite h h.advanceTo.withMeter.setFld.emit

theorem State.Canonical.meterWrite (h : s.Canonical) {a v} : CanonicalIn (s.meterWrite a v) := by
  unfold State.meterWrite
  exact .ite (((h.wr.elseOr fun k => k.setBit).orElse fun k => k.snapStart).orElse fun k => k.meterClear).some <|
    .ite (h.orElse fun k => k.wr).some <| .ite (h.orElse fun k => k.calApply).some <| .ite h.qmapWrite.some <|
    .ite (h.orElse fun k => k.wr).some .none

end Sys2Proof.Machine
end

section
/-! Canonical memories (R34, R289; log entry 3; O60): the image, the networks, the supplies and the start. -/

namespace Sys2Proof.Machine

-- One proof at a time: the proofs of this part are large, and elaborated side by side they take more memory than a compile has.
set_option Elab.async false

variable {s : State}

/-! ### Machine/ProgOps -/

theorem State.Canonical.setProg (h : s.Canonical) {st} : (s.setProg st).Canonical := h.setFld.setBit
theorem State.Canonical.progErr (h : s.Canonical) {code} : (s.progErr code).Canonical := h.setFld
theorem State.Canonical.outOfSequence (h : s.Canonical) : s.outOfSequence.Canonical := h.progErr

theorem State.Canonical.refuseImage (h : s.Canonical) {code item kind} : (s.refuseImage code item kind).Canonical :=
  h.setProg.progErr.wr.record

theorem State.Canonical.progBegin (h : s.Canonical) {m tenantImg tenant} : (s.progBegin m tenantImg tenant).Canonical :=
  .ite h.withScan.setProg.progErr.setFld h.outOfSequence

theorem State.Canonical.progPush (h : s.Canonical) {items} : (s.progPush items).Canonical :=
  .ite (.ite h.progErr h.withScan.setProg) h.outOfSequence

theorem State.Canonical.progCheck (h : s.Canonical) : s.progCheck.Canonical := .ite h.setProg.progErr.wr.setBit h.outOfSequence

theorem State.Canonical.progChecked (h : s.Canonical) : s.progChecked.Canonical := by
  unfold State.progChecked
  extract_lets refusal t
  have ht : t.Canonical := by
    unfold t
    split
    · exact h.elseOr fun k => k.imageKeyUse
    · exact h
  clear_value t refusal
  split
  · split
    · exact (ht.orElse fun k => k.nextFree).refuseImage
    · exact ht.setProg
  · exact h

theorem State.Canonical.progAbort (h : s.Canonical) : s.progAbort.Canonical := .ite h.outOfSequence h.withScan.setProg

theorem State.Canonical.startPoint (h : s.Canonical) {d} : (s.startPoint d).Canonical := by
  unfold State.startPoint
  split
  · exact h.setPoint
  · exact h.setPoint.retainPoint

theorem State.Canonical.startPoints (h : s.Canonical) : s.startPoints.Canonical := (h.withPoints.foldl fun _ _ k => k.startPoint).withScan
theorem State.Canonical.storePieces (h : s.Canonical) {base l} : (s.storePieces base l).Canonical := h.foldl fun _ _ k => k.storeAt

theorem State.Canonical.clearSpace (h : s.Canonical) {base len} : (s.clearSpace base len).Canonical :=
  { h with mem := Memory.wf_filter _ _ h.mem }

theorem State.Canonical.placeCode (h : s.Canonical) {l c} : (s.placeCode l c).Canonical := h.clearSpace.storePieces.withScan
theorem State.Canonical.placeCluster (h : s.Canonical) {l cl pick} : (s.placeCluster l cl pick).Canonical := h.withScan.storePieces

theorem State.Canonical.placeImage (h : s.Canonical) : s.placeImage.Canonical :=
  (h.foldl fun _ _ k => k.placeCode.initState).foldl fun _ _ k => k.placeCluster

theorem State.Canonical.placeGroups (h : s.Canonical) {l} : (s.placeGroups l).Canonical := h.of_eq rfl

theorem State.Canonical.showId (h : s.Canonical) : s.showId.Canonical := by
  unfold State.showId
  split <;> exact h.wr.wr

theorem State.Canonical.dropPeriods (h : s.Canonical) : s.dropPeriods.Canonical :=
  (h.foldl fun _ _ k => k.restoreState.setLesson).kept.settleSlots

theorem State.Canonical.scanStop (h : s.Canonical) : s.scanStop.Canonical := h.dropPeriods.runStop
theorem State.Canonical.bellsStart (h : s.Canonical) : s.bellsStart.Canonical := (h.withScan.foldl fun _ _ k => k.wr).setBit.setBit
theorem State.Canonical.restartEvent (h : s.Canonical) : s.restartEvent.Canonical := h.record

theorem State.Canonical.prefectRun (h : s.Canonical) : s.prefectRun.Canonical :=
  .ite h <| .ite h.withScan.restartEvent.outputsUpdate.bellsStart (h.foldl fun _ _ k => k.setLesson).bellsStart

theorem State.Canonical.loadImage (h : s.Canonical) : s.loadImage.Canonical :=
  ((h.withScan.keepCheckpoints.placeImage.placeGroups.startPoints.foldl fun _ _ k => k.setLesson).foldl
    fun _ _ k => k.qmapDrop).withScan.loopClear.wr.showId.setProg.outputsUpdate

theorem State.Canonical.progLoad (h : s.Canonical) : s.progLoad.Canonical := .ite h.loadImage h.outOfSequence

theorem State.Canonical.restoreWarm (h : s.Canonical) {k} : (s.restoreWarm k).Canonical :=
  (((h.foldl fun _ _ k => k.storeAt).foldl fun _ _ k => k.foldl fun _ _ k1 => k1.storeAt).foldl fun _ _ k => .ite (.ite (
    .ite k k.setPoint) k.setPoint) k).foldl fun _ _ k => k.setPoint

theorem State.Canonical.restartScan (h : s.Canonical) {cold run} : (s.restartScan cold run).Canonical := by
  unfold State.restartScan
  split
  rename_i k reason _
  extract_lets t _ u age v w _ x y
  have ht : t.Canonical := h.scanStop.trimCheckpoints.placeImage.startPoints.loopClear
  clear_value t
  have hu : u.Canonical := by
    unfold u
    split
    · exact ht.restoreWarm
    · exact ht.withScan
  have hw : w.Canonical := hu.wr.foldl fun _ _ k => k.setLesson
  have hy : y.Canonical := State.Canonical.outputsUpdate (State.Canonical.restartEvent hw.withScan)
  clear_value y
  exact hy.orElse fun k => k.bellsStart

theorem State.Canonical.restartCmd (h : s.Canonical) {cold} : (s.restartCmd cold).Canonical :=
  .ite h.outOfSequence <| .ite h.restartScan h.scanStop.checkpoint.restartScan

theorem State.Canonical.progArm (h : s.Canonical) : s.progArm.Canonical := by
  unfold State.progArm
  dsimp only
  split
  · exact h.outOfSequence
  · split
    · exact h.refuseImage
    · exact h.withScan.setProg.setBit

theorem State.Canonical.copyStaged (h : s.Canonical) {w} : (s.copyStaged w).Canonical := h.foldl fun _ _ k => k.storeAt

theorem State.Canonical.stagingDone (h : s.Canonical) : s.stagingDone.Canonical := by
  unfold State.stagingDone
  split
  · exact .ite h <| .ite h.withScan.refuseImage h.withScan.copyStaged.setProg
  · exact h

theorem State.Canonical.rearm (h : s.Canonical) : s.rearm.Canonical := by
  unfold State.rearm
  split
  · split
    · exact h
    · split
      · exact h.withScan.refuseImage
      · exact h
  · exact h

theorem State.Canonical.switchPoint (h : s.Canonical) {old d} : (s.switchPoint old d).Canonical := by
  unfold State.switchPoint
  split
  · exact .ite h.setPoint <| .ite h.setPoint.retainPoint h.setPoint.retainPoint
  · exact h.setPoint.retainPoint

theorem State.Canonical.unbindOutput (h : s.Canonical) {i} : (s.unbindOutput i).Canonical :=
  (h.foldl fun _ _ k => k.slotUnbind.record).foldl fun _ _ k => by split; exacts [.ite k.setOper.setOpMode.record k, k]

theorem State.Canonical.unbindMoved (h : s.Canonical) {old} : (s.unbindMoved old).Canonical :=
  (h.foldl fun _ _ k => k.unbindOutput).foldl fun _ _ k => by split; exacts [.ite k.unbindOutput k, k]

theorem State.Canonical.removePoint (h : s.Canonical) {i} : (s.removePoint i).Canonical :=
  (h.unbindOutput.qmapDrop.unbindPoint.orElse fun k => k.record).setPoint.follow

theorem State.Canonical.switchPoints (h : s.Canonical) {old new sel} : (s.switchPoints old new sel).Canonical := by
  unfold State.switchPoints
  dsimp only
  refine (h.foldl fun _ _ k => ?_).foldl fun _ _ k => State.Canonical.switchPoint (.ite (State.Canonical.unbindOutput ?_) ?_)
  · split
    · exact k.removePoint.elseOr fun _ => k
    · exact k
  all_goals
    split
    · exact k.elseOr fun k => k.removePoint
    · exact k

theorem State.Canonical.switchEnd (h : s.Canonical) {w} : (s.switchEnd w).Canonical := h.withScan.wr.wr.showId.setProg.record

theorem State.Canonical.switchBegin (h : s.Canonical) : s.switchBegin.Canonical := by
  unfold State.switchBegin
  split
  · exact h
  · exact (h.withScan.setProg.foldl fun _ _ k => .ite k k.setLesson).placeGroups.unbindMoved.switchPoints.orElse fun k => k.switchEnd

theorem State.Canonical.switchCoreNow (h : s.Canonical) {w c} : (s.switchCoreNow w c).Canonical :=
  ((h.placeCode.withScan.initState.withScan.foldl
    fun _ _ k => by split; exacts [k.storeAt.storeAt, k]).placeCluster.withScan.foldl
    fun _ _ k => by split; exacts [.ite k.setLesson k, k.setLesson]).switchPoints.withScan

theorem State.Canonical.lateBells (h : s.Canonical) {w c} : (s.lateBells w c).Canonical := h.foldl fun _ _ k => .ite k.readyLesson k

theorem State.Canonical.switchRelease (h : s.Canonical) {c} : (s.switchRelease c).Canonical := by
  unfold State.switchRelease
  split
  · exact h
  · refine .ite h (State.Canonical.resumeBest ?_)
    split
    · exact h.switchCoreNow.lateBells.orElse fun k => k.switchEnd
    · exact h.switchCoreNow.lateBells

/-! ### Machine/Bell -/

theorem State.Canonical.ring (h : s.Canonical) {cls} : (s.ring cls).Canonical := h.wr.withScan

theorem State.Canonical.bellMissed (h : s.Canonical) : s.bellMissed.Canonical := by
  unfold State.bellMissed
  split
  · exact .ite h.withScan.refuseImage h
  · exact h

theorem State.Canonical.unitBell (h : s.Canonical) {cls} : (s.unitBell cls).Canonical :=
  (h.loopSettle.loopBell.tracePoints.orElse fun k => k.dispBell.stewardHandover).orElse fun k => k.horizonBell

theorem State.Canonical.ringAt (h : s.Canonical) {cls t} : (s.ringAt cls t).Canonical :=
  ((h.orElse fun k => k.loopLate).advanceTo.orElse fun k => k.switchBegin).ring.bellMissed.bellLessons.unitBell

theorem State.Canonical.execBell (h : s.Canonical) {cls} : Out.Canonical (execBell cls s) :=
  .ite h.next (h.foldl fun _ _ k => k.ringAt).next

/-! ### Machine/BlockFloat -/

theorem State.Canonical.bfWrite (h : s.Canonical) {c i bd tt r} : Res.Canonical (s.bfWrite c i bd tt r) :=
  .ite .exc (h.setB.orElse fun k => k.setLs).done

theorem State.Canonical.bf (h : s.Canonical) {c i bd ba bb tt f} : Out.Canonical (s.bf c i bd ba bb tt f) := h.runInstr (fun k => k.bfWrite)
theorem State.Canonical.execVadd (h : s.Canonical) {c bd ba bb tt} : Out.Canonical (execVadd c bd ba bb tt s) := h.bf
theorem State.Canonical.execVsub (h : s.Canonical) {c bd ba bb tt} : Out.Canonical (execVsub c bd ba bb tt s) := h.bf
theorem State.Canonical.execVmul (h : s.Canonical) {c bd ba bb tt} : Out.Canonical (execVmul c bd ba bb tt s) := h.bf
theorem State.Canonical.execVmac (h : s.Canonical) {c bd ba bb tt} : Out.Canonical (execVmac c bd ba bb tt s) := h.bf
theorem State.Canonical.execVmin (h : s.Canonical) {c bd ba bb tt} : Out.Canonical (execVmin c bd ba bb tt s) := h.bf
theorem State.Canonical.execVmax (h : s.Canonical) {c bd ba bb tt} : Out.Canonical (execVmax c bd ba bb tt s) := h.bf
theorem State.Canonical.execVneg (h : s.Canonical) {c bd ba tt} : Out.Canonical (execVneg c bd ba tt s) := h.bf
theorem State.Canonical.execVabs (h : s.Canonical) {c bd ba tt} : Out.Canonical (execVabs c bd ba tt s) := h.bf
theorem State.Canonical.execVclamp (h : s.Canonical) {c bd ba bb tt} : Out.Canonical (execVclamp c bd ba bb tt s) := h.bf
theorem State.Canonical.execVdot (h : s.Canonical) {c bd ba bb tt} : Out.Canonical (execVdot c bd ba bb tt s) := h.bf
theorem State.Canonical.execVsum (h : s.Canonical) {c bd ba tt} : Out.Canonical (execVsum c bd ba tt s) := h.bf
theorem State.Canonical.execVbcast (h : s.Canonical) {c op lane bd ba bb tt} : Out.Canonical (execVbcast c op lane bd ba bb tt s) := h.bf
theorem State.Canonical.execVext (h : s.Canonical) {c ga bd lane} : Out.Canonical (execVext c ga bd lane s) := h.compute

theorem State.Canonical.execVins (h : s.Canonical) {c bd ga lane} : Out.Canonical (execVins c bd ga lane s) :=
  h.runInstr (fun k => k.bfWrite)

theorem State.Canonical.execVgexp (h : s.Canonical) {c ga bd} : Out.Canonical (execVgexp c ga bd s) := h.compute
theorem State.Canonical.execVsete (h : s.Canonical) {c bd ga} : Out.Canonical (execVsete c bd ga s) := h.runInstr (fun k => k.bfWrite)

theorem State.Canonical.execVcvt (h : s.Canonical) {c ga bd lane scale tt} : Out.Canonical (execVcvt c ga bd lane scale tt s) :=
  h.runInstr (fun k => .ite (.ite .exc k.setG.setLs.done) k.setG.done)

theorem State.Canonical.execVcvtf (h : s.Canonical) {c bd ga lane scale} : Out.Canonical (execVcvtf c bd ga lane scale s) :=
  h.runInstr (fun k => k.bfWrite)

theorem State.Canonical.execVcmp (h : s.Canonical) {c ga bd bb cond} : Out.Canonical (execVcmp c ga bd bb cond s) := h.compute
theorem State.Canonical.execVsplat (h : s.Canonical) {c bd ga} : Out.Canonical (execVsplat c bd ga s) := h.runInstr (fun k => k.bfWrite)
theorem State.Canonical.execVzero (h : s.Canonical) {c bd} : Out.Canonical (execVzero c bd s) := h.runInstr (fun k => k.setB.done)

/-! ### Machine/Branch -/

theorem State.Canonical.branch (h : s.Canonical) {c i ga gb off18 cond} : Out.Canonical (s.branch c i ga gb off18 cond) :=
  h.runInstr (fun k => .ite (.ite k.jump .exc) k.done)

theorem State.Canonical.execBeq (h : s.Canonical) {c ga gb off18} : Out.Canonical (execBeq c ga gb off18 s) := h.branch
theorem State.Canonical.execBne (h : s.Canonical) {c ga gb off18} : Out.Canonical (execBne c ga gb off18 s) := h.branch
theorem State.Canonical.execBlt (h : s.Canonical) {c ga gb off18} : Out.Canonical (execBlt c ga gb off18 s) := h.branch
theorem State.Canonical.execBge (h : s.Canonical) {c ga gb off18} : Out.Canonical (execBge c ga gb off18 s) := h.branch
theorem State.Canonical.execBltu (h : s.Canonical) {c ga gb off18} : Out.Canonical (execBltu c ga gb off18 s) := h.branch
theorem State.Canonical.execBgeu (h : s.Canonical) {c ga gb off18} : Out.Canonical (execBgeu c ga gb off18 s) := h.branch

theorem State.Canonical.jumpTo (h : s.Canonical) {c i target link} : Res.Canonical (s.jumpTo c i target link) :=
  .ite (State.Canonical.lendNow (by split; exacts [h.setG, h])) <| .ite (State.Canonical.jump (by split; exacts [h.setG, h])) .exc

theorem State.Canonical.execJal (h : s.Canonical) {c gd off18} : Out.Canonical (execJal c gd off18 s) := h.runInstr (fun k => k.jumpTo)
theorem State.Canonical.execJr (h : s.Canonical) {c ga off17} : Out.Canonical (execJr c ga off17 s) := h.runInstr (fun k => k.jumpTo)

theorem State.Canonical.execJalr (h : s.Canonical) {c gd ga off17} : Out.Canonical (execJalr c gd ga off17 s) :=
  h.runInstr (fun k => k.jumpTo)

/-! ### Machine/CharmOps -/

theorem State.Canonical.setSector (h : s.Canonical) {n b} : (s.setSector n b).Canonical :=
  { h with charm := Memory.wf_writeN _ _ _ h.charm }

theorem State.Canonical.grantLock (h : s.Canonical) {n} : (s.grantLock n).Canonical := .ite (h.setBit.withCharm h.charm) h

theorem State.Canonical.charmRun (h : s.Canonical) {n} : (s.charmRun n).Canonical := by
  unfold State.charmRun
  extract_lets b t
  have ht : t.Canonical := .ite h.setSector (h.foldl fun _ _ k => k.wr)
  clear_value t
  exact ht.wr.withCharm ht.charm

theorem State.Canonical.charmGo (h : s.Canonical) {m} : (s.charmGo m).Canonical := by
  unfold State.charmGo
  exact .ite h (.ite h.wr (.ite h.wr (.ite (h.wr.incSat.withCharm h.charm) h.charmRun)))

theorem State.Canonical.charmTimeout (h : s.Canonical) : s.charmTimeout.Canonical := by
  unfold State.charmTimeout
  split
  · exact h.advanceTo.wr.withCharm h.charm
  · exact h

theorem State.Canonical.charmLock (h : s.Canonical) {k v} : (s.charmLock k v).Canonical := h.wr.wr.foldl fun _ _ k => k.grantLock
theorem State.Canonical.lockTimeout (h : s.Canonical) {n} : (s.lockTimeout n).Canonical := .ite h.advanceTo.setBit.setBit h
theorem State.Canonical.rfLock (h : s.Canonical) {l} : (s.rfLock l).Canonical := h.foldl fun _ _ k => .ite k k.setBit
theorem State.Canonical.rfOpen (h : s.Canonical) : s.rfOpen.Canonical := h.setFld.withCharm h.charm

theorem State.Canonical.rfUpdate (h : s.Canonical) {file off b} : (s.rfUpdate file off b).Canonical := by
  unfold State.rfUpdate
  dsimp only
  split
  · exact h.rfOpen.nextFree.emit
  · exact .ite h.rfOpen.emit <| .ite h.rfOpen.nextFree.emit <| .ite h.rfOpen.incSat.emit h.rfOpen.rfLock.kept.emit

theorem State.Canonical.rfRead (h : s.Canonical) {file off n} : (s.rfRead file off n).Canonical := by
  unfold State.rfRead
  dsimp only
  split
  · exact h.rfOpen.nextFree.emit
  · exact .ite h.rfOpen.nextFree.emit h.rfOpen.rfLock.emit

theorem State.Canonical.commitShadow (h : s.Canonical) {n torn} : (s.commitShadow n torn).Canonical := by
  unfold State.commitShadow
  split
  · exact h.kept.elseOr fun k => k.setSector.elseOr fun k => k.irq
  · exact h

theorem State.Canonical.rfRelease (h : s.Canonical) {torn n} : (s.rfRelease torn n).Canonical :=
  .ite h (h.commitShadow.setBit.orElse fun k => k.charmRun).grantLock

theorem State.Canonical.rfLetGo (h : s.Canonical) {n deselect} : (s.rfLetGo n deselect).Canonical :=
  .ite h <| .ite h.setBit.rfRelease h.advanceTo.rfRelease

theorem State.Canonical.fieldLoss (h : s.Canonical) {torn} : (s.fieldLoss torn).Canonical := h.setFld.foldl fun _ _ k => k.rfRelease

theorem State.Canonical.charmWrite (h : s.Canonical) {m a v} : CanonicalIn (s.charmWrite m a v) :=
  .ite ((h.elseOr fun k => k.wr).orElse fun k => k.charmGo).some <| .ite h.charmLock.some <| .ite h.charmLock.some .none

/-! ### Machine/Charm -/

theorem State.Canonical.execCharmRead (h : s.Canonical) {m} : Out.Canonical (execCharmRead m s) :=
  (h.asPrefect (fun k => .ite k k.setBit.charmGo)).next

theorem State.Canonical.execCharmWrite (h : s.Canonical) {m} : Out.Canonical (execCharmWrite m s) :=
  (h.asPrefect (fun k => .ite k k.setBit.charmGo)).next

theorem State.Canonical.execCharmXferTimeout (h : s.Canonical) : Out.Canonical (execCharmXferTimeout s) := h.charmTimeout.next

theorem State.Canonical.execHostLockRequest (h : s.Canonical) {m n1 v} : Out.Canonical (execHostLockRequest m n1 v s) :=
  (h.asPrefect (fun k => k.charmLock)).next

theorem State.Canonical.execHostLockTimeout (h : s.Canonical) {sector} : Out.Canonical (execHostLockTimeout sector s) := h.lockTimeout.next

theorem State.Canonical.execRfUpdateBinary (h : s.Canonical) {file off16 bytes} : Out.Canonical (execRfUpdateBinary file off16 bytes s) :=
  h.rfUpdate.next

theorem State.Canonical.execRfReadBinary (h : s.Canonical) {file off16 len8} : Out.Canonical (execRfReadBinary file off16 len8 s) :=
  h.rfRead.next

theorem State.Canonical.execRfLockRelease (h : s.Canonical) {sector deselect} : Out.Canonical (execRfLockRelease sector deselect s) :=
  h.rfLetGo.next

theorem State.Canonical.execRfFieldLoss (h : s.Canonical) {torn} : Out.Canonical (execRfFieldLoss torn s) := h.fieldLoss.next

/-! ### Machine/Dali -/

theorem State.Canonical.setDaliEv (h : s.Canonical) {e x} : (s.setDaliEv e x).Canonical := h.withField

theorem State.Canonical.execDaliBusFail (h : s.Canonical) {line} : Out.Canonical (execDaliBusFail line s) :=
  .ite h.next (h.setFld.foldl fun _ _ k => k.setDaliEv.commitPoint).record.next

theorem State.Canonical.execDaliBusReturn (h : s.Canonical) {line} : Out.Canonical (execDaliBusReturn line s) :=
  .ite h.next <| .ite h.setFld.daliRefreshLine.next h.setFld.next

theorem State.Canonical.daliAddress (h : s.Canonical) {l} : (s.daliAddress l).Canonical := .ite h.setFld h

theorem State.Canonical.execDaliAddress (h : s.Canonical) {m line} : Out.Canonical (execDaliAddress m line s) :=
  (h.asPrefect (fun k => k.daliAddress)).next

theorem State.Canonical.execAddressingEnd (h : s.Canonical) {line gear dev dup excess}
    : Out.Canonical (execAddressingEnd line gear dev dup excess s) :=
  .ite h.next (h.setFld.setFld.setBit.setBit.wr.wr.wr.wr.orElse fun k => k.record).setDaliLine.setFld.daliRefreshLine.next

theorem State.Canonical.daliRefresh (h : s.Canonical) {l} : (s.daliRefresh l).Canonical := .ite h.daliRefreshLine h

theorem State.Canonical.execDaliRefresh (h : s.Canonical) {m line} : Out.Canonical (execDaliRefresh m line s) :=
  (h.asPrefect (fun k => k.daliRefresh)).next

theorem State.Canonical.execDaliOutputSend (h : s.Canonical) {line resends} : Out.Canonical (execDaliOutputSend line resends s) := by
  unfold Machine.execDaliOutputSend
  dsimp only
  split
  · exact h.next
  · exact .ite h.next <| .ite h.setDaliLine.setFld.setFld.next h.setDaliLine.setFld.withField.emit.next

theorem State.Canonical.daliEvCommit (h : s.Canonical) {e info ityp merged decoded}
    : (s.daliEvCommit e info ityp merged decoded).Canonical :=
  (h.setDaliEv.orElse fun k => k.addSat).commitPoint

theorem State.Canonical.daliEvent (h : s.Canonical) {e info ityp} : (s.daliEvent e info ityp).Canonical := .ite h.daliEvCommit h.setDaliEv

theorem State.Canonical.execDaliEvent (h : s.Canonical) {line sa inst info ityp} : Out.Canonical (execDaliEvent line sa inst info ityp s) :=
  .ite h.next ((h.orElse fun k => k.wakeRequest).foldl fun _ _ k => k.daliEvent).next

theorem State.Canonical.execDaliGapExpiry (h : s.Canonical) {entry10} : Out.Canonical (execDaliGapExpiry entry10 s) := by
  unfold Machine.execDaliGapExpiry
  dsimp only
  split
  · exact h.advanceTo.daliEvCommit.next
  · exact h.next

theorem State.Canonical.execDaliPoll (h : s.Canonical) {entry10 answer} : Out.Canonical (execDaliPoll entry10 answer s) := by
  unfold Machine.execDaliPoll
  dsimp only
  split
  · split <;> exact h.setDaliEv.commitPoint.next
  · exact h.next

theorem State.Canonical.daliRawGo (h : s.Canonical) : s.daliRawGo.Canonical := by
  unfold State.daliRawGo
  dsimp only
  split
  · exact h
  · split
    · exact h.setFld
    · exact h.setBit.emit
    · exact h.setFld

theorem State.Canonical.execDaliRawGo (h : s.Canonical) {m} : Out.Canonical (execDaliRawGo m s) := (h.asPrefect (fun k => k.daliRawGo)).next

theorem State.Canonical.execDaliRawDone (h : s.Canonical) {result ans8} : Out.Canonical (execDaliRawDone result ans8 s) :=
  .ite (h.setBit.setFld.orElse fun k => k.setFld).next h.next

/-! ### Machine/EvtDbg -/

theorem State.Canonical.windowEnd (h : s.Canonical) {rule key} : (s.windowEnd rule key).Canonical := by
  unfold State.windowEnd
  split
  · dsimp only
    split
    · exact h.advanceTo.recordRep.withEvt
    · exact h.advanceTo.withEvt
  · exact h

theorem State.Canonical.flushTimer (h : s.Canonical) : s.flushTimer.Canonical := by
  unfold State.flushTimer
  split
  · exact h.advanceTo.flush
  · exact h

theorem State.Canonical.evtRead (h : s.Canonical) {m exact retained} : (s.evtRead m exact retained).Canonical := h.wr.withEvt

theorem State.Canonical.evtReadDone (h : s.Canonical) : s.evtReadDone.Canonical := by
  unfold State.evtReadDone
  split
  · exact h
  · dsimp only
    split <;> exact h.withEvt.wr

theorem State.Canonical.debugAttach (h : s.Canonical) {attach} : (s.debugAttach attach).Canonical :=
  .ite h <| .ite (h.setBit.debugEvent.elseOr fun k => k.setBit.setFld) h.debugEnd.setBit.withDebugEnds

theorem State.Canonical.debugNonce (h : s.Canonical) : s.debugNonce.Canonical := h.foldl fun _ _ k => k.wr.nextFree

theorem State.Canonical.debugCheck (h : s.Canonical) {b} : (s.debugCheck b).Canonical :=
  .ite h <| .ite (h.foldl fun _ _ k => k.wr).wr.debugNonce.setBit.setFld.debugEvent.withDebugEnds (h.foldl
    fun _ _ k => k.wr).wr.debugNonce.debugEvent

theorem State.Canonical.debugExpiry (h : s.Canonical) : s.debugExpiry.Canonical := by
  unfold State.debugExpiry
  split
  · exact h.advanceTo.debugEnd.withDebugEnds
  · exact h

theorem State.Canonical.selectCore (h : s.Canonical) {c} : (s.selectCore c).Canonical := .ite h.wr h

theorem State.Canonical.forceHalt (h : s.Canonical) {c} : (s.forceHalt c).Canonical := by
  unfold State.forceHalt
  dsimp only
  split
  · exact h
  · split
    · exact h.breakClasp.haltCore.abandon
    · exact h.breakClasp.haltCore
    · exact h.haltCore

theorem State.Canonical.resumeCore (h : s.Canonical) {c} : (s.resumeCore c).Canonical := .ite h.setCore.preempt.resumeBest h

theorem State.Canonical.coreWrite (h : s.Canonical) {c r v} : (s.coreWrite c r v).Canonical := by
  unfold State.coreWrite
  exact .ite h.setG <| .ite h.setPc <| .ite h.setLs <| .ite h.updCtx <| .ite h.updCtx <| .ite h.setB h

theorem State.Canonical.peek (h : s.Canonical) {a} : (s.peek a).Canonical :=
  .ite h ((h.elseOr fun k => k.wakeRequest).orElse fun k => k.setBit).wr.wr.emit

/-! ### Machine/Debug -/

theorem State.Canonical.execDebugAttach (h : s.Canonical) {attach} : Out.Canonical (execDebugAttach attach s) := h.debugAttach.next
theorem State.Canonical.execDebugAuthCheck (h : s.Canonical) {token} : Out.Canonical (execDebugAuthCheck token s) := h.debugCheck.next
theorem State.Canonical.execDebugAuthExpiry (h : s.Canonical) : Out.Canonical (execDebugAuthExpiry s) := h.debugExpiry.next
theorem State.Canonical.execHalt (h : s.Canonical) {c} : Out.Canonical (execHalt c s) := (h.selectCore.orElse fun k => k.requestHalt).next
theorem State.Canonical.execForce (h : s.Canonical) {c} : Out.Canonical (execForce c s) := (h.selectCore.orElse fun k => k.forceHalt).next
theorem State.Canonical.execStep (h : s.Canonical) {c} : Out.Canonical (execStep c s) := (h.selectCore.orElse fun k => k.setCore).next

theorem State.Canonical.execResume (h : s.Canonical) {c} : Out.Canonical (execResume c s) :=
  (h.selectCore.orElse fun k => k.resumeCore).next

theorem State.Canonical.execCoreRegisterWrite (h : s.Canonical) {c rsel v} : Out.Canonical (execCoreRegisterWrite c rsel v s) :=
  (h.selectCore.orElse fun k => k.wr.coreWrite).next

theorem State.Canonical.execPeek (h : s.Canonical) {addr} : Out.Canonical (execPeek addr s) := h.peek.next

/-! ### Machine/Dispatcher -/

theorem State.Canonical.execCallAdd (h : s.Canonical) : Out.Canonical (execCallAdd s) := h.dispFront.next
theorem State.Canonical.execCallCancel (h : s.Canonical) : Out.Canonical (execCallCancel s) := (h.elseOr fun k => k.dispFront).next
theorem State.Canonical.execStopDone (h : s.Canonical) : Out.Canonical (execStopDone s) := (h.elseOr fun k => k.dispFront).next
theorem State.Canonical.execDispatchCommit (h : s.Canonical) : Out.Canonical (execDispatchCommit s) := h.dispCommit.next
theorem State.Canonical.execDispatchDrop (h : s.Canonical) : Out.Canonical (execDispatchDrop s) := h.dispDrop.next

theorem State.Canonical.execDispatchCallLatch (h : s.Canonical) {m slot8} : Out.Canonical (execDispatchCallLatch m slot8 s) :=
  (h.asPrefect (fun k => .ite k.callLatch k)).next

/-! ### Machine/EvtCmd -/

theorem State.Canonical.execEventWindowEnd (h : s.Canonical) {rule key} : Out.Canonical (execEventWindowEnd rule key s) := h.windowEnd.next
theorem State.Canonical.execEvtFlush (h : s.Canonical) {m} : Out.Canonical (execEvtFlush m s) := (h.asPrefect (fun k => k.flush)).next
theorem State.Canonical.execFlushTimer (h : s.Canonical) : Out.Canonical (execFlushTimer s) := h.flushTimer.next

theorem State.Canonical.execEvtExact (h : s.Canonical) {m retained} : Out.Canonical (execEvtExact m retained s) :=
  (h.throughView (fun k => k.evtRead)).next

theorem State.Canonical.execEvtNext (h : s.Canonical) {m retained} : Out.Canonical (execEvtNext m retained s) :=
  (h.throughView (fun k => k.evtRead)).next

theorem State.Canonical.execEvtReadDone (h : s.Canonical) : Out.Canonical (execEvtReadDone s) := h.evtReadDone.next

/-! ### Machine/NetOps -/

theorem State.Canonical.transmit (h : s.Canonical) {n pair q len coll} : (s.transmit n pair q len coll).Canonical :=
  .ite (h.iteBoth (fun k => k.emit.withNet) fun k => k.emit.incSat).queueTx.queueTx h.emit.queueTx

theorem State.Canonical.setSaf (h : s.Canonical) {n} : (s.setSaf n).Canonical := h.setBit

theorem State.Canonical.underrun (h : s.Canonical) {n} : (s.underrun n).Canonical :=
  (State.Canonical.recordWindow (by split; exacts [h.incSat.setFld.setSaf.orElse fun k => k.setMac, h.incSat.setFld.setSaf])).emit

theorem State.Canonical.pauseFor (h : s.Canonical) {n quanta} : (s.pauseFor n quanta).Canonical :=
  .ite h <| .ite (h.orElse fun k => k.incSat).setMac.setBit.drainTx (h.orElse fun k => k.incSat).setMac.setBit

theorem State.Canonical.pauseExpiry (h : s.Canonical) {n} : (s.pauseExpiry n).Canonical := by
  unfold State.pauseExpiry
  split
  · exact h.advanceTo.setMac.setBit.emit.drainTx
  · exact h

theorem State.Canonical.gateSwitch (h : s.Canonical) {n} : (s.gateSwitch n).Canonical := by
  unfold State.gateSwitch
  split
  · exact .ite h.setMac.setFld.setBit h
  · exact h

theorem State.Canonical.gateEntry (h : s.Canonical) {n} : (s.gateEntry n).Canonical := by
  unfold State.gateEntry
  dsimp only
  split
  · exact h
  · exact (h.advanceTo.gateSwitch.emit.orElse fun k => k.incSat).drainTx

theorem State.Canonical.gateChange (h : s.Canonical) {n} : (s.gateChange n).Canonical := h.setMac.setBit
theorem State.Canonical.settleTw (h : s.Canonical) {n} : (s.settleTw n).Canonical := h.setFld

theorem State.Canonical.lldpReceive (h : s.Canonical) {n b} : (s.lldpReceive n b).Canonical := by
  unfold State.lldpReceive
  split
  · split
    · exact h.setFld.settleTw
    · exact h
  · exact h

theorem State.Canonical.lpiEntry (h : s.Canonical) {n} : (s.lpiEntry n).Canonical :=
  .ite h <| .ite h.incSat.emit.drainTx h.advanceTo.nextFree.setMac.setBit

theorem State.Canonical.lpiWake (h : s.Canonical) {n} : (s.lpiWake n).Canonical := by
  unfold State.lpiWake
  split
  · exact h
  · exact h.advanceTo.advanceTo.setMac.setBit.emit.drainTx

theorem State.Canonical.setLan (h : s.Canonical) {lan ok} : (s.setLan lan ok).Canonical := .ite h h.setBit.record
theorem State.Canonical.countUnique (h : s.Canonical) {e} : (s.countUnique e).Canonical := h.incSat

theorem State.Canonical.dupCheck_insert (h : s.Canonical) {src seq lan} : (State.dupCheck.insert src seq lan s).Canonical := by
  unfold State.dupCheck.insert
  extract_lets fresh t mine u
  have ht : t.Canonical := by
    unfold t
    split
    · refine .ite ?_ h
      exact State.Canonical.withNet (h.countUnique.orElse fun k => k.incSat)
    · exact h
  have hu : u.Canonical := ht.foldl fun _ _ k => k.countUnique
  clear_value u
  exact hu.withNet

theorem State.Canonical.dupCheck (h : s.Canonical) {src seq lan} : (s.dupCheck src seq lan).1.Canonical := by
  unfold State.dupCheck
  extract_lets fresh hit
  cases hit with
  | none => exact h.dupCheck_insert
  | some e => exact .fst_ite h.incSat.withNet.fst h.dupCheck_insert.fst

theorem State.Canonical.nodeCount (h : s.Canonical) : s.nodeCount.Canonical := h.setFld
theorem State.Canonical.supervision (h : s.Canonical) {src lan} : (s.supervision src lan).Canonical := h.withNet.nodeCount.setLan

theorem State.Canonical.prpReceive (h : s.Canonical) {n b} : (s.prpReceive n b).1.Canonical := by
  unfold State.prpReceive
  split
  · exact h
  · dsimp only
    split
    · exact .ite h.supervision h
    · exact .fst_ite ((h.orElse fun k => k.supervision).incSat.elseOr fun k => k.incSat).dupCheck ((h.orElse
        fun k => k.supervision).incSat.elseOr fun k => k.incSat)

theorem State.Canonical.nodeForget (h : s.Canonical) {node} : (s.nodeForget node).Canonical := by
  unfold State.nodeForget
  split
  · exact h
  · exact h.advanceTo.withNet.nodeCount

theorem State.Canonical.lanLoss (h : s.Canonical) {lan} : (s.lanLoss lan).Canonical := .ite h <| .ite h.setLan h
theorem State.Canonical.superviseOut (h : s.Canonical) : s.superviseOut.Canonical := .ite h h.advanceTo.emit.withNet.queueTx.queueTx

theorem State.Canonical.setRiser (h : s.Canonical) {p up} : (s.setRiser p up).Canonical :=
  .ite h <| .ite (h.setBit.elseOr fun k => k.incSat).record.settleSource <|
    .ite (h.setBit.elseOr fun k => k.incSat).record.settleSource.riserCameUp (h.setBit.elseOr
    fun k => k.incSat).record.settleSource.riserWentDown

theorem State.Canonical.helloReceive (h : s.Canonical) {p} : (s.helloReceive p).Canonical := h.withNet.withPwr.setRiser
theorem State.Canonical.timeReceive (h : s.Canonical) {p b} : (s.timeReceive p b).Canonical := h.withNet.settleSource

theorem State.Canonical.riserReceive (h : s.Canonical) {n b} : (s.riserReceive n b).1.Canonical :=
  .fst_ite h <| .fst_ite h.incSat <| .fst_ite h.helloReceive <| .fst_ite h.timeReceive h

theorem State.Canonical.helloSend (h : s.Canonical) {p} : (s.helloSend p).Canonical := .ite h h.advanceTo.withNet.riserSend

theorem State.Canonical.riserSilent (h : s.Canonical) {p} : (s.riserSilent p).Canonical := by
  unfold State.riserSilent
  split
  · exact .ite h.advanceTo.setRiser h
  · exact h

theorem State.Canonical.deliver (h : s.Canonical) {n mark b} : (s.deliver n mark b).Canonical := h.emitMore

theorem State.Canonical.receive (h : s.Canonical) {n f} : (s.receive n f).Canonical := by
  unfold State.receive
  extract_lets b mx long t
  have ht : t.Canonical := h.emit
  clear_value t
  refine .ite ht <| .ite ht.incSat <| .ite ht.incSat <| .ite (ht.incSat.orElse fun k => k.deliver) <| .ite ht.incSat <|
    .ite (ht.incSat.orElse fun k => k.pauseFor) ?_
  exact State.Canonical.orElse (.fst_ite ht.lldpReceive.prpReceive (.fst_ite ht.riserReceive ht)) fun k => k.incSat.deliver

theorem State.Canonical.linkChange (h : s.Canonical) {n up eee low sqi} : (s.linkChange n up eee low sqi).Canonical :=
  .ite (h.setBit.setBit.elseOr fun k => k.setBit.setMac).settleTw.setLan.settleSource.emit.drainTx <|
    .ite (.ite h.setBit.setBit.setFld.emit.drainTx h.setBit.setBit.setFld.setRiser) h.setBit.emit.drainTx

theorem State.Canonical.phyPower (h : s.Canonical) {n on} : (s.phyPower n on).Canonical := h.setBit.elseOr fun k => k.linkChange
theorem State.Canonical.plcaBeacon (h : s.Canonical) {t} : (s.plcaBeacon t).Canonical := .ite h.incSat.record <| .ite h.setBit.withNet h
theorem State.Canonical.plcaLoss (h : s.Canonical) {t} : (s.plcaLoss t).Canonical := .ite h.advanceTo.setBit.incSat.record h

theorem State.Canonical.netWrite (h : s.Canonical) {a v} : CanonicalIn (s.netWrite a v) := by
  unfold State.netWrite
  exact .ite h.some <| .ite (h.wr.elseOr fun k => k.phyPower).some <| .ite (h.orElse fun k => k.wr.setSaf).some <|
    .ite h.setFld.setSaf.some <| .ite (h.elseOr fun k => k.setFld).some <|
    .ite ((h.orElse fun k => k.setFld.settleTw).elseOr fun k => k.setFld).some <|
    .ite ((h.elseOr fun k => k.setFld).orElse fun k => k.gateChange).some <| .ite (h.orElse fun k => k.wr).some <|
    .ite (h.elseOr fun k => k.wr).some <| .ite (h.iteBoth (fun k => k.wr.setBit) fun k => k.wr.elseOr fun k => k.setBit).some .none

theorem State.Canonical.prpWrite (h : s.Canonical) {a v} : CanonicalIn (s.prpWrite a v) :=
  .ite h.wr.some <| .ite ((h.orElse fun k => k.setFld).elseOr fun k => k.setFld).some <| .ite (h.elseOr fun k => k.wr).some .none

/-! ### Machine/SafetyOps -/

theorem State.Canonical.setChan (h : s.Canonical) {ch x} : (s.setChan ch x).Canonical := h.withSafe
theorem State.Canonical.setSafeCar (h : s.Canonical) {c x} : (s.setSafeCar c x).Canonical := h.withSafe
theorem State.Canonical.safetyRequest (h : s.Canonical) : s.safetyRequest.Canonical := h.withSafe.foldl fun _ _ k => .ite k.xchkSend k
theorem State.Canonical.withdrawAll (h : s.Canonical) : s.withdrawAll.Canonical := h.withSafe
theorem State.Canonical.safeEvent (h : s.Canonical) {code c} : (s.safeEvent code c).Canonical := h.record

theorem State.Canonical.noteRefusal (h : s.Canonical) {ch c refused} : (s.noteRefusal ch c refused).Canonical := by
  unfold State.noteRefusal
  split
  · exact h
  · exact .ite h (h.setChan.orElse fun k => k.withSafe.setSafeCar)

theorem State.Canonical.resetDone (h : s.Canonical) {c} : (s.resetDone c).Canonical := h.setSafeCar

theorem State.Canonical.evalCar (h : s.Canonical) {ch c i} : (s.evalCar ch c i).Canonical := by
  unfold State.evalCar
  extract_lets k old params slower beyond t resetNow q
  split
  extract_lets u operated v resetOpen fresh consent other _ w verdict was k cc x now
  have ht : t.Canonical := h.orElse fun k => k.safeLatch
  have hu : u.Canonical := ht.orElse fun k => k.safeLatch.safeEvent
  have hv : v.Canonical := hu.orElse fun k => k.resetDone
  have hw : w.Canonical := hv.orElse fun k => k.setSafeCar
  have hx : x.Canonical := hw.setChan
  clear_value x
  exact State.Canonical.noteRefusal (hx.orElse fun k => k.record)

theorem State.Canonical.safetyLinkLost (h : s.Canonical) {ch} : (s.safetyLinkLost ch).Canonical :=
  (h.setChan.foldl fun _ _ k => k.safeLatch).record

theorem State.Canonical.safetyLinkBack (h : s.Canonical) {ch} : (s.safetyLinkBack ch).Canonical :=
  h.setChan.orElse fun k => k.foldl fun _ _ k => k.setSafeCar

theorem State.Canonical.safetyApply (h : s.Canonical) : s.safetyApply.Canonical := by
  unfold State.safetyApply
  split
  · exact h
  · exact .ite (.ite h.withSafe h) <| .ite h.withSafe h

theorem State.Canonical.safetyAsk (h : s.Canonical) {set} : (s.safetyAsk set).Canonical := h.withSafe
theorem State.Canonical.mirrorCar (h : s.Canonical) {c} : (s.mirrorCar c).Canonical := h.wr.wr.wr.wr
theorem State.Canonical.mirrorUpdate (h : s.Canonical) : s.mirrorUpdate.Canonical := .ite h (h.kept.wr.wr.wr.foldl fun _ _ k => k.mirrorCar)

/-! ### Machine/TimeOps -/

theorem State.Canonical.rateWrite (h : s.Canonical) {v} : (s.rateWrite v).Canonical := .ite h.wr.setCoarse h.setBit
theorem State.Canonical.cycle (h : s.Canonical) : s.cycle.Canonical := h.of_eq rfl
theorem State.Canonical.setTrigger (h : s.Canonical) {t x} : (s.setTrigger t x).Canonical := h.withTime.setBit
theorem State.Canonical.trigFire (h : s.Canonical) {t} : (s.trigFire t).Canonical := (h.setTrigger.orElse fun k => k.irq).emit

theorem State.Canonical.trigWrite (h : s.Canonical) {t v} : (s.trigWrite t v).Canonical := by
  unfold State.trigWrite
  dsimp only
  split
  · split
    · exact h.setBit
    · split
      · exact .ite h.wr.setTrigger h.wr.setBit.trigFire
      · exact h.wr.setBit.trigFire
  · exact h.wr.setTrigger

theorem State.Canonical.trigEdge (h : s.Canonical) {t} : (s.trigEdge t).Canonical := by
  unfold State.trigEdge
  split
  · exact h.advanceTo.trigFire
  · exact h

theorem State.Canonical.trigPulseEnd (h : s.Canonical) {t} : (s.trigPulseEnd t).Canonical := by
  unfold State.trigPulseEnd
  split
  · exact h.advanceTo.setTrigger.emit
  · exact h

theorem State.Canonical.trigStep (h : s.Canonical) {old t} : (s.trigStep old t).Canonical := by
  unfold State.trigStep
  dsimp only
  split
  · split
    · exact h
    · split
      · exact h.setTrigger.setFld
      · split
        · exact .ite h.setTrigger h.advanceTo.setBit.trigFire
        · exact h.advanceTo.setBit.trigFire
  · exact h

theorem State.Canonical.offsetPut (h : s.Canonical) {ns set host} : (s.offsetPut ns set host).Canonical :=
  ((h.cycle.withTime.incSat.setBit.orElse fun k => k.setBit).orElse fun k => k.record).commitTime.settleSource.foldl fun _ _ k => k.trigStep

theorem State.Canonical.offsetSet (h : s.Canonical) {m} : (s.offsetSet m).Canonical := .ite h.setBit h.offsetPut
theorem State.Canonical.offsetAdd (h : s.Canonical) {m} : (s.offsetAdd m).Canonical := .ite h.setBit h.offsetPut
theorem State.Canonical.timeFrame (h : s.Canonical) {p} : (s.timeFrame p).Canonical := .ite h h.advanceTo.withNet.riserSend
theorem State.Canonical.setCapture (h : s.Canonical) {c x} : (s.setCapture c x).Canonical := h.withTime

theorem State.Canonical.captureEdge (h : s.Canonical) {c rise} : (s.captureEdge c rise).Canonical :=
  .ite h ((h.iteBoth (fun k => k.setCapture) fun k => k.setCapture).orElse fun k => k.irq)

theorem State.Canonical.capturePop (h : s.Canonical) {c} : (s.capturePop c).Canonical := by
  unfold State.capturePop
  dsimp only
  split
  · exact h.setCapture.wr.wr
  · exact h.setCapture

theorem State.Canonical.timeWrite (h : s.Canonical) {m a v} : CanonicalIn (s.timeWrite m a v) := by
  unfold State.timeWrite
  exact .ite (State.Canonical.some (by split; exacts [h.offsetSet, h.offsetAdd, h])) <| .ite h.rateWrite.some <|
    .ite (h.orElse fun k => k.setCoarse).wr.some <| .ite h.trigWrite.some .none

/-! ### Machine/FeedOps -/

theorem State.Canonical.setFeed (h : s.Canonical) {f st} : (s.setFeed f st).Canonical :=
  (h.setFld.orElse fun k => k.incSat).setBit.irq.record.wakeRequest

theorem State.Canonical.testDueOf (h : s.Canonical) : s.testDueOf.Canonical := .ite h h.setBit

theorem State.Canonical.xferTo (h : s.Canonical) {f commanded} : (s.xferTo f commanded).Canonical :=
  (h.withPwr.setBit.incSat.wr.testDueOf.orElse fun k => k.setFeed).setFeed

theorem State.Canonical.feedPhy (h : s.Canonical) {f on} : (s.feedPhy f on).Canonical := h.setBit.phyPower
theorem State.Canonical.loseFeed (h : s.Canonical) {f st} : (s.loseFeed f st).Canonical := h.setFeed.feedPhy.orElse fun k => k.xferTo
theorem State.Canonical.feedTransfer (h : s.Canonical) : s.feedTransfer.Canonical := .ite h.xferTo h

theorem State.Canonical.pathTimeout (h : s.Canonical) : s.pathTimeout.Canonical := by
  unfold State.pathTimeout
  split
  · exact .ite h.withPwr <| .ite h.withPwr.advanceTo.setBit.wr.wr.setFld.setFld.setBit.setBit h.withPwr.advanceTo.setBit.wr.wr.setFeed
  · exact h

theorem State.Canonical.returnFeed (h : s.Canonical) {f} : (s.returnFeed f).Canonical := h.setFld.setFeed.feedPhy
theorem State.Canonical.sleepEnter (h : s.Canonical) {w} : (s.sleepEnter w).Canonical := .ite h (h.setFld.elseOr fun k => k.withPwr)
theorem State.Canonical.setRecess (h : s.Canonical) {r} : (s.setRecess r).Canonical := h.withPwr
theorem State.Canonical.noteQuiet (h : s.Canonical) : s.noteQuiet.Canonical := h.setRecess

theorem State.Canonical.recessAsk (h : s.Canonical) {number} : (s.recessAsk number).Canonical :=
  .ite h <| .ite h.advanceTo.setFld.setFld.setRecess h.advanceTo.setFld.setFld.setRecess.riserSend

theorem State.Canonical.recessAnswer (h : s.Canonical) {port number carries} : (s.recessAnswer port number carries).Canonical := by
  unfold State.recessAnswer
  split
  · exact h.setRecess.riserSend
  · exact h.riserSend

theorem State.Canonical.recessGranted (h : s.Canonical) {port number} : (s.recessGranted port number).Canonical :=
  .ite (h.setRecess.elseOr fun k => k.setFld.setRecess) h

theorem State.Canonical.recessRefused (h : s.Canonical) {port reason} : (s.recessRefused port reason).Canonical :=
  h.setFld.setFld.setFld.setRecess

theorem State.Canonical.recessLapse (h : s.Canonical) {port} : (s.recessLapse port).Canonical := by
  unfold State.recessLapse
  split
  · exact h.advanceTo.setRecess
  · exact h.advanceTo.setFld.setRecess
  · exact h

theorem State.Canonical.wakeRx (h : s.Canonical) {port propagate} : (s.wakeRx port propagate).Canonical :=
  h.wakeRequest.orElse fun k => k.setRecess.riserSend

theorem State.Canonical.wakeAgain (h : s.Canonical) {port} : (s.wakeAgain port).Canonical := by
  unfold State.wakeAgain
  split
  · exact .ite h.setRecess h.advanceTo.riserSend
  · exact h

theorem State.Canonical.saveTime (h : s.Canonical) : s.saveTime.Canonical := h.locketWrite

theorem State.Canonical.pfRecord (h : s.Canonical) {state last cause written lost} : (s.pfRecord state last cause written lost).Canonical :=
  h.locketWrite.locketWrite.locketWrite

theorem State.Canonical.pfFlush (h : s.Canonical) : s.pfFlush.1.Canonical := h.ringErase.withEvt

theorem State.Canonical.finishSwitch (h : s.Canonical) : s.finishSwitch.Canonical := by
  unfold State.finishSwitch
  split
  · exact .ite (h.dropPeriods.foldl fun _ _ k => k.switchRelease) h
  · exact h

theorem State.Canonical.allOff (h : s.Canonical) : s.allOff.Canonical :=
  (h.setBit.outputsUpdate.daliSettleAll.foldl fun _ _ k => k.setBit).withPwr

theorem State.Canonical.failCheckpoint (h : s.Canonical) {whole} : (s.failCheckpoint whole).Canonical := by
  unfold State.failCheckpoint
  dsimp only
  split
  · exact h.checkpoint
  · split
    · exact h.checkpoint.withScan
    · exact h.checkpoint

theorem State.Canonical.powerFail (h : s.Canonical) {cut last} : (s.powerFail cut last).Canonical := by
  unfold State.powerFail
  extract_lets st cause t early u v _ w x ends y
  have hx : x.Canonical := State.Canonical.pfRecord <| State.Canonical.withdrawAll <| State.Canonical.saveTime <|
    (h.sleepCommit.orElse fun k => k.incSat).setBit.withPwr
  have hy : y.Canonical := hx.orElse fun k => k.finishSwitch.scanStop.foldl fun _ _ k => k.opFault
  clear_value y
  exact .ite h <| State.Canonical.pfRecord <| State.Canonical.allOff <| State.Canonical.enterBattery <|
    (State.Canonical.orElse (.fst_ite hy.pfFlush hy.fst) fun k => k.failCheckpoint).orElse fun k => k.energyStep

/-! ### Machine/StartOps -/

theorem State.Canonical.afterReset (h : s.Canonical) {power} : (s.afterReset power).Canonical := ⟨rfl, h.locket, rfl, h.charm⟩

theorem State.Canonical.completeChange (h : s.Canonical) {old} : (s.completeChange old).Canonical :=
  h.changeLocket.changeEffects.setFld.changeEvent

theorem State.Canonical.attrCheck (h : s.Canonical) : s.attrCheck.Canonical := .ite h h.locketPut.emptySlots.sealLine1.record

theorem State.Canonical.withKeyLost (h : s.Canonical) {key n} :
    State.Canonical { s with key := key, scan := { s.scan with retentiveLost := n } } :=
  ⟨h.mem, h.locket, h.lpddr, h.charm⟩

theorem State.Canonical.locketCheck (h : s.Canonical) : s.locketCheck.1.Canonical := by
  unfold State.locketCheck
  extract_lets tampered lost old ahead t u v
  have ht : t.Canonical := h.setBit.newNonce
  have hu : u.Canonical := ht.setFld.setFld
  have hv : v.Canonical := .ite hu.setBit hu.random256.locketPut.setBit.setFld
  clear_value t u v
  exact .fst_ite hv.emptySlots.sealLine1.setFld.withKeyLost.fst (.fst_ite ht.completeChange.fst ht.attrCheck.fst)

theorem State.Canonical.evtStart (h : s.Canonical) {lost} : (s.evtStart lost).Canonical := by
  unfold State.evtStart
  extract_lets w state last cause seqs _ t boot u v x
  have ht : t.Canonical := by
    unfold t
    cases seqs with
    | nil => exact h
    | cons n rest => exact h.withEvt
  have hx : x.Canonical := (ht.locketWrite.setFld.orElse fun k => k.setBit).evtRegs
  clear_value x
  exact hx.elseOr fun k => (k.setFld.setFld.wr.orElse fun k => k.setBit.record).record.locketWrite

theorem State.Canonical.timeStart (h : s.Canonical) {lost} : (s.timeStart lost).Canonical := .ite h.record h.withTime.wr.wr

theorem State.Canonical.fwuStart (h : s.Canonical) : s.fwuStart.1.Canonical := by
  unfold State.fwuStart
  split
  · dsimp only
    split
    · exact h.failTrial.setBit.setRunning
    · exact h.failTrial.setBit
  · split
    · exact h.setRunning
    · exact h

theorem State.Canonical.controlReset (h : s.Canonical) {cause} : (s.controlReset cause).Canonical :=
  (((h.wr.changeCut.afterReset.wr.locketCheck.fwuStart.evtStart.orElse fun k => k.record).orElse fun k => k.setBit.record).orElse
    fun k => k.record.nextFree).timeStart

theorem State.Canonical.powerOn (h : s.Canonical) : s.powerOn.Canonical :=
  .ite h (h.meterStart.withSafe.controlReset.setFld.setFld.setBit.wr.setFld.setBit.elseOr fun k => k.setBit)

theorem State.Canonical.warmReset (h : s.Canonical) {cause} : (s.warmReset cause).Canonical := .ite h h.controlReset

theorem State.Canonical.rollSettle (h : s.Canonical) : s.rollSettle.Canonical :=
  .ite h ((h.foldl fun _ _ k => .ite k.setBit k).orElse fun k => k.setBit.setFld)

theorem State.Canonical.startScan (h : s.Canonical) : s.startScan.Canonical :=
  .ite h ((h.placeGroups.foldl fun _ _ k => k.setLesson).showId.restartScan.elseOr fun k => k.wr)

theorem State.Canonical.wipeArea (h : s.Canonical) {x} : (s.wipeArea x).Canonical := by
  unfold State.wipeArea
  split
  · exact .ite h.setFwSlot.setSlotState h
  · exact h

theorem State.Canonical.reErase (h : s.Canonical) {p} : (s.reErase p).Canonical :=
  h.withNand.wipeArea.record.nextFree.orElse fun k => k.withNand.incSat.record

theorem State.Canonical.nandCheck (h : s.Canonical) : s.nandCheck.Canonical := (h.setFld.foldl fun _ _ k => k.reErase).withNand

theorem State.Canonical.nandPage (h : s.Canonical) {area page} : (s.nandPage area page).Canonical := by
  unfold State.nandPage
  split
  · split
    · exact h
    · exact h.setSlotState.fwuErr.endTransfer
    · exact h.fallBack
    · split
      · exact h.setSlotState.setSlotState
      · exact h.setSlotState
    · exact h.setSlotState
  · exact h
  · exact (h.withEvt.foldl fun _ _ k => k.countLost).evtRegs
  · exact h.withScan
  · exact h.withMeter

theorem State.Canonical.chainLength (h : s.Canonical) {n} : (s.chainLength n).Canonical :=
  ((h.setFld.orElse fun k => k.record).orElse fun k => k.riserAdd).rollSettle

theorem State.Canonical.takePosition (h : s.Canonical) {n head} : (s.takePosition n head).Canonical :=
  h.setFld.setBit.setBit.withNet.orElse fun k => k.riserAdd

theorem State.Canonical.networksUp (h : s.Canonical) : s.networksUp.Canonical := h.foldl fun _ _ k => .ite k.phyPower k.phyPower

theorem State.Canonical.rollStep1 (h : s.Canonical) : s.rollStep1.Canonical := by
  unfold State.rollStep1
  extract_lets t u v w x
  have hu : u.Canonical := h.setBit.setBit.nandCheck.trimCheckpoints
  have hw : w.Canonical := hu.restoreSettings.startScan.setPhase.setBit.daliSettleAll.outputsUpdate.networksUp
  have hx : x.Canonical := hw.setBit.setFld
  clear_value x
  split
  · exact hx.withNet.withNet.takePosition.rollSettle
  · exact hx.withNet.rollSettle

theorem State.Canonical.rollCall (h : s.Canonical) : s.rollCall.Canonical := .ite h h.rollStep1

theorem State.Canonical.rollLate (h : s.Canonical) {k} : (s.rollLate k).Canonical :=
  (h.elseOr fun k => k.advanceTo).elseOr fun k => k.setBit.record

theorem State.Canonical.rollHead (h : s.Canonical) : s.rollHead.Canonical := .ite h h.advanceTo.emit.takePosition

theorem State.Canonical.rollFrameRx (h : s.Canonical) {port v} : (s.rollFrameRx port v).Canonical :=
  .ite (.ite h.withNet h) <| .ite h.emit.takePosition h.emit.chainLength

theorem State.Canonical.rollTop (h : s.Canonical) : s.rollTop.Canonical := .ite h h.advanceTo.emit.setBit.chainLength
theorem State.Canonical.dead (h : s.Canonical) : s.dead.Canonical := h.setFld.setPhase

theorem State.Canonical.stewardWatchdog (h : s.Canonical) {core} : (s.stewardWatchdog core).Canonical := by
  unfold State.stewardWatchdog
  dsimp only
  split
  · exact h
  · split
    · split
      · exact h
      · split
        · exact .ite h.dead h.withFwu.setSlotState.setSlotState.setRunning
        · exact h.dead
    · exact .ite (.ite h.fallBack h) <| .ite (.ite h h.fallBack) <| .ite h <|
        .ite h.withFwu.controlReset h.withFwu.suspendRemote.switchSteward

theorem State.Canonical.startDead (h : s.Canonical) : s.startDead.Canonical := by
  unfold State.startDead
  split
  · exact (State.Canonical.setSlotState (by split; exacts [h.setSlotState, h])).setRunning.setFld.rollStep1
  · exact h.fwuSequence

end Sys2Proof.Machine
end

section
/-! Canonical memories (R34, R289; log entry 3; O60): the commands, the registers and the idle step. -/

namespace Sys2Proof.Machine

-- One proof at a time: the proofs of this part are large, and elaborated side by side they take more memory than a compile has.
set_option Elab.async false

variable {s : State}

/-! ### Machine/Fwu -/

theorem State.Canonical.execFwuBegin (h : s.Canonical) {m} : Out.Canonical (execFwuBegin m s) :=
  (h.emit.hostWrite (fun k => k.fwuBegin)).next

theorem State.Canonical.execFwuPush (h : s.Canonical) {m piece} : Out.Canonical (execFwuPush m piece s) :=
  (h.emit.hostWrite (fun k => k.fwuPush)).next

theorem State.Canonical.fwuGo (h : s.Canonical) : s.fwuGo.Canonical := .ite h.startDead <| .ite h.install h.fwuSequence
theorem State.Canonical.execFwuStart (h : s.Canonical) {m} : Out.Canonical (execFwuStart m s) := (h.hostWrite (fun k => k.fwuGo)).next

theorem State.Canonical.execFwuAbort (h : s.Canonical) {m} : Out.Canonical (execFwuAbort m s) :=
  (h.emit.hostWrite (fun k => k.fwuAbort)).next

theorem State.Canonical.execConfirm (h : s.Canonical) {m} : Out.Canonical (execConfirm m s) :=
  (h.hostWrite (fun k => .ite k.withFwu k.fwuSequence)).next

theorem State.Canonical.execFwuManifest (h : s.Canonical) {manifest} : Out.Canonical (execFwuManifest manifest s) := h.emit.fwuManifest.next

theorem State.Canonical.execFwuData (h : s.Canonical) {image32 block offset data}
    : Out.Canonical (execFwuData image32 block offset data s) :=
  h.emit.fwuDataRx.next

theorem State.Canonical.execFwuAck (h : s.Canonical) {block err} : Out.Canonical (execFwuAck block err s) := h.emit.fwuAcked.next

theorem State.Canonical.execFwuNak (h : s.Canonical) {block} : Out.Canonical (execFwuNak block s) :=
  State.Canonical.next (by split; exacts [.ite h.emit.fwuRefused h, h])

theorem State.Canonical.execFwuFrameAbort (h : s.Canonical) {fromUp} : Out.Canonical (execFwuFrameAbort fromUp s) :=
  (State.Canonical.ite h.endForward <| .ite h.endTransfer h).next

theorem State.Canonical.execFwuAckTimeout (h : s.Canonical) : Out.Canonical (execFwuAckTimeout s) :=
  State.Canonical.next (by split; exacts [by split; exacts [h.advanceTo.emit.fwuRefused, h], h])

theorem State.Canonical.execReceivingDiscard (h : s.Canonical) : Out.Canonical (execReceivingDiscard s) := h.fwuDiscard.next
theorem State.Canonical.execFwuInstall (h : s.Canonical) : Out.Canonical (execFwuInstall s) := (h.orElse fun k => k.install).next

theorem State.Canonical.execPreparationDone (h : s.Canonical) {migrated} : Out.Canonical (execPreparationDone migrated s) :=
  (h.orElse fun k => (k.wr.foldl fun _ _ k => k.record).withFwu).next

theorem State.Canonical.execPreparationTimeout (h : s.Canonical) : Out.Canonical (execPreparationTimeout s) :=
  (h.orElse fun k => k.advanceTo.failTrial.fwuErr).next

theorem State.Canonical.execReportCard (h : s.Canonical) : Out.Canonical (execReportCard s) := h.reportCard.next

theorem State.Canonical.execReportDeadline (h : s.Canonical) : Out.Canonical (execReportDeadline s) :=
  State.Canonical.next (by split; exacts [h.advanceTo.fallBack, h])

theorem State.Canonical.execStewardWatchdog (h : s.Canonical) {core} : Out.Canonical (execStewardWatchdog core s) := h.stewardWatchdog.next

/-! ### Machine/HostPass -/

theorem State.Canonical.execClaim (h : s.Canonical) {m prio nonce} : Out.Canonical (execClaim m prio nonce s) :=
  (h.passCmd (fun k => k.claim)).next

theorem State.Canonical.execRenew (h : s.Canonical) {m nonce} : Out.Canonical (execRenew m nonce s) := (h.passCmd (fun k => k.renew)).next
theorem State.Canonical.execRelease (h : s.Canonical) {m} : Out.Canonical (execRelease m s) := (h.passCmd (fun k => k.releasePass)).next
theorem State.Canonical.execWithdraw (h : s.Canonical) {m} : Out.Canonical (execWithdraw m s) := (h.passCmd (fun k => k.dropClaim)).next

theorem State.Canonical.execHandover (h : s.Canonical) {m target} : Out.Canonical (execHandover m target s) :=
  (h.passCmd (fun k => k.handOver)).next

theorem State.Canonical.execAccept (h : s.Canonical) {m prio nonce} : Out.Canonical (execAccept m prio nonce s) :=
  (h.passCmd (fun k => k.acceptPass)).next

theorem State.Canonical.execElectionClose (h : s.Canonical) : Out.Canonical (execElectionClose s) := h.closeElection.next
theorem State.Canonical.execLeaseLapse (h : s.Canonical) : Out.Canonical (execLeaseLapse s) := h.lapseLease.next
theorem State.Canonical.execHandoverLapse (h : s.Canonical) : Out.Canonical (execHandoverLapse s) := h.lapseHandover.next
theorem State.Canonical.execSessionAppear (h : s.Canonical) {sess} : Out.Canonical (execSessionAppear sess s) := h.appearSession.next
theorem State.Canonical.execSessionEnd (h : s.Canonical) {sess} : Out.Canonical (execSessionEnd sess s) := h.endSession.next

theorem State.Canonical.execLastErrRead (h : s.Canonical) {m} : Out.Canonical (execLastErrRead m s) :=
  State.Canonical.next (by split; exacts [h.wakeRequest.elseOr fun k => k.setLastErr.emit, .ite h h.emit])

theorem State.Canonical.execPciePowerState (h : s.Canonical) {ev} : Out.Canonical (execPciePowerState ev s) := h.pcieEvent.next

/-! ### Machine/ImmBit -/

theorem State.Canonical.aluI (h : s.Canonical) {c i gd ga f} : Out.Canonical (s.aluI c i gd ga f) := h.compute
theorem State.Canonical.execAddi (h : s.Canonical) {c gd ga imm} : Out.Canonical (execAddi c gd ga imm s) := h.aluI
theorem State.Canonical.execAndi (h : s.Canonical) {c gd ga imm} : Out.Canonical (execAndi c gd ga imm s) := h.aluI
theorem State.Canonical.execOri (h : s.Canonical) {c gd ga imm} : Out.Canonical (execOri c gd ga imm s) := h.aluI
theorem State.Canonical.execXori (h : s.Canonical) {c gd ga imm} : Out.Canonical (execXori c gd ga imm s) := h.aluI
theorem State.Canonical.execSlti (h : s.Canonical) {c gd ga imm} : Out.Canonical (execSlti c gd ga imm s) := h.aluI
theorem State.Canonical.execSltiu (h : s.Canonical) {c gd ga imm} : Out.Canonical (execSltiu c gd ga imm s) := h.aluI
theorem State.Canonical.execShi (h : s.Canonical) {c gd ga kind n} : Out.Canonical (execShi c gd ga kind n s) := h.aluI
theorem State.Canonical.execLi (h : s.Canonical) {c gd imm} : Out.Canonical (execLi c gd imm s) := h.compute
theorem State.Canonical.execLui (h : s.Canonical) {c gd imm18} : Out.Canonical (execLui c gd imm18 s) := h.compute
theorem State.Canonical.execExtu (h : s.Canonical) {c gd ga l w} : Out.Canonical (execExtu c gd ga l w s) := h.aluI
theorem State.Canonical.execExts (h : s.Canonical) {c gd ga l w} : Out.Canonical (execExts c gd ga l w s) := h.aluI
theorem State.Canonical.execIns (h : s.Canonical) {c gd ga l w} : Out.Canonical (execIns c gd ga l w s) := h.compute
theorem State.Canonical.execClz (h : s.Canonical) {c gd ga} : Out.Canonical (execClz c gd ga s) := h.aluI
theorem State.Canonical.execCtz (h : s.Canonical) {c gd ga} : Out.Canonical (execCtz c gd ga s) := h.aluI
theorem State.Canonical.execPopc (h : s.Canonical) {c gd ga} : Out.Canonical (execPopc c gd ga s) := h.aluI
theorem State.Canonical.execBswap (h : s.Canonical) {c gd ga} : Out.Canonical (execBswap c gd ga s) := h.aluI

/-! ### Machine/Keys -/

theorem State.Canonical.execTransition (h : s.Canonical) {m target} : Out.Canonical (execTransition m target s) :=
  (h.asPrefect (fun k => k.keyStart)).next

theorem State.Canonical.execKeyLoad (h : s.Canonical) {m slot5} : Out.Canonical (execKeyLoad m slot5 s) :=
  (h.asPrefect (fun k => k.keyStart)).next

theorem State.Canonical.execKeyErase (h : s.Canonical) {m slot5} : Out.Canonical (execKeyErase m slot5 s) :=
  (h.asPrefect (fun k => k.keyStart)).next

theorem State.Canonical.execOwnerRestore (h : s.Canonical) {m} : Out.Canonical (execOwnerRestore m s) :=
  (h.asPrefect (fun k => k.keyStart)).next

theorem State.Canonical.execGetNonce (h : s.Canonical) {m} : Out.Canonical (execGetNonce m s) := (h.asPrefect (fun k => k.keyStart)).next
theorem State.Canonical.execKeySha256 (h : s.Canonical) {m} : Out.Canonical (execKeySha256 m s) := (h.asPrefect (fun k => k.keyStart)).next
theorem State.Canonical.execKeySha384 (h : s.Canonical) {m} : Out.Canonical (execKeySha384 m s) := (h.asPrefect (fun k => k.keyStart)).next

theorem State.Canonical.execKeyHmac (h : s.Canonical) {m slot5} : Out.Canonical (execKeyHmac m slot5 s) :=
  (h.asPrefect (fun k => k.keyStart)).next

theorem State.Canonical.execKeyGcmEnc (h : s.Canonical) {m slot5} : Out.Canonical (execKeyGcmEnc m slot5 s) :=
  (h.asPrefect (fun k => k.keyStart)).next

theorem State.Canonical.execKeyGcmDec (h : s.Canonical) {m slot5} : Out.Canonical (execKeyGcmDec m slot5 s) :=
  (h.asPrefect (fun k => k.keyStart)).next

theorem State.Canonical.execKeySign (h : s.Canonical) {m slot5} : Out.Canonical (execKeySign m slot5 s) :=
  (h.asPrefect (fun k => k.keyStart)).next

theorem State.Canonical.execKeyVerify (h : s.Canonical) {m slot5} : Out.Canonical (execKeyVerify m slot5 s) :=
  (h.asPrefect (fun k => k.keyStart)).next

theorem State.Canonical.execDerive (h : s.Canonical) {m slot5} : Out.Canonical (execDerive m slot5 s) :=
  (h.asPrefect (fun k => k.keyStart)).next

theorem State.Canonical.execGenerate (h : s.Canonical) {m slot5} : Out.Canonical (execGenerate m slot5 s) :=
  (h.asPrefect (fun k => k.keyStart)).next

theorem State.Canonical.execIdentity (h : s.Canonical) {m} : Out.Canonical (execIdentity m s) := (h.asPrefect (fun k => k.keyStart)).next

theorem State.Canonical.execFuseSafetyKey (h : s.Canonical) {m} : Out.Canonical (execFuseSafetyKey m s) :=
  (h.asPrefect (fun k => k.keyStart)).next

theorem State.Canonical.execKeyCommandDone (h : s.Canonical) {healthy} : Out.Canonical (execKeyCommandDone healthy s) := by
  unfold Machine.execKeyCommandDone
  split
  · exact .ite h.next <| .ite h.keyEnd.next h.keyResult.keyEnd.next
  · exact h.next

theorem State.Canonical.execTamper (h : s.Canonical) {sensor active} : Out.Canonical (execTamper sensor active s) := h.tamper.next

theorem State.Canonical.execVbatLoss (h : s.Canonical) : Out.Canonical (execVbatLoss s) := by
  unfold Machine.execVbatLoss
  refine State.Canonical.next (.ite ?_ h)
  exact { h with locket := rfl }

/-! ### Machine/EncOps -/

theorem State.Canonical.setEnc (h : s.Canonical) {e x} : (s.setEnc e x).Canonical := h.withLift

theorem State.Canonical.encFeed (h : s.Canonical) {e lines} : (s.encFeed e lines).Canonical :=
  (h.foldl fun _ _ k => k.setEnc.orElse fun k => k.encQerr).orElse fun k => k.wr

theorem State.Canonical.encFeedAll (h : s.Canonical) {l} : (s.encFeedAll l).Canonical := h.foldl fun _ _ k => k.encFeed

/-! ### Machine/Lift -/

theorem State.Canonical.execPositionPeriod (h : s.Canonical) {lines} : Out.Canonical (execPositionPeriod lines s) :=
  .ite (h.encFeedAll.foldl fun _ _ k => k.carPeriod).next h.next

theorem State.Canonical.execEncoderQerr (h : s.Canonical) {enc} : Out.Canonical (execEncoderQerr enc s) := h.encQerr.next

theorem State.Canonical.execDoorZoneEdge (h : s.Canonical) {car rising km kg} : Out.Canonical (execDoorZoneEdge car rising km kg s) :=
  h.dzEdge.next

theorem State.Canonical.execTerminalEdge (h : s.Canonical) {car active km kg} : Out.Canonical (execTerminalEdge car active km kg s) :=
  h.termEdge.next

theorem State.Canonical.execCarClear (h : s.Canonical) {m car} : Out.Canonical (execCarClear m car s) :=
  (h.asPrefect (fun k => k.carClear)).next

theorem State.Canonical.execCaptureFlush (h : s.Canonical) {m car} : Out.Canonical (execCaptureFlush m car s) :=
  (h.asPrefect (fun k => .ite k.carFlush k)).next

theorem State.Canonical.execDzcapPop (h : s.Canonical) {m car} : Out.Canonical (execDzcapPop m car s) :=
  (h.hostRead (fun k => .ite k.capPop k)).next

theorem State.Canonical.execDoorPositionPeriod (h : s.Canonical) : Out.Canonical (execDoorPositionPeriod s) :=
  (h.foldl fun _ _ k => k.doorPeriod).next

theorem State.Canonical.execDoorCommand (h : s.Canonical) {door} : Out.Canonical (execDoorCommand door s) := h.doorCommand.doorNoted.next

theorem State.Canonical.execDoorClosedReached (h : s.Canonical) {door} : Out.Canonical (execDoorClosedReached door s) :=
  h.closedReached.next

theorem State.Canonical.execDoorOpenReached (h : s.Canonical) {door} : Out.Canonical (execDoorOpenReached door s) := h.openReached.next
theorem State.Canonical.execDoorStall (h : s.Canonical) {door} : Out.Canonical (execDoorStall door s) := h.doorStall.next

theorem State.Canonical.execHomingTimeout (h : s.Canonical) {door} : Out.Canonical (execHomingTimeout door s) :=
  (h.orElse fun k => k.advanceTo.doorEnter.doorNoted).next

theorem State.Canonical.execLearnTimeout (h : s.Canonical) {door} : Out.Canonical (execLearnTimeout door s) :=
  (h.orElse fun k => k.advanceTo.learnFail.doorNoted).next

/-! ### Machine/Links -/

theorem State.Canonical.execCrossDieCrcError (h : s.Canonical) {link} : Out.Canonical (execCrossDieCrcError link s) :=
  State.Canonical.next (by split; exacts [h, h, h.withLinkErrs])

theorem State.Canonical.fieldLinkLost (h : s.Canonical) : s.fieldLinkLost.Canonical :=
  .ite h ((h.setBit.outputsUpdate.daliSettleAll.carLinkLost.foldl fun _ _ k => k.opFault).foldl fun _ _ k => k.setQual).record

theorem State.Canonical.gateLost (h : s.Canonical) {g} : (s.gateLost g).Canonical := .ite h h.withField.opFault.record
theorem State.Canonical.gateBack (h : s.Canonical) {g} : (s.gateBack g).Canonical := h.withField

theorem State.Canonical.fieldLinkBack (h : s.Canonical) : s.fieldLinkBack.Canonical :=
  .ite h h.setBit.outputsUpdate.daliSettleAll.diCommitAll

theorem State.Canonical.charmLink (h : s.Canonical) {up} : (s.charmLink up).Canonical := h.setBit.orElse fun k => k.wr.withCharm k.charm

theorem State.Canonical.execLinkLoss (h : s.Canonical) {link} : Out.Canonical (execLinkLoss link s) :=
  State.Canonical.next (by split; exacts [h.fieldLinkLost, h.gateLost, .ite h.meterLinkLost h, .ite h.safetyLinkLost h, h.charmLink, h, h])

theorem State.Canonical.execLinkReturn (h : s.Canonical) {link} : Out.Canonical (execLinkReturn link s) :=
  State.Canonical.next (by split; exacts [h.fieldLinkBack, h.gateBack, .ite h.meterLinkBack h, .ite h.safetyLinkBack h, h.charmLink, h, h])

/-! ### Machine/Meter -/

theorem State.Canonical.meterReg (h : s.Canonical) {f : State → State} (hf : ∀ {t}, t.Canonical → (f t).Canonical) {m a}
    : (s.meterReg m a f).Canonical :=
  h.asPrefect (fun k => .ite (k.overLink hf) k)

theorem State.Canonical.execLineCycle (h : s.Canonical) {supply sup ckts} : Out.Canonical (execLineCycle supply sup ckts s) :=
  h.lineCycle.next

theorem State.Canonical.execMeterSnap (h : s.Canonical) {m} : Out.Canonical (execMeterSnap m s) := (h.meterReg (fun k => k.snapStart)).next

theorem State.Canonical.execMeterClrAll (h : s.Canonical) {m} : Out.Canonical (execMeterClrAll m s) :=
  (h.meterReg (fun k => k.meterClear)).next

theorem State.Canonical.execCalApply (h : s.Canonical) {m} : Out.Canonical (execCalApply m s) := (h.meterReg (fun k => k.calApply)).next

theorem State.Canonical.execMeterSupervision (h : s.Canonical) {ckt cond} : Out.Canonical (execMeterSupervision ckt cond s) :=
  h.superviseNow.next

theorem State.Canonical.execMeterSave (h : s.Canonical) : Out.Canonical (execMeterSave s) := h.meterSave.next
theorem State.Canonical.execSaveConfirmed (h : s.Canonical) : Out.Canonical (execSaveConfirmed s) := h.saveConfirmed.next
theorem State.Canonical.execSaveLate (h : s.Canonical) : Out.Canonical (execSaveLate s) := h.saveLate.next

theorem State.Canonical.execQmapWrite (h : s.Canonical) {m entry10 v} : Out.Canonical (execQmapWrite m entry10 v s) :=
  (h.meterReg (fun k => k.qmapWrite)).next

theorem State.Canonical.execBatClr (h : s.Canonical) {m ckt} : Out.Canonical (execBatClr m ckt s) := (h.meterReg (fun k => k.wr)).next
theorem State.Canonical.execBatteryMeasure (h : s.Canonical) {rms} : Out.Canonical (execBatteryMeasure rms s) := h.batteryMeasure.next
theorem State.Canonical.execBatteryRecordWrite (h : s.Canonical) : Out.Canonical (execBatteryRecordWrite s) := h.batteryRecord.next
theorem State.Canonical.execMeterMerge (h : s.Canonical) : Out.Canonical (execMeterMerge s) := h.meterMerge.next
theorem State.Canonical.execPulseEmit (h : s.Canonical) {out} : Out.Canonical (execPulseEmit out s) := h.pulseEmit.next

/-! ### Machine/Operation -/

theorem State.Canonical.denyOp (h : s.Canonical) {e x target kind} : (s.denyOp e x target kind).Canonical :=
  h.completeOp.incSat.recordWindow

theorem State.Canonical.completeGet (h : s.Canonical) {fin : Finish} (hf : ∀ {t a b d}, t.Canonical → (fin t a b d).Canonical) {e x i}
    : (s.completeGet fin e x i).Canonical := by
  unfold State.completeGet
  exact .ite (hf h) <| .ite h.denyOp <| .ite h <| .ite (hf h) (hf h)

theorem State.Canonical.completePut (h : s.Canonical) {fin : Finish} (hf : ∀ {t a b d}, t.Canonical → (fin t a b d).Canonical)
    {e x i w data} : (s.completePut fin e x i w data).Canonical :=
  .ite (hf h) <| .ite h.denyOp <| .ite (hf h) (hf h.setPoint)

theorem State.Canonical.completePsync (h : s.Canonical) {e x i seq} : (s.completePsync e x i seq).Canonical := by
  unfold State.completePsync
  exact .ite h.completeOp <| .ite h.denyOp <| .ite h.completeOp <| .ite h h.completeOp

theorem State.Canonical.acceptMsg (h : s.Canonical) {fin : Finish} (hf : ∀ {t a b d}, t.Canonical → (fin t a b d).Canonical) {e unit m}
    : (s.acceptMsg fin e unit m).Canonical := by
  unfold State.acceptMsg
  exact .ite (.ite (hf h) <| .ite (hf h) (hf h.kept)) <| .ite (.ite (hf h) <| .ite (hf (.ite h.inc h)) (hf h.withScan)) <| .ite (hf h) <|
    .ite (hf h) (hf h.withScan)

theorem State.Canonical.completeMsg (h : s.Canonical) {fin : Finish} (hf : ∀ {t a b d}, t.Canonical → (fin t a b d).Canonical)
    {e x unit typ payload} : (s.completeMsg fin e x unit typ payload).Canonical := by
  unfold State.completeMsg
  dsimp only
  split
  · exact h
  · split
    · exact hf h
    · split
      · exact hf h
      · split
        · exact hf h
        · exact h.denyOp
        · exact h.acceptMsg hf

theorem State.Canonical.atTarget (h : s.Canonical) {fin : Finish} (hf : ∀ {t a b d}, t.Canonical → (fin t a b d).Canonical) {e x}
    : (s.atTarget fin e x).Canonical := by
  unfold State.atTarget
  split
  · exact .ite h (h.completeGet hf)
  · exact .ite h (h.completeGet hf)
  · exact .ite h (h.completePut hf)
  · exact h.completePsync
  · exact h.completeMsg hf

theorem State.Canonical.execOperationComplete (h : s.Canonical) {entry} : Out.Canonical (execOperationComplete entry s) := by
  unfold Machine.execOperationComplete
  dsimp only
  split
  · exact h.next
  · split
    · exact h.next
    · split
      · exact h.completeOp.next
      · exact (h.atTarget (fun k => k.completeOp)).next

theorem State.Canonical.execPsyncComplete (h : s.Canonical) {entry} : Out.Canonical (execPsyncComplete entry s) := by
  unfold Machine.execPsyncComplete
  split
  · exact h.next
  · split
    · exact (h.elseOr fun k => k.completePsync).next
    · exact h.next

theorem State.Canonical.execOperationTimeout (h : s.Canonical) {entry} : Out.Canonical (execOperationTimeout entry s) := by
  unfold Machine.execOperationTimeout
  dsimp only
  split
  · exact h.next
  · split
    · exact h.next
    · exact .ite h.next
        (State.Canonical.next (by split; exacts [h.advanceTo.completeOp, by split; exacts [h.advanceTo.completeOp.setQual,
        h.advanceTo.completeOp.record]]))

/-! ### Machine/Power -/

theorem State.Canonical.execFeedAbsent (h : s.Canonical) {feed low} : Out.Canonical (execFeedAbsent feed low s) :=
  (State.Canonical.ite h.setFld <| .ite h.setFld.feedPhy h.setFld.loseFeed).next

theorem State.Canonical.execFeedFaulted (h : s.Canonical) {which dev} : Out.Canonical (execFeedFaulted which dev s) :=
  (h.setFld.elseOr fun k => k.loseFeed).next

theorem State.Canonical.execTransfer (h : s.Canonical) {m} : Out.Canonical (execTransfer m s) :=
  (h.asPrefect (fun k => k.feedTransfer)).next

theorem State.Canonical.execTransferPathTimeout (h : s.Canonical) : Out.Canonical (execTransferPathTimeout s) := h.pathTimeout.next

theorem State.Canonical.execRestore (h : s.Canonical) {m feed} : Out.Canonical (execRestore m feed s) :=
  (h.asPrefect (fun k => .ite k.returnFeed k)).next

theorem State.Canonical.execFeedAutoRestore (h : s.Canonical) {feed} : Out.Canonical (execFeedAutoRestore feed s) :=
  (h.orElse fun k => k.returnFeed).next

theorem State.Canonical.execTestDue (h : s.Canonical) {feed} : Out.Canonical (execTestDue feed s) :=
  (h.elseOr fun k => k.withPwr.setFld.setBit.irq.record).next

theorem State.Canonical.execSleepEntry (h : s.Canonical) {want} : Out.Canonical (execSleepEntry want s) := h.sleepEnter.next
theorem State.Canonical.execWakeRequest (h : s.Canonical) {src} : Out.Canonical (execWakeRequest src s) := h.wakeRequest.next

theorem State.Canonical.execScheduledExit (h : s.Canonical) : Out.Canonical (execScheduledExit s) :=
  State.Canonical.next (by split; exacts [by split; exacts [h.advanceTo.wakeRequest, h], h])

theorem State.Canonical.execRecessAsk (h : s.Canonical) {number} : Out.Canonical (execRecessAsk number s) := h.recessAsk.next

theorem State.Canonical.execRecessRequestRx (h : s.Canonical) {port number carries}
    : Out.Canonical (execRecessRequestRx port number carries s) :=
  h.recessAnswer.next

theorem State.Canonical.execRecessGrantRx (h : s.Canonical) {port number} : Out.Canonical (execRecessGrantRx port number s) :=
  h.recessGranted.next

theorem State.Canonical.execRecessRefuseRx (h : s.Canonical) {port number reason}
    : Out.Canonical (execRecessRefuseRx port number reason s) :=
  (h.orElse fun k => k.recessRefused).next

theorem State.Canonical.execRecessCommitRx (h : s.Canonical) {port number} : Out.Canonical (execRecessCommitRx port number s) :=
  State.Canonical.next (by split; exacts [.ite h.setRecess h, h])

theorem State.Canonical.execRecessWithdrawRx (h : s.Canonical) {port number} : Out.Canonical (execRecessWithdrawRx port number s) :=
  h.setRecess.next

theorem State.Canonical.execRecessAnswerTimeout (h : s.Canonical) {port} : Out.Canonical (execRecessAnswerTimeout port s) :=
  (h.orElse fun k => k.advanceTo.recessRefused).next

theorem State.Canonical.execRecessGrantLapse (h : s.Canonical) {port} : Out.Canonical (execRecessGrantLapse port s) := h.recessLapse.next
theorem State.Canonical.execWakeFrame (h : s.Canonical) {port propagate} : Out.Canonical (execWakeFrame port propagate s) := h.wakeRx.next
theorem State.Canonical.execWakeFrameResend (h : s.Canonical) {port} : Out.Canonical (execWakeFrameResend port s) := h.wakeAgain.next

theorem State.Canonical.execPowerFailDetect (h : s.Canonical) {cut last} : Out.Canonical (execPowerFailDetect cut last s) :=
  h.powerFail.next

/-! ### Machine/Program -/

theorem State.Canonical.execProgBegin (h : s.Canonical) {m tenantImg tenant} : Out.Canonical (execProgBegin m tenantImg tenant s) :=
  (h.asPrefect (fun k => k.progBegin)).next

theorem State.Canonical.execProgPush (h : s.Canonical) {m items} : Out.Canonical (execProgPush m items s) :=
  (h.asPrefect (fun k => k.progPush)).next

theorem State.Canonical.execProgCheck (h : s.Canonical) {m} : Out.Canonical (execProgCheck m s) := (h.asPrefect (fun k => k.progCheck)).next
theorem State.Canonical.execProgCheckDone (h : s.Canonical) : Out.Canonical (execProgCheckDone s) := h.progChecked.next
theorem State.Canonical.execProgLoad (h : s.Canonical) {m} : Out.Canonical (execProgLoad m s) := (h.asPrefect (fun k => k.progLoad)).next
theorem State.Canonical.execProgArm (h : s.Canonical) {m} : Out.Canonical (execProgArm m s) := (h.asPrefect (fun k => k.progArm)).next
theorem State.Canonical.execStagingDone (h : s.Canonical) : Out.Canonical (execStagingDone s) := h.stagingDone.next
theorem State.Canonical.execProgAbort (h : s.Canonical) {m} : Out.Canonical (execProgAbort m s) := (h.asPrefect (fun k => k.progAbort)).next

theorem State.Canonical.execWarmRestart (h : s.Canonical) {m} : Out.Canonical (execWarmRestart m s) :=
  (h.asPrefect (fun k => k.restartCmd)).next

theorem State.Canonical.execColdRestart (h : s.Canonical) {m} : Out.Canonical (execColdRestart m s) :=
  (h.asPrefect (fun k => k.restartCmd)).next

theorem State.Canonical.execSwitchCoreRelease (h : s.Canonical) {core} : Out.Canonical (execSwitchCoreRelease core s) :=
  h.switchRelease.next

theorem State.Canonical.execPeriodicCheckpoint (h : s.Canonical) : Out.Canonical (execPeriodicCheckpoint s) :=
  (h.elseOr fun k => k.periodicCheckpoint).next

theorem State.Canonical.execScanRunStart (h : s.Canonical) {m} : Out.Canonical (execScanRunStart m s) :=
  (h.asPrefect (fun k => k.prefectRun)).next

theorem State.Canonical.execScanRunStop (h : s.Canonical) {m} : Out.Canonical (execScanRunStop m s) :=
  (h.asPrefect (fun k => k.runStop)).next

theorem State.Canonical.execUncorrectableError (h : s.Canonical) {target} : Out.Canonical (execUncorrectableError target s) := by
  unfold Machine.execUncorrectableError
  split
  · exact h.completeOp.next
  · exact h.nandPage.next
  · exact (h.uncorrectable.elseOr fun k => k.rearm).next

/-! ### Machine/ScanEvents -/

theorem State.Canonical.execLessonStart (h : s.Canonical) {core} : Out.Canonical (execLessonStart core s) := h.startLesson.next

theorem State.Canonical.execDeadlineExpiry (h : s.Canonical) {lesson} : Out.Canonical (execDeadlineExpiry lesson s) := by
  unfold Machine.execDeadlineExpiry
  dsimp only
  split
  · exact .ite h.next h.advanceTo.abandon.next
  · exact h.next

theorem State.Canonical.execBudgetExhausted (h : s.Canonical) {lesson} : Out.Canonical (execBudgetExhausted lesson s) := by
  unfold Machine.execBudgetExhausted
  dsimp only
  split
  · exact .ite h.next <| .ite h.inc.recordWindow.setLesson.next h.inc.recordWindow.setLesson.withScan.preempt.resumeBest.next
  · exact h.next

theorem State.Canonical.execFloorWrite (h : s.Canonical) {m slot v} : Out.Canonical (execFloorWrite m slot v s) :=
  (h.asPrefect (fun k => k.floorWrite)).next

theorem State.Canonical.execForceSet (h : s.Canonical) {m} : Out.Canonical (execForceSet m s) := (h.asPrefect (fun k => k.forceSet)).next

theorem State.Canonical.execForceClear (h : s.Canonical) {m} : Out.Canonical (execForceClear m s) :=
  (h.asPrefect (fun k => k.forceClear)).next

theorem State.Canonical.execForceClearAll (h : s.Canonical) {m} : Out.Canonical (execForceClearAll m s) :=
  (h.asPrefect (fun k => k.foldl fun _ _ k1 => k1.forceClear)).next

theorem State.Canonical.execLessonClrOne (h : s.Canonical) {m lesson} : Out.Canonical (execLessonClrOne m lesson s) :=
  (h.asPrefect (fun k => k.updLesson)).next

theorem State.Canonical.clrAll (h : s.Canonical) : s.clrAll.Canonical := h.foldl fun _ _ k => k.updLesson

theorem State.Canonical.execLessonClrAll (h : s.Canonical) {m} : Out.Canonical (execLessonClrAll m s) :=
  (h.asPrefect (fun k => k.clrAll)).next

theorem State.Canonical.execProducerCommit (h : s.Canonical) {idx producer upd} : Out.Canonical (execProducerCommit idx producer upd s) :=
  (h.orElse fun k => k.commitPoint).next

theorem State.Canonical.execDeviceAnswer (h : s.Canonical) {group values} : Out.Canonical (execDeviceAnswer group values s) := by
  unfold Machine.execDeviceAnswer
  split
  · split
    · exact (h.foldl fun _ _ k => k.commitPoint).setGroup.next
    · exact h.next
  · exact h.next

theorem State.Canonical.execDeviceRequestTimeout (h : s.Canonical) {group} : Out.Canonical (execDeviceRequestTimeout group s) := by
  unfold Machine.execDeviceRequestTimeout
  split
  · split
    · exact ((State.Canonical.setGroup (by split; exacts [h.advanceTo.setFld, h.advanceTo])).foldl fun _ _ k => k.setQual).next
    · exact h.next
  · exact h.next

theorem State.Canonical.execDevicePoll (h : s.Canonical) {group} : Out.Canonical (execDevicePoll group s) := by
  unfold Machine.execDevicePoll
  split
  · exact (h.orElse fun k => k.setGroup).next
  · exact h.next

/-! ### Machine/Serial -/

theorem State.Canonical.execSerialFrameError (h : s.Canonical) {sch} : Out.Canonical (execSerialFrameError sch s) := h.incSat.next

theorem State.Canonical.execCanBusOff (h : s.Canonical) {can} : Out.Canonical (execCanBusOff can s) :=
  (h.orElse fun k => k.setFld.setFld.record).next

theorem State.Canonical.execCanBusOffRecovery (h : s.Canonical) {can} : Out.Canonical (execCanBusOffRecovery can s) :=
  (h.orElse fun k => k.wr).next

theorem State.Canonical.serWrite (h : s.Canonical) {a v} : CanonicalIn (s.serWrite a v) :=
  .ite (h.iteBoth (fun k => k.wr.setBit) fun k => k.wr.wr).some <|
    .ite (h.iteBoth (fun k => k.wr.orElse fun k => k.wr) fun k => k.wr.wr).some .none

/-! ### Machine/RegIf -/

theorem State.Canonical.readEffect (h : s.Canonical) {m a} : (s.readEffect m a).Canonical := by
  unfold State.readEffect
  split
  · split
    · exact h.setLastErr
    · exact h
  · split
    · exact h
    · split
      · exact h.capturePop
      · exact h.capPop
      · split
        · exact .ite h h.wr
        · exact h

theorem State.Canonical.pointRead (h : s.Canonical) {m i w} : (s.pointRead m i w).1.Canonical := .fst_ite h.incSat h

theorem State.Canonical.accessWake (h : s.Canonical) {m a} : (s.accessWake m a).Canonical := by
  unfold State.accessWake
  split
  · exact .ite h h.wakeRequest
  · exact h

theorem State.Canonical.busRead (h : s.Canonical) {m addr} : (s.busRead m addr).1.Canonical :=
  .fst_ite h.accessWake <| .fst_ite h.accessWake.pointRead <| .fst_ite h.accessWake <| .fst_ite h.accessWake.busCount <|
    .fst_ite h.accessWake.busCount h.accessWake.readEffect

theorem State.Canonical.testEnter (h : s.Canonical) {m} : (s.testEnter m).Canonical := .ite h.setPhase h.setBit
theorem State.Canonical.testLeave (h : s.Canonical) {m} : (s.testLeave m).Canonical := .ite h.setPhase h
theorem State.Canonical.mboxSelect (h : s.Canonical) {m v} : (s.mboxSelect m v).Canonical := .ite h.wr.wr.withBus h.wr.wr.withBus

theorem State.Canonical.mboxDone (h : s.Canonical) : s.mboxDone.Canonical := by
  unfold State.mboxDone
  split
  · exact h
  · exact h.wr.withBus.irq

theorem State.Canonical.pointWrite (h : s.Canonical) {m i w v} : (s.pointWrite m i w v).Canonical := by
  unfold State.pointWrite
  exact .ite h.incSat <| .ite h.incSat <| .ite h.incSat <|
    .ite (h.orElse fun k => k.addSat).wr.commitPoint (h.orElse fun k => k.addSat).wr.withBus

theorem State.Canonical.plainWrite (h : s.Canonical) {a v} : (s.plainWrite a v).Canonical := by
  unfold State.plainWrite
  split
  · exact h.wr
  · exact h

theorem State.Canonical.sysWrite (h : s.Canonical) {m a v} : CanonicalIn (s.sysWrite m a v) :=
  .ite (State.Canonical.some (by split; exacts [h.testEnter, h.testLeave, h])) <| .ite (h.orElse fun k => k.warmReset).some <|
    .ite (State.Canonical.ite h.plainWrite <| .ite h.plainWrite.appearSession h.plainWrite.endSession).some .none

theorem State.Canonical.pwrWrite (h : s.Canonical) {a v} : CanonicalIn (s.pwrWrite a v) :=
  .ite (State.Canonical.some (by split; exacts [h.feedTransfer, .ite h.returnFeed h, h])) <| .ite h.plainWrite.some .none

theorem State.Canonical.scanWrite (h : s.Canonical) {m a v} : CanonicalIn (s.scanWrite m a v) := by
  unfold State.scanWrite
  exact .ite (State.Canonical.ite h.prefectRun <| .ite h.runStop h).some <|
    .ite (h.iteBoth (fun k => k.clrAll) fun k => k.updLesson).some <| .ite (h.elseOr fun k => k.plainWrite).some <|
    .ite h.floorWrite.some <|
    .ite (State.Canonical.some (by split; exacts [h.forceSet, h.forceClear, h.foldl fun _ _ k => k.forceClear, h])) <|
    .ite (State.Canonical.some (by split; exacts [h.progBegin, h.progPush, h.progCheck, h.progLoad, h.progArm, h.progAbort, h.restartCmd,
    h.restartCmd, h])) <| .ite h.withBus.some <| .ite h.plainWrite.some .none

theorem State.Canonical.rosterWrite (h : s.Canonical) {a v} : CanonicalIn (s.rosterWrite a v) := by
  unfold State.rosterWrite
  exact .ite (State.Canonical.some (by split; exacts [h.rosterCommit, h.rosterRevert, h])) <|
    .ite (h.plainWrite.orElse fun k => k.needSlot).settleSlots.some <| .ite h.withRoster.some <| .ite h.withRoster.some <|
    .ite h.withRoster.some .none

theorem State.Canonical.genWrite (h : s.Canonical) {op v} : (s.genWrite op v).Canonical :=
  .ite h.setBit ((h.orElse fun k => k.setBit).elseOr fun k => k.setFld).setBit

theorem State.Canonical.fieldWrite (h : s.Canonical) {a v} : CanonicalIn (s.fieldWrite a v) := by
  unfold State.fieldWrite
  split
  · exact h.outEnable.some
  · split
    · exact (h.plainWrite.orElse fun k => k.doClear).doUpdate.some
    · exact (h.orElse fun k => k.doGroupClear).some
    · exact h.genWrite.some
    · exact ((h.orElse fun k => k.daliAddress).orElse fun k => k.daliRefresh).some
    · exact .ite h.bindWrite.some <| .ite h.plainWrite.daliSettleAll.some <| .ite (h.plainWrite.orElse fun k => k.daliRawGo).some .none

theorem State.Canonical.keyWrite (h : s.Canonical) {m a v} : CanonicalIn (s.keyWrite m a v) :=
  .ite (State.Canonical.some (by split; exacts [h.keyStart, h])) <| .ite (h.elseOr fun k => k.plainWrite).some <|
    .ite (h.iteBoth (fun k => k.setBit) fun k => k.plainWrite).some .none

theorem State.Canonical.evtWrite (h : s.Canonical) {m a v} : CanonicalIn (s.evtWrite m a v) :=
  .ite (h.plainWrite.orElse fun k => k.flush).some <| .ite (State.Canonical.some (by split; exacts [h.evtRead, h.evtRead, h])) .none

theorem State.Canonical.fwuWrite (h : s.Canonical) {a v} : CanonicalIn (s.fwuWrite a v) := by
  refine .ite (State.Canonical.some ?_) <| .ite h.withBus.some <| .ite (h.elseOr fun k => k.plainWrite).some .none
  split
  exacts [h.emit.fwuBegin, h.emit.fwuPush, h.emit.fwuGo, h.emit.fwuAbort, .ite h.emit.withFwu h.emit.fwuSequence, h.emit]

theorem State.Canonical.blockWrite (h : s.Canonical) {m a v} : CanonicalIn (s.blockWrite m a v) := by
  unfold State.blockWrite
  split
  · exact h.sysWrite
  · exact h.sysWrite
  · exact h.pwrWrite
  · exact h.scanWrite
  · exact h.rosterWrite
  · exact h.loopWrite
  · exact h.liftWrite
  · exact h.dispWrite
  · exact h.some
  · exact h.some
  · exact h.meterWrite
  · exact h.fieldWrite
  · exact h.fieldWrite
  · exact h.serWrite
  · exact h.accWrite
  · exact h.prpWrite
  · exact h.timeWrite
  · exact h.keyWrite
  · exact h.evtWrite
  · exact h.fwuWrite
  · exact h.charmWrite
  · exact .ite h.mboxSelect.some .none
  · exact .ite h.netWrite .none

theorem State.Canonical.regWrite (h : s.Canonical) {m a v} : (s.regWrite m a v).Canonical :=
  (h.blockWrite.getD h.plainWrite).orElse fun k => k.wr

theorem State.Canonical.passWrite (h : s.Canonical) {n v} : (s.passWrite n v).Canonical := by
  unfold State.passWrite
  dsimp only
  split
  · exact h.claim
  · exact h.renew
  · exact h.releasePass
  · exact h.dropClaim
  · exact h.handOver
  · exact h.acceptPass
  · exact h

theorem State.Canonical.busWrite (h : s.Canonical) {m addr be v} : Out.Canonical (s.busWrite m addr be v) := by
  unfold State.busWrite
  extract_lets a t
  have ht : t.Canonical := h.accessWake
  clear_value t
  refine .ite ht.next <| .ite ?_ <| .ite ht.incSat.next <| .ite ht.next <| .ite ht.busCount.next <| .ite ht.pointWrite.next <|
    .ite ht.next <| .ite ht.busCount.next <| .ite ht.busCount.next <| .ite ?_ <| .ite .fault ht.regWrite.next
  · cases m with
    | sess n => exact ht.dropNotOwner.next
    | steward => exact ht.next
  · cases m with
    | sess n => exact ht.passWrite.next
    | steward => exact ht.next

theorem State.Canonical.drainQspi {l} : ∀ {s : State}, s.Canonical → Out.Canonical (drainQspi l s) := by
  induction l with
  | nil => exact fun h => h.next
  | cons p rest ih =>
    intro s h
    have hw : Out.Canonical (State.busWrite { s with host := { s.host with qspi := rest } } (.sess 1) p.1.toNat 0xF p.2) := h.kept.busWrite
    unfold Machine.drainQspi
    split
    · exact ih (hw.of_eq ‹_›)
    · exact hw

theorem State.Canonical.postedWrite (h : s.Canonical) : ∀ o ∈ s.postedWrite, Out.Canonical o := by
  unfold State.postedWrite
  split
  · exact fun o ho => absurd ho (Option.not_mem_none o)
  · exact fun o ho => Option.some.inj ho ▸ h.withHost.busWrite

theorem State.Canonical.execQspiRead (h : s.Canonical) {addr} : Out.Canonical (execQspiRead addr s) := by
  unfold Machine.execQspiRead
  refine .ite h.next ?_
  split
  · exact (h.drainQspi.of_eq ‹_›).busRead.emit.next
  · exact h.drainQspi

theorem State.Canonical.execQspiWrite (h : s.Canonical) {addr v} : Out.Canonical (execQspiWrite addr v s) :=
  .ite h.next (h.iteBoth (fun k => k.wakeRequest.setLastErr) fun k => k.wakeRequest.withHost).next

theorem State.Canonical.execQspiStatus (h : s.Canonical) : Out.Canonical (execQspiStatus s) := .ite h.next h.wakeRequest.emit.next
theorem State.Canonical.execRegisterWrite (h : s.Canonical) {m addr v be} : Out.Canonical (execRegisterWrite m addr v be s) := h.busWrite

theorem State.Canonical.execReadClear (h : s.Canonical) {m addr} : Out.Canonical (execReadClear m addr s) :=
  (h.busRead.elseOr fun k => k.emit).next

theorem State.Canonical.execBusWatchdog (h : s.Canonical) {m addr write} : Out.Canonical (execBusWatchdog m addr write s) :=
  .ite h.next (h.busCount.record.elseOr fun k => k.emit).next

theorem State.Canonical.execMboxLatch (h : s.Canonical) {m v} : Out.Canonical (execMboxLatch m v s) :=
  (h.throughView (fun k => k.mboxSelect)).next

theorem State.Canonical.execMboxRelease (h : s.Canonical) {m} : Out.Canonical (execMboxRelease m s) :=
  (h.throughView (fun k => k.mboxSelect)).next

theorem State.Canonical.execMboxLatchDone (h : s.Canonical) : Out.Canonical (execMboxLatchDone s) := h.mboxDone.next

theorem State.Canonical.execPointStageWrite (h : s.Canonical) {m idx word4 v} : Out.Canonical (execPointStageWrite m idx word4 v s) :=
  (h.throughView (fun k => k.pointWrite)).next

theorem State.Canonical.execPointValueWrite (h : s.Canonical) {m idx v} : Out.Canonical (execPointValueWrite m idx v s) :=
  (h.throughView (fun k => k.pointWrite)).next

theorem State.Canonical.execEnterTest (h : s.Canonical) {m} : Out.Canonical (execEnterTest m s) := (h.hostWrite (fun k => k.testEnter)).next
theorem State.Canonical.execLeaveTest (h : s.Canonical) {m} : Out.Canonical (execLeaveTest m s) := (h.hostWrite (fun k => k.testLeave)).next

/-! ### Machine/LoadStore -/

theorem State.Canonical.underLock (h : s.Canonical) {body : State → Res} (hf : ∀ {t}, t.Canonical → (body t).Canonical) {c cluster}
    : Res.Canonical (s.underLock c cluster body) := by
  unfold State.underLock
  split
  · exact hf h
  · exact hf h.takeLock
  · exact h.withScan.setWaiting.whole

theorem State.Canonical.load (h : s.Canonical) {c gd ea n ext} : Res.Canonical (s.load c gd ea n ext) := by
  unfold State.load
  split
  · exact .exc
  · exact h.underLock (fun k => .ite .exc k.setG.done)
  · exact h.setG.done
  · exact .ite .wait h.busRead.setG.done

theorem State.Canonical.loadInstr (h : s.Canonical) {c i gd ga imm n ext} : Out.Canonical (s.loadInstr c i gd ga imm n ext) :=
  h.runInstr (fun k => k.load)

theorem State.Canonical.storeCore (h : s.Canonical) {c a cluster b} : (s.storeCore c a cluster b).Canonical := by
  unfold State.storeCore
  split
  · exact h.setCore
  · exact h.storeBytes

theorem State.Canonical.store (h : s.Canonical) {c ea n v} : Res.Canonical (s.store c ea n v) := by
  unfold State.store
  split
  · exact .exc
  · exact h.underLock (fun k => k.storeCore.done)
  · exact State.Canonical.done { h with lpddr := Memory.wf_writeN _ _ _ h.lpddr }
  · refine .ite .wait ?_
    split
    · exact (h.busWrite.of_eq ‹_›).done
    · exact h.busWrite.stop

theorem State.Canonical.storeInstr (h : s.Canonical) {c i gd ga imm n} : Out.Canonical (s.storeInstr c i gd ga imm n) :=
  h.runInstr (fun k => k.store)

theorem State.Canonical.execLw (h : s.Canonical) {c gd ga imm} : Out.Canonical (execLw c gd ga imm s) := h.loadInstr
theorem State.Canonical.execLh (h : s.Canonical) {c gd ga imm} : Out.Canonical (execLh c gd ga imm s) := h.loadInstr
theorem State.Canonical.execLhu (h : s.Canonical) {c gd ga imm} : Out.Canonical (execLhu c gd ga imm s) := h.loadInstr
theorem State.Canonical.execLb (h : s.Canonical) {c gd ga imm} : Out.Canonical (execLb c gd ga imm s) := h.loadInstr
theorem State.Canonical.execLbu (h : s.Canonical) {c gd ga imm} : Out.Canonical (execLbu c gd ga imm s) := h.loadInstr
theorem State.Canonical.execSw (h : s.Canonical) {c gd ga imm} : Out.Canonical (execSw c gd ga imm s) := h.storeInstr
theorem State.Canonical.execSh (h : s.Canonical) {c gd ga imm} : Out.Canonical (execSh c gd ga imm s) := h.storeInstr
theorem State.Canonical.execSb (h : s.Canonical) {c gd ga imm} : Out.Canonical (execSb c gd ga imm s) := h.storeInstr

theorem State.Canonical.readWords (h : s.Canonical) {c ea n} : (s.readWords c ea n).1.Canonical := by
  induction n with
  | zero => exact h
  | succ n ih =>
    unfold State.readWords
    dsimp only
    split
    · exact ih
    · exact ih.busRead
    · exact ih

theorem State.Canonical.execVld (h : s.Canonical) {c bd ga off12} : Out.Canonical (execVld c bd ga off12 s) := by
  refine h.runInstr fun k => ?_
  extract_lets ea
  split
  · exact .exc
  · exact k.underLock fun k => .ite .exc k.bfWrite
  · refine .ite .exc (.ite .wait ?_)
    split
    rename_i u l e
    have hu : (u, l).1.Canonical := e ▸ k.readWords
    exact hu.bfWrite

theorem State.Canonical.writeWords {c l} : ∀ {s : State} {ea}, s.Canonical → Out.Canonical (s.writeWords c ea l) := by
  induction l with
  | nil => exact fun h => h.next
  | cons w rest ih =>
    intro s ea h
    unfold State.writeWords
    split
    · exact ih { h with lpddr := Memory.wf_writeN _ _ _ h.lpddr }
    · split
      · exact ih (h.busWrite.of_eq ‹_›)
      · exact h.busWrite
    · exact ih h

theorem State.Canonical.execVst (h : s.Canonical) {c bd ga off12} : Out.Canonical (execVst c bd ga off12 s) := by
  refine h.runInstr fun k => ?_
  extract_lets ea words
  split
  · exact .exc
  · exact k.underLock fun k => k.storeCore.done
  · refine .ite .exc (.ite .wait ?_)
    split
    · exact (k.writeWords.of_eq ‹_›).done
    · exact k.writeWords.stop

/-! ### Machine/Loop -/

theorem State.Canonical.slotAlarm (h : s.Canonical) {n} : (s.slotAlarm n).Canonical := by
  unfold State.slotAlarm
  dsimp only
  split
  · exact h
  · exact .ite h h.setSlot.inc.record

theorem State.Canonical.execFeAlarm (h : s.Canonical) {target} : Out.Canonical (execFeAlarm target s) :=
  State.Canonical.next (by split; exacts [h.slotAlarm, h.stageAlarm])

theorem State.Canonical.execCurrentPeriod (h : s.Canonical) {lines currents} : Out.Canonical (execCurrentPeriod lines currents s) :=
  .ite h.next (h.loopSettle.encFeedAll.foldl fun _ _ k => k.opPeriod).withLoop.next

theorem State.Canonical.execLoopBind (h : s.Canonical) : Out.Canonical (execLoopBind s) := h.loopFront.next
theorem State.Canonical.execLoopUnbind (h : s.Canonical) : Out.Canonical (execLoopUnbind s) := h.loopFront.next
theorem State.Canonical.execLoopParam (h : s.Canonical) : Out.Canonical (execLoopParam s) := h.loopFront.next
theorem State.Canonical.execLoopMode (h : s.Canonical) : Out.Canonical (execLoopMode s) := h.loopFront.next
theorem State.Canonical.execOpBind (h : s.Canonical) : Out.Canonical (execOpBind s) := h.loopFront.next
theorem State.Canonical.execOpParam (h : s.Canonical) : Out.Canonical (execOpParam s) := h.loopFront.next
theorem State.Canonical.execOpMode (h : s.Canonical) : Out.Canonical (execOpMode s) := h.loopFront.next
theorem State.Canonical.execOpMove (h : s.Canonical) : Out.Canonical (execOpMove s) := h.loopFront.next
theorem State.Canonical.execZone (h : s.Canonical) : Out.Canonical (execZone s) := h.loopFront.next
theorem State.Canonical.execLoopTriggerMsg (h : s.Canonical) : Out.Canonical (execLoopTriggerMsg s) := h.loopFront.next

theorem State.Canonical.execSlotParamApply (h : s.Canonical) {m} : Out.Canonical (execSlotParamApply m s) :=
  (h.asPrefect (fun k => k.slotApply)).next

theorem State.Canonical.execStageParamApply (h : s.Canonical) {m stage} : Out.Canonical (execStageParamApply m stage s) :=
  (h.asPrefect (fun k => .ite k k.stageApply)).next

theorem State.Canonical.execSlotWindowLatch (h : s.Canonical) {m slot11} : Out.Canonical (execSlotWindowLatch m slot11 s) :=
  (h.asPrefect (fun k => k.slotLatch)).next

theorem State.Canonical.execHzDeadline (h : s.Canonical) {zone} : Out.Canonical (execHzDeadline zone s) := h.hzDeadline.next

theorem State.Canonical.execModelCommit (h : s.Canonical) {m} : Out.Canonical (execModelCommit m s) :=
  (h.asPrefect (fun k => k.modelCommit)).next

theorem State.Canonical.execTraceArm (h : s.Canonical) {m} : Out.Canonical (execTraceArm m s) := (h.asPrefect (fun k => k.traceArm)).next

theorem State.Canonical.execTraceTrigger (h : s.Canonical) {m} : Out.Canonical (execTraceTrigger m s) :=
  (h.asPrefect (fun k => k.traceTrigger)).next

theorem State.Canonical.execTraceStop (h : s.Canonical) {m} : Out.Canonical (execTraceStop m s) := (h.asPrefect (fun k => k.traceStop)).next

/-! ### Machine/MulDiv -/

theorem State.Canonical.execMul (h : s.Canonical) {c gd ga gb} : Out.Canonical (execMul c gd ga gb s) := h.alu
theorem State.Canonical.execMulh (h : s.Canonical) {c gd ga gb} : Out.Canonical (execMulh c gd ga gb s) := h.alu
theorem State.Canonical.execMulhu (h : s.Canonical) {c gd ga gb} : Out.Canonical (execMulhu c gd ga gb s) := h.alu
theorem State.Canonical.execMulv (h : s.Canonical) {c gd ga gb} : Out.Canonical (execMulv c gd ga gb s) := h.aluV
theorem State.Canonical.execDiv (h : s.Canonical) {c gd ga gb} : Out.Canonical (execDiv c gd ga gb s) := h.divide
theorem State.Canonical.execDivu (h : s.Canonical) {c gd ga gb} : Out.Canonical (execDivu c gd ga gb s) := h.divide
theorem State.Canonical.execRem (h : s.Canonical) {c gd ga gb} : Out.Canonical (execRem c gd ga gb s) := h.divide
theorem State.Canonical.execRemu (h : s.Canonical) {c gd ga gb} : Out.Canonical (execRemu c gd ga gb s) := h.divide
theorem State.Canonical.execMulq (h : s.Canonical) {c gd ga gb} : Out.Canonical (execMulq c gd ga gb s) := h.alu

/-! ### Machine/Net -/

theorem State.Canonical.execFrameReceive (h : s.Canonical) {mac frame} : Out.Canonical (execFrameReceive mac frame s) := h.receive.next
theorem State.Canonical.execPauseExpiry (h : s.Canonical) {mac} : Out.Canonical (execPauseExpiry mac s) := h.pauseExpiry.next

theorem State.Canonical.execFrameTransmit (h : s.Canonical) {mac pair q len14 coll}
    : Out.Canonical (execFrameTransmit mac pair q len14 coll s) :=
  h.transmit.next

theorem State.Canonical.execTxUnderrun (h : s.Canonical) {mac} : Out.Canonical (execTxUnderrun mac s) := h.underrun.next
theorem State.Canonical.execGateEntry (h : s.Canonical) {mac} : Out.Canonical (execGateEntry mac s) := h.gateEntry.next

theorem State.Canonical.execGateChange (h : s.Canonical) {m mac} : Out.Canonical (execGateChange m mac s) :=
  (h.asPrefect (fun k => k.gateChange)).next

theorem State.Canonical.execLpiEntry (h : s.Canonical) {mac} : Out.Canonical (execLpiEntry mac s) := h.lpiEntry.next
theorem State.Canonical.execLpiWake (h : s.Canonical) {mac} : Out.Canonical (execLpiWake mac s) := h.lpiWake.next

theorem State.Canonical.execPhyLinkChange (h : s.Canonical) {mac up eee low sqi} : Out.Canonical (execPhyLinkChange mac up eee low sqi s) :=
  h.linkChange.next

theorem State.Canonical.execPrpSupervision (h : s.Canonical) : Out.Canonical (execPrpSupervision s) := h.superviseOut.next
theorem State.Canonical.execNodeForget (h : s.Canonical) {node} : Out.Canonical (execNodeForget node s) := h.nodeForget.next
theorem State.Canonical.execLanLoss (h : s.Canonical) {lan} : Out.Canonical (execLanLoss lan s) := h.lanLoss.next
theorem State.Canonical.execHelloSend (h : s.Canonical) {port} : Out.Canonical (execHelloSend port s) := h.helloSend.next
theorem State.Canonical.execRiserPortDown (h : s.Canonical) {port} : Out.Canonical (execRiserPortDown port s) := h.riserSilent.next
theorem State.Canonical.execPlcaBeaconLoss (h : s.Canonical) {t1s} : Out.Canonical (execPlcaBeaconLoss t1s s) := h.plcaLoss.next
theorem State.Canonical.execPlcaBeacon (h : s.Canonical) {t1s} : Out.Canonical (execPlcaBeacon t1s s) := h.plcaBeacon.next

/-! ### Machine/Roster -/

theorem State.Canonical.execRosterCommit (h : s.Canonical) {m} : Out.Canonical (execRosterCommit m s) :=
  (h.asPrefect (fun k => k.rosterCommit)).next

theorem State.Canonical.execRosterRevert (h : s.Canonical) {m} : Out.Canonical (execRosterRevert m s) :=
  (h.asPrefect (fun k => k.rosterRevert)).next

theorem State.Canonical.execRosterDrained (h : s.Canonical) : Out.Canonical (execRosterDrained s) := (h.orElse fun k => k.rosterDrain).next

theorem State.Canonical.execDrainBoundExpiry (h : s.Canonical) : Out.Canonical (execDrainBoundExpiry s) :=
  .ite h.next (h.advanceTo.ruleChanged.elseOr fun k => k.record).rosterDrain.next

theorem State.Canonical.reloadWaitEnd (h : s.Canonical) {c} : (s.reloadWaitEnd c).Canonical := .ite h.setWaiting h

theorem State.Canonical.execHomeroomReloadDone (h : s.Canonical) {slot} : Out.Canonical (execHomeroomReloadDone slot s) :=
  .ite h.setFld.reloadWaitEnd.reloadWaitEnd.next h.next

/-! ### Machine/RosterTc -/

theorem State.Canonical.reachTargets (h : s.Canonical) : s.reachTargets.Canonical :=
  h.foldl fun _ _ k => k.nextFree.orElse fun k => k.atTarget (fun k1 => k1.latchOp)

theorem State.Canonical.rosterTc (h : s.Canonical) : s.rosterTc.Canonical := by
  unfold State.rosterTc
  split
  · exact h
  · exact .ite h ((h.reachTargets.withRoster.wr.setBit.foldl fun _ _ k => .ite k k.setBit.setBit).wr.ruleChanged.orElse
      fun k => k.rosterDrain).settleSlots

theorem State.Canonical.execRosterTc (h : s.Canonical) : Out.Canonical (execRosterTc s) := (h.rosterTc.elseOr fun k => k.loopRoster).next

/-! ### Machine/Safety -/

theorem State.Canonical.execSafetyRequest (h : s.Canonical) : Out.Canonical (execSafetyRequest s) :=
  (h.orElse fun k => k.safetyRequest).next

theorem State.Canonical.execSafetyEvaluation (h : s.Canonical) {ch ins} : Out.Canonical (execSafetyEvaluation ch ins s) :=
  (h.orElse fun k => k.foldl fun _ _ k => k.evalCar).next

theorem State.Canonical.execGrantDisagree (h : s.Canonical) {car} : Out.Canonical (execGrantDisagree car s) :=
  (h.orElse fun k => k.safeLatch).next

theorem State.Canonical.execRelayReadbackFail (h : s.Canonical) {ch relay} : Out.Canonical (execRelayReadbackFail ch relay s) :=
  (h.orElse fun k => k.safeLatch).next

theorem State.Canonical.execLatchClear (h : s.Canonical) {car} : Out.Canonical (execLatchClear car s) :=
  (h.orElse fun k => k.setSafeCar).next

theorem State.Canonical.execSafetyParamRequest (h : s.Canonical) {set} : Out.Canonical (execSafetyParamRequest set s) :=
  (h.orElse fun k => k.safetyAsk).next

theorem State.Canonical.execSafetyParamApply (h : s.Canonical) : Out.Canonical (execSafetyParamApply s) := h.safetyApply.next

theorem State.Canonical.execSafetyDieStart (h : s.Canonical) : Out.Canonical (execSafetyDieStart s) :=
  (h.orElse fun k => k.withSafe.foldl fun _ _ k => k.setSafeCar).next

theorem State.Canonical.execSafeMirrorUpdate (h : s.Canonical) : Out.Canonical (execSafeMirrorUpdate s) := h.mirrorUpdate.next

/-! ### Machine/Startup -/

theorem State.Canonical.execPowerOnReset (h : s.Canonical) : Out.Canonical (execPowerOnReset s) := h.powerOn.next
theorem State.Canonical.execResetNAssert (h : s.Canonical) : Out.Canonical (execResetNAssert s) := h.warmReset.next

theorem State.Canonical.execSysResetGo (h : s.Canonical) {m key} : Out.Canonical (execSysResetGo m key s) :=
  (h.hostWrite (fun k => .ite k.warmReset k)).next

theorem State.Canonical.execThermalReset (h : s.Canonical) : Out.Canonical (execThermalReset s) := h.warmReset.next
theorem State.Canonical.execClockReset (h : s.Canonical) : Out.Canonical (execClockReset s) := h.warmReset.next

theorem State.Canonical.execThermalAlarm (h : s.Canonical) {celsius} : Out.Canonical (execThermalAlarm celsius s) :=
  (h.elseOr fun k => k.record).next

theorem State.Canonical.execRollCall (h : s.Canonical) : Out.Canonical (execRollCall s) := h.rollCall.next
theorem State.Canonical.execRollStepLate (h : s.Canonical) {rstep} : Out.Canonical (execRollStepLate rstep s) := h.rollLate.next
theorem State.Canonical.execRollHead (h : s.Canonical) : Out.Canonical (execRollHead s) := h.rollHead.next
theorem State.Canonical.execRollFrame (h : s.Canonical) {port value8} : Out.Canonical (execRollFrame port value8 s) := h.rollFrameRx.next
theorem State.Canonical.execRollTop (h : s.Canonical) : Out.Canonical (execRollTop s) := h.rollTop.next

/-! ### Machine/System -/

theorem State.Canonical.execNop (h : s.Canonical) {c} : Out.Canonical (execNop c s) := h.runInstr (fun k => k.done)
theorem State.Canonical.execFence (h : s.Canonical) {c} : Out.Canonical (execFence c s) := h.runInstr (fun k => k.done)

theorem State.Canonical.execBrk (h : s.Canonical) {c code} : Out.Canonical (execBrk c code s) :=
  h.runInstr (fun k => .ite k.countClasp.setPc.requestHalt.whole .exc)

theorem State.Canonical.execTrap (h : s.Canonical) {c code} : Out.Canonical (execTrap c code s) := h.runInstr fun _ => .exc

theorem State.Canonical.eret (h : s.Canonical) {c} : Res.Canonical (s.eret c) := by
  unfold State.eret
  split
  · exact .exc
  · split
    · exact .exc
    · dsimp only
      split
      · split
        · exact .ite h.setLs.jump .exc
        · exact h.whole
      · split
        · exact h.setLs.setCore.setPc.serveIrq.whole
        · exact .exc

theorem State.Canonical.execEret (h : s.Canonical) {c} : Out.Canonical (execEret c s) := h.runInstr (fun k => k.eret)

theorem State.Canonical.execRdsr (h : s.Canonical) {c gd sr} : Out.Canonical (execRdsr c gd sr s) :=
  h.runInstr (fun k => by split; exacts [(k.setG.orElse fun k => k.setCore).done, .exc])

theorem State.Canonical.execWrsr (h : s.Canonical) {c ga sr} : Out.Canonical (execWrsr c ga sr s) :=
  h.runInstr (fun k => .ite (State.Canonical.ite (.ite k.setLs k) k.setLs).done k.updCtx.needSlot.settleSlots.done)

theorem State.Canonical.execWait (h : s.Canonical) {c} : Out.Canonical (execWait c s) := h.runInstr (fun k => .ite .wait k.done)

theorem State.Canonical.execIen (h : s.Canonical) {c mask12} : Out.Canonical (execIen c mask12 s) :=
  h.runInstr (fun k => k.setCore.countClasp.setPc.serveIrq.whole)

theorem State.Canonical.execIdis (h : s.Canonical) {c mask12} : Out.Canonical (execIdis c mask12 s) := h.runInstr (fun k => k.setCore.done)

theorem State.Canonical.execIllegalEncoding (h : s.Canonical) {c word second} : Out.Canonical (execIllegalEncoding c word second s) :=
  .ite h.next (.ite (h.finish .exc) (.ite (h.finish .exc) (h.finish .exc)))

theorem State.Canonical.execStewardInterrupt (h : s.Canonical) {core line} : Out.Canonical (execStewardInterrupt core line s) :=
  h.setCore.serveIrq.next

/-! ### Machine/TimeCmd -/

theorem State.Canonical.execRateWrite (h : s.Canonical) {m v} : Out.Canonical (execRateWrite m v s) :=
  (h.asPrefect (fun k => k.rateWrite)).next

theorem State.Canonical.execOffsetSet (h : s.Canonical) {m} : Out.Canonical (execOffsetSet m s) := (h.asPrefect (fun k => k.offsetSet)).next
theorem State.Canonical.execOffsetAdd (h : s.Canonical) {m} : Out.Canonical (execOffsetAdd m s) := (h.asPrefect (fun k => k.offsetAdd)).next
theorem State.Canonical.execTimeFrameSend (h : s.Canonical) {port} : Out.Canonical (execTimeFrameSend port s) := h.timeFrame.next

theorem State.Canonical.execTriggerEnable (h : s.Canonical) {m trig v} : Out.Canonical (execTriggerEnable m trig v s) :=
  (h.asPrefect (fun k => k.trigWrite)).next

theorem State.Canonical.execTriggerEdge (h : s.Canonical) {trig} : Out.Canonical (execTriggerEdge trig s) := h.trigEdge.next
theorem State.Canonical.execTriggerPulseEnd (h : s.Canonical) {trig} : Out.Canonical (execTriggerPulseEnd trig s) := h.trigPulseEnd.next
theorem State.Canonical.execCaptureEdge (h : s.Canonical) {cap rise} : Out.Canonical (execCaptureEdge cap rise s) := h.captureEdge.next

theorem State.Canonical.execCapturePop (h : s.Canonical) {m cap} : Out.Canonical (execCapturePop m cap s) :=
  (h.hostRead (fun k => k.capturePop)).next

/-! ### Machine/Dispatch -/

theorem State.Canonical.exec (h : s.Canonical) {i} : Out.Canonical (exec i s) := by
  unfold Machine.exec
  split
  exacts [h.execAdd, h.execSub, h.execAnd, h.execOr, h.execXor, h.execNor, h.execAndn, h.execSlt, h.execSltu, h.execSeq, h.execSll, h.execSrl,
    h.execSra, h.execRor, h.execMin, h.execMax, h.execMinu, h.execMaxu, h.execAddv, h.execSubv, h.execAdds, h.execSubs, h.execSel,
    h.execAbs, h.execMul, h.execMulh, h.execMulhu, h.execMulv, h.execDiv, h.execDivu, h.execRem, h.execRemu, h.execMulq, h.execAddi,
    h.execAndi, h.execOri, h.execXori, h.execSlti, h.execSltiu, h.execShi, h.execLi, h.execLui, h.execExtu, h.execExts, h.execIns,
    h.execClz, h.execCtz, h.execPopc, h.execBswap, h.execLw, h.execLh, h.execLhu, h.execLb, h.execLbu, h.execSw, h.execSh, h.execSb,
    h.execBeq, h.execBne, h.execBlt, h.execBge, h.execBltu, h.execBgeu, h.execJal, h.execJr, h.execJalr, h.execNop, h.execFence,
    h.execBrk, h.execTrap, h.execEret, h.execRdsr, h.execWrsr, h.execWait, h.execIen, h.execIdis, h.execIllegalEncoding,
    h.execStewardInterrupt, h.execPget, h.execPget2, h.execPget4, h.execPgetvq, h.execPput, h.execPput2, h.execPput4, h.execPsync,
    h.execTwait, h.execTtest, h.execTmov, h.execTwaitm, h.execEmsg, h.execPoolEntryGrant, h.execTagWaitEnd, h.execBoundWaitEnd,
    h.execOperationComplete, h.execPsyncComplete, h.execOperationTimeout, h.execVadd, h.execVsub, h.execVmul, h.execVmac, h.execVmin,
    h.execVmax, h.execVneg, h.execVabs, h.execVclamp, h.execVdot, h.execVsum, h.execVbcast, h.execVld, h.execVst, h.execVext, h.execVins,
    h.execVgexp, h.execVsete, h.execVcvt, h.execVcvtf, h.execVcmp, h.execVsplat, h.execVzero, h.execLend, h.execLslack, h.execLsleep,
    h.execLsleepExpiry, h.execLbell, h.execClasp, h.execUnclasp, h.execClaspSlotGrant, h.execClaspLockGrant, h.execBell,
    h.execLessonStart, h.execDeadlineExpiry, h.execBudgetExhausted, h.execScanRunStart, h.execScanRunStop, h.execUncorrectableError,
    h.execFloorWrite, h.execForceSet, h.execForceClear, h.execForceClearAll, h.execLessonClrOne, h.execLessonClrAll, h.execProducerCommit,
    h.execDeviceAnswer, h.execDeviceRequestTimeout, h.execDevicePoll, h.execProgBegin, h.execProgPush, h.execProgCheck,
    h.execProgCheckDone, h.execProgLoad, h.execProgArm, h.execStagingDone, h.execProgAbort, h.execWarmRestart, h.execColdRestart,
    h.execSwitchCoreRelease, h.execPeriodicCheckpoint, h.execHomeroomReloadDone, h.execRosterCommit, h.execRosterRevert, h.execRosterTc,
    h.execRosterDrained, h.execDrainBoundExpiry, h.execFeAlarm, h.execCurrentPeriod, h.execLoopBind, h.execLoopUnbind, h.execLoopParam,
    h.execLoopMode, h.execOpBind, h.execOpParam, h.execOpMode, h.execOpMove, h.execZone, h.execLoopTriggerMsg, h.execSlotParamApply,
    h.execStageParamApply, h.execSlotWindowLatch, h.execHzDeadline, h.execModelCommit, h.execTraceArm, h.execTraceTrigger,
    h.execTraceStop, h.execPositionPeriod, h.execEncoderQerr, h.execDoorZoneEdge, h.execTerminalEdge, h.execCarClear, h.execCaptureFlush,
    h.execDzcapPop, h.execDoorPositionPeriod, h.execDoorCommand, h.execDoorClosedReached, h.execDoorOpenReached, h.execDoorStall,
    h.execHomingTimeout, h.execLearnTimeout, h.execCallAdd, h.execCallCancel, h.execStopDone, h.execDispatchCommit, h.execDispatchDrop,
    h.execDispatchCallLatch, h.execSafetyRequest, h.execSafetyEvaluation, h.execGrantDisagree, h.execRelayReadbackFail, h.execLatchClear,
    h.execSafetyParamRequest, h.execSafetyParamApply, h.execSafetyDieStart, h.execSafeMirrorUpdate, h.execLineCycle, h.execMeterSnap,
    h.execMeterClrAll, h.execCalApply, h.execMeterSupervision, h.execMeterSave, h.execSaveConfirmed, h.execSaveLate, h.execQmapWrite,
    h.execBatClr, h.execBatteryMeasure, h.execBatteryRecordWrite, h.execMeterMerge, h.execPulseEmit, h.execDiSample,
    h.execDoReadbackFault, h.execDoOverload, h.execDoGroupOverload, h.execDoRetry, h.execDoClear, h.execDoGroupClear, h.execVfldLow,
    h.execVfldRestore, h.execAiConversion, h.execAiShuntRetry, h.execCsMeanCommit, h.execChannelBind, h.execFieldOutEnable,
    h.execDaliBusFail, h.execDaliBusReturn, h.execDaliAddress, h.execAddressingEnd, h.execDaliRefresh, h.execDaliOutputSend,
    h.execDaliEvent, h.execDaliGapExpiry, h.execDaliPoll, h.execDaliRawGo, h.execDaliRawDone, h.execFrameReceive, h.execPauseExpiry,
    h.execFrameTransmit, h.execTxUnderrun, h.execGateEntry, h.execGateChange, h.execLpiEntry, h.execLpiWake, h.execPhyLinkChange,
    h.execPrpSupervision, h.execNodeForget, h.execLanLoss, h.execHelloSend, h.execRiserPortDown, h.execPlcaBeaconLoss, h.execCanBusOff,
    h.execCanBusOffRecovery, h.execCredWrite, h.execCredDelete, h.execPresent, h.execCacheSweep, h.execDoorLock, h.execDoorPulse,
    h.execDoorHoldUnlocked, h.execDoorLockdown, h.execDoorReleaseLockdown, h.execDoorContactChange, h.execDoorRex, h.execDoorFire,
    h.execStrikeTimeExpiry, h.execHeldTimeExpiry, h.execRateWrite, h.execOffsetSet, h.execOffsetAdd, h.execTimeFrameSend,
    h.execTriggerEnable, h.execTriggerEdge, h.execTriggerPulseEnd, h.execCaptureEdge, h.execCapturePop, h.execTransition, h.execKeyLoad,
    h.execKeyErase, h.execOwnerRestore, h.execGetNonce, h.execKeySha256, h.execKeySha384, h.execKeyHmac, h.execKeyGcmEnc, h.execKeyGcmDec,
    h.execKeySign, h.execKeyVerify, h.execDerive, h.execGenerate, h.execIdentity, h.execFuseSafetyKey, h.execKeyCommandDone, h.execTamper,
    h.execClaim, h.execRenew, h.execRelease, h.execWithdraw, h.execHandover, h.execAccept, h.execElectionClose, h.execLeaseLapse,
    h.execHandoverLapse, h.execSessionAppear, h.execSessionEnd, h.execLastErrRead, h.execQspiRead, h.execQspiWrite, h.execQspiStatus,
    h.execCharmRead, h.execCharmWrite, h.execCharmXferTimeout, h.execHostLockRequest, h.execHostLockTimeout, h.execRfUpdateBinary,
    h.execRfReadBinary, h.execRfLockRelease, h.execRfFieldLoss, h.execRegisterWrite, h.execReadClear, h.execBusWatchdog, h.execMboxLatch,
    h.execMboxRelease, h.execMboxLatchDone, h.execPointStageWrite, h.execPointValueWrite, h.execEnterTest, h.execLeaveTest,
    h.execFeedAbsent, h.execFeedFaulted, h.execTransfer, h.execTransferPathTimeout, h.execRestore, h.execFeedAutoRestore, h.execTestDue,
    h.execSleepEntry, h.execWakeRequest, h.execScheduledExit, h.execRecessAsk, h.execRecessRequestRx, h.execRecessGrantRx,
    h.execRecessRefuseRx, h.execRecessCommitRx, h.execRecessWithdrawRx, h.execRecessAnswerTimeout, h.execRecessGrantLapse,
    h.execWakeFrame, h.execWakeFrameResend, h.execPowerFailDetect, h.execPowerOnReset, h.execResetNAssert, h.execSysResetGo,
    h.execThermalReset, h.execClockReset, h.execThermalAlarm, h.execRollCall, h.execRollStepLate, h.execRollHead, h.execRollFrame,
    h.execRollTop, h.execFwuBegin, h.execFwuPush, h.execFwuStart, h.execFwuAbort, h.execConfirm, h.execFwuManifest, h.execFwuData,
    h.execFwuAck, h.execFwuNak, h.execFwuFrameAbort, h.execFwuAckTimeout, h.execReceivingDiscard, h.execFwuInstall, h.execPreparationDone,
    h.execPreparationTimeout, h.execReportCard, h.execReportDeadline, h.execStewardWatchdog, h.execCrossDieCrcError, h.execLinkLoss,
    h.execLinkReturn, h.execEventWindowEnd, h.execEvtFlush, h.execFlushTimer, h.execEvtExact, h.execEvtNext, h.execEvtReadDone,
    h.execDebugAttach, h.execDebugAuthCheck, h.execDebugAuthExpiry, h.execHalt, h.execForce, h.execStep, h.execResume,
    h.execCoreRegisterWrite, h.execPeek, h.execStuckOnClear, h.execDoOverTemperature, h.execPlcaBeacon, h.execSerialFrameError,
    h.execPciePowerState, h.execVbatLoss]

/-! ### Machine/TimeBase -/

theorem State.Canonical.tick (h : s.Canonical) : s.tick.Canonical := h.cycle.sleepCommit

/-! ### Machine/Idle -/

theorem State.Canonical.eraseTick (h : s.Canonical) : s.eraseTick.Canonical := .ite h (h.withNand.evtRegs.orElse fun k => k.flush)

theorem State.Canonical.idleStep (h : s.Canonical) : Out.Canonical (idleStep s) := by
  unfold Machine.idleStep
  split
  · exact h.postedWrite _ ‹_›
  · exact .ite h.next h.tick.leaseIrq.rollSettle.eraseTick.loopLate.netTick.noteQuiet.next

/-! ### Machine/Step -/

theorem State.Canonical.step (h : s.Canonical) : Out.Canonical (step s) := by
  unfold Machine.step
  split
  · exact h.idleStep
  · exact h.withPending.exec

/-- Settles O60: every command and the idle step keep the predicate, and it says of a state what `State.memoriesWf` computes. -/
theorem memoriesStayCanonical : Obligations.MemoriesStayCanonical := by
  unfold Obligations.MemoriesStayCanonical
  exact fun s t hs e => t.canonical_iff.1 ((s.canonical_iff.2 hs).step.of_eq e)

end Sys2Proof.Machine
end

section
/-! Instructions that issue (R46): what their frame makes of a body that raises, and of a register the core shows. -/

namespace Sys2Proof.Machine

variable {s : State} {c : CoreId} {i : Instr} {uses : List (BitVec 4)}

/-- An instruction that issues can fetch its second word. -/
theorem State.prefix_fetched (h : s.ready c i uses = true) : ((prefixWord i).isSome && !s.fetchOk c (s.pc c + 4)) = false := by
  simp only [State.ready, Bool.and_eq_true, Bool.or_eq_true, Bool.not_eq_true'] at h
  obtain ⟨⟨⟨⟨⟨-, -⟩, hsecond⟩, -⟩, -⟩, -⟩ := h
  cases hi : (prefixWord i).isSome <;> simp_all

/-- An instruction whose operands are not legal raises ILLEGAL with its word. -/
theorem State.runInstr_illegal (h : s.ready c i uses = true) (privileged : Bool) (body : State → Res) :
    s.runInstr c i false privileged uses body = .next (s.raised c 1 (exWord i)) := by
  have hpre := State.prefix_fetched h
  simp only [State.ready, Bool.and_eq_true] at h
  obtain ⟨⟨⟨⟨⟨hexec, hfetch⟩, -⟩, -⟩, -⟩, -⟩ := h
  unfold State.runInstr
  simp only [hexec, hfetch, hpre, Bool.not_true, Bool.not_false, Bool.true_or, Bool.false_eq_true, if_false, if_true]
  rfl

/-- An instruction that only a steward core runs raises PRIVILEGE with its word on a scan core. -/
theorem State.runInstr_privileged (h : s.ready c i uses = true) (hc : isScan c = true) (body : State → Res) :
    s.runInstr c i true true uses body = .next (s.raised c 2 (exWord i)) := by
  have hpre := State.prefix_fetched h
  simp only [State.ready, Bool.and_eq_true] at h
  obtain ⟨⟨⟨⟨⟨hexec, hfetch⟩, -⟩, hlegal⟩, -⟩, -⟩ := h
  unfold State.runInstr
  simp only [hexec, hfetch, hpre, hlegal, hc, Bool.not_true, Bool.or_self, Bool.and_self, Bool.false_eq_true, if_false, if_true]
  rfl

/-- An instruction of one word leaves the PC behind that word. -/
theorem State.behind_of_one_word (h : prefixWord i = none) : s.behind c i = s.pc c + 4 := by
  simp [State.behind, h]

/-- What an instruction that changes nothing but its core's registers retires with. -/
theorem State.finish_done_updCtx (s : State) (c : CoreId) (next : Word) (f : Ctx → Ctx) :
    ∃ t, s.finish c next (.done (s.updCtx c f)) = .next t ∧ Retires s c { f (s.core c).ctx with pc := next } t :=
  State.finish_done_setCore s c next { s.core c with ctx := f (s.core c).ctx } (by simp)

@[simp] theorem State.core_requestHalt_ctx (s : State) (c : CoreId) (k : BitVec 3) : ((s.requestHalt c k).core c).ctx = (s.core c).ctx := by
  unfold State.requestHalt
  split
  · rfl
  · split <;> simp [State.haltCore]

/-- Outside a clasp a halt request halts the core at once (R381, R382). -/
theorem State.halt_requestHalt (s : State) (c : CoreId) (k : BitVec 3) (h : (s.core c).clasp = none) :
    ((s.requestHalt c k).core c).halt = .halted := by
  unfold State.requestHalt
  split
  · assumption
  · simp [h, State.haltCore]

theorem State.halt_afterStep (s : State) (c : CoreId) (h : (s.core c).halt = .halted) : ((s.afterStep c).core c).halt = .halted := by
  rw [State.core_afterStep]
  split <;> simp [h]

/-- With no enabled line pending, a core takes no interrupt (R58). -/
theorem State.serveIrq_idle (s : State) (c : CoreId) (h : (s.core c).irq &&& (s.core c).ien = 0) : s.serveIrq c = s := by
  simp [State.serveIrq, h]

theorem State.afterStep_frame (s : State) (c : CoreId) : ((s.afterStep c).core c).frame = (s.core c).frame := by
  rw [State.core_afterStep]
  split <;> rfl

end Sys2Proof.Machine
end

section
/-! System instructions (R24, R25, R56, R57; O10). -/

namespace Sys2Proof.Machine

/-- NOP and FENCE move the PC on and do nothing else. -/
theorem exec_nop_completes {s : State} {c : CoreId} (h : s.ready c (.nop c) [] = true) :
    Completes (.nop c) s (Retires s c { (s.core c).ctx with pc := s.pc c + 4 }) := by
  obtain ⟨t, ht, hr⟩ := State.finish_done_self s c (s.pc c + 4)
  exact ⟨t, (State.runInstr_ready h true false _ rfl rfl).trans ht, hr⟩

theorem exec_fence_completes {s : State} {c : CoreId} (h : s.ready c (.fence c) [] = true) :
    Completes (.fence c) s (Retires s c { (s.core c).ctx with pc := s.pc c + 4 }) := by
  obtain ⟨t, ht, hr⟩ := State.finish_done_self s c (s.pc c + 4)
  exact ⟨t, (State.runInstr_ready h true false _ rfl rfl).trans ht, hr⟩

theorem exec_trap_ready {s : State} {c : CoreId} {code : BitVec 12} (h : s.ready c (.trap c code) [] = true) :
    exec (.trap c code) s = .next (s.raised c 5 (code.setWidth 32)) := by
  rw [exec_trap, execTrap, State.runInstr_ready h true false _ rfl rfl]
  rfl

/-- BRK where the debugger may not halt the core raises BREAK. -/
theorem exec_brk_raises {s : State} {c : CoreId} {code : BitVec 12} (h : s.ready c (.brk c code) [] = true) (hm : s.mayHalt c = false) :
    exec (.brk c code) s = .next (s.raised c 4 (code.setWidth 32)) := by
  rw [exec_brk, execBrk, State.runInstr_ready h true false _ rfl rfl]
  simp [State.observeBound, hm]

/-- BRK where the debugger may halt the core halts it behind the BRK (log entry 16). -/
theorem exec_brk_halts {s : State} {c : CoreId} {code : BitVec 12} (h : s.ready c (.brk c code) [] = true) (hm : s.mayHalt c = true)
    (hk : (s.core c).clasp = none) :
    Completes (.brk c code) s (fun t => (t.core c).halt = .halted ∧ t.pc c = s.pc c + 4) := by
  refine ⟨(((s.countClasp c).setPc c (s.pc c + 4)).requestHalt c 2).afterStep c, ?_, ?_, ?_⟩
  · rw [exec_brk, execBrk, State.runInstr_ready h true false _ rfl rfl]
    simp [State.observeBound, hm, State.finish]
  · exact State.halt_afterStep _ _ (State.halt_requestHalt _ _ _ (by simp [State.countClasp, hk]))
  · rw [State.pc, State.ctx_afterStep]
    simp

/-! ### Special registers (R57) -/

theorem coreWord_eq (c : CoreId) : coreWord c = BitVec.ofNat 32 c.val := by
  unfold coreWord isScan wd
  split
  · rfl
  · rename_i h
    congr 1
    simp only [decide_eq_true_eq, Nat.not_lt] at h
    omega

section RDSR
variable {s : State} {c : CoreId} {gd : BitVec 4} {sr : BitVec 12}

/-- RDSR of a special register but TIME_LO writes its value to gd. -/
theorem exec_rdsr_completes {v : Word} (h : s.ready c (.rdsr c gd sr) [gd] = true)
    (hn : sr.toNat < 7) (h4 : sr ≠ 4) (hv : (s.observeBound c [gd]).special c sr = some v) :
    Completes (.rdsr c gd sr) s (Retires (s.observeBound c [gd]) c (((s.observeBound c [gd]).core c).ctx.put gd v (s.pc c + 4))) := by
  obtain ⟨t, ht, hr⟩ := State.finish_done_setG (s.observeBound c [gd]) c (s.pc c + 4) gd v
  refine ⟨t, ?_, hr⟩
  rw [exec_rdsr, execRdsr, State.runInstr_ready h _ false _ (decide_eq_true hn) rfl, hv]
  simpa only [if_neg h4, State.settle_done, State.behind_of_one_word (i := .rdsr c gd sr) rfl] using ht

/-- RDSR of TIME_LO latches the high half of the counter for the core. -/
theorem exec_rdsr_timeLo (h : s.ready c (.rdsr c gd 4) [gd] = true) (u : State) (hu : u = s.observeBound c [gd]) :
    Completes (.rdsr c gd 4) s (Retires (u.setCore c { u.core c with timeHi := u.cnt.extractLsb' 32 32 }) c
      ((u.core c).ctx.put gd (u.cnt.setWidth 32) (s.pc c + 4))) := by
  obtain ⟨t, ht, hr⟩ := State.finish_done_setG (u.setCore c { u.core c with timeHi := u.cnt.extractLsb' 32 32 }) c (s.pc c + 4) gd
    (u.cnt.setWidth 32)
  rw [State.core_setCore_same] at hr
  refine ⟨t, ?_, hr⟩
  have hlo : u.cnt.extractLsb' 0 32 = u.cnt.setWidth 32 := by ext j hj; simp
  have hv : u.special c 4 = some (u.cnt.setWidth 32) := by rw [← hlo]; rfl
  rw [exec_rdsr, execRdsr, State.runInstr_ready h (decide (BitVec.toNat 4 < 7)) false _ rfl rfl, ← hu, hv, ← ht]
  simp only [if_true, State.settle_done, State.setG, State.updCtx, State.core_setCore_same, State.setCore_setCore]
  rfl

/-- The special registers that RDSR reads without an effect. -/
theorem exec_rdsr_listed {v : Word} (h : s.ready c (.rdsr c gd sr) [gd] = true) (u : State) (hu : u = s.observeBound c [gd])
    (hv : (sr.toNat, v) ∈ [(0, if isScan c then u.ls c else u.ls c &&& 0x131F), (1, u.readHm c),
      (2, if isScan c then (u.core c).ctx.bell else 0), (3, s.pc c), (5, (u.core c).timeHi), (6, BitVec.ofNat 32 c.val)]) :
    Completes (.rdsr c gd sr) s (Retires u c ((u.core c).ctx.put gd v (s.pc c + 4))) := by
  have hpc : u.pc c = s.pc c := by rw [hu, State.pc_observeBound]
  simp only [List.mem_cons, Prod.mk.injEq, List.not_mem_nil, or_false] at hv
  have hspecial : sr.toNat < 7 ∧ sr.toNat ≠ 4 ∧ u.special c sr = some v := by
    rcases hv with ⟨hn, rfl⟩ | ⟨hn, rfl⟩ | ⟨hn, rfl⟩ | ⟨hn, rfl⟩ | ⟨hn, rfl⟩ | ⟨hn, rfl⟩ <;>
      simp [State.special, hn, State.readLs, hpc, coreWord_eq]
  obtain ⟨hlt, h4, hval⟩ := hspecial
  subst hu
  exact exec_rdsr_completes h hlt (fun e => h4 (by rw [e]; rfl)) hval

theorem exec_rdsr_undefined (h : s.ready c (.rdsr c gd sr) [gd] = true) (hn : 7 ≤ sr.toNat) :
    exec (.rdsr c gd sr) s = .next (s.raised c 1 (exWord (.rdsr c gd sr))) := by
  rw [exec_rdsr, execRdsr, decide_eq_false (Nat.not_lt.mpr hn)]
  exact State.runInstr_illegal h _ _

end RDSR

section WRSR
variable {s : State} {c : CoreId} {ga : BitVec 4}

/-- WRSR of LS on a scan core clears BF_STICKY and nothing else. -/
theorem exec_wrsr_ls_scan (h : s.ready c (.wrsr c ga 0) [ga] = true) (hc : isScan c = true) (u : State) (hu : u = s.observeBound c [ga]) :
    Completes (.wrsr c ga 0) s (Retires u c { (u.core c).ctx with
      pc := s.pc c + 4
      ls := if bitOf (u.g c ga) 12 then setBitOf (u.core c).ctx.ls 12 false else (u.core c).ctx.ls }) := by
  rw [Completes, exec_wrsr, execWrsr, State.runInstr_ready h (decide (BitVec.toNat 0 < 2)) _ _ rfl rfl, ← hu]
  simp only [if_true, hc, State.settle_done, State.behind_of_one_word (i := .wrsr c ga 0) rfl]
  cases hv : bitOf (u.g c ga) 12 with
  | false => exact State.finish_done_self u c _
  | true => exact State.finish_done_updCtx u c _ (fun k => { k with ls := setBitOf (u.ls c) 12 false })

/-- WRSR of LS on a steward core writes every field of it. -/
theorem exec_wrsr_ls_steward (h : s.ready c (.wrsr c ga 0) [ga] = true) (hc : isScan c = false) (u : State) (hu : u = s.observeBound c [ga]) :
    Completes (.wrsr c ga 0) s (Retires u c { (u.core c).ctx with pc := s.pc c + 4, ls := u.g c ga &&& 0x1FFF1FFF }) := by
  rw [Completes, exec_wrsr, execWrsr, State.runInstr_ready h (decide (BitVec.toNat 0 < 2)) _ _ rfl rfl, ← hu]
  simp only [if_true, hc, Bool.false_eq_true, if_false, State.settle_done, State.behind_of_one_word (i := .wrsr c ga 0) rfl]
  exact State.finish_done_updCtx u c _ (fun k => { k with ls := u.g c ga &&& 0x1FFF1FFF })

/-- WRSR of HM on a steward core writes SLOT, PRIV and TENANT, and asks for the slot of the tenant it names (R120, R121). -/
theorem exec_wrsr_hm_steward (h : s.ready c (.wrsr c ga 1) [ga] = true) (hc : isScan c = false) (u : State) (hu : u = s.observeBound c [ga]) :
    Completes (.wrsr c ga 1) s (fun t => (t.core c).ctx = { (u.core c).ctx with pc := s.pc c + 4, hm := u.g c ga &&& 0x0FFF010F } ∧
      t.points = u.points ∧ t.scan.mem = u.scan.mem) := by
  rw [Completes, exec_wrsr, execWrsr, State.runInstr_ready h (decide (BitVec.toNat 1 < 2)) _ _ rfl (by simp [hc]), ← hu]
  simp only [show ¬ (1 : BitVec 12) = 0 by decide, if_false, State.settle_done, State.behind_of_one_word (i := .wrsr c ga 1) rfl]
  set v := u.updCtx c (fun k => { k with hm := u.g c ga &&& 0x0FFF010F }) with hv
  set w := (v.needSlot (v.hmTenant c)).settleSlots [u.hmTenant c] with hw
  have hslots : v.SlotsOnly w := (State.needSlot_frame v _).trans (State.settleSlots_frame _ _)
  have hctx : (w.core c).ctx = { (u.core c).ctx with hm := u.g c ga &&& 0x0FFF010F } := by
    rw [State.core_slotsOnly hslots, hv, State.core_updCtx]
  obtain ⟨r, o, hwv⟩ := hslots
  obtain ⟨t, ht, k, rfl, hk, -⟩ := State.finish_done_self w c (s.pc c + 4)
  refine ⟨w.setCore c k, ht, ?_, ?_, ?_⟩
  · rw [State.core_setCore_same, hk, hctx]
  · show w.points = u.points
    rw [hwv]
    rfl
  · show w.scan.mem = u.scan.mem
    rw [hwv]
    rfl

theorem exec_wrsr_hm_scan (h : s.ready c (.wrsr c ga 1) [ga] = true) (hc : isScan c = true) :
    exec (.wrsr c ga 1) s = .next (s.raised c 2 (exWord (.wrsr c ga 1))) := by
  rw [exec_wrsr, execWrsr]
  exact State.runInstr_privileged h hc _

theorem exec_wrsr_undefined {sr : BitVec 12} (h : s.ready c (.wrsr c ga sr) [ga] = true) (hn : 2 ≤ sr.toNat) :
    exec (.wrsr c ga sr) s = .next (s.raised c 1 (exWord (.wrsr c ga sr))) := by
  rw [exec_wrsr, execWrsr, decide_eq_false (Nat.not_lt.mpr hn)]
  exact State.runInstr_illegal h _ _

end WRSR

/-! ### ERET -/

section ERET
variable {s : State} {c : CoreId}

/-- ERET outside a handler raises ILLEGAL. -/
theorem exec_eret_outside (h : s.ready c (.eret c) [] = true) (hh : bitOf (s.ls c) 9 = false) :
    exec (.eret c) s = .next (s.raised c 1 (exWord (.eret c))) := by
  rw [exec_eret, execEret, State.runInstr_ready h true false _ rfl rfl]
  simp [State.observeBound, State.eret, hh]

/-- ERET of a scan core's handler goes back to the header's EX_PC where that is code, and raises MEMORY where it is not. -/
theorem exec_eret_scan {n : Nat} {l : Lesson} (h : s.ready c (.eret c) [] = true) (hk : (s.core c).clasp = none)
    (hh : bitOf (s.ls c) 9 = true) (hc : isScan c = true) (hl : (s.core c).lesson = some n) (hn : s.lesson? n = some l) (back : Word)
    (hb : back = s.wordAt (State.headerAt l 0x10)) :
    (s.inCode c back = true → Completes (.eret c) s (Retires s c { (s.core c).ctx with ls := setBitOf (s.ls c) 9 false, pc := back })) ∧
    (s.inCode c back = false → exec (.eret c) s = .next (s.raised c 3 back)) := by
  have hbody : s.eret c = if s.inCode c back then .jump (s.setLs c (setBitOf (s.ls c) 9 false)) back else .exc 3 back := by
    simp [State.eret, hh, hk, hc, hl, hn, ← hb]
  rw [Completes, exec_eret, execEret, State.runInstr_ready h true false _ rfl rfl]
  refine ⟨fun hi => ?_, fun hi => ?_⟩
  · simp only [State.observeBound, List.foldl_nil, hbody, hi, if_true, State.settle_jump, State.finish_jump]
    exact State.finish_done_updCtx s c back (fun k => { k with ls := setBitOf (s.ls c) 9 false })
  · simp [State.observeBound, hbody, hi]

/-- ERET of a steward core goes back through the frame its handler was entered with. -/
theorem exec_eret_steward {pc : Word} {rest : List Word} (h : s.ready c (.eret c) [] = true) (hk : (s.core c).clasp = none)
    (hh : bitOf (s.ls c) 9 = true) (hc : isScan c = false) (hf : (s.core c).frame = pc :: rest)
    (hi : (s.core c).irq &&& (s.core c).ien = 0) :
    Completes (.eret c) s (fun t => t.pc c = pc ∧ (t.core c).frame = rest ∧ bitOf (t.ls c) 9 = false) := by
  set v := ((s.setLs c (setBitOf (s.ls c) 9 false)).setCore c { (s.setLs c (setBitOf (s.ls c) 9 false)).core c with frame := rest }).setPc c pc with hv
  have hcore : v.core c = { s.core c with ctx := { (s.core c).ctx with ls := setBitOf (s.ls c) 9 false, pc := pc }, frame := rest } := by
    simp [hv, State.setLs]
  have hidle : v.serveIrq c = v := State.serveIrq_idle v c (by rw [hcore]; exact hi)
  have hbody : s.eret c = .whole v := by
    simp only [State.eret, hh, hk, hc, hf, Bool.not_true, Bool.false_eq_true, if_false, Option.isSome_none, ← hv, hidle]
  refine ⟨v.afterStep c, ?_, ?_, ?_, ?_⟩
  · rw [exec_eret, execEret, State.runInstr_ready h true false _ rfl rfl]
    simp [State.observeBound, hbody, State.finish]
  · rw [State.pc, State.ctx_afterStep, hcore]
  · rw [State.afterStep_frame, hcore]
  · rw [State.ls, State.ctx_afterStep, hcore, bitOf_setBitOf _ _ _ _ (by decide), if_pos rfl]

end ERET

/-- Settles O10, instruction by instruction: each body runs in the frame of R46, and where it raises nothing it retires with what it wrote. -/
theorem systemResults : Obligations.SystemResults := by
  refine ⟨fun s c => ⟨exec_nop_completes, exec_fence_completes⟩, fun s c code => exec_trap_ready,
    fun s c code h => ⟨exec_brk_raises h, exec_brk_halts h⟩, fun s c gd sr h => ?_, fun s c ga sr h => ?_, fun s c h hk => ?_⟩
  case refine_1 =>
    refine ⟨fun v hv => ?_, ?_, exec_rdsr_undefined h⟩
    · exact exec_rdsr_listed h _ rfl hv
    · rintro rfl
      exact exec_rdsr_timeLo h _ rfl
  case refine_2 =>
    refine ⟨?_, ?_, ?_, ?_, exec_wrsr_undefined h⟩
    · rintro rfl hc
      exact exec_wrsr_ls_scan h hc _ rfl
    · rintro rfl hc
      exact exec_wrsr_ls_steward h hc _ rfl
    · rintro rfl hc
      exact exec_wrsr_hm_steward h hc _ rfl
    · rintro rfl hc
      exact exec_wrsr_hm_scan h hc
  case refine_3 =>
    refine ⟨exec_eret_outside h, fun n l hh hc hl hn => exec_eret_scan h hk hh hc hl hn _ rfl, fun pc rest hh hc hf hi =>
      exec_eret_steward h hk hh hc hf hi⟩

end Sys2Proof.Machine
end

section
/-! Tag instructions, the waits they make and the ends of those waits (R27, R64, R65, R95; O13). -/

namespace Sys2Proof.Machine

/-- The word a tag register reads as (R26). -/
theorem TagReg.word_eq (r : TagReg) : r.word = BitVec.ofNat 32 (r.out + 2 ^ 6 * r.done + 2 ^ 12 * r.failed + 2 ^ 18 * r.cause.toNat) := by
  simp [TagReg.word, wd, Nat.mul_comm]

/-! ### Masks of conditions, as TWAITM forms them (R64) -/

/-- The number whose bit i says p i, for the bits below n. -/
def maskBelow (p : Nat → Bool) (n : Nat) : Nat := (List.range n).foldl (fun x i => if p i then x + 2 ^ i else x) 0

theorem maskBelow_succ (p : Nat → Bool) (n : Nat) : maskBelow p (n + 1) = if p n then maskBelow p n + 2 ^ n else maskBelow p n := by
  simp [maskBelow, List.range_succ]

theorem maskBelow_lt (p : Nat → Bool) : ∀ n, maskBelow p n < 2 ^ n
  | 0 => by simp [maskBelow]
  | n + 1 => by
    have ih := maskBelow_lt p n
    rw [maskBelow_succ]
    split <;> omega

theorem testBit_maskBelow (p : Nat → Bool) (j : Nat) : ∀ n, (maskBelow p n).testBit j = (decide (j < n) && p j)
  | 0 => by simp [maskBelow]
  | n + 1 => by
    have ih := testBit_maskBelow p j n
    have hlt := maskBelow_lt p n
    rw [maskBelow_succ]
    rcases Nat.lt_trichotomy j n with hj | rfl | hj
    · have hb : (maskBelow p n + 2 ^ n).testBit j = (maskBelow p n).testBit j := by
        rw [Nat.add_comm]
        exact Nat.testBit_two_pow_add_gt hj _
      split <;> simp [ih, hb, hj, Nat.lt_succ_of_lt hj]
    · have hb : (maskBelow p j + 2 ^ j).testBit j = true := by
        rw [Nat.add_comm, Nat.testBit_two_pow_add_eq, ih]
        simp
      split <;> simp_all
    · have hb : (if p n then maskBelow p n + 2 ^ n else maskBelow p n) < 2 ^ j := by
        have := Nat.pow_le_pow_right (show 0 < 2 by decide) hj
        split <;> omega
      rw [Nat.testBit_lt_two_pow hb]
      simp
      omega

theorem maskBelow_ne_zero (p : Nat → Bool) (n : Nat) : maskBelow p n ≠ 0 ↔ ∃ j < n, p j = true := by
  constructor
  · intro h
    obtain ⟨j, hj⟩ := Nat.exists_testBit_of_ne_zero h
    rw [testBit_maskBelow] at hj
    exact ⟨j, by simpa using hj⟩
  · rintro ⟨j, hj, hp⟩ h0
    have := testBit_maskBelow p j n
    simp [h0, hj, hp] at this

/-- A masked tag register with OUT = 0. -/
def State.tagQuiet (s : State) (c : CoreId) (m : BitVec 8) (j : Nat) : Bool := m.getLsbD j && (s.tag c (BitVec.ofNat 3 j)).out == 0

theorem State.quietMask_eq (s : State) (c : CoreId) (m : BitVec 8) : s.quietMask c m = maskBelow (s.tagQuiet c m) 8 := by
  unfold State.quietMask maskBelow State.tagQuiet
  rfl

/-! ### The tag instructions -/

section TAGS
variable {s : State} {c : CoreId} {gd : BitVec 4} {t : BitVec 3}

theorem exec_tmov_completes (h : s.ready c (.tmov c gd t) [gd] = true) (u : State) (hu : u = s.observeBound c [gd]) :
    Completes (.tmov c gd t) s (Retires u c ((u.core c).ctx.put gd ((u.tag c t).word) (s.pc c + 4))) := by
  subst hu
  exact State.compute_ready h (fun u => (u.tag c t).word)

/-- TWAIT on a group with nothing in flight observes it and reads it. -/
theorem exec_twait_quiet (h : s.ready c (.twait c gd t) [gd] = true) (u : State) (hu : u = s.observeBound c [gd]) (ho : (u.tag c t).out = 0) :
    Completes (.twait c gd t) s (Retires (u.observeGroup c t) c
      (((u.observeGroup c t).core c).ctx.put gd (((u.observeGroup c t).tag c t).word) (s.pc c + 4))) := by
  rw [Completes, exec_twait, execTwait, State.runInstr_ready h true false _ rfl rfl, ← hu]
  simp only [ho, ne_eq, not_true_eq_false, if_false, State.settle_done]
  exact State.finish_done_setG _ _ _ _ _

/-- Outside a clasp TWAIT waits for its group. -/
theorem exec_twait_waits (h : s.ready c (.twait c gd t) [gd] = true) (u : State) (hu : u = s.observeBound c [gd]) (ho : (u.tag c t).out ≠ 0)
    (hk : (u.core c).clasp = none) : exec (.twait c gd t) s = .next (u.setCore c { u.core c with waiting := .tag t }) := by
  have hw : u.claspWaits c t true = false := by simp [State.claspWaits, hk]
  rw [exec_twait, execTwait, State.runInstr_ready h true false _ rfl rfl, ← hu]
  simp only [ho, hw, ne_eq, not_false_eq_true, if_true, Bool.false_eq_true, if_false, State.settle_wait]
  rfl

/-- Outside a clasp TTEST reads its group, observed where nothing of it is in flight. -/
theorem exec_ttest_completes (h : s.ready c (.ttest c gd t) [gd] = true) (u : State) (hu : u = s.observeBound c [gd])
    (hk : (u.core c).clasp = none) (v : State) (hv : v = if (u.tag c t).out = 0 then u.observeGroup c t else u) :
    Completes (.ttest c gd t) s (Retires v c ((v.core c).ctx.put gd ((v.tag c t).word) (s.pc c + 4))) := by
  have hw : u.claspWaits c t false = false := by simp [State.claspWaits, hk]
  rw [Completes, exec_ttest, execTtest, State.runInstr_ready h true false _ rfl rfl, ← hu]
  simp only [hw, Bool.false_eq_true, if_false, ← hv, State.settle_done]
  exact State.finish_done_setG v _ _ _ _

end TAGS

/-! ### TWAITM -/

section TWAITM
variable {s : State} {c : CoreId} {gd : BitVec 4} {m : BitVec 8}

/-- TWAITM returns the masked registers with OUT = 0 where there is one, or where the mask is 0. -/
theorem exec_twaitm_returns (h : s.ready c (.twaitm c gd m) [gd] = true) (u : State) (hu : u = s.observeBound c [gd]) (hk : (u.core c).clasp = none)
    (hm : m = 0 ∨ ∃ j < 8, u.tagQuiet c m j = true) :
    Completes (.twaitm c gd m) s (fun t => ∃ v : Word, Retires u c ((u.core c).ctx.put gd v (s.pc c + 4)) t ∧
      ∀ j < 32, v.getLsbD j = (decide (j < 8) && u.tagQuiet c m j)) := by
  have hcond : m = 0 ∨ u.quietMask c m ≠ 0 := by rwa [State.quietMask_eq, maskBelow_ne_zero]
  obtain ⟨t, ht, hr⟩ := State.finish_done_setG u c (s.pc c + 4) gd (wd (u.quietMask c m))
  refine ⟨t, ?_, _, hr, fun j hj => ?_⟩
  · rw [exec_twaitm, execTwaitm, State.runInstr_ready h true false _ rfl rfl, ← hu]
    simp only [hk, Option.isSome_none, Bool.false_eq_true, if_false, if_pos hcond]
    exact ht
  · rw [wd, BitVec.getLsbD_ofNat, State.quietMask_eq, testBit_maskBelow]
    simp [hj]

/-- TWAITM waits while every masked register has an operation in flight. -/
theorem exec_twaitm_waits (h : s.ready c (.twaitm c gd m) [gd] = true) (u : State) (hu : u = s.observeBound c [gd]) (hk : (u.core c).clasp = none)
    (hm : m ≠ 0) (hq : ¬ ∃ j < 8, u.tagQuiet c m j = true) :
    exec (.twaitm c gd m) s = .next (u.setCore c { u.core c with waiting := .tagMask m }) := by
  have hcond : ¬ (m = 0 ∨ u.quietMask c m ≠ 0) := by
    rw [State.quietMask_eq, maskBelow_ne_zero]
    exact not_or.mpr ⟨hm, hq⟩
  rw [exec_twaitm, execTwaitm, State.runInstr_ready h true false _ rfl rfl, ← hu, if_neg (by simp [hk]), if_neg hcond]
  rfl

end TWAITM

/-! ### The ends of waits -/

section WAITS
variable {s : State} {c : CoreId}

theorem exec_tagWaitEnd_tag {t : BitVec 3} (h : (s.core c).waiting = .tag t) :
    exec (.tagWaitEnd c) s = .next (if (s.tag c t).out = 0 then s.setWaiting c .none else s) := by
  rw [exec_tagWaitEnd, execTagWaitEnd, h]

theorem exec_boundWaitEnd_bound {e : Nat} {x : Entry} (h : (s.core c).waiting = .bound e) (hx : s.entry? e = some x) :
    exec (.boundWaitEnd c) s = .next (if x.completed then s.setWaiting c .none else s) := by
  simp [execBoundWaitEnd, h, hx]

end WAITS

/-! ### A stalled issue granted its entry (R95) -/

/-- What a get of a remote point changes of the state is a device group. -/
theorem State.joinTransaction_frame (s : State) (n : Nat) (x : GroupSt) (b : Nat) :
    ∃ g, (s.joinTransaction n x b).1 = { s with scan := { s.scan with groups := g } } := by
  have hstart : ∃ g, (State.joinTransaction.start s n x b).1 = { s with scan := { s.scan with groups := g } } := by
    unfold State.joinTransaction.start
    split
    · exact ⟨_, rfl⟩
    · exact ⟨_, rfl⟩
  unfold State.joinTransaction
  split
  · split
    · exact ⟨_, rfl⟩
    · exact hstart
  · exact hstart

/-- The state in which an issue makes its entry, and the device transaction a get of a remote point waits on (R97). -/
def State.withTransaction (s : State) (c : CoreId) (x : Issue) : State × Option (Nat × Nat) :=
  match x.op.getIdx with
  | some i =>
    if (s.point i).producer = 6 ∧ !x.inClasp ∧ s.mayRead (s.hmTenant c) i then
      match s.groupOf i with
      | some (n, y) => s.joinTransaction n y ((((s.core c).lesson.bind s.lesson?).map (·.bellTime)).getD s.now)
      | none => (s, none)
    else (s, none)
  | none => (s, none)

theorem State.withTransaction_frame (s : State) (c : CoreId) (x : Issue) :
    ∃ g, (s.withTransaction c x).1 = { s with scan := { s.scan with groups := g } } := by
  unfold State.withTransaction
  split
  · split
    · split
      · exact State.joinTransaction_frame s _ _ _
      · exact ⟨_, rfl⟩
    · exact ⟨_, rfl⟩
  · exact ⟨_, rfl⟩

/-- An entry of an issue entered into the pool: its core's group, bound registers and clasp count it (R27, R65, R77). -/
def State.enter (s : State) (c : CoreId) (x : Issue) (e : Nat) (y : Entry) : State :=
  let t := { s.setEntry e (some y) with scan := { (s.setEntry e (some y)).scan with issueCount := s.scan.issueCount + 1 } }
  let u := t.updCtx c (fun k =>
    x.op.binds.foldl (fun k r => { k with bound := k.bound.set r.toNat (some e) }) (k.updTag x.tag TagReg.issue))
  match (u.core c).clasp with
  | some k => u.setCore c { u.core c with clasp := some { k with points := k.points + 1 } }
  | none => u

theorem State.issueNow_eq {s : State} {c : CoreId} {x : Issue} {e : Nat} (he : s.freeEntry c = some e) :
    ∃ y : Entry, y.op = x.op ∧ y.tag = x.tag ∧ y.core = c ∧ y.completed = false ∧ s.issueNow c x = (s.withTransaction c x).1.enter c x e y := by
  unfold State.issueNow
  rw [he]
  refine ⟨_, ?_, ?_, ?_, ?_, rfl⟩ <;> rfl

/-- Entering an operation makes its entry, and leaves its core's wait and the queue of stalled issues. -/
theorem State.enter_frame (s : State) (c : CoreId) (x : Issue) (e : Nat) (y : Entry) :
    (s.enter c x e y).entry? e = some y ∧ ((s.enter c x e y).core c).waiting = (s.core c).waiting ∧
      (s.enter c x e y).scan.poolFifo = s.scan.poolFifo := by
  have hentry : (s.setEntry e (some y)).entry? e = some y := by simp [State.entry_setEntry]
  unfold State.enter
  extract_lets _ _ t u
  have hwait : (u.core c).waiting = (s.core c).waiting := by
    simp only [u, State.core_updCtx]
    rfl
  split
  · exact ⟨hentry, by rw [State.core_setCore_same]; exact hwait, rfl⟩
  · exact ⟨hentry, hwait, rfl⟩

theorem State.waiting_afterStep (s : State) (c : CoreId) : ((s.afterStep c).core c).waiting = (s.core c).waiting := by
  rw [State.core_afterStep]
  split <;> rfl

/-- The stalled core that is granted an entry next issues its operation with it. -/
theorem exec_poolEntryGrant_issues {s : State} {c : CoreId} {x : Issue} (hg : s.nextGrant = some c) (hw : (s.core c).waiting = .pool x)
    {e : Nat} (he : s.freeEntry c = some e) :
    Completes .poolEntryGrant s (fun t => (t.core c).waiting = .none ∧ c ∉ t.scan.poolFifo ∧ t.pc c = x.pcNext ∧
      ∃ e y, s.freeEntry c = some e ∧ t.entry? e = some y ∧ y.op = x.op ∧ y.tag = x.tag ∧ y.core = c ∧ y.completed = false) := by
  set r := State.setWaiting { s with scan := { s.scan with poolFifo := s.scan.poolFifo.filter (· != c) } } c .none with hr
  obtain ⟨y, hop, htag, hcore, hdone, heq⟩ := State.issueNow_eq (s := r) (c := c) (x := x) (e := e) he
  obtain ⟨g, hframe⟩ := State.withTransaction_frame r c x
  obtain ⟨hy, hwait, hfifo⟩ := State.enter_frame (r.withTransaction c x).1 c x e y
  rw [← heq] at hy
  rw [← heq, hframe] at hwait hfifo
  refine ⟨(((r.issueNow c x).countClasp c).setPc c x.pcNext).afterStep c, ?_, ?_, ?_, ?_, e, y, he, ?_, hop, htag, hcore, hdone⟩
  · rw [exec_poolEntryGrant, execPoolEntryGrant, hg]
    simp only [hw]
    rfl
  · have hnone : (r.core c).waiting = .none := by simp [r]
    rw [State.waiting_afterStep, State.core_setPc, State.core_countClasp]
    exact hwait.trans hnone
  · have hq : (r.issueNow c x).scan.poolFifo = s.scan.poolFifo.filter (· != c) := hfifo
    simp [hq]
  · rw [State.pc, State.ctx_afterStep]
    simp
  · simpa [State.entry?] using hy

/-- Settles O13: each tag instruction by what its group holds, TWAITM through the mask's bits, and each wait's end by the condition it tests. -/
theorem tagResults : Obligations.TagResults := by
  refine ⟨fun s c gd t h => ?_, fun s c gd t h => ⟨exec_twait_quiet h _ rfl, exec_twait_waits h _ rfl⟩, fun s c gd t h => ?_,
    fun s c gd m h => ?_, fun s c t hw => ?_, fun s c e x hw hx => ?_, fun s c x hg hw _ hfree => ?_, fun s hg => ?_⟩
  · simpa only [TagReg.word_eq] using exec_tmov_completes h _ rfl
  · intro u hk
    exact ⟨fun ho => exec_ttest_completes h u rfl hk u (if_neg ho).symm, fun ho => exec_ttest_completes h u rfl hk _ (if_pos ho).symm⟩
  · intro u hk
    have hquiet : ∀ j, u.tagQuiet c m j = true ↔ m.getLsbD j = true ∧ (u.tag c (BitVec.ofNat 3 j)).out = 0 := by
      simp [State.tagQuiet]
    constructor
    · intro hm
      simp only [← hquiet] at hm
      obtain ⟨t, ht, v, hr, hv⟩ := exec_twaitm_returns h u rfl hk hm
      refine ⟨t, ht, v, hr, fun j hj => ?_⟩
      rw [hv j hj, State.tagQuiet, Bool.and_left_comm, Bool.and_assoc]
    · intro hm hbusy
      refine exec_twaitm_waits h u rfl hk hm ?_
      rintro ⟨j, hj, hq⟩
      obtain ⟨hmask, hout⟩ := (hquiet j).mp hq
      exact hbusy j hj hmask hout
  · rw [exec_tagWaitEnd_tag hw]
    exact ⟨fun ho => by rw [if_pos ho]; rfl, fun ho => by rw [if_neg ho]⟩
  · rw [exec_boundWaitEnd_bound hw hx]
    exact ⟨fun hc => by rw [if_pos hc]; rfl, fun hc => by rw [if_neg (by simp [hc])]⟩
  · obtain ⟨e, he⟩ := Option.isSome_iff_exists.mp hfree
    exact exec_poolEntryGrant_issues hg hw he
  · rw [exec_poolEntryGrant, execPoolEntryGrant, hg]

end Sys2Proof.Machine
end

section
/-! Operations in flight at their targets, and how they complete (R27, R60 to R63, R97, R125; O18). -/

namespace Sys2Proof.Machine

/-! ### A completion (R27) -/

theorem State.entry_completeOp_other (s : State) {e d : Nat} (hd : d ≠ e) (cause : BitVec 5) (ws : List Word) :
    (s.completeOp e cause ws).entry? d = s.entry? d := by
  unfold State.completeOp
  split
  · rfl
  · split
    · rfl
    · rw [State.entry_updEntryCtx, State.entry_setEntry, if_neg hd]

theorem State.core_updEntryCtx_other (s : State) {c d : CoreId} (hd : d ≠ c) (n : Option Nat) (f : Ctx → Ctx) :
    (s.updEntryCtx c n f).core d = s.core d := by
  simp only [State.updEntryCtx]
  split <;> rw [State.core_setCore, if_neg hd]

theorem State.core_updEntryCtx_running (s : State) {c : CoreId} {n : Option Nat} (h : (s.core c).lesson = n) (f : Ctx → Ctx) :
    (s.updEntryCtx c n f).core c = { s.core c with ctx := f (s.core c).ctx } := by
  simp [State.updEntryCtx, h]

/-- The group of the running lesson counts a completed operation: OUT down, DONE up. -/
theorem State.tag_completeOp {s : State} {e : Nat} {x : Entry} (cause : BitVec 5) (ws : List Word) (h : s.entry? e = some x)
    (hc : x.completed = false) (hl : (s.core x.core).lesson = x.lesson) :
    (s.completeOp e cause ws).tag x.core x.tag =
      { s.tag x.core x.tag with out := (s.tag x.core x.tag).out - 1, done := (s.tag x.core x.tag).done + 1 } := by
  simp only [State.completeOp, h, hc, Bool.false_eq_true, if_false]
  rw [State.tag, State.core_updEntryCtx_running (s.setEntry e _) hl, State.core_setEntry]
  split <;> simp [Ctx.updTag, Ctx.unbind, State.tag]

theorem State.core_completeOp_other {s : State} {e : Nat} {x : Entry} (cause : BitVec 5) (ws : List Word) (h : s.entry? e = some x)
    {c : CoreId} (hc : c ≠ x.core) : (s.completeOp e cause ws).core c = s.core c := by
  simp only [State.completeOp, h]
  split
  · rfl
  · rw [State.core_updEntryCtx_other _ hc, State.core_setEntry]

/-! ### An operation at its target -/

section TARGET
variable {s : State} {e : Fin 8192} {x : Entry} {i : PointIdx}

theorem exec_operation_absent (h : s.entry? e.val = none) :
    exec (.operationComplete e) s = .next s ∧ exec (.psyncComplete e) s = .next s ∧ exec (.operationTimeout e) s = .next s := by
  simp [execOperationComplete, execPsyncComplete, execOperationTimeout, h]

/-- An operation past its write point completes with what it read then (R129). -/
theorem exec_operationComplete_latched {cause : BitVec 5} (h : s.entry? e.val = some x) (hc : x.completed = false) (hh : x.held = false)
    (ho : x.outcome = some cause) : exec (.operationComplete e) s = .next (s.completeOp e.val cause x.result) := by
  simp [execOperationComplete, h, hc, hh, ho]

theorem exec_operationComplete_target (h : s.entry? e.val = some x) (hc : x.completed = false) (hh : x.held = false) (ho : x.outcome = none) :
    exec (.operationComplete e) s = .next (s.atTarget State.completeOp e.val x) := by
  simp [execOperationComplete, h, hc, hh, ho]

/-- A get of another lesson's point that the roster allows returns the committed words (R61). -/
theorem State.atTarget_get (fin : Finish) {w n : Nat} {gd : BitVec 4} (hop : x.op = .get i w n gd) (hb : s.behindEarlier x i = false)
    (ht : s.tileOut i = false) (hr : s.mayRead x.tenant i = true) (htr : x.trans = none) (hp : s.produces x i = false)
    (hclean : ∀ j < n, (s.point i).poison.getLsbD (w + j) = false) :
    s.atTarget fin e.val x = fin s e.val 0 ((List.range n).map (fun j => (s.point i).word (w + j))) := by
  have hwords : x.op.readWords = (List.range n).map (w + ·) := by rw [hop]; rfl
  have hno : ((List.range n).map (w + ·)).any (fun j => (s.point i).poison.getLsbD j) = false := by simpa using hclean
  simp only [State.atTarget, hop, hb, Bool.false_eq_true, if_false]
  unfold State.completeGet
  simp only [ht, hr, State.transWait, htr, hp, hwords, hno, Option.isSome_none, Bool.not_true, Bool.false_eq_true, if_false, Bool.false_and, Bool.not_false,
    Bool.and_true, List.map_map, Function.comp_def]

/-- A put at its write point is refused by the roster, and changes no point (R125, R126). -/
theorem State.denyOp_points (s : State) (e : Nat) (x : Entry) (target kind : Nat) : (s.denyOp e x target kind).points = s.points := by
  unfold State.denyOp
  obtain ⟨r, ev, tr, p, n, hr⟩ := State.recordWindow_eventsOnly ((s.completeOp e 12 []).incSat (Reg.ROSTER_HR_DENY x.slot.toNat) 31 0)
    (x.lesson.getD (0x10000 + x.core.val)) (60 * secCounts)
    { sev := 3, source := 0x05, code := 126, tenant := some x.tenant, slot := some x.slot,
      args := [wd (x.lesson.getD 0xFFFFFFFF), wd target, wd kind] }
  rw [hr]
  obtain ⟨k, q, hc⟩ := s.completeOp_frame e 12 []
  simp only [State.incSat, State.setFld, State.wr, hc]

theorem State.atTarget_put_denied (fin : Finish) {w : Nat} {data : List Word} (hop : x.op = .put i w data) (hb : s.behindEarlier x i = false)
    (ht : s.tileOut i = false) (hr : s.mayWrite x.tenant i = false) : s.atTarget fin e.val x = s.denyOp e.val x i.toNat 1 := by
  simp [State.atTarget, hop, hb, State.completePut, ht, hr]

theorem State.atTarget_put (fin : Finish) {w : Nat} {data : List Word} (hop : x.op = .put i w data) (hb : s.behindEarlier x i = false)
    (ht : s.tileOut i = false) (hr : s.mayWrite x.tenant i = true) (ha : s.putAllowed x i w data.length = true) :
    s.atTarget fin e.val x = fin (s.setPoint i ((s.point i).putWork w data)) e.val 0 [] := by
  simp [State.atTarget, hop, hb, State.completePut, ht, hr, ha]

end TARGET

/-! ### What a put leaves in the working values (R31, R62) -/

/-- The value a put leaves in a word: QUAL keeps the bits a lesson may put. -/
def putValue (w : Nat) (data : List Word) (k : Nat) : Word := if k = 2 then data.getD (k - w) 0 &&& 0x00FF1003 else data.getD (k - w) 0

theorem putWork_foldl_getD (w : Nat) (data : List Word) (k : Nat) (hk : k < 16) : ∀ (n : Nat) (v : Vector (Option Word) 16),
    ((List.range n).foldl (fun v i =>
      v.setIfInBounds (w + i) (some (if w + i = 2 then data.getD i 0 &&& 0x00FF1003 else data.getD i 0))) v).toList.getD k none =
    if w ≤ k ∧ k < w + n then some (putValue w data k) else v.toList.getD k none
  | 0, v => by simp
  | n + 1, v => by
    have ih := putWork_foldl_getD w data k hk n v
    rw [List.range_succ, List.foldl_append]
    simp only [List.getD_eq_getElem?_getD] at ih
    simp only [List.foldl_cons, List.foldl_nil, Vector.toList_setIfInBounds, List.getD_eq_getElem?_getD, List.getElem?_set, Vector.length_toList]
    by_cases heq : w + n = k
    · subst heq
      simp [hk, putValue]
    · have hrange : (w ≤ k ∧ k < w + (n + 1)) ↔ (w ≤ k ∧ k < w + n) := by omega
      simp only [if_neg heq, ih, hrange]

/-- The working values of a record after a put. -/
theorem Point.putWork_getD (p : Point) (w : Nat) (data : List Word) {k : Nat} (hk : k < 16) :
    (p.putWork w data).work.toList.getD k none = if w ≤ k ∧ k < w + data.length then some (putValue w data k) else p.work.toList.getD k none :=
  putWork_foldl_getD w data k hk data.length p.work

/-- The effect of a completed put on the point file: the working values of its record alone. -/
theorem exec_put_completes {s : State} {e : Fin 8192} {i : PointIdx} {w : Nat} {data : List Word}
    (hx : exec (.operationComplete e) s = .next (State.completeOp (s.setPoint i ((s.point i).putWork w data)) e.val 0 [])) :
    Completes (.operationComplete e) s (fun t => (t.point i).words = (s.point i).words ∧ t.regs = s.regs ∧ (∀ j, j ≠ i → t.point j = s.point j) ∧
      ∀ k < 16, (t.point i).work.toList.getD k none =
        if w ≤ k ∧ k < w + data.length then some (putValue w data k) else (s.point i).work.toList.getD k none) := by
  refine ⟨_, hx, ?_⟩
  set v := s.setPoint i ((s.point i).putWork w data) with hv
  obtain ⟨k, q, hframe⟩ := v.completeOp_frame e.val 0 []
  have hpoint : ∀ j, (v.completeOp e.val 0 []).point j = v.point j := fun j => by rw [hframe]; rfl
  have hsame : v.point i = (s.point i).putWork w data := State.point_setPoint_same s i _
  refine ⟨by rw [hpoint, hsame]; rfl, by rw [hframe]; rfl, fun j hj => ?_, fun k hk => ?_⟩
  · rw [hpoint, hv, State.point_setPoint, if_neg hj]
  · rw [hpoint, hsame, Point.putWork_getD _ _ _ hk]

/-! ### PSYNC and timeouts (R60, R63) -/

section WAITING
variable {s : State} {e : Fin 8192} {x : Entry} {i : PointIdx}

/-- A PSYNC on a record whose SEQ is clean completes once it differs. -/
theorem exec_psyncComplete_of_clean {gd : BitVec 4} {seq : Word} (h : s.entry? e.val = some x) (hop : x.op = .psync i gd seq) (hc : x.completed = false)
    (ht : s.tileOut i = false) (hr : s.mayRead x.tenant i = true) (hp : (s.point i).poison.getLsbD 6 = false) :
    exec (.psyncComplete e) s = .next (if (s.point i).word 6 = seq then s else s.completeOp e.val 0 [(s.point i).word 6]) := by
  rw [exec_psyncComplete, execPsyncComplete, h]
  simp only [hop, hc, State.completePsync, ht, hr, hp, Bool.not_true, Bool.false_eq_true, if_false]

/-- An engine message that runs into its timeout completes with TIMEOUT. -/
theorem exec_messageTimeout {m : Nat} {u : BitVec 2} {ty : BitVec 10} {pay : List Word} {r : Option (BitVec 4)} (h : s.entry? e.val = some x)
    (hm : x.timeout = some m) (hc : x.completed = false) (hh : x.held = false) (hop : x.op = .msg u ty pay r) (htr : x.trans = none) :
    exec (.operationTimeout e) s = .next ((s.advanceTo (x.issued + m)).completeOp e.val 14 []) := by
  simp [execOperationTimeout, h, hm, hc, hh, hop, htr]

end WAITING

/-- Settles O18: each operation by what it meets at its target, and a completion by what it leaves of the entry, its group and the rest. -/
theorem operationResults : Obligations.OperationResults := by
  refine ⟨fun s e h => exec_operation_absent h, fun s e x cause h hc hh ho => exec_operationComplete_latched h hc hh ho,
    fun s e x i w n gd h hop hc ho hh hb ht hr htr hp hclean => ?_, fun s e x i w data h hop hc ho hh hb ht hr ha => ?_,
    fun s e x i w data h hop hc ho hh hb ht hr => ?_, fun s e x i gd seq h hop hc ht hr hp => ?_, fun s e x m h hm hc hh hop htr => ?_,
    fun s e x cause ws h hc hl => ?_⟩
  · rw [exec_operationComplete_target h hc hh ho, State.atTarget_get _ hop hb ht hr htr hp hclean]
  · refine exec_put_completes ?_
    rw [exec_operationComplete_target h hc hh ho, State.atTarget_put _ hop hb ht hr ha]
  · refine ⟨_, exec_operationComplete_target h hc hh ho, ?_⟩
    rw [State.atTarget_put_denied _ hop hb ht hr]
    exact State.denyOp_points s _ _ _ _
  · rw [exec_psyncComplete_of_clean h hop hc ht hr hp]
    exact ⟨fun hseq => by rw [if_pos hseq], fun hseq => by rw [if_neg hseq]⟩
  · obtain ⟨u, ty, pay, r, hop⟩ := hop
    exact exec_messageTimeout h hm hc hh hop htr
  · obtain ⟨k, q, hframe⟩ := s.completeOp_frame e cause ws
    have htag := State.tag_completeOp cause ws h hc hl
    refine ⟨State.entry_completeOp cause ws h hc, fun d hd => State.entry_completeOp_other s hd cause ws, congrArg TagReg.out htag,
      congrArg TagReg.done htag, by rw [hframe], by rw [hframe], by rw [hframe],
      fun c hc => State.core_completeOp_other cause ws h hc⟩

end Sys2Proof.Machine
end

section
/-! Lessons on their cores: what resuming, preempting and ending a period leave of a lesson (R40, R84, R89; O20). -/

namespace Sys2Proof.Machine

/-! ### The best lesson of a core (R83) -/

/-- A fold that keeps what it has or takes the element it meets ends with one of the list's elements. -/
theorem foldl_pick_mem {α : Type} {f : Option α → α → Option α} (hf : ∀ b a, f b a = some a ∨ f b a = b) : ∀ (l : List α) (b : Option α) {x : α},
    l.foldl f b = some x → x ∈ l ∨ b = some x
  | [], _, _, h => .inr h
  | a :: l, b, x, h => by
    rcases foldl_pick_mem hf l _ h with hx | hx
    · exact .inl (List.mem_cons_of_mem _ hx)
    · rcases hf b a with ha | ha
      · rw [ha, Option.some.injEq] at hx
        exact .inl (hx ▸ List.mem_cons_self)
      · exact .inr (ha ▸ hx)

/-- The best lesson of a core is a loaded lesson in its period. -/
theorem State.bestLesson_mem {s : State} {c : CoreId} {p : Nat × Lesson} (h : s.bestLesson c = some p) :
    p ∈ s.lessons ∧ (p.2.phase = .ready ∨ p.2.phase = .preempted) := by
  unfold State.bestLesson at h
  have hmem := foldl_pick_mem (fun b a => by cases b <;> grind) _ none h
  simp only [reduceCtorEq, or_false, List.mem_filter, Bool.and_eq_true, Bool.or_eq_true, beq_iff_eq] at hmem
  exact ⟨hmem.1, hmem.2.2⟩

/-! ### Lessons changed -/

theorem State.lesson_updLesson_ne (s : State) {n m : Nat} (h : m ≠ n) (f : Lesson → Lesson) : (s.updLesson n f).lesson? m = s.lesson? m := by
  unfold State.updLesson
  split
  · rw [State.lesson_setLesson, if_neg h]
  · rfl

theorem State.lesson_updLesson_same {s : State} {n : Nat} {l : Lesson} (h : s.lesson? n = some l) (f : Lesson → Lesson) :
    (s.updLesson n f).lesson? n = some (f l) := by
  simp [State.updLesson, h]

/-- Nothing changes but the cores, the lessons and the queues of the scan fabric. -/
def State.CoresAndLessons (s t : State) : Prop :=
  ∃ c l p q, t = { s with scan := { s.scan with cores := c, lessons := l, poolFifo := p, claspFifo := q } }

theorem State.CoresAndLessons.refl (s : State) : s.CoresAndLessons s := ⟨_, _, _, _, rfl⟩

theorem State.CoresAndLessons.trans {s t u : State} (h : s.CoresAndLessons t) (k : t.CoresAndLessons u) : s.CoresAndLessons u := by
  obtain ⟨_, _, _, _, rfl⟩ := h
  obtain ⟨_, _, _, _, rfl⟩ := k
  exact ⟨_, _, _, _, rfl⟩

theorem State.updLesson_coresAndLessons (s : State) (n : Nat) (f : Lesson → Lesson) : s.CoresAndLessons (s.updLesson n f) := by
  unfold State.updLesson
  split
  · exact ⟨_, _, _, _, rfl⟩
  · exact .refl s

theorem State.resumeLesson_coresAndLessons (s : State) (c : CoreId) (n : Nat) : s.CoresAndLessons (s.resumeLesson c n) := by
  unfold State.resumeLesson
  simp only
  split
  · exact .trans (t := s.setCore c _) ⟨_, _, _, _, rfl⟩ (State.updLesson_coresAndLessons _ _ _)
  · exact .refl s

theorem State.resumeBest_coresAndLessons (s : State) (c : CoreId) : s.CoresAndLessons (s.resumeBest c) := by
  unfold State.resumeBest
  split
  · exact .refl s
  · split
    · split
      · exact State.resumeLesson_coresAndLessons s c _
      · exact .refl s
    · exact .refl s

theorem State.preempt_coresAndLessons (s : State) (c : CoreId) : s.CoresAndLessons (s.preempt c) := by
  unfold State.preempt
  simp only
  split
  · split
    · split
      · refine .trans ?_ (State.updLesson_coresAndLessons _ _ _)
        exact ⟨_, _, _, _, rfl⟩
      · exact .refl s
    · exact .refl s
  · exact .refl s

/-- A lesson apart from its phase. -/
def State.LessonUpToPhase (s t : State) (n : Nat) : Prop := ∀ l, s.lesson? n = some l → ∃ p, t.lesson? n = some { l with phase := p }

theorem State.LessonUpToPhase.refl (s : State) (n : Nat) : s.LessonUpToPhase s n := fun l h => ⟨l.phase, h⟩

theorem State.LessonUpToPhase.trans {s t u : State} {n : Nat} (h : s.LessonUpToPhase t n) (k : t.LessonUpToPhase u n) : s.LessonUpToPhase u n := by
  intro l hl
  obtain ⟨p, hp⟩ := h l hl
  obtain ⟨q, hq⟩ := k _ hp
  exact ⟨q, hq⟩

theorem State.updLesson_upToPhase (s : State) (m n : Nat) (p : LessonPhase) : s.LessonUpToPhase (s.updLesson m (fun l => { l with phase := p })) n := by
  intro l hl
  by_cases h : n = m
  · subst h
    exact ⟨p, State.lesson_updLesson_same hl _⟩
  · exact ⟨l.phase, by rw [State.lesson_updLesson_ne _ h, hl]⟩

theorem State.resumeLesson_upToPhase (s : State) (c : CoreId) (m n : Nat) : s.LessonUpToPhase (s.resumeLesson c m) n := by
  unfold State.resumeLesson
  simp only
  split
  · exact State.updLesson_upToPhase (s.setCore c _) m n _
  · exact .refl s n

/-- Resuming the best lesson of a core changes no lesson but in its phase (R84). -/
theorem State.resumeBest_upToPhase (s : State) (c : CoreId) (n : Nat) : s.LessonUpToPhase (s.resumeBest c) n := by
  unfold State.resumeBest
  split
  · exact .refl s n
  · split
    · split
      · exact State.resumeLesson_upToPhase s c _ n
      · exact .refl s n
    · exact .refl s n

/-- Nor does preempting one. -/
theorem State.preempt_upToPhase (s : State) (c : CoreId) (n : Nat) : s.LessonUpToPhase (s.preempt c) n := by
  unfold State.preempt
  simp only
  split
  · split
    · split
      · exact fun l hl => State.updLesson_upToPhase _ _ n _ l hl
      · exact .refl s n
    · exact .refl s n
  · exact .refl s n

/-- Resuming the best lesson of a core leaves a lesson that is not preempted as it is. -/
theorem State.lesson_resumeBest {s : State} {n : Nat} (h : ∀ l, (n, l) ∈ s.lessons → l.phase ≠ .preempted) (c : CoreId) :
    (s.resumeBest c).lesson? n = s.lesson? n := by
  unfold State.resumeBest
  split
  · rfl
  · split
    next m l hbest =>
      split
      next hphase =>
        have hne : n ≠ m := by
          rintro rfl
          exact h l (State.bestLesson_mem hbest).1 hphase
        unfold State.resumeLesson
        simp only
        split
        · rw [State.lesson_updLesson_ne _ hne]
          rfl
        · rfl
      · rfl
    · rfl

/-! ### The end of a period (R40) -/

theorem Tab.mem_place {α : Type} {k : Nat} {v : α} {p : Nat × α} : ∀ (m : Tab α), p ∈ Tab.place k v m → p = (k, v) ∨ p ∈ m
  | [], h => by simpa [Tab.place] using h
  | (j, x) :: m, h => by
    unfold Tab.place at h
    split at h
    · simpa using h
    · rcases List.mem_cons.mp h with rfl | h
      · exact .inr List.mem_cons_self
      · exact (Tab.mem_place m h).imp_right (List.mem_cons_of_mem _)

/-- A lesson replaced is the only one of its number. -/
theorem State.mem_lessons_setLesson {s : State} {n : Nat} {l x : Lesson} (h : (n, x) ∈ (s.setLesson n l).lessons) : x = l := by
  simp only [State.lessons, State.setLesson, List.mem_filterMap, Option.map_eq_some_iff, Prod.mk.injEq, Prod.exists] at h
  obtain ⟨m, o, hmem, y, rfl, rfl, rfl⟩ := h
  rw [Tab.set, if_neg (Option.some_ne_none l)] at hmem
  rcases Tab.mem_place _ hmem with heq | hold
  · simpa using heq
  · exact absurd rfl (Tab.drop_keys m s.scan.lessons _ hold)

/-- Checkpoints kept by a test: the others go, and their areas are erased. -/
theorem State.keepCheckpoints_frame (s : State) (keep : Checkpoint → Bool) :
    ∃ n, s.keepCheckpoints keep = { s with scan := { s.scan with checkpoints := s.scan.checkpoints.filter keep }, nand := n } := by
  have herase : ∀ (l : List Checkpoint) (u : State), ∃ n, l.foldl (fun s k => s.erase (.checkpoint k.area) 0) u = { u with nand := n } := by
    intro l
    induction l with
    | nil => exact fun u => ⟨_, rfl⟩
    | cons k l ih =>
      intro u
      obtain ⟨n, hn⟩ := ih (u.erase (.checkpoint k.area) 0)
      exact ⟨n, hn⟩
  exact herase _ _

theorem State.newestOnly_scan_lessons (s : State) : s.newestOnly.scan.lessons = s.scan.lessons := by
  obtain ⟨n, h⟩ := s.keepCheckpoints_frame (fun k => (s.scan.checkpoints.find? (·.complete)).map (·.area) == some k.area)
  exact congrArg (fun u => u.scan.lessons) h

theorem State.saveLesson_scan_lessons (s : State) (n : Nat) (l : Lesson) : (s.saveLesson n l).scan.lessons = s.scan.lessons := by
  unfold State.saveLesson
  split
  · rfl
  · split
    · rfl
    · extract_lets
      split
      · exact State.newestOnly_scan_lessons _
      · rfl

/-- What ends a period leaves its idle lesson as it was set. -/
theorem State.lesson_periodEnded (s : State) (n : Nat) (x l : Lesson) (hx : x.phase = .idle) (ts : List (BitVec 12)) (c : CoreId) :
    ((((s.setLesson n x).saveLesson n l).settleSlots ts).resumeBest c).lesson? n = some x := by
  obtain ⟨r, o, hslots⟩ := State.settleSlots_frame ((s.setLesson n x).saveLesson n l) ts
  have hlessons : (((s.setLesson n x).saveLesson n l).settleSlots ts).scan.lessons = (s.setLesson n x).scan.lessons := by
    rw [hslots]
    exact State.saveLesson_scan_lessons _ n l
  rw [State.lesson_resumeBest]
  · rw [State.lesson?, hlessons]
    exact State.lesson_setLesson_same s n x
  · intro y hy
    rw [State.lessons, hlessons] at hy
    rw [State.mem_lessons_setLesson hy, hx]
    decide

/-- A period dropped leaves its lesson idle with the cause and the bell of the period (R40). -/
theorem State.lesson_dropPeriod {s : State} {n : Nat} {l : Lesson} (cause : BitVec 5) (h : s.lesson? n = some l) :
    ∃ x, (s.dropPeriod n cause).lesson? n = some x ∧ x.phase = .idle ∧ x.lastAbandon = cause ∧ x.abandonBell = l.bell ∧ x.decl = l.decl := by
  unfold State.dropPeriod
  rw [h]
  exact ⟨_, State.lesson_periodEnded _ n _ l rfl _ _, rfl, rfl, rfl, rfl⟩

/-! ### The bell (R25, R80) -/

theorem exec_bell_silent {s : State} {cls : Fin 8} (h : s.pwr.off = true ∨ s.bit Reg.SCAN_STAT 0 = false) : exec (.bell cls) s = .next s := by
  rw [exec_bell, execBell, if_pos (by simpa using h)]

theorem exec_bell_rings {s : State} {cls : Fin 8} (hp : s.pwr.off = false) (hr : s.bit Reg.SCAN_STAT 0 = true) :
    exec (.bell cls) s = .next ((((List.range cls.val).filter (fun k => s.nextBell k == s.nextBell cls.val)) ++ [cls.val]).foldl
      (fun u k => u.ringAt k (s.nextBell cls.val)) s) := by
  rw [exec_bell, execBell, if_neg (by simp [hp, hr])]

/-- A bell that no switch waits for (R80). -/
theorem State.ringAt_of_no_switch {s : State} (cls t : Nat) (v : State) (hv : v = (if s.now < t then s.loopLate else s).advanceTo t)
    (hs : v.scan.switch = none) :
    s.ringAt cls t = ((v.ring cls).bellLessons cls (BitVec.ofNat 32 (v.scan.rung.toList.getD cls 0)) t).unitBell cls := by
  have hdue : v.switchDue t = false := by simp [State.switchDue, hs]
  have hmissed : (v.ring cls).bellMissed = v.ring cls := by
    unfold State.bellMissed
    rw [show (v.ring cls).scan.switch = none from hs]
  unfold State.ringAt
  simp only [← hv, hdue, Bool.false_eq_true, if_false, hmissed]
  rfl

/-- A bell counted (R25). -/
theorem State.ring_counts (s : State) (cls : Fin 8) :
    (s.ring cls.val).rd (Reg.SCAN_BELL_CNT cls.val) = BitVec.ofNat 32 (s.scan.rung.toList.getD cls.val 0) ∧
      (s.ring cls.val).scan.rung.toList.getD cls.val 0 = s.scan.rung.toList.getD cls.val 0 + 1 ∧
      (∀ a, a ≠ Reg.SCAN_BELL_CNT cls.val → (s.ring cls.val).rd a = s.rd a) ∧ (s.ring cls.val).points = s.points := by
  refine ⟨State.rd_wr_same _ _ _, ?_, fun a ha => State.rd_wr_ne _ _ ha, rfl⟩
  simp [State.ring, Vector.toList_setIfInBounds, List.getD_eq_getElem?_getD, cls.isLt]

/-- A period begins at a bell (R80, R83). -/
theorem State.lesson_readyLesson (s : State) (n : Nat) (l : Lesson) (count : Word) (t : Nat) :
    ∃ x, (s.readyLesson n l count t).lesson? n = some x ∧ x.phase = .ready ∧ x.bell = count ∧ x.bellTime = t ∧
      x.deadlineAt = t + l.decl.deadline * 250 ∧ x.demoted = none ∧ x.exhausted = false ∧
      (∀ m, m ≠ n → (s.readyLesson n l count t).lesson? m = s.lesson? m) ∧ (s.readyLesson n l count t).points = s.points := by
  unfold State.readyLesson
  extract_lets y due u
  obtain ⟨r, o, hslots⟩ := State.needSlot_frame u y.decl.tenant
  have hlesson : ∀ m, (u.needSlot y.decl.tenant).lesson? m = u.lesson? m := fun m => by rw [hslots]; rfl
  have hdecl : y.decl = l.decl := by
    simp only [y]
    split <;> rfl
  refine ⟨_, (hlesson n).trans (State.lesson_setLesson_same s n _), rfl, rfl, rfl, ?_, rfl, rfl, fun m hm => ?_, by rw [hslots]; rfl⟩
  · simp only [due, hdecl]
  · rw [hlesson, State.lesson_setLesson, if_neg hm]

/-! ### The start of a lesson (R38) -/

/-- Nothing changes but bytes of core memory and their poison. -/
def State.MemOnly (s t : State) : Prop := ∃ m p, t = { s with scan := { s.scan with mem := m, poison := p } }

theorem State.MemOnly.refl (s : State) : s.MemOnly s := ⟨_, _, rfl⟩

theorem State.MemOnly.storeAt {s t : State} (h : s.MemOnly t) (a : Nat) (b : List Byte) : s.MemOnly (t.storeAt a b) := by
  obtain ⟨m, p, rfl⟩ := h
  exact ⟨_, _, rfl⟩

theorem State.writeHeader_memOnly (s : State) (l : Lesson) : s.MemOnly (s.writeHeader l) := by
  unfold State.writeHeader
  exact (((((State.MemOnly.refl s).storeAt _ _).storeAt _ _).storeAt _ _).storeAt _ _).storeAt _ _

/-- The g registers of a lesson that starts (R38). -/
theorem Lesson.startCtx_g (l : Lesson) (n slot : Nat) (privT : Bool) :
    (l.startCtx n slot privT).g[1] = l.decl.header ∧ (l.startCtx n slot privT).g[2] = BitVec.ofNat 32 n ∧
      (l.startCtx n slot privT).g[14] = l.decl.stackTop ∧ (l.startCtx n slot privT).g[15] = 0xFFFFFFFC ∧
      ∀ r : BitVec 4, r ≠ 1 → r ≠ 2 → r ≠ 14 → r ≠ 15 → (l.startCtx n slot privT).g[r.toNat] = 0 := by
  refine ⟨rfl, rfl, rfl, rfl, fun r h1 h2 h14 h15 => ?_⟩
  have hne : ∀ k : BitVec 4, r ≠ k → k.toNat ≠ r.toNat := fun k hk he => hk (BitVec.eq_of_toNat_eq he.symm)
  simp only [Lesson.startCtx, Vector.getElem_set, Ctx.zero, Vector.getElem_replicate]
  simp only [show (15 : Nat) ≠ r.toNat from hne 15 h15, show (14 : Nat) ≠ r.toNat from hne 14 h14, show (2 : Nat) ≠ r.toNat from hne 2 h2,
    show (1 : Nat) ≠ r.toNat from hne 1 h1, if_false]

/-- The best ready lesson of an idle core in service starts, once its homeroom is resident. -/
theorem exec_lessonStart_starts {s : State} {core : Fin 64} {n slot : Nat} {l : Lesson} (hk : (s.core (coreId core)).lesson = none)
    (hh : (s.core (coreId core)).halt ≠ .halted) (hs : s.bit (Reg.SCAN_CORE_STAT core.val) 0 = true)
    (hb : s.bestLesson (coreId core) = some (n, l)) (hp : l.phase = .ready) (hslot : s.slotOf l.decl.tenant = some slot)
    (hr : s.resident l.decl.tenant = true) :
    exec (.lessonStart core) s = .next (((s.writeHeader l).setCore (coreId core)
      { s.core (coreId core) with ctx := l.startCtx n slot ((s.writeHeader l).tenant l.decl.tenant).privT, lesson := some n, waiting := .none, clasp := none }).setLesson n
        { l with phase := .running, start := 0 }) := by
  have hgo : ¬ ((s.core (coreId core)).lesson.isSome ∨ (s.core (coreId core)).halt = .halted ∨ !s.bit (Reg.SCAN_CORE_STAT core.val) 0) := by
    simp [hk, hh, hs]
  rw [exec_lessonStart, execLessonStart, State.startLesson]
  extract_lets _
  rw [if_neg hgo, hb]
  simp only
  rw [hp, hslot]
  simp only
  rw [if_pos hr]

theorem exec_lessonStart_idle {s : State} {core : Fin 64}
    (h : (s.core (coreId core)).lesson.isSome = true ∨ s.bit (Reg.SCAN_CORE_STAT core.val) 0 = false) : exec (.lessonStart core) s = .next s := by
  rw [exec_lessonStart, execLessonStart, State.startLesson]
  simp only
  rw [if_pos (by rcases h with h | h <;> simp [h])]

/-! ### Deadlines and budgets (R40, R90) -/

/-- A deadline abandons the period with DEADLINE, or with DEBUG_HALT on a halted core. -/
theorem exec_deadlineExpiry_abandons {s : State} {lesson : BitVec 12} {l : Lesson} (h : s.lesson? lesson.toNat = some l) (hp : l.phase ≠ .idle) :
    exec (.deadlineExpiry lesson) s =
      .next ((s.advanceTo l.deadlineAt).abandon lesson.toNat (if (s.core l.coreOf).halt = .halted then 18 else 11)) := by
  rw [exec_deadlineExpiry, execDeadlineExpiry]
  simp only [h, if_neg hp]
  rw [State.deadlineCause, State.core, State.advanceTo_scan]
  rfl

/-- A budget's end recorded (R90): one more overrun, and nothing else of the scan fabric or the points. -/
theorem State.overrun_frame (s : State) (n : Nat) (it : EvItem) :
    let t := (s.inc Reg.SCAN_OVERRUN_CNT).recordWindow n (60 * secCounts) it
    t.rd Reg.SCAN_OVERRUN_CNT = s.rd Reg.SCAN_OVERRUN_CNT + 1 ∧ t.points = s.points ∧ t.scan = s.scan := by
  intro t
  have hkept := State.recordWindow_kept (s.inc Reg.SCAN_OVERRUN_CNT) n (60 * secCounts) it Reg.SCAN_OVERRUN_CNT (by decide)
  obtain ⟨r, ev, tr, p, q, hframe⟩ := State.recordWindow_eventsOnly (s.inc Reg.SCAN_OVERRUN_CNT) n (60 * secCounts) it
  refine ⟨hkept.trans (State.rd_inc_same s _), ?_, ?_⟩
  · simp only [t, hframe]
    rfl
  · simp only [t, hframe]
    rfl

/-- A lesson behind every other of its core (R90). -/
def State.demoted (s : State) (n : Nat) (l : Lesson) : State :=
  let t := s.setLesson n { l with exhausted := true, demoted := some s.scan.demoteCount }
  { t with scan := { t.scan with demoteCount := t.scan.demoteCount + 1 } }

/-- A demoted lesson gives way to the best of its core, and nothing changes but lessons, cores and queues. -/
theorem State.demoted_givesWay (s : State) (n : Nat) (l : Lesson) :
    let t := ((s.demoted n l).preempt l.coreOf).resumeBest l.coreOf
    (∃ x, t.lesson? n = some x ∧ x.exhausted = true ∧ x.demoted = some s.scan.demoteCount) ∧ t.regs = s.regs ∧ t.points = s.points := by
  intro t
  have hlesson : (s.demoted n l).lesson? n = some { l with exhausted := true, demoted := some s.scan.demoteCount } :=
    State.lesson_setLesson_same s n _
  obtain ⟨p, hp⟩ := ((State.preempt_upToPhase _ l.coreOf n).trans (State.resumeBest_upToPhase _ l.coreOf n)) _ hlesson
  obtain ⟨_, _, _, _, hframe⟩ := (State.preempt_coresAndLessons (s.demoted n l) l.coreOf).trans (State.resumeBest_coresAndLessons _ l.coreOf)
  refine ⟨⟨_, hp, rfl, rfl⟩, ?_, ?_⟩
  · exact (congrArg State.regs hframe).trans rfl
  · exact (congrArg State.points hframe).trans rfl

section BUDGET
variable {s : State} {lesson : BitVec 12} {l : Lesson}

/-- A lesson of SAFETY or LIFT that has used up its budget runs on, and is marked. -/
theorem exec_budgetExhausted_marks (h : s.lesson? lesson.toNat = some l) (hc : s.charged lesson.toNat l = true) (he : l.exhausted = false)
    (ht : l.decl.tier = .safety ∨ l.decl.tier = .lift) :
    Completes (.budgetExhausted lesson) s (fun t => t.lesson? lesson.toNat = some { l with exhausted := true } ∧
      t.rd Reg.SCAN_OVERRUN_CNT = s.rd Reg.SCAN_OVERRUN_CNT + 1 ∧ t.points = s.points) := by
  obtain ⟨hcnt, hpoints, -⟩ := State.overrun_frame s lesson.toNat { sev := 2, source := 0x04, code := 90, args := [wd lesson.toNat] }
  rw [Completes, exec_budgetExhausted, execBudgetExhausted]
  simp only [h, hc, he, Bool.not_true, Bool.or_self, Bool.false_eq_true, if_false, if_pos ht]
  exact ⟨_, rfl, State.lesson_setLesson_same _ _ _, hcnt, hpoints⟩

/-- Any other lesson is demoted behind the others, and gives way to a better one (R90). -/
theorem exec_budgetExhausted_demotes (h : s.lesson? lesson.toNat = some l) (hc : s.charged lesson.toNat l = true) (he : l.exhausted = false)
    (ht : ¬ (l.decl.tier = .safety ∨ l.decl.tier = .lift)) :
    Completes (.budgetExhausted lesson) s (fun t => (∃ x, t.lesson? lesson.toNat = some x ∧ x.exhausted = true ∧ x.demoted = some s.scan.demoteCount) ∧
      t.rd Reg.SCAN_OVERRUN_CNT = s.rd Reg.SCAN_OVERRUN_CNT + 1 ∧ t.points = s.points) := by
  obtain ⟨hcnt, hpoints, hscan⟩ := State.overrun_frame s lesson.toNat { sev := 2, source := 0x04, code := 90, args := [wd lesson.toNat] }
  generalize hu : (s.inc Reg.SCAN_OVERRUN_CNT).recordWindow lesson.toNat (60 * secCounts)
    { sev := 2, source := 0x04, code := 90, args := [wd lesson.toNat] } = u at hcnt hpoints hscan
  obtain ⟨hx, hregs, hpts⟩ := u.demoted_givesWay lesson.toNat l
  refine ⟨((u.demoted lesson.toNat l).preempt l.coreOf).resumeBest l.coreOf, ?_, ?_, ?_, hpts.trans hpoints⟩
  · rw [exec_budgetExhausted, execBudgetExhausted]
    simp only [h, hc, he, Bool.not_true, Bool.or_self, Bool.false_eq_true, if_false, if_neg ht, hu]
    rfl
  · rw [← hscan]
    exact hx
  · rw [State.rd, hregs]
    exact hcnt

end BUDGET

/-- Settles O20: each command of the schedule by its equation, and what resuming and preempting leave of the lessons. -/
theorem schedule : Obligations.Schedule := by
  refine ⟨fun s cls h => exec_bell_silent h, fun s cls hp hr => exec_bell_rings hp hr, fun s cls t hs => State.ringAt_of_no_switch _ t _ rfl hs,
    State.ring_counts, State.lesson_readyLesson, fun s core n slot l => ?_, fun s core h => exec_lessonStart_idle h, fun s lesson l h hp =>
    exec_deadlineExpiry_abandons h hp, fun s n l cause h => State.lesson_dropPeriod cause h, fun s lesson l h he hrun => ?_, fun s lesson h => ?_⟩
  · intro c hk hh hs hb hp hslot hr
    refine ⟨_, exec_lessonStart_starts hk hh hs hb hp hslot hr, ?_⟩
    obtain ⟨m, p, hmem⟩ := State.writeHeader_memOnly s l
    set v := s.writeHeader l
    obtain ⟨hg1, hg2, hg14, hg15, hg⟩ := l.startCtx_g n slot (v.tenant l.decl.tenant).privT
    have hcore : ∀ k y, ((v.setCore c k).setLesson n y).core c = k := fun k y => State.core_setCore_same v c k
    refine ⟨by rw [hcore], by rw [hcore], by rw [State.pc, hcore]; rfl, ?_, ?_, ?_, ?_, fun r h1 h2 h14 h15 => ?_, by rw [hcore]; rfl,
      State.lesson_setLesson_same _ _ _, by rw [hmem]; rfl, by rw [hmem]; rfl⟩
    · rw [State.g, hcore]
      exact hg1
    · rw [State.g, hcore]
      exact hg2
    · rw [State.g, hcore]
      exact hg14
    · rw [State.g, hcore]
      exact hg15
    · rw [State.g, hcore]
      exact hg r h1 h2 h14 h15
  · have hc : s.charged lesson.toNat l = true := by
      rcases hrun with hrun | ⟨hready, hidle, hres, x, hbest⟩
      · simp [State.charged, hrun]
      · simp [State.charged, hready, hidle, hres, hbest]
    exact ⟨fun ht => exec_budgetExhausted_marks h hc he ht, fun hs hl => exec_budgetExhausted_demotes h hc he (not_or.mpr ⟨hs, hl⟩)⟩
  · simp [execBudgetExhausted, execDeadlineExpiry, h]

end Sys2Proof.Machine
end

section
/-! What placing an image, a restart and a checkpoint leave of the program and the clock (R105, R112, R113; O24). -/

namespace Sys2Proof.Machine

/-! ### What placing contents keeps -/

/-- The current image, its staging, its checkpoints, its switch and the clock are as before. -/
structure State.ProgramKept (s t : State) : Prop where
  cnt : t.cnt = s.cnt
  time : t.time = s.time
  current : t.scan.current = s.scan.current
  staged : t.scan.staged = s.scan.staged
  checkpoints : t.scan.checkpoints = s.scan.checkpoints
  firstStart : t.scan.firstStart = s.scan.firstStart
  lost : t.scan.retentiveLost = s.scan.retentiveLost
  switch : t.scan.switch = s.scan.switch

namespace State.ProgramKept

theorem refl (s : State) : s.ProgramKept s := ⟨rfl, rfl, rfl, rfl, rfl, rfl, rfl, rfl⟩

theorem trans {s t u : State} (h : s.ProgramKept t) (k : t.ProgramKept u) : s.ProgramKept u :=
  ⟨k.cnt.trans h.cnt, k.time.trans h.time, k.current.trans h.current, k.staged.trans h.staged, k.checkpoints.trans h.checkpoints,
    k.firstStart.trans h.firstStart, k.lost.trans h.lost, k.switch.trans h.switch⟩

theorem ite {s t u : State} (p : Prop) [Decidable p] (h : s.ProgramKept t) (k : s.ProgramKept u) : s.ProgramKept (if p then t else u) := by
  split
  · exact h
  · exact k

theorem foldl {α : Type} (f : State → α → State) (h : ∀ (s : State) (a : α), s.ProgramKept (f s a)) :
    ∀ (l : List α) (s : State), s.ProgramKept (l.foldl f s)
  | [], s => .refl s
  | a :: l, s => (h s a).trans (foldl f h l (f s a))

theorem of_eventsOnly {s t : State} (h : s.EventsOnly t) : s.ProgramKept t := by
  obtain ⟨_, _, _, _, _, rfl⟩ := h
  exact ⟨rfl, rfl, rfl, rfl, rfl, rfl, rfl, rfl⟩

theorem of_slotsOnly {s t : State} (h : s.SlotsOnly t) : s.ProgramKept t := by
  obtain ⟨_, _, rfl⟩ := h
  exact ⟨rfl, rfl, rfl, rfl, rfl, rfl, rfl, rfl⟩

theorem of_memOnly {s t : State} (h : s.MemOnly t) : s.ProgramKept t := by
  obtain ⟨_, _, rfl⟩ := h
  exact ⟨rfl, rfl, rfl, rfl, rfl, rfl, rfl, rfl⟩

theorem storeAt (s : State) (a : Nat) (b : List Byte) : s.ProgramKept (s.storeAt a b) := .of_memOnly ((State.MemOnly.refl s).storeAt a b)

theorem wr (s : State) (a : Nat) (v : Word) : s.ProgramKept (s.wr a v) := ⟨rfl, rfl, rfl, rfl, rfl, rfl, rfl, rfl⟩

theorem setLesson (s : State) (n : Nat) (l : Lesson) : s.ProgramKept (s.setLesson n l) := ⟨rfl, rfl, rfl, rfl, rfl, rfl, rfl, rfl⟩

theorem setPoint (s : State) (i : PointIdx) (p : Point) : s.ProgramKept (s.setPoint i p) := ⟨rfl, rfl, rfl, rfl, rfl, rfl, rfl, rfl⟩

end State.ProgramKept

theorem State.initState_programKept (s : State) (c : Fin 64) : s.ProgramKept (s.initState c) := by
  have hput : ∀ (u : State) (a b : Nat) (l : List Byte), u.ProgramKept ((u.storeAt a l).storeAt b l) :=
    fun u a b l => (State.ProgramKept.storeAt u a l).trans (.storeAt _ b l)
  unfold State.initState
  refine (State.ProgramKept.foldl _ (fun u r => hput u _ _ _) _ s).trans (.foldl _ (fun u it => ?_) _ _)
  split
  · exact .ite _ (hput u _ _ _) (.refl u)
  · exact .refl u

theorem State.storePieces_programKept (s : State) (base : Nat) (l : List (Nat × List Byte)) : s.ProgramKept (s.storePieces base l) :=
  .foldl _ (fun u _ => .storeAt u _ _) l s

theorem State.placeCode_programKept (s : State) (l : List ImageItem) (c : Fin 64) : s.ProgramKept (s.placeCode l c) := by
  have hclear : s.ProgramKept (s.clearSpace (Space.imem (coreId c)).base 0x10000) := ⟨rfl, rfl, rfl, rfl, rfl, rfl, rfl, rfl⟩
  obtain ⟨h1, h2, h3, h4, h5, h6, h7, h8⟩ := hclear.trans (State.storePieces_programKept _ _ (codeOf l c.val))
  exact ⟨h1, h2, h3, h4, h5, h6, h7, h8⟩

theorem State.placeCluster_programKept (s : State) (l : List ImageItem) (cl : Fin 8) (pick : Region → Bool) : s.ProgramKept (s.placeCluster l cl pick) := by
  refine State.ProgramKept.trans (t := { s with scan := 
    { s.scan with clusterRegions := Tab.set (fun _ => []) s.scan.clusterRegions cl.val (clusterTable l cl.val) } })
    ⟨rfl, rfl, rfl, rfl, rfl, rfl, rfl, rfl⟩ (State.storePieces_programKept _ _ _)

theorem State.placeImage_programKept (s : State) : s.ProgramKept s.placeImage := by
  unfold State.placeImage
  refine (State.ProgramKept.foldl _ (fun u c => ?_) scanCores s).trans (.foldl _ (fun u cl => ?_) clusters _)
  · exact (State.placeCode_programKept u _ c).trans (State.initState_programKept _ c)
  · exact State.placeCluster_programKept u _ cl _

theorem State.placeGroups_programKept (s : State) (l : List ImageItem) : s.ProgramKept (s.placeGroups l) := ⟨rfl, rfl, rfl, rfl, rfl, rfl, rfl, rfl⟩

theorem State.retainPoint_programKept (s : State) (i : PointIdx) : s.ProgramKept (s.retainPoint i) := by
  obtain ⟨l, h⟩ := s.retainPoint_frame i
  rw [h]
  exact ⟨rfl, rfl, rfl, rfl, rfl, rfl, rfl, rfl⟩

theorem State.startPoint_programKept (s : State) (d : PointDecl) : s.ProgramKept (s.startPoint d) := by
  unfold State.startPoint
  split
  · exact .setPoint s _ _
  · exact (State.ProgramKept.setPoint s _ _).trans (State.retainPoint_programKept _ _)

theorem State.startPoints_programKept (s : State) : s.ProgramKept s.startPoints := by
  have hempty : s.ProgramKept { s with points := [] } := ⟨rfl, rfl, rfl, rfl, rfl, rfl, rfl, rfl⟩
  obtain ⟨h1, h2, h3, h4, h5, h6, h7, h8⟩ := hempty.trans (.foldl State.startPoint State.startPoint_programKept (imagePoints s.scan.current) _)
  exact ⟨h1, h2, h3, h4, h5, h6, h7, h8⟩

theorem State.setOpMode_programKept (s : State) (d m : Nat) : s.ProgramKept (s.setOpMode d m) := by
  unfold State.setOpMode
  exact .ite _ ⟨rfl, rfl, rfl, rfl, rfl, rfl, rfl, rfl⟩ (.wr s _ _)

theorem State.loopClear_programKept (s : State) : s.ProgramKept s.loopClear := by
  unfold State.loopClear
  extract_lets t u
  have ht : s.ProgramKept t := .foldl _ (fun v d => (State.ProgramKept.wr v _ _).trans (State.setOpMode_programKept _ _ _)) _ s
  have hu : t.ProgramKept u :=
    .foldl _ (fun v st => ((State.ProgramKept.wr v _ _).trans (.wr _ _ _)).trans (.foldl _ (fun x i => .wr x _ _) _ _)) _ t
  clear_value u t
  exact (ht.trans hu).trans ⟨rfl, rfl, rfl, rfl, rfl, rfl, rfl, rfl⟩

theorem State.qmapDrop_programKept (s : State) (i : PointIdx) : s.ProgramKept (s.qmapDrop i) :=
  .foldl _ (fun u _ => (State.ProgramKept.wr u _ _).trans (.of_eventsOnly (State.record_eventsOnly _ _))) _ s

theorem State.showId_programKept (s : State) : s.ProgramKept s.showId := by
  unfold State.showId
  split
  · exact (State.ProgramKept.wr s _ _).trans (.wr _ _ _)
  · exact (State.ProgramKept.wr s _ _).trans (.wr _ _ _)

/-! ### The scan stopped, and warm data put back -/

theorem State.copyLine_programKept (s : State) (a b : Nat) : s.ProgramKept (s.copyLine a b) := by
  unfold State.copyLine
  extract_lets t
  have ht : s.ProgramKept t := .storeAt s _ _
  clear_value t
  refine ht.trans (.foldl _ (fun u i => ?_) _ t)
  exact .ite _ ⟨rfl, rfl, rfl, rfl, rfl, rfl, rfl, rfl⟩ (.refl u)

theorem State.restoreState_programKept (s : State) (c : CoreId) (l : List Nat) : s.ProgramKept (s.restoreState c l) :=
  .foldl _ (fun u _ => State.copyLine_programKept u _ _) l s

theorem State.dropPeriods_programKept (s : State) : s.ProgramKept s.dropPeriods := by
  unfold State.dropPeriods
  extract_lets was t _ _ _ _ _ u
  have ht : s.ProgramKept t := .foldl _ (fun v p => (State.restoreState_programKept v _ _).trans (.setLesson _ _ _)) _ s
  have hu : t.ProgramKept u := ⟨rfl, rfl, rfl, rfl, rfl, rfl, rfl, rfl⟩
  exact (ht.trans hu).trans (.of_slotsOnly (State.settleSlots_frame u was))

theorem State.scanStop_programKept (s : State) : s.ProgramKept s.scanStop :=
  ((State.dropPeriods_programKept s).trans (.wr _ _ _)).trans (.wr _ _ _)

theorem State.restoreWarm_programKept (s : State) (k : Checkpoint) : s.ProgramKept (s.restoreWarm k) := by
  unfold State.restoreWarm
  extract_lets ranges t u v
  have ht : s.ProgramKept t := .foldl _ (fun x r => .storeAt x _ _) _ s
  have hu : t.ProgramKept u := .foldl _ (fun x c => .foldl _ (fun y r => .storeAt y _ _) _ x) _ t
  have hv : u.ProgramKept v := by
    refine .foldl _ (fun x p => ?_) _ u
    extract_lets
    refine .ite _ ?_ (.refl x)
    extract_lets
    exact .ite _ (.ite _ (.refl x) (.setPoint x _ _)) (.setPoint x _ _)
  exact ((ht.trans hu).trans hv).trans (.foldl _ (fun x f => .setPoint x _ _) _ v)

end Sys2Proof.Machine
end

section
/-! RUN, LOAD, ARM, staging, the end of a switch, checkpoints and restarts (R25, R80, R105, R106, R108, R111 to R113; O24). -/

namespace Sys2Proof.Machine

/-! ### The bells started and stopped (R25, R80) -/

theorem State.wrs_frame (f : Nat → Nat) (v : Word) : ∀ (l : List Nat) (s : State), ∃ r, l.foldl (fun s k => s.wr (f k) v) s = { s with regs := r }
  | [], _ => ⟨_, rfl⟩
  | k :: l, s => State.wrs_frame f v l (s.wr (f k) v)

/-- Every register of a list of them reads the word written to all of them. -/
theorem State.rd_wrs_mem {f : Nat → Nat} (v : Word) {a : Nat} : ∀ (l : List Nat) (s : State), (s.rd a = v ∨ ∃ k ∈ l, f k = a) →
    (l.foldl (fun s k => s.wr (f k) v) s).rd a = v
  | [], s, h => by simpa using h
  | k :: l, s, h => by
    refine State.rd_wrs_mem v l (s.wr (f k) v) ?_
    by_cases hk : a = f k
    · exact .inl (by rw [State.rd_wr, if_pos hk])
    · rcases h with h | ⟨j, hj, hf⟩
      · exact .inl (by rw [State.rd_wr_ne _ _ hk, h])
      · rcases List.mem_cons.mp hj with rfl | hj
        · exact absurd hf.symm hk
        · exact .inr ⟨j, hj, hf⟩

/-- The bells start: the counter's value is their origin, no bell of any class has rung, RUN and RUNNING are set; of the rest only registers change. -/
theorem State.bellsStart_facts (s : State) : s.bellsStart.bit Reg.SCAN_CTRL 0 = true ∧ s.bellsStart.bit Reg.SCAN_STAT 0 = true ∧
    s.bellsStart.scan = { s.scan with t0 := s.cnt, rung := Vector.replicate 8 0 } ∧ s.bellsStart.cnt = s.cnt ∧ s.bellsStart.points = s.points ∧
    ∀ k, k < 8 → s.bellsStart.rd (Reg.SCAN_BELL_CNT k) = 0 := by
  unfold State.bellsStart
  extract_lets _ t u
  obtain ⟨r, hu⟩ := State.wrs_frame Reg.SCAN_BELL_CNT 0 (List.range 8) t
  refine ⟨?_, State.bit_setBit_same _ _ _ _ (by decide), ?_, ?_, ?_, fun k hk => ?_⟩
  · rw [State.bit_of_rd (State.rd_setBit_ne _ _ _ (by decide)), State.bit_setBit_same _ _ _ _ (by decide)]
  · exact (congrArg State.scan hu).trans rfl
  · exact (congrArg State.cnt hu).trans rfl
  · exact (congrArg State.points hu).trans rfl
  · have hctrl : Reg.SCAN_BELL_CNT k ≠ Reg.SCAN_CTRL := by simp only [Reg.SCAN_BELL_CNT, Reg.SCAN_CTRL]; omega
    have hstat : Reg.SCAN_BELL_CNT k ≠ Reg.SCAN_STAT := by simp only [Reg.SCAN_BELL_CNT, Reg.SCAN_STAT]; omega
    rw [State.rd_setBit_ne _ _ _ hstat, State.rd_setBit_ne _ _ _ hctrl]
    exact State.rd_wrs_mem 0 _ _ (.inr ⟨k, List.mem_range.mpr hk, rfl⟩)

theorem State.setLessons_frame {α : Type} (n : α → Nat) (f : α → Lesson) : ∀ (l : List α) (s : State),
    ∃ t, l.foldl (fun s p => s.setLesson (n p) (f p)) s = { s with scan := { s.scan with lessons := t } }
  | [], _ => ⟨_, rfl⟩
  | p :: l, s => State.setLessons_frame n f l (s.setLesson (n p) (f p))

/-- What RUN leaves before the bells start: the clock, the points and the memories (R105, R113). -/
theorem State.prefectRun_starts {s : State} (h : s.bit Reg.SCAN_CTRL 0 = false) :
    ∃ v : State, s.prefectRun = v.bellsStart ∧ v.cnt = s.cnt ∧ v.points = s.points ∧ v.scan.mem = s.scan.mem := by
  unfold State.prefectRun
  rw [if_neg (by simp [h])]
  split
  · set t : State := { s with scan := { s.scan with firstStart := false, tilesOut := 0 } } with ht
    refine ⟨_, rfl, ?_⟩
    obtain ⟨r, l, hout⟩ := (State.outputsUpdate_driven t.restartEvent).frame
    have hevent : t.EventsOnly t.restartEvent := State.record_eventsOnly t _
    obtain ⟨_, _, _, _, _, hev⟩ := hevent
    rw [hout, hev]
    exact ⟨rfl, rfl, rfl⟩
  · obtain ⟨l, hl⟩ := State.setLessons_frame (fun p : Nat × Lesson => p.1) (fun p => { p.2 with start := 0 }) s.lessons s
    refine ⟨_, rfl, ?_⟩
    rw [hl]
    exact ⟨rfl, rfl, rfl⟩

theorem State.runStop_stops (s : State) : OnlyRegs s [Reg.SCAN_CTRL, Reg.SCAN_STAT] s.runStop ∧ s.runStop.bit Reg.SCAN_CTRL 0 = false ∧
    s.runStop.bit Reg.SCAN_STAT 0 = false := by
  refine ⟨((OnlyRegs.refl s _).wr _ (by decide)).wr _ (by decide), ?_, State.bit_setBit_same _ _ _ _ (by decide)⟩
  rw [State.runStop, State.bit_of_rd (State.rd_setBit_ne _ _ _ (by decide)), State.bit_setBit_same _ _ _ _ (by decide)]

/-! ### SCAN_PROG_STAT (R103, R104) -/

theorem State.setProg_onlyRegs (s : State) (st : Nat) : OnlyRegs s [Reg.SCAN_PROG_STAT] (s.setProg st) :=
  ((OnlyRegs.refl s _).wr _ (by decide)).wr _ (by decide)

theorem State.progState_setProg (s : State) {st : Nat} (h : st < 16) : (s.setProg st).progState = st := by
  rw [State.progState, State.setProg, State.fld_setBit_apart _ _ _ _ _ _ (by decide) (by decide), State.fld_setFld _ _ _ _ _ (by decide) (by decide),
    Nat.mod_eq_of_lt (by simpa using h)]

theorem State.busy_setProg (s : State) (st : Nat) : (s.setProg st).bit Reg.SCAN_PROG_STAT 4 = false := State.bit_setBit_same _ _ _ _ (by decide)

/-- A command out of sequence changes SCAN_PROG_STAT.ERR alone (R103). -/
theorem State.outOfSequence_refuses (s : State) : OnlyRegs s [Reg.SCAN_PROG_STAT] s.outOfSequence ∧ s.outOfSequence.progState = s.progState ∧
    s.outOfSequence.fld Reg.SCAN_PROG_STAT 12 8 = 20 :=
  ⟨s.setFld_onlyRegs _ _ _ _, State.fld_setFld_apart _ _ _ _ _ _ _ (by decide) (by decide) (by decide), State.fld_setFld _ _ _ _ _ (by decide) (by decide)⟩

/-- An image refused (R104): REFUSED with its code and item, then the event. -/
theorem State.refuseImage_records (s : State) (code item kind : Nat) : ∃ v : State,
    s.refuseImage code item kind = v.record { sev := 3, source := 0x04, code := 104, args := [wd code, wd item] } ∧
      OnlyRegs s [Reg.SCAN_PROG_STAT, Reg.SCAN_PROG_DETAIL] v ∧ v.progState = 8 ∧ v.rd Reg.SCAN_PROG_DETAIL = wd (item % 65536 + kind * 65536) ∧
      v.fld Reg.SCAN_PROG_STAT 12 8 = code % 32 := by
  refine ⟨((s.setProg 8).progErr code).wr Reg.SCAN_PROG_DETAIL (wd (item % 65536 + kind * 65536)), rfl, ?_, ?_, State.rd_wr_same _ _ _, ?_⟩
  · exact ((((OnlyRegs.refl s _).wr _ (by decide)).wr _ (by decide)).wr _ (by decide)).wr _ (by decide)
  · rw [State.progState, State.fld_of_rd (State.rd_wr_ne _ _ (by decide)), State.progErr,
      State.fld_setFld_apart _ _ _ _ _ _ _ (by decide) (by decide) (by decide)]
    exact State.progState_setProg s (by decide)
  · rw [State.fld_of_rd (State.rd_wr_ne _ _ (by decide)), State.progErr, State.fld_setFld _ _ _ _ _ (by decide) (by decide)]
    rfl

/-! ### LOAD (R105) -/

/-- The state LOAD has reached before the outputs follow their points. -/
def State.loaded (s : State) : State :=
  let old := s.scan.current
  let new := s.newImage
  let removed := (imagePoints old).filter (fun d => !(imagePoints new).any (fun e => e.idx == d.idx && bits e.desc 12 10 == 4))
  let s := { s with scan := { s.scan with current := new, staged := [], stagedTenant := none, lessons := [], groups := [], firstStart := true } }
  let s := (((s.keepCheckpoints (fun _ => false)).placeImage).placeGroups new).startPoints
  let s := (imageLessons new).foldl (fun s d => s.setLesson d.num (Lesson.fresh d 1)) s
  let s := (removed.filter (fun d => bits d.desc 12 10 == 4)).foldl (fun s d => s.qmapDrop d.idx) s
  let s := { s with scan := { s.scan with retentiveLost := none } }
  ((s.loopClear).wr Reg.SCAN_RESTART_STAT 0x90).showId.setProg 0

theorem State.loadImage_eq (s : State) : s.loadImage = s.loaded.outputsUpdate := rfl

theorem State.rd_showId (s : State) {a : Nat} (hlo : a ≠ Reg.SCAN_PROG_ID_LO) (hhi : a ≠ Reg.SCAN_PROG_ID_HI) : s.showId.rd a = s.rd a := by
  unfold State.showId
  split
  · rw [State.rd_wr_ne _ _ hhi, State.rd_wr_ne _ _ hlo]
  · rw [State.rd_wr_ne _ _ hhi, State.rd_wr_ne _ _ hlo]

theorem State.loaded_facts (s : State) : s.loaded.progState = 0 ∧ s.loaded.bit Reg.SCAN_PROG_STAT 4 = false ∧ s.loaded.rd Reg.SCAN_RESTART_STAT = 0x90 ∧
    s.loaded.scan.current = s.newImage ∧ s.loaded.scan.staged = [] ∧ s.loaded.scan.checkpoints = [] ∧ s.loaded.scan.firstStart = true ∧
    s.loaded.cnt = s.cnt := by
  unfold State.loaded
  extract_lets old new removed _ t placed lessons dropped _ u
  obtain ⟨n, hkeep⟩ := t.keepCheckpoints_frame (fun _ => false)
  have hplaced : (t.keepCheckpoints (fun _ => false)).ProgramKept placed :=
    ((State.placeImage_programKept _).trans (State.placeGroups_programKept _ _)).trans (State.startPoints_programKept _)
  have hlessons : placed.ProgramKept lessons := .foldl _ (fun v d => .setLesson v _ _) _ placed
  have hdropped : lessons.ProgramKept dropped := .foldl _ (fun v d => State.qmapDrop_programKept v _) _ lessons
  have hall := (hplaced.trans hlessons).trans hdropped
  rw [hkeep] at hall
  have hend : u.ProgramKept (((u.loopClear).wr Reg.SCAN_RESTART_STAT 0x90).showId.setProg 0) :=
    ((((State.loopClear_programKept u).trans (.wr _ _ _)).trans (State.showId_programKept _)).trans (.wr _ _ _)).trans (.wr _ _ _)
  refine ⟨State.progState_setProg _ (by decide), State.busy_setProg _ _, ?_, hend.current.trans hall.current, hend.staged.trans hall.staged,
    (hend.checkpoints.trans hall.checkpoints).trans (by simp), hend.firstStart.trans hall.firstStart, hend.cnt.trans hall.cnt⟩
  obtain ⟨-, hrd⟩ := State.setProg_onlyRegs ((u.loopClear).wr Reg.SCAN_RESTART_STAT 0x90).showId 0
  rw [hrd _ (by decide), State.rd_showId _ (by decide) (by decide), State.rd_wr_same]

theorem State.progLoad_loads {s : State} (h : s.progState = 3)
    (hi : (!s.bit Reg.SCAN_CTRL 0 && s.lessons.all (fun p => p.2.phase == .idle) && s.scan.stagedTenant == none) = true) : s.progLoad = s.loadImage := by
  simp only [Bool.and_eq_true, beq_iff_eq] at hi
  obtain ⟨⟨hrun, hidle⟩, htenant⟩ := hi
  rw [State.progLoad, if_pos ⟨h, hrun, hidle, htenant⟩]

theorem State.progLoad_refuses {s : State} (h : s.progState ≠ 3 ∨
    (!s.bit Reg.SCAN_CTRL 0 && s.lessons.all (fun p => p.2.phase == .idle) && s.scan.stagedTenant == none) = false) : s.progLoad = s.outOfSequence := by
  rw [State.progLoad, if_neg]
  rintro ⟨hst, hrun, hidle, htenant⟩
  rcases h with h | h
  · exact h hst
  · simp [hrun, hidle, htenant] at h

/-! ### ARM and staging (R106, R108) -/

/-- The switch that ARM names. -/
def State.armedSwitch (s : State) : Switch :=
  { image := s.newImage, cls := ⟨s.fld Reg.SCAN_PROG_SWITCH 2 0 % 8, Nat.mod_lt _ (by decide)⟩,
    bell := if s.rd Reg.SCAN_PROG_SWITCH_BELL = 0xFFFFFFFF then none else some (s.rd Reg.SCAN_PROG_SWITCH_BELL), armedAt := 0,
    affected := s.affectedCores s.scan.current s.newImage, begun := false, beganAt := 0, carried := 0, initialised := 0, discarded := 0, oldMem := [] }

/-- ARM in state READY, for a class that no affected lesson is slower than. -/
theorem State.progArm_ready {s : State} (h : s.progState = 3)
    (hc : slowestClass (affectedLessons s.scan.current s.newImage) ≤ s.fld Reg.SCAN_PROG_SWITCH 2 0) :
    (s.armRefusal s.newImage = none → s.progArm =
      (State.setProg { s with scan := { s.scan with switch := some s.armedSwitch } } 4).setBit Reg.SCAN_PROG_STAT 4 true) ∧
    ∀ code item kind, s.armRefusal s.newImage = some (code, item, kind) → s.progArm = s.refuseImage code item kind := by
  have hgo : ¬ (s.progState ≠ 3 ∨ s.fld Reg.SCAN_PROG_SWITCH 2 0 < slowestClass (affectedLessons s.scan.current s.newImage)) := by
    simp only [h]
    omega
  refine ⟨fun hr => ?_, fun code item kind hr => ?_⟩
  · unfold State.progArm
    extract_lets
    rw [if_neg hgo, hr]
    rfl
  · unfold State.progArm
    extract_lets
    rw [if_neg hgo, hr]

theorem State.progArm_refuses {s : State} (h : s.progState ≠ 3 ∨
    ¬ slowestClass (affectedLessons s.scan.current s.newImage) ≤ s.fld Reg.SCAN_PROG_SWITCH 2 0) : s.progArm = s.outOfSequence := by
  unfold State.progArm
  extract_lets
  rw [if_pos (h.imp_right Nat.lt_of_not_le)]

/-- The staging range of a cluster (R107). -/
def inStaging (b : Nat) : Prop := ∃ cl : Fin 8, (Space.cluster cl).base + 0x180000 ≤ b ∧ b < (Space.cluster cl).base + 0x1C0000

/-- Staged contents go to the staging ranges, and no other byte of memory changes. -/
theorem State.copyStaged_staging (s : State) (w : Switch) : s.MemOnly (s.copyStaged w) ∧
    ∀ b, ¬ inStaging b → (s.copyStaged w).byteAt b = s.byteAt b := by
  have hfold : ∀ (l : List (Fin 8)) (data : State → Fin 8 → List Byte) (u : State), s.MemOnly u → (∀ b, ¬ inStaging b → u.byteAt b = s.byteAt b) →
      let t := l.foldl (fun s cl => s.storeAt ((Space.cluster cl).base + 0x180000) ((data s cl).take 0x40000)) u
      s.MemOnly t ∧ ∀ b, ¬ inStaging b → t.byteAt b = s.byteAt b := by
    intro l data
    induction l with
    | nil => exact fun u hu hb => ⟨hu, hb⟩
    | cons cl l ih =>
      intro u hu hb
      refine ih _ (hu.storeAt _ _) (fun b hout => ?_)
      rw [State.byteAt_storeAt, if_neg, hb b hout]
      rintro ⟨hlo, hhi⟩
      refine hout ⟨cl, hlo, hhi.trans_le ?_⟩
      have : ((data u cl).take 0x40000).length ≤ 0x40000 := List.length_take_le _ _
      omega
  exact hfold clusters (fun u cl => clusterStaged u.scan.current w.image (u.affectedCores u.scan.current w.image) cl.val) s (.refl s) (fun _ _ => rfl)

theorem State.stagingDone_idle {s : State} (h : s.progState ≠ 4) : s.stagingDone = s := by
  unfold State.stagingDone
  split
  · rw [if_pos h]
  · rfl

/-- Staging that ends before the named switch bell arms the switch. -/
theorem State.stagingDone_arms {s : State} {w : Switch} (hw : s.scan.switch = some w) (h : s.progState = 4) (hm : s.switchMissed w = false) :
    let armed : State := { s with scan := { s.scan with switch := some { w with armedAt := s.now } } }
    s.stagingDone = (armed.copyStaged w).setProg 5 ∧ ∃ m p,
      OnlyRegs { s with scan := { s.scan with switch := some { w with armedAt := s.now }, mem := m, poison := p } } [Reg.SCAN_PROG_STAT]
        ((armed.copyStaged w).setProg 5) ∧ ((armed.copyStaged w).setProg 5).progState = 5 ∧
      ∀ b, (∀ cl : Fin 8, b < (Space.cluster cl).base + 0x180000 ∨ (Space.cluster cl).base + 0x1C0000 ≤ b) →
        ((armed.copyStaged w).setProg 5).byteAt b = s.byteAt b := by
  intro armed
  obtain ⟨⟨m, p, hmem⟩, hbytes⟩ := armed.copyStaged_staging w
  refine ⟨?_, m, p, ?_, State.progState_setProg _ (by decide), fun b hb => (hbytes b ?_).trans rfl⟩
  · rw [State.stagingDone, hw]
    dsimp only
    rw [if_neg (by simp [h]), if_neg (by simp [hm])]
  · have honly := State.setProg_onlyRegs (armed.copyStaged w) 5
    rw [hmem] at honly ⊢
    exact honly
  · rintro ⟨cl, hlo, hhi⟩
    have := hb cl
    omega

theorem State.stagingDone_misses {s : State} {w : Switch} (hw : s.scan.switch = some w) (h : s.progState = 4) (hm : s.switchMissed w = true) :
    s.stagingDone = State.refuseImage { s with scan := { s.scan with switch := none } } 19 0 0 := by
  rw [State.stagingDone, hw]
  dsimp only
  rw [if_neg (by simp [h]), if_pos hm]

/-! ### The end of a switch (R108) -/

theorem State.lateBells_switch (s : State) (w : Switch) (c : Fin 64) : (s.lateBells w c).scan.switch = s.scan.switch := by
  have hready : ∀ (u : State) (n : Nat) (l : Lesson) (v : Word) (t : Nat), u.ProgramKept (u.readyLesson n l v t) := by
    intro u n l v t
    unfold State.readyLesson
    extract_lets y due x
    exact (State.ProgramKept.setLesson u n _).trans (.of_slotsOnly (State.needSlot_frame x _))
  unfold State.lateBells
  exact (State.ProgramKept.foldl _ (fun u p => State.ProgramKept.ite _ (hready u _ _ _ _) (.refl u)) _ s).switch

theorem State.switchEnd_facts (s : State) (w : Switch) : (s.switchEnd w).scan.current = w.image ∧ (s.switchEnd w).scan.switch = none ∧
    (s.switchEnd w).scan.staged = [] ∧ (s.switchEnd w).progState = 0 := by
  unfold State.switchEnd
  extract_lets _ _ _ t v0 v1 u
  have hshown : t.ProgramKept ((t.wr Reg.SCAN_PROG_VARS0 v0).wr Reg.SCAN_PROG_VARS1 v1).showId :=
    ((State.ProgramKept.wr t _ _).trans (.wr _ _ _)).trans (State.showId_programKept _)
  have hu : t.ProgramKept u := (hshown.trans (.wr _ _ _)).trans (.wr _ _ _)
  have hprog : u.progState = 0 := State.progState_setProg _ (by decide)
  clear_value v0 v1
  have hrec := fun it => State.ProgramKept.of_eventsOnly (State.record_eventsOnly u it)
  refine ⟨(hrec _).current.trans hu.current, (hrec _).switch.trans hu.switch, (hrec _).staged.trans hu.staged, ?_⟩
  rw [State.progState, State.fld_of_rd (State.record_kept u _ Reg.SCAN_PROG_STAT (by decide))]
  exact hprog

/-- A core given its new contents leaves the switch's list (R108). -/
theorem State.switchCoreNow_switch (s : State) (w : Switch) (c : Fin 64) :
    ∃ x, (s.switchCoreNow w c).scan.switch = some x ∧ x.image = w.image ∧ x.affected = w.affected.filter (· != c.val) :=
  ⟨_, rfl, rfl, rfl⟩

/-- The last affected core, given its new contents, ends the switch. -/
theorem State.switchRelease_last {s : State} {c : Fin 64} {w : Switch} (h : s.scan.switch = some w) (hb : w.begun = true) (ha : w.affected = [c.val])
    (hi : s.lessons.all (fun p => p.2.phase == .idle) = true) :
    ∃ (v : State) (x : Switch), s.switchRelease c = (v.switchEnd x).resumeBest (coreId c) ∧ x.image = w.image := by
  have hidle : ∀ p ∈ s.lessons, (p.2.phase != .idle) = false := by simpa using hi
  have hnone : ∀ f : Nat × Lesson → Bool, s.lessons.any (fun p => f p && p.2.phase != .idle) = false := fun f => by
    rw [List.any_eq_false]
    intro p hp
    simp [hidle p hp]
  obtain ⟨x, hx, himage, haff⟩ := s.switchCoreNow_switch w c
  have hempty : x.affected.isEmpty = true := by simp [haff, ha]
  refine ⟨(s.switchCoreNow w c).lateBells w c, x, ?_, himage⟩
  unfold State.switchRelease
  rw [h]
  dsimp only
  rw [if_neg (by simp [hb, ha, hnone]), State.lateBells_switch, hx]
  dsimp only
  rw [if_pos hempty]

theorem State.switchRelease_stays {s : State} {c : Fin 64} {w : Switch} (h : s.scan.switch = some w) (hb : w.begun = false ∨ c.val ∉ w.affected) :
    s.switchRelease c = s := by
  unfold State.switchRelease
  rw [h]
  dsimp only
  rw [if_pos]
  left
  rcases hb with hb | hb
  · simp [hb]
  · simp [hb]

/-! ### Checkpoints (R112) -/

/-- The checkpoint a test makes of the newest one alone stays, with what lies in its area. -/
theorem State.newestOnly_cons {s : State} {k : Checkpoint} {rest : List Checkpoint} (h : s.scan.checkpoints = k :: rest) (hk : k.complete = true) :
    ∃ n, s.newestOnly = { s with scan := { s.scan with checkpoints := k :: rest.filter (fun x => some k.area == some x.area) }, nand := n } := by
  obtain ⟨n, hn⟩ := s.keepCheckpoints_frame (fun x => (s.scan.checkpoints.find? (·.complete)).map (·.area) == some x.area)
  refine ⟨n, hn.trans ?_⟩
  simp [h, hk]

/-- What a checkpoint that begins holds (R111, R112). -/
structure State.Begun (s : State) (l : List Nat) (k : Checkpoint) : Prop where
  waits : k.waits = l
  complete : k.complete = l.isEmpty
  imageId : k.imageId = s.currentId
  begunAt : k.begunAt = s.appliedSec
  digestOk : k.digestOk = true
  stale : k.stale = false
  forces : k.forces = s.forces.map (fun i => (i.toNat, (s.point i).word 0, (s.point i).word 1))
  mem : ∀ p ∈ k.mem, p ∈ s.scan.mem ∧ inRanges s.warmRanges p.1 = true

theorem State.beginCheckpoint_begun (s : State) (waits : List Nat) :
    ∃ k, s.beginCheckpoint waits = { s with scan := { s.scan with checkpoints := k :: s.scan.checkpoints } } ∧ s.Begun waits k :=
  ⟨_, rfl, rfl, rfl, rfl, rfl, rfl, rfl, rfl, fun _ hp => List.mem_filter.mp hp⟩

/-- The periodic checkpoint (R112): begun first of all, and the newest complete one stays until it is complete itself. -/
theorem State.periodicCheckpoint_begins (s : State) : ∃ (k : Checkpoint) (rest : List Checkpoint) (n : NandSt),
    s.periodicCheckpoint = { s with scan := { s.scan with checkpoints := k :: rest }, nand := n } ∧ (∀ x ∈ rest, x ∈ s.scan.checkpoints) ∧
      (∀ y, s.scan.checkpoints.find? (·.complete) = some y → k.complete = false → y ∈ rest) ∧ (k.complete = true ↔ k.waits = []) ∧
      k.waits = (if s.bit Reg.SCAN_STAT 0 then (s.lessons.filter (fun p => !p.2.shed)).map (·.1) else []) ∧
      k.imageId = ((imageHeader? s.scan.current).map (·.imageId)).getD 0 ∧ k.begunAt = s.appliedSec ∧ k.digestOk = true ∧ k.stale = false ∧
      k.forces = s.forces.map (fun i => (i.toNat, (s.point i).word 0, (s.point i).word 1)) ∧
      ∀ p ∈ k.mem, p ∈ s.scan.mem ∧ inRanges s.warmRanges p.1 = true := by
  unfold State.periodicCheckpoint
  extract_lets u runs b
  obtain ⟨n, hkeep⟩ := s.keepCheckpoints_frame (fun x => (s.scan.checkpoints.find? (·.complete)).map (·.area) == some x.area)
  set old := s.scan.checkpoints.filter (fun x => (s.scan.checkpoints.find? (·.complete)).map (·.area) == some x.area) with hold
  have hu : u = { s with scan := { s.scan with checkpoints := old }, nand := n.settled } := congrArg State.erased hkeep
  have hsub : ∀ x ∈ old, x ∈ s.scan.checkpoints := fun x hx => (List.mem_filter.mp hx).1
  have hbest : ∀ y, s.scan.checkpoints.find? (·.complete) = some y → y ∈ old := by
    intro y hy
    rw [hold, List.mem_filter]
    exact ⟨List.mem_of_find?_eq_some hy, by simp [hy]⟩
  obtain ⟨k, hb, hk⟩ := u.beginCheckpoint_begun (if s.bit Reg.SCAN_STAT 0 then runs else [])
  have hbits : b = { u with scan := { u.scan with checkpoints := k :: u.scan.checkpoints } } := by
    rw [← hb]
    simp only [b, hu]
    rfl
  have hruns : runs = (s.lessons.filter (fun p => !p.2.shed)).map (·.1) := by
    simp only [runs, hu]
    rfl
  clear_value b runs u
  subst hu hruns
  have hcomplete : k.complete = true ↔ k.waits = [] := by rw [hk.complete, hk.waits, List.isEmpty_iff]
  rw [hbits]
  dsimp only
  split
  next hc =>
    obtain ⟨m, hm⟩ := State.newestOnly_cons (s := { s with scan := { s.scan with checkpoints := k :: old }, nand := n.settled }) rfl (by simpa using hc)
    refine ⟨k, _, m, hm, fun x hx => hsub x (List.mem_filter.mp hx).1, fun y _ hk => ?_, hcomplete, hk.waits, hk.imageId, hk.begunAt, hk.digestOk, hk.stale,
      hk.forces, hk.mem⟩
    simp [hk] at hc
  next hc =>
    exact ⟨k, old, _, rfl, hsub, fun y hy _ => hbest y hy, hcomplete, hk.waits, hk.imageId, hk.begunAt, hk.digestOk, hk.stale, hk.forces, hk.mem⟩

/-! ### Restarts (R113) -/

/-- A scan that has stopped, with the contents of its image placed anew. -/
def State.placedAnew (s : State) : State := (((s.scanStop.trimCheckpoints).placeImage).startPoints).loopClear

/-- The same with the warm data of the checkpoint of a warm start. -/
def State.replaced (s : State) : Option Checkpoint → State
  | some c => s.placedAnew.restoreWarm c
  | none => { s.placedAnew with scan := { s.placedAnew.scan with tilesOut := 0 } }

/-- The age in seconds of the checkpoint of a warm start, at most 24 bits of it (R113). -/
def State.warmAge (s : State) (k : Option Checkpoint) : Nat := (k.map (fun c => min (s.appliedSec - c.begunAt) 0xFFFFFF)).getD 0

theorem State.warmAge_none (s : State) : s.warmAge none = 0 := by rw [State.warmAge, Option.map_none, Option.getD_none]

theorem State.warmAge_some (s : State) (c : Checkpoint) : s.warmAge (some c) = min (s.appliedSec - c.begunAt) 0xFFFFFF := by
  rw [State.warmAge, Option.map_some, Option.getD_some]

/-- A restarted state before its event, by the checkpoint it is warm from and the REASON. -/
def State.restarted (s : State) (k : Option Checkpoint) (reason : Nat) : State :=
  let s := (((s.scanStop.trimCheckpoints).placeImage).startPoints).loopClear
  let s := match k with
    | some c => s.restoreWarm c
    | none => { s with scan := { s.scan with tilesOut := 0 } }
  let age := match k with
    | some c => min (s.appliedSec - c.begunAt) 0xFFFFFF
    | none => 0
  let s := s.wr Reg.SCAN_RESTART_STAT (wd ((if k.isSome then 1 else 0) + reason * 16 + age * 256))
  let s := s.lessons.foldl (fun s p => s.setLesson p.1 { p.2 with start := if k.isSome then 2 else 1, notBefore := 0 }) s
  { s with scan := { s.scan with retentiveLost := none, firstStart := false } }

theorem State.restartScan_eq {s : State} {cold : Bool} {k : Option Checkpoint} {reason : Nat} (h : s.restartRule cold = (k, reason)) :
    s.restartScan cold true = (State.outputsUpdate (s.restarted k reason).restartEvent).bellsStart := by
  unfold State.restartScan
  rw [h]
  rfl

theorem State.trimCheckpoints_keeps (s : State) : s.trimCheckpoints.scan.current = s.scan.current ∧ s.trimCheckpoints.time = s.time ∧
    s.trimCheckpoints.cnt = s.cnt := by
  obtain ⟨n, h⟩ := s.keepCheckpoints_frame (fun k =>
    (s.scan.checkpoints.find? (·.complete)).map (·.area) == some k.area || (s.scan.checkpoints.head?).map (·.area) == some k.area)
  have htrim : s.trimCheckpoints = _ := h
  rw [htrim]
  exact ⟨rfl, rfl, rfl⟩

theorem State.placedAnew_keeps (s : State) : s.placedAnew.scan.current = s.scan.current ∧ s.placedAnew.time = s.time ∧ s.placedAnew.cnt = s.cnt := by
  have hstop := s.scanStop_programKept
  obtain ⟨hcurrent, htime, hcnt⟩ := s.scanStop.trimCheckpoints_keeps
  have hplaced : s.scanStop.trimCheckpoints.ProgramKept s.placedAnew :=
    ((State.placeImage_programKept _).trans (State.startPoints_programKept _)).trans (State.loopClear_programKept _)
  exact ⟨hplaced.current.trans (hcurrent.trans hstop.current), hplaced.time.trans (htime.trans hstop.time), hplaced.cnt.trans (hcnt.trans hstop.cnt)⟩

theorem State.tilesBack_programKept (s : State) : s.ProgramKept { s with scan := { s.scan with tilesOut := 0 } } := ⟨rfl, rfl, rfl, rfl, rfl, rfl, rfl, rfl⟩

/-- Contents placed for a restart leave the current image and the applied time. -/
theorem State.replaced_keeps (s : State) (k : Option Checkpoint) : (s.replaced k).scan.current = s.scan.current ∧
    (s.replaced k).appliedSec = s.appliedSec := by
  obtain ⟨hcurrent, htime, hcnt⟩ := s.placedAnew_keeps
  have hwarm : s.placedAnew.ProgramKept (s.replaced k) := by
    cases k with
    | none => exact State.tilesBack_programKept _
    | some c => exact State.restoreWarm_programKept _ c
  refine ⟨hwarm.current.trans hcurrent, ?_⟩
  unfold State.appliedSec State.appliedNs
  rw [hwarm.time.trans htime, hwarm.cnt.trans hcnt]

theorem State.restarted_facts (s : State) (k : Option Checkpoint) (reason : Nat) :
    (s.restarted k reason).scan.current = s.scan.current ∧ (s.restarted k reason).scan.firstStart = false ∧
      (s.restarted k reason).rd Reg.SCAN_RESTART_STAT = wd ((if k.isSome then 1 else 0) + reason * 16 + s.warmAge k * 256) := by
  obtain ⟨hcurrent, hsec⟩ := s.replaced_keeps k
  unfold State.restarted
  extract_lets t _ u age v w
  have hu : u = s.replaced k := by
    cases k with
    | none => rfl
    | some c => rfl
  rw [← hu] at hcurrent hsec
  clear_value u
  have hage : age = s.warmAge k := by
    cases k with
    | none => rfl
    | some c =>
      simp only [age]
      rw [State.warmAge_some, hsec]
  obtain ⟨l, hlessons⟩ := State.setLessons_frame (fun p : Nat × Lesson => p.1)
    (fun p => { p.2 with start := if k.isSome then 2 else 1, notBefore := 0 }) v.lessons v
  have hw : w = { v with scan := { v.scan with lessons := l } } := hlessons
  clear_value age w
  subst hw hage
  exact ⟨hcurrent, rfl, State.rd_wr_same u _ _⟩

/-- A cold restart (R113): the reason is the command. -/
theorem State.restartRule_cold {s : State} (h : s.scan.retentiveLost = none) : s.restartRule true = (none, 1) := by
  simp [State.restartRule, h]

/-- A warm restart from the checkpoint that WARM_RESTART has just taken (R112, R113). -/
theorem State.restartRule_warm {s : State} (h : s.scan.retentiveLost = none) (hc : s.bit Reg.SCAN_RESTART_CFG 0 = true) {k : Checkpoint}
    {rest : List Checkpoint} (hk : s.scan.checkpoints = k :: rest) (hcomplete : k.complete = true) (hdigest : k.digestOk = true)
    (hid : k.imageId = s.currentId) (hstale : k.stale = false) : s.restartRule false = (some k, 0) := by
  simp [State.restartRule, h, hc, hk, hcomplete, hdigest, hid, hstale]

/-- A restart of either kind: its event, the outputs, and the bells. -/
theorem State.restartScan_facts {s : State} {cold : Bool} {k : Option Checkpoint} {reason : Nat} (h : s.restartRule cold = (k, reason)) :
    let t := s.restartScan cold true
    t.bit Reg.SCAN_CTRL 0 = true ∧ t.bit Reg.SCAN_STAT 0 = true ∧ t.scan.t0 = t.cnt ∧ t.scan.rung = Vector.replicate 8 0 ∧
      t = (State.outputsUpdate (s.restarted k reason).restartEvent).bellsStart := by
  intro t
  have ht : t = (State.outputsUpdate (s.restarted k reason).restartEvent).bellsStart := State.restartScan_eq h
  obtain ⟨hctrl, hstat, hscan, hcnt, -, -⟩ := (State.outputsUpdate (s.restarted k reason).restartEvent).bellsStart_facts
  refine ⟨by rw [ht, hctrl], by rw [ht, hstat], ?_, ?_, ht⟩
  · rw [ht, hscan, hcnt]
  · rw [ht, hscan]

/-! ### WARM_RESTART -/

theorem State.MemOnly.trans {s t u : State} (h : s.MemOnly t) (k : t.MemOnly u) : s.MemOnly u := by
  obtain ⟨_, _, rfl⟩ := h
  obtain ⟨_, _, rfl⟩ := k
  exact ⟨_, _, rfl⟩

theorem State.MemOnly.foldl {α : Type} (f : State → α → State) (h : ∀ (s : State) (a : α), s.MemOnly (f s a)) :
    ∀ (l : List α) (s : State), s.MemOnly (l.foldl f s)
  | [], s => .refl s
  | a :: l, s => (h s a).trans (State.MemOnly.foldl f h l (f s a))

theorem State.copyLine_memOnly (s : State) (a b : Nat) : s.MemOnly (s.copyLine a b) := by
  unfold State.copyLine
  extract_lets t
  have ht : s.MemOnly t := (State.MemOnly.refl s).storeAt _ _
  clear_value t
  refine ht.trans (.foldl _ (fun u i => ?_) _ t)
  split
  · exact ⟨_, _, rfl⟩
  · exact .refl u

theorem State.regs_dropLessons : ∀ (l : List (Nat × Lesson)) (s : State), (l.foldl (fun s p =>
    (s.restoreState (coreId p.2.decl.core) p.2.dirty).setLesson p.1 { p.2 with phase := .idle, demoted := none, exhausted := false, dirty := [] }) s).regs = s.regs
  | [], _ => rfl
  | p :: l, s => by
    rw [List.foldl_cons, State.regs_dropLessons l]
    obtain ⟨_, _, h⟩ : s.MemOnly (s.restoreState (coreId p.2.decl.core) p.2.dirty) := .foldl _ (fun u _ => State.copyLine_memOnly u _ _) _ s
    exact (congrArg State.regs h).trans rfl

/-- Stopping the scan leaves the restart's configuration. -/
theorem State.restartCfg_scanStop (s : State) : s.scanStop.bit Reg.SCAN_RESTART_CFG 0 = s.bit Reg.SCAN_RESTART_CFG 0 := by
  have hdrop : s.dropPeriods.rd Reg.SCAN_RESTART_CFG = s.rd Reg.SCAN_RESTART_CFG := by
    unfold State.dropPeriods
    extract_lets was t _ _ _ _ _ u
    have hu : u.regs = s.regs := State.regs_dropLessons _ s
    rw [(State.settleSlots_homesOnly u was).low _ (by decide), State.rd, hu, State.rd]
  refine State.bit_of_rd ?_ 0
  rw [State.scanStop, State.runStop, State.rd_setBit_ne _ _ _ (by decide), State.rd_setBit_ne _ _ _ (by decide), hdrop]

/-- What WARM_RESTART restarts from: the checkpoint it has just taken, of age 0 (R112, R113). -/
theorem State.restartRule_warmRestart {s : State} (h : s.scan.retentiveLost = none) (hc : s.bit Reg.SCAN_RESTART_CFG 0 = true) :
    ∃ k, s.scanStop.checkpoint.restartRule false = (some k, 0) ∧ s.scanStop.checkpoint.warmAge (some k) = 0 := by
  have hlost : s.scanStop.scan.retentiveLost = none := s.scanStop_programKept.lost.trans h
  have hcfg : s.scanStop.bit Reg.SCAN_RESTART_CFG 0 = true := s.restartCfg_scanStop.trans hc
  generalize s.scanStop = t at hlost hcfg
  obtain ⟨k, hk, hbegun⟩ := t.beginCheckpoint_begun []
  have hcheck : t.checkpoint = _ := hk
  have hlost' : t.checkpoint.scan.retentiveLost = none := hlost
  have hcfg' : t.checkpoint.bit Reg.SCAN_RESTART_CFG 0 = true := hcfg
  have hnewest : t.checkpoint.scan.checkpoints = k :: t.scan.checkpoints := by rw [hcheck]
  have hsec : t.checkpoint.appliedSec = t.appliedSec := rfl
  refine ⟨k, State.restartRule_warm hlost' hcfg' hnewest hbegun.complete hbegun.digestOk hbegun.imageId hbegun.stale, ?_⟩
  rw [State.warmAge_some, hbegun.begunAt, hsec, Nat.sub_self, Nat.zero_min]

theorem State.restartCmd_cold {s : State} (h : s.progState < 2 ∨ 7 < s.progState) : s.restartCmd true = s.restartScan true true := by
  rw [State.restartCmd, if_neg (by omega), if_pos rfl]

theorem State.restartCmd_warm {s : State} (h : s.progState < 2 ∨ 7 < s.progState) :
    s.restartCmd false = s.scanStop.checkpoint.restartScan false true := by
  rw [State.restartCmd, if_neg (by omega), if_neg (by decide)]

/-- Settles O24: each command by its guard, then what it writes; of placing an image and of a restart it needs only what they leave alone. -/
theorem programsRun : Obligations.ProgramsRun := by
  refine ⟨fun s m => ?_, fun s m => ?_, fun s w hw => ?_, fun s core w hw => ?_, fun s => ?_, fun s m => ?_⟩
  case refine_1 =>
    intro u hobeys
    have hrun : ∀ {i : Instr} {f : State → State}, exec i s = .next (s.asPrefect m f) → exec i s = .next (f u) :=
      fun h => h.trans (congrArg _ (State.asPrefect_obeys hobeys _))
    have hstart : exec (.scanRunStart m) s = .next u.prefectRun := hrun rfl
    refine ⟨fun hon => ?_, fun hoff => ?_, u.runStop, hrun rfl, u.runStop_stops⟩
    · rw [hstart, State.prefectRun, if_pos hon]
    · obtain ⟨v, hv, hcnt, hpoints, hmem⟩ := State.prefectRun_starts hoff
      obtain ⟨hctrl, hstat, hscan, hc, hp, hbell⟩ := v.bellsStart_facts
      refine ⟨v.bellsStart, hstart.trans (congrArg _ hv), hctrl, hstat, ?_, hc.trans hcnt, ?_, hbell, hp.trans hpoints, ?_⟩
      · rw [hscan, hc]
      · rw [hscan]
      · rw [hscan]
        exact hmem
  case refine_2 =>
    intro u idle hobeys
    have hrun : ∀ {i : Instr} {f : State → State}, exec i s = .next (s.asPrefect m f) → exec i s = .next (f u) :=
      fun h => h.trans (congrArg _ (State.asPrefect_obeys hobeys _))
    have hload : exec (.progLoad m) s = .next u.progLoad := hrun rfl
    have harm : exec (.progArm m) s = .next u.progArm := hrun rfl
    refine ⟨fun hst hidle => ?_, fun hno => ?_, ?_⟩
    · refine ⟨_, hload.trans (congrArg _ (State.progLoad_loads hst hidle)), u.loaded, u.loadImage_eq, u.loaded_facts⟩
    · exact ⟨_, hload.trans (congrArg _ (State.progLoad_refuses hno)), u.outOfSequence_refuses⟩
    · intro cls ok
      refine ⟨fun hst hok hr => ?_, fun code item kind hst hok hr => ?_, fun hno => ?_⟩
      · refine ⟨_, harm.trans (congrArg _ ((State.progArm_ready hst hok).1 hr)), u.armedSwitch, rfl, ?_, ?_, State.bit_setBit_same _ _ _ _ (by decide),
          rfl, ?_, rfl, rfl, rfl⟩
        · exact (State.setProg_onlyRegs _ 4).wr _ (by decide)
        · rw [State.progState, State.fld_setBit_apart _ _ _ _ _ _ (by decide) (by decide)]
          exact State.progState_setProg _ (by decide)
        · exact Nat.mod_eq_of_lt (Nat.mod_lt _ (by decide))
      · obtain ⟨v, hv, honly, hprog, hdetail, -⟩ := u.refuseImage_records code item kind
        exact ⟨_, harm.trans (congrArg _ ((State.progArm_ready hst hok).2 _ _ _ hr)), v, hv, honly, hprog, hdetail⟩
      · exact ⟨_, harm.trans (congrArg _ (State.progArm_refuses hno)), u.outOfSequence_refuses⟩
  case refine_3 =>
    refine ⟨fun hst => congrArg Host.Outcome.next (State.stagingDone_idle hst), fun hst hmiss => ?_, fun hst hmiss => ?_⟩
    · exact ⟨_, congrArg Host.Outcome.next (State.stagingDone_arms hw hst hmiss).1, (State.stagingDone_arms hw hst hmiss).2⟩
    · obtain ⟨v, hv, honly, hprog, -, herr⟩ := State.refuseImage_records { s with scan := { s.scan with switch := none } } 19 0 0
      exact ⟨_, congrArg Host.Outcome.next (State.stagingDone_misses hw hst hmiss), v, hv, honly, hprog, herr⟩
  case refine_4 =>
    refine ⟨fun hb => ?_, fun hb ha hi => ?_⟩
    · exact congrArg Host.Outcome.next (State.switchRelease_stays hw hb)
    · obtain ⟨v, x, hrel, himage⟩ := State.switchRelease_last hw hb ha hi
      obtain ⟨hcurrent, hswitch, hstaged, hprog⟩ := v.switchEnd_facts x
      exact ⟨_, rfl, v.switchEnd x, hrel, hcurrent.trans himage, hswitch, hstaged, hprog⟩
  case refine_5 =>
    refine ⟨fun h0 => ?_, fun h0 => ⟨_, ?_, s.periodicCheckpoint_begins⟩⟩
    · rw [exec_periodicCheckpoint, execPeriodicCheckpoint, if_pos h0]
    · rw [exec_periodicCheckpoint, execPeriodicCheckpoint, if_neg h0]
  case refine_6 =>
    intro u hobeys
    have hrun : ∀ {i : Instr} {f : State → State}, exec i s = .next (s.asPrefect m f) → exec i s = .next (f u) :=
      fun h => h.trans (congrArg _ (State.asPrefect_obeys hobeys _))
    have hcold : exec (.coldRestart m) s = .next (u.restartCmd true) := hrun (f := fun x => x.restartCmd true) rfl
    have hwarm : exec (.warmRestart m) s = .next (u.restartCmd false) := hrun (f := fun x => x.restartCmd false) rfl
    refine ⟨fun hbusy => ?_, fun hfree hlost => ?_, fun hfree hlost hcfg => ?_⟩
    · obtain ⟨honly, -, herr⟩ := u.outOfSequence_refuses
      exact ⟨⟨_, hcold.trans (congrArg _ (if_pos hbusy)), honly, herr⟩, ⟨_, hwarm.trans (congrArg _ (if_pos hbusy)), honly, herr⟩⟩
    · have hcmd : u.restartCmd true = u.restartScan true true := State.restartCmd_cold hfree
      obtain ⟨hctrl, hstat, ht0, hrung, heq⟩ := State.restartScan_facts (State.restartRule_cold hlost)
      obtain ⟨hcurrent, hfirst, hword⟩ := u.restarted_facts none 1
      rw [State.warmAge_none] at hword
      exact ⟨_, hcold.trans (congrArg _ hcmd), hctrl, hstat, ht0, hrung, _, heq, hword.trans (by decide), hcurrent, hfirst⟩
    · have hcmd : u.restartCmd false = u.scanStop.checkpoint.restartScan false true := State.restartCmd_warm hfree
      obtain ⟨k, hrule, hage⟩ := State.restartRule_warmRestart hlost hcfg
      obtain ⟨hctrl, hstat, ht0, -, heq⟩ := State.restartScan_facts hrule
      obtain ⟨hcurrent, -, hword⟩ := u.scanStop.checkpoint.restarted_facts (some k) 0
      rw [hage] at hword
      exact ⟨_, hwarm.trans (congrArg _ hcmd), hctrl, hstat, ht0, _, heq, hword, hcurrent.trans u.scanStop_programKept.current⟩

end Sys2Proof.Machine
end

section
/-! The words of instructions (R42 to R45): encoding and decoding are inverse (O58, O59). -/

namespace Sys2Proof.Machine

/-! ### A word put together from its fields (R42) -/

section
variable {w op low : Nat} (hop : w / 2 ^ 26 = op)
include hop

theorem fmtA_of_fields {gd ga gb : BitVec 4} (hd : rGd w = gd) (ha : rGa w = ga) (hb : rGb w = gb) (hlow : low = w % 2 ^ 14) :
    fmtA op gd ga gb low = w := by
  subst hd ha hb
  simp only [fmtA, rGd, rGa, rGb, BitVec.toNat_ofNat]
  omega

theorem fmtI_of_fields {gd ga : BitVec 4} (hd : rGd w = gd) (ha : rGa w = ga) (hlow : low = w % 2 ^ 18) : fmtI op gd ga low = w := by
  subst hd ha
  simp only [fmtI, rGd, rGa, BitVec.toNat_ofNat]
  omega

theorem fmtP_of_fields {gd : BitVec 4} {t : BitVec 3} (hd : rGd w = gd) (ht : t = rT w) (hlow : low = w % 2 ^ 19) : fmtP op gd t low = w := by
  subst hd ht
  simp only [fmtP, rGd, rT, BitVec.toNat_ofNat]
  omega

theorem fmtV_of_fields {bd ba bb : BitVec 3} (hd : rBd w = bd) (ha : rBa w = ba) (hb : rBb w = bb) (hlow : low = w % 2 ^ 17) :
    fmtV op bd ba bb low = w := by
  subst hd ha hb
  simp only [fmtV, rBd, rBa, rBb, BitVec.toNat_ofNat]
  omega

end

theorem fmtS_of_fields {w sub x : Nat} {gd ga : BitVec 4} (hop : w / 2 ^ 26 = 0x3E) (hd : rGd w = gd) (ha : rGa w = ga)
    (hs : w / 2 ^ 12 % 2 ^ 6 = sub) (hx : x = w % 2 ^ 12) : fmtS gd ga sub x = w := by
  subst hd ha
  simp only [fmtS, rGd, rGa, BitVec.toNat_ofNat]
  omega

/-- A register field is 0 exactly where its bits of the word are. -/
theorem ofNat_eq_zero_iff (k n : Nat) : BitVec.ofNat k n = 0 ↔ n % 2 ^ k = 0 := by
  rw [← BitVec.toNat_inj, BitVec.toNat_ofNat]
  simp

/-- A word is the only word of a legal instruction of a core. -/
def IsWordOf (c : CoreId) (w : Nat) (i : Instr) : Prop :=
  wordCore i = some c ∧ operandsLegal i = true ∧ prefixWord i = none ∧ encode i = w

theorem IsWordOf.of_checkOps {c : CoreId} {w : Nat} {i j : Instr} (h : checkOps j = some i) (hc : wordCore j = some c)
    (hp : prefixWord j = none) (he : encode j = w) : IsWordOf c w i := by
  unfold checkOps at h
  split at h
  · cases h
    exact ⟨hc, ‹_›, hp, he⟩
  · cases h

section
variable {c : CoreId} {w : Nat} {i : Instr}


theorem decAlu_isWordOf (hop : w / 2 ^ 26 = 0x00) (h : decAlu c w = some i) : IsWordOf c w i := by
  simp only [decAlu, Option.ite_none_left_eq_some] at h
  obtain ⟨hz, h⟩ := h
  split at h
  case h_24 =>
    obtain ⟨hb, ⟨⟩⟩ := Option.ite_none_right_eq_some.mp h
    exact ⟨rfl, rfl, rfl, fmtA_of_fields hop rfl rfl hb (by omega)⟩
  case h_25 => cases h
  all_goals
    cases h
    exact ⟨rfl, rfl, rfl, fmtA_of_fields hop rfl rfl rfl (by omega)⟩

theorem decMul_isWordOf (hop : w / 2 ^ 26 = 0x01) (h : decMul c w = some i) : IsWordOf c w i := by
  simp only [decMul, Option.ite_none_left_eq_some] at h
  obtain ⟨hz, h⟩ := h
  split at h
  case h_10 => cases h
  all_goals
    cases h
    exact ⟨rfl, rfl, rfl, fmtA_of_fields hop rfl rfl rfl (by omega)⟩

theorem decBit_isWordOf (hop : w / 2 ^ 26 = 0x0B) (h : decBit c w = some i) : IsWordOf c w i := by
  simp only [decBit, Option.ite_none_left_eq_some, not_not] at h
  obtain ⟨hb, h⟩ := h
  split at h
  case h_1 | h_2 | h_3 =>
    refine .of_checkOps h rfl rfl (fmtA_of_fields hop rfl rfl hb ?_)
    simp only [BitVec.toNat_ofNat]
    omega
  case h_8 => cases h
  all_goals
    obtain ⟨hz, ⟨⟩⟩ := Option.ite_none_right_eq_some.mp h
    exact ⟨rfl, rfl, rfl, fmtA_of_fields hop rfl rfl hb (by omega)⟩

theorem decSys_isWordOf (hop : w / 2 ^ 26 = 0x3E) (h : decSys c w = some i) : IsWordOf c w i := by
  have hx : (BitVec.ofNat 12 w).toNat = w % 2 ^ 12 := BitVec.toNat_ofNat w 12
  simp only [decSys] at h
  split at h
  case h_11 => cases h
  case h_3 | h_4 | h_9 | h_10 =>
    obtain ⟨⟨hd, ha⟩, ⟨⟩⟩ := Option.ite_none_right_eq_some.mp h
    exact ⟨rfl, rfl, rfl, fmtS_of_fields hop hd ha ‹_› hx⟩
  case h_6 =>
    obtain ⟨ha, ⟨⟩⟩ := Option.ite_none_right_eq_some.mp h
    exact ⟨rfl, rfl, rfl, fmtS_of_fields hop rfl ha ‹_› hx⟩
  case h_7 =>
    obtain ⟨hd, ⟨⟩⟩ := Option.ite_none_right_eq_some.mp h
    exact ⟨rfl, rfl, rfl, fmtS_of_fields hop hd rfl ‹_› hx⟩
  all_goals
    obtain ⟨⟨hd, ha, h0⟩, ⟨⟩⟩ := Option.ite_none_right_eq_some.mp h
    rw [h0] at hx
    exact ⟨rfl, rfl, rfl, fmtS_of_fields hop hd ha ‹_› hx⟩

theorem bits_of_decPt {pt : PtOp} (h : decPt w = some pt) : pt.bits = w % 2 ^ 19 := by
  unfold decPt at h
  split at h
  · cases h
    simp only [PtOp.bits, BitVec.toNat_ofNat]
    omega
  · obtain ⟨hz, ⟨⟩⟩ := Option.ite_none_right_eq_some.mp h
    simp only [PtOp.bits, BitVec.toNat_ofNat]
    omega

theorem decPoint_isWordOf {op : Nat} (hop : w / 2 ^ 26 = op) (h8 : op / 8 = 4) (h : decPoint c op w = some i) : IsWordOf c w i := by
  unfold decPoint at h
  split at h
  · cases h
  · rename_i pt hpt
    have he := fun k (hk : k = op) => fmtP_of_fields (hop.trans hk.symm) (gd := rGd w) rfl rfl (bits_of_decPt hpt)
    simp only at h
    split at h
    case h_1 | h_5 =>
      cases h
      exact ⟨rfl, rfl, rfl, he _ rfl⟩
    case h_8 g0 g1 g2 g3 g4 g5 g6 =>
      have hne : ¬op = 0x20 ∧ ¬op = 0x21 ∧ ¬op = 0x22 ∧ ¬op = 0x23 ∧ ¬op = 0x24 ∧ ¬op = 0x25 ∧ ¬op = 0x26 :=
        ⟨g0, g1, g2, g3, g4, g5, g6⟩
      exact .of_checkOps h rfl rfl (he _ (by omega))
    all_goals exact .of_checkOps h rfl rfl (he _ rfl)

theorem toNat_decide_mod_two (n : Nat) : (decide (n % 2 = 1)).toNat = n % 2 := by
  rcases Nat.mod_two_eq_zero_or_one n with h | h <;> simp [h]

theorem decVec_lanes_isWordOf (hop : w / 2 ^ 26 = 0x30) (h : decVec c 0x30 w = some i) : IsWordOf c w i := by
  simp only [decVec, Option.ite_none_left_eq_some, not_not] at h
  obtain ⟨hz, h⟩ := h
  have htt : (decide (w / 2 ^ 16 % 2 = 1)).toNat = w / 2 ^ 16 % 2 := toNat_decide_mod_two _
  split at h
  case h_12 => cases h
  case h_7 | h_8 | h_11 =>
    obtain ⟨hb, ⟨⟩⟩ := Option.ite_none_right_eq_some.mp h
    exact ⟨rfl, rfl, rfl, fmtV_of_fields hop rfl rfl hb (by omega)⟩
  all_goals
    cases h
    exact ⟨rfl, rfl, rfl, fmtV_of_fields hop rfl rfl rfl (by omega)⟩

theorem decVec_bcast_isWordOf (hop : w / 2 ^ 26 = 0x31) (h : decVec c 0x31 w = some i) : IsWordOf c w i := by
  simp only [decVec, Option.ite_none_left_eq_some, not_not] at h
  obtain ⟨hz, h⟩ := h
  refine .of_checkOps h rfl rfl (fmtV_of_fields hop rfl rfl rfl ?_)
  simp only [toNat_decide_mod_two, BitVec.toNat_ofNat]
  omega

theorem decVec_memory_isWordOf (hop : w / 2 ^ 26 = 0x32) (h : decVec c 0x32 w = some i) : IsWordOf c w i := by
  simp only [decVec, Option.ite_none_left_eq_some, not_or, not_not] at h
  obtain ⟨⟨ha, hb⟩, h⟩ := h
  split at h <;> cases h
  all_goals
    refine ⟨rfl, rfl, rfl, fmtV_of_fields hop rfl ha hb ?_⟩
    simp only [rG13, BitVec.toNat_ofNat]
    omega

theorem decVec_lane_isWordOf (hop : w / 2 ^ 26 = 0x33) (h : decVec c 0x33 w = some i) : IsWordOf c w i := by
  simp only [decVec, Option.ite_none_left_eq_some, not_or, not_not] at h
  obtain ⟨⟨ha, hb, hz⟩, h⟩ := h
  have hg : (rG13 w).toNat = w / 2 ^ 13 % 2 ^ 4 := BitVec.toNat_ofNat _ _
  have hlane : (rLane w).toNat = w / 2 ^ 10 % 2 ^ 3 := BitVec.toNat_ofNat _ _
  split at h
  case h_1 | h_2 =>
    cases h
    exact ⟨rfl, rfl, rfl, fmtV_of_fields hop rfl ha hb (by omega)⟩
  case h_3 =>
    obtain ⟨hl, ⟨⟩⟩ := Option.ite_none_right_eq_some.mp h
    have hl := (ofNat_eq_zero_iff 3 _).mp hl
    exact ⟨rfl, rfl, rfl, fmtV_of_fields hop rfl ha hb (by omega)⟩
  case h_4 h0 h1 h2 =>
    obtain ⟨hl, ⟨⟩⟩ := Option.ite_none_right_eq_some.mp h
    have hl := (ofNat_eq_zero_iff 3 _).mp hl
    have hsub : ¬w / 2 ^ 8 % 4 = 0 ∧ ¬w / 2 ^ 8 % 4 = 1 ∧ ¬w / 2 ^ 8 % 4 = 2 := ⟨h0, h1, h2⟩
    exact ⟨rfl, rfl, rfl, fmtV_of_fields hop rfl ha hb (by omega)⟩

theorem decVec_convert_isWordOf (hop : w / 2 ^ 26 = 0x34) (h : decVec c 0x34 w = some i) : IsWordOf c w i := by
  simp only [decVec, Option.ite_none_left_eq_some, not_or, not_not] at h
  obtain ⟨⟨ha, hb, hz⟩, h⟩ := h
  split at h
  · cases h
    refine ⟨rfl, rfl, rfl, fmtV_of_fields hop rfl ha hb ?_⟩
    simp only [rG13, rLane, BitVec.toNat_ofNat, toNat_decide_mod_two]
    omega
  · obtain ⟨hl, ⟨⟩⟩ := Option.ite_none_right_eq_some.mp h
    refine ⟨rfl, rfl, rfl, fmtV_of_fields hop rfl ha hb ?_⟩
    simp only [rG13, rLane, BitVec.toNat_ofNat]
    omega

theorem decVec_compare_isWordOf (hop : w / 2 ^ 26 = 0x35) (h : decVec c 0x35 w = some i) : IsWordOf c w i := by
  simp only [decVec, Option.ite_none_left_eq_some, not_or, not_not] at h
  obtain ⟨⟨ha, hz⟩, h⟩ := h
  refine .of_checkOps h rfl rfl (fmtV_of_fields hop rfl ha rfl ?_)
  simp only [rG13, BitVec.toNat_ofNat]
  omega

theorem decVec_splat_isWordOf (hop : w / 2 ^ 26 = 0x36) (h : decVec c 0x36 w = some i) : IsWordOf c w i := by
  simp only [decVec, Option.ite_none_left_eq_some, not_or, not_not] at h
  obtain ⟨⟨ha, hb, hz⟩, h⟩ := h
  have hg : (rG13 w).toNat = w / 2 ^ 13 % 2 ^ 4 := BitVec.toNat_ofNat _ _
  split at h
  · cases h
    exact ⟨rfl, rfl, rfl, fmtV_of_fields hop rfl ha hb (by omega)⟩
  · obtain ⟨h0, ⟨⟩⟩ := Option.ite_none_right_eq_some.mp h
    have h0 := (ofNat_eq_zero_iff 4 _).mp h0
    exact ⟨rfl, rfl, rfl, fmtV_of_fields hop rfl ha hb (by omega)⟩

theorem decMsg_isWordOf (hop : w / 2 ^ 26 = 0x3D) (h : decMsg c w = some i) : IsWordOf c w i := by
  refine .of_checkOps h rfl rfl ?_
  simp only [encode, rGd, rT, rG13, BitVec.toNat_ofNat, toNat_decide_mod_two]
  omega


theorem decPlain_isWordOf (h : decPlain c w = some i) : IsWordOf c w i := by
  have h18 : (BitVec.ofNat 18 w).toNat = w % 2 ^ 18 := BitVec.toNat_ofNat _ _
  have h17 : (BitVec.ofNat 17 w).toNat = w % 2 ^ 17 := BitVec.toNat_ofNat _ _
  have hzero : ∀ n, n % 2 ^ 4 = 0 → BitVec.ofNat 4 n = 0 := fun n => (ofNat_eq_zero_iff 4 n).mpr
  simp only [decPlain] at h
  split at h <;> rename_i hop
  case h_1 => exact decAlu_isWordOf hop h
  case h_2 => exact decMul_isWordOf hop h
  case h_3 =>
    obtain ⟨hz, ⟨⟩⟩ := Option.ite_none_right_eq_some.mp h
    refine ⟨rfl, rfl, rfl, fmtI_of_fields hop rfl rfl ?_⟩
    simp only [BitVec.toNat_ofNat]
    omega
  case h_5 => exact decBit_isWordOf hop h
  case h_4 | h_12 =>
    obtain ⟨ha, ⟨⟩⟩ := Option.ite_none_right_eq_some.mp h
    exact ⟨rfl, rfl, rfl, fmtI_of_fields hop rfl ha h18⟩
  case h_6 | h_7 | h_8 | h_9 | h_10 | h_11 =>
    cases h
    exact ⟨rfl, rfl, rfl, fmtI_of_fields hop rfl rfl h18⟩
  case h_13 =>
    split at h
    · cases h
      exact ⟨rfl, rfl, rfl, fmtI_of_fields hop rfl rfl (by omega)⟩
    · obtain ⟨hd, ⟨⟩⟩ := Option.ite_none_right_eq_some.mp h
      exact ⟨rfl, rfl, rfl, fmtI_of_fields hop hd rfl (by omega)⟩
  case h_14 | h_15 | h_16 | h_17 | h_18 | h_19 | h_20 | h_21 => exact decPoint_isWordOf rfl (by rw [hop]) h
  case h_22 | h_23 | h_24 =>
    obtain ⟨hz, ⟨⟩⟩ := Option.ite_none_right_eq_some.mp h
    exact ⟨rfl, rfl, rfl, fmtP_of_fields hop rfl rfl hz.symm⟩
  case h_25 =>
    obtain ⟨hz, ⟨⟩⟩ := Option.ite_none_right_eq_some.mp h
    refine ⟨rfl, rfl, rfl, fmtP_of_fields hop rfl ((ofNat_eq_zero_iff 3 _).mpr (by omega)).symm ?_⟩
    simp only [BitVec.toNat_ofNat]
    omega
  case h_26 => exact decVec_lanes_isWordOf hop (hop ▸ h)
  case h_27 => exact decVec_bcast_isWordOf hop (hop ▸ h)
  case h_28 => exact decVec_memory_isWordOf hop (hop ▸ h)
  case h_29 => exact decVec_lane_isWordOf hop (hop ▸ h)
  case h_30 => exact decVec_convert_isWordOf hop (hop ▸ h)
  case h_31 => exact decVec_compare_isWordOf hop (hop ▸ h)
  case h_32 => exact decVec_splat_isWordOf hop (hop ▸ h)
  case h_33 =>
    obtain ⟨hz, ⟨⟩⟩ := Option.ite_none_right_eq_some.mp h
    exact ⟨rfl, rfl, rfl, fmtA_of_fields hop (hzero _ (by omega)) (hzero _ (by omega)) (hzero _ (by omega)) (by omega)⟩
  case h_34 =>
    obtain ⟨hz, ⟨⟩⟩ := Option.ite_none_right_eq_some.mp h
    exact ⟨rfl, rfl, rfl, fmtA_of_fields hop rfl (hzero _ (by omega)) (hzero _ (by omega)) (by omega)⟩
  case h_35 =>
    obtain ⟨⟨hd, hz⟩, ⟨⟩⟩ := Option.ite_none_right_eq_some.mp h
    exact ⟨rfl, rfl, rfl, fmtA_of_fields hop hd rfl (hzero _ (by omega)) (by omega)⟩
  case h_36 =>
    obtain ⟨⟨ha, hb, hz⟩, ⟨⟩⟩ := Option.ite_none_right_eq_some.mp h
    refine ⟨rfl, rfl, rfl, fmtA_of_fields hop rfl ha hb ?_⟩
    simp only [BitVec.toNat_ofNat]
    omega
  case h_37 =>
    split at h
    · cases h
      exact ⟨rfl, rfl, rfl, fmtA_of_fields hop (hzero _ (by omega)) (hzero _ (by omega)) (hzero _ (by omega)) (by omega)⟩
    · obtain ⟨hz, ⟨⟩⟩ := Option.ite_none_right_eq_some.mp h
      exact ⟨rfl, rfl, rfl, fmtA_of_fields hop (hzero _ (by omega)) (hzero _ (by omega)) (hzero _ (by omega)) (by omega)⟩
  case h_38 => exact decMsg_isWordOf hop h
  case h_39 => exact decSys_isWordOf hop h
  case h_40 => cases h

/-- The word of a prefixable instruction, and the prefix word of the immediate it was decoded with (R43). -/
theorem decPrefixable_words {hi : Option Nat} (hhi : ∀ k ∈ hi, k < 2 ^ 14) (h : decPrefixable c hi w = some i) :
    wordCore i = some c ∧ operandsLegal i = true ∧ prefixWord i = hi.map (0x3F * 2 ^ 26 + ·) ∧ encode i = w := by
  have hpre : (decImm hi w).pre = hi.map (0x3F * 2 ^ 26 + ·) := by
    cases hi with
    | none => rfl
    | some k =>
      have hk := hhi k rfl
      simp only [decImm, Imm.pre, BitVec.toNat_ofNat, Option.map_some, Option.some.injEq]
      omega
  have hlow : (decImm hi w).low = w % 2 ^ 18 := by
    cases hi with
    | none => exact BitVec.toNat_ofNat _ _
    | some k =>
      simp only [decImm, Imm.low, BitVec.toNat_ofNat]
      omega
  simp only [decPrefixable] at h
  split at h <;> rename_i hop
  case h_7 =>
    obtain ⟨ha, ⟨⟩⟩ := Option.ite_none_right_eq_some.mp h
    exact ⟨rfl, rfl, hpre, fmtI_of_fields hop rfl ha hlow⟩
  case h_16 => cases h
  all_goals
    cases h
    exact ⟨rfl, rfl, hpre, fmtI_of_fields hop rfl rfl hlow⟩

end

/-- Settles O59: each decoder gives back only an instruction whose fields put together are the word. -/
theorem decodeEncode : Obligations.DecodeEncode := by
  intro c w second i h
  unfold decodeWords at h
  split at h
  case isTrue hop =>
    obtain ⟨hz, h⟩ := Option.ite_none_right_eq_some.mp h
    obtain ⟨hc, hl, hp, he⟩ := decPrefixable_words (by simp; omega) h
    refine ⟨hc, hl, ?_⟩
    rw [encodeWords, hp, he, if_pos hop]
    simp only [Option.map_some, Prod.mk.injEq, and_true]
    omega
  case isFalse hop =>
    have hword : IsWordOf c w i := by
      split at h
      · cases h
        exact decPrefixable_words (hi := none) (by simp) ‹_›
      · exact decPlain_isWordOf h
    obtain ⟨hc, hl, hp, he⟩ := hword
    refine ⟨hc, hl, ?_⟩
    rw [encodeWords, hp, he, if_neg hop]

/-! ### The fields of a word (R42) -/

section
variable {w op low : Nat}

/-- A field of a word that holds a register number reads as it. -/
theorem ofNat_eq_of_mod {k n : Nat} {r : BitVec k} (h : n % 2 ^ k = r.toNat) : BitVec.ofNat k n = r :=
  BitVec.eq_of_toNat_eq ((BitVec.toNat_ofNat n k).trans h)

/-- A flag of a word reads as it. -/
theorem decide_of_mod_two {n : Nat} {b : Bool} (h : n % 2 = b.toNat) : decide (n % 2 = 1) = b := by
  cases b <;> simp [h]

theorem fields_of_fmtA {gd ga gb : BitVec 4} (hlow : low < 2 ^ 14) (hw : w = fmtA op gd ga gb low) :
    w / 2 ^ 26 = op ∧ rGd w = gd ∧ rGa w = ga ∧ rGb w = gb ∧ w % 2 ^ 14 = low := by
  unfold fmtA at hw
  refine ⟨by omega, ofNat_eq_of_mod ?_, ofNat_eq_of_mod ?_, ofNat_eq_of_mod ?_, by omega⟩ <;> omega

theorem fields_of_fmtI {gd ga : BitVec 4} (hlow : low < 2 ^ 18) (hw : w = fmtI op gd ga low) :
    w / 2 ^ 26 = op ∧ rGd w = gd ∧ rGa w = ga ∧ w % 2 ^ 18 = low := by
  unfold fmtI at hw
  refine ⟨by omega, ofNat_eq_of_mod ?_, ofNat_eq_of_mod ?_, by omega⟩ <;> omega

theorem fields_of_fmtP {gd : BitVec 4} {t : BitVec 3} (hlow : low < 2 ^ 19) (hw : w = fmtP op gd t low) :
    w / 2 ^ 26 = op ∧ rGd w = gd ∧ rT w = t ∧ w % 2 ^ 19 = low := by
  unfold fmtP at hw
  refine ⟨by omega, ofNat_eq_of_mod ?_, ofNat_eq_of_mod ?_, by omega⟩ <;> omega

theorem fields_of_fmtV {bd ba bb : BitVec 3} (hlow : low < 2 ^ 17) (hw : w = fmtV op bd ba bb low) :
    w / 2 ^ 26 = op ∧ rBd w = bd ∧ rBa w = ba ∧ rBb w = bb ∧ w % 2 ^ 17 = low := by
  unfold fmtV at hw
  refine ⟨by omega, ofNat_eq_of_mod ?_, ofNat_eq_of_mod ?_, ofNat_eq_of_mod ?_, by omega⟩ <;> omega

theorem fields_of_fmtS {gd ga : BitVec 4} {sub : Nat} (hsub : sub < 2 ^ 6) (hlow : low < 2 ^ 12) (hw : w = fmtS gd ga sub low) :
    w / 2 ^ 26 = 0x3E ∧ rGd w = gd ∧ rGa w = ga ∧ w / 2 ^ 12 % 2 ^ 6 = sub ∧ w % 2 ^ 12 = low := by
  unfold fmtS at hw
  refine ⟨by omega, ofNat_eq_of_mod ?_, ofNat_eq_of_mod ?_, by omega, by omega⟩ <;> omega

end

section
variable {c : CoreId} {i : Instr}

/-- A word that stands alone for an instruction decodes to it, whatever follows it. -/
theorem decodeWords_of_decPlain {w : Nat} (second : Nat) (h : decPlain c w = some i) : decodeWords c w second = some i := by
  have hop : w / 2 ^ 26 ≠ 0x3F := fun hop => by simp only [decPlain, hop, reduceCtorEq] at h
  have hpre : decPrefixable c none w = none := by
    simp only [decPrefixable]
    split <;> rename_i hop
    case h_16 => rfl
    all_goals simp only [decPlain, hop, reduceCtorEq] at h
  rw [decodeWords, if_neg hop, hpre]
  exact h

/-- The words of an instruction decode to it on a core. -/
def WordsDecode (c : CoreId) (i : Instr) : Prop := decodeWords c (encodeWords i).1 (encodeWords i).2 = some i

theorem wordsDecode_plain (hp : prefixWord i = none) (h : decPlain c (encode i) = some i) : WordsDecode c i := by
  rw [WordsDecode, encodeWords, hp]
  exact decodeWords_of_decPlain 0 h

theorem decImm_short {w : Nat} {v : BitVec 18} (h : w % 2 ^ 18 = v.toNat) : decImm none w = .short v :=
  congrArg Imm.short (ofNat_eq_of_mod h)

theorem decImm_prefixed {w : Nat} {v : Word} (h : w % 2 ^ 18 = v.toNat % 2 ^ 18) : decImm (some (v.toNat / 2 ^ 18)) w = .prefixed v :=
  congrArg Imm.prefixed (ofNat_eq_of_mod (by omega))

theorem wordsDecode_imm {op : Nat} {gd ga : BitVec 4} {imm : Imm} (hop : op < 0x3F) (he : encode i = fmtI op gd ga imm.low)
    (hp : prefixWord i = imm.pre)
    (h : ∀ hi w, w / 2 ^ 26 = op → rGd w = gd → rGa w = ga → decImm hi w = imm → decPrefixable c hi w = some i) :
    WordsDecode c i := by
  cases imm with
  | short v =>
    obtain ⟨ho, hd, ha, hlow⟩ := fields_of_fmtI v.isLt he
    rw [WordsDecode, encodeWords, hp, Imm.pre, decodeWords, if_neg (by rw [ho]; omega), h none _ ho hd ha (decImm_short hlow)]
  | prefixed v =>
    obtain ⟨ho, hd, ha, hlow⟩ := fields_of_fmtI (Nat.mod_lt _ (by decide)) he
    have hword : (0x3F * 2 ^ 26 + v.toNat / 2 ^ 18) / 2 ^ 26 = 0x3F ∧ (0x3F * 2 ^ 26 + v.toNat / 2 ^ 18) / 2 ^ 14 % 2 ^ 12 = 0 ∧
        (0x3F * 2 ^ 26 + v.toNat / 2 ^ 18) % 2 ^ 14 = v.toNat / 2 ^ 18 := by omega
    obtain ⟨hpop, hz, hhi⟩ := hword
    rw [WordsDecode, encodeWords, hp, Imm.pre, decodeWords, if_pos hpop, if_pos hz, hhi]
    exact h _ _ ho hd ha (decImm_prefixed hlow)


/-! ### The word of each format, decoded (R48, R49, R51, R56, R61, R70, R71) -/

theorem wordsDecode_fmtA {op low : Nat} {gd ga gb : BitVec 4} (hlow : low < 2 ^ 14) (hp : prefixWord i = none) (he : encode i = fmtA op gd ga gb low)
    (h : ∀ w, w / 2 ^ 26 = op → rGd w = gd → rGa w = ga → rGb w = gb → w % 2 ^ 14 = low → decPlain c w = some i) :
    WordsDecode c i := by
  obtain ⟨ho, hd, ha, hb, hl⟩ := fields_of_fmtA hlow he
  exact wordsDecode_plain hp (h _ ho hd ha hb hl)

theorem wordsDecode_fmtI {op low : Nat} {gd ga : BitVec 4} (hlow : low < 2 ^ 18) (hp : prefixWord i = none) (he : encode i = fmtI op gd ga low)
    (h : ∀ w, w / 2 ^ 26 = op → rGd w = gd → rGa w = ga → w % 2 ^ 18 = low → decPlain c w = some i) :
    WordsDecode c i := by
  obtain ⟨ho, hd, ha, hl⟩ := fields_of_fmtI hlow he
  exact wordsDecode_plain hp (h _ ho hd ha hl)

theorem wordsDecode_fmtP {op low : Nat} {gd : BitVec 4} {t : BitVec 3} (hlow : low < 2 ^ 19) (hp : prefixWord i = none)
    (he : encode i = fmtP op gd t low) (h : ∀ w, w / 2 ^ 26 = op → rGd w = gd → rT w = t → w % 2 ^ 19 = low → decPlain c w = some i) :
    WordsDecode c i := by
  obtain ⟨ho, hd, ht, hl⟩ := fields_of_fmtP hlow he
  exact wordsDecode_plain hp (h _ ho hd ht hl)

theorem wordsDecode_fmtS {gd ga : BitVec 4} {sub : Nat} {x : BitVec 12} (hsub : sub < 2 ^ 6) (hp : prefixWord i = none)
    (he : encode i = fmtS gd ga sub x.toNat)
    (h : ∀ w, rGd w = gd → rGa w = ga → w / 2 ^ 12 % 2 ^ 6 = sub → BitVec.ofNat 12 w = x → decSys c w = some i) :
    WordsDecode c i := by
  obtain ⟨ho, hd, ha, hs, hx⟩ := fields_of_fmtS hsub x.isLt he
  refine wordsDecode_plain hp ?_
  simp only [decPlain, ho]
  exact h _ hd ha hs (ofNat_eq_of_mod hx)

theorem decPlain_eq_decVec {op w : Nat} (ho : w / 2 ^ 26 = op) (hlo : 0x30 ≤ op) (hhi : op ≤ 0x36) : decPlain c w = decVec c op w := by
  interval_cases op <;> simp only [decPlain, ho]

theorem wordsDecode_fmtV {op low : Nat} {bd ba bb : BitVec 3} (hlo : 0x30 ≤ op) (hhi : op ≤ 0x36) (hlow : low < 2 ^ 17) (hp : prefixWord i = none)
    (he : encode i = fmtV op bd ba bb low)
    (h : ∀ w, rBd w = bd → rBa w = ba → rBb w = bb → w % 2 ^ 17 = low → decVec c op w = some i) :
    WordsDecode c i := by
  obtain ⟨ho, hd, ha, hb, hl⟩ := fields_of_fmtV hlow he
  refine wordsDecode_plain hp ?_
  rw [decPlain_eq_decVec ho hlo hhi]
  exact h _ hd ha hb hl

theorem wordsDecode_alu {gd ga gb : BitVec 4} {fn : Nat} (hfn : fn < 2 ^ 6) (hp : prefixWord i = none) (he : encode i = fmtA 0x00 gd ga gb fn)
    (h : ∀ w, rGd w = gd → rGa w = ga → rGb w = gb → w / 2 ^ 6 % 2 ^ 8 = 0 → w % 2 ^ 6 = fn → decAlu c w = some i) :
    WordsDecode c i :=
  wordsDecode_fmtA (by omega) hp he fun w ho hd ha hb hl => by
    simp only [decPlain, ho]
    exact h w hd ha hb (by omega) (by omega)

theorem wordsDecode_mul {gd ga gb : BitVec 4} {fn : Nat} (hfn : fn < 2 ^ 6) (hp : prefixWord i = none) (he : encode i = fmtA 0x01 gd ga gb fn)
    (h : ∀ w, rGd w = gd → rGa w = ga → rGb w = gb → w / 2 ^ 6 % 2 ^ 8 = 0 → w % 2 ^ 6 = fn → decMul c w = some i) :
    WordsDecode c i :=
  wordsDecode_fmtA (by omega) hp he fun w ho hd ha hb hl => by
    simp only [decPlain, ho]
    exact h w hd ha hb (by omega) (by omega)

theorem wordsDecode_bits {gd ga : BitVec 4} {l n : BitVec 5} {sub low : Nat} (hsub : sub < 2 ^ 4)
    (hlow : low = sub * 2 ^ 10 + n.toNat * 2 ^ 5 + l.toNat) (hp : prefixWord i = none) (he : encode i = fmtA 0x0B gd ga 0 low)
    (h : ∀ w, rGd w = gd → rGa w = ga → rGb w = 0 → BitVec.ofNat 5 w = l → BitVec.ofNat 5 (w / 2 ^ 5) = n → w / 2 ^ 10 % 2 ^ 4 = sub →
      decBit c w = some i) :
    WordsDecode c i :=
  wordsDecode_fmtA (by omega) hp he fun w ho hd ha hb hl => by
    simp only [decPlain, ho]
    exact h w hd ha hb (ofNat_eq_of_mod (by omega)) (ofNat_eq_of_mod (by omega)) (by omega)

theorem wordsDecode_count {gd ga : BitVec 4} {sub : Nat} (hsub : sub < 2 ^ 4) (hp : prefixWord i = none)
    (he : encode i = fmtA 0x0B gd ga 0 (sub * 2 ^ 10))
    (h : ∀ w, rGd w = gd → rGa w = ga → rGb w = 0 → w / 2 ^ 10 % 2 ^ 4 = sub → w % 2 ^ 10 = 0 → decBit c w = some i) :
    WordsDecode c i :=
  wordsDecode_fmtA (by omega) hp he fun w ho hd ha hb hl => by
    simp only [decPlain, ho]
    exact h w hd ha hb (by omega) (by omega)

theorem wordsDecode_bare {op low : Nat} (hlow : low < 2 ^ 14) (hp : prefixWord i = none) (he : encode i = fmtA op 0 0 0 low)
    (h : ∀ w, w / 2 ^ 26 = op → w % 2 ^ 26 = low → decPlain c w = some i) : WordsDecode c i :=
  wordsDecode_fmtA hlow hp he fun w ho hd ha hb hl => by
    have hd := (ofNat_eq_zero_iff 4 _).mp hd
    have ha := (ofNat_eq_zero_iff 4 _).mp ha
    have hb := (ofNat_eq_zero_iff 4 _).mp hb
    exact h w ho (by omega)

theorem ptBits_lt (pt : PtOp) : pt.bits < 2 ^ 19 := by
  cases pt <;> simp only [PtOp.bits] <;> omega

theorem decPt_of_bits {w : Nat} {pt : PtOp} (h : w % 2 ^ 19 = pt.bits) : decPt w = some pt := by
  cases pt with
  | imm v =>
    simp only [PtOp.bits] at h
    rw [decPt, if_pos (by omega), ofNat_eq_of_mod (r := v) (by omega)]
  | reg ga =>
    simp only [PtOp.bits] at h
    rw [decPt, if_neg (by omega), if_pos (by omega), ofNat_eq_of_mod (r := ga) (by omega)]

theorem decPlain_eq_decPoint {op w : Nat} (ho : w / 2 ^ 26 = op) (hlo : 0x20 ≤ op) (hhi : op ≤ 0x27) : decPlain c w = decPoint c op w := by
  interval_cases op <;> simp only [decPlain, ho]

theorem wordsDecode_point {op : Nat} {gd : BitVec 4} {t : BitVec 3} {pt : PtOp} (hlo : 0x20 ≤ op) (hhi : op ≤ 0x27) (hp : prefixWord i = none)
    (he : encode i = fmtP op gd t pt.bits) (h : ∀ w, rGd w = gd → rT w = t → decPt w = some pt → decPoint c op w = some i) :
    WordsDecode c i :=
  wordsDecode_fmtP (ptBits_lt pt) hp he fun w ho hd ht hl => (decPlain_eq_decPoint ho hlo hhi).trans (h w hd ht (decPt_of_bits hl))

theorem wordsDecode_lanes {bd ba bb : BitVec 3} {tt : Bool} {fn low : Nat} (hfn : fn < 2 ^ 5) (hlow : low = tt.toNat * 2 ^ 16 + fn)
    (hp : prefixWord i = none) (he : encode i = fmtV 0x30 bd ba bb low)
    (h : ∀ w, rBd w = bd → rBa w = ba → rBb w = bb → decide (w / 2 ^ 16 % 2 = 1) = tt → w / 2 ^ 5 % 2 ^ 11 = 0 → w % 2 ^ 5 = fn →
      decVec c 0x30 w = some i) :
    WordsDecode c i :=
  have htt := tt.toNat_le
  wordsDecode_fmtV (by decide) (by decide) (by omega) hp he fun w hd ha hb hl =>
    h w hd ha hb (decide_of_mod_two (by omega)) (by omega) (by omega)

theorem wordsDecode_lane {bd : BitVec 3} {ga : BitVec 4} {lane : BitVec 3} {sub low : Nat} (hsub : sub < 4)
    (hlow : low = ga.toNat * 2 ^ 13 + lane.toNat * 2 ^ 10 + sub * 2 ^ 8) (hp : prefixWord i = none) (he : encode i = fmtV 0x33 bd 0 0 low)
    (h : ∀ w, rBd w = bd → rBa w = 0 → rBb w = 0 → w % 2 ^ 8 = 0 → rG13 w = ga → rLane w = lane → w / 2 ^ 8 % 4 = sub →
      decVec c 0x33 w = some i) :
    WordsDecode c i :=
  wordsDecode_fmtV (by decide) (by decide) (by omega) hp he fun w hd ha hb hl =>
    h w hd ha hb (by omega) (ofNat_eq_of_mod (by omega)) (ofNat_eq_of_mod (by omega)) (by omega)

theorem checkOps_of_legal (h : operandsLegal i = true) : checkOps i = some i := by rw [checkOps, if_pos h]

/-! ### Instructions whose words take fields of their own -/

theorem wordsDecode_shi {gd ga : BitVec 4} {kind : BitVec 2} {n : BitVec 5} : WordsDecode c (.shi c gd ga kind n) := by
  refine wordsDecode_fmtI (by omega) rfl rfl fun w ho hd ha hl => ?_
  have hz : w / 2 ^ 7 % 2 ^ 11 = 0 := by omega
  have hkind : BitVec.ofNat 2 (w / 2 ^ 5) = kind := ofNat_eq_of_mod (by omega)
  have hn : BitVec.ofNat 5 w = n := ofNat_eq_of_mod (by omega)
  simp only [decPlain, ho, hd, ha, hz, hkind, hn, if_true]

theorem wordsDecode_jr {ga : BitVec 4} {off : BitVec 17} : WordsDecode c (.jr c ga off) := by
  refine wordsDecode_fmtI (by omega) rfl rfl fun w ho hd ha hl => ?_
  have hlink : ¬w / 2 ^ 17 % 2 = 1 := by omega
  have hoff : BitVec.ofNat 17 w = off := ofNat_eq_of_mod (by omega)
  simp only [decPlain, ho, hd, ha, hlink, hoff, if_false, if_true]

theorem wordsDecode_jalr {gd ga : BitVec 4} {off : BitVec 17} : WordsDecode c (.jalr c gd ga off) := by
  refine wordsDecode_fmtI (by omega) rfl rfl fun w ho hd ha hl => ?_
  have hlink : w / 2 ^ 17 % 2 = 1 := by omega
  have hoff : BitVec.ofNat 17 w = off := ofNat_eq_of_mod (by omega)
  simp only [decPlain, ho, hd, ha, hlink, hoff, if_true]

theorem wordsDecode_twaitm {gd : BitVec 4} {mask : BitVec 8} : WordsDecode c (.twaitm c gd mask) := by
  refine wordsDecode_fmtP (by omega) rfl rfl fun w ho hd ht hl => ?_
  have ht := (ofNat_eq_zero_iff 3 _).mp ht
  have hz : w / 2 ^ 8 % 2 ^ 14 = 0 := by omega
  have hmask : BitVec.ofNat 8 w = mask := ofNat_eq_of_mod (by omega)
  simp only [decPlain, ho, hd, hz, hmask, if_true]

theorem wordsDecode_vbcast {op : BitVec 5} {lane bd ba bb : BitVec 3} {tt : Bool} (hlegal : operandsLegal (.vbcast c op lane bd ba bb tt) = true) :
    WordsDecode c (.vbcast c op lane bd ba bb tt) := by
  have hflag := tt.toNat_le
  refine wordsDecode_fmtV (by decide) (by decide) (by omega) rfl rfl fun w hd ha hb hl => ?_
  have hz : w / 2 ^ 8 % 2 ^ 8 = 0 := by omega
  have htt : decide (w / 2 ^ 16 % 2 = 1) = tt := decide_of_mod_two (by omega)
  have hop : BitVec.ofNat 5 (w / 2 ^ 3) = op := ofNat_eq_of_mod (by omega)
  have hlane : BitVec.ofNat 3 w = lane := ofNat_eq_of_mod (by omega)
  simp only [decVec, hd, ha, hb, hz, htt, hop, hlane, ne_eq, not_true_eq_false, if_false, checkOps_of_legal hlegal]

theorem wordsDecode_vld {bd : BitVec 3} {ga : BitVec 4} {off : BitVec 12} : WordsDecode c (.vld c bd ga off) := by
  refine wordsDecode_fmtV (by decide) (by decide) (by omega) rfl rfl fun w hd ha hb hl => ?_
  have hg : rG13 w = ga := ofNat_eq_of_mod (by omega)
  have hs : w / 2 ^ 12 % 2 = 0 := by omega
  have hoff : BitVec.ofNat 12 w = off := ofNat_eq_of_mod (by omega)
  simp only [decVec, hd, ha, hb, hg, hs, hoff, ne_eq, not_true_eq_false, or_self, if_false, if_true]

theorem wordsDecode_vst {bd : BitVec 3} {ga : BitVec 4} {off : BitVec 12} : WordsDecode c (.vst c bd ga off) := by
  refine wordsDecode_fmtV (by decide) (by decide) (by omega) rfl rfl fun w hd ha hb hl => ?_
  have hg : rG13 w = ga := ofNat_eq_of_mod (by omega)
  have hs : ¬w / 2 ^ 12 % 2 = 0 := by omega
  have hoff : BitVec.ofNat 12 w = off := ofNat_eq_of_mod (by omega)
  simp only [decVec, hd, ha, hb, hg, hs, hoff, ne_eq, not_true_eq_false, or_self, if_false]

theorem wordsDecode_vcvt {ga : BitVec 4} {bd lane : BitVec 3} {scale : BitVec 6} {tt : Bool} : WordsDecode c (.vcvt c ga bd lane scale tt) := by
  have hflag := tt.toNat_le
  refine wordsDecode_fmtV (by decide) (by decide) (by omega) rfl rfl fun w hd ha hb hl => ?_
  have hz : w % 4 = 0 := by omega
  have hg : rG13 w = ga := ofNat_eq_of_mod (by omega)
  have hlane : rLane w = lane := ofNat_eq_of_mod (by omega)
  have hs : w / 2 ^ 9 % 2 = 0 := by omega
  have hscale : BitVec.ofNat 6 (w / 2 ^ 3) = scale := ofNat_eq_of_mod (by omega)
  have htt : decide (w / 2 ^ 2 % 2 = 1) = tt := decide_of_mod_two (by omega)
  simp only [decVec, hd, ha, hb, hz, hg, hlane, hs, hscale, htt, ne_eq, not_true_eq_false, or_self, if_false, if_true]

theorem wordsDecode_vcvtf {bd : BitVec 3} {ga : BitVec 4} {lane : BitVec 3} {scale : BitVec 6} : WordsDecode c (.vcvtf c bd ga lane scale) := by
  refine wordsDecode_fmtV (by decide) (by decide) (by omega) rfl rfl fun w hd ha hb hl => ?_
  have hz : w % 4 = 0 := by omega
  have hg : rG13 w = ga := ofNat_eq_of_mod (by omega)
  have hlane : rLane w = lane := ofNat_eq_of_mod (by omega)
  have hs : ¬w / 2 ^ 9 % 2 = 0 := by omega
  have hscale : BitVec.ofNat 6 (w / 2 ^ 3) = scale := ofNat_eq_of_mod (by omega)
  have hflag : w / 2 ^ 2 % 2 = 0 := by omega
  simp only [decVec, hd, ha, hb, hz, hg, hlane, hs, hscale, hflag, ne_eq, not_true_eq_false, or_self, if_false, if_true]

theorem wordsDecode_vcmp {ga : BitVec 4} {bd bb cond : BitVec 3} (hlegal : operandsLegal (.vcmp c ga bd bb cond) = true) :
    WordsDecode c (.vcmp c ga bd bb cond) := by
  refine wordsDecode_fmtV (by decide) (by decide) (by omega) rfl rfl fun w hd ha hb hl => ?_
  have hz : w / 2 ^ 3 % 2 ^ 10 = 0 := by omega
  have hg : rG13 w = ga := ofNat_eq_of_mod (by omega)
  have hcond : BitVec.ofNat 3 w = cond := ofNat_eq_of_mod (by omega)
  simp only [decVec, hd, ha, hb, hz, hg, hcond, ne_eq, not_true_eq_false, or_self, if_false, checkOps_of_legal hlegal]

theorem wordsDecode_vsplat {bd : BitVec 3} {ga : BitVec 4} : WordsDecode c (.vsplat c bd ga) := by
  refine wordsDecode_fmtV (by decide) (by decide) (by omega) rfl rfl fun w hd ha hb hl => ?_
  have hz : w / 2 % 2 ^ 12 = 0 := by omega
  have hg : rG13 w = ga := ofNat_eq_of_mod (by omega)
  have hs : w % 2 = 0 := by omega
  simp only [decVec, hd, ha, hb, hz, hg, hs, ne_eq, not_true_eq_false, or_self, if_false, if_true]

theorem wordsDecode_vzero {bd : BitVec 3} : WordsDecode c (.vzero c bd) := by
  refine wordsDecode_fmtV (by decide) (by decide) (by omega) rfl rfl fun w hd ha hb hl => ?_
  have hz : w / 2 % 2 ^ 12 = 0 := by omega
  have hg : rG13 w = 0 := (ofNat_eq_zero_iff 4 _).mpr (by omega)
  have hs : ¬w % 2 = 0 := by omega
  simp only [decVec, hd, ha, hb, hz, hg, hs, ne_eq, not_true_eq_false, or_self, if_false, if_true]

theorem wordsDecode_lslack {gd : BitVec 4} : WordsDecode c (.lslack c gd) := by
  refine wordsDecode_fmtA (by decide) rfl rfl fun w ho hd ha hb hl => ?_
  have ha := (ofNat_eq_zero_iff 4 _).mp ha
  have hb := (ofNat_eq_zero_iff 4 _).mp hb
  have hz : w % 2 ^ 22 = 0 := by omega
  simp only [decPlain, ho, hd, hz, if_true]

theorem wordsDecode_lsleep {ga : BitVec 4} : WordsDecode c (.lsleep c ga) := by
  refine wordsDecode_fmtA (by decide) rfl rfl fun w ho hd ha hb hl => ?_
  have hb := (ofNat_eq_zero_iff 4 _).mp hb
  have hz : w % 2 ^ 18 = 0 := by omega
  simp only [decPlain, ho, hd, ha, hz, and_self, if_true]

theorem wordsDecode_lbell {gd : BitVec 4} {cls : BitVec 3} : WordsDecode c (.lbell c gd cls) := by
  refine wordsDecode_fmtA (by omega) rfl rfl fun w ho hd ha hb hl => ?_
  have hz : w / 2 ^ 3 % 2 ^ 11 = 0 := by omega
  have hcls : BitVec.ofNat 3 w = cls := ofNat_eq_of_mod (by omega)
  simp only [decPlain, ho, hd, ha, hb, hz, hcls, and_self, if_true]

theorem wordsDecode_emsg {gd : BitVec 4} {t : BitVec 3} {unit : BitVec 2} {typ : BitVec 10} {ga : BitVec 4} {len : BitVec 2} {reply : Bool}
    (hlegal : operandsLegal (.emsg c gd t unit typ ga len reply) = true) :
    WordsDecode c (.emsg c gd t unit typ ga len reply) := by
  refine wordsDecode_plain rfl ?_
  have hflag := reply.toNat_le
  generalize hw : encode _ = w
  simp only [encode] at hw
  have ho : w / 2 ^ 26 = 0x3D := by omega
  have hd : rGd w = gd := ofNat_eq_of_mod (by omega)
  have ht : rT w = t := ofNat_eq_of_mod (by omega)
  have hu : BitVec.ofNat 2 (w / 2 ^ 17) = unit := ofNat_eq_of_mod (by omega)
  have hy : BitVec.ofNat 10 w = typ := ofNat_eq_of_mod (by omega)
  have hg : rG13 w = ga := ofNat_eq_of_mod (by omega)
  have hlen : BitVec.ofNat 2 (w / 2 ^ 11) = len := ofNat_eq_of_mod (by omega)
  have hr : decide (w / 2 ^ 10 % 2 = 1) = reply := decide_of_mod_two (by omega)
  simp only [decPlain, ho, decMsg, hd, ht, hu, hy, hg, hlen, hr, checkOps_of_legal hlegal]

end

/-- Settles O58, by cases on the instruction: each field of its word reads as the operand put there. -/
theorem encodeDecode : Obligations.EncodeDecode := by
  intro i c hc hlegal
  cases i with
  | add _ gd ga gb | sub _ gd ga gb | and _ gd ga gb | or _ gd ga gb | xor _ gd ga gb | nor _ gd ga gb | andn _ gd ga gb | slt _ gd ga gb
  | sltu _ gd ga gb | seq _ gd ga gb | sll _ gd ga gb | srl _ gd ga gb | sra _ gd ga gb | ror _ gd ga gb | min _ gd ga gb | max _ gd ga gb
  | minu _ gd ga gb | maxu _ gd ga gb | addv _ gd ga gb | subv _ gd ga gb | adds _ gd ga gb | subs _ gd ga gb | sel _ gd ga gb | abs _ gd ga =>
    cases hc
    exact wordsDecode_alu (by decide) rfl rfl fun _ hd ha hb hz hf => by
      simp only [decAlu, hd, ha, hb, hz, hf, ne_eq, not_true_eq_false, if_false, if_true]
  | mul _ gd ga gb | mulh _ gd ga gb | mulhu _ gd ga gb | mulv _ gd ga gb | div _ gd ga gb | divu _ gd ga gb | rem _ gd ga gb | remu _ gd ga gb
  | mulq _ gd ga gb =>
    cases hc
    exact wordsDecode_mul (by decide) rfl rfl fun _ hd ha hb hz hf => by
      simp only [decMul, hd, ha, hb, hz, hf, ne_eq, not_true_eq_false, if_false]
  | addi _ gd ga imm | andi _ gd ga imm | ori _ gd ga imm | xori _ gd ga imm | slti _ gd ga imm | sltiu _ gd ga imm | li _ gd imm | lw _ gd ga imm
  | lh _ gd ga imm | lhu _ gd ga imm | lb _ gd ga imm | lbu _ gd ga imm | sw _ gd ga imm | sh _ gd ga imm | sb _ gd ga imm =>
    cases hc
    exact wordsDecode_imm (by decide) rfl rfl fun _ _ ho hd ha hi => by simp only [decPrefixable, ho, hd, ha, hi, if_true]
  | shi =>
    cases hc
    exact wordsDecode_shi
  | lui _ gd v | jal _ gd v =>
    cases hc
    exact wordsDecode_fmtI v.isLt rfl rfl fun w ho hd ha hl => by simp only [decPlain, ho, hd, ha, if_true, ofNat_eq_of_mod hl]
  | beq _ ga gb off | bne _ ga gb off | blt _ ga gb off | bge _ ga gb off | bltu _ ga gb off | bgeu _ ga gb off =>
    cases hc
    exact wordsDecode_fmtI off.isLt rfl rfl fun w ho hd ha hl => by simp only [decPlain, ho, hd, ha, ofNat_eq_of_mod hl]
  | jr =>
    cases hc
    exact wordsDecode_jr
  | jalr =>
    cases hc
    exact wordsDecode_jalr
  | extu _ gd ga l n =>
    cases hc
    exact wordsDecode_bits (l := l) (n := n) (sub := 0) (by decide) (by omega) rfl rfl fun w hd ha hb h0 h1 hs => by
      simp only [decBit, hd, ha, hb, h0, h1, hs, ne_eq, not_true_eq_false, if_false, checkOps_of_legal hlegal]
  | exts _ gd ga l n | ins _ gd ga l n =>
    cases hc
    exact wordsDecode_bits (by decide) rfl rfl rfl fun w hd ha hb h0 h1 hs => by
      simp only [decBit, hd, ha, hb, h0, h1, hs, ne_eq, not_true_eq_false, if_false, checkOps_of_legal hlegal]
  | clz _ gd ga | ctz _ gd ga | popc _ gd ga | bswap _ gd ga =>
    cases hc
    exact wordsDecode_count (by decide) rfl rfl fun w hd ha hb hs hz => by
      simp only [decBit, hd, ha, hb, hs, hz, ne_eq, not_true_eq_false, if_false]
      rfl
  | nop | fence | eret | wait =>
    cases hc
    exact wordsDecode_fmtS (x := 0) (by decide) rfl rfl fun w hd ha hs hx => by simp only [decSys, hd, ha, hs, hx, and_self, if_true]
  | brk _ code | trap _ code | ien _ code | idis _ code =>
    cases hc
    exact wordsDecode_fmtS (x := code) (by decide) rfl rfl fun w hd ha hs hx => by simp only [decSys, hd, ha, hs, hx, and_self, if_true]
  | rdsr _ g sr | wrsr _ g sr =>
    cases hc
    exact wordsDecode_fmtS (x := sr) (by decide) rfl rfl fun w hd ha hs hx => by simp only [decSys, hd, ha, hs, hx, if_true]
  | pget _ gd t pt | pget2 _ gd t pt | pget4 _ gd t pt | pgetvq _ gd t pt | pput _ gd t pt | pput2 _ gd t pt | pput4 _ gd t pt | psync _ gd t pt =>
    cases hc
    exact wordsDecode_point (by decide) (by decide) rfl rfl fun w hd ht hpt => by simp only [decPoint, hpt, hd, ht, checkOps_of_legal hlegal]
  | twait _ gd t | ttest _ gd t | tmov _ gd t =>
    cases hc
    exact wordsDecode_fmtP (by decide) rfl rfl fun w ho hd ht hl => by simp only [decPlain, ho, hd, ht, hl, if_true]
  | twaitm =>
    cases hc
    exact wordsDecode_twaitm
  | vadd _ bd ba bb tt =>
    cases hc
    exact wordsDecode_lanes (fn := 0) (by decide) (Nat.add_zero _).symm rfl rfl fun w hd ha hb htt hz hf => by
      simp only [decVec, hd, ha, hb, htt, hz, hf, ne_eq, not_true_eq_false, if_false]
  | vsub _ bd ba bb tt | vmul _ bd ba bb tt | vmac _ bd ba bb tt | vmin _ bd ba bb tt | vmax _ bd ba bb tt | vneg _ bd ba tt
  | vabs _ bd ba tt | vclamp _ bd ba bb tt | vdot _ bd ba bb tt | vsum _ bd ba tt =>
    cases hc
    exact wordsDecode_lanes (by decide) rfl rfl rfl fun w hd ha hb htt hz hf => by
      simp only [decVec, hd, ha, hb, htt, hz, hf, ne_eq, not_true_eq_false, if_false, if_true]
  | vbcast =>
    cases hc
    exact wordsDecode_vbcast hlegal
  | vld =>
    cases hc
    exact wordsDecode_vld
  | vst =>
    cases hc
    exact wordsDecode_vst
  | vext _ ga bd lane =>
    cases hc
    exact wordsDecode_lane (ga := ga) (lane := lane) (sub := 0) (by decide) (by omega) rfl rfl fun w hd ha hb hz hg hlane hs => by
      simp only [decVec, hd, ha, hb, hz, hg, hlane, hs, ne_eq, not_true_eq_false, or_self, if_false]
  | vins _ bd ga lane =>
    cases hc
    exact wordsDecode_lane (by decide) rfl rfl rfl fun w hd ha hb hz hg hlane hs => by
      simp only [decVec, hd, ha, hb, hz, hg, hlane, hs, ne_eq, not_true_eq_false, or_self, if_false]
  | vgexp _ g bd =>
    cases hc
    exact wordsDecode_lane (ga := g) (lane := 0) (sub := 2) (by decide) (by simp) rfl rfl fun w hd ha hb hz hg hlane hs => by
      simp only [decVec, hd, ha, hb, hz, hg, hlane, hs, ne_eq, not_true_eq_false, or_self, if_false, if_true]
  | vsete _ bd g =>
    cases hc
    exact wordsDecode_lane (ga := g) (lane := 0) (sub := 3) (by decide) (by simp) rfl rfl fun w hd ha hb hz hg hlane hs => by
      simp only [decVec, hd, ha, hb, hz, hg, hlane, hs, ne_eq, not_true_eq_false, or_self, if_false, if_true]
  | vcvt =>
    cases hc
    exact wordsDecode_vcvt
  | vcvtf =>
    cases hc
    exact wordsDecode_vcvtf
  | vcmp =>
    cases hc
    exact wordsDecode_vcmp hlegal
  | vsplat =>
    cases hc
    exact wordsDecode_vsplat
  | vzero =>
    cases hc
    exact wordsDecode_vzero
  | lend | clasp | unclasp =>
    cases hc
    exact wordsDecode_bare (by decide) rfl rfl fun w ho hl => by simp only [decPlain, ho, hl, one_ne_zero, if_false, if_true]
  | lslack =>
    cases hc
    exact wordsDecode_lslack
  | lsleep =>
    cases hc
    exact wordsDecode_lsleep
  | lbell =>
    cases hc
    exact wordsDecode_lbell
  | emsg =>
    cases hc
    exact wordsDecode_emsg hlegal
  | _ => cases hc

end Sys2Proof.Machine
end

section
/-! Instructions that write one g register, and words that are no instruction (R45, R46): the results of R48 and R49 (O1, O2). -/

namespace Sys2Proof.Machine

/-! ### Words that raise ILLEGAL (R45) -/

/-- The first fields of a word, as the decoder reads them. -/
theorem bits_major (w : Word) : bits w 31 26 = w.toNat / 2 ^ 26 := by
  show w.toNat / 2 ^ 26 % 2 ^ 6 = _
  omega

theorem bits_low (w : Word) (hi : Nat) : bits w hi 0 = w.toNat % 2 ^ (hi + 1) := by
  rw [bits, pow_zero, Nat.div_one, Nat.sub_zero]

/-- A word that decodes to nothing raises ILLEGAL on a core that fetches it. -/
theorem exec_illegalEncoding_raises {s : State} {c : CoreId} {w second : Word} (hd : decodeWords c w.toNat second.toNat = none)
    (he : s.executing c = true) (hf : s.fetchOk c (s.pc c) = true) (hp : bits w 31 26 = 0x3F → s.fetchOk c (s.pc c + 4) = true) :
    exec (.illegalEncoding c w second) s = .next (s.raised c 1 w) := by
  have hpre : (bits w 31 26 == 0x3F && !s.fetchOk c (s.pc c + 4)) = false := by
    cases h : (bits w 31 26 == 0x3F)
    · rfl
    · rw [hp (eq_of_beq h)]
      rfl
  show execIllegalEncoding c w second s = _
  simp only [execIllegalEncoding, hd, he, hf, hpre, Option.isSome_none, Bool.not_true, Bool.or_self, Bool.false_eq_true, if_false]
  rfl

theorem raisesIllegal_of_decodeWords {w : Word} (h : ∀ c second, decodeWords c w.toNat second = none) : RaisesIllegal w :=
  fun _ c second he hf hp => exec_illegalEncoding_raises (h c second.toNat) he hf hp

/-- A word that is no prefix and no instruction by itself raises ILLEGAL. -/
theorem raisesIllegal_of_op {w : Word} {op : Nat} (hop : w.toNat / 2 ^ 26 = op) (hne : op ≠ 0x3F)
    (hpre : ∀ c, decPrefixable c none w.toNat = none)
    (hpl : ∀ c, decPlain c w.toNat = none) : RaisesIllegal w :=
  raisesIllegal_of_decodeWords fun c second => by
    rw [decodeWords, if_neg (hop ▸ hne), hpre]
    exact hpl c

theorem rGa_eq_zero_iff (w : Nat) : rGa w = 0 ↔ w / 2 ^ 18 % 2 ^ 4 = 0 := ofNat_eq_zero_iff 4 _
theorem rGb_eq_zero_iff (w : Nat) : rGb w = 0 ↔ w / 2 ^ 14 % 2 ^ 4 = 0 := ofNat_eq_zero_iff 4 _

section
variable {c : CoreId} {w : Nat}

theorem decAlu_eq_none (h : w / 2 ^ 6 % 2 ^ 8 ≠ 0 ∨ 0x18 ≤ w % 2 ^ 6 ∨ (w % 2 ^ 6 = 0x17 ∧ w / 2 ^ 14 % 2 ^ 4 ≠ 0)) :
    decAlu c w = none := by
  unfold decAlu
  split
  case isTrue => rfl
  case isFalse hz =>
    simp only
    split
    case h_24 => exact if_neg fun hb => by have := (rGb_eq_zero_iff w).mp hb; omega
    case h_25 => rfl
    all_goals omega

theorem decMul_eq_none (h : w / 2 ^ 6 % 2 ^ 8 ≠ 0 ∨ 9 ≤ w % 2 ^ 6) : decMul c w = none := by
  unfold decMul
  split
  case isTrue => rfl
  case isFalse hz =>
    simp only
    split
    case h_10 => rfl
    all_goals omega

theorem checkOps_eq_none {i : Instr} (h : operandsLegal i = false) : checkOps i = none := if_neg (by simp [h])

theorem decBit_eq_none (h : w / 2 ^ 14 % 2 ^ 4 ≠ 0 ∨ 7 ≤ w / 2 ^ 10 % 2 ^ 4 ∨ (3 ≤ w / 2 ^ 10 % 2 ^ 4 ∧ w % 2 ^ 10 ≠ 0) ∨
    (w / 2 ^ 10 % 2 ^ 4 < 3 ∧ 31 < w % 2 ^ 5 + w / 2 ^ 5 % 2 ^ 5)) : decBit c w = none := by
  unfold decBit
  split
  case isTrue => rfl
  case isFalse hz =>
    have hb := (rGb_eq_zero_iff w).mp (not_not.mp hz)
    have hfield : 3 ≤ w / 2 ^ 10 % 2 ^ 4 ∨ decide ((BitVec.ofNat 5 w).toNat + (BitVec.ofNat 5 (w / 2 ^ 5)).toNat ≤ 31) = false := by
      simp only [BitVec.toNat_ofNat, decide_eq_false_iff_not]
      omega
    simp only
    split
    case h_1 | h_2 | h_3 => exact checkOps_eq_none (hfield.resolve_left (by omega))
    case h_8 => rfl
    all_goals exact if_neg (by omega)

end

/-! ### Instructions that write one register -/

theorem writesOf2_of_alu {mk : CoreId → BitVec 4 → BitVec 4 → BitVec 4 → Instr} {f g : Word → Word → Word}
    (hexec : ∀ c gd ga gb s, exec (mk c gd ga gb) s = s.alu c (mk c gd ga gb) gd ga gb g)
    (hp : ∀ c gd ga gb, prefixWord (mk c gd ga gb) = none) (hfg : ∀ x y, g x y = f x y) : WritesOf2 mk f := by
  intro s c gd ga gb h
  obtain rfl : g = f := funext fun x => funext (hfg x)
  rw [Completes, hexec, ← State.behind_of_one_word (hp c gd ga gb)]
  exact State.compute_ready h _

theorem writesOf1_of_aluI {mk : CoreId → BitVec 4 → BitVec 4 → Instr} {f g : Word → Word}
    (hexec : ∀ c gd ga s, exec (mk c gd ga) s = s.aluI c (mk c gd ga) gd ga g)
    (hp : ∀ c gd ga, prefixWord (mk c gd ga) = none) (hfg : ∀ x, g x = f x) : WritesOf1 mk f := by
  intro s c gd ga h
  obtain rfl : g = f := funext hfg
  rw [Completes, hexec, ← State.behind_of_one_word (hp c gd ga)]
  exact State.compute_ready h _

theorem word_exWord (i : Instr) (h : prefixWord i = none) : exWord i = BitVec.ofNat 32 (encode i) := by
  simp [exWord, encodeWords, h, wd]

theorem writesOrOverflows_of_aluV {mk : CoreId → BitVec 4 → BitVec 4 → BitVec 4 → Instr} {f : Int → Int → Int}
    (hexec : ∀ c gd ga gb s, exec (mk c gd ga gb) s = s.aluV c (mk c gd ga gb) gd ga gb f)
    (hp : ∀ c gd ga gb, prefixWord (mk c gd ga gb) = none) : WritesOrOverflows mk f := by
  intro s c gd ga gb h u x
  obtain ⟨hfits, hover⟩ := State.computeOr_ready h 6
    (fun t => if outOfS32 (f (t.g c ga).toInt (t.g c gb).toInt) then none else some (wi (f (t.g c ga).toInt (t.g c gb).toInt)))
  rw [Completes, hexec, ← State.behind_of_one_word (hp c gd ga gb), ← word_exWord _ (hp c gd ga gb)]
  have hout : outOfS32 x = decide (x < -2147483648 ∨ 2147483647 < x) := (Bool.decide_or _ _).symm
  constructor
  · intro hx
    have hin : outOfS32 x = false := by rw [hout]; exact decide_eq_false (by omega)
    exact hfits _ (if_neg (by rw [hin]; decide))
  · intro hx
    exact hover (if_pos (hout.trans (decide_eq_true hx)))

theorem divides_of_divide {mk : CoreId → BitVec 4 → BitVec 4 → BitVec 4 → Instr} {f g : Word → Word → Word}
    (hexec : ∀ c gd ga gb s, exec (mk c gd ga gb) s = s.divide c (mk c gd ga gb) gd ga gb g)
    (hp : ∀ c gd ga gb, prefixWord (mk c gd ga gb) = none) (hfg : ∀ x y, g x y = f x y) : Divides mk f := by
  intro s c gd ga gb h u
  obtain rfl : g = f := funext fun x => funext (hfg x)
  obtain ⟨hres, hzero⟩ := State.computeOr_ready h 7 (fun t => if t.g c gb = 0 then none else some (g (t.g c ga) (t.g c gb)))
  rw [Completes, hexec, ← State.behind_of_one_word (hp c gd ga gb), ← word_exWord _ (hp c gd ga gb)]
  exact ⟨fun hb => hres _ (if_neg hb), fun hb => hzero (if_pos hb)⟩

theorem writesOfImm_of_aluI {mk : CoreId → BitVec 4 → BitVec 4 → Imm → Instr} {signed : Bool} {f g : Word → Word → Word}
    {ext : Imm → Word}
    (hexec : ∀ c gd ga imm s, exec (mk c gd ga imm) s = s.aluI c (mk c gd ga imm) gd ga (fun x => g x (ext imm)))
    (hp : ∀ c gd ga imm, prefixWord (mk c gd ga imm) = imm.pre)
    (hshort : ∀ v, ext (.short v) = if signed then v.signExtend 32 else v.setWidth 32) (hpre : ∀ v, ext (.prefixed v) = v)
    (hfg : ∀ x y, g x y = f x y) : WritesOfImm mk signed f := by
  intro s c gd ga
  obtain rfl : g = f := funext fun x => funext (hfg x)
  refine ⟨fun v h => ?_, fun v h => ?_⟩
  · have hb : s.behind c (mk c gd ga (.short v)) = s.pc c + 4 := State.behind_of_one_word (hp _ _ _ _)
    rw [Completes, hexec, ← hb, ← hshort]
    exact State.compute_ready h _
  · have hb : s.behind c (mk c gd ga (.prefixed v)) = s.pc c + 8 := by simp [State.behind, hp, Imm.pre]
    rw [Completes, hexec, ← hb, hpre]
    exact State.compute_ready h _

/-! ### What the results are as numbers -/

theorem flagWord_eq (p : Prop) [Decidable p] {b : Bool} (h : b = decide p) : flagWord b = if p then 1 else 0 := by
  subst h
  by_cases hp : p <;> simp [flagWord, hp]

theorem ite_slt_min (x y : Word) : (if x.slt y then x else y) = BitVec.ofInt 32 (min x.toInt y.toInt) := by
  rw [BitVec.slt_eq_decide]
  rcases lt_or_ge x.toInt y.toInt with h | h
  · simp [h, min_eq_left h.le]
  · simp [not_lt.mpr h, min_eq_right h]

theorem ite_slt_max (x y : Word) : (if x.slt y then y else x) = BitVec.ofInt 32 (max x.toInt y.toInt) := by
  rw [BitVec.slt_eq_decide]
  rcases lt_or_ge x.toInt y.toInt with h | h
  · simp [h, max_eq_right h.le]
  · simp [not_lt.mpr h, max_eq_left h]

theorem ite_ult_min (x y : Word) : (if x.ult y then x else y) = BitVec.ofNat 32 (min x.toNat y.toNat) := by
  rw [BitVec.ult_eq_decide]
  rcases lt_or_ge x.toNat y.toNat with h | h
  · simp [h, min_eq_left h.le]
  · simp [not_lt.mpr h, min_eq_right h]

theorem ite_ult_max (x y : Word) : (if x.ult y then y else x) = BitVec.ofNat 32 (max x.toNat y.toNat) := by
  rw [BitVec.ult_eq_decide]
  rcases lt_or_ge x.toNat y.toNat with h | h
  · simp [h, max_eq_right h.le]
  · simp [not_lt.mpr h, max_eq_left h]

theorem satInt_32 (x : Int) : satInt 32 x = max (-2147483648) (min 2147483647 x) := by
  show (if x < -2147483648 then -2147483648 else if 2147483647 < x then 2147483647 else x) = _
  split_ifs <;> omega

/-- Settles O1, instruction by instruction over what a body that writes one g register comes to; the other words of the opcode by the decoder. -/
theorem aluResults : Obligations.AluResults := by
  refine ⟨⟨?add, ?sub, ?and, ?or, ?xor, ?nor, ?andn, ?slt, ?sltu, ?seq, ?sll, ?srl, ?sra, ?ror, ?min, ?max, ?minu, ?maxu, ?adds, ?subs⟩,
    ?addv, ?subv, ?sel, ?abs, ?illegal⟩
  case add => exact writesOf2_of_alu exec_add (fun _ _ _ _ => rfl) fun _ _ => rfl
  case sub => exact writesOf2_of_alu exec_sub (fun _ _ _ _ => rfl) fun _ _ => rfl
  case and => exact writesOf2_of_alu exec_and (fun _ _ _ _ => rfl) fun _ _ => rfl
  case or => exact writesOf2_of_alu exec_or (fun _ _ _ _ => rfl) fun _ _ => rfl
  case xor => exact writesOf2_of_alu exec_xor (fun _ _ _ _ => rfl) fun _ _ => rfl
  case nor => exact writesOf2_of_alu exec_nor (fun _ _ _ _ => rfl) fun _ _ => rfl
  case andn => exact writesOf2_of_alu exec_andn (fun _ _ _ _ => rfl) fun _ _ => rfl
  case slt => exact writesOf2_of_alu exec_slt (fun _ _ _ _ => rfl) fun x y => flagWord_eq _ BitVec.slt_eq_decide
  case sltu => exact writesOf2_of_alu exec_sltu (fun _ _ _ _ => rfl) fun x y => flagWord_eq _ BitVec.ult_eq_decide
  case seq => exact writesOf2_of_alu exec_seq (fun _ _ _ _ => rfl) fun x y => flagWord_eq _ rfl
  case sll => exact writesOf2_of_alu exec_sll (fun _ _ _ _ => rfl) fun _ _ => rfl
  case srl => exact writesOf2_of_alu exec_srl (fun _ _ _ _ => rfl) fun _ _ => rfl
  case sra => exact writesOf2_of_alu exec_sra (fun _ _ _ _ => rfl) fun _ _ => rfl
  case ror => exact writesOf2_of_alu exec_ror (fun _ _ _ _ => rfl) fun _ _ => rfl
  case min => exact writesOf2_of_alu exec_min (fun _ _ _ _ => rfl) ite_slt_min
  case max => exact writesOf2_of_alu exec_max (fun _ _ _ _ => rfl) ite_slt_max
  case minu => exact writesOf2_of_alu exec_minu (fun _ _ _ _ => rfl) ite_ult_min
  case maxu => exact writesOf2_of_alu exec_maxu (fun _ _ _ _ => rfl) ite_ult_max
  case adds => exact writesOf2_of_alu exec_adds (fun _ _ _ _ => rfl) fun x y => congrArg wi (satInt_32 _)
  case subs => exact writesOf2_of_alu exec_subs (fun _ _ _ _ => rfl) fun x y => congrArg wi (satInt_32 _)
  case addv => exact writesOrOverflows_of_aluV exec_addv (fun _ _ _ _ => rfl)
  case subv => exact writesOrOverflows_of_aluV exec_subv (fun _ _ _ _ => rfl)
  case sel =>
    intro s c gd ga gb h u
    rw [Completes, exec_sel, execSel, ite_not]
    exact State.compute_ready h _
  case abs =>
    refine writesOf1_of_aluI (g := fun x => wi (satInt 32 x.toInt.natAbs)) exec_abs (fun _ _ _ => rfl) fun x => congrArg wi ?_
    rw [satInt_32, Int.natCast_natAbs]
    have := abs_nonneg x.toInt
    omega
  case illegal =>
    intro w hop hbad
    rw [bits_major] at hop
    rw [bits_low] at hbad
    refine raisesIllegal_of_op hop (by decide) (fun c => by simp only [decPrefixable, hop]) fun c => ?_
    simp only [decPlain, hop]
    exact decAlu_eq_none hbad

/-! ### Products and quotients (R49) -/

theorem mul_eq_ofInt (x y : Word) : x * y = BitVec.ofInt 32 (x.toInt * y.toInt) := by
  rw [BitVec.ofInt_mul, BitVec.ofInt_toInt, BitVec.ofInt_toInt]

theorem q31_eq (x y : Word) : q31 x y = BitVec.ofInt 32 (min 2147483647 ((x.toInt * y.toInt + 1073741824) / 2147483648)) := by
  unfold q31
  refine congrArg wi ?_
  split_ifs <;> omega

theorem sdiv_eq_ofInt (x y : Word) : x.sdiv y = BitVec.ofInt 32 (x.toInt.tdiv y.toInt) := by
  apply BitVec.eq_of_toInt_eq
  rw [BitVec.toInt_sdiv, BitVec.toInt_ofInt]

theorem srem_eq_ofInt (x y : Word) : x.srem y = BitVec.ofInt 32 (x.toInt.tmod y.toInt) := by
  rw [← BitVec.toInt_srem, BitVec.ofInt_toInt]

theorem udiv_eq_ofNat (x y : Word) : x / y = BitVec.ofNat 32 (x.toNat / y.toNat) := by
  rw [← BitVec.toNat_udiv, BitVec.ofNat_toNat, BitVec.setWidth_eq]

theorem umod_eq_ofNat (x y : Word) : x % y = BitVec.ofNat 32 (x.toNat % y.toNat) := by
  rw [← BitVec.toNat_umod, BitVec.ofNat_toNat, BitVec.setWidth_eq]

theorem divides_div : Divides .div (fun x y => BitVec.ofInt 32 (x.toInt.tdiv y.toInt)) :=
  divides_of_divide exec_div (fun _ _ _ _ => rfl) sdiv_eq_ofInt

theorem divides_rem : Divides .rem (fun x y => BitVec.ofInt 32 (x.toInt.tmod y.toInt)) :=
  divides_of_divide exec_rem (fun _ _ _ _ => rfl) srem_eq_ofInt

/-- Settles O2, as O1; the divisions by whether the divisor is 0. -/
theorem multiplyDivide : Obligations.MultiplyDivide := by
  refine ⟨⟨?mul, ?mulh, ?mulhu, ?mulq, ?mulv⟩, ⟨divides_div, ?divu, divides_rem, ?remu⟩, ?corner, ?illegal⟩
  case mul => exact writesOf2_of_alu exec_mul (fun _ _ _ _ => rfl) mul_eq_ofInt
  case mulh => exact writesOf2_of_alu exec_mulh (fun _ _ _ _ => rfl) fun _ _ => rfl
  case mulhu => exact writesOf2_of_alu exec_mulhu (fun _ _ _ _ => rfl) fun _ _ => rfl
  case mulq => exact writesOf2_of_alu exec_mulq (fun _ _ _ _ => rfl) q31_eq
  case mulv => exact writesOrOverflows_of_aluV exec_mulv (fun _ _ _ _ => rfl)
  case divu => exact divides_of_divide exec_divu (fun _ _ _ _ => rfl) udiv_eq_ofNat
  case remu => exact divides_of_divide exec_remu (fun _ _ _ _ => rfl) umod_eq_ofNat
  case corner =>
    intro s c gd ga gb u ha hb
    have hb0 : u.g c gb ≠ 0 := by rw [hb]; decide
    have hquot : BitVec.ofInt 32 ((u.g c ga).toInt.tdiv (u.g c gb).toInt) = 0x80000000 := by rw [ha, hb]; decide
    have hrem : BitVec.ofInt 32 ((u.g c ga).toInt.tmod (u.g c gb).toInt) = 0 := by rw [ha, hb]; decide
    refine ⟨fun h => ?_, fun h => ?_⟩
    · rw [← hquot]
      exact (divides_div s c gd ga gb h).1 hb0
    · rw [← hrem]
      exact (divides_rem s c gd ga gb h).1 hb0
  case illegal =>
    intro w hop hbad
    rw [bits_major] at hop
    rw [bits_low] at hbad
    refine raisesIllegal_of_op hop (by decide) (fun c => by simp only [decPrefixable, hop]) fun c => ?_
    simp only [decPlain, hop]
    exact decMul_eq_none hbad

end Sys2Proof.Machine
end

section
/-! Immediate forms, short and prefixed (R50): the results of O3. -/

namespace Sys2Proof.Machine

theorem writesOfImm_sext {mk : CoreId → BitVec 4 → BitVec 4 → Imm → Instr} (g : Word → Word → Word) {f : Word → Word → Word}
    (hexec : ∀ c gd ga imm s, exec (mk c gd ga imm) s = s.aluI c (mk c gd ga imm) gd ga (fun x => g x imm.sext))
    (hp : ∀ c gd ga imm, prefixWord (mk c gd ga imm) = imm.pre) (hfg : ∀ x y, g x y = f x y) : WritesOfImm mk true f :=
  writesOfImm_of_aluI hexec hp (fun _ => rfl) (fun _ => rfl) hfg

theorem writesOfImm_zext {mk : CoreId → BitVec 4 → BitVec 4 → Imm → Instr} (f : Word → Word → Word)
    (hexec : ∀ c gd ga imm s, exec (mk c gd ga imm) s = s.aluI c (mk c gd ga imm) gd ga (fun x => f x imm.zext))
    (hp : ∀ c gd ga imm, prefixWord (mk c gd ga imm) = imm.pre) : WritesOfImm mk false f :=
  writesOfImm_of_aluI hexec hp (fun _ => rfl) (fun _ => rfl) fun _ _ => rfl

theorem shiftKind_eq (kind : BitVec 2) (x : Word) (n : Nat) : shiftKind kind x n =
    if kind = 0 then x <<< n else if kind = 1 then x >>> n else if kind = 2 then x.sshiftRight n else x.rotateRight n := by
  obtain rfl | rfl | rfl | rfl : kind = 0 ∨ kind = 1 ∨ kind = 2 ∨ kind = 3 := by revert kind; decide
  all_goals rfl

theorem lui_eq_shift (v : BitVec 18) : wd (v.toNat * 16384) = v.setWidth 32 <<< (14 : Nat) := by
  apply BitVec.eq_of_toNat_eq
  rw [wd, BitVec.toNat_ofNat, BitVec.toNat_shiftLeft, BitVec.toNat_setWidth, Nat.shiftLeft_eq]
  omega

/-- Settles O3, by the form of the immediate; a pair of words that is no instruction because no prefixable form reads it. -/
theorem immediateResults : Obligations.ImmediateResults := by
  refine ⟨⟨?addi, ?andi, ?ori, ?xori, ?slti, ?sltiu⟩, ?loads, ?shi, ?illegal, ?pair⟩
  case addi => exact writesOfImm_sext (fun x v => x + v) exec_addi (fun _ _ _ _ => rfl) fun _ _ => rfl
  case andi => exact writesOfImm_zext (fun x v => x &&& v) exec_andi fun _ _ _ _ => rfl
  case ori => exact writesOfImm_zext (fun x v => x ||| v) exec_ori fun _ _ _ _ => rfl
  case xori => exact writesOfImm_zext (fun x v => x ^^^ v) exec_xori fun _ _ _ _ => rfl
  case slti => exact writesOfImm_sext (fun x v => flagWord (x.slt v)) exec_slti (fun _ _ _ _ => rfl) fun _ _ => flagWord_eq _ BitVec.slt_eq_decide
  case sltiu => exact writesOfImm_sext (fun x v => flagWord (x.ult v)) exec_sltiu (fun _ _ _ _ => rfl) fun _ _ => flagWord_eq _ BitVec.ult_eq_decide
  case loads =>
    refine fun s c gd => ⟨fun v h => ?short, fun v h => ?prefixed, fun v h => ?lui⟩
    case short =>
      rw [Completes, exec_li, execLi]
      exact State.compute_ready h _
    case prefixed =>
      rw [Completes, exec_li, execLi]
      exact State.compute_ready h _
    case lui =>
      rw [Completes, exec_lui, execLui, ← lui_eq_shift]
      exact State.compute_ready h _
  case shi =>
    intro s c gd ga n kind h u x
    rw [Completes, exec_shi, execShi, ← shiftKind_eq]
    exact State.compute_ready h _
  case illegal =>
    intro w hbad
    simp only [bits_major] at hbad
    rcases hbad with ⟨hop, hz⟩ | ⟨hop | hop, hz⟩
    · refine raisesIllegal_of_op hop (by decide) (fun c => by simp only [decPrefixable, hop]) fun c => ?_
      simp only [decPlain, hop]
      exact if_neg hz
    · refine raisesIllegal_of_op hop (by decide) (fun c => ?_) fun c => by simp only [decPlain, hop]
      simp only [decPrefixable, hop]
      exact if_neg fun h => hz ((rGa_eq_zero_iff _).mp h)
    · refine raisesIllegal_of_op hop (by decide) (fun c => by simp only [decPrefixable, hop]) fun c => ?_
      simp only [decPlain, hop]
      exact if_neg fun h => hz ((rGa_eq_zero_iff _).mp h)
  case pair =>
    intro s c w second hop hbad he hf hp
    refine exec_illegalEncoding_raises ?_ he hf fun _ => hp
    have hnone : ∀ hi, decPrefixable c hi second.toNat = none := by
      intro hi
      simp only [bits_major] at hbad
      rcases hbad with h | h | ⟨h, hz⟩
      · simp only [decPrefixable, h]
      · simp only [decPrefixable, h]
      · simp only [decPrefixable, h]
        exact if_neg fun h => hz ((rGa_eq_zero_iff _).mp h)
    rw [decodeWords, if_pos ((bits_major w).symm.trans hop), hnone, ite_self]

end Sys2Proof.Machine
end

section
/-! Bit fields, counts of bits and the reversal of bytes (R51): the results of O4. -/

namespace Sys2Proof.Machine

theorem testBit_bits (x : Word) (hi lo j : Nat) : (bits x hi lo).testBit j = (decide (j < hi + 1 - lo) && x.getLsbD (lo + j)) := by
  rw [bits, Nat.testBit_mod_two_pow, Nat.testBit_div_two_pow, BitVec.getLsbD, Nat.add_comm j lo]

theorem getLsbD_extractU (x : Word) (l w : BitVec 5) {j : Nat} (hj : j < 32) :
    (extractU x l w).getLsbD j = (decide (j ≤ w.toNat) && x.getLsbD (l.toNat + j)) := by
  have hle : (j < l.toNat + w.toNat + 1 - l.toNat) ↔ j ≤ w.toNat := by omega
  rw [extractU, wd, BitVec.getLsbD_ofNat, testBit_bits, decide_eq_true hj, Bool.true_and]
  simp only [hle]

/-- A number read as signed is its bits read as signed. -/
theorem signedN_eq_toInt (k n : Nat) : signedN (k + 1) n = (BitVec.ofNat (k + 1) n).toInt := by
  have hpow : (2 : Nat) ^ (k + 1) = 2 * 2 ^ k := by rw [pow_succ, Nat.mul_comm]
  have hiff : n % 2 ^ (k + 1) < 2 ^ k ↔ 2 * (n % 2 ^ (k + 1)) < 2 ^ (k + 1) := by omega
  rw [signedN, BitVec.toInt_eq_toNat_cond, BitVec.toNat_ofNat, Nat.add_sub_cancel]
  simp only [hiff]
  push_cast
  rfl

theorem getLsbD_extractS (x : Word) (l w : BitVec 5) {j : Nat} (hj : j < 32) :
    (extractS x l w).getLsbD j = x.getLsbD (l.toNat + min j w.toNat) := by
  have hfield : ∀ i ≤ w.toNat, (BitVec.ofNat (w.toNat + 1) (bits x (l.toNat + w.toNat) l.toNat)).getLsbD i = x.getLsbD (l.toNat + i) := by
    intro i hi
    rw [BitVec.getLsbD_ofNat, testBit_bits, decide_eq_true (by omega), decide_eq_true (by omega), Bool.true_and, Bool.true_and]
  have hext : extractS x l w = (BitVec.ofNat (w.toNat + 1) (bits x (l.toNat + w.toNat) l.toNat)).signExtend 32 := by
    rw [extractS, signedN_eq_toInt]
    rfl
  rw [hext, BitVec.getLsbD_signExtend, decide_eq_true hj, Bool.true_and]
  split
  · rw [hfield j (by omega), min_eq_left (by omega)]
  · rw [BitVec.msb_eq_getLsbD_last, Nat.add_sub_cancel, hfield _ le_rfl, min_eq_right (by omega)]

theorem getLsbD_insertBits (d x : Word) (l w : BitVec 5) (h : l.toNat + w.toNat ≤ 31) (j : Nat) : (insertBits d x l w).getLsbD j =
    if l.toNat ≤ j ∧ j ≤ l.toNat + w.toNat then x.getLsbD (j - l.toNat) else d.getLsbD j := by
  refine (bitOf_putBits d _ _ _ j (by omega) (by omega)).trans ?_
  split
  · rw [testBit_bits, decide_eq_true (by omega), Bool.true_and, Nat.zero_add]
  · rfl

/-- The first number below n of which p holds, and n where there is none. -/
theorem find_range_spec (p : Nat → Bool) (n : Nat) :
    let k := ((List.range n).find? p).getD n
    k ≤ n ∧ (k < n → p k = true) ∧ ∀ j < k, p j = false := by
  intro k
  cases h : (List.range n).find? p with
  | none =>
    have hk : k = n := by simp only [k, h, Option.getD_none]
    have hnone : ∀ j < n, p j = false := by simpa [List.find?_range_eq_none] using h
    exact ⟨hk.le, fun hlt => absurd hk hlt.ne, fun j hj => hnone j (hk ▸ hj)⟩
  | some i =>
    have hk : k = i := by simp only [k, h, Option.getD_some]
    obtain ⟨hp, hi, hfirst⟩ := List.find?_range_eq_some.mp h
    rw [hk]
    exact ⟨(List.mem_range.mp hi).le, fun _ => hp, fun j hj => by simpa using hfirst j hj⟩

/-- A word is 0 where none of its 32 bits is set. -/
theorem eq_zero_of_bits {x : Word} (h : ∀ j < 32, x.getLsbD j = false) : x = 0 :=
  BitVec.eq_of_getLsbD_eq fun j hj => by rw [h j hj]; simp

theorem trailingZeros_spec (x : Word) : (trailingZeros x = 32 ↔ x = 0) ∧
    (x ≠ 0 → trailingZeros x < 32 ∧ x.getLsbD (trailingZeros x) = true ∧ ∀ j < trailingZeros x, x.getLsbD j = false) := by
  obtain ⟨hle, hset, hclear⟩ := find_range_spec (fun i => x.getLsbD i) 32
  have hiff : trailingZeros x = 32 ↔ x = 0 := by
    constructor
    · intro h
      exact eq_zero_of_bits fun j hj => hclear j (hj.trans_eq h.symm)
    · rintro rfl
      rfl
  refine ⟨hiff, fun hx => ?_⟩
  have hlt : trailingZeros x < 32 := lt_of_le_of_ne hle (mt hiff.mp hx)
  exact ⟨hlt, hset hlt, hclear⟩

theorem leadingZeros_spec (x : Word) : (leadingZeros x = 32 ↔ x = 0) ∧
    (x ≠ 0 → leadingZeros x < 32 ∧ x.getLsbD (31 - leadingZeros x) = true ∧ ∀ j, 31 - leadingZeros x < j → x.getLsbD j = false) := by
  obtain ⟨hle, hset, hclear⟩ := find_range_spec (fun i => x.getLsbD (31 - i)) 32
  have habove : ∀ j < 32, 31 - j < leadingZeros x → x.getLsbD j = false := by
    intro j hj h
    have := hclear (31 - j) h
    rwa [Nat.sub_sub_self (by omega)] at this
  have hiff : leadingZeros x = 32 ↔ x = 0 := by
    constructor
    · intro h
      exact eq_zero_of_bits fun j hj => habove j hj (by omega)
    · rintro rfl
      rfl
  refine ⟨hiff, fun hx => ?_⟩
  have hlt : leadingZeros x < 32 := lt_of_le_of_ne hle (mt hiff.mp hx)
  refine ⟨hlt, hset hlt, fun j hj => ?_⟩
  rcases Nat.lt_or_ge j 32 with h | h
  · exact habove j h (by omega)
  · exact BitVec.getLsbD_of_ge x j h

theorem toNat_append_byte {n : Nat} (x : BitVec n) (b : Byte) : (x ++ b).toNat = 256 * x.toNat + b.toNat := by
  rw [BitVec.toNat_append, ← Nat.shiftLeft_add_eq_or_of_lt b.isLt, Nat.shiftLeft_eq]
  omega

theorem byteSwap_eq (x : Word) : byteSwap x = x.extractLsb' 0 8 ++ x.extractLsb' 8 8 ++ x.extractLsb' 16 8 ++ x.extractLsb' 24 8 := by
  apply BitVec.eq_of_toNat_eq
  have hbytes : (byteSwap x).toNat = ((x.extractLsb' 24 8).toNat + 256 * (x.extractLsb' 16 8).toNat + 65536 * (x.extractLsb' 8 8).toNat +
      16777216 * (x.extractLsb' 0 8).toNat) % 2 ^ 32 := BitVec.toNat_ofNat _ _
  rw [hbytes, toNat_append_byte, toNat_append_byte, toNat_append_byte]
  omega

/-- The operands of an instruction that can run are legal. -/
theorem State.legal_of_ready {s : State} {c : CoreId} {i : Instr} {uses : List (BitVec 4)} (h : s.ready c i uses = true) :
    operandsLegal i = true := by
  simp only [State.ready, Bool.and_eq_true] at h
  obtain ⟨⟨⟨⟨⟨-, -⟩, -⟩, hl⟩, -⟩, -⟩ := h
  exact hl

/-- Settles O4, bit by bit through the fields' own bits; the counts from where the search of the bits stops. -/
theorem bitResults : Obligations.BitResults := by
  refine ⟨⟨?extu, ?exts, ?ins, ?clz, ?ctz, ?popc, ?bswap⟩, fun x => ?counts, ?illegal⟩
  case extu =>
    intro s c gd ga l w h u
    obtain ⟨t, ht, hret⟩ := State.compute_ready h (fun t => extractU (t.g c ga) l w)
    exact ⟨t, ht, _, hret, fun j hj => getLsbD_extractU _ l w hj⟩
  case exts =>
    intro s c gd ga l w h u
    obtain ⟨t, ht, hret⟩ := State.compute_ready h (fun t => extractS (t.g c ga) l w)
    exact ⟨t, ht, _, hret, fun j hj => getLsbD_extractS _ l w hj⟩
  case ins =>
    intro s c gd ga l w h u
    obtain ⟨t, ht, hret⟩ := State.compute_ready h (fun t => insertBits (t.g c gd) (t.g c ga) l w)
    exact ⟨t, ht, _, hret, fun j _ => getLsbD_insertBits _ _ l w (of_decide_eq_true (State.legal_of_ready h)) j⟩
  case clz => exact writesOf1_of_aluI (g := fun x => wd (leadingZeros x)) exec_clz (fun _ _ _ => rfl) fun _ => rfl
  case ctz => exact writesOf1_of_aluI (g := fun x => wd (trailingZeros x)) exec_ctz (fun _ _ _ => rfl) fun _ => rfl
  case popc =>
    exact writesOf1_of_aluI (g := fun x => wd (popCount x)) exec_popc (fun _ _ _ => rfl) fun _ => congrArg wd List.countP_eq_length_filter.symm
  case bswap => exact writesOf1_of_aluI (g := byteSwap) exec_bswap (fun _ _ _ => rfl) byteSwap_eq
  case counts =>
    obtain ⟨hlz, hl⟩ := leadingZeros_spec x
    obtain ⟨htz, ht⟩ := trailingZeros_spec x
    refine ⟨hlz, htz, fun hx => ?_⟩
    obtain ⟨hl1, hl2, hl3⟩ := hl hx
    exact ⟨hl1, hl2, hl3, ht hx⟩
  case illegal =>
    intro w hop hbad
    rw [bits_major] at hop
    simp only [bits_low] at hbad
    refine raisesIllegal_of_op hop (by decide) (fun c => by simp only [decPrefixable, hop]) fun c => ?_
    simp only [decPlain, hop]
    exact decBit_eq_none hbad

end Sys2Proof.Machine
end

section
/-! Stores (R52, R53, R76, R121): what the body of a store comes to for each place an address can name (O7). -/

namespace Sys2Proof.Machine

/-! ### The bytes a store gives -/

theorem length_take_wordBytes (v : Word) {n : Nat} (hn : n ≤ 4) : ((wordBytes v).take n).length = n := by
  rw [List.length_take]
  exact min_eq_left hn

/-- The bytes of a word, least significant first (R5). -/
theorem getD_wordBytes (v : Word) {k : Nat} (hk : k < 4) : (wordBytes v).getD k 0 = BitVec.ofNat 8 (v.toNat / 256 ^ k) := by
  apply BitVec.eq_of_toNat_eq
  rw [BitVec.toNat_ofNat]
  interval_cases k <;> simp [wordBytes, Nat.shiftRight_eq_div_pow]

/-- Memory after the low n bytes of a word are written: those bytes, little-endian, and no other. -/
theorem Memory.read_writeN_wordBytes (m : Memory) (a b : Nat) (v : Word) {n : Nat} (hn : n ≤ 4) :
    Memory.read (Memory.writeN m a ((wordBytes v).take n)) b =
      if a ≤ b ∧ b < a + n then BitVec.ofNat 8 (v.toNat / 256 ^ (b - a)) else Memory.read m b := by
  rw [Memory.read_writeN, length_take_wordBytes v hn]
  split
  next h =>
    rw [List.getD_eq_getElem?_getD, List.getElem?_take, if_pos (by omega), ← List.getD_eq_getElem?_getD]
    exact getD_wordBytes v (by omega)
  next => rfl

/-! ### The body of a store, place by place -/

section
variable {u : State} {c : CoreId} {ea v : Word} {n : Nat}

theorem State.store_at {a : Nat} {cl : Bool} (h : u.dataAddr c ea n true = .at a cl) :
    u.store c ea n v = u.underLock c cl (fun t => .done (t.storeCore c a cl ((wordBytes v).take n))) := by
  rw [State.store, h]

theorem State.store_reg_wait {a : BitVec 24} (h : u.dataAddr c ea n true = .reg a) (hw : u.awaitsReload c = true) :
    u.store c ea n v = .wait .reload := by
  simp only [State.store, h, hw, if_true]

theorem State.store_reg {a : BitVec 24} (h : u.dataAddr c ea n true = .reg a) (hw : u.awaitsReload c = false) :
    (∀ r, u.busWrite .steward (a.toNat / 4 * 4) 0xF (narrowWord a n v) = .next r → u.store c ea n v = .done r) ∧
    (∀ f, u.busWrite .steward (a.toNat / 4 * 4) 0xF (narrowWord a n v) = .fault f → u.store c ea n v = .stop (.fault f)) := by
  constructor <;> intro x hx <;> simp only [State.store, h, hw, hx, Bool.false_eq_true, if_false]

theorem State.store_lpddr {a : Nat} (h : u.dataAddr c ea n true = .lpddr a) :
    u.store c ea n v = .done { u with lpddr := Memory.writeN u.lpddr a ((wordBytes v).take n) } := by
  rw [State.store, h]

theorem State.store_memory (h : u.dataAddr c ea n true = .memory) : u.store c ea n v = .exc 3 ea := by
  rw [State.store, h]

end

theorem State.lockNeed_outside {u : State} {c : CoreId} (cl : Bool) (h : (u.core c).clasp = none) : u.lockNeed c cl = .free := by
  rw [State.lockNeed, h]

/-! ### What a store to core memory leaves -/

/-- Bytes stored by a core change memory, poison and the lessons' changed lines alone. -/
theorem State.storeBytes_frame (s : State) (c : CoreId) (a : Nat) (b : List Byte) :
    ∃ p l, s.storeBytes c a b = { s with scan := { s.scan with mem := Memory.writeN s.scan.mem a b, poison := p, lessons := l } } := by
  unfold State.storeBytes
  simp only
  split
  · unfold State.updLesson
    split
    · exact ⟨_, _, rfl⟩
    · exact ⟨_, _, rfl⟩
  · exact ⟨_, _, rfl⟩

/-- A clasp with one more buffered store (R76). -/
def Clasp.buffer (k : Clasp) (a : Nat) (cl : Bool) (b : List Byte) : Clasp :=
  { k with stores := k.stores ++ [{ addr := a, bytes := b, cluster := cl }] }

theorem State.storeCore_inside {u : State} {c : CoreId} {k : Clasp} (h : (u.core c).clasp = some k) (a : Nat) (cl : Bool) (b : List Byte) :
    u.storeCore c a cl b = u.setCore c { u.core c with clasp := some (k.buffer a cl b) } := by
  rw [State.storeCore, h]
  rfl

theorem State.storeCore_outside {u : State} {c : CoreId} (h : (u.core c).clasp = none) (a : Nat) (cl : Bool) (b : List Byte) :
    u.storeCore c a cl b = u.storeBytes c a b := by
  rw [State.storeCore, h]

/-- A core's cluster lock given to it. -/
def State.ownLock (u : State) (c : CoreId) : State :=
  { u with scan := { u.scan with lockOwner := u.scan.lockOwner.setIfInBounds (clusterOf c).val (some c) } }

theorem State.ownLock_core (u : State) (c d : CoreId) : (u.ownLock c).core d = u.core d := rfl
theorem State.ownLock_scan_mem (u : State) (c : CoreId) : (u.ownLock c).scan.mem = u.scan.mem := rfl

theorem State.ownLock_owner (u : State) (c : CoreId) : (u.ownLock c).scan.lockOwner.toList.getD (clusterOf c).val none = some c := by
  simp [State.ownLock, List.getD_eq_getElem?_getD]

theorem State.takeLock_inside {u : State} {c : CoreId} {k : Clasp} (h : (u.core c).clasp = some k) :
    u.takeLock c = (u.ownLock c).setCore c { u.core c with clasp := some { k with lock := true } } := by
  have hc : ((u.ownLock c).core c).clasp = some k := h
  unfold State.takeLock
  simp only
  split
  next k' hk' =>
    obtain rfl : k' = k := Option.some.inj (hk'.symm.trans hc)
    rfl
  next hn => cases hn.symm.trans hc

/-- A store that takes the lock is buffered in the clasp that then holds it (R76). -/
theorem State.storeCore_takeLock {u : State} {c : CoreId} {k : Clasp} (h : (u.core c).clasp = some k) (a : Nat) (cl : Bool) (b : List Byte) :
    (u.takeLock c).storeCore c a cl b =
      (u.ownLock c).setCore c { (u.ownLock c).core c with clasp := some (Clasp.buffer { k with lock := true } a cl b) } := by
  rw [State.takeLock_inside h, State.storeCore_inside (k := { k with lock := true }) (by rw [State.core_setCore_same]),
    State.core_setCore_same, State.setCore_setCore, State.ownLock_core]

/-- A store buffered in a clasp completes with the bytes buffered, memory as it was, and the clasp's lock as it was. -/
theorem State.settle_buffered (s t u : State) (c : CoreId) (next : Word) (k : Clasp) :
    ∃ w, s.settle c next t (.done (u.setCore c { u.core c with clasp := some k })) = .next w ∧ w.scan.mem = u.scan.mem ∧
      w.scan.lockOwner = u.scan.lockOwner ∧ (w.core c).ctx = { (u.core c).ctx with pc := next } ∧
      (w.core c).clasp.map (fun q => (q.lock, q.stores)) = some (k.lock, k.stores) := by
  obtain ⟨w, hw, j, rfl, hctx, -, -, -, hclasp, -⟩ := State.finish_done_self (u.setCore c { u.core c with clasp := some k }) c next
  refine ⟨_, hw, rfl, rfl, ?_, ?_⟩
  · rw [State.core_setCore_same, hctx, State.core_setCore_same]
  · rw [State.core_setCore_same] at hclasp ⊢
    have hproj := congrArg (Option.map fun q : Nat × List BufStore × Bool × Nat => (q.2.2.1, q.2.1)) hclasp
    rw [Option.map_map] at hproj
    exact hproj

/-! ### Every store instruction -/

/-- An instruction whose meaning is a store of n bytes stores them to every place an address can name. -/
theorem stores_of_storeInstr {mk : CoreId → BitVec 4 → BitVec 4 → Imm → Instr} {n : Nat} (hn : n ≤ 4)
    (hexec : ∀ c gd ga imm s, exec (mk c gd ga imm) s = s.storeInstr c (mk c gd ga imm) gd ga imm n) : Stores mk n := by
  intro s c gd ga imm hready i u ea v x
  have hrun : exec i s = s.settle c (s.behind c i) u (u.store c ea n v) :=
    (hexec c gd ga imm s).trans (State.runInstr_ready hready true false _ rfl rfl)
  unfold Completes
  refine ⟨?outside, ?free, ?take, ?queue, ?reload, ?register, ?fault, ?lpddr, ?memory⟩
  case outside =>
    intro a cl ha hk
    obtain ⟨p, l, hframe⟩ := u.storeBytes_frame c a ((wordBytes v).take n)
    rw [hrun, State.store_at ha, State.underLock_free (State.lockNeed_outside cl hk), State.storeCore_outside hk, hframe]
    obtain ⟨t, ht, hret⟩ := State.finish_done_self
      { u with scan := { u.scan with mem := Memory.writeN u.scan.mem a ((wordBytes v).take n), poison := p, lessons := l } } c (s.behind c i)
    exact ⟨t, ht, _, p, l, hret, fun b => Memory.read_writeN_wordBytes _ a b v hn⟩
  case free =>
    intro a cl k ha hk hl
    rw [hrun, State.store_at ha, State.underLock_free hl, State.storeCore_inside hk]
    obtain ⟨t, ht, hmem, -, hctx, hclasp⟩ := State.settle_buffered s u u c (s.behind c i) (k.buffer a cl ((wordBytes v).take n))
    have hstores := congrArg (Option.map Prod.snd) hclasp
    rw [Option.map_map] at hstores
    exact ⟨t, ht, hmem, hctx, hstores⟩
  case take =>
    intro a cl k ha hk hl
    rw [hrun, State.store_at ha, State.underLock_take hl, State.storeCore_takeLock hk]
    obtain ⟨t, ht, hmem, hlock, hctx, hclasp⟩ := State.settle_buffered s u (u.ownLock c) c (s.behind c i)
      (Clasp.buffer { k with lock := true } a cl ((wordBytes v).take n))
    rw [State.ownLock_scan_mem] at hmem
    rw [State.ownLock_core] at hctx
    exact ⟨t, ht, hmem, hctx, hlock ▸ u.ownLock_owner c, hclasp⟩
  case queue =>
    intro a cl ha hl
    rw [hrun, State.store_at ha, State.underLock_queue hl]
    exact State.settle_queued s u u c _
  case reload =>
    intro a ha hw
    rw [hrun, State.store_reg_wait ha hw]
    rfl
  case register =>
    intro a r ha hw hr
    rw [hrun, (State.store_reg ha hw).1 r hr]
    exact State.finish_done_self r c _
  case fault =>
    intro a f ha hw hf
    rw [hrun, (State.store_reg ha hw).2 f hf]
    rfl
  case lpddr =>
    intro a ha
    rw [hrun, State.store_lpddr ha]
    obtain ⟨t, ht, hret⟩ := State.finish_done_self { u with lpddr := Memory.writeN u.lpddr a ((wordBytes v).take n) } c (s.behind c i)
    exact ⟨t, ht, _, hret, fun b => Memory.read_writeN_wordBytes _ a b v hn⟩
  case memory =>
    intro ha
    rw [hrun, State.store_memory ha]
    exact State.settle_exc s u c _ 3 ea

/-- Settles O7: each store instruction is a store of its bytes. -/
theorem storeResults : Obligations.StoreResults :=
  ⟨stores_of_storeInstr (by decide) exec_sw, stores_of_storeInstr (by decide) exec_sh, stores_of_storeInstr (by decide) exec_sb⟩

end Sys2Proof.Machine
end

section
/-! Branches and jumps (R54, R55): O5 fails where a state's table of cores is not in canonical form. -/

namespace Sys2Proof.Machine

/-- A scan core whose g1 names the lesson exit. The lesson it names is loaded in no state below. -/
def exitingCore : Core := { Core.zero with lesson := some 5, ctx := { Ctx.zero with g := Ctx.zero.g.set 1 0xFFFFFFFC } }

/-- Core 0 about to jump to the lesson exit, its table of cores as given. -/
def exitingWith (cores : Tab Core) : State :=
  { State.reset with scan := { State.reset.scan with cores := cores, lessons := [], coreRegions := [(0, [⟨0, 0x1000, 0, .code, false⟩])] } }

/-- How many entries the table of cores of an outcome's state has. -/
def coreEntries : Out → Nat
  | .next t => t.scan.cores.length
  | _ => 0

/-- JR writes no link register, and LEND of a lesson that is not loaded writes no core: a table that lists core 0 twice stays as it is. -/
theorem coreEntries_jr_exit : coreEntries (exec (.jr 0 1 0) (exitingWith [(0, exitingCore), (0, exitingCore)])) = 2 := by decide

/-- With its one entry put back by State.setCore the table of cores has one. -/
theorem coreEntries_lend_listed_once : coreEntries (exec (.lend 0) (exitingWith [(0, exitingCore)])) = 1 := by decide

/-- Refutes O5: the clause of the lesson exit has JR do what LEND does in the state with its core put back into the table of cores. That is the
same state where the table is in canonical form, and O5 asks for no such form: on a table that lists core 0 twice JR leaves two entries and LEND
one. -/
theorem not_controlTransfers : ¬ Obligations.ControlTransfers := by
  rintro ⟨-, -, -, -, hjr, -, -, -, -⟩
  have hready : (exitingWith [(0, exitingCore), (0, exitingCore)]).ready 0 (.jr 0 1 0) [1] = true := by decide
  obtain ⟨-, -, hexit, -⟩ := hjr _ 0 1 0 hready
  have hsame : exec (.jr 0 1 0) (exitingWith [(0, exitingCore), (0, exitingCore)]) = exec (.lend 0) (exitingWith [(0, exitingCore)]) :=
    hexit (by decide) (by decide)
  have hentries := congrArg coreEntries hsame
  rw [coreEntries_jr_exit, coreEntries_lend_listed_once] at hentries
  exact absurd hentries (by decide)

end Sys2Proof.Machine
end

section
/-! What only a steward core runs (R56), its interrupt lines (R58), and words that are no instruction (R45): the results of O11. -/

namespace Sys2Proof.Machine

/-! ### Interrupts of a steward core (R58) -/

/-- A steward core whose handler runs, which is inside a clasp or which is halted takes no interrupt. -/
def Core.holdsIrq (k : Core) : Bool := bitOf k.ctx.ls 9 || k.clasp.isSome || k.halt == .halted

theorem Core.holdsIrq_eq (k : Core) : k.holdsIrq = !(!bitOf k.ctx.ls 9 && k.clasp.isNone && k.halt != .halted) := by
  rw [Core.holdsIrq, Bool.not_and, Bool.not_and, Bool.not_not, Option.not_isNone]
  simp [bne]

/-- The core with its handler entered for a line, to come back to `back`. -/
def Core.enterIrq (k : Core) (line : Nat) (back vector : Word) : Core :=
  { k with waiting := .none, frame := back :: k.frame, irq := k.irq &&& ~~~(BitVec.ofNat 12 (2 ^ line)),
           ctx := { k.ctx with ls := setBitOf (putBits k.ctx.ls 4 0 19) 9 true, pc := vector } }

section
variable {s : State} {c : CoreId}

theorem State.serveIrq_stopped (h : s.stewardRuns c = false) : s.serveIrq c = s := by
  simp [State.serveIrq, h]

/-- Where no interrupt can be taken, a pending line ends WAIT and nothing else. -/
theorem State.serveIrq_held (hc : isScan c = false) (hlive : (s.core c).irq &&& (s.core c).ien ≠ 0) (hrun : s.stewardRuns c = true)
    (hheld : (s.core c).holdsIrq = true) : s.serveIrq c = if (s.core c).waiting = .interrupt then
      s.setCore c { s.core c with waiting := .none, ctx := { (s.core c).ctx with pc := (s.core c).ctx.pc + 4 } } else s := by
  rw [Core.holdsIrq] at hheld
  simp only [State.serveIrq, hc, decide_eq_false hlive, hrun, hheld, Bool.not_true, Bool.or_self, Bool.false_eq_true, if_false, if_true]

/-- Where it can be, the handler is entered for the lowest line that is pending and enabled. -/
theorem State.core_serveIrq_taken (hc : isScan c = false) {line : Nat}
    (hline : (List.range 12).find? (fun i => ((s.core c).irq &&& (s.core c).ien).getLsbD i) = some line)
    (hrun : s.stewardRuns c = true) (hfree : (s.core c).holdsIrq = false) : (s.serveIrq c).core c =
      (s.core c).enterIrq line (if (s.core c).waiting = .interrupt then (s.core c).ctx.pc + 4 else (s.core c).ctx.pc)
        (Config.stewardVector (c.val - 64)) := by
  have hlive : (s.core c).irq &&& (s.core c).ien ≠ 0 := by
    intro h
    rw [h] at hline
    exact absurd (List.find?_some hline) (by simp)
  rw [Core.holdsIrq] at hfree
  simp only [State.serveIrq, hc, decide_eq_false hlive, hrun, hfree, hline, Bool.not_true, Bool.or_self, Bool.false_eq_true, if_false,
    Option.getD_some, State.core_setPc, State.core_setLs, State.core_setCore_same, State.ls, Core.enterIrq]

/-- No line is enabled or disabled by serving one. -/
theorem State.ien_serveIrq : ((s.serveIrq c).core c).ien = (s.core c).ien := by
  simp only [State.serveIrq]
  split
  · rfl
  · split
    · split
      · rw [State.core_setCore_same]
      · rfl
    · rw [State.core_setPc, State.core_setLs, State.core_setCore_same]

end

/-! ### A line that becomes pending -/

/-- The core with a line pending. -/
def Core.pendIrq (k : Core) (line : Nat) : Core := { k with irq := k.irq ||| BitVec.ofNat 12 (2 ^ line) }

theorem exec_stewardInterrupt_pend (s : State) (core : Fin 2) (line : Fin 12) (c : CoreId) (hc : c = ⟨64 + core.val, by omega⟩) :
    exec (.stewardInterrupt core line) s = .next ((s.setCore c ((s.core c).pendIrq line.val)).serveIrq c) := by
  subst hc
  rfl

theorem getLsbD_line (line : Fin 12) (j : Nat) : (BitVec.ofNat 12 (2 ^ line.val)).getLsbD j = decide (line.val = j) := by
  rw [BitVec.getLsbD_ofNat, Nat.testBit_two_pow]
  by_cases h : line.val = j
  · rw [decide_eq_true h, decide_eq_true (h ▸ line.isLt), Bool.true_and]
  · rw [decide_eq_false h, Bool.and_false]

/-- Where nothing was live, a line that becomes pending is all that is, if it is enabled. -/
theorem getLsbD_live {irq ien : BitVec 12} (line : Fin 12) (hidle : irq &&& ien = 0) (j : Nat) :
    ((irq ||| BitVec.ofNat 12 (2 ^ line.val)) &&& ien).getLsbD j = (decide (line.val = j) && ien.getLsbD line.val) := by
  have hbefore : (irq.getLsbD j && ien.getLsbD j) = false := by
    rw [← BitVec.getLsbD_and, hidle]
    exact BitVec.getLsbD_zero
  rw [BitVec.getLsbD_and, BitVec.getLsbD_or, getLsbD_line, Bool.and_or_distrib_right, hbefore, Bool.false_or]
  by_cases h : line.val = j
  · rw [h]
  · rw [decide_eq_false h, Bool.false_and, Bool.false_and]

theorem live_of_disabled {irq ien : BitVec 12} {line : Fin 12} (hidle : irq &&& ien = 0) (hoff : ien.getLsbD line.val = false) :
    (irq ||| BitVec.ofNat 12 (2 ^ line.val)) &&& ien = 0 :=
  BitVec.eq_of_getLsbD_eq fun j _ => by rw [getLsbD_live line hidle, hoff, Bool.and_false]; exact BitVec.getLsbD_zero.symm

theorem lowest_live {irq ien : BitVec 12} {line : Fin 12} (hidle : irq &&& ien = 0) (hon : ien.getLsbD line.val = true) :
    (List.range 12).find? (fun i => ((irq ||| BitVec.ofNat 12 (2 ^ line.val)) &&& ien).getLsbD i) = some line.val := by
  simp only [getLsbD_live line hidle, hon, Bool.and_true]
  refine List.find?_range_eq_some.mpr ⟨decide_eq_true rfl, List.mem_range.mpr line.isLt, fun j hj => ?_⟩
  rw [decide_eq_false hj.ne', Bool.not_false]

/-- An enabled line that becomes pending is live, whatever was before. -/
theorem live_of_enabled {irq ien : BitVec 12} {line : Fin 12} (hon : ien.getLsbD line.val = true) :
    (irq ||| BitVec.ofNat 12 (2 ^ line.val)) &&& ien ≠ 0 := by
  intro h
  have hbit : ((irq ||| BitVec.ofNat 12 (2 ^ line.val)) &&& ien).getLsbD line.val = true := by
    rw [BitVec.getLsbD_and, BitVec.getLsbD_or, getLsbD_line, hon, decide_eq_true rfl, Bool.or_true, Bool.and_true]
  rw [h] at hbit
  exact absurd (BitVec.getLsbD_zero.symm.trans hbit) Bool.false_ne_true

/-- Clearing a line forgets that it became pending. -/
theorem clear_line (irq : BitVec 12) (line : Fin 12) : (irq ||| BitVec.ofNat 12 (2 ^ line.val)) &&& ~~~(BitVec.ofNat 12 (2 ^ line.val)) =
    irq &&& ~~~(BitVec.ofNat 12 (2 ^ line.val)) := by
  rw [BitVec.and_or_distrib_right, BitVec.and_not_self]
  exact BitVec.or_zero

/-! ### The statement -/

theorem State.afterStep_ien (s : State) (c : CoreId) : ((s.afterStep c).core c).ien = (s.core c).ien := by
  rw [State.core_afterStep]
  split <;> rfl

theorem State.afterStep_irq (s : State) (c : CoreId) : ((s.afterStep c).core c).irq = (s.core c).irq := by
  rw [State.core_afterStep]
  split <;> rfl

/-- IEN enables its lines, and moves on where none of those enabled then is pending. -/
theorem exec_ien_completes {s : State} {c : CoreId} {m : BitVec 12} (hc : isScan c = false) (h : s.ready c (.ien c m) [] = true) :
    Completes (.ien c m) s (fun t => (t.core c).ien = (s.core c).ien ||| m ∧ t.points = s.points ∧ t.regs = s.regs ∧
      ((s.core c).irq &&& ((s.core c).ien ||| m) = 0 → t.pc c = s.pc c + 4)) := by
  set v := ((s.setCore c { s.core c with ien := (s.core c).ien ||| m }).countClasp c).setPc c (s.pc c + 4) with hv
  refine ⟨(v.serveIrq c).afterStep c, ?runs, ?ien, ?points, ?regs, fun hidle => ?pc⟩
  case runs =>
    rw [exec_ien, execIen, State.runInstr_ready h true true _ rfl (by rw [hc]; rfl)]
    rfl
  case ien => rw [State.afterStep_ien, State.ien_serveIrq]; simp [hv]
  case points => simp [hv]
  case regs => simp [hv]
  case pc =>
    rw [State.pc, State.ctx_afterStep, State.serveIrq_idle v c (by simpa [hv] using hidle)]
    simp [hv]

/-- IDIS disables its lines and moves on. -/
theorem exec_idis_completes {s : State} {c : CoreId} {m : BitVec 12} (hc : isScan c = false) (h : s.ready c (.idis c m) [] = true) :
    Completes (.idis c m) s (fun t => (t.core c).ien = (s.core c).ien &&& ~~~m ∧ (t.core c).irq = (s.core c).irq ∧
      (t.core c).ctx = { (s.core c).ctx with pc := s.pc c + 4 } ∧ t.points = s.points ∧ t.regs = s.regs) := by
  set v := ((s.setCore c { s.core c with ien := (s.core c).ien &&& ~~~m }).countClasp c).setPc c (s.pc c + 4) with hv
  refine ⟨v.afterStep c, ?runs, ?ien, ?irq, ?ctx, ?points, ?regs⟩
  case runs =>
    rw [exec_idis, execIdis, State.runInstr_ready h true true _ rfl (by rw [hc]; rfl)]
    rfl
  case ien => rw [State.afterStep_ien]; simp [hv]
  case irq => rw [State.afterStep_irq]; simp [hv]
  case ctx => rw [State.ctx_afterStep]; simp [hv]
  case points => simp [hv]
  case regs => simp [hv]

/-- WAIT moves on where an enabled line is pending, and waits where none is. -/
theorem exec_wait_steward {s : State} {c : CoreId} (hc : isScan c = false) (h : s.ready c (.wait c) [] = true) :
    ((s.core c).irq &&& (s.core c).ien ≠ 0 → Completes (.wait c) s (Retires s c { (s.core c).ctx with pc := s.pc c + 4 })) ∧
    ((s.core c).irq &&& (s.core c).ien = 0 → exec (.wait c) s = .next (s.setCore c { s.core c with waiting := .interrupt })) := by
  rw [Completes, exec_wait, execWait, State.runInstr_ready h true true _ rfl (by rw [hc]; rfl)]
  constructor
  · intro hlive
    rw [if_neg (show ¬((s.observeBound c []).core c).irq &&& ((s.observeBound c []).core c).ien = 0 from hlive)]
    exact State.finish_done_self s c _
  · intro hidle
    rw [if_pos (show ((s.observeBound c []).core c).irq &&& ((s.observeBound c []).core c).ien = 0 from hidle)]
    rfl

/-- What only a steward core runs raises PRIVILEGE with its word on a scan core. -/
theorem exec_steward_only {s : State} {c : CoreId} {i : Instr} (hc : isScan c = true) (hi : i = .wait c ∨ ∃ m, i = .ien c m ∨ i = .idis c m)
    (h : s.ready c i [] = true) : exec i s = .next (s.raised c 2 (BitVec.ofNat 32 (encode i))) := by
  have hone : prefixWord i = none := by rcases hi with rfl | ⟨m, rfl | rfl⟩ <;> rfl
  rw [← word_exWord i hone]
  rcases hi with rfl | ⟨m, rfl | rfl⟩
  · exact (exec_wait c s).trans (State.runInstr_privileged h hc _)
  · exact (exec_ien c m s).trans (State.runInstr_privileged h hc _)
  · exact (exec_idis c m s).trans (State.runInstr_privileged h hc _)

/-- Settles O11: the instructions by their bodies, an interrupt line by whether its core runs, can take it and has it enabled. -/
theorem stewardResults : Obligations.StewardResults := by
  refine ⟨fun s c i hc hi h => exec_steward_only hc hi h, fun s c hc h => exec_wait_steward hc h, fun s c m hc h => exec_ien_completes hc h,
    fun s c m hc h => exec_idis_completes hc h, fun s core line => ?interrupt,
    fun s c word second hd he hf hp => exec_illegalEncoding_raises hd he hf hp⟩
  intro c k free
  have hexec := exec_stewardInterrupt_pend s core line c rfl
  have hc : isScan c = false := decide_eq_false (by show ¬ 64 + core.val < 64; omega)
  set v := s.setCore c (k.pendIrq line.val)
  have hcore : v.core c = k.pendIrq line.val := State.core_setCore_same s c _
  have hrun : v.stewardRuns c = s.stewardRuns c := rfl
  have hheld : (v.core c).holdsIrq = !free := by rw [hcore]; exact Core.holdsIrq_eq k
  refine ⟨fun hstop => ?stopped, fun hruns hbusy hon => ⟨_, hexec, ?held⟩, fun hidle hoff => ⟨_, hexec, ?disabled⟩,
    fun hruns hfree hidle hon hwait => ⟨_, hexec, ?taken⟩⟩
  case stopped =>
    rw [hexec, State.serveIrq_stopped (hrun.trans hstop)]
    rfl
  case held =>
    rw [State.serveIrq_held hc (by rw [hcore]; exact live_of_enabled hon) (hrun.trans hruns) (by rw [hheld, hbusy]; rfl)]
    split
    case isTrue hwait =>
      rw [hcore] at hwait
      show _ ∧ _
      rw [State.pc, State.core_setCore_same, hcore]
      exact ⟨rfl, rfl, fun _ => ⟨rfl, rfl⟩, fun h => absurd hwait h⟩
    case isFalse hwait =>
      rw [hcore] at hwait
      show _ ∧ _
      rw [State.pc, hcore]
      exact ⟨rfl, rfl, fun h => absurd h hwait, fun _ => ⟨rfl, rfl⟩⟩
  case disabled =>
    rw [State.serveIrq_idle v c (by rw [hcore]; exact live_of_disabled hidle hoff)]
    exact congrArg Core.irq hcore
  case taken =>
    have htaken := State.core_serveIrq_taken hc (by rw [hcore]; exact lowest_live hidle hon) (hrun.trans hruns) (by rw [hheld, hfree]; rfl)
    rw [hcore] at htaken
    simp only [State.pc, State.ls, htaken]
    refine ⟨?vector, ?frame, rfl, ?handler, ?cause, ?irq⟩
    case vector => exact congrArg Config.stewardVector (Nat.add_sub_cancel_left 64 core.val)
    case frame => exact congrArg (· :: k.frame) (if_pos hwait)
    case handler => exact (bitOf_setBitOf _ _ _ _ (by decide)).trans (if_pos rfl)
    case cause => exact (bits_putBits_apart _ _ _ _ _ _ (by decide) (by decide) (by decide)).trans (bits_putBits _ _ _ _ (by decide) (by decide))
    case irq => exact clear_line k.irq line

end Sys2Proof.Machine
end

section
/-! A clasp's loads see its own buffered stores (R76; O9). -/

namespace Sys2Proof.Machine

/-! ### Runs of bytes in memory -/

/-- Memories that agree on a run of bytes give the same run. -/
theorem Memory.readN_congr {m m' : Memory} : ∀ (n a : Nat), (∀ b, a ≤ b → b < a + n → Memory.read m b = Memory.read m' b) →
    Memory.readN m a n = Memory.readN m' a n
  | 0, _, _ => rfl
  | n + 1, a, h => by
    rw [Memory.readN, Memory.readN, h a le_rfl (by omega), Memory.readN_congr n (a + 1) fun b hb hlt => h b (by omega) (by omega)]

/-- Bytes read where they were written. -/
theorem Memory.readN_writeN_same : ∀ (l : List Byte) (m : Memory) (a : Nat), Memory.readN (Memory.writeN m a l) a l.length = l
  | [], _, _ => rfl
  | x :: xs, m, a => by
    have hhead : Memory.read (Memory.writeN (Memory.write m a x) (a + 1) xs) a = x := by
      rw [Memory.read_writeN, if_neg (by omega), Memory.read_write, if_pos rfl]
    rw [Memory.writeN, List.length_cons, Memory.readN, hhead, Memory.readN_writeN_same xs]

/-- Bytes read beside a run that was written. -/
theorem Memory.readN_writeN_disjoint (m : Memory) (l : List Byte) {a d n : Nat} (h : d + n ≤ a ∨ a + l.length ≤ d) :
    Memory.readN (Memory.writeN m a l) d n = Memory.readN m d n :=
  Memory.readN_congr n d fun b hb hlt => by rw [Memory.read_writeN, if_neg (by omega)]

/-! ### Memory as a clasp sees it -/

/-- Memory with a clasp's buffered stores made in their order. -/
def Clasp.over (k : Clasp) (m : Memory) : Memory := k.stores.foldl (fun m st => Memory.writeN m st.addr st.bytes) m

theorem Clasp.over_buffer (k : Clasp) (a : Nat) (cl : Bool) (b : List Byte) (m : Memory) :
    (k.buffer a cl b).over m = Memory.writeN (k.over m) a b := by
  simp [Clasp.over, Clasp.buffer]

theorem State.loadBytes_inside {s : State} {c : CoreId} {k : Clasp} (h : (s.core c).clasp = some k) (a n : Nat) :
    s.loadBytes c a n = Memory.readN (k.over s.scan.mem) a n := by
  rw [State.loadBytes, h]
  rfl

/-- After a buffered store a clasp sees memory with the store's bytes written last. -/
theorem State.loadBytes_storeCore_inside {s : State} {c : CoreId} {k : Clasp} (h : (s.core c).clasp = some k) (a : Nat) (cl : Bool)
    (b : List Byte) (d n : Nat) : (s.storeCore c a cl b).loadBytes c d n = Memory.readN (Memory.writeN (k.over s.scan.mem) a b) d n := by
  rw [State.storeCore_inside h, State.loadBytes_inside (k := k.buffer a cl b) (by rw [State.core_setCore_same]), Clasp.over_buffer]
  rfl

/-- Settles O9: a clasp reads memory with its stores made in their order, and the last of them is the one just buffered. -/
theorem claspSeesOwnStores : Obligations.ClaspSeesOwnStores := by
  intro s c k a cl b h
  refine ⟨?own, ?memory, ?beside⟩
  case own => rw [State.loadBytes_storeCore_inside h, Memory.readN_writeN_same]
  case memory =>
    rw [State.storeCore_inside h]
    rfl
  case beside =>
    intro d n hd
    rw [State.loadBytes_storeCore_inside h, State.loadBytes_inside h, Memory.readN_writeN_disjoint _ _ hd]

end Sys2Proof.Machine
end

section
/-! Point instructions and the engine message (R59, R61 to R63, R65, R66): what an issue leaves, and what each condition makes an instruction wait for (O12). -/

namespace Sys2Proof.Machine

/-! ### The registers of an issue (R27) -/

@[simp] theorem TagReg.out_issue (t : TagReg) : t.issue.out = t.out + 1 := by
  unfold TagReg.issue
  split
  next h => rw [h.1]
  next => rfl

/-- Registers bound to an entry of the pool. -/
def Ctx.bindAll (e : Nat) (k : Ctx) (l : List (BitVec 4)) : Ctx :=
  l.foldl (fun k r => { k with bound := k.bound.set r.toNat (some e) }) k

/-- Binding registers changes what registers are bound to alone; a register bound to the entry stays so. -/
theorem Ctx.bindAll_eq (e : Nat) : ∀ (l : List (BitVec 4)) (k : Ctx), ∃ b, k.bindAll e l = { k with bound := b } ∧
    ∀ r : BitVec 4, r ∈ l ∨ k.bound[r.toNat] = some e → b[r.toNat] = some e
  | [], k => ⟨k.bound, rfl, by simp⟩
  | r :: l, k => by
    obtain ⟨b, heq, hb⟩ := Ctx.bindAll_eq e l { k with bound := k.bound.set r.toNat (some e) }
    refine ⟨b, heq, fun q hq => hb q ?_⟩
    rw [List.mem_cons] at hq
    rcases hq with (rfl | hq) | hq
    · simp
    · exact .inl hq
    · right
      simp [Vector.getElem_set, hq]

/-! ### The entry of an issue -/

/-- What the entry of an issue holds (R65). -/
structure Entry.Records (y : Entry) (s : State) (c : CoreId) (x : Issue) : Prop where
  op : y.op = x.op
  core : y.core = c
  lesson : y.lesson = (s.core c).lesson
  tag : y.tag = x.tag
  tenant : y.tenant = s.hmTenant c
  completed : y.completed = false
  outcome : y.outcome = none
  held : y.held = (x.inClasp && x.op.isPut)
  issued : y.issued = s.now

/-- An issue makes its entry, in a state that differs in the device group of a remote get alone. -/
theorem State.issueNow_records {s : State} {c : CoreId} {x : Issue} {e : Nat} (he : s.freeEntry c = some e) :
    ∃ (y : Entry) (g : Tab (Option GroupSt)), y.Records s c x ∧ s.issueNow c x = State.enter { s with scan := { s.scan with groups := g } } c x e y := by
  obtain ⟨g, hg⟩ := s.withTransaction_frame c x
  have hissue : ∃ y : Entry, y.Records (s.withTransaction c x).1 c x ∧ s.issueNow c x = (s.withTransaction c x).1.enter c x e y := by
    have hlesson : ((s.withTransaction c x).1.core c).lesson = (s.core c).lesson := by rw [hg]; rfl
    unfold State.issueNow
    rw [he]
    refine ⟨_, ?records, rfl⟩
    exact ⟨rfl, rfl, hlesson.symm, rfl, rfl, rfl, rfl, rfl, rfl⟩
  obtain ⟨y, hy, heq⟩ := hissue
  rw [hg] at hy heq
  exact ⟨y, g, ⟨hy.op, hy.core, hy.lesson, hy.tag, hy.tenant, hy.completed, hy.outcome, hy.held, hy.issued⟩, heq⟩

/-- Entering an operation in the pool: its group counts one more and its registers are bound. -/
theorem State.enter_ctx (s : State) (c : CoreId) (x : Issue) (e : Nat) (y : Entry) :
    ((s.enter c x e y).core c).ctx = ((s.core c).ctx.updTag x.tag TagReg.issue).bindAll e x.op.binds := by
  unfold State.enter
  extract_lets _ _ t u
  have hu : (u.core c).ctx = ((s.core c).ctx.updTag x.tag TagReg.issue).bindAll e x.op.binds := by
    simp only [u, State.core_updCtx]
    rfl
  split
  · rw [State.core_setCore_same]
    exact hu
  · exact hu

/-- Entering an operation leaves the other entries, the points, memory and the registers of the host map. -/
theorem State.enter_kept (s : State) (c : CoreId) (x : Issue) (e : Nat) (y : Entry) : (∀ d, d ≠ e → (s.enter c x e y).entry? d = s.entry? d) ∧
    (s.enter c x e y).points = s.points ∧ (s.enter c x e y).scan.mem = s.scan.mem ∧ (s.enter c x e y).regs = s.regs := by
  have hentry : ∀ d, d ≠ e → (s.setEntry e (some y)).entry? d = s.entry? d := fun d hd => by rw [State.entry_setEntry, if_neg hd]
  unfold State.enter
  extract_lets _ _ t u
  split
  · exact ⟨hentry, rfl, rfl, rfl⟩
  · exact ⟨hentry, rfl, rfl, rfl⟩

/-! ### An instruction that issues retires -/

/-- What retiring leaves of the pool, and of the core's registers all but the PC. -/
theorem State.finish_done_kept (u t : State) (c : CoreId) (next : Word) : ∃ w, u.finish c next (.done t) = .next w ∧
    (w.core c).ctx = { (t.core c).ctx with pc := next } ∧ (∀ d, w.entry? d = t.entry? d) ∧ w.points = t.points ∧ w.scan.mem = t.scan.mem ∧
    w.regs = t.regs := by
  refine ⟨_, rfl, ?_, fun d => ?_, ?_, ?_, ?_⟩
  · rw [State.ctx_afterStep, State.core_setPc, State.core_countClasp]
  all_goals simp [State.entry?]

/-- An issue that has an entry leaves what R27 and R65 say. -/
theorem State.finish_issueNow {u : State} {c : CoreId} {tag : BitVec 3} {op : OpKind} (he : (u.freeEntry c).isSome = true) :
    ∃ t, u.finish c (u.pc c + 4) (.done (u.issueNow c ⟨tag, op, (u.core c).clasp.isSome, u.pc c + 4⟩)) = .next t ∧ Issued u c tag op t := by
  obtain ⟨e, he⟩ := Option.isSome_iff_exists.mp he
  set x : Issue := ⟨tag, op, (u.core c).clasp.isSome, u.pc c + 4⟩ with hx
  obtain ⟨y, g, hy, heq⟩ := State.issueNow_records (x := x) he
  set s : State := { u with scan := { u.scan with groups := g } } with hs
  obtain ⟨hentry, -, -⟩ := s.enter_frame c x e y
  obtain ⟨hothers, hpoints, hmem, hregs⟩ := s.enter_kept c x e y
  obtain ⟨b, hbind, hbound⟩ := Ctx.bindAll_eq e op.binds ((u.core c).ctx.updTag tag TagReg.issue)
  have hctx : ((s.enter c x e y).core c).ctx = { (u.core c).ctx.updTag tag TagReg.issue with bound := b } := (s.enter_ctx c x e y).trans hbind
  obtain ⟨t, ht, hcore, hpool, hp, hm, hr⟩ := u.finish_done_kept (s.enter c x e y) c (u.pc c + 4)
  rw [hctx] at hcore
  refine ⟨t, by rw [heq]; exact ht, e, y, he, (hpool e).trans hentry, hy.op, hy.core, hy.lesson, hy.tag, hy.tenant, hy.completed, hy.outcome,
    hy.held, hy.issued, ?out, ?bound, ?pc, ?g, ?b, ?ls, fun d hd => (hpool d).trans (hothers d hd), hp.trans hpoints, hm.trans hmem, hr.trans hregs⟩
  case out => simp [State.tag, hcore, Ctx.updTag]
  case bound =>
    intro r hr
    simp only [hcore]
    exact hbound r (.inl hr)
  case pc => rw [State.pc, hcore]
  all_goals rw [hcore]; rfl

/-! ### The conditions of an issue, in their order (R27, R65, R77, R95, R121) -/

/-- The point operations of the clasp a core is in; 0 outside. -/
def State.claspPoints (u : State) (c : CoreId) : Nat := ((u.core c).clasp.map (·.points)).getD 0

section CONDITIONS
variable {u : State} {c : CoreId} {i : Instr} {tag : BitVec 3} {op : OpKind}

theorem State.issue_now (h : u.canIssue c tag = true) :
    u.issue c i tag op = .done (u.issueNow c ⟨tag, op, (u.core c).clasp.isSome, u.pc c + 4⟩) := by
  simp only [State.canIssue, Bool.and_eq_true, decide_eq_true_eq, Bool.not_eq_true'] at h
  obtain ⟨⟨⟨⟨hpoints, hgroup⟩, hcore⟩, hpool⟩, hres⟩ := h
  simp [State.issue, Nat.not_le.mpr hpoints, hres, hgroup.ne, Nat.not_le.mpr hcore, hpool]

theorem State.issue_fifth (h : 4 ≤ u.claspPoints c) : u.issue c i tag op = .exc 9 (exWord i) := by
  rw [State.claspPoints] at h
  simp [State.issue, h]

theorem State.issue_reload (hp : u.claspPoints c < 4) (h : u.awaitsReload c = true) : u.issue c i tag op = .wait .reload := by
  rw [State.claspPoints] at hp
  simp [State.issue, Nat.not_le.mpr hp, h]

theorem State.issue_groupFull (hr : u.awaitsReload c = false) (hk : (u.core c).clasp = none) (ho : (u.tag c tag).out ≠ 0)
    (hfull : (u.tag c tag).out + (u.tag c tag).done = 32) : u.issue c i tag op = .wait (.tag tag) := by
  have hw : u.claspWaits c tag true = false := by simp [State.claspWaits, hk]
  simp [State.issue, hk, hr, hfull, ho, hw]

theorem State.issue_coreFull (hr : u.awaitsReload c = false) (hp : u.claspPoints c < 4) (hgroup : (u.tag c tag).out + (u.tag c tag).done < 32)
    (h : 256 ≤ u.coreHeld c) : u.issue c i tag op = .whole (u.setWaiting c .coreLimit) := by
  rw [State.claspPoints] at hp
  simp [State.issue, Nat.not_le.mpr hp, hr, hgroup.ne, h]

/-- A core put last in the queue of stalled issues, with the stall counted (R95). -/
def State.queueForEntry (u : State) (c : CoreId) : State :=
  { u.inc Reg.SCAN_POOL_STALLS with scan := { u.scan with poolFifo := u.scan.poolFifo ++ [c] } }

theorem State.issue_noEntry (hr : u.awaitsReload c = false) (hp : u.claspPoints c < 4) (hgroup : (u.tag c tag).out + (u.tag c tag).done < 32)
    (hcore : u.coreHeld c < 256) (h : u.poolAvailable c (u.hmSlot c) = false) :
    u.issue c i tag op = .whole ((u.queueForEntry c).setWaiting c (.pool ⟨tag, op, (u.core c).clasp.isSome, u.pc c + 4⟩)) := by
  rw [State.claspPoints] at hp
  simp [State.issue, Nat.not_le.mpr hp, hr, hgroup.ne, Nat.not_le.mpr hcore, h]
  rfl

end CONDITIONS

/-- A debugger's STEP ends with no instruction whose core waits for anything but an interrupt (R381). -/
theorem State.afterStep_setWaiting (u : State) (c : CoreId) (w : Waiting) (h : w ≠ .none) (hi : w ≠ .interrupt) :
    (u.setWaiting c w).afterStep c = u.setWaiting c w := by
  simp [State.afterStep, h, hi]

/-! ### Point instructions -/

/-- The value of a point operand (R59). -/
def pointValue (g : BitVec 4 → Word) : PtOp → Nat
  | .imm k => k.toNat
  | .reg r => (g r).toNat % 2 ^ 18

theorem pointOperand_eq (u : State) (c : CoreId) (pt : PtOp) (n : Nat) (noWord : Bool) : pointOperand (u.core c).ctx.g pt n noWord =
    (BitVec.ofNat 14 (pointValue (u.g c) pt),
      if noWord then 0 else pointValue (u.g c) pt / 2 ^ 14 - pointValue (u.g c) pt / 2 ^ 14 % n) := by
  have hword : ∀ v : Nat, v / n * n = v - v % n := fun v => by
    have := Nat.div_add_mod' v n
    omega
  cases pt <;> simp only [pointOperand, hword] <;> rfl

/-- An instruction of one word whose body is an issue: what the conditions of R65 make of it. -/
theorem State.settle_issue (s u : State) (c : CoreId) (i : Instr) (tag : BitVec 3) (op : OpKind) (hpc : u.pc c = s.pc c) :
    (u.canIssue c tag = true → ∃ t, s.settle c (s.pc c + 4) u (u.issue c i tag op) = .next t ∧ Issued u c tag op t) ∧
    (4 ≤ u.claspPoints c → s.settle c (s.pc c + 4) u (u.issue c i tag op) = .next (s.raised c 9 (exWord i))) ∧
    (u.claspPoints c < 4 → u.awaitsReload c = true → s.settle c (s.pc c + 4) u (u.issue c i tag op) = .next (u.setWaiting c .reload)) ∧
    (u.awaitsReload c = false → (u.core c).clasp = none → (u.tag c tag).out ≠ 0 → (u.tag c tag).out + (u.tag c tag).done = 32 →
      s.settle c (s.pc c + 4) u (u.issue c i tag op) = .next (u.setWaiting c (.tag tag))) ∧
    (u.awaitsReload c = false → u.claspPoints c < 4 → (u.tag c tag).out + (u.tag c tag).done < 32 → 256 ≤ u.coreHeld c →
      s.settle c (s.pc c + 4) u (u.issue c i tag op) = .next (u.setWaiting c .coreLimit)) ∧
    (u.awaitsReload c = false → u.claspPoints c < 4 → (u.tag c tag).out + (u.tag c tag).done < 32 → u.coreHeld c < 256 →
      u.poolAvailable c (u.hmSlot c) = false → ∃ t, s.settle c (s.pc c + 4) u (u.issue c i tag op) = .next t ∧
        (∃ x : Issue, (t.core c).waiting = .pool x ∧ x.tag = tag ∧ x.pcNext = s.pc c + 4) ∧ t.scan.poolFifo = u.scan.poolFifo ++ [c] ∧
        (t.core c).ctx = (u.core c).ctx ∧ t.points = u.points ∧ t.rd Reg.SCAN_POOL_STALLS = u.rd Reg.SCAN_POOL_STALLS + 1) := by
  refine ⟨?issued, ?fifth, ?reload, ?group, ?core, ?pool⟩
  case issued =>
    intro h
    have hfree : (u.freeEntry c).isSome = true := by
      simp only [State.canIssue, State.poolAvailable, Bool.and_eq_true] at h
      obtain ⟨⟨-, hfree, -⟩, -⟩ := h
      exact hfree
    rw [State.issue_now h, State.settle_done, ← hpc]
    exact State.finish_issueNow hfree
  case fifth =>
    intro h
    rw [State.issue_fifth h, State.settle_exc]
  case reload =>
    intro hp h
    rw [State.issue_reload hp h]
    rfl
  case group =>
    intro hr hk ho hfull
    rw [State.issue_groupFull hr hk ho hfull]
    rfl
  case core =>
    intro hr hp hg h
    rw [State.issue_coreFull hr hp hg h, State.settle_whole, State.finish, State.afterStep_setWaiting u c .coreLimit nofun nofun]
  case pool =>
    intro hr hp hg hc h
    rw [State.issue_noEntry hr hp hg hc h, State.settle_whole, State.finish, State.afterStep_setWaiting _ c (.pool _) nofun nofun]
    refine ⟨_, rfl, ⟨_, by rw [State.core_setWaiting], rfl, congrArg (· + 4) hpc⟩, rfl, by rw [State.core_setWaiting]; rfl, rfl, ?_⟩
    exact State.rd_inc_same u Reg.SCAN_POOL_STALLS

/-- An instruction whose meaning is a point operation issues it. -/
theorem issuesPoint_of_pointOp {mk : CoreId → BitVec 4 → BitVec 3 → PtOp → Instr} {uses : BitVec 4 → List (BitVec 4)} {n : Nat} {noWord : Bool}
    {op : (BitVec 4 → Word) → PointIdx → Nat → BitVec 4 → OpKind}
    (hexec : ∀ c gd tag pt s, exec (mk c gd tag pt) s =
      s.pointOp c (mk c gd tag pt) tag pt (uses gd) n noWord (fun u idx w => op (u.g c) idx w gd))
    (hp : ∀ c gd tag pt, prefixWord (mk c gd tag pt) = none) : IssuesPoint mk uses n noWord op := by
  have hrun : ∀ (s : State) (c : CoreId) (gd : BitVec 4) (tag : BitVec 3) (pt : PtOp), s.ready c (mk c gd tag pt) (uses gd ++ pt.regs) = true →
      ∀ u, u = s.observeBound c (uses gd ++ pt.regs) → ∀ v, v = pointValue (u.g c) pt → exec (mk c gd tag pt) s =
        s.settle c (s.pc c + 4) u (u.issue c (mk c gd tag pt) tag
          (op (u.g c) (BitVec.ofNat 14 v) (if noWord then 0 else v / 2 ^ 14 - v / 2 ^ 14 % n) gd)) := by
    intro s c gd tag pt h u hu v hv
    rw [hexec, State.pointOp, State.runInstr_ready h true false _ rfl rfl, ← hu, State.behind_of_one_word (hp c gd tag pt), pointOperand_eq, hv]
  constructor
  · intro s c gd tag pt h u hcan v
    rw [Completes, hrun s c gd tag pt h u rfl v (by cases pt <;> rfl)]
    exact (State.settle_issue s u c _ tag _ (State.pc_observeBound ..)).1 hcan
  · intro s c gd tag pt h u r points
    rw [Completes, hrun s c gd tag pt h u rfl _ rfl, ← word_exWord _ (hp c gd tag pt)]
    exact (State.settle_issue s u c _ tag _ (State.pc_observeBound ..)).2

/-! ### PSYNC and EMSG, which no clasp holds (R63, R66, R77) -/

/-- An instruction that breaks a clasp's bound and issues outside one. -/
theorem State.settle_issue_outside (s u : State) (c : CoreId) (i : Instr) (tag : BitVec 3) (op : OpKind) (hpc : u.pc c = s.pc c)
    (body : Res) (hbody : body = if (u.core c).clasp.isSome then .exc 9 (exWord i) else u.issue c i tag op) :
    ((u.core c).clasp = none → u.canIssue c tag = true → ∃ t, s.settle c (s.pc c + 4) u body = .next t ∧ Issued u c tag op t) ∧
    ((u.core c).clasp.isSome = true → s.settle c (s.pc c + 4) u body = .next (s.raised c 9 (exWord i))) := by
  subst hbody
  constructor
  · intro hk hcan
    rw [hk, Option.isSome_none, if_neg Bool.false_ne_true]
    exact (State.settle_issue s u c i tag op hpc).1 hcan
  · intro hk
    rw [if_pos hk, State.settle_exc]

/-- Settles O12: the seven point instructions by the conditions of R65 in their order, PSYNC and EMSG outside a clasp in the same way. -/
theorem pointIssues : Obligations.PointIssues := by
  refine ⟨?pget, ?pget2, ?pget4, ?pgetvq, ?pput, ?pput2, ?pput4, ?psync, ?emsg⟩
  case psync =>
    intro s c gd tag pt h u v
    have hv : v = pointValue (u.g c) pt := by cases pt <;> rfl
    rw [Completes, exec_psync, execPsync, State.runInstr_ready h true false _ rfl rfl, State.behind_of_one_word rfl, ← word_exWord _ rfl]
    refine State.settle_issue_outside s u c _ tag _ (State.pc_observeBound ..) _ ?_
    simp only [pointOperand_eq, hv]
    rfl
  case emsg =>
    intro s c gd tag unit typ ga len reply i pay uses h u
    have hready : s.ready c (.emsg c gd tag unit typ ga len reply) ((if reply then [gd] else []) ++ payloadRegs ga len) = true := h
    rw [Completes, exec_emsg, execEmsg, State.runInstr_ready hready true false _ rfl rfl, State.behind_of_one_word rfl, ← word_exWord _ rfl]
    exact State.settle_issue_outside s u c i tag _ (State.pc_observeBound ..) _ rfl
  all_goals exact issuesPoint_of_pointOp (fun _ _ _ _ _ => rfl) (fun _ _ _ _ => rfl)

end Sys2Proof.Machine
end

section
/-! Block-float results written (R68, R69) and block-float arithmetic (R70; O16). -/

namespace Sys2Proof.Machine

/-! ### A block-float result written (R69) -/

/-- A register set with a block-float result written to a b register and the PC moved: a saturated result sets LS.BF_STICKY. -/
def Ctx.putB (x : Ctx) (bd : BitVec 3) (r : BReg × Bool) (pc : Word) : Ctx :=
  let y : Ctx := { x with b := x.b.set bd.toNat r.1, pc := pc }
  { y with ls := if r.2 then setBitOf y.ls 12 true else y.ls }

theorem State.bfWrite_done (s : State) (c : CoreId) (i : Instr) (bd : BitVec 3) {tt : Bool} {r : BReg × Bool} (h : (r.2 && tt) = false) :
    s.bfWrite c i bd tt r = .done (s.updCtx c (fun x => x.putB bd r x.pc)) := by
  rw [State.bfWrite, h, if_neg Bool.false_ne_true]
  cases hr : r.2 with
  | false => simp [State.setB, Ctx.putB, hr]
  | true => simp [State.setB, State.setLs, State.ls, State.updCtx, State.setCore_setCore, Ctx.putB, hr]

/-- At T = 1 a saturated result raises BF_OVERFLOW. -/
theorem State.bfWrite_overflow (s : State) (c : CoreId) (i : Instr) (bd : BitVec 3) {r : BReg × Bool} (h : r.2 = true) :
    s.bfWrite c i bd true r = .exc 8 (exWord i) := by
  rw [State.bfWrite, h, Bool.and_self, if_pos rfl]

/-- An instruction whose body writes a block-float result completes with it, whatever state its body ended in. -/
theorem State.settle_bfWrite (s t u : State) (c : CoreId) (next : Word) (i : Instr) (bd : BitVec 3) {tt : Bool} {r : BReg × Bool}
    (h : (r.2 && tt) = false) : ∃ w, s.settle c next t (u.bfWrite c i bd tt r) = .next w ∧
      Retires u c ((u.core c).ctx.putB bd r next) w := by
  rw [State.bfWrite_done u c i bd h]
  exact State.finish_done_updCtx u c next _

/-! ### Instructions on b registers alone (R70) -/

section
variable {s : State} {c : CoreId} {i : Instr} {bd ba bb : BitVec 3} {tt : Bool} {f : BReg → BReg → BReg → BReg × Bool}

/-- An instruction whose meaning is a function of b registers forms its result from them. -/
theorem blockFloats_of_bf (hexec : exec i s = s.bf c i bd ba bb tt f) (hp : prefixWord i = none) (h : s.ready c i [] = true) :
    BlockFloats s c i bd tt (f (s.b c bd) (s.b c ba) (s.b c bb)) := by
  set r := f (s.b c bd) (s.b c ba) (s.b c bb) with hr
  have hrun : exec i s = s.settle c (s.pc c + 4) s (s.bfWrite c i bd tt r) := by
    rw [hexec, State.bf, State.runInstr_ready h true false _ rfl rfl, State.behind_of_one_word hp]
    rfl
  rw [BlockFloats, Completes, Completes, hrun, ← word_exWord i hp]
  refine ⟨fun hfits => ?_, fun hsat ht => ?_, fun hsat ht => ?_⟩
  · have h := State.settle_bfWrite s s s c (s.pc c + 4) i bd (tt := tt) (r := r) (by rw [hfits, Bool.false_and])
    rwa [Ctx.putB, hfits, if_neg Bool.false_ne_true] at h
  · have h := State.settle_bfWrite s s s c (s.pc c + 4) i bd (tt := tt) (r := r) (by rw [ht, Bool.and_false])
    rwa [Ctx.putB, hsat, if_pos rfl] at h
  · rw [ht, State.bfWrite_overflow s c i bd hsat, State.settle_exc]

/-- At T = 0 such an instruction completes whatever its lanes hold; of the core's g and b registers it writes bd alone. -/
theorem bf_completes (hexec : exec i s = s.bf c i bd ba bb false f) (hp : prefixWord i = none) (h : s.ready c i [] = true) :
    ∃ t, exec i s = .next t ∧ t.pc c = s.pc c + 4 ∧ (t.core c).ctx.g = (s.core c).ctx.g ∧ (∀ r, r ≠ bd → t.b c r = s.b c r) ∧
      t.points = s.points ∧ t.scan.mem = s.scan.mem := by
  obtain ⟨t, ht, k, rfl, hctx, -⟩ :=
    State.settle_bfWrite s s s c (s.pc c + 4) i bd (tt := false) (r := f (s.b c bd) (s.b c ba) (s.b c bb)) (Bool.and_false _)
  refine ⟨s.setCore c k, ?_, ?_, ?_, fun r hr => ?_, rfl, rfl⟩
  · rw [hexec, State.bf, State.runInstr_ready h true false _ rfl rfl, State.behind_of_one_word hp]
    exact ht
  · rw [State.pc, State.core_setCore_same, hctx]
    rfl
  · rw [State.core_setCore_same, hctx]
    rfl
  · have hne : bd.toNat ≠ r.toNat := fun he => hr (BitVec.eq_of_toNat_eq he.symm)
    simp [State.b, hctx, Ctx.putB, hne]

end

theorem formsOf2_of_bf {mk : CoreId → BitVec 3 → BitVec 3 → BitVec 3 → Bool → Instr} {f : BReg → BReg → BReg → BReg × Bool}
    (hexec : ∀ c bd ba bb tt s, exec (mk c bd ba bb tt) s = s.bf c (mk c bd ba bb tt) bd ba bb tt f)
    (hp : ∀ c bd ba bb tt, prefixWord (mk c bd ba bb tt) = none) : FormsOf2 mk f :=
  fun s c bd ba bb tt h => blockFloats_of_bf (hexec c bd ba bb tt s) (hp c bd ba bb tt) h

theorem formsOf1_of_bf {mk : CoreId → BitVec 3 → BitVec 3 → Bool → Instr} {f : BReg → BReg × Bool}
    (hexec : ∀ c bd ba tt s, exec (mk c bd ba tt) s = s.bf c (mk c bd ba tt) bd ba ba tt (fun _ x _ => f x))
    (hp : ∀ c bd ba tt, prefixWord (mk c bd ba tt) = none) : FormsOf1 mk f :=
  fun s c bd ba tt h => blockFloats_of_bf (hexec c bd ba tt s) (hp c bd ba tt) h

/-- The operations that VBCAST's field names (R70). -/
theorem bfOp_toNat (op : BitVec 5) (d a b : BReg) : bfOp op.toNat d a b =
    if op = 0 then bfCombine (· + ·) a b else if op = 1 then bfCombine (· - ·) a b else if op = 2 then bfMul a b else bfMac d a b := by
  split
  next h => rw [h]; rfl
  split
  next h => rw [h]; rfl
  split
  next h => rw [h]; rfl
  next h0 h1 h2 =>
    have hne : ∀ n : Nat, n < 32 → op ≠ BitVec.ofNat 5 n → op.toNat ≠ n := fun n hn hop he =>
      hop (BitVec.eq_of_toNat_eq (by rw [he, BitVec.toNat_ofNat, Nat.mod_eq_of_lt hn]))
    have hn0 := hne 0 (by decide) h0
    have hn1 := hne 1 (by decide) h1
    have hn2 := hne 2 (by decide) h2
    obtain ⟨n, hn⟩ : ∃ n, op.toNat = n + 3 := ⟨op.toNat - 3, by omega⟩
    rw [hn]
    rfl

/-- Settles O16: each instruction is a function of the b registers as they stand before it. -/
theorem blockFloatArithmetic : Obligations.BlockFloatArithmetic := by
  refine ⟨?completes, ?vadd, ?vsub, ?vmul, ?vmac, ?vmin, ?vmax, ?vclamp, ?vdot, ?vneg, ?vabs, ?vsum, ?vbcast⟩
  case completes =>
    intro s c bd ba bb lane op i hi h
    simp only [List.mem_cons, List.not_mem_nil, or_false] at hi
    rcases hi with rfl | rfl | rfl | rfl | rfl | rfl | rfl | rfl | rfl | rfl | rfl | rfl
    · exact bf_completes (exec_vadd ..) rfl h
    · exact bf_completes (exec_vsub ..) rfl h
    · exact bf_completes (exec_vmul ..) rfl h
    · exact bf_completes (exec_vmac ..) rfl h
    · exact bf_completes (exec_vmin ..) rfl h
    · exact bf_completes (exec_vmax ..) rfl h
    · exact bf_completes (exec_vclamp ..) rfl h
    · exact bf_completes (exec_vdot ..) rfl h
    · exact bf_completes (exec_vneg ..) rfl h
    · exact bf_completes (exec_vabs ..) rfl h
    · exact bf_completes (exec_vsum ..) rfl h
    · exact bf_completes (exec_vbcast ..) rfl h
  case vadd => exact formsOf2_of_bf exec_vadd fun _ _ _ _ _ => rfl
  case vsub => exact formsOf2_of_bf exec_vsub fun _ _ _ _ _ => rfl
  case vmul => exact formsOf2_of_bf exec_vmul fun _ _ _ _ _ => rfl
  case vmac => exact formsOf2_of_bf exec_vmac fun _ _ _ _ _ => rfl
  case vmin => exact formsOf2_of_bf exec_vmin fun _ _ _ _ _ => rfl
  case vmax => exact formsOf2_of_bf exec_vmax fun _ _ _ _ _ => rfl
  case vclamp => exact formsOf2_of_bf exec_vclamp fun _ _ _ _ _ => rfl
  case vdot => exact formsOf2_of_bf exec_vdot fun _ _ _ _ _ => rfl
  case vneg => exact formsOf1_of_bf exec_vneg fun _ _ _ _ => rfl
  case vsum => exact formsOf1_of_bf exec_vsum fun _ _ _ _ => rfl
  case vabs =>
    simp only [Int.abs_eq_natAbs]
    exact formsOf1_of_bf exec_vabs fun _ _ _ _ => rfl
  case vbcast =>
    intro s c op lane bd ba bb tt h y
    rw [← bfOp_toNat]
    exact blockFloats_of_bf (f := fun d x y => bfOp op.toNat d x (y.broadcast lane.toNat)) (exec_vbcast ..) rfl h

end Sys2Proof.Machine
end

section
/-! How a block-float register is formed from exact lanes (R68, R69): the smallest exponent at which the rounded lanes fit, renormalisation, and rounding
to nearest with ties to even. -/

namespace Sys2Proof.Machine

/-! ### Rounding (R68 rule 4) -/

/-- A quotient rounded to nearest is within half a divisor of the number, and even at exactly half. -/
theorem divRne_nearest (n : Int) {d : Nat} (hd : 0 < d) :
    2 * |n - divRne n d * d| ≤ d ∧ (2 * |n - divRne n d * d| = d → divRne n d % 2 = 0) := by
  have hdiv : n / (d : Int) * d + n % d = n := Int.ediv_mul_add_emod n d
  have hlo : 0 ≤ n % (d : Int) := Int.emod_nonneg n (by omega)
  have hhi : n % (d : Int) < d := Int.emod_lt_of_pos n (by omega)
  have hdown : n - n / (d : Int) * d = n % d := by omega
  have hup : n - (n / (d : Int) + 1) * d = n % d - d := by rw [add_one_mul]; omega
  unfold divRne
  extract_lets q r
  split
  next h =>
    rw [hdown, abs_of_nonneg hlo]
    omega
  split
  next h =>
    rw [hup, abs_of_nonpos (by omega)]
    omega
  split
  next h =>
    rw [hdown, abs_of_nonneg hlo]
    omega
  next h =>
    rw [hup, abs_of_nonpos (by omega)]
    omega

/-- A lane whose exponent is no lower than the register's is exact. -/
theorem bfRound_exact {n x e : Int} (h : e - 23 ≤ x) : bfRound n x e = n * 2 ^ (x - (e - 23)).toNat := by
  rw [bfRound, if_pos (by omega)]

/-- Any other is rounded to nearest, ties to even. -/
theorem bfRound_nearest {n x e : Int} (h : x < e - 23) {d : Int} (hd : d = 2 ^ ((e - 23) - x).toNat) :
    2 * |n - bfRound n x e * d| ≤ d ∧ (2 * |n - bfRound n x e * d| = d → bfRound n x e % 2 = 0) := by
  have hneg : -(x - (e - 23)) = e - 23 - x := by omega
  have hcast : d = ((2 ^ ((e - 23) - x).toNat : Nat) : Int) := by rw [hd]; push_cast; rfl
  have hround : bfRound n x e = divRne n (2 ^ ((e - 23) - x).toNat) := by rw [bfRound, if_neg (by omega), hneg]
  rw [hround, hcast]
  exact divRne_nearest n (Nat.two_pow_pos _)

/-! ### Lanes that fit (R68 rules 3 and 5) -/

theorem fits24_iff {m : Int} : fits24 m = true ↔ -8388608 ≤ m ∧ m ≤ 8388607 := by simp [fits24]

theorem fits24_eq_false_iff {m : Int} : fits24 m = false ↔ m < -8388608 ∨ 8388607 < m := by
  rw [← Bool.not_eq_true, fits24_iff]
  omega

theorem satInt_24 (m : Int) : satInt 24 m = max (-8388608) (min 8388607 m) := by
  unfold satInt clampInt
  norm_num
  split
  · omega
  split <;> omega

/-- Every lane n × 2^x fits 24 bits once rounded at an exponent. -/
def bfFits (lanes : List Int) (x e : Int) : Bool := lanes.all (fun n => fits24 (bfRound n x e))

theorem bfFits_iff {lanes : List Int} {x e : Int} :
    bfFits lanes x e = true ↔ ∀ n ∈ lanes, -8388608 ≤ bfRound n x e ∧ bfRound n x e ≤ 8388607 := by
  simp [bfFits, fits24_iff]

theorem bfFits_eq_false_iff {lanes : List Int} {x e : Int} :
    bfFits lanes x e = false ↔ ∃ n ∈ lanes, bfRound n x e < -8388608 ∨ 8388607 < bfRound n x e := by
  simp [bfFits, fits24_eq_false_iff]

/-- The exponents are tried from −32 upwards. -/
theorem bfExp_eq_find (lanes : List Int) (x : Int) :
    bfExp (-32) lanes x = ((List.range 64).find? (fun i : Nat => bfFits lanes x ((i : Int) - 32))).map (fun i : Nat => (i : Int) - 32) := by
  rw [bfExp, List.find?_map]
  congr 2
  funext i
  have hlo : -32 ≤ (i : Int) - 32 := by omega
  simp [hlo, bfFits]

/-- The exponent found is the smallest at which every lane fits. -/
theorem bfExp_some {lanes : List Int} {x e : Int} (h : bfExp (-32) lanes x = some e) :
    -32 ≤ e ∧ e ≤ 31 ∧ bfFits lanes x e = true ∧ ∀ d, -32 ≤ d → d < e → bfFits lanes x d = false := by
  rw [bfExp_eq_find, Option.map_eq_some_iff] at h
  obtain ⟨i, hi, rfl⟩ := h
  rw [List.find?_range_eq_some] at hi
  obtain ⟨hfits, hlt, hbelow⟩ := hi
  rw [List.mem_range] at hlt
  refine ⟨by omega, by omega, hfits, fun d hd hde => ?_⟩
  obtain ⟨j, rfl⟩ : ∃ j : Nat, d = (j : Int) - 32 := ⟨(d + 32).toNat, by omega⟩
  simpa using hbelow j (by omega)

/-- Where none is found no exponent up to +31 lets every lane fit. -/
theorem bfExp_none {lanes : List Int} {x : Int} (h : bfExp (-32) lanes x = none) {d : Int} (hlo : -32 ≤ d) (hhi : d ≤ 31) :
    bfFits lanes x d = false := by
  rw [bfExp_eq_find, Option.map_eq_none_iff, List.find?_range_eq_none] at h
  obtain ⟨j, rfl⟩ : ∃ j : Nat, d = (j : Int) - 32 := ⟨(d + 32).toNat, by omega⟩
  simpa using h j (by omega)

/-! ### Renormalisation (R68 rule 5) -/

/-- Renormalisation shifts the lanes left while all of them lie in −2^22 to 2^22 − 1, down to exponent −32; shifted lanes fit 24 bits. -/
theorem bfRenorm_eq : ∀ (fuel : Nat) (m : List Int) (e : Int), -32 ≤ e → e + 32 ≤ fuel →
    ∃ j : Nat, bfRenorm fuel m e = (m.map (· * 2 ^ j), e - j) ∧ -32 ≤ e - j ∧
      (e - j = -32 ∨ ∃ n ∈ m, n * 2 ^ j < -4194304 ∨ 4194303 < n * 2 ^ j) ∧ (0 < j → ∀ n ∈ m, -8388608 ≤ n * 2 ^ j ∧ n * 2 ^ j ≤ 8388607)
  | 0, m, e, hlo, hfuel => ⟨0, by simp [bfRenorm], by omega, by omega, nofun⟩
  | fuel + 1, m, e, hlo, hfuel => by
    rw [bfRenorm]
    split
    next h =>
      simp only [Bool.and_eq_true, decide_eq_true_eq, List.all_eq_true] at h
      obtain ⟨hgt, hsmall⟩ := h
      obtain ⟨j, heq, hj, hstop, hfit⟩ := bfRenorm_eq fuel (m.map (· * 2)) (e - 1) (by omega) (by omega)
      have hpow : ∀ n : Int, n * 2 * 2 ^ j = n * 2 ^ (j + 1) := fun n => by rw [mul_assoc, pow_succ']
      have hexp : e - 1 - (j : Int) = e - (j + 1 : Nat) := by omega
      simp only [List.map_map, Function.comp_def, List.mem_map, exists_exists_and_eq_and, forall_exists_index, and_imp,
        forall_apply_eq_imp_iff₂, hpow, hexp] at heq hj hstop hfit
      refine ⟨j + 1, heq, hj, hstop, fun _ n hn => ?_⟩
      rcases Nat.eq_zero_or_pos j with rfl | hpos
      · have := hsmall n hn
        omega
      · exact hfit hpos n hn
    next h =>
      refine ⟨0, by simp, by omega, ?_, nofun⟩
      simp only [Bool.and_eq_true, decide_eq_true_eq, List.all_eq_true, not_and_or, not_lt, not_forall, not_le, exists_prop] at h
      rcases h with h | ⟨n, hn, hout⟩
      · left
        omega
      · exact .inr ⟨n, hn, by simpa using hout⟩

/-! ### The register (R68, R69) -/

theorem BReg.exp_ofInts (l : List Int) {e : Int} (hlo : -32 ≤ e) (hhi : e ≤ 31) : (BReg.ofInts l e).exp = e :=
  BitVec.toInt_ofInt_eq_self (by decide) hlo (by omega)

theorem BReg.mants_ofInts {l : List Int} (e : Int) (hlen : l.length = 8) (h : ∀ m ∈ l, -8388608 ≤ m ∧ m ≤ 8388607) : (BReg.ofInts l e).mants = l := by
  apply List.ext_getElem
  · simp [BReg.mants, BReg.ofInts, hlen]
  · intro i hi hi'
    obtain ⟨hlo, hhi⟩ := h l[i] (List.getElem_mem hi')
    simp only [BReg.mants, BReg.ofInts, List.getElem_map, Vector.getElem_toList, Vector.getElem_ofFn, List.getD_eq_getElem?_getD,
      List.getElem?_eq_getElem hi', Option.getD_some]
    exact BitVec.toInt_ofInt_eq_self (by decide) hlo (by omega)

theorem bfResult_some {lanes ms : List Int} {x e : Int} (h : bfNormal lanes x = some (ms, e)) : bfResult lanes x = (BReg.ofInts ms e, false) := by
  rw [bfResult, h]

theorem bfResult_none {lanes : List Int} {x : Int} (h : bfNormal lanes x = none) :
    bfResult lanes x = (BReg.ofInts (lanes.map (fun n => satInt 24 (bfRound n x 31))) 31, true) := by
  rw [bfResult, h]

/-- The exponent at which lanes are rounded: +32 where none up to +31 lets them fit (R69). -/
def bfStart (lanes : List Int) (x : Int) : Int := (bfExp (-32) lanes x).getD 32

theorem bfStart_range (lanes : List Int) (x : Int) :
    -32 ≤ bfStart lanes x ∧ bfStart lanes x ≤ 32 ∧ (bfStart lanes x ≤ 31 → bfFits lanes x (bfStart lanes x) = true) := by
  unfold bfStart
  cases h : bfExp (-32) lanes x with
  | none => simp
  | some e =>
    obtain ⟨hlo, hhi, hfits, -⟩ := bfExp_some h
    exact ⟨hlo, by simp; omega, fun _ => hfits⟩

/-- What renormalisation makes of the lanes rounded at their first exponent k: they shift left by j, and the result is kept where its exponent is at most +31. -/
theorem bfNormal_eq (lanes : List Int) (x : Int) {k : Int} (hk : k = bfStart lanes x) :
    ∃ j : Nat, bfNormal lanes x = (if k - j ≤ 31 then some (lanes.map (fun n => bfRound n x k * 2 ^ j), k - j) else none) ∧ -32 ≤ k - j ∧
      (k - j = -32 ∨ ∃ n ∈ lanes, bfRound n x k * 2 ^ j < -4194304 ∨ 4194303 < bfRound n x k * 2 ^ j) ∧
      (0 < j → ∀ n ∈ lanes, -8388608 ≤ bfRound n x k * 2 ^ j ∧ bfRound n x k * 2 ^ j ≤ 8388607) := by
  obtain ⟨hlo, hhi, -⟩ := bfStart_range lanes x
  rw [← hk] at hlo hhi
  obtain ⟨j, heq, hj, hstop, hfit⟩ := bfRenorm_eq 64 (lanes.map (fun n => bfRound n x k)) k hlo (by omega)
  simp only [List.map_map, Function.comp_def, List.mem_map, exists_exists_and_eq_and, forall_exists_index, and_imp,
    forall_apply_eq_imp_iff₂] at heq hstop hfit
  refine ⟨j, ?_, hj, hstop, hfit⟩
  rw [bfStart] at hk
  simp only [bfNormal, ← hk, heq]

/-- Lanes whose exponent stays in range (R68): their exponent, their mantissas and the register of them. -/
theorem bfNormal_some {lanes ms : List Int} {x e k : Int} (hlen : lanes.length = 8) (hk : k = bfStart lanes x)
    (h : bfNormal lanes x = some (ms, e)) :
    -32 ≤ e ∧ e ≤ k ∧ e ≤ 31 ∧ ms = lanes.map (fun n => bfRound n x k * 2 ^ (k - e).toNat) ∧ (∀ m ∈ ms, -8388608 ≤ m ∧ m ≤ 8388607) ∧
      (e = -32 ∨ ∃ m ∈ ms, m < -4194304 ∨ 4194303 < m) ∧
      (bfResult lanes x).2 = false ∧ (bfResult lanes x).1.exp = e ∧ (bfResult lanes x).1.mants = ms := by
  obtain ⟨j, heq, hlo, hstop, hfit⟩ := bfNormal_eq lanes x hk
  obtain ⟨-, -, hfirst⟩ := bfStart_range lanes x
  rw [← hk] at hfirst
  rw [heq] at h
  split at h
  next hhi =>
    obtain ⟨rfl, rfl⟩ : lanes.map (fun n => bfRound n x k * 2 ^ j) = ms ∧ k - j = e := by simpa using h
    have hshift : (k - (k - (j : Int))).toNat = j := by omega
    have hrange : ∀ m ∈ lanes.map (fun n => bfRound n x k * 2 ^ j), -8388608 ≤ m ∧ m ≤ 8388607 := by
      simp only [List.mem_map, forall_exists_index, and_imp, forall_apply_eq_imp_iff₂]
      intro n hn
      rcases Nat.eq_zero_or_pos j with rfl | hpos
      · simpa using bfFits_iff.mp (hfirst (by omega)) n hn
      · exact hfit hpos n hn
    rw [bfResult_some (by rw [heq, if_pos hhi]), hshift]
    exact ⟨hlo, by omega, hhi, rfl, hrange, by simpa using hstop, rfl, BReg.exp_ofInts _ hlo hhi, BReg.mants_ofInts _ (by simp [hlen]) hrange⟩
  next => cases h

/-- Lanes whose exponent would be above +31 (R69). -/
theorem bfNormal_none {lanes : List Int} {x k : Int} (hlen : lanes.length = 8) (hk : k = bfStart lanes x) (h : bfNormal lanes x = none) :
    k = 32 ∧ (∃ n ∈ lanes, bfRound n x 32 < -4194304 ∨ 4194303 < bfRound n x 32) ∧ (bfResult lanes x).2 = true ∧ (bfResult lanes x).1.exp = 31 ∧
      (bfResult lanes x).1.mants = lanes.map (fun n => max (-8388608) (min 8388607 (bfRound n x 31))) := by
  obtain ⟨j, heq, -, hstop, -⟩ := bfNormal_eq lanes x hk
  obtain ⟨-, hle, -⟩ := bfStart_range lanes x
  rw [← hk] at hle
  have hhi : ¬ (k - (j : Int) ≤ 31) := fun hin => by
    rw [heq, if_pos hin] at h
    cases h
  obtain ⟨rfl, rfl⟩ : k = 32 ∧ j = 0 := by omega
  have hsat : ∀ m ∈ lanes.map (fun n => satInt 24 (bfRound n x 31)), -8388608 ≤ m ∧ m ≤ 8388607 := by
    simp only [List.mem_map, forall_exists_index, and_imp, forall_apply_eq_imp_iff₂, satInt_24]
    intro n _
    omega
  rw [bfResult_none h]
  refine ⟨rfl, by simpa using hstop, rfl, BReg.exp_ofInts _ (by decide) (by decide), ?_⟩
  rw [BReg.mants_ofInts _ (by simp [hlen]) hsat]
  simp only [satInt_24]

end Sys2Proof.Machine
end

section
/-! Block-float moves, conversions and comparisons (R71), and loads and stores of eight words (R71, R76; O17). -/

namespace Sys2Proof.Machine

/-! ### Moves, conversions and comparisons -/

section MOVES
variable {s : State} {c : CoreId} {i : Instr} {bd : BitVec 3} {ga : BitVec 4}

/-- An instruction without a T bit whose result is formed from registers completes with it, saturated or not (R69). -/
theorem completes_bfWrite {uses : List (BitVec 4)} (f : State → BReg × Bool) (h : s.ready c i uses = true) (hp : prefixWord i = none)
    (hexec : exec i s = s.runInstr c i true false uses (fun t => t.bfWrite c i bd false (f t))) (u : State) (hu : u = s.observeBound c uses) :
    Completes i s (Retires u c ((u.core c).ctx.putB bd (f u) (s.pc c + 4))) := by
  rw [Completes, hexec, State.runInstr_ready h true false _ rfl rfl, ← hu, State.behind_of_one_word hp]
  exact State.settle_bfWrite s u u c _ i bd (Bool.and_false _)

theorem formsFrom_of_bfWrite {mk : CoreId → BitVec 3 → BitVec 4 → Instr} {f g : BReg → Word → BReg × Bool}
    (hexec : ∀ c bd ga s, exec (mk c bd ga) s =
      s.runInstr c (mk c bd ga) true false [ga] (fun t => t.bfWrite c (mk c bd ga) bd false (g (t.b c bd) (t.g c ga))))
    (hp : ∀ c bd ga, prefixWord (mk c bd ga) = none) (hfg : ∀ b w, g b w = f b w) : FormsFrom mk f := by
  obtain rfl : g = f := funext fun b => funext (hfg b)
  exact fun s c bd ga h => completes_bfWrite (fun t => g (t.b c bd) (t.g c ga)) h (hp c bd ga) (hexec c bd ga s) _ rfl

/-- The exponent VSETE takes from a word (R71). -/
theorem signedN_six (w : Word) : signedN 6 w.toNat = (w.setWidth 6).toInt := by rw [signedN_eq_toInt, BitVec.ofNat_toNat]

/-- What saturates to S32 saturates on its own side (R71: VCVT). -/
theorem wi_satInt_32 {v : Int} (h : v < -2147483648 ∨ 2147483647 < v) : wi (satInt 32 v) = if v < 0 then 0x80000000 else 0x7FFFFFFF := by
  rw [satInt_32]
  split
  next hneg =>
    rw [max_eq_left (by omega)]
    rfl
  next hpos =>
    rw [min_eq_left (by omega)]
    rfl

theorem State.setLs_setG (u : State) (v : Word) : (u.setG c ga v).setLs c (setBitOf (u.ls c) 12 true) =
    u.updCtx c (fun x => { x with g := x.g.set ga.toNat v, ls := setBitOf x.ls 12 true }) := by
  simp [State.setG, State.setLs, State.ls, State.updCtx, State.setCore_setCore]

/-- VCVT by its value: in S32 it is written; outside, it is saturated with LS.BF_STICKY set at T = 0 and raises BF_OVERFLOW at T = 1. -/
theorem exec_vcvt_cases {lane : BitVec 3} {scale : BitVec 6} {tt : Bool} (h : s.ready c (.vcvt c ga bd lane scale tt) [ga] = true) (u : State)
    (hu : u = s.observeBound c [ga]) (v : Int) (hv : v = bfToInt ((u.b c bd).mant lane.toNat) (u.b c bd).exp scale.toInt) :
    (-2147483648 ≤ v ∧ v ≤ 2147483647 → Completes (.vcvt c ga bd lane scale tt) s (Retires u c ((u.core c).ctx.put ga (BitVec.ofInt 32 v) (s.pc c + 4)))) ∧
    (v < -2147483648 ∨ 2147483647 < v → tt = false → Completes (.vcvt c ga bd lane scale tt) s (Retires u c
      { (u.core c).ctx.put ga (if v < 0 then 0x80000000 else 0x7FFFFFFF) (s.pc c + 4) with ls := setBitOf (u.ls c) 12 true })) ∧
    (v < -2147483648 ∨ 2147483647 < v → tt = true →
      exec (.vcvt c ga bd lane scale tt) s = .next (s.raised c 8 (BitVec.ofNat 32 (encode (.vcvt c ga bd lane scale tt))))) := by
  have hout : outOfS32 v = decide (v < -2147483648 ∨ 2147483647 < v) := (Bool.decide_or _ _).symm
  rw [Completes, Completes, exec_vcvt, execVcvt, State.runInstr_ready h true false _ rfl rfl, ← hu, State.behind_of_one_word rfl]
  simp only [← hv, hout, decide_eq_true_eq]
  refine ⟨fun hin => ?_, fun hov ht => ?_, fun hov ht => ?_⟩
  · rw [if_neg (by omega)]
    exact State.settle_setG s u u c _ ga _
  · rw [if_pos hov, ht, if_neg Bool.false_ne_true, State.setLs_setG, wi_satInt_32 hov]
    exact State.finish_done_updCtx u c _ _
  · rw [if_pos hov, ht, if_pos rfl, State.settle_exc, word_exWord _ rfl]

/-- VCMP sets one bit a lane. -/
theorem exec_vcmp_completes {bb cond : BitVec 3} (h : s.ready c (.vcmp c ga bd bb cond) [ga] = true) (u : State) (hu : u = s.observeBound c [ga]) :
    Completes (.vcmp c ga bd bb cond) s (fun t => ∃ v : Word, Retires u c ((u.core c).ctx.put ga v (s.pc c + 4)) t ∧ ∀ j < 32,
      v.getLsbD j = (decide (j < 8) && bfCond cond.toNat ((u.b c bd).mant j) (u.b c bd).exp ((u.b c bb).mant j) (u.b c bb).exp)) := by
  subst hu
  obtain ⟨t, ht, hr⟩ := State.compute_ready h (fun u => wd (maskBelow (fun j =>
    bfCond cond.toNat ((u.b c bd).mant j) (u.b c bd).exp ((u.b c bb).mant j) (u.b c bb).exp) 8))
  refine ⟨t, ht, _, hr, fun j hj => ?_⟩
  rw [wd, BitVec.getLsbD_ofNat, testBit_maskBelow]
  simp [hj]

end MOVES

/-! ### Eight words loaded -/

theorem vectorAddr_eq (g : Word) (off : BitVec 12) : vectorAddr g off = g + 32 * off.signExtend 32 := by rw [vectorAddr, BitVec.mul_comm]

/-- Which LPDDR5 address an effective address names does not depend on the direction of the access (R41). -/
theorem State.dataAddr_lpddr_load {u : State} {c : CoreId} {ea : Word} {n a : Nat} {write : Bool} (h : u.dataAddr c ea n write = .lpddr a) :
    u.dataAddr c ea n false = .lpddr a := by
  have hc : isScan c = false := by
    by_contra hscan
    rw [Bool.not_eq_false] at hscan
    simp only [State.dataAddr, hscan, if_true] at h
    split_ifs at h
  simpa only [State.dataAddr, hc, Bool.false_eq_true, if_false] using h

section WORDS
variable {u : State} {c : CoreId} {ea : Word} {a : Nat} {write : Bool}

/-- Eight words of LPDDR5, one after another. -/
def State.EightInLpddr (u : State) (c : CoreId) (ea : Word) (a : Nat) (write : Bool) : Prop :=
  ∀ j < 8, u.dataAddr c (ea + BitVec.ofNat 32 (4 * j)) 4 write = .lpddr (a + 4 * j)

/-- None of them is an address that raises MEMORY. -/
theorem State.EightInLpddr.allowed (h : u.EightInLpddr c ea a write) :
    (List.range 8).any (fun j => u.dataAddr c (ea + wd (4 * j)) 4 write == .memory) = false := by
  rw [List.any_eq_false]
  intro j hj
  rw [wd, h j (List.mem_range.mp hj)]
  simp

/-- None of them is a register. -/
theorem State.EightInLpddr.noRegister (h : u.EightInLpddr c ea a write) : u.anyRegister c ea = false := by
  rw [State.anyRegister, List.any_eq_false]
  intro j hj
  rw [wd, State.dataAddr_lpddr_load (h j (List.mem_range.mp hj))]
  exact Bool.false_ne_true

/-- The words a load takes from them. -/
theorem State.EightInLpddr.readWords (h : u.EightInLpddr c ea a false) : ∀ n ≤ 8,
    u.readWords c ea n = (u, (List.range n).map (fun j => bytesWord (Memory.readN u.lpddr (a + 4 * j) 4)))
  | 0, _ => rfl
  | n + 1, hn => by
    have ih := h.readWords n (by omega)
    have ha := h n (by omega)
    simp only [State.readWords, ih, wd, ha, List.range_succ, List.map_append, List.map_cons, List.map_nil]

end WORDS

section VLD
variable {s : State} {c : CoreId} {bd : BitVec 3} {ga : BitVec 4} {off : BitVec 12}

/-- The body of VLD in a state that has the lock it needs: MEMORY for a poisoned word, else the register of the eight words. -/
def State.loadVector (t : State) (c : CoreId) (i : Instr) (bd : BitVec 3) (ea : Word) (a : Nat) : Res :=
  if t.loadPoisoned c a 32 then .exc 3 ea
  else t.bfWrite c i bd false (bfOfWords ((List.range 8).map (fun j => bytesWord (t.loadBytes c (a + 4 * j) 4))))

/-- A load of eight words outside poisoned ones completes; one that meets a poisoned word raises MEMORY (R14, R71). -/
theorem State.settle_loadVector (s t u : State) (c : CoreId) (next : Word) (i : Instr) (bd : BitVec 3) (ea : Word) (a : Nat) :
    (u.loadPoisoned c a 32 = false → ∃ w, s.settle c next t (u.loadVector c i bd ea a) = .next w ∧ Retires u c
      ((u.core c).ctx.putB bd (bfOfWords ((List.range 8).map (fun j => bytesWord (u.loadBytes c (a + 4 * j) 4)))) next) w) ∧
    (u.loadPoisoned c a 32 = true → s.settle c next t (u.loadVector c i bd ea a) = .next (s.raised c 3 ea)) := by
  constructor
  · intro h
    rw [State.loadVector, h, if_neg Bool.false_ne_true]
    exact State.settle_bfWrite s t u c next i bd (Bool.and_false _)
  · intro h
    rw [State.loadVector, h, if_pos rfl, State.settle_exc]

/-- VLD by the place its address names. -/
theorem exec_vld_places (h : s.ready c (.vld c bd ga off) [ga] = true) (u : State) (hu : u = s.observeBound c [ga]) (ea : Word)
    (hea : ea = u.g c ga + 32 * off.signExtend 32) :
    (∀ a cl, u.dataAddr c ea 32 false = .at a cl → exec (.vld c bd ga off) s =
      s.settle c (s.pc c + 4) u (u.underLock c cl (fun t => t.loadVector c (.vld c bd ga off) bd ea a))) ∧
    (∀ a, u.dataAddr c ea 32 false = .lpddr a → u.EightInLpddr c ea a false → exec (.vld c bd ga off) s = s.settle c (s.pc c + 4) u
      (u.bfWrite c (.vld c bd ga off) bd false (bfOfWords ((List.range 8).map (fun j => bytesWord (Memory.readN u.lpddr (a + 4 * j) 4)))))) ∧
    (u.dataAddr c ea 32 false = .memory → exec (.vld c bd ga off) s = .next (s.raised c 3 ea)) := by
  rw [exec_vld, execVld, State.runInstr_ready h true false _ rfl rfl, ← hu, State.behind_of_one_word rfl, vectorAddr_eq, ← hea]
  refine ⟨fun a cl ha => ?_, fun a ha hwords => ?_, fun ha => ?_⟩
  · simp only [ha]
    rfl
  · simp only [ha, hwords.allowed, hwords.noRegister, hwords.readWords 8 le_rfl, Bool.and_false, Bool.false_eq_true, if_false]
  · simp only [ha, State.settle_exc]

end VLD

/-! ### Eight words stored -/

theorem Memory.writeN_append : ∀ (l l' : List Byte) (m : Memory) (a : Nat),
    Memory.writeN m a (l ++ l') = Memory.writeN (Memory.writeN m a l) (a + l.length) l'
  | [], _, _, _ => rfl
  | x :: xs, l', m, a => by
    rw [List.cons_append, Memory.writeN, Memory.writeN_append xs l', Memory.writeN, List.length_cons, Nat.add_right_comm, Nat.add_assoc a]

/-- The bytes of consecutive words, least significant first (R5). -/
theorem getD_flatMap_wordBytes : ∀ (l : List Word) (k : Nat),
    (l.flatMap wordBytes).getD k 0 = BitVec.ofNat 8 ((l.getD (k / 4) 0).toNat / 256 ^ (k % 4))
  | [], k => by simp
  | w :: l, k => by
    have hlen : (wordBytes w).length = 4 := rfl
    rw [List.flatMap_cons]
    rcases Nat.lt_or_ge k 4 with hk | hk
    · rw [List.getD_append _ _ _ _ (by omega), getD_wordBytes w hk, Nat.div_eq_of_lt hk, Nat.mod_eq_of_lt hk, List.getD_cons_zero]
    · obtain ⟨j, rfl⟩ : ∃ j, k = j + 4 := ⟨k - 4, by omega⟩
      rw [List.getD_append_right _ _ _ _ (by omega), hlen, Nat.add_sub_cancel, getD_flatMap_wordBytes l j, Nat.add_div_right j (by decide),
        Nat.add_mod_right, List.getD_cons_succ]

/-- The eight words of a b register (R71: VST). -/
def BReg.words (b : BReg) : List Word := (List.range 8).map (fun i => b.laneWord i)

theorem BReg.length_bytes (b : BReg) : (b.words.flatMap wordBytes).length = 32 := rfl

/-- Memory after the eight words of a register are written: their bytes, little-endian, and no other. -/
theorem Memory.read_writeN_words (m : Memory) (a k : Nat) (b : BReg) : Memory.read (Memory.writeN m a (b.words.flatMap wordBytes)) k =
    if a ≤ k ∧ k < a + 32 then BitVec.ofNat 8 ((b.laneWord ((k - a) / 4)).toNat / 256 ^ ((k - a) % 4)) else Memory.read m k := by
  rw [Memory.read_writeN, b.length_bytes]
  split
  next h =>
    have hlane : b.words.getD ((k - a) / 4) 0 = b.laneWord ((k - a) / 4) := by
      simp [BReg.words, List.getD_eq_getElem?_getD, show (k - a) / 4 < 8 by omega]
    rw [getD_flatMap_wordBytes, hlane]
  next => rfl

/-- Words stored to LPDDR5 one after another are their bytes stored at once. -/
theorem State.writeWords_lpddr (c : CoreId) : ∀ (l : List Word) (u : State) (ea : Word) (a : Nat),
    (∀ j < l.length, u.dataAddr c (ea + BitVec.ofNat 32 (4 * j)) 4 true = .lpddr (a + 4 * j)) →
    u.writeWords c ea l = .next { u with lpddr := Memory.writeN u.lpddr a (l.flatMap wordBytes) }
  | [], _, _, _, _ => rfl
  | w :: l, u, ea, a, h => by
    have hfirst : u.dataAddr c ea 4 true = .lpddr a := by simpa using h 0 (by simp)
    have hrest : ∀ j < l.length, State.dataAddr { u with lpddr := Memory.writeN u.lpddr a (wordBytes w) } c (ea + 4 + BitVec.ofNat 32 (4 * j)) 4 true =
        .lpddr (a + 4 + 4 * j) := by
      intro j hj
      have hea : ea + 4 + BitVec.ofNat 32 (4 * j) = ea + BitVec.ofNat 32 (4 * (j + 1)) := by
        rw [BitVec.add_assoc, Nat.mul_add, Nat.add_comm (4 * j), BitVec.ofNat_add]
        rfl
      rw [hea, show a + 4 + 4 * j = a + 4 * (j + 1) by omega]
      exact h (j + 1) (by simpa using hj)
    simp only [State.writeWords, hfirst, State.writeWords_lpddr c l _ _ _ hrest, List.flatMap_cons, Memory.writeN_append]
    rfl

/-- An instruction whose body has changed LPDDR5 alone completes with the PC moved. -/
theorem State.settle_lpddr (s t u : State) (c : CoreId) (next : Word) (m : Memory) :
    ∃ w, s.settle c next t (.done { u with lpddr := m }) = .next w ∧ Retires { u with lpddr := m } c { (u.core c).ctx with pc := next } w :=
  State.finish_done_self { u with lpddr := m } c next

/-- So does one that has stored to core memory. -/
theorem State.settle_storeBytes (s t u : State) (c : CoreId) (next : Word) (a : Nat) (b : List Byte) :
    ∃ w p l, s.settle c next t (.done (u.storeBytes c a b)) = .next w ∧
      Retires { u with scan := { u.scan with mem := Memory.writeN u.scan.mem a b, poison := p, lessons := l } } c { (u.core c).ctx with pc := next } w := by
  obtain ⟨p, l, hframe⟩ := u.storeBytes_frame c a b
  obtain ⟨w, hw, hret⟩ := State.finish_done_self
    { u with scan := { u.scan with mem := Memory.writeN u.scan.mem a b, poison := p, lessons := l } } c next
  rw [hframe]
  exact ⟨w, p, l, hw, hret⟩

section VST
variable {s : State} {c : CoreId} {bd : BitVec 3} {ga : BitVec 4} {off : BitVec 12}

/-- VST by the place its address names. -/
theorem exec_vst_places (h : s.ready c (.vst c bd ga off) [ga] = true) (u : State) (hu : u = s.observeBound c [ga]) (ea : Word)
    (hea : ea = u.g c ga + 32 * off.signExtend 32) :
    (∀ a cl, u.dataAddr c ea 32 true = .at a cl → exec (.vst c bd ga off) s =
      s.settle c (s.pc c + 4) u (u.underLock c cl (fun t => .done (t.storeCore c a cl ((u.b c bd).words.flatMap wordBytes))))) ∧
    (∀ a, u.dataAddr c ea 32 true = .lpddr a → u.EightInLpddr c ea a true → exec (.vst c bd ga off) s = s.settle c (s.pc c + 4) u
      (.done { u with lpddr := Memory.writeN u.lpddr a ((u.b c bd).words.flatMap wordBytes) })) ∧
    (u.dataAddr c ea 32 true = .memory → exec (.vst c bd ga off) s = .next (s.raised c 3 ea)) := by
  rw [exec_vst, execVst, State.runInstr_ready h true false _ rfl rfl, ← hu, State.behind_of_one_word rfl, vectorAddr_eq, ← hea]
  refine ⟨fun a cl ha => ?_, fun a ha hwords => ?_, fun ha => ?_⟩
  · simp only [ha]
    rfl
  · have hwrite := State.writeWords_lpddr c (u.b c bd).words u ea a hwords
    rw [BReg.words] at hwrite
    simp only [ha, hwords.allowed, hwords.noRegister, hwrite, Bool.and_false, Bool.false_eq_true, if_false]
    rfl
  · simp only [ha, State.settle_exc]

end VST

/-! ### The statement -/

/-- Settles O17: how a register is formed from exact lanes, then each move by what its body writes, and VLD and VST by the place their address names. -/
theorem blockFloatMoves : Obligations.BlockFloatMoves := by
  refine ⟨⟨fun lanes x hlen => ⟨?exponent, ?saturates, ?normal, ?none⟩, fun n x e => bfRound_exact, fun n x e h => bfRound_nearest h rfl⟩,
    ?vext, ?vgexp, ?vcmp, ?vzero, ?vsete, ?vsplat, ?vins, ?vcvtf, ?vcvt, ?vld, ?vst⟩
  case exponent =>
    intro e he
    obtain ⟨hlo, hhi, hfits, hbelow⟩ := bfExp_some he
    exact ⟨hlo, hhi, bfFits_iff.mp hfits, fun d hd hde => bfFits_eq_false_iff.mp (hbelow d hd hde)⟩
  case saturates => exact fun he d hlo hhi => bfFits_eq_false_iff.mp (bfExp_none he hlo hhi)
  case normal => exact fun ms e => bfNormal_some hlen rfl
  case none => exact bfNormal_none hlen rfl
  case vext =>
    intro s c ga bd lane h
    rw [Completes, exec_vext]
    exact State.compute_ready h _
  case vgexp =>
    intro s c ga bd h
    rw [Completes, exec_vgexp]
    exact State.compute_ready h _
  case vcmp => exact fun s c ga bd bb cond h => exec_vcmp_completes h _ rfl
  case vzero =>
    intro s c bd h
    rw [Completes, exec_vzero, execVzero, State.runInstr_ready h true false _ rfl rfl, State.behind_of_one_word rfl]
    exact State.finish_done_updCtx s c _ _
  case vsete =>
    refine formsFrom_of_bfWrite (g := fun b w => b.setExp (signedN 6 w.toNat)) exec_vsete (fun _ _ _ => rfl) fun b w => ?_
    rw [signedN_six]
  case vsplat =>
    exact formsFrom_of_bfWrite (g := fun _ w => bfResult (List.replicate 8 (bf24Mant w)) (bf24Exp w - 23)) exec_vsplat (fun _ _ _ => rfl) fun _ _ => rfl
  case vins =>
    intro s c bd ga lane h
    exact completes_bfWrite (fun t => (t.b c bd).insert lane.toNat (bf24Mant (t.g c ga)) (bf24Exp (t.g c ga) - 23)) h rfl
      (exec_vins c bd ga lane s) _ rfl
  case vcvtf =>
    intro s c bd ga lane scale h
    exact completes_bfWrite (fun t => (t.b c bd).insert lane.toNat (t.g c ga).toInt scale.toInt) h rfl (exec_vcvtf c bd ga lane scale s) _ rfl
  case vcvt => exact fun s c ga bd lane scale tt h => exec_vcvt_cases h _ rfl _ rfl
  case vld =>
    intro s c bd ga off h u ea
    obtain ⟨hat, hlpddr, hmemory⟩ := exec_vld_places h u rfl ea rfl
    unfold Completes
    refine ⟨?free, ?take, ?queue, ?poisoned, ?lpddr, hmemory⟩
    case free =>
      intro a cl ha hl hp
      rw [hat a cl ha, State.underLock_free hl]
      exact (State.settle_loadVector s u u c _ _ bd ea a).1 hp
    case take =>
      intro a cl ha hl hp
      rw [hat a cl ha, State.underLock_take hl]
      exact (State.settle_loadVector s u _ c _ _ bd ea a).1 hp
    case queue =>
      intro a cl ha hl
      rw [hat a cl ha, State.underLock_queue hl]
      exact State.settle_queued s u u c _
    case poisoned =>
      intro a cl ha hl hp
      rw [hat a cl ha, State.underLock_free hl]
      exact (State.settle_loadVector s u u c _ _ bd ea a).2 hp
    case lpddr =>
      intro a ha hwords
      rw [hlpddr a ha hwords]
      exact State.settle_bfWrite s u u c _ _ bd (Bool.and_false _)
  case vst =>
    intro s c bd ga off h u ea
    obtain ⟨hat, hlpddr, hmemory⟩ := exec_vst_places h u rfl ea rfl
    unfold Completes
    refine ⟨?outside, ?inside, ?queue, ?lpddr, hmemory⟩
    case outside =>
      intro a cl ha hk
      rw [hat a cl ha, State.underLock_free (State.lockNeed_outside cl hk), State.storeCore_outside hk]
      obtain ⟨t, p, l, ht, hret⟩ := State.settle_storeBytes s u u c (s.pc c + 4) a ((u.b c bd).words.flatMap wordBytes)
      exact ⟨t, ht, _, p, l, hret, fun b => Memory.read_writeN_words _ a b _⟩
    case inside =>
      intro a cl k ha hk hl
      rw [hat a cl ha, State.underLock_free hl, State.storeCore_inside hk]
      obtain ⟨t, ht, hmem, -, hctx, hclasp⟩ := State.settle_buffered s u u c (s.pc c + 4) (k.buffer a cl ((u.b c bd).words.flatMap wordBytes))
      have hstores := congrArg (Option.map Prod.snd) hclasp
      rw [Option.map_map] at hstores
      exact ⟨t, ht, hmem, hctx, hstores⟩
    case queue =>
      intro a cl ha hl
      rw [hat a cl ha, State.underLock_queue hl]
      exact State.settle_queued s u u c _
    case lpddr =>
      intro a ha hwords
      rw [hlpddr a ha hwords]
      obtain ⟨t, ht, hret⟩ := State.settle_lpddr s u u c (s.pc c + 4) (Memory.writeN u.lpddr a ((u.b c bd).words.flatMap wordBytes))
      exact ⟨t, ht, _, hret, fun b => Memory.read_writeN_words _ a b _⟩

end Sys2Proof.Machine
end

section
/-! Floors, forces and the clearing of lessons' marks by the Prefect's writes (R28, R94, R98; O21). -/

namespace Sys2Proof.Machine

/-! ### The record a set or a clear of a force leaves (R14, R28, R98) -/

/-- VALUE, and in QUAL the force set or cleared and POISONED cleared, before STAMP, the limits and LEVEL. -/
def Point.forceValue (p : Point) (v h : Word) (on : Bool) : Point :=
  let p := (p.setWord 0 v).setWord 1 (p.hi h)
  p.setWord 2 (setBitOf (setBitOf (p.word 2) 10 false) 2 on)

theorem Point.forceTo_eq (p : Point) (v h : Word) (on : Bool) (now : Nat) :
    p.forceTo v h on now = (((p.heal.forceValue v h on).stamp now).checkLimits).settleLevel := rfl

theorem Point.word_forceValue_ne (p : Point) (v h : Word) (on : Bool) {j : Nat} (hj : j ≠ 2) :
    (p.forceValue v h on).word j = if j = 1 then p.hi h else if j = 0 then v else p.word j := by
  rw [Point.forceValue, Point.word_setWord _ j _ (by omega), if_neg hj, Point.word_setWord _ j _ (by omega), Point.word_setWord _ j _ (by omega)]

theorem Point.forced_forceValue (p : Point) (v h : Word) (on : Bool) : (p.forceValue v h on).forced = on := by
  rw [Point.forced, Point.forceValue, Point.word_setWord _ 2 _ (by omega), if_pos rfl, bitOf_setBitOf _ _ _ _ (by omega), if_pos rfl]

/-- The words of the record other than QUAL: SEQ, STAMP, the value in VALUE, and the others as healing leaves them. -/
theorem Point.word_forceTo (p : Point) (v h : Word) (on : Bool) (now : Nat) {j : Nat} (hj : j ≠ 2) : (p.forceTo v h on now).word j =
    if j = 6 then p.heal.word 6 + 1 else if j = 5 then wd (now / 2 ^ 32 % 2 ^ 32) else if j = 4 then wd (now % 2 ^ 32)
    else if j = 1 then p.heal.hi h else if j = 0 then v else p.heal.word j := by
  rw [Point.forceTo_eq, Point.word_settleLevel_ne _ hj, Point.word_checkLimits_ne _ hj, Point.word_stamp, Point.word_forceValue_ne _ _ _ _ hj,
    Point.word_forceValue_ne _ _ _ _ (by omega : 6 ≠ 2)]
  rfl

theorem Point.forced_forceTo (p : Point) (v h : Word) (on : Bool) (now : Nat) : (p.forceTo v h on now).forced = on := by
  rw [Point.forceTo_eq, Point.forced, Point.bitOf_settleLevel _ (by omega), Point.bitOf_checkLimits _ (by omega) (by omega), Point.word_stamp]
  exact p.heal.forced_forceValue v h on

/-- A force set or cleared leaves no word poisoned (R14). -/
theorem Point.forceTo_poison (p : Point) (v h : Word) (on : Bool) (now : Nat) : (p.forceTo v h on now).poison = 0 := rfl

/-! ### Forces set and cleared (R98) -/

/-- A point's record replaced by a set or a clear of its force: the Locket copy, the outputs that follow it, and the event. -/
def State.putForce (s : State) (m : Master) (kind : Nat) (i : PointIdx) (p : Point) : State :=
  (((s.setPoint i p).retainPoint i).follow i).forceEvent m kind i

/-- It changes that point and no other. -/
theorem State.point_putForce (s : State) (m : Master) (kind : Nat) (i : PointIdx) (p : Point) (j : PointIdx) :
    (s.putForce m kind i p).point j = if j = i then p else s.point j := by
  obtain ⟨r, f, l, h⟩ := (s.setPoint i p).settle_frame i
  have hpoints : (s.putForce m kind i p).points = (s.setPoint i p).points := by rw [State.putForce, State.forceEvent, State.record_points, h]
  rw [State.point_of_points hpoints, State.point_setPoint]

theorem State.point_putForce_same (s : State) (m : Master) (kind : Nat) (i : PointIdx) (p : Point) : (s.putForce m kind i p).point i = p := by
  rw [State.point_putForce, if_pos rfl]

theorem State.point_putForce_ne (s : State) (m : Master) (kind : Nat) {i j : PointIdx} (p : Point) (h : j ≠ i) :
    (s.putForce m kind i p).point j = s.point j := by
  rw [State.point_putForce, if_neg h]

/-- The point that the force registers name. -/
def State.forceIdx (s : State) : PointIdx := BitVec.ofNat 14 (s.fld Reg.SCAN_FORCE_IDX 13 0)

theorem State.forceSet_taken {s : State} (m : Master) (h : (s.point s.forceIdx).forced = true ∨ s.forces.length < 256) : s.forceSet m =
    s.putForce m 1 s.forceIdx ((s.point s.forceIdx).forceTo (s.rd Reg.SCAN_FORCE_VAL_LO) (s.rd Reg.SCAN_FORCE_VAL_HI) true s.now) := by
  have hroom : ¬(!(s.point s.forceIdx).forced && decide (256 ≤ s.forces.length)) = true := by
    rcases h with h | h <;> simp [h]
  exact if_neg hroom

theorem State.forceSet_full {s : State} (m : Master) (hfree : (s.point s.forceIdx).forced = false) (hfull : 256 ≤ s.forces.length) :
    s.forceSet m = s.setBit Reg.SCAN_FORCE_STAT 16 true := by
  have hno : (!(s.point s.forceIdx).forced && decide (256 ≤ s.forces.length)) = true := by simp [hfree, hfull]
  exact if_pos hno

theorem State.forceClear_forced {s : State} (m : Master) {i : PointIdx} (h : (s.point i).forced = true) : s.forceClear m i =
    s.putForce m 2 i ((s.point i).forceTo ((s.point i).heal.word 7) ((s.point i).heal.word 8) false s.now) := if_pos h

theorem State.forceClear_free {s : State} (m : Master) {i : PointIdx} (h : (s.point i).forced = false) : s.forceClear m i = s :=
  if_neg (by simp [h])

/-! ### Floors (R94) -/

/-- The sum of the floors of the other slots. -/
def State.otherFloors (s : State) (slot : Nat) : Nat := ((List.range 16).filter (fun k => k != slot)).foldl (fun n k => n + s.floorOf k) 0

theorem State.floorWrite_taken {s : State} {slot : Nat} {v : Word} (hmax : bits v 10 0 ≤ 1024) (hsum : s.otherFloors slot + bits v 10 0 ≤ 4096) :
    s.floorWrite slot v = s.setFld (Reg.SCAN_HR_FLOOR slot) 10 0 (bits v 10 0) :=
  if_neg (not_or.2 ⟨not_lt.2 hmax, not_lt.2 hsum⟩)

theorem State.floorWrite_refused {s : State} {slot : Nat} {v : Word} (h : 1024 < bits v 10 0 ∨ 4096 < s.otherFloors slot + bits v 10 0) :
    s.floorWrite slot v = s.setBit Reg.SCAN_STAT 3 true := if_pos h

/-! ### The marks of lessons -/

/-- A lesson's marks noted for clearing as its next period begins. -/
def Lesson.clear (l : Lesson) : Lesson := { l with clrPending := true }

theorem State.updLesson_regs (s : State) (n : Nat) (f : Lesson → Lesson) : (s.updLesson n f).regs = s.regs := by
  obtain ⟨_, _, _, _, h⟩ := s.updLesson_coresAndLessons n f
  rw [h]

/-- Lessons cleared one after the other: each that is listed, once or more often, is noted, and the others stay. -/
theorem State.lesson_clearEach {n : Nat} : ∀ (ps : List (Nat × Lesson)) {s : State} {l : Lesson}, s.lesson? n = some l →
    (ps.foldl (fun s p => s.updLesson p.1 Lesson.clear) s).lesson? n = some (if n ∈ ps.map Prod.fst then l.clear else l)
  | [], _, _, h => h
  | p :: ps, s, l, h => by
    rw [List.foldl_cons]
    by_cases hp : n = p.1
    · have hnoted : (s.updLesson p.1 Lesson.clear).lesson? n = some l.clear := hp ▸ State.lesson_updLesson_same (hp ▸ h) _
      have hlisted : n ∈ (p :: ps).map Prod.fst := List.mem_cons.2 (.inl hp)
      rw [State.lesson_clearEach ps hnoted, if_pos hlisted]
      exact congrArg some (ite_self _)
    · rw [State.lesson_clearEach ps ((State.lesson_updLesson_ne s hp _).trans h)]
      simp only [List.map_cons, List.mem_cons, hp, false_or]

theorem State.clearEach_regs : ∀ (ps : List (Nat × Lesson)) (s : State), (ps.foldl (fun s p => s.updLesson p.1 Lesson.clear) s).regs = s.regs
  | [], _ => rfl
  | _ :: ps, s => (State.clearEach_regs ps _).trans (s.updLesson_regs _ _)

/-! ### The commands -/

/-- A write that is carried out answers with what its operation makes of the state in which it arrives (R313). -/
theorem exec_eq_next_of_obeys {s t : State} {m : Master} {i : Instr} {f : State → State} (h : (s.woken m).obeys m = true)
    (hexec : exec i s = .next (s.asPrefect m f)) (ht : f (s.woken m) = t) : exec i s = .next t :=
  hexec.trans (congrArg _ ((State.asPrefect_obeys h f).trans ht))

/-- Settles O21: the floors by the bounds of R94, each force by whether its point has one and the table has room, the record it leaves word by word,
and the marks of one lesson and of every lesson. -/
theorem forces : Obligations.Forces := by
  refine ⟨?floor, ?force, ?record, ?all, ?one, ?every⟩
  case floor =>
    intro s m slot v u others hobeys
    refine ⟨fun hmax hsum => ?_, fun hno => ?_⟩
    · refine ⟨_, exec_eq_next_of_obeys hobeys rfl (State.floorWrite_taken hmax hsum), ?_, fun a ha => u.rd_setFld_ne _ _ _ ha, rfl⟩
      rw [State.fld_setFld _ _ _ _ _ (by omega) (by omega)]
      exact Nat.mod_eq_of_lt (by omega)
    · exact ⟨_, exec_eq_next_of_obeys hobeys rfl (State.floorWrite_refused hno),
        State.bit_setBit_same _ _ _ _ (by omega), fun a ha => u.rd_setBit_ne _ _ ha, rfl⟩
  case force =>
    intro s m u i hobeys
    refine ⟨fun h => ?set, fun hfree hfull => ?full, fun h => ?clear, fun h => ?nothing⟩
    case set => exact ⟨_, exec_eq_next_of_obeys hobeys rfl (State.forceSet_taken m h),
        u.point_putForce_same .., fun j hj => u.point_putForce_ne _ _ _ hj⟩
    case full => exact ⟨_, exec_eq_next_of_obeys hobeys rfl (State.forceSet_full m hfree hfull), State.bit_setBit_same _ _ _ _ (by omega), rfl⟩
    case clear => exact ⟨_, exec_eq_next_of_obeys hobeys rfl (State.forceClear_forced m h),
        u.point_putForce_same .., fun j hj => u.point_putForce_ne _ _ _ hj⟩
    case nothing => exact exec_eq_next_of_obeys hobeys rfl (State.forceClear_free m h)
  case record =>
    intro p v h b now
    have hword : ∀ j, j ≠ 2 → _ := fun j => @Point.word_forceTo p v h b now j
    exact ⟨Point.heal_of_sound, hword 0 (by omega), hword 1 (by omega), p.forced_forceTo v h b now, hword 6 (by omega), hword 4 (by omega),
      hword 5 (by omega), hword 7 (by omega), hword 8 (by omega), hword 3 (by omega), p.forceTo_poison v h b now⟩
  case all =>
    intro s m i hobeys honly hforced
    have hclear : (s.woken m).forces.foldl (fun s i => s.forceClear m i) (s.woken m) = (s.woken m).forceClear m i := by
      rw [honly, List.foldl_cons, List.foldl_nil]
    refine ⟨_, exec_eq_next_of_obeys hobeys rfl (hclear.trans (State.forceClear_forced m hforced)), ?_, fun j hj => State.point_putForce_ne _ _ _ _ hj⟩
    rw [State.point_putForce_same, Point.forced_forceTo]
  case one =>
    intro s m n l hobeys hl
    exact ⟨_, exec_eq_next_of_obeys hobeys rfl rfl, State.lesson_updLesson_same hl _,
      fun k hk => State.lesson_updLesson_ne _ hk _, State.updLesson_regs _ _ _⟩
  case every =>
    intro s m n l hobeys hmem hl
    refine ⟨_, exec_eq_next_of_obeys hobeys rfl rfl, ?_, State.clearEach_regs _ _⟩
    exact (State.lesson_clearEach _ hl).trans (congrArg some (if_pos (List.mem_map_of_mem hmem)))

end Sys2Proof.Machine
end

section
/-! The delivery of a program image: BEGIN, PUSH, CHECK and its end, and ABORT (R103, R104; O23). -/

namespace Sys2Proof.Machine

theorem OnlyRegs.mono {u t : State} {l m : List Nat} (h : OnlyRegs u l t) (hl : l ⊆ m) : OnlyRegs u m t :=
  ⟨h.1, fun a ha => h.2 a (fun hal => ha (hl hal))⟩

theorem OnlyRegs.ite {u s t : State} {l : List Nat} (p : Prop) [Decidable p] (h : OnlyRegs u l s) (k : OnlyRegs u l t) :
    OnlyRegs u l (if p then s else t) := by
  split
  · exact h
  · exact k

/-! ### STATE, ERR and SESSION of SCAN_PROG_STAT -/

theorem State.progState_progErr (s : State) (code : Nat) : (s.progErr code).progState = s.progState :=
  State.fld_setFld_apart _ _ _ _ _ _ _ (by decide) (by decide) (by decide)

theorem State.busy_progErr (s : State) (code : Nat) : (s.progErr code).bit Reg.SCAN_PROG_STAT 4 = s.bit Reg.SCAN_PROG_STAT 4 :=
  State.bit_setFld_apart _ _ _ _ _ _ (by decide) (by decide) (by decide)

theorem State.err_progErr (s : State) {code : Nat} (h : code < 32) : (s.progErr code).fld Reg.SCAN_PROG_STAT 12 8 = code :=
  (State.fld_setFld _ _ _ _ _ (by decide) (by decide)).trans (Nat.mod_eq_of_lt h)

/-- STATE set with ERR 0, as BEGIN and CHECK write them. -/
theorem State.setProg_noErr (s : State) {st : Nat} (h : st < 16) : OnlyRegs s [Reg.SCAN_PROG_STAT] ((s.setProg st).progErr 0) ∧
    ((s.setProg st).progErr 0).progState = st ∧ ((s.setProg st).progErr 0).bit Reg.SCAN_PROG_STAT 4 = false ∧
      ((s.setProg st).progErr 0).fld Reg.SCAN_PROG_STAT 12 8 = 0 :=
  ⟨(s.setProg_onlyRegs st).wr _ (by decide), (State.progState_progErr _ _).trans (s.progState_setProg h),
    (State.busy_progErr _ _).trans (s.busy_setProg st), State.err_progErr _ (by decide)⟩

/-- The session that SCAN_PROG_STAT.SESSION shows for a master: 0 for steward firmware (R103, log entry 65). -/
def shownSession (m : Master) : Nat := (m.session.map BitVec.toNat).getD 0

theorem shownSession_sess (n : Fin 8) : shownSession (.sess n) = n.val := Nat.mod_eq_of_lt n.isLt

theorem shownSession_lt : ∀ m : Master, shownSession m < 8
  | .steward => by decide
  | .sess n => (shownSession_sess n).symm ▸ n.isLt

/-! ### BEGIN -/

/-- Nothing staged, and what is delivered from here on is for the tenant named, or for the building. -/
def State.stagingFor (s : State) (tenant : Option (BitVec 12)) : State := { s with scan := { s.scan with staged := [], stagedTenant := tenant } }

theorem State.progBegin_taken {s : State} (m : Master) (own : Bool) (tenant : BitVec 12) (h : s.progState ∈ [0, 1, 3, 8]) : s.progBegin m own tenant =
    (((s.stagingFor (if own then some tenant else none)).setProg 1).progErr 0).setFld Reg.SCAN_PROG_STAT 18 16 (shownSession m) := by
  refine (if_pos (List.contains_iff_mem.2 h)).trans ?_
  cases m with
  | steward => rfl
  | sess n =>
    rw [shownSession_sess]
    rfl

theorem State.progBegin_refused {s : State} (m : Master) (own : Bool) (tenant : BitVec 12) (h : s.progState ∉ [0, 1, 3, 8]) :
    s.progBegin m own tenant = s.outOfSequence := if_neg (mt List.contains_iff_mem.1 h)

/-- SESSION set leaves STATE, BUSY and ERR as they are. -/
theorem State.setSession_facts (s : State) {sess : Nat} (h : sess < 8) :
    let t := s.setFld Reg.SCAN_PROG_STAT 18 16 sess
    t.progState = s.progState ∧ t.bit Reg.SCAN_PROG_STAT 4 = s.bit Reg.SCAN_PROG_STAT 4 ∧
      t.fld Reg.SCAN_PROG_STAT 12 8 = s.fld Reg.SCAN_PROG_STAT 12 8 ∧ t.fld Reg.SCAN_PROG_STAT 18 16 = sess :=
  ⟨State.fld_setFld_apart _ _ _ _ _ _ _ (by decide) (by decide) (by decide), State.bit_setFld_apart _ _ _ _ _ _ (by decide) (by decide) (by decide),
    State.fld_setFld_apart _ _ _ _ _ _ _ (by decide) (by decide) (by decide),
    (State.fld_setFld _ _ _ _ _ (by decide) (by decide)).trans (Nat.mod_eq_of_lt h)⟩

/-! ### PUSH -/

theorem State.progPush_staged {s : State} (items : List ImageItem) (h : s.progState ∈ [1, 3, 8])
    (hfits : s.fld Reg.SCAN_PROG_OFFSET 24 0 + s.fld Reg.SCAN_PROG_LEN 12 0 ≤ 25165824) : s.progPush items =
    State.setProg { s with scan := { s.scan with
      staged := Tab.set (fun _ => (0, [])) s.scan.staged (s.fld Reg.SCAN_PROG_OFFSET 24 0) (s.fld Reg.SCAN_PROG_LEN 12 0, items) } } 1 :=
  (if_pos (List.contains_iff_mem.2 h)).trans (if_neg (not_lt.2 hfits))

theorem State.progPush_tooLong {s : State} (items : List ImageItem) (h : s.progState ∈ [1, 3, 8])
    (hlong : 25165824 < s.fld Reg.SCAN_PROG_OFFSET 24 0 + s.fld Reg.SCAN_PROG_LEN 12 0) : s.progPush items = s.progErr 1 :=
  (if_pos (List.contains_iff_mem.2 h)).trans (if_pos hlong)

theorem State.progPush_refused {s : State} (items : List ImageItem) (h : s.progState ∉ [1, 3, 8]) : s.progPush items = s.outOfSequence :=
  if_neg (mt List.contains_iff_mem.1 h)

/-! ### CHECK -/

theorem State.progCheck_taken {s : State} (h : s.progState ∈ [1, 3, 8]) :
    s.progCheck = (((s.setProg 2).progErr 0).wr Reg.SCAN_PROG_DETAIL 0).setBit Reg.SCAN_PROG_STAT 4 true := if_pos (List.contains_iff_mem.2 h)

theorem State.progCheck_refused {s : State} (h : s.progState ∉ [1, 3, 8]) : s.progCheck = s.outOfSequence := if_neg (mt List.contains_iff_mem.1 h)

/-- A check begun: CHECKING and BUSY, with no ERR and no DETAIL (R103). -/
theorem State.progCheck_begins {s : State} (h : s.progState ∈ [1, 3, 8]) :
    OnlyRegs s [Reg.SCAN_PROG_STAT, Reg.SCAN_PROG_DETAIL] s.progCheck ∧ s.progCheck.progState = 2 ∧ s.progCheck.bit Reg.SCAN_PROG_STAT 4 = true ∧
      s.progCheck.fld Reg.SCAN_PROG_STAT 12 8 = 0 ∧ s.progCheck.rd Reg.SCAN_PROG_DETAIL = 0 := by
  obtain ⟨honly, hstate, -, herr⟩ := s.setProg_noErr (show 2 < 16 by decide)
  rw [State.progCheck_taken h]
  refine ⟨?_, ?_, State.bit_setBit_same _ _ _ _ (by decide), ?_, ?_⟩
  · exact ((honly.mono (by simp)).wr _ (by decide)).wr _ (by decide)
  · rw [State.progState, State.fld_setBit_apart _ _ _ _ _ _ (by decide) (by decide), State.fld_of_rd (State.rd_wr_ne _ _ (by decide))]
    exact hstate
  · rw [State.fld_setBit_apart _ _ _ _ _ _ (by decide) (by decide), State.fld_of_rd (State.rd_wr_ne _ _ (by decide))]
    exact herr
  · rw [State.rd_setBit_ne _ _ _ (by decide), State.rd_wr_same]

/-! ### The end of CHECK (R104) -/

/-- The use of a slot that a check makes changes KEY_DENY_CNT at most (R303). -/
theorem State.imageKeyUse_onlyRegs (s : State) (h : ImageHeader) : OnlyRegs s [Reg.KEY_DENY_CNT] (s.imageKeyUse h) := by
  unfold State.imageKeyUse
  split
  · exact .ite _ (s.incSat_onlyRegs _ _ _) (.refl s _)
  · exact .refl s _

/-- A check that ends does so in the state its key use leaves: VALID where no rule is broken, else a refusal with the lowest code. -/
theorem State.progChecked_ends {s : State} (h : s.progState = 2) : ∃ u : State, OnlyRegs s [Reg.KEY_DENY_CNT] u ∧
    (s.imageRefusal s.scan.stagedTenant.isSome = none → s.progChecked = u.setProg 3) ∧
    ∀ code item kind, s.imageRefusal s.scan.stagedTenant.isSome = some (code, item, kind) →
      ∃ n, s.progChecked = State.refuseImage { u with free := n } code item kind := by
  unfold State.progChecked
  rw [if_pos h]
  extract_lets refusal u
  have hu : OnlyRegs s [Reg.KEY_DENY_CNT] u := by
    simp only [u]
    split
    · exact .ite _ (.refl s _) (s.imageKeyUse_onlyRegs _)
    · exact .refl s _
  clear_value u
  refine ⟨u, hu, fun hnone => ?_, fun code item kind hsome => ?_⟩
  · simp only [refusal, hnone]
  · simp only [refusal, hsome]
    split
    · exact ⟨u.free + 1, rfl⟩
    · exact ⟨u.free, rfl⟩

theorem State.progChecked_idle {s : State} (h : s.progState ≠ 2) : s.progChecked = s := if_neg h

/-- An image that breaks no rule is VALID. -/
theorem State.progChecked_valid {s : State} (h : s.progState = 2) (hnone : s.imageRefusal s.scan.stagedTenant.isSome = none) :
    OnlyRegs s [Reg.SCAN_PROG_STAT, Reg.KEY_DENY_CNT] s.progChecked ∧ s.progChecked.progState = 3 ∧
      s.progChecked.bit Reg.SCAN_PROG_STAT 4 = false := by
  obtain ⟨u, hu, hvalid, -⟩ := State.progChecked_ends h
  rw [hvalid hnone]
  exact ⟨(hu.mono (by simp)).trans ((u.setProg_onlyRegs 3).mono (by simp)), u.progState_setProg (by decide), u.busy_setProg 3⟩

/-- The registers of a refusal, before its event. -/
def State.imageRefused (s : State) (code item kind : Nat) : State :=
  ((s.setProg 8).progErr code).wr Reg.SCAN_PROG_DETAIL (wd (item % 65536 + kind * 65536))

theorem State.refuseImage_eq (s : State) (code item kind : Nat) : s.refuseImage code item kind =
    (s.imageRefused code item kind).record { sev := 3, source := 0x04, code := 104, args := [wd code, wd item] } := rfl

theorem State.imageRefused_facts (s : State) {code : Nat} (item kind : Nat) (h : code < 32) :
    let v := s.imageRefused code item kind
    v.progState = 8 ∧ v.bit Reg.SCAN_PROG_STAT 4 = false ∧ v.fld Reg.SCAN_PROG_STAT 12 8 = code ∧
      v.rd Reg.SCAN_PROG_DETAIL = wd (item % 65536 + kind * 65536) ∧ v.scan = s.scan ∧ v.points = s.points := by
  have hstat : (s.imageRefused code item kind).rd Reg.SCAN_PROG_STAT = ((s.setProg 8).progErr code).rd Reg.SCAN_PROG_STAT :=
    State.rd_wr_ne _ _ (by decide)
  refine ⟨?_, ?_, ?_, State.rd_wr_same _ _ _, rfl, rfl⟩
  · exact (State.fld_of_rd hstat 3 0).trans ((State.progState_progErr _ _).trans (s.progState_setProg (by decide)))
  · exact (State.bit_of_rd hstat 4).trans ((State.busy_progErr _ _).trans (s.busy_setProg 8))
  · exact (State.fld_of_rd hstat 12 8).trans (State.err_progErr _ h)

/-- A check that finds a rule broken is the refusal's event over its registers; the scan and the points stay. -/
theorem State.progChecked_refuses {s : State} (h : s.progState = 2) {code item kind : Nat}
    (hsome : s.imageRefusal s.scan.stagedTenant.isSome = some (code, item, kind)) (hcode : code < 32) : ∃ v : State,
    s.progChecked = v.record { sev := 3, source := 0x04, code := 104, args := [wd code, wd item] } ∧ v.progState = 8 ∧
      v.bit Reg.SCAN_PROG_STAT 4 = false ∧ v.fld Reg.SCAN_PROG_STAT 12 8 = code ∧
      v.rd Reg.SCAN_PROG_DETAIL = wd (item % 65536 + kind * 65536) ∧ v.scan = s.scan ∧ v.points = s.points := by
  obtain ⟨u, ⟨huse, -⟩, -, hrefuse⟩ := State.progChecked_ends h
  obtain ⟨n, hn⟩ := hrefuse code item kind hsome
  have huscan : u.scan = s.scan := by rw [huse]
  have hupoints : u.points = s.points := by rw [huse]
  obtain ⟨hstate, hbusy, herr, hdetail, hscan, hpoints⟩ := State.imageRefused_facts { u with free := n } item kind hcode
  exact ⟨_, hn.trans (State.refuseImage_eq _ _ _ _), hstate, hbusy, herr, hdetail, hscan.trans huscan, hpoints.trans hupoints⟩

/-! ### ABORT -/

theorem State.progAbort_taken {s : State} (h : s.progState ∉ [6, 7]) :
    s.progAbort = State.setProg { s with scan := { s.scan with staged := [], stagedTenant := none, switch := none } } 0 :=
  if_neg (mt List.contains_iff_mem.1 h)

theorem State.progAbort_refused {s : State} (h : s.progState ∈ [6, 7]) : s.progAbort = s.outOfSequence := if_pos (List.contains_iff_mem.2 h)

/-- Settles O23: each command by whether STATE takes it, then what it writes; the end of CHECK by whether a rule is broken. -/
theorem imageDelivery : Obligations.ImageDelivery := by
  refine ⟨?begin, ?push, ?checkAbort, ?checkDone⟩
  case begin =>
    intro s m own tenant u hobeys
    refine ⟨fun hst => ?_, fun hno => ⟨_, exec_eq_next_of_obeys hobeys rfl (State.progBegin_refused m own tenant hno), u.outOfSequence_refuses⟩⟩
    obtain ⟨honly, hstate, hbusy, herr⟩ := (u.stagingFor (if own then some tenant else none)).setProg_noErr (show 1 < 16 by decide)
    obtain ⟨hstate', hbusy', herr', hsess⟩ := State.setSession_facts _ (shownSession_lt m)
    exact ⟨_, exec_eq_next_of_obeys hobeys rfl (State.progBegin_taken m own tenant hst), _, rfl, honly.wr _ (List.mem_singleton_self _),
      hstate'.trans hstate, hbusy'.trans hbusy, herr'.trans herr, hsess⟩
  case push =>
    intro s m items u off hobeys
    refine ⟨fun hst hfits => ?_, fun hst hlong => ?_, fun hno => ?_⟩
    · exact ⟨_, exec_eq_next_of_obeys hobeys rfl (State.progPush_staged items hst hfits), _, State.setProg_onlyRegs _ _, Tab.get_set_same _ _ _ _,
        fun k hk => Tab.get_set_ne _ _ _ hk, State.progState_setProg _ (by decide)⟩
    · exact ⟨_, exec_eq_next_of_obeys hobeys rfl (State.progPush_tooLong items hst hlong), u.setFld_onlyRegs _ _ _ _, u.progState_progErr 1,
        u.err_progErr (by decide)⟩
    · exact ⟨_, exec_eq_next_of_obeys hobeys rfl (State.progPush_refused items hno), u.outOfSequence_refuses⟩
  case checkAbort =>
    intro s m u hobeys
    refine ⟨fun hst => ?_, fun hno => ?_, fun hst => ?_, fun hno => ?_⟩
    · exact ⟨_, exec_eq_next_of_obeys hobeys rfl rfl, State.progCheck_begins hst⟩
    · exact ⟨_, exec_eq_next_of_obeys hobeys rfl (State.progCheck_refused hno), u.outOfSequence_refuses⟩
    · exact ⟨_, exec_eq_next_of_obeys hobeys rfl (State.progAbort_taken hst), _, rfl, State.setProg_onlyRegs _ _,
        State.progState_setProg _ (by decide), State.busy_setProg _ _⟩
    · exact ⟨_, exec_eq_next_of_obeys hobeys rfl (State.progAbort_refused hno), u.outOfSequence_refuses⟩
  case checkDone =>
    intro s
    refine ⟨fun hst => congrArg Host.Outcome.next (State.progChecked_idle hst), fun hst => ⟨_, rfl, ?_⟩⟩
    cases hr : s.imageRefusal s.scan.stagedTenant.isSome with
    | none => exact State.progChecked_valid hst hr
    | some r => exact fun hcode => State.progChecked_refuses hst hr hcode

end Sys2Proof.Machine
end

section
/-! SUPPORT. The commands that only the Prefect may give (R308, R313, R132): each is one write over the host path, what the gate of such a write answers
a session whose command it does not carry out, and what dropping the command leaves as it is. -/

namespace Sys2Proof.Machine

/-! ### The gate -/

/-- The Prefect-only commands of the blocks that still answer while the module is DEAD (R369). -/
def answersWhileDead (i : Instr) : Bool :=
  match i with
  | .confirm _ | .enterTest _ | .leaveTest _ | .fwuStart _ | .sysResetGo _ _ => true
  | _ => false

theorem exec_hostWrite_of_answersWhileDead {i : Instr} {m : Master} (h : prefectOnly i = some m) (hd : answersWhileDead i = true) (s : State) :
    ∃ f, exec i s = .next (s.hostWrite m f) := by
  unfold answersWhileDead at hd
  split at hd <;> cases hd <;> cases h
  all_goals exact ⟨_, rfl⟩

theorem exec_asPrefect_of_silentWhileDead {i : Instr} {m : Master} (h : prefectOnly i = some m) (hd : answersWhileDead i = false) (s : State) :
    ∃ f, exec i s = .next (s.asPrefect m f) := by
  unfold prefectOnly at h
  split at h <;> cases h <;> cases hd
  all_goals exact ⟨_, rfl⟩

/-- A Prefect-only command is a write over the host path, whatever it would do once let through. -/
theorem exec_prefectOnly {i : Instr} {m : Master} (h : prefectOnly i = some m) (s : State) : ∃ f, exec i s = .next (s.hostWrite m f) := by
  cases hd : answersWhileDead i with
  | true => exact exec_hostWrite_of_answersWhileDead h hd s
  | false =>
    obtain ⟨f, hexec⟩ := exec_asPrefect_of_silentWhileDead h hd s
    exact ⟨_, hexec⟩

section
variable {s : State} {n : Fin 8} (f : State → State)

theorem State.hostWrite_off (hp : (s.wakeRequest 0).pwr.off = true) : s.hostWrite (.sess n) f = s.wakeRequest 0 := by
  simp [State.hostWrite, hp]

theorem State.hostWrite_notOwner (hp : (s.wakeRequest 0).pwr.off = false) (hn : (s.wakeRequest 0).prefect ≠ some n) :
    s.hostWrite (.sess n) f = (s.wakeRequest 0).dropNotOwner n := by
  simp [State.hostWrite, State.owns, hp, hn]

theorem State.hostWrite_viewed (hp : (s.wakeRequest 0).pwr.off = false) (hn : (s.wakeRequest 0).prefect = some n)
    (hv : (s.wakeRequest 0).bit Reg.ROSTER_VIEW 31 = true) : s.hostWrite (.sess n) f = (s.wakeRequest 0).incSat Reg.ROSTER_VIEW_DENY 31 0 := by
  simp [State.hostWrite, State.owns, State.viewed, hp, hn, hv]

end

/-! ### A write dropped for its session -/

/-- The registers that recording an event may change are in the blocks of the hosts, the loop engine and the recorder. -/
theorem block_of_recordsTo {a : Nat} (h : recordsTo a = true) : a / 65536 ∈ [0x01, 0x06, 0x1B] := by
  simp only [recordsTo, Bool.or_eq_true, Bool.and_eq_true, decide_eq_true_eq, beq_iff_eq] at h
  rcases h with ((((⟨hlo, hhi⟩ | rfl) | rfl) | rfl) | rfl) | rfl
  · have hblock : a / 65536 = 0x1B := by omega
    simp [hblock]
  all_goals decide

/-- Beyond the session's error code, nothing differs but what recording an event may change. -/
theorem State.dropNotOwner_eventsOnly (s : State) (n : Fin 8) : (s.setLastErr n 1).EventsOnly (s.dropNotOwner n) :=
  (State.incSat_eventsOnly _ _ _ _).trans (State.recordWindow_eventsOnly _ _ _ _)

/-- The registers of other blocks read as before. -/
theorem State.rd_dropNotOwner (s : State) (n : Fin 8) {a : Nat} (ha : a / 65536 ∉ [0x01, 0x06, 0x1B]) : (s.dropNotOwner n).rd a = s.rd a := by
  have hquiet : recordsTo a = false := Bool.eq_false_iff.mpr fun h => ha (block_of_recordsTo h)
  have hcount : a ≠ Reg.HOST_NOT_OWNER_CNT := by
    rintro rfl
    exact ha (by decide)
  exact (State.recordWindow_kept _ _ _ _ a hquiet).trans (State.rd_incSat_ne _ _ _ hcount)

/-- The attempt is counted, and its event leaves that count alone. -/
theorem State.notOwnerCount_dropNotOwner (s : State) (n : Fin 8) :
    ((s.dropNotOwner n).rd Reg.HOST_NOT_OWNER_CNT).toNat = min (2 ^ 32 - 1) ((s.rd Reg.HOST_NOT_OWNER_CNT).toNat + 1) :=
  (congrArg BitVec.toNat (State.recordWindow_kept _ _ _ _ Reg.HOST_NOT_OWNER_CNT (by decide))).trans (State.rd_incSat_word _ _)

/-- Settles O56: every command of the list comes through the gate of the host path, which answers by the module's power, the Prefect and the view. -/
theorem onlyThePrefect : Obligations.OnlyThePrefect := by
  intro i s n hi u
  obtain ⟨f, hexec⟩ := exec_prefectOnly hi s
  refine ⟨fun hoff => ?off, fun hon hother => ?notOwner, fun hon hown hview => ?viewed⟩
  case off => exact hexec.trans (congrArg _ (State.hostWrite_off f hoff))
  case notOwner =>
    refine ⟨u.dropNotOwner n, hexec.trans (congrArg _ (State.hostWrite_notOwner f hon hother)), ?_⟩
    have hcnt := u.notOwnerCount_dropNotOwner n
    have hregs := fun a => u.rd_dropNotOwner n (a := a)
    obtain ⟨r, e, tr, p, nand, hframe⟩ := u.dropNotOwner_eventsOnly n
    rw [hframe] at hcnt hregs ⊢
    exact ⟨rfl, hcnt, rfl, rfl, rfl, rfl, rfl, rfl, rfl, rfl, rfl, rfl, rfl, rfl, rfl, hregs⟩
  case viewed =>
    exact ⟨_, hexec.trans (congrArg _ (State.hostWrite_viewed f hon hown hview)), State.incSat_onlyRegs _ _ _ _, State.rd_incSat_word _ _⟩

end Sys2Proof.Machine
end

section
/-! The loop engine's own tables: what a slot, an operator, a zone or a trace channel reads after a write, and what a change of mode leaves
(R136, R147, R152, R157, R161). -/

namespace Sys2Proof.Machine

section
variable (s : State)

/-! ### Slots -/

theorem State.slot_setSlot (n k : Nat) (x : SlotSt) : (s.setSlot n x).slot k = if k = n then x else s.slot k := by
  simp [State.slot, State.setSlot, Tab.get_set]

@[simp] theorem State.slot_setSlot_same (n : Nat) (x : SlotSt) : (s.setSlot n x).slot n = x := by simp [State.slot_setSlot]

theorem State.slot_setSlot_ne {n k : Nat} (x : SlotSt) (h : k ≠ n) : (s.setSlot n x).slot k = s.slot k := by simp [State.slot_setSlot, h]

@[simp] theorem State.setSlot_setSlot (n : Nat) (x y : SlotSt) : (s.setSlot n x).setSlot n y = s.setSlot n y := by
  simp [State.setSlot, Tab.set_set]

/-! ### Zones -/

theorem State.zone_setZone (z k : Nat) (x : ZoneSt) : (s.setZone z x).zone k = if k = z then x else s.zone k := by
  simp [State.zone, State.setZone, Tab.get_set]

@[simp] theorem State.zone_setZone_same (z : Nat) (x : ZoneSt) : (s.setZone z x).zone z = x := by simp [State.zone_setZone]

theorem State.zone_setZone_ne {z k : Nat} (x : ZoneSt) (h : k ≠ z) : (s.setZone z x).zone k = s.zone k := by simp [State.zone_setZone, h]

theorem State.zone_of_loop {s t : State} (h : t.loop = s.loop) (z : Nat) : t.zone z = s.zone z := by rw [State.zone, h]; rfl

theorem modelWord_set (m : Tab Word) (i k : Nat) (v : Word) : modelWord (Tab.set (fun _ => (0 : Word)) m i v) k = if k = i then v else modelWord m k :=
  Tab.get_set _ m i k v

/-! ### Operators and their modes -/

@[simp] theorem State.oper_setOper_same {d : Nat} (x : OperSt) (hd : d < 16) : (s.setOper d x).oper d = x := by
  simp [State.oper, State.setOper, List.getD_eq_getElem?_getD, hd]

theorem State.oper_setOper_ne {d k : Nat} (x : OperSt) (h : k ≠ d) : (s.setOper d x).oper k = s.oper k := by
  simp [State.oper, State.setOper, List.getD_eq_getElem?_getD, h.symm]

@[simp] theorem State.opMode_setOper (d k : Nat) (x : OperSt) : (s.setOper d x).opMode k = s.opMode k := rfl

theorem State.opMode_setOpMode (d : Nat) {m : Nat} (hm : m < 8) : (s.setOpMode d m).opMode d = m := by
  have hrd := s.rd_setOpMode d m (Reg.LOOP_STG_MODE (3 * d))
  rw [State.opMode, State.fld_of_rd hrd, State.fld_setFld _ _ _ _ _ (by omega) (by omega)]
  exact Nat.mod_eq_of_lt hm

/-- The requested mode stands apart from the mode in force. -/
theorem State.reqMode_setOpMode (d m : Nat) :
    (s.setOpMode d m).fld (Reg.LOOP_STG_MODE (3 * d)) 2 0 = s.fld (Reg.LOOP_STG_MODE (3 * d)) 2 0 := by
  rw [State.fld_of_rd (s.rd_setOpMode d m _), State.fld_setFld_apart _ _ _ _ _ _ _ (by omega) (by omega) (by omega)]

theorem State.rd_setOpMode_ne (d m : Nat) {a : Nat} (h : a ≠ Reg.LOOP_STG_MODE (3 * d)) : (s.setOpMode d m).rd a = s.rd a := by
  rw [State.rd_setOpMode, State.rd_setFld_ne _ _ _ _ h]

end

/-- What a change of one operator leaves: the points, every other operator, and the operator's own binding. -/
structure State.OperKept (d : Nat) (s t : State) : Prop where
  points : t.points = s.points
  others : ∀ k, k ≠ d → t.oper k = s.oper k
  bind : (t.oper d).bind = (s.oper d).bind

namespace State.OperKept
variable {d : Nat} {s t u : State}

theorem of_eq (hp : t.points = s.points) (hl : t.loop = s.loop) : s.OperKept d t :=
  have h : ∀ k, t.oper k = s.oper k := fun k => by rw [State.oper, hl]; rfl
  ⟨hp, fun k _ => h k, congrArg _ (h d)⟩

theorem refl : s.OperKept d s := of_eq rfl rfl

theorem trans (h : s.OperKept d t) (k : t.OperKept d u) : s.OperKept d u :=
  ⟨k.points.trans h.points, fun j hj => (k.others j hj).trans (h.others j hj), k.bind.trans h.bind⟩

theorem ite {p : Prop} [Decidable p] (h : s.OperKept d t) (k : s.OperKept d u) : s.OperKept d (if p then t else u) := by
  split
  · exact h
  · exact k

theorem setOper {x : OperSt} (hd : d < 16) (hx : x.bind = (s.oper d).bind) : s.OperKept d (s.setOper d x) :=
  ⟨rfl, fun _ hk => s.oper_setOper_ne x hk, by rw [s.oper_setOper_same x hd, hx]⟩

theorem setOpMode {m : Nat} (hd : d < 16) : s.OperKept d (s.setOpMode d m) := by
  have hfld : s.OperKept d (s.setFld (Reg.LOOP_STG_MODE (3 * d)) 6 4 m) := of_eq rfl rfl
  unfold State.setOpMode
  exact .ite (hfld.trans (.setOper hd rfl)) hfld

theorem opFault (hd : d < 16) : s.OperKept d (s.opFault d) := .ite .refl (.setOpMode hd)

end State.OperKept

end Sys2Proof.Machine
end

section
/-! The messages to the loop engine (R155, R156; O26): each command is the front of the queue applied, and each type of message has one equation. -/

namespace Sys2Proof.Machine

/-! ### The front of the queue -/

/-- The commands of the messages, with the type of message each applies. -/
def loopCommands : List (Instr × Nat) :=
  [(.loopBind, 0x001), (.loopUnbind, 0x002), (.loopParam, 0x003), (.loopMode, 0x004), (.opBind, 0x010), (.opParam, 0x011), (.opMode, 0x012),
   (.opMove, 0x013), (.zone, 0x020), (.loopTriggerMsg, 0x030)]

theorem exec_loopMessage {cmd : Instr} {typ : Nat} (h : (cmd, typ) ∈ loopCommands) (s : State) : exec cmd s = .next (s.loopFront typ) := by
  simp only [loopCommands, List.mem_cons, Prod.mk.injEq, List.not_mem_nil, or_false] at h
  rcases h with ⟨rfl, rfl⟩ | ⟨rfl, rfl⟩ | ⟨rfl, rfl⟩ | ⟨rfl, rfl⟩ | ⟨rfl, rfl⟩ | ⟨rfl, rfl⟩ | ⟨rfl, rfl⟩ | ⟨rfl, rfl⟩ | ⟨rfl, rfl⟩ | ⟨rfl, rfl⟩ <;>
    rfl

/-- The front of the loop engine's queue taken. -/
def State.loopTaken (s : State) (rest : List EngMsg) : State := { s with scan := { s.scan with loopQ := rest } }

theorem State.loopFront_of_other {s : State} {typ : Nat} (h : ∀ q rest, s.scan.loopQ = q :: rest → q.typ.toNat ≠ typ) : s.loopFront typ = s := by
  unfold State.loopFront
  split
  case h_1 q rest hq => exact if_neg (h q rest hq)
  case h_2 => rfl

theorem State.loopFront_of_typ {s : State} {q : EngMsg} {rest : List EngMsg} {typ : Nat} (hq : s.scan.loopQ = q :: rest) (ht : q.typ.toNat = typ) :
    s.loopFront typ = (s.loopTaken rest).loopApply q := by
  unfold State.loopFront
  rw [hq]
  exact if_pos ht

theorem exec_loopMessage_front {cmd : Instr} {s : State} {q : EngMsg} {rest : List EngMsg} {typ : BitVec 10} (h : (cmd, typ.toNat) ∈ loopCommands)
    (hq : s.scan.loopQ = q :: rest) (ht : q.typ = typ) : exec cmd s = .next ((s.loopTaken rest).loopApply q) := by
  rw [exec_loopMessage h, State.loopFront_of_typ hq (congrArg _ ht)]

/-! ### BIND and UNBIND -/

theorem State.loopApply_bind (u : State) {q : EngMsg} (h : q.typ = 0x001) : u.loopApply q =
    if (u.slot (bits (q.payload.getD 0 0) 10 0)).bind = some (bindOf q.payload).2 then u
    else u.slotBind (bits (q.payload.getD 0 0) 10 0) (bindOf q.payload).2 := by
  simp only [State.loopApply, h]
  rfl

theorem State.slotBind_binds (u : State) (n : Nat) (b : SlotBind) : ∃ y : SlotSt, u.slotBind n b = u.setSlot n y ∧ y.bind = some b ∧ y.req = 1 ∧
    y.active = 1 ∧ y.plan = none ∧ y.rosterHold = false ∧ y.feAlarm = false ∧ y.outUsed = (u.committedOut (u.slot n) b.out).bfWord ∧
    y.act.toList.getD 12 0 = (u.committedOut (u.slot n) b.out).bfWord :=
  ⟨_, rfl, rfl, rfl, rfl, rfl, rfl, rfl, rfl, by simp [List.getD_eq_getElem?_getD]⟩

theorem State.loopApply_unbind (u : State) {q : EngMsg} (h : q.typ = 0x002) : u.loopApply q = u.slotUnbind (bits (q.payload.getD 0 0) 10 0) := by
  simp only [State.loopApply, h]
  rfl

theorem State.slotUnbind_unbound {u : State} {n : Nat} (h : (u.slot n).bind = none) : u.slotUnbind n = u := by
  simp only [State.slotUnbind, h]

/-- The record of a point whose producer's level is STALE. -/
def Point.staled (p : Point) : Point := ({ p with plevel := 1 } : Point).settleLevel

/-- The slot a binding has been taken from. -/
def SlotSt.unbound (x : SlotSt) : SlotSt := { x with bind := none, plan := none, active := 0, req := 0 }

theorem Point.staled_plevel (p : Point) : p.staled.plevel = 1 := rfl

theorem Point.word_staled_ne (p : Point) {j : Nat} (hj : j ≠ 2) : p.staled.word j = p.word j := Point.word_settleLevel_ne _ hj

/-- An unbinding changes the slot, the output's record, the outputs still to be committed, registers and the field die's state. -/
theorem State.slotUnbind_frame {u : State} {n : Nat} {b : SlotBind} (h : (u.slot n).bind = some b) : ∃ l r f, u.slotUnbind n =
    let v := (u.setSlot n (u.slot n).unbound).setPoint b.out (u.point b.out).staled
    { v with loop := { v.loop with late := l }, regs := r, field := f } := by
  simp only [State.slotUnbind, h]
  obtain ⟨r, f, hf⟩ := State.follow_outputsOnly _ b.out
  exact ⟨_, r, f, hf⟩

theorem State.slotUnbind_unbinds {u : State} {n : Nat} {b : SlotBind} (h : (u.slot n).bind = some b) : ((u.slotUnbind n).slot n).bind = none ∧
    (∀ k, k ≠ n → (u.slotUnbind n).slot k = u.slot k) ∧ (∀ j, (u.slotUnbind n).point j = if j = b.out then (u.point b.out).staled else u.point j) ∧
    (u.slotUnbind n).scan = u.scan := by
  obtain ⟨l, r, f, hframe⟩ := State.slotUnbind_frame h
  rw [hframe]
  exact ⟨congrArg SlotSt.bind (u.slot_setSlot_same n _), fun k hk => u.slot_setSlot_ne _ hk, fun j => u.point_setPoint b.out j _, rfl⟩

/-! ### PARAM and MODE -/

theorem State.loopApply_param (u : State) {q : EngMsg} (h : q.typ = 0x003) : u.loopApply q =
    let n := bits (q.payload.getD 0 0) 10 0
    let v := u.slotStage n (bits (q.payload.getD 0 0) 19 16) (q.payload.getD 1 0)
    if bitOf (q.payload.getD 0 0) 31 then v.slotApply n else v := by
  simp only [State.loopApply, h]
  rfl

/-- A slot with its staged and its active MAN_OUT set. -/
def SlotSt.setManOut (x : SlotSt) (v : Word) : SlotSt := { x with staged := x.staged.setIfInBounds 12 v, act := x.act.setIfInBounds 12 v }

/-- A slot with MAN_OUT as a MODE message gives it, which is for MANUAL alone. -/
def SlotSt.manOut (x : SlotSt) (mode : Nat) (v : Word) : SlotSt := if mode = 1 then x.setManOut v else x

/-- A slot with a mode asked for: FE_ALARM ends where its action held the slot (R146). -/
def SlotSt.asked (x : SlotSt) (mode : Nat) : SlotSt :=
  { x with req := BitVec.ofNat 3 mode, feAlarm := x.feAlarm && !decide (x.feAction = 1 ∨ x.feAction = 2) }

theorem State.loopApply_mode (u : State) {q : EngMsg} (h : q.typ = 0x004) : u.loopApply q =
    let n := bits (q.payload.getD 0 0) 10 0
    let mode := bits (q.payload.getD 0 0) 18 16
    (if mode = 1 then u.setSlot n ((u.slot n).setManOut (q.payload.getD 1 0)) else u).slotReq n mode := by
  simp only [State.loopApply, h]
  rfl

theorem State.slotReq_taken {s : State} {n mode : Nat} (h : mode ≤ 2 ∨ (mode = 3 ∧ ((s.slot n).bind.map (·.trackEn)).getD false = true)) :
    s.slotReq n mode = s.setSlot n ((s.slot n).asked mode) := by
  have htaken : ¬(3 < mode ∨ (mode = 3 ∧ (!(match (s.slot n).bind with | some b => b.trackEn | none => false)) = true)) := by
    rintro (hbig | ⟨rfl, hno⟩)
    · omega
    · have htrack := (h.resolve_left (by omega)).2
      cases hb : (s.slot n).bind <;> simp [hb] at hno htrack
      rw [hno] at htrack
      cases htrack
  exact if_neg htaken

section
variable (x : SlotSt) (mode : Nat) (v : Word)

@[simp] theorem SlotSt.manOut_bind : (x.manOut mode v).bind = x.bind := by unfold SlotSt.manOut; split <;> rfl
@[simp] theorem SlotSt.manOut_active : (x.manOut mode v).active = x.active := by unfold SlotSt.manOut; split <;> rfl
@[simp] theorem SlotSt.manOut_feAction : (x.manOut mode v).feAction = x.feAction := by unfold SlotSt.manOut; split <;> rfl
@[simp] theorem SlotSt.manOut_feAlarm : (x.manOut mode v).feAlarm = x.feAlarm := by unfold SlotSt.manOut; split <;> rfl

theorem SlotSt.manOut_act : (x.manOut mode v).act.toList.getD 12 0 = if mode = 1 then v else x.act.toList.getD 12 0 := by
  unfold SlotSt.manOut
  split
  · simp [SlotSt.setManOut, List.getD_eq_getElem?_getD]
  · rfl

theorem SlotSt.asked_feAlarm_of_flag (h : x.feAction = 0 ∨ x.feAction = 3) : (x.asked mode).feAlarm = x.feAlarm := by
  rcases h with h | h <;> simp [SlotSt.asked, h]

theorem SlotSt.asked_feAlarm_of_held (h : x.feAction = 1 ∨ x.feAction = 2) : (x.asked mode).feAlarm = false := by
  rcases h with h | h <;> simp [SlotSt.asked, h]

end

/-- A mode that may be asked for becomes the slot's REQ, with MAN_OUT where it is MANUAL. -/
theorem State.loopApply_mode_taken {u : State} {q : EngMsg} (h : q.typ = 0x004) :
    let n := bits (q.payload.getD 0 0) 10 0
    let mode := bits (q.payload.getD 0 0) 18 16
    (mode ≤ 2 ∨ (mode = 3 ∧ ((u.slot n).bind.map (·.trackEn)).getD false = true)) →
    u.loopApply q = u.setSlot n (((u.slot n).manOut mode (q.payload.getD 1 0)).asked mode) := by
  intro n mode hmode
  rw [u.loopApply_mode h]
  by_cases hman : mode = 1
  · refine (congrArg (fun v : State => v.slotReq n mode) (if_pos hman)).trans ?_
    rw [State.slotReq_taken (.inl (by omega)), State.slot_setSlot_same, State.setSlot_setSlot, SlotSt.manOut, if_pos hman]
  · refine (congrArg (fun v : State => v.slotReq n mode) (if_neg hman)).trans ?_
    rw [State.slotReq_taken hmode, SlotSt.manOut, if_neg hman]

/-! ### OP_BIND, OP_PARAM, OP_MODE and OP_MOVE -/

/-- The binding an OP_BIND message asks for. -/
def opBindOf (p : List Word) : PointIdx × Option PointIdx :=
  (BitVec.ofNat 14 (bits (p.getD 1 0) 13 0), if bitOf (p.getD 0 0) 4 then some (BitVec.ofNat 14 (bits (p.getD 1 0) 29 16)) else none)

/-- An operator bound anew: DISABLED, with DISABLED asked for, and its stages at 0 (R152). -/
def State.operBind (s : State) (d : Nat) (b : PointIdx × Option PointIdx) : State :=
  ((s.setFld (Reg.LOOP_STG_MODE (3 * d)) 2 0 0).setOpMode d 0).setOper d { (s.oper d).clear with bind := some b }

theorem State.loopApply_opBind (u : State) {q : EngMsg} (h : q.typ = 0x010) : u.loopApply q =
    if (u.oper (bits (q.payload.getD 0 0) 3 0)).bind = some (opBindOf q.payload) then u
    else u.operBind (bits (q.payload.getD 0 0) 3 0) (opBindOf q.payload) := by
  simp only [State.loopApply, h]
  rfl

theorem State.operBind_binds (u : State) {d : Nat} (b : PointIdx × Option PointIdx) (hd : d < 16) : ((u.operBind d b).oper d).bind = some b ∧
    (u.operBind d b).opMode d = 0 ∧ (u.operBind d b).fld (Reg.LOOP_STG_MODE (3 * d)) 2 0 = 0 ∧
    (∀ a, a ≠ Reg.LOOP_STG_MODE (3 * d) → (u.operBind d b).rd a = u.rd a) ∧ (∀ k, k ≠ d → (u.operBind d b).oper k = u.oper k) ∧
    (u.operBind d b).points = u.points := by
  have hfld : u.OperKept d (u.setFld (Reg.LOOP_STG_MODE (3 * d)) 2 0 0) := .of_eq rfl rfl
  have hkept := hfld.trans (State.OperKept.setOpMode (m := 0) hd)
  refine ⟨congrArg OperSt.bind (State.oper_setOper_same _ _ hd), State.opMode_setOpMode _ d (by omega), ?asked,
    fun a ha => (State.rd_setOpMode_ne _ d 0 ha).trans (u.rd_setFld_ne _ _ _ ha), fun k hk => (State.oper_setOper_ne _ _ hk).trans (hkept.others k hk),
    hkept.points⟩
  case asked => exact (State.reqMode_setOpMode _ d 0).trans (u.fld_setFld _ _ _ _ (by omega) (by omega))

theorem State.loopApply_opParam (u : State) {q : EngMsg} (h : q.typ = 0x011) : u.loopApply q =
    let st := bits (q.payload.getD 0 0) 5 0
    let v := u.wr (Reg.LOOP_STG_PARAM st (bits (q.payload.getD 0 0) 18 16)) (q.payload.getD 1 0)
    if bitOf (q.payload.getD 0 0) 31 then v.stageApply st else v := by
  simp only [State.loopApply, h]
  rfl

theorem State.loopApply_opMode (u : State) {q : EngMsg} (h : q.typ = 0x012) :
    u.loopApply q = u.opReq (bits (q.payload.getD 0 0) 3 0) (bits (q.payload.getD 0 0) 18 16) := by
  simp only [State.loopApply, h]
  rfl

/-- FE_ALARM of a stage ended where its action held the stage (R146). -/
def State.stageReleased (s : State) (st : Nat) : State :=
  if s.fld (Reg.LOOP_STG_FE st) 17 16 = 1 ∨ s.fld (Reg.LOOP_STG_FE st) 17 16 = 2 then s.setBit (Reg.LOOP_STG_STAT st) 0 false else s

/-- The mode asked of an operator, before the alarms it ends. -/
def State.opAsked (s : State) (d mode : Nat) : State :=
  let s := s.setFld (Reg.LOOP_STG_MODE (3 * d)) 2 0 mode
  if mode = 0 then s.setOpMode d 0 else s

/-- The operator's mode asked for and the alarms of its stages ended. -/
def State.opReleased (s : State) (d mode : Nat) : State := [3 * d, 3 * d + 1, 3 * d + 2].foldl State.stageReleased (s.opAsked d mode)

theorem State.opReq_refused {s : State} {d mode : Nat} (h : 3 < mode ∨ (s.opMode d = 5 ∧ mode ≠ 0)) : s.opReq d mode = s := if_pos h

theorem State.opReq_taken {s : State} {d mode : Nat} (hmode : mode ≤ 3) (hfault : s.opMode d ≠ 5 ∨ mode = 0) :
    s.opReq d mode = (s.opReleased d mode).setOper d { (s.opReleased d mode).oper d with stop := false } :=
  if_neg (by rintro (h | ⟨h, hne⟩); omega; exact hfault.elim (· h) hne)

theorem State.stageReleased_rd (s : State) (st : Nat) {a : Nat} (h : a ≠ Reg.LOOP_STG_STAT st) : (s.stageReleased st).rd a = s.rd a := by
  unfold State.stageReleased
  split
  · exact s.rd_setBit_ne _ _ h
  · rfl

theorem State.stageReleased_kept (s : State) (st : Nat) {d : Nat} : s.OperKept d (s.stageReleased st) := .ite (.of_eq rfl rfl) .refl

/-- The ended alarms leave the mode register as asking has left it. -/
theorem State.opReleased_rd_mode (s : State) (d mode : Nat) :
    (s.opReleased d mode).rd (Reg.LOOP_STG_MODE (3 * d)) = (s.opAsked d mode).rd (Reg.LOOP_STG_MODE (3 * d)) :=
  State.rd_foldl _ _ fun s st _ => s.stageReleased_rd st (by simp only [Reg.LOOP_STG_MODE, Reg.LOOP_STG_STAT]; omega)

theorem State.opReleased_kept (s : State) {d mode : Nat} (hd : d < 16) : s.OperKept d (s.opReleased d mode) := by
  have hfld : s.OperKept d (s.setFld (Reg.LOOP_STG_MODE (3 * d)) 2 0 mode) := .of_eq rfl rfl
  have hasked : s.OperKept d (s.opAsked d mode) := .ite (hfld.trans (.setOpMode hd)) hfld
  exact ((hasked.trans (State.stageReleased_kept _ _)).trans (State.stageReleased_kept _ _)).trans (State.stageReleased_kept _ _)

theorem State.opAsked_reqMode (s : State) {d mode : Nat} (h : mode ≤ 3) : (s.opAsked d mode).fld (Reg.LOOP_STG_MODE (3 * d)) 2 0 = mode := by
  have hfld : (s.setFld (Reg.LOOP_STG_MODE (3 * d)) 2 0 mode).fld (Reg.LOOP_STG_MODE (3 * d)) 2 0 = mode :=
    (s.fld_setFld _ _ _ _ (by omega) (by omega)).trans (Nat.mod_eq_of_lt (by omega))
  unfold State.opAsked
  simp only []
  split
  · exact (State.reqMode_setOpMode _ d 0).trans hfld
  · exact hfld

theorem State.opAsked_opMode (s : State) (d mode : Nat) : (s.opAsked d mode).opMode d = if mode = 0 then 0 else s.opMode d := by
  unfold State.opAsked
  simp only []
  split
  · exact State.opMode_setOpMode _ d (by omega)
  · exact s.fld_setFld_apart _ _ _ _ _ _ (by omega) (by omega) (by omega)

theorem State.opReq_requests {s : State} {d mode : Nat} (hd : d < 16) (hmode : mode ≤ 3) (hfault : s.opMode d ≠ 5 ∨ mode = 0) :
    (s.opReq d mode).fld (Reg.LOOP_STG_MODE (3 * d)) 2 0 = mode ∧ (s.opReq d mode).opMode d = (if mode = 0 then 0 else s.opMode d) ∧
    ((s.opReq d mode).oper d).stop = false ∧ s.OperKept d (s.opReq d mode) := by
  rw [State.opReq_taken hmode hfault]
  have hrd := s.opReleased_rd_mode d mode
  exact ⟨(State.fld_of_rd hrd 2 0).trans (s.opAsked_reqMode hmode), (State.fld_of_rd hrd 6 4).trans (s.opAsked_opMode d mode),
    congrArg OperSt.stop (State.oper_setOper_same _ _ hd), (s.opReleased_kept hd).trans (.setOper hd rfl)⟩

theorem State.loopApply_opMove (u : State) {q : EngMsg} (h : q.typ = 0x013) :
    u.loopApply q = u.wr (Reg.LOOP_STG_TARGET (3 * bits (q.payload.getD 0 0) 3 0 + 2)) (q.payload.getD 1 0) := by
  simp only [State.loopApply, h]
  rfl

/-! ### ZONE and TRIGGER -/

/-- EN of a zone set as a ZONE message's first word asks. -/
def State.zoneEnabled (s : State) (z : Nat) (w : Word) : State := if bitOf w 6 then s.setBit (Reg.LOOP_HZ_ZCFG z) 0 (bitOf w 7) else s

/-- A zone with one word of its models changed. -/
def ZoneSt.put (x : ZoneSt) (i : Nat) (v : Word) : ZoneSt :=
  { x with
    staged := Tab.set (fun _ => (0 : Word)) x.staged i v
    model := x.model.map fun t => Tab.set (fun _ => (0 : Word)) t i v
    next := x.next.map fun t => Tab.set (fun _ => (0 : Word)) t i v }

/-- What a ZONE message with an item does: EN as asked, and the item's word in the zone's models. -/
def State.zonePut (s : State) (z : Nat) (w : Word) (i : Nat) (v : Word) : State :=
  (s.zoneEnabled z w).setZone z (((s.zoneEnabled z w).zone z).put i v)

theorem State.loopApply_zone (u : State) {q : EngMsg} (h : q.typ = 0x020) (hitem : zoneItem (bits (q.payload.getD 0 0) 12 8) = none) :
    u.loopApply q = u.zoneEnabled (bits (q.payload.getD 0 0) 5 0) (q.payload.getD 0 0) := by
  simp only [State.loopApply, h, hitem]
  rfl

theorem State.loopApply_zone_item (u : State) {q : EngMsg} {i : Nat} {o : Bool} {j : Nat} (h : q.typ = 0x020)
    (hitem : zoneItem (bits (q.payload.getD 0 0) 12 8) = some (i, o, j)) :
    u.loopApply q = u.zonePut (bits (q.payload.getD 0 0) 5 0) (q.payload.getD 0 0) i (q.payload.getD 1 0) := by
  simp only [State.loopApply, h, hitem]
  rfl

theorem State.zoneEnabled_enables (u : State) (z : Nat) (w : Word) : OnlyRegs u [Reg.LOOP_HZ_ZCFG z] (u.zoneEnabled z w) ∧
    (u.zoneEnabled z w).bit (Reg.LOOP_HZ_ZCFG z) 0 = if bitOf w 6 then bitOf w 7 else u.bit (Reg.LOOP_HZ_ZCFG z) 0 := by
  unfold State.zoneEnabled
  split
  · exact ⟨u.setBit_onlyRegs _ _ _, u.bit_setBit_same _ _ _ (by omega)⟩
  · exact ⟨.refl u _, rfl⟩

theorem State.zoneEnabled_zone (u : State) (z : Nat) (w : Word) (k : Nat) : (u.zoneEnabled z w).zone k = u.zone k := by
  unfold State.zoneEnabled
  split <;> rfl

theorem State.zonePut_zone (u : State) (z : Nat) (w : Word) (i : Nat) (v : Word) (k : Nat) :
    (u.zonePut z w i v).zone k = if k = z then (u.zone z).put i v else u.zone k := by
  rw [State.zonePut, State.zone_setZone, u.zoneEnabled_zone, u.zoneEnabled_zone]

theorem ZoneSt.put_staged (x : ZoneSt) (i k : Nat) (v : Word) :
    modelWord (x.put i v).staged k = if k = i then v else modelWord x.staged k := modelWord_set x.staged i k v

/-- A committed model of the zone takes the word too. -/
theorem ZoneSt.put_model (x : ZoneSt) {m : Tab Word} (i : Nat) (v : Word) (h : x.model = some m) :
    ∃ m2, (x.put i v).model = some m2 ∧ modelWord m2 i = v :=
  ⟨_, congrArg (Option.map _) h, (modelWord_set m i i v).trans (if_pos rfl)⟩

theorem State.loopApply_trigger (u : State) {q : EngMsg} (h : q.typ = 0x030) : u.loopApply q = u.traceTrigger := by
  simp only [State.loopApply, h]
  rfl

/-- Settles O26, message by message: the command takes the front of the queue, and the message's type says what is then done. -/
theorem loopMessages : Obligations.LoopMessages := by
  refine ⟨fun s cmd typ hmem hother => ?_, fun s q rest hq => ?_⟩
  · rw [exec_loopMessage hmem, State.loopFront_of_other hother]
  intro u w0 w1 n d st x others
  have hexec : ∀ {cmd : Instr} {typ : BitVec 10} {t : State}, (cmd, typ.toNat) ∈ loopCommands → q.typ = typ → u.loopApply q = t →
      exec cmd s = .next t := fun hmem ht heq => (exec_loopMessage_front hmem hq ht).trans (congrArg _ heq)
  have hd : d < 16 := Nat.mod_lt _ (by decide)
  refine ⟨fun ht => ?bind, fun ht => ?unbind, fun ht hstage => ?stage, fun ht happly => ?apply, fun ht => ?mode, fun ht => ?opBind, fun ht => ?opParam,
    fun ht => ?opMode, fun ht => ?opMove, fun ht => ?zone, fun ht => ?trigger⟩
  case bind =>
    intro b
    have hbind := u.loopApply_bind ht
    refine ⟨fun hsame => hexec (by simp [loopCommands]) ht (hbind.trans (if_pos hsame)), fun hnew => ?_⟩
    exact ⟨_, hexec (by simp [loopCommands]) ht (hbind.trans (if_neg hnew)), u.slotBind_binds n b⟩
  case unbind =>
    have hunbind := u.loopApply_unbind ht
    refine ⟨fun hb => hexec (by simp [loopCommands]) ht (hunbind.trans (State.slotUnbind_unbound hb)), fun b hb => ?_⟩
    obtain ⟨hslot, hothers, hpoint, hscan⟩ := State.slotUnbind_unbinds hb
    refine ⟨_, hexec (by simp [loopCommands]) ht hunbind, hslot, hothers, ?_, ?_, fun j hj => (hpoint j).trans (if_neg hj), hscan⟩
    · rw [hpoint, if_pos rfl, Point.staled_plevel]
    · rw [hpoint, if_pos rfl, Point.word_staled_ne _ (by decide)]
  case stage => exact hexec (by simp [loopCommands]) ht ((u.loopApply_param ht).trans (if_neg (Bool.eq_false_iff.1 hstage)))
  case apply => exact hexec (by simp [loopCommands]) ht ((u.loopApply_param ht).trans (if_pos happly))
  case mode =>
    intro mode hmode
    refine ⟨_, hexec (by simp [loopCommands]) ht (State.loopApply_mode_taken ht hmode), _, rfl, rfl, x.manOut_bind mode w1, x.manOut_active mode w1,
      x.manOut_act mode w1, fun hflag => ?_, fun hheld => SlotSt.asked_feAlarm_of_held _ mode (by rwa [SlotSt.manOut_feAction])⟩
    exact (SlotSt.asked_feAlarm_of_flag _ mode (by rwa [SlotSt.manOut_feAction])).trans (x.manOut_feAlarm mode w1)
  case opBind =>
    intro new
    have hbind := u.loopApply_opBind ht
    refine ⟨fun hsame => hexec (by simp [loopCommands]) ht (hbind.trans (if_pos hsame)), fun hnew => ?_⟩
    exact ⟨_, hexec (by simp [loopCommands]) ht (hbind.trans (if_neg hnew)), u.operBind_binds new hd⟩
  case opParam =>
    intro a
    have hparam := u.loopApply_opParam ht
    refine ⟨fun hstage => ⟨_, hexec (by simp [loopCommands]) ht (hparam.trans (if_neg (Bool.eq_false_iff.1 hstage))),
      u.wr_onlyRegs _ (List.mem_singleton_self a), u.rd_wr_same a w1⟩, fun happly => hexec (by simp [loopCommands]) ht (hparam.trans (if_pos happly))⟩
  case opMode =>
    intro mode
    have hreq := u.loopApply_opMode ht
    refine ⟨fun hmode hfault => ?_, fun hrefused => hexec (by simp [loopCommands]) ht (hreq.trans (State.opReq_refused hrefused))⟩
    obtain ⟨hasked, hforce, hstop, hkept⟩ := State.opReq_requests hd hmode hfault
    exact ⟨_, hexec (by simp [loopCommands]) ht hreq, hasked, fun h0 => hforce.trans (if_pos h0), fun h0 => hforce.trans (if_neg h0), hstop,
      hkept.bind, hkept.others, hkept.points⟩
  case opMove =>
    exact ⟨_, hexec (by simp [loopCommands]) ht (u.loopApply_opMove ht), u.wr_onlyRegs _ (List.mem_singleton_self _), u.rd_wr_same _ w1⟩
  case zone =>
    refine ⟨fun hitem => ?_, fun i o j hitem => ?_⟩
    · have hnone : zoneItem (bits w0 12 8) = none := by rw [hitem]; rfl
      exact ⟨_, hexec (by simp [loopCommands]) ht (u.loopApply_zone ht hnone), u.zoneEnabled_enables st w0⟩
    · have hz : (u.zonePut st w0 i w1).zone st = (u.zone st).put i w1 := (u.zonePut_zone st w0 i w1 st).trans (if_pos rfl)
      refine ⟨_, hexec (by simp [loopCommands]) ht (u.loopApply_zone_item ht hitem), ?_, fun k hk => ?_,
        fun z hne => (u.zonePut_zone st w0 i w1 z).trans (if_neg hne), fun m hm => ?_⟩
      · exact (congrArg (fun x => modelWord x.staged i) hz).trans ((ZoneSt.put_staged _ i i w1).trans (if_pos rfl))
      · exact (congrArg (fun x => modelWord x.staged k) hz).trans ((ZoneSt.put_staged _ i k w1).trans (if_neg hk))
      · obtain ⟨m2, hmodel, hword⟩ := (u.zone st).put_model i w1 hm
        exact ⟨m2, (congrArg ZoneSt.model hz).trans hmodel, hword⟩
  case trigger => exact hexec (by simp [loopCommands]) ht (u.loopApply_trigger ht)

end Sys2Proof.Machine
end

section
/-! Alarms, the fast period, parameter sets, the slot window, models, the deadline and the trace of the loop engine (R144, R146, R149, R152, R153, R156,
R157, R159 to R161; O27). -/

namespace Sys2Proof.Machine

/-! ### Following-error alarms (R146) -/

/-- The alarm of a slot raised and counted, before its event. -/
def State.slotRaised (s : State) (n : Nat) : State := (s.setSlot n { s.slot n with feAlarm := true }).inc Reg.LOOP_FE_CNT

theorem State.slotAlarm_raises {s : State} {n : Nat} {b : SlotBind} (hb : (s.slot n).bind = some b) (htime : (s.slot n).feTime ≠ 0)
    (hle : (s.slot n).feTime ≤ (s.slot n).feTimer) (halarm : (s.slot n).feAlarm = false) : s.slotAlarm n =
    (s.slotRaised n).record { sev := 3, source := 0x06, code := 146, args := [wd n, (s.slot n).fe, s.rd (Reg.SCAN_BELL_CNT b.cls.toNat)] } := by
  have hdue : ¬((s.slot n).feTime = 0 ∨ (s.slot n).feTimer < (s.slot n).feTime ∨ (s.slot n).feAlarm = true) := by
    rintro (h | h | h)
    · exact htime h
    · exact absurd hle (BitVec.not_le.2 h)
    · rw [halarm] at h; cases h
  have hbell : (s.slotRaised n).rd (Reg.SCAN_BELL_CNT b.cls.toNat) = s.rd (Reg.SCAN_BELL_CNT b.cls.toNat) :=
    State.rd_inc_ne _ (by have := b.cls.isLt; simp only [Reg.SCAN_BELL_CNT, Reg.LOOP_FE_CNT]; omega)
  rw [← hbell]
  unfold State.slotAlarm
  simp only []
  split
  case h_1 hnone => exact absurd (hb.symm.trans hnone) nofun
  case h_2 b' hb' =>
    obtain rfl : b = b' := Option.some.inj (hb.symm.trans hb')
    exact if_neg hdue

theorem State.slotAlarm_quiet {s : State} {n : Nat}
    (h : (s.slot n).bind = none ∨ (s.slot n).feTime = 0 ∨ (s.slot n).feTimer < (s.slot n).feTime ∨ (s.slot n).feAlarm = true) : s.slotAlarm n = s := by
  cases hb : (s.slot n).bind with
  | none => simp only [State.slotAlarm, hb]
  | some b =>
    simp only [State.slotAlarm, hb]
    exact if_pos (h.resolve_left (by simp [hb]))

/-- The alarm of a stage raised, counted and recorded. -/
def State.stageRaised (s : State) (st : Nat) : State :=
  let x := s.oper (st / 3)
  let s := (s.setBit (Reg.LOOP_STG_STAT st) 0 true).inc Reg.LOOP_FE_CNT
  s.record { sev := 4, source := 0x06, code := 146, args := [wd st, x.fe.toList.getD (st % 3) 0, s.rd (Reg.SCAN_BELL_CNT 0)] }

/-- What an alarm's action does to the operator of its stage. -/
def State.stageActed (s : State) (st action : Nat) : State :=
  match action with
  | 1 => if st % 3 = 0 then s.opFault (st / 3) else s.setOper (st / 3) { s.oper (st / 3) with stop := true }
  | 2 => s.opFault (st / 3)
  | _ => s

theorem State.stageAlarm_quiet {s : State} {st : Nat}
    (h : s.fld (Reg.LOOP_STG_FE st) 15 0 = 0 ∨ s.fld (Reg.LOOP_STG_STAT st) 31 16 < s.fld (Reg.LOOP_STG_FE st) 15 0 ∨
      s.bit (Reg.LOOP_STG_STAT st) 0 = true) :
    s.stageAlarm st = s := if_pos h

/-- Raising the alarm of a stage leaves every register but its status, the count and what an event may change. -/
theorem State.stageRaised_rd (s : State) {st a : Nat} (hstat : a ≠ Reg.LOOP_STG_STAT st) (hcnt : a ≠ Reg.LOOP_FE_CNT) (hrec : recordsTo a = false) :
    (s.stageRaised st).rd a = s.rd a := by
  rw [State.stageRaised, State.rd_record _ _ hrec, State.rd_inc_ne _ hcnt, State.rd_setBit_ne _ _ _ hstat]

/-- A register of the stages is out of an event's reach. -/
theorem recordsTo_stage {a : Nat} (hlo : 0x061000 ≤ a) (hhi : a < 0x062000) : recordsTo a = false :=
  recordsTo_of_apart (.inr (by omega)) (.inl (by omega)) (by omega)

theorem State.stageRaised_opMode (s : State) {st d : Nat} (hd : d < 16) : (s.stageRaised st).opMode d = s.opMode d :=
  State.fld_of_rd (s.stageRaised_rd (by simp only [Reg.LOOP_STG_MODE, Reg.LOOP_STG_STAT]; omega) (by simp only [Reg.LOOP_STG_MODE, Reg.LOOP_FE_CNT]; omega)
    (recordsTo_stage (by simp only [Reg.LOOP_STG_MODE]; omega) (by simp only [Reg.LOOP_STG_MODE]; omega))) 6 4

theorem State.stageRaised_alarm (s : State) {st : Nat} (hst : st < 48) : (s.stageRaised st).bit (Reg.LOOP_STG_STAT st) 0 = true := by
  have hrec : recordsTo (Reg.LOOP_STG_STAT st) = false :=
    recordsTo_stage (by simp only [Reg.LOOP_STG_STAT]; omega) (by simp only [Reg.LOOP_STG_STAT]; omega)
  have hinc : (s.stageRaised st).rd (Reg.LOOP_STG_STAT st) = (s.setBit (Reg.LOOP_STG_STAT st) 0 true).rd (Reg.LOOP_STG_STAT st) := by
    rw [State.stageRaised, State.rd_record _ _ hrec, State.rd_inc_ne _ (by simp only [Reg.LOOP_STG_STAT, Reg.LOOP_FE_CNT]; omega)]
  exact (State.bit_of_rd hinc 0).trans (s.bit_setBit_same _ _ _ (by omega))

theorem State.stageRaised_count (s : State) (st : Nat) : (s.stageRaised st).rd Reg.LOOP_FE_CNT = s.rd Reg.LOOP_FE_CNT + 1 := by
  rw [State.stageRaised, State.rd_record _ _ (by decide), State.rd_inc_same,
    State.rd_setBit_ne _ _ _ (by simp only [Reg.LOOP_STG_STAT, Reg.LOOP_FE_CNT]; omega)]

theorem State.stageRaised_points (s : State) (st : Nat) : (s.stageRaised st).points = s.points := by
  rw [State.stageRaised, State.record_points, State.inc_points, State.setBit_points]

/-- An alarm that is due is raised and its action taken. -/
theorem State.stageAlarm_raises {s : State} {st : Nat} (hst : st < 48) (htime : s.fld (Reg.LOOP_STG_FE st) 15 0 ≠ 0)
    (hle : s.fld (Reg.LOOP_STG_FE st) 15 0 ≤ s.fld (Reg.LOOP_STG_STAT st) 31 16) (halarm : s.bit (Reg.LOOP_STG_STAT st) 0 = false) :
    s.stageAlarm st = (s.stageRaised st).stageActed st (s.fld (Reg.LOOP_STG_FE st) 17 16) := by
  have hdue : ¬(s.fld (Reg.LOOP_STG_FE st) 15 0 = 0 ∨ s.fld (Reg.LOOP_STG_STAT st) 31 16 < s.fld (Reg.LOOP_STG_FE st) 15 0 ∨
      s.bit (Reg.LOOP_STG_STAT st) 0 = true) := by
    rw [halarm]
    rintro (h | h | h)
    · exact htime h
    · omega
    · cases h
  have haction : (s.stageRaised st).fld (Reg.LOOP_STG_FE st) 17 16 = s.fld (Reg.LOOP_STG_FE st) 17 16 :=
    State.fld_of_rd (s.stageRaised_rd (by simp only [Reg.LOOP_STG_FE, Reg.LOOP_STG_STAT]; omega) (by simp only [Reg.LOOP_STG_FE, Reg.LOOP_FE_CNT]; omega)
      (recordsTo_stage (by simp only [Reg.LOOP_STG_FE]; omega) (by simp only [Reg.LOOP_STG_FE]; omega))) 17 16
  rw [← haction]
  exact if_neg hdue

section
variable (s : State) {st action : Nat}

theorem State.stageActed_fault (h : action = 2 ∨ (action = 1 ∧ st % 3 = 0)) : s.stageActed st action = s.opFault (st / 3) := by
  rcases h with rfl | ⟨rfl, h⟩
  · rfl
  · exact if_pos h

theorem State.stageActed_stop (h : st % 3 ≠ 0) : s.stageActed st 1 = s.setOper (st / 3) { s.oper (st / 3) with stop := true } := if_neg h

theorem State.stageActed_none (h : action = 0 ∨ action = 3) : s.stageActed st action = s := by
  rcases h with rfl | rfl <;> rfl

/-- The action is a fault of the operator, a stop of it, or nothing. -/
theorem State.stageActed_cases : s.stageActed st action = s.opFault (st / 3) ∨
    s.stageActed st action = s.setOper (st / 3) { s.oper (st / 3) with stop := true } ∨ s.stageActed st action = s := by
  unfold State.stageActed
  split
  · split
    · exact .inl rfl
    · exact .inr (.inl rfl)
  · exact .inl rfl
  · exact .inr (.inr rfl)

theorem State.stageActed_points (hst : st < 48) : (s.stageActed st action).points = s.points := by
  have hd : st / 3 < 16 := by omega
  rcases s.stageActed_cases (st := st) (action := action) with h | h | h <;> rw [h]
  · exact (State.OperKept.opFault hd).points
  · rfl

theorem State.stageActed_rd {a : Nat} (ha : a ≠ Reg.LOOP_STG_MODE (3 * (st / 3))) : (s.stageActed st action).rd a = s.rd a := by
  rcases s.stageActed_cases (st := st) (action := action) with h | h | h <;> rw [h]
  · exact s.rd_opFault_ne _ _ ha
  · rfl

end

/-! ### What an alarm that is due leaves -/

section
variable (s : State) {st action : Nat}

theorem State.stageActed_alarm (hst : st < 48) : ((s.stageRaised st).stageActed st action).bit (Reg.LOOP_STG_STAT st) 0 = true :=
  (State.bit_of_rd (State.stageActed_rd _ (by simp only [Reg.LOOP_STG_STAT, Reg.LOOP_STG_MODE]; omega)) 0).trans (s.stageRaised_alarm hst)

theorem State.stageActed_count (st action : Nat) : ((s.stageRaised st).stageActed st action).rd Reg.LOOP_FE_CNT = s.rd Reg.LOOP_FE_CNT + 1 :=
  (State.stageActed_rd _ (by simp only [Reg.LOOP_FE_CNT, Reg.LOOP_STG_MODE]; omega)).trans (s.stageRaised_count st)

/-- DISABLE, and STOP of a current stage, put an operator that is not DISABLED into FAULT. -/
theorem State.stageActed_opMode_fault (hd : st / 3 < 16) (h : action = 2 ∨ (action = 1 ∧ st % 3 = 0)) (hne : s.opMode (st / 3) ≠ 0) :
    ((s.stageRaised st).stageActed st action).opMode (st / 3) = 5 := by
  rw [State.stageActed_fault _ h, State.opMode_opFault_same, s.stageRaised_opMode hd, if_neg hne]

/-- The other actions leave the operator's mode in force. -/
theorem State.stageActed_opMode_kept (hd : st / 3 < 16) (h : (action = 0 ∨ action = 3) ∨ (action = 1 ∧ st % 3 ≠ 0)) :
    ((s.stageRaised st).stageActed st action).opMode (st / 3) = s.opMode (st / 3) := by
  rcases h with h | ⟨rfl, hk⟩
  · rw [State.stageActed_none _ h, s.stageRaised_opMode hd]
  · rw [State.stageActed_stop _ hk, State.opMode_setOper, s.stageRaised_opMode hd]

theorem State.stageActed_stops (hd : st / 3 < 16) (hk : st % 3 ≠ 0) : (((s.stageRaised st).stageActed st 1).oper (st / 3)).stop = true := by
  rw [State.stageActed_stop _ hk, State.oper_setOper_same _ _ hd]

end

/-! ### The fast period (R149, R152) -/

/-- A current beyond the stage's limit trips the operator. -/
theorem State.currentStage_trips {s : State} {d : Nat} {ia ib : Num}
    (h : ((s.oper d).par 0 4).lt ((ia.abs.max ib.abs).max ((ia.add ib).neg.line).1.abs) = true) : s.currentStage d ia ib =
    ((s.opFault d).inc Reg.LOOP_TRIP_CNT).record { sev := 5, source := 0x06, code := 149, args := [wd d] } := by
  unfold State.currentStage
  generalize (ia.add ib).neg.line = ic at h ⊢
  obtain ⟨ic, f⟩ := ic
  exact if_pos h

/-- The mode an operator is in at a period. -/
def State.opNext (s : State) (d : Nat) : Nat :=
  if s.opMode d = 5 then 5 else if s.fld (Reg.LOOP_STG_MODE (3 * d)) 2 0 = 0 then 0
  else if s.opMode d = 0 ∧ s.bit Reg.LOOP_CTRL 1 = false then 0
  else if s.doorGrant d then s.fld (Reg.LOOP_STG_MODE (3 * d)) 2 0 else 4

theorem State.opNext_lt (s : State) (d : Nat) : s.opNext d < 8 := by
  have hreq : s.fld (Reg.LOOP_STG_MODE (3 * d)) 2 0 < 2 ^ 3 := Nat.mod_lt _ (by decide)
  unfold State.opNext
  split_ifs <;> omega

/-- The operator put into that mode; what the profile starts from is set beside it. -/
theorem State.opSettle_regs (s : State) (d : Nat) : (s.opSettle d).regs = (if s.opNext d = s.opMode d then s else s.setOpMode d (s.opNext d)).regs := by
  simp only [State.opSettle, State.opNext, Bool.not_eq_true']
  exact (apply_ite State.regs _ _ _).trans (ite_self _)

theorem State.opMode_opSettle (s : State) (d : Nat) : (s.opSettle d).opMode d = s.opNext d := by
  rw [State.opMode, State.fld_of_regs (s.opSettle_regs d)]
  split
  case isTrue h => exact h.symm
  case isFalse => exact s.opMode_setOpMode d (s.opNext_lt d)

/-! ### Parameter sets and the window (R144, R153, R156) -/

theorem State.slotApply_taken {s : State} {n : Nat} (h : slotSetOk (s.slot n).staged.toList = true) : ∃ y : SlotSt, s.slotApply n = s.setSlot n y ∧
    y.act = (s.slot n).staged ∧ y.staged = (s.slot n).staged ∧ y.paramErr = false ∧ y.bind = (s.slot n).bind ∧ y.st = (s.slot n).st :=
  ⟨_, if_pos h, rfl, rfl, rfl, rfl, rfl⟩

theorem State.slotApply_refused {s : State} {n : Nat} (h : slotSetOk (s.slot n).staged.toList = false) : s.slotApply n =
    (s.setSlot n { s.slot n with staged := (s.slot n).act, paramErr := true }).inc Reg.LOOP_MSG_REJ_CNT := if_neg (Bool.eq_false_iff.1 h)

theorem State.inc_onlyRegs (s : State) (a : Nat) : OnlyRegs s [a] (s.inc a) := s.wr_onlyRegs _ (List.mem_singleton_self a)

/-- The staged set of a stage. -/
def State.stageSet (s : State) (st : Nat) : List Word := (List.range 8).map fun i => s.rd (Reg.LOOP_STG_PARAM st i)

/-- The active set of a stage. -/
def State.stageAct (s : State) (st : Nat) : Vector Word 8 := (s.oper (st / 3)).act.toList.getD (st % 3) (Vector.replicate 8 0)

/-- The staged set of a stage taken over by its active one. -/
def State.stageTaken (s : State) (st : Nat) : State :=
  let x := s.oper (st / 3)
  (s.setBit (Reg.LOOP_STG_STAT st) 3 false).setOper (st / 3)
    { x with
      act := x.act.setIfInBounds (st % 3) (Vector.ofFn fun i : Fin 8 => (s.stageSet st).getD i.val 0)
      amax := if st % 3 = 2 then (s.stageSet st).getD 3 0 else x.amax }

/-- The staged registers of a stage put back to a set. -/
def State.stageRestored (s : State) (st : Nat) (l : List Word) (is : List Nat) : State :=
  is.foldl (fun s i => s.wr (Reg.LOOP_STG_PARAM st i) (l.getD i 0)) s

theorem State.stageApply_taken {s : State} {st : Nat} (h : stageSetOk (st % 3) (s.stageSet st) = true) : s.stageApply st = s.stageTaken st := if_pos h

/-- A staged set turned down: the registers put back to the active set, PARAM_ERR, and the count. -/
def State.stageRefused (s : State) (st : Nat) : State :=
  ((s.stageRestored st (s.stageAct st).toList (List.range 8)).setBit (Reg.LOOP_STG_STAT st) 3 true).inc Reg.LOOP_MSG_REJ_CNT

theorem State.stageApply_refused {s : State} {st : Nat} (h : stageSetOk (st % 3) (s.stageSet st) = false) : s.stageApply st = s.stageRefused st :=
  if_neg (Bool.eq_false_iff.1 h)

theorem State.stageSet_toList (s : State) (st : Nat) : (Vector.ofFn fun i : Fin 8 => (s.stageSet st).getD i.val 0).toList = s.stageSet st :=
  List.ext_getElem (by simp [State.stageSet]) fun i _ _ => by simp [State.stageSet]

theorem State.stageTaken_act (s : State) {st : Nat} (hst : st < 48) :
    ((((s.stageTaken st).oper (st / 3)).act.toList.getD (st % 3) (Vector.replicate 8 0)).toList) = s.stageSet st := by
  have hd : st / 3 < 16 := by omega
  have hk : st % 3 < 3 := by omega
  rw [State.stageTaken, State.oper_setOper_same _ _ hd]
  refine Eq.trans (congrArg Vector.toList ?_) (s.stageSet_toList st)
  simp [List.getD_eq_getElem?_getD, hk]

theorem State.stageRestored_kept (l : List Word) (st : Nat) : ∀ (is : List Nat) (s : State), (s.stageRestored st l is).loop = s.loop ∧
    (s.stageRestored st l is).points = s.points
  | [], _ => ⟨rfl, rfl⟩
  | i :: is, s => State.stageRestored_kept l st is (s.wr (Reg.LOOP_STG_PARAM st i) (l.getD i 0))

theorem State.stageRestored_rd_ne (s : State) {st a : Nat} (l : List Word) {is : List Nat} (h : ∀ i ∈ is, a ≠ Reg.LOOP_STG_PARAM st i) :
    (s.stageRestored st l is).rd a = s.rd a :=
  State.rd_foldl is s fun s i hi => s.rd_wr_ne _ (h i hi)

theorem State.stageRestored_rd (l : List Word) (st : Nat) {i : Nat} : ∀ (is : List Nat) (s : State), i ∈ is →
    (s.stageRestored st l is).rd (Reg.LOOP_STG_PARAM st i) = l.getD i 0
  | [], _, h => absurd h List.not_mem_nil
  | j :: is, s, h => by
    by_cases hi : i ∈ is
    · exact State.stageRestored_rd l st is _ hi
    · obtain rfl : i = j := (List.mem_cons.1 h).resolve_right hi
      refine (State.stageRestored_rd_ne (s.wr (Reg.LOOP_STG_PARAM st i) (l.getD i 0)) l fun k hk => ?_).trans (s.rd_wr_same _ _)
      have hne : k ≠ i := fun e => hi (e ▸ hk)
      simp only [Reg.LOOP_STG_PARAM]
      omega

section
variable (s : State) (st : Nat)

theorem State.stageRefused_loop : (s.stageRefused st).loop = s.loop := by
  rw [State.stageRefused, State.inc_loop, State.setBit_loop, (State.stageRestored_kept _ st _ s).1]

theorem State.stageRefused_points : (s.stageRefused st).points = s.points := by
  rw [State.stageRefused, State.inc_points, State.setBit_points, (State.stageRestored_kept _ st _ s).2]

theorem State.stageRefused_paramErr : (s.stageRefused st).bit (Reg.LOOP_STG_STAT st) 3 = true :=
  (State.bit_of_rd (State.rd_inc_ne _ (by simp only [Reg.LOOP_STG_STAT, Reg.LOOP_MSG_REJ_CNT]; omega)) 3).trans
    (State.bit_setBit_same _ _ _ _ (by omega))

theorem State.stageRefused_count : (s.stageRefused st).rd Reg.LOOP_MSG_REJ_CNT = s.rd Reg.LOOP_MSG_REJ_CNT + 1 := by
  rw [State.stageRefused, State.rd_inc_same, State.rd_setBit_ne _ _ _ (by simp only [Reg.LOOP_STG_STAT, Reg.LOOP_MSG_REJ_CNT]; omega),
    State.stageRestored_rd_ne _ _ fun i _ => by simp only [Reg.LOOP_STG_PARAM, Reg.LOOP_MSG_REJ_CNT]; omega]

theorem State.stageRefused_param {i : Nat} (hi : i < 8) :
    (s.stageRefused st).rd (Reg.LOOP_STG_PARAM st i) = (s.stageAct st).toList.getD i 0 := by
  rw [State.stageRefused, State.rd_inc_ne _ (by simp only [Reg.LOOP_STG_PARAM, Reg.LOOP_MSG_REJ_CNT]; omega),
    State.rd_setBit_ne _ _ _ (by simp only [Reg.LOOP_STG_PARAM, Reg.LOOP_STG_STAT]; omega), State.stageRestored_rd _ _ _ _ (List.mem_range.2 hi)]

end

/-! ### Models and the deadline of the horizon unit (R157, R159, R160) -/

/-- The zone's next model staged and shown in its configuration. -/
def State.modelTaken (s : State) (z : Nat) : State :=
  (s.setZone z { s.zone z with next := some (s.zone z).staged }).setFld (Reg.LOOP_HZ_ZCFG z) 17 1 (bits (modelWord (s.zone z).staged 244) 17 1)

theorem State.modelCommit_taken {s : State} (h : modelOk (s.zone (s.fld Reg.LOOP_HZ_SEL 5 0)).staged = true) :
    s.modelCommit = s.modelTaken (s.fld Reg.LOOP_HZ_SEL 5 0) := if_pos h

theorem State.modelCommit_refused {s : State} (h : modelOk (s.zone (s.fld Reg.LOOP_HZ_SEL 5 0)).staged = false) :
    s.modelCommit = s.setBit Reg.LOOP_HZ_STAT 7 true := if_neg (Bool.eq_false_iff.1 h)

theorem State.modelTaken_takes (s : State) (z : Nat) : let t := s.modelTaken z
    (t.zone z).next = some (s.zone z).staged ∧ (t.zone z).model = (s.zone z).model ∧
    t.fld (Reg.LOOP_HZ_ZCFG z) 17 1 = bits (modelWord (s.zone z).staged 244) 17 1 ∧ t.bit (Reg.LOOP_HZ_ZCFG z) 0 = s.bit (Reg.LOOP_HZ_ZCFG z) 0 ∧
    (∀ a, a ≠ Reg.LOOP_HZ_ZCFG z → t.rd a = s.rd a) ∧ (∀ k, k ≠ z → t.zone k = s.zone k) := by
  intro t
  have hzone : ∀ k, t.zone k = (s.setZone z { s.zone z with next := some (s.zone z).staged }).zone k :=
    fun k => State.zone_of_loop (State.setFld_loop _ _ _ _ _) k
  refine ⟨by rw [hzone, State.zone_setZone_same], by rw [hzone, State.zone_setZone_same], ?size,
    State.bit_setFld_apart _ _ _ _ _ _ (by omega) (by omega) (by omega), fun a ha => State.rd_setFld_ne _ _ _ _ ha, fun k hk => (hzone k).trans (s.zone_setZone_ne _ hk)⟩
  case size =>
    have hlt : bits (modelWord (s.zone z).staged 244) 17 1 < 2 ^ (17 + 1 - 1) := Nat.mod_lt _ (by decide)
    exact (State.fld_setFld _ _ _ _ _ (by omega) (by omega)).trans (Nat.mod_eq_of_lt hlt)

/-- A planned move dropped from every slot changes slots alone. -/
theorem State.dropPlan_frame (s : State) (m : Tab Word) : ∃ l, s.dropPlan m = { s with loop := { s.loop with slots := l } } := by
  unfold State.dropPlan
  generalize modelSlots m = ns
  induction ns generalizing s with
  | nil => exact ⟨_, rfl⟩
  | cons n ns ih =>
    obtain ⟨l, h⟩ := ih (s.setSlot n _)
    exact ⟨l, h⟩

/-- The zone no longer among those still to be worked through. -/
def State.notBusy (s : State) (z : Nat) : State := { s with loop := { s.loop with busy := s.loop.busy.filter (· != z) } }

/-- A zone's outcome other than SOLVED shown, its plan dropped. -/
def State.hzShown (s : State) (z : Nat) (m : Tab Word) (stat : Word) : State :=
  let s := s.wr (Reg.LOOP_HZ_ZSTAT z) stat
  (s.dropPlan m).setFld Reg.LOOP_HZ_STAT 14 8 (s.fld Reg.LOOP_HZ_STAT 14 8 + 1)

/-- The outcome counted too, before its event. -/
def State.hzDropped (s : State) (z : Nat) (m : Tab Word) (stat : Word) : State :=
  ((s.hzShown z m stat).inc Reg.LOOP_HZ_DROP_CNT).inc (Reg.LOOP_HZ_ZDROP z)

section
variable (s : State) (z : Nat) (m : Tab Word)

theorem State.dropPlan_rd (a : Nat) : (s.dropPlan m).rd a = s.rd a := by
  obtain ⟨l, h⟩ := s.dropPlan_frame m
  rw [h]
  rfl

theorem State.dropPlan_busy : (s.dropPlan m).loop.busy = s.loop.busy := by
  obtain ⟨l, h⟩ := s.dropPlan_frame m
  rw [h]

theorem State.dropPlan_points : (s.dropPlan m).points = s.points := by
  obtain ⟨l, h⟩ := s.dropPlan_frame m
  rw [h]

theorem State.hzShown_rd_ne (stat : Word) {a : Nat} (hstat : a ≠ Reg.LOOP_HZ_ZSTAT z) (hcnts : a ≠ Reg.LOOP_HZ_STAT) :
    (s.hzShown z m stat).rd a = s.rd a := by
  rw [State.hzShown, State.rd_setFld_ne _ _ _ _ hcnts, State.dropPlan_rd, State.rd_wr_ne _ _ hstat]

theorem State.hzShown_stat (stat : Word) : (s.hzShown z m stat).rd (Reg.LOOP_HZ_ZSTAT z) = stat := by
  rw [State.hzShown, State.rd_setFld_ne _ _ _ _ (by simp only [Reg.LOOP_HZ_ZSTAT, Reg.LOOP_HZ_STAT]; omega), State.dropPlan_rd, State.rd_wr_same]

theorem State.hzDropped_stat (stat : Word) : (s.hzDropped z m stat).rd (Reg.LOOP_HZ_ZSTAT z) = stat := by
  rw [State.hzDropped, State.rd_inc_ne _ (by simp only [Reg.LOOP_HZ_ZSTAT, Reg.LOOP_HZ_ZDROP]; omega),
    State.rd_inc_ne _ (by simp only [Reg.LOOP_HZ_ZSTAT, Reg.LOOP_HZ_DROP_CNT]; omega), State.hzShown_stat]

theorem State.hzDropped_count (stat : Word) : (s.hzDropped z m stat).rd Reg.LOOP_HZ_DROP_CNT = s.rd Reg.LOOP_HZ_DROP_CNT + 1 := by
  rw [State.hzDropped, State.rd_inc_ne _ (by simp only [Reg.LOOP_HZ_DROP_CNT, Reg.LOOP_HZ_ZDROP]; omega), State.rd_inc_same,
    State.hzShown_rd_ne _ _ _ _ (by simp only [Reg.LOOP_HZ_ZSTAT, Reg.LOOP_HZ_DROP_CNT]; omega) (by decide)]

theorem State.hzDropped_zoneCount (stat : Word) : (s.hzDropped z m stat).rd (Reg.LOOP_HZ_ZDROP z) = s.rd (Reg.LOOP_HZ_ZDROP z) + 1 := by
  rw [State.hzDropped, State.rd_inc_same, State.rd_inc_ne _ (by simp only [Reg.LOOP_HZ_ZDROP, Reg.LOOP_HZ_DROP_CNT]; omega),
    State.hzShown_rd_ne _ _ _ _ (by simp only [Reg.LOOP_HZ_ZDROP, Reg.LOOP_HZ_ZSTAT]; omega)
      (by simp only [Reg.LOOP_HZ_ZDROP, Reg.LOOP_HZ_STAT]; omega)]

theorem State.hzDropped_busy (stat : Word) : (s.hzDropped z m stat).loop.busy = s.loop.busy := by
  rw [State.hzDropped, State.hzShown, State.inc_loop, State.inc_loop, State.setFld_loop, State.dropPlan_busy, State.wr_loop]

theorem State.hzDropped_points (stat : Word) : (s.hzDropped z m stat).points = s.points := by
  rw [State.hzDropped, State.hzShown, State.inc_points, State.inc_points, State.setFld_points, State.dropPlan_points, State.wr_points]

theorem State.hzOutcome_dropped {code : Nat} (h : code ≠ 1) (iter at10 : Nat) (plan : List Word) (cost : Word) :
    s.hzOutcome z m code iter at10 plan cost = (s.hzDropped z m (wd (code + iter * 8 + (at10 % 2 ^ 24) * 256))).record
      { sev := 3, source := 0x06, code := 160, args := [wd z, wd code, s.rd Reg.LOOP_HZ_BELL] } := by
  have hbell := s.hzShown_rd_ne z m (wd (code + iter * 8 + (at10 % 2 ^ 24) * 256)) (a := Reg.LOOP_HZ_BELL)
    (by simp only [Reg.LOOP_HZ_BELL, Reg.LOOP_HZ_ZSTAT]; omega) (by decide)
  rw [← hbell]
  exact if_neg h

end

theorem State.hzDeadline_idle {s : State} {z : Nat} (h : s.loop.busy.contains z = false) : s.hzDeadline z = s := if_neg (Bool.eq_false_iff.1 h)

theorem State.hzDeadline_drops {s : State} {z : Nat} {m : Tab Word} (hbusy : s.loop.busy.contains z = true) (hm : (s.zone z).model = some m) :
    s.hzDeadline z = (s.notBusy z).hzOutcome z m 3 0 (s.fld Reg.LOOP_HZ_CFG 15 0 * 100) [] 0 := by
  have hm' : ((s.notBusy z).zone z).model = some m := hm
  refine (if_pos hbusy).trans ?_
  simp only [State.notBusy] at hm'
  simp only [hm']
  rfl

/-! ### The trace (R161) -/

/-- Every enabled channel holds PRE samples. -/
def State.traceFull (s : State) : Bool :=
  (List.range 16).all fun c => !s.traceOn c || decide (s.fld Reg.LOOP_TR_TRIG 19 8 ≤ (s.trCh c).samples.length)

/-- A channel at the trigger: PRE samples kept, the rest of 4,096 still to take. -/
def TrCh.triggered (x : TrCh) (pre : Nat) : TrCh := { x with samples := x.samples.drop (x.samples.length - pre), post := 4096 - pre }

/-- The channels at the trigger. -/
def State.trTriggered (s : State) : Vector TrCh 16 := s.loop.tr.map fun x => x.triggered (s.fld Reg.LOOP_TR_TRIG 19 8)

/-- The trace triggered: the channels as they stand at it, STATE, and the count latched. -/
def State.traceFired (s : State) : State :=
  ((State.setFld { s with loop := { s.loop with tr := s.trTriggered } } Reg.LOOP_TR_STAT 1 0
    (if ((List.range 16).filter s.traceOn).isEmpty then 3 else 2)).wr Reg.LOOP_TR_TIME_LO (s.cnt.extractLsb' 0 32)).wr Reg.LOOP_TR_TIME_HI
      (s.cnt.extractLsb' 32 32)

theorem State.traceTrigger_idle {s : State} (h : s.fld Reg.LOOP_TR_STAT 1 0 ≠ 1 ∨ s.traceFull = false) : s.traceTrigger = s := by
  refine if_neg fun ⟨harmed, hfull⟩ => h.elim (· harmed) fun hnot => ?_
  rw [List.all_filter] at hfull
  exact Bool.eq_false_iff.1 hnot hfull

theorem State.traceTrigger_fires {s : State} (harmed : s.fld Reg.LOOP_TR_STAT 1 0 = 1) (hfull : s.traceFull = true) : s.traceTrigger = s.traceFired :=
  if_pos ⟨harmed, by rw [List.all_filter]; exact hfull⟩

section
variable (s : State)

theorem State.traceFired_onlyRegs : OnlyRegs { s with loop := { s.loop with tr := s.trTriggered } }
    [Reg.LOOP_TR_STAT, Reg.LOOP_TR_TIME_LO, Reg.LOOP_TR_TIME_HI] s.traceFired :=
  ((State.wr_onlyRegs _ _ (by simp)).wr _ (by simp)).wr _ (by simp)

theorem State.traceFired_timeLo : s.traceFired.rd Reg.LOOP_TR_TIME_LO = s.cnt.extractLsb' 0 32 :=
  (State.rd_wr_ne _ _ (by decide)).trans (State.rd_wr_same _ _ _)

theorem State.traceFired_timeHi : s.traceFired.rd Reg.LOOP_TR_TIME_HI = s.cnt.extractLsb' 32 32 := State.rd_wr_same _ _ _

theorem State.traceFired_stat : s.traceFired.fld Reg.LOOP_TR_STAT 1 0 = 2 ∨ s.traceFired.fld Reg.LOOP_TR_STAT 1 0 = 3 := by
  have hrd : s.traceFired.rd Reg.LOOP_TR_STAT = (State.setFld { s with loop := { s.loop with tr := s.trTriggered } } Reg.LOOP_TR_STAT 1 0
      (if ((List.range 16).filter s.traceOn).isEmpty then 3 else 2)).rd Reg.LOOP_TR_STAT :=
    (State.rd_wr_ne _ _ (by decide)).trans (State.rd_wr_ne _ _ (by decide))
  rw [State.fld_of_rd hrd, State.fld_setFld _ _ _ _ _ (by omega) (by omega)]
  split
  · exact .inr rfl
  · exact .inl rfl

theorem State.traceFired_post {c : Nat} (hc : c < 16) : (s.traceFired.trCh c).post = 4096 - s.fld Reg.LOOP_TR_TRIG 19 8 := by
  have htr : s.traceFired.loop.tr = s.trTriggered := rfl
  simp [State.trCh, htr, State.trTriggered, TrCh.triggered, List.getD_eq_getElem?_getD, hc]

end

/-! ### The obligation -/

/-- A command of the Prefect that is carried out. -/
theorem completes_asPrefect {i : Instr} {s t : State} {m : Master} {f : State → State} (hexec : exec i s = .next (s.asPrefect m f))
    (hobeys : (s.woken m).obeys m = true) (heq : f (s.woken m) = t) : exec i s = .next t :=
  hexec.trans (congrArg _ ((State.asPrefect_obeys hobeys f).trans heq))

/-- Settles O27, unit by unit: the alarms, the fast period, the parameter sets and the window, the deadline and the models, the trace. -/
theorem loopUnits : Obligations.LoopUnits := by
  refine ⟨fun s slot => ?slotAlarm, fun s st => ?stageAlarm, fun s lines currents => ?period, fun s d ia ib htrip => ?trip, fun s d => ?settle,
    fun s cls hoff => if_neg (Bool.eq_false_iff.1 hoff), fun s m => ?slotApply, fun s m st => ?stageApply, fun s m slot => ?window, fun s zone m => ?deadline,
    fun s m => ?commit, fun s m => ?trace⟩
  case slotAlarm =>
    refine ⟨fun b hb htime hle halarm => ?_, fun hquiet => congrArg Host.Outcome.next (State.slotAlarm_quiet hquiet)⟩
    exact ⟨_, congrArg Host.Outcome.next (State.slotAlarm_raises hb htime hle halarm), s.slotRaised slot.toNat, rfl,
      State.inc_onlyRegs _ _, State.rd_inc_same _ _⟩
  case stageAlarm =>
    intro d stat time action
    have hst := st.isLt
    have hd : d < 16 := by omega
    refine ⟨fun hquiet => congrArg Host.Outcome.next (State.stageAlarm_quiet hquiet), fun htime hle halarm => ?_⟩
    refine ⟨_, congrArg Host.Outcome.next (State.stageAlarm_raises hst htime hle halarm), s.stageActed_alarm hst, s.stageActed_count _ _,
      fun h2 => s.stageActed_opMode_fault hd (.inl h2), fun h1 hk => s.stageActed_opMode_fault hd (.inr ⟨h1, hk⟩), fun h1 hk => ?_,
      fun h => s.stageActed_opMode_kept hd (.inl h), (State.stageActed_points _ hst).trans (s.stageRaised_points _)⟩
    have haction : s.fld (Reg.LOOP_STG_FE st.val) 17 16 = 1 := h1
    rw [haction]
    exact ⟨s.stageActed_stops hd hk, s.stageActed_opMode_kept hd (.inr ⟨rfl, hk⟩)⟩
  case period => exact ⟨fun h => if_pos h, fun h => if_neg h⟩
  case trip =>
    refine ⟨_, State.currentStage_trips htrip, ?_, fun hne => ?_, (State.OperKept.opFault d.isLt).points⟩
    · rw [State.rd_inc_same, State.rd_opFault_ne _ _ _ (by simp only [Reg.LOOP_TRIP_CNT, Reg.LOOP_STG_MODE]; omega)]
    · exact (State.fld_of_rd (State.rd_inc_ne _ (by simp only [Reg.LOOP_TRIP_CNT, Reg.LOOP_STG_MODE]; omega)) 6 4).trans
        ((s.opMode_opFault_same d.val).trans (if_neg hne))
  case settle => exact s.opMode_opSettle d.val
  case slotApply =>
    intro u n x hobeys
    refine ⟨fun hok => ?_, fun hbad => ?_⟩
    · exact ⟨_, completes_asPrefect rfl hobeys rfl, State.slotApply_taken hok⟩
    · exact ⟨_, completes_asPrefect rfl hobeys (State.slotApply_refused hbad), State.inc_onlyRegs _ _, State.rd_inc_same _ _⟩
  case stageApply =>
    intro u d set hobeys
    have hst := st.isLt
    refine ⟨fun hL => completes_asPrefect rfl hobeys (if_pos hL), fun hL hok => ?_, fun hL hbad => ?_⟩
    · refine ⟨_, completes_asPrefect rfl hobeys ((if_neg hL).trans (State.stageApply_taken hok)), u.bit_setBit_same _ _ _ (by omega),
        u.stageTaken_act hst, fun a ha => u.rd_setBit_ne _ _ ha, fun k hk => State.oper_setOper_ne _ _ hk, rfl⟩
    · exact ⟨_, completes_asPrefect rfl hobeys ((if_neg hL).trans (State.stageApply_refused hbad)), u.stageRefused_paramErr _, u.stageRefused_count _,
        u.stageRefused_loop _, u.stageRefused_points _, fun i hi => u.stageRefused_param _ hi⟩
  case window =>
    intro u hobeys
    have hslot : slot.toNat % 2048 = slot.toNat := Nat.mod_eq_of_lt slot.isLt
    refine ⟨_, completes_asPrefect rfl hobeys rfl, ?_⟩
    simp only [State.slotLatch, hslot]
    exact ⟨State.wr_onlyRegs { u with loop := { u.loop with win := u.slot slot.toNat } } _ (List.mem_singleton_self _), u.rd_wr_same _ _⟩
  case deadline =>
    refine ⟨fun hidle => congrArg Host.Outcome.next (State.hzDeadline_idle hidle), fun hbusy hm => ?_⟩
    have hdrops := (State.hzDeadline_drops hbusy hm).trans ((s.notBusy zone.toNat).hzOutcome_dropped zone.toNat m (code := 3) (by decide) _ _ _ _)
    refine ⟨_, congrArg Host.Outcome.next hdrops, _, rfl, State.hzDropped_stat _ _ _ _, State.hzDropped_count _ _ _ _,
      State.hzDropped_zoneCount _ _ _ _, ?_, State.hzDropped_points _ _ _ _⟩
    rw [State.hzDropped_busy]
    simp [State.notBusy]
  case commit =>
    intro u z staged hobeys
    refine ⟨fun hok => ?_, fun hbad => ?_⟩
    · exact ⟨_, completes_asPrefect rfl hobeys (State.modelCommit_taken hok), u.modelTaken_takes z⟩
    · exact ⟨_, completes_asPrefect rfl hobeys (State.modelCommit_refused hbad), u.setBit_onlyRegs _ _ _, u.bit_setBit_same _ _ _ (by omega)⟩
  case trace =>
    intro u full hobeys
    refine ⟨?arm, ?halt, fun hidle => completes_asPrefect rfl hobeys (State.traceTrigger_idle hidle), fun harmed hfull => ?fire⟩
    case arm =>
      exact ⟨_, completes_asPrefect rfl hobeys rfl, State.setFld_onlyRegs { u with loop := { u.loop with tr := Vector.replicate 16 TrCh.zero } } _ _ _ _,
        u.fld_setFld _ _ _ _ (by omega) (by omega)⟩
    case halt => exact ⟨_, completes_asPrefect rfl hobeys rfl, u.setFld_onlyRegs _ _ _ _, u.fld_setFld _ _ _ _ (by omega) (by omega)⟩
    case fire =>
      exact ⟨_, completes_asPrefect rfl hobeys (State.traceTrigger_fires harmed hfull), _, u.traceFired_onlyRegs, u.traceFired_timeLo, u.traceFired_timeHi,
        u.traceFired_stat, fun c hc => u.traceFired_post hc⟩

end Sys2Proof.Machine
end

section
/-! The tables of the car position units and the door sequencers: what each reads after a write, what an event leaves of them, and the position state of a
car (R162 to R180). -/

namespace Sys2Proof.Machine

/-! ### Fields by their bits -/

/-- A field whose bits are the same reads the same. -/
theorem State.fld_of_bits {s t : State} {a hi lo : Nat} (h : ∀ i, lo ≤ i → i ≤ hi → t.bit a i = s.bit a i) : t.fld a hi lo = s.fld a hi lo := by
  apply Nat.eq_of_testBit_eq
  intro j
  simp only [State.fld, bits, Nat.testBit_mod_two_pow, Nat.testBit_div_two_pow]
  by_cases hj : j < hi + 1 - lo
  · exact congrArg _ (h (j + lo) (by omega) (by omega))
  · simp [hj]

section
variable (s : State)

/-! ### Cars and doors -/

theorem State.car_setCar {c : Nat} (x : CarSt) (hc : c < 8) (k : Nat) : (s.setCar c x).car k = if k = c then x else s.car k :=
  Vector.getD_setIfInBounds _ _ _ hc k

theorem State.car_setCar_same {c : Nat} (x : CarSt) (hc : c < 8) : (s.setCar c x).car c = x := by rw [s.car_setCar x hc, if_pos rfl]

theorem State.setCar_onlyRegs_of {t : State} {l : List Nat} (c : Nat) (x : CarSt) (h : OnlyRegs s l t) : OnlyRegs (s.setCar c x) l (t.setCar c x) := by
  obtain ⟨ht, hr⟩ := h
  exact ⟨by rw [ht]; rfl, hr⟩

theorem State.door_setDoor_same {d : Nat} (x : DoorSt) (hd : d < 16) : (s.setDoor d x).door d = x :=
  (Vector.getD_setIfInBounds _ _ _ hd d).trans (if_pos rfl)

@[simp] theorem State.setCar_points (c : Nat) (x : CarSt) : (s.setCar c x).points = s.points := rfl
@[simp] theorem State.setCar_safe (c : Nat) (x : CarSt) : (s.setCar c x).safe = s.safe := rfl
@[simp] theorem State.rd_setCar (c : Nat) (x : CarSt) (a : Nat) : (s.setCar c x).rd a = s.rd a := rfl
@[simp] theorem State.bit_setCar (c : Nat) (x : CarSt) (a i : Nat) : (s.setCar c x).bit a i = s.bit a i := rfl
@[simp] theorem State.carState_setCar (c : Nat) (x : CarSt) (k : Nat) : (s.setCar c x).carState k = s.carState k := rfl

theorem State.car_of_lift {s t : State} (h : t.lift = s.lift) (c : Nat) : t.car c = s.car c := by simp only [State.car, h]

@[simp] theorem State.setDoor_regs (d : Nat) (x : DoorSt) : (s.setDoor d x).regs = s.regs := rfl
@[simp] theorem State.setDoor_points (d : Nat) (x : DoorSt) : (s.setDoor d x).points = s.points := rfl
@[simp] theorem State.setDoor_cnt (d : Nat) (x : DoorSt) : (s.setDoor d x).cnt = s.cnt := rfl
@[simp] theorem State.rd_setDoor (d : Nat) (x : DoorSt) (a : Nat) : (s.setDoor d x).rd a = s.rd a := rfl
@[simp] theorem State.fld_setDoor (d : Nat) (x : DoorSt) (a hi lo : Nat) : (s.setDoor d x).fld a hi lo = s.fld a hi lo := rfl
@[simp] theorem State.bit_setDoor (d : Nat) (x : DoorSt) (a i : Nat) : (s.setDoor d x).bit a i = s.bit a i := rfl
@[simp] theorem State.doorState_setDoor (d : Nat) (x : DoorSt) (k : Nat) : (s.setDoor d x).doorState k = s.doorState k := rfl
@[simp] theorem State.refLost_setDoor (d : Nat) (x : DoorSt) (k : Nat) : (s.setDoor d x).refLost k = s.refLost k := rfl

theorem State.door_of_lift {s t : State} (h : t.lift = s.lift) (d : Nat) : t.door d = s.door d := by simp only [State.door, h]

/-! ### What an event leaves -/

@[simp] theorem State.record_lift (it : EvItem) : (s.record it).lift = s.lift := by
  obtain ⟨_, _, _, _, _, h⟩ := s.record_eventsOnly it
  rw [h]

@[simp] theorem State.recordWindow_lift (key len : Nat) (it : EvItem) : (s.recordWindow key len it).lift = s.lift := by
  obtain ⟨_, _, _, _, _, h⟩ := s.recordWindow_eventsOnly key len it
  rw [h]

@[simp] theorem State.recordWindow_cnt (key len : Nat) (it : EvItem) : (s.recordWindow key len it).cnt = s.cnt := by
  obtain ⟨_, _, _, _, _, h⟩ := s.recordWindow_eventsOnly key len it
  rw [h]

@[simp] theorem State.recordWindow_points (key len : Nat) (it : EvItem) : (s.recordWindow key len it).points = s.points := by
  obtain ⟨_, _, _, _, _, h⟩ := s.recordWindow_eventsOnly key len it
  rw [h]

end

/-- What an event leaves, as far as cars and doors are concerned. -/
structure State.UpToEvents (s t : State) : Prop where
  regs : s.RegsKept t
  lift : t.lift = s.lift
  points : t.points = s.points
  cnt : t.cnt = s.cnt

theorem State.UpToEvents.refl (s : State) : s.UpToEvents s := ⟨.refl s, rfl, rfl, rfl⟩

theorem State.record_upToEvents (s : State) (it : EvItem) : s.UpToEvents (s.record it) :=
  ⟨s.record_kept it, s.record_lift it, s.record_points it, s.record_cnt it⟩

theorem State.recordWindow_upToEvents (s : State) (key len : Nat) (it : EvItem) : s.UpToEvents (s.recordWindow key len it) :=
  ⟨s.recordWindow_kept key len it, s.recordWindow_lift key len it, s.recordWindow_points key len it, s.recordWindow_cnt key len it⟩

/-- A register of the lift block is out of an event's reach. -/
theorem recordsTo_lift {a : Nat} (hlo : 0x070000 ≤ a) (hhi : a < 0x080000) : recordsTo a = false :=
  recordsTo_of_apart (.inr (by omega)) (.inr (by omega)) (by omega)

theorem State.UpToEvents.rd {s t : State} (h : s.UpToEvents t) {a : Nat} (hlo : 0x070000 ≤ a) (hhi : a < 0x080000) : t.rd a = s.rd a :=
  h.regs a (recordsTo_lift hlo hhi)

section
variable (s : State)

/-! ### The position state of a car (R166) -/

theorem State.rd_setCarState_ne {c a : Nat} (st cause : Nat) (h : a ≠ Reg.LIFT_CAR_STAT c) : (s.setCarState c st cause).rd a = s.rd a := by
  rw [State.setCarState, State.rd_setFld_ne _ _ _ _ h, State.rd_setFld_ne _ _ _ _ h]

@[simp] theorem State.setCarState_points (c st cause : Nat) : (s.setCarState c st cause).points = s.points := by
  rw [State.setCarState, State.setFld_points, State.setFld_points]

@[simp] theorem State.setCarState_lift (c st cause : Nat) : (s.setCarState c st cause).lift = s.lift := by
  rw [State.setCarState, State.setFld_lift, State.setFld_lift]

@[simp] theorem State.setCarState_safe (c st cause : Nat) : (s.setCarState c st cause).safe = s.safe := by
  rw [State.setCarState, State.setFld_safe, State.setFld_safe]

theorem State.carState_setCarState (c : Nat) {st : Nat} (cause : Nat) (h : st < 4) : (s.setCarState c st cause).carState c = st := by
  rw [State.carState, State.setCarState, State.fld_setFld_apart _ _ _ _ _ _ _ (by omega) (by omega) (by omega),
    State.fld_setFld _ _ _ _ _ (by omega) (by omega)]
  exact Nat.mod_eq_of_lt h

theorem State.cause_setCarState (c st : Nat) {cause : Nat} (h : cause < 16) : (s.setCarState c st cause).fld (Reg.LIFT_CAR_STAT c) 19 16 = cause :=
  (State.fld_setFld _ _ _ _ _ (by omega) (by omega)).trans (Nat.mod_eq_of_lt h)

theorem State.landing_setCarState (c st cause : Nat) : (s.setCarState c st cause).fld (Reg.LIFT_CAR_STAT c) 9 2 = s.fld (Reg.LIFT_CAR_STAT c) 9 2 := by
  rw [State.setCarState, State.fld_setFld_apart _ _ _ _ _ _ _ (by omega) (by omega) (by omega),
    State.fld_setFld_apart _ _ _ _ _ _ _ (by omega) (by omega) (by omega)]

end

end Sys2Proof.Machine
end

section
/-! What a change of a door sequencer's state leaves: parameters applied, a state entered, a learning run ended (R174, R176, R179, R180). -/

namespace Sys2Proof.Machine

/-! ### Parameters applied (R176, R180) -/

/-- What applying parameters leaves: the points, the time, the sequencer but its applied set, its STAT but CFG_ERR and STAGED, and every register
apart from STAT and the derived limits. -/
structure State.ParamsOnly (d : Nat) (s t : State) : Prop where
  points : t.points = s.points
  cnt : t.cnt = s.cnt
  door : ∃ p, t.door d = { s.door d with applied := p }
  stat : ∀ i, i ≠ 4 → i ≠ 7 → t.bit (Reg.LIFT_DOOR_STAT d) i = s.bit (Reg.LIFT_DOOR_STAT d) i
  regs : ∀ a, a ≠ Reg.LIFT_DOOR_STAT d → (a < Reg.LIFT_DOOR_DERIVED d 0 ∨ Reg.LIFT_DOOR_DERIVED d 2 < a) → t.rd a = s.rd a

section
variable {s t u : State} {d : Nat}

theorem State.ParamsOnly.refl : s.ParamsOnly d s := ⟨rfl, rfl, ⟨_, rfl⟩, fun _ _ _ => rfl, fun _ _ _ => rfl⟩

theorem State.ParamsOnly.trans (h : s.ParamsOnly d t) (k : t.ParamsOnly d u) : s.ParamsOnly d u := by
  obtain ⟨p, hp⟩ := h.door
  obtain ⟨q, hq⟩ := k.door
  exact ⟨k.points.trans h.points, k.cnt.trans h.cnt, ⟨q, by rw [hq, hp]⟩, fun i h4 h7 => (k.stat i h4 h7).trans (h.stat i h4 h7),
    fun a ha hr => (k.regs a ha hr).trans (h.regs a ha hr)⟩

theorem State.setBit_paramsOnly (s : State) (d : Nat) {i : Nat} (b : Bool) (hi : i = 4 ∨ i = 7) :
    s.ParamsOnly d (s.setBit (Reg.LIFT_DOOR_STAT d) i b) :=
  ⟨rfl, rfl, ⟨_, rfl⟩, fun j h4 h7 => by rw [State.bit_setBit _ _ _ _ _ (by omega), if_neg (by omega)], fun a ha _ => s.rd_setBit_ne _ _ ha⟩

theorem State.setApplied_paramsOnly (s : State) {d : Nat} (p : Vector Word 10) (hd : d < 16) :
    s.ParamsOnly d (s.setDoor d { s.door d with applied := p }) :=
  ⟨rfl, rfl, ⟨p, s.door_setDoor_same _ hd⟩, fun _ _ _ => rfl, fun _ _ _ => rfl⟩

theorem State.wrDerived_paramsOnly (s : State) (d : Nat) {i : Nat} (v : Word) (hi : i < 3) :
    s.ParamsOnly d (s.wr (Reg.LIFT_DOOR_DERIVED d i) v) := by
  refine ⟨rfl, rfl, ⟨_, rfl⟩, fun j _ _ => ?_, fun a _ hr => State.rd_wr_ne _ _ ?_⟩
  · exact State.bit_of_rd (State.rd_wr_ne _ _ (by simp only [Reg.LIFT_DOOR_STAT, Reg.LIFT_DOOR_DERIVED]; omega)) j
  · simp only [Reg.LIFT_DOOR_DERIVED] at hr ⊢; omega

theorem State.doorDerive_paramsOnly (s : State) (d : Nat) : s.ParamsOnly d (s.doorDerive d) := by
  obtain ⟨u, v, w, h⟩ : ∃ u v w, s.doorDerive d =
      ((s.wr (Reg.LIFT_DOOR_DERIVED d 0) u).wr (Reg.LIFT_DOOR_DERIVED d 1) v).wr (Reg.LIFT_DOOR_DERIVED d 2) w := ⟨_, _, _, rfl⟩
  rw [h]
  exact ((s.wrDerived_paramsOnly d u (by omega)).trans (State.wrDerived_paramsOnly _ d v (by omega))).trans
    (State.wrDerived_paramsOnly _ d w (by omega))

theorem State.doorApply_paramsOnly (s : State) (hd : d < 16) : s.ParamsOnly d (s.doorApply d) := by
  unfold State.doorApply
  simp only []
  split
  case isFalse => exact .refl
  case isTrue =>
    split
    · exact ((s.setApplied_paramsOnly _ hd).trans (State.setBit_paramsOnly _ d false (.inr rfl))).trans (State.doorDerive_paramsOnly _ d)
    · exact s.setBit_paramsOnly d true (.inl rfl)

end

/-! ### A state entered (R174) -/

/-- The state shown, and the sequencer's own record of it begun. -/
def State.doorBegun (s : State) (d st : Nat) : State :=
  let s := s.setFld (Reg.LIFT_DOOR_STAT d) 3 0 st
  s.setDoor d { s.door d with since := s.now, phase := if st = 8 then 1 else 0, periods := 0, iqSum := 0, lost := none, closedAt := none, openAt := none, stallAt := none }

/-- A door that has closed: its reversals and its obstruction are behind it (R177). -/
def State.doorCleared (s : State) (d : Nat) : State :=
  (s.setFld (Reg.LIFT_DOOR_STAT d) 15 8 0).setDoor d { s.door d with obstructed := false }

theorem State.doorEnter_eq (s : State) (d st : Nat) : s.doorEnter d st =
    if st = 1 then ((s.doorBegun d st).doorCleared d).doorApply d else if st = 7 then (s.doorBegun d st).doorApply d else s.doorBegun d st := rfl

theorem State.doorEnter_closed (s : State) (d : Nat) : s.doorEnter d 1 = ((s.doorBegun d 1).doorCleared d).doorApply d := by
  rw [s.doorEnter_eq, if_pos rfl]

theorem State.doorEnter_stopped (s : State) (d : Nat) : s.doorEnter d 7 = (s.doorBegun d 7).doorApply d := by
  rw [s.doorEnter_eq, if_neg (by omega), if_pos rfl]

theorem State.doorEnter_other (s : State) (d : Nat) {st : Nat} (h1 : st ≠ 1) (h7 : st ≠ 7) : s.doorEnter d st = s.doorBegun d st := by
  rw [s.doorEnter_eq, if_neg h1, if_neg h7]

/-- What entering a state leaves: it shows, its time is taken; the points, the time, the command's SEQ, LEARNED and what stands above bit 15 of STAT,
and every register apart from STAT and the derived limits stay. -/
structure State.Entered (d st : Nat) (s t : State) : Prop where
  state : t.doorState d = st
  since : (t.door d).since = s.now
  seq : (t.door d).seq = (s.door d).seq
  points : t.points = s.points
  cnt : t.cnt = s.cnt
  flags : ∀ i, i = 6 ∨ 16 ≤ i → t.bit (Reg.LIFT_DOOR_STAT d) i = s.bit (Reg.LIFT_DOOR_STAT d) i
  regs : ∀ a, a ≠ Reg.LIFT_DOOR_STAT d → (a < Reg.LIFT_DOOR_DERIVED d 0 ∨ Reg.LIFT_DOOR_DERIVED d 2 < a) → t.rd a = s.rd a

section
variable {s t u : State} {d st : Nat}

theorem State.Entered.applied (h : s.Entered d st t) (k : t.ParamsOnly d u) : s.Entered d st u := by
  obtain ⟨p, hp⟩ := k.door
  refine ⟨?_, by rw [hp]; exact h.since, by rw [hp]; exact h.seq, k.points.trans h.points, k.cnt.trans h.cnt,
    fun i hi => (k.stat i (by omega) (by omega)).trans (h.flags i hi), fun a ha hr => (k.regs a ha hr).trans (h.regs a ha hr)⟩
  exact (State.fld_of_bits (fun i _ hi => k.stat i (by omega) (by omega))).trans h.state

theorem State.doorBegun_rd (s : State) {d a : Nat} (st : Nat) (h : a ≠ Reg.LIFT_DOOR_STAT d) : (s.doorBegun d st).rd a = s.rd a := by
  rw [State.doorBegun, State.rd_setDoor, State.rd_setFld_ne _ _ _ _ h]

theorem State.doorBegun_entered (s : State) (hd : d < 16) (hst : st < 16) : s.Entered d st (s.doorBegun d st) := by
  have hdoor := fun x => (s.setFld (Reg.LIFT_DOOR_STAT d) 3 0 st).door_setDoor_same x hd
  unfold State.doorBegun
  refine ⟨?state, by rw [hdoor]; rfl, by rw [hdoor, State.door_of_lift (State.setFld_lift _ _ _ _ _)], ?points, ?cnt, fun i hi => ?flags,
    fun a ha _ => s.doorBegun_rd st ha⟩
  case state =>
    rw [State.doorState, State.fld_setDoor, State.fld_setFld _ _ _ _ _ (by omega) (by omega)]
    exact Nat.mod_eq_of_lt hst
  case points => rw [State.setDoor_points, State.setFld_points]
  case cnt => rw [State.setDoor_cnt, State.setFld_cnt]
  case flags => rw [State.bit_setDoor, State.bit_setFld_apart _ _ _ _ _ _ (by omega) (by omega) (by omega)]

theorem State.doorCleared_entered (h : s.Entered d st t) (hd : d < 16) : s.Entered d st (t.doorCleared d) := by
  have hdoor : (t.doorCleared d).door d = { t.door d with obstructed := false } := by
    rw [State.doorCleared, State.door_setDoor_same _ _ hd]
  refine ⟨?state, by rw [hdoor]; exact h.since, by rw [hdoor]; exact h.seq, ?points, ?cnt, fun i hi => ?flags, fun a ha hr => ?regs⟩
  case state =>
    rw [State.doorState, State.doorCleared, State.fld_setDoor, State.fld_setFld_apart _ _ _ _ _ _ _ (by omega) (by omega) (by omega)]
    exact h.state
  case points => rw [State.doorCleared, State.setDoor_points, State.setFld_points, h.points]
  case cnt => rw [State.doorCleared, State.setDoor_cnt, State.setFld_cnt, h.cnt]
  case flags =>
    rw [State.doorCleared, State.bit_setDoor, State.bit_setFld_apart _ _ _ _ _ _ (by omega) (by omega) (by omega), h.flags i hi]
  case regs => rw [State.doorCleared, State.rd_setDoor, State.rd_setFld_ne _ _ _ _ ha, h.regs a ha hr]

/-- Entering a state, CLOSED and STOPPED with the parameters staged in it. -/
theorem State.doorEnter_entered (s : State) (hd : d < 16) (hst : st < 16) : s.Entered d st (s.doorEnter d st) := by
  by_cases h1 : st = 1
  · subst h1
    rw [s.doorEnter_closed]
    exact (State.doorCleared_entered (s.doorBegun_entered hd hst) hd).applied (State.doorApply_paramsOnly _ hd)
  · by_cases h7 : st = 7
    · subst h7
      rw [s.doorEnter_stopped]
      exact (s.doorBegun_entered hd hst).applied (State.doorApply_paramsOnly _ hd)
    · rw [s.doorEnter_other d h1 h7]
      exact s.doorBegun_entered hd hst

theorem State.doorEnter_closed_clears (s : State) (hd : d < 16) :
    (s.doorEnter d 1).fld (Reg.LIFT_DOOR_STAT d) 15 8 = 0 ∧ ((s.doorEnter d 1).door d).obstructed = false := by
  have happly := ((s.doorBegun d 1).doorCleared d).doorApply_paramsOnly hd
  obtain ⟨p, hp⟩ := happly.door
  rw [s.doorEnter_closed]
  refine ⟨?_, ?_⟩
  · rw [State.fld_of_bits (fun i hi _ => happly.stat i (by omega) (by omega)), State.doorCleared, State.fld_setDoor,
      State.fld_setFld _ _ _ _ _ (by omega) (by omega)]
    rfl
  · rw [hp, State.doorCleared, State.door_setDoor_same _ _ hd]

theorem State.Entered.flag (h : s.Entered d st t) {hi lo : Nat} (hlo : 16 ≤ lo) :
    t.fld (Reg.LIFT_DOOR_STAT d) hi lo = s.fld (Reg.LIFT_DOOR_STAT d) hi lo :=
  State.fld_of_bits fun i hi _ => h.flags i (by omega)

theorem State.Entered.refLost (h : s.Entered d st t) : t.refLost d = s.refLost d := h.flags 19 (by omega)

theorem State.Entered.learned (h : s.Entered d st t) : t.learned d = s.learned d := h.flags 6 (by omega)

theorem State.Entered.now (h : s.Entered d st t) : t.now = s.now := congrArg BitVec.toNat h.cnt

/-! ### The change shown (R173) -/

theorem State.doorNoted_changed (h : t.doorState d ≠ s.doorState d) : s.doorNoted t d = t.doorCommit d := if_neg h

theorem State.doorNoted_same (h : t.doorState d = s.doorState d) : s.doorNoted t d = t := if_pos h

end

end Sys2Proof.Machine
end

section
/-! The car position units (R164 to R170; O28): the decoder of an encoder, the comparison of both positions, references, captures and commands. -/

namespace Sys2Proof.Machine

/-! ### The decoder of an encoder (R163, R164) -/

/-- A line's accepted level changes only to the level sampled, after more samples than FILT at it; the samples counted stay within FILT. -/
theorem lineSample_spec (filt : Nat) (was : Bool) (n : Nat) (now : Bool) : (n ≤ filt → (lineSample filt was n now).2 ≤ filt) ∧
    ((lineSample filt was n now).1 ≠ was → (lineSample filt was n now).1 = now ∧ filt ≤ n) := by
  unfold lineSample
  split
  case isTrue => exact ⟨fun _ => Nat.zero_le _, fun h => absurd rfl h⟩
  case isFalse =>
    split
    case isTrue hfull => exact ⟨fun _ => Nat.zero_le _, fun _ => ⟨rfl, hfull⟩⟩
    case isFalse hfew => exact ⟨fun _ => by omega, fun h => absurd rfl h⟩

/-- The count that follows from the levels before, `a` and `b`, and after, `a'` and `b'`. -/
def quadCount (a b a' b' invert : Bool) (n : Word) : Word :=
  if (a' != a && b' != b) || (a' == a && b' == b) then n
  else n + if (if a' != a then a' != b' else a' == b') != invert then 1 else 0xFFFFFFFF

theorem quadCount_a {a b a' b' : Bool} (invert : Bool) (n : Word) (ha : a' ≠ a) (hb : b' = b) :
    quadCount a b a' b' invert n = if (a' != b') != invert then n + 1 else n - 1 := by
  have hminus : n + 0xFFFFFFFF = n - 1 := by bv_omega
  simp only [quadCount, hb, bne_iff_ne.2 ha, beq_false_of_ne ha, bne_self_eq_false, BEq.rfl, Bool.and_false, Bool.false_and, Bool.or_self,
    Bool.false_eq_true, if_false, if_true]
  split
  · rfl
  · exact hminus

theorem quadCount_b {a b a' b' : Bool} (invert : Bool) (n : Word) (hb : b' ≠ b) (ha : a' = a) :
    quadCount a b a' b' invert n = if (a' == b') != invert then n + 1 else n - 1 := by
  have hminus : n + 0xFFFFFFFF = n - 1 := by bv_omega
  simp only [quadCount, ha, beq_false_of_ne hb, bne_self_eq_false, BEq.rfl, Bool.and_false, Bool.false_and, Bool.or_self,
    Bool.false_eq_true, if_false]
  split
  · rfl
  · exact hminus

/-- What one sample of an encoder input does (R163, R164). -/
theorem EncSt.sample_spec (x : EncSt) (filt : Nat) (invert : Bool) (l : Bool × Bool) : let r := x.sample filt invert l
    (x.na ≤ filt → x.nb ≤ filt → r.1.na ≤ filt ∧ r.1.nb ≤ filt) ∧ (r.2 = true ↔ r.1.a ≠ x.a ∧ r.1.b ≠ x.b) ∧
    (r.1.a ≠ x.a → r.1.a = l.1 ∧ filt ≤ x.na) ∧ (r.1.b ≠ x.b → r.1.b = l.2 ∧ filt ≤ x.nb) ∧
    (r.1.a = x.a → r.1.b = x.b → r.1.count = x.count) ∧ (r.2 = true → r.1.count = x.count) ∧
    (r.1.a ≠ x.a → r.1.b = x.b → r.1.count = if (r.1.a != r.1.b) != invert then x.count + 1 else x.count - 1) ∧
    (r.1.b ≠ x.b → r.1.a = x.a → r.1.count = if (r.1.a == r.1.b) != invert then x.count + 1 else x.count - 1) := by
  intro r
  obtain ⟨hna, ha⟩ := lineSample_spec filt x.a x.na l.1
  obtain ⟨hnb, hb⟩ := lineSample_spec filt x.b x.nb l.2
  have herror : r.2 = (r.1.a != x.a && r.1.b != x.b) := rfl
  have hcount : r.1.count = quadCount x.a x.b r.1.a r.1.b invert x.count := rfl
  have hboth : r.2 = true ↔ r.1.a ≠ x.a ∧ r.1.b ≠ x.b := by rw [herror, Bool.and_eq_true, bne_iff_ne, bne_iff_ne]
  refine ⟨fun h k => ⟨hna h, hnb k⟩, hboth, ha, hb, fun h k => ?none, fun h => ?error, fun h k => hcount.trans (quadCount_a _ _ h k),
    fun h k => hcount.trans (quadCount_b _ _ h k)⟩
  case none => rw [hcount, h, k]; simp [quadCount]
  case error => rw [hcount, quadCount, ← herror, h]; rfl

/-! ### The comparison of both positions (R169) -/

/-- The positions of a car computed from both encoders and kept for the velocity (R165). -/
def State.carMoved (s : State) (c : Nat) : State :=
  let x := s.car c
  let pos := s.posOf c (s.rd (Reg.LIFT_ENC_COUNT (4 * c)))
  let gpos := s.gposOf c (s.rd (Reg.LIFT_ENC_COUNT (4 * c + 1)))
  (((s.wr (Reg.LIFT_CAR_POS c) pos).wr (Reg.LIFT_CAR_GPOS c) gpos).wr (Reg.LIFT_CAR_DIFF c) (pos - gpos)).setCar c
    { x with vel := wi ((pos - x.prev2).toInt * 1000), prev2 := x.prev1, prev1 := pos }

/-- Both positions compared, where the car is not in FAULT and the field die is linked. -/
def State.carCompared (s : State) (c : Nat) : State := if s.carState c ≠ 3 ∧ s.bit Reg.FIELD_STAT 8 then s.crossCheck c else s

theorem State.carPeriod_off {s : State} {c : Nat} (h : s.carOn c = false) : s.carPeriod c = s := if_neg (Bool.eq_false_iff.1 h)

theorem State.carPeriod_on {s : State} {c : Nat} (h : s.carOn c = true) : s.carPeriod c = ((s.carMoved c).carCompared c).carCommit c := if_pos h

/-- The positions lie more than the window apart. -/
def State.carBeyond (s : State) (c : Nat) : Bool := decide (s.fld (Reg.LIFT_CAR_XCHK c) 15 0 < (s.rd (Reg.LIFT_CAR_DIFF c)).toInt.natAbs)

/-- The comparison's result kept for the next period. -/
def State.beyondNoted (s : State) (c : Nat) : State := s.setCar c { s.car c with beyond := s.carBeyond c }

/-- The FAULT of a comparison, before it is sent to the safety die. -/
def State.crossFault (s : State) (c : Nat) : State := ((s.setCarState c 3 3).setBit (Reg.LIFT_CAR_STAT c) 11 true).inc Reg.LIFT_XCHK_CNT

theorem State.crossCheck_agrees {s : State} {c : Nat} (h : s.carBeyond c = false ∨ (s.car c).beyond = false) : s.crossCheck c = s.beyondNoted c :=
  if_neg (by rw [Bool.and_eq_true]; rintro ⟨hb, hw⟩; rcases h with h | h; exact absurd (hb.symm.trans h) nofun; exact absurd (hw.symm.trans h) nofun)

theorem State.crossCheck_fails {s : State} {c : Nat} (hb : s.carBeyond c = true) (hw : (s.car c).beyond = true) : ∃ it,
    s.crossCheck c = (((s.beyondNoted c).crossFault c).xchkSend c).record it :=
  ⟨_, if_pos (Bool.and_eq_true_iff.2 ⟨hb, hw⟩)⟩

/-- What a comparison leaves: the points, the car but its result, and every register apart from the car's STAT, the count and an event's own. -/
structure State.ComparisonOnly (c : Nat) (s t : State) : Prop where
  points : t.points = s.points
  car : ∃ b, t.car c = { s.car c with beyond := b }
  regs : ∀ a, a ≠ Reg.LIFT_CAR_STAT c → a ≠ Reg.LIFT_XCHK_CNT → recordsTo a = false → t.rd a = s.rd a

theorem State.beyondNoted_only (s : State) {c : Nat} (hc : c < 8) : s.ComparisonOnly c (s.beyondNoted c) :=
  ⟨rfl, ⟨_, s.car_setCar_same _ hc⟩, fun _ _ _ _ => rfl⟩

theorem State.crossFault_rd (s : State) {c a : Nat} (hstat : a ≠ Reg.LIFT_CAR_STAT c) (hcnt : a ≠ Reg.LIFT_XCHK_CNT) :
    (s.crossFault c).rd a = s.rd a := by
  rw [State.crossFault, State.rd_inc_ne _ hcnt, State.rd_setBit_ne _ _ _ hstat, State.rd_setCarState_ne _ _ _ hstat]

theorem State.crossFault_count (s : State) (c : Nat) : (s.crossFault c).rd Reg.LIFT_XCHK_CNT = s.rd Reg.LIFT_XCHK_CNT + 1 := by
  have h : Reg.LIFT_XCHK_CNT ≠ Reg.LIFT_CAR_STAT c := by simp only [Reg.LIFT_XCHK_CNT, Reg.LIFT_CAR_STAT]; omega
  rw [State.crossFault, State.rd_inc_same, State.rd_setBit_ne _ _ _ h, State.rd_setCarState_ne _ _ _ h]

theorem State.crossFault_carState (s : State) (c : Nat) : (s.crossFault c).carState c = 3 := by
  have h : Reg.LIFT_CAR_STAT c ≠ Reg.LIFT_XCHK_CNT := by simp only [Reg.LIFT_XCHK_CNT, Reg.LIFT_CAR_STAT]; omega
  have hinc : (s.crossFault c).rd (Reg.LIFT_CAR_STAT c) = ((s.setCarState c 3 3).setBit (Reg.LIFT_CAR_STAT c) 11 true).rd (Reg.LIFT_CAR_STAT c) :=
    State.rd_inc_ne _ h
  rw [State.carState, State.fld_of_rd hinc, State.fld_setBit_apart _ _ _ _ _ _ (by omega) (by omega)]
  exact s.carState_setCarState c 3 (by omega)

@[simp] theorem State.crossFault_points (s : State) (c : Nat) : (s.crossFault c).points = s.points := by
  rw [State.crossFault, State.inc_points, State.setBit_points, State.setCarState_points]

@[simp] theorem State.crossFault_lift (s : State) (c : Nat) : (s.crossFault c).lift = s.lift := by
  rw [State.crossFault, State.inc_lift, State.setBit_lift, State.setCarState_lift]

@[simp] theorem State.crossFault_safe (s : State) (c : Nat) : (s.crossFault c).safe = s.safe := by
  rw [State.crossFault, State.inc_safe, State.setBit_safe, State.setCarState_safe]

theorem recordsTo_carStat {c : Nat} (hc : c < 8) : recordsTo (Reg.LIFT_CAR_STAT c) = false :=
  recordsTo_lift (by simp only [Reg.LIFT_CAR_STAT]; omega) (by simp only [Reg.LIFT_CAR_STAT]; omega)

theorem State.xchkSend_rd (s : State) (c a : Nat) : (s.xchkSend c).rd a = s.rd a := congrArg (Tab.get regDefault · a) (s.xchkSend_requestsKept c).regs

theorem State.xchkSend_lift (s : State) (c : Nat) : (s.xchkSend c).lift = s.lift := by
  unfold State.xchkSend
  split <;> rfl

/-- Two periods beyond the window: FAULT, counted, and latched where a channel is live to take it. -/
structure State.CrossFailed (c : Nat) (s t : State) : Prop where
  state : t.carState c = 3
  count : t.rd Reg.LIFT_XCHK_CNT = s.rd Reg.LIFT_XCHK_CNT + 1
  latched : s.safe.chans.toList.any (fun k => k.running && k.link) = true → (t.safeCar c).released = false ∧ (t.safeCar c).latch.getLsbD 2 = true
  unsent : s.safe.chans.toList.any (fun k => k.running && k.link) = false → t.safe = s.safe

theorem State.crossCheck_failed {s : State} {c : Nat} (hc : c < 8) (hb : s.carBeyond c = true) (hw : (s.car c).beyond = true) :
    s.CrossFailed c (s.crossCheck c) := by
  obtain ⟨it, heq⟩ := State.crossCheck_fails hb hw
  have hrd : ∀ a, recordsTo a = false → (s.crossCheck c).rd a = ((s.beyondNoted c).crossFault c).rd a :=
    fun a ha => by rw [heq, State.rd_record _ _ ha, State.xchkSend_rd]
  have hsafe : (s.crossCheck c).safe = (((s.beyondNoted c).crossFault c).xchkSend c).safe := by rw [heq, State.record_safe]
  have hfault : ((s.beyondNoted c).crossFault c).safe = s.safe := by rw [State.crossFault_safe, State.beyondNoted, State.setCar_safe]
  refine ⟨?state, ?count, fun hlive => ?latched, fun hdead => ?unsent⟩
  case state => exact (State.fld_of_rd (hrd _ (recordsTo_carStat hc)) 1 0).trans (State.crossFault_carState _ c)
  case count => rw [hrd _ (by decide), State.crossFault_count, State.beyondNoted, State.rd_setCar]
  case latched =>
    rw [← hfault] at hlive
    rw [State.safeCar_of_safe hsafe, State.xchkSend, if_pos hlive, State.safeCar_safeLatch _ 2 hc, if_pos rfl]
    exact (SafeCar.crossed_latched _).symm
  case unsent =>
    rw [← hfault] at hdead
    rw [hsafe, State.xchkSend, if_neg (Bool.eq_false_iff.1 hdead), hfault]

theorem State.crossCheck_only (s : State) {c : Nat} (hc : c < 8) : s.ComparisonOnly c (s.crossCheck c) := by
  have hnoted := s.beyondNoted_only hc
  by_cases h : s.carBeyond c = true ∧ (s.car c).beyond = true
  · obtain ⟨it, heq⟩ := State.crossCheck_fails h.1 h.2
    rw [heq]
    refine ⟨?_, ?_, fun a hstat hcnt hrec => ?_⟩
    · rw [State.record_points, (State.xchkSend_requestsKept _ c).points, State.crossFault_points, hnoted.points]
    · rw [State.car_of_lift (State.record_lift _ _), State.car_of_lift (State.xchkSend_lift _ c), State.car_of_lift (State.crossFault_lift _ c)]
      exact hnoted.car
    · rw [State.rd_record _ _ hrec, State.xchkSend_rd, State.crossFault_rd _ hstat hcnt, hnoted.regs a hstat hcnt hrec]
  · rw [State.crossCheck_agrees (by simpa only [Bool.not_eq_true, not_and_or] using h)]
    exact hnoted

theorem State.carCompared_only (s : State) {c : Nat} (hc : c < 8) : s.ComparisonOnly c (s.carCompared c) := by
  unfold State.carCompared
  split
  · exact s.crossCheck_only hc
  · exact ⟨rfl, ⟨_, rfl⟩, fun _ _ _ _ => rfl⟩

/-- A comparison within the window, now or a period ago, leaves every register. -/
theorem State.carCompared_agrees {s : State} {c : Nat} (h : s.carBeyond c = false ∨ (s.car c).beyond = false) (a : Nat) :
    (s.carCompared c).rd a = s.rd a := by
  unfold State.carCompared
  split
  · rw [State.crossCheck_agrees h]; rfl
  · rfl

theorem State.carMoved_rd (s : State) {c a : Nat} (h : a ≠ Reg.LIFT_CAR_POS c ∧ a ≠ Reg.LIFT_CAR_GPOS c ∧ a ≠ Reg.LIFT_CAR_DIFF c) :
    (s.carMoved c).rd a = s.rd a := by
  obtain ⟨hp, hg, hd⟩ := h
  rw [State.carMoved, State.rd_setCar, State.rd_wr_ne _ _ hd, State.rd_wr_ne _ _ hg, State.rd_wr_ne _ _ hp]

theorem State.carMoved_pos (s : State) (c : Nat) :
    (s.carMoved c).rd (Reg.LIFT_CAR_POS c) = s.posOf c (s.rd (Reg.LIFT_ENC_COUNT (4 * c))) := by
  rw [State.carMoved, State.rd_setCar, State.rd_wr_ne _ _ (by simp only [Reg.LIFT_CAR_POS, Reg.LIFT_CAR_DIFF]; omega),
    State.rd_wr_ne _ _ (by simp only [Reg.LIFT_CAR_POS, Reg.LIFT_CAR_GPOS]; omega), State.rd_wr_same]

theorem State.carMoved_gpos (s : State) (c : Nat) :
    (s.carMoved c).rd (Reg.LIFT_CAR_GPOS c) = s.gposOf c (s.rd (Reg.LIFT_ENC_COUNT (4 * c + 1))) := by
  rw [State.carMoved, State.rd_setCar, State.rd_wr_ne _ _ (by simp only [Reg.LIFT_CAR_GPOS, Reg.LIFT_CAR_DIFF]; omega), State.rd_wr_same]

theorem State.carMoved_diff (s : State) (c : Nat) : (s.carMoved c).rd (Reg.LIFT_CAR_DIFF c) =
    s.posOf c (s.rd (Reg.LIFT_ENC_COUNT (4 * c))) - s.gposOf c (s.rd (Reg.LIFT_ENC_COUNT (4 * c + 1))) := by
  rw [State.carMoved, State.rd_setCar, State.rd_wr_same]

theorem State.carMoved_car (s : State) {c : Nat} (hc : c < 8) : (s.carMoved c).car c =
    let pos := s.posOf c (s.rd (Reg.LIFT_ENC_COUNT (4 * c)))
    { s.car c with vel := wi ((pos - (s.car c).prev2).toInt * 1000), prev2 := (s.car c).prev1, prev1 := pos } := by
  rw [State.carMoved, State.car_setCar_same _ _ hc]

theorem State.carMoved_points (s : State) (c : Nat) : (s.carMoved c).points = s.points := by
  rw [State.carMoved, State.setCar_points, State.wr_points, State.wr_points, State.wr_points]

theorem State.carMoved_safe (s : State) (c : Nat) : (s.carMoved c).safe = s.safe := by
  rw [State.carMoved, State.setCar_safe, State.wr_safe, State.wr_safe, State.wr_safe]

theorem State.carMoved_stat (s : State) (c : Nat) : (s.carMoved c).rd (Reg.LIFT_CAR_STAT c) = s.rd (Reg.LIFT_CAR_STAT c) :=
  s.carMoved_rd (by simp only [Reg.LIFT_CAR_STAT, Reg.LIFT_CAR_POS, Reg.LIFT_CAR_GPOS, Reg.LIFT_CAR_DIFF]; omega)

theorem State.carMoved_count (s : State) (c : Nat) : (s.carMoved c).rd Reg.LIFT_XCHK_CNT = s.rd Reg.LIFT_XCHK_CNT :=
  s.carMoved_rd (by simp only [Reg.LIFT_XCHK_CNT, Reg.LIFT_CAR_POS, Reg.LIFT_CAR_GPOS, Reg.LIFT_CAR_DIFF]; omega)

theorem State.carMoved_link (s : State) {c : Nat} (hc : c < 8) : (s.carMoved c).bit Reg.FIELD_STAT 8 = s.bit Reg.FIELD_STAT 8 :=
  State.bit_of_rd (s.carMoved_rd (by simp only [Reg.FIELD_STAT, Reg.LIFT_CAR_POS, Reg.LIFT_CAR_GPOS, Reg.LIFT_CAR_DIFF]; omega)) 8

/-- The comparison of a period is of the positions computed at it, in the window of LIFT_CAR_XCHK. -/
theorem State.carMoved_beyond (s : State) (c : Nat) : (s.carMoved c).carBeyond c =
    decide (s.fld (Reg.LIFT_CAR_XCHK c) 15 0 <
      (s.posOf c (s.rd (Reg.LIFT_ENC_COUNT (4 * c))) - s.gposOf c (s.rd (Reg.LIFT_ENC_COUNT (4 * c + 1)))).toInt.natAbs) := by
  have hwindow : (s.carMoved c).rd (Reg.LIFT_CAR_XCHK c) = s.rd (Reg.LIFT_CAR_XCHK c) :=
    s.carMoved_rd (by simp only [Reg.LIFT_CAR_XCHK, Reg.LIFT_CAR_POS, Reg.LIFT_CAR_GPOS, Reg.LIFT_CAR_DIFF]; omega)
  rw [State.carBeyond, State.carMoved_diff, State.fld_of_rd hwindow]

/-- Two periods beyond the window, of a car not in FAULT whose field die is linked. -/
theorem State.carMoved_fails {s : State} {c : Nat} (hc : c < 8) (hstate : s.carState c ≠ 3) (hlink : s.bit Reg.FIELD_STAT 8 = true)
    (hb : (s.carMoved c).carBeyond c = true) (hw : (s.car c).beyond = true) : s.CrossFailed c ((s.carMoved c).carCompared c) := by
  have hcond : (s.carMoved c).carState c ≠ 3 ∧ (s.carMoved c).bit Reg.FIELD_STAT 8 = true :=
    ⟨by rwa [State.carState, State.fld_of_rd (s.carMoved_stat c)], (s.carMoved_link hc).trans hlink⟩
  obtain ⟨hfault, hcount, hlatched, hunsent⟩ := State.crossCheck_failed hc hb (by rw [s.carMoved_car hc]; exact hw)
  rw [s.carMoved_safe c] at hlatched hunsent
  rw [s.carMoved_count c] at hcount
  rw [State.carCompared, if_pos hcond]
  exact ⟨hfault, hcount, hlatched, hunsent⟩

/-! ### References and captures (R167, R168, R170) -/

/-- A capture FIFO with one more entry; when it is full the oldest gives way. -/
def CarSt.captured (x : CarSt) (e : DzCap) : CarSt :=
  if x.fifo.length < 16 then { x with fifo := x.fifo ++ [e] } else { x with fifo := x.fifo.drop 1 ++ [e], ovf := true }

section
variable (x : CarSt) (e : DzCap)

theorem CarSt.captured_room (h : x.fifo.length < 16) : x.captured e = { x with fifo := x.fifo ++ [e] } := if_pos h

@[simp] theorem CarSt.captured_refPos : (x.captured e).refPos = x.refPos := by unfold CarSt.captured; split <;> rfl
@[simp] theorem CarSt.captured_refKm : (x.captured e).refKm = x.refKm := by unfold CarSt.captured; split <;> rfl
@[simp] theorem CarSt.captured_refKg : (x.captured e).refKg = x.refKg := by unfold CarSt.captured; split <;> rfl
@[simp] theorem CarSt.captured_edgeAt : (x.captured e).edgeAt = x.edgeAt := by unfold CarSt.captured; split <;> rfl

theorem CarSt.captured_last : (x.captured e).fifo.getLast? = some e := by
  unfold CarSt.captured
  split <;> exact List.getLast?_concat

theorem CarSt.captured_length (h : x.fifo.length ≤ 16) : (x.captured e).fifo.length = min 16 (x.fifo.length + 1) := by
  unfold CarSt.captured
  split <;> simp only [List.length_append, List.length_drop, List.length_singleton] <;> omega

end

theorem State.capturePush_eq (s : State) (c : Nat) (e : DzCap) : s.capturePush c e = s.setCar c ((s.car c).captured e) := by
  unfold State.capturePush CarSt.captured
  exact (apply_ite (s.setCar c) _ _ _).symm

theorem State.rd_capturePush (s : State) (c : Nat) (e : DzCap) (a : Nat) : (s.capturePush c e).rd a = s.rd a := by
  rw [State.capturePush_eq, State.rd_setCar]

theorem State.points_capturePush (s : State) (c : Nat) (e : DzCap) : (s.capturePush c e).points = s.points := by
  rw [State.capturePush_eq, State.setCar_points]

theorem State.car_capturePush (s : State) {c : Nat} (e : DzCap) (hc : c < 8) : (s.capturePush c e).car c = (s.car c).captured e := by
  rw [State.capturePush_eq, State.car_setCar_same _ _ hc]

/-- What taking a reference leaves and shows. -/
structure State.Referenced (s : State) (c : Nat) (pos km kg : Word) (landing : Nat) (t : State) : Prop where
  car : t.car c = { s.car c with refPos := pos, refKm := km, refKg := kg, beyond := false }
  state : t.carState c = 1
  landing : t.fld (Reg.LIFT_CAR_STAT c) 9 2 = landing
  diff : t.rd (Reg.LIFT_CAR_DIFF c) = 0
  count : t.fld (Reg.LIFT_CAR_REF_CNT c) 15 0 = (s.fld (Reg.LIFT_CAR_REF_CNT c) 15 0 + 1) % 65536
  points : t.points = s.points

theorem State.carReference_takes (s : State) {c landing : Nat} (pos km kg : Word) (hc : c < 8) (hl : landing < 256) :
    s.Referenced c pos km kg landing (s.carReference c pos km kg landing) := by
  have hstat : Reg.LIFT_CAR_STAT c ≠ Reg.LIFT_CAR_DIFF c ∧ Reg.LIFT_CAR_STAT c ≠ Reg.LIFT_CAR_REF_CNT c := by
    simp only [Reg.LIFT_CAR_STAT, Reg.LIFT_CAR_DIFF, Reg.LIFT_CAR_REF_CNT]; omega
  have hcnt : Reg.LIFT_CAR_REF_CNT c ≠ Reg.LIFT_CAR_DIFF c ∧ Reg.LIFT_CAR_REF_CNT c ≠ Reg.LIFT_CAR_STAT c := by
    simp only [Reg.LIFT_CAR_STAT, Reg.LIFT_CAR_DIFF, Reg.LIFT_CAR_REF_CNT]; omega
  unfold State.carReference
  simp only []
  generalize hu : s.setCar c { s.car c with refPos := pos, refKm := km, refKg := kg, beyond := false } = u
  have hrd : ∀ a, u.rd a = s.rd a := fun a => by rw [← hu, State.rd_setCar]
  refine ⟨?car, ?state, ?landing, State.rd_wr_same _ _ _, ?count, ?points⟩
  case car =>
    rw [State.car_of_lift (State.wr_lift _ _ _), State.car_of_lift (State.setFld_lift _ _ _ _ _), State.car_of_lift (State.setFld_lift _ _ _ _ _),
      State.car_of_lift (State.setCarState_lift _ _ _ _), ← hu, State.car_setCar_same _ _ hc]
  case state =>
    rw [State.carState, State.fld_of_rd (State.rd_wr_ne _ _ hstat.1), State.fld_of_rd (State.rd_setFld_ne _ _ _ _ hstat.2),
      State.fld_setFld_apart _ _ _ _ _ _ _ (by omega) (by omega) (by omega)]
    exact u.carState_setCarState c 0 (by omega)
  case landing =>
    rw [State.fld_of_rd (State.rd_wr_ne _ _ hstat.1), State.fld_of_rd (State.rd_setFld_ne _ _ _ _ hstat.2),
      State.fld_setFld _ _ _ _ _ (by omega) (by omega)]
    exact Nat.mod_eq_of_lt hl
  case count =>
    rw [State.fld_of_rd (State.rd_wr_ne _ _ hcnt.1), State.fld_setFld _ _ _ _ _ (by omega) (by omega), State.fld_of_rd (State.rd_setFld_ne _ _ _ _ hcnt.2),
      State.fld_of_rd (State.rd_setCarState_ne _ _ _ hcnt.2), State.fld_of_rd (hrd _)]
    rfl
  case points =>
    rw [State.wr_points, State.setFld_points, State.setFld_points, State.setCarState_points, ← hu, State.setCar_points]

/-! ### Edges of the door-zone input (R167) -/

/-- An edge within a millisecond of the last one taken. -/
def State.dzEarly (s : State) (c : Nat) : Bool :=
  match (s.car c).edgeAt with
  | some t => decide (s.now < t + 250000)
  | none => false

/-- The edge of a landing's zone that an input edge is, by the car's direction. -/
def State.zoneEdge (s : State) (c : Nat) (rising : Bool) (l : Nat) : Int :=
  if rising == decide (0 < (s.car c).vel.toInt) then s.dzLo c l else s.dzHi c l

/-- The landings with that edge within the window of a position. -/
def State.zoneCandidates (s : State) (c : Nat) (rising : Bool) (p : Int) : List Nat :=
  (List.range 128).filter (fun l => s.landing c l && decide ((p - s.zoneEdge c rising l).natAbs ≤ s.fld (Reg.LIFT_CAR_XCHK c) 31 16))

/-- The time of an edge kept. -/
def State.edgeNoted (s : State) (c : Nat) : State := s.setCar c { s.car c with edgeAt := some s.now }

/-- The capture of a door-zone edge. -/
def zoneCapture (rising : Bool) (p : Int) (landing : Nat) : DzCap :=
  { falling := !rising, terminal := false, landing := BitVec.ofNat 8 landing, pos := wi p }

/-- An edge that gives a reference: the position and the counts of its landing's zone, and the correction it makes. -/
def State.zoneReferenced (s : State) (c : Nat) (rising : Bool) (km kg : Word) (p : Int) (l : Nat) : State :=
  (((s.edgeNoted c).carReference c (wi (s.zoneEdge c rising l)) km kg l).wr (Reg.LIFT_CAR_CORR c) (wi (s.zoneEdge c rising l - p))).capturePush c
    (zoneCapture rising p l)

/-- An edge that fits no landing alone: counted and captured. -/
def State.zoneMissed (s : State) (c : Nat) (rising : Bool) (p : Int) : State :=
  ((s.edgeNoted c).setFld (Reg.LIFT_CAR_REF_CNT c) 31 16 (s.fld (Reg.LIFT_CAR_REF_CNT c) 31 16 + 1)).capturePush c (zoneCapture rising p 0xFF)

/-- An edge at speed, by its candidates and by whether the car's state is VALID or UNCERTAIN. -/
def State.zoneEdgeTaken (s : State) (c : Nat) (rising : Bool) (km kg : Word) (p : Int) (cand : List Nat) (known : Bool) : State :=
  match cand, known with
  | [l], true =>
    if s.carState c = 1 ∧ s.fld (Reg.LIFT_CAR_XCHK c) 31 16 < 2 * (s.zoneEdge c rising l - p).natAbs
    then (s.zoneReferenced c rising km kg p l).record { sev := 3, source := 0x07, code := 167, args := [wd c, wi (s.zoneEdge c rising l - p), wd l] }
    else s.zoneReferenced c rising km kg p l
  | _, true => s.zoneMissed c rising p
  | _, false => (s.edgeNoted c).capturePush c (zoneCapture rising p 0xFF)

section
variable {s : State} {c : Nat} {rising : Bool} {km kg : Word}

theorem State.posOf_edgeNoted (hc : c < 8) : (s.edgeNoted c).posOf c km = s.posOf c km := by
  unfold State.posOf State.edgeNoted
  rw [State.car_setCar_same _ _ hc, State.rd_setCar]

theorem State.dzEdge_ignored (h : s.carOn c = false ∨ s.bit Reg.FIELD_STAT 8 = false ∨ s.dzEarly c = true) : s.dzEdge c rising km kg = s := by
  refine if_pos ?_
  simp only [Bool.or_eq_true, Bool.not_eq_true']
  exact or_assoc.2 h

theorem State.dzEdge_slow (hc : c < 8) (hon : s.carOn c = true) (hlink : s.bit Reg.FIELD_STAT 8 = true) (hearly : s.dzEarly c = false)
    (hslow : (s.car c).vel.toInt.natAbs < 16) :
    s.dzEdge c rising km kg = (s.edgeNoted c).capturePush c (zoneCapture rising (s.posOf c km).toInt 0xFF) := by
  have htaken : ¬((!s.carOn c || !s.bit Reg.FIELD_STAT 8 || s.dzEarly c) = true) := by rw [hon, hlink, hearly]; decide
  rw [← State.posOf_edgeNoted hc]
  exact (if_neg htaken).trans (if_pos hslow)

theorem State.dzEdge_fast (hc : c < 8) (hon : s.carOn c = true) (hlink : s.bit Reg.FIELD_STAT 8 = true) (hearly : s.dzEarly c = false)
    (hfast : 16 ≤ (s.car c).vel.toInt.natAbs) : s.dzEdge c rising km kg = s.zoneEdgeTaken c rising km kg (s.posOf c km).toInt
      (s.zoneCandidates c rising (s.posOf c km).toInt) (decide (s.carState c = 1 ∨ s.carState c = 2)) := by
  have htaken : ¬((!s.carOn c || !s.bit Reg.FIELD_STAT 8 || s.dzEarly c) = true) := by rw [hon, hlink, hearly]; decide
  rw [← State.posOf_edgeNoted hc]
  exact (if_neg htaken).trans (if_neg (Nat.not_lt.2 hfast))

/-- One candidate, to a car that is VALID or UNCERTAIN: the reference, and at most an event. -/
theorem State.zoneEdgeTaken_alone (s : State) (c : Nat) (rising : Bool) (km kg : Word) (p : Int) (l : Nat) :
    (s.zoneReferenced c rising km kg p l).UpToEvents (s.zoneEdgeTaken c rising km kg p [l] true) := by
  unfold State.zoneEdgeTaken
  simp only []
  split
  · exact State.record_upToEvents _ _
  · exact .refl _

/-- No candidate, or more than one. -/
theorem State.zoneEdgeTaken_missed (s : State) (c : Nat) (rising : Bool) (km kg : Word) (p : Int) {cand : List Nat} (h : cand.length ≠ 1) :
    s.zoneEdgeTaken c rising km kg p cand true = s.zoneMissed c rising p := by
  match cand with
  | [] => rfl
  | [_] => exact absurd rfl h
  | _ :: _ :: _ => rfl

theorem State.car_edgeNoted (s : State) (hc : c < 8) : (s.edgeNoted c).car c = { s.car c with edgeAt := some s.now } := s.car_setCar_same _ hc

/-- What an edge that gives a reference leaves and shows. -/
structure State.ZoneTaken (s : State) (c : Nat) (edge : Int) (km kg : Word) (p : Int) (l : Nat) (t : State) : Prop where
  state : t.carState c = 1
  landing : t.fld (Reg.LIFT_CAR_STAT c) 9 2 = l
  refPos : (t.car c).refPos = wi edge
  refKm : (t.car c).refKm = km
  refKg : (t.car c).refKg = kg
  corr : t.rd (Reg.LIFT_CAR_CORR c) = wi (edge - p)
  edgeAt : (t.car c).edgeAt = some s.now
  count : t.fld (Reg.LIFT_CAR_REF_CNT c) 15 0 = (s.fld (Reg.LIFT_CAR_REF_CNT c) 15 0 + 1) % 65536
  points : t.points = s.points

theorem State.ZoneTaken.upToEvents {edge p : Int} {l : Nat} {t u : State} (h : s.ZoneTaken c edge km kg p l t) (k : t.UpToEvents u) (hc : c < 8) :
    s.ZoneTaken c edge km kg p l u := by
  have hcar : u.car c = t.car c := State.car_of_lift k.lift c
  have hrd : ∀ a, 0x070100 ≤ a → a < 0x070900 → u.rd a = t.rd a := fun a hlo hhi => k.rd (by omega) (by omega)
  have hstat := hrd (Reg.LIFT_CAR_STAT c) (by simp only [Reg.LIFT_CAR_STAT]; omega) (by simp only [Reg.LIFT_CAR_STAT]; omega)
  have hcorr := hrd (Reg.LIFT_CAR_CORR c) (by simp only [Reg.LIFT_CAR_CORR]; omega) (by simp only [Reg.LIFT_CAR_CORR]; omega)
  have hcnt := hrd (Reg.LIFT_CAR_REF_CNT c) (by simp only [Reg.LIFT_CAR_REF_CNT]; omega) (by simp only [Reg.LIFT_CAR_REF_CNT]; omega)
  exact ⟨(State.fld_of_rd hstat 1 0).trans h.state, (State.fld_of_rd hstat 9 2).trans h.landing, by rw [hcar]; exact h.refPos, by rw [hcar]; exact h.refKm,
    by rw [hcar]; exact h.refKg, hcorr.trans h.corr, by rw [hcar]; exact h.edgeAt, (State.fld_of_rd hcnt 15 0).trans h.count, k.points.trans h.points⟩

theorem State.zoneReferenced_taken (s : State) (rising : Bool) (km kg : Word) (p : Int) {l : Nat} (hc : c < 8) (hl : l < 256) :
    s.ZoneTaken c (s.zoneEdge c rising l) km kg p l (s.zoneReferenced c rising km kg p l) := by
  have href := (s.edgeNoted c).carReference_takes (wi (s.zoneEdge c rising l)) km kg hc hl
  have hcar : (s.zoneReferenced c rising km kg p l).car c =
      (((s.edgeNoted c).carReference c (wi (s.zoneEdge c rising l)) km kg l).car c).captured (zoneCapture rising p l) := by
    rw [State.zoneReferenced, State.car_capturePush _ _ hc, State.car_of_lift (State.wr_lift _ _ _)]
  have hrd : ∀ a, a ≠ Reg.LIFT_CAR_CORR c → (s.zoneReferenced c rising km kg p l).rd a =
      ((s.edgeNoted c).carReference c (wi (s.zoneEdge c rising l)) km kg l).rd a := fun a ha => by
    rw [State.zoneReferenced, State.rd_capturePush, State.rd_wr_ne _ _ ha]
  have hstat : Reg.LIFT_CAR_STAT c ≠ Reg.LIFT_CAR_CORR c := by simp only [Reg.LIFT_CAR_STAT, Reg.LIFT_CAR_CORR]; omega
  have hcnt : Reg.LIFT_CAR_REF_CNT c ≠ Reg.LIFT_CAR_CORR c := by simp only [Reg.LIFT_CAR_REF_CNT, Reg.LIFT_CAR_CORR]; omega
  rw [href.car, s.car_edgeNoted hc] at hcar
  refine ⟨(State.fld_of_rd (hrd _ hstat) 1 0).trans href.state, (State.fld_of_rd (hrd _ hstat) 9 2).trans href.landing, by rw [hcar, CarSt.captured_refPos],
    by rw [hcar, CarSt.captured_refKm], by rw [hcar, CarSt.captured_refKg], ?corr, by rw [hcar, CarSt.captured_edgeAt],
    (State.fld_of_rd (hrd _ hcnt) 15 0).trans href.count, ?points⟩
  case corr => rw [State.zoneReferenced, State.rd_capturePush, State.rd_wr_same]
  case points => rw [State.zoneReferenced, State.points_capturePush, State.wr_points, href.points, State.edgeNoted, State.setCar_points]

/-- An edge that fits no landing alone leaves the state and the reference, and is counted. -/
theorem State.zoneMissed_keeps (s : State) (rising : Bool) (p : Int) (hc : c < 8) : let t := s.zoneMissed c rising p
    t.carState c = s.carState c ∧ (t.car c).refPos = (s.car c).refPos ∧ (t.car c).refKm = (s.car c).refKm ∧
      t.fld (Reg.LIFT_CAR_REF_CNT c) 31 16 = (s.fld (Reg.LIFT_CAR_REF_CNT c) 31 16 + 1) % 65536 ∧ t.points = s.points := by
  have hcar : (s.zoneMissed c rising p).car c = ((s.edgeNoted c).car c).captured (zoneCapture rising p 0xFF) := by
    rw [State.zoneMissed, State.car_capturePush _ _ hc, State.car_of_lift (State.setFld_lift _ _ _ _ _)]
  rw [s.car_edgeNoted hc] at hcar
  refine ⟨?state, by rw [hcar, CarSt.captured_refPos], by rw [hcar, CarSt.captured_refKm], ?count, ?points⟩
  case state =>
    refine State.fld_of_rd ?_ 1 0
    rw [State.zoneMissed, State.rd_capturePush, State.rd_setFld_ne _ _ _ _ (by simp only [Reg.LIFT_CAR_STAT, Reg.LIFT_CAR_REF_CNT]; omega),
      State.edgeNoted, State.rd_setCar]
  case count =>
    rw [State.zoneMissed, State.fld_of_rd (State.rd_capturePush _ _ _ _), State.fld_setFld _ _ _ _ _ (by omega) (by omega)]
    rfl
  case points => rw [State.zoneMissed, State.points_capturePush, State.setFld_points, State.edgeNoted, State.setCar_points]

end

/-! ### Edges of the terminal reference input (R168) -/

/-- The capture of a terminal edge. -/
def State.terminalCapture (s : State) (c : Nat) (active : Bool) (km : Word) : DzCap :=
  { falling := !active, terminal := true, landing := 0xFF, pos := s.posOf c km }

/-- The reference a terminal gives; a FAULT stays, with its cause. -/
def State.terminalReferenced (s : State) (c : Nat) (km kg : Word) : State :=
  let t := s.carReference c (s.rd (Reg.LIFT_CAR_TERM_POS c)) km kg 0xFF
  if s.carState c = 3 then t.setCarState c 3 (s.fld (Reg.LIFT_CAR_STAT c) 19 16) else t

section
variable {s : State} {c : Nat} {active : Bool} {km kg : Word}

theorem State.termEdge_off (h : (s.carOn c && s.bit Reg.FIELD_STAT 8 && s.bit (Reg.LIFT_CAR_CFG c) 24) = false) : s.termEdge c active km kg = s :=
  if_pos (by simpa only [Bool.and_eq_false_iff, Bool.or_eq_true, Bool.not_eq_true'] using h)

theorem State.termEdge_on (h : (s.carOn c && s.bit Reg.FIELD_STAT 8 && s.bit (Reg.LIFT_CAR_CFG c) 24) = true) : s.termEdge c active km kg =
    (if active = true ∧ (s.car c).vel.toInt < 0 then s.terminalReferenced c km kg else s).capturePush c (s.terminalCapture c active km) :=
  if_neg (by simpa only [Bool.and_eq_true, Bool.or_eq_true, Bool.not_eq_true', not_or, Bool.not_eq_false] using h)

/-- The reference of a terminal, to a car in any state. -/
theorem State.terminalReferenced_takes (s : State) (km kg : Word) (hc : c < 8) : let t := s.terminalReferenced c km kg
    t.carState c = (if s.carState c = 3 then 3 else 1) ∧ t.fld (Reg.LIFT_CAR_STAT c) 9 2 = 0xFF ∧ t.rd (Reg.LIFT_CAR_DIFF c) = 0 ∧
      t.car c = { s.car c with refPos := s.rd (Reg.LIFT_CAR_TERM_POS c), refKm := km, refKg := kg, beyond := false } ∧ t.points = s.points := by
  obtain ⟨hcar, hstate, hlanding, hdiff, -, hpoints⟩ := s.carReference_takes (s.rd (Reg.LIFT_CAR_TERM_POS c)) km kg hc (landing := 0xFF) (by omega)
  unfold State.terminalReferenced
  simp only []
  split
  · refine ⟨State.carState_setCarState _ _ _ (by omega), (State.landing_setCarState _ _ _ _).trans hlanding, ?_, ?_, ?_⟩
    · rw [State.rd_setCarState_ne _ _ _ (by simp only [Reg.LIFT_CAR_DIFF, Reg.LIFT_CAR_STAT]; omega), hdiff]
    · rw [State.car_of_lift (State.setCarState_lift _ _ _ _), hcar]
    · rw [State.setCarState_points, hpoints]
  · exact ⟨hstate, hlanding, hdiff, hcar, hpoints⟩

end

/-! ### CLEAR, FLUSH and the captures read (R166, R170) -/

/-- CLEAR's own writes of STAT. -/
def State.faultCleared (s : State) (c : Nat) : State := (s.setCarState c 0 0).setBit (Reg.LIFT_CAR_STAT c) 11 false

theorem State.carClear_kept {s : State} {c : Nat} (h : s.hasLift = false ∨ s.carState c ≠ 3) : s.carClear c = s :=
  if_neg fun ⟨hl, hs⟩ => h.elim (fun k => absurd (hl.symm.trans k) nofun) (fun k => k hs)

theorem State.faultCleared_onlyRegs (s : State) (c : Nat) : OnlyRegs s [Reg.LIFT_CAR_STAT c] (s.faultCleared c) :=
  ((s.setFld_onlyRegs _ _ _ _).trans (State.setFld_onlyRegs _ _ _ _ _)).trans (State.setBit_onlyRegs _ _ _ _)

theorem State.carClear_clears {s : State} {c : Nat} (hl : s.hasLift = true) (hs : s.carState c = 3) : s.carClear c =
    (s.faultCleared c).setCar c { s.car c with refPos := 0, refKm := 0, refKg := 0, beyond := false } := by
  have hcar : (s.faultCleared c).car c = s.car c := State.car_of_lift (by rw [State.faultCleared, State.setBit_lift, State.setCarState_lift]) c
  rw [← hcar]
  exact if_pos ⟨hl, hs⟩

theorem State.capPop_empty {s : State} {c : Nat} (h : (s.car c).fifo = []) : s.capPop c = s.setCar c { s.car c with ovf := false } := by
  unfold State.capPop
  simp only [h]

theorem State.capPop_oldest {s : State} {c : Nat} {e : DzCap} {rest : List DzCap} (h : (s.car c).fifo = e :: rest) : s.capPop c =
    (s.wr (Reg.LIFT_CAR_DZCAP_POS c) e.pos).setCar c { s.car c with fifo := rest, ovf := false } := by
  unfold State.capPop
  simp only [h]

/-- A read over the host path while the module has power (R321). -/
theorem State.hostRead_on {s : State} {m : Master} (h : (s.woken m).pwr.off = false) (v : State → Word) (eff : State → State) :
    s.hostRead m v eff = (if (s.woken m).owns m = true then eff (s.woken m) else s.woken m).emit [v (s.woken m)] := by
  cases m <;> exact if_neg (Bool.eq_false_iff.1 h)

/-! ### Errors of an encoder (R164) -/

/-- The error of an encoder counted, with its event at most once a second. -/
def State.qerrCounted (s : State) (e : Nat) : State :=
  let s := s.incSat (Reg.LIFT_ENC_QERR e) 15 0
  s.recordWindow e secCounts { sev := 5, source := 0x07, code := 164, args := [wd e, s.rd (Reg.LIFT_ENC_COUNT e)] }

/-- The states a door moves in under an encoder it must trust (R178). -/
def State.doorTravels (s : State) (d : Nat) : Bool := [2, 4, 5, 6].contains (s.doorState d)

/-- The reference of a door lost, and its movement with it, before the change is shown. -/
def State.doorUnreferenced (s : State) (d : Nat) : State :=
  let u := s.setBit (Reg.LIFT_DOOR_STAT d) 19 true
  if s.doorTravels d then u.doorEnter d 7 else u

section
variable {s : State} {e d : Nat}

theorem State.encQerr_ignored (h : s.hasLift = false ∨ s.bit Reg.FIELD_STAT 8 = false) : s.encQerr e = s :=
  if_pos (by simpa only [Bool.or_eq_true, Bool.not_eq_true'] using h)

theorem State.encQerr_counted (hl : s.hasLift = true) (hf : s.bit Reg.FIELD_STAT 8 = true) : s.encQerr e =
    if e % 4 < 2 then (if (s.qerrCounted e).carState (e / 4) = 1 then (s.qerrCounted e).setCarState (e / 4) 2 (1 + e % 4) else s.qerrCounted e)
    else (s.qerrCounted e).doorQerr (2 * (e / 4) + e % 4 - 2) :=
  if_neg (by rw [hl, hf]; decide)

theorem State.doorUnreferenced_loses (s : State) (hd : d < 16) : (s.doorUnreferenced d).refLost d = true ∧
    (s.doorUnreferenced d).doorState d = (if s.doorTravels d then 7 else s.doorState d) ∧ (s.doorUnreferenced d).points = s.points ∧
    ∀ a, Reg.LIFT_ENC_CFG 0 ≤ a → (s.doorUnreferenced d).rd a = s.rd a := by
  have hapart : ∀ a, Reg.LIFT_ENC_CFG 0 ≤ a → a ≠ Reg.LIFT_DOOR_STAT d ∧ Reg.LIFT_DOOR_DERIVED d 2 < a := fun a ha => by
    simp only [Reg.LIFT_ENC_CFG, Reg.LIFT_DOOR_STAT, Reg.LIFT_DOOR_DERIVED] at ha ⊢; omega
  have hrd : ∀ a, a ≠ Reg.LIFT_DOOR_STAT d → (s.setBit (Reg.LIFT_DOOR_STAT d) 19 true).rd a = s.rd a := fun a ha => s.rd_setBit_ne _ _ ha
  have hlost : (s.setBit (Reg.LIFT_DOOR_STAT d) 19 true).refLost d = true := s.bit_setBit_same _ _ _ (by omega)
  unfold State.doorUnreferenced
  simp only []
  split
  · have henter := (s.setBit (Reg.LIFT_DOOR_STAT d) 19 true).doorEnter_entered hd (st := 7) (by omega)
    exact ⟨henter.refLost.trans hlost, henter.state, henter.points.trans (s.setBit_points _ _ _),
      fun a ha => (henter.regs a (hapart a ha).1 (.inr (hapart a ha).2)).trans (hrd a (hapart a ha).1)⟩
  · exact ⟨hlost, State.fld_setBit_apart _ _ _ _ _ _ (by omega) (by omega), s.setBit_points _ _ _, fun a ha => hrd a (hapart a ha).1⟩

theorem State.doorQerr_eq (s : State) (hd : d < 16) : s.doorQerr d =
    if s.doorTravels d then (s.doorUnreferenced d).doorCommit d else s.doorUnreferenced d := by
  obtain ⟨-, hstate, -, -⟩ := s.doorUnreferenced_loses hd
  by_cases hmove : s.doorTravels d = true
  · have hne : (s.doorUnreferenced d).doorState d ≠ s.doorState d := by
      rw [hstate, if_pos hmove]
      intro h
      rw [State.doorTravels, ← h] at hmove
      exact absurd hmove (by decide)
    rw [if_pos hmove, ← State.doorNoted_changed hne, State.doorUnreferenced, if_pos hmove]
    exact if_pos hmove
  · rw [if_neg hmove, State.doorUnreferenced, if_neg hmove]
    exact if_neg hmove

theorem State.qerrCounted_upToEvents (s : State) : (s.incSat (Reg.LIFT_ENC_QERR e) 15 0).UpToEvents (s.qerrCounted e) :=
  State.recordWindow_upToEvents _ _ _ _

theorem State.qerrCounted_count (s : State) (he : e < 32) :
    (s.qerrCounted e).fld (Reg.LIFT_ENC_QERR e) 15 0 = min 65535 (s.fld (Reg.LIFT_ENC_QERR e) 15 0 + 1) := by
  have hrd := (s.qerrCounted_upToEvents (e := e)).rd (a := Reg.LIFT_ENC_QERR e) (by simp only [Reg.LIFT_ENC_QERR]; omega) (by simp only [Reg.LIFT_ENC_QERR]; omega)
  rw [State.fld_of_rd hrd, State.fld_incSat _ _ _ _ (by omega) (by omega)]
  rfl

theorem State.qerrCounted_rd (s : State) {a : Nat} (hlo : 0x070000 ≤ a) (hhi : a < Reg.LIFT_ENC_CFG 0) : (s.qerrCounted e).rd a = s.rd a := by
  have hne : a ≠ Reg.LIFT_ENC_QERR e := by simp only [Reg.LIFT_ENC_CFG, Reg.LIFT_ENC_QERR] at hhi ⊢; omega
  rw [s.qerrCounted_upToEvents.rd hlo (by simp only [Reg.LIFT_ENC_CFG] at hhi; omega), State.rd_incSat_ne _ _ _ hne]

theorem State.qerrCounted_points (s : State) : (s.qerrCounted e).points = s.points :=
  s.qerrCounted_upToEvents.points.trans (s.incSat_points _ _ _)

end

/-! ### The obligation -/

/-- Settles O28, part by part: the decoder, a position period with its comparison, errors, door-zone and terminal edges, and the commands. -/
theorem carPositions : Obligations.CarPositions := by
  refine ⟨fun s lines => ⟨fun h => if_neg (Bool.eq_false_iff.1 h), fun h => if_pos h⟩, EncSt.sample_spec, fun s e => ?feed, fun s c => ?period,
    fun s e => ?error, fun s car rising km kg => ?zone, fun s car active km kg => ?terminal, fun s m car => ?commands⟩
  case feed =>
    have heq : s.encFeed e.val [] = if s.bit Reg.FIELD_STAT 8 then s.wr (Reg.LIFT_ENC_COUNT e.val) (s.enc e.val).count else s := rfl
    rw [heq]
    exact ⟨fun h => by rw [if_pos h, State.rd_wr_same], fun h => if_neg (Bool.eq_false_iff.1 h)⟩
  case period =>
    refine ⟨State.carPeriod_off, fun hon => ?_⟩
    intro x pos gpos beyond
    obtain ⟨hpoints, ⟨b, hcar⟩, hregs⟩ := (s.carMoved c.val).carCompared_only c.isLt
    rw [s.carMoved_car c.isLt] at hcar
    have hbeyond : (s.carMoved c.val).carBeyond c.val = beyond := s.carMoved_beyond c.val
    have hkept : ∀ a, 0x070100 ≤ a → a < 0x070900 → a ≠ Reg.LIFT_CAR_STAT c.val → ((s.carMoved c.val).carCompared c.val).rd a = (s.carMoved c.val).rd a :=
      fun a hlo hhi hne => hregs a hne (by simp only [Reg.LIFT_XCHK_CNT]; omega) (recordsTo_lift (by omega) (by omega))
    refine ⟨_, State.carPeriod_on hon, ?pos, ?gpos, ?diff, by rw [hcar]; rfl, by rw [hcar]; rfl, by rw [hcar], hpoints.trans (s.carMoved_points _),
      fun hstate hlink hb hw => ?fails, fun hagree => ?agrees⟩
    case pos =>
      rw [hkept _ (by simp only [Reg.LIFT_CAR_POS]; omega) (by simp only [Reg.LIFT_CAR_POS]; omega)
        (by simp only [Reg.LIFT_CAR_POS, Reg.LIFT_CAR_STAT]; omega)]
      exact s.carMoved_pos c.val
    case gpos =>
      rw [hkept _ (by simp only [Reg.LIFT_CAR_GPOS]; omega) (by simp only [Reg.LIFT_CAR_GPOS]; omega)
        (by simp only [Reg.LIFT_CAR_GPOS, Reg.LIFT_CAR_STAT]; omega)]
      exact s.carMoved_gpos c.val
    case diff =>
      rw [hkept _ (by simp only [Reg.LIFT_CAR_DIFF]; omega) (by simp only [Reg.LIFT_CAR_DIFF]; omega)
        (by simp only [Reg.LIFT_CAR_DIFF, Reg.LIFT_CAR_STAT]; omega)]
      exact s.carMoved_diff c.val
    case fails =>
      obtain ⟨hfault, hcount, hlatched, hunsent⟩ := State.carMoved_fails c.isLt hstate hlink (hbeyond.trans hb) hw
      exact ⟨hfault, hcount, hlatched, hunsent⟩
    case agrees =>
      have hrd := State.carCompared_agrees (s := s.carMoved c.val) (c := c.val) (by rw [hbeyond, s.carMoved_car c.isLt]; exact hagree)
      exact ⟨State.fld_of_rd ((hrd _).trans (s.carMoved_stat c.val)) 1 0, (hrd _).trans (s.carMoved_count c.val)⟩
  case error =>
    refine ⟨fun h => congrArg Host.Outcome.next (State.encQerr_ignored h), fun hl hf => ?_⟩
    intro d moving
    have he := e.isLt
    have heq : exec (.encoderQerr e) s = .next _ := congrArg Host.Outcome.next (State.encQerr_counted hl hf)
    have hrd : ∀ a, 0x070000 ≤ a → a < Reg.LIFT_ENC_CFG 0 → (s.qerrCounted e.val).rd a = s.rd a := fun a => s.qerrCounted_rd
    have hcar : (s.qerrCounted e.val).carState (e.val / 4) = s.carState (e.val / 4) :=
      State.fld_of_rd (hrd _ (by simp only [Reg.LIFT_CAR_STAT]; omega) (by simp only [Reg.LIFT_CAR_STAT, Reg.LIFT_ENC_CFG]; omega)) 1 0
    have hcount := s.qerrCounted_count he
    rcases Nat.lt_or_ge (e.val % 4) 2 with hcarEnc | hdoorEnc
    case inl =>
      have hstill : moving = false := by simp only [moving, decide_eq_false (Nat.not_le.2 hcarEnc), Bool.false_and]
      have hstat : Reg.LIFT_ENC_QERR e.val ≠ Reg.LIFT_CAR_STAT (e.val / 4) := by simp only [Reg.LIFT_ENC_QERR, Reg.LIFT_CAR_STAT]; omega
      rw [if_pos hcarEnc] at heq
      refine ⟨_, heq, _, (if_neg (Bool.eq_false_iff.1 hstill)).symm, ?_⟩
      split
      case isTrue h1 =>
        refine ⟨(State.fld_of_rd (State.rd_setCarState_ne _ _ _ hstat) 15 0).trans hcount, (State.setCarState_points _ _ _ _).trans s.qerrCounted_points,
          fun _ _ => ⟨State.carState_setCarState _ _ _ (by omega), State.cause_setCarState _ _ _ (by omega)⟩,
          fun _ hne => absurd (hcar.symm.trans h1) hne, fun h => absurd hcarEnc (Nat.not_lt.2 h)⟩
      case isFalse h1 =>
        exact ⟨hcount, s.qerrCounted_points, fun _ h => absurd (hcar.trans h) h1, fun _ _ => hcar, fun h => absurd hcarEnc (Nat.not_lt.2 h)⟩
    case inr =>
      have hd : d < 16 := by omega
      have hstate : (s.qerrCounted e.val).doorState d = s.doorState d :=
        State.fld_of_rd (hrd _ (by simp only [Reg.LIFT_DOOR_STAT]; omega) (by simp only [Reg.LIFT_DOOR_STAT, Reg.LIFT_ENC_CFG]; omega)) 3 0
      have hmoves : (s.qerrCounted e.val).doorTravels d = moving := by
        simp only [State.doorTravels, hstate, moving, decide_eq_true hdoorEnc, Bool.true_and]
      obtain ⟨hlost, hshown, hpoints, hkept⟩ := (s.qerrCounted e.val).doorUnreferenced_loses hd
      rw [if_neg (Nat.not_lt.2 hdoorEnc), State.doorQerr_eq _ hd, hmoves] at heq
      rw [hmoves, hstate] at hshown
      exact ⟨_, heq, _, rfl, (State.fld_of_rd (hkept _ (by simp only [Reg.LIFT_ENC_CFG, Reg.LIFT_ENC_QERR]; omega)) 15 0).trans hcount,
        hpoints.trans s.qerrCounted_points, fun h => absurd h (Nat.not_lt.2 hdoorEnc), fun h => absurd h (Nat.not_lt.2 hdoorEnc), fun _ => ⟨hlost, hshown⟩⟩
  case zone =>
    intro c x early p lo edge cand
    have hc := car.isLt
    refine ⟨fun h => congrArg Host.Outcome.next (State.dzEdge_ignored h), fun hon hlink hearly hslow hroom => ?slow,
      fun l hon hlink hearly hfast hcand hst => ?alone, fun hon hlink hearly hfast hcand hst => ?missed⟩
    case slow =>
      refine congrArg Host.Outcome.next ((State.dzEdge_slow hc hon hlink hearly hslow).trans ?_)
      rw [State.capturePush_eq, s.car_edgeNoted hc]
      exact congrArg ((s.edgeNoted c).setCar c) (CarSt.captured_room _ _ hroom)
    case alone =>
      have hexec : exec (.doorZoneEdge car rising km kg) s = .next _ := congrArg Host.Outcome.next (State.dzEdge_fast hc hon hlink hearly hfast)
      have hmem : l ∈ (List.range 128) := List.mem_of_mem_filter (hcand ▸ List.mem_singleton_self l)
      have hl : l < 256 := by have := List.mem_range.1 hmem; omega
      have hone : s.zoneCandidates c rising (s.posOf c km).toInt = [l] := hcand
      rw [hone, decide_eq_true hst] at hexec
      obtain ⟨hstate, hlanding, hpos, hkm, hkg, hcorr, hat, hcount, hpoints⟩ :=
        (s.zoneReferenced_taken rising km kg p hc hl).upToEvents (s.zoneEdgeTaken_alone c rising km kg p l) hc
      exact ⟨_, hexec, hstate, hlanding, hpos, hkm, hkg, hcorr, hat, hcount, hpoints⟩
    case missed =>
      have hexec : exec (.doorZoneEdge car rising km kg) s = .next _ := congrArg Host.Outcome.next (State.dzEdge_fast hc hon hlink hearly hfast)
      have hnone : (s.zoneCandidates c rising (s.posOf c km).toInt).length ≠ 1 := hcand
      rw [decide_eq_true hst, State.zoneEdgeTaken_missed _ _ _ _ _ _ hnone] at hexec
      exact ⟨_, hexec, s.zoneMissed_keeps rising p hc⟩
  case terminal =>
    intro c x on takes
    have hc := car.isLt
    refine ⟨fun h => congrArg Host.Outcome.next (State.termEdge_off h), fun hon htakes => ?referenced, fun hon htakes => ?captured⟩
    all_goals have hexec : exec (.terminalEdge car active km kg) s = .next _ := congrArg Host.Outcome.next (State.termEdge_on hon)
    case referenced =>
      have hdown : active = true ∧ x.vel.toInt < 0 := by simpa only [takes, Bool.and_eq_true, decide_eq_true_eq] using htakes
      rw [if_pos hdown] at hexec
      obtain ⟨hstate, hlanding, hdiff, hcar, hpoints⟩ := s.terminalReferenced_takes km kg hc
      have hpushed := (s.terminalReferenced c km kg).car_capturePush (s.terminalCapture c active km) hc
      have hrd := (s.terminalReferenced c km kg).rd_capturePush c (s.terminalCapture c active km)
      refine ⟨_, hexec, (State.fld_of_rd (hrd _) 1 0).trans hstate, (State.fld_of_rd (hrd _) 9 2).trans hlanding, ?_, ?_, ?_, (hrd _).trans hdiff, ?_,
        (State.points_capturePush _ _ _).trans hpoints⟩
      · rw [hpushed, CarSt.captured_refPos, hcar]
      · rw [hpushed, CarSt.captured_refKm, hcar]
      · rw [hpushed, CarSt.captured_refKg, hcar]
      · rw [hpushed, CarSt.captured_last, State.terminalCapture, hdown.1]
        rfl
    case captured =>
      have hnot : ¬(active = true ∧ x.vel.toInt < 0) := by
        simpa only [takes, Bool.and_eq_false_iff, decide_eq_false_iff_not, not_and_or, Bool.not_eq_true] using htakes
      rw [if_neg hnot, State.capturePush_eq] at hexec
      exact ⟨_, hexec, _, rfl, CarSt.captured_refPos _ _, CarSt.captured_refKm _ _, CarSt.captured_refKg _ _, CarSt.captured_last _ _,
        fun h => CarSt.captured_length _ _ h⟩
  case commands =>
    intro u c x
    refine ⟨fun hobeys => ⟨fun h => ?kept, fun hl hst => ?clear, fun hl => ?unflushed, fun hl => ?flush⟩, fun hp hl => ?absent, fun hp hl hown => ?view,
      fun hp hl hown => ⟨fun hempty => ?empty, fun e rest hfifo => ?pop⟩⟩
    case kept => exact completes_asPrefect rfl hobeys (State.carClear_kept h)
    case clear =>
      have honly := State.setCar_onlyRegs_of u c { x with refPos := 0, refKm := 0, refKg := 0, beyond := false } (u.faultCleared_onlyRegs c)
      refine ⟨_, completes_asPrefect rfl hobeys (State.carClear_clears hl hst), honly, ?_, ?_⟩
      · rw [State.carState_setCar, State.carState, State.faultCleared, State.fld_setBit_apart _ _ _ _ _ _ (by omega) (by omega)]
        exact u.carState_setCarState c 0 (by omega)
      · rw [State.bit_setCar]
        exact State.bit_setBit_same _ _ _ _ (by omega)
    case unflushed => exact completes_asPrefect rfl hobeys (if_neg (Bool.eq_false_iff.1 hl))
    case flush => exact completes_asPrefect rfl hobeys (if_pos hl)
    all_goals have hexec : exec (.dzcapPop m car) s = .next _ := congrArg Host.Outcome.next (State.hostRead_on hp _ _)
    case absent =>
      have hno : ¬u.hasLift = true := Bool.eq_false_iff.1 hl
      rw [if_neg hno, if_neg hno, ite_self] at hexec
      exact hexec
    case view =>
      rw [if_neg (Bool.eq_false_iff.1 hown), if_pos hl] at hexec
      exact hexec
    case empty =>
      rw [if_pos hown, if_pos hl, if_pos hl, State.capPop_empty hempty] at hexec
      exact hexec
    case pop =>
      rw [if_pos hown, if_pos hl, if_pos hl, State.capPop_oldest hfifo] at hexec
      exact ⟨_, hexec, _, rfl, State.setCar_onlyRegs_of u c _ (u.wr_onlyRegs e.pos (List.mem_singleton_self _)), by rw [State.rd_setCar, State.rd_wr_same]⟩

end Sys2Proof.Machine
end

section
/-! The door sequencers (R172 to R180; O29): taking charge, commands, the ends of a movement, stalls, homing and learning. -/

namespace Sys2Proof.Machine

/-! ### What a request to an operator and the clock leave -/

/-- `t` is `s` with other registers and another state of the loop engine. -/
def State.OperatorsOnly (s t : State) : Prop := ∃ r l, t = { s with regs := r, loop := l }

theorem State.OperatorsOnly.refl (s : State) : s.OperatorsOnly s := ⟨_, _, rfl⟩

theorem State.OperatorsOnly.trans {s t u : State} (h : s.OperatorsOnly t) (k : t.OperatorsOnly u) : s.OperatorsOnly u := by
  obtain ⟨r, l, rfl⟩ := h
  obtain ⟨r', l', rfl⟩ := k
  exact ⟨_, _, rfl⟩

theorem State.stageReleased_operatorsOnly (s : State) (st : Nat) : s.OperatorsOnly (s.stageReleased st) := by
  unfold State.stageReleased
  split
  · exact ⟨_, _, rfl⟩
  · exact .refl s

theorem State.setOpMode_operatorsOnly (s : State) (d m : Nat) : s.OperatorsOnly (s.setOpMode d m) := by
  unfold State.setOpMode
  simp only []
  split <;> exact ⟨_, _, rfl⟩

theorem State.opReq_off_operatorsOnly (s : State) (d : Nat) : s.OperatorsOnly (s.opReq d 0) := by
  have hfld : s.OperatorsOnly (s.setFld (Reg.LOOP_STG_MODE (3 * d)) 2 0 0) := ⟨_, _, rfl⟩
  have hasked : s.OperatorsOnly (s.opAsked d 0) := hfld.trans (State.setOpMode_operatorsOnly _ d 0)
  have hreleased : s.OperatorsOnly (s.opReleased d 0) := ((hasked.trans (State.stageReleased_operatorsOnly _ _)).trans
    (State.stageReleased_operatorsOnly _ _)).trans (State.stageReleased_operatorsOnly _ _)
  rw [State.opReq_taken (Nat.zero_le 3) (.inr rfl)]
  exact hreleased.trans ⟨_, _, rfl⟩

/-- The state at another count of the time base. -/
def State.atCount (s : State) (k : BitVec 64) : State := { s with cnt := k }

theorem State.advanceTo_atCount (s : State) {t : Nat} (h : t < 2 ^ 64) : ∃ k, s.advanceTo t = s.atCount k ∧ (s.atCount k).now = max s.now t := by
  obtain ⟨k, hk⟩ := s.advanceTo_frame t
  have hnow := s.now_advanceTo h
  rw [hk] at hnow
  exact ⟨k, hk, hnow⟩

@[simp] theorem State.doorState_atCount (s : State) (k : BitVec 64) (d : Nat) : (s.atCount k).doorState d = s.doorState d := rfl

/-! ### A learning run ended (R179) -/

theorem State.learnEnd_upToEvents (s : State) (d r : Nat) : (s.setFld (Reg.LIFT_DOOR_STAT d) 18 16 r).UpToEvents (s.learnEnd d r) :=
  State.record_upToEvents _ _

/-- What the end of a learning run and the state entered with it leave and show. -/
structure State.LearnEnded (d st r : Nat) (s t : State) : Prop where
  state : t.doorState d = st
  result : t.fld (Reg.LIFT_DOOR_STAT d) 18 16 = r
  since : (t.door d).since = s.now
  seq : (t.door d).seq = (s.door d).seq
  points : t.points = s.points
  cnt : t.cnt = s.cnt
  refLost : t.refLost d = s.refLost d
  learned : t.learned d = s.learned d
  regs : ∀ a, 0x070000 ≤ a → a < 0x080000 → a ≠ Reg.LIFT_DOOR_STAT d → (a < Reg.LIFT_DOOR_DERIVED d 0 ∨ Reg.LIFT_DOOR_DERIVED d 2 < a) →
    t.rd a = s.rd a

theorem State.learnEnd_entered (s : State) {d st r : Nat} (hd : d < 16) (hst : st < 16) (hr : r < 8) :
    s.LearnEnded d st r ((s.learnEnd d r).doorEnter d st) := by
  have hend := s.learnEnd_upToEvents d r
  have henter := (s.learnEnd d r).doorEnter_entered hd hst
  have hstat := hend.rd (a := Reg.LIFT_DOOR_STAT d) (by simp only [Reg.LIFT_DOOR_STAT]; omega) (by simp only [Reg.LIFT_DOOR_STAT]; omega)
  have hdoor : (s.learnEnd d r).door d = s.door d := State.door_of_lift (hend.lift.trans (s.setFld_lift _ _ _ _)) d
  have hcnt : (s.learnEnd d r).cnt = s.cnt := hend.cnt.trans (s.setFld_cnt _ _ _ _)
  refine ⟨henter.state, ?result, henter.since.trans (congrArg BitVec.toNat hcnt), henter.seq.trans (by rw [hdoor]),
    henter.points.trans (hend.points.trans (s.setFld_points _ _ _ _)), henter.cnt.trans hcnt, ?refLost, ?learned, fun a hlo hhi ha hapart => ?regs⟩
  case result =>
    rw [henter.flag (by omega), State.fld_of_rd hstat, State.fld_setFld _ _ _ _ _ (by omega) (by omega)]
    exact Nat.mod_eq_of_lt hr
  case refLost =>
    rw [henter.refLost, State.refLost, State.bit_of_rd hstat, State.bit_setFld_apart _ _ _ _ _ _ (by omega) (by omega) (by omega)]
    rfl
  case learned =>
    rw [henter.learned, State.learned, State.bit_of_rd hstat, State.bit_setFld_apart _ _ _ _ _ _ (by omega) (by omega) (by omega)]
    rfl
  case regs => rw [henter.regs a ha hapart, hend.rd hlo hhi, State.rd_setFld_ne _ _ _ _ ha]

theorem State.learnFail_ended (s : State) {d r : Nat} (hd : d < 16) (hr : r < 8) : s.LearnEnded d 7 r (s.learnFail d r) :=
  s.learnEnd_entered hd (by omega) hr

/-- The learned mass is out of the reach of the end of a run. -/
theorem State.LearnEnded.mass {s t : State} {d st r : Nat} (h : s.LearnEnded d st r t) (hd : d < 16) :
    t.rd (Reg.LIFT_DOOR_LEARN d 0) = s.rd (Reg.LIFT_DOOR_LEARN d 0) :=
  h.regs _ (by simp only [Reg.LIFT_DOOR_LEARN]; omega) (by simp only [Reg.LIFT_DOOR_LEARN]; omega)
    (by simp only [Reg.LIFT_DOOR_LEARN, Reg.LIFT_DOOR_STAT]; omega) (.inl (by simp only [Reg.LIFT_DOOR_LEARN, Reg.LIFT_DOOR_DERIVED]; omega))

theorem State.LearnEnded.now {s t : State} {d st r : Nat} (h : s.LearnEnded d st r t) : t.now = s.now := congrArg BitVec.toNat h.cnt

/-- What a run has learned written, before its limits are derived. -/
def State.learnStored (s : State) (d : Nat) : State :=
  let x := s.door d
  let s := (s.wr (Reg.LIFT_DOOR_LEARN d 0) x.mass).wr (Reg.LIFT_DOOR_LEARN d 1) x.friction
  let s := (s.wr (Reg.LIFT_DOOR_LEARN d 2) (Num.int x.stroke.toInt).bfWord).wr (Reg.LIFT_DOOR_OPEN_POS d) (wi (divRne (x.stroke.toInt * 98) 100))
  (s.setBit (Reg.LIFT_DOOR_STAT d) 6 true).setBit (Reg.LIFT_DOOR_STAT d) 19 false

theorem State.learnOk_eq (s : State) (d : Nat) : s.learnOk d = (((s.learnStored d).doorDerive d).learnEnd d 1).doorEnter d 1 := rfl

section
variable (s : State) (d : Nat)

theorem State.learnStored_rd {a : Nat} (ha : a ≠ Reg.LIFT_DOOR_STAT d) : (s.learnStored d).rd a =
    if a = Reg.LIFT_DOOR_OPEN_POS d then wi (divRne ((s.door d).stroke.toInt * 98) 100)
    else if a = Reg.LIFT_DOOR_LEARN d 2 then (Num.int (s.door d).stroke.toInt).bfWord
    else if a = Reg.LIFT_DOOR_LEARN d 1 then (s.door d).friction else if a = Reg.LIFT_DOOR_LEARN d 0 then (s.door d).mass else s.rd a := by
  unfold State.learnStored
  simp only []
  rw [State.rd_setBit_ne _ _ _ ha, State.rd_setBit_ne _ _ _ ha, State.rd_wr, State.rd_wr, State.rd_wr, State.rd_wr]

theorem State.learnStored_learned : (s.learnStored d).learned d = true := by
  unfold State.learnStored
  simp only []
  rw [State.learned, State.bit_setBit _ _ _ _ _ (by omega), if_neg (by omega), State.bit_setBit_same _ _ _ _ (by omega)]

theorem State.learnStored_refLost : (s.learnStored d).refLost d = false := by
  unfold State.learnStored
  exact State.bit_setBit_same _ _ _ _ (by omega)

theorem State.learnStored_points : (s.learnStored d).points = s.points := by
  unfold State.learnStored
  simp only []
  rw [State.setBit_points, State.setBit_points, State.wr_points, State.wr_points, State.wr_points, State.wr_points]

theorem State.learnStored_cnt : (s.learnStored d).cnt = s.cnt := by
  unfold State.learnStored
  simp only []
  rw [State.setBit_cnt, State.setBit_cnt, State.wr_cnt, State.wr_cnt, State.wr_cnt, State.wr_cnt]

end

/-- What a run that succeeds shows. -/
structure State.LearnSucceeded (d : Nat) (s t : State) : Prop where
  state : t.doorState d = 1
  result : t.fld (Reg.LIFT_DOOR_STAT d) 18 16 = 1
  learned : t.learned d = true
  refLost : t.refLost d = false
  mass : t.rd (Reg.LIFT_DOOR_LEARN d 0) = (s.door d).mass
  friction : t.rd (Reg.LIFT_DOOR_LEARN d 1) = (s.door d).friction
  openPos : t.rd (Reg.LIFT_DOOR_OPEN_POS d) = wi (divRne ((s.door d).stroke.toInt * 98) 100)
  points : t.points = s.points
  cnt : t.cnt = s.cnt

theorem State.learnOk_succeeds (s : State) {d : Nat} (hd : d < 16) : s.LearnSucceeded d (s.learnOk d) := by
  have hderive := (s.learnStored d).doorDerive_paramsOnly d
  have hend := ((s.learnStored d).doorDerive d).learnEnd_entered hd (st := 1) (r := 1) (by omega) (by omega)
  rw [← s.learnOk_eq] at hend
  have hrd : ∀ a, 0x070000 ≤ a → a < 0x080000 → a ≠ Reg.LIFT_DOOR_STAT d → a < Reg.LIFT_DOOR_DERIVED d 0 → (s.learnOk d).rd a = (s.learnStored d).rd a :=
    fun a hlo hhi ha hapart => (hend.regs a hlo hhi ha (.inl hapart)).trans (hderive.regs a ha (.inl hapart))
  refine ⟨hend.state, hend.result, ?learned, ?refLost, ?mass, ?friction, ?openPos, hend.points.trans (hderive.points.trans (s.learnStored_points d)),
    hend.cnt.trans (hderive.cnt.trans (s.learnStored_cnt d))⟩
  case learned => exact hend.learned.trans ((hderive.stat 6 (by omega) (by omega)).trans (s.learnStored_learned d))
  case refLost => exact hend.refLost.trans ((hderive.stat 19 (by omega) (by omega)).trans (s.learnStored_refLost d))
  case mass =>
    have hne : Reg.LIFT_DOOR_LEARN d 0 ≠ Reg.LIFT_DOOR_STAT d := by simp only [Reg.LIFT_DOOR_LEARN, Reg.LIFT_DOOR_STAT]; omega
    rw [hrd _ (by simp only [Reg.LIFT_DOOR_LEARN]; omega) (by simp only [Reg.LIFT_DOOR_LEARN]; omega) hne
      (by simp only [Reg.LIFT_DOOR_LEARN, Reg.LIFT_DOOR_DERIVED]; omega), s.learnStored_rd d hne,
      if_neg (by simp only [Reg.LIFT_DOOR_LEARN, Reg.LIFT_DOOR_OPEN_POS]; omega), if_neg (by simp only [Reg.LIFT_DOOR_LEARN]; omega),
      if_neg (by simp only [Reg.LIFT_DOOR_LEARN]; omega), if_pos rfl]
  case friction =>
    have hne : Reg.LIFT_DOOR_LEARN d 1 ≠ Reg.LIFT_DOOR_STAT d := by simp only [Reg.LIFT_DOOR_LEARN, Reg.LIFT_DOOR_STAT]; omega
    rw [hrd _ (by simp only [Reg.LIFT_DOOR_LEARN]; omega) (by simp only [Reg.LIFT_DOOR_LEARN]; omega) hne
      (by simp only [Reg.LIFT_DOOR_LEARN, Reg.LIFT_DOOR_DERIVED]; omega), s.learnStored_rd d hne,
      if_neg (by simp only [Reg.LIFT_DOOR_LEARN, Reg.LIFT_DOOR_OPEN_POS]; omega), if_neg (by simp only [Reg.LIFT_DOOR_LEARN]; omega), if_pos rfl]
  case openPos =>
    have hne : Reg.LIFT_DOOR_OPEN_POS d ≠ Reg.LIFT_DOOR_STAT d := by simp only [Reg.LIFT_DOOR_OPEN_POS, Reg.LIFT_DOOR_STAT]; omega
    rw [hrd _ (by simp only [Reg.LIFT_DOOR_OPEN_POS]; omega) (by simp only [Reg.LIFT_DOOR_OPEN_POS]; omega) hne
      (by simp only [Reg.LIFT_DOOR_OPEN_POS, Reg.LIFT_DOOR_DERIVED]; omega), s.learnStored_rd d hne, if_pos rfl]

/-! ### The reference set at the closed stop (R173, R174) -/

section
variable (s : State) (d : Nat)

theorem State.doorRef_ref : (s.doorRef d).rd (Reg.LIFT_DOOR_REF d) = s.opPos d := by
  rw [State.doorRef, State.rd_setBit_ne _ _ _ (by simp only [Reg.LIFT_DOOR_REF, Reg.LIFT_DOOR_STAT]; omega), State.rd_wr_same]

theorem State.doorRef_refLost : (s.doorRef d).refLost d = false := State.bit_setBit_same _ _ _ _ (by omega)

theorem State.doorRef_doorState : (s.doorRef d).doorState d = s.doorState d := by
  rw [State.doorState, State.doorRef, State.fld_setBit_apart _ _ _ _ _ _ (by omega) (by omega)]
  exact State.fld_of_rd (State.rd_wr_ne _ _ (by simp only [Reg.LIFT_DOOR_REF, Reg.LIFT_DOOR_STAT]; omega)) 3 0

theorem State.doorRef_lift : (s.doorRef d).lift = s.lift := by rw [State.doorRef, State.setBit_lift, State.wr_lift]

theorem State.doorRef_points : (s.doorRef d).points = s.points := by rw [State.doorRef, State.setBit_points, State.wr_points]

theorem State.doorRef_cnt : (s.doorRef d).cnt = s.cnt := by rw [State.doorRef, State.setBit_cnt, State.wr_cnt]

end

/-- The panel at the closed stop, homing: CLOSED with the reference set. -/
theorem State.homed (s : State) {d : Nat} (hd : d < 16) : let t := (s.doorRef d).doorEnter d 1
    t.doorState d = 1 ∧ t.rd (Reg.LIFT_DOOR_REF d) = s.opPos d ∧ t.refLost d = false ∧ t.points = s.points ∧ t.now = s.now := by
  have henter := (s.doorRef d).doorEnter_entered hd (st := 1) (by omega)
  refine ⟨henter.state, ?_, henter.refLost.trans (s.doorRef_refLost d), henter.points.trans (s.doorRef_points d),
    henter.now.trans (congrArg BitVec.toNat (s.doorRef_cnt d))⟩
  rw [henter.regs _ (by simp only [Reg.LIFT_DOOR_REF, Reg.LIFT_DOOR_STAT]; omega) (.inl (by simp only [Reg.LIFT_DOOR_REF, Reg.LIFT_DOOR_DERIVED]; omega)),
    s.doorRef_ref]

/-! ### Taking charge (R172) -/

theorem State.doorPeriod_idle {s : State} {d : Nat} (h : s.hasLift = false ∨ s.bit (Reg.LIFT_DOOR_CFG d) 0 = false) : s.doorPeriod d = s :=
  if_pos (by simpa only [Bool.or_eq_true, Bool.not_eq_true'] using h)

theorem State.doorPeriod_takes {s : State} {d : Nat} (hl : s.hasLift = true) (hcfg : s.bit (Reg.LIFT_DOOR_CFG d) 0 = true)
    (hen : s.bit Reg.LIFT_CTRL 0 = true) (hready : s.doorReady d = true) (hstate : s.doorState d = 0) :
    s.doorPeriod d = ((s.doorTake d).doorDrive d).doorCommit d := by
  unfold State.doorPeriod
  simp only [hl, hcfg, hen, hready, hstate, Bool.not_true, Bool.or_false, Bool.false_eq_true, if_false, if_true]

/-- The sequencer's own record as it takes charge: the SEQ that stands is an old one, the items are the operator's. -/
def State.doorOwned (s : State) (d : Nat) : DoorSt :=
  let i : PointIdx := BitVec.ofNat 14 (s.fld (Reg.LIFT_DOOR_PTS d) 13 0)
  let o := s.oper d
  { s.door d with seq := s.pointWord i 6, fePrev := s.doorFe d, iqCmd := (o.par 0 7).bfWord, vCmd := (o.par 1 3).bfWord, vMax := (o.par 2 2).bfWord, target := s.rd (Reg.LOOP_STG_TARGET (3 * d + 2)) }

theorem State.doorTake_eq (s : State) (d : Nat) :
    s.doorTake d = ((s.setDoor d (s.doorOwned d)).setBit (Reg.LIFT_DOOR_STAT d) 19 true).doorEnter d 7 := rfl

/-- Charge taken: STOPPED with REF_LOST. -/
theorem State.doorTake_taken (s : State) {d : Nat} (hd : d < 16) : let t := s.doorTake d
    t.doorState d = 7 ∧ t.refLost d = true ∧ (t.door d).seq = s.pointWord (BitVec.ofNat 14 (s.fld (Reg.LIFT_DOOR_PTS d) 13 0)) 6 := by
  have henter := ((s.setDoor d (s.doorOwned d)).setBit (Reg.LIFT_DOOR_STAT d) 19 true).doorEnter_entered hd (st := 7) (by omega)
  rw [s.doorTake_eq]
  refine ⟨henter.state, henter.refLost.trans (State.bit_setBit_same _ _ _ _ (by omega)), ?_⟩
  rw [henter.seq, State.door_of_lift (State.setBit_lift _ _ _ _), s.door_setDoor_same _ hd, State.doorOwned]

/-! ### Commands (R173, R174) -/

/-- The SEQ of a command kept. -/
def State.seqTaken (s : State) (d : Nat) (seq : Word) : State := s.setDoor d { s.door d with seq := seq }

/-- An accepted command changes the state, to one that STAT can show. -/
theorem doorNext_changes {cmd st nx : Nat} {refLost learned : Bool} (h : doorNext cmd st refLost learned = some nx) : nx ≠ st ∧ nx < 16 := by
  unfold doorNext at h
  split at h
  case h_7 => cases h
  all_goals
    obtain ⟨hfrom, hto⟩ := Option.ite_none_right_eq_some.1 h
    obtain rfl := Option.some.inj hto
    simp only [movingState, Bool.and_eq_true, List.contains_iff_mem, List.mem_cons, List.not_mem_nil, or_false] at hfrom
    omega

/-- The point of a door's commands. -/
def State.cmdPoint (s : State) (d : Nat) : PointIdx := BitVec.ofNat 14 (s.fld (Reg.LIFT_DOOR_PTS d) 13 0)

section
variable {s : State} {d : Nat}

theorem State.doorCommand_old (h : s.doorState d = 0 ∨ s.pointWord (s.cmdPoint d) 6 = (s.door d).seq) : s.doorCommand d = s := if_pos h

/-- A new SEQ with a sequencer in charge, by its command and by what the state makes of it. -/
theorem State.doorCommand_new (hst : s.doorState d ≠ 0) (hseq : s.pointWord (s.cmdPoint d) 6 ≠ (s.door d).seq) : s.doorCommand d =
    let t := s.seqTaken d (s.pointWord (s.cmdPoint d) 6)
    if bits (s.pointWord (s.cmdPoint d) 0) 3 0 = 0 then t
    else match doorNext (bits (s.pointWord (s.cmdPoint d) 0) 3 0) (s.doorState d) (s.refLost d) (s.learned d) with
      | some nx => if s.doorState d = 8 then t.learnFail d 5 else if s.doorState d = 10 then (t.opReq d 0).doorEnter d nx else t.doorEnter d nx
      | none => t.setBit (Reg.LIFT_DOOR_STAT d) 5 true :=
  if_neg (not_or.2 ⟨hst, hseq⟩)

section
variable (hst : s.doorState d ≠ 0) (hseq : s.pointWord (s.cmdPoint d) 6 ≠ (s.door d).seq)
include hst hseq

theorem State.doorCommand_none (hcmd : bits (s.pointWord (s.cmdPoint d) 0) 3 0 = 0) :
    s.doorCommand d = s.seqTaken d (s.pointWord (s.cmdPoint d) 6) := by
  rw [State.doorCommand_new hst hseq]
  exact if_pos hcmd

theorem State.doorCommand_ignored (hcmd : bits (s.pointWord (s.cmdPoint d) 0) 3 0 ≠ 0)
    (hnext : doorNext (bits (s.pointWord (s.cmdPoint d) 0) 3 0) (s.doorState d) (s.refLost d) (s.learned d) = none) :
    s.doorCommand d = (s.seqTaken d (s.pointWord (s.cmdPoint d) 6)).setBit (Reg.LIFT_DOOR_STAT d) 5 true := by
  rw [State.doorCommand_new hst hseq]
  simp only [hcmd, hnext, if_false]

theorem State.doorCommand_accepted {nx : Nat} (hcmd : bits (s.pointWord (s.cmdPoint d) 0) 3 0 ≠ 0)
    (hnext : doorNext (bits (s.pointWord (s.cmdPoint d) 0) 3 0) (s.doorState d) (s.refLost d) (s.learned d) = some nx) :
    s.doorCommand d = let t := s.seqTaken d (s.pointWord (s.cmdPoint d) 6)
      if s.doorState d = 8 then t.learnFail d 5 else if s.doorState d = 10 then (t.opReq d 0).doorEnter d nx else t.doorEnter d nx := by
  rw [State.doorCommand_new hst hseq]
  simp only [hcmd, hnext, if_false]

end

end

/-- What an accepted command leaves and shows. -/
structure State.CommandTaken (s : State) (d : Nat) (seq : Word) (nx : Nat) (t : State) : Prop where
  seq : (t.door d).seq = seq
  state : t.doorState d = (if s.doorState d = 8 then 7 else nx)
  result : s.doorState d = 8 → t.fld (Reg.LIFT_DOOR_STAT d) 18 16 = 5
  since : (t.door d).since = s.now
  points : t.points = s.points

theorem State.seqTaken_commandTaken (s : State) {d nx : Nat} (seq : Word) (hd : d < 16) (hnx : nx < 16) :
    let t := s.seqTaken d seq
    s.CommandTaken d seq nx
      (if s.doorState d = 8 then t.learnFail d 5 else if s.doorState d = 10 then (t.opReq d 0).doorEnter d nx else t.doorEnter d nx) := by
  have hdoor : ((s.seqTaken d seq).door d).seq = seq := by rw [State.seqTaken, s.door_setDoor_same _ hd]
  split
  case isTrue h8 =>
    have hfail := (s.seqTaken d seq).learnFail_ended hd (r := 5) (by omega)
    exact ⟨hfail.seq.trans hdoor, hfail.state.trans (if_pos h8).symm, fun _ => hfail.result, hfail.since, hfail.points⟩
  case isFalse h8 =>
    split
    case isTrue =>
      have henter := ((s.seqTaken d seq).opReq d 0).doorEnter_entered hd hnx
      obtain ⟨r, l, hreq⟩ := (s.seqTaken d seq).opReq_off_operatorsOnly d
      refine ⟨henter.seq.trans ?_, henter.state.trans (if_neg h8).symm, fun h => absurd h h8, henter.since.trans ?_, henter.points.trans ?_⟩
      · rw [hreq]; exact hdoor
      · rw [hreq]; rfl
      · rw [hreq]; rfl
    case isFalse =>
      have henter := (s.seqTaken d seq).doorEnter_entered hd hnx
      exact ⟨henter.seq.trans hdoor, henter.state.trans (if_neg h8).symm, fun h => absurd h h8, henter.since, henter.points⟩

/-! ### The ends of a movement (R175) -/

section
variable {s : State} {d t : Nat}

theorem State.closedReached_idle (h : s.closedNow d = false ∨ (s.door d).closedAt = none) : s.closedReached d = s := by
  unfold State.closedReached
  split
  case h_1 hat hnow => exact (h.elim (fun k => absurd (hnow.symm.trans k) nofun) (fun k => absurd (hat.symm.trans k) nofun))
  case h_2 => rfl

theorem State.closedReached_enters (hat : (s.door d).closedAt = some t) (h : s.closedNow d = true) :
    s.closedReached d = s.doorNoted ((s.advanceTo (t + 12500000)).doorEnter d 1) d := by
  unfold State.closedReached
  simp only [hat, h, msCounts, Nat.reduceMul]

theorem State.openReached_idle (h : s.openNow d = false ∨ (s.door d).openAt = none) : s.openReached d = s := by
  unfold State.openReached
  split
  case h_1 hat hnow => exact (h.elim (fun k => absurd (hnow.symm.trans k) nofun) (fun k => absurd (hat.symm.trans k) nofun))
  case h_2 => rfl

theorem State.openReached_enters (hat : (s.door d).openAt = some t) (h : s.openNow d = true) :
    s.openReached d = s.doorNoted ((s.advanceTo (t + 12500000)).doorEnter d 3) d := by
  unfold State.openReached
  simp only [hat, h, msCounts, Nat.reduceMul]

theorem State.closedNow_iff (s : State) (d : Nat) : s.closedNow d = true ↔
    (s.doorState d = 4 ∨ s.doorState d = 6) ∧ s.doorLive d = true ∧ s.doorAt d 0 = true := by
  simp only [State.closedNow, Bool.and_eq_true, Bool.or_eq_true, beq_iff_eq, and_assoc]

theorem State.openNow_iff (s : State) (d : Nat) : s.openNow d = true ↔
    (s.doorState d = 2 ∨ s.doorState d = 5) ∧ s.doorLive d = true ∧ s.doorAt d (s.openPos d) = true := by
  simp only [State.openNow, Bool.and_eq_true, Bool.or_eq_true, beq_iff_eq, and_assoc]

/-! ### Stalls (R174, R175, R179) -/

theorem State.doorStall_idle (h : s.stalled d = false ∨ (s.door d).stallAt = none) : s.doorStall d = s := by
  unfold State.doorStall
  split
  case h_1 hat hnow => exact (h.elim (fun k => absurd (hnow.symm.trans k) nofun) (fun k => absurd (hat.symm.trans k) nofun))
  case h_2 => rfl

theorem State.doorStall_acts (hat : (s.door d).stallAt = some t) (h : s.stalled d = true) :
    s.doorStall d = s.doorNoted ((s.advanceTo (t + 25000000)).stallEffect d) d := by
  unfold State.doorStall
  simp only [hat, h, msCounts, Nat.reduceMul]

theorem State.stallEffect_none (h8 : s.doorState d ≠ 8) (h9 : s.doorState d ≠ 9) : s.stallEffect d = s := by
  rw [State.stallEffect, if_neg h9, if_neg h8]

theorem State.stallEffect_homing (h : s.doorState d = 9) : s.stallEffect d = (s.doorRef d).doorEnter d 1 := if_pos h

section
variable (h8 : s.doorState d = 8)
include h8

/-- A stall while LEARNING, by the phase of the run. -/
theorem State.stallEffect_learning : s.stallEffect d =
    match (s.door d).phase with
    | 1 => (s.doorRef d).learnPhase d id
    | 2 => if (Num.int (s.doorPos d)).lt (((s.door d).par 4).mul ⟨1, 10⟩) then s.learnFail d 3
      else s.learnPhase d (fun x => { x with stroke := wi (s.doorPos d), iqSum := 0 })
    | 5 => s.learnOk d
    | _ => s :=
  (if_neg (by omega)).trans (if_pos h8)

theorem State.stallEffect_first (h : (s.door d).phase = 1) : s.stallEffect d = (s.doorRef d).learnPhase d id := by
  rw [State.stallEffect_learning h8]
  simp only [h]

theorem State.stallEffect_short (h : (s.door d).phase = 2) (hshort : (Num.int (s.doorPos d)).lt (((s.door d).par 4).mul ⟨1, 10⟩) = true) :
    s.stallEffect d = s.learnFail d 3 := by
  rw [State.stallEffect_learning h8, h]
  exact if_pos hshort

theorem State.stallEffect_long (h : (s.door d).phase = 2) (hlong : (Num.int (s.doorPos d)).lt (((s.door d).par 4).mul ⟨1, 10⟩) = false) :
    s.stallEffect d = s.learnPhase d (fun x => { x with stroke := wi (s.doorPos d), iqSum := 0 }) := by
  rw [State.stallEffect_learning h8, h]
  exact if_neg (Bool.eq_false_iff.1 hlong)

theorem State.stallEffect_last (h : (s.door d).phase = 5) : s.stallEffect d = s.learnOk d := by
  rw [State.stallEffect_learning h8]
  simp only [h]

theorem State.stallEffect_between (h1 : (s.door d).phase ≠ 1) (h2 : (s.door d).phase ≠ 2) (h5 : (s.door d).phase ≠ 5) : s.stallEffect d = s := by
  rw [State.stallEffect_learning h8]
  split
  case h_1 h => exact absurd h h1
  case h_2 h => exact absurd h h2
  case h_3 h => exact absurd h h5
  case h_4 => rfl

end

end

@[simp] theorem State.learnPhase_regs (s : State) (d : Nat) (f : DoorSt → DoorSt) : (s.learnPhase d f).regs = s.regs := s.setDoor_regs d _

theorem State.learnPhase_doorState (s : State) (d : Nat) (f : DoorSt → DoorSt) : (s.learnPhase d f).doorState d = s.doorState d :=
  State.fld_of_regs (s.learnPhase_regs d f) _ 3 0

theorem State.learnPhase_door (s : State) {d : Nat} (f : DoorSt → DoorSt) (hd : d < 16) :
    (s.learnPhase d f).door d = { f (s.door d) with phase := (f (s.door d)).phase + 1, periods := 0, stallAt := none } := s.door_setDoor_same _ hd

/-- The first stall of a run sets the reference, and the run goes on. -/
theorem State.learnStarted (s : State) {d : Nat} (hd : d < 16) : let t := (s.doorRef d).learnPhase d id
    t.doorState d = s.doorState d ∧ (t.door d).phase = (s.door d).phase + 1 ∧ t.rd (Reg.LIFT_DOOR_REF d) = s.opPos d ∧ t.refLost d = false ∧
      t.now = s.now := by
  have hdoor : (s.doorRef d).door d = s.door d := State.door_of_lift (s.doorRef_lift d) d
  refine ⟨(State.learnPhase_doorState _ d id).trans (s.doorRef_doorState d), ?_, ?_, ?_, congrArg BitVec.toNat ?_⟩
  · rw [State.learnPhase_door _ _ hd, hdoor, id]
  · rw [State.learnPhase, State.rd_setDoor, s.doorRef_ref]
  · rw [State.learnPhase, State.refLost_setDoor, s.doorRef_refLost]
  · rw [State.learnPhase, State.setDoor_cnt, s.doorRef_cnt]

/-! ### Timeouts (R174, R179) -/

theorem exec_homingTimeout_due {s : State} {door : Fin 16} (h : s.doorState door.val = 9) : exec (.homingTimeout door) s =
    .next (s.doorNoted ((s.advanceTo ((s.door door.val).since + 60 * 250000000)).doorEnter door.val 7) door.val) :=
  congrArg Host.Outcome.next (if_pos h)

theorem exec_learnTimeout_due {s : State} {door : Fin 16} (h : s.doorState door.val = 8) : exec (.learnTimeout door) s =
    .next (s.doorNoted ((s.advanceTo ((s.door door.val).since + 60 * 250000000)).learnFail door.val 2) door.val) :=
  congrArg Host.Outcome.next (if_pos h)

/-! ### The obligation -/

/-- Settles O29, part by part: taking charge, commands, the ends of a movement, the holds, stalls and the timeouts. -/
theorem doorSequencers : Obligations.DoorSequencers := by
  refine ⟨fun _ => rfl, fun s d => ⟨State.doorPeriod_idle, fun hl hcfg hen hready hst => ?charge⟩, fun s door => ?command, fun s door => ?reached,
    fun s d => ⟨s.closedNow_iff d, s.openNow_iff d⟩, fun s d => ?holds, fun s door => ?stall, fun s door => ?timeouts⟩
  case charge => exact ⟨_, State.doorPeriod_takes hl hcfg hen hready hst, s.doorTake_taken d.isLt⟩
  case command =>
    intro d i x cmd st
    have hd := door.isLt
    refine ⟨fun hold => ?old, fun hst hseq => ⟨fun hcmd => ?none, fun hcmd hnext => ?ignored, fun nx hcmd hnext => ?accepted⟩⟩
    case old =>
      have heq : s.doorCommand d = s := State.doorCommand_old hold
      exact congrArg Host.Outcome.next (by rw [heq, State.doorNoted_same rfl])
    case none =>
      have heq : s.doorNoted (s.doorCommand d) d = s.seqTaken d (s.pointWord i 6) := by
        rw [State.doorCommand_none hst hseq hcmd]
        exact State.doorNoted_same (s.doorState_setDoor _ _ _)
      exact congrArg Host.Outcome.next heq
    case ignored =>
      have hstate : ((s.seqTaken d (s.pointWord i 6)).setBit (Reg.LIFT_DOOR_STAT d) 5 true).doorState d = s.doorState d :=
        State.fld_setBit_apart _ _ _ _ _ _ (by omega) (by omega)
      have heq : s.doorNoted (s.doorCommand d) d = (s.seqTaken d (s.pointWord i 6)).setBit (Reg.LIFT_DOOR_STAT d) 5 true := by
        rw [State.doorCommand_ignored hst hseq hcmd hnext]
        exact State.doorNoted_same hstate
      exact ⟨_, congrArg Host.Outcome.next heq, State.setBit_onlyRegs _ _ _ _, State.bit_setBit_same _ _ _ _ (by omega), hstate⟩
    case accepted =>
      obtain ⟨hne, hlt⟩ := doorNext_changes hnext
      have htaken : s.CommandTaken d (s.pointWord i 6) nx (s.doorCommand d) := by
        rw [State.doorCommand_accepted hst hseq hcmd hnext]
        exact s.seqTaken_commandTaken _ hd hlt
      obtain ⟨hseq', hstate, hresult, hsince, hpoints⟩ := htaken
      have hchanged : (s.doorCommand d).doorState d ≠ s.doorState d := by
        rw [hstate]
        split
        case isTrue h8 => rw [h8]; decide
        case isFalse => exact hne
      exact ⟨_, congrArg Host.Outcome.next (State.doorNoted_changed hchanged), _, rfl, hseq', hstate, hresult, hsince, hpoints⟩
  case reached =>
    intro d
    have hd := door.isLt
    refine ⟨fun h => congrArg Host.Outcome.next (State.closedReached_idle h), fun at_ hnow hat hlt => ?closed,
      fun h => congrArg Host.Outcome.next (State.openReached_idle h), fun at_ hnow hat hlt => ?opened⟩
    all_goals
      obtain ⟨k, hk, htime⟩ := s.advanceTo_atCount hlt
    case closed =>
      have henter := (s.atCount k).doorEnter_entered hd (st := 1) (by omega)
      obtain ⟨hcount, hobstructed⟩ := (s.atCount k).doorEnter_closed_clears hd
      have hchanged : ((s.atCount k).doorEnter d 1).doorState d ≠ s.doorState d := by
        have := ((s.closedNow_iff d).1 hnow).1
        rw [henter.state]; omega
      have heq := State.closedReached_enters hat hnow
      rw [hk, State.doorNoted_changed hchanged] at heq
      exact ⟨_, congrArg Host.Outcome.next heq, _, rfl, henter.now.trans htime, henter.state, hcount, hobstructed, henter.since.trans henter.now.symm,
        henter.points⟩
    case opened =>
      have henter := (s.atCount k).doorEnter_entered hd (st := 3) (by omega)
      have hchanged : ((s.atCount k).doorEnter d 3).doorState d ≠ s.doorState d := by
        have := ((s.openNow_iff d).1 hnow).1
        rw [henter.state]; omega
      have hregs : ∀ a, a ≠ Reg.LIFT_DOOR_STAT d → ((s.atCount k).doorEnter d 3).rd a = s.rd a := fun a ha => by
        rw [State.doorEnter_other _ _ (by omega) (by omega)]
        exact State.doorBegun_rd _ 3 ha
      have heq := State.openReached_enters hat hnow
      rw [hk, State.doorNoted_changed hchanged] at heq
      exact ⟨_, congrArg Host.Outcome.next heq, _, rfl, henter.now.trans htime, henter.state, henter.since.trans henter.now.symm, hregs, henter.points⟩
  case holds =>
    have hdoor := s.door_setDoor_same (d := d.val)
    refine ⟨?_, ?_, ?_⟩ <;> rw [State.doorHolds, hdoor _ d.isLt]
  case stall =>
    intro d ph
    have hd := door.isLt
    refine ⟨fun h => congrArg Host.Outcome.next (State.doorStall_idle h), fun at_ hstalled hat hlt => ?_⟩
    intro after
    obtain ⟨k, hk, htime⟩ := s.advanceTo_atCount hlt
    have heq := State.doorStall_acts hat hstalled
    rw [hk] at heq
    have hnone : (s.atCount k).stallEffect d = s.atCount k → Completes (.doorStall door) s (fun t => after t ∧ t = { s with cnt := t.cnt }) := fun h => by
      rw [h, State.doorNoted_same (s.doorState_atCount k d)] at heq
      exact ⟨_, congrArg Host.Outcome.next heq, htime, rfl⟩
    refine ⟨fun h8 h9 => hnone (State.stallEffect_none h8 h9), fun h9 => ?homing, fun h8 => ?learning⟩
    case homing =>
      obtain ⟨hstate, href, hlost, hpoints, hnow⟩ := (s.atCount k).homed hd
      rw [State.stallEffect_homing (s := s.atCount k) h9, State.doorNoted_changed (by rw [hstate, h9]; decide)] at heq
      exact ⟨_, congrArg Host.Outcome.next heq, _, rfl, hnow.trans htime, hstate, href, hlost, hpoints⟩
    case learning =>
      have h8' : (s.atCount k).doorState d = 8 := h8
      refine ⟨fun h1 => ?first, fun h2 hshort => ?short, fun h2 hlong => ?long, fun h5 => ?last, fun h1 h2 h5 => hnone (State.stallEffect_between h8' h1 h2 h5)⟩
      case first =>
        obtain ⟨hstate, hphase, href, hlost, hnow⟩ := (s.atCount k).learnStarted hd
        rw [State.stallEffect_first h8' h1, State.doorNoted_same (s := s) hstate] at heq
        exact ⟨_, congrArg Host.Outcome.next heq, hnow.trans htime, hstate.trans h8, hphase.trans (congrArg (· + 1) h1), href, hlost⟩
      case short =>
        have hend := (s.atCount k).learnFail_ended hd (r := 3) (by omega)
        rw [State.stallEffect_short h8' h2 hshort, State.doorNoted_changed (by rw [hend.state, h8]; decide)] at heq
        exact ⟨_, congrArg Host.Outcome.next heq, _, rfl, hend.now.trans htime, hend.state, hend.result, hend.mass hd, hend.points⟩
      case long =>
        have hstate : ((s.atCount k).learnPhase d _).doorState d = s.doorState d := State.learnPhase_doorState (s.atCount k) d
          (fun x => { x with stroke := wi ((s.atCount k).doorPos d), iqSum := 0 })
        have hdoor := (s.atCount k).learnPhase_door (fun x => { x with stroke := wi ((s.atCount k).doorPos d), iqSum := 0 }) hd
        rw [State.stallEffect_long h8' h2 hlong, State.doorNoted_same hstate] at heq
        exact ⟨_, congrArg Host.Outcome.next heq, htime, hstate.trans h8, by rw [hdoor]; exact congrArg (· + 1) h2, by rw [hdoor]; rfl, State.learnPhase_regs _ _ _⟩
      case last =>
        obtain ⟨hstate, hresult, hlearned, hlost, hmass, hfriction, hopen, hpoints, hcnt⟩ := (s.atCount k).learnOk_succeeds hd
        rw [State.stallEffect_last h8' h5, State.doorNoted_changed (by rw [hstate, h8]; decide)] at heq
        exact ⟨_, congrArg Host.Outcome.next heq, _, rfl, (congrArg BitVec.toNat hcnt).trans htime, hstate, hresult, hlearned, hlost, hmass, hfriction, hopen,
          hpoints⟩
  case timeouts =>
    intro d due
    have hd := door.isLt
    refine ⟨fun h => congrArg Host.Outcome.next (if_neg h), fun h9 hdue => ?homing, fun h => congrArg Host.Outcome.next (if_neg h), fun h8 hdue => ?learning⟩
    all_goals
      obtain ⟨k, hk, htime⟩ := s.advanceTo_atCount hdue
    case homing =>
      have henter := (s.atCount k).doorEnter_entered hd (st := 7) (by omega)
      have heq : exec (.homingTimeout door) s = .next (s.doorNoted ((s.advanceTo due).doorEnter d 7) d) := exec_homingTimeout_due h9
      rw [hk, State.doorNoted_changed (by rw [henter.state, h9]; decide)] at heq
      exact ⟨_, heq, _, rfl, henter.state, henter.now.trans htime, henter.points⟩
    case learning =>
      have hend := (s.atCount k).learnFail_ended hd (r := 2) (by omega)
      have heq : exec (.learnTimeout door) s = .next (s.doorNoted ((s.advanceTo due).learnFail d 2) d) := exec_learnTimeout_due h8
      rw [hk, State.doorNoted_changed (by rw [hend.state, h8]; decide)] at heq
      exact ⟨_, heq, _, rfl, hend.state, hend.result, hend.now.trans htime, hend.mass hd, hend.points⟩

end Sys2Proof.Machine
end
